-- ==== Sys2Proof/Word.lean ====
section
/-! DEFINITION. The word types of the block and the plainest operations on fields of a word (R17). -/

namespace Sys2Proof

/-- One byte. -/
abbrev Byte := BitVec 8

/-- One register word of the host port (R19). -/
abbrev Word := BitVec 32

/-- `bitsOf w lo len`: the unsigned value of the field `w[lo+len-1:lo]` (R17). -/
def bitsOf (w lo len : Nat) : Nat := (w >>> lo) % 2 ^ len

/-- Bit `n` of `w` (R17). -/
def bitAt (w n : Nat) : Bool := w.testBit n

/-- One bit as a number. -/
def b2n (b : Bool) : Nat := if b then 1 else 0

/-- Two's complement reading of the low `len` bits of `v`. -/
def sextOf (v len : Nat) : Int :=
  let u := v % 2 ^ len
  if u < 2 ^ (len - 1) then (u : Int) else (u : Int) - (2 ^ len : Int)

/-- Two's complement writing of `v` over `len` bits. -/
def twos (v : Int) (len : Nat) : Nat := (v % (2 ^ len : Int)).toNat

/-- A counter that saturates at the largest value of `len` bits (R191 and its like: "counters saturate"). -/
def satAdd (len v k : Nat) : Nat := min (v + k) (2 ^ len - 1)

end Sys2Proof
end

