-- ==== Sys2Proof/Syntax.lean ====
section
/-! DEFINITION. The commands the block takes: one constructor of `Instr` per row of spec/opcode_table.json, in the
table's order, with its operands. The table gives its rows no bits, so an operand is what the rules of spec/ say the
outside world brings with the step: an access on the host port (R97, R98), a word on a bus, a level on a pin, a
measured figure, a fault that the storage or a macro shows. -/

namespace Sys2Proof

/-- The attributes of one host access: hst_sec and the two parity bits as received (R62, R98). -/
structure HostAcc where
  sec  : Bool
  apar : Bool
  wpar : Bool
  deriving DecidableEq, Repr

/-- The two mailbox channels (R420): the secure page MBS and the non-secure page MBN. -/
inductive Chan where
  | mbs
  | mbn
  deriving DecidableEq, Repr

/-- A direction of the frame ring (R74, R376). -/
inductive Dir where
  | east
  | west
  deriving DecidableEq, Repr

/-- The bus a Kazsin frame is heard on: tre_up (from the parent) or tre_dn (from a child) (R401). -/
inductive TreBus where
  | up
  | dn
  deriving DecidableEq, Repr

/-- The parity verdicts of the storage words an admission step reads: the tally row and the B_booked counter, each
true when every attempt failed (R167, R169). -/
structure AdmFaults where
  row : Bool
  cnt : Bool
  deriving DecidableEq, Repr

/-- What one control sample shows beside the latched telemetry: the rails whose states were not committed in time
(R244), the commit instant of step 6 in ns (R245), and the rail and index of a coefficient word that failed parity
and its single replay (R249). -/
structure SampleObs where
  late     : List (Fin 16)
  commitNs : Nat
  coefBad  : List (Fin 16 × BitVec 8)
  deriving DecidableEq, Repr

/-- A thermal sensor's answer in a sweep: its calibrated sample in 1/64 °C, or why there is none (R282, R284). -/
inductive TempSample where
  | ok (t : Int)
  | parity
  | unreachable
  deriving DecidableEq, Repr

/-- The result of a housekeeping slot's read (R287): a value, or a failure of its replays. A core or monitor value is
in the unit of R287; a self-test or read-back carries its verdict in the value (1 pass, 0 fail; the code read). In a
threshold slot, `storage` says that the round's check finds the detector's stored stretch mask or threshold code faulty
(R206); in any other slot it is as `failed`. -/
inductive HkRead where
  | value (v : Int)
  | failed
  | unreachable
  | storage
  deriving DecidableEq, Repr

/-- What an evaluation of the forecaster meets (R271, R273): the byte offset of a weight word that failed its second
read, or nothing. -/
structure EvalObs where
  weightBad : Option Nat
  deriving DecidableEq, Repr

/-- The outcome of a PMBus transaction (R362): data with a good PEC, the 64 bytes of an EEPROM slot (R367), a PEC mismatch,
or no acknowledge. -/
inductive PmbResult where
  | data (w : BitVec 16)
  | slot (bytes : Vector Byte 64)
  | pecBad
  | nack
  deriving DecidableEq, Repr

/-- One scrub read's finding (R484): a clean row, a word that a later attempt delivered, or a word that failed all its
attempts: its place among the 16 words of the row, or among the 16 tally rows of a group; `again` says that it failed on
its first use after a restore. -/
inductive ScrubObs where
  | clean
  | replayed
  | bad (word : BitVec 4) (again : Bool)
  deriving DecidableEq, Repr

/-- The result of the start-up self-test (R459). -/
structure SelfTestObs where
  rows       : Nat
  rowsLost   : List (BitVec 13)
  lanesBad   : List (Fin 18)
  detsBad    : List (Fin 72)
  sensorsBad : List (Fin 30)
  beyond     : List Nat
  deriving DecidableEq, Repr

/-- The strap pins as sampled at a cold exit (R80's table of straps, R81). -/
structure Straps where
  dieKind  : Bool
  framePos : BitVec 5
  below    : BitVec 5
  netCd    : BitVec 5
  d2dCd    : BitVec 5
  netPd    : BitVec 6
  d2dPd    : BitVec 6
  bootDom  : BitVec 50
  vboot    : Vector (BitVec 16) 16
  fboot    : BitVec 5
  stackMask : BitVec 12
  treEn    : Bool
  rckEn    : Bool
  pmbEn    : Bool
  deriving DecidableEq, Repr

/-- The ceilings of one rail in the fuse array (R194). -/
structure FuseRail where
  iCeil : BitVec 12
  vMax  : BitVec 8
  vMin  : BitVec 8
  dtMin : BitVec 8
  smask : BitVec 25
  deriving DecidableEq, Repr

/-- The fuse array as read back at a cold exit (R91, R194): its fields and the verdict of each region's CRC. -/
structure Fuses where
  dieId    : BitVec 64
  fuseLock : Bool
  rail     : Vector FuseRail 16
  pDie     : BitVec 16
  pPkg     : BitVec 16
  tTrip    : BitVec 8
  tRate    : BitVec 8
  tStack   : BitVec 8
  boFrac   : BitVec 4
  boThr    : BitVec 4
  layout   : BitVec 8
  ceilCrc  : Bool
  trimCrc  : Bool
  repairCrc : Bool
  key      : Vector (BitVec 256) 4
  keyCrc   : Vector Bool 4
  rckPidHi : BitVec 16
  deriving DecidableEq, Repr

/-- A Kazsin frame between its SFD and its CRC (R402). -/
structure KFrame where
  hdr     : BitVec 16
  payload : BitVec 32
  ctrLo   : BitVec 16
  mac     : BitVec 128
  deriving DecidableEq, Repr

/-- The commands of the block: the rows of spec/opcode_table.json. -/
inductive Instr where
  /-- REGISTER_WRITE (R103). -/
  | registerWrite (addr : BitVec 15) (data : Word) (acc : HostAcc)
  /-- INT_PAR (R113): the word at `addr` failed parity; `again` when on its first use after a restore (R480). -/
  | intPar (addr : BitVec 15) (again : Bool)
  /-- PAGE_LOCK_WRITE (R116). -/
  | pageLockWrite (page : Fin 23) (data : Word) (acc : HostAcc)
  /-- TLY_ROW_SEL_WRITE (R114). -/
  | tlyRowSelWrite (data : Word) (acc : HostAcc)
  /-- FCS_WADDR_WRITE (R115). -/
  | fcsWaddrWrite (data : Word) (acc : HostAcc)
  /-- FCS_WDATA_WRITE (R115). -/
  | fcsWdataWrite (data : Word) (acc : HostAcc)
  /-- AUT_WCHK_MAC3_WRITE (R119). -/
  | autWchkMac3Write (data : Word) (acc : HostAcc)
  /-- PENDING_CHECK_DISCARD (R120). -/
  | pendingCheckDiscard
  /-- HS_LOGMUTE_END (R436). -/
  | hsLogmuteEnd
  /-- SEQ_HOST_CAP_WRITE (R118). -/
  | seqHostCapWrite (data : Word) (acc : HostAcc)
  /-- BEAM_HLIM_WRITE (R198). -/
  | beamHlimWrite (rail : Fin 16) (data : Word) (acc : HostAcc)
  /-- BEAM_TEST_DETECTOR (R220), kind 1. -/
  | beamTestDetector (target : BitVec 8) (acc : HostAcc)
  /-- BEAM_TEST_CURRENT (R220), kind 2. -/
  | beamTestCurrent (target : BitVec 8) (acc : HostAcc)
  /-- BEAM_TEST_VOLTAGE (R220), kind 3. -/
  | beamTestVoltage (target : BitVec 8) (acc : HostAcc)
  /-- BEAM_TEST_DIE_POWER (R220), kind 4. -/
  | beamTestDiePower (acc : HostAcc)
  /-- BEAM_TEST_TEMPERATURE (R220), kind 5. -/
  | beamTestTemperature (acc : HostAcc)
  /-- BEAM_TEST_BROWN_OUT (R220), kind 6. -/
  | beamTestBrownOut (acc : HostAcc)
  /-- BEAM_TEST_ALL (R220), kind 7. -/
  | beamTestAll (acc : HostAcc)
  /-- BEAM_TEST_COMPLETE (R220): the first failing kind and target, if any. -/
  | beamTestComplete (fail : Option (BitVec 4 × BitVec 8))
  /-- DOM_FORCE_ON (R331). -/
  | domForceOn (dom : BitVec 6) (acc : HostAcc)
  /-- DOM_FORCE_OFF (R331). -/
  | domForceOff (dom : BitVec 6) (acc : HostAcc)
  /-- CLK_FORCE_SRC_WRITE (R340). -/
  | clkForceSrcWrite (data : Word) (acc : HostAcc)
  /-- SPARE_SUBST_DETECTOR (R493). -/
  | spareSubstDetector (index : BitVec 12) (acc : HostAcc)
  /-- SPARE_RESTORE_DETECTOR (R493). -/
  | spareRestoreDetector (index : BitVec 12) (acc : HostAcc)
  /-- SPARE_SUBST_SENSOR (R493). -/
  | spareSubstSensor (index : BitVec 12) (acc : HostAcc)
  /-- SPARE_RESTORE_SENSOR (R493). -/
  | spareRestoreSensor (index : BitVec 12) (acc : HostAcc)
  /-- SPARE_SUBST_LANE (R493). -/
  | spareSubstLane (index : BitVec 12) (acc : HostAcc)
  /-- SPARE_RESTORE_LANE (R493). -/
  | spareRestoreLane (index : BitVec 12) (acc : HostAcc)
  /-- SPARE_SUBST_PHASE (R493). -/
  | spareSubstPhase (index : BitVec 12) (acc : HostAcc)
  /-- SPARE_RESTORE_PHASE (R493). -/
  | spareRestorePhase (index : BitVec 12) (acc : HostAcc)
  /-- SPARE_RESTORE_AGEING (R493). -/
  | spareRestoreAgeing (index : BitVec 12) (acc : HostAcc)
  /-- SPARE_CMD_COMPLETE (R493): whether the item passed its test. -/
  | spareCmdComplete (pass : Bool)
  /-- EVT_ERASE (R518). -/
  | evtErase (acc : HostAcc)
  /-- ERASE_COMPLETE (R518). -/
  | eraseComplete
  /-- PMB_HOST_SEND_BYTE (R366). -/
  | pmbHostSendByte (slot : BitVec 3) (cmd : BitVec 8) (data : BitVec 16) (acc : HostAcc)
  /-- PMB_HOST_WRITE_BYTE (R366). -/
  | pmbHostWriteByte (slot : BitVec 3) (cmd : BitVec 8) (data : BitVec 16) (acc : HostAcc)
  /-- PMB_HOST_WRITE_WORD (R366). -/
  | pmbHostWriteWord (slot : BitVec 3) (cmd : BitVec 8) (data : BitVec 16) (acc : HostAcc)
  /-- PMB_HOST_READ_WORD (R366). -/
  | pmbHostReadWord (slot : BitVec 3) (cmd : BitVec 8) (data : BitVec 16) (acc : HostAcc)
  /-- LRST_REQ (R460): a write of 1 to PAGE_CTRL.LRST_REQ of a page. -/
  | lrstReq (page : Fin 23) (acc : HostAcc)
  /-- LRST_COMPLETE (R460): page index p of R461; `idle` when the sub-block went idle before its timeout. -/
  | lrstComplete (p : Fin 8) (idle : Bool)
  /-- SEQ_LOAD (R462). -/
  | seqLoad (acc : HostAcc)
  /-- SEQ_COMMIT (R467). -/
  | seqCommit (acc : HostAcc)
  /-- COMMIT_END (R467): the commit's duration in µs. -/
  | commitEnd (us : Nat)
  /-- SEQ_ACTIVATE (R469). -/
  | seqActivate (acc : HostAcc)
  /-- SEQ_ABORT (R471). -/
  | seqAbort (acc : HostAcc)
  /-- ACTIVATION_TIMEOUT (R470). -/
  | activationTimeout
  /-- WEIGHT_COPY_COMPLETE (R272). -/
  | weightCopyComplete
  /-- OBSERVER_COPY_COMPLETE (R293). -/
  | observerCopyComplete
  /-- MAILBOX_IN_WRITE (R420). -/
  | mailboxInWrite (ch : Chan) (k : Fin 8) (data : Word) (acc : HostAcc)
  /-- PING (R421). -/
  | ping (ch : Chan)
  /-- QUERY (R421). -/
  | query (ch : Chan)
  /-- MAILBOX_BAD_OP (R421). -/
  | mailboxBadOp (ch : Chan)
  /-- OUT_POP (R423). -/
  | outPop (ch : Chan) (data : Word) (acc : HostAcc)
  /-- BLOCK_WRITE (R427). -/
  | blockWrite (ch : Chan) (acc : HostAcc)
  /-- BLOCK_READ (R427). -/
  | blockRead (ch : Chan) (acc : HostAcc)
  /-- BLOCK_TRANSFER_DONE (R427): whether the staging read failed parity after its replays. -/
  | blockTransferDone (ch : Chan) (parBad : Bool)
  /-- BLK_ADDR_WRITE (R427). -/
  | blkAddrWrite (ch : Chan) (data : Word) (acc : HostAcc)
  /-- HEARTBEAT (R428). -/
  | heartbeat (data : Word) (acc : HostAcc)
  /-- HEARTBEAT_LOSS (R429). -/
  | heartbeatLoss
  /-- EVT_RD_SEL_WRITE (R520). -/
  | evtRdSelWrite (data : Word) (acc : HostAcc)
  /-- EVT_FREEZE (R514): a write of EVT_CFG with FREEZE at 1. -/
  | evtFreeze (data : Word) (acc : HostAcc)
  /-- EVT_UNFREEZE (R514): a write of EVT_CFG with MODE and FREEZE at 0. -/
  | evtUnfreeze (data : Word) (acc : HostAcc)
  /-- TRC_POP (R525). -/
  | trcPop (data : Word) (acc : HostAcc)
  /-- REQUEST (R130). -/
  | request (word : BitVec 64) (faults : AdmFaults)
  /-- RELEASE (R147). -/
  | release (word : BitVec 64) (faults : AdmFaults)
  /-- TRANSFER (R148). -/
  | transfer (word : BitVec 64) (faults : AdmFaults)
  /-- BAD_TYPE (R124). -/
  | badType (word : BitVec 64)
  /-- ADMISSION_WORD_PARITY_FAULT (R131). -/
  | admissionWordParityFault (word : BitVec 64) (par : BitVec 2)
  /-- ADM_OUT_TRANSFER (R534). -/
  | admOutTransfer
  /-- ARM_LAPSE (R137). -/
  | armLapse (row : Fin 8192)
  /-- QUAR_EXPIRY (R164). -/
  | quarExpiry (row : Fin 8192)
  /-- EPOCH_BOUNDARY (R180). -/
  | epochBoundary
  /-- BASELINE_SAMPLE (R173): the physical rows whose write and read-back of R168 failed. -/
  | baselineSample (readBackBad : List (Fin 8192))
  /-- BOUNDARY_TIMEOUT (R389). -/
  | boundaryTimeout
  /-- CONTROL_SAMPLE (R242). -/
  | controlSample (obs : SampleObs)
  /-- COEF_RESTORE_COMPLETE (R249). -/
  | coefRestoreComplete (rail : Fin 16) (index : BitVec 8)
  /-- LANE_RETIRE (R246): the physical lane whose third attempt failed. -/
  | laneRetire (lane : Fin 18)
  /-- DROOP_DETECT (R202). -/
  | droopDetect (d : Fin 72)
  /-- DROOP_PERSISTENCE (R204). -/
  | droopPersistence (r : Fin 16)
  /-- DROOP_PERSISTENCE_END (R204). -/
  | droopPersistenceEnd (r : Fin 16)
  /-- STRETCH_HOLD_END (R185). -/
  | stretchHoldEnd (r : Fin 16)
  /-- DETECTOR_SPARE_JOIN (R491): spare j, and whether its threshold read back as written. -/
  | detectorSpareJoin (j : Fin 8) (pass : Bool)
  /-- VRG_FLT_CHANGE (R211). -/
  | vrgFltChange (r : Fin 16) (level : Bool)
  /-- EMERGENCY_ENTRY (R213). -/
  | emergencyEntry
  /-- EMERGENCY_EXIT (R213). -/
  | emergencyExit
  /-- EMERGENCY_RAMP_STEP (R213). -/
  | emergencyRampStep
  /-- PERSISTENT_OVERLOAD (R214). -/
  | persistentOverload
  /-- BROWN_OUT_WARNING (R218). -/
  | brownOutWarning
  /-- BROWN_OUT_RECOVERY (R218): the dip duration in µs, rounded up. -/
  | brownOutRecovery (dipUs : Nat)
  /-- BROWN_OUT_HOLD_END (R218). -/
  | brownOutHoldEnd
  /-- BROWN_OUT_RAMP_STEP (R218). -/
  | brownOutRampStep
  /-- FORECASTER_EVALUATION (R262). -/
  | forecasterEvaluation (obs : EvalObs)
  /-- FORECASTER_OUTPUT_LATCH (R267): step 4 after the tick, in ns. -/
  | forecasterOutputLatch (ns : Nat)
  /-- DEADLINE_MISS (R268). -/
  | deadlineMiss
  /-- WEIGHT_RESTORE_COMPLETE (R273). -/
  | weightRestoreComplete
  /-- ARRAY_SELF_TEST_TILE (R492): the lane and whether the tile's result was right. -/
  | arraySelfTestTile (lane : Fin 18) (pass : Bool)
  /-- THERMAL_SWEEP (R282). -/
  | thermalSweep
  /-- SWEEP_CALIBRATION_DONE (R282): the 30 sensors' answers and the duration in 10 ns. -/
  | sweepCalibrationDone (samples : Vector TempSample 30) (dur : Nat)
  /-- HOT_BAND_END (R300). -/
  | hotBandEnd
  /-- ORDERLY_FORCE_OFF (R302). -/
  | orderlyForceOff
  /-- SHUTDOWN_COMPLETE (R302). -/
  | shutdownComplete
  /-- STACK_BAND_RELAX (R308). -/
  | stackBandRelax (k : Fin 12)
  /-- RESTART_HOLD_COMPLETE (R305). -/
  | restartHoldComplete
  /-- OBSERVER_STEP (R291): the index of a coefficient word that failed parity and its replay, if any. -/
  | observerStep (coefBad : Option (BitVec 14))
  /-- OBSERVER_STEP_COMPLETE (R294): step 3 after the tick, in ns. -/
  | observerStepComplete (ns : Nat)
  /-- OBSERVER_REENABLE (R296). -/
  | observerReenable
  /-- HOUSEKEEPING_SLOT (R287): what the present slot's channel reads. -/
  | housekeepingSlot (rd : HkRead)
  /-- HOUSEKEEPING_ROUND_END (R289). -/
  | housekeepingRoundEnd
  /-- CORE_RANGE_END (R36). -/
  | coreRangeEnd
  /-- BELOW_LOST (R289). -/
  | belowLost
  /-- DOM_WAKE_INPUT (R318). -/
  | domWakeInput (d : Fin 50) (level : Bool)
  /-- WAKE_START (R322). -/
  | wakeStart
  /-- DOM_PG_CHANGE (R321). -/
  | domPgChange (d : Fin 50) (level : Bool)
  /-- WAKE_FAIL (R323). -/
  | wakeFail (d : Fin 50)
  /-- WAKE_MAIN_SWITCH (R321). -/
  | wakeMainSwitch (d : Fin 50)
  /-- WAKE_POWER_SETTLED (R321). -/
  | wakePowerSettled (d : Fin 50)
  /-- WAKE_COMPLETE (R321). -/
  | wakeComplete (d : Fin 50)
  /-- SLEEP_START (R325). -/
  | sleepStart (d : Fin 50)
  /-- IDLE_ACK (R325). -/
  | idleAck (d : Fin 50)
  /-- IDLE_TO (R326). -/
  | idleTo (d : Fin 50)
  /-- SAVE_COMPLETE (R325). -/
  | saveComplete (d : Fin 50)
  /-- SLEEP_SWITCH_OFF (R325). -/
  | sleepSwitchOff (d : Fin 50)
  /-- BOOT_DOMAIN_PG_TIMEOUT (R477). -/
  | bootDomainPgTimeout (d : Fin 50)
  /-- CROSSING_TIMEOUT (R59). -/
  | crossingTimeout (c : Fin 25)
  /-- CROSSING_RESUME (R59). -/
  | crossingResume (c : Fin 25)
  /-- CLOCK_CODE_CHANGE (R337). -/
  | clockCodeChange (c : Fin 25)
  /-- XTAL_AMP_LOSS (R340). -/
  | xtalAmpLoss
  /-- XTAL_SELECT (R340). -/
  | xtalSelect
  /-- SOURCE_SELECTION_FORCED (R341): the handshake events counted. -/
  | sourceSelectionForced (events : Nat)
  /-- VRG_TRANSACTION_START (R351). -/
  | vrgTransactionStart
  /-- VRG_ACK (R350): the time from the booking change in ns. -/
  | vrgAck (ns : Nat)
  /-- VRG_ACK_TIMEOUT (R354). -/
  | vrgAckTimeout
  /-- VRG_RDY (R352). -/
  | vrgRdy (r : Fin 16) (level : Bool)
  /-- TELEMETRY_WORD (R357): a word of rail r with its parity bit; `replay` when RESEND brought it. -/
  | telemetryWord (r : Fin 16) (d : BitVec 24) (par : Bool) (replay : Bool)
  /-- BLIND_MODE_ENTRY (R487). -/
  | blindModeEntry (r : Fin 16)
  /-- BLIND_MODE_END (R489). -/
  | blindModeEnd (r : Fin 16)
  /-- POLL_ROUND (R362). -/
  | pollRound
  /-- PMBUS_TRANSACTION_DONE (R362). -/
  | pmbusTransactionDone (res : PmbResult)
  /-- SMBUS_TIMEOUT (R362). -/
  | smbusTimeout
  /-- PMB_ALERT (R365): the address read from the Alert Response Address and the device's STATUS_WORD. -/
  | pmbAlert (addr : BitVec 7) (status : BitVec 16)
  /-- ALERT_MUTE_END (R365). -/
  | alertMuteEnd
  /-- COUNTER_PERSIST (R369). -/
  | counterPersist
  /-- FRM_IDLE (R375). -/
  | frmIdle (dir : Dir) (m : BitVec 128)
  /-- FRM_LANE (R379). -/
  | frmLane (dir : Dir) (m : BitVec 128)
  /-- FRM_HELLO (R383). -/
  | frmHello (dir : Dir) (m : BitVec 128)
  /-- FRM_FORMED (R383). -/
  | frmFormed (dir : Dir) (m : BitVec 128)
  /-- FRM_LINK (R396). -/
  | frmLink (dir : Dir) (m : BitVec 128)
  /-- FRM_BOUNDARY (R388). -/
  | frmBoundary (dir : Dir) (m : BitVec 128)
  /-- FRM_SHARE (R393). -/
  | frmShare (dir : Dir) (m : BitVec 128)
  /-- FRM_SHARE_ACK (R393). -/
  | frmShareAck (dir : Dir) (m : BitVec 128)
  /-- FRM_DEMAND (R390). -/
  | frmDemand (dir : Dir) (m : BitVec 128)
  /-- FRM_CAP (R391). -/
  | frmCap (dir : Dir) (m : BitVec 128)
  /-- FRM_ASK (R175). -/
  | frmAsk (dir : Dir) (m : BitVec 128)
  /-- FRM_LOAN (R176). -/
  | frmLoan (dir : Dir) (m : BitVec 128)
  /-- FRM_THERMAL (R289). -/
  | frmThermal (dir : Dir) (m : BitVec 128)
  /-- FRM_INPUT (R363). -/
  | frmInput (dir : Dir) (m : BitVec 128)
  /-- FRM_CTR_ID (R369). -/
  | frmCtrId (dir : Dir) (m : BitVec 128)
  /-- FRM_CTR_DATA (R369). -/
  | frmCtrData (dir : Dir) (m : BitVec 128)
  /-- FRM_CTR_STAT (R369). -/
  | frmCtrStat (dir : Dir) (m : BitVec 128)
  /-- FRM_RETRY_TIMEOUT (R378). -/
  | frmRetryTimeout (dir : Dir)
  /-- LINK_SILENCE (R380). -/
  | linkSilence (dir : Dir)
  /-- HELLO_BROADCAST (R383). -/
  | helloBroadcast
  /-- FORMATION_DECIDE (R383). -/
  | formationDecide
  /-- DEMAND_SEND (R390). -/
  | demandSend
  /-- LOAN_ASK_TIMEOUT (R175). -/
  | loanAskTimeout
  /-- HELD_SHARE_FREE (R397). -/
  | heldShareFree (m : Fin 24)
  /-- ISOLATION_CUT (R398). -/
  | isolationCut
  /-- TRE_SYNC (R405). -/
  | treSync (bus : TreBus) (f : KFrame)
  /-- TRE_SYNC_ACK (R405). -/
  | treSyncAck (bus : TreBus) (f : KFrame)
  /-- TRE_HELLO (R405). -/
  | treHello (bus : TreBus) (f : KFrame)
  /-- TRE_IDENT (R405). -/
  | treIdent (bus : TreBus) (f : KFrame)
  /-- TRE_POLL (R406). -/
  | trePoll (bus : TreBus) (f : KFrame)
  /-- TRE_DEMAND (R410). -/
  | treDemand (bus : TreBus) (f : KFrame)
  /-- TRE_BUDGET (R408). -/
  | treBudget (bus : TreBus) (f : KFrame)
  /-- TRE_CUT (R407). -/
  | treCut (bus : TreBus) (f : KFrame)
  /-- TREE_POLL_SEND (R406). -/
  | treePollSend
  /-- TREE_NO_REPLY (R409). -/
  | treeNoReply (p : Fin 16)
  /-- PARENT_LOST (R409). -/
  | parentLost
  /-- PORT_HOLD_EXPIRY (R409). -/
  | portHoldExpiry (p : Fin 16)
  /-- TRE_MUTE_END (R411): port 0 to 15, or 16 for the parent. -/
  | treMuteEnd (sender : Fin 17)
  /-- TRE_LINK_FAILED (R412). -/
  | treLinkFailed
  /-- RACK_HELLO (R439). -/
  | rackHello (bytes : Vector Byte 38)
  /-- CAP_SET (R442). -/
  | capSet (bytes : Vector Byte 38)
  /-- CAP_CLEAR (R442). -/
  | capClear (bytes : Vector Byte 38)
  /-- RACK_STATUS (R439). -/
  | rackStatus (bytes : Vector Byte 38)
  /-- RACK_EVENTS (R439). -/
  | rackEvents (bytes : Vector Byte 38)
  /-- RACK_BAD_REQ (R440): the bytes of a private write of any length. -/
  | rackBadReq (bytes : List Byte)
  /-- RACK_MUTE_END (R440). -/
  | rackMuteEnd
  /-- RACK_REPLY_READY (R438). -/
  | rackReplyReady
  /-- RACK_REPLY_READ (R438). -/
  | rackReplyRead
  /-- ENTDAA (R437): the address the controller assigns. -/
  | entdaa (addr : BitVec 7)
  /-- SETDASA (R437): the static address named and the address assigned. -/
  | setdasa (saddr : BitVec 7) (addr : BitVec 7)
  /-- RSTDAA (R437). -/
  | rstdaa
  /-- ENEC (R437): the events byte. -/
  | enec (events : Byte)
  /-- DISEC (R437): the events byte. -/
  | disec (events : Byte)
  /-- SETMWL (R437). -/
  | setmwl (len : BitVec 16)
  /-- SETMRL (R437). -/
  | setmrl (len : BitVec 16)
  /-- GETMWL (R437). -/
  | getmwl
  /-- GETMRL (R437). -/
  | getmrl
  /-- GETPID (R437). -/
  | getpid
  /-- GETBCR (R437). -/
  | getbcr
  /-- GETDCR (R437). -/
  | getdcr
  /-- GETSTATUS (R437). -/
  | getstatus
  /-- OTHER_CCC (R437): the code; direct codes have bit 7 set. -/
  | otherCcc (code : Byte)
  /-- POR_ASSERT (R451). -/
  | porAssert
  /-- POR_RELEASE (R457): the straps and the fuse array as sampled and read. -/
  | porRelease (straps : Straps) (fuses : Fuses)
  /-- RST_N_ASSERT (R453). -/
  | rstNAssert
  /-- RST_N_RELEASE (R458). -/
  | rstNRelease
  /-- STARTUP_SELFTEST_COMPLETE (R459). -/
  | startupSelftestComplete (obs : SelfTestObs)
  /-- ANCHOR_TIMEOUT (R434). -/
  | anchorTimeout
  /-- VIO_LOW (R89). -/
  | vioLow
  /-- VIO_RESTORE (R89). -/
  | vioRestore
  /-- SCRUB_READ (R484). -/
  | scrubRead (obs : ScrubObs)
  /-- EVENT_RECORD_WRITE (R509). -/
  | eventRecordWrite
  /-- SUPPRESSION_SUMMARY (R515). -/
  | suppressionSummary
  /-- RAIL_SUMMARY (R524). -/
  | railSummary
  /-- REGISTER_READ (R97). -/
  | registerRead (addr : BitVec 15) (acc : HostAcc)
  /-- CLK_GEN_OK_LOW (R334). -/
  | clkGenOkLow (c : Fin 25)
  /-- DROOP_RELEASE (R202). -/
  | droopRelease (d : Fin 72)
  /-- TRAINING_WORD (R375): per physical lane, whether the received word compared right. -/
  | trainingWord (dir : Dir) (good : BitVec 5)
  /-- FRM_CRC_ERR (R377). -/
  | frmCrcErr (dir : Dir)
  /-- TRE_CRC_ERR (R403). -/
  | treCrcErr (bus : TreBus)
  /-- LINK_RESPONSE_TIMEOUT (R86): the ring and the macro position that did not answer. -/
  | linkResponseTimeout (ring : Fin 3) (pos : BitVec 8)
  /-- SECOND_WAVE (R386). -/
  | secondWave
  deriving DecidableEq, Repr

end Sys2Proof
end

