-- ==== Sys2Proof/Decode.lean ====
section
/-! DEFINITION. The table of commands gives no row any bits, so no word spells a command. -/

namespace Sys2Proof

/-- The command that a word spells by the table's bits. spec/opcode_table.json gives its rows none: the block takes its
commands from its ports, pins and timers, each with the operands of its constructor. [DESIGN CHOICE, log entry 6] -/
def decodeTableWord (_nbits _w : Nat) : Option Instr := none

end Sys2Proof
end

