-- ==== Sys2Proof/Config.lean ====
section
/-! DEFINITION. What the spec leaves open as a value: an opaque constant with no body, applied to the count of free
values the step has taken (see the assumption log). No proof can see what it is. -/

namespace Sys2Proof.Config

/-- The n-th free value: a number the spec does not fix. -/
opaque freeValue : Nat → Nat

/-- The n-th free signed value. -/
opaque freeInt : Nat → Int

end Sys2Proof.Config
end

