-- ==== Sys2Proof/Machine/Crypto.lean ====
section
/-! DEFINITION. The checks that the spec names: CRC-8 (R506), CRC-16 (R376, R438), CRC-32 (R403) and
HMAC-SHA-256 (R29, R119, R404, R438, R466), over lists of bytes held as numbers. -/

namespace Sys2Proof.Machine

/-- The `n` bytes of `v`, least significant first. -/
def bytesLE : Nat → Nat → List Nat
  | 0, _ => []
  | n + 1, v => v % 256 :: bytesLE n (v / 256)

/-- The number whose bytes, least significant first, are given. -/
def ofBytesLE : List Nat → Nat
  | [] => 0
  | b :: bs => b % 256 + 256 * ofBytesLE bs

/-- One bit of a CRC that shifts toward the most significant bit, over `len` bits. -/
def crcStepMsb (len poly c : Nat) : Nat :=
  if c.testBit (len - 1) then ((c <<< 1) % 2 ^ len) ^^^ poly else (c <<< 1) % 2 ^ len

/-- One byte of a CRC that shifts toward the most significant bit. -/
def crcByteMsb (len poly c b : Nat) : Nat :=
  let c := c ^^^ ((b % 256) <<< (len - 8))
  (List.range 8).foldl (fun c _ => crcStepMsb len poly c) c

/-- CRC-8: polynomial 0x07, initial value 0, no final inversion (R506). -/
def crc8 (bs : List Nat) : Nat := bs.foldl (crcByteMsb 8 0x07) 0

/-- CRC-16: polynomial 0x1021, initial value 0xFFFF (R376, R438). -/
def crc16 (bs : List Nat) : Nat := bs.foldl (crcByteMsb 16 0x1021) 0xFFFF

/-- One bit of the reflected CRC-32 of R403. -/
def crc32Bit (c : Nat) : Nat := if c.testBit 0 then (c >>> 1) ^^^ 0xEDB88320 else c >>> 1

/-- One byte of the reflected CRC-32, over the running register. -/
def crc32Byte (c b : Nat) : Nat := (List.range 8).foldl (fun c _ => crc32Bit c) (c ^^^ (b % 256))

/-- A running CRC-32 is kept with its final inversion applied (0 before the first byte); more bytes extend it (R115,
R427). -/
def crc32Ext (c : Nat) (bs : List Nat) : Nat := (bs.foldl crc32Byte (c ^^^ 0xFFFFFFFF)) ^^^ 0xFFFFFFFF

/-- CRC-32: polynomial 0x04C1_1DB7 reflected, initial value 0xFFFF_FFFF, final inversion (R403). -/
def crc32 (bs : List Nat) : Nat := crc32Ext 0 bs

/-- Rotate right over 32 bits. -/
def rotr32 (n x : Nat) : Nat := (x >>> n) ||| ((x <<< (32 - n)) % 2 ^ 32)

/-- The 64 round constants of SHA-256. -/
def sha256K : List Nat :=
  [0x428a2f98, 0x71374491, 0xb5c0fbcf, 0xe9b5dba5, 0x3956c25b, 0x59f111f1, 0x923f82a4, 0xab1c5ed5,
   0xd807aa98, 0x12835b01, 0x243185be, 0x550c7dc3, 0x72be5d74, 0x80deb1fe, 0x9bdc06a7, 0xc19bf174] ++
  [0xe49b69c1, 0xefbe4786, 0x0fc19dc6, 0x240ca1cc, 0x2de92c6f, 0x4a7484aa, 0x5cb0a9dc, 0x76f988da,
   0x983e5152, 0xa831c66d, 0xb00327c8, 0xbf597fc7, 0xc6e00bf3, 0xd5a79147, 0x06ca6351, 0x14292967] ++
  [0x27b70a85, 0x2e1b2138, 0x4d2c6dfc, 0x53380d13, 0x650a7354, 0x766a0abb, 0x81c2c92e, 0x92722c85,
   0xa2bfe8a1, 0xa81a664b, 0xc24b8b70, 0xc76c51a3, 0xd192e819, 0xd6990624, 0xf40e3585, 0x106aa070] ++
  [0x19a4c116, 0x1e376c08, 0x2748774c, 0x34b0bcb5, 0x391c0cb3, 0x4ed8aa4a, 0x5b9cca4f, 0x682e6ff3,
   0x748f82ee, 0x78a5636f, 0x84c87814, 0x8cc70208, 0x90befffa, 0xa4506ceb, 0xbef9a3f7, 0xc67178f2]

/-- The initial hash value of SHA-256. -/
def sha256H0 : List Nat :=
  [0x6a09e667, 0xbb67ae85, 0x3c6ef372, 0xa54ff53a, 0x510e527f, 0x9b05688c, 0x1f83d9ab, 0x5be0cd19]

/-- The message schedule, newest word first: `k` more words than the 16 given. -/
def sha256Sched : Nat → List Nat → List Nat
  | 0, ws => ws
  | k + 1, ws =>
    let w2 := ws.getD 1 0
    let w15 := ws.getD 14 0
    let s0 := rotr32 7 w15 ^^^ rotr32 18 w15 ^^^ (w15 >>> 3)
    let s1 := rotr32 17 w2 ^^^ rotr32 19 w2 ^^^ (w2 >>> 10)
    sha256Sched k (((s1 + ws.getD 6 0 + s0 + ws.getD 15 0) % 2 ^ 32) :: ws)

/-- One round of SHA-256 on the working variables a to h. -/
def sha256Round (h : List Nat) (kw : Nat × Nat) : List Nat :=
  match h with
  | [a, b, c, d, e, f, g, h] =>
    let s1 := rotr32 6 e ^^^ rotr32 11 e ^^^ rotr32 25 e
    let ch := (e &&& f) ^^^ ((e ^^^ 0xFFFFFFFF) &&& g)
    let t1 := h + s1 + ch + kw.1 + kw.2
    let s0 := rotr32 2 a ^^^ rotr32 13 a ^^^ rotr32 22 a
    let mj := (a &&& b) ^^^ (a &&& c) ^^^ (b &&& c)
    [(t1 + s0 + mj) % 2 ^ 32, a, b, c, (d + t1) % 2 ^ 32, e, f, g]
  | h => h

/-- One 64-byte block of SHA-256. -/
def sha256Block (h : List Nat) (ws : List Nat) : List Nat :=
  let w := (sha256Sched 48 ws.reverse).reverse
  let h' := (sha256K.zip w).foldl sha256Round h
  (h.zip h').map fun p => (p.1 + p.2) % 2 ^ 32

/-- Four bytes, most significant first. -/
def be32 (bs : List Nat) : Nat := bs.foldl (fun a b => a * 256 + b % 256) 0

/-- The words of a padded message, block by block. -/
def sha256Blocks : Nat → List Nat → List Nat → List Nat
  | 0, _, h => h
  | k + 1, bs, h =>
    let blk := bs.take 64
    let ws := (List.range 16).map fun i => be32 ((blk.drop (4 * i)).take 4)
    sha256Blocks k (bs.drop 64) (sha256Block h ws)

/-- SHA-256 of a list of bytes, as 32 bytes. -/
def sha256 (bs : List Nat) : List Nat :=
  let n := bs.length
  let z := (119 - n % 64) % 64
  let p := bs ++ [0x80] ++ List.replicate z 0 ++ (bytesLE 8 (8 * n)).reverse
  (sha256Blocks (p.length / 64) p sha256H0).flatMap fun w => (bytesLE 4 w).reverse

/-- HMAC-SHA-256 under a key of 32 bytes. -/
def hmac (key msg : List Nat) : List Nat :=
  let k := key ++ List.replicate (64 - key.length) 0
  sha256 (k.map (· ^^^ 0x5c) ++ sha256 (k.map (· ^^^ 0x36) ++ msg))

/-- The first 128 bits of HMAC-SHA-256 (R29), byte 0 least significant. -/
def hmac128 (key msg : List Nat) : Nat := ofBytesLE ((hmac key msg).take 16)

/-- A fuse key slot as its 32 bytes, byte 0 the least significant (R91). -/
def keyBytes (k : BitVec 256) : List Nat := bytesLE 32 k.toNat

end Sys2Proof.Machine
end

