-- ==== Sys2Proof/Machine/State.lean ====
section
/-! DEFINITION. The state of one instance: one structure per register page, in the manual's names (R19, R94), each with
the state of its sub-block that a rule names but no register shows; the header fields of every page (R107); the staging
memory (R427); the host port's last response (R97); the timekeeper's count of ticks (R38); the count of free values
taken; and the queue of commands. A field's default is its Cold value (R24). -/

namespace Sys2Proof.Machine

open Sys2Proof

/-- No strap has been sampled yet: State.reset lies before step 1 of a cold exit (R457). [DESIGN CHOICE, log entry 3] -/
def Straps.none : Straps :=
  { dieKind := false, framePos := 0, below := 0, netCd := 0, d2dCd := 0, netPd := 0, d2dPd := 0, bootDom := 0,
    vboot := Vector.replicate 16 0, fboot := 0, stackMask := 0, treEn := false, rckEn := false, pmbEn := false }

/-- No fuse has been read yet. [DESIGN CHOICE, log entry 3] -/
def Fuses.blank : Fuses :=
  { dieId := 0, fuseLock := false, rail := Vector.replicate 16 ⟨0, 0, 0, 0, 0⟩, pDie := 0, pPkg := 0, tTrip := 0,
    tRate := 0, tStack := 0, boFrac := 0, boThr := 0, layout := 0, ceilCrc := false, trimCrc := false,
    repairCrc := false, key := Vector.replicate 4 0, keyCrc := Vector.replicate 4 false, rckPidHi := 0 }

/-- The CMN page: its registers (R111), and the state of its sub-block that the named rules give. -/
structure Cmn where
  PORT_ERR_CNT_WPAR_CNT : Nat := 0
  PORT_ERR_CNT_APAR_CNT : Nat := 0
  straps : Straps := Straps.none
  fuses : Fuses := Fuses.blank
  deriving DecidableEq, Repr, Inhabited

/-- The part of the instance state below the causes of R45. -/
inductive SeqBase where
  | safe
  | loading
  | running
  deriving DecidableEq, Repr, Inhabited

/-- The SEQ page: its registers (R476), and the state of its sub-block that the named rules give. -/
structure Seq where
  STATE_LIVE_LOAD : Bool := false
  STATE_HB_SUP : Bool := false
  STATE_ACT_PEND : Bool := false
  STATE_COMMITTED : Bool := false
  STATE_C_ORPHAN : Bool := false
  DRV_VER : Nat := 0
  CMD_ST_OP : Nat := 0
  CMD_ST_ST : Nat := 0
  ACT_ST_EPOCH : Nat := 0
  ACT_ST_ST : Nat := 0
  ACT_TIMEOUT : Nat := 1000
  HOST_CAP : Nat := 0
  IMG_ID : Nat := 0
  IMG_PEND : Nat := 0
  COMMIT_T : Nat := 0
  CNT_ACTS : Nat := 0
  CNT_REFUSED : Nat := 0
  /-- SAFE, LOADING or past an activation (R44); the causes above it are recorded apart (R45) -/
  base : SeqBase := .safe
  /-- the instance is in TRIPPED (R44) -/
  tripped : Bool := false
  /-- the state the last 0x0110 record showed (R477) -/
  shown : Nat := 0
  /-- tick of the ACTIVATE write (R470) -/
  actAt : Nat := 0
  /-- the deferral of R470 has been reported -/
  deferred : Bool := false
  /-- a load refused by R470 in EMERGENCY: LOADING passes to SAFE when it ends -/
  abandon : Bool := false
  /-- a reactivation after a trip waits for its boundary (R44, R470) -/
  react : Bool := false
  /-- the code of the event that ended the hold (R304, R532) -/
  reactBy : Nat := 0
  /-- an image is active -/
  imgOn : Bool := false
  deriving DecidableEq, Repr, Inhabited

/-- The registers of the TLY page that repeat, one element each (R189). -/
structure TlyRail where
  BOOK_BOOKED : Nat := 0
  BASE_BFAULT : Bool := false
  BASE_BASE : Nat := 0
  ROD : Nat := 0
  HARV_STRETCHES : Nat := 0
  HARV_PREV_UNANN : Bool := false
  HARV_UNANN : Bool := false
  HARV_HARV : Bool := false
  /-- beads of its live rows at the boundary instant, while B_booked is frozen (R164) -/
  sumBnd : Nat := 0
  /-- B_booked is held by a counter fault (R169) -/
  cntStuck : Bool := false
  /-- bookings made on the rail -/
  bookSeq : Nat := 0
  /-- bookings that the last acknowledged target covers (R135) -/
  ackSeq : Nat := 0
  /-- I_meas at 1.50 µs after the boundary, mA (R173) -/
  base1 : Option Nat := none
  /-- I_meas at 1.75 µs -/
  base2 : Option Nat := none
  /-- policing cap of the rail (R157) -/
  pol : Nat := 15
  /-- lowest policing cap reached -/
  polLow : Nat := 15
  /-- consecutive samples over tolerance -/
  polOver : Nat := 0
  /-- consecutive samples within it -/
  polUnder : Nat := 0
  /-- the rail is unannounced now (R157) -/
  isUn : Bool := false
  /-- a stretch hold runs (R185) -/
  holdOn : Bool := false
  /-- 0x0314 recorded in the epoch -/
  countHit : Bool := false
  deriving DecidableEq, Repr, Inhabited

/-- The TLY page: its registers (R189), and the state of its sub-block that the named rules give. -/
structure Tly where
  EPOCH_LEN : Nat := 1024
  EPOCH_GOV : Bool := false
  EPOCH_DRAIN : Bool := false
  EPOCH_NUM : Nat := 0
  ROWCAP_SPARE_FREE : Nat := 256
  ROWCAP_USABLE : Nat := 8192
  STALE_CNT : Nat := 0
  FAULT_CNT_SPARED : Nat := 0
  FAULT_CNT_FAULTED : Nat := 0
  ROW_SEL_SPARE : Bool := false
  ROW_SEL_SEL : Nat := 0
  ROW_LO : Nat := 0
  ROW_HI : Nat := 0
  ROW_STAT_PHYS : Nat := 0
  ROW_STAT_MAPPED : Bool := false
  ROW_STAT_STALE : Bool := false
  ROW_STAT_PFAULT : Bool := false
  ROW_STAT_EPOCH : Nat := 0
  LAST_PEAK : Nat := 0
  LAST_GRANTS : Nat := 0
  AUDIT_EPOCH : Nat := 0
  AUDIT_MISMATCH : Bool := false
  AUDIT_UNK : Nat := 0
  /-- tick of the last boundary instant (R189) -/
  bndAt : Nat := 0
  /-- epoch length in force, µs (R189) -/
  lenInForce : Nat := 1024
  /-- no announcement has been received since the reset (R179) -/
  ownCount : Bool := true
  /-- the stored words of the logical rows, by index (R162); a row not listed reads 0 -/
  rows : List (Nat × Nat) := []
  /-- rows below it have been granted since the last reset, or passed over as LOST (R165) -/
  fresh : Nat := 0
  /-- rows that became FREE later, in that order (R165) -/
  freed : List Nat := []
  /-- logical rows in LOST (R163) -/
  lost : List Nat := []
  /-- logical rows on spares: row, spare (R161) -/
  maps : List (Nat × Nat) := []
  /-- spares taken so far (R168) -/
  spNext : Nat := 0
  /-- FREE or QUAR rows that the scrubber found faulty (R484) -/
  badFree : List Nat := []
  /-- rows that entered FAULT in the epoch (R168) -/
  faulted : List Nat := []
  /-- GRANTED: tick after the one at which the GRANT left; QUAR: tick after the one of its retirement (R137, R164) -/
  timer : List (Nat × Nat) := []
  /-- booking number of each GRANTED row on its rail, from 1 (R135) -/
  seqNo : List (Nat × Nat) := []
  /-- rows whose GRANT carries ARMED and has not left (R136) -/
  armedQ : List Nat := []
  /-- rows whose ARM word is queued (R163) -/
  armQ : List Nat := []
  /-- grants of the epoch -/
  grants : Nat := 0
  /-- most live rows of the epoch -/
  peak : Nat := 0
  /-- policing has a baseline since the activation (R159) -/
  polOn : Bool := false
  /-- an activation waits for its first boundary (R159) -/
  actPol : Bool := false
  /-- rows whose GRANT has not left and whose request carried DUR 1 to 5 (R261) -/
  durShort : List Nat := []
  rail : Vector TlyRail 16 := Vector.replicate 16 {}
  deriving DecidableEq, Repr, Inhabited

/-- A word that waits in the inbound buffer of the admission port (R64). -/
structure InWord where
  word : BitVec 64
  par  : Option (BitVec 2)
  rowF : Bool
  cntF : Bool
  deriving DecidableEq, Repr, Inhabited

/-- A word that waits for adm_out (R534), with the row whose state changes when it leaves. -/
structure OutWord where
  word : BitVec 64
  row  : Option Nat
  deriving DecidableEq, Repr, Inhabited

/-- The registers of the ADM page that repeat, one element each (R191). -/
structure AdmRef where
  REF_CNT : Nat := 0
  deriving DecidableEq, Repr, Inhabited

/-- The registers of the ADM page that repeat, one element each (R191). -/
structure AdmRail where
  RAIL_W : Nat := 0
  RAIL_TOL : Nat := 0
  RAIL_HEN : Bool := false
  RAIL_BSZ : Nat := 0
  deriving DecidableEq, Repr, Inhabited

/-- The ADM page: its registers (R191), and the state of its sub-block that the named rules give. -/
structure Adm where
  POLICY_STRETCH_LIM : Nat := 0
  POLICY_BACKOFF : Nat := 0
  SHARE : Nat := 0
  LOAN_IN : Nat := 0
  LOAN_OUT : Nat := 0
  LOAN_KEEP : Nat := 0
  LOAN_ASK : Nat := 0
  PORT_INBUF_PEAK : Nat := 0
  GRANT_CNT : Nat := 0
  NONOWN_CNT : Nat := 0
  DOMRET_CNT : Nat := 0
  LOAN_CNT_DISC : Nat := 0
  LOAN_CNT_LENT : Nat := 0
  /-- the inbound buffer, oldest first (R64) -/
  inQ : List InWord := []
  /-- decided words that wait for adm_out, oldest first (R534) -/
  outQ : List OutWord := []
  /-- the word last transferred on adm_out -/
  lastOut : BitVec 64 := 0
  /-- its parity bits (R124) -/
  lastPar : BitVec 2 := 0
  /-- tick of the ask that is outstanding (R175) -/
  askAt : Option Nat := none
  /-- the next ask goes west (R175) -/
  askDir : Bool := false
  /-- PSEQ of the next ask -/
  askSeq : Nat := 0
  ref : Vector AdmRef 18 := Vector.replicate 18 {}
  rail : Vector AdmRail 16 := Vector.replicate 16 {}
  deriving DecidableEq, Repr, Inhabited

/-- One response that lowers a ceiling (R209, R211): whether it is in force, its ceiling, the consecutive samples toward
its trigger and toward its release. -/
structure Resp where
  on  : Bool := false
  rc  : Nat := 15
  run : Nat := 0
  rel : Nat := 0
  deriving DecidableEq, Repr, Inhabited

/-- The registers of the BEAM page that repeat, one element each (R222). -/
structure BeamRail where
  HLIM : Nat := 0
  RSTAT_VMIN_EFF : Nat := 0
  RSTAT_VMAX_EFF : Nat := 0
  /-- the responses: 0 droop persistence, then the kinds 1 to 7 of event 0x0411 (R223) -/
  resp : Vector Resp 8 := Vector.replicate 8 {}
  /-- lowest RC reached in the episode (R223) -/
  rcLow : Nat := 15
  /-- consecutive samples more than 50 mV above V_MAX_eff (R214) -/
  ov50 : Nat := 0
  /-- I_pre: the effective current of the sources but the brown-out, 100 mA (R218) -/
  iPre : Nat := 0
  /-- I_lim presented to admission, 100 mA (R198, R219) -/
  iAdm : Nat := 0
  /-- the image rail current cap, 100 mA; 0 = no value -/
  imgI : Nat := 0
  /-- DSET_IMG of the active image (R200) -/
  imgDset : Nat := 0
  /-- the image V_MAX; 255 = no value -/
  imgVmax : Nat := 255
  /-- the image V_MIN; 0 = no value -/
  imgVmin : Nat := 0
  /-- tick since which the OR of its detectors is high (R204) -/
  orAt : Option Nat := none
  /-- tick at which that OR last fell, or rose while it is high (R204) -/
  lastHigh : Option Nat := none
  /-- ticks of the stretches of the last 16 µs (R204) -/
  strAt : List Nat := []
  /-- the cause of droop persistence is present (R204) -/
  persist : Bool := false
  /-- power of the last 400 delivered samples, nW, newest first (R488) -/
  pHist : List Nat := []
  deriving DecidableEq, Repr, Inhabited

/-- The registers of the BEAM page that repeat, one element each (R222). -/
structure BeamDet where
  DD_CODE_IMG : Nat := 0
  DD_SERVES : Nat := 127
  DD_FAILED : Bool := false
  DD_SUBST : Bool := false
  DDX : Nat := 0
  DDCNT : Nat := 0
  /-- comparator output (R202) -/
  out : Bool := false
  /-- consecutive samples asserted against the telemetry (R205) -/
  stuck : Nat := 0
  /-- spares: primary that waits for this spare to join; 127 = none (R491) -/
  want : Nat := 127
  /-- its stored stretch mask or threshold code failed parity and is not restored yet (R206) -/
  maskBad : Bool := false
  deriving DecidableEq, Repr, Inhabited

/-- The BEAM page: its registers (R222), and the state of its sub-block that the named rules give. -/
structure Beam where
  STATE_BO_STEP : Nat := 0
  STATE_BUILTIN : Bool := false
  STATE_TRIP_LATCH : Bool := false
  STATE_BO_RAMP : Bool := false
  STATE_BO : Bool := false
  CAUSE_TRIP_SRC : Nat := 0
  CAUSE_TRIP_CAUSE : Nat := 0
  CAUSE_EMG_SRC : Nat := 0
  CAUSE_EMG_CAUSE : Nat := 0
  EMG_CNT_TRIPS : Nat := 0
  EMG_CNT_EMERGENCIES : Nat := 0
  BO_BO_CNT : Nat := 0
  BO_LAST_US : Nat := 0
  DIE_EFF_RATE_EFF : Nat := 0
  DIE_EFF_TRIP_EFF : Nat := 0
  PDIE : Nat := 0
  TEST_CTRL_START : Bool := false
  TEST_CTRL_KIND : Nat := 0
  TEST_CTRL_TARGET : Nat := 0
  TEST_STAT_FAIL_IDX : Nat := 0
  TEST_STAT_PASS : Bool := false
  TEST_STAT_DONE : Bool := false
  /-- the beam holds the die: steps 2 to 6 of R213 -/
  inEmg : Bool := false
  /-- the die power response; rc is DC (R211) -/
  die : Resp := {}
  /-- lowest DC reached -/
  dcLow : Nat := 15
  /-- P_pre, 100 mW (R218) -/
  pPre : Nat := 0
  /-- the image die power cap, 100 mW; 0 = no value -/
  imgP : Nat := 0
  /-- the image T_TRIP, °C; 0 = no value -/
  imgTrip : Nat := 0
  /-- the image T_RATE; 0 = no value -/
  imgRate : Nat := 0
  /-- the image T_STACK; 0 = no value -/
  imgStack : Nat := 0
  /-- T_STACK_eff, °C -/
  stackEff : Nat := 0
  /-- tick of the recovery, or of the end of the hold (R218) -/
  boAt : Nat := 0
  /-- the 100 µs hold of R218 runs -/
  boHold : Bool := false
  /-- the EMERGENCY term of the beam ceilings (R213) -/
  emgTerm : Nat := 15
  /-- tick of the entry to EMERGENCY -/
  emgAt : Nat := 0
  /-- tick since which every EMERGENCY cause is absent -/
  emgGone : Option Nat := none
  /-- tick of the last step of the EMERGENCY term -/
  emgStep : Nat := 0
  /-- tick since which a cause of R213 holds the ceiling of a domain at 0 -/
  floorAt : Vector (Option Nat) 25 := Vector.replicate 25 none
  /-- the self-test in progress: kind and target (R220) -/
  test : Option (Nat × Nat) := none
  rail : Vector BeamRail 16 := Vector.replicate 16 {}
  det : Vector BeamDet 72 := Vector.replicate 72 {}
  deriving DecidableEq, Repr, Inhabited

/-- The registers of the CTL page that repeat, one element each (R255). -/
structure CtlRail where
  CFG_SLEW : Nat := 0
  CFG_RHO_LIM : Nat := 0
  CFG_OUT_T : Bool := false
  CFG_FCS_EN : Bool := false
  CFG_XFER : Bool := false
  CFG_NSTATE : Nat := 0
  LIM_G_FULL : Nat := 0
  LIM_G_HARV : Nat := 0
  LIM_DMAX : Int := 0
  LIM_DMIN : Int := 0
  LIN : Nat := 0
  TGT : Nat := 0
  CMD_V_CMD : Nat := 0
  OUT_NEUTRAL : Bool := false
  OUT_CAUSE : Nat := 0
  OUT_CLAMP_T : Bool := false
  OUT_CLAMP_V : Bool := false
  OUT_LEVEL : Nat := 0
  OUT_OFFSET : Int := 0
  ICMD_FCS_USED : Bool := false
  ICMD_I_CMD : Nat := 0
  RES_NEUT_CNT : Nat := 0
  RES_SAT_CNT : Nat := 0
  RES_RHO : Int := 0
  /-- the states of the law, Q10.22 (R224) -/
  x : Vector Int 8 := Vector.replicate 8 0
  /-- the inputs frozen at the last tick, Q10.22 (R242) -/
  z : Vector Int 4 := Vector.replicate 4 0
  /-- the raw outputs of the last sample, Q10.22 (R224) -/
  v : Vector Int 2 := Vector.replicate 2 0
  /-- the applied offset of the last sample, Q10.22 (R237) -/
  u0 : Int := 0
  /-- consecutive samples with a saturated state (R231) -/
  satRun : Nat := 0
  /-- consecutive overruns (R244) -/
  ovrRun : Nat := 0
  /-- counted samples over the residual limit in a row (R250) -/
  rhoRun : Nat := 0
  /-- consecutive samples with a held input (R242) -/
  holdRun : Nat := 0
  /-- bit c: neutral cause c of R248 is recorded -/
  causes : Nat := 0
  /-- samples spent in neutral mode -/
  neutN : Nat := 0
  /-- cause 4 was entered in this epoch (R250) -/
  rhoNow : Bool := false
  /-- consecutive epochs before this one with an entry of cause 4 -/
  rhoEp : Nat := 0
  deriving DecidableEq, Repr, Inhabited

/-- The CTL page: its registers (R255), and the state of its sub-block that the named rules give. -/
structure Ctl where
  MU_ACTIVE : Nat := 16
  MU_SPARE_FREE : Nat := 2
  MU_LANES : Nat := 0
  SAMPLE_MAX : Nat := 0
  SAMPLE_LAST : Nat := 0
  OVR_CNT : Nat := 0
  VIN_CFG : Nat := 0
  NEUTRAL_LOCKED : Nat := 0
  NEUTRAL_NEUTRAL : Nat := 0
  BANK_PENDING : Bool := false
  BANK_ACTIVE : Bool := false
  COEF_SEL_RAIL : Nat := 0
  COEF_SEL_BANK : Bool := false
  COEF_SEL_INDEX : Nat := 0
  X_SEL_RAIL : Nat := 0
  X_SEL_IDX : Nat := 0
  /-- coefficients of bank 0: 144 × rail + index, 24 bits; one not listed is 0 (R227) -/
  bank0 : List (Nat × Nat) := []
  /-- coefficients of bank 1 -/
  bank1 : List (Nat × Nat) := []
  /-- coefficients of the active bank that await their restore: rail, index (R249) -/
  coefBad : List (Nat × Nat) := []
  /-- coefficients restored and not yet used again -/
  restored : List (Nat × Nat) := []
  /-- the banks swap at the next tick (R252) -/
  swapDue : Bool := false
  /-- the laws ran at the last tick (R241) -/
  run : Bool := false
  /-- consecutive late commits (R245) -/
  marginRun : Nat := 0
  /-- largest commit of that run, ns -/
  marginMax : Nat := 0
  /-- the input voltage was stale at the last tick (R236) -/
  vinStale : Bool := false
  /-- clock domains stretched since the last tick (R250) -/
  strSeen : Nat := 0
  /-- rails held since the last tick (R250) -/
  heldSeen : Nat := 0
  /-- physical lanes to retire at the next tick (R246) -/
  retireDue : List Nat := []
  rail : Vector CtlRail 16 := Vector.replicate 16 {}
  deriving DecidableEq, Repr, Inhabited

/-- An evaluation of the forecaster that has completed (R275): its tick and, per rail, ŷ_r,1 and ŷ_r,4 in beads. -/
structure FcsEval where
  at_ : Nat
  y1  : List Int
  y4  : List Int
  deriving DecidableEq, Repr, Inhabited

/-- The labels of a frame (R261, R275): the tick that ends it, x_0 of each rail, and the rails whose scoring on it is
skipped, as a mask. -/
structure FcsLabel where
  at_  : Nat
  x0   : List Int
  skip : Nat
  deriving DecidableEq, Repr, Inhabited

/-- The frame of the evaluation in progress (R261, R276): its tick, its features, its labels and what the trace record
says of it. -/
structure FcsFrame where
  at_   : Nat
  q     : List Int
  x0    : List Int
  out   : List Int
  flags : Nat
  held  : Nat
  str   : Nat
  epoch : Nat
  age   : Nat
  deriving DecidableEq, Repr, Inhabited

/-- The registers of the FCS page that repeat, one element each (R279). -/
structure FcsLayer where
  LAYER_A_SHIFT : Nat := 0
  LAYER_A_ACT : Bool := false
  LAYER_A_DLOG : Nat := 0
  LAYER_A_KM1 : Nat := 0
  LAYER_A_COUT : Nat := 0
  LAYER_A_CIN : Nat := 0
  LAYER_B_WOFF : Nat := 0
  LAYER_B_MULT : Nat := 0
  deriving DecidableEq, Repr, Inhabited

/-- The registers of the FCS page that repeat, one element each (R279). -/
structure FcsRail where
  RAIL_LOCKED : Bool := false
  RAIL_DRIFT : Bool := false
  RAIL_ERR_LIM : Nat := 0
  RAIL_OSH : Nat := 0
  OUT_G : Nat := 0
  OUT_Y1 : Int := 0
  HZ_Y16 : Int := 0
  HZ_Y4 : Int := 0
  DRIFT_DRIFT_CNT : Nat := 0
  DRIFT_EPOCHS : Nat := 0
  DRIFT_RUN : Nat := 0
  /-- ŷ_r,1 in force, beads (R267) -/
  y1Now : Int := 0
  /-- ĝ_r in force, mV -/
  gNow : Nat := 0
  /-- sum over the samples of the frame of the current over the armed books, mA (R261) -/
  accI : Int := 0
  /-- sum of z₀ over them -/
  accZ : Int := 0
  /-- sum of the targets T[c] over them and over DSET_IMG -/
  accT : Nat := 0
  /-- beads granted in the frame with DUR 1 to 5 -/
  nShort : Nat := 0
  /-- beads granted in it with any other DUR -/
  nLong : Nat := 0
  /-- beads that left the books in it -/
  nGone : Nat := 0
  /-- drift was entered in this epoch (R275) -/
  driftNow : Bool := false
  deriving DecidableEq, Repr, Inhabited

/-- The FCS page: its registers (R279), and the state of its sub-block that the named rules give. -/
structure Fcs where
  STAT_WARM_LEFT : Nat := 0
  STAT_FZ_CAUSE : Nat := 2
  STAT_RUNNING : Bool := false
  STAT_FZ : Bool := true
  MODEL_RF : Nat := 0
  MODEL_LAYERS : Nat := 0
  MACS : Nat := 0
  TIME_MAX : Nat := 0
  TIME_LAST : Nat := 0
  EVAL_CNT : Nat := 0
  MISS_CNT_WFAULT : Nat := 0
  MISS_CNT_MISS : Nat := 0
  FEAT : Nat := 0
  WADDR : Nat := 0
  WDATA : Nat := 0
  WCRC : Nat := 0
  WLOAD_CRC_FAIL : Bool := false
  WLOAD_RESTORE : Bool := false
  WLOAD_COPY : Bool := false
  IMG_CRC : Nat := 0
  TRC_CFG_GAP : Nat := 0
  TRC_CFG_WIN : Nat := 0
  TRC_CFG_EN : Bool := false
  TRC_STAT_WINDOWS : Nat := 0
  TRC_STAT_DROP : Nat := 0
  BIAS_SEL_LAYER : Nat := 0
  BIAS_SEL_CH : Nat := 0
  /-- the weight memory, bytes by offset (R265); a byte not listed is 0 -/
  wmem : List (Nat × Nat) := []
  /-- the bias memory: 512 × layer + channel, 32 bits -/
  bias : List (Nat × Nat) := []
  /-- the input vectors of each layer, newest first (R263) -/
  hist : Vector (List (List Int)) 6 := Vector.replicate 6 []
  /-- the evaluation in progress (R262) -/
  frame : Option FcsFrame := none
  /-- tick of the last evaluation tick (R261) -/
  lastAt : Nat := 0
  /-- the forecaster runs (R269) -/
  on : Bool := false
  /-- latched outputs that are not yet in force: the evaluation tick, ŷ_r,1 and ĝ_r of each rail (R267) -/
  next : Option (Nat × List Int × List Nat) := none
  /-- the evaluations of the last 5 µs, newest first (R275) -/
  evals : List FcsEval := []
  /-- the labels of the last 5 µs, newest first -/
  labels : List FcsLabel := []
  /-- evaluations on time still to come before a miss ends (R268) -/
  missLeft : Nat := 0
  /-- the bound of R268 exceeds 900 ns -/
  overBound : Bool := false
  /-- cause LRST stays until the weight copy after a block-local reset ends (R270, R272) -/
  lrstCopy : Bool := false
  /-- cause WEIGHT stays until the next activation (R272, R273) -/
  wStuck : Bool := false
  /-- byte offset of the weight word being restored (R273) -/
  badAt : Option Nat := none
  /-- byte offset of the word restored last and not yet used -/
  restoredAt : Option Nat := none
  /-- tick at which forced zero began (R270) -/
  fzAt : Nat := 0
  /-- rails held within the frame -/
  heldF : Nat := 0
  /-- clock domains stretched within the frame -/
  strF : Nat := 0
  /-- a drain window fell within the frame -/
  drainF : Bool := false
  /-- records left in the trace window (R277) -/
  winLeft : Nat := 0
  /-- SEQ of its next record -/
  winSeq : Nat := 0
  /-- records dropped in it -/
  winDrops : Nat := 0
  /-- a record was dropped since the last one sent -/
  winDropped : Bool := false
  /-- tick at which the present gap began -/
  gapAt : Option Nat := none
  /-- a window begins at the next evaluation tick -/
  winDue : Bool := false
  layer : Vector FcsLayer 6 := Vector.replicate 6 {}
  rail : Vector FcsRail 16 := Vector.replicate 16 {}
  deriving DecidableEq, Repr, Inhabited

/-- The registers of the THM page that repeat, one element each (R314). -/
structure ThmGrp where
  GRP_MAX : Int := 0
  GRP_RATE : Int := 0
  GRP_LIVE : Nat := 0
  GRP_LOST : Bool := false
  GRP_SHORT : Bool := false
  GRP_SPARE_IN : Bool := false
  GMAP_STK_V : Bool := false
  GMAP_STK : Nat := 0
  GMAP_DOMS : Nat := 0
  /-- M_g exists: a sweep with a live member since the reset -/
  valid : Bool := false
  /-- live members of the last sweep, bits 0 to 3 the primaries, bit 4 the spare (R283) -/
  members : Nat := 0
  /-- sweep tick of the last sample -/
  sweepAt : Nat := 0
  /-- M_g(n) − M_g(n − 1), 1/64, where the membership is the same (R283) -/
  diff : Option Int := none
  /-- consecutive sweeps at or above T_SHUT (R301) -/
  shutRun : Nat := 0
  /-- tick since which the dwell condition holds (R301) -/
  dwellAt : Option Nat := none
  /-- consecutive sweeps beyond INNOV_LIM (R296) -/
  innovRun : Nat := 0
  deriving DecidableEq, Repr, Inhabited

/-- The registers of the THM page that repeat, one element each (R314). -/
structure ThmRail where
  IHOT : Nat := 0
  /-- sum of the power of the control samples since the last observer tick, nW (R292) -/
  pAcc : Nat := 0
  /-- mean power up to the last observer tick, nW -/
  pMean : Nat := 0
  deriving DecidableEq, Repr, Inhabited

/-- The registers of the THM page that repeat, one element each (R314). -/
structure ThmDom where
  DOM_TDOM : Int := 0
  DOM_SRC : Nat := 0
  DOM_LEVEL : Nat := 15
  /-- tick of the last change of L_c (R299) -/
  lvlAt : Nat := 0
  /-- rises are frozen before this tick (R298) -/
  frzTo : Nat := 0
  deriving DecidableEq, Repr, Inhabited

/-- The registers of the THM page that repeat, one element each (R314). -/
structure ThmVs where
  VS_VALUE : Int := 0
  VS_VOFS : Int := 0
  VS_NODE : Nat := 127
  VDOM : Nat := 0
  /-- consecutive steps at or above T_SHUT (R301) -/
  shutRun : Nat := 0
  deriving DecidableEq, Repr, Inhabited

/-- The registers of the THM page that repeat, one element each (R314). -/
structure ThmStk where
  STK_TS : Int := 0
  STK_STK_OFS : Nat := 0
  STK_LOST : Bool := false
  STK_TGB : Nat := 3
  STK_RFB : Nat := 3
  /-- consecutive sweeps at or above S_SHUT (R301) -/
  shutRun : Nat := 0
  /-- T_s,k exists (R306) -/
  valid : Bool := false
  /-- tick since which the next refresh band away from 0b11 holds with its margin (R308) -/
  relR : Option Nat := none
  /-- as relR, of the guard band -/
  relT : Option Nat := none
  /-- tick of the last move of mc_rfb away from 0b11 (R308) -/
  movR : Nat := 0
  /-- as movR, of mc_tgb -/
  movT : Nat := 0
  deriving DecidableEq, Repr, Inhabited

/-- The registers of the THM page that repeat, one element each (R314). -/
structure ThmSnode where
  SNODE : Nat := 0
  deriving DecidableEq, Repr, Inhabited

/-- The THM page: its registers (R314), and the state of its sub-block that the named rules give. -/
structure Thm where
  STATE_STORM : Bool := false
  STATE_BELOW_LOST : Bool := false
  STATE_PHASE : Nat := 0
  STATE_SHUT_LATCH : Bool := false
  STATE_HOT : Bool := false
  CAUSE_VALUE : Nat := 0
  CAUSE_SRC : Nat := 0
  CAUSE_LATE : Nat := 0
  CAUSE_CAUSE : Nat := 0
  LVL0_T_SHUT : Nat := 0
  LVL0_T_HOT : Nat := 0
  LVL0_T_L : Nat := 0
  LVL1_S_SHUT : Nat := 0
  LVL1_T_RESTART : Nat := 0
  LVL1_RESTART_HOLD : Nat := 0
  LADDER_RATE_STEP : Nat := 0
  LADDER_RATE_EXTRA : Nat := 0
  LADDER_HYST : Nat := 0
  LADDER_STEP : Nat := 0
  TIMES_UP_HOLD : Nat := 0
  TIMES_SHUT_DWELL : Nat := 0
  TIMES_LOSS_OFS : Nat := 0
  TIMES_OBS_MARGIN : Nat := 0
  BELOW_T_BELOW : Int := 0
  BELOW_AGE : Nat := 15
  BELOW_BL_LEVEL : Nat := 0
  BELOW_BELOW_OFS : Nat := 0
  BELOW_MASK : Nat := 0
  HOTCAP : Nat := 0
  AMB : Nat := 2240
  BANDS_B_G_HIGH : Nat := 95
  BANDS_B_G_MID : Nat := 80
  BANDS_B_REF4X : Nat := 95
  BANDS_B_REF2X : Nat := 85
  BANDS2 : Int := 0
  OBS_VS_WARM : Nat := 0
  OBS_NNODE : Nat := 0
  OBS_INNOV_LIM : Nat := 0
  OBS_LOCKED : Bool := false
  OBS_OFF : Bool := false
  OBS_CNT_DISABLES : Nat := 0
  OBS_CNT_OVERRUNS : Nat := 0
  OBS_TIME_MAX : Nat := 0
  OBS_TIME_LAST : Nat := 0
  COEF_SEL_ROW : Nat := 0
  COEF_SEL_COL : Nat := 0
  NODE_SEL : Nat := 0
  HK_SEL0 : Nat := 0
  HK_SEL1 : Nat := 0
  SHUT_CNT_ORDERLY : Nat := 0
  SHUT_CNT_RESTARTS : Nat := 0
  /-- ticks of the entries to TRIPPED of the last hour (R305) -/
  tripTicks : List Nat := []
  /-- tick at which the present phase began -/
  phaseAt : Nat := 0
  /-- tick of step 2 of R302 -/
  shutAt : Nat := 0
  /-- the values of an activated image are in force (R310) -/
  imgOn : Bool := false
  /-- tick at which the die became hot (R300) -/
  hotAt : Nat := 0
  /-- tick since which every temperature is 2 °C below T_HOT (R300) -/
  hotGone : Option Nat := none
  /-- the observer nodes, Q10.22 (R291) -/
  nodes : Vector Int 96 := Vector.replicate 96 0
  /-- the observer coefficients: 128 × row + column, 24 bits; one not listed is 0 (R293) -/
  ocoef : List (Nat × Nat) := []
  /-- the inputs of the step in progress (R292) -/
  obsIn : Option (List Int) := none
  /-- tick of the last observer step (R291) -/
  stepAt : Option Nat := none
  /-- steps until the warm-up ends (R295) -/
  warmLeft : Nat := 0
  /-- the nodes have been initialised since the observer last stopped (R295) -/
  obsOn : Bool := false
  /-- the image copy of R293 is in progress -/
  obsCopy : Bool := false
  /-- tick of the last disable (R296) -/
  obsOffAt : Nat := 0
  /-- ticks of the disables of the last 60 s (R296) -/
  offTicks : List Nat := []
  /-- consecutive discarded steps (R296) -/
  discRun : Nat := 0
  /-- index of the coefficient that awaits its restore (R296) -/
  obsBad : Option Nat := none
  /-- index of the coefficient restored last and not yet used -/
  obsRestored : Option Nat := none
  /-- a sweep has completed since the last observer step (R292) -/
  newSweep : Bool := false
  /-- tick since which the cooled condition holds but for a lost group (R304) -/
  coolAt : Option Nat := none
  /-- length of the hold, ticks (R305) -/
  holdLen : Nat := 0
  /-- rails commanded to their boot codes in the window (R302) -/
  bootRails : Nat := 0
  /-- domains switched off without an idle acknowledge in the window (R317) -/
  shutForced : Nat := 0
  /-- rounds since the last T_below, or since the reset (R289) -/
  belowN : Nat := 0
  grp : Vector ThmGrp 6 := Vector.replicate 6 {}
  rail : Vector ThmRail 16 := Vector.replicate 16 {}
  dom : Vector ThmDom 25 := Vector.replicate 25 {}
  vs : Vector ThmVs 32 := Vector.replicate 32 {}
  stk : Vector ThmStk 12 := Vector.replicate 12 {}
  snode : Vector ThmSnode 6 := Vector.replicate 6 {}
  deriving DecidableEq, Repr, Inhabited

/-- A channel of the housekeeping round (R287, R288): its value, whether it has one, the rounds since the last valid
value, whether it is marked failed, and the consecutive rounds in which its read failed. -/
structure HkChan where
  val    : Int := 0
  valid  : Bool := false
  age    : Nat := 255
  failed : Bool := false
  fails  : Nat := 0
  deriving DecidableEq, Repr, Inhabited

/-- The registers of the SNS page that repeat, one element each (R316). -/
structure SnsRing where
  RING_BREAK : Nat := 255
  RING_B_FROM : Nat := 255
  RING_REPLAYS : Nat := 0
  deriving DecidableEq, Repr, Inhabited

/-- The registers of the SNS page that repeat, one element each (R316). -/
structure SnsTs where
  TS_SERVES : Nat := 255
  TS_REASON : Nat := 0
  TS_UNTRIM : Bool := false
  TS_FAILED : Bool := false
  TS_LIVE : Bool := false
  TS_TEMP : Int := 0
  TDRIFT : Int := 0
  /-- consecutive samples outside −40 °C to 150 °C (R284) -/
  rangeBad : Nat := 0
  deriving DecidableEq, Repr, Inhabited

/-- The SNS page: its registers (R316), and the state of its sub-block that the named rules give. -/
structure Sns where
  HK_ROUNDS : Nat := 0
  HK_SLOT : Nat := 0
  HK_SEL : Nat := 0
  CORE_T_CORE : Int := 0
  CORE_V_AON : Nat := 0
  RANGE_OUT : Bool := false
  RANGE_IN_ROUNDS : Nat := 0
  SWEEP_SWEEPS : Nat := 0
  SWEEP_DUR : Nat := 0
  /-- sweep tick of the sweep in progress (R282) -/
  sweepAt : Option Nat := none
  /-- sweep tick of the last sweep begun -/
  lastSweep : Option Nat := none
  /-- the channels of the round (R287) -/
  hk : Vector HkChan 160 := Vector.replicate 160 {}
  /-- slot read last, counted from the start of the tick count -/
  slotRead : Option Nat := none
  /-- rounds ended since the start of the tick count -/
  roundDone : Nat := 0
  /-- slot 0 or 1 lay outside the range in the present round (R36) -/
  roundBad : Bool := false
  /-- rounds ended in the core-range condition (R317) -/
  outRounds : Nat := 0
  /-- rounds since the last drift refit (R286) -/
  refits : Nat := 0
  ring : Vector SnsRing 3 := Vector.replicate 3 {}
  ts : Vector SnsTs 30 := Vector.replicate 30 {}
  deriving DecidableEq, Repr, Inhabited

/-- A wake entry (R322): its domain, its place by priority (0 for a forced entry, 1 + PRIO otherwise), and the tick on
which it joined. -/
structure WakeEnt where
  dom  : Nat
  prio : Nat
  at_  : Nat
  deriving DecidableEq, Repr, Inhabited

/-- The registers of the DOM page that repeat, one element each (R344). -/
structure DomRail where
  INR_RAIL_FREE : Nat := 0
  INR_RAIL_POOL : Nat := 0
  deriving DecidableEq, Repr, Inhabited

/-- The registers of the DOM page that repeat, one element each (R344). -/
structure DomDom where
  CFG_RAIL : Nat := 0
  CFG_COST : Nat := 0
  CFG_PRIO : Nat := 0
  CFG_ORDER : Nat := 0
  CFG_RET : Bool := false
  CFG_SLEEP : Bool := false
  CFG_IDLE_TO : Nat := 50
  TIM_PRE_TO : Nat := 0
  TIM_PRE_HOLD : Nat := 0
  TIM_RESTORE : Nat := 0
  TIM_SAVE : Nat := 0
  OFFD : Nat := 0
  ST_RET_HELD : Bool := false
  ST_ST : Nat := 0
  /-- the cold start of a boot domain, which is no wake of R321 (R68) -/
  starting : Bool := false
  /-- tick of the last step of its wake or sleep -/
  stepAt : Nat := 0
  /-- dom_pg -/
  pg : Bool := false
  /-- tick at which dom_pg last rose -/
  pgAt : Nat := 0
  /-- dom_iso has risen in the sleep in progress (R325 step 6) -/
  isoUp : Bool := false
  /-- the wake holds its credits -/
  cred : Bool := false
  /-- the domain was wanted when its demand was last evaluated -/
  was : Bool := false
  /-- tick at which it became wanted -/
  wantAt : Nat := 0
  /-- tick since which it has gone unwanted -/
  unwantAt : Option Nat := none
  /-- its entry was placed by DOM_FORCE (R331) -/
  forced : Bool := false
  deriving DecidableEq, Repr, Inhabited

/-- The DOM page: its registers (R344), and the state of its sub-block that the named rules give. -/
structure Dom where
  REQ : Nat := 0
  WAKE : Nat := 0
  INR_DIE_FREE : Nat := 0
  INR_DIE_POOL : Nat := 0
  QUEUE_ROUND : Nat := 0
  FORCE_GO : Bool := false
  FORCE_ON : Bool := false
  FORCE_DOM : Nat := 0
  LAT_MAX : Nat := 0
  LAT_LAST : Nat := 0
  CNT_WAKES : Nat := 0
  CNT_SLEEPS : Nat := 0
  ABORT_CNT_TIMEOUTS : Nat := 0
  ABORT_CNT_FAILED_DEM : Nat := 0
  /-- unstarted entries of the round in progress, in order (R322) -/
  queue : List WakeEnt := []
  /-- entries that wait for the next round -/
  nextQ : List WakeEnt := []
  /-- domains whose entries have started in the round -/
  started : List Nat := []
  /-- tick of the last start -/
  startAt : Option Nat := none
  /-- demands are acted on: a boundary has passed since the activation (R319) -/
  acting : Bool := false
  /-- ORDER value that the orderly switch-off has reached (R329) -/
  orderly : Option Nat := none
  rail : Vector DomRail 16 := Vector.replicate 16 {}
  dom : Vector DomDom 50 := Vector.replicate 50 {}
  deriving DecidableEq, Repr, Inhabited

/-- The registers of the CLK page that repeat, one element each (R346). -/
structure ClkDom where
  CFG_F_IMG : Nat := 0
  CFG_FGAP : Nat := 16
  CFG_UP_GAP : Nat := 4
  CFG_SSC : Bool := false
  HREQ_EN : Bool := false
  HREQ_F_HOST : Nat := 0
  ST_FSTEP : Nat := 0
  ST_F_TGT : Nat := 0
  ST_THR : Nat := 0
  ST_SSC : Bool := false
  ST_LOST : Bool := false
  MOVES_THR_MOVES : Nat := 0
  MOVES_F_MOVES : Nat := 0
  /-- tick of the last throttle change -/
  thrAt : Nat := 0
  /-- tick of the last step change -/
  fAt : Nat := 0
  /-- clk_gen_ok is low -/
  genLow : Bool := false
  /-- tick at which clk_gen_ok fell -/
  lowAt : Nat := 0
  /-- tick at which the domain was marked clock-lost -/
  lostAt : Nat := 0
  deriving DecidableEq, Repr, Inhabited

/-- The CLK page: its registers (R346), and the state of its sub-block that the named rules give. -/
structure Clk where
  TK_HANGS : Nat := 0
  TK_GLITCH : Bool := false
  TK_XTAL_SEEN : Bool := false
  TK_AMP_OK : Bool := false
  TK_SRC : Bool := false
  TK_CFG : Bool := true
  FORCE_SRC : Nat := 0
  TK_CNT_SWITCHES : Nat := 0
  TK_CNT_XTAL_LOSS : Nat := 0
  /-- tick of the last loss of AMP_OK (R340) -/
  ampAt : Nat := 0
  dom : Vector ClkDom 25 := Vector.replicate 25 {}
  deriving DecidableEq, Repr, Inhabited

/-- A setpoint bus transaction (R348): its rail, operation and operand, the attempts made, and for a PREPOS the bookings
and the booked total that its target covers. -/
structure VrgXact where
  rail  : Nat
  op    : Nat
  d     : Nat
  tries : Nat := 1
  cover : Nat := 0
  /-- the round's single attempt to an unresponsive regulator (R354) -/
  single : Bool := false
  deriving DecidableEq, Repr, Inhabited

/-- The registers of the VRG page that repeat, one element each (R371). -/
structure VrgRail where
  SET : Nat := 0
  PP_I_PP : Nat := 0
  TG_PAR_CNT : Nat := 0
  TG_RAW : Nat := 0
  CAL_I_GAIN : Nat := 16384
  CAL_I_OFS : Int := 0
  CALV_V_GAIN : Nat := 16384
  CALV_V_OFS : Int := 0
  TRK_DIFF : Int := 0
  TRK_V_TRACK : Int := 0
  PHCFG_SPARE : Nat := 0
  PHCFG_PRIM : Nat := 0
  PHST_REDUCED : Bool := false
  PHST_SPARE_IN : Bool := false
  PHST_FAULTY : Nat := 0
  PHST_ACTIVE : Nat := 0
  /-- I_meas of the last delivered word, mA (R357) -/
  iMeas : Nat := 0
  /-- V_meas of the last delivered word, µV -/
  vMeas : Nat := 0
  /-- an ordinary word has arrived in the present period -/
  got : Bool := false
  /-- failed attempts of the present word (R358) -/
  bad : Nat := 0
  /-- periods whose word is still being replayed (R358) -/
  late : Nat := 0
  /-- words failed in the round (R358) -/
  parRound : Nat := 0
  /-- a phase map has been issued since the cold reset (R353) -/
  mapOn : Bool := false
  /-- the last map issued -/
  lastMap : Nat := 0
  /-- consecutive rounds acknowledged while unresponsive (R354) -/
  okRounds : Nat := 0
  /-- the round SETV was acknowledged -/
  setAck : Bool := false
  /-- the round PHMAP was acknowledged -/
  mapAck : Bool := false
  /-- sum of V_meas of the ordinary words in the slot, µV (R359) -/
  dSum : Nat := 0
  /-- how many -/
  dN : Nat := 0
  /-- consecutive rounds beyond TRK_LIM (R359) -/
  trkBad : Nat := 0
  /-- the telemetry voltage is judged failed (R359) -/
  tgLost : Bool := false
  /-- vrg_flt -/
  flt : Bool := false
  /-- vrg_rdy -/
  rdy : Bool := false
  /-- last SETV code issued -/
  issued : Nat := 0
  deriving DecidableEq, Repr, Inhabited

/-- The VRG page: its registers (R371), and the state of its sub-block that the named rules give. -/
structure Vrg where
  BUS_UNRESP : Nat := 0
  BUS_CNT_SETV_REPL : Nat := 0
  BUS_CNT_TIMEOUTS : Nat := 0
  PP_CNT : Nat := 0
  PP_TIME_MAX : Nat := 0
  PP_TIME_LAST : Nat := 0
  TRK_CFG : Nat := 200
  /-- the transaction in progress (R350) -/
  cur : Option VrgXact := none
  /-- tick at which vrg_req rose -/
  curAt : Nat := 0
  /-- rails with a pending PREPOS, in order (R351) -/
  ppQ : List Nat := []
  /-- consecutive PREPOS transactions while a trim waits (R351) -/
  ppRun : Nat := 0
  /-- trim-class transactions that wait, in order (R351) -/
  trimQ : List VrgXact := []
  /-- rails that wait for RESEND (R358) -/
  resendQ : List Nat := []
  rail : Vector VrgRail 16 := Vector.replicate 16 {}
  deriving DecidableEq, Repr, Inhabited

/-- What the master does on the segment (R362, R366 to R369): nothing; poll read `k` of the round (converter k / 2, READ_VIN
or READ_IIN); a host transaction; or the exchange with the EEPROM for the request at the head of its queue. -/
inductive PmbTask where
  | none
  | poll (k tries : Nat)
  | host (kind slot cmd data tries : Nat)
  | eeRead
  | eeWrite (copy seqNo : Nat)
  deriving DecidableEq, Repr, Inhabited

/-- A counter request of a member that waits for the master (R369): its position, identity, whether it writes, and what
it writes. -/
structure CtrReq where
  pos    : Nat
  id     : Nat
  write  : Bool
  optime : Nat := 0
  pcycle : Nat := 0
  ready  : Bool := true
  deriving DecidableEq, Repr, Inhabited

/-- The registers of the PMB page that repeat, one element each (R373). -/
structure PmbConv where
  CONV_VALID : Bool := false
  CONV_VIN_SRC : Bool := false
  CONV_IIN_SRC : Bool := false
  CONV_ADDR : Nat := 0
  READ_IIN : Nat := 0
  READ_VIN : Nat := 0
  CST_OK : Bool := false
  CST_NACKS : Nat := 0
  CST_STATUS : Nat := 0
  /-- tick of the last valid READ_VIN -/
  vinAt : Option Nat := none
  /-- tick of the last valid READ_IIN -/
  iinAt : Option Nat := none
  /-- the last valid READ_VIN exactly: Y, and 16 + N (R362) -/
  vinX : Int × Nat := (0, 0)
  deriving DecidableEq, Repr, Inhabited

/-- The PMB page: its registers (R373), and the state of its sub-block that the named rules give. -/
structure Pmb where
  CFG_POLL : Nat := 10
  CFG_ALERT_CLR : Bool := false
  CFG_SPEED : Bool := false
  VIN_LIM_VIN_HI : Nat := 4500
  VIN_LIM_VIN_LO : Nat := 3900
  IIN_LIM : Nat := 65535
  VIN_VIN : Nat := 0
  IIN : Nat := 0
  ROUND_ROUNDS : Nat := 0
  ROUND_DUR : Nat := 0
  ERR_CNT_PEC : Nat := 0
  ERR_CNT_NACK : Nat := 0
  ALERT_ALERTS : Nat := 0
  ALERT_ADDR : Nat := 0
  ALERT_ST : Nat := 0
  HOST_XACT_KIND : Nat := 0
  HOST_XACT_SLOT : Nat := 0
  HOST_XACT_CMD : Nat := 0
  HOST_XACT_DATA : Nat := 0
  HOST_RES_DONE : Bool := false
  HOST_RES_ST : Nat := 0
  HOST_RES_RDATA : Nat := 0
  PERS_SEQ : Nat := 0
  PERS_EE_OK : Bool := false
  PERS_COPY : Bool := false
  PERS_RESTORED : Bool := false
  /-- the transaction in progress -/
  task : PmbTask := .none
  /-- a host transaction that waits: kind, slot, cmd, data (R366) -/
  host : Option (Nat × Nat × Nat × Nat) := none
  /-- tick at which the present or last poll round began -/
  roundAt : Nat := 0
  /-- a poll round runs -/
  inRound : Bool := false
  /-- converters that failed in the round, as a mask -/
  failed : Nat := 0
  /-- tick of the round that formed VIN -/
  vinAt : Option Nat := none
  /-- tick of the round that formed IIN -/
  iinAt : Option Nat := none
  /-- consecutive rounds out of range (R364) -/
  vinBad : Nat := 0
  /-- consecutive rounds above IIN_HI -/
  iinBad : Nat := 0
  /-- ticks of the alerts of the last second (R365) -/
  alertAt : List Nat := []
  /-- tick at which alerts were muted -/
  muteAt : Option Nat := none
  /-- next poll read of the round; 16 when none is left -/
  next : Nat := 16
  /-- the 32 bytes of the last copy written to the EEPROM (R367) -/
  eeOut : List Nat := []
  /-- counter requests that wait (R369) -/
  reqs : List CtrReq := []
  /-- hours of OPTIME already sent for writing (R369) -/
  persHr : Nat := 0
  /-- the member has asked for its slot since the cold reset (R369) -/
  asked : Bool := false
  /-- OPTIME and PCYCLE of the last CTR_DATA of the master, until its CTR_STAT (R369) -/
  answer : Option (Nat × Nat) := none
  conv : Vector PmbConv 8 := Vector.replicate 8 {}
  deriving DecidableEq, Repr, Inhabited

/-- One direction of the frame ring at this member (R375 to R380): whether the link is up; the sequence numbers of R378;
the messages sent and not yet acknowledged, oldest first, with the attempts made; those that wait; the lane check. -/
structure FrmLinkState where
  up      : Bool := false
  hello   : Bool := false
  partner : Nat := 31
  train   : Nat := 0
  txSeq   : Nat := 0
  rxNext  : Nat := 0
  unack   : List (BitVec 128) := []
  wait    : List (Nat × BitVec 128) := []
  tries   : Nat := 0
  checked : Bool := false
  checking : Bool := false
  crcAt   : List Nat := []
  last    : BitVec 128 := 0
  retryAt : Nat := 0
  rxAt    : Nat := 0
  /-- training words compared in the lane check in progress, and the lanes that failed in it (R379) -/
  chkN    : Nat := 0
  chkBad  : Nat := 0
  /-- transmit lanes active, one bit per physical lane (R379) -/
  tx      : Nat := 15
  deriving DecidableEq, Repr, Inhabited

/-- The registers of the FRM page that repeat, one element each (R414). -/
structure FrmMember where
  MEMBER_MAX : Nat := 0
  MEMBER_FLOOR : Nat := 0
  SHARE : Nat := 0
  PEER_MAJOR : Nat := 0
  PEER_MINOR : Nat := 0
  PEER_STACKS : Nat := 0
  PEER_UNREACH : Bool := false
  PEER_ABSENT : Bool := false
  /-- TRE_EN of its HELLO -/
  tre : Bool := false
  /-- RCK_EN of its HELLO -/
  rckEn : Bool := false
  /-- PMB_EN of its HELLO -/
  pmbEn : Bool := false
  /-- LIVE of its HELLO (R412) -/
  treLive : Bool := false
  /-- DIE_KIND of its HELLO -/
  base : Bool := false
  /-- BELOW of its HELLO -/
  below : Nat := 31
  /-- P_PKG of its HELLO, W; 0 = none published (R386) -/
  pPkg : Nat := 0
  /-- its east link is reported down (R396) -/
  eDown : Bool := false
  /-- its west link is reported down -/
  wDown : Bool := false
  /-- its held share, mW (R397) -/
  heldMw : Nat := 0
  /-- tick at which it was reserved -/
  heldAt : Nat := 0
  /-- reduced to FLOOR (R397) -/
  heldCut : Bool := false
  /-- HOST of its last CAP, W; 0 = no value (R391) -/
  hostCap : Nat := 0
  /-- RACK of its last CAP, W; 0 = no value -/
  rackCap : Nat := 0
  /-- its first split is the next one (R400) -/
  joining : Bool := false
  /-- its latest DEMAND, mW (R390) -/
  demand : Option Nat := none
  /-- sequence of loans answered to it (R176) -/
  pseqTx : Nat := 0
  /-- loan sequences applied in this epoch (R176) -/
  pseqRx : List Nat := []
  /-- it has been absent or unreachable, and has not sent HELLO since (R400) -/
  left : Bool := false
  deriving DecidableEq, Repr, Inhabited

/-- The FRM page: its registers (R414), and the state of its sub-block that the named rules give. -/
structure Frm where
  FORM_FMAJ : Nat := 0
  FORM_FMIN : Nat := 0
  FORM_ERR : Nat := 0
  FORM_STATE : Nat := 0
  ROSTER : Nat := 0
  ROLE_RECKONER : Nat := 31
  ROLE_PMB : Nat := 31
  ROLE_RCK : Nat := 31
  ROLE_HOPS : Nat := 0
  LINK_W_LANES : Nat := 15
  LINK_E_LANES : Nat := 15
  FSEQ : Nat := 0
  BUDGET : Nat := 0
  CFG : Nat := 2
  PKGCAP : Nat := 65535
  CNT_RETRIES : Nat := 0
  CNT_CRC_ERR : Nat := 0
  CNT2_JOINS : Nat := 0
  CNT2_DOWNS : Nat := 0
  /-- COUNT of the FORMED message that named a failure (R384) -/
  failCount : Nat := 0
  /-- the east link -/
  east : FrmLinkState := {}
  /-- the west link -/
  west : FrmLinkState := {}
  /-- positions whose HELLO has been received, one entry each HELLO source (R383) -/
  pos : List Nat := []
  /-- two HELLOs carried the same position (R384) -/
  dup : Bool := false
  /-- tick of the last HELLO sent (R383) -/
  helloAt : Nat := 0
  /-- tick at which the roster last changed (R383) -/
  rosterAt : Nat := 0
  /-- ATTEMPT of the last FORMED sent (R383) -/
  attempt : Nat := 0
  /-- members of the frame as formed; 0 before (R383) -/
  size : Nat := 0
  /-- tick at which the frame formed (R369) -/
  formedAt : Nat := 0
  /-- B of the last split or cut, mW (R394) -/
  bCur : Nat := 0
  /-- DEMAND has been sent in this epoch (R390) -/
  demandSent : Bool := false
  /-- largest demand term of the epoch so far, mW (R390) -/
  peak : Nat := 0
  /-- first-wave members that have not acknowledged (R393) -/
  wave : List Nat := []
  /-- raised shares that wait for the first wave: member, mW (R393) -/
  wave2 : List (Nat × Nat) := []
  /-- a SHARE that names the next epoch: share, FLOOR (R393) -/
  shareNext : Option (Nat × Nat) := none
  /-- FLOOR of the last SHARE received, W (R398) -/
  floorRx : Nat := 0
  /-- tick since which the member is isolated (R398) -/
  isoAt : Option Nat := none
  /-- the cut of R398 has been made -/
  isoCut : Bool := false
  /-- a second wave waits for its time at major version 2 (R386) -/
  v2 : Bool := false
  /-- tick of the last SHARE of the first wave -/
  v2At : Nat := 0
  /-- a SHARE has been applied since the member joined (R178) -/
  firstShare : Bool := false
  /-- the member has joined a frame already formed (R400) -/
  joined : Bool := false
  /-- BUDGET of the last BOUNDARY, mW (R399) -/
  lastBudget : Nat := 0
  /-- BUDGET taken over from the last BOUNDARY, mW (R399) -/
  heldBudget : Option Nat := none
  /-- the role was taken over, and the shares that the members hold are not known (R399) -/
  succ : Bool := false
  member : Vector FrmMember 24 := Vector.replicate 24 {}
  deriving DecidableEq, Repr, Inhabited

/-- The registers of the TRE page that repeat, one element each (R416). -/
structure TrePort where
  PORT_MAX : Nat := 0
  PORT_FLOOR : Nat := 0
  PORT_ST_MISSED : Nat := 0
  PORT_ST_ABSENT : Bool := false
  PORT_ST_PRESENT : Bool := false
  PORT_BUD : Nat := 0
  PORT_DEM : Nat := 0
  /-- version from its HELLO: major × 16 + minor -/
  ver : Option Nat := none
  /-- last counter accepted from it (R404) -/
  ctr : Nat := 0
  /-- it is synchronised (R405) -/
  synced : Bool := false
  /-- challenge sent to it and not yet answered -/
  chal : Option Nat := none
  /-- link start frames that wait for it: TYPE (R405) -/
  frames : List Nat := []
  /-- challenge that the next SYNC_ACK answers -/
  ackFor : Option Nat := none
  /-- tick of the last SYNC answered (R411) -/
  ackAt : Option Nat := none
  /-- tick of the last frame that opened its slot (R406) -/
  polledAt : Option Nat := none
  /-- budget of the last split, W -/
  want : Nat := 0
  /-- attempts of its BUDGET without a reply (R406) -/
  tries : Nat := 0
  /-- budget held for it, W (R409) -/
  heldW : Nat := 0
  /-- tick at which it became absent -/
  heldAt : Nat := 0
  /-- reduced to FLOOR (R409) -/
  heldCut : Bool := false
  /-- ticks of its bad checks within the last second (R411) -/
  badAt : List Nat := []
  /-- consecutive bad checks (R405) -/
  badRun : Nat := 0
  /-- tick at which it was muted -/
  muteAt : Option Nat := none
  deriving DecidableEq, Repr, Inhabited

/-- The TRE page: its registers (R416), and the state of its sub-block that the named rules give. -/
structure Tre where
  STATE_VER : Nat := 0
  PARENT_BUD : Nat := 0
  PKG : Nat := 0
  CFG_MYPORT : Nat := 0
  CFG_HOLD : Nat := 4
  CFG_POLL : Nat := 20
  ISO : Nat := 0
  DEMAND : Nat := 0
  CNT_BAD : Nat := 0
  CNT_CRC_ERR : Nat := 0
  CNT2_CUTS : Nat := 0
  CNT2_IGNORED : Nat := 0
  /-- the controller has marked the link failed (R412) -/
  failed : Bool := false
  /-- LINK_ID of the parent (R404) -/
  linkId : Nat := 0
  /-- SYNC_ACK has confirmed LINK_ID (R405) -/
  idSure : Bool := false
  /-- version from the HELLO of the parent: major × 16 + minor -/
  ver : Option Nat := none
  /-- last counter accepted from the parent (R404) -/
  ctrUp : Nat := 0
  /-- the parent is synchronised (R405) -/
  synced : Bool := false
  /-- the parent is lost (R409) -/
  lost : Bool := false
  /-- challenge sent to the parent and not yet answered (R405) -/
  chal : Option Nat := none
  /-- its HELLO waits for a reply slot (R405) -/
  helloDue : Bool := true
  /-- its SYNC waits for a reply slot -/
  syncDue : Bool := false
  /-- challenge that its SYNC_ACK is to answer -/
  ackDue : Option Nat := none
  /-- tick of the last SYNC answered (R411) -/
  ackAt : Option Nat := none
  /-- tick of the last valid frame of the parent (R409) -/
  rxAt : Option Nat := none
  /-- a higher BUDGET that waits for the boundary, W (R408) -/
  pend : Option Nat := none
  /-- BUDGET frames taken in the epoch (R411) -/
  budN : Nat := 0
  /-- ticks of the CUT frames of the last ms (R411) -/
  cutAt : List Nat := []
  /-- CSEQ applied last (R406) -/
  cseqRx : Option Nat := none
  /-- ticks of the bad checks of the parent within the last second (R411) -/
  badAt : List Nat := []
  /-- consecutive bad checks of the parent (R405) -/
  badRun : Nat := 0
  /-- tick at which the parent was muted (R411) -/
  muteAt : Option Nat := none
  /-- authenticated frames sent on tre_up (R404) -/
  txUp : Nat := 0
  /-- standby: counter last heard from the package on tre_up (R412) -/
  selfUp : Nat := 0
  /-- standby: counter last heard from the package on tre_dn -/
  selfDn : Nat := 0
  /-- port whose reply slot is open (R406) -/
  slot : Option Nat := none
  /-- CUT frames to send: RATIO, CSEQ (R406) -/
  cutQ : List (Nat × Nat) := []
  /-- CSEQ of the last CUT formed -/
  cseqTx : Nat := 0
  /-- ports whose lowered BUDGET waits, or waits for its reply (R408) -/
  lowQ : List Nat := []
  /-- ports whose raised BUDGET waits -/
  highQ : List Nat := []
  /-- the 30 bytes last sent on tre_up (R402) -/
  lastUp : List Nat := []
  /-- the 30 bytes last sent on tre_dn -/
  lastDn : List Nat := []
  /-- subtree budget of the last split or cut, W (R407) -/
  subWas : Nat := 0
  port : Vector TrePort 16 := Vector.replicate 16 {}
  deriving DecidableEq, Repr, Inhabited

/-- The registers of the MBx page that repeat, one element each (R445). -/
structure MbxIn where
  IN : Nat := 0
  deriving DecidableEq, Repr, Inhabited

/-- The registers of the MBx page that repeat, one element each (R445). -/
structure MbxBlk where
  BLK_D : Nat := 0
  deriving DecidableEq, Repr, Inhabited

/-- The MBx page: its registers (R445), and the state of its sub-block that the named rules give. -/
structure Mbx where
  IN_STAT_REFUSED : Nat := 0
  IN_STAT_ABORTED : Nat := 0
  IN_STAT_FULL : Nat := 0
  OUT_STAT_DROPPED : Nat := 0
  OUT_STAT_ABORTED : Bool := false
  OUT_STAT_OVF : Bool := false
  CFG_NOTE_EN : Nat := 0
  CFG_RX_DOM : Nat := 63
  BLK_ADDR : Nat := 0
  BLK_CTRL_GO : Bool := false
  BLK_CTRL_OP : Nat := 0
  BLK_STAT_ERR : Nat := 0
  BLK_STAT_DONE : Bool := false
  BLK_CRC : Nat := 0
  HB_STAT_LAST : Nat := 0
  HB_CFG : Nat := 500
  ORPH_STEP : Nat := 0
  ORPH_FLOOR : Nat := 0
  HB_CNT_BAD : Nat := 0
  HB_CNT_LOSSES : Nat := 0
  /-- full boxes, in the order in which they were written (R420) -/
  order : List Nat := []
  /-- the outbound queue, oldest first (R423) -/
  outQ : List Nat := []
  /-- OP latched at the GO of the transfer in progress (R427) -/
  blkOp : Nat := 0
  /-- block address of the transfer in progress -/
  blkAt : Nat := 0
  /-- tick of the last heartbeat since the reset (R428) -/
  beatAt : Option Nat := none
  /-- tick at which the heartbeat timer last restarted (R429) -/
  timerAt : Nat := 0
  /-- a loss has been taken and the timer has not restarted (R429) -/
  lossTaken : Bool := false
  /-- orphan cap, mW; 0 = none (R431) -/
  orphCapNow : Nat := 0
  /-- boundaries since the entry to ORPHAN (R422) -/
  orphBnds : Nat := 0
  /-- orphan cap withdrawn but in force until the next boundary, mW; 0 = none (R430) -/
  orphKeep : Nat := 0
  inb : Vector MbxIn 8 := Vector.replicate 8 {}
  blk : Vector MbxBlk 16 := Vector.replicate 16 {}
  deriving DecidableEq, Repr, Inhabited

/-- The RCK page: its registers (R447), and the state of its sub-block that the named rules give. -/
structure Rck where
  ADDR_DA_VALID : Bool := false
  ADDR_DA : Nat := 0
  ADDR_SADDR : Nat := 58
  CAP : Nat := 0
  STAT_LAST_ST : Nat := 0
  STAT_LAST_TYPE : Nat := 0
  STAT_IBI_EN : Bool := false
  STAT_REPLY : Bool := false
  STAT_MUTED : Bool := false
  CNT_PERFORMED : Nat := 0
  CNT_REJECTED : Nat := 0
  CNT2_RATE : Nat := 0
  CNT2_FRAME : Nat := 0
  CNT3_MUTES : Nat := 0
  CNT3_BAD : Nat := 0
  /-- the reply being prepared, or ready and unread (R438) -/
  reply : List Nat := []
  /-- a reply is being prepared (R438) -/
  replyDue : Bool := false
  /-- tick at which the mute began (R440) -/
  muteAt : Nat := 0
  /-- ticks of the bad checks of the last second (R440) -/
  badAt : List Nat := []
  /-- ticks of the HELLOs of the last 10 ms (R441) -/
  helloAt : List Nat := []
  /-- ticks of the CAP_SETs and CAP_CLEARs performed in the last second (R441) -/
  capAt : List Nat := []
  /-- ticks of the STATUS and EVENTS performed in the last second (R441) -/
  statAt : List Nat := []
  /-- tick of the last 0x1115 record (R441) -/
  rateAt : Option Nat := none
  /-- requests refused since the last 0x1115 record (R441) -/
  rateN : Nat := 0
  /-- in-band interrupts raised and not yet taken by the controller, oldest first (R438) -/
  ibi : List Nat := []
  /-- bytes the port last answered on the bus (R437, R438) -/
  bus : List Nat := []
  /-- the port acknowledged its address in the last transfer (R437) -/
  acked : Bool := false
  deriving DecidableEq, Repr, Inhabited

/-- A pending keyed check (R119): its counter, its 128 bits and the tick that armed it. -/
structure PendCheck where
  ctr : Nat
  mac : Nat
  at_ : Nat
  deriving DecidableEq, Repr, Inhabited

/-- The registers of the AUT page that repeat, one element each (R449). -/
structure AutMac where
  WCHK_MAC : Nat := 0
  deriving DecidableEq, Repr, Inhabited

/-- The AUT page: its registers (R449), and the state of its sub-block that the named rules give. -/
structure Aut where
  WCHK_CTR_LO : Nat := 0
  WCHK_CTR_HI : Nat := 0
  STAT_HS_LOGMUTE : Bool := false
  STAT_UNANCHORED : Bool := false
  STAT_ANCHORED : Bool := false
  ANCHOR : Nat := 0
  HS_LAST : Nat := 0
  RK_LAST : Nat := 0
  RK_OUT : Nat := 0
  TR_TX : Nat := 0
  FAIL_CNT_RK : Nat := 0
  FAIL_CNT_HS : Nat := 0
  /-- the pending check (R119) -/
  pend : Option PendCheck := none
  /-- ticks of the failed host-secure checks of the last second (R436) -/
  hsAt : List Nat := []
  /-- tick at which failure logging was muted (R436) -/
  muteAt : Nat := 0
  mac : Vector AutMac 4 := Vector.replicate 4 {}
  deriving DecidableEq, Repr, Inhabited

/-- The registers of the RST page that repeat, one element each (R474). -/
structure RstPage where
  LRST_TO_FORCED : Nat := 0
  LRST_TO_TIMEOUT : Nat := 50
  deriving DecidableEq, Repr, Inhabited

/-- The RST page: its registers (R474), and the state of its sub-block that the named rules give. -/
structure Rst where
  CAUSE_RESTARTED : Bool := false
  CAUSE_PIN_LAST : Bool := false
  CAUSE_OVERLAP : Bool := false
  CAUSE_CAUSE : Nat := 2
  CNT_WARM : Nat := 0
  CNT_LOCAL : Nat := 0
  EXIT : Nat := 0
  SELFTEST_ROWS : Nat := 0
  SELFTEST_LANES : Nat := 0
  SELFTEST_MACROS : Nat := 0
  SELFTEST_FAIL : Bool := false
  SELFTEST_DONE : Bool := false
  STRAP_ERR : Nat := 0
  /-- por is asserted (R451) -/
  por : Bool := true
  /-- rst_n is held low and recognised (R78) -/
  pin : Bool := false
  /-- a reset episode is open (R455) -/
  epOpen : Bool := true
  /-- the reach of the open episode is cold (R455) -/
  epCold : Bool := true
  /-- por was recognised within the episode -/
  epPor : Bool := true
  /-- rst_n was recognised within the episode -/
  epPin : Bool := false
  /-- rst_n released last -/
  pinLast : Bool := false
  /-- the exit restarted within the episode -/
  restarted : Bool := false
  /-- an exit sequence is under way (R457, R458) -/
  exiting : Bool := false
  /-- tick at which the exit started -/
  exitAt : Nat := 0
  /-- the aon_vio condition of R89 is in force -/
  vioLow : Bool := false
  /-- tick at which it began -/
  vioAt : Nat := 0
  /-- the ports are live (R457, R458) -/
  live : Bool := false
  /-- step 2 of a cold exit has been taken since the cold reset (R47) -/
  started : Bool := false
  page : Vector RstPage 8 := Vector.replicate 8 {}
  deriving DecidableEq, Repr, Inhabited

/-- A spare command in progress (R493). -/
structure RelCmd where
  kind  : Nat
  op    : Nat
  index : Nat
  /-- it applies to its item as the command began -/
  fits  : Bool := true
  deriving DecidableEq, Repr, Inhabited

/-- The registers of the REL page that repeat, one element each (R504). -/
structure RelMem where
  MEM_EXHAUSTED : Bool := false
  MEM_MAPPED : Nat := 0
  /-- rows on spare rows: row, spare (R482) -/
  maps : List (Nat × Nat) := []
  /-- lowest spare row never taken -/
  next : Nat := 0
  /-- rows for which no spare was left (R483) -/
  lost : List Nat := []
  deriving DecidableEq, Repr, Inhabited

/-- The registers of the REL page that repeat, one element each (R504). -/
structure RelWear where
  WEAR_FAILED : Bool := false
  WEAR_INIT : Bool := true
  WEAR_AG_MEAN : Nat := 0
  WEARCFG_WEAR_MAX : Nat := 0
  WEARCFG_WK : Nat := 0
  /-- the last 64 valid readings, newest first (R495) -/
  hist : List Nat := []
  /-- valid readings since the cold reset (R496) -/
  n : Nat := 0
  /-- consecutive readings more than 100 units below A_r (R495) -/
  low : Nat := 0
  /-- tick of the first sample not delivered (R487) -/
  tgAt : Option Nat := none
  /-- tick at which the regulator was marked unresponsive (R487) -/
  busAt : Option Nat := none
  /-- tick at which blind mode began (R489) -/
  blindAt : Nat := 0
  /-- consecutive delivered samples while telemetry blind (R489) -/
  okRun : Nat := 0
  /-- G_wear,r as computed, mV (R496) -/
  g : Nat := 0
  /-- the computed value has reached WEAR_MAX (R496) -/
  limit : Bool := false
  deriving DecidableEq, Repr, Inhabited

/-- The REL page: its registers (R504), and the state of its sub-block that the named rules give. -/
structure Rel where
  REPLAY_RETIRED : Nat := 0
  REPLAY_REPLAYED : Nat := 0
  SPARE_USE_DD_FREE : Nat := 8
  SPARE_USE_TS_FREE : Nat := 6
  SCRUB_PASSES : Nat := 0
  SCRUB_LAST : Nat := 0
  SCRUB_CNT_RESTORED : Nat := 0
  SCRUB_CNT_FOUND : Nat := 0
  STAGING_DAMAGED : Bool := false
  STAGING_ROW : Nat := 0
  INTR_MAX : Nat := 0
  INTR_LAST : Nat := 0
  BLIND_BUS : Nat := 0
  BLIND_TG : Nat := 0
  BLIND_CFG : Nat := 8
  SPARE_CMD_GO : Bool := false
  SPARE_CMD_OP : Nat := 0
  SPARE_CMD_KIND : Nat := 0
  SPARE_CMD_INDEX : Nat := 0
  SPARE_STAT_DONE : Bool := false
  SPARE_STAT_ST : Nat := 0
  SPARE_STAT_KIND : Nat := 0
  SPARE_STAT_INDEX : Nat := 0
  /-- the command in progress (R493) -/
  cmd : Option RelCmd := none
  /-- spare register words free, page by page (R480) -/
  regFree : Vector Nat 23 := Vector.replicate 23 4
  /-- register words with no spare word left: their addresses (R480) -/
  regDead : List Nat := []
  /-- register words whose computed fields read their Cold value until the next update: address, and the word as it stood (R113) -/
  regStale : List (Nat × Nat) := []
  /-- position of the scrubber within a pass (R484) -/
  scrubAt : Nat := 0
  /-- tick at which the pass began -/
  scrubT : Nat := 0
  /-- tick since which the ceiling of each clock domain stands at 0 (R500) -/
  intrAt : Vector (Option Nat) 25 := Vector.replicate 25 none
  mem : Vector RelMem 6 := Vector.replicate 6 {}
  wear : Vector RelWear 16 := Vector.replicate 16 {}
  deriving DecidableEq, Repr, Inhabited

/-- An event in the recorder's input queue (R509): its code, whether it is always recorded, whether it is a suppression
summary, bytes 0 to 27 of its record as stamped on entry (R506), and the tick of entry. -/
structure EvtEntry where
  code : Nat
  alw  : Bool
  body : Nat
  at_  : Nat
  deriving DecidableEq, Repr, Inhabited

/-- The registers of the EVT page that repeat, one element each (R528). -/
structure EvtRd where
  RD_D : Nat := 0
  deriving DecidableEq, Repr, Inhabited

/-- The EVT page: its registers (R528), and the state of its sub-block that the named rules give. -/
structure Evt where
  CFG_SUPP_LIM : Nat := 16
  CFG_FREEZE : Bool := false
  CFG_TRIP_FREEZE : Bool := false
  CFG_MODE : Bool := false
  STAT_ERASING : Bool := false
  STAT_FLUSH_ACT : Bool := false
  STAT_FLUSHED : Bool := false
  STAT_FROZEN : Bool := false
  STAT_WR : Nat := 0
  COUNT : Nat := 0
  DROP_ALW : Nat := 0
  DROP_ORD : Nat := 0
  SUPP : Nat := 0
  CAP_RES_NEXT : Nat := 0
  CAP_USABLE : Nat := 4096
  IRQ_LAST_CODE : Nat := 0
  IRQ_PEND : Bool := false
  ERASE : Bool := false
  RD_SEL : Nat := 0
  RD_STAT_CHK_CNT : Nat := 0
  RD_STAT_CHK_BAD : Bool := false
  RD_STAT_STALE : Bool := false
  FRZ_CAUSE : Nat := 0
  FRZ_FRZ_SLOT : Nat := 0
  PCYCLE : Nat := 0
  /-- the input queue, oldest first (R516) -/
  queue : List EvtEntry := []
  /-- the slots in always-on memory, 256 bits each, sorted by slot; a slot not listed is cleared (R506) -/
  slots : List (Nat × Nat) := []
  /-- NUM of the next record (R506) -/
  num : Nat := 0
  /-- records written since the last erase or unfreeze (R514) -/
  fill : Nat := 0
  /-- per code of the present millisecond: records admitted, occurrences suppressed (R515) -/
  supp : List (Nat × Nat × Nat) := []
  /-- codes suppressed in the millisecond that ended, with their counts (R515) -/
  suppDone : List (Nat × Nat) := []
  /-- ordinary events dropped since the last 0x1515 (R516) -/
  dropOrd : Nat := 0
  /-- always-recorded events dropped since the last 0x1515 (R516) -/
  dropAlw : Nat := 0
  /-- the last reserve slot written since the freeze (R514) -/
  lastRes : Option Nat := none
  /-- recorder rows taken out of use (R483, R512) -/
  outRows : List Nat := []
  /-- OPTIME restored from the EEPROM, ms (R510) -/
  optBase : Nat := 0
  /-- counters not yet restored (R510) -/
  norest : Bool := true
  /-- code of the latest always-recorded event (R439) -/
  lastAlw : Nat := 0
  /-- always-recorded events since the cold reset, saturating (R439) -/
  alwCnt : Nat := 0
  /-- the slot that the copy registers hold (R520) -/
  rdSlot : Option Nat := none
  rd : Vector EvtRd 8 := Vector.replicate 8 {}
  deriving DecidableEq, Repr, Inhabited

/-- A record in the stream buffer (R523): its type, its chunks left, as numbers of 32 bytes, whether the head chunk is
its first, and whether a chunk failed parity. -/
structure TrcRec where
  typ    : Nat
  chunks : List Nat
  first  : Bool := true
  par    : Bool := false
  deriving DecidableEq, Repr, Inhabited

/-- The samples of one rail in a rail summary period: how many were delivered, and the sums of I_meas and V_meas. -/
structure TrcSum where
  n : Nat := 0
  i : Nat := 0
  v : Nat := 0
  deriving DecidableEq, Repr, Inhabited

/-- The TRC page: its registers (R530), and the state of its sub-block that the named rules give. -/
structure Trc where
  CFG_RAIL_PER : Nat := 64
  CFG_EVC_EN : Bool := false
  CFG_THM_EN : Bool := false
  CFG_RAIL_EN : Bool := false
  DROP0_E2 : Nat := 0
  DROP0_E1 : Nat := 0
  DROP1_PAR : Nat := 0
  DROP1_E4 : Nat := 0
  PEAK : Nat := 0
  /-- the stream buffer, oldest record first (R523) -/
  recs : List TrcRec := []
  /-- SEQ of the next rail summary (R524) -/
  seqE1 : Nat := 0
  /-- SEQ of the next thermal summary -/
  seqE2 : Nat := 0
  /-- SEQ of the next event copy -/
  seqE4 : Nat := 0
  /-- a rail summary was dropped since the last one admitted (FLAGS bit 0) -/
  lostE1 : Bool := false
  /-- as lostE1, of thermal summaries -/
  lostE2 : Bool := false
  /-- as lostE1, of event copies -/
  lostE4 : Bool := false
  /-- drops of 0xE1, 0xE2, 0xE4 not yet recorded by 0x1610 (R525) -/
  dropN : Vector Nat 3 := Vector.replicate 3 0
  /-- millisecond of the last 0x1610 of each type (R525) -/
  dropMs : Vector (Option Nat) 3 := Vector.replicate 3 none
  /-- tick at which the present rail summary period began (R524) -/
  railAt : Nat := 0
  /-- a drain window fell within the present period (FLAGS bit 1) -/
  drained : Bool := false
  /-- sums of the samples delivered in the period (R524) -/
  sums : Vector TrcSum 16 := Vector.replicate 16 {}
  deriving DecidableEq, Repr, Inhabited


/-- The header fields of one page that are not constants of the page (R107). -/
structure PageHdr where
  err      : Nat := 0
  errMask  : Nat := 0
  evtEn    : Nat := 0
  lock     : Bool := false
  lockSrc  : Bool := false
  lastWord : Nat := 0
  faultCnt : Nat := 0
  lrstReq  : Bool := false
  lrstAct  : Bool := false
  /-- tick at which the block-local reset was asked for (R460) -/
  lrstAt   : Nat := 0
  busy     : Bool := false
  deriving DecidableEq, Repr, Inhabited

/-- The policy image as a commit has read it from staging (R464, R465): its header, its register-word records as page,
offset and value, and its arrays by index, sparse in the canonical form of `memWf`. -/
structure Image where
  id    : Nat := 0
  len   : Nat := 0
  wlen  : Nat := 0
  regs  : List (Nat × Nat × Nat) := []
  unit  : List (Nat × Nat) := []
  rail  : List (Nat × Nat) := []
  die   : Option Nat := none
  coef  : List (Nat × Nat) := []
  obs   : List (Nat × Nat) := []
  bias  : List (Nat × Nat) := []
  hasUnit : Bool := false
  hasRail : Bool := false
  hasCoef : Bool := false
  hasObs  : Bool := false
  hasBias : Bool := false
  deriving DecidableEq, Repr, Inhabited

/-- The policy staging memory (R427) and what the last commit read from it. -/
structure Stg where
  /-- the 512 KiB of staging as address and byte, sorted; a byte not listed is 0 (the start-up self-test and the cold
  reset clear it, R453) -/
  mem     : List Host.Cell := []
  /-- the image the commit mark stands for -/
  img     : Option Image := none
  /-- the image that is active -/
  act     : Option Image := none
  /-- staging still holds the active image, so a restore may take from it (R249, R472, R486) -/
  holds   : Bool := false
  deriving DecidableEq, Repr, Inhabited

/-- The host port's last response (R97, R98). -/
structure HostRsp where
  st  : Nat := 0
  data : Nat := 0
  par : Bool := false
  deriving DecidableEq, Repr, Inhabited

/-- The state of one instance. -/
structure State where
  cmn  : Cmn := {}
  seq  : Seq := {}
  tly  : Tly := {}
  adm  : Adm := {}
  beam : Beam := {}
  ctl  : Ctl := {}
  fcs  : Fcs := {}
  thm  : Thm := {}
  sns  : Sns := {}
  dom  : Dom := {}
  clk  : Clk := {}
  vrg  : Vrg := {}
  pmb  : Pmb := {}
  frm  : Frm := {}
  tre  : Tre := {}
  mbs  : Mbx := {}
  mbn  : Mbx := {}
  rck  : Rck := {}
  aut  : Aut := {}
  rst  : Rst := {}
  rel  : Rel := {}
  evt  : Evt := {}
  trc  : Trc := {}
  /-- the header of each page, by page number (R94, R107) -/
  hdr  : Vector PageHdr 23 := Vector.replicate 23 {}
  stg  : Stg := {}
  hst  : HostRsp := {}
  /-- lower words of writable values wider than 32 bits, held pending by address (R105) -/
  pairLo : Option (Nat × Nat) := none
  /-- timekeeper ticks of 250 ns since step 2 of the cold exit (R38) -/
  now  : Nat := 0
  /-- the MODEL's own: how many free values have been taken (no register; see the assumption log) -/
  free : Nat := 0
  /-- the commands that wait, first in first out -/
  pending : List Instr := []
  deriving DecidableEq, Repr, Inhabited

/-- Why the block stops with a fault. No rule of spec/ stops it: every command has an effect or no occurrence. -/
inductive Fault where
  /-- Raised by no command; kept so that the type has a name. Safe: a stop where the hardware goes on. -/
  | none
  deriving DecidableEq, Repr

/-- Why the model refuses a command. -/
inductive Refusal where
  /-- Raised by an arm of Dispatch whose command has no meaning yet. Safe: the model stops. -/
  | notModelled (mnemonic : String)
  deriving DecidableEq, Repr

/-- The instance before its first cold exit: por asserted (R451, R456), every register at its Cold value (R24), nothing
in any memory, no command waiting. [DESIGN CHOICE, log entry 3; DESIGN CHOICE, log entry 4] -/
def State.reset : State := {}

end Sys2Proof.Machine
end

