-- ==== Sys2Proof/Machine/Ops.lean ====
section
/-! DEFINITION. The shared operations: sparse memories in one canonical form, elements of the repeated registers, page
headers and their errors (R107, R109), the event recorder's input (R506 to R516), notices and the outbound queues (R422,
R423), timers in ticks, and free values. -/

namespace Sys2Proof.Machine

open Sys2Proof

/-! ### Sparse memories -/

/-- What a sparse memory holds at `a`: the listed value, or `d` (R453: cleared). [DESIGN CHOICE, log entry 5] -/
def memRead {α : Type} (d : α) : List (Nat × α) → Nat → α
  | [], _ => d
  | (k, v) :: m, a => if k = a then v else if a < k then d else memRead d m a

/-- Writing `v` at `a` keeps the list sorted, and lists nothing that equals `d`. -/
def memWrite {α : Type} [DecidableEq α] (d : α) : List (Nat × α) → Nat → α → List (Nat × α)
  | [], a, v => if v = d then [] else [(a, v)]
  | (k, w) :: m, a, v =>
    if a < k then (if v = d then (k, w) :: m else (a, v) :: (k, w) :: m)
    else if a = k then (if v = d then m else (a, v) :: m)
    else (k, w) :: memWrite d m a v

/-- The canonical form: addresses strictly rising from above `lo`, no entry equal to `d`. -/
def memWfFrom {α : Type} [DecidableEq α] (d : α) : Option Nat → List (Nat × α) → Bool
  | _, [] => true
  | lo, (k, v) :: m => (match lo with | none => true | some l => decide (l < k)) && decide (v ≠ d) && memWfFrom d (some k) m

/-- The canonical form of a sparse memory. [DESIGN CHOICE, log entry 5] -/
def memWf {α : Type} [DecidableEq α] (d : α) (m : List (Nat × α)) : Bool := memWfFrom d none m

/-- Writing a run of values from `a` upward. -/
def memWriteRun {α : Type} [DecidableEq α] (d : α) (m : List (Nat × α)) (a : Nat) : List α → List (Nat × α)
  | [] => m
  | v :: vs => memWriteRun d (memWrite d m a v) (a + 1) vs

/-- The `n` bytes of staging from `a` upward, as numbers. -/
def stgBytes (m : List Host.Cell) (a n : Nat) : List Nat :=
  (List.range n).map fun i => (memRead (0 : Byte) m (a + i)).toNat

/-- The little-endian word of `n` bytes at `a` of staging (R427, R464). -/
def stgWord (m : List Host.Cell) (a n : Nat) : Nat := ofBytesLE (stgBytes m a n)

/-! ### Elements of repeated registers, and masks -/

/-- Element `i` of a repeated register; `d` where there is none. -/
def vAt {α : Type} {n : Nat} (v : Vector α n) (i : Nat) (d : α) : α := if h : i < n then v[i] else d

/-- Element `i` changed by `f`; nothing where there is none. -/
def vMod {α : Type} {n : Nat} (v : Vector α n) (i : Nat) (f : α → α) : Vector α n :=
  if h : i < n then v.set i (f v[i]) else v

/-- Bit `i` of a mask set to `b`. -/
def putBit (m i : Nat) (b : Bool) : Nat := if b then m ||| (1 <<< i) else if m.testBit i then m ^^^ (1 <<< i) else m

/-- A mask of `n` bits, bit `i` given by `f i`. -/
def maskOf (n : Nat) (f : Nat → Bool) : Nat := (List.range n).foldl (fun m i => if f i then m ||| (1 <<< i) else m) 0

/-- How many of the low `n` bits are set. -/
def popcount (n m : Nat) : Nat := ((List.range n).filter fun i => m.testBit i).length

/-- The lowest of the numbers below `n` that `f` accepts. [DEDUCED, log entry 85] -/
def firstBelow (n : Nat) (f : Nat → Bool) : Option Nat := (List.range n).find? f

/-- A sum over the numbers below `n`. -/
def sumBelow (n : Nat) (f : Nat → Nat) : Nat := ((List.range n).map f).foldl (· + ·) 0

/-- The largest of `f` over the numbers below `n` (0 where none). -/
def maxBelow (n : Nat) (f : Nat → Nat) : Nat := ((List.range n).map f).foldl max 0

/-- ⌈a / b⌉. -/
def cdiv (a b : Nat) : Nat := (a + b - 1) / b

/-- A value held to `len` unsigned bits by saturation (R507). -/
def sat (len v : Nat) : Nat := min v (2 ^ len - 1)

/-- A signed item in one 16-bit data field, saturating (R507). -/
def sdat (v : Int) : Nat := twos (max (-32768) (min 32767 v)) 16

/-- An unsigned item over two 16-bit data fields, least significant first, saturating (R507). -/
def dat2 (v : Nat) : List Nat := [sat 32 v % 65536, sat 32 v / 65536]

/-! ### Ticks -/

/-- 1 µs is 4 ticks of 250 ns (R38). -/
def ticksPerUs : Nat := 4

/-- 1 ms is 4000 ticks (R510). -/
def ticksPerMs : Nat := 4000

/-- 1 s in ticks. -/
def ticksPerS : Nat := 4000000

/-- At least `k` ticks have passed since tick `t`. [DESIGN CHOICE, log entry 2] -/
def State.after (s : State) (t k : Nat) : Bool := decide (t + k ≤ s.now)

/-- The microseconds since tick `t`. -/
def State.usSince (s : State) (t : Nat) : Nat := (s.now - t) / ticksPerUs

/-- The milliseconds since tick `t`. -/
def State.msSince (s : State) (t : Nat) : Nat := (s.now - t) / ticksPerMs

/-- OPTIME: the restored base and the milliseconds counted since the cold exit (R510). -/
def optime (s : State) : Nat := s.evt.optBase + s.now / ticksPerMs

/-! ### Pages and their headers -/

abbrev pgCmn : Fin 23 := 0
abbrev pgSeq : Fin 23 := 1
abbrev pgTly : Fin 23 := 2
abbrev pgAdm : Fin 23 := 3
abbrev pgBeam : Fin 23 := 4
abbrev pgCtl : Fin 23 := 5
abbrev pgFcs : Fin 23 := 6
abbrev pgThm : Fin 23 := 7
abbrev pgSns : Fin 23 := 8
abbrev pgDom : Fin 23 := 9
abbrev pgClk : Fin 23 := 10
abbrev pgVrg : Fin 23 := 11
abbrev pgPmb : Fin 23 := 12
abbrev pgFrm : Fin 23 := 13
abbrev pgTre : Fin 23 := 14
abbrev pgMbs : Fin 23 := 15
abbrev pgMbn : Fin 23 := 16
abbrev pgRck : Fin 23 := 17
abbrev pgAut : Fin 23 := 18
abbrev pgRst : Fin 23 := 19
abbrev pgRel : Fin 23 := 20
abbrev pgEvt : Fin 23 := 21
abbrev pgTrc : Fin 23 := 22

/-- The header of page `p` changed by `f`. -/
def State.hdrMod (s : State) (p : Fin 23) (f : PageHdr → PageHdr) : State :=
  { s with hdr := s.hdr.set p (f s.hdr[p]) }

/-- An error of PAGE_ERR arrives: its bit is set; ERR_OVF where it was already set (R107). -/
def PageHdr.withErr (h : PageHdr) (b : Nat) : PageHdr :=
  if h.err.testBit b then { h with err := h.err ||| 1 } else { h with err := h.err ||| (1 <<< b) }

/-- An error bit of page `p` is set. -/
def State.setErr (s : State) (p : Fin 23) (b : Nat) : State := s.hdrMod p (·.withErr b)

/-- PAGE_STATUS.BUSY of page `p` (R103). -/
def State.setBusy (s : State) (p : Fin 23) (b : Bool) : State := s.hdrMod p fun h => { h with busy := b }

/-- The network domain carries its ports: they are live, and its clock is not lost (R59, R62, R64).
[DEDUCED, log entry 18; DEDUCED, log entry 46] -/
def netUp (s : State) : Bool := s.rst.live && !(vAt s.clk.dom s.cmn.straps.netCd.toNat {}).ST_LOST

/-! ### Free values -/

/-- The next free value, below `2 ^ len`: a value the spec does not fix. [DESIGN CHOICE, log entry 84] -/
def State.freeNat (s : State) (len : Nat) : Nat := Config.freeValue s.free % 2 ^ len

/-- The next free signed value. [DESIGN CHOICE, log entry 84] -/
def State.freeI (s : State) : Int := Config.freeInt s.free

/-- The free value has been taken. [DESIGN CHOICE, log entry 84] -/
def State.tookFree (s : State) : State := { s with free := s.free + 1 }

/-! ### Events -/

/-- The events that their chapters mark as always recorded (R110, R223, R317, R347, R374, R417, R450, R477, R505,
R522). -/
def evtAlways (c : Nat) : Bool :=
  (0x0410 ≤ c && c ≤ 0x041B) || [0x0110, 0x0114, 0x0116, 0x0710, 0x0711, 0x0712, 0x0814, 0x0815, 0x0A13, 0x0A14, 0x0B16,
    0x0D11, 0x0D18, 0x0E14, 0x0F10, 0x0F11, 0x1110, 0x1111, 0x1113, 0x1213, 0x1414, 0x1415, 0x141A, 0x1510, 0x1513,
    0x1515].contains c

/-- The bit of its page's PAGE_EVT_EN that enables irq_evt for an event: the error's own bit for the common errors, the
group's bit for the page-specific ones (R107, R109, and each page's table of header bits). -/
def evtEnBit (c : Nat) : Option Nat :=
  let l := c % 256
  if l < 8 then some l else
  match c / 256 with
  | 0x01 => if (0x11 ≤ l && l ≤ 0x13) || l = 0x15 then some 16 else if l = 0x17 then some 17 else none
  | 0x02 => if 0x10 ≤ l && l ≤ 0x15 then some 16 else none
  | 0x03 => if l = 0x10 || l = 0x11 then some 16 else if l = 0x12 then some 17 else if l = 0x14 || l = 0x15 then some 18 else none
  | 0x04 => if 0x1C ≤ l && l ≤ 0x1E then some 16 else none
  | 0x05 => if 0x10 ≤ l && l ≤ 0x13 then some 16 else if l = 0x14 || l = 0x17 then some 17 else if l = 0x16 then some 18
      else if l = 0x15 then some 19 else none
  | 0x06 => if l = 0x10 || l = 0x11 then some 16 else if 0x12 ≤ l && l ≤ 0x16 then some 17 else if l = 0x17 then some 18 else none
  | 0x07 => if l = 0x13 || l = 0x14 then some 16 else if l = 0x15 then some 17 else if l = 0x16 || l = 0x17 || l = 0x1B then some 18
      else if l = 0x18 || l = 0x19 then some 19 else if l = 0x1A then some 20 else none
  | 0x08 => if (0x10 ≤ l && l ≤ 0x12) || l = 0x16 then some 16 else if l = 0x13 || l = 0x17 then some 17 else none
  | 0x09 => if l = 0x11 then some 17 else if l = 0x10 || l = 0x12 || l = 0x13 then some 16 else none
  | 0x0A => if l = 0x10 || l = 0x11 then some 16 else if l = 0x12 then some 17 else none
  | 0x0B => if l = 0x10 || l = 0x11 || l = 0x16 then some 16 else if 0x13 ≤ l && l ≤ 0x15 then some 17 else none
  | 0x0C => if 0x10 ≤ l && l ≤ 0x14 then some 16 else if 0x15 ≤ l && l ≤ 0x17 then some 17 else none
  | 0x0D => if 0x12 ≤ l && l ≤ 0x15 then some 16 else if [0x10, 0x16, 0x17, 0x19, 0x1A].contains l then some 17 else none
  | 0x0E => if [0x10, 0x11, 0x12, 0x16, 0x17].contains l then some 16 else if [0x13, 0x15, 0x18].contains l then some 17 else none
  | 0x0F => if l = 0x15 then some 17 else if l = 0x12 || l = 0x13 then some 16 else if l = 0x14 then some 18 else none
  | 0x10 => if l = 0x15 then some 17 else if l = 0x12 || l = 0x13 then some 16 else none
  | 0x11 => if [0x12, 0x14, 0x15].contains l then some 17 else if l = 0x16 || l = 0x17 then some 16 else none
  | 0x12 => if (0x10 ≤ l && l ≤ 0x12) || l = 0x14 then some 16 else none
  | 0x13 => if l = 0x14 then some 17 else if (0x10 ≤ l && l ≤ 0x13) || l = 0x15 || l = 0x16 then some 16 else none
  | 0x14 => if 0x10 ≤ l && l ≤ 0x13 then some 16 else if 0x16 ≤ l && l ≤ 0x18 then some 17 else if l = 0x19 then some 18 else none
  | 0x15 => if l = 0x11 || l = 0x14 then some 16 else none
  | 0x16 => if l = 0x10 || l = 0x11 then some 16 else none
  | _ => none

/-- Whether a record of this code sets EVT_IRQ.PEND when it is written (R521). -/
def evtIrq (s : State) (c : Nat) : Bool :=
  evtAlways c || (match evtEnBit c with
    | some b => (vAt s.hdr (c / 256) {}).evtEn.testBit b
    | none => false)

/-- Bytes 0 to 27 of a record, stamped at the moment the event enters the queue (R506, R509, R510, R511). -/
def evtBody (s : State) (code : Nat) (suppr lost : Bool) (d : List Nat) : Nat :=
  let flags := b2n (evtAlways code) + 2 * b2n s.evt.norest + 4 * b2n (!s.tly.EPOCH_GOV) + 8 * b2n lost
    + 16 * b2n (s.rst.epOpen && !s.rst.epCold) + 32 * b2n suppr
  let age := sat 14 (s.usSince s.tly.bndAt)
  code % 65536 + (flags <<< 16) + (s.cmn.straps.framePos.toNat <<< 24) + ((optime s % 2 ^ 48) <<< 32) + (age <<< 80)
    + ((s.evt.PCYCLE % 2 ^ 32) <<< 96) + ((s.frm.FSEQ % 2 ^ 24) <<< 128) + ((s.tly.EPOCH_NUM % 256) <<< 152)
    + ((d.getD 0 0 % 65536) <<< 160) + ((d.getD 1 0 % 65536) <<< 176) + ((d.getD 2 0 % 65536) <<< 192)
    + ((d.getD 3 0 % 65536) <<< 208)

/-- Events that enter on the same tick stand by ascending CODE (R509). [DEDUCED, log entry 76] -/
def evtInsert (e : EvtEntry) : List EvtEntry → List EvtEntry
  | [] => [e]
  | x :: l => if x.at_ = e.at_ ∧ e.code < x.code then e :: x :: l else x :: evtInsert e l

/-- An event takes its place in the input queue, or is dropped and counted where the queue has no room for it: 24
entries for ordinary events, 32 for always-recorded ones (R516). -/
def State.enqueue (s : State) (code : Nat) (suppr : Bool) (d : List Nat) : State :=
  let alw := evtAlways code
  if s.evt.queue.length < (if alw then 32 else 24) then
    { s with evt.queue := evtInsert { code := code, alw := alw, body := evtBody s code suppr false d, at_ := s.now } s.evt.queue }
  else
    let s := if alw then { s with evt.DROP_ALW := satAdd 16 s.evt.DROP_ALW 1, evt.dropAlw := s.evt.dropAlw + 1 }
      else { s with evt.DROP_ORD := satAdd 16 s.evt.DROP_ORD 1, evt.dropOrd := s.evt.dropOrd + 1 }
    s.setErr pgEvt 16

/-- Counting one occurrence of an ordinary event in the present millisecond: whether it is within the limit, and the
counts after it (R515). -/
def suppCount (lim code : Nat) : List (Nat × Nat × Nat) → Bool × List (Nat × Nat × Nat)
  | [] => (true, [(code, 1, 0)])
  | (c, n, k) :: l =>
    if c = code then (if n < lim then (true, (c, n + 1, k) :: l) else (false, (c, n, k + 1) :: l))
    else let r := suppCount lim code l; (r.1, (c, n, k) :: r.2)

/-- Events whose recording failure logging mutes: KEY_FAIL on every page, and 0x1210 (R436). -/
def logMuted (s : State) (code : Nat) : Bool := s.aut.STAT_HS_LOGMUTE && (code % 256 = 0x05 || code = 0x1210)

/-- An event is raised (R506 to R516): muted, suppressed, queued or dropped. -/
def State.event (s : State) (code : Nat) (d : List Nat := []) : State :=
  if logMuted s code then s
  else if evtAlways code then
    { s with evt.lastAlw := code, evt.alwCnt := satAdd 16 s.evt.alwCnt 1 }.enqueue code false d
  else
    let r := suppCount (max 1 s.evt.CFG_SUPP_LIM) code s.evt.supp
    let s := { s with evt.supp := r.2 }
    if r.1 then s.enqueue code false d else s.setErr pgEvt 17

/-- An error of PAGE_ERR with its event: the bit is set; a masked error writes no record, unless the event is always
recorded (R107, R110, R516). -/
def State.fault (s : State) (p : Fin 23) (b code : Nat) (d : List Nat := []) : State :=
  let masked := s.hdr[p].errMask.testBit b && !evtAlways code
  let s := s.setErr p b
  if masked then s else s.event code d

/-- A word delivered on a later attempt (R478). -/
def State.wordReplayed (s : State) : State := { s with rel.REPLAY_REPLAYED := satAdd 16 s.rel.REPLAY_REPLAYED 1 }

/-- A word that failed its three attempts (R478), by the place of its path in the table of R479, from 1. -/
def State.wordRetired (s : State) (path index : Nat) : State :=
  { s with rel.REPLAY_RETIRED := satAdd 16 s.rel.REPLAY_RETIRED 1 }.fault pgRel 16 0x1410 [path, index]

/-! ### Notices to the host -/

/-- The mailbox page of a channel. -/
def State.mbx (s : State) : Chan → Mbx
  | .mbs => s.mbs
  | .mbn => s.mbn

/-- The mailbox page of a channel changed by `f`. -/
def State.mbxMod (s : State) (c : Chan) (f : Mbx → Mbx) : State :=
  match c with
  | .mbs => { s with mbs := f s.mbs }
  | .mbn => { s with mbn := f s.mbn }

/-- The page number of a channel. -/
def chanPage : Chan → Fin 23
  | .mbs => pgMbs
  | .mbn => pgMbn

/-- A word for the outbound queue: queued, or dropped and counted where the queue holds eight; the overflow event is
recorded once while OVF stays set (R423). -/
def State.sendOut (s : State) (c : Chan) (kind sub data : Nat) : State :=
  let m := s.mbx c
  let w := (kind % 256) * 2 ^ 24 + (sub % 256) * 2 ^ 16 + data % 65536
  if m.outQ.length < 8 then s.mbxMod c fun m => { m with outQ := m.outQ ++ [w] }
  else
    let s' := s.mbxMod c fun m => { m with OUT_STAT_OVF := true, OUT_STAT_DROPPED := satAdd 16 m.OUT_STAT_DROPPED 1 }
    if m.OUT_STAT_OVF then s'.setErr (chanPage c) 17
    else s'.fault (chanPage c) 17 ((chanPage c).val * 256 + 0x12) [kind]

/-- A notice on both channels, each while its NOTE_EN bit is 1 (R422). -/
def State.notice (s : State) (kind sub data : Nat) : State :=
  let b := kind - 3
  let s := if s.mbs.CFG_NOTE_EN.testBit b then s.sendOut .mbs kind sub data else s
  if s.mbn.CFG_NOTE_EN.testBit b then s.sendOut .mbn kind sub data else s

/-! ### Straps and fuses -/

/-- The ceilings region is good: its CRC holds and its ceilings are not all zero (R91, R111). -/
def ceilOk (f : Fuses) : Bool :=
  f.ceilCrc && !(f.pDie = 0 && f.pPkg = 0 && f.tTrip = 0 && f.tRate = 0 && f.tStack = 0 &&
    (List.range 16).all fun r => (vAt f.rail r ⟨0, 0, 0, 0, 0⟩).iCeil = 0)

/-- KEY_OK: bit 0 host-secure, 1 rack, 2 tree, 3 image (R111, R433). -/
def keyOkMask (s : State) : Nat := maskOf 4 fun i => vAt s.cmn.fuses.keyCrc i false

/-- The bytes of a key slot (R91, R433). -/
def State.key (s : State) (i : Nat) : List Nat := keyBytes (vAt s.cmn.fuses.key i 0)

/-- The die identity as 8 bytes, least significant first (R119). -/
def dieIdBytes (s : State) : List Nat := bytesLE 8 s.cmn.fuses.dieId.toNat

end Sys2Proof.Machine
end

