-- ==== Sys2Proof/Machine/Recorder.lean ====
section
/-! DEFINITION. The event recorder's memory and the telemetry stream (16_events_and_telemetry.md): writing, freezing,
flushing and erasing the recorder (R506 to R520), admitting records to the stream (R523, R524), and their commands. -/

namespace Sys2Proof.Machine

open Sys2Proof

/-! ### The telemetry stream -/

/-- The chunks queued in the stream buffer (R523). -/
def trcChunks (s : State) : Nat := (s.trc.recs.map fun r => r.chunks.length).foldl (· + ·) 0

/-- TRC_STAT.HEAD_TYPE. -/
def trcHeadType (s : State) : Nat := match s.trc.recs with | [] => 0 | r :: _ => r.typ

/-- TRC_STAT.HEAD_PAR. -/
def trcHeadPar (s : State) : Bool := match s.trc.recs with | [] => false | r :: _ => r.par

/-- TRC_STAT.HEAD_FIRST. -/
def trcHeadFirst (s : State) : Bool := match s.trc.recs with | [] => false | r :: _ => r.first

/-- TRC_RD_Dj: bytes 4j to 4j + 3 of the oldest chunk (R525). -/
def trcHeadWord (s : State) (j : Nat) : Nat :=
  match s.trc.recs with
  | [] => 0
  | r :: _ => bitsOf (r.chunks.headD 0) (32 * j) 32

/-- A record of bytes as chunks of 32 bytes, 256 bits each. -/
def chunksOf : Nat → List Nat → List Nat
  | 0, _ => []
  | k + 1, bs => ofBytesLE (bs.take 32) :: chunksOf k (bs.drop 32)

/-- A whole record enters the stream buffer if the free chunks hold all of it; the answer says whether it did (R523). -/
def State.trcPush (s : State) (typ : Nat) (bs : List Nat) : Bool × State :=
  let n := bs.length / 32
  let c := trcChunks s
  if c + n ≤ 1024 then
    (true, { s with trc.recs := s.trc.recs ++ [{ typ := typ, chunks := chunksOf n bs }], trc.PEAK := max s.trc.PEAK (c + n) })
  else (false, s)

/-- A record of a type dropped under R523: counted, and 0x1610 recorded at most once per millisecond for its type
(R525). `k` is 0 for 0xE1, 1 for 0xE2, 2 for 0xE4. -/
def State.trcDropped (s : State) (k typ : Nat) : State :=
  let s := match k with
    | 0 => { s with trc.DROP0_E1 := satAdd 16 s.trc.DROP0_E1 1, trc.lostE1 := true }
    | 1 => { s with trc.DROP0_E2 := satAdd 16 s.trc.DROP0_E2 1, trc.lostE2 := true }
    | _ => { s with trc.DROP1_E4 := satAdd 16 s.trc.DROP1_E4 1, trc.lostE4 := true }
  let n := vAt s.trc.dropN k 0 + 1
  let ms := optime s
  if vAt s.trc.dropMs k none = some ms then ({ s with trc.dropN := vMod s.trc.dropN k fun _ => n }).setErr pgTrc 16
  else
    let s := { s with trc.dropN := vMod s.trc.dropN k fun _ => 0, trc.dropMs := vMod s.trc.dropMs k fun _ => some ms }
    s.fault pgTrc 16 0x1610 [typ, sat 16 n]

/-- The 16-byte header of a stream record of type 0xE1, 0xE2 or 0xE4 (R524). -/
def trcHeader (s : State) (typ seqNo : Nat) (dropped drain : Bool) : List Nat :=
  [typ, b2n dropped + 2 * b2n drain + 4 * b2n (!s.tly.EPOCH_GOV)] ++ bytesLE 2 seqNo ++
  [s.tly.EPOCH_NUM % 256, s.cmn.straps.framePos.toNat] ++ bytesLE 2 (sat 16 (s.usSince s.tly.bndAt)) ++
  bytesLE 3 s.frm.FSEQ ++ [0] ++ bytesLE 4 s.cmn.fuses.dieId.toNat

/-- A stream record: header and body filled with zeros to its size less 4, then the CRC-32 over every byte before it
(R524). -/
def trcRecord (size : Nat) (hd body : List Nat) : List Nat :=
  let bs := hd ++ body
  let bs := bs ++ List.replicate (size - 4 - bs.length) 0
  bs ++ bytesLE 4 (crc32 bs)

/-- Trace point 0xE4: a copy of each record written to the recorder (R524). -/
def State.trcEvent (s : State) (rec_ : Nat) : State :=
  if s.trc.CFG_EVC_EN then
    let bs := trcRecord 64 (trcHeader s 0xE4 s.trc.seqE4 s.trc.lostE4 s.tly.EPOCH_DRAIN) (bytesLE 32 rec_)
    let r := s.trcPush 0xE4 bs
    if r.1 then { r.2 with trc.seqE4 := (s.trc.seqE4 + 1) % 65536, trc.lostE4 := false } else r.2.trcDropped 2 0xE4
  else s

/-! ### The recorder's slots -/

/-- The slot lies in a row that R483 has taken out of use (R512). -/
def slotOut (s : State) (k : Nat) : Bool := s.evt.outRows.contains (k / 2)

/-- N: the usable slots (R512). -/
def usableSlots (s : State) : Nat := 4096 - 2 * s.evt.outRows.length

/-- The first usable slot from `k` upward, modulo 4096, looking at `fuel` slots. -/
def usableFrom (s : State) : Nat → Nat → Nat
  | 0, k => k % 4096
  | f + 1, k => if slotOut s (k % 4096) then usableFrom s f (k + 1) else k % 4096

/-- The slot that follows `k` (R512). -/
def nextSlot (s : State) (k : Nat) : Nat := usableFrom s (2 * s.evt.outRows.length) (k + 1)

/-- The `j`-th usable slot of the reserve ring that begins at `k` (R514). -/
def resSlot (s : State) : Nat → Nat → Nat
  | 0, k => usableFrom s (2 * s.evt.outRows.length) k
  | j + 1, k => resSlot s j (nextSlot s (usableFrom s (2 * s.evt.outRows.length) k))

/-- A record of 32 bytes: bytes 0 to 27 as stamped, NUM, CHK over bytes 0 to 29, and MARK (R506). -/
def recordWord (body num : Nat) : Nat :=
  let b30 := body % 2 ^ 224 + ((num % 65536) <<< 224)
  b30 + ((crc8 (bytesLE 30 b30)) <<< 240) + (0xA5 <<< 248)

/-- A slot takes a record; EVT_RD_STAT.STALE shows that the copied slot was written since (R520). -/
def State.putSlot (s : State) (k w : Nat) : State :=
  { s with evt.slots := memWrite 0 s.evt.slots k w,
           evt.RD_STAT_STALE := s.evt.RD_STAT_STALE || decide (s.evt.rdSlot = some k) }

/-- The recorder freezes with a cause; one already frozen stays so (R514). -/
def State.freeze (s : State) (cause : Nat) : State :=
  if s.evt.STAT_FROZEN then s
  else
    let k := usableFrom s (2 * s.evt.outRows.length) s.evt.STAT_WR
    { s with evt.STAT_FROZEN := true, evt.FRZ_CAUSE := cause, evt.FRZ_FRZ_SLOT := k, evt.CAP_RES_NEXT := 0,
             evt.lastRes := none }.fault pgEvt 18 0x1510 [cause, k]

/-- The recorder unfreezes: writing resumes at the slot that follows the last reserve slot written (R514). -/
def State.unfreeze (s : State) : State :=
  if s.evt.STAT_FROZEN then
    let wr := match s.evt.lastRes with | some k => nextSlot s k | none => s.evt.FRZ_FRZ_SLOT
    { s with evt.STAT_FROZEN := false, evt.STAT_WR := wr, evt.fill := 0, evt.lastRes := none }
  else s

/-- MODE 1 freezes the recorder once N − 64 records have been written since the last erase or unfreeze (R514). -/
def State.freezeIfFull (s : State) : State :=
  if s.evt.CFG_MODE && decide (usableSlots s - 64 ≤ s.evt.fill) then s.freeze 1 else s

/-- The end of a flush: FLUSHED, and the freeze of cause 2 where TRIP_FREEZE asks for it (R514, R517). -/
def State.flushEnd (s : State) : State :=
  let s := { s with evt.STAT_FLUSH_ACT := false, evt.STAT_FLUSHED := true }
  if s.evt.CFG_TRIP_FREEZE then s.freeze 2 else s

/-- A flush starts: it ends at once where nothing is queued (R517). -/
def State.flush (s : State) : State :=
  if s.evt.queue.isEmpty then s.flushEnd else { s with evt.STAT_FLUSH_ACT := true }

/-- Once the queue has room again, 0x1515 carries both drop counts since the previous one (R516). -/
def State.overflowRecord (s : State) : State :=
  if s.evt.dropOrd + s.evt.dropAlw = 0 ∨ 32 ≤ s.evt.queue.length then s
  else { s with evt.dropOrd := 0, evt.dropAlw := 0 }.event 0x1515 [sat 16 s.evt.dropOrd, sat 16 s.evt.dropAlw]

/-- A record has been written in slot `k`: the counts, the interrupt and the event copy (R521, R524, R528). -/
def State.recordDone (s : State) (e : EvtEntry) (k : Nat) : State :=
  let w := recordWord e.body s.evt.num
  let irq := evtIrq s e.code
  let s := s.putSlot k w
  { s with evt.num := (s.evt.num + 1) % 65536, evt.COUNT := satAdd 32 s.evt.COUNT 1,
           evt.STAT_FLUSHED := s.evt.STAT_FLUSHED && e.alw,
           evt.IRQ_PEND := s.evt.IRQ_PEND || irq,
           evt.IRQ_LAST_CODE := if irq then e.code else s.evt.IRQ_LAST_CODE }.trcEvent w

/-- One record leaves the queue and is written; a frozen recorder writes only always-recorded ones, into its reserve
ring (R508, R512, R514). -/
def State.writeRecord (s : State) (e : EvtEntry) : State :=
  if s.evt.STAT_FROZEN then
    if e.alw then
      let k := resSlot s s.evt.CAP_RES_NEXT s.evt.FRZ_FRZ_SLOT
      { s with evt.CAP_RES_NEXT := (s.evt.CAP_RES_NEXT + 1) % 64, evt.lastRes := some k }.recordDone e k
    else { s with evt.DROP_ORD := satAdd 16 s.evt.DROP_ORD 1 }
  else
    let k := usableFrom s (2 * s.evt.outRows.length) s.evt.STAT_WR
    let s := s.recordDone e k
    { s with evt.STAT_WR := nextSlot s k, evt.fill := s.evt.fill + 1 }.freezeIfFull

/-- EVENT_RECORD_WRITE (R509): the oldest queued event is written. Events that arrive during an erase wait (R518). -/
def execEventRecordWrite (s : State) : Host.Outcome State Fault Refusal :=
  .next (match s.evt.queue with
    | [] => s
    | e :: q =>
      if s.evt.STAT_ERASING then s
      else
        let s := { s with evt.queue := q }.writeRecord e
        let s := s.overflowRecord
        if s.evt.STAT_FLUSH_ACT && s.evt.queue.isEmpty then s.flushEnd else s)

/-- One summary record, with SUPPR set (R515). -/
def State.summary (s : State) (ck : Nat × Nat) : State := s.enqueue 0x1511 true [ck.1, sat 16 ck.2]

/-- SUPPRESSION_SUMMARY (R515): when the millisecond has ended, up to 8 summaries are written, and the counts of further
codes go to EVT_SUPP. -/
def execSuppressionSummary (s : State) : Host.Outcome State Fault Refusal :=
  let l := s.evt.suppDone
  let rest := ((l.drop 8).map (·.2)).foldl (· + ·) 0
  let s := { s with evt.suppDone := [], evt.SUPP := satAdd 32 s.evt.SUPP rest }
  .next ((l.take 8).foldl State.summary s)

/-- Merging the suppressions of a millisecond into those that wait for their summary. -/
def suppMerge (l : List (Nat × Nat)) (c k : Nat) : List (Nat × Nat) :=
  match l with
  | [] => [(c, k)]
  | (c', k') :: l => if c' = c then (c, k' + k) :: l else (c', k') :: suppMerge l c k

/-- The millisecond of OPTIME ends: its counts start afresh, and the codes suppressed in it wait for their summary
(R515). [DEDUCED, log entry 76] -/
def State.suppMsEnd (s : State) : State :=
  let sup := s.evt.supp.filter fun x => x.2.2 ≠ 0
  { s with evt.supp := [], evt.suppDone := sup.foldl (fun l x => suppMerge l x.1 x.2.2) s.evt.suppDone }

/-- A placeholder in a slot of a row that moved to a spare row: CODE 0x1512, LOST set; it advances neither WR nor NUM
(R513). -/
def State.placeholder (s : State) (row k : Nat) : State :=
  s.putSlot k (recordWord (evtBody s 0x1512 false true [row]) s.evt.num)

/-- A recorder row has moved to a spare row: a placeholder in each of its two slots (R513). -/
def State.recorderRowMoved (s : State) (row : Nat) : State :=
  (s.placeholder row (2 * row)).placeholder row (2 * row + 1)

/-- A recorder row goes out of use: two slots fewer (R483, R512). -/
def State.recorderRowOut (s : State) (row : Nat) : State :=
  if s.evt.outRows.contains row then s
  else
    let s := { s with evt.outRows := row :: s.evt.outRows }
    let s := { s with evt.CAP_USABLE := usableSlots s, evt.slots := memWrite 0 (memWrite 0 s.evt.slots (2 * row) 0) (2 * row + 1) 0 }
    { s with evt.STAT_WR := usableFrom s (2 * s.evt.outRows.length) s.evt.STAT_WR }

/-- EVT_RD_SEL (R520): the whole slot is copied; CHK is judged only where MARK is 0xA5 (R508). -/
def State.copySlot (s : State) (k : Nat) : State :=
  let w := memRead 0 s.evt.slots k
  let bad := decide (w >>> 248 = 0xA5) && decide (crc8 (bytesLE 30 w) ≠ bitsOf w 240 8)
  { s with evt.RD_SEL := k, evt.rdSlot := some k, evt.rd := Vector.ofFn fun j : Fin 8 => { RD_D := bitsOf w (32 * j.val) 32 },
           evt.RD_STAT_STALE := false, evt.RD_STAT_CHK_BAD := bad,
           evt.RD_STAT_CHK_CNT := if bad then satAdd 16 s.evt.RD_STAT_CHK_CNT 1 else s.evt.RD_STAT_CHK_CNT }

/-- EVT_CFG as written: MODE and FREEZE both 0 unfreeze, FREEZE 1 freezes with cause 3, and MODE 1 freezes at once where
the count of R514 has been reached (R514, R528). -/
def State.writeEvtCfg (s : State) (w : Nat) : State :=
  let s := { s with evt.CFG_MODE := bitAt w 0, evt.CFG_TRIP_FREEZE := bitAt w 1, evt.CFG_FREEZE := bitAt w 2,
                    evt.CFG_SUPP_LIM := bitsOf w 8 8 }
  if bitAt w 2 then s.freeze 3 else if bitAt w 0 then s.freezeIfFull else s.unfreeze

/-- EVT_ERASE with GO at 1: the erase begins (R518). -/
def State.eraseStart (s : State) : State := ({ s with evt.STAT_ERASING := true }).setBusy pgEvt true

/-- The slots whose MARK shows a record (R508). -/
def markedSlots (s : State) : Nat := (s.evt.slots.filter fun c => c.2 >>> 248 = 0xA5).length

/-- Every MARK, bits 255 to 248 of its slot, becomes 0; the other bytes stay (R518). [DEDUCED, log entry 76] -/
def clearMarks : List (Nat × Nat) → List (Nat × Nat)
  | [] => []
  | c :: l => if c.2 % 2 ^ 248 = 0 then clearMarks l else (c.1, c.2 % 2 ^ 248) :: clearMarks l

/-- ERASE_COMPLETE (R518): every MARK is 0; WR, NUM, EVT_COUNT and the suppression counts are 0; the recorder is
unfrozen; 0x1513 is the first record, ahead of the events that waited in the queue. [DESIGN CHOICE, log entry 82] -/
def execEraseComplete (s : State) : Host.Outcome State Fault Refusal :=
  .next (
    if s.evt.STAT_ERASING then
      let n := markedSlots s
      let q := s.evt.queue
      let s := { s with evt.slots := clearMarks s.evt.slots, evt.STAT_WR := usableFrom s (2 * s.evt.outRows.length) 0, evt.num := 0, evt.COUNT := 0,
                        evt.SUPP := 0, evt.supp := [], evt.suppDone := [], evt.STAT_FROZEN := false, evt.lastRes := none,
                        evt.fill := 0, evt.STAT_ERASING := false, evt.queue := [],
                        evt.RD_STAT_STALE := s.evt.RD_STAT_STALE || s.evt.rdSlot.isSome }
      let s := (s.setBusy pgEvt false).event 0x1513 [sat 16 n]
      { s with evt.queue := s.evt.queue ++ q }
    else s)

/-- TRC_POP (R525): the head chunk goes; where it failed parity, every chunk of its record goes, counted and recorded. -/
def State.trcPop (s : State) : State :=
  match s.trc.recs with
  | [] => s
  | r :: rs =>
    if r.par then
      { s with trc.recs := rs, trc.DROP1_PAR := satAdd 16 s.trc.DROP1_PAR 1 }.fault pgTrc 17 0x1611
        [sat 16 (s.trc.DROP1_PAR + 1)]
    else if r.chunks.length ≤ 1 then { s with trc.recs := rs }
    else { s with trc.recs := { r with chunks := r.chunks.drop 1, first := false } :: rs }

end Sys2Proof.Machine
end

