-- ==== Sys2Proof/Machine/Flags.lean ====
section
/-! DEFINITION. What the state shows: the instance state and its causes (R43 to R45, R533), the readiness checks of a load
(R462), the interrupt lines (R67, R425, R521), and the ages that registers show. -/

namespace Sys2Proof.Machine

open Sys2Proof

/-- Codes of R43. -/
abbrev stSafe : Nat := 0
abbrev stLoading : Nat := 1
abbrev stRun : Nat := 2
abbrev stDegraded : Nat := 3
abbrev stOrphan : Nat := 4
abbrev stEmergency : Nat := 5
abbrev stTripped : Nat := 6

/-- A spare is in use: a detector (R491), a sensor (R284), a lane (R246), a tally row (R168), a memory row (R482), a
phase (R360), a frame lane (R379), or the relaxation oscillator in the crystal's place (R340). -/
def spareInUse (s : State) : Bool :=
  (List.range 64).any (fun d => (vAt s.beam.det d {}).DD_SUBST) ||
  (List.range 6).any (fun g => (vAt s.thm.grp g {}).GRP_SPARE_IN) ||
  s.ctl.MU_LANES != 0 || s.tly.FAULT_CNT_SPARED != 0 ||
  (List.range 6).any (fun k => (vAt s.rel.mem k {}).MEM_MAPPED != 0) ||
  (List.range 16).any (fun r => (vAt s.vrg.rail r {}).PHST_SPARE_IN) ||
  s.frm.LINK_E_LANES.testBit 4 || s.frm.LINK_W_LANES.testBit 4 ||
  (!s.clk.TK_SRC && s.clk.TK_XTAL_SEEN && s.clk.TK_CFG)

/-- A limit is reduced: a rail in blind mode (R488), a rail of reduced capacity (R361), a failed detector without a
spare, a lost sensor group (R285), untrimmed sensors (R286), a register word with no spare left (R480), or the condition of R36. -/
def limitReduced (s : State) : Bool :=
  s.rel.BLIND_BUS != 0 || s.rel.BLIND_TG != 0 ||
  (List.range 16).any (fun r => (vAt s.vrg.rail r {}).PHST_REDUCED) ||
  (List.range 64).any (fun d => (vAt s.beam.det d {}).DD_FAILED && !(vAt s.beam.det d {}).DD_SUBST) ||
  (List.range 6).any (fun g => (vAt s.thm.grp g {}).GRP_LOST) ||
  (List.range 30).any (fun k => (vAt s.sns.ts k {}).TS_UNTRIM) ||
  !s.rel.regDead.isEmpty || s.sns.RANGE_OUT

/-- A DEGRADED cause is present (R44, R45, SEQ_STATE.C_DEGR). -/
def degraded (s : State) : Bool := spareInUse s || limitReduced s

/-- A TRIPPED cause is present: the instance is TRIPPED, or a trip latch or SHUT_LATCH is set (R45, R533, R476). -/
def trippedCause (s : State) : Bool := s.seq.tripped || s.beam.STATE_TRIP_LATCH || s.thm.STATE_SHUT_LATCH

/-- The state that SEQ_STATE shows: the highest cause in the order of R45. [DEDUCED, log entry 9; DEDUCED, log entry 29] -/
def shownState (s : State) : Nat :=
  if s.seq.tripped then stTripped
  else if s.beam.inEmg then stEmergency
  else match s.seq.base with
    | .safe => stSafe
    | .loading => stLoading
    | .running => if s.seq.STATE_C_ORPHAN then stOrphan else if degraded s then stDegraded else stRun

/-- RUN, DEGRADED or ORPHAN: the states in which admission is open and the control law's output is in force (R47). -/
def inService (s : State) : Bool := let x := shownState s; decide (2 ≤ x ∧ x ≤ 4)

/-- The straps are valid (R81). -/
def strapsValid (s : State) : Bool := decide (s.rst.STRAP_ERR = 0)

/-- Checks 2 to 7 of R462, in order: the status of the first that fails. -/
def loadCheck (s : State) : Option Nat :=
  if s.seq.DRV_VER ≠ 3 then some 0x10
  else if !strapsValid s then some 0x11
  else if s.beam.STATE_BUILTIN then some 0x12
  else if !s.rst.SELFTEST_DONE then some 0x15
  else if s.frm.FORM_STATE ≠ 2 ∨ s.frm.FORM_ERR ≠ 0 then some 0x13
  else if s.beam.STATE_TRIP_LATCH || s.thm.STATE_SHUT_LATCH then some 0x14
  else none

/-- SEQ_STATE.READY (R462). -/
def ready (s : State) : Bool := (loadCheck s).isNone

/-- MBS_HB_STAT.AGE: ms since the last heartbeat, 0xFFFF while none has arrived since the reset (R445). -/
def hbAge (s : State) : Nat := match s.mbs.beatAt with | some t => sat 16 (s.msSince t) | none => 0xFFFF

/-- AUT_WCHK_STAT.AGE: ticks since the check was armed (R449). -/
def wchkAge (s : State) : Nat := match s.aut.pend with | some c => s.now - c.at_ | none => 0

/-- RCK_STAT.MUTE_LEFT: what remains of the 10 s mute, in 100 ms (R440, R447). -/
def rckMuteLeft (s : State) : Nat :=
  if s.rck.STAT_MUTED then cdiv (10 * ticksPerS - (s.now - s.rck.muteAt)) (100 * ticksPerMs) else 0

/-- irq_mbs or irq_mbn (R425). -/
def irqMbx (s : State) (c : Chan) : Bool :=
  let m := s.mbx c
  decide (0 < m.outQ.length) || m.OUT_STAT_OVF || m.OUT_STAT_ABORTED || decide (m.IN_STAT_ABORTED ≠ 0)

/-- irq_evt (R521). -/
def irqEvt (s : State) : Bool := s.evt.IRQ_PEND

/-- irq_crit: high while SEQ_STATE shows EMERGENCY or TRIPPED (R67). -/
def irqCrit (s : State) : Bool := decide (5 ≤ shownState s)

/-- A domain has an internal wake pending for a doorbell (R425). -/
def doorbellWake (s : State) (d : Nat) : Bool :=
  (decide (0 < s.mbs.outQ.length) && decide (s.mbs.CFG_RX_DOM = d)) ||
  (decide (0 < s.mbn.outQ.length) && decide (s.mbn.CFG_RX_DOM = d))

/-- An in-band interrupt of the rack port, where ENINT is set (R438). -/
def State.rackIbi (s : State) (payload : Nat) : State :=
  if s.rck.STAT_IBI_EN then { s with rck.ibi := s.rck.ibi ++ [payload] } else s

/-- A change of the state that SEQ_STATE shows is recorded with the code of what brought it, and noticed to the host
(R422, R477); entering EMERGENCY or TRIPPED raises the rack port's interrupt (R438). A port held by a reset takes neither.
[DEDUCED, log entry 31; DEDUCED, log entry 77] -/
def State.settle (s : State) (cause : Nat) : State :=
  let x := shownState s
  if x = s.seq.shown then s
  else
    let old := s.seq.shown
    let s := { s with seq.shown := x }.event 0x0110 [old, x, cause]
    if !s.rst.live then s
    else if 5 ≤ x then (s.notice 0x03 x cause).rackIbi 0x02
    else s.notice 0x03 x cause

end Sys2Proof.Machine
end

