-- ==== Sys2Proof/Machine/Channels.lean ====
section
/-! DEFINITION. The host channels (13_host_and_rack.md): the word mailboxes, the block mailbox, the heartbeat and ORPHAN,
and the keyed checks of the host-secure channel (R118 to R120, R418 to R436). -/

namespace Sys2Proof.Machine

open Sys2Proof

/-! ### Word mailboxes -/

/-- A write to an empty inbound box: the word is held, its FULL bit set, and the box joins the order (R420). -/
def State.boxFill (s : State) (c : Chan) (k w : Nat) : State :=
  s.mbxMod c fun m => { m with inb := vMod m.inb k fun _ => { IN := w }, IN_STAT_FULL := putBit m.IN_STAT_FULL k true, order := m.order ++ [k] }

/-- A write to a full box is refused and counted (R420). -/
def State.boxRefuse (s : State) (c : Chan) : State :=
  (s.mbxMod c fun m => { m with IN_STAT_REFUSED := satAdd 16 m.IN_STAT_REFUSED 1 }).setErr (chanPage c) 16

/-- The word Lytrum takes next: the box written first among the full ones (R420). -/
def boxHead (s : State) (c : Chan) : Option (Nat × Nat) :=
  match (s.mbx c).order with
  | [] => none
  | k :: _ => some (k, (vAt (s.mbx c).inb k {}).IN)

/-- Lytrum has acted on the word it took: its FULL bit clears (R420). -/
def State.boxTake (s : State) (c : Chan) (k : Nat) : State :=
  s.mbxMod c fun m => { m with IN_STAT_FULL := putBit m.IN_STAT_FULL k false, order := m.order.drop 1 }

/-- The share in force for admission, mW: min(S, orphan cap); the cap withdrawn in ORPHAN stays in force until the next
boundary (R422, R430, R431). -/
def shareInForce (s : State) : Nat :=
  let c := if s.seq.STATE_C_ORPHAN then s.mbs.orphCapNow else s.mbs.orphKeep
  if c = 0 then s.adm.SHARE else min s.adm.SHARE c

/-- PING (R421): the reply PONG echoes TAG and ARG. -/
def execPing (c : Chan) (s : State) : Host.Outcome State Fault Refusal :=
  .next (match boxHead s c with
    | some (k, w) => if w >>> 24 = 0x01 then (s.sendOut c 0x01 (bitsOf w 16 8) (bitsOf w 0 16)).boxTake c k else s
    | none => s)

/-- The value that a QUERY's ARG selects, or none where ARG is not listed (R421). -/
def queryValue (s : State) (arg : Nat) : Option Nat :=
  match arg with
  | 0 => some (shownState s)
  | 1 => some (sat 16 (shareInForce s / 1000))
  | 2 => some (s.frm.FSEQ % 65536)
  | 3 => some (sat 16 (s.mbs.orphCapNow / 1000))
  | 4 => some (hbAge s)
  | _ => none

/-- QUERY (R421). -/
def execQuery (c : Chan) (s : State) : Host.Outcome State Fault Refusal :=
  .next (match boxHead s c with
    | some (k, w) =>
      if w >>> 24 = 0x02 then
        (match queryValue s (bitsOf w 0 16) with
          | some v => s.sendOut c 0x02 (bitsOf w 16 8) v
          | none => s.sendOut c 0x0F (bitsOf w 16 8) 0x02).boxTake c k
      else s
    | none => s)

/-- MAILBOX_BAD_OP (R421): any other OP is answered with ERR, its DATA holding OP. -/
def execMailboxBadOp (c : Chan) (s : State) : Host.Outcome State Fault Refusal :=
  .next (match boxHead s c with
    | some (k, w) =>
      if w >>> 24 = 0x01 ∨ w >>> 24 = 0x02 then s
      else (s.sendOut c 0x0F (bitsOf w 16 8) (bitsOf w 24 8)).boxTake c k
    | none => s)

/-- A write of 1 to MBx_OUT_POP removes the oldest word (R423). -/
def State.outPop (s : State) (c : Chan) : State := s.mbxMod c fun m => { m with outQ := m.outQ.drop 1 }

/-- The receiving domain of an outbound queue is switched off or lost: the queue is cleared, its words counted (R426). -/
def State.rxDomLost (s : State) (c : Chan) (d : Nat) : State :=
  let m := s.mbx c
  if m.CFG_RX_DOM = d ∧ m.outQ ≠ [] then
    (s.mbxMod c fun m => { m with outQ := [], OUT_STAT_ABORTED := true, OUT_STAT_DROPPED := satAdd 16 m.OUT_STAT_DROPPED m.outQ.length }).fault
      (chanPage c) 18 ((chanPage c).val * 256 + 0x13) [2]
  else s

/-- Domain `d` is switched off by R330, R331, R215 or R302, or lost under R328: either outbound queue that it receives
is cleared (R426). -/
def State.rxOff (s : State) (d : Nat) : State := (s.rxDomLost .mbs d).rxDomLost .mbn d

/-- A block-local reset of a mailbox page clears its full boxes and ends its block transfer (R426). -/
def State.mbxLocalReset (s : State) (c : Chan) : State :=
  let m := s.mbx c
  let full := m.IN_STAT_FULL
  let busy := m.BLK_CTRL_GO
  let s := s.mbxMod c fun m =>
    { m with
      IN_STAT_FULL := 0, order := [], IN_STAT_ABORTED := m.IN_STAT_ABORTED ||| full,
      BLK_CTRL_GO := false, BLK_STAT_ERR := if busy then 4 else 0, BLK_STAT_DONE := busy }
  let s := s.setBusy (chanPage c) false
  if full ≠ 0 ∨ busy then s.fault (chanPage c) 18 ((chanPage c).val * 256 + 0x13) [1] else s

/-! ### The block mailbox -/

/-- A load is open: LOADING, or a live load (R115, R427, R472). -/
def loadOpen (s : State) : Bool := decide (s.seq.base = .loading) || s.seq.STATE_LIVE_LOAD

/-- Staging may be written (R115, R427, R467): a load is open, no commit runs, and none has succeeded since the last entry
to SAFE or opening of a live load; the page locks that a commit sets stand for exactly that time (R116).
[DEDUCED, log entry 27] -/
def stagingOpen (s : State) : Bool := loadOpen s && !s.hdr[pgSeq].lockSrc && !s.hdr[pgSeq].busy

/-- Writing bytes to staging: from the first write the commit mark is clear and staging no longer holds the active image
(R472). -/
def State.stgWrite (s : State) (a : Nat) (bs : List Nat) : State :=
  { s with stg.mem := memWriteRun (0 : Byte) s.stg.mem a (bs.map fun b => BitVec.ofNat 8 b), stg.holds := false,
           seq.STATE_COMMITTED := false }

/-- Whether a GO is accepted: the channel, the operation and the instance state allow it and no transfer runs (R427). -/
def blkAllowed (s : State) (c : Chan) (op : Nat) : Bool :=
  let busy := s.hdr[chanPage c].busy
  !busy && (match op with
    | 0 => decide (c = .mbs) && stagingOpen s
    | 1 => decide (s.seq.base = .safe) || decide (s.seq.base = .loading)
    | _ => false)

/-- A block transfer starts (R427). -/
def State.blkStart (s : State) (c : Chan) (op : Nat) : State :=
  (s.mbxMod c fun m => { m with blkOp := op, blkAt := m.BLK_ADDR, BLK_CTRL_OP := op, BLK_CTRL_GO := true, BLK_STAT_DONE := false }).setBusy
    (chanPage c) true

/-- The end of a transfer: DONE and ERR, ADDR advanced where ERR is 0, and the error's record (R427, R450). -/
def State.blkEnd (s : State) (c : Chan) (err : Nat) : State :=
  let m := s.mbx c
  let s := (s.mbxMod c fun m =>
    { m with
      BLK_STAT_DONE := true, BLK_STAT_ERR := err, BLK_CTRL_GO := false,
      BLK_ADDR := if err = 0 then m.blkAt + 1 else m.BLK_ADDR }).setBusy (chanPage c) false
  if err = 0 then s else s.fault (chanPage c) 19 ((chanPage c).val * 256 + 0x15) [m.blkOp, err, m.blkAt]

/-- The 64 bytes of the data registers, D0 first, least significant byte first (R427). -/
def blkBytes (m : Mbx) : List Nat := (List.range 16).flatMap fun j => bytesLE 4 (vAt m.blk j {}).BLK_D

/-- The data registers take 64 bytes. -/
def Mbx.withBlk (m : Mbx) (bs : List Nat) : Mbx :=
  { m with blk := Vector.ofFn fun j : Fin 16 => { BLK_D := ofBytesLE ((bs.drop (4 * j.val)).take 4) } }

/-- BLOCK_TRANSFER_DONE (R427). -/
def execBlockTransferDone (c : Chan) (parBad : Bool) (s : State) : Host.Outcome State Fault Refusal :=
  .next (
    let m := s.mbx c
    if !s.hdr[chanPage c].busy then s
    else if 4096 ≤ m.blkAt then s.blkEnd c 2
    else if m.blkOp = 0 then
      let bs := blkBytes m
      ((s.stgWrite (64 * m.blkAt) bs).mbxMod c fun m => { m with BLK_CRC := crc32Ext m.BLK_CRC bs }).blkEnd c 0
    else if parBad then (s.mbxMod c fun m => m.withBlk []).blkEnd c 3
    else
      let bs := stgBytes s.stg.mem (64 * m.blkAt) 64
      (s.mbxMod c fun m => { m.withBlk bs with BLK_CRC := crc32Ext m.BLK_CRC bs }).blkEnd c 0)

/-! ### Leaving a load, the heartbeat and ORPHAN -/

/-- Every entry to SAFE and every opening of a live load clear the page locks (R116). [DEDUCED, log entry 27] -/
def State.unlockPages (s : State) : State :=
  { s with hdr := s.hdr.map fun h => { h with lock := false, lockSrc := false } }

/-- An entry to SAFE (R116). -/
def State.enterSafe (s : State) : State := ({ s with seq.base := .safe }).unlockPages

/-- A load or a live load is abandoned with a status (R46, R471): no activation pends, the commit mark clears, and
LOADING returns to SAFE. -/
def State.abandonLoad (s : State) (st : Nat) : State :=
  let s := { s with seq.STATE_ACT_PEND := false, seq.STATE_COMMITTED := false, seq.CMD_ST_ST := st, seq.deferred := false,
                    stg.img := none }
  let s := (s.setBusy pgSeq false).event 0x0112 [st]
  if s.seq.base = .loading then s.enterSafe else { s with seq.STATE_LIVE_LOAD := false }

/-- ORPHAN begins: the orphan cap is set to S (R429, R431, R477). -/
def State.enterOrphan (s : State) (cause : Nat) : State :=
  { s with seq.STATE_C_ORPHAN := true, mbs.orphCapNow := s.adm.SHARE, mbs.orphBnds := 0, mbs.orphKeep := 0 }.event 0x0F10 [cause]

/-- A heartbeat is lost: counted, the load open is abandoned, and a running instance becomes an orphan (R44, R46,
R429). Cause 1 is the timeout, 2 the clock-lost network domain. -/
def State.heartbeatLost (s : State) (cause : Nat) : State :=
  if s.seq.STATE_HB_SUP && !s.mbs.lossTaken then
    let s := { s with mbs.HB_CNT_LOSSES := satAdd 16 s.mbs.HB_CNT_LOSSES 1, mbs.lossTaken := true }
    let s := if loadOpen s then s.abandonLoad 0x50 else s
    let s := if s.seq.base = .running && !s.seq.STATE_C_ORPHAN then s.enterOrphan cause else s
    s.settle 0x0F10
  else s

/-- HEARTBEAT_LOSS (R429): TIMEOUT ms have passed since the timer restarted. -/
def execHeartbeatLoss (s : State) : Host.Outcome State Fault Refusal :=
  .next (if s.after s.mbs.timerAt (s.mbs.HB_CFG * ticksPerMs) then s.heartbeatLost 1 else s)

/-- ORPHAN ends: its record, and the cap withdrawn, in force until the next boundary (R430). -/
def State.leaveOrphan (s : State) : State :=
  if s.seq.STATE_C_ORPHAN then
    let cap := s.mbs.orphCapNow
    ({ s with seq.STATE_C_ORPHAN := false, mbs.orphCapNow := 0, mbs.orphKeep := cap }.event 0x0F11
      (sat 16 s.mbs.orphBnds :: dat2 (cap / 1000))).settle 0x0F11
  else s

/-- A write of MBS_HB: a heartbeat where BEAT is LAST + 1 modulo 65 536 (R428, R430). -/
def State.beat (s : State) (b : Nat) : State :=
  if b = (s.mbs.HB_STAT_LAST + 1) % 65536 then
    { s with mbs.HB_STAT_LAST := b, mbs.beatAt := some s.now, mbs.timerAt := s.now, mbs.lossTaken := false }.leaveOrphan
  else { s with mbs.HB_CNT_BAD := satAdd 16 s.mbs.HB_CNT_BAD 1 }

/-- Step 2 of a boundary in ORPHAN: the cap steps down toward FLOOR, and an ORPHAN notice leaves (R431); a cap that was
withdrawn goes out of force (R430). -/
def State.orphanStep (s : State) : State :=
  if s.seq.STATE_C_ORPHAN then
    let cap := max (s.mbs.ORPH_FLOOR * 1000) (s.mbs.orphCapNow - s.mbs.ORPH_STEP * 1000)
    let n := s.mbs.orphBnds + 1
    (({ s with mbs.orphCapNow := cap, mbs.orphBnds := n }.event 0x0F14 (dat2 (cap / 1000))).notice 0x06 (sat 8 n) (sat 16 (cap / 1000)))
  else { s with mbs.orphKeep := 0 }

/-! ### Keyed checks of the host-secure channel -/

/-- A write of AUT_WCHK_MAC3 arms one pending check from the six registers as they stand (R119). -/
def State.armCheck (s : State) (mac3 : Nat) : State :=
  let a := s.aut
  let a := { a with mac := vMod a.mac 3 fun _ => { WCHK_MAC := mac3 } }
  let mac := ofBytesLE ((List.range 4).flatMap fun i => bytesLE 4 (vAt a.mac i {}).WCHK_MAC)
  { s with aut := { a with pend := some { ctr := a.WCHK_CTR_LO + a.WCHK_CTR_HI * 2 ^ 32, mac := mac, at_ := s.now } } }

/-- The pending check is consumed or discarded: the six registers read 0 in the next one (R119). -/
def State.dropCheck (s : State) : State :=
  { s with aut.pend := none, aut.WCHK_CTR_LO := 0, aut.WCHK_CTR_HI := 0, aut.mac := Vector.replicate 4 {} }

/-- The 25-byte message of a keyed write (R119). -/
def keyedMessage (s : State) (off data ctr : Nat) : List Nat :=
  0x57 :: dieIdBytes s ++ bytesLE 4 off ++ bytesLE 4 data ++ bytesLE 8 ctr

/-- Step 3 of R119: the slot is usable, the channel anchored (R434), the check equal and the counter above the last
accepted one. -/
def checkPasses (s : State) (c : PendCheck) (off data : Nat) : Bool :=
  vAt s.cmn.fuses.keyCrc 0 false && s.aut.STAT_ANCHORED && decide (s.aut.HS_LAST < c.ctr) &&
  decide (c.mac = hmac128 (s.key 0) (keyedMessage s off data c.ctr))

/-- The ticks within the last second. -/
def lastSecond (s : State) (l : List Nat) : List Nat := l.filter fun t => decide (s.now < t + ticksPerS)

/-- A failed host-secure check: counted, KEY_FAIL raised on the target page, 0x1210 for the first 4 within 1 s, and
recording muted after 16 (R109, R120, R436). -/
def State.checkFailed (s : State) (p : Fin 23) (off : Nat) : State :=
  let prev := lastSecond s s.aut.hsAt
  let s := { s with aut.FAIL_CNT_HS := satAdd 16 s.aut.FAIL_CNT_HS 1, aut.hsAt := s.now :: prev }
  let s := s.fault p 5 (p.val * 256 + 0x05) [off % 4096 / 4, 1]
  let s := if prev.length < 4 then s.event 0x1210 (dat2 off) else s
  if prev.length + 1 = 16 && !s.aut.STAT_HS_LOGMUTE then
    let s := s.fault pgAut 18 0x1211 [16]
    { s with aut.STAT_HS_LOGMUTE := true, aut.muteAt := s.now }
  else s

/-- The keyed check of an RWA write (R119): the pending check is consumed whatever its outcome; the answer says whether
the write is accepted. [DEDUCED, log entry 14] -/
def State.keyedCheck (s : State) (p : Fin 23) (off data : Nat) : Bool × State :=
  match s.aut.pend with
  | none => (false, s.checkFailed p off)
  | some c =>
    if checkPasses s c off data then (true, { s.dropCheck with aut.HS_LAST := c.ctr })
    else (false, s.dropCheck.checkFailed p off)

/-- PENDING_CHECK_DISCARD (R120): a check that no RWA write consumed within 4096 ticks is discarded. -/
def execPendingCheckDiscard (s : State) : Host.Outcome State Fault Refusal :=
  .next (match s.aut.pend with
    | some c => if s.after c.at_ 4096 then s.dropCheck else s
    | none => s)

/-- HS_LOGMUTE_END (R436): 10 s after the mute began. -/
def execHsLogmuteEnd (s : State) : Host.Outcome State Fault Refusal :=
  .next (if s.aut.STAT_HS_LOGMUTE && s.after s.aut.muteAt (10 * ticksPerS) then { s with aut.STAT_HS_LOGMUTE := false, aut.hsAt := [] } else s)

/-- The channels anchor at PCYCLE × 2³² (R434). -/
def State.anchor (s : State) (restored : Bool) : State :=
  if s.aut.STAT_ANCHORED then s
  else
    let c := s.evt.PCYCLE * 2 ^ 32
    let s := { s with aut.HS_LAST := c, aut.RK_LAST := c, aut.RK_OUT := c, aut.STAT_ANCHORED := true, aut.ANCHOR := s.evt.PCYCLE }
    if restored then s.event 0x1212 (dat2 s.evt.PCYCLE)
    else { s with aut.STAT_UNANCHORED := true }.fault pgAut 17 0x1213 (dat2 s.evt.PCYCLE)

/-- ANCHOR_TIMEOUT (R434): one second after the release of the cold reset, on channels not yet anchored. -/
def execAnchorTimeout (s : State) : Host.Outcome State Fault Refusal :=
  .next (if s.after 0 ticksPerS then s.anchor false else s)

end Sys2Proof.Machine
end

