-- ==== Sys2Proof/Machine/FrameBase.lean ====
section
/-! DEFINITION. The frame ring's hop protocol (R375 to R382): message layout, CRC, sequence numbers and
acknowledgement, routing and sending. -/

namespace Sys2Proof.Machine

open Sys2Proof

/-- A field of a frame message. -/
def mf (m : BitVec 128) (lo len : Nat) : Nat := bitsOf m.toNat lo len

/-- TYPE (R376). -/
def mType (m : BitVec 128) : Nat := mf m 122 6
/-- SRC (R376). -/
def mSrc (m : BitVec 128) : Nat := mf m 117 5
/-- DST (R376). -/
def mDst (m : BitVec 128) : Nat := mf m 112 5
/-- LSEQ (R376). -/
def mLseq (m : BitVec 128) : Nat := mf m 104 8
/-- LACK (R376). -/
def mLack (m : BitVec 128) : Nat := mf m 96 8

/-- The CRC of a message, over bits 127:16, most significant bit first (R377). -/
def frmCrc (m : Nat) : Nat := crc16 (bytesLE 14 (m >>> 16)).reverse

/-- A message before its hop fields: TYPE, SRC, DST and the payload in bits 95:16 (R376). -/
def frmMsg (typ src dst pay : Nat) : BitVec 128 :=
  BitVec.ofNat 128 ((typ % 64) * 2 ^ 122 + (src % 32) * 2 ^ 117 + (dst % 32) * 2 ^ 112 + ((pay >>> 16) % 2 ^ 80) * 2 ^ 16)

/-- A message as it leaves on a hop, with LSEQ, LACK and CRC (R376, R377). -/
def frmSeal (m : BitVec 128) (lseq lack : Nat) : BitVec 128 :=
  let w := (m.toNat >>> 112) * 2 ^ 112 + (lseq % 256) * 2 ^ 104 + (lack % 256) * 2 ^ 96 + bitsOf m.toNat 16 80 * 2 ^ 16
  BitVec.ofNat 128 (w + frmCrc w)

/-- The link of a direction. -/
def State.link (s : State) : Dir → FrmLinkState
  | .east => s.frm.east
  | .west => s.frm.west

/-- The link of a direction changed by `f`. -/
def State.linkMod (s : State) (d : Dir) (f : FrmLinkState → FrmLinkState) : State :=
  match d with
  | .east => { s with frm.east := f s.frm.east }
  | .west => { s with frm.west := f s.frm.west }

/-- The other direction. -/
def Dir.other : Dir → Dir
  | .east => .west
  | .west => .east

/-- The link's code in an event or a LINK message: 0 east, 1 west (R381, R532). -/
def Dir.code : Dir → Nat
  | .east => 0
  | .west => 1

/-- This member's frame position. -/
def myPos (s : State) : Nat := s.cmn.straps.framePos.toNat

/-- The place of a message among those that wait: class 0 before 1 before 2, in order of arrival within a class (R382). -/
def waitInsert (c : Nat) (m : BitVec 128) : List (Nat × BitVec 128) → List (Nat × BitVec 128)
  | [] => [(c, m)]
  | (c', m') :: l => if c < c' then (c, m) :: (c', m') :: l else (c', m') :: waitInsert c m l

/-- A sequenced message leaves on a link: at most 8 may be unacknowledged (R378). -/
def FrmLinkState.push (l : FrmLinkState) (now c : Nat) (m : BitVec 128) : FrmLinkState :=
  if l.unack.length < 8 then
    let w := frmSeal m l.txSeq (l.rxNext + 255)
    { l with unack := l.unack ++ [w], txSeq := (l.txSeq + 1) % 256, last := w, retryAt := if l.unack = [] then now else l.retryAt }
  else { l with wait := waitInsert c m l.wait }

/-- Waiting messages leave while fewer than 8 are unacknowledged. -/
def FrmLinkState.drain : Nat → Nat → FrmLinkState → FrmLinkState
  | 0, _, l => l
  | f + 1, now, l =>
    match l.wait with
    | [] => l
    | (c, m) :: w => if l.unack.length < 8 then FrmLinkState.drain f now (FrmLinkState.push { l with wait := w } now c m) else l

/-- A message is queued on one link; a link that is down sends nothing, but for the HELLO that brings a trained one up
(R380, R395). -/
def State.linkSend (s : State) (d : Dir) (c : Nat) (m : BitVec 128) : State :=
  if (s.link d).up || (decide ((s.link d).train = 2) && decide (mType m = 0x02)) then s.linkMod d fun l => l.push s.now c m else s

/-- An IDLE or LANE message: no sequence, never retried (R378). -/
def State.linkSendRaw (s : State) (d : Dir) (m : BitVec 128) : State :=
  s.linkMod d fun l => { l with last := frmSeal m 0 (l.rxNext + 255) }

/-- The members of the ring as formed. -/
def frmSize (s : State) : Nat := max 1 s.frm.size

/-- The next position east or west of `p`, modulo the ring. -/
def ringNext (s : State) (d : Dir) (p : Nat) : Nat :=
  match d with
  | .east => (p + 1) % frmSize s
  | .west => (p + frmSize s - 1) % frmSize s

/-- A member's link in a direction is reported down (R396). -/
def linkReported (s : State) (d : Dir) (p : Nat) : Bool :=
  let e := vAt s.frm.member p {}
  if p = myPos s then !(s.link d).up else match d with | .east => e.eDown | .west => e.wDown

/-- The link between two neighbouring members is known to be down: either end reports it (R396). -/
def hopDown (s : State) (d : Dir) (p : Nat) : Bool := linkReported s d p || linkReported s (Dir.other d) (ringNext s d p)

/-- The members met going in a direction from `p`, up to `fuel` positions: the path ends where a link is down (R382,
R395), or back at this member. -/
def ringWalk (s : State) (d : Dir) : Nat → Nat → List Nat
  | 0, _ => []
  | f + 1, p =>
    let q := ringNext s d p
    if q = myPos s || hopDown s d p then [] else q :: ringWalk s d f q

/-- The live members reached in a direction, nearest first. -/
def ringPath (s : State) (d : Dir) : List Nat := if (s.link d).up then ringWalk s d 24 (myPos s) else []

/-- Hops to a member in a direction. -/
def hopsTo (s : State) (d : Dir) (p : Nat) : Option Nat := ((ringPath s d).idxOf? p).map (· + 1)

/-- The direction toward a member: the shorter path over live members, east when equal, the only one where one exists
(R382). -/
def routeTo (s : State) (p : Nat) : Option Dir :=
  match hopsTo s .east p, hopsTo s .west p with
  | some a, some b => if a ≤ b then some .east else some .west
  | some _, none => some .east
  | none, some _ => some .west
  | none, none => none

/-- The position a DST names: 29 is the reckoner, 30 the PMB_EN member (R376). -/
def dstPos (s : State) (dst : Nat) : Nat := if dst = 29 then s.frm.ROLE_RECKONER else if dst = 30 then s.frm.ROLE_PMB else dst

/-- Sending a message of this member's own (R382): a broadcast in both directions, any other by its route. A message for
the member itself does not leave. -/
def State.frmSend (s : State) (cls typ dst pay : Nat) : State :=
  let m := frmMsg typ (myPos s) dst pay
  if dst = 31 then (s.linkSend .east cls m).linkSend .west cls m
  else
    match routeTo s (dstPos s dst) with
    | some d => s.linkSend d cls m
    | none => s

/-- This member holds the reckoner role in a formed frame (R387), and is not isolated (R398). -/
def isReckoner (s : State) : Bool :=
  decide (s.frm.FORM_STATE = 2) && decide (s.frm.ROLE_RECKONER = myPos s) && s.frm.isoAt.isNone

/-- The frame's held total: what R397 reserves, mW. -/
def frmHeldTotal (s : State) : Nat := sumBelow 24 fun m => (vAt s.frm.member m {}).heldMw

/-- The nearest live member in a direction (R175, R178). -/
def neighbour (s : State) (d : Dir) : Option Nat := (ringPath s d).head?

end Sys2Proof.Machine
end

