-- ==== Sys2Proof/Machine/BeamBase.lean ====
section
/-! DEFINITION. The beam's figures (06_beam.md): the fuse ceilings and the built-in ones (R194 to R196), the effective
values of R197, the response ceilings and the beam ceiling of each clock domain (R207, R209), the held rails (R132), and
the bookkeeping that follows any change of them (R213, R500). -/

namespace Sys2Proof.Machine

open Sys2Proof

/-- The fuse fields of a rail (R194). -/
def fuseRail (s : State) (r : Nat) : FuseRail := vAt s.cmn.fuses.rail r ⟨0, 0, 0, 0, 0⟩

/-- I_CEIL is 0: the rail is absent (R196). -/
def railAbsent (s : State) (r : Nat) : Bool := decide ((fuseRail s r).iCeil = 0)

/-- The tests of R195 on the ceilings region, beyond those of R91. -/
def fuseTestsPass (f : Fuses) : Bool :=
  decide (f.layout = 1) && decide (f.boFrac ≠ 0) && decide (6 ≤ f.boThr.toNat) && decide (f.boThr.toNat ≤ 14) &&
  decide (f.pDie ≠ 0) && decide (f.pPkg ≠ 0) && decide (f.tTrip ≠ 0) && decide (f.tRate ≠ 0) &&
  (List.range 16).all fun r =>
    let x := vAt f.rail r ⟨0, 0, 0, 0, 0⟩
    decide (x.iCeil = 0) || (decide (x.vMin.toNat + 5 ≤ x.vMax.toNat) && decide (x.dtMin.toNat + 3 ≤ x.vMin.toNat))

/-- The region is good: the tests of R91 and of R195 (R195 gives a failure of either the same consequences).
[DEDUCED, log entry 73] -/
def ceilingsGood (f : Fuses) : Bool := ceilOk f && fuseTestsPass f

/-- The strap boot code of a rail, in 0.25 mV (R349). -/
def vbootOf (s : State) (r : Nat) : Nat := (vAt s.cmn.straps.vboot r 0).toNat

/-- A setpoint code on the voltage-code scale of R194: ⌊(V − 400 mV) / 5 mV⌋, limited to 0 to 255 (R349). -/
def codeOfSet (c : Nat) : Nat := min 255 ((c - 1600) / 20)

/-- A voltage code in µV (R85). -/
def codeUv (c : Nat) : Nat := 400000 + 5000 * c

/-- V_MIN_eff (R195, R197). -/
def vMinEff (s : State) (r : Nat) : Nat :=
  if s.beam.STATE_BUILTIN then codeOfSet (vbootOf s r) - 10
  else max (fuseRail s r).vMin.toNat (vAt s.beam.rail r {}).imgVmin

/-- V_MAX_eff (R195, R197). -/
def vMaxEff (s : State) (r : Nat) : Nat :=
  if s.beam.STATE_BUILTIN then min 255 (codeOfSet (vbootOf s r) + 10)
  else
    let v := (vAt s.beam.rail r {}).imgVmax
    if v = 255 then (fuseRail s r).vMax.toNat else min (fuseRail s r).vMax.toNat v

/-- The rail of a primary detector (R200). -/
def detRail (d : Nat) : Nat := d / 4

/-- The primary that a detector stands for: itself, or the one a spare serves (R200). -/
def detPrimary (s : State) (d : Nat) : Option Nat :=
  if d < 64 then some d
  else
    let p := (vAt s.beam.det d {}).DD_SERVES
    if p < 64 then some p else none

/-- The effective threshold code of a detector (R195, R197); a spare carries that of the primary it serves (R491). -/
def codeEff (s : State) (d : Nat) : Nat :=
  match detPrimary s d with
  | none => 0
  | some p =>
    if s.beam.STATE_BUILTIN then codeOfSet (vbootOf s (detRail p)) - 10
    else max (fuseRail s (detRail p)).dtMin.toNat (vAt s.beam.det p {}).DD_CODE_IMG

/-- DSET[r] = SMASK[r] OR DSET_IMG[r] (R201); all domains under the built-in mask (R195). -/
def dset (s : State) (r : Nat) : Nat :=
  if s.beam.STATE_BUILTIN then 2 ^ 25 - 1 else (fuseRail s r).smask.toNat ||| (vAt s.beam.rail r {}).imgDset

/-- The stretch mask of a detector (R195, R200); forced to all domains while its storage is faulty (R206). -/
def stretchMask (s : State) (d : Nat) : Nat :=
  match detPrimary s d with
  | none => 0
  | some p =>
    if railAbsent s (detRail p) then 0
    else if s.beam.STATE_BUILTIN || (vAt s.beam.det d {}).maskBad then 2 ^ 25 - 1
    else dset s (detRail p) ||| (vAt s.beam.det p {}).DDX

/-- The detector's output takes part in the stretch lines and the stretch count: it is not failed and serves a rail that
is present (R196, R205). -/
def detCounts (s : State) (d : Nat) : Bool :=
  let e := vAt s.beam.det d {}
  !e.DD_FAILED && (match detPrimary s d with | some p => !railAbsent s (detRail p) | none => false)

/-- clk_stretch of a domain: the OR of the outputs whose mask holds it (R202). -/
def stretchOut (s : State) (c : Nat) : Bool :=
  (List.range 72).any fun d => (vAt s.beam.det d {}).out && detCounts s d && (stretchMask s d).testBit c

/-- The OR of the outputs of a rail's detectors, any spare that serves one of them included (R203). -/
def railOr (s : State) (r : Nat) : Bool :=
  (List.range 72).any fun d => (vAt s.beam.det d {}).out && detCounts s d && decide ((detPrimary s d).map detRail = some r)

/-! ### Responses -/

/-- Response `k` of a rail: 0 is droop persistence, 1 to 7 the kinds of event 0x0411. [DEDUCED, log entry 71] -/
def respOf (s : State) (r k : Nat) : Resp := vAt (vAt s.beam.rail r {}).resp k {}

/-- Response `k` of a rail is in force. -/
def respOn (s : State) (r k : Nat) : Bool := (respOf s r k).on

/-- RC[r]: the lowest of the rail's responses, 15 where none lowers it (R207, R209, R211). -/
def railRc (s : State) (r : Nat) : Nat :=
  (List.range 8).foldl (fun m k => let x := respOf s r k; if x.on then min m x.rc else m) 15

/-- A rail is in blind mode, of either cause (R487). -/
def railBlind (s : State) (r : Nat) : Bool := s.rel.BLIND_TG.testBit r || s.rel.BLIND_BUS.testBit r

/-- A rail is held (R132). -/
def railHeld (s : State) (r : Nat) : Bool :=
  railAbsent s r || (List.range 8).any (respOn s r) || s.beam.die.on || (vAt s.vrg.rail r {}).flt || railBlind s r

/-- A rail is at its beam floor: RC[r] is 0 and the rail is held (R207). -/
def railFloor (s : State) (r : Nat) : Bool := decide (railRc s r = 0) && railHeld s r

/-- The lowest response ceiling of the present rails whose domain set holds `c` (R196, R207). -/
def railTerm (s : State) (c : Nat) : Nat :=
  (List.range 16).foldl (fun m r => if !railAbsent s r && (dset s r).testBit c then min m (railRc s r) else m) 15

/-- DC, while the die power response is in force (R207, R211). -/
def dieTerm (s : State) : Nat := if s.beam.die.on then s.beam.die.rc else 15

/-- The brown-out term: BO_THR from the warning to the end of the hold, one level more at each ramp step; not applied
under the built-in ceilings (R195, R218). -/
def boTerm (s : State) : Nat :=
  if s.beam.STATE_BUILTIN then 15
  else if s.beam.STATE_BO || s.beam.STATE_BO_RAMP then min 15 (s.cmn.fuses.boThr.toNat + s.beam.STATE_BO_STEP)
  else 15

/-- 0 in EMERGENCY and TRIPPED, and the ramp of step 7 of R213 after it (R207). -/
def emgTermNow (s : State) : Nat := if s.beam.inEmg || s.seq.tripped then 0 else s.beam.emgTerm

/-- BC[c], the beam ceiling of a clock domain (R207). -/
def bc (s : State) (c : Nat) : Nat :=
  if s.beam.STATE_BUILTIN then 0
  else min (min (railTerm s c) (dieTerm s)) (min (boTerm s) (emgTermNow s))

/-! ### Effective values -/

/-- The lowest `k` positions of a mask of 12. -/
def lowestBits : Nat → Nat → Nat
  | 0, _ => 0
  | k + 1, m => match firstBelow 12 fun p => m.testBit p with
    | some p => 2 ^ p + lowestBits k (putBit m p false)
    | none => 0

/-- The map that a rail's marks give: PRIM less the faulty positions, and one spare, the lowest that is not faulty, for
each faulty primary (R360). -/
def phaseMap (s : State) (r : Nat) : Nat :=
  let e := vAt s.vrg.rail r {}
  let lost := popcount 12 (e.PHCFG_PRIM &&& e.PHST_FAULTY)
  (e.PHCFG_PRIM &&& (4095 - e.PHST_FAULTY % 4096)) ||| lowestBits lost (e.PHCFG_SPARE &&& (4095 - e.PHST_FAULTY % 4096))

/-- n_act / n_prim of a rail of reduced capacity (R361). -/
def phaseScale (s : State) (r v : Nat) : Nat := v * popcount 12 (phaseMap s r) / popcount 12 (vAt s.vrg.rail r {}).PHCFG_PRIM

/-- The minimum of a value and a source; 0 presents no value (R32). -/
def minSrc (v x : Nat) : Nat := if x = 0 then v else min v x

/-- The image's rail current cap as presented, reduced capacity included (R197, R361). -/
def imgCurrent (s : State) (r : Nat) : Nat :=
  let i := (vAt s.beam.rail r {}).imgI
  if (vAt s.vrg.rail r {}).PHST_REDUCED then max 1 (phaseScale s r (if i = 0 then (fuseRail s r).iCeil.toNat else i)) else i

/-- The sources of I_eff,r but the brown-out, 100 mA (R197): fuse, image, the thermal layer's cap in force, host. -/
def iSources (s : State) (r : Nat) : Nat :=
  let v := minSrc (fuseRail s r).iCeil.toNat (imgCurrent s r)
  let v := minSrc v (if s.thm.STATE_HOT then (vAt s.thm.rail r {}).IHOT else 0)
  minSrc v (vAt s.beam.rail r {}).HLIM

/-- The sources of P_eff but the brown-out, 100 mW (R197). -/
def pSources (s : State) : Nat :=
  minSrc (minSrc s.cmn.fuses.pDie.toNat s.beam.imgP) (if s.thm.STATE_HOT then s.thm.HOTCAP else 0)

/-- A ceiling under the brown-out: the k-th of 16 ramp steps from BO_FRAC sixteenths to the whole, rounded down (R218). -/
def boScale (s : State) (v : Nat) : Nat :=
  if (s.beam.STATE_BO || s.beam.STATE_BO_RAMP) && !s.beam.STATE_BUILTIN then
    let f := s.cmn.fuses.boFrac.toNat
    v * (16 * f + s.beam.STATE_BO_STEP * (16 - f)) / 256
  else v

/-- I_eff,r in the beam's comparisons, 100 mA (R197, R198, R218). [DEDUCED, log entry 73] -/
def iEff (s : State) (r : Nat) : Nat := boScale s (vAt s.beam.rail r {}).iPre

/-- P_eff, 100 mW. [DEDUCED, log entry 73] -/
def pEff (s : State) : Nat := boScale s s.beam.pPre

/-- A lowered source reaches the beam, and the limit presented to admission falls with it (R34, R198, R219). -/
def State.lowerLimits (s : State) : State :=
  let s := { s with beam.pPre := min s.beam.pPre (pSources s),
                    beam.rail := Vector.ofFn fun r : Fin 16 =>
                      let e := s.beam.rail[r]
                      { e with iPre := min e.iPre (iSources s r) } }
  { s with beam.rail := Vector.ofFn fun r : Fin 16 =>
      let e := s.beam.rail[r]
      { e with iAdm := min e.iAdm (iEff s r) } }

/-- At an epoch boundary every raised source comes into force (R34, R198), and admission takes the value then in force
(R219). -/
def State.raiseLimits (s : State) : State :=
  let s := { s with beam.pPre := pSources s,
                    beam.rail := Vector.ofFn fun r : Fin 16 => { s.beam.rail[r] with iPre := iSources s r } }
  { s with beam.rail := Vector.ofFn fun r : Fin 16 => { s.beam.rail[r] with iAdm := iEff s r } }

/-- The trip figures of the beam, and the effective voltages that registers show (R195, R197, R222). -/
def State.setTripFigures (s : State) : State :=
  let f := s.cmn.fuses
  let t := if s.beam.STATE_BUILTIN then 105 else minSrc f.tTrip.toNat s.beam.imgTrip
  let q := if s.beam.STATE_BUILTIN then 20 else minSrc f.tRate.toNat s.beam.imgRate
  let k := if s.beam.STATE_BUILTIN then 95 else minSrc f.tStack.toNat s.beam.imgStack
  { s with beam.DIE_EFF_TRIP_EFF := t, beam.DIE_EFF_RATE_EFF := q, beam.stackEff := k,
           beam.rail := Vector.ofFn fun r : Fin 16 =>
             { s.beam.rail[r] with RSTAT_VMIN_EFF := vMinEff s r, RSTAT_VMAX_EFF := vMaxEff s r } }

/-! ### What follows a change of the responses -/

/-- The first rail, and the code of BEAM_CAUSE, that holds a domain's ceiling at 0 (R213, R222). -/
def railCause (s : State) (c : Nat) : Option (Nat × Nat) :=
  match firstBelow 16 fun r => !railAbsent s r && (dset s r).testBit c && decide (railRc s r = 0) with
  | none => none
  | some r =>
    let k := (firstBelow 8 fun k => respOn s r k && decide ((respOf s r k).rc = 0)).getD 1
    some (r, match k with | 0 => 4 | 1 => 1 | 3 => 3 | 4 => 5 | 5 => 6 | 6 => 7 | _ => 9)

/-- A cause of R213 holds the ceiling of domain `c` at 0. -/
def floorCause (s : State) (c : Nat) : Bool :=
  !s.beam.STATE_BUILTIN && (decide (railTerm s c = 0) || decide (dieTerm s = 0))

/-- A cause of EMERGENCY is present: a domain held at 0, or 10 or fewer active lanes (R213). [DEDUCED, log entry 60] -/
def emgCausePresent (s : State) : Bool := (List.range 25).any (floorCause s) || decide (s.ctl.MU_ACTIVE ≤ 10)

/-- A state in which an interruption counts: RUN, DEGRADED, ORPHAN or EMERGENCY (R500). [DEDUCED, log entry 60] -/
def intrState (s : State) : Bool := let x := shownState s; decide (2 ≤ x ∧ x ≤ 5)

/-- The interruption of one domain begins or ends (R500). [DEDUCED, log entry 77] -/
def State.intrStep (s : State) (c : Nat) : State :=
  let down := intrState s && decide (bc s c = 0)
  match vAt s.rel.intrAt c none with
  | none => if down then { s with rel.intrAt := vMod s.rel.intrAt c fun _ => some s.now } else s
  | some t =>
    if down then s
    else
      let us := sat 16 (s.usSince t)
      let s := { s with rel.intrAt := vMod s.rel.intrAt c fun _ => none, rel.INTR_LAST := us, rel.INTR_MAX := max s.rel.INTR_MAX us }
      if 1000 < us then s.fault pgRel 23 0x141A [c, us] else s

/-- After any change of the responses: how long each domain has been held at 0, how long every EMERGENCY cause has been
absent, the lowest ceilings reached, and the interruptions (R213, R223, R500). [DEDUCED, log entry 85] -/
def State.beamSettle (s : State) : State :=
  let fl := Vector.ofFn fun c : Fin 25 =>
    if floorCause s c then (match s.beam.floorAt[c] with | some t => some t | none => some s.now) else none
  let s := { s with beam.floorAt := fl,
                    beam.rail := Vector.ofFn fun r : Fin 16 => { s.beam.rail[r] with rcLow := min s.beam.rail[r].rcLow (railRc s r) },
                    beam.dcLow := min s.beam.dcLow (dieTerm s) }
  let gone := if emgCausePresent s then none else (match s.beam.emgGone with | some t => some t | none => some s.now)
  let s := { s with beam.emgGone := gone, ctl.heldSeen := s.ctl.heldSeen ||| maskOf 16 (railHeld s) }
  let s := if !s.beam.inEmg && emgCausePresent s && s.beam.emgTerm < 15 then { s with beam.emgTerm := 0 } else s
  (List.range 25).foldl State.intrStep s

/-- A rail's response changed by `f`. -/
def State.respMod (s : State) (r k : Nat) (f : Resp → Resp) : State :=
  { s with beam.rail := vMod s.beam.rail r fun e => { e with resp := vMod e.resp k f } }

/-- A response begins at a ceiling: 0x0411 once for its episode; droop persistence has an event of its own (R211,
R223). [DEDUCED, log entry 71] -/
def State.respBegin (s : State) (r k rc : Nat) : State :=
  if respOn s r k then s.respMod r k fun x => { x with rc := min x.rc rc, rel := 0 }
  else
    let s := if (List.range 8).any (respOn s r) then s else { s with beam.rail := vMod s.beam.rail r fun e => { e with rcLow := 15 } }
    let s := s.respMod r k fun x => { x with on := true, rc := rc, rel := 0 }
    let s := { s with beam.rail := vMod s.beam.rail r fun e => { e with rcLow := min e.rcLow (railRc s r) } }
    if k = 0 then s else s.event 0x0411 [r, k]

/-- A response ends; 0x0412 when it was the last on its rail, with the lowest RC reached (R211). [DEDUCED, log entry 71] -/
def State.respEnd (s : State) (r k : Nat) : State :=
  if respOn s r k then
    let s := s.respMod r k fun x => { x with on := false, rc := 15, rel := 0, run := 0 }
    if (List.range 8).any (respOn s r) then s else s.event 0x0412 [r, (vAt s.beam.rail r {}).rcLow]
  else s

/-- One clean sample toward the release of a response: its ceiling rises one level at every `n`-th, and the response ends
at 15 (R209). -/
def State.respRise (s : State) (r k n : Nat) : State :=
  let x := respOf s r k
  if !x.on then s
  else if x.rel + 1 < n then s.respMod r k fun x => { x with rel := x.rel + 1 }
  else if 14 ≤ x.rc then s.respEnd r k
  else s.respMod r k fun x => { x with rel := 0, rc := x.rc + 1 }

/-- A domain's lowest clk_thr within a set of domains (R211). -/
def lowestThr (s : State) (m : Nat) : Nat :=
  (List.range 25).foldl (fun a c => if m.testBit c then min a (vAt s.clk.dom c {}).ST_THR else a) 15

/-- A detector changed by `f`. -/
def State.detMod (s : State) (d : Nat) (f : BeamDet → BeamDet) : State := { s with beam.det := vMod s.beam.det d f }

/-- A rail of the beam changed by `f`. -/
def State.brMod (s : State) (r : Nat) (f : BeamRail → BeamRail) : State := { s with beam.rail := vMod s.beam.rail r f }

/-- A rail's wear and blindness changed by `f`. -/
def State.wearMod (s : State) (r : Nat) (f : RelWear → RelWear) : State := { s with rel.wear := vMod s.rel.wear r f }

/-- A detector's registers. -/
def detOf (s : State) (d : Nat) : BeamDet := vAt s.beam.det d {}

end Sys2Proof.Machine
end

