-- ==== Sys2Proof/Machine/Tally.lean ====
section
/-! DEFINITION. Current admission and the tally (04_current_admission.md, 05_tally_and_epochs.md): rows and tags, the
books of a rail, deciding a request, arming, release, transfer, policing, harvesting, and the commands of both pages but
the boundary itself. -/

namespace Sys2Proof.Machine

open Sys2Proof

/-! ### Rows and tags (R161 to R165) -/

/-- STATE of a stored row. -/
def rowSt (w : Nat) : Nat := bitsOf w 59 3
/-- BEADS of a stored row. -/
def rowBeads (w : Nat) : Nat := bitsOf w 49 10
/-- RAIL of a stored row. -/
def rowRail (w : Nat) : Nat := bitsOf w 45 4
/-- OWNER of a stored row. -/
def rowOwner (w : Nat) : Nat := bitsOf w 33 12
/-- ORIGIN of a stored row. -/
def rowOrigin (w : Nat) : Nat := bitsOf w 21 12
/-- EPOCH of a stored row. -/
def rowEpoch (w : Nat) : Nat := bitsOf w 13 8

/-- A stored row (R162). -/
def mkRow (xfer : Bool) (st beads rail owner origin epoch row : Nat) : Nat :=
  (b2n xfer) * 2 ^ 62 + (st % 8) * 2 ^ 59 + (beads % 1024) * 2 ^ 49 + (rail % 16) * 2 ^ 45 + (owner % 4096) * 2 ^ 33 +
    (origin % 4096) * 2 ^ 21 + (epoch % 256) * 2 ^ 13 + row % 8192

/-- A stored row in another state. -/
def rowToSt (w st : Nat) : Nat :=
  mkRow (bitAt w 62) st (rowBeads w) (rowRail w) (rowOwner w) (rowOrigin w) (rowEpoch w) (w % 8192)

/-- A stored row with other beads. -/
def rowToBeads (w n : Nat) : Nat :=
  mkRow (bitAt w 62) (rowSt w) n (rowRail w) (rowOwner w) (rowOrigin w) (rowEpoch w) (w % 8192)

/-- A stored row with a new owner: XFER is set. -/
def rowToOwner (w u : Nat) : Nat := mkRow true (rowSt w) (rowBeads w) (rowRail w) u (rowOrigin w) (rowEpoch w) (w % 8192)

/-- The tag of a stored row as an admission word carries it, in bits 47:15 (R125). -/
def rowTag (w : Nat) : Nat := rowOrigin w * 2 ^ 36 + rowEpoch w * 2 ^ 28 + (w % 8192) * 2 ^ 15

/-- A tag as the three data fields of an event (R507). -/
def tagDat (w : Nat) : List Nat := [w % 65536, bitsOf w 16 16, bitsOf w 32 1]

/-- The stored word of a logical row. -/
def rowW (s : State) (i : Nat) : Nat := memRead 0 s.tly.rows i

/-- A logical row takes a new stored word; a snapshot of it turns stale (R114, TLY_ROW_STAT). -/
def State.setRow (s : State) (i w : Nat) : State :=
  { s with tly.rows := memWrite 0 s.tly.rows i w,
           tly.ROW_STAT_STALE := s.tly.ROW_STAT_STALE || (!s.tly.ROW_SEL_SPARE && decide (s.tly.ROW_SEL_SEL = i)) }

/-- The row is live: GRANTED or ARMED. -/
def liveW (w : Nat) : Bool := rowSt w = 1 || rowSt w = 2

/-- Rows in a state (R163). -/
def rowsIn (s : State) (st : Nat) : Nat := (s.tly.rows.filter fun x => rowSt x.2 = st).length

/-- Rows in GRANTED or ARMED. -/
def liveRows (s : State) : Nat := (s.tly.rows.filter fun x => liveW x.2).length

/-- Σ BEADS of the GRANTED and ARMED rows of a rail. -/
def liveBeads (s : State) (r : Nat) : Nat :=
  (s.tly.rows.filter fun x => liveW x.2 && decide (rowRail x.2 = r)).foldl (fun a x => a + rowBeads x.2) 0

/-- Σ BEADS of the ARMED rows of a rail. -/
def armedBeads (s : State) (r : Nat) : Nat :=
  (s.tly.rows.filter fun x => decide (rowSt x.2 = 2) && decide (rowRail x.2 = r)).foldl (fun a x => a + rowBeads x.2) 0

/-- The logical row that a tag names, if it is live and all three parts match (R125). -/
def tagRow (s : State) (word : BitVec 64) : Option Nat :=
  let i := bitsOf word.toNat 15 13
  let w := rowW s i
  if liveW w && decide (rowOrigin w = bitsOf word.toNat 36 12) && decide (rowEpoch w = bitsOf word.toNat 28 8) then some i else none

/-! ### The books of a rail (R170, R171) -/

/-- Bead size, mA (R122). -/
def beadSize (s : State) (r : Nat) : Nat :=
  match (vAt s.adm.rail r {}).RAIL_BSZ with | 0 => 25 | 1 => 50 | 2 => 100 | _ => 200

/-- w_r: credits per bead, mW. -/
def beadCredits (s : State) (r : Nat) : Nat := (vAt s.adm.rail r {}).RAIL_W

/-- I_lim,r, mA. -/
def iLim (s : State) (r : Nat) : Nat := (vAt s.beam.rail r {}).iAdm * 100

/-- I_base,r, mA. -/
def iBase (s : State) (r : Nat) : Nat := (vAt s.tly.rail r {}).BASE_BASE

/-- B_booked,r. -/
def booked (s : State) (r : Nat) : Nat := (vAt s.tly.rail r {}).BOOK_BOOKED

/-- U_r (R167). [DEDUCED, log entry 39] -/
def unknownBeads (s : State) (r : Nat) : Int := (booked s r : Int) - (liveBeads s r : Int)

/-- P_base: Σ w_r × N_base,r. [DEDUCED, log entry 39] -/
def pBase (s : State) : Nat := sumBelow 16 fun r => beadCredits s r * cdiv (iBase s r) (beadSize s r)

/-- Σ w_r × B_booked,r. -/
def pBooked (s : State) : Nat := sumBelow 16 fun r => beadCredits s r * booked s r

/-- H (R170). -/
def headroom (s : State) : Int :=
  (shareInForce s : Int) + s.adm.LOAN_IN - s.adm.LOAN_OUT - (pBase s : Int) - (pBooked s : Int)

/-- c_r: what the credits allow, in beads (R171). -/
def creditBeads (s : State) (r : Nat) : Nat := (headroom s).toNat / beadCredits s r

/-- I_rod,r (R171). -/
def iRod (s : State) (r : Nat) : Nat := min (iLim s r) (iBase s r + beadSize s r * (booked s r + creditBeads s r))

/-- The electrical term of room. -/
def roomElec (s : State) (r : Nat) : Int := ((iLim s r : Int) - (iBase s r : Int)) / (beadSize s r : Int) - (booked s r : Int)

/-- room (R171). -/
def room (s : State) (r : Nat) : Int := min (roomElec s r) (creditBeads s r : Int)

/-- The rail's booked current, mA (R235). [DEDUCED, log entry 40] -/
def bookedCurrent (s : State) (r : Nat) : Nat := iBase s r + beadSize s r * booked s r

/-! ### The unit table and closed domains (R121, R151) -/

/-- A unit's entry of the active unit table; without an active image, or a table in it, no entry is valid (R453, R465). -/
def unitEntry (s : State) (u : Nat) : Nat :=
  match s.stg.act with
  | some im => if s.seq.imgOn && im.hasUnit then memRead 0 im.unit u else 63 * 2 ^ 26
  | none => 63 * 2 ^ 26

/-- Rail mask of a unit. -/
def unitMask (s : State) (u : Nat) : Nat := bitsOf (unitEntry s u) 0 16
/-- Per-request cap of a unit. -/
def unitCap (s : State) (u : Nat) : Nat := bitsOf (unitEntry s u) 16 10
/-- Power domain of a unit; 63 marks the entry not valid (R465). -/
def unitDom (s : State) (u : Nat) : Nat := bitsOf (unitEntry s u) 26 6
/-- The entry is valid. [DEDUCED, log entry 39] -/
def unitValid (s : State) (u : Nat) : Bool := decide (unitDom s u < 50)

/-- A power domain is open to admission: ON, or IDLE_WAIT before step 4 (R151, R320). -/
def domOpen (s : State) (d : Nat) : Bool := let st := (vAt s.dom.dom d {}).ST_ST; st = 5 || st = 6

/-- The unit's domain is closed, so words to it are discarded (R151). -/
def unitClosed (s : State) (u : Nat) : Bool := unitValid s u && !domOpen s (unitDom s u)

/-! ### Words (R124 to R128) -/

/-- The rail's PREPOS becomes pending; a pending one keeps its place and takes the newer total (R235, R351). None goes to
an unresponsive regulator, nor outside the states of R355. [DEDUCED, log entry 36] -/
def State.prepos (s : State) (r : Nat) : State :=
  if s.vrg.BUS_UNRESP.testBit r || s.vrg.ppQ.contains r || s.seq.base ≠ .running || s.seq.tripped || railAbsent s r then s
  else { s with vrg.ppQ := s.vrg.ppQ ++ [r] }

/-- The word at the head of the queue rises on adm_out_valid: a GRANT that carries no ARMED starts its arming deadline
(R137, R534). [DEDUCED, log entry 38] -/
def State.outRise (s : State) : State :=
  match s.adm.outQ with
  | [] => s
  | o :: _ =>
    match o.row with
    | some i =>
      if o.word.toNat >>> 60 = 8 ∧ rowSt (rowW s i) = 1 ∧ memRead 0 s.tly.timer i = 0 then
        { s with tly.timer := memWrite 0 s.tly.timer i (s.now + 1) }
      else s
    | none => s

/-- A word is decided for a unit: it waits for the port, or is discarded where the unit's domain is closed (R151, R534). -/
def State.sendWord (s : State) (w : Nat) (row : Option Nat) : State :=
  if unitClosed s (bitsOf w 48 12) then s
  else { s with adm.outQ := s.adm.outQ ++ [OutWord.mk (BitVec.ofNat 64 w) row] }.outRise

/-- A REFUSAL word. -/
def refusalWord (unit tag code seqn : Nat) (tagv : Bool) (retry : Nat) : Nat :=
  0xC * 2 ^ 60 + (unit % 4096) * 2 ^ 48 + tag + (code % 32) * 2 ^ 10 + (seqn % 16) * 2 ^ 6 + (b2n tagv) * 2 ^ 5 + retry % 32

/-- A refusal is counted by its code and sent (R128, R191). -/
def State.refuse (s : State) (unit tag code seqn : Nat) (tagv : Bool) (retry : Nat) : State :=
  { s with adm.ref := vMod s.adm.ref (code - 1) fun e => { e with REF_CNT := satAdd 32 e.REF_CNT 1 } }.sendWord
    (refusalWord unit tag code seqn tagv retry) none

/-- What is left to the 2.0 µs bound of step 7 of R180, in whole µs rounded up. -/
def drainLeft (s : State) : Nat := cdiv (8 - (s.now - s.tly.bndAt)) ticksPerUs

/-- Words about a row that have not left: its GRANT and ARM are discarded (R181). -/
def State.dropWords (s : State) (i : Nat) (grantsToo : Bool) : State :=
  { s with adm.outQ := s.adm.outQ.filter fun o =>
      !(decide (o.row = some i) && (o.word.toNat >>> 60 = 0xA || (grantsToo && o.word.toNat >>> 60 = 8))) }

/-! ### Bookings -/

/-- The largest demand term of the epoch so far (R390). -/
def State.demandNote (s : State) (extra : Nat) : State :=
  { s with frm.peak := max s.frm.peak (pBase s + pBooked s + extra) }

/-- B_booked of a rail changes; a counter held by R169 keeps its value. -/
def State.book (s : State) (r : Nat) (f : Nat → Nat) : State :=
  if (vAt s.tly.rail r {}).cntStuck then s.demandNote 0
  else (({ s with tly.rail := vMod s.tly.rail r fun e => { e with BOOK_BOOKED := min 65535 (f e.BOOK_BOOKED) } }).demandNote 0).prepos r

/-- Beads leave the books of a rail other than at a boundary: the forecaster's feature 6 (R261). -/
def State.beadsGone (s : State) (r n : Nat) : State :=
  { s with fcs.rail := vMod s.fcs.rail r fun e => { e with nGone := e.nGone + n } }

/-- A row leaves GRANTED or ARMED for QUAR: no ARM follows, and its beads leave B_booked, but for the interval in which
the books are frozen (R147, R164). -/
def State.retire (s : State) (i : Nat) : State :=
  let w := rowW s i
  let s := (s.setRow i (rowToSt w 3)).dropWords i false
  let s := { s with tly.timer := memWrite 0 s.tly.timer i (s.now + 1), tly.seqNo := memWrite 0 s.tly.seqNo i 0,
                    tly.armedQ := s.tly.armedQ.filter (· ≠ i), tly.armQ := s.tly.armQ.filter (· ≠ i) }
  if s.tly.EPOCH_DRAIN then s else (s.book (rowRail w) (· - rowBeads w)).beadsGone (rowRail w) (rowBeads w)

/-- A row is withdrawn with a code (R127, R137). -/
def State.withdraw (s : State) (i code retry : Nat) : State :=
  let w := rowW s i
  (s.retire i).refuse (rowOwner w) (rowTag w) code 0 true retry

/-- The live rows, in ascending order. -/
def liveList (s : State) : List Nat := (s.tly.rows.filter fun x => liveW x.2).map (·.1)

/-- A power domain is switched off: every live row whose owner lies in it retires (R151). -/
def State.retireDomain (s : State) (d : Nat) : State :=
  (liveList s).foldl (fun s i =>
    if unitDom s (rowOwner (rowW s i)) = d then
      { s.retire i with adm.DOMRET_CNT := satAdd 32 s.adm.DOMRET_CNT 1 }
    else s) s

/-- A row read that fails every attempt: a live row goes to FAULT with its beads kept as unknown, any other row waits to
be tested and spared (R167, R484). -/
def State.rowFault (s : State) (i : Nat) : State :=
  let w := rowW s i
  if liveW w then
    let s := (s.setRow i (rowToSt w 4)).dropWords i false
    let s := { s with tly.timer := memWrite 0 s.tly.timer i 0, tly.seqNo := memWrite 0 s.tly.seqNo i 0,
                      tly.armedQ := s.tly.armedQ.filter (· ≠ i), tly.armQ := s.tly.armQ.filter (· ≠ i),
                      tly.faulted := s.tly.faulted ++ [i], tly.FAULT_CNT_FAULTED := satAdd 16 s.tly.FAULT_CNT_FAULTED 1 }
    (s.wordRetired 4 i).fault pgTly 16 0x0210 [i]
  else if rowSt w = 4 || s.tly.lost.contains i || s.tly.badFree.contains i then s
  else { s with tly.badFree := s.tly.badFree ++ [i], tly.freed := s.tly.freed.filter (· ≠ i),
                tly.timer := memWrite 0 s.tly.timer i 0 }

/-- A B_booked counter that fails every attempt: the rail has no room until the end of the drain window (R169). -/
def State.cntFault (s : State) (r : Nat) : State :=
  let s := { s with tly.rail := vMod s.tly.rail r fun e =>
    { e with BOOK_BOOKED := min 65535 ((iLim s r - iBase s r) / beadSize s r), cntStuck := true } }
  (s.wordRetired 4 r).fault pgTly 17 0x0213 [r]

/-! ### Allocation and deciding (R130, R165) -/

/-- The free row that a unit is given: rows never granted since the reset first, in ascending order, then those that
became FREE later, in that order, but for one whose stored ORIGIN and EPOCH are the unit's and the current ones. -/
def allocRow (s : State) (unit : Nat) : Option Nat :=
  match firstBelow 8192 fun i => decide (s.tly.fresh ≤ i) && !s.tly.lost.contains i && !s.tly.badFree.contains i with
  | some i => some i
  | none => s.tly.freed.find? fun i =>
      let w := rowW s i
      !(decide (rowOrigin w = unit) && decide (rowEpoch w = s.tly.EPOCH_NUM)) && !s.tly.lost.contains i

/-- Rows in GRANTED that count toward the 24 of R165: not those whose GRANT carries ARMED. -/
def unarmedRows (s : State) : Nat := rowsIn s 1 - s.tly.armedQ.length

/-- Checks 3 to 12 of R130 but the last one's room: the code of the first that fails, with its RETRY. -/
def requestCheck (s : State) (w : Nat) : Option (Nat × Nat) :=
  let u := bitsOf w 48 12
  let r := bitsOf w 44 4
  let beads := bitsOf w 30 10
  let mn := bitsOf w 20 10
  let m := if mn = 0 then beads else mn
  let n := min (min (beads : Int) (unitCap s u : Int)) (room s r)
  if !inService s then some (0x08, 31)
  else if s.sns.RANGE_OUT then some (0x0B, 31)
  else if s.tly.EPOCH_DRAIN then some (0x09, drainLeft s)
  else if !unitValid s u || unitClosed s u then some (0x03, 31)
  else if !(unitMask s u).testBit r then some (0x04, 31)
  else if beads = 0 ∨ beads < mn then some (0x05, 31)
  else if unitCap s u < m then some (0x06, 31)
  else if railHeld s r then some (0x0C, 31)
  else if (allocRow s u).isNone || decide (24 ≤ unarmedRows s) then some (0x0A, s.adm.POLICY_BACKOFF)
  else if n < (m : Int) then some (0x07, if (iRod s r - iBase s r) / beadSize s r < m then 31 else s.adm.POLICY_BACKOFF)
  else none

/-- A grant: the beads are booked at once, the row allocated, and the GRANT decided with ARMED where the last acknowledged
target covers the new total and vrg_rdy is high (R134, R136). [DEDUCED, log entry 40] -/
def State.grant (s : State) (w i n : Nat) : State :=
  let u := bitsOf w 48 12
  let r := bitsOf w 44 4
  let s := { s with tly.fresh := if s.tly.fresh ≤ i then i + 1 else s.tly.fresh, tly.freed := s.tly.freed.filter (· ≠ i),
                    tly.rail := vMod s.tly.rail r fun e => { e with bookSeq := e.bookSeq + 1 } }
  let s := s.book r (· + n)
  let v := vAt s.vrg.rail r {}
  let armed := decide (bookedCurrent s r ≤ v.PP_I_PP * 25) && v.rdy
  let row := mkRow false 1 n r u u s.tly.EPOCH_NUM i
  let s := s.setRow i row
  let s := { s with tly.seqNo := memWrite 0 s.tly.seqNo i (vAt s.tly.rail r {}).bookSeq, tly.timer := memWrite 0 s.tly.timer i 0,
                    tly.armedQ := if armed then s.tly.armedQ ++ [i] else s.tly.armedQ,
                    tly.durShort := let l := s.tly.durShort.filter (· ≠ i)
                      if decide (1 ≤ bitsOf w 16 4) && decide (bitsOf w 16 4 ≤ 5) then l ++ [i] else l,
                    tly.grants := s.tly.grants + 1, tly.peak := max s.tly.peak (liveRows s),
                    adm.GRANT_CNT := satAdd 32 s.adm.GRANT_CNT 1 }
  s.sendWord (8 * 2 ^ 60 + u * 2 ^ 48 + rowTag row + n * 2 ^ 5 + bitsOf w 40 4 * 2 + b2n armed) (some i)

/-- A loan is asked for: the credits alone refused the request, and every condition of R175 holds.
[DEDUCED, log entry 43; DEDUCED, log entry 72] -/
def State.askLoan (s : State) (r m : Nat) : State :=
  let s := s.demandNote (m * beadCredits s r)
  if decide ((m : Int) ≤ roomElec s r) && decide (creditBeads s r < m) && decide (0 < s.adm.LOAN_ASK) && inService s &&
     !s.tly.EPOCH_DRAIN && s.adm.askAt.isNone && (s.frm.firstShare || !s.frm.joined) then
    let d : Dir := if s.adm.askDir then .west else .east
    let d := if (neighbour s d).isSome then d else Dir.other d
    match neighbour s d with
    | some p =>
      let s := { s with adm.askAt := some s.now, adm.askDir := decide (d = Dir.east), adm.askSeq := (s.adm.askSeq + 1) % 256 }
      s.frmSend 1 0x10 p (s.tly.EPOCH_NUM * 2 ^ 88 + s.adm.askSeq * 2 ^ 80 + min s.adm.LOAN_ASK (2 ^ 32 - 1) * 2 ^ 48)
    | none => s
  else s

/-- REQUEST (R130): the checks in order, then the grant. -/
def State.decideRequest (s : State) (w : Nat) : State :=
  let u := bitsOf w 48 12
  let r := bitsOf w 44 4
  let beads := bitsOf w 30 10
  let mn := bitsOf w 20 10
  let m := if mn = 0 then beads else mn
  let s' := { s with tly.rail := vMod s.tly.rail r fun e => { e with ROD := iRod s r } }
  match requestCheck s w with
  | some (code, retry) =>
    let s := if code = 0x07 then s' else s
    let s := s.refuse u 0 code (bitsOf w 40 4) false retry
    if code = 0x07 then s.askLoan r m else s
  | none =>
    match allocRow s u with
    | some i => s'.grant w i (min (min beads (unitCap s u)) (room s r).toNat)
    | none => s

/-- RELEASE (R147): applied to the row its tag names, whatever unit sends it, or counted as stale. -/
def State.decideRelease (s : State) (w : Nat) : State :=
  match tagRow s (BitVec.ofNat 64 w) with
  | none => { s with tly.STALE_CNT := satAdd 32 s.tly.STALE_CNT 1 }
  | some i =>
    let row := rowW s i
    let n := bitsOf w 5 10
    let s := if rowOwner row = bitsOf w 48 12 then s else { s with adm.NONOWN_CNT := satAdd 32 s.adm.NONOWN_CNT 1 }
    if rowSt row = 1 ∨ n = 0 ∨ rowBeads row ≤ n then s.retire i
    else ((s.setRow i (rowToBeads row (rowBeads row - n))).book (rowRail row) (· - n)).beadsGone (rowRail row) n

/-- TRANSFER (R148): refused with 0x0D or 0x0E, or applied and noticed to the new owner. -/
def State.decideTransfer (s : State) (w : Nat) : State :=
  let u := bitsOf w 48 12
  let tag := bitsOf w 15 33 * 2 ^ 15
  match tagRow s (BitVec.ofNat 64 w) with
  | none => s.refuse u tag 0x0D 0 true 31
  | some i =>
    let row := rowW s i
    let nu := bitsOf w 3 12
    if !unitValid s nu || unitClosed s nu || !(unitMask s nu).testBit (rowRail row) then s.refuse u tag 0x0E 0 true 31
    else
      (s.setRow i (rowToOwner row nu)).sendWord
        (9 * 2 ^ 60 + nu * 2 ^ 48 + rowTag row + rowBeads row * 2 ^ 5 + rowRail row * 2 + b2n (decide (rowSt row = 2))) none

/-- A word that failed parity: refused with 0x01, the fields copied as R131 says, and 0x0313 recorded (R66, R160). -/
def State.decideParity (s : State) (w : Nat) : State :=
  let t := w >>> 60
  let tagv := t = 2 || t = 3
  (s.refuse (bitsOf w 48 12) (if tagv then bitsOf w 15 33 * 2 ^ 15 else 0) 0x01 (if t = 1 then bitsOf w 40 4 else 0) tagv 0).fault
    pgAdm 16 0x0313 [t % 16, bitsOf w 48 12]

/-- A word leaves the inbound buffer and is decided by its TYPE (R124, R130, R150), after any storage fault that its
reads meet (R167, R169). [DEDUCED, log entry 37] -/
def State.decideWord (s : State) (x : InWord) : State :=
  let w := x.word.toNat
  match x.par with
  | some _ => s.decideParity w
  | none =>
    let s := if x.cntF then s.cntFault (if w >>> 60 = 1 then bitsOf w 44 4 else rowRail (rowW s (bitsOf w 15 13))) else s
    let s := if x.rowF then
        (if w >>> 60 = 1 then (match allocRow s (bitsOf w 48 12) with | some i => s.rowFault i | none => s)
         else s.rowFault (bitsOf w 15 13)) else s
    if w >>> 60 = 1 then s.decideRequest w
    else if w >>> 60 = 2 then s.decideRelease w
    else if w >>> 60 = 3 then s.decideTransfer w
    else s.refuse (bitsOf w 48 12) 0 0x02 0 false 0

/-- The decision stage: it waits while 32 decided words wait for the port (R534). [DEDUCED, log entry 37] -/
def State.decideAll : Nat → State → State
  | 0, s => s
  | f + 1, s =>
    match s.adm.inQ with
    | [] => s
    | x :: q => if s.adm.outQ.length < 32 then State.decideAll f ({ s with adm.inQ := q }.decideWord x) else s

/-- A word transfers on adm_in while adm_in_ready is high: the ports are live, and the buffer holds 32 words (R64).
[DEDUCED, log entry 37; DEDUCED, log entry 38] -/
def State.admIn (s : State) (x : InWord) : State :=
  if 32 ≤ s.adm.inQ.length ∨ netUp s = false then s
  else
    let q := s.adm.inQ ++ [x]
    State.decideAll 33 { s with adm.inQ := q, adm.PORT_INBUF_PEAK := max s.adm.PORT_INBUF_PEAK q.length }

/-- REQUEST (R130). -/
def execRequest (word : BitVec 64) (fl : AdmFaults) (s : State) : Host.Outcome State Fault Refusal :=
  .next (s.admIn ⟨word, none, fl.row, fl.cnt⟩)

/-- RELEASE (R147). -/
def execRelease (word : BitVec 64) (fl : AdmFaults) (s : State) : Host.Outcome State Fault Refusal :=
  .next (s.admIn ⟨word, none, fl.row, fl.cnt⟩)

/-- TRANSFER (R148). -/
def execTransfer (word : BitVec 64) (fl : AdmFaults) (s : State) : Host.Outcome State Fault Refusal :=
  .next (s.admIn ⟨word, none, fl.row, fl.cnt⟩)

/-- BAD_TYPE (R124). -/
def execBadType (word : BitVec 64) (s : State) : Host.Outcome State Fault Refusal :=
  .next (s.admIn ⟨word, none, false, false⟩)

/-- ADMISSION_WORD_PARITY_FAULT (R131). -/
def execAdmissionWordParityFault (word : BitVec 64) (par : BitVec 2) (s : State) : Host.Outcome State Fault Refusal :=
  .next (s.admIn ⟨word, some par, false, false⟩)

/-- Even parity of the two halves of an admission word (R124). -/
def wordPar (w : Nat) : BitVec 2 :=
  BitVec.ofNat 2 (popcount 32 w % 2 + 2 * (popcount 32 (w >>> 32) % 2))

/-- Words at the head of the queue whose unit has closed since they were decided are discarded (R151). -/
def State.skipClosed : Nat → State → State
  | 0, s => s
  | f + 1, s =>
    match s.adm.outQ with
    | o :: q => if unitClosed s (bitsOf o.word.toNat 48 12) then State.skipClosed f { s with adm.outQ := q } else s
    | [] => s

/-- An ARM word of a row as it leaves, to the row's present owner (R149). [DEDUCED, log entry 38] -/
def armWord (row : Nat) : Nat := 0xA * 2 ^ 60 + rowOwner row * 2 ^ 48 + rowTag row + rowBeads row * 2 ^ 5 + rowRail row * 2

/-- A GRANT leaves: its beads count in feature 4 or 5 of the rail's frame by the DUR of its request (R261). -/
def State.grantLeft (s : State) (i r n : Nat) : State :=
  let short := s.tly.durShort.contains i
  { s with tly.durShort := s.tly.durShort.filter (· ≠ i),
           fcs.rail := vMod s.fcs.rail r fun e =>
             if short then { e with nShort := e.nShort + n } else { e with nLong := e.nLong + n } }

/-- The word at the head leaves: an ARM, or a GRANT with ARMED set, makes its row ARMED (R163, R164). -/
def State.leave (s : State) (o : OutWord) : State :=
  let t := o.word.toNat >>> 60
  match o.row with
  | none => { s with adm.lastOut := o.word, adm.lastPar := wordPar o.word.toNat }
  | some i =>
    let row := rowW s i
    let w := if t = 0xA then armWord row else o.word.toNat
    let s := { s with adm.lastOut := BitVec.ofNat 64 w, adm.lastPar := wordPar w }
    let s := if t = 8 then s.grantLeft i (rowRail row) (bitsOf w 5 10) else s
    if rowSt row = 1 ∧ (t = 0xA ∨ bitAt o.word.toNat 0) then
      let s := s.setRow i (rowToSt row 2)
      { s with tly.timer := memWrite 0 s.tly.timer i 0, tly.armQ := s.tly.armQ.filter (· ≠ i), tly.armedQ := s.tly.armedQ.filter (· ≠ i) }
    else s

/-- ADM_OUT_TRANSFER (R534): one word leaves; the decision stage goes on with what the buffer holds. -/
def execAdmOutTransfer (s : State) : Host.Outcome State Fault Refusal :=
  .next (
    if netUp s = false then s else
    let s := State.skipClosed s.adm.outQ.length s
    match s.adm.outQ with
    | [] => s
    | o :: q => State.decideAll 33 (({ s with adm.outQ := q }.leave o).outRise))

/-! ### Arming (R135, R137, R155) -/

/-- EMERGENCY and TRIPPED withhold arming (R155). -/
def armWithheld (s : State) : Bool := decide (5 ≤ shownState s) || s.tly.EPOCH_DRAIN

/-- Every GRANTED row of the rail that the acknowledged target covers is armed once vrg_rdy is high: one ARM word each. -/
def State.armRail (s : State) (r : Nat) : State :=
  if armWithheld s || !(vAt s.vrg.rail r {}).rdy then s
  else
    let cov := (vAt s.tly.rail r {}).ackSeq
    let l := (s.tly.rows.filter fun x => decide (rowSt x.2 = 1) && decide (rowRail x.2 = r)).map (·.1)
    l.foldl (fun s i =>
      let n := memRead 0 s.tly.seqNo i
      if n ≠ 0 && decide (n ≤ cov) && !s.tly.armQ.contains i && !s.tly.armedQ.contains i then
        { s with tly.armQ := s.tly.armQ ++ [i] }.sendWord (armWord (rowW s i)) (some i)
      else s) s

/-- ARM_LAPSE (R137): the row is still GRANTED 1.5 µs after its GRANT's adm_out_valid rose. -/
def execArmLapse (i : Fin 8192) (s : State) : Host.Outcome State Fault Refusal :=
  .next (
    let w := rowW s i.val
    let t := memRead 0 s.tly.timer i.val
    if decide (rowSt w = 1) && decide (t ≠ 0) && s.after (t - 1) 6 then
      if decide (5 ≤ shownState s) || railHeld s (rowRail w) then s.withdraw i.val 0x12 31
      else (s.withdraw i.val 0x10 0).event 0x0312 (rowRail w :: tagDat w)
    else s)

/-- A row becomes FREE and joins the end of the free list (R165). -/
def State.freeRow (s : State) (i : Nat) : State :=
  let s := s.setRow i (rowToSt (rowW s i) 0)
  { s with tly.timer := memWrite 0 s.tly.timer i 0, tly.freed := s.tly.freed ++ [i] }

/-- QUAR_EXPIRY (R164): at least 8 µs in QUAR. -/
def execQuarExpiry (i : Fin 8192) (s : State) : Host.Outcome State Fault Refusal :=
  .next (
    let t := memRead 0 s.tly.timer i.val
    if decide (rowSt (rowW s i.val) = 3) && decide (t ≠ 0) && s.after (t - 1) 32 then s.freeRow i.val else s)

/-! ### Lending (R175 to R178) -/

/-- An ask is open no longer. -/
def State.askDone (s : State) : State := { s with adm.askAt := none }

/-- LOAN_ASK_TIMEOUT (R175): 20 µs without an answer. -/
def execLoanAskTimeout (s : State) : Host.Outcome State Fault Refusal :=
  .next (match s.adm.askAt with
    | some t => if s.after t 80 then s.askDone else s
    | none => s)

/-- What a member lends of an ask: min(asked, max(0, H − L_in − KEEP)) (R175). -/
def lendable (s : State) (asked : Nat) : Nat :=
  if inService s && !s.tly.EPOCH_DRAIN then min asked (headroom s - (s.adm.LOAN_IN : Int) - (s.adm.LOAN_KEEP : Int)).toNat else 0

/-! ### Policing (R156 to R159) -/

/-- The clock domains that the image's domain table maps to the rail: DSET_IMG, which policing and the control law use
(R157, R200, R238). -/
def railDoms (s : State) (r : Nat) : Nat := (vAt s.beam.rail r {}).imgDset

/-- The level that the control engine imposes on a domain (R238 step 3): the lowest λ_r over the rails whose table names
it, but for rails in neutral mode, with no law, or that impose no throttle (R239). -/
def ctlThrottle (s : State) (c : Nat) : Nat :=
  (List.range 16).foldl (fun m q =>
    let e := vAt s.ctl.rail q {}
    if (railDoms s q).testBit c && e.CFG_OUT_T && !e.OUT_NEUTRAL && decide (e.CFG_NSTATE ≠ 0) then min m e.OUT_LEVEL else m) 15

/-- The lowest policing cap of the rails, but `skip`, whose table names a domain. -/
def polTerm (s : State) (skip c : Nat) : Nat :=
  (List.range 16).foldl (fun m q => if (railDoms s q).testBit c && decide (q ≠ skip) then min m (vAt s.tly.rail q {}).pol else m) 15

/-- The lowest of the sources of a domain's throttle level but the policing cap of rail `skip` (R158, R208). -/
def otherSources (s : State) (skip c : Nat) : Nat :=
  min (min (ctlThrottle s c) (polTerm s skip c)) (min (bc s c) (vAt s.thm.dom c {}).DOM_LEVEL)

/-- T[c], the throttle target of a domain: 0 in SAFE, LOADING and TRIPPED and while the R36 condition is in force, the
minimum of R238 step 4 otherwise (R335). -/
def tTarget (s : State) (c : Nat) : Nat :=
  if s.seq.base ≠ .running || s.seq.tripped || s.sns.RANGE_OUT then 0 else otherSources s 16 c

/-- The cap of rail `r` limits a mapped domain. -/
def polLimits (s : State) (r : Nat) : Bool :=
  (List.range 25).any fun c => (railDoms s r).testBit c && decide ((vAt s.tly.rail r {}).pol < otherSources s r c)

/-- The rail stops being unannounced: the cap returns to 15 and 0x0311 is raised with the lowest cap reached. -/
def State.unannEnd (s : State) (r : Nat) : State :=
  let low := (vAt s.tly.rail r {}).polLow
  ({ s with tly.rail := vMod s.tly.rail r fun e => { e with pol := 15, polLow := 15, isUn := false, polOver := 0, polUnder := 0 } }).event
    0x0311 [r, low]

/-- The remainder of a sample, mA (R156). -/
def remainder (s : State) (r iMeas : Nat) : Int := (iMeas : Int) - (bookedCurrent s r : Int)

/-- The cap falls by one step, to the floor at least. -/
def State.polDown (s : State) (r : Nat) : State :=
  { s with tly.rail := vMod s.tly.rail r fun e => { e with pol := e.pol - 1, polLow := min e.polLow (e.pol - 1), polOver := 0 } }

/-- One policed sample of a rail (R156 to R158). -/
def State.police (s : State) (r iMeas : Nat) : State :=
  if !s.tly.polOn || s.tly.EPOCH_DRAIN || railAbsent s r || !(decide (2 ≤ shownState s) && decide (shownState s ≤ 5)) then s
  else
    let x := remainder s r iMeas
    let b := beadSize s r
    if (b * (vAt s.adm.rail r {}).RAIL_TOL : Int) < x then
      let s := { s with tly.rail := vMod s.tly.rail r fun e => { e with polOver := e.polOver + 1, polUnder := 0 } }
      let e := vAt s.tly.rail r {}
      if e.isUn then (if 4 ≤ e.polOver then s.polDown r else s)
      else if 2 ≤ e.polOver then
        let s := { s.polDown r with tly.rail := vMod (s.polDown r).tly.rail r fun e => { e with isUn := true, HARV_UNANN := true } }
        s.event 0x0310 [r, min 1023 (x.toNat / b)]
      else s
    else
      let s := { s with tly.rail := vMod s.tly.rail r fun e => { e with polUnder := e.polUnder + 1, polOver := 0 } }
      let e := vAt s.tly.rail r {}
      if e.isUn && decide (64 ≤ e.polUnder) then
        let s := { s with tly.rail := vMod s.tly.rail r fun e => { e with pol := min 15 (e.pol + 1), polUnder := 0 } }
        if polLimits s r then s else s.unannEnd r
      else s

/-! ### Harvesting (R185 to R187) -/

/-- A stretch hold runs on the rail. -/
def stretchHold (s : State) (r : Nat) : Bool := (vAt s.tly.rail r {}).holdOn

/-- The stretch count has reached its limit. -/
def stretchFull (s : State) (r : Nat) : Bool :=
  decide (s.adm.POLICY_STRETCH_LIM ≠ 0) && decide (s.adm.POLICY_STRETCH_LIM ≤ (vAt s.tly.rail r {}).HARV_STRETCHES)

/-- Every condition of R185 holds. -/
def harvestOk (s : State) (r : Nat) : Bool :=
  let e := vAt s.tly.rail r {}
  (vAt s.adm.rail r {}).RAIL_HEN && inService s && !s.sns.RANGE_OUT && !railHeld s r && !e.HARV_UNANN && !e.HARV_PREV_UNANN &&
  !e.BASE_BFAULT && !stretchHold s r && !stretchFull s r

/-- G_wear,r (R496, R498): WEAR_MAX until the 64th valid reading and while the monitor has failed. -/
def gWear (s : State) (r : Nat) : Nat :=
  let e := vAt s.rel.wear r {}
  if e.WEAR_INIT || e.WEAR_FAILED then e.WEARCFG_WEAR_MAX else e.g

/-- G_full,r with the wear allowance (R497), mV. -/
def gFull (s : State) (r : Nat) : Nat := (vAt s.ctl.rail r {}).LIM_G_FULL + gWear s r

/-- G_harv,r as presented: G_full,r in neutral mode (R248), and the wear allowance in any case (R497). -/
def gHarvEff (s : State) (r : Nat) : Nat :=
  let e := vAt s.ctl.rail r {}
  if e.OUT_NEUTRAL then gFull s r else e.LIM_G_HARV + gWear s r

/-- G_fcs,r (R259). -/
def gFcs (s : State) (r : Nat) : Nat :=
  if !(vAt s.ctl.rail r {}).CFG_FCS_EN then 0
  else if s.fcs.STAT_FZ || (vAt s.fcs.rail r {}).RAIL_DRIFT then gFull s r
  else min (gFull s r) (gHarvEff s r + (vAt s.fcs.rail r {}).gNow)

/-- G_r (R186), mV. -/
def guardBand (s : State) (r : Nat) : Nat :=
  if (vAt s.tly.rail r {}).HARV_HARV then min (gFull s r) (max (gHarvEff s r) (gFcs s r)) else gFull s r

/-- Harvesting begins, at the end of a drain window or of a stretch hold, where the conditions allow it (R187). -/
def State.harvestBegin (s : State) (r : Nat) : State :=
  { s with tly.rail := vMod s.tly.rail r fun e => { e with HARV_HARV := harvestOk s r } }

/-- The conditions re-evaluated on a control sample: harvesting ends where one fails; the stretch count raises 0x0314
once in the epoch (R185, R187). -/
def State.harvestCheck (s : State) (r : Nat) : State :=
  if s.tly.EPOCH_DRAIN then s
  else
    let e := vAt s.tly.rail r {}
    let hit := e.HARV_HARV && stretchFull s r && !e.countHit
    let s := { s with tly.rail := vMod s.tly.rail r fun e => { e with HARV_HARV := e.HARV_HARV && harvestOk s r, countHit := e.countHit || hit } }
    if hit then s.event 0x0314 [r, (vAt s.tly.rail r {}).HARV_STRETCHES] else s

/-! ### The boundary in the tally (R180) -/

/-- Step 3 for one row: GRANTED goes to QUAR with 0x11 queued, its GRANT and ARM discarded if they have not left; ARMED
goes to QUAR without a word. -/
def State.closeRow (s : State) (i : Nat) : List OutWord × State :=
  let w := rowW s i
  if rowSt w = 1 then
    let s := (s.dropWords i true).retire i
    let s := { s with adm.ref := vMod s.adm.ref (0x11 - 1) fun e => { e with REF_CNT := satAdd 32 e.REF_CNT 1 } }
    if unitClosed s (rowOwner w) then ([], s)
    else ([⟨BitVec.ofNat 64 (refusalWord (rowOwner w) (rowTag w) 0x11 0 true (drainLeft s)), none⟩], s)
  else ([], s.retire i)

/-- Every live row closes; the withdrawals go ahead of every other word but one already on the port (R180, R181). -/
def State.closeRows (s : State) : State :=
  let head := (s.adm.outQ.take 1).filter fun o => o.row.isNone
  let x := (liveList s).foldl (fun (a : List OutWord × State) i => let y := a.2.closeRow i; (a.1 ++ y.1, y.2)) ([], s)
  let s := x.2
  let rest := if head = [] then s.adm.outQ else s.adm.outQ.drop 1
  { s with adm.outQ := head ++ x.1 ++ rest }.outRise

/-- Steps 1 to 3 of R180 in the tally: the epoch number, DRAIN, the loans, the frozen books, the closing of the rows, the
end of every policing episode and the marks of R185. -/
def State.tlyBoundary (s : State) (num : Nat) : State :=
  let s := (List.range 16).foldl (fun s r => if (vAt s.tly.rail r {}).isUn then s.unannEnd r else s) s
  let s := { s with tly.LAST_PEAK := s.tly.peak, tly.LAST_GRANTS := s.tly.grants, tly.peak := 0, tly.grants := 0,
                    tly.AUDIT_EPOCH := s.tly.EPOCH_NUM, tly.EPOCH_NUM := num % 256, tly.EPOCH_DRAIN := true, tly.bndAt := s.now,
                    adm.LOAN_IN := 0, adm.LOAN_OUT := 0, adm.askAt := none, trc.drained := true,
                    tly.rail := Vector.ofFn fun r : Fin 16 =>
                      let e := s.tly.rail[r]
                      { e with sumBnd := liveBeads s r, HARV_PREV_UNANN := e.HARV_UNANN, HARV_UNANN := false, HARV_STRETCHES := 0,
                               countHit := false, pol := 15, polLow := 15, polOver := 0, polUnder := 0, base1 := none, base2 := none } }
  s.closeRows

/-- I_base of one rail from its two samples; a present rail without a valid one takes I_lim,r (R173, R174). -/
def State.takeBase (s : State) (r : Nat) : State :=
  let e := vAt s.tly.rail r {}
  if railAbsent s r then { s with tly.rail := vMod s.tly.rail r fun e => { e with BASE_BASE := 0, BASE_BFAULT := false } }
  else
    match e.base1, e.base2 with
    | none, none =>
      ({ s with tly.rail := vMod s.tly.rail r fun e => { e with BASE_BASE := iLim s r, BASE_BFAULT := true } }).fault pgTly 20 0x0215 [r]
    | a, b => { s with tly.rail := vMod s.tly.rail r fun e => { e with BASE_BASE := max (a.getD 0) (b.getD 0), BASE_BFAULT := false } }

/-- The audit of step 6 (R184). -/
def State.audit (s : State) : State :=
  let u := fun r => ((vAt s.tly.rail r {}).BOOK_BOOKED : Int) - ((vAt s.tly.rail r {}).sumBnd : Int)
  let bad := (List.range 16).any fun r => decide (u r < 0) || (decide (u r ≠ 0) && s.tly.faulted.isEmpty)
  let sum := ((List.range 16).map u).foldl (· + ·) 0
  let unk := if sum < 0 then twos sum 16 else sat 16 sum.toNat
  let s := { s with tly.AUDIT_MISMATCH := bad, tly.AUDIT_UNK := unk }
  if bad then s.fault pgTly 19 0x0214 [s.tly.AUDIT_EPOCH, unk] else s

/-- A faulted row is tested at the end of the drain window: FREE, mapped to a spare, or LOST (R168). -/
def State.testRow (s : State) (bad : List Nat) (i : Nat) : State :=
  let free := fun (s : State) => if s.tly.fresh ≤ i then s else s.freeRow i
  if !bad.contains i then free s
  else if s.tly.spNext < 256 then
    let s := { s with tly.maps := memWrite 0 s.tly.maps i (s.tly.spNext + 1), tly.spNext := s.tly.spNext + 1,
                      tly.ROWCAP_SPARE_FREE := 255 - s.tly.spNext }
    let s := { s with tly.FAULT_CNT_SPARED := s.tly.maps.length }
    free (s.event 0x0211 [i, s.tly.spNext - 1])
  else
    let s := { s with tly.lost := s.tly.lost ++ [i], tly.ROWCAP_USABLE := s.tly.ROWCAP_USABLE - 1 }
    (s.setRow i (mkRow false 5 0 0 0 0 0 i)).fault pgTly 18 0x0212 [i]

/-- The rows in QUAR become FREE at the end of the drain window, and the faulted ones are tested (R168). -/
def State.drainRows (s : State) (bad : List Nat) : State :=
  let s := ((s.tly.rows.filter fun x => rowSt x.2 = 3).map (·.1)).foldl State.freeRow s
  (s.tly.faulted ++ s.tly.badFree).foldl (fun s i => s.testRow bad i) s

/-- A rail's books after the drain window: its target is pre-positioned where its booked total moved, and it is harvested.
[DEDUCED, log entry 36] -/
def State.drainRail (moved : Nat → Bool) (s : State) (r : Nat) : State := (if moved r then s.prepos r else s).harvestBegin r

/-- Steps 5 to 7 of R180: baselines, audit, books cleared, the lower target of each
rail whose books held beads (R235), QUAR and FAULT rows resolved, harvest decided, drain ended. -/
def State.drainEnd (s : State) (bad : List Nat) : State :=
  let s := ((List.range 16).foldl State.takeBase s).audit
  let moved := fun r => decide ((vAt s.tly.rail r {}).BOOK_BOOKED ≠ 0)
  let s := { s with tly.rail := s.tly.rail.map fun (e : TlyRail) => { e with BOOK_BOOKED := 0, cntStuck := false, sumBnd := 0 } }
  let s := s.drainRows bad
  let s := { s with tly.faulted := [], tly.badFree := [], tly.EPOCH_DRAIN := false, tly.polOn := s.tly.polOn || s.tly.actPol,
                    tly.actPol := false, frm.peak := 0 }
  let s := (List.range 16).foldl (State.drainRail moved) s
  let s := { s with tly.rail := Vector.ofFn fun r : Fin 16 => { s.tly.rail[r] with ROD := iRod s r } }
  (s.demandNote 0).settle 0x0211

/-- BASELINE_SAMPLE (R173): due 1.75 µs after the boundary instant; `bad` names the logical rows whose physical row
failed its write and read-back (R168). -/
def drainDue (s : State) : Bool := s.tly.EPOCH_DRAIN && s.after s.tly.bndAt 7

end Sys2Proof.Machine
end

