-- ==== Sys2Proof/Machine/Domains.lean ====
section
/-! DEFINITION. Power domains (10_domains_and_clocks.md, R318 to R332): demand, the wake queue and its credits, waking,
sleeping, and the switch-off orders. -/

namespace Sys2Proof.Machine

open Sys2Proof

/-- A power domain's registers. -/
def domOf (s : State) (d : Nat) : DomDom := vAt s.dom.dom d {}

/-- A power domain changed by `f`. -/
def State.domMod (s : State) (d : Nat) (f : DomDom → DomDom) : State := { s with dom.dom := vMod s.dom.dom d f }

/-- A strapped boot domain. -/
def isBoot (s : State) (d : Nat) : Bool := s.cmn.straps.bootDom.toNat.testBit d

/-- The domain is wanted (R318). -/
def domWanted (s : State) (d : Nat) : Bool :=
  s.dom.WAKE.testBit d || s.dom.REQ.testBit d || doorbellWake s d || isBoot s d

/-- Demands are acted on: past the first boundary after the activation, and not in TRIPPED (R319). -/
def demandActs (s : State) : Bool := s.dom.acting && decide (s.seq.base = .running) && !s.seq.tripped

/-- DOM_QUEUE.HEAD: the first unstarted entry, or 63. -/
def wakeHead (s : State) : Nat := match s.dom.queue with | e :: _ => e.dom | [] => 63

/-- The queue is paused (R322). -/
def wakePaused (s : State) : Bool :=
  decide (5 ≤ shownState s) || s.beam.STATE_BO || s.beam.STATE_BO_RAMP ||
  (match s.dom.queue with | e :: _ => railHeld s (domOf s e.dom).CFG_RAIL | [] => false)

/-- An entry's place: by priority, then by the time it joined, then by domain number (R322). -/
def wakeInsert (e : WakeEnt) : List WakeEnt → List WakeEnt
  | [] => [e]
  | x :: l =>
    if e.prio < x.prio ∨ (e.prio = x.prio ∧ (e.at_ < x.at_ ∨ (e.at_ = x.at_ ∧ e.dom < x.dom))) then e :: x :: l
    else x :: wakeInsert e l

/-- The round ends when its last entry has started: the entries that wait form the new one (R322). -/
def State.roundEnd (s : State) : State :=
  if s.dom.queue.isEmpty && !s.dom.started.isEmpty then
    { s with dom.queue := s.dom.nextQ, dom.nextQ := [], dom.started := [], dom.QUEUE_ROUND := satAdd 15 s.dom.QUEUE_ROUND 1 }
  else s

/-- An entry joins the round in progress, or the next one where an entry of its domain has started in this one (R322). -/
def State.joinQueue (s : State) (d : Nat) : State :=
  let e : WakeEnt := { dom := d, prio := 1 + (domOf s d).CFG_PRIO, at_ := s.now }
  let s := s.domMod d fun x => { x with ST_ST := 1, stepAt := s.now }
  if s.dom.started.contains d then { s with dom.nextQ := wakeInsert e s.dom.nextQ } else { s with dom.queue := wakeInsert e s.dom.queue }

/-- An entry leaves the queue before it starts. -/
def State.leaveQueue (s : State) (d : Nat) : State :=
  ({ s with dom.queue := s.dom.queue.filter (·.dom ≠ d), dom.nextQ := s.dom.nextQ.filter (·.dom ≠ d) }.domMod d
    fun x => { x with ST_ST := 0, forced := false }).roundEnd

/-- The credits of a wake go back to both pools (R321, R323). -/
def State.creditsBack (s : State) (d : Nat) : State :=
  let e := domOf s d
  if e.cred then
    ({ s with dom.INR_DIE_FREE := s.dom.INR_DIE_FREE + e.CFG_COST,
              dom.rail := vMod s.dom.rail e.CFG_RAIL fun x => { x with INR_RAIL_FREE := x.INR_RAIL_FREE + e.CFG_COST } }).domMod d
      fun x => { x with cred := false }
  else s

/-- The domain's demand is evaluated: a new demand wakes a domain that is off, is counted on one that has FAILED, and
turns a sleep back before its step 6, unless the instance is in TRIPPED, where no demand acts (R319); a demand that ends takes an unstarted entry out of the queue (R318, R322, R323,
R327). -/
def State.demandOf (s : State) (d : Nat) : State :=
  let e := domOf s d
  let w := domWanted s d
  let s := if w && !e.was then
      let s := s.domMod d fun x => { x with was := true, wantAt := s.now, unwantAt := none }
      if e.ST_ST = 8 then { s with dom.ABORT_CNT_FAILED_DEM := satAdd 16 s.dom.ABORT_CNT_FAILED_DEM 1 } else s
    else if !w && e.was then s.domMod d fun x => { x with was := false, unwantAt := some s.now }
    else s
  if w then
    if !s.seq.tripped && (e.ST_ST = 6 || (e.ST_ST = 7 && !e.isoUp)) then s.domMod d fun x => { x with ST_ST := 5, stepAt := s.now, ST_RET_HELD := false }
    else if demandActs s && e.ST_ST = 0 then s.joinQueue d
    else s
  else if e.ST_ST = 1 && !e.forced then s.leaveQueue d
  else s

/-- Every domain's demand, on a tick, in ascending order (R322). -/
def State.demands (s : State) : State := (List.range 50).foldl State.demandOf s

/-- The sequencer moves: no reset is asserted; through a warm reset every dom_ output but dom_idle_req is held (R69). -/
def domGo (s : State) : Bool := !s.rst.por && !s.rst.pin

/-- DOM_WAKE_INPUT (R318). -/
def execDomWakeInput (d : Fin 50) (level : Bool) (s : State) : Host.Outcome State Fault Refusal :=
  .next ({ s with dom.WAKE := putBit s.dom.WAKE d.val level }.demandOf d.val)

/-- WAKE_START (R322): at most one entry a tick, the first of the round, if its cost fits both free pools. -/
def execWakeStart (s : State) : Host.Outcome State Fault Refusal :=
  .next (match s.dom.queue with
    | [] => s
    | e :: q =>
      let x := domOf s e.dom
      let free := (vAt s.dom.rail x.CFG_RAIL {}).INR_RAIL_FREE
      if wakePaused s || !domGo s || decide (s.dom.startAt = some s.now) || decide (free < x.CFG_COST) || decide (s.dom.INR_DIE_FREE < x.CFG_COST) then s
      else
        let s := { s with dom.queue := q, dom.started := s.dom.started ++ [e.dom], dom.startAt := some s.now,
                          dom.INR_DIE_FREE := s.dom.INR_DIE_FREE - x.CFG_COST,
                          dom.rail := vMod s.dom.rail x.CFG_RAIL fun y => { y with INR_RAIL_FREE := y.INR_RAIL_FREE - x.CFG_COST } }
        (s.domMod e.dom fun y => { y with ST_ST := 2, stepAt := s.now, cred := true, forced := false, starting := false }).roundEnd)

/-- A wake fails at a step: both switches fall, the credits return, the domain is FAILED (R323). [DEDUCED, log entry 67] -/
def State.wakeFailed (s : State) (d step : Nat) : State :=
  let s := (s.creditsBack d).domMod d fun x => { x with ST_ST := 8, stepAt := s.now, ST_RET_HELD := false, isoUp := false }
  s.fault pgDom 16 0x0910 [d, step]

/-- Unexpected loss of power good (R328): isolated, rows retired, FAILED. -/
def State.pgLost (s : State) (d : Nat) : State :=
  let st := (domOf s d).ST_ST
  let s := (s.retireDomain d).domMod d fun x => { x with ST_ST := 8, stepAt := s.now, ST_RET_HELD := false }
  (s.fault pgDom 18 0x0912 [d, st]).rxOff d

/-- DOM_PG_CHANGE (R321, R323, R328). -/
def execDomPgChange (d : Fin 50) (level : Bool) (s : State) : Host.Outcome State Fault Refusal :=
  .next (
    let e := domOf s d.val
    let s := s.domMod d.val fun x => { x with pg := level, pgAt := if level && !x.pg then s.now else x.pgAt }
    if !domGo s && decide (2 ≤ e.ST_ST ∧ e.ST_ST ≤ 4) then s
    else if level then
      if e.ST_ST = 2 && !e.pg && decide (e.stepAt + e.TIM_PRE_TO < s.now) then s.wakeFailed d.val 3 else s
    else if !e.pg then s
    else
      match e.ST_ST with
      | 2 => s.wakeFailed d.val 4
      | 3 => s.wakeFailed d.val 5
      | 4 => s.wakeFailed d.val 6
      | 5 => s.pgLost d.val
      | 6 => s.pgLost d.val
      | _ => s)

/-- WAKE_FAIL (R323): dom_pg is not high within PRE_TO of step 2. -/
def execWakeFail (d : Fin 50) (s : State) : Host.Outcome State Fault Refusal :=
  .next (
    let e := domOf s d.val
    if domGo s && e.ST_ST = 2 && !e.pg && s.after e.stepAt e.TIM_PRE_TO then s.wakeFailed d.val 3 else s)

/-- WAKE_MAIN_SWITCH (R321 step 4): dom_pg has been high for PRE_HOLD without a break. -/
def execWakeMainSwitch (d : Fin 50) (s : State) : Host.Outcome State Fault Refusal :=
  .next (
    let e := domOf s d.val
    if domGo s && e.ST_ST = 2 && e.pg && s.after e.pgAt e.TIM_PRE_HOLD then s.domMod d.val fun x => { x with ST_ST := 3, stepAt := s.now } else s)

/-- WAKE_POWER_SETTLED (R321 step 5): dom_pg has stayed high for 1 µs after the main switch; the credits return and
dom_ret falls. A boot domain needs dom_pg high for 1 µs (R68). -/
def execWakePowerSettled (d : Fin 50) (s : State) : Host.Outcome State Fault Refusal :=
  .next (
    let e := domOf s d.val
    if domGo s && e.ST_ST = 3 && e.pg && s.after (max e.stepAt e.pgAt) 4 then
      (s.creditsBack d.val).domMod d.val fun x => { x with ST_ST := 4, stepAt := s.now, ST_RET_HELD := false }
    else s)

/-- WAKE_COMPLETE (R321 step 6): after RESTORE ticks the domain is ON, and its latency is reported (R324). -/
def execWakeComplete (d : Fin 50) (s : State) : Host.Outcome State Fault Refusal :=
  .next (
    let e := domOf s d.val
    if domGo s && e.ST_ST = 4 && s.after e.stepAt e.TIM_RESTORE then
      let l := sat 16 (s.now - e.wantAt)
      let s := if e.starting then s
        else { s with dom.LAT_LAST := l, dom.LAT_MAX := max s.dom.LAT_MAX l, dom.CNT_WAKES := satAdd 16 s.dom.CNT_WAKES 1 }
      s.domMod d.val
        fun x => { x with ST_ST := 5, stepAt := s.now, isoUp := false, starting := false,
                          unwantAt := if domWanted s d.val then none else some s.now }
    else s)

/-- SLEEP_START (R325): the domain may sleep and has gone unwanted for OFF_DELAY without a break (R318, R319). -/
def execSleepStart (d : Fin 50) (s : State) : Host.Outcome State Fault Refusal :=
  .next (
    let e := domOf s d.val
    let due := match e.unwantAt with | some t => s.after t (e.OFFD * ticksPerUs) | none => false
    if domGo s && e.ST_ST = 5 && e.CFG_SLEEP && !isBoot s d.val && !domWanted s d.val && due && demandActs s then
      s.domMod d.val fun x => { x with ST_ST := 6, stepAt := s.now }
    else s)

/-- Step 4 of R325: the domain closes, its rows retire, and the retention save begins. -/
def State.sleepClose (s : State) (d : Nat) : State :=
  (s.retireDomain d).domMod d fun x => { x with ST_ST := 7, stepAt := s.now, isoUp := false }

/-- IDLE_ACK (R325); ignored unless dom_idle_req is high (R60, R321). -/
def execIdleAck (d : Fin 50) (s : State) : Host.Outcome State Fault Refusal :=
  .next (if (domOf s d.val).ST_ST = 6 then s.sleepClose d.val else s)

/-- A domain switched off without an idle acknowledge in the orderly window is counted (R317). -/
def State.forcedOne (s : State) : State := { s with thm.shutForced := s.thm.shutForced + 1 }

/-- IDLE_TO (R326): the sleep is abandoned; in the orderly switch-off the domain is switched off from step 4 (R329). -/
def execIdleTo (d : Fin 50) (s : State) : Host.Outcome State Fault Refusal :=
  .next (
    let e := domOf s d.val
    if e.ST_ST = 6 && s.after e.stepAt (e.CFG_IDLE_TO * ticksPerUs) then
      if s.dom.orderly.isSome then (s.sleepClose d.val).forcedOne
      else
        ({ s with dom.ABORT_CNT_TIMEOUTS := satAdd 16 s.dom.ABORT_CNT_TIMEOUTS 1 }.domMod d.val
          fun x => { x with ST_ST := 5, stepAt := s.now, unwantAt := if domWanted s d.val then none else some s.now }).fault
            pgDom 17 0x0911 [d.val]
    else s)

/-- SAVE_COMPLETE (R325 step 6): after SAVE ticks, dom_iso rises. -/
def execSaveComplete (d : Fin 50) (s : State) : Host.Outcome State Fault Refusal :=
  .next (
    let e := domOf s d.val
    if domGo s && e.ST_ST = 7 && !e.isoUp && s.after e.stepAt (if e.CFG_RET then e.TIM_SAVE else 0) then
      s.domMod d.val fun x => { x with isoUp := true, stepAt := s.now }
    else s)

/-- Switched off without the handshake and without a retention save (R330). A domain that is off stays as it is.
[DEDUCED, log entry 69] -/
def State.forceOff (s : State) (d : Nat) : State :=
  let st := (domOf s d).ST_ST
  if st = 0 ∨ st = 8 then s
  else if st = 1 then s.leaveQueue d
  else
    let s := ((s.retireDomain d).creditsBack d).domMod d fun x =>
      { x with ST_ST := 0, stepAt := s.now, ST_RET_HELD := false, isoUp := false, forced := false }
    s.rxOff d

/-- The order of R329 and R330: descending ORDER, and descending domain number within one. -/
def offOrder (s : State) : List Nat :=
  (List.range 8).flatMap fun k => (List.range 50).filterMap fun j =>
    let d := 49 - j
    if (domOf s d).CFG_ORDER = 7 - k && !isBoot s d then some d else none

/-- Every domain outside STRAP_BOOT_DOM is switched off by force (R215, R302). -/
def State.forceOffAll (s : State) : State := (offOrder s).foldl State.forceOff s

/-- Every domain outside STRAP_BOOT_DOM is off (R302 step 8). -/
def allOff (s : State) : Bool := (List.range 50).all fun d => isBoot s d || (let st := (domOf s d).ST_ST; st = 0 || st = 8)

/-- One domain begins its orderly switch-off: the sleep of R325 where it is ON, by force where its wake is in progress.
[DEDUCED, log entry 74] -/
def State.orderlyOne (s : State) (d : Nat) : State :=
  match (domOf s d).ST_ST with
  | 5 => s.domMod d fun x => { x with ST_ST := 6, stepAt := s.now }
  | 2 => (s.forceOff d).forcedOne
  | 3 => (s.forceOff d).forcedOne
  | 4 => (s.forceOff d).forcedOne
  | _ => s

/-- The domains of one ORDER value, in descending number. -/
def orderDoms (s : State) (k : Nat) : List Nat :=
  (offOrder s).filter fun d => (domOf s d).CFG_ORDER = k

/-- The orderly switch-off goes on: the next ORDER value begins once each domain of this one is off (R329). -/
def State.orderlyGo : Nat → State → State
  | 0, s => s
  | f + 1, s =>
    match s.dom.orderly with
    | none => s
    | some k =>
      if (orderDoms s k).any fun d => (domOf s d).ST_ST = 6 || (domOf s d).ST_ST = 7 then s
      else if k = 0 then { s with dom.orderly := none }
      else State.orderlyGo f ((orderDoms s (k - 1)).foldl State.orderlyOne { s with dom.orderly := some (k - 1) })

/-- Queued entries leave the queue at step 2 of R302 (R329). -/
def State.queueLeave (s : State) : State :=
  (offOrder s).foldl (fun s d => if (domOf s d).ST_ST = 1 then s.leaveQueue d else s) s

/-- The orderly switch-off begins with ORDER 7 (R302 step 6, R329). [DEDUCED, log entry 74] -/
def State.orderlyStart (s : State) : State :=
  let s := s.queueLeave
  State.orderlyGo 8 ((orderDoms s 7).foldl State.orderlyOne { s with dom.orderly := some 7 })

/-- SLEEP_SWITCH_OFF (R325 steps 7 and 8): one tick after isolation both switches fall. -/
def execSleepSwitchOff (d : Fin 50) (s : State) : Host.Outcome State Fault Refusal :=
  .next (
    let e := domOf s d.val
    if domGo s && e.ST_ST = 7 && e.isoUp && s.after e.stepAt 1 then
      let s := { s with dom.CNT_SLEEPS := satAdd 16 s.dom.CNT_SLEEPS 1 }.domMod d.val fun x =>
        { x with ST_ST := 0, stepAt := s.now, ST_RET_HELD := x.CFG_RET, isoUp := false }
      let s := if s.dom.orderly.isSome then State.orderlyGo 8 (s.rxOff d.val) else s
      s.demandOf d.val
    else s)

/-- A DOM_FORCE write is refused with status 2 (R331). -/
def domForceRefused (s : State) (d : Nat) (on : Bool) : Bool :=
  decide (50 ≤ d) || (!on && isBoot s d) || s.seq.tripped || (on && (decide (s.seq.base ≠ .running)))

/-- DOM_FORCE with ON at 0 (R331). -/
def State.domForceOff (s : State) (d : Nat) : State :=
  let st := (domOf s d).ST_ST
  if st = 0 then s
  else
    let s := if st = 8 then s.domMod d fun x => { x with ST_ST := 0 } else s.forceOff d
    s.fault pgDom 19 0x0913 [d, 0]

/-- DOM_FORCE with ON at 1 (R331): FAILED clears and an entry goes first in the round in progress. -/
def State.domForceOn (s : State) (d : Nat) : State :=
  let e := domOf s d
  if e.ST_ST = 0 ∨ e.ST_ST = 1 ∨ e.ST_ST = 8 then
    let s := { s with dom.queue := { dom := d, prio := 0, at_ := s.now } :: s.dom.queue.filter (·.dom ≠ d),
                      dom.nextQ := s.dom.nextQ.filter (·.dom ≠ d) }
    (s.domMod d fun x => { x with ST_ST := 1, forced := true, wantAt := s.now, stepAt := s.now }).fault pgDom 19 0x0913 [d, 1]
  else if e.ST_ST = 6 ∨ (e.ST_ST = 7 ∧ e.isoUp = false) then
    (s.domMod d fun x => { x with ST_ST := 5, stepAt := s.now, ST_RET_HELD := false }).fault pgDom 19 0x0913 [d, 1]
  else s

/-- BOOT_DOMAIN_PG_TIMEOUT (R477): 1 ms after step 2 of the cold exit without power good. -/
def execBootDomainPgTimeout (d : Fin 50) (s : State) : Host.Outcome State Fault Refusal :=
  .next (
    let e := domOf s d.val
    if isBoot s d.val && s.rst.started && e.ST_ST = 3 && !e.pg && s.after s.rst.exitAt ticksPerMs then
      (s.wakeFailed d.val 3).fault pgRst 20 0x1316 [d.val]
    else s)

/-- A warm reset's release brings each domain left part-way to its nearer consistent end (R332): a domain with its main
switch on and dom_pg low, or with only the pre-charge switch, is not woken. [DEDUCED, log entry 13] -/
def State.domsAtWarmExit (s : State) : State :=
  (List.range 50).foldl (fun s d =>
    let e := domOf s d
    match e.ST_ST with
    | 1 => s.domMod d fun x => { x with ST_ST := 0 }
    | 2 => s.domMod d fun x => { x with ST_ST := 0, stepAt := s.now }
    | 3 => if e.pg then s.domMod d fun x => { x with stepAt := s.now } else s.wakeFailed d 5
    | 4 => if e.pg then s.domMod d fun x => { x with ST_ST := 3, stepAt := s.now } else s.wakeFailed d 6
    | 7 => s.domMod d fun x => { x with stepAt := s.now }
    | _ => s) s

end Sys2Proof.Machine
end

