-- ==== Sys2Proof/Machine/Clocks.lean ====
section
/-! DEFINITION. Clock codes and the timekeeper's source (10_domains_and_clocks.md, R333 to R342). -/

namespace Sys2Proof.Machine

open Sys2Proof

/-- A clock domain's registers. -/
def clkOf (s : State) (c : Nat) : ClkDom := vAt s.clk.dom c {}

/-- A clock domain changed by `f`. -/
def State.clkMod (s : State) (c : Nat) (f : ClkDom → ClkDom) : State := { s with clk.dom := vMod s.clk.dom c f }

/-- clk_gen_ok of a domain: high from the release of the ports until a command reports it low. [DEDUCED, log entry 68] -/
def genOk (s : State) (c : Nat) : Bool := s.rst.live && !(clkOf s c).genLow

/-- What R333 gives as the target step now. -/
def fRaw (s : State) (c : Nat) : Nat :=
  if s.seq.base ≠ .running || s.seq.tripped then s.cmn.straps.fboot.toNat
  else let e := clkOf s c; if e.HREQ_EN then min e.CFG_F_IMG e.HREQ_F_HOST else e.CFG_F_IMG

/-- A lowered target step applies at once (R333). -/
def State.fLower (s : State) : State :=
  { s with clk.dom := Vector.ofFn fun c : Fin 25 => { s.clk.dom[c] with ST_F_TGT := min s.clk.dom[c].ST_F_TGT (fRaw s c) } }

/-- At an epoch boundary the target step is what R333 gives then. -/
def State.fRaise (s : State) : State :=
  { s with clk.dom := Vector.ofFn fun c : Fin 25 => { s.clk.dom[c] with ST_F_TGT := fRaw s c } }

/-- clk_ssc_en as R336 wants it. -/
def sscWant (s : State) (c : Nat) : Bool := (clkOf s c).CFG_SSC && inService s && !(clkOf s c).ST_LOST

/-- The next move of a domain's codes, in the order of R337, if one is due. -/
def State.codeMove (s : State) (c : Nat) : State :=
  let e := clkOf s c
  let t := tTarget s c
  let thr := fun (v : Nat) => s.clkMod c fun e => { e with ST_THR := v, thrAt := s.now, MOVES_THR_MOVES := satAdd 16 e.MOVES_THR_MOVES 1 }
  let step := fun (v : Nat) => s.clkMod c fun e => { e with ST_FSTEP := v, fAt := s.now, MOVES_F_MOVES := satAdd 16 e.MOVES_F_MOVES 1 }
  if e.ST_LOST then s
  else if t < e.ST_THR then thr (e.ST_THR - 1)
  else if e.ST_F_TGT < e.ST_FSTEP ∧ s.after e.fAt e.CFG_FGAP then step (e.ST_FSTEP - 1)
  else if e.ST_SSC ≠ sscWant s c then s.clkMod c fun e => { e with ST_SSC := sscWant s c }
  else if e.ST_THR < t ∧ s.after e.thrAt e.CFG_UP_GAP then thr (e.ST_THR + 1)
  else if e.ST_FSTEP < e.ST_F_TGT ∧ s.after e.fAt e.CFG_FGAP ∧ !s.beam.inEmg then step (e.ST_FSTEP + 1)
  else s

/-- CLOCK_CODE_CHANGE (R337). -/
def execClockCodeChange (c : Fin 25) (s : State) : Host.Outcome State Fault Refusal := .next (s.codeMove c.val)

/-- The timekeeper's source as R340 selects it: true for the crystal. -/
def srcWanted (s : State) : Bool :=
  match s.clk.FORCE_SRC with
  | 1 => false
  | 2 => s.clk.TK_AMP_OK
  | _ => s.clk.TK_CFG && s.clk.TK_AMP_OK

/-- The source switches where the selection asks for it (R340, R341). -/
def State.srcApply (s : State) : State :=
  if srcWanted s = s.clk.TK_SRC then s
  else
    let x := srcWanted s
    ({ s with clk.TK_SRC := x, clk.TK_GLITCH := false, clk.TK_XTAL_SEEN := s.clk.TK_XTAL_SEEN || x,
              clk.TK_CNT_SWITCHES := satAdd 16 s.clk.TK_CNT_SWITCHES 1 }.event 0x0A12 [b2n x]).settle 0x0A12

/-- XTAL_AMP_LOSS (R340): the amplitude collapses; if the crystal is selected, the timekeeper switches at once. -/
def execXtalAmpLoss (s : State) : Host.Outcome State Fault Refusal :=
  .next (
    let s' := { s with clk.TK_AMP_OK := false, clk.ampAt := s.now }
    if s.clk.TK_SRC then
      ({ s' with clk.TK_CNT_XTAL_LOSS := satAdd 16 s.clk.TK_CNT_XTAL_LOSS 1 }.fault pgClk 18 0x0A14).srcApply
    else s')

/-- XTAL_SELECT (R340): AMP_OK has held for 2 ms without a break. -/
def execXtalSelect (s : State) : Host.Outcome State Fault Refusal :=
  .next (if s.after s.clk.ampAt (2 * ticksPerMs) then { s with clk.TK_AMP_OK := true }.srcApply else s)

/-- SOURCE_SELECTION_FORCED (R341): 64 handshake events have passed without a low phase of both clocks. -/
def execSourceSelectionForced (events : Nat) (s : State) : Host.Outcome State Fault Refusal :=
  .next (
    if 64 ≤ events then
      { s with clk.TK_GLITCH := true, clk.TK_HANGS := satAdd 8 s.clk.TK_HANGS 1 }.fault pgClk 17 0x0A13 [b2n (!s.clk.TK_SRC), events]
    else s)

/-- A CLK_FORCE_SRC write is refused with status 2 (R340). -/
def forceSrcRefused (s : State) (sel : Nat) : Bool := sel = 3 || (sel = 2 && !s.clk.TK_AMP_OK)

/-- A CLK_FORCE_SRC write. -/
def State.forceSrc (s : State) (sel : Nat) : State := { s with clk.FORCE_SRC := sel }.srcApply

end Sys2Proof.Machine
end

