-- ==== Sys2Proof/Machine/VrgBase.lean ====
section
/-! DEFINITION. The queues of the setpoint bus (R348 to R355), and the beam's trip (R214, R215), which the beam's
comparisons and the telemetry share. -/

namespace Sys2Proof.Machine

open Sys2Proof

/-- A rail's registers on the VRG page. -/
def vrgOf (s : State) (r : Nat) : VrgRail := vAt s.vrg.rail r {}

/-- A rail on the VRG page changed by `f`. -/
def State.vrgMod (s : State) (r : Nat) (f : VrgRail → VrgRail) : State := { s with vrg.rail := vMod s.vrg.rail r f }

/-- A rail's regulator is unresponsive (R354). -/
def unresp (s : State) (r : Nat) : Bool := s.vrg.BUS_UNRESP.testBit r

/-- A trim-class transaction takes the place of an unsent one of the same rail and operation, or joins the queue (R351). -/
def trimPut (x : VrgXact) : List VrgXact → List VrgXact
  | [] => [x]
  | y :: l => if y.rail = x.rail ∧ y.op = x.op then x :: l else y :: trimPut x l

/-- A trim-class transaction is offered to the bus; an unresponsive regulator gets only the round's single attempts
(R351, R354). -/
def State.trim (s : State) (r op d : Nat) (single : Bool) : State :=
  if unresp s r && !single then s
  else
    let repl := decide (op = 1) && s.vrg.trimQ.any fun y => y.rail = r && y.op = 1
    let s := { s with vrg.trimQ := trimPut { rail := r, op := op, d := d, single := single } s.vrg.trimQ,
                      vrg.BUS_CNT_SETV_REPL := if repl then satAdd 16 s.vrg.BUS_CNT_SETV_REPL 1 else s.vrg.BUS_CNT_SETV_REPL }
    if op = 1 then s.vrgMod r fun e => { e with issued := d }
    else if op = 4 then s.vrgMod r fun e => { e with mapOn := true, lastMap := d }
    else s

/-- A cold exit writes every rail's strapped boot code once, V0 first (R73, R355). [DEDUCED, log entry 75] -/
def State.coldCodes (s : State) : State :=
  (List.range 16).foldl (fun (s : State) r => s.trim r 1 (vbootOf s r) false) s

/-- SETV of a rail's strapped boot code, unless the rail is absent (R215, R302). -/
def State.bootCode (s : State) (r : Nat) : State := if railAbsent s r then s else s.trim r 1 (vbootOf s r) false

/-- The boot codes of every rail that is not absent, V0 first. -/
def State.bootCodes (s : State) : State := (List.range 16).foldl State.bootCode s

/-! ### Trips -/

/-- Rows granted and not armed are withdrawn with 0x12, armed rows retire (R155, R215 step 4). -/
def State.tripRows (s : State) : State :=
  (liveList s).foldl (fun s i => if rowSt (rowW s i) = 1 then s.withdraw i 0x12 31 else s.retire i) s

/-- An entry to TRIPPED ends an open live load: a committed image waits in staging, any other is discarded (R472); the
entry is counted in the hour (R305). -/
def State.tripEntry (s : State) : State :=
  if s.seq.tripped then s
  else
    let hour := 3600 * ticksPerS
    let l := s.now :: s.thm.tripTicks.filter fun t => decide (s.now < t + hour)
    let live := s.seq.STATE_LIVE_LOAD
    let s := { s with seq.tripped := true, seq.STATE_LIVE_LOAD := false, thm.tripTicks := l,
                      dom.acting := false }
    if live then { s with seq.STATE_ACT_PEND := false, stg.img := if s.seq.STATE_COMMITTED then s.stg.img else none } else s

/-- The beam trips the die (R215): cause, source and value as R214 and R223 give them. The rows, the domains and the boot
codes follow at once; the latch is set and the recorder flushed. A die that has tripped already keeps its first cause.
[DEDUCED, log entry 69] -/
def State.trip (s : State) (cause src value : Nat) : State :=
  if s.seq.tripped && s.beam.STATE_TRIP_LATCH then s
  else
    let shut := decide (s.thm.STATE_PHASE = 1)
    let s := (s.tripEntry.tripRows).forceOffAll.bootCodes
    let s := { s with beam.STATE_TRIP_LATCH := true, beam.CAUSE_TRIP_CAUSE := cause, beam.CAUSE_TRIP_SRC := src,
                      beam.EMG_CNT_TRIPS := satAdd 16 s.beam.EMG_CNT_TRIPS 1, thm.STATE_PHASE := 2, thm.phaseAt := s.now,
                      thm.STATE_SHUT_LATCH := s.thm.STATE_SHUT_LATCH || shut, dom.orderly := none,
                      vrg.ppQ := [] }
    ((s.event 0x041A [cause, src, value]).settle 0x041A).flush

end Sys2Proof.Machine
end

