-- ==== Sys2Proof/Machine/Samples.lean ====
section
/-! DEFINITION. The beam's comparisons on a control sample (R205, R209, R211, R214) and the policing that goes with each
sample of a rail (R156), for samples delivered in time, delivered late, and not delivered. -/

namespace Sys2Proof.Machine

open Sys2Proof

/-- Power of a rail in nW. -/
def powNw (iMa vUv : Nat) : Nat := iMa * vUv

/-- A lowered ceiling, with its runs: `beyond` says that the sample passes its limit, `trig` the consecutive samples that
begin the response, `hold` the sample lies in the hold band, 16 samples beyond it raise RC by one level (R211). -/
def State.lowering (s : State) (r k trig : Nat) (beyond clean : Bool) : State :=
  if beyond then
    let x := respOf s r k
    if x.on then s.respMod r k fun x => { x with rc := x.rc - 2, rel := 0 }
    else if x.run + 1 < trig then s.respMod r k fun x => { x with run := x.run + 1 }
    else (s.respMod r k fun x => { x with run := 0 }).respBegin r k (lowestThr s (dset s r) - 2)
  else
    let s := s.respMod r k fun x => { x with run := 0, rel := if clean then x.rel else 0 }
    if clean then s.respRise r k 16 else s

/-- The over-voltage response: it leaves RC unchanged and ends on 16 consecutive samples 25 mV below V_MAX_eff (R211). -/
def State.overVoltage (s : State) (r vUv : Nat) : State :=
  let vmax := codeUv (vMaxEff s r)
  let x := respOf s r 2
  if x.on then
    if vUv + 25000 ≤ vmax then
      (if x.rel + 1 < 16 then s.respMod r 2 fun x => { x with rel := x.rel + 1 } else s.respEnd r 2)
    else s.respMod r 2 fun x => { x with rel := 0 }
  else if vmax < vUv then
    (if x.run + 1 < 2 then s.respMod r 2 fun x => { x with run := x.run + 1 }
     else (s.respMod r 2 fun x => { x with run := 0 }).respBegin r 2 15)
  else s.respMod r 2 fun x => { x with run := 0 }

/-- A detector of the rail is failed and no spare serves its tap (R205). -/
def detUnserved (s : State) (r : Nat) : Bool :=
  (List.range 4).any fun t => let e := vAt s.beam.det (4 * r + t) {}; e.DD_FAILED && !e.DD_SUBST

/-- A measurement consumer of the rail has fallen (R354, R359). -/
def consumerFallen (s : State) (r : Nat) : Bool := unresp s r || (vrgOf s r).tgLost

/-- One sample with its cause absent, for the responses that no comparison releases (R209). -/
def State.otherReleases (s : State) (r : Nat) : State :=
  let s := if (vAt s.beam.rail r {}).persist then s else s.respRise r 0 16
  let s := if (vrgOf s r).flt then s else s.respRise r 4 16
  let s := if detUnserved s r then s else s.respRise r 6 16
  if consumerFallen s r || s.rel.BLIND_BUS.testBit r then s else s.respRise r 7 16

/-- The over-voltage trip: V_meas above V_MAX_eff by more than 50 mV on 4 consecutive samples (R214). -/
def State.ovTrip (s : State) (r vUv : Nat) : State :=
  if codeUv (vMaxEff s r) + 50000 < vUv then
    let n := (vAt s.beam.rail r {}).ov50 + 1
    let s := s.brMod r fun e => { e with ov50 := n }
    if 4 ≤ n then s.trip 4 r (sat 16 (vUv / 1000)) else s
  else s.brMod r fun e => { e with ov50 := 0 }

/-- The spare of a primary's pair of rails is asked to serve it, if it is free (R491). -/
def State.wantSpare (s : State) (d : Nat) : State :=
  let j := 64 + d / 8
  let sp := detOf s j
  if !sp.DD_FAILED && !sp.DD_SUBST && decide (sp.want = 127) then s.detMod j fun e => { e with want := d } else s

/-- A detector is marked failed: its output leaves every line, 0x041D is recorded, the rail goes to its floor until a spare
serves the tap, and a free spare of its pair is asked to join (R205, R491). [DEDUCED, log entry 72] -/
def State.failDet (s : State) (d reason : Nat) : State :=
  let e := detOf s d
  if e.DD_FAILED then s
  else
    let s := (s.detMod d fun e => { e with DD_FAILED := true, stuck := 0 }).fault pgBeam 19 0x041D [d, reason]
    if d < 64 then (if railAbsent s (detRail d) then s else s.respBegin (detRail d) 6 0).wantSpare d
    else
      let s := s.detMod d fun e => { e with DD_SUBST := false, DD_SERVES := 127, want := 127 }
      let p := if e.DD_SERVES < 64 then e.DD_SERVES else e.want
      if p < 64 then (s.detMod p fun e => { e with DD_SUBST := false }).respBegin (detRail p) 6 0 else s

/-- While a rail is in droop persistence, each asserted detector that contradicts the telemetry on 16 consecutive samples
is marked failed (R205). -/
def State.stuckCheck (s : State) (r vUv : Nat) : State :=
  if !respOn s r 0 then s
  else
    (List.range 72).foldl (fun s d =>
      if (detPrimary s d).map detRail = some r then
        let e := detOf s d
        if e.out && !e.DD_FAILED && decide (codeUv (codeEff s d) + 30000 ≤ vUv) then
          if e.stuck + 1 < 16 then s.detMod d fun e => { e with stuck := e.stuck + 1 }
          else s.failDet d 1
        else s.detMod d fun e => { e with stuck := 0 }
      else s) s

/-- One delivered sample of a rail: the comparisons of R211 but the die power's, the trip of R214, the detectors' check,
blind mode's count and the policing of R156. -/
def State.railSample (s : State) (r : Nat) : State :=
  if railAbsent s r || !s.rst.started then s
  else
    let v := vrgOf s r
    let i := v.iMeas
    let u := v.vMeas
    let blind := s.rel.BLIND_TG.testBit r
    let s := s.wearMod r fun e => { e with okRun := if blind then e.okRun + 1 else 0, tgAt := if blind then e.tgAt else none }
    let s := s.brMod r fun e => { e with pHist := (powNw i u :: e.pHist).take 400 }
    let s := { s with trc.sums := vMod s.trc.sums r fun m => { n := m.n + 1, i := m.i + i, v := m.v + u } }
    let s := if blind then s
      else
        let ie := iEff s r * 100
        let s := if s.beam.STATE_BUILTIN then s else s.lowering r 1 2 (decide (ie < i)) (decide (16 * i ≤ 15 * ie))
        let s := s.overVoltage r u
        let vmin := codeUv (vMinEff s r)
        let s := s.lowering r 3 4 (decide (u + 25000 < vmin)) (decide (vmin ≤ u))
        s.respRise r 5 16
    (((s.otherReleases r).stuckCheck r u).ovTrip r u).police r i

/-- A sample that is not delivered after its attempts (R211): the rail goes to its beam floor, or stays at LEVEL in blind
mode; the release of this response starts afresh (R209), and blindness counts from the first such sample (R487). -/
def State.sampleLost (s : State) (r : Nat) : State :=
  if railAbsent s r || !s.rst.started then s
  else
    let s := s.wearMod r fun e => { e with okRun := 0, tgAt := some (e.tgAt.getD s.now) }
    if s.rel.BLIND_TG.testBit r then s
    else if respOn s r 5 then s.respMod r 5 fun x => { x with rc := 0, rel := 0 }
    else (s.setErr pgBeam 22).respBegin r 5 0

/-- The die power P, nW: the last delivered sample of each present rail, and for a telemetry-blind rail the mean of its
last 400 (R211, R488). -/
def diePower (s : State) : Nat :=
  sumBelow 16 fun r =>
    if railAbsent s r then 0
    else
      let h := (vAt s.beam.rail r {}).pHist
      if s.rel.BLIND_TG.testBit r then (if h.isEmpty then 0 else h.foldl (· + ·) 0 / h.length) else h.headD 0

/-- The die power comparison of a sample (R211); on the built-in ceilings none is made (R195). -/
def State.dieSample (s : State) : State :=
  let p := diePower s
  let lim := pEff s * 100000000
  let s := { s with beam.PDIE := sat 16 (p / 100000000) }
  let x := s.beam.die
  if s.beam.STATE_BUILTIN then s
  else if lim < p then
    if x.on then
      (if x.run + 1 < 4 then { s with beam.die := { x with run := x.run + 1, rel := 0 } }
       else { s with beam.die := { x with run := 0, rel := 0, rc := x.rc - 1 } })
    else if x.run + 1 < 4 then { s with beam.die := { x with run := x.run + 1 } }
    else
      { s with beam.die := { on := true, rc := lowestThr s (2 ^ 25 - 1) - 1, run := 0, rel := 0 },
               beam.dcLow := lowestThr s (2 ^ 25 - 1) - 1 }.event 0x0413 [sat 16 (p / 100000000)]
  else
    let clean := decide (16 * p ≤ 15 * lim)
    if !x.on then { s with beam.die := { x with run := 0 } }
    else if !clean then { s with beam.die := { x with run := 0, rel := 0 } }
    else if x.rel + 1 < 64 then { s with beam.die := { x with run := 0, rel := x.rel + 1 } }
    else if 14 ≤ x.rc then { s with beam.die := {} }.event 0x0414 [s.beam.dcLow]
    else { s with beam.die := { x with run := 0, rel := 0, rc := x.rc + 1 } }

end Sys2Proof.Machine
end

