-- ==== Sys2Proof/Machine/Vrg.lean ====
section
/-! DEFINITION. Regulators (11_regulators_and_input.md, R348 to R361) and blind mode (R487 to R489): the setpoint bus,
vrg_rdy and vrg_flt, telemetry words, phases and their spares. -/

namespace Sys2Proof.Machine

open Sys2Proof

/-! ### The setpoint bus -/

/-- Transactions may start: from step 2 of the cold exit, and not while a reset is asserted (R73, R355).
[DEDUCED, log entry 78] -/
def busOpen (s : State) : Bool := s.rst.started && !s.rst.por && !s.rst.pin

/-- VRG_TRANSACTION_START (R351): a pending PREPOS first, in order, but a waiting trim-class transaction after every 16 in
a row; then RESEND; then the trim class. A PREPOS carries the booked current of the moment, in 25 mA rounded up (R348).
[DEDUCED, log entry 78] -/
def execVrgTransactionStart (s : State) : Host.Outcome State Fault Refusal :=
  .next (
    if s.vrg.cur.isSome || !busOpen s then s
    else
      match s.vrg.ppQ, s.vrg.trimQ, s.vrg.resendQ with
      | [], [], [] => s
      | [], x :: q, [] => { s with vrg.cur := some x, vrg.curAt := s.now, vrg.trimQ := q, vrg.ppRun := 0 }
      | [], _, r :: q => { s with vrg.cur := some { rail := r, op := 6, d := 0 }, vrg.curAt := s.now, vrg.resendQ := q, vrg.ppRun := 0 }
      | r :: q, t, _ =>
        match t with
        | x :: t' =>
          if 16 ≤ s.vrg.ppRun then { s with vrg.cur := some x, vrg.curAt := s.now, vrg.trimQ := t', vrg.ppRun := 0 }
          else
            { s with vrg.cur := some { rail := r, op := 2, d := sat 16 (cdiv (bookedCurrent s r) 25),
                                       cover := (vAt s.tly.rail r {}).bookSeq },
                     vrg.curAt := s.now, vrg.ppQ := q, vrg.ppRun := s.vrg.ppRun + 1 }
        | [] =>
          { s with vrg.cur := some { rail := r, op := 2, d := sat 16 (cdiv (bookedCurrent s r) 25),
                                     cover := (vAt s.tly.rail r {}).bookSeq },
                   vrg.curAt := s.now, vrg.ppQ := q, vrg.ppRun := s.vrg.ppRun + 1 })

/-- The transaction is acknowledged: the regulator has taken its operand (R350). -/
def State.xactAcked (s : State) (x : VrgXact) (ns : Nat) : State :=
  match x.op with
  | 1 => s.vrgMod x.rail fun e => { e with SET := x.d, setAck := true }
  | 2 =>
    let s := { s with vrg.PP_CNT := satAdd 32 s.vrg.PP_CNT 1, vrg.PP_TIME_LAST := sat 16 ns,
                      vrg.PP_TIME_MAX := max s.vrg.PP_TIME_MAX (sat 16 ns),
                      tly.rail := vMod s.tly.rail x.rail fun e => { e with ackSeq := x.cover } }
    (s.vrgMod x.rail fun e => { e with PP_I_PP := x.d }).armRail x.rail
  | 4 => s.vrgMod x.rail fun e => { e with PHST_ACTIVE := x.d, mapAck := true }
  | _ => s

/-- The bus is free again. [DEDUCED, log entry 78] -/
def State.vrgTaken (s : State) : State := { s with vrg.cur := none }

/-- VRG_ACK (R350). -/
def execVrgAck (ns : Nat) (s : State) : Host.Outcome State Fault Refusal :=
  .next (match s.vrg.cur with
    | some x => (if 1 < x.tries then s.wordReplayed else s).vrgTaken.xactAcked x ns
    | none => s)

/-- A regulator becomes unresponsive (R354): the rail goes to its floor, 0x0B10, and its pending transactions go. -/
def State.unrespMark (s : State) (r op : Nat) : State :=
  let s := { s with vrg.BUS_UNRESP := putBit s.vrg.BUS_UNRESP r true, vrg.ppQ := s.vrg.ppQ.filter (· ≠ r),
                    vrg.trimQ := s.vrg.trimQ.filter (·.rail ≠ r), vrg.resendQ := s.vrg.resendQ.filter (· ≠ r) }
  let s := (s.vrgMod r fun e => { e with okRounds := 0, setAck := false, mapAck := false }).wearMod r fun e =>
    { e with busAt := some s.now }
  (s.fault pgVrg 17 0x0B10 [r, op]).respBegin r 7 0

/-- VRG_ACK_TIMEOUT (R354): 1 µs without vrg_ack; replayed up to 3 attempts in all. -/
def execVrgAckTimeout (s : State) : Host.Outcome State Fault Refusal :=
  .next (match s.vrg.cur with
    | none => s
    | some x =>
      if s.after s.vrg.curAt 4 then
        let s := { s with vrg.BUS_CNT_TIMEOUTS := satAdd 16 s.vrg.BUS_CNT_TIMEOUTS 1 }
        if x.single then { s with vrg.cur := none }
        else if x.tries < 3 then { s with vrg.cur := some { x with tries := x.tries + 1 }, vrg.curAt := s.now }
        else ((s.vrgTaken.wordRetired 7 x.rail).unrespMark x.rail x.op).beamSettle.settle 0x0B10
      else s)

/-- VRG_RDY (R352): the rail reports ready, or not. -/
def execVrgRdy (r : Fin 16) (level : Bool) (s : State) : Host.Outcome State Fault Refusal :=
  .next ((s.vrgMod r.val fun e => { e with rdy := level }).armRail r.val)

/-- VRG_FLT_CHANGE (R211): high, the rail is at its beam floor at once; low, its release starts to count. -/
def execVrgFltChange (r : Fin 16) (level : Bool) (s : State) : Host.Outcome State Fault Refusal :=
  .next (
    let s := s.vrgMod r.val fun e => { e with flt := level }
    if railAbsent s r.val || !level then s else (s.respBegin r.val 4 0).beamSettle.settle 0x0411)

/-! ### Phases (R360, R361) -/

/-- The marks of a rail have changed: the map that follows is issued while an image is active, with the events of a
spare taken into service or of a capacity reduced; `p` is the position newly marked, if any. -/
def State.phasesChanged (s : State) (r old : Nat) (p : Option Nat) : State :=
  let e := vrgOf s r
  let m := phaseMap s r
  let n := popcount 12 m
  let np := popcount 12 e.PHCFG_PRIM
  let s := s.vrgMod r fun e => { e with PHST_SPARE_IN := decide (m &&& e.PHCFG_SPARE ≠ 0), PHST_REDUCED := decide (n < np) }
  let s := if s.seq.imgOn && decide (np ≠ 0) then s.trim r 4 m false else s
  let s := match p with
    | none => s
    | some p =>
      let s := s.fault pgVrg 19 0x0B13 [r, p]
      match firstBelow 12 fun q => m.testBit q && !old.testBit q with
      | some q => s.event 0x0B14 [r, p, q]
      | none => if n < np then s.fault pgVrg 20 0x0B15 [r, n, np] else s
  s.lowerLimits

/-- The state that follows a change of a rail's marks (R44). -/
def State.phaseShown (s : State) (r : Nat) : State :=
  s.settle (if (vAt s.vrg.rail r {}).PHST_REDUCED then 0x0B15 else 0x0B14)

/-- A position is marked faulty. -/
def State.phaseFault (s : State) (r p : Nat) : State :=
  let old := phaseMap s r
  (s.vrgMod r fun e => { e with PHST_FAULTY := putBit e.PHST_FAULTY p true }).phasesChanged r old (some p) |>.phaseShown r

/-- A status word: each active position that it newly shows faulty is marked (R356, R360). -/
def State.statusWord (s : State) (r health : Nat) : State :=
  (List.range 12).foldl (fun s p =>
    if health.testBit p && (phaseMap s r).testBit p then s.phaseFault r p else s) s

/-! ### Telemetry words (R356 to R358) -/

/-- I_meas of a raw word, mA (R357). -/
def calCurrent (e : VrgRail) (raw : Nat) : Nat := (((100 * raw * e.CAL_I_GAIN / 2 ^ 14 : Nat) : Int) + e.CAL_I_OFS).toNat

/-- V_meas of a raw word, µV (R357). -/
def calVoltage (e : VrgRail) (raw : Nat) : Nat :=
  (((500 * raw * e.CALV_V_GAIN / 2 ^ 14 : Nat) : Int) + 10 * (e.CALV_V_OFS + e.TRK_V_TRACK)).toNat

/-- A good ordinary word: calibrated; one that a replay brings after its tick is compared and policed at once (R211,
R156), any other stands for the present period. -/
def State.goodWord (s : State) (r d : Nat) : State :=
  let e := vrgOf s r
  let v := calVoltage e (d % 4096)
  let slot := s.sns.HK_SLOT = 128 + r
  let late := decide (0 < e.late)
  let s := if e.bad = 0 then s else s.wordReplayed
  let s := s.vrgMod r fun e =>
    { e with TG_RAW := d, iMeas := calCurrent e (d / 4096), vMeas := v, bad := 0, late := e.late - 1, got := !late,
             dSum := if slot then e.dSum + v else e.dSum, dN := if slot then e.dN + 1 else e.dN }
  if late then (s.railSample r).beamSettle.settle 0x0411 else s

/-- A word that fails parity: counted, and asked for again, up to 3 attempts in all; after that the sample is not
delivered (R358). -/
def State.badWord (s : State) (r : Nat) : State :=
  let e := vrgOf s r
  let s := (s.vrgMod r fun e => { e with TG_PAR_CNT := satAdd 8 e.TG_PAR_CNT 1, parRound := e.parRound + 1 }).setErr pgVrg 18
  if e.bad + 1 < 3 then
    let s := s.vrgMod r fun e => { e with bad := e.bad + 1 }
    if unresp s r || s.vrg.resendQ.contains r then s else { s with vrg.resendQ := s.vrg.resendQ ++ [r] }
  else
    let s := s.vrgMod r fun e => { e with bad := 0, late := e.late - 1 }
    let s := s.wordRetired 6 r
    if 0 < e.late then (s.sampleLost r).beamSettle.settle 0x0411 else s

/-- TELEMETRY_WORD (R357). [DESIGN CHOICE, log entry 79] -/
def execTelemetryWord (r : Fin 16) (d : BitVec 24) (par replay : Bool) (s : State) : Host.Outcome State Fault Refusal :=
  .next (
    let w := d.toNat
    if !s.rst.started || (replay && decide ((vrgOf s r.val).bad = 0)) then s
    else if decide (popcount 24 w % 2 = 1) ≠ par then s.badWord r.val
    else if w % 4096 = 4095 then s.statusWord r.val (w / 4096)
    else s.goodWord r.val w)

/-! ### Blind mode (R487 to R489) -/

/-- REL_BLIND_CFG.LEVEL; an image value of 0 or 15 is taken as 8 (R27, R488). -/
def blindLevel (s : State) : Nat := let l := s.rel.BLIND_CFG; if l = 0 ∨ 15 ≤ l then 8 else l

/-- The rail's response that stands for the lost path holds RC at LEVEL. -/
def State.blindHold (s : State) (r k : Nat) : State :=
  let lv := blindLevel s
  (s.respBegin r k lv).respMod r k fun x => { x with rc := lv, rel := 0 }

/-- BLIND_MODE_ENTRY (R487): 200 µs after the first sample not delivered, or after the regulator was marked. -/
def execBlindModeEntry (r : Fin 16) (s : State) : Host.Outcome State Fault Refusal :=
  .next (
    let e := vAt s.rel.wear r.val {}
    let due := fun (t : Option Nat) => match t with | some t => s.after t 800 | none => false
    let s' := s.wearMod r.val fun e => { e with blindAt := if railBlind s r.val then e.blindAt else s.now }
    if due e.tgAt && !s.rel.BLIND_TG.testBit r.val then
      let s := { s' with rel.BLIND_TG := putBit s'.rel.BLIND_TG r.val true }.wearMod r.val fun e => { e with okRun := 0 }
      let s := s.blindHold r.val 5
      let s := [1, 2, 3].foldl (fun s k => s.respMod r.val k fun _ => {}) s
      (s.fault pgRel 20 0x1414 [r.val, 1]).beamSettle.settle 0x1414
    else if due e.busAt && !s.rel.BLIND_BUS.testBit r.val then
      ((({ s' with rel.BLIND_BUS := putBit s'.rel.BLIND_BUS r.val true }.blindHold r.val 7)).fault pgRel 20 0x1414 [r.val, 2]).beamSettle.settle 0x1414
    else s)

/-- BLIND_MODE_END (R489): 4096 consecutive delivered samples, or the regulator responsive again; 0x1415 with the
duration when the last cause has ended. -/
def execBlindModeEnd (r : Fin 16) (s : State) : Host.Outcome State Fault Refusal :=
  .next (
    let e := vAt s.rel.wear r.val {}
    let tg := s.rel.BLIND_TG.testBit r.val && decide (4096 ≤ e.okRun)
    let bus := s.rel.BLIND_BUS.testBit r.val && !unresp s r.val
    if tg || bus then
      let s := { s with rel.BLIND_TG := if tg then putBit s.rel.BLIND_TG r.val false else s.rel.BLIND_TG,
                        rel.BLIND_BUS := if bus then putBit s.rel.BLIND_BUS r.val false else s.rel.BLIND_BUS }
      let s := if tg then s.wearMod r.val fun e => { e with tgAt := none, okRun := 0 } else s
      if railBlind s r.val then s
      else (s.event 0x1415 (r.val :: [sat 16 (s.usSince e.blindAt)])).beamSettle.settle 0x1415
    else s)

/-- The round's refresh (R353, R354): each present rail's current SETV code and, once one has been issued, its last map,
as single attempts to an unresponsive regulator, which returns after three consecutive rounds with both acknowledged. None while
a reset is asserted (R355). [DEDUCED, log entry 75] -/
def State.refreshRail (s : State) (r : Nat) : State :=
  if railAbsent s r || !s.rst.live then s
  else
    let e := vrgOf s r
    let s := if unresp s r then
        let ok := e.setAck && (e.mapAck || !e.mapOn)
        let n := if ok then e.okRounds + 1 else 0
        let s := s.vrgMod r fun e => { e with okRounds := n }
        if 3 ≤ n then
          ({ s with vrg.BUS_UNRESP := putBit s.vrg.BUS_UNRESP r false }.wearMod r fun e => { e with busAt := none }).prepos r
        else s
      else s
    let single := unresp s r
    let s := s.vrgMod r fun e => { e with setAck := false, mapAck := false }
    let s := s.trim r 1 e.issued single
    if e.mapOn then s.trim r 4 e.lastMap single else s

/-- 0x0B11 once per rail and round in which a word failed (R358). -/
def State.parityRound (s : State) (r : Nat) : State :=
  let n := (vrgOf s r).parRound
  if n = 0 then s else (s.vrgMod r fun e => { e with parRound := 0 }).event 0x0B11 [r, sat 16 n]

end Sys2Proof.Machine
end

