-- ==== Sys2Proof/Machine/Beam.lean ====
section
/-! DEFINITION. The commands of the beam (06_beam.md): detectors and stretch (R202 to R205, R491), EMERGENCY (R213), the
brown-out sequence (R217 to R219) and the self-test (R220). -/

namespace Sys2Proof.Machine

open Sys2Proof

/-! ### Detectors -/

/-- The clock domains whose clk_stretch is high (R202). -/
def stretchNow (s : State) : Nat := maskOf 25 (stretchOut s)

/-- A stretch on a rail: its rising edge is counted in the epoch and toward droop persistence, and ends harvesting by the
stretch hold (R185, R203, R204). -/
def State.stretchBegin (s : State) (r : Nat) : State :=
  let s := s.brMod r fun e => { e with orAt := some s.now, lastHigh := some s.now,
                                       strAt := s.now :: e.strAt.filter fun t => decide (s.now < t + 64) }
  { s with tly.rail := vMod s.tly.rail r fun e => { e with HARV_STRETCHES := satAdd 8 e.HARV_STRETCHES 1, holdOn := true } }

/-- DROOP_DETECT (R202, R203): a comparator trips. -/
def execDroopDetect (d : Fin 72) (s : State) : Host.Outcome State Fault Refusal :=
  .next (
    if (detOf s d.val).out then s
    else
      let p := (detPrimary s d.val).map detRail
      let was := match p with | some r => railOr s r | none => false
      let s := s.detMod d.val fun e => { e with out := true, DDCNT := satAdd 32 e.DDCNT 1 }
      let s := { s with ctl.strSeen := s.ctl.strSeen ||| stretchNow s }
      match p with
      | some r => if !was && railOr s r then s.stretchBegin r else s
      | none => s)

/-- DROOP_RELEASE (R202): the comparator releases. -/
def execDroopRelease (d : Fin 72) (s : State) : Host.Outcome State Fault Refusal :=
  .next (
    if (detOf s d.val).out then
      let p := (detPrimary s d.val).map detRail
      let was := match p with | some r => railOr s r | none => false
      let s := s.detMod d.val fun e => { e with out := false, stuck := 0 }
      match p with
      | some r => if was && !railOr s r then s.brMod r fun e => { e with orAt := none, lastHigh := some s.now } else s
      | none => s
    else s)

/-- The stretches of the last 16 µs. -/
def stretches16 (s : State) (r : Nat) : Nat := ((vAt s.beam.rail r {}).strAt.filter fun t => decide (s.now < t + 64)).length

/-- DROOP_PERSISTENCE (R204): the OR high for 1 µs without a break, or 32 stretches within 16 µs. -/
def execDroopPersistence (r : Fin 16) (s : State) : Host.Outcome State Fault Refusal :=
  .next (
    let e := vAt s.beam.rail r.val {}
    let high := match e.orAt with | some t => railOr s r.val && s.after t 4 | none => false
    if !e.persist && !railAbsent s r.val && (high || decide (32 ≤ stretches16 s r.val)) then
      (((s.brMod r.val fun e => { e with persist := true }).respBegin r.val 0 0).event 0x0410
        [r.val, stretches16 s r.val]).beamSettle.settle 0x0410
    else s)

/-- No stretch on the rail for 64 µs. -/
def stretchFree (s : State) (r : Nat) : Bool :=
  !railOr s r && (match (vAt s.beam.rail r {}).lastHigh with | some t => s.after t 256 | none => true)

/-- DROOP_PERSISTENCE_END (R204): 64 µs with no stretch; the ceiling then rises under R209. -/
def execDroopPersistenceEnd (r : Fin 16) (s : State) : Host.Outcome State Fault Refusal :=
  .next (
    if (vAt s.beam.rail r.val {}).persist && stretchFree s r.val then s.brMod r.val fun e => { e with persist := false } else s)

/-- STRETCH_HOLD_END (R185, R187): 64 µs without a stretch; harvesting begins again where the conditions allow it. -/
def execStretchHoldEnd (r : Fin 16) (s : State) : Host.Outcome State Fault Refusal :=
  .next (
    if stretchHold s r.val && stretchFree s r.val then
      let s := { s with tly.rail := vMod s.tly.rail r.val fun e => { e with holdOn := false } }
      if s.tly.EPOCH_DRAIN then s else s.harvestBegin r.val
    else s)

/-- DETECTOR_SPARE_JOIN (R491): the read-back of spare j passes, and it serves the tap that asked for it; a failed one
marks the spare failed. -/
def execDetectorSpareJoin (j : Fin 8) (pass : Bool) (s : State) : Host.Outcome State Fault Refusal :=
  .next (
    let d := 64 + j.val
    let p := (detOf s d).want
    if 64 ≤ p then s
    else if pass then
      let s := (s.detMod d fun e => { e with DD_SERVES := p, DD_SUBST := true, want := 127 }).detMod p fun e => { e with DD_SUBST := true }
      { s with rel.SPARE_USE_DD_FREE := s.rel.SPARE_USE_DD_FREE - 1 }.beamSettle.settle 0x041D
    else ({ s with rel.SPARE_USE_DD_FREE := s.rel.SPARE_USE_DD_FREE - 1 }.failDet d 4).beamSettle.settle 0x041D)

/-! ### EMERGENCY (R213, R214) -/

/-- The cause and source of an EMERGENCY now (R213, R222): the first domain held at 0 for 20 µs, or the matrix lanes. -/
def emgDue (s : State) : Option (Nat × Nat) :=
  match firstBelow 25 fun c => match vAt s.beam.floorAt c none with | some t => floorCause s c && s.after t 80 | none => false with
  | some c => some (match railCause s c with | some (r, k) => (k, r) | none => (2, 0xFF))
  | none => if s.ctl.MU_ACTIVE ≤ 10 then some (8, 0xFF) else none

/-- EMERGENCY_ENTRY (R213 steps 2 and 3). [DEDUCED, log entry 60] -/
def execEmergencyEntry (s : State) : Host.Outcome State Fault Refusal :=
  .next (
    if s.beam.inEmg || s.seq.tripped then s
    else
      match emgDue s with
      | some (k, src) =>
        let s := { s with beam.inEmg := true, beam.emgAt := s.now, beam.emgGone := none, beam.emgTerm := 0,
                          beam.CAUSE_EMG_CAUSE := k, beam.CAUSE_EMG_SRC := src,
                          beam.EMG_CNT_EMERGENCIES := satAdd 16 s.beam.EMG_CNT_EMERGENCIES 1 }
        ((s.event 0x0415 [k, src]).settle 0x0415).beamSettle
      | none => s)

/-- EMERGENCY_EXIT (R213 steps 6 and 7): every cause absent for 100 µs; the term then rises from 0. -/
def execEmergencyExit (s : State) : Host.Outcome State Fault Refusal :=
  .next (
    match s.beam.emgGone with
    | some t =>
      if s.beam.inEmg && s.after t 400 then
        let us := sat 16 (s.usSince s.beam.emgAt)
        let s := { s with beam.inEmg := false, beam.emgTerm := 0, beam.emgStep := s.now }
        let s := (s.event 0x0416 [us]).settle 0x0416
        let s := if s.seq.abandon then ({ s with seq.abandon := false }.enterSafe).settle 0x0116 else s
        s.beamSettle
      else s
    | none => s)

/-- EMERGENCY_RAMP_STEP (R213 step 7): one level every 4 µs; a cause present holds the term at 0. -/
def execEmergencyRampStep (s : State) : Host.Outcome State Fault Refusal :=
  .next (
    if !s.beam.inEmg && decide (s.beam.emgTerm < 15) && !emgCausePresent s && s.after s.beam.emgStep 16 then
      { s with beam.emgTerm := s.beam.emgTerm + 1, beam.emgStep := s.now }.beamSettle
    else s)

/-- A rail current or die power cause is present (R213): a response that holds a ceiling at 0. -/
def overloadPresent (s : State) : Bool :=
  decide (dieTerm s = 0) ||
  (List.range 16).any fun r => !railAbsent s r && respOn s r 1 && decide ((respOf s r 1).rc = 0) && decide (dset s r ≠ 0)

/-- PERSISTENT_OVERLOAD (R213, R214 cause 5): 1 ms after the entry. Its source and value are those of the lowest rail
whose current response is in force, or of the die (R223). -/
def execPersistentOverload (s : State) : Host.Outcome State Fault Refusal :=
  .next (
    if s.beam.inEmg && s.after s.beam.emgAt ticksPerMs && overloadPresent s then
      match firstBelow 16 fun r => respOn s r 1 with
      | some r => (s.trip 5 r (sat 16 ((vrgOf s r).iMeas / 100))).beamSettle
      | none => (s.trip 5 0xFF s.beam.PDIE).beamSettle
    else s)

/-! ### Brown-out (R217 to R219) -/

/-- BROWN_OUT_WARNING (R217, R218 steps 2 and 3): recognised; during the hold or the ramp the sequence returns to step
2. -/
def execBrownOutWarning (s : State) : Host.Outcome State Fault Refusal :=
  .next (
    if s.beam.STATE_BO || !s.rst.started then s
    else
      ({ s with beam.STATE_BO := true, beam.STATE_BO_RAMP := false, beam.STATE_BO_STEP := 0, beam.boHold := false,
                beam.BO_BO_CNT := satAdd 16 s.beam.BO_BO_CNT 1 }.event 0x0417).lowerLimits.beamSettle)

/-- BROWN_OUT_RECOVERY (R217, R218 step 5): 0x0418 with the dip duration, and the hold begins. -/
def execBrownOutRecovery (dipUs : Nat) (s : State) : Host.Outcome State Fault Refusal :=
  .next (
    if s.beam.STATE_BO then
      { s with beam.STATE_BO := false, beam.STATE_BO_RAMP := true, beam.STATE_BO_STEP := 0, beam.boHold := true, beam.boAt := s.now,
               beam.BO_LAST_US := sat 16 dipUs }.event 0x0418 [sat 16 dipUs]
    else s)

/-- BROWN_OUT_HOLD_END (R218 step 6): 100 µs after recovery. -/
def execBrownOutHoldEnd (s : State) : Host.Outcome State Fault Refusal :=
  .next (
    if s.beam.STATE_BO_RAMP && s.beam.boHold && s.after s.beam.boAt 400 then
      { s with beam.boHold := false, beam.boAt := s.now }
    else s)

/-- BROWN_OUT_RAMP_STEP (R218 steps 7 and 8): step k at k × 62.5 µs after the hold; step 16 completes the ramp. -/
def execBrownOutRampStep (s : State) : Host.Outcome State Fault Refusal :=
  .next (
    if s.beam.STATE_BO_RAMP && !s.beam.boHold && s.after s.beam.boAt (250 * (s.beam.STATE_BO_STEP + 1)) then
      if 15 ≤ s.beam.STATE_BO_STEP then
        ({ s with beam.STATE_BO_RAMP := false, beam.STATE_BO_STEP := 0 }.event 0x0419).beamSettle
      else { s with beam.STATE_BO_STEP := s.beam.STATE_BO_STEP + 1 }.beamSettle
    else s)

/-! ### Self-test (R220) -/

/-- A BEAM_TEST_CTRL write with START is refused with status 2. -/
def beamTestRefused (s : State) : Bool := decide (shownState s ≠ stSafe) || s.beam.test.isSome

/-- A BEAM_TEST_CTRL write that starts a test. A reserved KIND reads back as the field's cold value, 0, and starts none
(R27). -/
def State.beamTest (s : State) (kind target : Nat) : State :=
  let k := if 1 ≤ kind ∧ kind ≤ 7 then kind else 0
  let s := { s with beam.TEST_CTRL_KIND := k, beam.TEST_CTRL_TARGET := target % 256 }
  if k = 0 then s
  else { s with beam.TEST_CTRL_START := true, beam.TEST_STAT_DONE := false, beam.test := some (k, target % 256) }.setBusy pgBeam true

/-- BEAM_TEST_COMPLETE (R220): `fail` is the first failing kind and target. -/
def execBeamTestComplete (fail : Option (BitVec 4 × BitVec 8)) (s : State) : Host.Outcome State Fault Refusal :=
  .next (
    match s.beam.test with
    | none => s
    | some (k, _) =>
      let bad := fail.isSome
      let idx := match fail with | some (_, t) => t.toNat | none => 0
      let s := ({ s with beam.test := none, beam.TEST_CTRL_START := false, beam.TEST_STAT_DONE := true, beam.TEST_STAT_PASS := !bad,
                         beam.TEST_STAT_FAIL_IDX := idx }.setBusy pgBeam false)
      match fail with
      | some (fk, t) =>
        let s := s.fault pgBeam 21 0x041E [k, 0, idx]
        if fk = 1 then (s.failDet t.toNat 3).beamSettle.settle 0x041D else s
      | none => s.event 0x041E [k, 1, 0])

end Sys2Proof.Machine
end

