-- ==== Sys2Proof/Machine/ImageRegs.lean ====
section
/-! DEFINITION. The image fields of the register pages: which bits of a register word an image may name, how a record sets
them, and their Cold values, which an image field takes that no record names (R465 and each page's register table). -/

namespace Sys2Proof.Machine

open Sys2Proof

/-- The element that an offset names in a repeated register, counted from `base` in steps of `stride`. -/
def indexAt (off base stride n : Nat) : Option Nat :=
  if base ≤ off ∧ (off - base) % stride = 0 ∧ (off - base) / stride < n then some ((off - base) / stride) else none

/-- The image fields of the repeated ADM registers at their Cold values (R465). -/
def imgColdAdmRail (e : AdmRail) : AdmRail :=
  { e with RAIL_W := 0, RAIL_TOL := 0, RAIL_HEN := false, RAIL_BSZ := 0 }

/-- The image fields of the ADM page at their Cold values: an image field that no record names takes it (R465). -/
def imgColdAdmPage (p : Adm) : Adm :=
  { p with POLICY_STRETCH_LIM := 0, POLICY_BACKOFF := 0, LOAN_KEEP := 0, LOAN_ASK := 0, rail := p.rail.map imgColdAdmRail }

/-- The bits of each ADM register that the page marks "image"; none where the register has no image field (R465). -/
def imgMaskAdm (off : Nat) : Option Nat :=
  match off with
  | 0x40 => some 0xFF1F
  | 0x54 => some 0xFFFFFFFF
  | 0x58 => some 0xFFFFFFFF
  | _ =>
    if (indexAt off 0x100 4 16).isSome then some 0xFFFFF07 else
    none

/-- A register-word record of the image sets the image fields of one ADM register (R465). -/
def imgSetAdm (off w : Nat) (p : Adm) : Adm :=
  match off with
  | 0x40 => { p with POLICY_STRETCH_LIM := bitsOf w 8 8, POLICY_BACKOFF := bitsOf w 0 5 }
  | 0x54 => { p with LOAN_KEEP := bitsOf w 0 32 }
  | 0x58 => { p with LOAN_ASK := bitsOf w 0 32 }
  | _ =>
    if let some i := indexAt off 0x100 4 16 then { p with rail := vMod p.rail i fun e => { e with RAIL_W := bitsOf w 16 12, RAIL_TOL := bitsOf w 8 8, RAIL_HEN := bitAt w 2, RAIL_BSZ := bitsOf w 0 2 } } else
    p

/-- The image fields of the repeated BEAM registers at their Cold values (R465). -/
def imgColdBeamDet (e : BeamDet) : BeamDet :=
  { e with DD_CODE_IMG := 0, DDX := 0 }

/-- The image fields of the BEAM page at their Cold values: an image field that no record names takes it (R465). -/
def imgColdBeamPage (p : Beam) : Beam :=
  { p with det := p.det.map imgColdBeamDet }

/-- The bits of each BEAM register that the page marks "image"; none where the register has no image field (R465). -/
def imgMaskBeam (off : Nat) : Option Nat :=
  match off with
  | _ =>
    if (indexAt off 0x300 4 72).isSome then some 0xFF0000 else
    if (indexAt off 0x500 4 72).isSome then some 0x1FFFFFF else
    none

/-- A register-word record of the image sets the image fields of one BEAM register (R465). -/
def imgSetBeam (off w : Nat) (p : Beam) : Beam :=
  match off with
  | _ =>
    if let some i := indexAt off 0x300 4 72 then { p with det := vMod p.det i fun e => { e with DD_CODE_IMG := bitsOf w 16 8 } } else
    if let some i := indexAt off 0x500 4 72 then { p with det := vMod p.det i fun e => { e with DDX := bitsOf w 0 25 } } else
    p

/-- The image fields of the repeated CTL registers at their Cold values (R465). -/
def imgColdCtlRail (e : CtlRail) : CtlRail :=
  { e with CFG_SLEW := 0, CFG_RHO_LIM := 0, CFG_OUT_T := false, CFG_FCS_EN := false, CFG_XFER := false, CFG_NSTATE := 0, LIM_G_FULL := 0, LIM_G_HARV := 0, LIM_DMAX := 0, LIM_DMIN := 0, LIN := 0, TGT := 0 }

/-- The image fields of the CTL page at their Cold values: an image field that no record names takes it (R465). -/
def imgColdCtlPage (p : Ctl) : Ctl :=
  { p with VIN_CFG := 0, rail := p.rail.map imgColdCtlRail }

/-- The bits of each CTL register that the page marks "image"; none where the register has no image field (R465). -/
def imgMaskCtl (off : Nat) : Option Nat :=
  match off with
  | 0x54 => some 0xFFFF
  | _ =>
    if (indexAt off 0x100 32 16).isSome then some 0xFFFF007F else
    if (indexAt off 0x104 32 16).isSome then some 0xFFFFFFFF else
    if (indexAt off 0x108 32 16).isSome then some 0xFFFFFF else
    if (indexAt off 0x10C 32 16).isSome then some 0xFFFFFF else
    none

/-- A register-word record of the image sets the image fields of one CTL register (R465). -/
def imgSetCtl (off w : Nat) (p : Ctl) : Ctl :=
  match off with
  | 0x54 => { p with VIN_CFG := bitsOf w 0 16 }
  | _ =>
    if let some i := indexAt off 0x100 32 16 then { p with rail := vMod p.rail i fun e => { e with CFG_SLEW := bitsOf w 24 8, CFG_RHO_LIM := bitsOf w 16 8, CFG_OUT_T := bitAt w 6, CFG_FCS_EN := bitAt w 5, CFG_XFER := bitAt w 4, CFG_NSTATE := bitsOf w 0 4 } } else
    if let some i := indexAt off 0x104 32 16 then { p with rail := vMod p.rail i fun e => { e with LIM_G_FULL := bitsOf w 24 8, LIM_G_HARV := bitsOf w 16 8, LIM_DMAX := sextOf (bitsOf w 8 8) 8, LIM_DMIN := sextOf (bitsOf w 0 8) 8 } } else
    if let some i := indexAt off 0x108 32 16 then { p with rail := vMod p.rail i fun e => { e with LIN := bitsOf w 0 24 } } else
    if let some i := indexAt off 0x10C 32 16 then { p with rail := vMod p.rail i fun e => { e with TGT := bitsOf w 0 24 } } else
    p

/-- The image fields of the repeated FCS registers at their Cold values (R465). -/
def imgColdFcsLayer (e : FcsLayer) : FcsLayer :=
  { e with LAYER_A_SHIFT := 0, LAYER_A_ACT := false, LAYER_A_DLOG := 0, LAYER_A_KM1 := 0, LAYER_A_COUT := 0, LAYER_A_CIN := 0, LAYER_B_WOFF := 0, LAYER_B_MULT := 0 }

/-- The image fields of the repeated FCS registers at their Cold values (R465). -/
def imgColdFcsRail (e : FcsRail) : FcsRail :=
  { e with RAIL_ERR_LIM := 0, RAIL_OSH := 0 }

/-- The image fields of the FCS page at their Cold values: an image field that no record names takes it (R465). -/
def imgColdFcsPage (p : Fcs) : Fcs :=
  { p with MODEL_RF := 0, MODEL_LAYERS := 0, MACS := 0, FEAT := 0, IMG_CRC := 0, layer := p.layer.map imgColdFcsLayer, rail := p.rail.map imgColdFcsRail }

/-- The bits of each FCS register that the page marks "image"; none where the register has no image field (R465). -/
def imgMaskFcs (off : Nat) : Option Nat :=
  match off with
  | 0x44 => some 0x7F07
  | 0x48 => some 0x7FFFF
  | 0x58 => some 0xFFFFFF
  | 0x70 => some 0xFFFFFFFF
  | _ =>
    if (indexAt off 0x80 8 6).isSome then some 0x1FF7FF else
    if (indexAt off 0x84 8 6).isSome then some 0xFFFFFF else
    if (indexAt off 0x100 16 16).isSome then some 0xFF03 else
    none

/-- A register-word record of the image sets the image fields of one FCS register (R465). -/
def imgSetFcs (off w : Nat) (p : Fcs) : Fcs :=
  match off with
  | 0x44 => { p with MODEL_RF := bitsOf w 8 7, MODEL_LAYERS := bitsOf w 0 3 }
  | 0x48 => { p with MACS := bitsOf w 0 19 }
  | 0x58 => { p with FEAT := bitsOf w 0 24 }
  | 0x70 => { p with IMG_CRC := bitsOf w 0 32 }
  | _ =>
    if let some i := indexAt off 0x80 8 6 then { p with layer := vMod p.layer i fun e => { e with LAYER_A_SHIFT := bitsOf w 16 5, LAYER_A_ACT := bitAt w 15, LAYER_A_DLOG := bitsOf w 12 3, LAYER_A_KM1 := bitsOf w 8 3, LAYER_A_COUT := bitsOf w 4 4, LAYER_A_CIN := bitsOf w 0 4 } } else
    if let some i := indexAt off 0x84 8 6 then { p with layer := vMod p.layer i fun e => { e with LAYER_B_WOFF := bitsOf w 16 8, LAYER_B_MULT := bitsOf w 0 16 } } else
    if let some i := indexAt off 0x100 16 16 then { p with rail := vMod p.rail i fun e => { e with RAIL_ERR_LIM := bitsOf w 8 8, RAIL_OSH := bitsOf w 0 2 } } else
    p

/-- The image fields of the repeated THM registers at their Cold values (R465). -/
def imgColdThmGrp (e : ThmGrp) : ThmGrp :=
  { e with GMAP_STK_V := false, GMAP_STK := 0, GMAP_DOMS := 0 }

/-- The image fields of the repeated THM registers at their Cold values (R465). -/
def imgColdThmRail (e : ThmRail) : ThmRail :=
  { e with IHOT := 0 }

/-- The image fields of the repeated THM registers at their Cold values (R465). -/
def imgColdThmVs (e : ThmVs) : ThmVs :=
  { e with VS_VOFS := 0, VS_NODE := 127, VDOM := 0 }

/-- The image fields of the repeated THM registers at their Cold values (R465). -/
def imgColdThmStk (e : ThmStk) : ThmStk :=
  { e with STK_STK_OFS := 0 }

/-- The image fields of the repeated THM registers at their Cold values (R465). -/
def imgColdThmSnode (e : ThmSnode) : ThmSnode :=
  { e with SNODE := 0 }

/-- The image fields of the THM page at their Cold values: an image field that no record names takes it (R465). -/
def imgColdThmPage (p : Thm) : Thm :=
  { p with LVL0_T_SHUT := 0, LVL0_T_HOT := 0, LVL0_T_L := 0, LVL1_S_SHUT := 0, LVL1_T_RESTART := 0, LVL1_RESTART_HOLD := 0, LADDER_RATE_STEP := 0, LADDER_RATE_EXTRA := 0, LADDER_HYST := 0, LADDER_STEP := 0, TIMES_UP_HOLD := 0, TIMES_SHUT_DWELL := 0, TIMES_LOSS_OFS := 0, TIMES_OBS_MARGIN := 0, BELOW_BL_LEVEL := 0, BELOW_BELOW_OFS := 0, BELOW_MASK := 0, HOTCAP := 0, BANDS_B_G_HIGH := 95, BANDS_B_G_MID := 80, BANDS_B_REF4X := 95, BANDS_B_REF2X := 85, BANDS2 := 0, OBS_VS_WARM := 0, OBS_NNODE := 0, OBS_INNOV_LIM := 0, HK_SEL0 := 0, HK_SEL1 := 0, grp := p.grp.map imgColdThmGrp, rail := p.rail.map imgColdThmRail, vs := p.vs.map imgColdThmVs, stk := p.stk.map imgColdThmStk, snode := p.snode.map imgColdThmSnode }

/-- The bits of each THM register that the page marks "image"; none where the register has no image field (R465). -/
def imgMaskThm (off : Nat) : Option Nat :=
  match off with
  | 0x48 => some 0x3FFFFFFF
  | 0x4C => some 0x3FFFFCFF
  | 0x50 => some 0xFFFFFFC0
  | 0x54 => some 0xFFFFFFFF
  | 0x58 => some 0xFFF
  | 0x5C => some 0x1FFFFFF
  | 0x60 => some 0xFFFF
  | 0x68 => some 0xFFFFFFFF
  | 0x6C => some 0xFF
  | 0x70 => some 0xFF7FFF00
  | 0x8C => some 0xFFFFFFFF
  | 0x90 => some 0xFFFFFFFF
  | _ =>
    if (indexAt off 0x120 4 6).isSome then some 0xF9FFFFFF else
    if (indexAt off 0x140 4 16).isSome then some 0xFFF else
    if (indexAt off 0x280 4 32).isSome then some 0xFF7F else
    if (indexAt off 0x300 4 32).isSome then some 0x1FFFFFF else
    if (indexAt off 0x380 4 12).isSome then some 0xFF00 else
    if (indexAt off 0x3C0 4 6).isSome then some 0xFFFFFFFF else
    none

/-- A register-word record of the image sets the image fields of one THM register (R465). -/
def imgSetThm (off w : Nat) (p : Thm) : Thm :=
  match off with
  | 0x48 => { p with LVL0_T_SHUT := bitsOf w 20 10, LVL0_T_HOT := bitsOf w 10 10, LVL0_T_L := bitsOf w 0 10 }
  | 0x4C => { p with LVL1_S_SHUT := bitsOf w 20 10, LVL1_T_RESTART := bitsOf w 10 10, LVL1_RESTART_HOLD := bitsOf w 0 8 }
  | 0x50 => { p with LADDER_RATE_STEP := bitsOf w 24 8, LADDER_RATE_EXTRA := bitsOf w 20 4, LADDER_HYST := bitsOf w 14 6, LADDER_STEP := bitsOf w 6 8 }
  | 0x54 => { p with TIMES_UP_HOLD := bitsOf w 24 8, TIMES_SHUT_DWELL := bitsOf w 16 8, TIMES_LOSS_OFS := bitsOf w 8 8, TIMES_OBS_MARGIN := bitsOf w 0 8 }
  | 0x58 => { p with BELOW_BL_LEVEL := bitsOf w 8 4, BELOW_BELOW_OFS := bitsOf w 0 8 }
  | 0x5C => { p with BELOW_MASK := bitsOf w 0 25 }
  | 0x60 => { p with HOTCAP := bitsOf w 0 16 }
  | 0x68 => { p with BANDS_B_G_HIGH := bitsOf w 24 8, BANDS_B_G_MID := bitsOf w 16 8, BANDS_B_REF4X := bitsOf w 8 8, BANDS_B_REF2X := bitsOf w 0 8 }
  | 0x6C => { p with BANDS2 := sextOf (bitsOf w 0 8) 8 }
  | 0x70 => { p with OBS_VS_WARM := bitsOf w 24 8, OBS_NNODE := bitsOf w 16 7, OBS_INNOV_LIM := bitsOf w 8 8 }
  | 0x8C => { p with HK_SEL0 := bitsOf w 0 32 }
  | 0x90 => { p with HK_SEL1 := bitsOf w 0 32 }
  | _ =>
    if let some i := indexAt off 0x120 4 6 then { p with grp := vMod p.grp i fun e => { e with GMAP_STK_V := bitAt w 31, GMAP_STK := bitsOf w 27 4, GMAP_DOMS := bitsOf w 0 25 } } else
    if let some i := indexAt off 0x140 4 16 then { p with rail := vMod p.rail i fun e => { e with IHOT := bitsOf w 0 12 } } else
    if let some i := indexAt off 0x280 4 32 then { p with vs := vMod p.vs i fun e => { e with VS_VOFS := sextOf (bitsOf w 8 8) 8, VS_NODE := bitsOf w 0 7 } } else
    if let some i := indexAt off 0x300 4 32 then { p with vs := vMod p.vs i fun e => { e with VDOM := bitsOf w 0 25 } } else
    if let some i := indexAt off 0x380 4 12 then { p with stk := vMod p.stk i fun e => { e with STK_STK_OFS := bitsOf w 8 8 } } else
    if let some i := indexAt off 0x3C0 4 6 then { p with snode := vMod p.snode i fun e => { e with SNODE := bitsOf w 0 32 } } else
    p

/-- The image fields of the repeated DOM registers at their Cold values (R465). -/
def imgColdDomRail (e : DomRail) : DomRail :=
  { e with INR_RAIL_POOL := 0 }

/-- The image fields of the repeated DOM registers at their Cold values (R465). -/
def imgColdDomDom (e : DomDom) : DomDom :=
  { e with CFG_RAIL := 0, CFG_COST := 0, CFG_PRIO := 0, CFG_ORDER := 0, CFG_RET := false, CFG_SLEEP := false, CFG_IDLE_TO := 50, TIM_PRE_TO := 0, TIM_PRE_HOLD := 0, TIM_RESTORE := 0, TIM_SAVE := 0, OFFD := 0 }

/-- The image fields of the DOM page at their Cold values: an image field that no record names takes it (R465). -/
def imgColdDomPage (p : Dom) : Dom :=
  { p with INR_DIE_POOL := 0, rail := p.rail.map imgColdDomRail, dom := p.dom.map imgColdDomDom }

/-- The bits of each DOM register that the page marks "image"; none where the register has no image field (R465). -/
def imgMaskDom (off : Nat) : Option Nat :=
  match off with
  | 0x60 => some 0xFFF
  | _ =>
    if (indexAt off 0x80 4 16).isSome then some 0xFFF else
    if (indexAt off 0x100 16 50).isSome then some 0xFFFFE3FF else
    if (indexAt off 0x104 16 50).isSome then some 0xFFFFFFFF else
    if (indexAt off 0x108 16 50).isSome then some 0xFFFF else
    none

/-- A register-word record of the image sets the image fields of one DOM register (R465). -/
def imgSetDom (off w : Nat) (p : Dom) : Dom :=
  match off with
  | 0x60 => { p with INR_DIE_POOL := bitsOf w 0 12 }
  | _ =>
    if let some i := indexAt off 0x80 4 16 then { p with rail := vMod p.rail i fun e => { e with INR_RAIL_POOL := bitsOf w 0 12 } } else
    if let some i := indexAt off 0x100 16 50 then { p with dom := vMod p.dom i fun e => { e with CFG_RAIL := bitsOf w 28 4, CFG_COST := bitsOf w 20 8, CFG_PRIO := bitsOf w 18 2, CFG_ORDER := bitsOf w 15 3, CFG_RET := bitAt w 14, CFG_SLEEP := bitAt w 13, CFG_IDLE_TO := bitsOf w 0 10 } } else
    if let some i := indexAt off 0x104 16 50 then { p with dom := vMod p.dom i fun e => { e with TIM_PRE_TO := bitsOf w 24 8, TIM_PRE_HOLD := bitsOf w 16 8, TIM_RESTORE := bitsOf w 8 8, TIM_SAVE := bitsOf w 0 8 } } else
    if let some i := indexAt off 0x108 16 50 then { p with dom := vMod p.dom i fun e => { e with OFFD := bitsOf w 0 16 } } else
    p

/-- The image fields of the repeated CLK registers at their Cold values (R465). -/
def imgColdClkDom (e : ClkDom) : ClkDom :=
  { e with CFG_F_IMG := 0, CFG_FGAP := 16, CFG_UP_GAP := 4, CFG_SSC := false }

/-- The image fields of the CLK page at their Cold values: an image field that no record names takes it (R465). -/
def imgColdClkPage (p : Clk) : Clk :=
  { p with TK_CFG := true, dom := p.dom.map imgColdClkDom }

/-- The bits of each CLK register that the page marks "image"; none where the register has no image field (R465). -/
def imgMaskClk (off : Nat) : Option Nat :=
  match off with
  | 0x4C => some 0x1
  | _ =>
    if (indexAt off 0x100 16 25).isSome then some 0xF8FFFF01 else
    none

/-- A register-word record of the image sets the image fields of one CLK register (R465). -/
def imgSetClk (off w : Nat) (p : Clk) : Clk :=
  match off with
  | 0x4C => { p with TK_CFG := bitAt w 0 }
  | _ =>
    if let some i := indexAt off 0x100 16 25 then { p with dom := vMod p.dom i fun e => { e with CFG_F_IMG := bitsOf w 27 5, CFG_FGAP := bitsOf w 16 8, CFG_UP_GAP := bitsOf w 8 8, CFG_SSC := bitAt w 0 } } else
    p

/-- The image fields of the repeated VRG registers at their Cold values (R465). -/
def imgColdVrgRail (e : VrgRail) : VrgRail :=
  { e with CAL_I_GAIN := 16384, CAL_I_OFS := 0, CALV_V_GAIN := 16384, CALV_V_OFS := 0, PHCFG_SPARE := 0, PHCFG_PRIM := 0 }

/-- The image fields of the VRG page at their Cold values: an image field that no record names takes it (R465). -/
def imgColdVrgPage (p : Vrg) : Vrg :=
  { p with TRK_CFG := 200, rail := p.rail.map imgColdVrgRail }

/-- The bits of each VRG register that the page marks "image"; none where the register has no image field (R465). -/
def imgMaskVrg (off : Nat) : Option Nat :=
  match off with
  | 0x50 => some 0xFF
  | _ =>
    if (indexAt off 0x10C 32 16).isSome then some 0xFFFFFFFF else
    if (indexAt off 0x110 32 16).isSome then some 0xFFFFFFFF else
    if (indexAt off 0x118 32 16).isSome then some 0xFFFFFF else
    none

/-- A register-word record of the image sets the image fields of one VRG register (R465). -/
def imgSetVrg (off w : Nat) (p : Vrg) : Vrg :=
  match off with
  | 0x50 => { p with TRK_CFG := bitsOf w 0 8 }
  | _ =>
    if let some i := indexAt off 0x10C 32 16 then { p with rail := vMod p.rail i fun e => { e with CAL_I_GAIN := bitsOf w 16 16, CAL_I_OFS := sextOf (bitsOf w 0 16) 16 } } else
    if let some i := indexAt off 0x110 32 16 then { p with rail := vMod p.rail i fun e => { e with CALV_V_GAIN := bitsOf w 16 16, CALV_V_OFS := sextOf (bitsOf w 0 16) 16 } } else
    if let some i := indexAt off 0x118 32 16 then { p with rail := vMod p.rail i fun e => { e with PHCFG_SPARE := bitsOf w 12 12, PHCFG_PRIM := bitsOf w 0 12 } } else
    p

/-- The image fields of the repeated PMB registers at their Cold values (R465). -/
def imgColdPmbConv (e : PmbConv) : PmbConv :=
  { e with CONV_VALID := false, CONV_VIN_SRC := false, CONV_IIN_SRC := false, CONV_ADDR := 0 }

/-- The image fields of the PMB page at their Cold values: an image field that no record names takes it (R465). -/
def imgColdPmbPage (p : Pmb) : Pmb :=
  { p with CFG_POLL := 10, CFG_ALERT_CLR := false, CFG_SPEED := false, VIN_LIM_VIN_HI := 4500, VIN_LIM_VIN_LO := 3900, IIN_LIM := 65535, conv := p.conv.map imgColdPmbConv }

/-- The bits of each PMB register that the page marks "image"; none where the register has no image field (R465). -/
def imgMaskPmb (off : Nat) : Option Nat :=
  match off with
  | 0x40 => some 0xFF03
  | 0x44 => some 0xFFFFFFFF
  | 0x48 => some 0xFFFF
  | _ =>
    if (indexAt off 0x80 4 8).isSome then some 0xE000007F else
    none

/-- A register-word record of the image sets the image fields of one PMB register (R465). -/
def imgSetPmb (off w : Nat) (p : Pmb) : Pmb :=
  match off with
  | 0x40 => { p with CFG_POLL := bitsOf w 8 8, CFG_ALERT_CLR := bitAt w 1, CFG_SPEED := bitAt w 0 }
  | 0x44 => { p with VIN_LIM_VIN_HI := bitsOf w 16 16, VIN_LIM_VIN_LO := bitsOf w 0 16 }
  | 0x48 => { p with IIN_LIM := bitsOf w 0 16 }
  | _ =>
    if let some i := indexAt off 0x80 4 8 then { p with conv := vMod p.conv i fun e => { e with CONV_VALID := bitAt w 31, CONV_VIN_SRC := bitAt w 30, CONV_IIN_SRC := bitAt w 29, CONV_ADDR := bitsOf w 0 7 } } else
    p

/-- The image fields of the repeated FRM registers at their Cold values (R465). -/
def imgColdFrmMember (e : FrmMember) : FrmMember :=
  { e with MEMBER_MAX := 0, MEMBER_FLOOR := 0 }

/-- The image fields of the FRM page at their Cold values: an image field that no record names takes it (R465). -/
def imgColdFrmPage (p : Frm) : Frm :=
  { p with CFG := 2, PKGCAP := 65535, member := p.member.map imgColdFrmMember }

/-- The bits of each FRM register that the page marks "image"; none where the register has no image field (R465). -/
def imgMaskFrm (off : Nat) : Option Nat :=
  match off with
  | 0x5C => some 0xFF
  | 0x60 => some 0xFFFF
  | _ =>
    if (indexAt off 0x100 4 24).isSome then some 0xFFFFFFFF else
    none

/-- A register-word record of the image sets the image fields of one FRM register (R465). -/
def imgSetFrm (off w : Nat) (p : Frm) : Frm :=
  match off with
  | 0x5C => { p with CFG := bitsOf w 0 8 }
  | 0x60 => { p with PKGCAP := bitsOf w 0 16 }
  | _ =>
    if let some i := indexAt off 0x100 4 24 then { p with member := vMod p.member i fun e => { e with MEMBER_MAX := bitsOf w 16 16, MEMBER_FLOOR := bitsOf w 0 16 } } else
    p

/-- The image fields of the repeated TRE registers at their Cold values (R465). -/
def imgColdTrePort (e : TrePort) : TrePort :=
  { e with PORT_MAX := 0, PORT_FLOOR := 0 }

/-- The image fields of the TRE page at their Cold values: an image field that no record names takes it (R465). -/
def imgColdTrePage (p : Tre) : Tre :=
  { p with CFG_MYPORT := 0, CFG_HOLD := 4, CFG_POLL := 20, ISO := 0, port := p.port.map imgColdTrePort }

/-- The bits of each TRE register that the page marks "image"; none where the register has no image field (R465). -/
def imgMaskTre (off : Nat) : Option Nat :=
  match off with
  | 0x50 => some 0x1FFFFF
  | 0x54 => some 0xFFFFFFFF
  | _ =>
    if (indexAt off 0x100 16 16).isSome then some 0xFFFFFFFF else
    none

/-- A register-word record of the image sets the image fields of one TRE register (R465). -/
def imgSetTre (off w : Nat) (p : Tre) : Tre :=
  match off with
  | 0x50 => { p with CFG_MYPORT := bitsOf w 16 5, CFG_HOLD := bitsOf w 8 8, CFG_POLL := bitsOf w 0 8 }
  | 0x54 => { p with ISO := bitsOf w 0 32 }
  | _ =>
    if let some i := indexAt off 0x100 16 16 then { p with port := vMod p.port i fun e => { e with PORT_MAX := bitsOf w 16 16, PORT_FLOOR := bitsOf w 0 16 } } else
    p

/-- The image fields of the MBx page at their Cold values: an image field that no record names takes it (R465). -/
def imgColdMbxPage (p : Mbx) : Mbx :=
  { p with HB_CFG := 500, ORPH_STEP := 0, ORPH_FLOOR := 0 }

/-- The bits of each MBx register that the page marks "image"; none where the register has no image field (R465). -/
def imgMaskMbx (off : Nat) : Option Nat :=
  match off with
  | 0xE8 => some 0xFFFF
  | 0xEC => some 0xFFFFFFFF
  | _ =>
    none

/-- A register-word record of the image sets the image fields of one MBx register (R465). -/
def imgSetMbx (off w : Nat) (p : Mbx) : Mbx :=
  match off with
  | 0xE8 => { p with HB_CFG := bitsOf w 0 16 }
  | 0xEC => { p with ORPH_STEP := bitsOf w 16 16, ORPH_FLOOR := bitsOf w 0 16 }
  | _ =>
    p

/-- The image fields of the repeated REL registers at their Cold values (R465). -/
def imgColdRelWear (e : RelWear) : RelWear :=
  { e with WEARCFG_WEAR_MAX := 0, WEARCFG_WK := 0 }

/-- The image fields of the REL page at their Cold values: an image field that no record names takes it (R465). -/
def imgColdRelPage (p : Rel) : Rel :=
  { p with BLIND_CFG := 8, wear := p.wear.map imgColdRelWear }

/-- The bits of each REL register that the page marks "image"; none where the register has no image field (R465). -/
def imgMaskRel (off : Nat) : Option Nat :=
  match off with
  | 0x5C => some 0xF
  | _ =>
    if (indexAt off 0x104 8 16).isSome then some 0xFFFF else
    none

/-- A register-word record of the image sets the image fields of one REL register (R465). -/
def imgSetRel (off w : Nat) (p : Rel) : Rel :=
  match off with
  | 0x5C => { p with BLIND_CFG := bitsOf w 0 4 }
  | _ =>
    if let some i := indexAt off 0x104 8 16 then { p with wear := vMod p.wear i fun e => { e with WEARCFG_WEAR_MAX := bitsOf w 8 8, WEARCFG_WK := bitsOf w 0 8 } } else
    p

end Sys2Proof.Machine
end

