-- ==== Sys2Proof/Machine/Spares.lean ====
section
/-! DEFINITION. Memory rows and their spares (R481 to R486), for every consumer of a memory and for the scrubber. -/

namespace Sys2Proof.Machine

open Sys2Proof

/-- Rows of memory k (R481). -/
def memRows (k : Nat) : Nat := [8192, 4096, 288, 768, 192, 2048].getD k 0

/-- Spare rows of memory k (R481). -/
def memSpares (k : Nat) : Nat := [64, 32, 8, 8, 4, 16].getD k 0

/-- REL_MEMk.FREE. -/
def memFree (s : State) (k : Nat) : Nat := memSpares k - (vAt s.rel.mem k {}).next

/-- A row of memory k moves to the lowest free spare row, or is lost where none is left (R482, R483). -/
def State.spareRow (s : State) (k row : Nat) : State :=
  let e := vAt s.rel.mem k {}
  if e.lost.contains row then s
  else if e.next < memSpares k then
    let s := { s with rel.mem := vMod s.rel.mem k fun e =>
      { e with maps := memWrite 0 e.maps row (e.next + 1), MEM_MAPPED := (memWrite 0 e.maps row (e.next + 1)).length, next := e.next + 1 } }
    let s := s.fault pgRel 17 0x1411 [k, row, e.next]
    (if k = 5 then s.recorderRowMoved row else s).settle 0x1411
  else
    let s := { s with rel.mem := vMod s.rel.mem k fun e => { e with MEM_EXHAUSTED := true, lost := e.lost ++ [row] } }
    let s := s.fault pgRel 18 0x1412 [k, row]
    if k = 5 then s.recorderRowOut row
    else if k = 3 then { s with thm.OBS_LOCKED := true, thm.OBS_OFF := true }
    else s

/-- A row of memory k has no spare row and is lost (R483). -/
def rowLost (s : State) (k row : Nat) : Bool := (vAt s.rel.mem k {}).lost.contains row

/-- `n` bytes of staging from `a` hold what no rule states: the content of a damaged row is lost (R485, R486).
[DESIGN CHOICE, log entry 57] -/
def State.loseBytes : Nat → Nat → State → State
  | 0, _, s => s
  | n + 1, a, s =>
    State.loseBytes n (a + 1)
      ({ s with stg.mem := memWrite (0 : Byte) s.stg.mem a (BitVec.ofNat 8 (s.freeNat 8)) }.tookFree)

/-- A staging word fails its attempts (R486): the damage mark, no committed image, and the row moves without content.
[DESIGN CHOICE, log entry 57] -/
def State.stagingDamage (s : State) (row : Nat) : State :=
  let s := { s with rel.STAGING_ROW := if s.rel.STAGING_DAMAGED then s.rel.STAGING_ROW else row, rel.STAGING_DAMAGED := true,
                    seq.STATE_COMMITTED := false, stg.img := none, stg.holds := false }
  ((s.fault pgRel 19 0x1413 [row]).spareRow 0 row) |> State.loseBytes 64 (64 * row)

end Sys2Proof.Machine
end

