-- ==== Sys2Proof/Machine/Control.lean ====
section
/-! DEFINITION. The rail control law (07_control_law.md): fixed-point rows (R229 to R232), the limit chain (R237 to R239),
neutral mode and supervision (R248 to R250), the coefficient banks (R249, R252) and the matrix lanes (R246). -/

namespace Sys2Proof.Machine

open Sys2Proof

/-! ### Fixed point -/

/-- 1.0 in Q2.22 and Q10.22 (R229). -/
def qOne : Int := 2 ^ 22

/-- Saturation to the 32-bit range, and whether it saturated (R230). -/
def satQ (v : Int) : Int × Bool :=
  if v < -2147483648 then (-2147483648, true) else if 2147483647 < v then (2147483647, true) else (v, false)

/-- A row sum to Q10.22: ties toward +∞ (R230). -/
def rowQ (acc : Int) : Int × Bool := satQ ((acc + 2 ^ 21) / 2 ^ 22)

/-- num / den to the nearest integer, ties toward +∞ (R232). [DEDUCED, log entry 61] -/
def roundDiv (num : Int) (den : Nat) : Int := (2 * num + den) / (2 * den)

/-- A figure in thousandths of a unit to Q10.22 (R232). -/
def milliQ (v : Int) : Int × Bool := satQ (roundDiv (v * 2 ^ 22) 1000)

/-- The sum of the products of two lists. -/
def dot : List Int → List Int → Int
  | a :: l, b :: m => a * b + dot l m
  | _, _ => 0

/-! ### Coefficients -/

/-- A coefficient bank. -/
def bankOf (s : State) (b : Bool) : List (Nat × Nat) := if b then s.ctl.bank1 else s.ctl.bank0

/-- Coefficient `i` of a rail in the active bank (R227). -/
def coef (s : State) (r i : Nat) : Int := sextOf (memRead 0 (bankOf s s.ctl.BANK_ACTIVE) (144 * r + i)) 24

/-- `n` coefficients of a rail from `i`. -/
def coefs (s : State) (r i n : Nat) : List Int := (List.range n).map fun j => coef s r (i + j)

/-- CTL_COEF_DATA.COEF: an index at or above 144 selects no word and reads 0. [DESIGN CHOICE, log entry 62] -/
def coefSelected (s : State) : Nat :=
  if s.ctl.COEF_SEL_INDEX < 144 then memRead 0 (bankOf s s.ctl.COEF_SEL_BANK) (144 * s.ctl.COEF_SEL_RAIL + s.ctl.COEF_SEL_INDEX) else 0

/-- CTL_COEF_DATA.PFAULT. -/
def coefFaulted (s : State) : Bool :=
  decide (s.ctl.COEF_SEL_BANK = s.ctl.BANK_ACTIVE) && s.ctl.coefBad.contains (s.ctl.COEF_SEL_RAIL, s.ctl.COEF_SEL_INDEX)

/-- The row of the coefficient memory that holds a word of a bank: 16 words of 4 bytes to a row (R481). -/
def coefRow (b : Bool) (r i : Nat) : Nat := (b2n b * 2304 + 144 * r + i) / 16

/-! ### Rails -/

/-- A rail of the control engine. -/
def ctlOf (s : State) (r : Nat) : CtlRail := vAt s.ctl.rail r {}

/-- A rail of the control engine changed by `f`. -/
def State.ctlMod (s : State) (r : Nat) (f : CtlRail → CtlRail) : State := { s with ctl.rail := vMod s.ctl.rail r f }

/-- The rail has a law, and it is not in neutral mode. [DEDUCED, log entry 59] -/
def lawOn (s : State) (r : Nat) : Bool := decide ((ctlOf s r).CFG_NSTATE ≠ 0) && !(ctlOf s r).OUT_NEUTRAL && !railAbsent s r

/-- An event that a page's error bit masks (R107, R110): the bit itself is set elsewhere. -/
def State.eventUnless (s : State) (p : Fin 23) (b code : Nat) (d : List Nat) : State :=
  if s.hdr[p].errMask.testBit b then s else s.event code d

/-! ### Neutral mode (R248, R250) -/

/-- The states of a rail at 0. -/
def CtlRail.zeroed (e : CtlRail) : CtlRail := { e with x := Vector.replicate 8 0 }

/-- Cause 4 in a third consecutive epoch locks the rail until the next activation (R250). -/
def State.residualEpoch (s : State) (r : Nat) : State :=
  let e := ctlOf s r
  if e.rhoNow then s
  else
    let s := s.ctlMod r fun e => { e with rhoNow := true }
    if 2 ≤ e.rhoEp && !s.ctl.NEUTRAL_LOCKED.testBit r then
      { s with ctl.NEUTRAL_LOCKED := putBit s.ctl.NEUTRAL_LOCKED r true }.eventUnless pgCtl 19 0x0513 [r]
    else s

/-- A rail enters neutral mode; a cause that arrives in it is recorded beside the others (R248). -/
def State.neutralEnter (s : State) (r c : Nat) : State :=
  let e := ctlOf s r
  let s := s.ctlMod r fun e => { e with OUT_CAUSE := c, causes := putBit e.causes c true }
  let s := if c = 4 then s.residualEpoch r else s
  if e.OUT_NEUTRAL then s
  else
    let s := s.ctlMod r fun e =>
      { e.zeroed with
        OUT_NEUTRAL := true, RES_NEUT_CNT := satAdd 8 e.RES_NEUT_CNT 1, neutN := 0, satRun := 0, ovrRun := 0, rhoRun := 0,
        OUT_OFFSET := 0, u0 := 0 }
    { s with ctl.NEUTRAL_NEUTRAL := putBit s.ctl.NEUTRAL_NEUTRAL r true }.eventUnless pgCtl (15 + c) 0x0510 [r, c]

/-- A rail leaves neutral mode with its states at 0 and its level at 15 (R248). -/
def State.neutralLeave (s : State) (r : Nat) : State :=
  let e := ctlOf s r
  let s := s.ctlMod r fun e => { e.zeroed with OUT_NEUTRAL := false, causes := 0, OUT_LEVEL := 15 }
  { s with ctl.NEUTRAL_NEUTRAL := putBit s.ctl.NEUTRAL_NEUTRAL r false }.event 0x0511 [r, sat 16 e.neutN]

/-- A cause of R248 still holds at the end of a drain window. -/
def causeStays (s : State) (r c : Nat) : Bool :=
  match c with
  | 1 => s.ctl.coefBad.any fun x => x.1 = r
  | 4 => s.ctl.NEUTRAL_LOCKED.testBit r
  | 5 => decide ((ctlOf s r).holdRun ≠ 0)
  | _ => false

/-- The end of a drain window: each rail leaves neutral mode when every one of its causes allows it (R248). -/
def State.neutralDrain (s : State) : State :=
  (List.range 16).foldl (fun s r =>
    let e := ctlOf s r
    if e.OUT_NEUTRAL then
      let left := maskOf 6 fun c => e.causes.testBit c && causeStays s r c
      if left = 0 then s.neutralLeave r else s.ctlMod r fun e => { e with causes := left }
    else s) s

/-- An epoch boundary closes the count of epochs with cause 4 (R250). -/
def State.ctlEpoch (s : State) : State :=
  { s with ctl.rail := s.ctl.rail.map fun (e : CtlRail) => { e with rhoEp := if e.rhoNow then e.rhoEp + 1 else 0, rhoNow := false } }

/-! ### Banks (R252) -/

/-- The image that the shadow bank takes at a commit (R251). -/
def State.loadShadow (s : State) (im : Image) : State :=
  if s.ctl.BANK_ACTIVE then { s with ctl.bank0 := im.coef, ctl.BANK_PENDING := true }
  else { s with ctl.bank1 := im.coef, ctl.BANK_PENDING := true }

/-- The control fields of an image (R255, R465). -/
def imgCtl (im : Image) (c : Ctl) : Ctl :=
  (im.regs.filter fun x => x.1 = 5).foldl (fun c x => imgSetCtl x.2.1 x.2.2 c) (imgColdCtlPage c)

/-- One rail at the swap (R252). -/
def State.swapRail (s : State) (old : Vector CtlRail 16) (r : Nat) : State :=
  let e := ctlOf s r
  let s := if e.CFG_XFER && decide (e.CFG_NSTATE = (vAt old r {}).CFG_NSTATE) then s
    else s.ctlMod r fun e => { e.zeroed with OUT_LEVEL := 15 }
  if e.OUT_NEUTRAL then
    let held := decide (2 ≤ e.holdRun)
    let s := s.neutralLeave r
    if held then s.neutralEnter r 5 else s
  else s

/-- The swap (R252): one act for all rails, with the count of rails whose states were set to 0. -/
def State.bankSwap (s : State) : State :=
  let old := s.ctl.rail
  let im := s.stg.act.getD {}
  let s := { s with ctl := imgCtl im s.ctl }
  let s := { s with ctl.BANK_ACTIVE := !s.ctl.BANK_ACTIVE, ctl.BANK_PENDING := false, ctl.NEUTRAL_LOCKED := 0, ctl.coefBad := [],
                    ctl.restored := [], ctl.swapDue := false }
  let n := ((List.range 16).filter fun r =>
    !((ctlOf s r).CFG_XFER && decide ((ctlOf s r).CFG_NSTATE = (vAt old r {}).CFG_NSTATE))).length
  ((List.range 16).foldl (fun s r => s.swapRail old r) s).event 0x0515 [b2n s.ctl.BANK_ACTIVE, n]

/-! ### One sample (R224, R242) -/

/-- Beads of the ARMED rows of a rail and its unknown ones: B_arm,r (R233). -/
def bArm (s : State) (r : Nat) : Int := (armedBeads s r : Int) + unknownBeads s r

/-- φ_r is not forced to 0 (R233, R258, R270). -/
def fcsInForce (s : State) (r : Nat) : Bool :=
  (ctlOf s r).CFG_FCS_EN && !s.fcs.STAT_FZ && !(vAt s.fcs.rail r {}).RAIL_DRIFT

/-- FCS_RAILn.FZ: forced to zero by any cause. -/
def railFz (s : State) (r : Nat) : Bool := s.fcs.STAT_FZ || (vAt s.fcs.rail r {}).RAIL_DRIFT

/-- I_cmd,r, mA (R233). -/
def iCmd (s : State) (r : Nat) : Int :=
  let base : Int := iBase s r
  let b : Int := beadSize s r
  let phi := if fcsInForce s r then b * (vAt s.fcs.rail r {}).y1Now else 0
  min (max (base + b * bArm s r + phi) base) (base + b * (booked s r : Int))

/-- The guard band and V_cmd,r of a sample, µV; a guard band that narrows is slew-shaped (R186, R253). -/
def vCmdNext (s : State) (r : Nat) (fresh : Bool) : Nat :=
  let e := ctlOf s r
  let t := max (e.TGT + 1000 * guardBand s r) (codeUv (vMinEff s r))
  if !fresh && decide (t < e.CMD_V_CMD) && decide (e.CFG_SLEW ≠ 0) then max t (e.CMD_V_CMD - 10 * e.CFG_SLEW) else t

/-- The input voltage is stale (R236). -/
def vinStale (s : State) : Bool :=
  match s.pmb.vinAt with
  | some t => decide (t + s.ctl.VIN_CFG * ticksPerMs < s.now)
  | none => true

/-- The age of the last input voltage reading, ms. -/
def vinAge (s : State) : Nat := match s.pmb.vinAt with | some t => sat 16 (s.msSince t) | none => 0xFFFF

/-- The staleness of the input voltage on a sample: 0x0516 when it begins (R236). -/
def State.vinCheck (s : State) : State :=
  let st := vinStale s
  let s' := { s with ctl.vinStale := st }
  if st && !s.ctl.vinStale then s'.fault pgCtl 21 0x0516 [vinAge s] else s'

/-- A saturated sample of a rail; the sixteenth in a row enters neutral mode (R231). [DEDUCED, log entry 61] -/
def State.satSample (s : State) (r : Nat) (sat : Bool) : State :=
  if sat then
    let s := (s.ctlMod r fun e => { e with RES_SAT_CNT := satAdd 8 e.RES_SAT_CNT 1, satRun := e.satRun + 1 }).setErr pgCtl 17
    if 16 ≤ (ctlOf s r).satRun then s.neutralEnter r 2 else s
  else s.ctlMod r fun e => { e with satRun := 0 }

/-- The inputs of a rail are frozen (R225, R232, R242): whether one of them saturated, and the state after. -/
def State.freezeInputs (s : State) (r : Nat) (fresh : Bool) : Bool × State :=
  let e := ctlOf s r
  let v := vrgOf s r
  let cmd := vCmdNext s r fresh
  let i := iCmd s r
  let z0 := if v.got then milliQ ((v.vMeas : Int) - (cmd : Int)) else (vAt e.z 0 0, false)
  let z1 := if v.got then milliQ ((v.iMeas : Int) - (e.LIN : Int)) else (vAt e.z 1 0, false)
  let z2 := if s.ctl.vinStale then (0, false) else satQ (((s.pmb.VIN_VIN : Int) - 4200) * qOne)
  let z3 := milliQ (i - (e.LIN : Int))
  let s := s.ctlMod r fun e =>
    { e with z := #v[z0.1, z1.1, z2.1, z3.1], CMD_V_CMD := cmd, ICMD_I_CMD := i.toNat % 2 ^ 24, ICMD_FCS_USED := fcsInForce s r,
             holdRun := if v.got then 0 else e.holdRun + 1 }
  (z0.2 || z1.2 || z2.2 || z3.2, s)

/-- A held input (R242): SAMPLE_HOLD, and neutral mode after two in a row. [DEDUCED, log entry 61] -/
def State.holdSample (s : State) (r : Nat) : State :=
  let e := ctlOf s r
  if e.holdRun = 0 ∨ e.CFG_NSTATE = 0 ∨ railAbsent s r = true then s
  else
    let s := s.setErr pgCtl 20
    if 2 ≤ e.holdRun && !e.causes.testBit 5 then s.neutralEnter r 5 else s

/-- The applied setpoint of steps 1 to 4 of R237 from an offset in Q10.22: its code in 0.25 mV, and whether a limit of
steps 1 to 3 held the offset. -/
def setpoint (s : State) (r : Nat) (v0 : Int) : Nat × Bool :=
  let e := ctlOf s r
  let sx := min (max v0 (e.LIM_DMIN * qOne)) (e.LIM_DMAX * qOne)
  let raw := (e.CMD_V_CMD : Int) * qOne + 1000 * sx
  let lo := (codeUv (vMinEff s r) : Int) * qOne
  let hi := ((codeUv (vMaxEff s r) : Int) - 25000) * qOne
  let w := min (max raw lo) hi
  let w := if respOn s r 2 then lo else w
  ((((w - 125 * qOne) + (250 * qOne - 1)) / (250 * qOne)).toNat, decide (sx ≠ v0) || decide (w ≠ raw))

/-- A trim is offered where the code differs from the last one issued (R237). -/
def State.offerTrim (s : State) (r code : Nat) : State :=
  if railAbsent s r || decide ((vrgOf s r).issued = code) then s else s.trim r 1 code false

/-- θ_r and the hysteresis of step 2 of R238. [DEDUCED, log entry 61] -/
def lawLevel (v1 : Int) (lam : Nat) : Nat :=
  let th := min (max (15 * qOne + v1) 0) (15 * qOne)
  if 3 * 2 ^ 20 ≤ (th - (lam : Int) * qOne).natAbs then ((th + 2 ^ 21) / 2 ^ 22).toNat else lam

/-- Phase A and the setpoint side of the limit chain of one rail (R237). A rail without a law, or in neutral mode, takes
an offset of 0 (R226, R248). -/
def State.lawOut (s : State) (r : Nat) : State :=
  if lawOn s r then
    let e := ctlOf s r
    let xz := e.x.toList ++ e.z.toList
    let v0 := (rowQ (dot (coefs s r 112 8 ++ coefs s r 128 4) xz)).1
    let v1 := (rowQ (dot (coefs s r 120 8 ++ coefs s r 132 4) xz)).1
    let c := setpoint s r v0
    let du : Int := 250 * (c.1 : Int) - (e.CMD_V_CMD : Int)
    let s := s.ctlMod r fun e =>
      { e with v := #v[v0, v1], u0 := (milliQ du).1, OUT_OFFSET := max (-32768) (min 32767 (roundDiv du 10)), OUT_CLAMP_V := c.2,
               OUT_LEVEL := lawLevel v1 e.OUT_LEVEL }
    s.offerTrim r c.1
  else if railAbsent s r then s
  else
    let s := s.ctlMod r fun e => { e with u0 := 0, OUT_OFFSET := 0, OUT_CLAMP_V := false, OUT_CLAMP_T := false,
                                          neutN := if e.OUT_NEUTRAL then e.neutN + 1 else e.neutN }
    s.offerTrim r (setpoint s r 0).1

/-- The applied throttle deviation u₁ (R238 step 5). [DEDUCED, log entry 61] -/
def lawU1 (s : State) (r : Nat) : Int :=
  let l := (List.range 25).filter fun c => (railDoms s r).testBit c
  if l = [] then 0
  else
    let sum := (l.map fun c => (otherSources s 16 c : Int)).foldl (· + ·) 0
    roundDiv ((sum - 15 * (l.length : Int)) * qOne) l.length

/-- The residual of a sample against its limit (R250). -/
def State.residual (s : State) (r : Nat) (rho : Int) : State :=
  let e := ctlOf s r
  let skip := decide (e.CFG_RHO_LIM = 0) || s.ctl.heldSeen.testBit r || decide (s.ctl.strSeen &&& dset s r ≠ 0) || decide (e.holdRun ≠ 0)
  if skip then s
  else if (e.CFG_RHO_LIM : Int) * qOne < 10 * (rho.natAbs : Int) then
    if 64 ≤ e.rhoRun + 1 then ((s.ctlMod r fun e => { e with rhoRun := 0 }).setErr pgCtl 19).neutralEnter r 4
    else s.ctlMod r fun e => { e with rhoRun := e.rhoRun + 1 }
  else s.ctlMod r fun e => { e with rhoRun := 0 }

/-- One row of the state update: A, G and B of state i (R224). -/
def stateRow (s : State) (r i : Nat) (x z u : List Int) : Int × Bool :=
  rowQ (dot (coefs s r (8 * i) 8 ++ coefs s r (64 + 4 * i) 4 ++ coefs s r (96 + 2 * i) 2) (x ++ z ++ u))

/-- Phase C of one rail: ρ(k) and x(k+1), unless the commit comes too late (R224, R231, R244). -/
def State.lawState (s : State) (r : Nat) (insat late : Bool) : State :=
  if !lawOn s r then s
  else
    let e := ctlOf s r
    let x := e.x.toList
    let z := e.z.toList
    let u1 := lawU1 s r
    let rho := (rowQ (dot (coefs s r 136 8) x - qOne * vAt e.z 0 0)).1
    let rows := (List.range 8).map fun i => stateRow s r i x z [e.u0, u1]
    let sat := insat || (!late && rows.any (·.2))
    let s := s.ctlMod r fun e =>
      { e with OUT_CLAMP_T := decide (3 * 2 ^ 20 < (u1 - vAt e.v 1 0).natAbs),
               RES_RHO := max (-32768) (min 32767 (roundDiv (100 * rho) 4194304)),
               x := if late then e.x else Vector.ofFn fun i : Fin 8 => if i.val < e.CFG_NSTATE then (rows.getD i.val (0, false)).1 else 0 }
    let s := if late then
        let s := ({ s with ctl.OVR_CNT := satAdd 32 s.ctl.OVR_CNT 1 }.ctlMod r fun e => { e with ovrRun := e.ovrRun + 1 }).setErr pgCtl 18
        if 4 ≤ (ctlOf s r).ovrRun then s.neutralEnter r 3 else s
      else s.ctlMod r fun e => { e with ovrRun := 0 }
    (s.satSample r sat).residual r rho

/-- A coefficient word of the active bank fails parity and its replay (R249): neutral mode until it is restored; one that
fails on its first use after a restore moves its row to a spare row (R482). -/
def State.coefFault (s : State) (r i : Nat) : State :=
  if (ctlOf s r).CFG_NSTATE = 0 ∨ 144 ≤ i ∨ s.ctl.coefBad.contains (r, i) = true then s
  else
    let again := s.ctl.restored.contains (r, i)
    let s := { s with ctl.coefBad := s.ctl.coefBad ++ [(r, i)], ctl.restored := s.ctl.restored.filter (· ≠ (r, i)) }
    let s := ((s.setErr pgCtl 16).wordRetired 2 (144 * r + i)).neutralEnter r 1
    if again then s.spareRow 2 (coefRow s.ctl.BANK_ACTIVE r i) else s

/-- COEF_RESTORE_COMPLETE (R249): the word comes from the active image, while staging holds it. -/
def execCoefRestoreComplete (rail : Fin 16) (index : BitVec 8) (s : State) : Host.Outcome State Fault Refusal :=
  .next (
    let k := (rail.val, index.toNat)
    let b := s.ctl.BANK_ACTIVE
    if s.ctl.coefBad.contains k && s.stg.holds && !rowLost s 2 (coefRow b rail.val index.toNat) then
      let v := memRead 0 (s.stg.act.getD {}).coef (144 * rail.val + index.toNat)
      let s := { s with ctl.coefBad := s.ctl.coefBad.filter (· ≠ k), ctl.restored := s.ctl.restored ++ [k] }
      let s := if b then { s with ctl.bank1 := memWrite 0 s.ctl.bank1 (144 * rail.val + index.toNat) v }
        else { s with ctl.bank0 := memWrite 0 s.ctl.bank0 (144 * rail.val + index.toNat) v }
      s.event 0x0512 [rail.val, b2n b, index.toNat]
    else s)

/-- The step 6 bound of R243 for N lanes, in tenths of a nanosecond. -/
def commitBound (n : Nat) : Nat := if n = 0 then 0 else 600 + 96 * cdiv 32 n + 112 * cdiv 144 n

/-- The commit instant of a sample (R245): 64 late commits in a row raise 0x0517, once for the run. -/
def State.commitNote (s : State) (ns : Nat) : State :=
  let s := { s with ctl.SAMPLE_LAST := sat 8 ns, ctl.SAMPLE_MAX := max s.ctl.SAMPLE_MAX (sat 8 ns) }
  if commitBound s.ctl.MU_ACTIVE < 10 * ns then
    let m := max s.ctl.marginMax ns
    let s := { s with ctl.marginRun := min 65 (s.ctl.marginRun + 1), ctl.marginMax := m }
    if s.ctl.marginRun = 64 then s.fault pgCtl 23 0x0517 [sat 16 m] else s
  else { s with ctl.marginRun := 0, ctl.marginMax := 0 }

/-- The laws run: RUN, DEGRADED, ORPHAN and EMERGENCY, whatever state EMERGENCY hides (R241). [DEDUCED, log entry 59] -/
def lawsRun (s : State) : Bool := intrState s

/-- The laws stop: states 0, and the level reads 0 with the throttle floor (R241, R255). -/
def State.lawsStop (s : State) : State :=
  { s with ctl.run := false, ctl.rail := s.ctl.rail.map fun (e : CtlRail) => { e.zeroed with OUT_LEVEL := 0, u0 := 0, OUT_OFFSET := 0 } }

/-- The law's part of a tick up to step 1: the bank swap where it is due, the first period of a run, and V_IN's check (R242,
R252). -/
def State.lawStart (s : State) : State :=
  let s := if s.ctl.swapDue then s.bankSwap else s
  let s := if s.ctl.run then s else { s with ctl.run := true, ctl.rail := s.ctl.rail.map fun (e : CtlRail) => { e with OUT_LEVEL := 15 } }
  s.vinCheck

/-- Step 1 on one rail: its inputs are frozen, and whether they saturate is kept beside the state. -/
def lawFreeze (fresh : Bool) (a : List Bool × State) (r : Nat) : List Bool × State :=
  let y := a.2.freezeInputs r fresh
  (a.1 ++ [y.1], y.2.holdSample r)

/-- The steps after the inputs are frozen: coefficient faults, outputs, states and the commit note (R243 to R249). -/
def State.lawFinish (s : State) (sats : List Bool) (obs : SampleObs) : State :=
  let s := obs.coefBad.foldl (fun s c => s.coefFault c.1.val c.2.toNat) s
  let used := s.ctl.restored.filter fun c => !lawOn s c.1
  let s := (List.range 16).foldl State.lawOut s
  let s := (List.range 16).foldl (fun s r => s.lawState r (sats.getD r false) (obs.late.any fun q => q.val = r)) s
  { s with ctl.restored := used }.commitNote obs.commitNs

/-- The control law on a tick (R242): the swap that is due, the frozen inputs, the outputs of every rail, then the states
of every rail. -/
def State.lawTick (s : State) (obs : SampleObs) : State :=
  if !lawsRun s then (if s.ctl.run then s.lawsStop else s)
  else
    let fresh := s.ctl.swapDue || !s.ctl.run
    let x := (List.range 16).foldl (lawFreeze fresh) ([], s.lawStart)
    x.2.lawFinish x.1 obs

/-! ### Lanes (R246) -/

/-- How many of the 18 physical lanes work, and what CTL_MU then shows: 16 active at most (R41, R246). -/
def State.lanesChanged (s : State) (cause : Nat) : State :=
  let n := 18 - popcount 18 s.ctl.MU_LANES
  let act := min 16 n
  let s' := { s with ctl.MU_ACTIVE := act, ctl.MU_SPARE_FREE := n - act }
  if act = s.ctl.MU_ACTIVE ∧ n - act = s.ctl.MU_SPARE_FREE then s'
  else (s'.event 0x0514 [act, n - act]).beamSettle.settle cause

/-- A lane is retired: REL's spares, LANE_LOSS and 0x0514 (R246, R479). -/
def State.retireLane (s : State) (p : Nat) : State :=
  if 18 ≤ p ∨ s.ctl.MU_LANES.testBit p = true then s
  else
    let s := ({ s with ctl.MU_LANES := putBit s.ctl.MU_LANES p true }.setErr pgCtl 22).wordRetired 10 p
    s.lanesChanged 0x0514

end Sys2Proof.Machine
end

