-- ==== Sys2Proof/Machine/Forecast.lean ====
section
/-! DEFINITION. The current forecaster (08_forecaster.md, R257 to R280): input frames, the int8 layers, presentation,
forced zero, the weight memory, drift and trace capture. -/

namespace Sys2Proof.Machine

open Sys2Proof

/-- Where the weight region begins in the staging memory: above the 256 KiB of the block region (R115, R427). -/
abbrev weightBase : Nat := 262144

/-- A rail of the forecaster. -/
def fcsOf (s : State) (r : Nat) : FcsRail := vAt s.fcs.rail r {}

/-- A rail of the forecaster changed by `f`. -/
def State.fcsMod (s : State) (r : Nat) (f : FcsRail → FcsRail) : State := { s with fcs.rail := vMod s.fcs.rail r f }

/-- The forecaster's page changed by `f`. -/
def State.onFcs (s : State) (f : Fcs → Fcs) : State := { s with fcs := f s.fcs }

/-! ### The model (R263 to R266) -/

/-- A layer's registers. -/
def layerOf (s : State) (l : Nat) : FcsLayer := vAt s.fcs.layer l {}

/-- Input channels of a layer. -/
def cIn (e : FcsLayer) : Nat := 32 * (e.LAYER_A_CIN + 1)
/-- Output channels of a layer. -/
def cOut (e : FcsLayer) : Nat := 32 * (e.LAYER_A_COUT + 1)
/-- Kernel length of a layer. -/
def kernel (e : FcsLayer) : Nat := e.LAYER_A_KM1 + 1
/-- Dilation of a layer. -/
def dilation (e : FcsLayer) : Nat := 2 ^ e.LAYER_A_DLOG

/-- A value held to 32-bit two's complement (R264). -/
def sat32 (v : Int) : Int := max (-2147483648) (min 2147483647 v)

/-- The accumulator over one tap: each product is added and the sum saturates. -/
def macRow (acc : Int) : List Int → List Int → Int
  | w :: ws, a :: as => macRow (sat32 (acc + w * a)) ws as
  | _, _ => acc

/-- One tap's weights of an output channel (R265). -/
def tapWeights (s : State) (e : FcsLayer) (tau o : Nat) : List Int :=
  (List.range (cIn e)).map fun i =>
    sextOf (memRead 0 s.fcs.wmem (1024 * e.LAYER_B_WOFF + (tau * cOut e + o) * cIn e + i)) 8

/-- One output channel of a layer (R264). -/
def channelOut (s : State) (l o : Nat) (h : List (List Int)) : Int :=
  let e := layerOf s l
  let bias := sextOf (memRead 0 s.fcs.bias (512 * l + o)) 32
  let acc := (List.range (kernel e)).foldl (fun acc tau => macRow acc (tapWeights s e tau o) (h.getD (tau * dilation e) [])) bias
  let y := max (-128) (min 127 ((acc * (e.LAYER_B_MULT : Int) + 2 ^ (e.LAYER_A_SHIFT - 1)) / 2 ^ e.LAYER_A_SHIFT))
  if e.LAYER_A_ACT then max y 0 else y

/-- A layer takes its newest input: its history advances, and its newest output follows. -/
def State.layerStep (s : State) (l : Nat) (inp : List Int) : List Int × State :=
  let e := layerOf s l
  let h := (inp :: vAt s.fcs.hist l []).take ((kernel e - 1) * dilation e + 1)
  let s := { s with fcs.hist := vMod s.fcs.hist l fun _ => h }
  ((List.range (cOut e)).map fun o => channelOut s l o h, s)

/-- The layers of the model in turn. -/
def State.runLayers (s : State) (q : List Int) : List Int × State :=
  (List.range (min 6 s.fcs.MODEL_LAYERS)).foldl (fun (a : List Int × State) l => a.2.layerStep l a.1) (q, s)

/-! ### Input frames (R261) -/

/-- What one control sample adds to the frames. -/
def State.fcsSample (s : State) : State :=
  if !s.fcs.on then s
  else
    let s := { s with fcs.heldF := s.fcs.heldF ||| s.ctl.heldSeen, fcs.strF := s.fcs.strF ||| s.ctl.strSeen,
                      fcs.drainF := s.fcs.drainF || s.tly.EPOCH_DRAIN }
    (List.range 16).foldl (fun s r =>
      let inc : Int := ((vrgOf s r).iMeas : Int) - (iBase s r : Int) - (beadSize s r : Int) * bArm s r
      let t := sumBelow 25 fun c => if (railDoms s r).testBit c then otherSources s 16 c else 0
      s.fcsMod r fun e => { e with accI := e.accI + inc, accZ := e.accZ + vAt (ctlOf s r).z 0 0, accT := e.accT + t }) s

/-- The eight integers x_f of a rail over a frame of `n` samples. -/
def railFeatures (s : State) (r n : Nat) : List Int :=
  let e := fcsOf s r
  let k := popcount 25 (railDoms s r)
  let arm := bArm s r
  [ roundDiv e.accI (n * beadSize s r), roundDiv e.accZ (n * 4194304), arm, (booked s r : Int) - arm, e.nShort, e.nLong, e.nGone,
    if k = 0 then 120 else roundDiv (8 * (e.accT : Int)) (n * k) ]

/-- A feature quantised by its shift (R261). -/
def quantise (x : Int) (sh : Nat) : Int :=
  max (-128) (min 127 ((x + (if sh = 0 then 0 else 2 ^ (sh - 1))) / 2 ^ sh))

/-- SH_f (R261). -/
def featShift (s : State) (f : Nat) : Nat := bitsOf s.fcs.FEAT (3 * f) 3

/-- The rails whose scoring on a label is skipped (R275): all in a drain window, else those held or stretched. -/
def labelSkip (s : State) : Nat :=
  if s.fcs.drainF then 65535
  else maskOf 16 fun r => s.fcs.heldF.testBit r || decide (s.fcs.strF &&& dset s r ≠ 0)

/-- The frame accumulations start afresh. -/
def State.frameClear (s : State) : State :=
  { s with fcs.lastAt := s.now, fcs.heldF := 0, fcs.strF := 0, fcs.drainF := false,
           fcs.rail := s.fcs.rail.map fun (e : FcsRail) => { e with accI := 0, accZ := 0, accT := 0, nShort := 0, nLong := 0, nGone := 0 } }

/-! ### Forced zero (R270) -/

/-- The causes of R270, as FCS_STAT.FZ_CAUSE holds them. -/
def fzCauses (s : State) : Nat :=
  maskOf 6 fun k => match k with
    | 0 => s.seq.imgOn && decide (s.fcs.MODEL_LAYERS = 0)
    | 1 => !inService s || s.sns.RANGE_OUT || s.tly.EPOCH_DRAIN
    | 2 => decide (s.fcs.STAT_WARM_LEFT ≠ 0)
    | 3 => s.fcs.WLOAD_COPY || s.fcs.WLOAD_RESTORE || s.fcs.wStuck
    | 4 => decide (s.fcs.missLeft ≠ 0) || s.fcs.overBound
    | _ => s.hdr[pgFcs].lrstAct || s.fcs.lrstCopy

/-- Evaluations run (R269, R272, R273). -/
def fcsRuns (s : State) : Bool :=
  s.fcs.on && lawsRun s && decide (s.fcs.MODEL_LAYERS ≠ 0) && !s.fcs.WLOAD_COPY && !s.fcs.WLOAD_RESTORE && !s.fcs.wStuck &&
  !s.hdr[pgFcs].lrstAct

/-- The causes as they stand: 0x0610 and 0x0611 where forced zero begins or ends (R270). -/
def State.fcsSettle (s : State) : State :=
  let m := fzCauses s
  let was := s.fcs.STAT_FZ
  let s := { s with fcs.STAT_FZ_CAUSE := m, fcs.STAT_FZ := decide (m ≠ 0), fcs.STAT_RUNNING := fcsRuns s }
  if m ≠ 0 && !was then { s with fcs.fzAt := s.now }.event 0x0610 [m]
  else if m = 0 && was then s.event 0x0611 [sat 16 (s.usSince s.fcs.fzAt)]
  else s

/-! ### The trace point (R276, R277) -/

/-- A window of the trace ends: 0x0617 where it dropped records, and the gap begins. -/
def State.winEnd (s : State) : State :=
  let n := s.fcs.winDrops
  let s := { s with fcs.winLeft := 0, fcs.winDrops := 0, fcs.winDropped := false, fcs.gapAt := some s.now }
  if n = 0 then s else s.fault pgFcs 21 0x0617 [s.fcs.TRC_STAT_WINDOWS, sat 16 n]

/-- FCS_TRC_CFG as written: EN at 1 opens a window at the next evaluation tick (R277). -/
def State.trcCfg (s : State) (en : Bool) (win gap : Nat) : State :=
  let s := if s.fcs.winLeft = 0 then s else s.winEnd
  { s with fcs.TRC_CFG_EN := en, fcs.TRC_CFG_WIN := win, fcs.TRC_CFG_GAP := gap, fcs.winDue := en, fcs.gapAt := none }

/-- A window begins where one is due (R277). -/
def State.winBegin (s : State) : State :=
  let gap := match s.fcs.gapAt with | some t => s.after t (s.fcs.TRC_CFG_GAP * ticksPerMs) | none => false
  if s.fcs.TRC_CFG_EN && decide (s.fcs.winLeft = 0) && (s.fcs.winDue || gap) then
    { s with fcs.winDue := false, fcs.gapAt := none, fcs.winLeft := 16 * max 1 s.fcs.TRC_CFG_WIN, fcs.winSeq := 0, fcs.winDrops := 0,
             fcs.winDropped := false, fcs.TRC_STAT_WINDOWS := satAdd 16 s.fcs.TRC_STAT_WINDOWS 1 }
  else s

/-- The 256 bytes of a forecaster frame (R276). -/
def frameRecord (s : State) (f : FcsFrame) (abandoned : Bool) : List Nat :=
  let flags := b2n (decide (s.fcs.winSeq = 0)) + f.flags + 16 * b2n s.fcs.STAT_FZ + 32 * b2n abandoned + 64 * b2n s.fcs.winDropped
  let rail := (List.range 16).map fun r =>
    b2n (ctlOf s r).CFG_FCS_EN + 2 * b2n (railFz s r) + 4 * b2n (f.held.testBit r) + 8 * b2n (decide (f.str &&& dset s r ≠ 0)) +
      16 * b2n (decide ((fcsOf s r).DRIFT_RUN ≠ 0))
  let lab := f.x0.flatMap fun x => bytesLE 2 (twos (max (-32767) (min 32767 x)) 16)
  let out := if abandoned then List.replicate 64 0 else (List.range 64).map fun k => twos (f.out.getD k 0) 8
  let bs := [0xF1, flags] ++ bytesLE 2 s.fcs.winSeq ++ [f.epoch, s.ctl.MU_ACTIVE] ++ bytesLE 2 f.age ++ f.q.map (fun x => twos x 8) ++ out ++
    lab ++ rail ++ bytesLE 4 s.cmn.fuses.dieId.toNat
  bs ++ bytesLE 4 (crc32 bs)

/-- One record of the window: sent, or dropped and counted (R277). -/
def State.frameTrace (s : State) (f : FcsFrame) (abandoned : Bool) : State :=
  if s.fcs.winLeft = 0 then s
  else
    let r := s.trcPush 0xF1 (frameRecord s f abandoned)
    let s := if r.1 then r.2.onFcs fun p => { p with winDropped := false }
      else s.onFcs fun p => { p with winDropped := true, winDrops := p.winDrops + 1, TRC_STAT_DROP := satAdd 16 p.TRC_STAT_DROP 1 }
    let s := s.onFcs fun p => { p with winSeq := (p.winSeq + 1) % 65536, winLeft := p.winLeft - 1 }
    if s.fcs.winLeft = 0 then s.winEnd else s

/-! ### Evaluations -/

/-- WARMUP starts afresh (R270). -/
def State.warmup (s : State) : State := { s with fcs.STAT_WARM_LEFT := s.fcs.MODEL_RF }

/-- An evaluation in progress is abandoned: the histories are broken (R262, R268, R270, R273). -/
def State.evalAbandon (s : State) : State :=
  match s.fcs.frame with
  | some f => ({ s with fcs.frame := none }.frameTrace f true).warmup
  | none => s

/-- A deadline miss (R268). [DEDUCED, log entry 63] -/
def State.evalMiss (s : State) : State :=
  let s := { s.evalAbandon with fcs.MISS_CNT_MISS := satAdd 16 s.fcs.MISS_CNT_MISS 1, fcs.missLeft := 16 }
  (s.fault pgFcs 19 0x0612 [2, s.ctl.MU_ACTIVE, 950]).fcsSettle

/-- The scoring of one rail of a matured evaluation (R275). [DEDUCED, log entry 63] -/
def State.scoreRail (s : State) (ev : FcsEval) (l1 l4 : FcsLabel) (r : Nat) : State :=
  let e := fcsOf s r
  if !(ctlOf s r).CFG_FCS_EN || decide (e.RAIL_ERR_LIM = 0) || l1.skip.testBit r || l4.skip.testBit r then s
  else
    let e1 := (ev.y1.getD r 0 - l1.x0.getD r 0).natAbs
    let e4 := (ev.y4.getD r 0 - l4.x0.getD r 0).natAbs
    if e.RAIL_ERR_LIM < e1 ∨ e.RAIL_ERR_LIM < e4 then
      let s := s.fcsMod r fun e => { e with DRIFT_RUN := satAdd 8 e.DRIFT_RUN 1 }
      if 64 ≤ (fcsOf s r).DRIFT_RUN ∧ e.RAIL_DRIFT = false then
        let s := s.fcsMod r fun e =>
          { e with RAIL_DRIFT := true, DRIFT_DRIFT_CNT := satAdd 16 e.DRIFT_DRIFT_CNT 1, driftNow := true,
                   DRIFT_EPOCHS := if e.driftNow then e.DRIFT_EPOCHS else min 3 (e.DRIFT_EPOCHS + 1) }
        let s := s.fault pgFcs 20 0x0615 [r, sat 16 (if e.RAIL_ERR_LIM < e1 then e1 else e4)]
        if 3 ≤ (fcsOf s r).DRIFT_EPOCHS ∧ e.RAIL_LOCKED = false then
          (s.fcsMod r fun e => { e with RAIL_LOCKED := true }).eventUnless pgFcs 20 0x0616 [r]
        else s
      else s
    else s.fcsMod r fun e => { e with DRIFT_RUN := 0 }

/-- The evaluation whose labels end now and 3 µs ago is scored (R275). [DEDUCED, log entry 63] -/
def State.scoreNow (s : State) : State :=
  match s.fcs.evals.find? (fun e => e.at_ + 20 = s.now), s.fcs.labels.find? (fun l => l.at_ + 12 = s.now),
    s.fcs.labels.find? (fun l => l.at_ = s.now) with
  | some ev, some l1, some l4 => (List.range 16).foldl (fun s r => s.scoreRail ev l1 l4 r) s
  | _, _, _ => s

/-- A weight word fails its second read (R273): the evaluation is abandoned, and the word awaits its restore; one that fails
on its first use after a restore moves its row to a spare row (R482). -/
def State.weightFault (s : State) (off : Nat) (again : Bool) : State :=
  let w := off / 4 * 4
  let again := again || decide (s.fcs.restoredAt = some w)
  let s := { s with fcs.MISS_CNT_WFAULT := satAdd 16 s.fcs.MISS_CNT_WFAULT 1, fcs.badAt := some w, fcs.restoredAt := none }.evalAbandon
  let s := { s with fcs.WLOAD_RESTORE := s.stg.holds, fcs.wStuck := s.fcs.wStuck || !s.stg.holds }.wordRetired 2 (sat 16 (w / 4))
  (if again then s.spareRow 1 (w / 64) else s).fcsSettle

/-- An evaluation tick: the frame closes, is labelled and quantised, and the layers run (R261, R262, R264). -/
def State.evalStart (s : State) (bad : Option Nat) : State :=
  let n := s.now - s.fcs.lastAt
  let x := (List.range 16).map fun r => railFeatures s r n
  let q := x.flatMap fun l => (l.zipIdx).map fun p => quantise p.1 (featShift s p.2)
  let x0 := x.map fun l => l.headD 0
  let flags := 2 * b2n (decide (n < 4)) + 4 * b2n s.fcs.drainF + 8 * b2n (decide (s.now = s.tly.bndAt))
  let lab : FcsLabel := { at_ := s.now, x0 := x0, skip := labelSkip s }
  let f : FcsFrame := { at_ := s.now, q := q, x0 := x0, out := [], flags := flags, held := s.fcs.heldF, str := s.fcs.strF,
                        epoch := s.tly.EPOCH_NUM, age := sat 16 (s.usSince s.tly.bndAt) }
  let s : State := { s with fcs.labels := lab :: s.fcs.labels.filter fun (l : FcsLabel) => decide (s.now ≤ l.at_ + 20) }
  let s := (s.scoreNow.frameClear).winBegin
  match bad with
  | some off => { s with fcs.frame := some f }.weightFault off false
  | none =>
    let y := s.runLayers q
    { y.2 with fcs.frame := some { f with out := y.1 }, fcs.restoredAt := none }.fcsSettle

/-- FORECASTER_EVALUATION (R262): on every fourth tick from the boundary instant. -/
def execForecasterEvaluation (obs : EvalObs) (s : State) : Host.Outcome State Fault Refusal :=
  .next (
    if fcsRuns s && decide ((s.now - s.tly.bndAt) % 4 = 0) && decide (s.fcs.lastAt < s.now) then
      (if s.fcs.frame.isSome then s.evalMiss else s).evalStart obs.weightBad
    else s)

/-- FORECASTER_OUTPUT_LATCH (R266, R267): step 4, within 950 ns of the tick. -/
def execForecasterOutputLatch (ns : Nat) (s : State) : Host.Outcome State Fault Refusal :=
  .next (
    match s.fcs.frame with
    | none => s
    | some f =>
      if 950 < ns then s
      else
        let o := fun r j => f.out.getD (4 * r + j) 0
        let y := fun j => (List.range 16).map fun r => o r j * 2 ^ (fcsOf s r).RAIL_OSH
        let g := (List.range 16).map fun r => (o r 3).toNat
        let s := { s with fcs.frame := none, fcs.EVAL_CNT := satAdd 32 s.fcs.EVAL_CNT 1, fcs.TIME_LAST := sat 10 ns,
                          fcs.TIME_MAX := max s.fcs.TIME_MAX (sat 10 ns), fcs.STAT_WARM_LEFT := s.fcs.STAT_WARM_LEFT - 1,
                          fcs.missLeft := s.fcs.missLeft - 1, fcs.next := some (f.at_, y 0, g),
                          fcs.evals := { at_ := f.at_, y1 := y 0, y4 := y 1 } :: s.fcs.evals.filter fun e => decide (s.now ≤ e.at_ + 20),
                          fcs.rail := Vector.ofFn fun r : Fin 16 =>
                            { s.fcs.rail[r] with OUT_G := g.getD r.val 0, OUT_Y1 := (y 0).getD r.val 0, HZ_Y4 := (y 1).getD r.val 0,
                                                 HZ_Y16 := (y 2).getD r.val 0 } }
        (s.frameTrace f false).fcsSettle)

/-- DEADLINE_MISS (R268): the evaluation has not reached step 4 by 950 ns after its tick. -/
def execDeadlineMiss (s : State) : Host.Outcome State Fault Refusal :=
  .next (
    match s.fcs.frame with
    | some f => if s.after f.at_ 3 then s.evalMiss else s
    | none => s)

/-- The outputs that come into force 1 µs after their evaluation tick (R267). -/
def State.fcsPresent (s : State) : State :=
  match s.fcs.next with
  | some (t, y, g) =>
    if s.after t 4 then
      { s with fcs.next := none, fcs.rail := Vector.ofFn fun r : Fin 16 => { s.fcs.rail[r] with y1Now := y.getD r.val 0, gNow := g.getD r.val 0 } }
    else s
  | none => s

/-! ### Start, stop and the weight memory -/

/-- The histories are cleared. -/
def State.histClear (s : State) : State :=
  { s with fcs.hist := Vector.replicate 6 [], fcs.evals := [], fcs.labels := [], fcs.next := none }

/-- The bound of R268 for the present lanes: over 900 ns forces zero, with 0x0612 when it begins. -/
def State.fcsBound (s : State) : State :=
  let n := 75 * s.ctl.MU_ACTIVE
  let b := 2 * s.fcs.MACS + (70 + 20 * s.fcs.MODEL_LAYERS) * n
  let late := decide (s.fcs.MODEL_LAYERS ≠ 0) && decide (900 * n < b)
  let s' := { s with fcs.overBound := late }
  if late && !s.fcs.overBound then s'.fault pgFcs 19 0x0612 [1, s.ctl.MU_ACTIVE, if n = 0 then 65535 else sat 16 (cdiv b n)] else s'

/-- The forecaster's fields of an image (R279, R465). -/
def imgFcs (im : Image) (c : Fcs) : Fcs :=
  (im.regs.filter fun x => x.1 = 6).foldl (fun c x => imgSetFcs x.2.1 x.2.2 c) (imgColdFcsPage c)

/-- The copy of weights, biases and descriptors begins (R272). -/
def State.copyStart (s : State) : State :=
  let s := s.evalAbandon.histClear
  ({ s with fcs.WLOAD_COPY := true, fcs.WLOAD_RESTORE := false, fcs.badAt := none, fcs.restoredAt := none, fcs.wStuck := false }.warmup).frameClear

/-- The forecaster at the swap of an activation (R272, R275, R277). -/
def State.fcsSwap (s : State) : State :=
  let s := if s.fcs.winLeft = 0 then s else s.winEnd
  let s := { s with fcs := imgFcs (s.stg.act.getD {}) s.fcs }
  let s := { s with fcs.on := true, fcs.missLeft := 0, fcs.overBound := false,
                    fcs.rail := s.fcs.rail.map fun (e : FcsRail) =>
                      { e with RAIL_LOCKED := false, RAIL_DRIFT := false, driftNow := false, DRIFT_EPOCHS := 0, DRIFT_RUN := 0, y1Now := 0, gNow := 0 } }
  s.copyStart.fcsBound.fcsSettle

/-- The forecaster stops: evaluations end and the histories are cleared (R269). -/
def State.fcsStop (s : State) : State := ({ s with fcs.on := false, fcs.frame := none }.histClear).warmup

/-- The W bytes of the weight region (R272). -/
def weightImage (s : State) : List (Nat × Nat) :=
  s.stg.mem.filterMap fun (x : Nat × Byte) =>
    if weightBase ≤ x.1 ∧ x.1 < weightBase + s.fcs.MACS then some (x.1 - weightBase, x.2.toNat) else none

/-- A row of the weight or bias memory is lost, so cause WEIGHT stays (R483). -/
def weightRowLost (s : State) : Bool := !(vAt s.rel.mem 1 {}).lost.isEmpty || !(vAt s.rel.mem 4 {}).lost.isEmpty

/-- WEIGHT_COPY_COMPLETE (R272): the copied bytes are checked against the image's CRC. -/
def execWeightCopyComplete (s : State) : Host.Outcome State Fault Refusal :=
  .next (
    if s.fcs.WLOAD_COPY then
      let ok := decide (crc32 (stgBytes s.stg.mem weightBase s.fcs.MACS) = s.fcs.IMG_CRC)
      let s := { s with fcs.WLOAD_COPY := false, fcs.lrstCopy := false, fcs.WLOAD_CRC_FAIL := !ok, fcs.wStuck := !ok || weightRowLost s,
                        fcs.wmem := weightImage s, fcs.bias := (s.stg.act.getD {}).bias }
      let s := if ok then (s.histClear.warmup).event 0x0614 [1] else s.fault pgFcs 18 0x0614 [0]
      s.frameClear.fcsSettle
    else s)

/-- WEIGHT_RESTORE_COMPLETE (R273): the word comes from the weight region, while staging holds it. -/
def execWeightRestoreComplete (s : State) : Host.Outcome State Fault Refusal :=
  .next (
    match s.fcs.badAt with
    | some off =>
      if s.fcs.WLOAD_RESTORE && s.stg.holds && !rowLost s 1 (off / 64) then
        let bs := stgBytes s.stg.mem (weightBase + off) 4
        let s := { s with fcs.WLOAD_RESTORE := false, fcs.badAt := none, fcs.restoredAt := some off,
                          fcs.wmem := memWriteRun 0 s.fcs.wmem off bs }
        (((s.fault pgFcs 17 0x0613 (dat2 off)).warmup).frameClear).fcsSettle
      else if s.fcs.WLOAD_RESTORE then { s with fcs.WLOAD_RESTORE := false, fcs.wStuck := true }.fcsSettle
      else s
    | none => s)

/-! ### Boundaries -/

/-- A boundary instant: an evaluation begun on an earlier tick is abandoned (R262), and the epochs of drift close (R275). -/
def State.fcsBoundary (s : State) : State :=
  let s := match s.fcs.frame with | some f => if f.at_ < s.now then s.evalAbandon else s | none => s
  { s with fcs.rail := s.fcs.rail.map fun (e : FcsRail) => { e with DRIFT_EPOCHS := if e.driftNow then e.DRIFT_EPOCHS else 0, driftNow := false } }

/-- The end of a drain window releases the rails that drift had forced to zero, but for locked ones (R275). -/
def State.fcsDrain (s : State) : State :=
  { s with fcs.rail := s.fcs.rail.map fun (e : FcsRail) => { e with RAIL_DRIFT := e.RAIL_LOCKED } }

/-- LANE_RETIRE (R246): the lane is retired at the next tick. -/
def execLaneRetire (lane : Fin 18) (s : State) : Host.Outcome State Fault Refusal :=
  .next (
    if s.ctl.MU_LANES.testBit lane.val || s.ctl.retireDue.contains lane.val then s
    else { s with ctl.retireDue := s.ctl.retireDue ++ [lane.val] })

/-- The lanes that retire at this tick, with the bound of R268 for what is left. -/
def State.retireDueLanes (s : State) : State :=
  let l := s.ctl.retireDue
  if l = [] then s else ((l.foldl State.retireLane { s with ctl.retireDue := [] }).fcsBound).fcsSettle

end Sys2Proof.Machine
end

