-- ==== Sys2Proof/Machine/Telemetry.lean ====
section
/-! DEFINITION. The trace points of the telemetry stream that summarise the rails and the thermal layer (R524). -/

namespace Sys2Proof.Machine

open Sys2Proof

/-- One body of a rail summary, 8 bytes for a rail (R524). -/
def railBody (m : TrcSum) (g rc : Nat) (held harv unann neut : Bool) (booked : Nat) : List Nat :=
  let mi := if m.n = 0 then 0xFFFF else sat 16 (m.i / (10 * m.n))
  let mv := if m.n = 0 then 0xFFFF else sat 16 (m.v / (100 * m.n))
  bytesLE 2 mi ++ bytesLE 2 mv ++ [sat 8 g, rc % 16 + 16 * b2n held + 32 * b2n harv + 64 * b2n unann + 128 * b2n neut] ++
  bytesLE 2 booked

/-- Trace point 0xE1: the rail summary of the period that ends now (R524). -/
def State.trcRails (s : State) : State :=
  let body := (List.range 16).flatMap fun r =>
    let t := vAt s.tly.rail r {}
    railBody (vAt s.trc.sums r {}) (guardBand s r) (railRc s r) (railHeld s r) t.HARV_HARV t.HARV_UNANN
      (vAt s.ctl.rail r {}).OUT_NEUTRAL t.BOOK_BOOKED
  let bs := trcRecord 160 (trcHeader s 0xE1 s.trc.seqE1 s.trc.lostE1 (s.trc.drained || s.tly.EPOCH_DRAIN)) body
  let r := s.trcPush 0xE1 bs
  let s := if r.1 then { r.2 with trc.seqE1 := (s.trc.seqE1 + 1) % 65536, trc.lostE1 := false } else r.2.trcDropped 0 0xE1
  { s with trc.railAt := s.now, trc.drained := false, trc.sums := Vector.replicate 16 {} }

/-- RAIL_SUMMARY (R524): due every RAIL_PER µs from the boundary instant, while RAIL_EN is 1. -/
def execRailSummary (s : State) : Host.Outcome State Fault Refusal :=
  .next (if s.trc.CFG_RAIL_EN && s.after s.trc.railAt (max 16 s.trc.CFG_RAIL_PER * ticksPerUs) then s.trcRails else s)

/-- Trace point 0xE2: after each sweep's calibration (R524). -/
def State.trcThermal (s : State) : State :=
  if s.trc.CFG_THM_EN then
    let mg := (List.range 6).flatMap fun g => bytesLE 2 (twos (vAt s.thm.grp g {}).GRP_MAX 16)
    let lv := fun c => (vAt s.thm.dom c {}).DOM_LEVEL
    let lc := (List.range 13).map fun i => lv (2 * i) % 16 + 16 * (if 2 * i + 1 < 25 then lv (2 * i + 1) % 16 else 0)
    let st := fun k => (vAt s.thm.stk k {}).STK_RFB % 4 + 4 * ((vAt s.thm.stk k {}).STK_TGB % 4)
    let sk := (List.range 6).map fun i => st (2 * i) + 16 * st (2 * i + 1)
    let bs := trcRecord 64 (trcHeader s 0xE2 s.trc.seqE2 s.trc.lostE2 s.tly.EPOCH_DRAIN) (mg ++ lc ++ sk)
    let r := s.trcPush 0xE2 bs
    if r.1 then { r.2 with trc.seqE2 := (s.trc.seqE2 + 1) % 65536, trc.lostE2 := false } else r.2.trcDropped 1 0xE2
  else s

end Sys2Proof.Machine
end

