-- ==== Sys2Proof/Machine/Thermal.lean ====
section
/-! DEFINITION. The thermal layer (09_thermal.md): its figures (R286, R309, R310), domain temperatures and the ladder (R290,
R297 to R299), the hot band (R300), orderly shutdown, cooling and restart (R301 to R305), the stack bands (R306 to R308)
and the observer (R291 to R296). Temperatures are in 1/64 °C. -/

namespace Sys2Proof.Machine

open Sys2Proof

/-! ### Elements -/

/-- A sensor group. -/
def grpOf (s : State) (g : Nat) : ThmGrp := vAt s.thm.grp g {}

/-- A sensor group changed by `f`. -/
def State.grpMod (s : State) (g : Nat) (f : ThmGrp → ThmGrp) : State := { s with thm.grp := vMod s.thm.grp g f }

/-- A stack of the base die. -/
def stkOf (s : State) (k : Nat) : ThmStk := vAt s.thm.stk k {}

/-- A stack changed by `f`. -/
def State.stkMod (s : State) (k : Nat) (f : ThmStk → ThmStk) : State := { s with thm.stk := vMod s.thm.stk k f }

/-- A clock domain on the THM page. -/
def tdOf (s : State) (c : Nat) : ThmDom := vAt s.thm.dom c {}

/-- A virtual sensor. -/
def vsOf (s : State) (v : Nat) : ThmVs := vAt s.thm.vs v {}

/-- The thermal page changed by `f`. -/
def State.onThm (s : State) (f : Thm → Thm) : State := { s with thm := f s.thm }

/-- A stack that this instance supervises: a base die, and its bit of STRAP_STACKS (R306). -/
def supervised (s : State) (k : Nat) : Bool := s.cmn.straps.dieKind && s.cmn.straps.stackMask.toNat.testBit k

/-- A stacked die: STRAP_BELOW is not 31 (R290). -/
def stacked (s : State) : Bool := decide (s.cmn.straps.below.toNat ≠ 31)

/-! ### Figures -/

/-- The observer is usable (R290): it runs, its warm-up is complete, and it is not disabled. -/
def obsUsable (s : State) : Bool :=
  lawsRun s && s.thm.obsOn && !s.thm.obsCopy && !s.thm.OBS_OFF && decide (s.thm.warmLeft = 0) && decide (s.thm.OBS_NNODE ≠ 0)

/-- THM_OBS.WARM. -/
def obsWarm (s : State) : Bool := lawsRun s && s.thm.obsOn && !s.thm.OBS_OFF && decide (s.thm.warmLeft ≠ 0)

/-- What untrimmed sensors take off each figure: 5 °C (R286). -/
def trimCut (s : State) : Int := if s.cmn.fuses.trimCrc then 0 else 320

/-- An image figure in units of `u` 64ths, or the built-in one (R310). -/
def thmFig (s : State) (img : Nat) (u builtin : Int) : Int := if s.thm.imgOn then (img : Int) * u else builtin

/-- OBS_MARGIN, while the observer is disabled (R296). -/
def obsCut (s : State) : Int := if s.thm.OBS_OFF then thmFig s s.thm.TIMES_OBS_MARGIN 16 192 else 0

/-- T_TRIP_eff. -/
def tripEff (s : State) : Int := (s.beam.DIE_EFF_TRIP_EFF : Int) * 64

/-- T_L as the ladder uses it. -/
def thmL (s : State) : Int := thmFig s s.thm.LVL0_T_L 16 (tripEff s - 1280) - trimCut s - obsCut s

/-- T_HOT as the hot band uses it; none where there is no band. -/
def thmHot (s : State) : Option Int :=
  if s.thm.imgOn && decide (s.thm.LVL0_T_HOT ≠ 0) then some ((s.thm.LVL0_T_HOT : Int) * 16 - trimCut s - obsCut s) else none

/-- T_SHUT. -/
def thmShut (s : State) : Int := thmFig s s.thm.LVL0_T_SHUT 16 (tripEff s - 320) - trimCut s

/-- T_RESTART. -/
def thmRestart (s : State) : Int := thmFig s s.thm.LVL1_T_RESTART 16 (tripEff s - 1280) - trimCut s

/-- S_SHUT. -/
def stkShut (s : State) : Int := thmFig s s.thm.LVL1_S_SHUT 16 ((s.beam.stackEff : Int) * 64 - 320) - trimCut s

/-- LOSS_OFS. -/
def lossOfs (s : State) : Int := thmFig s s.thm.TIMES_LOSS_OFS 16 320

/-- STEP of the ladder. -/
def ladderStep (s : State) : Int := thmFig s s.thm.LADDER_STEP 4 128

/-- HYST of the ladder. -/
def ladderHyst (s : State) : Int := thmFig s s.thm.LADDER_HYST 4 32

/-- RATE_STEP, 0.1 °C/ms. -/
def rateStep (s : State) : Int := thmFig s s.thm.LADDER_RATE_STEP 1 10

/-- RATE_EXTRA, levels. -/
def rateExtra (s : State) : Nat := if s.thm.imgOn then s.thm.LADDER_RATE_EXTRA else 2

/-- UP_HOLD, ticks. -/
def upHold (s : State) : Nat := if s.thm.imgOn then 400 * s.thm.TIMES_UP_HOLD else 4000

/-- SHUT_DWELL, ticks; 0 = off. -/
def shutDwell (s : State) : Nat := if s.thm.imgOn then 40000 * s.thm.TIMES_SHUT_DWELL else 0

/-- GMAP_g: the domains of a group. -/
def gmap (s : State) (g : Nat) : Nat := if s.thm.imgOn then (grpOf s g).GMAP_DOMS else 2 ^ 25 - 1

/-- BELOW_MASK. -/
def belowMask (s : State) : Nat := if s.thm.imgOn then s.thm.BELOW_MASK else 2 ^ 25 - 1

/-- BL_LEVEL. -/
def blLevel (s : State) : Nat := if s.thm.imgOn then s.thm.BELOW_BL_LEVEL else 0

/-- A stack band threshold in °C (R286). -/
def bandAt (s : State) (v : Int) : Int := v * 64 - trimCut s

/-- The group's ladder temperature: M_g, or M_g + LOSS_OFS where it is short (R285); none for a lost group, or before its
first sweep. -/
def grpTemp (s : State) (g : Nat) : Option Int :=
  let e := grpOf s g
  if e.valid && !e.GRP_LOST then some (if e.GRP_SHORT then e.GRP_MAX + lossOfs s else e.GRP_MAX) else none

/-- V_v of a used virtual sensor, while the observer is usable. -/
def vsTemp (s : State) (v : Nat) : Option Int :=
  if obsUsable s && decide ((vsOf s v).VS_NODE ≠ 127) then some (vsOf s v).VS_VALUE else none

/-! ### The ladder -/

/-- The larger of two temperatures with their sources, the first where equal. -/
def hotter (a : Option (Int × Nat)) (b : Option (Int × Nat)) : Option (Int × Nat) :=
  match a, b with
  | none, b => b
  | a, none => a
  | some x, some y => if x.1 < y.1 then some y else some x

/-- T_c and its source: 1 a group, 2 a virtual sensor, 3 the die below (R290, THM_DOMc). -/
def domTemp (s : State) (c : Nat) : Option (Int × Nat) :=
  let g := (List.range 6).foldl (fun a g => if (gmap s g).testBit c then hotter a ((grpTemp s g).map fun t => (t, 1)) else a) none
  let v := (List.range 32).foldl (fun a v => if (vsOf s v).VDOM.testBit c then hotter a ((vsTemp s v).map fun t => (t, 2)) else a) none
  let b := if stacked s && (belowMask s).testBit c && !s.thm.STATE_BELOW_LOST && decide (s.thm.BELOW_AGE < 15) then
      some (s.thm.BELOW_T_BELOW - thmFig s s.thm.BELOW_BELOW_OFS 16 0, 3) else none
  hotter (hotter g v) b

/-- A lost group names the domain (R285). -/
def lostHolds (s : State) (c : Nat) : Bool := (List.range 6).any fun g => (grpOf s g).GRP_LOST && (gmap s g).testBit c

/-- BELOW_LOST caps the domain (R289). -/
def belowCaps (s : State) (c : Nat) : Bool := s.thm.STATE_BELOW_LOST && (belowMask s).testBit c

/-- The cap of R285 and R289 on a ladder level. -/
def ladderCap (s : State) (c : Nat) : Nat := if lostHolds s c then 0 else if belowCaps s c then blLevel s else 15

/-- L_T (R297). -/
def ladderLt (s : State) (t : Int) : Nat :=
  15 - ((List.range 15).filter fun n => thmL s + (n : Int) * ladderStep s ≤ t).length

/-- The first group whose rate reaches RATE_STEP and whose GMAP holds the domain (R298). -/
def rateGroup (s : State) (c : Nat) : Option Nat :=
  firstBelow 6 fun g => (gmap s g).testBit c && (match (grpOf s g).diff with
    | some d => decide (64 * rateStep s ≤ 40 * d)
    | none => false)

/-- Rate applies to the domain at this sweep, by which group (R298). -/
def rateApplies (s : State) (c : Nat) : Option Nat :=
  match domTemp s c with
  | some t => if thmL s - (rateExtra s : Int) * ladderStep s ≤ t.1 then rateGroup s c else none
  | none => none

/-- The ladder decision for one domain (R297 to R299); `sweep` says that a sweep brought it. -/
def State.ladderDom (s : State) (sweep : Bool) (c : Nat) : State :=
  let t := domTemp s c
  let cap := ladderCap s c
  let src := if lostHolds s c then 4 else if belowCaps s c then 5 else (t.map (·.2)).getD 0
  let rate := if sweep then rateApplies s c else none
  let e := tdOf s c
  let s := match rate with
    | some g => if s.now < e.frzTo then s else s.event 0x0715 [c, g, sdat ((grpOf s g).diff.getD 0 * 5 / 8)]
    | none => s
  let frz := if rate.isSome then (s.sns.sweepAt.getD s.now) + 40000 else e.frzTo
  let lt := match t with | some x => ladderLt s x.1 - (if rate.isSome then rateExtra s else 0) | none => 15
  let l := min (min e.DOM_LEVEL lt) cap
  let rise := match t with
    | some x => decide (l = e.DOM_LEVEL) && decide (l + 1 ≤ cap) && decide (frz ≤ s.now) && decide (e.lvlAt + upHold s ≤ s.now) &&
        decide (x.1 < thmL s + ((14 : Int) - l) * ladderStep s - ladderHyst s)
    | none => false
  let l := match t with | some _ => if rise then l + 1 else l | none => cap
  { s with thm.dom := vMod s.thm.dom c fun e =>
      { e with DOM_TDOM := (t.map (·.1)).getD 0, DOM_SRC := src, frzTo := frz, DOM_LEVEL := l,
               lvlAt := if l = e.DOM_LEVEL then e.lvlAt else s.now } }

/-- A ladder decision for every domain (R297). -/
def State.ladder (s : State) (sweep : Bool) : State := (List.range 25).foldl (fun s c => s.ladderDom sweep c) s

/-! ### The hot band -/

/-- The temperatures that R300 compares, with their sources: group g as g, virtual sensor v as 0x10 + v (R532). -/
def hotTemps (s : State) : List (Nat × Int) :=
  ((List.range 6).filterMap fun g => (grpTemp s g).map fun t => (g, t)) ++
  ((List.range 32).filterMap fun v => (vsTemp s v).map fun t => (0x10 + v, t))

/-- The hot band on new temperatures (R300): the caps reach the beam at once. -/
def State.hotCheck (s : State) : State :=
  let ts := hotTemps s
  match thmHot s with
  | none => if s.thm.STATE_HOT then { s with thm.hotGone := some (s.thm.hotGone.getD s.now) } else s
  | some h =>
    match ts.find? fun x => h ≤ x.2 with
    | some x =>
      if s.thm.STATE_HOT then { s with thm.hotGone := none }
      else ({ s with thm.STATE_HOT := true, thm.hotAt := s.now, thm.hotGone := none }.event 0x0713 [x.1, sdat x.2]).lowerLimits
    | none =>
      if s.thm.STATE_HOT then
        { s with thm.hotGone := if ts.all fun x => x.2 < h - 128 then some (s.thm.hotGone.getD s.now) else none }
      else s

/-- HOT_BAND_END (R300): every temperature has stayed 2 °C below T_HOT for 100 ms; the caps are withdrawn, and the higher
limits take effect at the next boundary. -/
def execHotBandEnd (s : State) : Host.Outcome State Fault Refusal :=
  .next (match s.thm.hotGone with
    | some t =>
      if s.thm.STATE_HOT && s.after t (100 * ticksPerMs) then
        { s with thm.STATE_HOT := false, thm.hotGone := none }.event 0x0714 [sat 16 (s.msSince s.thm.hotAt)]
      else s
    | none => s)

/-! ### Stack bands -/

/-- One move of a band code toward 0b11 (R82, R308). -/
def bandUp (c : Nat) : Nat := if c = 0 then 1 else 3

/-- One move of a band code away from 0b11. -/
def bandDown (c : Nat) : Nat := if c = 3 then 1 else 0

/-- mc_rfb moves to a higher band, one band a move, each recorded (R308). -/
def State.rfbUp (s : State) (k want : Nat) : Nat → State
  | 0 => s
  | f + 1 =>
    let e := stkOf s k
    if want ≤ e.STK_RFB then s
    else
      let s := s.stkMod k fun e => { e with STK_RFB := bandUp e.STK_RFB, relR := none }
      State.rfbUp (s.event 0x0718 [k, (stkOf s k).STK_RFB, (stkOf s k).STK_TGB]) k want f

/-- mc_tgb moves to a higher band, one band a move, each recorded (R308). -/
def State.tgbUp (s : State) (k want : Nat) : Nat → State
  | 0 => s
  | f + 1 =>
    let e := stkOf s k
    if want ≤ e.STK_TGB then s
    else
      let s := s.stkMod k fun e => { e with STK_TGB := bandUp e.STK_TGB, relT := none }
      State.tgbUp (s.event 0x0718 [k, (stkOf s k).STK_RFB, (stkOf s k).STK_TGB]) k want f

/-- Both codes of every supervised stack at 0b11 (R302 step 5). -/
def State.safeBands (s : State) : State :=
  (List.range 12).foldl (fun s k => if supervised s k then (s.rfbUp k 3 2).tgbUp k 3 2 else s) s

/-- The refresh band that a temperature calls for, with a margin of `m` on each threshold (R307). -/
def rfbFor (s : State) (t m : Int) : Nat :=
  if bandAt s s.thm.BANDS_B_REF4X - m ≤ t then 3 else if bandAt s s.thm.BANDS_B_REF2X - m ≤ t then 1 else 0

/-- The guard band that a temperature calls for, with a margin of `m` on each threshold (R307). -/
def tgbFor (s : State) (t m : Int) : Nat :=
  let cold := bandAt s s.thm.BANDS2
  if t < cold + m ∨ bandAt s s.thm.BANDS_B_G_HIGH - m ≤ t then 3
  else if t < cold + 640 + m ∨ bandAt s s.thm.BANDS_B_G_MID - m ≤ t then 1 else 0

/-- The bands of one stack after a sweep (R307, R308): up at once; the way down waits for STACK_BAND_RELAX, while the
lower band's condition holds with 2 °C of margin. [DEDUCED, log entry 64] -/
def State.stackBands (s : State) (k : Nat) : State :=
  if !supervised s k then s
  else
    let e := stkOf s k
    if !e.valid then (s.rfbUp k 3 2).tgbUp k 3 2
    else
      let s := (s.rfbUp k (rfbFor s e.STK_TS 0) 2).tgbUp k (tgbFor s e.STK_TS 0) 2
      s.stkMod k fun e =>
        { e with relR := if rfbFor s e.STK_TS 128 < e.STK_RFB then some (e.relR.getD s.now) else none,
                 relT := if tgbFor s e.STK_TS 128 < e.STK_TGB then some (e.relT.getD s.now) else none }

/-- STACK_BAND_RELAX (R308): the lower band has held for 10 ms without a break, and 10 ms have passed since the last such
move; each code moves one band. -/
def execStackBandRelax (k : Fin 12) (s : State) : Host.Outcome State Fault Refusal :=
  .next (
    let due := fun (t : Option Nat) (m : Nat) => match t with | some t => s.after t 40000 && s.after m 40000 | none => false
    let e := stkOf s k.val
    if supervised s k.val && s.thm.STATE_PHASE ≠ 1 then
      let s' := if due e.relR e.movR then s.stkMod k.val fun e => { e with STK_RFB := bandDown e.STK_RFB, movR := s.now } else s
      if due e.relT e.movT then s'.stkMod k.val fun e => { e with STK_TGB := bandDown e.STK_TGB, movT := s.now } else s'
    else s)

/-- T_s,k after a sweep (R306): the largest M_g + STK_OFS_k of the groups that name the stack and are not lost; before the
first activation, the largest M_g. -/
def stkTemp (s : State) (k : Nat) : Option Int :=
  (List.range 6).foldl (fun (a : Option Int) g =>
    let e := grpOf s g
    let names := if s.thm.imgOn then e.GMAP_STK_V && decide (e.GMAP_STK = k) else true
    let ofs : Int := if s.thm.imgOn then (stkOf s k).STK_STK_OFS * 16 else 0
    if names && e.valid && !e.GRP_LOST then (match a with | none => some (e.GRP_MAX + ofs) | some x => some (max x (e.GRP_MAX + ofs)))
    else a) none

/-- The temperature of one stack after a sweep: 0x0719 where it is lost (R306). -/
def State.stackTemp (s : State) (k : Nat) : State :=
  if !supervised s k then s
  else
    match stkTemp s k with
    | some t => s.stkMod k fun e => { e with STK_TS := max (-32768) (min 32767 t), valid := true, STK_LOST := false }
    | none =>
      if (stkOf s k).STK_LOST then s
      else (s.stkMod k fun e => { e with STK_LOST := true, valid := false }).fault pgThm 20 0x0719 [k]

/-! ### Orderly shutdown, cooling and restart -/

/-- A rail goes to its boot code once every domain outside STRAP_BOOT_DOM that names it is off (R302 step 8). -/
def State.shutRail (s : State) (r : Nat) : State :=
  let quiet := (List.range 50).all fun d => isBoot s d || decide ((domOf s d).CFG_RAIL ≠ r) || (let st := (domOf s d).ST_ST; st = 0 || st = 8)
  if railAbsent s r || s.thm.bootRails.testBit r || !quiet then s
  else { s with thm.bootRails := putBit s.thm.bootRails r true }.bootCode r

/-- The rails of the orderly window. -/
def State.shutRails (s : State) : State := if s.thm.STATE_PHASE = 1 then (List.range 16).foldl State.shutRail s else s

/-- Steps 2 to 6 of the orderly shutdown (R302). A cause that arises in TRIPPED, or while a latch is set, is only counted
(R303). -/
def State.shutdown (s : State) (cause src : Nat) (value : Int) : State :=
  if trippedCause s then { s with thm.CAUSE_LATE := satAdd 4 s.thm.CAUSE_LATE 1 }
  else
    let s := s.tripEntry
    let s := s.onThm fun t => { t with STATE_PHASE := 1, shutAt := s.now, phaseAt := s.now, CAUSE_CAUSE := cause, CAUSE_SRC := src,
                                       CAUSE_VALUE := sdat value, bootRails := 0, shutForced := 0,
                                       SHUT_CNT_ORDERLY := satAdd 16 t.SHUT_CNT_ORDERLY 1 }
    let s := (s.event 0x0710 [cause, src, sdat value]).settle 0x0710
    ((s.tripRows.safeBands).orderlyStart).shutRails.beamSettle

/-- The causes of R301 found on a sweep: group level, stack level and dwell. [DEDUCED, log entry 64] -/
def State.sweepCauses (s : State) : State :=
  let s := (List.range 6).foldl (fun s g =>
    match grpTemp s g with
    | some t =>
      if thmShut s ≤ t then
        let n := (grpOf s g).shutRun + 1
        let s := s.grpMod g fun e => { e with shutRun := n }
        if n = 2 then s.shutdown 1 g t else s
      else s.grpMod g fun e => { e with shutRun := 0 }
    | none => s.grpMod g fun e => { e with shutRun := 0 }) s
  (List.range 12).foldl (fun s k =>
    let e := stkOf s k
    if supervised s k && e.valid && decide (stkShut s ≤ e.STK_TS) then
      let s := s.stkMod k fun e => { e with shutRun := e.shutRun + 1 }
      if e.shutRun + 1 = 2 then s.shutdown 3 (0x20 + k) e.STK_TS else s
    else s.stkMod k fun e => { e with shutRun := 0 }) s

/-- The dwell cause of R301, after a ladder decision. -/
def State.dwellCause (s : State) : State :=
  (List.range 6).foldl (fun s g =>
    let floor := (List.range 25).all fun c => !(gmap s g).testBit c || decide ((tdOf s c).DOM_LEVEL = 0)
    match grpTemp s g, thmHot s with
    | some t, some h =>
      if decide (h ≤ t) && floor && decide (shutDwell s ≠ 0) then
        let t0 := (grpOf s g).dwellAt.getD s.now
        if s.after t0 (shutDwell s) then (s.grpMod g fun e => { e with dwellAt := none }).shutdown 4 g t
        else s.grpMod g fun e => { e with dwellAt := some t0 }
      else s.grpMod g fun e => { e with dwellAt := none }
    | _, _ => s.grpMod g fun e => { e with dwellAt := none }) s

/-- Domains that are neither off nor boot domains. -/
def stillOn (s : State) : Nat :=
  ((List.range 50).filter fun d => !isBoot s d && !(let st := (domOf s d).ST_ST; st = 0 || st = 1 || st = 8)).length

/-- ORDERLY_FORCE_OFF (R302 step 7): at 4.0 ms, what is not off yet is switched off without the handshake. -/
def execOrderlyForceOff (s : State) : Host.Outcome State Fault Refusal :=
  .next (
    if s.thm.STATE_PHASE = 1 ∧ s.after s.thm.shutAt 16000 then
      let n := stillOn s
      let s := s.forceOffAll
      { s with thm.shutForced := s.thm.shutForced + n, dom.orderly := none }.shutRails
    else s)

/-- RESTART_HOLD in ticks, 2 s at least (R305). -/
def baseHold (s : State) : Nat := if s.thm.imgOn then max 20 s.thm.LVL1_RESTART_HOLD * 400000 else 20 * 400000

/-- Every group that is not lost is below T_RESTART, and every supervised stack 10 °C below S_SHUT (R304). -/
def cooledNow (s : State) : Bool :=
  ((List.range 6).all fun g => let e := grpOf s g; e.GRP_LOST || (e.valid && decide (e.GRP_MAX < thmRestart s))) &&
  ((List.range 12).all fun k => let e := stkOf s k; !supervised s k || e.STK_LOST || (e.valid && decide (e.STK_TS < stkShut s - 640)))

/-- TRIPS_HR: the entries to TRIPPED of the last 3 600 000 ms (R305). -/
def tripsHr (s : State) : Nat := sat 8 (s.thm.tripTicks.filter fun t => s.now < t + 3600 * ticksPerS).length

/-- What remains of the hold, in 100 ms (THM_STATE.HOLD_LEFT). -/
def holdLeft (s : State) : Nat :=
  if s.thm.STATE_PHASE = 3 then sat 16 (cdiv (s.thm.phaseAt + s.thm.holdLen - s.now) 400000) else 0

/-- HOLD begins (R305): 60 s where TRIPS_HR reads 3 or more. -/
def State.holdBegin (s : State) : State :=
  let storm := decide (3 ≤ tripsHr s)
  let s := s.onThm fun t => { t with STATE_PHASE := 3, phaseAt := s.now, STATE_STORM := storm,
                                     holdLen := if storm then 60 * ticksPerS else baseHold s }
  if storm then s.fault pgThm 21 0x071A [tripsHr s] else s

/-- COOLING and HOLD follow the cooled condition (R304); while a group is lost, the rest of the condition must have held
for ten times the hold. -/
def State.phaseCheck (s : State) : State :=
  let now := cooledNow s
  let s := { s with thm.coolAt := if now then some (s.thm.coolAt.getD s.now) else none }
  let lost := (List.range 6).any fun g => (grpOf s g).GRP_LOST
  let held := match s.thm.coolAt with | some t => s.after t (10 * baseHold s) | none => false
  let cooled := now && (!lost || held)
  if s.thm.STATE_PHASE = 2 then (if cooled then s.holdBegin else s)
  else if s.thm.STATE_PHASE = 3 then
    (if cooled then s else s.onThm fun t => { t with STATE_PHASE := 2, phaseAt := s.now, STATE_STORM := false })
  else s

/-- SHUTDOWN_COMPLETE (R302 step 9): the domains are off and the rails commanded; the latch is set and the recorder
flushed. -/
def execShutdownComplete (s : State) : Host.Outcome State Fault Refusal :=
  .next (
    if s.thm.STATE_PHASE = 1 && allOff s && (List.range 16).all fun r => railAbsent s r || s.thm.bootRails.testBit r then
      let s := s.onThm fun t => { t with STATE_SHUT_LATCH := true, STATE_PHASE := 2, phaseAt := s.now }
      ((({ s with dom.orderly := none }).event 0x0711 [sat 16 s.thm.shutForced]).flush).phaseCheck
    else s)

/-- RESTART_HOLD_COMPLETE (R304, R305): both latches clear, and R44 acts at the next boundary. -/
def execRestartHoldComplete (s : State) : Host.Outcome State Fault Refusal :=
  .next (
    if s.thm.STATE_PHASE = 3 ∧ s.after s.thm.phaseAt s.thm.holdLen then
      let trip := s.beam.STATE_TRIP_LATCH
      let shut := s.thm.STATE_SHUT_LATCH
      let len := sat 16 (s.thm.holdLen / 400000)
      let cause := s.beam.CAUSE_TRIP_CAUSE
      let s := { s with beam.STATE_TRIP_LATCH := false, seq.react := s.seq.tripped,
                        seq.reactBy := if trip then 0x041B else 0x0712 }.onThm fun t =>
        { t with STATE_SHUT_LATCH := false, STATE_PHASE := 0, STATE_STORM := false, phaseAt := s.now,
                 SHUT_CNT_RESTARTS := satAdd 16 t.SHUT_CNT_RESTARTS 1 }
      let s := if trip then s.event 0x041B [cause] else s
      if shut then s.event 0x0712 [len] else s
    else s)

/-! ### The observer -/

/-- The observer node of a primary (R291). -/
def snode (s : State) (p : Nat) : Nat := bitsOf (vAt s.thm.snode (p / 4) {}).SNODE (8 * (p % 4)) 7

/-- A node's temperature, Q10.22. -/
def nodeT (s : State) (n : Nat) : Int := vAt s.thm.nodes n 0

/-- The largest node among the live members of a group; a spare stands at the node of the primary it serves (R284,
R292). -/
def grpNode (s : State) (g : Nat) : Option Int :=
  (List.range 5).foldl (fun (a : Option Int) i =>
    if (grpOf s g).members.testBit i then
      let p := if i < 4 then 4 * g + i else (vAt s.sns.ts (24 + g) {}).TS_SERVES
      let t := nodeT s (snode s p)
      match a with | none => some t | some x => some (max x t)
    else a) none

/-- e_g in Q10.22, on the first step after a new sweep; 0 otherwise, and for a lost group (R292). -/
def innovation (s : State) (g : Nat) : Int :=
  let e := grpOf s g
  if s.thm.newSweep && e.valid && !e.GRP_LOST then
    match grpNode s g with | some n => e.GRP_MAX * 2 ^ 16 - n | none => 0
  else 0

/-- The channel that feeds input u24 + i (R292). -/
def hkInput (s : State) (i : Nat) : Int :=
  let ch := bitsOf (if i < 4 then s.thm.HK_SEL0 else s.thm.HK_SEL1) (8 * (i % 4)) 8
  (vAt s.sns.hk ch {}).val

/-- The 32 inputs frozen at the observer tick, Q10.22 (R292). -/
def obsInputs (s : State) : List Int :=
  ((List.range 16).map fun r => (satQ (roundDiv (((vAt s.thm.rail r {}).pMean : Int) * 2 ^ 22) 2000000000)).1) ++
  ((List.range 6).map fun g => (satQ (innovation s g)).1) ++
  [if stacked s && !s.thm.STATE_BELOW_LOST then s.thm.BELOW_T_BELOW * 2 ^ 16 else 0, sextOf s.thm.AMB 16 * 2 ^ 16] ++
  ((List.range 8).map fun i => (satQ (hkInput s i * 2 ^ 22)).1)

/-- Every node is set to the largest M_g over the live groups, and the warm-up begins (R295). -/
def State.obsInit (s : State) : State :=
  let m := (List.range 6).foldl (fun (a : Option Int) g =>
    let e := grpOf s g
    if e.valid && !e.GRP_LOST then (match a with | none => some e.GRP_MAX | some x => some (max x e.GRP_MAX)) else a) none
  s.onThm fun t => { t with nodes := Vector.replicate 96 (m.getD 0 * 2 ^ 16), warmLeft := t.OBS_VS_WARM, obsIn := none, discRun := 0,
                            obsOn := true, newSweep := false, stepAt := some s.now }

/-- The observer is disabled (R296): cause 1 innovation, 2 discards, 3 saturation, 4 coefficient (R532); locked at the
third time within 60 s. -/
def State.obsDisable (s : State) (cause group : Nat) : State :=
  if s.thm.OBS_OFF then s
  else
    let l := s.now :: s.thm.offTicks.filter fun t => s.now < t + 60 * ticksPerS
    let s := s.onThm fun t => { t with OBS_OFF := true, obsOffAt := s.now, offTicks := l, obsIn := none, discRun := 0,
                                       OBS_LOCKED := t.OBS_LOCKED || decide (3 ≤ l.length), OBS_CNT_DISABLES := satAdd 16 t.OBS_CNT_DISABLES 1 }
    s.fault pgThm 18 0x0717 [cause, group]

/-- The innovation limit on a new sweep (R296): 8 consecutive sweeps of one group with unchanged membership. -/
def State.innovCheck (s : State) : State :=
  if !s.thm.newSweep || decide (s.thm.OBS_INNOV_LIM = 0) then s
  else
    (List.range 6).foldl (fun s g =>
      let e := grpOf s g
      if e.diff.isSome && decide (((s.thm.OBS_INNOV_LIM : Int) * 2 ^ 20) < ((innovation s g).natAbs : Int)) then
        let s := s.grpMod g fun e => { e with innovRun := e.innovRun + 1 }
        if e.innovRun + 1 = 8 then (s.grpMod g fun e => { e with innovRun := 0 }).obsDisable 1 g else s
      else s.grpMod g fun e => { e with innovRun := 0 }) s

/-- A step that is not complete at the next observer tick is discarded (R294, R296). [DEDUCED, log entry 64] -/
def State.obsDiscard (s : State) : State :=
  if s.thm.obsIn.isNone then s
  else
    let s := s.onThm fun t => { t with obsIn := none, discRun := t.discRun + 1, OBS_CNT_OVERRUNS := satAdd 16 t.OBS_CNT_OVERRUNS 1 }
    let s := s.fault pgThm 19 0x071B [65535]
    if 4 ≤ s.thm.discRun then s.obsDisable 2 0xFF else s

/-- The observer steps on this tick (R291, R311). -/
def obsRuns (s : State) : Bool :=
  lawsRun s && s.thm.obsOn && !s.thm.obsCopy && !s.thm.OBS_OFF && decide (s.thm.OBS_NNODE ≠ 0)

/-- A coefficient word fails parity and its replay (R296); one that fails on its first use after a restore moves its row to
a spare row (R479). -/
def State.obsCoefFault (s : State) (i : Nat) : State :=
  let again := decide (s.thm.obsRestored = some i)
  let s := (s.onThm fun t => { t with obsBad := some i, obsRestored := none }).obsDisable 4 0xFF
  if again then s.spareRow 3 (i / 16) else s

/-- OBSERVER_STEP (R291, R292): on every 400th tick, the inputs are frozen. -/
def execObserverStep (coefBad : Option (BitVec 14)) (s : State) : Host.Outcome State Fault Refusal :=
  .next (
    if obsRuns s && decide (s.now % 400 = 0) && decide (s.thm.stepAt ≠ some s.now) then
      let s := s.obsDiscard
      let s := if s.thm.OBS_OFF then s else s.innovCheck
      if s.thm.OBS_OFF then s.onThm fun t => { t with stepAt := some s.now, newSweep := false }
      else
        match coefBad with
        | some i => (s.onThm fun t => { t with stepAt := some s.now }).obsCoefFault i.toNat
        | none =>
          s.onThm fun t => { t with stepAt := some s.now, obsIn := some (obsInputs s), newSweep := false, obsRestored := none }
    else s)

/-- A coefficient of the observer, Q2.22 (R293). -/
def obsCoef (s : State) (i : Nat) : Int := sextOf (memRead 0 s.thm.ocoef i) 24

/-- The next temperature of a node, and whether its row sum saturated (R230, R291). -/
def nodeNext (s : State) (u : List Int) (i : Nat) : Int × Bool :=
  rowQ (dot ((List.range 128).map fun j => obsCoef s (128 * i + j)) (s.thm.nodes.toList ++ u))

/-- V_v after a step (R291), 1/64 °C. -/
def State.vsForm (s : State) : State :=
  { s with thm.vs := s.thm.vs.map fun (e : ThmVs) =>
      if e.VS_NODE = 127 then e
      else { e with VS_VALUE := max (-32768) (min 32767 (nodeT s e.VS_NODE / 2 ^ 16 + 16 * e.VS_VOFS)) } }

/-- The virtual level cause of R301: 4 consecutive observer steps. -/
def State.stepCauses (s : State) : State :=
  (List.range 32).foldl (fun s v =>
    match vsTemp s v with
    | some t =>
      if thmShut s ≤ t then
        let n := (vsOf s v).shutRun + 1
        let s := { s with thm.vs := vMod s.thm.vs v fun e => { e with shutRun := n } }
        if n = 4 then s.shutdown 2 (0x10 + v) t else s
      else { s with thm.vs := vMod s.thm.vs v fun e => { e with shutRun := 0 } }
    | none => { s with thm.vs := vMod s.thm.vs v fun e => { e with shutRun := 0 } }) s

/-- OBSERVER_STEP_COMPLETE (R294): the node rows complete, the virtual sensors form, and the ladder, the hot band and the
orderly causes act on them. -/
def execObserverStepComplete (ns : Nat) (s : State) : Host.Outcome State Fault Refusal :=
  .next (match s.thm.obsIn with
    | none => s
    | some u =>
      let rows := (List.range 96).map (nodeNext s u)
      let s := s.onThm fun t => { t with nodes := Vector.ofFn fun i : Fin 96 => (rows.getD i.val (0, false)).1, obsIn := none, discRun := 0,
                                         warmLeft := t.warmLeft - 1, OBS_TIME_LAST := sat 16 ns, OBS_TIME_MAX := max t.OBS_TIME_MAX (sat 16 ns) }
      let s := s.vsForm
      let s := if rows.any (·.2) then s.obsDisable 3 0xFF else s
      (((s.ladder false).hotCheck).stepCauses).dwellCause)

/-- The row of the coefficient that awaits its restore is lost (R483). -/
def obsRowLost (s : State) : Bool := !(vAt s.rel.mem 3 {}).lost.isEmpty

/-- OBSERVER_REENABLE (R296): at once after a coefficient is restored from staging that holds the active image, after 1 s
otherwise; never while locked. -/
def execObserverReenable (s : State) : Host.Outcome State Fault Refusal :=
  .next (
    if s.thm.OBS_OFF && !s.thm.OBS_LOCKED && lawsRun s && s.thm.obsOn && !s.thm.obsCopy && !obsRowLost s then
      match s.thm.obsBad with
      | some i =>
        if s.stg.holds then
          ((s.onThm fun t => { t with OBS_OFF := false, obsBad := none, obsRestored := some i }).setErr pgThm 16).obsInit
        else s
      | none => if s.after s.thm.obsOffAt ticksPerS then (s.onThm fun t => { t with OBS_OFF := false }).obsInit else s
    else s)

/-- The swap of an activation begins the copy of the observer's data (R293); the disable and its lock end (R296). -/
def State.obsSwap (s : State) : State :=
  s.onThm fun t => { t with obsCopy := true, obsIn := none, OBS_OFF := !(vAt s.rel.mem 3 {}).lost.isEmpty,
                            OBS_LOCKED := !(vAt s.rel.mem 3 {}).lost.isEmpty, offTicks := [], obsBad := none, obsRestored := none,
                            discRun := 0, obsOn := false }

/-- OBSERVER_COPY_COMPLETE (R293, R295): the coefficients of the active image are in place, and the nodes are initialised. -/
def execObserverCopyComplete (s : State) : Host.Outcome State Fault Refusal :=
  .next (
    if s.thm.obsCopy then
      let c := match s.stg.act with | some im => im.obs | none => []
      (s.onThm fun t => { t with obsCopy := false, ocoef := c }).obsInit
    else s)

/-- A control sample adds to the mean power of each rail; the means close on the observer tick (R292). -/
def State.obsPower (s : State) : State :=
  { s with thm.rail := Vector.ofFn fun r : Fin 16 =>
      let e := s.thm.rail[r]
      let v := vrgOf s r.val
      let a := e.pAcc + powNw v.iMeas v.vMeas
      if s.now % 400 = 0 then { e with pAcc := 0, pMean := a / 400 } else { e with pAcc := a } }

end Sys2Proof.Machine
end

