-- ==== Sys2Proof/Machine/Sensors.lean ====
section
/-! DEFINITION. The sensor hub (R281 to R289, R36, R86) and what its slow channels feed: the sweep, the housekeeping round,
the core range, the wear readings (R495, R496), the reference check (R359) and the end of each round. -/

namespace Sys2Proof.Machine

open Sys2Proof

/-- A thermal sensor. -/
def tsOf (s : State) (i : Nat) : SnsTs := vAt s.sns.ts i {}

/-- A thermal sensor changed by `f`. -/
def State.tsMod (s : State) (i : Nat) (f : SnsTs → SnsTs) : State := { s with sns.ts := vMod s.sns.ts i f }

/-- The sensor hub's page changed by `f`. -/
def State.onSns (s : State) (f : Sns → Sns) : State := { s with sns := f s.sns }

/-- REL_SPARE_USE.TS_FREE: spare sensors that have not failed and serve no primary (R490). -/
def State.tsCount (s : State) : State :=
  { s with rel.SPARE_USE_TS_FREE :=
      ((List.range 6).filter fun g => let e := tsOf s (24 + g); !e.TS_FAILED && decide (e.TS_SERVES = 255)).length }

/-- The primary of group `g` that its spare serves is `p`. -/
def spareServes (s : State) (g p : Nat) : Bool :=
  let e := tsOf s (24 + g)
  !e.TS_FAILED && decide (e.TS_SERVES = p)

/-- A sensor is marked failed (R284), with its reason: 1 parity, 2 unreachable, 3 range, 4 self-test.
[DEDUCED, log entry 72] -/
def State.sensorFail (s : State) (i reason : Nat) : State :=
  if (tsOf s i).TS_FAILED then s
  else
    let s := s.tsMod i fun e => { e with TS_FAILED := true, TS_REASON := reason, TS_LIVE := false, TS_SERVES := 255, rangeBad := 0 }
    (s.fault pgSns 16 0x0810 [i, reason]).tsCount

/-- Spare g serves the lowest failed primary of its group that nothing serves, where the spare is live and free (R284).
[DEDUCED, log entry 69] -/
def State.sensorSubst (s : State) (g : Nat) : State :=
  let e := tsOf s (24 + g)
  if e.TS_FAILED || decide (e.TS_SERVES ≠ 255) then s
  else
    match (List.range 4).find? fun i => (tsOf s (4 * g + i)).TS_FAILED with
    | some i => ((s.tsMod (24 + g) fun e => { e with TS_SERVES := 4 * g + i }).tsCount.event 0x0811 [24 + g, 4 * g + i]).settle 0x0811
    | none => s

/-- The live members of a group (R283): bits 0 to 3 the primaries, bit 4 the spare. -/
def liveMembers (s : State) (g : Nat) : Nat :=
  maskOf 5 fun i => if i < 4 then !(tsOf s (4 * g + i)).TS_FAILED else let e := tsOf s (24 + g); !e.TS_FAILED && decide (e.TS_SERVES ≠ 255)

/-- The sensor in a place of a group. -/
def memberSensor (g i : Nat) : Nat := if i < 4 then 4 * g + i else 24 + g

/-! ### The sweep -/

/-- THERMAL_SWEEP (R282): on every 1000th tick, the broadcast read latches every sensor's sample.
[DESIGN CHOICE, log entry 79] -/
def execThermalSweep (s : State) : Host.Outcome State Fault Refusal :=
  .next (
    if s.rst.started && decide (s.now % 1000 = 0) && decide (s.sns.lastSweep ≠ some s.now) then
      s.onSns fun n => { n with sweepAt := some s.now, lastSweep := some s.now }
    else s)

/-- One sensor's answer in a sweep (R284): its sample, or the mark that it has failed. [DEDUCED, log entry 65] -/
def State.sensorSample (s : State) (i : Nat) (x : TempSample) : State :=
  if (tsOf s i).TS_FAILED then s
  else
    match x with
    | .parity => s.sensorFail i 1
    | .unreachable => s.sensorFail i 2
    | .ok t =>
      let s := s.tsMod i fun e => { e with TS_TEMP := max (-32768) (min 32767 t) }
      if t < -2560 ∨ 9600 < t then
        if (tsOf s i).rangeBad = 0 then s.tsMod i fun e => { e with rangeBad := 1 } else s.sensorFail i 3
      else s.tsMod i fun e => { e with rangeBad := 0 }

/-- A group after a sweep (R283, R285): its live members, its maximum, its rate where the membership is that of the
sweep before, and the marks of a short or lost group. -/
def State.groupSweep (s : State) (t g : Nat) : State :=
  let m := liveMembers s g
  let e := grpOf s g
  let served := (List.range 4).all fun i => !(tsOf s (4 * g + i)).TS_FAILED || spareServes s g (4 * g + i)
  let top := (List.range 5).foldl (fun (a : Option Int) i =>
    if m.testBit i then (let x := (tsOf s (memberSensor g i)).TS_TEMP; match a with | none => some x | some y => some (max y x)) else a) none
  let diff := match top with
    | some x => if e.valid && decide (e.members = m) then some (x - e.GRP_MAX) else none
    | none => none
  let lost := decide (m = 0)
  let s := s.grpMod g fun e =>
    { e with GRP_LIVE := popcount 5 m, GRP_LOST := lost, GRP_SHORT := !served && !lost, GRP_SPARE_IN := m.testBit 4, members := m,
             GRP_MAX := top.getD e.GRP_MAX, valid := top.isSome, diff := diff, sweepAt := t,
             GRP_RATE := match diff with | some d => max (-128) (min 127 (d * 5 / 8)) | none => 0,
             innovRun := if e.members = m then e.innovRun else 0 }
  let s := (List.range 5).foldl (fun s i => s.tsMod (memberSensor g i) fun x => { x with TS_LIVE := m.testBit i }) s
  if lost && !e.GRP_LOST then s.fault pgSns 17 0x0812 [g] else s

/-- Cause 1: a live group's temperature reaches T_TRIP (R214). -/
def State.tripGroup (s : State) (g : Nat) : State :=
  let e := grpOf s g
  if e.valid && !e.GRP_LOST && decide (tripEff s ≤ e.GRP_MAX) then s.trip 1 g (sdat e.GRP_MAX) else s

/-- Cause 2: a live group's rate of rise passes RATE_EFF, over the time since its sweep before (R214). -/
def State.tripRate (prev : List Nat) (t : Nat) (s : State) (g : Nat) : State :=
  let e := grpOf s g
  let dt := t - prev.getD g 0
  match e.diff with
  | some d =>
    if !e.GRP_LOST && decide ((s.beam.DIE_EFF_RATE_EFF : Int) * dt * 64 < d * 40000) then s.trip 2 g (sdat (d * 40000 / ((dt : Int) * 64)))
    else s
  | none => s

/-- Cause 3: a supervised stack reaches its ceiling (R214). -/
def State.tripStack (s : State) (k : Nat) : State :=
  let e := stkOf s k
  if supervised s k && e.valid && decide ((s.beam.stackEff : Int) * 64 ≤ e.STK_TS) then s.trip 3 k (sdat e.STK_TS) else s

/-- The beam's comparisons with the hot-spot maxima, their rates and the stack temperatures (R214, causes 1 to 3).
[DEDUCED, log entry 85] -/
def State.thermalTrips (s : State) (prev : List Nat) (t : Nat) : State :=
  (List.range 12).foldl State.tripStack ((List.range 6).foldl (State.tripRate prev t) ((List.range 6).foldl State.tripGroup s))

/-- SWEEP_CALIBRATION_DONE (R282): failures and substitutions, the groups, the stacks, the trips, the bands, the ladder, the
hot band, the orderly causes and the thermal summary, in that order. [DESIGN CHOICE, log entry 79] -/
def execSweepCalibrationDone (samples : Vector TempSample 30) (dur : Nat) (s : State) : Host.Outcome State Fault Refusal :=
  .next (match s.sns.sweepAt with
    | none => s
    | some t =>
      let prev := (List.range 6).map fun g => (grpOf s g).sweepAt
      let s := (List.range 30).foldl (fun s i => s.sensorSample i (vAt samples i .parity)) s
      let s := (List.range 6).foldl State.sensorSubst s
      let s := (List.range 6).foldl (fun s g => s.groupSweep t g) s
      let s := (List.range 12).foldl State.stackTemp s
      let s := s.thermalTrips prev t
      let s := (List.range 12).foldl State.stackBands s
      let s := ((s.ladder true).hotCheck.sweepCauses).dwellCause
      let s := s.onSns fun n => { n with sweepAt := none, SWEEP_SWEEPS := satAdd 16 n.SWEEP_SWEEPS 1, SWEEP_DUR := sat 16 dur }
      let s := (s.trcThermal.onThm fun h => { h with newSweep := true }).phaseCheck
      s.beamSettle.settle 0x0810)

/-! ### The rings -/

/-- The macro at a position of a ring has failed (R86): a detector, a thermal sensor or an ageing monitor. -/
def State.macroFail (s : State) (i pos : Nat) : State :=
  if i = 0 then (s.failDet pos 2).beamSettle.settle 0x041D
  else if i = 1 then
    let g := if pos < 24 then pos / 4 else pos - 24
    (s.sensorFail pos 2).sensorSubst g
  else
    let e := vAt s.rel.wear pos {}
    if e.WEAR_FAILED then s else (s.wearMod pos fun e => { e with WEAR_FAILED := true }).fault pgRel 21 0x1416 [pos, 2]

/-- The macros on a ring. -/
def ringLen (i : Nat) : Nat := [72, 30, 16].getD i 0

/-- A response from a macro fails to return, or to pass parity (R86): the macro and every one beyond it are addressed from
the b end; one that neither end reaches has failed. -/
def State.ringBreak (s : State) (i pos : Nat) : State :=
  let e := vAt s.sns.ring i {}
  if ringLen i ≤ pos then s
  else if pos < e.RING_B_FROM then
    ({ s with sns.ring := vMod s.sns.ring i fun e => { e with RING_BREAK := pos, RING_B_FROM := pos } }).fault pgSns 18 0x0813 [i, pos]
  else s.macroFail i pos

/-- LINK_RESPONSE_TIMEOUT (R86): no response within 20 µs. -/
def execLinkResponseTimeout (i : Fin 3) (pos : BitVec 8) (s : State) : Host.Outcome State Fault Refusal :=
  .next (if s.rst.started then s.ringBreak i.val pos.toNat else s)

/-! ### The housekeeping round -/

/-- The core-range condition begins (R36). -/
def State.rangeBegin (s : State) : State :=
  let s := s.onSns fun n => { n with roundBad := true, RANGE_IN_ROUNDS := 0 }
  if s.sns.RANGE_OUT then s
  else
    let s := s.onSns fun n => { n with RANGE_OUT := true, outRounds := 0 }
    ((s.fault pgSns 20 0x0814 [s.sns.CORE_V_AON, sdat s.sns.CORE_T_CORE]).fcsSettle).settle 0x0814

/-- A core sample that reads within the range of R10 (R36): aon_vdd in 100 µV, the junction in 1/64 °C. -/
def coreInside (k : Nat) (v : Int) : Bool := if k = 0 then decide (7100 ≤ v ∧ v ≤ 7900) else decide (-640 ≤ v ∧ v ≤ 7360)

/-- G_wear as the readings give it (R496), mV. -/
def wearComputed (e : RelWear) : Nat :=
  min e.WEARCFG_WEAR_MAX (cdiv (cdiv (e.hist.foldl (· + ·) 0) (10 * e.hist.length) * e.WEARCFG_WK) 10)

/-- The ageing monitor of a rail has failed (R495, R498). [DEDUCED, log entry 65] -/
def State.ageFail (s : State) (r reason : Nat) : State :=
  (s.wearMod r fun e => { e with WEAR_FAILED := true, low := 0 }).fault pgRel 21 0x1416 [r, reason]

/-- A reading of an ageing monitor (R495, R496). [DEDUCED, log entry 65] -/
def State.ageReading (s : State) (r ag : Nat) : State :=
  let e := vAt s.rel.wear r {}
  if e.WEAR_FAILED then s
  else if 3000 < ag then s.ageFail r 3
  else
    let sum := e.hist.foldl (· + ·) 0
    let low := if e.hist.length = 64 ∧ 64 * (ag + 100) < sum then e.low + 1 else 0
    if 16 ≤ low then s.ageFail r 4
    else
      let h := (ag :: e.hist).take 64
      let e' := { e with hist := h, n := e.n + 1, low := low, WEAR_AG_MEAN := sat 12 (h.foldl (· + ·) 0 / h.length) }
      if e'.n < 64 then s.wearMod r fun _ => e'
      else
        let c := wearComputed e'
        let s := s.wearMod r fun _ => { e' with WEAR_INIT := false, g := if e.WEAR_INIT then c else max e'.g c,
                                                limit := e'.limit || (decide (c = e'.WEARCFG_WEAR_MAX) && decide (0 < c)) }
        let s := if !e.WEAR_INIT && decide (e.g < c) then s.event 0x1417 [r, c] else s
        if c = e'.WEARCFG_WEAR_MAX ∧ 0 < c ∧ e'.limit = false then s.fault pgRel 22 0x1418 [r] else s

/-- The reference check of a rail (R359): V_TRACK moves by at most 25 units of 10 µV against D. -/
def State.referenceCheck (s : State) (r ref : Nat) : State :=
  let e := vrgOf s r
  if railAbsent s r || decide (e.dN = 0) then s
  else
    let d : Int := ((e.dSum / e.dN / 10 : Nat) : Int) - 10 * (ref : Int)
    let trk := e.TRK_V_TRACK + max (-25) (min 25 (-d))
    let bad := if s.vrg.TRK_CFG < d.natAbs then e.trkBad + 1 else 0
    let fails := decide (2 ≤ bad) || decide (2000 < trk.natAbs)
    let s := s.vrgMod r fun e => { e with TRK_DIFF := max (-32768) (min 32767 d), trkBad := bad, TRK_V_TRACK := if 2000 < trk.natAbs then e.TRK_V_TRACK else trk }
    if fails && !e.tgLost then
      (((s.vrgMod r fun e => { e with tgLost := true }).fault pgVrg 21 0x0B16 [r, sdat d]).respBegin r 7 0).beamSettle.settle 0x0411
    else s

/-- What a slot's value feeds (R287). -/
def State.slotValue (s : State) (k : Nat) (v : Int) : State :=
  if k < 2 then
    let s := if k = 0 then s.onSns fun n => { n with CORE_V_AON := sat 16 v.toNat } else s.onSns fun n => { n with CORE_T_CORE := max (-32768) (min 32767 v) }
    if coreInside k v then (if k = 0 && decide (v < 7200) then s.onSns fun n => { n with roundBad := true } else s)
    else s.rangeBegin
  else if 4 ≤ k ∧ k < 20 then s.ageReading (k - 4) v.toNat
  else if 20 ≤ k ∧ k < 26 then (s.sensorSample (k + 4) (.ok v)).settle 0x0810
  else if 98 ≤ k ∧ k < 128 then
    if v = 1 then s
    else
      let i := k - 98
      ((s.sensorFail i 4).sensorSubst (if i < 24 then i / 4 else i - 24)).settle 0x0810
  else if 128 ≤ k ∧ k < 144 then s.referenceCheck (k - 128) v.toNat
  else s

/-- A read that its replays did not clear (R288, R495): after two consecutive failed rounds the channel is failed; a
failed slot 0 or 1 counts as outside the range (R36). -/
def State.slotFailed (s : State) (k : Nat) : State :=
  let e := vAt s.sns.hk k {}
  let s := { s with sns.hk := vMod s.sns.hk k fun e => { e with fails := e.fails + 1, failed := e.failed || decide (2 ≤ e.fails + 1) } }
  if 2 ≤ e.fails + 1 then
    let s := if e.failed then s else s.fault pgSns 19 0x0817 [k]
    if k < 2 then s.rangeBegin
    else if 4 ≤ k ∧ k < 20 ∧ (vAt s.rel.wear (k - 4) {}).WEAR_FAILED = false then s.ageFail (k - 4) 1
    else s
  else s

/-- The ring and position of a slot's macro, where it has one (R287). -/
def slotMacro (s : State) (k : Nat) : Option (Nat × Nat) :=
  if 4 ≤ k ∧ k < 20 then some (2, k - 4)
  else if 20 ≤ k ∧ k < 26 then some (1, k + 4)
  else if 26 ≤ k ∧ k < 98 then some (0, k - 26)
  else if 98 ≤ k ∧ k < 128 then some (1, k - 98)
  else if 128 ≤ k ∧ k < 144 then
    let d := 4 * (k - 128)
    some (0, match (List.range 8).find? fun j => (detOf s (64 + j)).DD_SERVES = d with | some j => 64 + j | none => d)
  else none

/-- The slot of this tick, counted from the start of the tick count (R287). [DESIGN CHOICE, log entry 58] -/
def slotNow (s : State) : Nat := s.now / 25

/-- A slot that has a channel to read now: 150 to 159 are reserved, and a spare sensor that serves is read in the sweep
only (R287). -/
def slotOpen (s : State) (k : Nat) : Bool :=
  decide (k < 150) && !(decide (20 ≤ k ∧ k < 26) && decide ((tsOf s (k + 4)).TS_SERVES ≠ 255))

/-- The round's check of what the fixed path stores for a detector (R206): a fault forces its mask to all 25 domains, until
the next round finds it restored. [DESIGN CHOICE, log entry 58] -/
def State.maskFault (s : State) (d : Nat) (bad : Bool) : State :=
  let s := s.detMod d fun e => { e with maskBad := bad }
  if bad then s.setErr pgBeam 20 else s

/-- HOUSEKEEPING_SLOT (R287): the present slot's channel is read, once.
[DESIGN CHOICE, log entry 58; DESIGN CHOICE, log entry 79] -/
def execHousekeepingSlot (rd : HkRead) (s : State) : Host.Outcome State Fault Refusal :=
  .next (
    let k := slotNow s % 160
    if !s.rst.started || decide (s.sns.slotRead = some (slotNow s)) || !slotOpen s k then s
    else
      let s := s.onSns fun n => { n with slotRead := some (slotNow s) }
      let s := if 26 ≤ k ∧ k < 98 then s.maskFault (k - 26) false else s
      let s := match rd with
        | .value v =>
          { s with sns.hk := vMod s.sns.hk k fun e => { e with val := v, valid := true, age := 0, failed := false, fails := 0 } }.slotValue k v
        | .failed => s.slotFailed k
        | .unreachable => (match slotMacro s k with | some m => s.macroFail m.1 m.2 | none => s).slotFailed k
        | .storage => if 26 ≤ k ∧ k < 98 then s.maskFault (k - 26) true else s.slotFailed k
      if 128 ≤ k ∧ k < 144 then s.vrgMod (k - 128) fun e => { e with dSum := 0, dN := 0 } else s)

/-- The die maximum, the largest M_g over its live groups (R289). -/
def dieMax (s : State) : Option Int :=
  (List.range 6).foldl (fun (a : Option Int) g =>
    let e := grpOf s g
    if e.valid && !e.GRP_LOST then (match a with | none => some e.GRP_MAX | some x => some (max x e.GRP_MAX)) else a) none

/-- A base die publishes its maximum; with no live group it publishes no value (R289). -/
def State.publishThermal (s : State) : State :=
  if s.cmn.straps.dieKind then
    match dieMax s with
    | some m => s.frmSend 2 0x14 31 (twos m 16 * 2 ^ 80 + 2 ^ 79 + (s.sns.HK_ROUNDS % 256) * 2 ^ 71)
    | none => s
  else s

/-- The background share refits each sensor's drift correction every 64 rounds, within ±1 °C, by values that the rules do
not give (R286); while no lane is spare the share is stopped (R41). [DESIGN CHOICE, log entry 84] -/
def State.driftRefit (s : State) : State :=
  if s.sns.refits + 1 < 64 then s.onSns fun n => { n with refits := n.refits + 1 }
  else
    let s := s.onSns fun n => { n with refits := 0 }
    if s.ctl.MU_SPARE_FREE = 0 then s
    else (List.range 30).foldl (fun s i => (s.tsMod i fun e => { e with TDRIFT := ((s.freeNat 16 % 129 : Nat) : Int) - 64 }).tookFree) s

/-- HOUSEKEEPING_ROUND_END (R287, R289, R353, R358, R36): the round's counts and ages, the refresh of each rail, and the base
die's publication. -/
def execHousekeepingRoundEnd (s : State) : Host.Outcome State Fault Refusal :=
  .next (
    if s.rst.started ∧ s.sns.roundDone < s.now / 4000 then
      let s := s.onSns fun n =>
        { n with roundDone := s.now / 4000, HK_ROUNDS := satAdd 16 n.HK_ROUNDS 1, roundBad := false,
                 hk := n.hk.map fun (e : HkChan) => { e with age := min 255 (e.age + 1) },
                 outRounds := if n.RANGE_OUT then n.outRounds + 1 else 0,
                 RANGE_IN_ROUNDS := if n.roundBad || (vAt n.hk 0 {}).failed || (vAt n.hk 1 {}).failed then 0 else satAdd 8 n.RANGE_IN_ROUNDS 1 }
      let s := s.onThm fun t => { t with BELOW_AGE := min 15 (t.BELOW_AGE + 1), belowN := t.belowN + 1 }
      let s := (List.range 16).foldl (fun s r => (s.parityRound r).refreshRail r) s
      s.driftRefit.publishThermal
    else s)

/-- CORE_RANGE_END (R36): 100 consecutive rounds inside the range, each with the always-on rail at 0.72 V or above. -/
def execCoreRangeEnd (s : State) : Host.Outcome State Fault Refusal :=
  .next (
    if s.sns.RANGE_OUT ∧ 100 ≤ s.sns.RANGE_IN_ROUNDS then
      let n := s.sns.outRounds
      ((s.onSns fun x => { x with RANGE_OUT := false, outRounds := 0 }).event 0x0815 [sat 16 n]).fcsSettle.settle 0x0815
    else s)

/-- BELOW_LOST (R289): no value for three rounds on a stacked die. -/
def execBelowLost (s : State) : Host.Outcome State Fault Refusal :=
  .next (
    if stacked s && s.rst.started && !s.thm.STATE_BELOW_LOST && decide (3 ≤ s.thm.belowN) then
      ((s.onThm fun t => { t with STATE_BELOW_LOST := true }).fault pgThm 17 0x0716 [s.cmn.straps.below.toNat]).ladder false
    else s)

end Sys2Proof.Machine
end

