-- ==== Sys2Proof/Machine/TreeBase.lean ====
section
/-! DEFINITION. The Kazsin link's frames (R402 to R405), and the budgets of the subtree and of the package (R391, R392,
R410). -/

namespace Sys2Proof.Machine

open Sys2Proof

/-! ### Roles -/

/-- The Kazsin link is live (R412): strapped, not marked failed, and not on an untrimmed relaxation oscillator after a trim
region fault (R401). -/
def treLive (s : State) : Bool :=
  s.cmn.straps.treEn && s.rst.started && !s.tre.failed && (s.cmn.fuses.trimCrc || s.clk.TK_SRC)

/-- This instance acts on its Kazsin link: only the reckoner transmits (R412). -/
def treActive (s : State) : Bool := treLive s && isReckoner s

/-- The link's pins are driven and read: the ports are live, and aon_vio has not fallen (R89, R456). -/
def trePins (s : State) : Bool := s.rst.live && !s.rst.vioLow

/-- TRE_STATE.ROLE. -/
def treRole (s : State) : Nat := if !s.cmn.straps.treEn then 0 else if treActive s then 2 else 1

/-- TRE_STATE.PARENT: none, synchronising, present, lost, muted. -/
def treParent (s : State) : Nat :=
  if s.tre.muteAt.isSome then 4 else if s.tre.lost then 3 else if s.tre.synced then 2 else if s.tre.ver.isSome then 1 else 0

/-- A child port. -/
def portOf (s : State) (p : Nat) : TrePort := vAt s.tre.port p {}

/-- A child port changed by `f`. -/
def State.portMod (s : State) (p : Nat) (f : TrePort → TrePort) : State := { s with tre.port := vMod s.tre.port p f }

/-- The tree page changed by `f`. -/
def State.onTre (s : State) (f : Tre → Tre) : State := { s with tre := f s.tre }

/-- AUT_TR_SYNC: the senders synchronised. -/
def treSyncCount (s : State) : Nat := b2n s.tre.synced + ((List.range 16).filter fun p => (portOf s p).synced).length

/-- The link runs at major version 2 (R386, R405). -/
def verOld (v : Option Nat) : Bool := match v with | some x => decide (x / 16 < 3) | none => false

/-! ### Frames -/

/-- The version this block sends: major 3, minor 4 (R107). -/
abbrev blkMajor : Nat := 3
/-- The minor version of this block (R107). -/
abbrev blkMinor : Nat := 4

/-- HDR of a frame (R402). -/
def kHdr (typ up port : Nat) : Nat := typ * 2 ^ 12 + up * 2 ^ 11 + port * 2 ^ 6

/-- TYPE of a frame. -/
def kType (f : KFrame) : Nat := bitsOf f.hdr.toNat 12 4
/-- UP of a frame. -/
def kUp (f : KFrame) : Bool := f.hdr.toNat.testBit 11
/-- PORT of a frame. -/
def kPort (f : KFrame) : Nat := bitsOf f.hdr.toNat 6 5

/-- The MAC of a frame (R404). -/
def kMac (s : State) (linkId hdr pay ctr : Nat) (chal : List Nat) : Nat :=
  hmac128 (s.key 2) (0x4B :: bytesLE 4 linkId ++ bytesLE 2 hdr ++ bytesLE 4 pay ++ bytesLE 8 ctr ++ chal)

/-- The 30 bytes of a frame (R402, R403). -/
def kBytes (hdr pay ctrLo mac : Nat) : List Nat :=
  let b := bytesLE 2 hdr ++ bytesLE 4 pay ++ bytesLE 2 ctrLo ++ bytesLE 16 mac
  [0x55, 0xD5] ++ b ++ bytesLE 4 (crc32 b)

/-- The full counter that a receiver rebuilds from CTR_LO (R404). -/
def kCounter (last lo : Nat) : Nat := last + 1 + (lo + 65536 - (last + 1) % 65536) % 65536

/-- LINK_ID on the bus toward the parent. -/
def linkIdUp (s : State) : Nat := if verOld s.tre.ver then 0 else s.tre.linkId

/-- LINK_ID on the bus toward a child. -/
def linkIdDn (s : State) (p : Nat) : Nat := if p < 16 ∧ verOld (portOf s p).ver then 0 else s.cmn.fuses.dieId.toNat % 2 ^ 32

/-- A frame leaves on tre_up; every type but SYNC is authenticated and counted (R404). -/
def State.sendUp (s : State) (typ pay : Nat) (chal : List Nat) : State :=
  let hdr := kHdr typ 1 s.tre.CFG_MYPORT
  if typ = 1 then s.onTre fun t => { t with lastUp := kBytes hdr pay 0 0 }
  else
    let c := s.tre.txUp + 1
    s.onTre fun t => { t with txUp := c, lastUp := kBytes hdr pay (c % 65536) (kMac s (linkIdUp s) hdr pay c chal) }

/-- A frame leaves on tre_dn. -/
def State.sendDn (s : State) (port typ pay : Nat) (chal : List Nat) : State :=
  let hdr := kHdr typ 0 port
  if typ = 1 then s.onTre fun t => { t with lastDn := kBytes hdr pay 0 0 }
  else
    let c := s.aut.TR_TX + 1
    { s with aut.TR_TX := c }.onTre fun t => { t with lastDn := kBytes hdr pay (c % 65536) (kMac s (linkIdDn s port) hdr pay c chal) }

/-! ### Budgets -/

/-- A member of the frame as this one knows it. -/
def memberOf (s : State) (m : Nat) : FrmMember := vAt s.frm.member m {}

/-- FLOOR of a member, W: an image field governs nothing without an active image (R453). -/
def memberFloor (s : State) (e : FrmMember) : Nat := if s.seq.imgOn then e.MEMBER_FLOOR else 0

/-- MAX of a member, W, as `memberFloor`. -/
def memberMax (s : State) (e : FrmMember) : Nat := if s.seq.imgOn then e.MEMBER_MAX else 0

/-- A member's record changed by `f`. -/
def State.memberMod (s : State) (m : Nat) (f : FrmMember → FrmMember) : State := { s with frm.member := vMod s.frm.member m f }

/-- The frame page changed by `f`. -/
def State.onFrm (s : State) (f : Frm → Frm) : State := { s with frm := f s.frm }

/-- The members that the next split counts: live, and not one that has left and sent no HELLO since (R392, R400). -/
def liveList24 (s : State) : List Nat :=
  (List.range 24).filter fun m => s.frm.ROSTER.testBit m && (!(memberOf s m).left || (memberOf s m).joining)

/-- The latest DEMAND of a member, mW; 0 while it has sent none (FRM_DEMANDm). -/
def frmDemandOf (s : State) (m : Nat) : Nat := (memberOf s m).demand.getD 0

/-- The lowest of the values that members present, 0 where none does (R32). -/
def lowestOf (s : State) (f : Nat → Nat) : Nat := (List.range 24).foldl (fun v m => if s.frm.ROSTER.testBit m then (if v = 0 then f m else minSrc v (f m)) else v) 0

/-- The package sources of R391 other than the tree, mW. -/
def pkgSources (s : State) : Nat :=
  let me := myPos s
  let p := lowestOf s fun m => 1000 * (if m = me then s.cmn.fuses.pPkg.toNat else (memberOf s m).pPkg)
  let c := if s.seq.imgOn then 1000 * s.frm.PKGCAP else 0
  let h := lowestOf s fun m => 1000 * (if m = me then s.seq.HOST_CAP else (memberOf s m).hostCap)
  let v := if p = 0 then c else minSrc p c
  if v = 0 then h else minSrc v h

/-- The rack cap as the frame's members present it, W; 0 = no value (R391). -/
def rackCapOf (s : State) : Nat := lowestOf s fun m => if m = myPos s then (if s.cmn.straps.rckEn then s.rck.CAP else 0) else (memberOf s m).rackCap

/-- The parent value, W: what the tree presents, or the BUDGET taken over with the role (R399, R409); 0 = no value. -/
def parentValue (s : State) : Nat :=
  if !s.cmn.straps.treEn then 0 else if s.tre.PARENT_BUD ≠ 0 then s.tre.PARENT_BUD else s.frm.heldBudget.getD 0 / 1000

/-- A port takes part in the tree split. -/
def portPresent (s : State) (p : Nat) : Bool := (portOf s p).PORT_ST_PRESENT

/-- The present ports. -/
def presentPorts (s : State) : List Nat := (List.range 16).filter (portPresent s)

/-- The budgets held for absent ports, W (R409). -/
def treHeld (s : State) : Nat := sumBelow 16 fun p => (portOf s p).heldW

/-- The minimum of two sources of R32. -/
def min2 (a b : Nat) : Nat := if a = 0 then b else minSrc a b

/-- B_sub, W (R410). -/
def bSub (s : State) : Nat :=
  let v := min2 (parentValue s) (rackCapOf s)
  if v ≠ 0 then v else pkgSources s / 1000 + ((presentPorts s).map fun p => 10 * (portOf s p).PORT_MAX).foldl (· + ·) 0

/-- The package budget B, mW (R391). [DEDUCED, log entry 66] -/
def pkgBudget (s : State) : Nat :=
  let t := if !(presentPorts s).isEmpty then s.tre.PKG else min2 (parentValue s) (rackCapOf s)
  min2 (pkgSources s) (1000 * t)

/-- The split of R392 over participants given as FLOOR, MAX and demand. [DEDUCED, log entry 66] -/
def splitOf (avail : Nat) (l : List (Nat × Nat × Nat)) : List Nat :=
  let fsum := (l.map (·.1)).foldl (· + ·) 0
  if avail ≤ fsum then l.map fun e => avail * e.1 / fsum
  else
    let w := l.map fun e => min e.2.2 e.2.1 - e.1
    let wsum := w.foldl (· + ·) 0
    let give := min (avail - fsum) wsum
    let s1 := (l.zip w).map fun e => e.1.1 + (if wsum = 0 then 0 else give * e.2 / wsum)
    let rest := avail - s1.foldl (· + ·) 0
    (l.zip s1).map fun e => min e.1.2.1 (e.2 + rest * e.1.1 / fsum)

/-- The package's demand, W: ⌈Σ d_m / 1000⌉ (R410). -/
def pkgDemand (s : State) : Nat :=
  cdiv (((liveList24 s).map fun m => (memberOf s m).demand.getD (1000 * memberFloor s (memberOf s m))).foldl (· + ·) 0) 1000

/-- What the reckoner reports to its parent, W (R410). -/
def treDemandUp (s : State) : Nat :=
  sat 32 (min (pkgDemand s) (pkgSources s / 1000) +
    ((presentPorts s).map fun p => min (portOf s p).PORT_DEM (10 * (portOf s p).PORT_MAX)).foldl (· + ·) 0)

end Sys2Proof.Machine
end

