-- ==== Sys2Proof/Machine/Budget.lean ====
section
/-! DEFINITION. The reckoner's work on budgets: shares in two waves (R392, R393), cuts (R394, R407), held shares (R397), and
the tree split (R410). -/

namespace Sys2Proof.Machine

open Sys2Proof

/-! ### Shares -/

/-- FRM_BUDGET takes a value: a BUDGET notice where it changes (R422), and the rack port's interrupt where it falls (R438). -/
def State.setBudget (s : State) (b : Nat) : State :=
  let old := s.frm.BUDGET
  if b = old then s
  else
    let s := { s with frm.BUDGET := b }.notice 0x05 0 (sat 16 (b / 1000))
    if b < old then s.rackIbi 0x03 else s

/-- A share comes into force at this member: S and FLOOR (R176, R393). -/
def State.applyShare (s : State) (share floor : Nat) : State :=
  { s with adm.SHARE := share, frm.floorRx := floor, frm.firstShare := true }

/-- The payload of a SHARE (R381). -/
def sharePay (s : State) (kind share floor : Nat) : Nat :=
  s.tly.EPOCH_NUM % 256 * 2 ^ 88 + kind * 2 ^ 86 + share % 2 ^ 32 * 2 ^ 54 + floor % 65536 * 2 ^ 38

/-- The reckoner gives a member its share: its own takes effect, any other is sent (R393). At major version 2 a cut is sent
as KIND 0 (R386). -/
def State.shareSend (s : State) (kind m share : Nat) : State :=
  let floor := memberFloor s (memberOf s m)
  let k := if kind = 2 ∧ s.frm.FORM_FMAJ = 2 then 0 else kind
  let s := s.memberMod m fun e => { e with SHARE := share }
  if m = myPos s then s.applyShare share floor else s.frmSend 1 0x09 m (sharePay s k share floor)

/-- The second wave leaves (R393). -/
def State.secondWave (s : State) : State :=
  let l := s.frm.wave2
  l.foldl (fun s x => s.shareSend 1 x.1 x.2) { s with frm.wave2 := [], frm.v2 := false }

/-- The second wave leaves once every member of the first has answered (R393); at major version 2 it waits for its time
(R386). -/
def State.waveStep (s : State) : State := if s.frm.wave.isEmpty && !s.frm.v2 then s.secondWave else s

/-- A member needs to answer the first wave no longer. -/
def State.waveDrop (s : State) (m : Nat) : State :=
  if s.frm.wave.contains m then ({ s with frm.wave := s.frm.wave.filter fun x => x ≠ m }).waveStep else s

/-- The split of a boundary instant (R392): members that join lose their held FLOOR (R400); lowered shares leave first. -/
def State.splitShares (s : State) : State :=
  let s := { s with frm.member := s.frm.member.map fun (e : FrmMember) =>
    if e.joining then { e with heldMw := 0, heldCut := false } else e }
  let b := pkgBudget s
  let ms := liveList24 s
  let sh := splitOf (b - frmHeldTotal s) (ms.map fun m =>
    let e := memberOf s m
    (1000 * memberFloor s e, 1000 * memberMax s e, e.demand.getD (1000 * memberFloor s e)))
  let news := ms.zip sh
  let low := news.filter fun (x : Nat × Nat) => decide (x.2 ≤ (memberOf s x.1).SHARE) || (s.frm.succ && decide (x.1 ≠ myPos s))
  let high := news.filter fun (x : Nat × Nat) => !low.any fun (y : Nat × Nat) => decide (y.1 = x.1)
  let old := decide (s.frm.FORM_FMAJ = 2)
  let s := { s.setBudget b with
                    frm.bCur := b, frm.wave := (low.map fun (x : Nat × Nat) => x.1).filter fun (m : Nat) => decide (m ≠ myPos s) && !old,
                    frm.wave2 := high, frm.v2 := old && !low.isEmpty, frm.v2At := s.now, frm.succ := false,
                    frm.member := s.frm.member.map fun (e : FrmMember) => if e.joining then { e with joining := false, left := false } else e }
  (low.foldl (fun (s : State) (x : Nat × Nat) => s.shareSend 0 x.1 x.2) s).waveStep

/-- B falls within an epoch: the reckoner cuts every share at once, the held ones and those that wait included (R394). -/
def State.budgetFell (s : State) : State :=
  let b := pkgBudget s
  let c := s.frm.bCur
  if isReckoner s && decide (b < c) then
    let s := { s.setBudget b with
                    frm.bCur := b, frm.wave2 := s.frm.wave2.map fun (x : Nat × Nat) => (x.1, x.2 * b / c),
                      frm.member := s.frm.member.map fun (e : FrmMember) => { e with heldMw := e.heldMw * b / c } }
    (liveList24 s).foldl (fun s m => s.shareSend 2 m ((memberOf s m).SHARE * b / c)) s
  else s

/-! ### Held shares -/

/-- A member has become absent or unreachable: the reckoner reserves its last share (R397). -/
def State.holdShare (s : State) (m : Nat) : State :=
  let s := s.memberMod m fun e => { e with left := true, joining := false }
  if isReckoner s && decide (m ≠ myPos s) then
    (s.memberMod m fun e => { e with heldMw := max e.heldMw e.SHARE, heldAt := s.now, heldCut := false }).waveDrop m
  else s

/-- HELD_SHARE_FREE (R397): after HOLD ms the held amount falls to FLOOR, and the difference is free for the next split. -/
def execHeldShareFree (m : Fin 24) (s : State) : Host.Outcome State Fault Refusal :=
  .next (
    let e := memberOf s m.val
    if 0 < e.heldMw ∧ e.heldCut = false ∧ s.after e.heldAt (max 1 s.frm.CFG * ticksPerMs) then
      let k := min e.heldMw (1000 * memberFloor s e)
      (s.memberMod m.val fun e => { e with heldMw := k, heldCut := true }).event 0x0D1A (m.val :: dat2 (e.heldMw - k))
    else s)

/-- SECOND_WAVE (R386): 64 µs after the last SHARE of the first wave, at major version 2. -/
def execSecondWave (s : State) : Host.Outcome State Fault Refusal :=
  .next (if s.frm.v2 && s.after s.frm.v2At (64 * ticksPerUs) then s.secondWave else s)

/-! ### The tree split and its cuts -/

/-- The tree split at a boundary of a reckoner with present ports (R410): the package's part, then each port's budget;
lowered ones leave before raised ones (R408). -/
def State.treSplit (s : State) : State :=
  let ps := presentPorts s
  if !treActive s then s
  else if ps.isEmpty then { s with tre.subWas := bSub s }
  else
    let b := bSub s
    let floor := ((liveList24 s).map fun m => memberFloor s (memberOf s m)).foldl (· + ·) 0
    let l := (floor, pkgSources s / 1000, pkgDemand s) :: ps.map fun p => (10 * (portOf s p).PORT_FLOOR, 10 * (portOf s p).PORT_MAX, (portOf s p).PORT_DEM)
    let sh := splitOf (b - treHeld s) l
    let s := s.onTre fun t => { t with PKG := sh.headD 0, subWas := b }
    let s := (ps.zip (sh.drop 1)).foldl (fun s x => s.portMod x.1 fun e => { e with want := x.2, tries := 0 }) s
    s.onTre fun t => { t with lowQ := ps.filter fun p => decide ((portOf s p).want < (portOf s p).PORT_BUD),
                              highQ := ps.filter fun p => decide ((portOf s p).PORT_BUD < (portOf s p).want) }

/-- The subtree budget falls within an epoch (R407): a CUT for the children, sent three times, or BUDGETs to children at
major version 2 (R386); then the members' shares (R394). [DEDUCED, log entry 66] -/
def State.subFell (s : State) : State :=
  if !treActive s then s.budgetFell
  else
    let b := bSub s
    let c := s.tre.subWas
    let ps := presentPorts s
    if b < c ∧ ps ≠ [] then
      let ratio := 65536 * b / c
      let q := (s.tre.cseqTx + 1) % 256
      let old := ps.filter fun p => verOld (portOf s p).ver
      let s := ps.foldl (fun s p => s.portMod p fun e =>
        { e with want := e.PORT_BUD * ratio / 65536, PORT_BUD := if verOld e.ver then e.PORT_BUD else e.PORT_BUD * ratio / 65536, tries := 0 }) s
      (s.onTre fun t => { t with cseqTx := q, cutQ := t.cutQ ++ List.replicate 3 (ratio, q), subWas := b, PKG := t.PKG * ratio / 65536,
                                 lowQ := old ++ t.lowQ.filter (fun p => !old.contains p), highQ := [] }).budgetFell
    else { s with tre.subWas := if b < c then b else s.tre.subWas }.budgetFell

/-! ### CAP -/

/-- CAP to the reckoner (R391): the accepted host cap, and the accepted rack cap where this member has the rack port. The
reckoner acts on its own. -/
def State.sendCap (s : State) : State :=
  if s.frm.FORM_STATE ≠ 2 then s
  else if isReckoner s then s.subFell
  else s.frmSend 1 0x0C 29 (s.seq.HOST_CAP % 2 ^ 32 * 2 ^ 64 + (if s.cmn.straps.rckEn then s.rck.CAP % 2 ^ 32 else 0) * 2 ^ 32)

end Sys2Proof.Machine
end

