-- ==== Sys2Proof/Machine/Pmbus.lean ====
section
/-! DEFINITION. The PMBus master and counter persistence (11_regulators_and_input.md, R362 to R369). -/

namespace Sys2Proof.Machine

open Sys2Proof

/-- A converter slot's registers. -/
def convOf (s : State) (i : Nat) : PmbConv := vAt s.pmb.conv i {}

/-- A converter slot changed by `f`. -/
def State.convMod (s : State) (i : Nat) (f : PmbConv → PmbConv) : State := { s with pmb.conv := vMod s.pmb.conv i f }

/-- This instance is the master: PMB_EN is strapped (R75). -/
def pmbMaster (s : State) : Bool := s.cmn.straps.pmbEn && s.rst.started && !s.rst.vioLow

/-- Y and 16 + N of a LINEAR11 reading (R362). -/
def linear11 (w : Nat) : Int × Nat := (sextOf (bitsOf w 0 11) 11, (sextOf (bitsOf w 11 5) 5 + 16).toNat)

/-- A sum of `n` readings in units of 2⁻¹⁶, averaged and rounded to hundredths, to nearest with ties upward (R362, R363). -/
def toHundredths (num : Int) (n : Nat) : Int := (200 * num + (n : Int) * 2 ^ 16) / (2 * (n : Int) * 2 ^ 16)

/-- A reading in units of 2⁻¹⁶. -/
def lin16 (x : Int × Nat) : Int := x.1 * 2 ^ x.2

/-! ### What the master does next -/

/-- The first poll read at or after `k` of a converter that is valid and has not failed in the round. -/
def pollFrom (s : State) (k : Nat) : Nat :=
  (firstBelow 16 fun j => decide (k ≤ j) && (convOf s (j / 2)).CONV_VALID && !s.pmb.failed.testBit (j / 2)).getD 16

/-- The input figures go to every member (R363, R381). -/
def State.publishInput (s : State) : State :=
  let age := fun (t : Option Nat) => match t with | some t => sat 16 (s.msSince t) | none => 0xFFFF
  s.frmSend 2 0x15 31 (s.pmb.VIN_VIN * 2 ^ 80 + age s.pmb.vinAt * 2 ^ 64 + s.pmb.IIN * 2 ^ 48 + age s.pmb.iinAt * 2 ^ 32)

/-- The figures of a round (R363): the mean of the fresh readings of the VIN_SRC converters, the sum of the IIN_SRC ones. -/
def State.formInput (s : State) : State :=
  let stale := s.ctl.VIN_CFG
  let vs := (List.range 8).filter fun i =>
    let e := convOf s i
    e.CONV_VALID && e.CONV_VIN_SRC && (match e.vinAt with | some t => decide (s.now ≤ t + stale * ticksPerMs) | none => false)
  let is_ := (List.range 8).filter fun i => let e := convOf s i; e.CONV_VALID && e.CONV_IIN_SRC && e.iinAt.isSome
  let sum := (vs.map fun i => lin16 (convOf s i).vinX).foldl (· + ·) 0
  let s := if vs = [] then s else { s with pmb.VIN_VIN := sat 16 (toHundredths sum vs.length).toNat, pmb.vinAt := some s.now }
  if is_ = [] then s
  else { s with pmb.IIN := sat 16 ((is_.map fun i => (convOf s i).READ_IIN).foldl (· + ·) 0), pmb.iinAt := some s.now }

/-- The limits of R364 over two consecutive rounds. -/
def State.inputLimits (s : State) : State :=
  let v := s.pmb.VIN_VIN
  let bad := s.pmb.vinAt.isSome && (decide (v < s.pmb.VIN_LIM_VIN_LO) || decide (s.pmb.VIN_LIM_VIN_HI < v))
  let hi := s.pmb.iinAt.isSome && decide (s.pmb.IIN_LIM < s.pmb.IIN)
  let s := { s with pmb.vinBad := if bad then s.pmb.vinBad + 1 else 0, pmb.iinBad := if hi then s.pmb.iinBad + 1 else 0 }
  let s := if s.pmb.vinBad = 2 then s.fault pgPmb 20 0x0C13 [v] else s
  if s.pmb.iinBad = 2 then s.fault pgPmb 21 0x0C14 [s.pmb.IIN] else s

/-- One converter at the end of a round (R362). -/
def State.convRound (s : State) (i : Nat) : State :=
  if !(convOf s i).CONV_VALID then s
  else
    let bad := s.pmb.failed.testBit i
    let s := s.convMod i fun e => { e with CST_OK := !bad, CST_NACKS := if bad then satAdd 8 e.CST_NACKS 1 else 0 }
    if bad && decide ((convOf s i).CST_NACKS = 3) then s.event 0x0C12 [i] else s

/-- The round ends: its counts, the figures formed and published, the limits (R362 to R364). -/
def State.pollEnd (s : State) : State :=
  let s := (List.range 8).foldl State.convRound s
  let s := { s with pmb.inRound := false, pmb.ROUND_ROUNDS := satAdd 16 s.pmb.ROUND_ROUNDS 1,
                    pmb.ROUND_DUR := sat 16 ((s.now - s.pmb.roundAt) / 40) }
  s.formInput.inputLimits.publishInput

/-- The next transaction: a host transaction, then a counter request that is ready, then the round's next read (R366,
R369). -/
def State.pmbNext (s : State) : State :=
  if s.pmb.task ≠ .none then s
  else
    match s.pmb.host with
    | some (k, i, c, d) => { s with pmb.host := none, pmb.task := .host k i c d 1 }
    | none =>
      match s.pmb.reqs.find? (·.ready) with
      | some q => { s with pmb.task := .eeRead, pmb.reqs := q :: s.pmb.reqs.filter (· ≠ q) }
      | none =>
        if s.pmb.inRound then
          let k := pollFrom s s.pmb.next
          if k < 16 then { s with pmb.task := .poll k 1, pmb.next := k + 1 } else s.pollEnd
        else s

/-- POLL_ROUND (R362): every POLL ms; rounds never overlap. -/
def execPollRound (s : State) : Host.Outcome State Fault Refusal :=
  .next (
    if pmbMaster s && !s.pmb.inRound && s.after s.pmb.roundAt (s.pmb.CFG_POLL * ticksPerMs) then
      { s with pmb.inRound := true, pmb.roundAt := s.now, pmb.failed := 0, pmb.next := 0 }.pmbNext
    else s)

/-! ### Counter persistence (R367 to R369) -/

/-- The 32 bytes of one copy (R367). -/
def eeBytes (pos seqNo opt pc id : Nat) : List Nat :=
  let bs := [0x4C, 0x59, pos, 0x01] ++ bytesLE 4 seqNo ++ bytesLE 6 opt ++ [0, 0] ++ bytesLE 4 pc ++ bytesLE 8 id ++ [0, 0]
  bs ++ bytesLE 2 (crc16 bs)

/-- A copy is valid (R368). -/
def eeValid (bs : List Nat) (pos id : Nat) : Bool :=
  decide (bs.take 2 = [0x4C, 0x59]) && decide (bs.getD 2 0 = pos) && decide (bs.getD 3 0 = 1) &&
  decide (ofBytesLE ((bs.drop 30).take 2) = crc16 (bs.take 30)) && decide (ofBytesLE ((bs.drop 20).take 8) = id)

/-- SEQ of a copy. [DEDUCED, log entry 70] -/
def eeSeq (bs : List Nat) : Nat := ofBytesLE ((bs.drop 4).take 4)

/-- The copy that is current, of a slot's 64 bytes (R368): the valid one with the higher SEQ, modulo 2³². -/
def eeCurrent (bs : List Nat) (pos id : Nat) : Option Nat :=
  let a := bs.take 32
  let b := bs.drop 32
  match eeValid a pos id, eeValid b pos id with
  | true, true => if (eeSeq b + 2 ^ 32 - eeSeq a) % 2 ^ 32 < 2 ^ 31 ∧ eeSeq a ≠ eeSeq b then some 1 else some 0
  | true, false => some 0
  | false, true => some 1
  | false, false => none

/-- The answer of R369 is applied at this member (R510): restored, or started from OPTIME 0 and PCYCLE 1. `sq` is the SEQ of
the copy read. Another OPTIME is another millisecond of it (R515). -/
def State.countersAnswer (s : State) (st opt pc sq : Nat) : State :=
  if !s.evt.norest then s
  else
    let old := optime s
    let ok := decide (st = 0)
    let s := { s with evt.optBase := if ok then opt else 0, evt.PCYCLE := if ok then (pc + 1) % 2 ^ 32 else 1,
                      pmb.PERS_RESTORED := ok }
    let s := if optime s = old then s else s.suppMsEnd
    let s := { s with pmb.persHr := optime s / 3600000 }
    let s := s.event 0x1514 (dat2 old ++ dat2 s.evt.PCYCLE)
    let s := { s with evt.norest := false }
    let s := if ok then s.event 0x0C15 (myPos s :: dat2 (sq + 1)) else s
    s.anchor ok

/-- A member's counter message to the master: CTR_ID, and CTR_DATA with what is to be written (R369, R381). The master
itself puts its request in its own queue. Major version 2 has no counter messages (R386). -/
def State.counterAsk (s : State) (write : Bool) : State :=
  if s.frm.FORM_FMAJ = 2 then s else
  let id := s.cmn.fuses.dieId.toNat
  let opt := optime s % 2 ^ 48
  if s.frm.ROLE_PMB = myPos s then
    { s with pmb.reqs := s.pmb.reqs ++ [CtrReq.mk (myPos s) id write opt s.evt.PCYCLE true] }.pmbNext
  else
    let s := s.frmSend 2 0x16 30 (b2n write * 2 ^ 95 + id * 2 ^ 31)
    if write then s.frmSend 2 0x17 30 (opt * 2 ^ 48 + s.evt.PCYCLE * 2 ^ 16) else s

/-- COUNTER_PERSIST (R369): OPTIME has passed a multiple of one hour since the last write. -/
def execCounterPersist (s : State) : Host.Outcome State Fault Refusal :=
  .next (
    let h := optime s / 3600000
    if !s.evt.norest && decide (s.pmb.persHr < h) then { s with pmb.persHr := h }.counterAsk true else s)

/-- A member asks for its slot, once after a cold reset (R369). -/
def State.counterRead (s : State) : State :=
  if s.evt.norest && !s.pmb.asked then { s with pmb.asked := true }.counterAsk false else s

/-- The master answers the request at the head of its queue with CTR_STAT, and CTR_DATA before it where it restores (R381).
[DEDUCED, log entry 70; DEDUCED, log entry 76] -/
def State.counterReply (s : State) (q : CtrReq) (st opt pc sq : Nat) : State :=
  let s := { s with pmb.reqs := s.pmb.reqs.drop 1 }
  if q.pos = myPos s then
    (if q.write then s
     else
       let s := s.countersAnswer st opt pc sq
       if st = 0 then s.counterAsk true else s)
  else
    let s := if st = 0 then s.frmSend 2 0x17 q.pos (opt * 2 ^ 48 + pc * 2 ^ 16) else s
    s.frmSend 2 0x18 q.pos (st * 2 ^ 94 + sq % 2 ^ 32 * 2 ^ 62)

/-- The EEPROM holds no valid copy, or does not answer: EE_FAIL and 0x0C16 at the master (R369). [DEDUCED, log entry 70] -/
def State.eeFail (s : State) (q : CtrReq) (cause : Nat) : State :=
  ((s.fault pgPmb 19 0x0C16 [q.pos, cause]).counterReply q cause 0 0 0)

/-- The slot has been read: a read request is answered; a write goes on to the copy that is not current (R368, R369). -/
def State.eeSlot (s : State) (q : CtrReq) (bs : List Nat) : State :=
  let cur := eeCurrent bs q.pos q.id
  let c := (bs.drop (32 * cur.getD 0)).take 32
  let s := { s with pmb.PERS_EE_OK := s.pmb.PERS_EE_OK || cur.isSome }
  if q.write then
    let sq := if cur.isSome then (eeSeq c + 1) % 2 ^ 32 else 1
    let copy := match cur with | some 0 => 1 | _ => 0
    { s with pmb.task := .eeWrite copy sq, pmb.eeOut := eeBytes q.pos sq q.optime q.pcycle q.id }
  else if cur.isSome then
    s.counterReply q 0 (ofBytesLE ((c.drop 8).take 6)) (ofBytesLE ((c.drop 16).take 4)) (eeSeq c)
  else s.eeFail q 1

/-! ### The end of a transaction -/

/-- A host transaction ends (R366). -/
def State.hostXactEnd (s : State) (slot st rdata : Nat) : State :=
  { s with pmb.task := .none, pmb.HOST_RES_DONE := true, pmb.HOST_RES_ST := st, pmb.HOST_RES_RDATA := rdata }.event 0x0C17 [slot, st]

/-- A converter has failed in the round: its other read is passed over. -/
def State.convFail (s : State) (i : Nat) : State := { s with pmb.task := .none, pmb.failed := putBit s.pmb.failed i true }

/-- A good poll read: decoded exactly, and shown in 10 mV or 10 mA (R362). -/
def State.pollData (s : State) (k w : Nat) : State :=
  let x := linear11 w
  let v := sat 16 (toHundredths (lin16 x) 1).toNat
  let s := { s with pmb.task := .none }
  if k % 2 = 0 then s.convMod (k / 2) fun e => { e with READ_VIN := v, vinAt := some s.now, vinX := x }
  else s.convMod (k / 2) fun e => { e with READ_IIN := v, iinAt := some s.now }

/-- A transaction's outcome (R362, R366, R369): 0 data, 1 no acknowledge, 2 PEC mismatch, 3 timeout. -/
def State.pmbOutcome (s : State) (st w : Nat) (slot : Option (List Nat)) : State :=
  let s := if st = 2 then { s with pmb.ERR_CNT_PEC := satAdd 16 s.pmb.ERR_CNT_PEC 1 }
    else if st = 1 then { s with pmb.ERR_CNT_NACK := satAdd 16 s.pmb.ERR_CNT_NACK 1 }.setErr pgPmb 17 else s
  match s.pmb.task with
  | .none => s
  | .poll k t =>
    if st = 0 then (s.pollData k w).pmbNext
    else if st = 2 ∧ t < 3 then { s with pmb.task := .poll k (t + 1) }
    else
      let s := if st = 2 then s.setErr pgPmb 16 else s
      (s.convFail (k / 2)).pmbNext
  | .host kind i c d t =>
    if st = 2 ∧ t < 3 then { s with pmb.task := .host kind i c d (t + 1) }
    else
      let s := if st = 2 then s.setErr pgPmb 16 else s
      (s.hostXactEnd i st (if st = 0 ∧ kind = 3 then w else 0)).pmbNext
  | .eeRead =>
    let s := { s with pmb.task := .none }
    match s.pmb.reqs with
    | [] => s.pmbNext
    | q :: _ =>
      match st, slot with
      | 0, some bs => (s.eeSlot q bs).pmbNext
      | _, _ => (s.eeFail q 2).pmbNext
  | .eeWrite copy sq =>
    let s := { s with pmb.task := .none }
    match s.pmb.reqs with
    | [] => s.pmbNext
    | q :: _ =>
      if st = 0 then ({ s with pmb.PERS_SEQ := sat 16 sq, pmb.PERS_COPY := decide (copy = 1) }.counterReply q 3 0 0 sq).pmbNext
      else (s.eeFail q 2).pmbNext

/-- PMBUS_TRANSACTION_DONE (R362). -/
def execPmbusTransactionDone (res : PmbResult) (s : State) : Host.Outcome State Fault Refusal :=
  .next (
    if s.pmb.task = .none then s
    else
      match res with
      | .data w => s.pmbOutcome 0 w.toNat none
      | .slot bs => s.pmbOutcome 0 0 (some (bs.toList.map fun b => b.toNat))
      | .pecBad => s.pmbOutcome 2 0 none
      | .nack => s.pmbOutcome 1 0 none)

/-- SMBUS_TIMEOUT (R362): the transaction in progress ends with a STOP and counts as a failure. -/
def execSmbusTimeout (s : State) : Host.Outcome State Fault Refusal :=
  .next (if s.pmb.task = .none then s else s.pmbOutcome 3 0 none)

/-- PMB_ALERT (R365): the alerting device and its STATUS_WORD; after 8 alerts within 1 s alerts are muted. -/
def execPmbAlert (addr : BitVec 7) (status : BitVec 16) (s : State) : Host.Outcome State Fault Refusal :=
  .next (
    if !pmbMaster s || s.pmb.muteAt.isSome then s
    else
      let l := s.now :: lastSecond s s.pmb.alertAt
      let s := { s with pmb.ALERT_ALERTS := satAdd 16 s.pmb.ALERT_ALERTS 1, pmb.ALERT_ADDR := addr.toNat, pmb.ALERT_ST := status.toNat,
                        pmb.alertAt := l,
                        pmb.conv := s.pmb.conv.map fun (e : PmbConv) =>
                          if e.CONV_VALID && decide (e.CONV_ADDR = addr.toNat) then { e with CST_STATUS := status.toNat } else e }
      let s := s.event 0x0C10 [addr.toNat, status.toNat]
      if l.length = 8 then { s with pmb.muteAt := some s.now }.fault pgPmb 18 0x0C11 [8] else s)

/-- ALERT_MUTE_END (R365): 1 s after the mute began. -/
def execAlertMuteEnd (s : State) : Host.Outcome State Fault Refusal :=
  .next (match s.pmb.muteAt with
    | some t => if s.after t ticksPerS then { s with pmb.muteAt := none, pmb.alertAt := [] } else s
    | none => s)

/-- A PMB_HOST_XACT write is refused with status 2 (R366). -/
def hostXactRefused (s : State) (slot : Nat) : Bool :=
  !s.cmn.straps.pmbEn || !(convOf s slot).CONV_VALID || s.pmb.host.isSome ||
  (match s.pmb.task with | .host _ _ _ _ _ => true | _ => false)

/-- A host transaction is issued; it takes its place between poll reads (R366). -/
def State.hostXact (s : State) (kind slot cmd data : Nat) : State :=
  { s with pmb.host := some (kind, slot, cmd, data), pmb.HOST_RES_DONE := false, pmb.HOST_XACT_KIND := kind,
           pmb.HOST_XACT_SLOT := slot, pmb.HOST_XACT_CMD := cmd, pmb.HOST_XACT_DATA := data }.pmbNext

end Sys2Proof.Machine
end

