-- ==== Sys2Proof/Machine/Frame.lean ====
section
/-! DEFINITION. The frame: links and lane checks (R375 to R382), formation (R383 to R387), the messages (R381), and members
leaving and joining (R395 to R400). -/

namespace Sys2Proof.Machine

open Sys2Proof

/-! ### Who is reached -/

/-- The die-to-die crossing carries the frame: the ports are live and the die-to-die clock is not lost (R59, R380). -/
def frmAlive (s : State) : Bool := s.rst.live && !(clkOf s s.cmn.straps.d2dCd.toNat).ST_LOST

/-- The positions met from `p` in a direction over links not known to be down, up to `fuel` of them (R396). -/
def reachDir (s : State) (d : Dir) : Nat → Nat → List Nat
  | 0, _ => []
  | f + 1, p => if hopDown s d p then [] else ringNext s d p :: reachDir s d f (ringNext s d p)

/-- A path of up links joins `p` to `q`. -/
def reaches (s : State) (q p : Nat) : Bool :=
  decide (q = p) || (reachDir s .east (s.frm.size - 1) q).contains p || (reachDir s .west (s.frm.size - 1) q).contains p

/-- Both neighbours of a member report their links toward it down (R396). -/
def absentNow (s : State) (p : Nat) : Bool :=
  decide (1 < s.frm.size) && linkReported s .east (ringNext s .west p) && linkReported s .west (ringNext s .east p)

/-- This member is isolated (R398): both its links are down, or no path joins it to the reckoner. -/
def isolatedNow (s : State) : Bool :=
  decide (1 < s.frm.size) && ((!s.frm.east.up && !s.frm.west.up) || !reaches s s.frm.ROLE_RECKONER (myPos s))

/-- The member that R387 names among the positions of a list: the lowest with a live Kazsin link, else the lowest. -/
def reckonerOf (s : State) (l : List Nat) : Nat :=
  let l24 := (List.range 31).filter l.contains
  match l24.find? fun p => if p = myPos s then treLive s else (memberOf s p).treLive with
  | some p => p
  | none => l24.headD 31

/-- Hops to the reckoner (FRM_ROLE.HOPS). -/
def hopsNow (s : State) : Nat :=
  if s.frm.ROLE_RECKONER = myPos s then 0
  else match hopsTo s .east s.frm.ROLE_RECKONER, hopsTo s .west s.frm.ROLE_RECKONER with
    | some a, some b => min a b
    | some a, none => a
    | none, some b => b
    | none, none => 0

/-- The standby takes the Kazsin link over (R412). [DEDUCED, log entry 50] -/
def State.treTakeOver (s : State) : State :=
  if !treLive s then s
  else
    let s := { s with aut.TR_TX := max s.aut.TR_TX (s.tre.selfDn + 4096), frm.heldBudget := some s.frm.lastBudget }
    (s.onTre fun t =>
      { t with
        txUp := max t.txUp (t.selfUp + 4096), helloDue := true, syncDue := true
        port := t.port.map fun (e : TrePort) => { e with frames := [4, 3], synced := false } }).event 0x0E17 [4096]

/-- The reckoner has become absent: R387 over the rest of the roster (R399). A successor knows no other member's share, so it
holds MAX for each that is gone. [DEDUCED, log entry 44] -/
def State.elect (s : State) : State :=
  let old := s.frm.ROLE_RECKONER
  if s.frm.FORM_STATE ≠ 2 ∨ s.frm.isoAt.isSome ∨ !(memberOf s old).PEER_ABSENT then s
  else
    let new := reckonerOf s ((List.range s.frm.size).filter fun p => !(memberOf s p).PEER_ABSENT)
    let s := { s with frm.ROLE_RECKONER := new }.event 0x0D18 [old, new]
    if new = myPos s then
      let s := s.onFrm fun f =>
        { f with
          succ := true, wave := [], wave2 := [], v2 := false, bCur := f.lastBudget
          member := f.member.map fun (e : FrmMember) =>
            if e.left then { e with heldMw := max e.heldMw (1000 * memberMax s e), heldAt := s.now, heldCut := false } else e }
      (s.setBudget s.frm.lastBudget).treTakeOver
    else s

/-- What the LINK reports now say of each member (R396), and what follows: 0x0D16, the held shares (R397), the roster shown,
the successor (R399), and isolation (R398). [DEDUCED, log entry 44] -/
def State.topology (s : State) : State :=
  if s.frm.FORM_STATE ≠ 2 then s
  else
    let now := fun p =>
      let a := absentNow s p && decide (p ≠ myPos s)
      (a, !a && !reaches s s.frm.ROLE_RECKONER p)
    let ps := List.range s.frm.size
    let goneNew := ps.filter fun p => let x := now p; (x.1 && !(memberOf s p).PEER_ABSENT) || (x.2 && !(memberOf s p).PEER_UNREACH)
    let absNew := ps.filter fun p => (now p).1 && !(memberOf s p).PEER_ABSENT
    let live := maskOf 24 fun p => decide (p < s.frm.size) && !(now p).1 && !(now p).2
    let s := ps.foldl (fun (s : State) p => s.memberMod p fun e => { e with PEER_ABSENT := (now p).1, PEER_UNREACH := (now p).2 }) s
    let s := { s with frm.ROSTER := live }
    let s := absNew.foldl (fun (s : State) p => s.fault pgFrm 20 0x0D16 [p]) s
    let s := goneNew.foldl State.holdShare s
    let iso := isolatedNow s
    let s := if !iso then { s with frm.isoAt := none, frm.isoCut := false }
      else if !s.frm.east.up && !s.frm.west.up then { s with frm.isoAt := some (s.frm.isoAt.getD s.now) } else s
    let s := s.elect
    let iso := isolatedNow s
    let s := if !iso then { s with frm.isoAt := none, frm.isoCut := false } else { s with frm.isoAt := some (s.frm.isoAt.getD s.now) }
    { s with frm.ROLE_HOPS := hopsNow s }

/-! ### HELLO -/

/-- The payload of this member's HELLO (R381); at major version 2 it carries neither LIVE nor P_PKG (R386). -/
def helloPay (s : State) : Nat :=
  let st := s.cmn.straps
  let new := decide (s.frm.FORM_STATE ≠ 2) || decide (s.frm.FORM_FMAJ ≠ 2)
  blkMajor * 2 ^ 88 + blkMinor * 2 ^ 80 + 2 * 2 ^ 72 + b2n st.dieKind * 2 ^ 71 + b2n st.treEn * 2 ^ 70 + b2n st.rckEn * 2 ^ 69 +
  b2n st.pmbEn * 2 ^ 68 + (if new then b2n (treLive s) * 2 ^ 67 + s.cmn.fuses.pPkg.toNat * 2 ^ 34 else 0) + st.below.toNat * 2 ^ 62 +
  st.stackMask.toNat * 2 ^ 50

/-- What a HELLO says of its sender; LIVE and P_PKG of a major-2 member read 0 (R386). -/
def FrmMember.hello (e : FrmMember) (m : BitVec 128) : FrmMember :=
  let old := decide (mf m 88 8 = 2)
  { e with PEER_MAJOR := mf m 88 8, PEER_MINOR := mf m 80 8, base := decide (mf m 71 1 = 1), tre := decide (mf m 70 1 = 1),
           rckEn := decide (mf m 69 1 = 1), pmbEn := decide (mf m 68 1 = 1), treLive := decide (mf m 67 1 = 1) && !old,
           below := mf m 62 5, PEER_STACKS := mf m 50 12, pPkg := if old then 0 else mf m 34 16 }

/-- Two HELLOs of one member differ in what does not change while it runs. -/
def helloDiffers (e : FrmMember) (m : BitVec 128) : Bool := decide ({ e.hello m with treLive := e.treLive } ≠ e)

/-- This member's HELLO leaves by one link. [DEDUCED, log entry 43] -/
def State.helloOn (s : State) (d : Dir) : State := s.linkSend d 1 (frmMsg 0x02 (myPos s) 31 (helloPay s))

/-- This member's HELLO is broadcast. -/
def State.helloAll (s : State) : State := { s.frmSend 1 0x02 31 (helloPay s) with frm.helloAt := s.now }

/-! ### Links -/

/-- LINK with UP for a link of this member (R381, R395). -/
def State.linkReport (s : State) (d : Dir) (up : Bool) : State :=
  if s.frm.FORM_STATE = 2 then s.frmSend 1 0x04 31 (myPos s * 2 ^ 91 + Dir.code d * 2 ^ 90 + b2n up * 2 ^ 89) else s

/-- A link comes up (R380): two training passes, and a HELLO over it. [DEDUCED, log entry 43] -/
def State.linkUp (s : State) (d : Dir) : State :=
  let l := s.link d
  if l.up || !l.hello || decide (l.train < 2) then s
  else (((s.linkMod d fun l => { l with up := true, rxAt := s.now }).event 0x0D13 [Dir.code d]).linkReport d true).topology

/-- The class of a message (R381). -/
def msgClass (typ : Nat) : Nat := if typ = 8 then 0 else if typ < 0x14 then 1 else 2

/-- A link goes down (R380): what waits for it leaves by the other link, but for what is addressed to the silent member
(R395). [DEDUCED, log entry 42] -/
def State.linkDown (s : State) (d : Dir) : State :=
  let l := s.link d
  let s := s.linkMod d fun l => { ({} : FrmLinkState) with tx := l.tx, crcAt := l.crcAt, last := l.last }
  if !l.up then s
  else
    let held := (l.unack ++ l.wait.map fun (x : Nat × BitVec 128) => x.2).filter fun m => decide (dstPos s (mDst m) ≠ l.partner)
    let s := { s with frm.CNT2_DOWNS := satAdd 16 s.frm.CNT2_DOWNS 1 }.fault pgFrm 17 0x0D12 [Dir.code d]
    let s := held.foldl (fun (s : State) m => s.linkSend (Dir.other d) (msgClass (mType m)) m) s
    (s.linkReport d false).topology

/-- What is unacknowledged leaves again, from the oldest onward (R378). [DEDUCED, log entry 42] -/
def State.resend (s : State) (d : Dir) : State :=
  let l := s.link d
  let ms := l.unack.map fun m => frmSeal m (mLseq m) (l.rxNext + 255)
  let s := s.linkMod d fun l => { l with unack := ms, last := ms.getLastD l.last, retryAt := s.now }
  { s with frm.CNT_RETRIES := satAdd 16 s.frm.CNT_RETRIES ms.length }

/-- A lane check begins at the sender: training words on every lane (R379). [DEDUCED, log entry 41] -/
def State.laneCheck (s : State) (d : Dir) : State := s.linkMod d fun l => { l with checking := true, tries := 0 }

/-- FRM_RETRY_TIMEOUT (R378): no LACK within 16 message times. -/
def execFrmRetryTimeout (d : Dir) (s : State) : Host.Outcome State Fault Refusal :=
  .next (
    let l := s.link d
    if !frmAlive s || !l.up || l.unack.isEmpty || l.checking then s
    else if l.tries + 1 < 3 then (s.linkMod d fun l => { l with tries := l.tries + 1 }).resend d
    else if l.checked then s.linkDown d
    else (s.wordRetired 8 (Dir.code d)).laneCheck d)

/-- A message failed its CRC: the sixteenth within 1 ms asks for a lane check (R377, R379). -/
def State.crcErr (s : State) (d : Dir) : State :=
  let s := { s with frm.CNT_CRC_ERR := satAdd 16 s.frm.CNT_CRC_ERR 1 }
  let l := (s.link d).crcAt.filter (fun t => decide (s.now < t + ticksPerMs)) ++ [s.now]
  if 16 ≤ l.length then (s.linkMod d fun e => { e with crcAt := [] }).linkSendRaw d (frmMsg 0x01 (myPos s) 31 (2 ^ 90))
  else s.linkMod d fun e => { e with crcAt := l }

/-- FRM_CRC_ERR (R377). -/
def execFrmCrcErr (d : Dir) (s : State) : Host.Outcome State Fault Refusal := .next (if frmAlive s then s.crcErr d else s)

/-- LINK_SILENCE (R380): no message passes its CRC for 8 message times. -/
def execLinkSilence (d : Dir) (s : State) : Host.Outcome State Fault Refusal := .next (if s.rst.live then s.linkDown d else s)

/-- The receive lanes of a direction. -/
def rxLanes (s : State) : Dir → Nat
  | .east => s.frm.LINK_E_LANES
  | .west => s.frm.LINK_W_LANES

/-- The receive lanes of a direction changed. -/
def State.setRxLanes (s : State) (d : Dir) (m : Nat) : State :=
  match d with
  | .east => { s with frm.LINK_E_LANES := m }
  | .west => { s with frm.LINK_W_LANES := m }

/-- The lanes after a check in which the lanes of `bad` failed: the spare in the place of the one active lane that failed,
or none where fewer than four good lanes are left (R379). -/
def lanesAfter (act bad : Nat) : Option Nat :=
  if act &&& bad = 0 then some act
  else if act = 15 ∧ popcount 4 (act &&& bad) = 1 ∧ !bad.testBit 4 then some ((act &&& (31 ^^^ bad)) ||| 16)
  else none

/-- The receiver's verdict of a lane check, and its LANE answer (R379). [DEDUCED, log entry 41] -/
def State.laneVerdict (s : State) (d : Dir) : State :=
  let act := rxLanes s d
  let bad := (s.link d).chkBad
  let s := s.linkMod d fun l => { l with chkN := 0, chkBad := 0 }
  let s := s.linkSendRaw d (frmMsg 0x01 (myPos s) 31 (bad * 2 ^ 91))
  match lanesAfter act bad with
  | some m =>
    if m = act then s
    else ((s.setRxLanes d m).fault pgFrm 18 0x0D14 [Dir.code d, (firstBelow 5 fun k => (act &&& bad).testBit k).getD 0]).settle 0x0D14
  | none => (s.fault pgFrm 19 0x0D15 [Dir.code d, act &&& bad]).linkDown d

/-- TRAINING_WORD (R375, R379, R380): at link start the active lanes must pass twice in a row; on a link that is up, the
second word of a lane check gives its verdict. -/
def execTrainingWord (d : Dir) (good : BitVec 5) (s : State) : Host.Outcome State Fault Refusal :=
  .next (
    let bad := 31 ^^^ good.toNat
    let l := s.link d
    if !frmAlive s then s
    else if l.up then
      let s := s.linkMod d fun l => { l with chkN := l.chkN + 1, chkBad := l.chkBad ||| bad }
      if 2 ≤ l.chkN + 1 then s.laneVerdict d else s
    else if rxLanes s d &&& bad = 0 then
      let s := s.linkMod d fun l => { l with train := min 2 (l.train + 1) }
      if l.train = 1 then (s.helloOn d).linkUp d else s
    else s.linkMod d fun l => { l with train := 0 })

/-! ### Receiving -/

/-- LACK covers what was sent up to it (R378); a message delivered on a later attempt counts (R478). -/
def State.lack (s : State) (d : Dir) (n : Nat) : State :=
  let l := s.link d
  match l.unack.findIdx? fun m => decide (mLseq m = n) with
  | some i =>
    let s := if 0 < l.tries then s.wordReplayed else s
    s.linkMod d fun l =>
      FrmLinkState.drain 8 s.now { l with unack := l.unack.drop (i + 1), tries := 0, checked := false, checking := false, retryAt := s.now }
  | none => s

/-- A member of the frame that a broadcast from `src`, received on link `d`, has still to serve (R382). -/
def relayOn (s : State) (d : Dir) (src : Nat) : Bool :=
  let n := popcount 24 s.frm.ROSTER
  let closed := decide ((ringPath s .east).length + 1 = n) && decide ((ringPath s .west).length + 1 = n)
  if s.frm.FORM_STATE ≠ 2 ∨ !closed then true
  else
    let k := (hopsTo s d src).getD 0
    let lim := match d with | .west => n / 2 | .east => n - 1 - n / 2
    decide (k < lim)

/-- A message goes on in the direction in which it came (R382); one for a single member turns where its way is down
(R395). -/
def State.relay (s : State) (d : Dir) (m : BitVec 128) : State :=
  let o := Dir.other d
  let c := msgClass (mType m)
  if mDst m = 31 then (if relayOn s d (mSrc m) then s.linkSend o c m else s)
  else if (s.link o).up then s.linkSend o c m else s.linkSend d c m

/-- The types that the frame's version defines (R385, R386). -/
def typeDefined (s : State) (typ : Nat) : Bool := !(decide (s.frm.FORM_FMAJ = 2) && [0x0A, 0x16, 0x17, 0x18].contains typ)

/-- A message arrives on a link (R376 to R382): what fails its CRC is counted; LACK is taken; IDLE and LANE stay on the hop;
any other is accepted in sequence, applied by `f` where it is addressed to this member, and relayed. The neighbour sees the
new LACK at once. [DEDUCED, log entry 41; DEDUCED, log entry 42; DEDUCED, log entry 45] -/
def State.received (s : State) (d : Dir) (m : BitVec 128) (typ : Nat) (f : State → State) : State :=
  if !frmAlive s || decide (mType m ≠ typ) then s
  else if frmCrc m.toNat ≠ mf m 0 16 then s.crcErr d
  else
    let s := (s.linkMod d fun l => { l with rxAt := s.now }).lack d (mLack m)
    let l := s.link d
    if typ < 2 then f s
    else if !l.up && decide (typ ≠ 2) then s
    else if mLseq m ≠ l.rxNext then s.linkSendRaw d (frmMsg 0 (myPos s) 31 0)
    else
      let s := (s.linkMod d fun l => { l with rxNext := (l.rxNext + 1) % 256 }).linkSendRaw d (frmMsg 0 (myPos s) 31 0)
      let me := myPos s
      if !typeDefined s typ then s
      else if mSrc m = me then (if typ = 2 then f s else s)
      else if dstPos s (mDst m) = me then f s
      else if mDst m = 31 then (f s).relay d m
      else s.relay d m

/-- FRM_IDLE (R375): it carries LACK alone. -/
def execFrmIdle (d : Dir) (m : BitVec 128) (s : State) : Host.Outcome State Fault Refusal := .next (s.received d m 0x00 id)

/-- What a LANE message does (R379): a request starts a check; an answer ends it. -/
def State.laneMsg (s : State) (d : Dir) (m : BitVec 128) : State :=
  let l := s.link d
  if mf m 90 1 = 1 then s.laneCheck d
  else if l.checking then
    match lanesAfter l.tx (mf m 91 5) with
    | some t => (s.linkMod d fun l => { l with tx := t, checking := false, checked := true, tries := 0 }).resend d
    | none => s.linkDown d
  else s

/-- FRM_LANE (R379): a request starts a check; an answer ends it. -/
def execFrmLane (d : Dir) (m : BitVec 128) (s : State) : Host.Outcome State Fault Refusal :=
  .next (s.received d m 0x01 fun s => s.laneMsg d m)

/-- FRM_LINK (R396). -/
def execFrmLink (d : Dir) (m : BitVec 128) (s : State) : Host.Outcome State Fault Refusal :=
  .next (s.received d m 0x04 fun s =>
    let down := decide (mf m 89 1 = 0)
    let p := mf m 91 5
    if p = myPos s then s
    else (s.memberMod p fun e => if mf m 90 1 = 0 then { e with eDown := down } else { e with wDown := down }).topology)

/-! ### Formation -/

/-- The checks of R384 over the positions of a list, in order: the first that fails. [DEDUCED, log entry 47] -/
def rosterErr (s : State) (l : List Nat) : Nat :=
  let ps := (List.range 31).filter l.contains
  let n := ps.length
  let e := fun p => memberOf s p
  let partnerBad := fun (k : FrmLinkState) (q : Nat) => k.up && decide (k.partner ≠ q)
  let count := fun (f : FrmMember → Bool) => (ps.filter fun p => f (e p)).length
  let stk := ps.foldl (fun a p => a ||| (e p).PEER_STACKS) 0
  let claimed := (ps.map fun p => popcount 12 (e p).PEER_STACKS).foldl (· + ·) 0
  let majors := ps.map fun p => (e p).PEER_MAJOR
  if decide (ps ≠ List.range n) || partnerBad s.frm.east ((myPos s + 1) % n) || partnerBad s.frm.west ((myPos s + n - 1) % n) then 1
  else if s.frm.dup then 2
  else if 2 < count (·.tre) then 3
  else if count (·.pmbEn) ≠ 1 then 4
  else if count (·.rckEn) ≠ 1 then 5
  else if claimed ≠ popcount 12 stk ∨ stk + 1 ≠ 2 ^ popcount 12 stk then 6
  else if ps.any fun p => let b := (e p).below; decide (b ≠ 31) && (decide (b = p) || !ps.contains b || !(e b).base) then 7
  else if majors.any fun a => majors.any fun b => decide (b + 1 < a) then 8
  else 0

/-- FMAJ and FMIN of the positions of a list (R385). -/
def frameVer (s : State) (l : List Nat) : Nat × Nat :=
  let ver := fun (p : Nat) => if p = myPos s then (blkMajor, blkMinor) else ((memberOf s p).PEER_MAJOR, (memberOf s p).PEER_MINOR)
  let maj := (l.map fun p => (ver p).1).foldl min 255
  (maj, ((l.filter fun p => decide ((ver p).1 = maj)).map fun p => (ver p).2).foldl min 255)

/-- The mask of the positions of a list. -/
def posMask (l : List Nat) : Nat := maskOf 24 fun p => l.contains p

/-- The payload of FORMED (R381). -/
def formedPay (mask fmaj fmin err count attempt : Nat) : Nat :=
  mask % 2 ^ 24 * 2 ^ 72 + fmaj % 256 * 2 ^ 64 + fmin % 256 * 2 ^ 56 + err % 16 * 2 ^ 52 + count % 32 * 2 ^ 47 + attempt % 4 * 2 ^ 45

/-- Formation fails with an ERR code; the version and the count are FORMED's (R384, R385). [DEDUCED, log entry 47] -/
def State.formFail (s : State) (err fmaj fmin count : Nat) : State :=
  { s with frm.FORM_STATE := 3, frm.FORM_ERR := err, frm.FORM_FMAJ := fmaj, frm.FORM_FMIN := fmin, frm.failCount := count }.fault
    pgFrm 16 0x0D11 [err]

/-- A member of major version 3 in a frame of major version 2 starts its counters afresh (R386, R369); elsewhere it asks for
them. [DEDUCED, log entry 45] -/
def State.countersAtFormation (s : State) : State :=
  if s.frm.FORM_FMAJ ≠ 2 then s.counterRead
  else if s.evt.norest then
    let old := optime s
    let s := (if s.evt.optBase = 0 then s else s.suppMsEnd)
    let s := { s with evt.optBase := 0, evt.PCYCLE := 1, pmb.asked := true }.event 0x1514 (dat2 old ++ dat2 1)
    { s with evt.norest := false }
  else s

/-- The frame is formed (R383, R385, R387): the roster, the version, the roles. [DEDUCED, log entry 47] -/
def State.formed (s : State) (mask fmaj fmin attempt reck : Nat) : State :=
  let l := (List.range 24).filter mask.testBit
  let role := fun (f : FrmMember → Bool) => (l.find? fun p => f (memberOf s p)).getD 31
  let n := l.length
  let pmb := role (·.pmbEn)
  let rck := role (·.rckEn)
  let s := s.onFrm fun f =>
    { f with
      FORM_STATE := 2, FORM_ERR := 0, FORM_FMAJ := fmaj, FORM_FMIN := fmin, ROSTER := mask, size := n, formedAt := s.now
      attempt := attempt, ROLE_RECKONER := reck, ROLE_PMB := pmb, ROLE_RCK := rck, FSEQ := 0 }
  let s := s.event 0x0D10 [n, fmaj, fmin]
  let s := { s with frm.ROLE_HOPS := hopsNow s }.topology
  s.countersAtFormation

/-- HELLO_BROADCAST (R383): every 20 µs until formation ends. -/
def execHelloBroadcast (s : State) : Host.Outcome State Fault Refusal :=
  .next (
    if !frmAlive s || decide (2 ≤ s.frm.FORM_STATE) then s
    else if s.frm.FORM_STATE = 0 then
      let me := myPos s
      let s := s.memberMod me fun e => e.hello (frmMsg 0x02 me 31 (helloPay s))
      { s with frm.FORM_STATE := 1, frm.pos := [me], frm.rosterAt := s.now }.helloAll
    else if s.after s.frm.helloAt (20 * ticksPerUs) then s.helloAll
    else s)

/-- FORMATION_DECIDE (R383): the roster has been unchanged for 200 µs, and R387 names this member. -/
def execFormationDecide (s : State) : Host.Outcome State Fault Refusal :=
  .next (
    let l := s.frm.pos
    if frmAlive s && decide (s.frm.FORM_STATE = 1) && s.after s.frm.rosterAt (200 * ticksPerUs) && decide (reckonerOf s l = myPos s) then
      let err := rosterErr s l
      let v := frameVer s l
      let a := s.frm.attempt + 1
      let s := s.frmSend 1 0x03 31 (formedPay (posMask l) v.1 v.2 err l.length a)
      if err = 0 then s.formed (posMask l) v.1 v.2 a (myPos s) else s.formFail err v.1 v.2 l.length
    else s)

/-- A member that has left, or was never of the frame, sends HELLO to the reckoner: it is checked and answered alone
(R385, R400). [DEDUCED, log entry 44] -/
def State.join (s : State) (p : Nat) : State :=
  let l := (List.range 24).filter fun q => s.frm.ROSTER.testBit q || decide (q = p) || decide (q < s.frm.size)
  let maj := (memberOf s p).PEER_MAJOR
  let err := if maj < s.frm.FORM_FMAJ ∨ s.frm.FORM_FMAJ + 1 < maj then 8 else rosterErr s l
  let ans := fun (s : State) (e : Nat) =>
    s.frmSend 1 0x03 p (formedPay (posMask l) s.frm.FORM_FMAJ s.frm.FORM_FMIN e l.length s.frm.attempt)
  if err ≠ 0 then ans s err
  else
    let s := { s with frm.size := max s.frm.size (p + 1), frm.CNT2_JOINS := satAdd 16 s.frm.CNT2_JOINS 1 }
    let s := (s.memberMod p fun e => { e with joining := true, left := true }).topology
    (ans s 0).event 0x0D17 [p]

/-- A HELLO reaches the reckoner of a formed frame: from a member that is not of it, a join; from one that is, and that had
64 µs to receive FORMED, a disagreement within the 200 µs after it, up to the third attempt (R383).
[DEDUCED, log entry 44] -/
def State.helloFormed (s : State) (p : Nat) : State :=
  if !isReckoner s then s
  else if (memberOf s p).left || decide (s.frm.size ≤ p) then s.join p
  else if s.after s.frm.formedAt (64 * ticksPerUs) && !s.after s.frm.formedAt (200 * ticksPerUs) then
    (if s.frm.attempt < 3 then { s with frm.FORM_STATE := 1, frm.rosterAt := s.now }
     else (s.frmSend 1 0x03 31 (formedPay s.frm.ROSTER s.frm.FORM_FMAJ s.frm.FORM_FMIN 9 s.frm.size 3)).formFail 9 s.frm.FORM_FMAJ s.frm.FORM_FMIN s.frm.size)
  else s

/-- What a HELLO does (R382 to R384, R400): its sender is known on the link it came on, joins the roster, and is answered where
the frame has formed. -/
def State.helloMsg (s : State) (d : Dir) (m : BitVec 128) : State :=
  let p := mSrc m
  let e := memberOf s p
  if 24 ≤ p then s
  else if p = myPos s then (if s.frm.FORM_STATE = 1 ∧ helloDiffers e m = true then { s with frm.dup := true } else s)
  else
    let known := s.frm.pos.contains p
    let s := if known && decide (s.frm.FORM_STATE = 1) && helloDiffers e m then { s with frm.dup := true } else s
    let s := s.memberMod p fun e => e.hello m
    let s := if (s.link d).hello then s else s.linkMod d fun l => { l with hello := true, partner := p }
    let s := s.linkUp d
    let s := if known then s else { s with frm.pos := p :: s.frm.pos, frm.rosterAt := s.now }
    if s.frm.FORM_STATE = 2 then s.helloFormed p else s

/-- FRM_HELLO (R383, R400). -/
def execFrmHello (d : Dir) (m : BitVec 128) (s : State) : Host.Outcome State Fault Refusal :=
  .next (s.received d m 0x02 fun s => s.helloMsg d m)

/-- FRM_FORMED (R383, R384, R400): to every member, or to this one alone when it joins. -/
def execFrmFormed (d : Dir) (m : BitVec 128) (s : State) : Host.Outcome State Fault Refusal :=
  .next (s.received d m 0x03 fun s =>
    let mask := mf m 72 24
    let err := mf m 52 4
    let a := mf m 45 2
    let go := fun (s : State) (reck : Nat) => s.formed mask (mf m 64 8) (mf m 56 8) a reck
    if mDst m ≠ 31 then
      (if err ≠ 0 then s.formFail err (mf m 64 8) (mf m 56 8) (mf m 47 5)
       else { go s (mSrc m) with frm.joined := true, frm.firstShare := false, adm.SHARE := 0 })
    else if s.frm.FORM_STATE = 2 ∧ a ≤ s.frm.attempt ∧ err = 0 then s
    else if s.frm.FORM_STATE = 3 then s
    else if err ≠ 0 then s.formFail err (mf m 64 8) (mf m 56 8) (mf m 47 5)
    else if mask = posMask s.frm.pos then go s (reckonerOf s s.frm.pos)
    else { s with frm.FORM_STATE := 1 }.helloAll)

/-! ### Demand, shares, caps and loans -/

/-- SHARE_ACK with the share as applied (R393); major version 2 has none (R386). -/
def State.shareAck (s : State) (share : Nat) : State :=
  if s.frm.FORM_FMAJ = 2 then s else s.frmSend 1 0x0A 29 (s.tly.EPOCH_NUM * 2 ^ 88 + share * 2 ^ 54)

/-- FRM_SHARE (R176, R393): of the current epoch, applied and answered; of the next, held; of any other, discarded. -/
def execFrmShare (d : Dir) (m : BitVec 128) (s : State) : Host.Outcome State Fault Refusal :=
  .next (s.received d m 0x09 fun s =>
    let ep := mf m 88 8
    let share := mf m 54 32
    let floor := mf m 38 16
    if ep = s.tly.EPOCH_NUM then (s.applyShare share floor).shareAck share
    else if ep = (s.tly.EPOCH_NUM + 1) % 256 then { s with frm.shareNext := some (share, floor) }
    else s)

/-- FRM_SHARE_ACK (R393). -/
def execFrmShareAck (d : Dir) (m : BitVec 128) (s : State) : Host.Outcome State Fault Refusal :=
  .next (s.received d m 0x0A fun s => if isReckoner s && decide (mf m 88 8 = s.tly.EPOCH_NUM) then s.waveDrop (mSrc m) else s)

/-- FRM_DEMAND (R390). -/
def execFrmDemand (d : Dir) (m : BitVec 128) (s : State) : Host.Outcome State Fault Refusal :=
  .next (s.received d m 0x0B fun s => s.memberMod (mSrc m) fun e => { e with demand := some (mf m 54 32) })

/-- DEMAND_SEND (R390): 64 µs before the end of the epoch, once in it. -/
def execDemandSend (s : State) : Host.Outcome State Fault Refusal :=
  .next (
    if s.frm.FORM_STATE = 2 ∧ s.frm.demandSent = false ∧ s.tly.lenInForce ≤ s.usSince s.tly.bndAt + 64 then
      let v := sat 32 (max s.frm.peak (pBase s + pBooked s))
      let s := { s with frm.demandSent := true }
      if isReckoner s then s.memberMod (myPos s) fun e => { e with demand := some v }
      else s.frmSend 1 0x0B 29 (s.tly.EPOCH_NUM * 2 ^ 88 + v * 2 ^ 54)
    else s)

/-- FRM_CAP (R391). -/
def execFrmCap (d : Dir) (m : BitVec 128) (s : State) : Host.Outcome State Fault Refusal :=
  .next (s.received d m 0x0C fun s => (s.memberMod (mSrc m) fun e => { e with hostCap := mf m 64 32, rackCap := mf m 32 32 }).subFell)

/-- FRM_ASK (R175): a loan, or a decline of 0. -/
def execFrmAsk (d : Dir) (m : BitVec 128) (s : State) : Host.Outcome State Fault Refusal :=
  .next (s.received d m 0x10 fun s =>
    let p := mSrc m
    let a := lendable s (mf m 48 32)
    let q := ((memberOf s p).pseqTx + 1) % 256
    let s := if a = 0 then s else
      { s.memberMod p fun e => { e with pseqTx := q } with
        adm.LOAN_OUT := sat 32 (s.adm.LOAN_OUT + a), adm.LOAN_CNT_LENT := satAdd 16 s.adm.LOAN_CNT_LENT 1 }
    s.frmSend 1 0x11 p (s.tly.EPOCH_NUM * 2 ^ 88 + (if a = 0 then mf m 80 8 else q) * 2 ^ 80 + a * 2 ^ 48))

/-- FRM_LOAN (R176): applied once, in its epoch and outside the drain window. -/
def execFrmLoan (d : Dir) (m : BitVec 128) (s : State) : Host.Outcome State Fault Refusal :=
  .next (s.received d m 0x11 fun s =>
    let p := mSrc m
    let q := mf m 80 8
    let a := mf m 48 32
    let s := s.askDone
    if a = 0 then s
    else if decide (mf m 88 8 = s.tly.EPOCH_NUM) && !s.tly.EPOCH_DRAIN && !(memberOf s p).pseqRx.contains q then
      { s.memberMod p fun e => { e with pseqRx := q :: e.pseqRx } with adm.LOAN_IN := sat 32 (s.adm.LOAN_IN + a) }
    else { s with adm.LOAN_CNT_DISC := satAdd 16 s.adm.LOAN_CNT_DISC 1 }.event 0x0315 [p, mf m 88 8])

/-! ### Temperatures, input figures and counters -/

/-- FRM_THERMAL (R289): of the base die beneath this one alone. -/
def execFrmThermal (d : Dir) (m : BitVec 128) (s : State) : Host.Outcome State Fault Refusal :=
  .next (s.received d m 0x14 fun s =>
    if stacked s && decide (mSrc m = s.cmn.straps.below.toNat) && (decide (mf m 79 1 = 1) || decide (s.frm.FORM_FMAJ = 2)) then
      s.onThm fun t => { t with BELOW_T_BELOW := sextOf (mf m 80 16) 16, BELOW_AGE := 0, belowN := 0, STATE_BELOW_LOST := false }
    else s)

/-- The tick of a figure of an age in ms; none for a figure never formed. -/
def agedTick (s : State) (ms : Nat) : Option Nat := if ms = 0xFFFF then none else some (s.now - ms * ticksPerMs)

/-- FRM_INPUT (R363): from the PMB_EN member only. -/
def execFrmInput (d : Dir) (m : BitVec 128) (s : State) : Host.Outcome State Fault Refusal :=
  .next (s.received d m 0x15 fun s =>
    if mSrc m = s.frm.ROLE_PMB then
      { s with pmb.VIN_VIN := mf m 80 16, pmb.vinAt := agedTick s (mf m 64 16), pmb.IIN := mf m 48 16, pmb.iinAt := agedTick s (mf m 32 16) }
    else s)

/-- FRM_CTR_ID (R369): a request to the master; a write waits for its CTR_DATA. -/
def execFrmCtrId (d : Dir) (m : BitVec 128) (s : State) : Host.Outcome State Fault Refusal :=
  .next (s.received d m 0x16 fun s =>
    let w := decide (mf m 95 1 = 1)
    let q : CtrReq := { pos := mSrc m, id := mf m 31 64, write := w, ready := !w }
    if pmbMaster s then { s with pmb.reqs := s.pmb.reqs ++ [q] }.pmbNext else s)

/-- FRM_CTR_DATA (R369): what a member wants written, at the master; what was stored, at a member. -/
def execFrmCtrData (d : Dir) (m : BitVec 128) (s : State) : Host.Outcome State Fault Refusal :=
  .next (s.received d m 0x17 fun s =>
    let o := mf m 48 48
    let c := mf m 16 32
    if pmbMaster s then
      { s with pmb.reqs := s.pmb.reqs.map fun (q : CtrReq) =>
          if q.pos = mSrc m ∧ q.write = true ∧ q.ready = false then { q with ready := true, optime := o, pcycle := c } else q }.pmbNext
    else if mSrc m = s.frm.ROLE_PMB then { s with pmb.answer := some (o, c) } else s)

/-- FRM_CTR_STAT (R369): the answer is applied; restored counters are written back at once. -/
def execFrmCtrStat (d : Dir) (m : BitVec 128) (s : State) : Host.Outcome State Fault Refusal :=
  .next (s.received d m 0x18 fun s =>
    let st := mf m 94 2
    let a := s.pmb.answer.getD (0, 0)
    if mSrc m ≠ s.frm.ROLE_PMB ∨ st = 3 ∨ (st = 0 ∧ s.pmb.answer = none) then s
    else
      let s := { s with pmb.answer := none }.countersAnswer st a.1 a.2 (mf m 62 32)
      if st = 0 then s.counterAsk true else s)

/-- ISOLATION_CUT (R398): isolated for half of HOLD. -/
def execIsolationCut (s : State) : Host.Outcome State Fault Refusal :=
  .next (match s.frm.isoAt with
    | none => s
    | some t =>
      if s.frm.isoCut || !s.after t (s.frm.CFG * ticksPerMs / 2) then s
      else { s with adm.SHARE := min s.adm.SHARE (1000 * s.frm.floorRx), frm.isoCut := true }.fault pgFrm 21 0x0D19 [s.frm.floorRx])

/-! ### Crossings (R59, R334) -/

/-- A domain is clock-lost (R59): host access is lost with the network domain, the frame with the die-to-die domain.
[DEDUCED, log entry 46] -/
def State.clockLost (s : State) (c : Nat) : State :=
  if (clkOf s c).ST_LOST then s
  else
    let s := (s.clkMod c fun e => { e with ST_LOST := true, lostAt := s.now, lowAt := s.now }).fault pgClk 16 0x0A10 [c]
    let s := if c = s.cmn.straps.netCd.toNat then s.heartbeatLost 2 else s
    if c = s.cmn.straps.d2dCd.toNat then (s.linkDown .east).linkDown .west else s

/-- CROSSING_TIMEOUT (R59): a crossing has made no progress for 8 ticks. -/
def execCrossingTimeout (c : Fin 25) (s : State) : Host.Outcome State Fault Refusal :=
  .next (if s.rst.live then s.clockLost c.val else s)

/-- CLK_GEN_OK_LOW (R334): the generator lowers clk_gen_ok, and the domain is clock-lost. [DEDUCED, log entry 68] -/
def execClkGenOkLow (c : Fin 25) (s : State) : Host.Outcome State Fault Refusal :=
  .next (if s.rst.live then (s.clkMod c.val fun e => { e with genLow := true, lowAt := s.now }).clockLost c.val else s)

/-- CROSSING_RESUME (R59): clk_gen_ok has been high for 16 ticks; the crossing starts afresh. [DEDUCED, log entry 68] -/
def execCrossingResume (c : Fin 25) (s : State) : Host.Outcome State Fault Refusal :=
  .next (
    let e := clkOf s c.val
    if e.ST_LOST && s.rst.live && s.after e.lowAt 16 then
      let s := (s.clkMod c.val fun e => { e with ST_LOST := false, genLow := false }).event 0x0A11 [c.val, sat 16 (s.now - e.lostAt)]
      s
    else s)

end Sys2Proof.Machine
end

