-- ==== Sys2Proof/Machine/Reliability.lean ====
section
/-! DEFINITION. The scrubber (R484, R485), the array's self-test (R492) and the spare commands (R493, R494). -/

namespace Sys2Proof.Machine

open Sys2Proof

/-! ### Scrubbing -/

/-- The reads of a pass that each memory takes: every row and every spare row of memories 0 to 5, and the tally rows in
groups of 16 (R484). -/
def scrubSpan (k : Nat) : Nat := if k = 6 then 528 else memRows k + memSpares k

/-- The memory and the row that a position of the pass names. -/
def scrubPlace : Nat → Nat → Nat → Nat × Nat
  | 0, k, a => (k, a)
  | f + 1, k, a => if a < scrubSpan k then (k, a) else scrubPlace f (k + 1) (a - scrubSpan k)

/-- The reads of a full pass (R484): 16 244. -/
def scrubLen : Nat := ((List.range 7).map scrubSpan).foldl (· + ·) 0

/-- The row of memory k that a physical row serves: itself, unless it has moved; what has moved to the spare row. -/
def rowServed (s : State) (k a : Nat) : Option Nat :=
  let e := vAt s.rel.mem k {}
  if a < memRows k then (if memRead 0 e.maps a = 0 ∧ e.lost.contains a = false then some a else none)
  else (e.maps.find? fun (x : Nat × Nat) => decide (x.2 = a - memRows k + 1)).map fun (x : Nat × Nat) => x.1

/-- The logical tally row on a physical row (R161). -/
def tallyServed (s : State) (a : Nat) : Option Nat :=
  if 8192 ≤ a then (s.tly.maps.find? fun (x : Nat × Nat) => decide (x.2 = a - 8192 + 1)).map fun (x : Nat × Nat) => x.1
  else if s.tly.maps.any fun (x : Nat × Nat) => decide (x.1 = a) then none else some a

/-- A word that fails all its attempts is handled as if its consumer had read it (R479, R484): word `w` of row `a`. -/
def State.scrubBad (s : State) (k a w : Nat) (again : Bool) : State :=
  let found := fun (s : State) (restored : Bool) =>
    { s with rel.SCRUB_CNT_FOUND := satAdd 16 s.rel.SCRUB_CNT_FOUND 1,
             rel.SCRUB_CNT_RESTORED := if restored then satAdd 16 s.rel.SCRUB_CNT_RESTORED 1 else s.rel.SCRUB_CNT_RESTORED }
  if k = 6 then
    match tallyServed s (16 * a + w) with
    | some i => (found s false).rowFault i
    | none => s
  else
    match rowServed s k a with
    | none => s
    | some r =>
      match k with
      | 0 => ((found s false).wordRetired 3 r).stagingDamage r
      | 1 => (found s s.stg.holds).weightFault (64 * r + 4 * w) again
      | 2 =>
        let j := 16 * r + w
        let b := decide (2304 ≤ j)
        let s := found s s.stg.holds
        if b = s.ctl.BANK_ACTIVE then
          let s := if again then { s with ctl.restored := (j % 2304 / 144, j % 144) :: s.ctl.restored } else s
          s.coefFault (j % 2304 / 144) (j % 144)
        else if again then s.spareRow 2 r else s
      | 3 =>
        let s := found s s.stg.holds
        let s := if again then s.onThm fun t => { t with obsRestored := some (16 * r + w) } else s
        s.obsCoefFault (16 * r + w)
      | 4 =>
        let s := ((found s s.stg.holds).evalAbandon.histClear).wordRetired 2 (sat 16 (4096 * 16 + 16 * r + w))
        let s := if s.stg.holds then s.warmup else { s with fcs.wStuck := true }
        let s := if again then s.spareRow 4 r else s
        { s with fcs.wStuck := s.fcs.wStuck || weightRowLost s }.fcsSettle
      | _ => ((found s false).wordRetired 3 r).spareRow 5 r

/-- SCRUB_READ (R484): one row on every tick. [DEDUCED, log entry 54] -/
def execScrubRead (obs : ScrubObs) (s : State) : Host.Outcome State Fault Refusal :=
  .next (
    if !s.rst.started || decide (s.now < s.rel.scrubT + s.rel.scrubAt) then s
    else
      let p := scrubPlace 6 0 s.rel.scrubAt
      let s := if s.rel.scrubAt + 1 < scrubLen then { s with rel.scrubAt := s.rel.scrubAt + 1 }
        else { s with rel.scrubAt := 0, rel.scrubT := s.now + 1, rel.SCRUB_PASSES := satAdd 16 s.rel.SCRUB_PASSES 1,
                      rel.SCRUB_LAST := sat 16 ((s.now + 1 - s.rel.scrubT) / 40) }
      match obs with
      | .clean => s
      | .replayed => s.wordReplayed
      | .bad w again => s.scrubBad p.1 p.2 w.toNat again)

/-! ### The array's self-test -/

/-- ARRAY_SELF_TEST_TILE (R492): a lane whose tile still fails after its replays is retired at the next tick; a spare that
fails is never brought into use. [DEDUCED, log entry 55] -/
def execArraySelfTestTile (lane : Fin 18) (pass : Bool) (s : State) : Host.Outcome State Fault Refusal :=
  .next (
    if pass || !s.rst.started || s.ctl.MU_LANES.testBit lane.val || s.ctl.retireDue.contains lane.val then s
    else { s with ctl.retireDue := s.ctl.retireDue ++ [lane.val] })

/-! ### Spare commands (R493, R494) -/

/-- The instance's state admits a kind of spare command (R493). -/
def relStateOk (s : State) (kind : Nat) : Bool :=
  let x := shownState s
  match kind with
  | 1 => decide (x ≤ 1)
  | 2 => decide (x ≠ stTripped)
  | 3 => decide (x < 5)
  | 5 => decide (x ≠ stTripped)
  | 6 => true
  | _ => false

/-- The write of REL_SPARE_CMD is refused with status 2 (R493). -/
def relRefused (s : State) (kind : Nat) : Bool := s.rel.cmd.isSome || !relStateOk s kind

/-- The item of a command can take it: INDEX in range, OP defined, and the item not already in the state asked for (R493).
[DEDUCED, log entry 56] -/
def relFits (s : State) (kind op i : Nat) : Bool :=
  let st := fun (n : Nat) (off : Bool) => decide (i < n) && ((decide (op = 1) && !off) || (decide (op = 2) && off))
  match kind with
  | 1 => st 64 (detOf s i).DD_FAILED
  | 2 => st 24 (tsOf s i).TS_FAILED
  | 3 => st 18 (s.ctl.MU_LANES.testBit i)
  | 5 => decide (i % 16 < 12) && st 256 ((vrgOf s (i / 16)).PHST_FAULTY.testBit (i % 16))
  | _ => decide (op = 2) && decide (i < 16) && (vAt s.rel.wear i {}).WEAR_FAILED

/-- A spare is free for the item (R490). [DEDUCED, log entry 56] -/
def relSpareFree (s : State) (kind i : Nat) : Bool :=
  match kind with
  | 1 => let e := detOf s (64 + i / 8); !e.DD_FAILED && !e.DD_SUBST && decide (e.want = 127)
  | 2 => let e := tsOf s (24 + i / 4); !e.TS_FAILED && decide (e.TS_SERVES = 255)
  | 3 => decide (s.ctl.MU_SPARE_FREE ≠ 0) || decide (16 < s.ctl.MU_ACTIVE)
  | _ =>
    let r := i / 16
    let t := s.vrgMod r fun e => { e with PHST_FAULTY := putBit e.PHST_FAULTY (i % 16) true }
    decide (popcount 12 (phaseMap s r) ≤ popcount 12 (phaseMap t r))

/-- A spare command starts (R493). -/
def State.relStart (s : State) (kind op i : Nat) : State :=
  { s with rel.cmd := some { kind := kind, op := op, index := i, fits := relFits s kind op i }, rel.SPARE_CMD_GO := true,
           rel.SPARE_CMD_OP := op, rel.SPARE_CMD_KIND := kind, rel.SPARE_CMD_INDEX := i, rel.SPARE_STAT_DONE := false }

/-- OP 1 on an item that fits, with a free spare (R493). -/
def State.relSubst (s : State) (kind i : Nat) : State :=
  match kind with
  | 1 => (s.failDet i 5).beamSettle.settle 0x041D
  | 2 => (s.sensorFail i 5).sensorSubst (i / 4)
  | 3 => { s with ctl.retireDue := s.ctl.retireDue ++ [i] }
  | _ => s.phaseFault (i / 16) (i % 16)

/-- OP 2 on an item that fits and has passed its test (R493). [DEDUCED, log entry 65] -/
def State.relRestore (s : State) (kind i : Nat) : State :=
  match kind with
  | 1 =>
    let j := 64 + i / 8
    let s := if (detOf s j).DD_SERVES = i then
        { s.detMod j fun e => { e with DD_SERVES := 127, DD_SUBST := false } with rel.SPARE_USE_DD_FREE := s.rel.SPARE_USE_DD_FREE + 1 }
      else if (detOf s j).want = i then s.detMod j fun e => { e with want := 127 } else s
    ((s.detMod i fun e => { e with DD_FAILED := false, DD_SUBST := false, stuck := 0 }).beamSettle).settle 0x1419
  | 2 =>
    let g := i / 4
    let s := s.tsMod i fun e => { e with TS_FAILED := false, TS_REASON := 0, rangeBad := 0 }
    let s := if (tsOf s (24 + g)).TS_SERVES = i then s.tsMod (24 + g) fun e => { e with TS_SERVES := 255 } else s
    (s.tsCount.grpMod g fun e => { e with diff := none }).settle 0x1419
  | 3 => ((({ s with ctl.MU_LANES := putBit s.ctl.MU_LANES i false }.lanesChanged 0x0514).fcsBound).fcsSettle)
  | 5 =>
    let r := i / 16
    let old := phaseMap s r
    (s.vrgMod r fun e => { e with PHST_FAULTY := putBit e.PHST_FAULTY (i % 16) false }).phasesChanged r old none |>.settle 0x1419
  | _ => s.wearMod i fun e => { e with WEAR_FAILED := false, WEAR_INIT := true, hist := [], n := 0, low := 0, g := 0, limit := false }

/-- SPARE_CMD_COMPLETE (R493, R494): ST 3 where the command did not apply, 2 where the item failed its test or faulted
meanwhile, 1 with no free spare, 0 done. [DEDUCED, log entry 56] -/
def execSpareCmdComplete (pass : Bool) (s : State) : Host.Outcome State Fault Refusal :=
  .next (match s.rel.cmd with
    | none => s
    | some c =>
      let now := relFits s c.kind c.op c.index
      let st := if !c.fits then 3
        else if !now then 2
        else if c.op = 1 then (if relSpareFree s c.kind c.index then 0 else 1)
        else if pass || decide (5 ≤ c.kind) then 0 else 2
      let s := if st ≠ 0 then s else if c.op = 1 then s.relSubst c.kind c.index else s.relRestore c.kind c.index
      { s with rel.cmd := none, rel.SPARE_CMD_GO := false, rel.SPARE_STAT_DONE := true, rel.SPARE_STAT_ST := st,
               rel.SPARE_STAT_KIND := c.kind, rel.SPARE_STAT_INDEX := c.index }.event 0x1419 [c.kind, c.index, st])

end Sys2Proof.Machine
end

