-- ==== Sys2Proof/Machine/Image.lean ====
section
/-! DEFINITION. The policy image in staging (R464 to R466): its header, directory, sections and check; the commit rules that
other chapters give (R192, R199, R226, R237, R251, R263, R291, R309, R324, R392, R409, R431, R463); and the clamping of its
values at the fuse figures (R33, R197, R467). -/

namespace Sys2Proof.Machine

open Sys2Proof

/-! ### Header, key and check -/

/-- LEN of the header (R464). -/
def imgLen (m : List Host.Cell) : Nat := stgWord m 8 4

/-- WLEN of the header (R464). -/
def imgWlen (m : List Host.Cell) : Nat := stgWord m 12 4

/-- NSEC of the header (R464). -/
def imgNsec (m : List Host.Cell) : Nat := stgWord m 20 2

/-- The `n` bytes of staging from `a` are 0. -/
def stgZero (m : List Host.Cell) (a n : Nat) : Bool :=
  m.all fun x => decide (x.1 < a) || decide (a + n ≤ x.1) || decide (x.2 = 0)

/-- The header is valid (R464): status 0x20 where it is not. -/
def imgHeaderOk (m : List Host.Cell) : Bool :=
  decide (stgBytes m 0 5 = [0x4C, 0x59, 0x49, 0x4D, 0x03]) &&
  decide (128 ≤ imgLen m ∧ imgLen m ≤ 262144 ∧ imgLen m % 64 = 0) &&
  decide (imgWlen m ≤ 262144 ∧ imgWlen m % 1024 = 0) &&
  decide (1 ≤ imgNsec m ∧ imgNsec m ≤ 64) && stgZero m 22 42 && stgZero m (imgLen m - 16) 16

/-- The image is for this block's versions and die kind (R464): status 0x21 where it is not. -/
def imgVersionOk (s : State) : Bool :=
  let k := stgWord s.stg.mem 7 1
  decide (stgWord s.stg.mem 5 1 = blkMajor) && decide (stgWord s.stg.mem 6 1 ≤ blkMinor) &&
  (decide (k = 2) || decide (k = b2n s.cmn.straps.dieKind))

/-- The bytes that the image check covers (R466). -/
def imgMessage (m : List Host.Cell) : List Nat :=
  0x49 :: stgBytes m 0 (imgLen m - 32) ++ stgBytes m weightBase (imgWlen m)

/-- The image check holds under the image key slot (R466). -/
def imgCheckOk (s : State) : Bool :=
  decide (hmac128 (s.key 3) (imgMessage s.stg.mem) = stgWord s.stg.mem (imgLen s.stg.mem - 32) 16)

/-! ### Sections -/

/-- An entry of the section directory (R464). -/
structure ImgSec where
  page : Nat
  kind : Nat
  arr  : Nat
  off  : Nat
  len  : Nat
  deriving DecidableEq, Repr, Inhabited

/-- Entry `i` of the directory. -/
def imgSec (m : List Host.Cell) (i : Nat) : ImgSec :=
  let a := 64 + 16 * i
  { page := stgWord m a 1, kind := stgWord m (a + 1) 1, arr := stgWord m (a + 2) 2, off := stgWord m (a + 4) 4, len := stgWord m (a + 8) 4 }

/-- The directory. -/
def imgSecs (m : List Host.Cell) : List ImgSec := (List.range (imgNsec m)).map (imgSec m)

/-- The image mask of a register of a page: none where the register has no image field (R465). -/
def imgMask (page off : Nat) : Option Nat :=
  match page with
  | 3 => imgMaskAdm off
  | 4 => imgMaskBeam off
  | 5 => imgMaskCtl off
  | 6 => imgMaskFcs off
  | 7 => imgMaskThm off
  | 9 => imgMaskDom off
  | 10 => imgMaskClk off
  | 11 => imgMaskVrg off
  | 12 => imgMaskPmb off
  | 13 => imgMaskFrm off
  | 14 => imgMaskTre off
  | 15 => imgMaskMbx off
  | 20 => imgMaskRel off
  | _ => none

/-- The records of a register-word section: page, offset, value (R465). -/
def secRegs (m : List Host.Cell) (x : ImgSec) : List (Nat × Nat × Nat) :=
  (List.range (x.len / 8)).map fun i => (x.page, stgWord m (x.off + 8 * i) 4, stgWord m (x.off + 8 * i + 4) 4)

/-- A record names a register with an image field, and every other bit of its value is 0 (R465). -/
def regRecOk (x : Nat × Nat × Nat) : Bool :=
  match imgMask x.1 x.2.1 with
  | some k => decide (x.2.2 &&& k = x.2.2)
  | none => false

/-- The sparse array of `n` elements of `w` bytes at `a`, each cut to `len` bits. [DEDUCED, log entry 22] -/
def secArray (m : List Host.Cell) (a w n len : Nat) : List (Nat × Nat) :=
  (List.range n).filterMap fun i => let v := stgWord m (a + w * i) w % 2 ^ len; if v = 0 then none else some (i, v)

/-- Every register-word record of the image. -/
def imgRegs (m : List Host.Cell) : List (Nat × Nat × Nat) := ((imgSecs m).filter fun x => x.kind = 0).flatMap (secRegs m)

/-- The model that the image's records give (R263). -/
def imgModel (regs : List (Nat × Nat × Nat)) : Fcs := imgFcs { regs := regs } {}

/-- The layers of a model. -/
def modelLayers (f : Fcs) : List FcsLayer := (List.range (min 6 f.MODEL_LAYERS)).map fun l => vAt f.layer l {}

/-- Bias words of a model (R465). -/
def biasCount (f : Fcs) : Nat := ((modelLayers f).map cOut).foldl (· + ·) 0

/-- The page and the length of an array section (R465). -/
def arrayShape (f : Fcs) (arr : Nat) : Option (Nat × Nat) :=
  match arr with
  | 1 => some (3, 16384)
  | 2 => some (4, 128)
  | 3 => some (4, 8)
  | 4 => some (5, 9216)
  | 5 => some (7, 49152)
  | 6 => some (6, 4 * biasCount f)
  | _ => none

/-- The content of a section is valid (R465). [DEDUCED, log entry 22] -/
def secContentOk (m : List Host.Cell) (f : Fcs) (x : ImgSec) : Bool :=
  if x.kind = 0 then decide (x.len % 8 = 0) && (secRegs m x).all regRecOk
  else decide (arrayShape f x.arr = some (x.page, x.len)) &&
    (decide (x.arr ≠ 2) || (List.range 16).all fun r =>
      decide (bitsOf (stgWord m (x.off + 8 * r) 8) 53 11 = 0))

/-- A section's entry is valid, and it lies between the directory and the check (R464). -/
def secPlaceOk (m : List Host.Cell) (i : Nat) : Bool :=
  let x := imgSec m i
  decide (1 ≤ x.page ∧ x.page ≤ 0x16 ∧ x.kind ≤ 1 ∧ x.off % 4 = 0) && decide (64 + 16 * imgNsec m ≤ x.off) &&
  decide (x.off + x.len + 32 ≤ imgLen m) && stgZero m (64 + 16 * i + 12) 4

/-- Two sections do not overlap. -/
def secApart (x y : ImgSec) : Bool := decide (x.off + x.len ≤ y.off) || decide (y.off + y.len ≤ x.off)

/-- No two of the sections overlap. -/
def secsApart : List ImgSec → Bool
  | [] => true
  | x :: l => l.all (secApart x) && secsApart l

/-- The directory and the sections are valid (R464, R465): status 0x24 where they are not. [DEDUCED, log entry 22] -/
def imgSectionsOk (m : List Host.Cell) : Bool :=
  (List.range (imgNsec m)).all (secPlaceOk m) && secsApart (imgSecs m) &&
  (imgSecs m).all (secContentOk m (imgModel (imgRegs m)))

/-- The biases by layer and channel, from a run of 4-byte words (R465). -/
def biasArray (m : List Host.Cell) : Nat → Nat → List FcsLayer → List (Nat × Nat)
  | _, _, [] => []
  | a, l, e :: es =>
    ((List.range (cOut e)).filterMap fun c => let v := stgWord m (a + 4 * c) 4; if v = 0 then none else some (512 * l + c, v)) ++
      biasArray m (a + 4 * cOut e) (l + 1) es

/-- One array section joins the image. [DEDUCED, log entry 24] -/
def Image.withArray (m : List Host.Cell) (f : Fcs) (im : Image) (x : ImgSec) : Image :=
  match x.arr with
  | 1 => { im with unit := secArray m x.off 4 4096 32, hasUnit := true }
  | 2 => { im with rail := secArray m x.off 8 16 64, hasRail := true }
  | 3 => { im with die := some (stgWord m x.off 8) }
  | 4 => { im with coef := secArray m x.off 4 2304 24, hasCoef := true }
  | 5 => { im with obs := secArray m x.off 4 12288 24, hasObs := true }
  | 6 => { im with bias := biasArray m x.off 0 (modelLayers f), hasBias := true }
  | _ => im

/-- The image in staging as its sections give it (R464, R465). [DEDUCED, log entry 24] -/
def readImage (m : List Host.Cell) : Image :=
  let regs := imgRegs m
  ((imgSecs m).filter fun x => x.kind = 1).foldl (Image.withArray m (imgModel regs))
    { id := stgWord m 16 4, len := imgLen m, wlen := imgWlen m, regs := regs }

/-! ### Reserved values (R27) -/

/-- An image field for which its page states a range, and no rule of a commit refuses a value outside it: the page, the
offset of the register, the step and number of its repetitions, the field's bits, the range, and the Cold value. -/
structure RangedField where
  page   : Nat
  base   : Nat
  stride : Nat
  count  : Nat
  lo     : Nat
  len    : Nat
  least  : Nat
  most   : Nat
  cold   : Nat
  deriving DecidableEq, Repr

/-- The ranged image fields of the register tables. -/
def rangedFields : List RangedField :=
  [⟨5, 0x54, 4, 1, 0, 16, 1, 1000, 0⟩, ⟨7, 0x50, 4, 1, 20, 4, 0, 8, 0⟩, ⟨7, 0x54, 4, 1, 24, 8, 1, 255, 0⟩, ⟨7, 0x120, 4, 6, 27, 4, 0, 11, 0⟩,
   ⟨9, 0x100, 16, 50, 20, 8, 1, 255, 0⟩, ⟨9, 0x100, 16, 50, 0, 10, 1, 1000, 50⟩, ⟨9, 0x104, 16, 50, 24, 8, 1, 255, 0⟩,
   ⟨9, 0x104, 16, 50, 16, 8, 1, 255, 0⟩, ⟨10, 0x100, 16, 25, 16, 8, 4, 255, 16⟩, ⟨10, 0x100, 16, 25, 8, 8, 1, 255, 4⟩,
   ⟨12, 0x40, 4, 1, 8, 8, 1, 100, 10⟩, ⟨13, 0x5C, 4, 1, 0, 8, 1, 255, 2⟩, ⟨14, 0x50, 4, 1, 8, 8, 1, 255, 4⟩, ⟨14, 0x50, 4, 1, 0, 8, 10, 100, 20⟩,
   ⟨20, 0x5C, 4, 1, 0, 4, 1, 14, 8⟩]

/-- One record with one field's reserved value at the field's Cold value, and whether it held one. -/
def resvOne (y : (Nat × Nat × Nat) × Bool) (f : RangedField) : (Nat × Nat × Nat) × Bool :=
  let x := y.1
  if x.1 = f.page ∧ (indexAt x.2.1 f.base f.stride f.count).isSome then
    let v := bitsOf x.2.2 f.lo f.len
    if f.least ≤ v ∧ v ≤ f.most then y else ((x.1, x.2.1, x.2.2 - v * 2 ^ f.lo + f.cold * 2 ^ f.lo), true)
  else y

/-- The image with every reserved value at its field's Cold value, and the registers that held one: page and word index
(R27, R109). [DEDUCED, log entry 25] -/
def resvImage (im : Image) : Image × List (Nat × Nat) :=
  let g := im.regs.map fun x => rangedFields.foldl resvOne (x, false)
  ({ im with regs := g.map (·.1) }, (g.filter (·.2)).map fun y => (y.1.1, y.1.2.1 / 4))

/-- The image that a commit takes from staging. -/
def stagedImage (m : List Host.Cell) : Image := (resvImage (readImage m)).1

/-! ### The image's figures -/

/-- The records of one page set its image fields, from their Cold values (R465). -/
def imgPage {α : Type} (im : Image) (page : Nat) (set : Nat → Nat → α → α) (cold : α) : α :=
  (im.regs.filter fun x => x.1 = page).foldl (fun p x => set x.2.1 x.2.2 p) cold

/-- A rail's current cap, 100 mA; 0 = no value (R465). -/
def imgRailI (im : Image) (r : Nat) : Nat := if im.hasRail then bitsOf (memRead 0 im.rail r) 0 12 else 0

/-- A rail's V_MAX code; 255 = no value. -/
def imgRailVmax (im : Image) (r : Nat) : Nat := if im.hasRail then bitsOf (memRead 0 im.rail r) 12 8 else 255

/-- A rail's V_MIN code; 0 = no value. -/
def imgRailVmin (im : Image) (r : Nat) : Nat := if im.hasRail then bitsOf (memRead 0 im.rail r) 20 8 else 0

/-- A rail's DSET_IMG. -/
def imgRailDset (im : Image) (r : Nat) : Nat := if im.hasRail then bitsOf (memRead 0 im.rail r) 28 25 else 0

/-- A die figure of `len` bits at `lo`; 0 = no value. -/
def imgDie (im : Image) (lo len : Nat) : Nat := bitsOf (im.die.getD 0) lo len

/-- A rail's V_MIN_eff with the image in force (R197). -/
def vMinWith (s : State) (im : Image) (r : Nat) : Nat := max (fuseRail s r).vMin.toNat (imgRailVmin im r)

/-- A rail's V_MAX_eff with the image in force (R197). -/
def vMaxWith (s : State) (im : Image) (r : Nat) : Nat :=
  if imgRailVmax im r = 255 then (fuseRail s r).vMax.toNat else min (fuseRail s r).vMax.toNat (imgRailVmax im r)

/-! ### The rules of a commit -/

/-- Rails that are present. -/
def presentRails (s : State) : List Nat := (List.range 16).filter fun r => !railAbsent s r

/-- A coefficient index belongs to a row or a column of a state at or above `n` (R226, R227). -/
def coefBeyond (n i : Nat) : Bool :=
  if i < 64 then decide (n ≤ i / 8) || decide (n ≤ i % 8)
  else if i < 96 then decide (n ≤ (i - 64) / 4)
  else if i < 112 then decide (n ≤ (i - 96) / 2)
  else if i < 128 then decide (n ≤ (i - 112) % 8)
  else if i < 136 then false
  else decide (n ≤ i - 136)

/-- The control-law rules (R226, R237, R251): status 0x31. -/
def ruleLaw (im : Image) : Bool :=
  let c := imgPage im 5 imgSetCtl ({} : Ctl)
  (List.range 16).all (fun r =>
    let e := vAt c.rail r {}
    decide (e.CFG_NSTATE ≤ 8) && decide (e.LIM_DMIN ≤ 0) && decide (0 ≤ e.LIM_DMAX) && decide (e.LIM_G_HARV ≤ e.LIM_G_FULL)) &&
  im.coef.all fun x => !coefBeyond (vAt c.rail (x.1 / 144) {}).CFG_NSTATE (x.1 % 144)

/-- The beam rule (R199): status 0x32. [DEDUCED, log entry 23] -/
def ruleBeam (s : State) (im : Image) : Bool :=
  let b := imgPage im 4 imgSetBeam ({} : Beam)
  (presentRails s).all fun r =>
    decide (vMinWith s im r + 5 ≤ vMaxWith s im r) &&
    (List.range 4).all fun j => decide (max (fuseRail s r).dtMin.toNat (vAt b.det (4 * r + j) {}).DD_CODE_IMG + 3 ≤ vMinWith s im r)

/-- Each layer takes what the one before it gives (R263). -/
def layersChain : Nat → List FcsLayer → Bool
  | _, [] => true
  | c, e :: es => decide (cIn e = c) && layersChain (cOut e) es

/-- The forecaster's limits (R263, R268), and WLEN (R463): status 0x33. [DEDUCED, log entry 22] -/
def ruleModel (im : Image) : Bool :=
  let f := imgModel im.regs
  let ls := modelLayers f
  if f.MODEL_LAYERS = 0 then decide (im.wlen = 0)
  else
    let w := (ls.map fun e => kernel e * cIn e * cOut e).foldl (· + ·) 0
    let rf := 1 + (ls.map fun e => (kernel e - 1) * dilation e).foldl (· + ·) 0
    decide (f.MODEL_LAYERS ≤ 6) && layersChain 128 ls &&
    (match ls.getLast? with | some e => decide (cOut e = 64) && !e.LAYER_A_ACT | none => false) &&
    ls.all (fun e => decide (cIn e ≤ 512 ∧ cOut e ≤ 512 ∧ e.LAYER_A_DLOG ≤ 4 ∧ 1 ≤ e.LAYER_B_MULT ∧ 16 ≤ e.LAYER_A_SHIFT)) &&
    decide (rf ≤ 64 ∧ f.MODEL_RF = rf) && decide (w ≤ 262144 ∧ f.MACS = w ∧ im.wlen = w) &&
    decide ((ls.map fun e => ((kernel e - 1) * dilation e + 1) * cIn e).foldl (· + ·) 0 ≤ 65536) &&
    decide (2 * w + (70 + 20 * f.MODEL_LAYERS) * 825 ≤ 900 * 825)

/-- The thermal rules (R291, R309): status 0x34. [DEDUCED, log entry 23] -/
def ruleThermal (s : State) (im : Image) : Bool :=
  let t := imgPage im 7 imgSetThm ({} : Thm)
  let trip := minSrc s.cmn.fuses.tTrip.toNat (imgDie im 16 8)
  let rate := minSrc s.cmn.fuses.tRate.toNat (imgDie im 24 8)
  let stack := min2 s.cmn.fuses.tStack.toNat (imgDie im 32 8)
  let n := t.OBS_NNODE
  decide (t.LVL0_T_L < (if t.LVL0_T_HOT = 0 then t.LVL0_T_SHUT else t.LVL0_T_HOT)) &&
  decide (t.LVL0_T_HOT < t.LVL0_T_SHUT ∧ t.LVL0_T_SHUT + 8 ≤ 4 * trip) &&
  decide (t.LVL1_T_RESTART + 40 ≤ t.LVL0_T_SHUT) && decide (t.LADDER_RATE_STEP < rate) &&
  decide (20 ≤ t.LVL1_RESTART_HOLD ∧ 1 ≤ t.LADDER_STEP) &&
  decide (t.BANDS_B_REF2X < t.BANDS_B_REF4X ∧ 4 * t.BANDS_B_REF4X ≤ t.LVL1_S_SHUT) &&
  (decide (stack = 0) || decide (t.LVL1_S_SHUT + 8 ≤ 4 * stack)) &&
  decide (t.BANDS2 + 10 ≤ (t.BANDS_B_G_MID : Int)) && decide (t.BANDS_B_G_MID < t.BANDS_B_G_HIGH) &&
  (List.range 12).all (fun k => !supervised s k || (List.range 6).any fun g =>
    let e := vAt t.grp g {}
    e.GMAP_STK_V && decide (e.GMAP_STK = k)) &&
  decide (n ≤ 96) &&
  (decide (n = 0) ||
    ((List.range 24).all (fun p => decide (bitsOf (vAt t.snode (p / 4) {}).SNODE (8 * (p % 4)) 7 < n)) &&
     (List.range 32).all (fun v => let k := (vAt t.vs v {}).VS_NODE; decide (k = 127) || decide (k < n)))) &&
  im.obs.all fun x => decide (x.1 / 128 < n) && (decide (96 ≤ x.1 % 128) || decide (x.1 % 128 < n))

/-- The domain rule (R324): status 0x35. -/
def ruleDomain (im : Image) : Bool :=
  let d := imgPage im 9 imgSetDom ({} : Dom)
  (List.range 50).all fun i =>
    let e := vAt d.dom i {}
    decide (e.CFG_COST ≤ (vAt d.rail e.CFG_RAIL {}).INR_RAIL_POOL) && decide (e.CFG_COST ≤ d.INR_DIE_POOL)

/-- The frame and tree rules (R392, R409): status 0x36. -/
def ruleFrame (im : Image) : Bool :=
  let f := imgPage im 13 imgSetFrm ({} : Frm)
  let t := imgPage im 14 imgSetTre ({} : Tre)
  (List.range 24).all (fun m => let e := vAt f.member m {}; decide (1 ≤ e.MEMBER_FLOOR ∧ e.MEMBER_FLOOR ≤ e.MEMBER_MAX)) &&
  decide (16 * t.CFG_POLL ≤ 100 * t.CFG_HOLD)

/-- The phase rule (R463): status 0x37. -/
def rulePhase (s : State) (im : Image) : Bool :=
  let v := imgPage im 11 imgSetVrg ({} : Vrg)
  (List.range 16).all fun r =>
    let e := vAt v.rail r {}
    decide (e.PHCFG_PRIM &&& e.PHCFG_SPARE = 0) && (railAbsent s r || decide (e.PHCFG_PRIM ≠ 0))

/-- The host rule (R431, R463): status 0x38. -/
def ruleHost (im : Image) : Bool :=
  let b := imgPage im 15 imgSetMbx ({} : Mbx)
  decide (b.ORPH_FLOOR ≠ 0) && decide (10 ≤ b.HB_CFG ∧ b.HB_CFG ≤ 60000)

/-- The admission rule (R192): status 0x39. -/
def ruleAdmission (s : State) (im : Image) : Bool :=
  let a := imgPage im 3 imgSetAdm ({} : Adm)
  (presentRails s).all (fun r => let e := vAt a.rail r {}; decide (1 ≤ e.RAIL_W ∧ 2 ≤ e.RAIL_TOL)) &&
  decide (1 ≤ a.POLICY_BACKOFF ∧ a.POLICY_BACKOFF ≤ 30)

/-- The first check of a commit that fails, in the order of the codes of R463 (R467). -/
def commitCheck (s : State) : Option Nat :=
  let m := s.stg.mem
  if !imgHeaderOk m then some 0x20
  else if !imgVersionOk s then some 0x21
  else if !vAt s.cmn.fuses.keyCrc 3 false then some 0x22
  else if !imgCheckOk s then some 0x23
  else if !imgSectionsOk m then some 0x24
  else
    let im := stagedImage m
    if !ruleLaw im then some 0x31
    else if !ruleBeam s im then some 0x32
    else if !ruleModel im then some 0x33
    else if !ruleThermal s im then some 0x34
    else if !ruleDomain im then some 0x35
    else if !ruleFrame im then some 0x36
    else if !rulePhase s im then some 0x37
    else if !ruleHost im then some 0x38
    else if !ruleAdmission s im then some 0x39
    else none

/-! ### Clamping at the fuse figures (R33, R197, R467) -/

/-- A presented ceiling above the fuse ceiling. [DEDUCED, log entry 23] -/
def overFuse (none_ v f : Nat) : Bool := decide (v ≠ none_) && decide (f < v)

/-- The rail figures held at the fuse values: the 64-bit element, and the quantities of R197 that were clamped.
[DEDUCED, log entry 23] -/
def clampRail (f : FuseRail) (w : Nat) : Nat × List Nat :=
  let i := bitsOf w 0 12
  let hi := bitsOf w 12 8
  let lo := bitsOf w 20 8
  let ci := overFuse 0 i f.iCeil.toNat
  let ch := overFuse 255 hi f.vMax.toNat
  let cl := decide (lo ≠ 0) && decide (lo < f.vMin.toNat)
  ((if ci then f.iCeil.toNat else i) + (if ch then f.vMax.toNat else hi) * 2 ^ 12 + (if cl then f.vMin.toNat else lo) * 2 ^ 20 +
    w >>> 28 * 2 ^ 28, (if ci then [1] else []) ++ (if ch then [4] else []) ++ (if cl then [5] else []))

/-- The die figures held at the fuse values, and the quantities that were clamped: 2 the power, 7 a trip figure.
[DEDUCED, log entry 23] -/
def clampDie (f : Fuses) (w : Nat) : Nat × List Nat :=
  let p := bitsOf w 0 16
  let t := bitsOf w 16 8
  let q := bitsOf w 24 8
  let k := bitsOf w 32 8
  let cp := overFuse 0 p f.pDie.toNat
  let ct := overFuse 0 t f.tTrip.toNat
  let cq := overFuse 0 q f.tRate.toNat
  let ck := decide (f.tStack ≠ 0) && overFuse 0 k f.tStack.toNat
  ((if cp then f.pDie.toNat else p) + (if ct then f.tTrip.toNat else t) * 2 ^ 16 + (if cq then f.tRate.toNat else q) * 2 ^ 24 +
    (if ck then f.tStack.toNat else k) * 2 ^ 32,
   (if cp then [2] else []) ++ (if ct then [7] else []) ++ (if cq then [7] else []) ++ (if ck then [7] else []))

/-- One register-word record held at its fuse figure: a detector code below DT_MIN of its rail, or a package cap above
P_PKG; with the quantity and the element where it was clamped. -/
def clampReg (s : State) (x : Nat × Nat × Nat) : (Nat × Nat × Nat) × List (Nat × Nat) :=
  if x.1 = 4 then
    match indexAt x.2.1 0x300 4 64 with
    | some d =>
      let c := bitsOf x.2.2 16 8
      let f := (fuseRail s (detRail d)).dtMin.toNat
      if c ≠ 0 ∧ c < f ∧ railAbsent s (detRail d) = false then ((x.1, x.2.1, f * 2 ^ 16), [(6, d)]) else (x, [])
    | none => (x, [])
  else if x.1 = 13 ∧ x.2.1 = 0x60 ∧ s.cmn.fuses.pPkg.toNat < x.2.2 then
    ((x.1, x.2.1, s.cmn.fuses.pPkg.toNat), [(3, 0xFF)])
  else (x, [])

/-- The image with every value held at its fuse figure, and the clamps made: quantity, and rail or detector.
[DEDUCED, log entry 24] -/
def clampImage (s : State) (im : Image) : Image × List (Nat × Nat) :=
  let rs := im.rail.map fun x => (x.1, clampRail (fuseRail s x.1) x.2)
  let rails := rs.filter fun x => !railAbsent s x.1
  let d := clampDie s.cmn.fuses (im.die.getD 0)
  let g := im.regs.map (clampReg s)
  ({ im with rail := im.rail.map fun x => if railAbsent s x.1 then x else (x.1, (clampRail (fuseRail s x.1) x.2).1),
             die := im.die.map fun _ => d.1, regs := g.map (·.1) },
   rails.flatMap (fun x => x.2.2.map fun q => (q, x.1)) ++ d.2.map (fun q => (q, 0xFF)) ++ g.flatMap (·.2))

end Sys2Proof.Machine
end

