-- ==== Sys2Proof/Machine/Rack.lean ====
section
/-! DEFINITION. The rack port (13_host_and_rack.md, R437 to R443): the common command codes of its I3C target, requests and
their checks, and replies. -/

namespace Sys2Proof.Machine

open Sys2Proof

/-- The rack page changed by `f`. -/
def State.onRck (s : State) (f : Rck → Rck) : State := { s with rck := f s.rck }

/-- The port is live (R75, R89, R456). -/
def rckUp (s : State) : Bool := s.cmn.straps.rckEn && s.rst.live && !s.rst.vioLow

/-! ### Replies (R438) -/

/-- A reply to the request of bytes `bs` is prepared: it takes the next reply counter, and replaces an unread one. -/
def State.rackReply (s : State) (bs : List Nat) (st : Nat) (pay : List Nat) : State :=
  let c := (s.aut.RK_OUT + 1) % 2 ^ 64
  let b20 := [(bs.getD 0 0 + 0x80) % 256, bs.getD 1 0, st, 3] ++ pay ++ bytesLE 8 c
  let b36 := b20 ++ bytesLE 16 (hmac128 (s.key 1) (0x72 :: dieIdBytes s ++ b20 ++ bytesLE 8 (ofBytesLE ((bs.drop 12).take 8))))
  { s with aut.RK_OUT := c }.onRck fun r =>
    { r with
      reply := b36 ++ bytesLE 2 (crc16 b36), replyDue := true, STAT_REPLY := false, STAT_LAST_ST := st
      STAT_LAST_TYPE := bs.getD 0 0, CNT_REJECTED := if st = 0 then r.CNT_REJECTED else satAdd 16 r.CNT_REJECTED 1 }

/-- Eight payload bytes of zeros. -/
def noPay : List Nat := List.replicate 8 0

/-- FRM_BUDGET in W. -/
def budgetW (s : State) : Nat := s.frm.BUDGET / 1000

/-- The payload that answers HELLO with a selector (R439). -/
def helloReply (s : State) (arg : Nat) : List Nat :=
  match arg with
  | 0 => dieIdBytes s
  | 1 => bytesLE 8 s.aut.RK_LAST
  | _ =>
    [blkMajor, blkMinor, b2n s.aut.STAT_ANCHORED + 2 * b2n s.aut.STAT_UNANCHORED + 4 * b2n s.aut.STAT_HS_LOGMUTE + 8 * b2n s.rck.STAT_MUTED,
      shownState s] ++ bytesLE 4 s.aut.ANCHOR

/-- The payload that answers STATUS (R439). -/
def statusReply (s : State) : List Nat :=
  bytesLE 4 (sat 32 (budgetW s)) ++ bytesLE 2 (sat 16 (s.pmb.VIN_VIN * s.pmb.IIN / 10000)) ++ [shownState s, popcount 24 s.frm.ROSTER]

/-- The payload that answers EVENTS (R439). -/
def eventsReply (s : State) : List Nat :=
  bytesLE 2 s.evt.lastAlw ++ bytesLE 2 s.evt.alwCnt ++ bytesLE 3 s.frm.FSEQ ++ [s.beam.CAUSE_TRIP_CAUSE]

/-- The payload that answers CAP_SET and CAP_CLEAR (R439). -/
def capReply (s : State) : List Nat := bytesLE 4 s.rck.CAP ++ bytesLE 4 (sat 32 (budgetW s))

/-! ### Requests (R439 to R442) -/

/-- The lowest P_PKG in the roster, W; before formation this instance's own. -/
def lowestPkg (s : State) : Nat :=
  let v := lowestOf s fun m => if m = myPos s then s.cmn.fuses.pPkg.toNat else (memberOf s m).pPkg
  if v = 0 then s.cmn.fuses.pPkg.toNat else v

/-- A rack cap is accepted, at the lowest P_PKG where it exceeds that (R33, R442). -/
def State.setRackCap (s : State) (v : Nat) : State :=
  let low := lowestPkg s
  let s := if low < v then s.fault pgRck 20 0x1117 (dat2 v) else s
  ((s.onRck fun r => { r with CAP := min v low }).event 0x1110 (dat2 (min v low))).sendCap

/-- A rack cap is cleared (R442). -/
def State.clearRackCap (s : State) : State := ((s.onRck fun r => { r with CAP := 0 }).event 0x1111).sendCap

/-- Ticks of a list within the last `k` ticks. -/
def within (s : State) (k : Nat) (l : List Nat) : List Nat := l.filter fun t => decide (s.now < t + k)

/-- A request within the limits of R441. -/
def rackRateOk (s : State) (typ : Nat) : Bool :=
  match typ with
  | 1 => (within s (10 * ticksPerMs) s.rck.helloAt).isEmpty
  | 2 => decide ((lastSecond s s.rck.capAt).length < 4)
  | 3 => decide ((lastSecond s s.rck.capAt).length < 4)
  | _ => decide ((lastSecond s s.rck.statAt).length < 100)

/-- A request beyond its limit: counted, and recorded once per second (R441). -/
def State.rackRate (s : State) (typ : Nat) : State :=
  let s := s.onRck fun r => { r with CNT2_RATE := satAdd 16 r.CNT2_RATE 1, rateN := r.rateN + 1 }
  if match s.rck.rateAt with | some t => s.after t ticksPerS | none => true then
    (s.onRck fun r => { r with rateAt := some s.now, rateN := 0 }).fault pgRck 19 0x1115 [typ, sat 16 s.rck.rateN]
  else s.setErr pgRck 19

/-- A bad check (R440): counted, recorded for the first four of a second; the sixteenth mutes the port.
[DEDUCED, log entry 51] -/
def State.rackBad (s : State) (st : Nat) : State :=
  let l := lastSecond s s.rck.badAt ++ [s.now]
  let s := { s with aut.FAIL_CNT_RK := satAdd 16 s.aut.FAIL_CNT_RK 1 }.onRck fun r => { r with CNT3_BAD := satAdd 16 r.CNT3_BAD 1, badAt := l }
  let s := if l.length ≤ 4 then s.fault pgRck 17 0x1112 [st] else s.setErr pgRck 17
  if 16 ≤ l.length then
    (s.onRck fun r => { r with STAT_MUTED := true, muteAt := s.now, badAt := [], CNT3_MUTES := satAdd 16 r.CNT3_MUTES 1 }).fault pgRck 18
      0x1113 [l.length]
  else s

/-- A request that passes its checks is performed (R439, R440). -/
def State.rackPerform (s : State) (bs : List Nat) : State :=
  let s := s.onRck fun r => { r with CNT_PERFORMED := satAdd 16 r.CNT_PERFORMED 1 }
  match bs.getD 0 0 with
  | 1 => (s.onRck fun r => { r with helloAt := within s (10 * ticksPerMs) r.helloAt ++ [s.now] }).rackReply bs 0 (helloReply s (bs.getD 2 0))
  | 2 =>
    let s := (s.onRck fun r => { r with capAt := lastSecond s r.capAt ++ [s.now] }).setRackCap (ofBytesLE ((bs.drop 4).take 4))
    s.rackReply bs 0 (capReply s)
  | 3 =>
    let s := (s.onRck fun r => { r with capAt := lastSecond s r.capAt ++ [s.now] }).clearRackCap
    s.rackReply bs 0 (capReply s)
  | 4 => (s.onRck fun r => { r with statAt := lastSecond s r.statAt ++ [s.now] }).rackReply bs 0 (statusReply s)
  | _ => (s.onRck fun r => { r with statAt := lastSecond s r.statAt ++ [s.now] }).rackReply bs 0 (eventsReply s)

/-- Check 3 of R440. -/
def rackFields (bs : List Nat) : Bool :=
  let typ := bs.getD 0 0
  let arg := bs.getD 2 0
  decide (bs.getD 3 0 = 3) && decide (1 ≤ typ ∧ typ ≤ 5) && decide (if typ = 1 then arg ≤ 2 else arg = 0) &&
  !(decide (typ = 2) && decide (ofBytesLE ((bs.drop 4).take 4) = 0))

/-- The MAC of a request (R438). -/
def rackMacOk (s : State) (bs : List Nat) : Bool :=
  (keyOkMask s).testBit 1 && decide (hmac128 (s.key 1) (0x52 :: dieIdBytes s ++ bs.take 20) = ofBytesLE ((bs.drop 20).take 16))

/-- A private write to the port: the checks of R440 in order. [DEDUCED, log entry 51] -/
def State.rackRequest (s : State) (bs : List Nat) : State :=
  let ctr := ofBytesLE ((bs.drop 12).take 8)
  let typ := bs.getD 0 0
  if !rckUp s then s
  else if bs.length ≠ 38 ∨ crc16 (bs.take 36) ≠ ofBytesLE (bs.drop 36) then
    ((s.onRck fun r => { r with CNT2_FRAME := satAdd 16 r.CNT2_FRAME 1 }).setErr pgRck 16).rackReply bs 1 noPay
  else if s.rck.STAT_MUTED then s
  else if !rackFields bs then s.rackReply bs 5 noPay
  else if !rackRateOk s typ then (s.rackRate typ).rackReply bs 4 noPay
  else if typ = 1 then s.rackPerform bs
  else if !s.aut.STAT_ANCHORED then s.rackReply bs 6 noPay
  else if !rackMacOk s bs then (s.rackBad 2).rackReply bs 2 noPay
  else if ctr ≤ s.aut.RK_LAST then (s.rackBad 3).rackReply bs 3 noPay
  else { s with aut.RK_LAST := ctr }.rackPerform bs

/-- The bytes of a request as numbers. -/
def rackBytes (bs : Vector Byte 38) : List Nat := bs.toList.map (·.toNat)

/-- RACK_HELLO (R439). -/
def execRackHello (bs : Vector Byte 38) (s : State) : Host.Outcome State Fault Refusal := .next (s.rackRequest (rackBytes bs))

/-- CAP_SET (R442). -/
def execCapSet (bs : Vector Byte 38) (s : State) : Host.Outcome State Fault Refusal := .next (s.rackRequest (rackBytes bs))

/-- CAP_CLEAR (R442). -/
def execCapClear (bs : Vector Byte 38) (s : State) : Host.Outcome State Fault Refusal := .next (s.rackRequest (rackBytes bs))

/-- RACK_STATUS (R439). -/
def execRackStatus (bs : Vector Byte 38) (s : State) : Host.Outcome State Fault Refusal := .next (s.rackRequest (rackBytes bs))

/-- RACK_EVENTS (R439). -/
def execRackEvents (bs : Vector Byte 38) (s : State) : Host.Outcome State Fault Refusal := .next (s.rackRequest (rackBytes bs))

/-- RACK_BAD_REQ (R440). -/
def execRackBadReq (bs : List Byte) (s : State) : Host.Outcome State Fault Refusal := .next (s.rackRequest (bs.map (·.toNat)))

/-- RACK_MUTE_END (R440): 10 s after the mute. -/
def execRackMuteEnd (s : State) : Host.Outcome State Fault Refusal :=
  .next (
    if s.rck.STAT_MUTED && s.after s.rck.muteAt (10 * ticksPerS) then (s.onRck fun r => { r with STAT_MUTED := false, badAt := [] }).event 0x1114
    else s)

/-- RACK_REPLY_READY (R438): the reply can be read, and an in-band interrupt says so. -/
def execRackReplyReady (s : State) : Host.Outcome State Fault Refusal :=
  .next (if rckUp s && s.rck.replyDue then (s.onRck fun r => { r with replyDue := false, STAT_REPLY := true }).rackIbi 0x01 else s)

/-- RACK_REPLY_READ (R438): a private read takes the reply; without one, or while muted, the port does not acknowledge.
[DEDUCED, log entry 51] -/
def execRackReplyRead (s : State) : Host.Outcome State Fault Refusal :=
  .next (
    if !rckUp s then s
    else if s.rck.STAT_REPLY && !s.rck.STAT_MUTED then
      s.onRck fun r => { r with STAT_REPLY := false, bus := r.reply, acked := true, ibi := r.ibi.filter fun x => decide (x ≠ 1) }
    else s.onRck fun r => { r with bus := [], acked := false })

/-! ### Common command codes (R437) -/

/-- The port acknowledges and answers bytes. -/
def State.rckAnswer (s : State) (bs : List Nat) : State := if rckUp s then s.onRck fun r => { r with acked := true, bus := bs } else s

/-- The provisional ID, most significant byte first. [PRESUMED, log entry 52] -/
def pidBytes (s : State) : List Nat :=
  (bytesLE 6 (s.cmn.fuses.rckPidHi.toNat * 2 ^ 32 + s.cmn.fuses.dieId.toNat % 2 ^ 32)).reverse

/-- A dynamic address is assigned. [PRESUMED, log entry 52] -/
def State.setDa (s : State) (a : Nat) : State := (s.onRck fun r => { r with ADDR_DA_VALID := true, ADDR_DA := a }).event 0x1116 [a]

/-- ENTDAA (R437): the port takes part while it has no dynamic address. [PRESUMED, log entry 52] -/
def execEntdaa (addr : BitVec 7) (s : State) : Host.Outcome State Fault Refusal :=
  .next (if rckUp s && !s.rck.ADDR_DA_VALID then (s.rckAnswer (pidBytes s ++ [0x06, 0x00])).setDa addr.toNat else s)

/-- SETDASA (R437): for the static address, while there is no dynamic one. [PRESUMED, log entry 52] -/
def execSetdasa (saddr addr : BitVec 7) (s : State) : Host.Outcome State Fault Refusal :=
  .next (if rckUp s && !s.rck.ADDR_DA_VALID && decide (saddr.toNat = s.rck.ADDR_SADDR) then (s.rckAnswer []).setDa addr.toNat else s)

/-- RSTDAA (R437). -/
def execRstdaa (s : State) : Host.Outcome State Fault Refusal :=
  .next (if rckUp s then (s.rckAnswer []).onRck fun r => { r with ADDR_DA_VALID := false, ADDR_DA := 0 } else s)

/-- ENEC (R437): ENINT, bit 0, alone. -/
def execEnec (events : Byte) (s : State) : Host.Outcome State Fault Refusal :=
  .next (if rckUp s then (s.rckAnswer []).onRck fun r => { r with STAT_IBI_EN := r.STAT_IBI_EN || events.toNat.testBit 0 } else s)

/-- DISEC (R437). -/
def execDisec (events : Byte) (s : State) : Host.Outcome State Fault Refusal :=
  .next (if rckUp s then (s.rckAnswer []).onRck fun r => { r with STAT_IBI_EN := r.STAT_IBI_EN && !events.toNat.testBit 0 } else s)

/-- SETMWL (R437): a length below 38 is ignored, and the port returns 38 whatever was set. [DEDUCED, log entry 53] -/
def execSetmwl (_len : BitVec 16) (s : State) : Host.Outcome State Fault Refusal := .next (s.rckAnswer [])

/-- SETMRL (R437). [DEDUCED, log entry 53] -/
def execSetmrl (_len : BitVec 16) (s : State) : Host.Outcome State Fault Refusal := .next (s.rckAnswer [])

/-- GETMWL (R437). [DEDUCED, log entry 53] -/
def execGetmwl (s : State) : Host.Outcome State Fault Refusal := .next (s.rckAnswer [0, 38])

/-- GETMRL (R437): 38, and 1 payload byte for an in-band interrupt. [DEDUCED, log entry 53] -/
def execGetmrl (s : State) : Host.Outcome State Fault Refusal := .next (s.rckAnswer [0, 38, 1])

/-- GETPID (R437). [PRESUMED, log entry 52] -/
def execGetpid (s : State) : Host.Outcome State Fault Refusal := .next (s.rckAnswer (pidBytes s))

/-- GETBCR (R437). -/
def execGetbcr (s : State) : Host.Outcome State Fault Refusal := .next (s.rckAnswer [0x06])

/-- GETDCR (R437). -/
def execGetdcr (s : State) : Host.Outcome State Fault Refusal := .next (s.rckAnswer [0x00])

/-- GETSTATUS (R437): 1 while a reply or a notice is unread; the notices have then been read.
[DEDUCED, log entry 51; PRESUMED, log entry 52] -/
def execGetstatus (s : State) : Host.Outcome State Fault Refusal :=
  .next (
    if rckUp s then
      (s.rckAnswer [0, b2n (s.rck.STAT_REPLY || !s.rck.ibi.isEmpty)]).onRck fun r => { r with ibi := r.ibi.filter fun x => decide (x = 1) }
    else s)

/-- OTHER_CCC (R437): a direct code is not acknowledged, a broadcast one ignored. -/
def execOtherCcc (code : Byte) (s : State) : Host.Outcome State Fault Refusal :=
  .next (if rckUp s && code.toNat.testBit 7 then s.onRck fun r => { r with acked := false, bus := [] } else s)

end Sys2Proof.Machine
end

