-- ==== Sys2Proof/Machine/Seq.lean ====
section
/-! DEFINITION. Policy: load, commit, activation and their ends (R462, R467 to R472), and the switch at step 2 of an epoch
boundary (R180, R469). -/

namespace Sys2Proof.Machine

open Sys2Proof

/-- SEQ_CMD_ST takes a command and its status (R463). -/
def State.cmdSt (s : State) (op st : Nat) : State := { s with seq.CMD_ST_OP := op, seq.CMD_ST_ST := st }

/-- A load, a commit or an activation is refused (SEQ_CNT.REFUSED). -/
def State.seqRefused (s : State) : State := { s with seq.CNT_REFUSED := satAdd 16 s.seq.CNT_REFUSED 1 }

/-! ### Load (R462, R472) -/

/-- The check of a LOAD that fails first (R462). [DEDUCED, log entry 26] -/
def loadRefusal (s : State) : Option Nat :=
  let x := shownState s
  if (x = stSafe ∨ (2 ≤ x ∧ x ≤ 4)) ∧ s.seq.STATE_LIVE_LOAD = false then loadCheck s else some 0x16

/-- OP 1, LOAD: from SAFE the instance enters LOADING, from RUN, DEGRADED or ORPHAN it opens a live load (R462, R472).
[DEDUCED, log entry 26] -/
def State.loadCmd (s : State) : State :=
  match loadRefusal s with
  | some st =>
    let s := (s.cmdSt 1 st).seqRefused
    (if st = 0x10 then s.setErr pgSeq 16 else s).fault pgSeq 17 0x0112 [st]
  | none =>
    let s := (s.cmdSt 1 0).event 0x0111
    if s.seq.base = .safe then { s with seq.base := .loading }.settle 0
    else { s with seq.STATE_LIVE_LOAD := true }.unlockPages

/-! ### Commit (R467, R468) -/

/-- OP 2, COMMIT: the commit runs in LOADING or in a live load; elsewhere it reports 0x16. [DEDUCED, log entry 26] -/
def State.commitCmd (s : State) : State :=
  if loadOpen s && !s.hdr[pgSeq].busy then (s.cmdSt 2 0x01).setBusy pgSeq true
  else (s.cmdSt 2 0x16).seqRefused

/-- A failed commit (R468): its code, and LOADING returns to SAFE or the live load ends. -/
def State.commitFailed (s : State) (st : Nat) : State :=
  let id := stgWord s.stg.mem 16 4
  let s : State := (s.cmdSt 2 st).seqRefused
  let s : State := { s with seq.STATE_COMMITTED := false, seq.STATE_ACT_PEND := false, stg.img := none }
  let s := s.fault pgSeq 18 0x0113 (st :: dat2 id)
  if s.seq.base = .loading then s.enterSafe.settle 0 else { s with seq.STATE_LIVE_LOAD := false }

/-- Every page is locked by a commit (R116). [DEDUCED, log entry 27] -/
def State.lockPages (s : State) : State :=
  { s with hdr := s.hdr.map fun (h : PageHdr) => { h with lock := true, lockSrc := true } }

/-- A commit succeeds (R467): values held at the fuse figures, the shadow bank, the page locks and the commit mark.
[DEDUCED, log entry 25] -/
def State.commitDone (s : State) : State :=
  let x := clampImage s (stagedImage s.stg.mem)
  let s := (resvImage (readImage s.stg.mem)).2.foldl
    (fun (s : State) (c : Nat × Nat) => if h : c.1 < 23 then s.fault ⟨c.1, h⟩ 3 (c.1 * 256 + 3) [c.2, 0] else s) s
  let s := x.2.foldl (fun s c => s.fault pgBeam 17 0x041C [1, c.1, c.2]) s
  let s := (s.loadShadow x.1).lockPages
  let s : State := s.cmdSt 2 0
  let s : State := { s with seq.STATE_COMMITTED := true, seq.IMG_PEND := x.1.id, stg.img := some x.1 }
  s.event 0x0113 (0 :: dat2 x.1.id)

/-- COMMIT_END (R467): the checks in the order of the codes of R463, and what follows. -/
def execCommitEnd (us : Nat) (s : State) : Host.Outcome State Fault Refusal :=
  .next (
    if s.hdr[pgSeq].busy && loadOpen s then
      let s := { s with seq.COMMIT_T := sat 16 us }.setBusy pgSeq false
      match commitCheck s with
      | some st => s.commitFailed st
      | none => s.commitDone
    else s)

/-! ### Activation (R469, R470) and abort (R471) -/

/-- OP 3, ACTIVATE: an activation pends; a second one has no further effect (R469).
[DEDUCED, log entry 26; DEDUCED, log entry 81] -/
def State.activateCmd (s : State) : State :=
  if loadOpen s && s.seq.STATE_COMMITTED && !s.hdr[pgSeq].busy then
    if s.seq.STATE_ACT_PEND then s
    else
      let s := s.cmdSt 3 0x01
      { s with seq.STATE_ACT_PEND := true, seq.actAt := s.now, seq.deferred := false }
  else (s.cmdSt 3 0x16).seqRefused

/-- OP 4, ABORT (R471). -/
def State.abortCmd (s : State) : State :=
  if loadOpen s then ((s.cmdSt 4 0x51).abandonLoad 0x51).settle 0 else s.cmdSt 4 0x16

/-- SEQ_ACT_ST and an ACT notice show a status (R422, R463). -/
def State.actNotice (s : State) (st : Nat) : State := { s with seq.ACT_ST_ST := st }.notice 0x04 0 st

/-- A pending activation is refused (R470, R486): the load is abandoned in the way that the state allows.
[DEDUCED, log entry 28] -/
def State.activationRefused (s : State) (st : Nat) : State :=
  let s : State := s.seqRefused
  let s : State := { s with seq.STATE_ACT_PEND := false, seq.STATE_COMMITTED := false, seq.deferred := false, stg.img := none }
  let s := (((s.actNotice st).fault pgSeq 19 0x0116 [st]).event 0x0112 [st]).setBusy pgSeq false
  if s.seq.base = .loading then
    if s.seq.tripped then s
    else if s.beam.inEmg then { s with seq.abandon := true }
    else s.enterSafe.settle 0x0116
  else { s with seq.STATE_LIVE_LOAD := false }

/-- ACTIVATION_TIMEOUT (R470): SEQ_ACT_TIMEOUT ms after the ACTIVATE write. -/
def execActivationTimeout (s : State) : Host.Outcome State Fault Refusal :=
  .next (
    if s.seq.STATE_ACT_PEND && s.after s.seq.actAt (s.seq.ACT_TIMEOUT * ticksPerMs) then s.activationRefused 0x41 else s)

/-! ### The switch (R469) -/

/-- The image fields of a page take the image's values. -/
def Image.adm (im : Image) (p : Adm) : Adm := imgPage im 3 imgSetAdm (imgColdAdmPage p)

/-- The beam's figures of an image (R197, R465). -/
def Image.beam (im : Image) (p : Beam) : Beam :=
  let p := imgPage im 4 imgSetBeam (imgColdBeamPage p)
  { p with
    imgP := imgDie im 0 16, imgTrip := imgDie im 16 8, imgRate := imgDie im 24 8, imgStack := imgDie im 32 8,
    rail := Vector.ofFn fun r : Fin 16 =>
      { p.rail[r] with imgI := imgRailI im r.val, imgDset := imgRailDset im r.val, imgVmax := imgRailVmax im r.val,
                       imgVmin := imgRailVmin im r.val } }

/-- The free credits of the pools, less what wakes in progress hold (R322, R324). [DEDUCED, log entry 30] -/
def Dom.refill (p : Dom) : Dom :=
  let held := fun (f : DomDom → Bool) => ((p.dom.toList.filter fun e => e.cred && f e).map fun e => e.CFG_COST).foldl (· + ·) 0
  { p with
    INR_DIE_FREE := p.INR_DIE_POOL - held fun _ => true,
    rail := Vector.ofFn fun r : Fin 16 =>
      { p.rail[r] with INR_RAIL_FREE := p.rail[r].INR_RAIL_POOL - held fun e => decide (e.CFG_RAIL = r.val) } }

/-- The image fields of the CLK page at their Cold values: F_IMG's is STRAP_FBOOT. -/
def clkCold (s : State) : Clk :=
  let p := imgColdClkPage s.clk
  { p with dom := p.dom.map fun (e : ClkDom) => { e with CFG_F_IMG := s.cmn.straps.fboot.toNat } }

/-- The register fields of an image come into force, but for those of the control law and the forecaster, which wait for
the swap of R252. [DEDUCED, log entry 30] -/
def State.imgApply (s : State) (im : Image) : State :=
  let s := { s with adm := im.adm s.adm, beam := im.beam s.beam, thm := { imgPage im 7 imgSetThm (imgColdThmPage s.thm) with imgOn := true } }
  let s := { s with dom := (imgPage im 9 imgSetDom (imgColdDomPage s.dom)).refill, clk := imgPage im 10 imgSetClk (clkCold s) }
  let s := { s with vrg := imgPage im 11 imgSetVrg (imgColdVrgPage s.vrg), pmb := imgPage im 12 imgSetPmb (imgColdPmbPage s.pmb) }
  let s := { s with frm := imgPage im 13 imgSetFrm (imgColdFrmPage s.frm), tre := imgPage im 14 imgSetTre (imgColdTrePage s.tre) }
  { s with mbs := imgPage im 15 imgSetMbx (imgColdMbxPage s.mbs), rel := imgPage im 20 imgSetRel (imgColdRelPage s.rel) }

/-- Every rail's phase map is issued (R360). -/
def State.phaseMaps (s : State) : State :=
  (List.range 16).foldl (fun s r => if railAbsent s r then s else s.phasesChanged r (phaseMap s r) none) s

/-- The committed image is switched in (R469): every value in force in both directions (R198), the instance runs, and
heartbeat supervision begins or restarts. [DEDUCED, log entry 30; DEDUCED, log entry 32] -/
def State.switchIn (s : State) (im : Image) : State :=
  let s := { s with stg.act := some im, stg.holds := true, seq.imgOn := true }.imgApply im
  let s := { s with seq.base := .running, seq.tripped := false, seq.react := false, seq.STATE_ACT_PEND := false, seq.STATE_LIVE_LOAD := false,
                    seq.deferred := false, seq.STATE_HB_SUP := true, mbs.timerAt := s.now, mbs.lossTaken := false, ctl.swapDue := true,
                    dom.acting := true, tly.actPol := true, tly.lenInForce := s.tly.EPOCH_LEN }
  let s := ((s.phaseMaps.setTripFigures).raiseLimits).beamSettle
  let s : State := { s with seq.IMG_ID := im.id, seq.ACT_ST_EPOCH := s.tly.EPOCH_NUM, seq.CNT_ACTS := satAdd 16 s.seq.CNT_ACTS 1 }.actNotice 0
  (s.event 0x0114 (s.tly.EPOCH_NUM :: dat2 im.id)).settle 0x0114

/-- The deferral of R470: reported once per activation. -/
def State.deferActivation (s : State) : State :=
  if s.seq.deferred then s
  else ({ s with seq.deferred := true }.actNotice 0x40).event 0x0115 [shownState s]

/-- Step 2 of a boundary for a pending activation, or for the restart of a TRIPPED instance after its hold (R44, R470).
[DEDUCED, log entry 28; DEDUCED, log entry 29; DEDUCED, log entry 31] -/
def State.activationStep (s : State) : State :=
  if !s.seq.STATE_ACT_PEND && !s.seq.react then s
  else if s.beam.inEmg || (s.seq.tripped && !s.seq.react) then s.deferActivation
  else
    match (if s.seq.STATE_COMMITTED then s.stg.img else none) with
    | some im => s.switchIn im
    | none =>
      if s.seq.react then
        { s with seq.react := false, seq.tripped := false, seq.STATE_ACT_PEND := false, seq.imgOn := false }.enterSafe.settle s.seq.reactBy
      else s.activationRefused 0x24

end Sys2Proof.Machine
end

