-- ==== Sys2Proof/Machine/Sample.lean ====
section
/-! DEFINITION. The control sample: what every sub-block does on a timekeeper tick (R38, R242). -/

namespace Sys2Proof.Machine

open Sys2Proof

/-- A rail's telemetry on a tick: delivered, still being replayed, or not delivered (R211, R358). -/
def State.sampleRail (s : State) (r : Nat) : State :=
  let v := vrgOf s r
  if v.got then s.railSample r
  else if 0 < v.bad then s.vrgMod r fun e => { e with late := e.late + 1 }
  else s.sampleLost r

/-- The rail's current where the sample is valid for a baseline (R173, R174, R488). [DEDUCED, log entry 35] -/
def baseSample (s : State) (r : Nat) : Option Nat :=
  if (vrgOf s r).got && !s.rel.BLIND_TG.testBit r then some (vrgOf s r).iMeas else none

/-- The baseline samples at 1.50 µs and 1.75 µs after the boundary instant (R173). -/
def State.baseSamples (s : State) : State :=
  if s.tly.EPOCH_DRAIN && decide (s.now = s.tly.bndAt + 6) then
    { s with tly.rail := Vector.ofFn fun r : Fin 16 => { s.tly.rail[r] with base1 := baseSample s r.val } }
  else if s.tly.EPOCH_DRAIN && decide (s.now = s.tly.bndAt + 7) then
    { s with tly.rail := Vector.ofFn fun r : Fin 16 => { s.tly.rail[r] with base2 := baseSample s r.val } }
  else s

/-- The law of a tick, the forecaster and the observer at the swap of an activation, and the frame's sums (R242, R252,
R261, R272, R293). -/
def State.tickLaw (s : State) (obs : SampleObs) : State :=
  let swap := s.ctl.swapDue && lawsRun s
  let s := s.fcsPresent.lawTick obs
  let s := if swap then s.fcsSwap.obsSwap else s
  let s := if s.fcs.on && !lawsRun s then s.fcsStop else s
  s.fcsSample

/-- The period of a tick closes: no word stands for the next one yet, and what holds or stretches then is looked at
afresh. -/
def State.periodEnd (s : State) : State :=
  let s := { s with vrg.rail := s.vrg.rail.map fun (e : VrgRail) => { e with got := false } }
  { s with ctl.heldSeen := maskOf 16 (railHeld s), ctl.strSeen := stretchNow s }

/-- What follows the samples on a tick: the die's power, the ceilings, harvesting, demands of the power domains, the
housekeeping slot, the thermal phases and the state shown. -/
def State.tickEnd (s : State) : State :=
  let s := (s.dieSample.beamSettle).settle 0x0413
  let s := (List.range 16).foldl State.harvestCheck s
  let s := if s.rst.pin || s.rst.por then s else s.demands
  let s := if s.now % ticksPerMs = 0 then s.suppMsEnd else s
  let s := { s.obsPower with sns.HK_SLOT := s.now % 4000 / 25 }
  ((s.fcsSettle.shutRails).phaseCheck).settle 0x0413

/-- CONTROL_SAMPLE (R242): one timekeeper tick; before step 2 of the cold exit there is none.
[DESIGN CHOICE, log entry 2; DESIGN CHOICE, log entry 79] -/
def execControlSample (obs : SampleObs) (s : State) : Host.Outcome State Fault Refusal :=
  .next (
    if s.rst.started then
      let s := { s with now := s.now + 1 }.retireDueLanes
      let s := (List.range 16).foldl State.sampleRail s
      let s := (s.baseSamples.tickLaw obs).periodEnd
      s.tickEnd
    else s)

end Sys2Proof.Machine
end

