-- ==== Sys2Proof/Machine/Boundary.lean ====
section
/-! DEFINITION. The epoch boundary (R179 to R184, R388, R389): what every sub-block does at a boundary instant, who takes one
when, and the end of the drain window. -/

namespace Sys2Proof.Machine

open Sys2Proof

/-- The rail summary's period ends at the boundary instant and starts afresh there (R524). [DEDUCED, log entry 35] -/
def State.trcBoundary (s : State) : State :=
  let s := if s.trc.CFG_RAIL_EN && decide (s.trc.railAt < s.now) then s.trcRails else s
  { s with trc.railAt := s.now, trc.sums := Vector.replicate 16 {} }

/-- A SHARE that names the epoch that opens is applied and answered (R176, R393); one that waited for another is
discarded. -/
def State.shareOpen (s : State) (next : Bool) : State :=
  match s.frm.shareNext with
  | some (share, floor) =>
    let s := { s with frm.shareNext := none }
    if next then (s.applyShare share floor).shareAck share else s
  | none => s

/-- The Kazsin link's part: a raised budget comes into force and the count of BUDGET frames starts afresh (R408, R411). -/
def State.treOpen (s : State) : State :=
  s.onTre fun t => { t with PARENT_BUD := t.pend.getD t.PARENT_BUD, pend := none, budN := 0 }

/-- The counts that R176 and R390 keep within an epoch start afresh. -/
def State.frmOpen (s : State) : State :=
  s.onFrm fun f => { f with demandSent := false, member := f.member.map fun (e : FrmMember) => { e with pseqRx := [] } }

/-- Steps 1 to 3 of R180, for any instance: the number `num` opens, and `gov` says that the reckoner announced it.
[DEDUCED, log entry 32] -/
def State.boundary (s : State) (num : Nat) (gov : Bool) : State :=
  let next := decide (num % 256 = (s.tly.EPOCH_NUM + 1) % 256)
  let s := (s.trcBoundary.fcsBoundary).tlyBoundary num
  let s := { s with tly.EPOCH_GOV := gov }
  let s := (((s.ctlEpoch.frmOpen).treOpen).shareOpen next).orphanStep
  ((s.activationStep.raiseLimits).fRaise).beamSettle

/-- The payload of BOUNDARY (R381). [DEDUCED, log entry 34] -/
def boundaryPay (s : State) (len budget : Nat) : Nat :=
  s.tly.EPOCH_NUM % 256 * 2 ^ 88 + len % 2 ^ 14 * 2 ^ 74 + budget % 2 ^ 32 * 2 ^ 42 + s.frm.FSEQ % 2 ^ 24 * 2 ^ 18

/-- The reckoner's part (R388, R392, R410): FSEQ, the tree split, BOUNDARY with the budget then in force, and the shares.
[DEDUCED, log entry 32; DEDUCED, log entry 34] -/
def State.reckon (s : State) : State :=
  let len := s.tly.lenInForce
  let s := { s with frm.FSEQ := (s.frm.FSEQ + 1) % 2 ^ 24 }.treSplit
  let b := if s.frm.succ then s.frm.lastBudget else pkgBudget s
  let s := s.frmSend 0 0x08 31 (boundaryPay s len b)
  { s with frm.lastBudget := b }.splitShares

/-- A member's part: CAP once an epoch (R391). [DEDUCED, log entry 33] -/
def State.memberOpen (s : State) : State := if isReckoner s then s else s.sendCap

/-- EPOCH_BOUNDARY (R179): the reckoner's own instant, or that of a member that has had no announcement since the reset. -/
def execEpochBoundary (s : State) : Host.Outcome State Fault Refusal :=
  .next (
    let rk := isReckoner s
    if s.rst.live && (rk || s.tly.ownCount) && s.after s.tly.bndAt (s.tly.lenInForce * ticksPerUs) then
      let s := s.boundary (s.tly.EPOCH_NUM + 1) rk
      ((if rk then { s with tly.ownCount := false }.reckon else s.memberOpen)).settle 0x0114
    else s)

/-- BOUNDARY_TIMEOUT (R389): no BOUNDARY within TLY_EPOCH_LEN + 64 µs. -/
def execBoundaryTimeout (s : State) : Host.Outcome State Fault Refusal :=
  .next (
    if s.rst.live && !isReckoner s && !s.tly.ownCount && s.after s.tly.bndAt ((s.tly.lenInForce + 64) * ticksPerUs) then
      ((s.boundary (s.tly.EPOCH_NUM + 1) false).memberOpen).settle 0x0114
    else s)

/-- A BOUNDARY names a later epoch than the member holds, modulo 256; a member that has had none takes any (R179, R389).
[DEDUCED, log entry 33] -/
def boundaryLater (s : State) (num : Nat) : Bool :=
  let k := (num + 256 - s.tly.EPOCH_NUM) % 256
  s.tly.ownCount || (decide (1 ≤ k) && decide (k < 128))

/-- FRM_BOUNDARY (R388): the reckoner's announcement is taken as a boundary instant. [DEDUCED, log entry 33] -/
def execFrmBoundary (d : Dir) (m : BitVec 128) (s : State) : Host.Outcome State Fault Refusal :=
  .next (s.received d m 0x08 fun s =>
    if s.frm.FORM_STATE = 2 ∧ mSrc m = s.frm.ROLE_RECKONER ∧ boundaryLater s (mf m 88 8) = true then
      let s := s.boundary (mf m 88 8) true
      let s := { s with tly.ownCount := false, tly.lenInForce := mf m 74 14, frm.FSEQ := mf m 18 24, frm.lastBudget := mf m 42 32 }
      ((s.setBudget (mf m 42 32)).memberOpen).settle 0x0114
    else s)

/-- BASELINE_SAMPLE (R173): 1.75 µs after the boundary instant the drain window ends, with what R168, R248 and R275 give its
end. -/
def execBaselineSample (readBackBad : List (Fin 8192)) (s : State) : Host.Outcome State Fault Refusal :=
  .next (
    if drainDue s then ((((s.drainEnd (readBackBad.map (·.val))).neutralDrain).fcsDrain).fcsSettle).settle 0x0211 else s)

end Sys2Proof.Machine
end

