-- ==== Sys2Proof/Machine/WarmReset.lean ====
section
/-! DEFINITION. The Warm column of every register page (R24, R453): what a reset on rst_n, and a block-local reset, makes of
the fields that are not held. -/

namespace Sys2Proof.Machine

open Sys2Proof

/-- Warm column of the CMN page (R24): the fields not "held" take their value. -/
def warmCmnPage (p : Cmn) : Cmn :=
  { p with
    PORT_ERR_CNT_WPAR_CNT := 0,
    PORT_ERR_CNT_APAR_CNT := 0 }

/-- Warm column of the SEQ page (R24): the fields not "held" take their value. -/
def warmSeqPage (p : Seq) : Seq :=
  { p with
    STATE_LIVE_LOAD := false,
    STATE_HB_SUP := false,
    STATE_ACT_PEND := false,
    STATE_C_ORPHAN := false,
    DRV_VER := 0,
    CMD_ST_OP := 0,
    CMD_ST_ST := 0,
    ACT_ST_EPOCH := 0,
    ACT_ST_ST := 0,
    ACT_TIMEOUT := 1000,
    HOST_CAP := 0,
    COMMIT_T := 0,
    tripped := false,
    deferred := false,
    abandon := false,
    react := false,
    reactBy := 0,
    imgOn := false }

/-- Warm column of the repeated TLY registers (R24). -/
def warmElTlyRail (e : TlyRail) : TlyRail :=
  { e with BOOK_BOOKED := 0, BASE_BFAULT := false, BASE_BASE := 0, ROD := 0, HARV_STRETCHES := 0, HARV_PREV_UNANN := false, HARV_UNANN := false, HARV_HARV := false, sumBnd := 0, cntStuck := false, bookSeq := 0, ackSeq := 0, base1 := none, base2 := none, pol := 15, polLow := 15, polOver := 0, polUnder := 0, isUn := false, holdOn := false, countHit := false }

/-- Warm column of the TLY page (R24): the fields not "held" take their value. -/
def warmTlyPage (p : Tly) : Tly :=
  { p with
    EPOCH_GOV := false,
    EPOCH_DRAIN := false,
    EPOCH_NUM := 0,
    STALE_CNT := 0,
    FAULT_CNT_FAULTED := 0,
    ROW_SEL_SPARE := false,
    ROW_SEL_SEL := 0,
    ROW_LO := 0,
    ROW_HI := 0,
    ROW_STAT_PHYS := 0,
    ROW_STAT_MAPPED := false,
    ROW_STAT_STALE := false,
    ROW_STAT_PFAULT := false,
    ROW_STAT_EPOCH := 0,
    LAST_PEAK := 0,
    LAST_GRANTS := 0,
    AUDIT_EPOCH := 0,
    AUDIT_MISMATCH := false,
    AUDIT_UNK := 0,
    bndAt := 0,
    ownCount := true,
    rows := [],
    fresh := 0,
    freed := [],
    badFree := [],
    faulted := [],
    timer := [],
    seqNo := [],
    armedQ := [],
    armQ := [],
    grants := 0,
    peak := 0,
    polOn := false,
    actPol := false,
    durShort := [],
    rail := p.rail.map warmElTlyRail }

/-- Warm column of the repeated ADM registers (R24). -/
def warmElAdmRef (e : AdmRef) : AdmRef :=
  { e with REF_CNT := 0 }

/-- Warm column of the ADM page (R24): the fields not "held" take their value. -/
def warmAdmPage (p : Adm) : Adm :=
  { p with
    SHARE := 0,
    LOAN_IN := 0,
    LOAN_OUT := 0,
    PORT_INBUF_PEAK := 0,
    GRANT_CNT := 0,
    NONOWN_CNT := 0,
    DOMRET_CNT := 0,
    LOAN_CNT_DISC := 0,
    LOAN_CNT_LENT := 0,
    inQ := [],
    outQ := [],
    lastOut := 0,
    lastPar := 0,
    askAt := none,
    askDir := false,
    askSeq := 0,
    ref := p.ref.map warmElAdmRef }

/-- Warm column of the repeated BEAM registers (R24). -/
def warmElBeamRail (e : BeamRail) : BeamRail :=
  { e with HLIM := 0 }

/-- Warm column of the BEAM page (R24): the fields not "held" take their value. -/
def warmBeamPage (p : Beam) : Beam :=
  { p with
    TEST_CTRL_START := false,
    TEST_CTRL_KIND := 0,
    TEST_CTRL_TARGET := 0,
    TEST_STAT_FAIL_IDX := 0,
    TEST_STAT_PASS := false,
    TEST_STAT_DONE := false,
    test := none,
    rail := p.rail.map warmElBeamRail }

/-- Warm column of the repeated CTL registers (R24). -/
def warmElCtlRail (e : CtlRail) : CtlRail :=
  { e with CMD_V_CMD := 0, OUT_NEUTRAL := false, OUT_CAUSE := 0, OUT_CLAMP_T := false, OUT_CLAMP_V := false, OUT_LEVEL := 0, OUT_OFFSET := 0, ICMD_FCS_USED := false, ICMD_I_CMD := 0, RES_NEUT_CNT := 0, RES_SAT_CNT := 0, RES_RHO := 0, x := Vector.replicate 8 0, z := Vector.replicate 4 0, v := Vector.replicate 2 0, u0 := 0, satRun := 0, ovrRun := 0, rhoRun := 0, holdRun := 0, causes := 0, neutN := 0, rhoNow := false, rhoEp := 0 }

/-- Warm column of the CTL page (R24): the fields not "held" take their value. -/
def warmCtlPage (p : Ctl) : Ctl :=
  { p with
    SAMPLE_MAX := 0,
    SAMPLE_LAST := 0,
    OVR_CNT := 0,
    NEUTRAL_LOCKED := 0,
    NEUTRAL_NEUTRAL := 0,
    COEF_SEL_RAIL := 0,
    COEF_SEL_BANK := false,
    COEF_SEL_INDEX := 0,
    X_SEL_RAIL := 0,
    X_SEL_IDX := 0,
    swapDue := false,
    run := false,
    marginRun := 0,
    marginMax := 0,
    vinStale := false,
    strSeen := 0,
    heldSeen := 0,
    rail := p.rail.map warmElCtlRail }

/-- Warm column of the repeated FCS registers (R24). -/
def warmElFcsRail (e : FcsRail) : FcsRail :=
  { e with RAIL_LOCKED := false, RAIL_DRIFT := false, OUT_G := 0, OUT_Y1 := 0, HZ_Y16 := 0, HZ_Y4 := 0, DRIFT_DRIFT_CNT := 0, DRIFT_EPOCHS := 0, DRIFT_RUN := 0, y1Now := 0, gNow := 0, accI := 0, accZ := 0, accT := 0, nShort := 0, nLong := 0, nGone := 0, driftNow := false }

/-- Warm column of the FCS page (R24): the fields not "held" take their value. -/
def warmFcsPage (p : Fcs) : Fcs :=
  { p with
    STAT_WARM_LEFT := 0,
    STAT_FZ_CAUSE := 2,
    STAT_RUNNING := false,
    STAT_FZ := true,
    TIME_MAX := 0,
    TIME_LAST := 0,
    EVAL_CNT := 0,
    MISS_CNT_WFAULT := 0,
    MISS_CNT_MISS := 0,
    WADDR := 0,
    WDATA := 0,
    WCRC := 0,
    WLOAD_RESTORE := false,
    WLOAD_COPY := false,
    TRC_CFG_GAP := 0,
    TRC_CFG_WIN := 0,
    TRC_CFG_EN := false,
    TRC_STAT_WINDOWS := 0,
    TRC_STAT_DROP := 0,
    BIAS_SEL_LAYER := 0,
    BIAS_SEL_CH := 0,
    hist := Vector.replicate 6 [],
    frame := none,
    lastAt := 0,
    on := false,
    next := none,
    evals := [],
    labels := [],
    missLeft := 0,
    overBound := false,
    lrstCopy := false,
    badAt := none,
    restoredAt := none,
    fzAt := 0,
    heldF := 0,
    strF := 0,
    drainF := false,
    winLeft := 0,
    winSeq := 0,
    winDrops := 0,
    winDropped := false,
    gapAt := none,
    winDue := false,
    rail := p.rail.map warmElFcsRail }

/-- Warm column of the repeated THM registers (R24). -/
def warmElThmGrp (e : ThmGrp) : ThmGrp :=
  { e with GRP_MAX := 0, GRP_RATE := 0, valid := false, members := 0, sweepAt := 0, diff := none, shutRun := 0, dwellAt := none, innovRun := 0 }

/-- Warm column of the repeated THM registers (R24). -/
def warmElThmRail (e : ThmRail) : ThmRail :=
  { e with pAcc := 0, pMean := 0 }

/-- Warm column of the repeated THM registers (R24). -/
def warmElThmDom (e : ThmDom) : ThmDom :=
  { e with DOM_TDOM := 0, DOM_SRC := 0, DOM_LEVEL := 15, lvlAt := 0, frzTo := 0 }

/-- Warm column of the repeated THM registers (R24). -/
def warmElThmVs (e : ThmVs) : ThmVs :=
  { e with VS_VALUE := 0, shutRun := 0 }

/-- Warm column of the repeated THM registers (R24). -/
def warmElThmStk (e : ThmStk) : ThmStk :=
  { e with STK_TS := 0, shutRun := 0, valid := false }

/-- Warm column of the THM page (R24): the fields not "held" take their value. -/
def warmThmPage (p : Thm) : Thm :=
  { p with
    STATE_BELOW_LOST := false,
    STATE_HOT := false,
    BELOW_T_BELOW := 0,
    BELOW_AGE := 15,
    AMB := 2240,
    OBS_LOCKED := false,
    OBS_OFF := false,
    OBS_CNT_DISABLES := 0,
    OBS_CNT_OVERRUNS := 0,
    OBS_TIME_MAX := 0,
    OBS_TIME_LAST := 0,
    COEF_SEL_ROW := 0,
    COEF_SEL_COL := 0,
    NODE_SEL := 0,
    hotAt := 0,
    hotGone := none,
    nodes := Vector.replicate 96 0,
    obsIn := none,
    stepAt := none,
    warmLeft := 0,
    obsOn := false,
    obsCopy := false,
    obsOffAt := 0,
    offTicks := [],
    discRun := 0,
    obsBad := none,
    obsRestored := none,
    newSweep := false,
    belowN := 0,
    grp := p.grp.map warmElThmGrp,
    rail := p.rail.map warmElThmRail,
    dom := p.dom.map warmElThmDom,
    vs := p.vs.map warmElThmVs,
    stk := p.stk.map warmElThmStk }

/-- Warm column of the repeated SNS registers (R24). -/
def warmElSnsRing (e : SnsRing) : SnsRing :=
  { e with RING_REPLAYS := 0 }

/-- Warm column of the repeated SNS registers (R24). -/
def warmElSnsTs (e : SnsTs) : SnsTs :=
  { e with TS_TEMP := 0 }

/-- Warm column of the SNS page (R24): the fields not "held" take their value. -/
def warmSnsPage (p : Sns) : Sns :=
  { p with
    HK_ROUNDS := 0,
    HK_SLOT := 0,
    HK_SEL := 0,
    CORE_T_CORE := 0,
    CORE_V_AON := 0,
    SWEEP_SWEEPS := 0,
    SWEEP_DUR := 0,
    slotRead := none,
    ring := p.ring.map warmElSnsRing,
    ts := p.ts.map warmElSnsTs }

/-- Warm column of the repeated DOM registers (R24). -/
def warmElDomRail (e : DomRail) : DomRail :=
  { e with INR_RAIL_FREE := 0 }

/-- Warm column of the repeated DOM registers (R24). -/
def warmElDomDom (e : DomDom) : DomDom :=
  { e with cred := false, was := false, unwantAt := none, forced := false }

/-- Warm column of the DOM page (R24): the fields not "held" take their value. -/
def warmDomPage (p : Dom) : Dom :=
  { p with
    REQ := 0,
    WAKE := 0,
    INR_DIE_FREE := 0,
    QUEUE_ROUND := 0,
    FORCE_GO := false,
    FORCE_ON := false,
    FORCE_DOM := 0,
    LAT_MAX := 0,
    LAT_LAST := 0,
    CNT_WAKES := 0,
    CNT_SLEEPS := 0,
    ABORT_CNT_TIMEOUTS := 0,
    ABORT_CNT_FAILED_DEM := 0,
    queue := [],
    nextQ := [],
    started := [],
    startAt := none,
    acting := false,
    orderly := none,
    rail := p.rail.map warmElDomRail,
    dom := p.dom.map warmElDomDom }

/-- Warm column of the repeated CLK registers (R24). -/
def warmElClkDom (e : ClkDom) : ClkDom :=
  { e with HREQ_EN := false, HREQ_F_HOST := 0, ST_THR := 0, ST_SSC := false, MOVES_THR_MOVES := 0, MOVES_F_MOVES := 0 }

/-- Warm column of the CLK page (R24): the fields not "held" take their value. -/
def warmClkPage (p : Clk) : Clk :=
  { p with
    TK_AMP_OK := false,
    FORCE_SRC := 0,
    dom := p.dom.map warmElClkDom }

/-- Warm column of the repeated VRG registers (R24). -/
def warmElVrgRail (e : VrgRail) : VrgRail :=
  { e with TG_PAR_CNT := 0, TG_RAW := 0, TRK_DIFF := 0, parRound := 0 }

/-- Warm column of the VRG page (R24): the fields not "held" take their value. -/
def warmVrgPage (p : Vrg) : Vrg :=
  { p with
    BUS_CNT_SETV_REPL := 0,
    PP_CNT := 0,
    PP_TIME_MAX := 0,
    PP_TIME_LAST := 0,
    cur := none,
    curAt := 0,
    ppQ := [],
    ppRun := 0,
    trimQ := [],
    resendQ := [],
    rail := p.rail.map warmElVrgRail }

/-- Warm column of the repeated PMB registers (R24). -/
def warmElPmbConv (e : PmbConv) : PmbConv :=
  { e with READ_IIN := 0, READ_VIN := 0, CST_OK := false, CST_NACKS := 0, CST_STATUS := 0, vinAt := none, iinAt := none, vinX := (0, 0) }

/-- Warm column of the PMB page (R24): the fields not "held" take their value. -/
def warmPmbPage (p : Pmb) : Pmb :=
  { p with
    VIN_VIN := 0,
    IIN := 0,
    ROUND_ROUNDS := 0,
    ROUND_DUR := 0,
    ERR_CNT_PEC := 0,
    ERR_CNT_NACK := 0,
    ALERT_ALERTS := 0,
    ALERT_ADDR := 0,
    ALERT_ST := 0,
    HOST_XACT_KIND := 0,
    HOST_XACT_SLOT := 0,
    HOST_XACT_CMD := 0,
    HOST_XACT_DATA := 0,
    HOST_RES_DONE := false,
    HOST_RES_ST := 0,
    HOST_RES_RDATA := 0,
    task := .none,
    host := none,
    roundAt := 0,
    inRound := false,
    failed := 0,
    vinAt := none,
    iinAt := none,
    vinBad := 0,
    iinBad := 0,
    alertAt := [],
    muteAt := none,
    next := 16,
    reqs := [],
    answer := none,
    conv := p.conv.map warmElPmbConv }

/-- Warm column of the repeated FRM registers (R24). -/
def warmElFrmMember (e : FrmMember) : FrmMember :=
  { e with SHARE := 0, PEER_MAJOR := 0, PEER_MINOR := 0, PEER_STACKS := 0, PEER_UNREACH := false, PEER_ABSENT := false, tre := false, rckEn := false, pmbEn := false, treLive := false, base := false, below := 31, pPkg := 0, eDown := false, wDown := false, heldMw := 0, heldAt := 0, heldCut := false, hostCap := 0, rackCap := 0, joining := false, demand := none, pseqTx := 0, pseqRx := [], left := false }

/-- Warm column of the FRM page (R24): the fields not "held" take their value. -/
def warmFrmPage (p : Frm) : Frm :=
  { p with
    FORM_FMAJ := 0,
    FORM_FMIN := 0,
    FORM_ERR := 0,
    FORM_STATE := 0,
    ROSTER := 0,
    ROLE_RECKONER := 31,
    ROLE_PMB := 31,
    ROLE_RCK := 31,
    ROLE_HOPS := 0,
    FSEQ := 0,
    BUDGET := 0,
    CNT_RETRIES := 0,
    CNT_CRC_ERR := 0,
    CNT2_JOINS := 0,
    CNT2_DOWNS := 0,
    failCount := 0,
    east := {},
    west := {},
    pos := [],
    dup := false,
    helloAt := 0,
    rosterAt := 0,
    attempt := 0,
    size := 0,
    formedAt := 0,
    bCur := 0,
    demandSent := false,
    peak := 0,
    wave := [],
    wave2 := [],
    shareNext := none,
    floorRx := 0,
    isoAt := none,
    isoCut := false,
    v2 := false,
    v2At := 0,
    firstShare := false,
    joined := false,
    lastBudget := 0,
    heldBudget := none,
    succ := false,
    member := p.member.map warmElFrmMember }

/-- Warm column of the repeated TRE registers (R24). -/
def warmElTrePort (e : TrePort) : TrePort :=
  { e with PORT_ST_MISSED := 0, PORT_ST_ABSENT := false, PORT_ST_PRESENT := false, PORT_BUD := 0, PORT_DEM := 0, ver := none, ctr := 0, synced := false, chal := none, frames := [], ackFor := none, ackAt := none, polledAt := none, want := 0, tries := 0, heldW := 0, heldAt := 0, heldCut := false, badAt := [], badRun := 0, muteAt := none }

/-- Warm column of the TRE page (R24): the fields not "held" take their value. -/
def warmTrePage (p : Tre) : Tre :=
  { p with
    STATE_VER := 0,
    PARENT_BUD := 0,
    PKG := 0,
    DEMAND := 0,
    CNT_BAD := 0,
    CNT_CRC_ERR := 0,
    CNT2_CUTS := 0,
    CNT2_IGNORED := 0,
    failed := false,
    linkId := 0,
    idSure := false,
    ver := none,
    ctrUp := 0,
    synced := false,
    lost := false,
    chal := none,
    helloDue := true,
    syncDue := false,
    ackDue := none,
    ackAt := none,
    rxAt := none,
    pend := none,
    budN := 0,
    cutAt := [],
    cseqRx := none,
    badAt := [],
    badRun := 0,
    muteAt := none,
    selfUp := 0,
    selfDn := 0,
    slot := none,
    cutQ := [],
    cseqTx := 0,
    lowQ := [],
    highQ := [],
    lastUp := [],
    lastDn := [],
    subWas := 0,
    port := p.port.map warmElTrePort }

/-- Warm column of the repeated MBx registers (R24). -/
def warmElMbxIn (e : MbxIn) : MbxIn :=
  { e with IN := 0 }

/-- Warm column of the repeated MBx registers (R24). -/
def warmElMbxBlk (e : MbxBlk) : MbxBlk :=
  { e with BLK_D := 0 }

/-- Warm column of the MBx page (R24): the fields not "held" take their value. -/
def warmMbxPage (p : Mbx) : Mbx :=
  { p with
    IN_STAT_REFUSED := 0,
    IN_STAT_ABORTED := 0,
    IN_STAT_FULL := 0,
    OUT_STAT_DROPPED := 0,
    OUT_STAT_ABORTED := false,
    OUT_STAT_OVF := false,
    CFG_NOTE_EN := 0,
    CFG_RX_DOM := 63,
    BLK_ADDR := 0,
    BLK_CTRL_GO := false,
    BLK_CTRL_OP := 0,
    BLK_STAT_ERR := 0,
    BLK_STAT_DONE := false,
    BLK_CRC := 0,
    HB_STAT_LAST := 0,
    HB_CNT_BAD := 0,
    order := [],
    outQ := [],
    blkOp := 0,
    blkAt := 0,
    beatAt := none,
    timerAt := 0,
    lossTaken := false,
    orphCapNow := 0,
    orphBnds := 0,
    orphKeep := 0,
    inb := p.inb.map warmElMbxIn,
    blk := p.blk.map warmElMbxBlk }

/-- Warm column of the RCK page (R24): the fields not "held" take their value. -/
def warmRckPage (p : Rck) : Rck :=
  { p with
    ADDR_SADDR := 58,
    STAT_LAST_ST := 0,
    STAT_LAST_TYPE := 0,
    STAT_REPLY := false,
    CNT_PERFORMED := 0,
    CNT_REJECTED := 0,
    CNT2_RATE := 0,
    CNT2_FRAME := 0,
    CNT3_BAD := 0,
    reply := [],
    replyDue := false,
    ibi := [],
    bus := [],
    acked := false }

/-- Warm column of the repeated AUT registers (R24). -/
def warmElAutMac (e : AutMac) : AutMac :=
  { e with WCHK_MAC := 0 }

/-- Warm column of the AUT page (R24): the fields not "held" take their value. -/
def warmAutPage (p : Aut) : Aut :=
  { p with
    WCHK_CTR_LO := 0,
    WCHK_CTR_HI := 0,
    STAT_HS_LOGMUTE := false,
    pend := none,
    hsAt := [],
    muteAt := 0,
    mac := p.mac.map warmElAutMac }

/-- Warm column of the repeated RST registers (R24). -/
def warmElRstPage (e : RstPage) : RstPage :=
  { e with LRST_TO_TIMEOUT := 50 }

/-- Warm column of the RST page (R24): the fields not "held" take their value. -/
def warmRstPage (p : Rst) : Rst :=
  { p with
    CAUSE_RESTARTED := false,
    CAUSE_PIN_LAST := false,
    CAUSE_OVERLAP := false,
    CAUSE_CAUSE := 1,
    EXIT := 0,
    vioLow := false,
    page := p.page.map warmElRstPage }

/-- Warm column of the repeated REL registers (R24). -/
def warmElRelWear (e : RelWear) : RelWear :=
  { e with tgAt := none, busAt := none, blindAt := 0, okRun := 0 }

/-- Warm column of the REL page (R24): the fields not "held" take their value. -/
def warmRelPage (p : Rel) : Rel :=
  { p with
    REPLAY_REPLAYED := 0,
    SCRUB_PASSES := 0,
    SCRUB_LAST := 0,
    SCRUB_CNT_RESTORED := 0,
    SCRUB_CNT_FOUND := 0,
    BLIND_BUS := 0,
    BLIND_TG := 0,
    SPARE_CMD_GO := false,
    SPARE_CMD_OP := 0,
    SPARE_CMD_KIND := 0,
    SPARE_CMD_INDEX := 0,
    SPARE_STAT_DONE := false,
    SPARE_STAT_ST := 0,
    SPARE_STAT_KIND := 0,
    SPARE_STAT_INDEX := 0,
    cmd := none,
    regStale := [],
    wear := p.wear.map warmElRelWear }

/-- Warm column of the repeated EVT registers (R24). -/
def warmElEvtRd (e : EvtRd) : EvtRd :=
  { e with RD_D := 0 }

/-- Warm column of the EVT page (R24): the fields not "held" take their value. -/
def warmEvtPage (p : Evt) : Evt :=
  { p with
    STAT_ERASING := false,
    STAT_FLUSH_ACT := false,
    ERASE := false,
    RD_SEL := 0,
    RD_STAT_CHK_CNT := 0,
    RD_STAT_CHK_BAD := false,
    RD_STAT_STALE := false,
    rdSlot := none,
    rd := p.rd.map warmElEvtRd }

/-- Warm column of the TRC page (R24): the fields not "held" take their value. -/
def warmTrcPage (p : Trc) : Trc :=
  { p with
    CFG_RAIL_PER := 64,
    CFG_EVC_EN := false,
    CFG_THM_EN := false,
    CFG_RAIL_EN := false,
    DROP0_E2 := 0,
    DROP0_E1 := 0,
    DROP1_PAR := 0,
    DROP1_E4 := 0,
    PEAK := 0,
    recs := [],
    seqE1 := 0,
    seqE2 := 0,
    seqE4 := 0,
    lostE1 := false,
    lostE2 := false,
    lostE4 := false,
    dropN := Vector.replicate 3 0,
    dropMs := Vector.replicate 3 none,
    railAt := 0,
    drained := false,
    sums := Vector.replicate 16 {} }

end Sys2Proof.Machine
end

