-- ==== Sys2Proof/Machine/Reset.lean ====
section
/-! DEFINITION. Reset (14_reset_and_bringup.md): the two reset sources and their reach (R451 to R454), episodes (R455), the
exits (R457, R458), the start-up self-test (R459), block-local resets (R460, R461), and the aon_vio condition (R89). -/

namespace Sys2Proof.Machine

open Sys2Proof

/-! ### Episodes (R455) -/

/-- The state in a cold reset: every register at its Cold value; what is outside the machine's reach, and the episode, stay.
[DESIGN CHOICE, log entry 8] -/
def coldState (s : State) (r : Rst) : State :=
  { State.reset with rst := r, free := s.free, pending := s.pending }

/-- The fields of an episode on a page otherwise cold. -/
def coldRst (s : State) (por pin epPor epPin restarted : Bool) : Rst :=
  { State.reset.rst with por := por, pin := pin, epOpen := true, epCold := true, epPor := epPor, epPin := epPin, restarted := restarted,
                         pinLast := s.rst.pinLast }

/-- POR_ASSERT (R451, R453, R455): an episode opens, or the open one is joined; its reach is cold from this instant. -/
def execPorAssert (s : State) : Host.Outcome State Fault Refusal :=
  .next (
    let r := s.rst
    if r.por then s
    else coldState s (coldRst s true r.pin true (r.epOpen && r.epPin) (r.epOpen && (r.restarted || r.exiting))))

/-- The strap checks of R81, as RST_STRAP_ERR holds them. -/
def strapErr (x : Straps) : Nat :=
  let has := fun (d : Nat) => x.bootDom.toNat.testBit d
  maskOf 8 fun k => match k with
    | 0 => decide (23 < x.framePos.toNat)
    | 1 => decide (23 < x.below.toNat ∧ x.below.toNat ≠ 31) || decide (x.below = x.framePos)
    | 2 => decide (24 < x.netCd.toNat)
    | 3 => decide (24 < x.d2dCd.toNat)
    | 4 => !x.dieKind && decide (x.stackMask ≠ 0)
    | 5 => !has x.netPd.toNat || !has x.d2dPd.toNat
    | 6 => decide (49 < x.netPd.toNat)
    | _ => decide (49 < x.d2dPd.toNat)

/-- The boot domains, clocks and setpoint codes of a cold exit (R68, R73, R456): each boot domain switched on and isolated
until its power good, each clock at STRAP_FBOOT, each regulator at its strapped power-up code. [DEDUCED, log entry 67] -/
def State.bootOutputs (s : State) : State :=
  let f := s.cmn.straps.fboot.toNat
  { s with
    dom.dom := Vector.ofFn fun d : Fin 50 => if isBoot s d.val then { s.dom.dom[d] with ST_ST := 3, starting := true } else s.dom.dom[d],
    clk.dom := s.clk.dom.map fun (e : ClkDom) => { e with CFG_F_IMG := f, ST_FSTEP := f, ST_F_TGT := f },
    vrg.rail := Vector.ofFn fun r : Fin 16 => { s.vrg.rail[r] with SET := vbootOf s r.val, issued := vbootOf s r.val } }.coldCodes

/-- What the fuse read of step 2 finds faulty (R91, R195, R286, R433). -/
def State.fuseFaults (s : State) : State :=
  let f := s.cmn.fuses
  let s := if ceilingsGood f then s else { s with beam.STATE_BUILTIN := true }.setErr pgBeam 16
  let s := if f.trimCrc then s
    else { s with sns.ts := s.sns.ts.map fun (e : SnsTs) => { e with TS_UNTRIM := true } }.fault pgSns 21 0x0816
  (List.range 4).foldl (fun (s : State) k => if vAt f.keyCrc k false then s else s.fault pgAut 16 0x1214 [k]) s

/-- Steps 1 to 3 and 5 of a cold exit (R457), at once: straps and fuses as sampled, the ceilings in force, RST_CAUSE written,
the ports live, the strap checks made and the boot codes sent. [DESIGN CHOICE, log entry 7] -/
def State.coldExit (s : State) : State :=
  let r := s.rst
  let c := s.cmn
  let e := strapErr c.straps
  let s := coldState s { r with exiting := true, exitAt := 0, live := true, started := true, STRAP_ERR := e, CAUSE_CAUSE := 2,
                                CAUSE_OVERLAP := r.epPor && r.epPin, CAUSE_PIN_LAST := r.pinLast, CAUSE_RESTARTED := r.restarted }
  let s := { s with cmn := c }.fuseFaults
  let s := if e = 0 then s else s.fault pgRst 16 0x1311 [e]
  ((s.bootOutputs.raiseLimits).setTripFigures).settle 0

/-- POR_RELEASE (R451, R457): the exit begins once the last asserted source has released. [DESIGN CHOICE, log entry 6] -/
def execPorRelease (straps : Straps) (fuses : Fuses) (s : State) : Host.Outcome State Fault Refusal :=
  .next (
    if s.rst.por then
      let s := { s with rst.por := false, rst.pinLast := false, cmn.straps := straps, cmn.fuses := fuses }
      if s.rst.pin then s else s.coldExit
    else s)

/-- The episode closes (R455, R457, R458). [DESIGN CHOICE, log entry 7] -/
def State.closeEpisode (s : State) (cause : Nat) : State :=
  let r := s.rst
  let ov := r.epPor && r.epPin
  { s with rst.epOpen := false, rst.exiting := false, rst.EXIT := sat 16 (s.usSince r.exitAt), rst.CAUSE_CAUSE := cause,
           rst.CAUSE_OVERLAP := ov, rst.CAUSE_PIN_LAST := r.pinLast, rst.CAUSE_RESTARTED := r.restarted,
           rst.CNT_WARM := if cause = 1 then satAdd 16 r.CNT_WARM 1 else r.CNT_WARM }.event 0x1310 [cause, b2n ov, b2n r.pinLast]

/-! ### The start-up self-test (R459) -/

/-- A tally row for which the self-test found no spare is lost (R168). -/
def State.startRowLost (s : State) (i : Nat) : State :=
  if s.tly.lost.contains i then s
  else
    let s := { s with tly.lost := s.tly.lost ++ [i], tly.ROWCAP_USABLE := s.tly.ROWCAP_USABLE - 1 }
    (s.setRow i (mkRow false 5 0 0 0 0 0 i)).fault pgTly 18 0x0212 [i]

/-- STARTUP_SELFTEST_COMPLETE (R457 step 6, R459): what the test found is repaired, spared or marked; the episode closes. -/
def execStartupSelftestComplete (o : SelfTestObs) (s : State) : Host.Outcome State Fault Refusal :=
  .next (
    if s.rst.exiting && s.rst.epCold then
      let s := (o.rowsLost.map fun (i : BitVec 13) => i.toNat).foldl State.startRowLost s
      let s := ((o.lanesBad.map fun (i : Fin 18) => i.val).foldl State.retireLane s).fcsBound
      let s := (o.detsBad.map fun (i : Fin 72) => i.val).foldl (fun (s : State) d => s.failDet d 3) s
      let s := (o.sensorsBad.map fun (i : Fin 30) => i.val).foldl (fun (s : State) i => s.sensorFail i 4) s
      let s := (List.range 6).foldl State.sensorSubst s.beamSettle
      let s := { s with rst.SELFTEST_DONE := true, rst.SELFTEST_ROWS := sat 8 o.rows, rst.SELFTEST_LANES := o.lanesBad.length,
                        rst.SELFTEST_MACROS := o.detsBad.length + o.sensorsBad.length,
                        rst.SELFTEST_FAIL := !o.beyond.isEmpty }
      let s := o.beyond.foldl (fun (s : State) k => s.fault pgRst 18 0x1315 [k]) s
      s.closeEpisode 2
    else s)

/-! ### The warm reset (R453, R454, R458) -/

/-- The error bits of each page's PAGE_ERR that a warm reset holds: the bits that the pages' tables mark "held". -/
def errHeld (p : Nat) : Nat :=
  [0, 0, 0, 0, 0x7B0000, 0x400000, 0x40000, 0x300000, 0x270000, 0x50000, 0x60000, 0x3A0000, 0x80000, 0xC0000, 0x200000, 0, 0,
   0x100000, 0x30000, 0x170000, 0xEE0000, 0x70000, 0].getD p 0

/-- The Warm column of a page header (R107). -/
def warmHdr (p : Nat) (h : PageHdr) : PageHdr :=
  { h with err := h.err &&& errHeld p, errMask := 0, evtEn := 0, lrstReq := false, lrstAct := false, busy := false }

/-- The pages of the running policy take their Warm columns; a sweep and the housekeeping channels start afresh.
[DEDUCED, log entry 10; DEDUCED, log entry 80] -/
def State.warmPages (s : State) : State :=
  let s := { s with cmn := warmCmnPage s.cmn, seq := warmSeqPage s.seq, adm := warmAdmPage s.adm, beam := warmBeamPage s.beam,
                    ctl := warmCtlPage s.ctl, fcs := warmFcsPage s.fcs, dom := warmDomPage s.dom, clk := warmClkPage s.clk }
  let s := { s with tly := { warmTlyPage s.tly with rows := s.tly.rows.filter fun x => decide (rowSt x.2 = 5), bndAt := s.now },
                    thm := { warmThmPage s.thm with imgOn := false },
                    sns := { warmSnsPage s.sns with hk := s.sns.hk.map fun (c : HkChan) => { c with val := 0, valid := false, age := 255 } } }
  let s := { s with vrg := { warmVrgPage s.vrg with rail := s.vrg.rail.map fun (e : VrgRail) => { warmElVrgRail e with issued := e.SET } },
                    pmb := warmPmbPage s.pmb, frm := warmFrmPage s.frm, tre := warmTrePage s.tre, mbs := warmMbxPage s.mbs }
  { s with mbn := warmMbxPage s.mbn, rck := warmRckPage s.rck, aut := warmAutPage s.aut, rst := warmRstPage s.rst, rel := warmRelPage s.rel,
           evt := warmEvtPage s.evt, trc := { warmTrcPage s.trc with railAt := s.now } }

/-- A load that is open ends, and a commit in progress is abandoned; a committed image waits in staging (R453, R454).
[DEDUCED, log entry 10] -/
def State.warmLoad (s : State) : State :=
  let c := s.seq.STATE_COMMITTED && !s.hdr[pgSeq].busy
  { s with seq.STATE_COMMITTED := c, stg.img := if c then s.stg.img else none }.enterSafe

/-- The thermal phases through a warm reset: an orderly window ends with SHUT_LATCH set (R303), a hold restarts (R312).
[DEDUCED, log entry 11] -/
def State.warmPhase (s : State) : State :=
  if s.thm.STATE_PHASE = 1 then s.onThm fun t => { t with STATE_SHUT_LATCH := true, STATE_PHASE := 2, phaseAt := s.now }
  else if s.thm.STATE_PHASE = 3 then s.holdBegin
  else s

/-- RST_N_ASSERT opens a warm episode: the reach of R453. [DEDUCED, log entry 9] -/
def State.warmReset (s : State) : State :=
  let s := s.warmPages
  let s := { s with hdr := Vector.ofFn fun p : Fin 23 => warmHdr p.val s.hdr[p], hst := {}, pairLo := none,
                    rel.wear := Vector.ofFn fun r : Fin 16 =>
                      { s.rel.wear[r] with busAt := if unresp s r.val then some s.now else none } }
  let s := (s.warmPhase).fLower
  { s with rst.live := false, rst.epOpen := true, rst.epCold := false, rst.epPor := false, rst.epPin := true, rst.restarted := false,
           rst.exiting := false, rst.pinLast := false }

/-- Step 2 of a warm exit (R458): the ports live, the completions of R332 begun, the episode closed.
[DESIGN CHOICE, log entry 7] -/
def State.warmExit (s : State) : State :=
  let s := { s with rst.live := true, rst.exiting := true, rst.exitAt := s.now, tly.bndAt := s.now }
  ((s.domsAtWarmExit).closeEpisode 1).settle 0

/-- RST_N_ASSERT (R78, R453, R455). -/
def execRstNAssert (s : State) : Host.Outcome State Fault Refusal :=
  .next (
    let r := s.rst
    if r.pin then s
    else if r.epOpen then
      if r.epCold then
        let c := s.cmn
        let r' := coldRst s r.por true r.epPor true (r.restarted || r.exiting)
        { coldState s r' with cmn := if r.por then {} else { State.reset.cmn with straps := c.straps, fuses := c.fuses } }
      else { s with rst.pin := true, rst.epPin := true }
    else
      let s := s.warmLoad.warmReset
      { s with rst.pin := true }.settle 0)

/-- RST_N_RELEASE (R457, R458). -/
def execRstNRelease (s : State) : Host.Outcome State Fault Refusal :=
  .next (
    if s.rst.pin then
      let s := { s with rst.pin := false, rst.pinLast := !s.rst.por }
      if s.rst.por then s else if s.rst.epCold then s.coldExit else s.warmExit
    else s)

/-! ### Block-local resets (R460, R461) -/

/-- The page of index p in the order of R461. -/
def lrstPage (p : Nat) : Fin 23 :=
  match p with
  | 0 => pgFcs
  | 1 => pgPmb
  | 2 => pgFrm
  | 3 => pgTre
  | 4 => pgMbs
  | 5 => pgMbn
  | 6 => pgRck
  | _ => pgTrc

/-- The index of R461 of a page; 8 where the page has no block-local reset (R94). -/
def lrstIndex (pg : Nat) : Nat := (List.range 8).find? (fun p => (lrstPage p).val = pg) |>.getD 8

/-- A block-local reset is asked for (R460 step 1). -/
def State.lrstAsk (s : State) (pg : Fin 23) : State :=
  if lrstIndex pg.val < 8 && !s.hdr[pg].lrstAct then
    let s := s.hdrMod pg fun h => { h with lrstReq := true, lrstAct := true, lrstAt := s.now }
    if pg = pgFcs then s.fcsSettle else s
  else s

/-- The FCS page: an evaluation in progress is abandoned; where an image runs, the weight copy of R272 follows (R461).
[DEDUCED, log entry 12] -/
def State.lrstFcs (s : State) : State :=
  let on := s.fcs.on
  let bad := s.fcs.wStuck
  let s := { s.evalAbandon with fcs := { warmFcsPage s.fcs with on := on, wStuck := bad, fzAt := s.fcs.fzAt } }
  if on then { s.copyStart with fcs.lrstCopy := true } else s

/-- The FRM page: links down and the member isolated until it rejoins; its share, floor and loans stay (R461).
[DEDUCED, log entry 12] -/
def State.lrstFrm (s : State) : State :=
  let f := s.frm
  { s with frm := { warmFrmPage f with isoAt := some s.now, floorRx := f.floorRx, firstShare := f.firstShare, lastBudget := f.lastBudget,
                                       BUDGET := f.BUDGET } }

/-- A mailbox page: its boxes and its transfer end as R426 gives; heartbeat and orphan cap stay. [DEDUCED, log entry 12] -/
def State.lrstMbx (s : State) (c : Chan) : State :=
  let s := s.mbxLocalReset c
  let m := s.mbx c
  let busy := m.BLK_STAT_DONE
  s.mbxMod c fun x =>
    { warmMbxPage x with
      IN_STAT_ABORTED := x.IN_STAT_ABORTED, BLK_STAT_ERR := x.BLK_STAT_ERR, BLK_STAT_DONE := busy, HB_STAT_LAST := x.HB_STAT_LAST,
      HB_CNT_BAD := x.HB_CNT_BAD, beatAt := x.beatAt, timerAt := x.timerAt, lossTaken := x.lossTaken, orphCapNow := x.orphCapNow,
      orphBnds := x.orphBnds, orphKeep := x.orphKeep }

/-- The PMB page: the EEPROM copies, and the counter requests of the frame's members, stay (R368, R461).
[DEDUCED, log entry 12] -/
def State.lrstPmb (s : State) : State :=
  { s with pmb := { warmPmbPage s.pmb with reqs := s.pmb.reqs, answer := s.pmb.answer } }

/-- The page takes its Warm column, and what R461 keeps or does beyond it. -/
def State.lrstReach (s : State) (p : Nat) : State :=
  match p with
  | 0 => s.lrstFcs
  | 1 => s.lrstPmb
  | 2 => s.lrstFrm
  | 3 => { s with tre := warmTrePage s.tre }
  | 4 => s.lrstMbx .mbs
  | 5 => s.lrstMbx .mbn
  | 6 => { s with rck := warmRckPage s.rck }
  | _ => { s with trc := { warmTrcPage s.trc with railAt := s.now } }

/-- LRST_COMPLETE (R460 steps 2 to 4): the sub-block is idle, or its timeout has passed. -/
def execLrstComplete (p : Fin 8) (idle : Bool) (s : State) : Host.Outcome State Fault Refusal :=
  .next (
    let pg := lrstPage p.val
    let h := s.hdr[pg]
    let e := vAt s.rst.page p.val {}
    if h.lrstAct && (idle || s.after h.lrstAt (e.LRST_TO_TIMEOUT * ticksPerUs)) then
      let s := s.hdrMod pg fun h => warmHdr pg.val h
      let s := s.lrstReach p.val
      let s := if idle then s
        else { s with rst.page := vMod s.rst.page p.val fun x => { x with LRST_TO_FORCED := satAdd 16 x.LRST_TO_FORCED 1 } }.setErr pgRst 19
      let s := { s with rst.CNT_LOCAL := satAdd 16 s.rst.CNT_LOCAL 1 }.event 0x1314 [pg.val, b2n (!idle)]
      if p.val = 0 then s.fcsSettle else s
    else s)

/-! ### The aon_vio condition (R89) -/

/-- VIO_LOW: aon_vio below 1.6 V for 10 µs; the off-package links are lost. -/
def execVioLow (s : State) : Host.Outcome State Fault Refusal :=
  .next (if s.rst.vioLow || !s.rst.started then s
    else { s with rst.vioLow := true, rst.vioAt := s.now }.fault pgRst 17 0x1312)

/-- VIO_RESTORE: the links resume 1 ms after aon_vio is back above 1.65 V. -/
def execVioRestore (s : State) : Host.Outcome State Fault Refusal :=
  .next (if s.rst.vioLow && s.after s.rst.vioAt ticksPerMs then
      { s with rst.vioLow := false }.event 0x1313 [sat 16 (s.msSince s.rst.vioAt)]
    else s)

end Sys2Proof.Machine
end

