-- ==== Sys2Proof/Machine/RegRead.lean ====
section
/-! DEFINITION. What a host read returns: the register words of every page, field by field, and the page headers (R94 to
R97, R107, and each page's register tables). No read changes any state (R102). -/

namespace Sys2Proof.Machine

open Sys2Proof

/-- A one-bit field. -/
def bit (b : Bool) (lo : Nat) : Nat := b2n b * 2 ^ lo

/-- A field of `len` bits. -/
def fld (v lo len : Nat) : Nat := v % 2 ^ len * 2 ^ lo

/-- A signed field. -/
def sfld (v : Int) (lo len : Nat) : Nat := twos v len * 2 ^ lo

/-- The words of the CMN page at the offsets its chapter lists; reserved offsets read 0 (R26, R95). -/
def readCmn (s : State) (off : Nat) : Nat :=
  let p := s.cmn
  match off with
  | 0x40 => fld 2 8 8 + fld 3 0 8
  | 0x44 => fld s.cmn.fuses.dieId.toNat 0 32
  | 0x48 => fld (s.cmn.fuses.dieId.toNat >>> 32) 0 32
  | 0x4C => fld s.cmn.straps.fboot.toNat 24 5 + bit s.cmn.straps.pmbEn 23 + bit s.cmn.straps.rckEn 22 + bit s.cmn.straps.treEn 21 + fld s.cmn.straps.d2dCd.toNat 16 5 + fld s.cmn.straps.netCd.toNat 11 5 + fld s.cmn.straps.below.toNat 6 5 + fld s.cmn.straps.framePos.toNat 1 5 + bit s.cmn.straps.dieKind 0
  | 0x50 => fld s.cmn.straps.stackMask.toNat 0 12
  | 0x54 => fld s.cmn.straps.bootDom.toNat 0 32
  | 0x58 => fld (s.cmn.straps.bootDom.toNat >>> 32) 0 18
  | 0x5C => bit s.cmn.fuses.repairCrc 7 + bit s.cmn.fuses.trimCrc 6 + fld (keyOkMask s) 2 4 + bit (ceilOk s.cmn.fuses) 1 + bit s.cmn.fuses.fuseLock 0
  | 0x60 => fld p.PORT_ERR_CNT_WPAR_CNT 16 16 + fld p.PORT_ERR_CNT_APAR_CNT 0 16
  | 0x84 => fld s.cmn.straps.d2dPd.toNat 8 6 + fld s.cmn.straps.netPd.toNat 0 6
  | _ =>
    if let some i := indexAt off 0x64 4 8 then (fld ((vAt s.cmn.straps.vboot (2 * i + 1) 0).toNat) 16 16 + fld ((vAt s.cmn.straps.vboot (2 * i) 0).toNat) 0 16) else
    0

/-- The words of the SEQ page at the offsets its chapter lists; reserved offsets read 0 (R26, R95). -/
def readSeq (s : State) (off : Nat) : Nat :=
  let p := s.seq
  match off with
  | 0x40 => bit p.STATE_LIVE_LOAD 20 + bit p.STATE_HB_SUP 19 + bit p.STATE_ACT_PEND 18 + bit p.STATE_COMMITTED 17 + bit (ready s) 16 + bit s.sns.RANGE_OUT 12 + bit (trippedCause s) 11 + bit s.beam.inEmg 10 + bit p.STATE_C_ORPHAN 9 + bit (degraded s) 8 + fld (shownState s) 0 3
  | 0x44 => fld p.DRV_VER 0 8
  | 0x4C => fld p.CMD_ST_OP 8 8 + fld p.CMD_ST_ST 0 8
  | 0x50 => fld p.ACT_ST_EPOCH 8 8 + fld p.ACT_ST_ST 0 8
  | 0x54 => fld p.ACT_TIMEOUT 0 16
  | 0x58 => fld p.HOST_CAP 0 32
  | 0x5C => fld p.IMG_ID 0 32
  | 0x60 => fld p.IMG_PEND 0 32
  | 0x64 => fld p.COMMIT_T 0 16
  | 0x68 => fld p.CNT_ACTS 16 16 + fld p.CNT_REFUSED 0 16
  | _ => 0

/-- The words of the TLY page at the offsets its chapter lists; reserved offsets read 0 (R26, R95). -/
def readTly (s : State) (off : Nat) : Nat :=
  let p := s.tly
  match off with
  | 0x40 => fld p.EPOCH_LEN 0 14
  | 0x44 => fld (sat 14 (s.usSince s.tly.bndAt)) 16 14 + bit p.EPOCH_GOV 9 + bit p.EPOCH_DRAIN 8 + fld p.EPOCH_NUM 0 8
  | 0x48 => fld (rowsIn s 1) 16 5 + fld (liveRows s) 0 14
  | 0x4C => fld p.ROWCAP_SPARE_FREE 16 9 + fld p.ROWCAP_USABLE 0 14
  | 0x50 => fld p.STALE_CNT 0 32
  | 0x54 => fld p.FAULT_CNT_SPARED 16 16 + fld p.FAULT_CNT_FAULTED 0 16
  | 0x58 => bit p.ROW_SEL_SPARE 31 + fld p.ROW_SEL_SEL 0 13
  | 0x5C => fld p.ROW_LO 0 32
  | 0x60 => fld p.ROW_HI 0 32
  | 0x64 => fld p.ROW_STAT_PHYS 12 8 + bit p.ROW_STAT_MAPPED 10 + bit p.ROW_STAT_STALE 9 + bit p.ROW_STAT_PFAULT 8 + fld p.ROW_STAT_EPOCH 0 8
  | 0x68 => fld p.LAST_PEAK 0 14
  | 0x6C => fld p.LAST_GRANTS 0 32
  | 0x70 => fld p.AUDIT_EPOCH 24 8 + bit p.AUDIT_MISMATCH 16 + fld p.AUDIT_UNK 0 16
  | _ =>
    if let some i := indexAt off 0x100 16 16 then (let e := vAt p.rail i {}; fld ((unknownBeads s i).toNat) 16 16 + fld e.BOOK_BOOKED 0 16) else
    if let some i := indexAt off 0x104 16 16 then (let e := vAt p.rail i {}; bit e.BASE_BFAULT 24 + fld e.BASE_BASE 0 24) else
    if let some i := indexAt off 0x108 16 16 then (let e := vAt p.rail i {}; fld e.ROD 0 24) else
    if let some i := indexAt off 0x10C 16 16 then (let e := vAt p.rail i {}; fld (guardBand s i) 16 8 + fld e.HARV_STRETCHES 8 8 + bit (stretchHold s i) 4 + bit (railHeld s i) 3 + bit e.HARV_PREV_UNANN 2 + bit e.HARV_UNANN 1 + bit e.HARV_HARV 0) else
    0

/-- The words of the ADM page at the offsets its chapter lists; reserved offsets read 0 (R26, R95). -/
def readAdm (s : State) (off : Nat) : Nat :=
  let p := s.adm
  match off with
  | 0x40 => fld p.POLICY_STRETCH_LIM 8 8 + fld p.POLICY_BACKOFF 0 5
  | 0x44 => fld p.SHARE 0 32
  | 0x48 => fld p.LOAN_IN 0 32
  | 0x4C => fld p.LOAN_OUT 0 32
  | 0x50 => fld (twos (headroom s) 32) 0 32
  | 0x54 => fld p.LOAN_KEEP 0 32
  | 0x58 => fld p.LOAN_ASK 0 32
  | 0x5C => fld p.PORT_INBUF_PEAK 8 6 + fld s.adm.inQ.length 0 6
  | 0x60 => fld p.GRANT_CNT 0 32
  | 0x64 => fld p.NONOWN_CNT 0 32
  | 0x68 => fld p.DOMRET_CNT 0 32
  | 0x6C => fld p.LOAN_CNT_DISC 16 16 + fld p.LOAN_CNT_LENT 0 16
  | _ =>
    if let some i := indexAt off 0x80 4 18 then (let e := vAt p.ref i {}; fld e.REF_CNT 0 32) else
    if let some i := indexAt off 0x100 4 16 then (let e := vAt p.rail i {}; fld e.RAIL_W 16 12 + fld e.RAIL_TOL 8 8 + bit e.RAIL_HEN 2 + fld e.RAIL_BSZ 0 2) else
    0

/-- The words of the BEAM page at the offsets its chapter lists; reserved offsets read 0 (R26, R95). -/
def readBeam (s : State) (off : Nat) : Nat :=
  let p := s.beam
  match off with
  | 0x40 => fld (maskOf 16 (railHeld s)) 16 16 + fld p.STATE_BO_STEP 8 5 + bit p.STATE_BUILTIN 5 + bit s.beam.die.on 4 + bit p.STATE_TRIP_LATCH 3 + bit (emgCausePresent s) 2 + bit p.STATE_BO_RAMP 1 + bit p.STATE_BO 0
  | 0x44 => fld p.CAUSE_TRIP_SRC 24 8 + fld p.CAUSE_TRIP_CAUSE 16 4 + fld p.CAUSE_EMG_SRC 8 8 + fld p.CAUSE_EMG_CAUSE 0 4
  | 0x48 => fld p.EMG_CNT_TRIPS 16 16 + fld p.EMG_CNT_EMERGENCIES 0 16
  | 0x4C => fld p.BO_BO_CNT 16 16 + fld p.BO_LAST_US 0 16
  | 0x50 => fld s.cmn.fuses.pPkg.toNat 16 16 + fld s.cmn.fuses.pDie.toNat 0 16
  | 0x54 => fld s.cmn.fuses.boThr.toNat 28 4 + fld s.cmn.fuses.boFrac.toNat 24 4 + fld s.cmn.fuses.tStack.toNat 16 8 + fld s.cmn.fuses.tRate.toNat 8 8 + fld s.cmn.fuses.tTrip.toNat 0 8
  | 0x58 => fld (pEff s) 16 16 + fld p.DIE_EFF_RATE_EFF 8 8 + fld p.DIE_EFF_TRIP_EFF 0 8
  | 0x5C => fld p.PDIE 0 16
  | 0x60 => bit p.TEST_CTRL_START 31 + fld p.TEST_CTRL_KIND 8 4 + fld p.TEST_CTRL_TARGET 0 8
  | 0x64 => fld p.TEST_STAT_FAIL_IDX 8 8 + bit p.TEST_STAT_PASS 1 + bit p.TEST_STAT_DONE 0
  | _ =>
    if let some i := indexAt off 0x100 16 16 then (fld ((fuseRail s i).dtMin.toNat) 24 8 + fld ((fuseRail s i).vMax.toNat) 16 8 + fld ((fuseRail s i).vMin.toNat) 8 8) else
    if let some i := indexAt off 0x104 16 16 then (fld ((fuseRail s i).iCeil.toNat) 16 12 + fld (iEff s i) 0 12) else
    if let some i := indexAt off 0x108 16 16 then (let e := vAt p.rail i {}; fld e.HLIM 0 12) else
    if let some i := indexAt off 0x10C 16 16 then (let e := vAt p.rail i {}; fld e.RSTAT_VMIN_EFF 24 8 + fld e.RSTAT_VMAX_EFF 16 8 + fld (railRc s i) 8 4 + bit (respOn s i 0) 7 + bit (railFloor s i) 6 + bit (respOn s i 4) 5 + bit (respOn s i 3) 4 + bit (respOn s i 2) 3 + bit (respOn s i 1) 2 + bit (railHeld s i) 1 + bit (railAbsent s i) 0) else
    if let some i := indexAt off 0x200 4 16 then (fld ((fuseRail s i).smask.toNat) 0 25) else
    if let some i := indexAt off 0x240 4 16 then (fld (dset s i) 0 25) else
    if let some i := indexAt off 0x300 4 72 then (let e := vAt p.det i {}; fld (codeEff s i) 24 8 + fld e.DD_CODE_IMG 16 8 + fld e.DD_SERVES 9 7 + bit e.out 8 + bit e.DD_FAILED 7 + bit e.DD_SUBST 6) else
    if let some i := indexAt off 0x500 4 72 then (let e := vAt p.det i {}; fld e.DDX 0 25) else
    if let some i := indexAt off 0x600 4 72 then (let e := vAt p.det i {}; fld e.DDCNT 0 32) else
    if let some i := indexAt off 0x800 4 25 then (bit (decide (railTerm s i < 15 && railTerm s i = bc s i)) 8 + bit (decide (dieTerm s < 15 && dieTerm s = bc s i)) 7 + bit (decide (boTerm s < 15 && boTerm s = bc s i)) 6 + bit (decide (emgTermNow s < 15 && emgTermNow s = bc s i)) 5 + bit (stretchOut s i) 4 + fld (bc s i) 0 4) else
    0

/-- The words of the CTL page at the offsets its chapter lists; reserved offsets read 0 (R26, R95). -/
def readCtl (s : State) (off : Nat) : Nat :=
  let p := s.ctl
  match off with
  | 0x40 => fld p.MU_ACTIVE 16 5 + fld p.MU_SPARE_FREE 8 2
  | 0x44 => fld p.MU_LANES 0 18
  | 0x48 => fld p.SAMPLE_MAX 8 8 + fld p.SAMPLE_LAST 0 8
  | 0x4C => fld p.OVR_CNT 0 32
  | 0x50 => fld ((match s.pmb.vinAt with | some t => sat 16 (s.msSince t) | none => 0xFFFF)) 16 16 + fld s.pmb.VIN_VIN 0 16
  | 0x54 => fld p.VIN_CFG 0 16
  | 0x58 => fld p.NEUTRAL_LOCKED 16 16 + fld p.NEUTRAL_NEUTRAL 0 16
  | 0x5C => bit p.BANK_PENDING 16 + bit p.BANK_ACTIVE 0
  | 0x60 => fld p.COEF_SEL_RAIL 24 4 + bit p.COEF_SEL_BANK 16 + fld p.COEF_SEL_INDEX 0 8
  | 0x64 => bit (coefFaulted s) 24 + fld (coefSelected s) 0 24
  | 0x68 => fld p.X_SEL_RAIL 24 4 + fld p.X_SEL_IDX 0 3
  | 0x6C => sfld (vAt (vAt s.ctl.rail s.ctl.X_SEL_RAIL {}).x s.ctl.X_SEL_IDX 0) 0 32
  | _ =>
    if let some i := indexAt off 0x100 32 16 then (let e := vAt p.rail i {}; fld e.CFG_SLEW 24 8 + fld e.CFG_RHO_LIM 16 8 + bit e.CFG_OUT_T 6 + bit e.CFG_FCS_EN 5 + bit e.CFG_XFER 4 + fld e.CFG_NSTATE 0 4) else
    if let some i := indexAt off 0x104 32 16 then (let e := vAt p.rail i {}; fld e.LIM_G_FULL 24 8 + fld e.LIM_G_HARV 16 8 + sfld (e.LIM_DMAX) 8 8 + sfld (e.LIM_DMIN) 0 8) else
    if let some i := indexAt off 0x108 32 16 then (let e := vAt p.rail i {}; fld e.LIN 0 24) else
    if let some i := indexAt off 0x10C 32 16 then (let e := vAt p.rail i {}; fld e.TGT 0 24) else
    if let some i := indexAt off 0x110 32 16 then (let e := vAt p.rail i {}; fld (gHarvEff s i) 24 8 + fld e.CMD_V_CMD 0 24) else
    if let some i := indexAt off 0x114 32 16 then (let e := vAt p.rail i {}; bit e.OUT_NEUTRAL 31 + fld e.OUT_CAUSE 28 3 + bit e.OUT_CLAMP_T 27 + bit e.OUT_CLAMP_V 26 + fld e.OUT_LEVEL 20 4 + sfld (e.OUT_OFFSET) 0 16) else
    if let some i := indexAt off 0x118 32 16 then (let e := vAt p.rail i {}; bit e.ICMD_FCS_USED 24 + fld e.ICMD_I_CMD 0 24) else
    if let some i := indexAt off 0x11C 32 16 then (let e := vAt p.rail i {}; fld e.RES_NEUT_CNT 24 8 + fld e.RES_SAT_CNT 16 8 + sfld (e.RES_RHO) 0 16) else
    0

/-- The words of the FCS page at the offsets its chapter lists; reserved offsets read 0 (R26, R95). -/
def readFcs (s : State) (off : Nat) : Nat :=
  let p := s.fcs
  match off with
  | 0x40 => fld p.STAT_WARM_LEFT 16 7 + fld p.STAT_FZ_CAUSE 8 6 + bit p.STAT_RUNNING 1 + bit p.STAT_FZ 0
  | 0x44 => fld p.MODEL_RF 8 7 + fld p.MODEL_LAYERS 0 3
  | 0x48 => fld p.MACS 0 19
  | 0x4C => fld p.TIME_MAX 16 10 + fld p.TIME_LAST 0 10
  | 0x50 => fld p.EVAL_CNT 0 32
  | 0x54 => fld p.MISS_CNT_WFAULT 16 16 + fld p.MISS_CNT_MISS 0 16
  | 0x58 => fld p.FEAT 0 24
  | 0x60 => fld p.WADDR 2 17
  | 0x68 => fld p.WCRC 0 32
  | 0x6C => bit p.WLOAD_CRC_FAIL 2 + bit p.WLOAD_RESTORE 1 + bit p.WLOAD_COPY 0
  | 0x70 => fld p.IMG_CRC 0 32
  | 0x74 => fld p.TRC_CFG_GAP 16 12 + fld p.TRC_CFG_WIN 4 8 + bit p.TRC_CFG_EN 0
  | 0x78 => fld p.TRC_STAT_WINDOWS 16 16 + fld p.TRC_STAT_DROP 0 16
  | 0xC0 => fld p.BIAS_SEL_LAYER 16 3 + fld p.BIAS_SEL_CH 0 9
  | 0xC4 => fld (memRead 0 s.fcs.bias (512 * s.fcs.BIAS_SEL_LAYER + s.fcs.BIAS_SEL_CH)) 0 32
  | _ =>
    if let some i := indexAt off 0x80 8 6 then (let e := vAt p.layer i {}; fld e.LAYER_A_SHIFT 16 5 + bit e.LAYER_A_ACT 15 + fld e.LAYER_A_DLOG 12 3 + fld e.LAYER_A_KM1 8 3 + fld e.LAYER_A_COUT 4 4 + fld e.LAYER_A_CIN 0 4) else
    if let some i := indexAt off 0x84 8 6 then (let e := vAt p.layer i {}; fld e.LAYER_B_WOFF 16 8 + fld e.LAYER_B_MULT 0 16) else
    if let some i := indexAt off 0x100 16 16 then (let e := vAt p.rail i {}; bit (railFz s i) 19 + bit ((vAt s.ctl.rail i {}).CFG_FCS_EN) 18 + bit e.RAIL_LOCKED 17 + bit e.RAIL_DRIFT 16 + fld e.RAIL_ERR_LIM 8 8 + fld e.RAIL_OSH 0 2) else
    if let some i := indexAt off 0x104 16 16 then (let e := vAt p.rail i {}; fld e.OUT_G 16 8 + sfld (e.OUT_Y1) 0 11) else
    if let some i := indexAt off 0x108 16 16 then (let e := vAt p.rail i {}; sfld (e.HZ_Y16) 16 11 + sfld (e.HZ_Y4) 0 11) else
    if let some i := indexAt off 0x10C 16 16 then (let e := vAt p.rail i {}; fld e.DRIFT_DRIFT_CNT 16 16 + fld e.DRIFT_EPOCHS 8 2 + fld e.DRIFT_RUN 0 8) else
    0

/-- The words of the THM page at the offsets its chapter lists; reserved offsets read 0 (R26, R95). -/
def readThm (s : State) (off : Nat) : Nat :=
  let p := s.thm
  match off with
  | 0x40 => fld (holdLeft s) 16 16 + fld (tripsHr s) 8 8 + bit p.STATE_STORM 6 + bit s.thm.OBS_OFF 5 + bit p.STATE_BELOW_LOST 4 + fld p.STATE_PHASE 2 2 + bit p.STATE_SHUT_LATCH 1 + bit p.STATE_HOT 0
  | 0x44 => fld p.CAUSE_VALUE 16 16 + fld p.CAUSE_SRC 8 8 + fld p.CAUSE_LATE 4 4 + fld p.CAUSE_CAUSE 0 3
  | 0x48 => fld p.LVL0_T_SHUT 20 10 + fld p.LVL0_T_HOT 10 10 + fld p.LVL0_T_L 0 10
  | 0x4C => fld p.LVL1_S_SHUT 20 10 + fld p.LVL1_T_RESTART 10 10 + fld p.LVL1_RESTART_HOLD 0 8
  | 0x50 => fld p.LADDER_RATE_STEP 24 8 + fld p.LADDER_RATE_EXTRA 20 4 + fld p.LADDER_HYST 14 6 + fld p.LADDER_STEP 6 8
  | 0x54 => fld p.TIMES_UP_HOLD 24 8 + fld p.TIMES_SHUT_DWELL 16 8 + fld p.TIMES_LOSS_OFS 8 8 + fld p.TIMES_OBS_MARGIN 0 8
  | 0x58 => sfld (p.BELOW_T_BELOW) 16 16 + fld p.BELOW_AGE 12 4 + fld p.BELOW_BL_LEVEL 8 4 + fld p.BELOW_BELOW_OFS 0 8
  | 0x5C => fld p.BELOW_MASK 0 25
  | 0x60 => fld p.HOTCAP 0 16
  | 0x64 => fld p.AMB 0 16
  | 0x68 => fld p.BANDS_B_G_HIGH 24 8 + fld p.BANDS_B_G_MID 16 8 + fld p.BANDS_B_REF4X 8 8 + fld p.BANDS_B_REF2X 0 8
  | 0x6C => sfld (p.BANDS2) 0 8
  | 0x70 => fld p.OBS_VS_WARM 24 8 + fld p.OBS_NNODE 16 7 + fld p.OBS_INNOV_LIM 8 8 + bit p.OBS_LOCKED 3 + bit (obsWarm s) 2 + bit p.OBS_OFF 1 + bit (obsUsable s) 0
  | 0x74 => fld p.OBS_CNT_DISABLES 16 16 + fld p.OBS_CNT_OVERRUNS 0 16
  | 0x78 => fld p.OBS_TIME_MAX 16 16 + fld p.OBS_TIME_LAST 0 16
  | 0x7C => fld p.COEF_SEL_ROW 16 7 + fld p.COEF_SEL_COL 0 7
  | 0x80 => bit (decide (s.thm.obsBad = some (128 * s.thm.COEF_SEL_ROW + s.thm.COEF_SEL_COL))) 24 + fld (memRead 0 s.thm.ocoef (128 * s.thm.COEF_SEL_ROW + s.thm.COEF_SEL_COL)) 0 24
  | 0x84 => fld p.NODE_SEL 0 7
  | 0x88 => sfld (vAt s.thm.nodes s.thm.NODE_SEL 0) 0 32
  | 0x8C => fld p.HK_SEL0 0 32
  | 0x90 => fld p.HK_SEL1 0 32
  | 0x94 => fld p.SHUT_CNT_ORDERLY 16 16 + fld p.SHUT_CNT_RESTARTS 0 16
  | _ =>
    if let some i := indexAt off 0x100 4 6 then (let e := vAt p.grp i {}; sfld (e.GRP_MAX) 16 16 + sfld (e.GRP_RATE) 8 8 + fld e.GRP_LIVE 4 3 + bit e.GRP_LOST 3 + bit e.GRP_SHORT 2 + bit e.GRP_SPARE_IN 1) else
    if let some i := indexAt off 0x120 4 6 then (let e := vAt p.grp i {}; bit e.GMAP_STK_V 31 + fld e.GMAP_STK 27 4 + fld e.GMAP_DOMS 0 25) else
    if let some i := indexAt off 0x140 4 16 then (let e := vAt p.rail i {}; fld e.IHOT 0 12) else
    if let some i := indexAt off 0x200 4 25 then (let e := vAt p.dom i {}; sfld (e.DOM_TDOM) 16 16 + fld e.DOM_SRC 8 4 + bit (decide (s.now < e.frzTo)) 4 + fld e.DOM_LEVEL 0 4) else
    if let some i := indexAt off 0x280 4 32 then (let e := vAt p.vs i {}; sfld (e.VS_VALUE) 16 16 + sfld (e.VS_VOFS) 8 8 + fld e.VS_NODE 0 7) else
    if let some i := indexAt off 0x300 4 32 then (let e := vAt p.vs i {}; fld e.VDOM 0 25) else
    if let some i := indexAt off 0x380 4 12 then (let e := vAt p.stk i {}; sfld (e.STK_TS) 16 16 + fld e.STK_STK_OFS 8 8 + bit (s.cmn.straps.stackMask.toNat.testBit i) 5 + bit e.STK_LOST 4 + fld e.STK_TGB 2 2 + fld e.STK_RFB 0 2) else
    if let some i := indexAt off 0x3C0 4 6 then (let e := vAt p.snode i {}; fld e.SNODE 0 32) else
    0

/-- The words of the SNS page at the offsets its chapter lists; reserved offsets read 0 (R26, R95). -/
def readSns (s : State) (off : Nat) : Nat :=
  let p := s.sns
  match off with
  | 0x40 => fld p.HK_ROUNDS 16 16 + fld p.HK_SLOT 0 8
  | 0x44 => fld p.HK_SEL 0 8
  | 0x48 => fld ((vAt s.sns.hk s.sns.HK_SEL {}).age) 24 8 + bit ((vAt s.sns.hk s.sns.HK_SEL {}).failed) 17 + bit ((vAt s.sns.hk s.sns.HK_SEL {}).valid) 16 + fld (twos (vAt s.sns.hk s.sns.HK_SEL {}).val 16) 0 16
  | 0x4C => sfld (p.CORE_T_CORE) 16 16 + fld p.CORE_V_AON 0 16
  | 0x50 => bit p.RANGE_OUT 16 + fld p.RANGE_IN_ROUNDS 0 8
  | 0x54 => fld p.SWEEP_SWEEPS 16 16 + fld p.SWEEP_DUR 0 16
  | _ =>
    if let some i := indexAt off 0x58 4 3 then (let e := vAt p.ring i {}; fld e.RING_BREAK 24 8 + fld e.RING_B_FROM 16 8 + fld e.RING_REPLAYS 0 16) else
    if let some i := indexAt off 0x100 4 30 then (let e := vAt p.ts i {}; fld e.TS_SERVES 24 8 + fld e.TS_REASON 20 4 + bit e.TS_UNTRIM 18 + bit e.TS_FAILED 17 + bit e.TS_LIVE 16 + sfld (e.TS_TEMP) 0 16) else
    if let some i := indexAt off 0x180 4 30 then (let e := vAt p.ts i {}; sfld (e.TDRIFT) 0 8) else
    0

/-- The words of the DOM page at the offsets its chapter lists; reserved offsets read 0 (R26, R95). -/
def readDom (s : State) (off : Nat) : Nat :=
  let p := s.dom
  match off with
  | 0x40 => fld (maskOf 50 fun d => decide ((vAt s.dom.dom d {}).ST_ST = 5)) 0 32
  | 0x44 => fld (((maskOf 50 fun d => decide ((vAt s.dom.dom d {}).ST_ST = 5)) >>> 32)) 0 32
  | 0x48 => fld p.REQ 0 32
  | 0x4C => fld (((p.REQ) >>> 32)) 0 32
  | 0x50 => fld p.WAKE 0 32
  | 0x54 => fld (((p.WAKE) >>> 32)) 0 32
  | 0x58 => fld (maskOf 50 fun d => decide ((vAt s.dom.dom d {}).ST_ST = 8)) 0 32
  | 0x5C => fld (((maskOf 50 fun d => decide ((vAt s.dom.dom d {}).ST_ST = 8)) >>> 32)) 0 32
  | 0x60 => fld p.INR_DIE_FREE 16 12 + fld p.INR_DIE_POOL 0 12
  | 0x64 => fld (wakeHead s) 24 6 + fld (s.dom.queue.length + s.dom.nextQ.length) 16 6 + fld p.QUEUE_ROUND 1 15 + bit (wakePaused s) 0
  | 0x68 => bit p.FORCE_GO 31 + bit p.FORCE_ON 8 + fld p.FORCE_DOM 0 6
  | 0x6C => fld p.LAT_MAX 16 16 + fld p.LAT_LAST 0 16
  | 0x70 => fld p.CNT_WAKES 16 16 + fld p.CNT_SLEEPS 0 16
  | 0x74 => fld p.ABORT_CNT_TIMEOUTS 16 16 + fld p.ABORT_CNT_FAILED_DEM 0 16
  | _ =>
    if let some i := indexAt off 0x80 4 16 then (let e := vAt p.rail i {}; fld e.INR_RAIL_FREE 16 12 + fld e.INR_RAIL_POOL 0 12) else
    if let some i := indexAt off 0x100 16 50 then (let e := vAt p.dom i {}; fld e.CFG_RAIL 28 4 + fld e.CFG_COST 20 8 + fld e.CFG_PRIO 18 2 + fld e.CFG_ORDER 15 3 + bit e.CFG_RET 14 + bit e.CFG_SLEEP 13 + fld e.CFG_IDLE_TO 0 10) else
    if let some i := indexAt off 0x104 16 50 then (let e := vAt p.dom i {}; fld e.TIM_PRE_TO 24 8 + fld e.TIM_PRE_HOLD 16 8 + fld e.TIM_RESTORE 8 8 + fld e.TIM_SAVE 0 8) else
    if let some i := indexAt off 0x108 16 50 then (let e := vAt p.dom i {}; fld e.OFFD 0 16) else
    if let some i := indexAt off 0x10C 16 50 then (let e := vAt p.dom i {}; bit (domWanted s i) 12 + bit (doorbellWake s i) 11 + bit e.ST_RET_HELD 10 + bit (s.cmn.straps.bootDom.toNat.testBit i) 9 + fld e.ST_ST 0 4) else
    0

/-- The words of the CLK page at the offsets its chapter lists; reserved offsets read 0 (R26, R95). -/
def readClk (s : State) (off : Nat) : Nat :=
  let p := s.clk
  match off with
  | 0x40 => fld (maskOf 25 fun c => (vAt s.clk.dom c {}).ST_LOST) 0 25
  | 0x44 => fld (maskOf 25 (genOk s)) 0 25
  | 0x48 => fld p.TK_HANGS 24 8 + bit p.TK_GLITCH 16 + bit p.TK_XTAL_SEEN 9 + bit p.TK_AMP_OK 8 + bit p.TK_SRC 0
  | 0x4C => bit p.TK_CFG 0
  | 0x50 => fld p.FORCE_SRC 0 2
  | 0x54 => fld p.TK_CNT_SWITCHES 16 16 + fld p.TK_CNT_XTAL_LOSS 0 16
  | _ =>
    if let some i := indexAt off 0x100 16 25 then (let e := vAt p.dom i {}; fld e.CFG_F_IMG 27 5 + fld e.CFG_FGAP 16 8 + fld e.CFG_UP_GAP 8 8 + bit e.CFG_SSC 0) else
    if let some i := indexAt off 0x104 16 25 then (let e := vAt p.dom i {}; bit e.HREQ_EN 8 + fld e.HREQ_F_HOST 0 5) else
    if let some i := indexAt off 0x108 16 25 then (let e := vAt p.dom i {}; fld e.ST_FSTEP 24 5 + fld e.ST_F_TGT 16 5 + fld e.ST_THR 12 4 + fld (tTarget s i) 8 4 + bit e.ST_SSC 3 + bit (stretchOut s i) 2 + bit (genOk s i) 1 + bit e.ST_LOST 0) else
    if let some i := indexAt off 0x10C 16 25 then (let e := vAt p.dom i {}; fld e.MOVES_THR_MOVES 16 16 + fld e.MOVES_F_MOVES 0 16) else
    0

/-- The words of the VRG page at the offsets its chapter lists; reserved offsets read 0 (R26, R95). -/
def readVrg (s : State) (off : Nat) : Nat :=
  let p := s.vrg
  match off with
  | 0x40 => fld p.BUS_UNRESP 16 16 + fld (maskOf 16 fun r => s.vrg.ppQ.contains r) 0 16
  | 0x44 => fld p.BUS_CNT_SETV_REPL 16 16 + fld p.BUS_CNT_TIMEOUTS 0 16
  | 0x48 => fld p.PP_CNT 0 32
  | 0x4C => fld p.PP_TIME_MAX 16 16 + fld p.PP_TIME_LAST 0 16
  | 0x50 => fld p.TRK_CFG 0 8
  | _ =>
    if let some i := indexAt off 0x100 32 16 then (let e := vAt p.rail i {}; fld e.SET 0 16) else
    if let some i := indexAt off 0x104 32 16 then (let e := vAt p.rail i {}; bit e.flt 17 + bit e.rdy 16 + fld e.PP_I_PP 0 16) else
    if let some i := indexAt off 0x108 32 16 then (let e := vAt p.rail i {}; fld e.TG_PAR_CNT 24 8 + fld e.TG_RAW 0 24) else
    if let some i := indexAt off 0x10C 32 16 then (let e := vAt p.rail i {}; fld e.CAL_I_GAIN 16 16 + sfld (e.CAL_I_OFS) 0 16) else
    if let some i := indexAt off 0x110 32 16 then (let e := vAt p.rail i {}; fld e.CALV_V_GAIN 16 16 + sfld (e.CALV_V_OFS) 0 16) else
    if let some i := indexAt off 0x114 32 16 then (let e := vAt p.rail i {}; sfld (e.TRK_DIFF) 16 16 + sfld (e.TRK_V_TRACK) 0 16) else
    if let some i := indexAt off 0x118 32 16 then (let e := vAt p.rail i {}; fld e.PHCFG_SPARE 12 12 + fld e.PHCFG_PRIM 0 12) else
    if let some i := indexAt off 0x11C 32 16 then (let e := vAt p.rail i {}; bit e.PHST_REDUCED 29 + bit e.PHST_SPARE_IN 28 + fld e.PHST_FAULTY 12 12 + fld e.PHST_ACTIVE 0 12) else
    0

/-- The words of the PMB page at the offsets its chapter lists; reserved offsets read 0 (R26, R95). -/
def readPmb (s : State) (off : Nat) : Nat :=
  let p := s.pmb
  match off with
  | 0x40 => fld p.CFG_POLL 8 8 + bit p.CFG_ALERT_CLR 1 + bit p.CFG_SPEED 0
  | 0x44 => fld p.VIN_LIM_VIN_HI 16 16 + fld p.VIN_LIM_VIN_LO 0 16
  | 0x48 => fld p.IIN_LIM 0 16
  | 0x4C => fld ((match s.pmb.vinAt with | some t => sat 16 (s.msSince t) | none => 0xFFFF)) 16 16 + fld p.VIN_VIN 0 16
  | 0x50 => fld p.IIN 0 16
  | 0x54 => fld p.ROUND_ROUNDS 16 16 + fld p.ROUND_DUR 0 16
  | 0x58 => fld p.ERR_CNT_PEC 16 16 + fld p.ERR_CNT_NACK 0 16
  | 0x5C => fld p.ALERT_ALERTS 16 16 + fld p.ALERT_ADDR 0 7
  | 0x60 => fld p.ALERT_ST 0 16
  | 0x64 => fld p.HOST_XACT_KIND 30 2 + fld p.HOST_XACT_SLOT 24 3 + fld p.HOST_XACT_CMD 16 8 + fld p.HOST_XACT_DATA 0 16
  | 0x68 => bit p.HOST_RES_DONE 31 + fld p.HOST_RES_ST 28 3 + fld p.HOST_RES_RDATA 0 16
  | 0x6C => fld p.PERS_SEQ 16 16 + bit p.PERS_EE_OK 2 + bit p.PERS_COPY 1 + bit p.PERS_RESTORED 0
  | _ =>
    if let some i := indexAt off 0x80 4 8 then (let e := vAt p.conv i {}; bit e.CONV_VALID 31 + bit e.CONV_VIN_SRC 30 + bit e.CONV_IIN_SRC 29 + fld e.CONV_ADDR 0 7) else
    if let some i := indexAt off 0xA0 4 8 then (let e := vAt p.conv i {}; fld e.READ_IIN 16 16 + fld e.READ_VIN 0 16) else
    if let some i := indexAt off 0xC0 4 8 then (let e := vAt p.conv i {}; bit e.CST_OK 24 + fld e.CST_NACKS 16 8 + fld e.CST_STATUS 0 16) else
    0

/-- The words of the FRM page at the offsets its chapter lists; reserved offsets read 0 (R26, R95). -/
def readFrm (s : State) (off : Nat) : Nat :=
  let p := s.frm
  match off with
  | 0x40 => fld p.FORM_FMAJ 24 8 + fld p.FORM_FMIN 16 8 + fld (if s.frm.FORM_STATE = 3 then s.frm.failCount else popcount 24 s.frm.ROSTER) 8 5 + fld p.FORM_ERR 4 4 + fld p.FORM_STATE 0 2
  | 0x44 => fld p.ROSTER 0 24
  | 0x48 => fld p.ROLE_RECKONER 24 5 + fld p.ROLE_PMB 16 5 + fld p.ROLE_RCK 8 5 + fld p.ROLE_HOPS 0 5
  | 0x4C => fld p.LINK_W_LANES 8 5 + fld p.LINK_E_LANES 3 5 + bit s.frm.west.up 1 + bit s.frm.east.up 0
  | 0x50 => fld p.FSEQ 0 24
  | 0x54 => fld p.BUDGET 0 32
  | 0x58 => fld (frmHeldTotal s) 0 32
  | 0x5C => fld p.CFG 0 8
  | 0x60 => fld p.PKGCAP 0 16
  | 0x64 => fld p.CNT_RETRIES 16 16 + fld p.CNT_CRC_ERR 0 16
  | 0x68 => fld p.CNT2_JOINS 16 16 + fld p.CNT2_DOWNS 0 16
  | _ =>
    if let some i := indexAt off 0x100 4 24 then (let e := vAt p.member i {}; fld e.MEMBER_MAX 16 16 + fld e.MEMBER_FLOOR 0 16) else
    if let some i := indexAt off 0x180 4 24 then (let e := vAt p.member i {}; fld e.SHARE 0 32) else
    if let some i := indexAt off 0x200 4 24 then (fld (frmDemandOf s i) 0 32) else
    if let some i := indexAt off 0x280 4 24 then (let e := vAt p.member i {}; fld e.PEER_MAJOR 24 8 + fld e.PEER_MINOR 16 8 + fld e.PEER_STACKS 4 12 + bit (decide (0 < e.heldMw)) 3 + bit e.PEER_UNREACH 2 + bit e.PEER_ABSENT 1 + bit (s.frm.ROSTER.testBit i) 0) else
    0

/-- The words of the TRE page at the offsets its chapter lists; reserved offsets read 0 (R26, R95). -/
def readTre (s : State) (off : Nat) : Nat :=
  let p := s.tre
  match off with
  | 0x40 => fld p.STATE_VER 16 8 + fld (treParent s) 8 3 + bit (treLive s) 2 + fld (treRole s) 0 2
  | 0x44 => fld p.PARENT_BUD 0 32
  | 0x48 => fld (bSub s) 0 32
  | 0x4C => fld p.PKG 0 32
  | 0x50 => fld p.CFG_MYPORT 16 5 + fld p.CFG_HOLD 8 8 + fld p.CFG_POLL 0 8
  | 0x54 => fld p.ISO 0 32
  | 0x58 => fld p.DEMAND 0 32
  | 0x5C => fld p.CNT_BAD 16 16 + fld p.CNT_CRC_ERR 0 16
  | 0x60 => fld p.CNT2_CUTS 16 16 + fld p.CNT2_IGNORED 0 16
  | 0x64 => fld (s.tre.ctrUp % 2 ^ 32) 0 32
  | 0x68 => fld (s.tre.ctrUp >>> 32) 0 16
  | _ =>
    if let some i := indexAt off 0x100 16 16 then (let e := vAt p.port i {}; fld e.PORT_MAX 16 16 + fld e.PORT_FLOOR 0 16) else
    if let some i := indexAt off 0x104 16 16 then (let e := vAt p.port i {}; fld e.PORT_ST_MISSED 8 8 + bit (decide (0 < e.heldW)) 2 + bit e.PORT_ST_ABSENT 1 + bit e.PORT_ST_PRESENT 0) else
    if let some i := indexAt off 0x108 16 16 then (let e := vAt p.port i {}; fld e.PORT_BUD 0 32) else
    if let some i := indexAt off 0x10C 16 16 then (let e := vAt p.port i {}; fld e.PORT_DEM 0 32) else
    0

/-- The words of the MBS page at the offsets its chapter lists; reserved offsets read 0 (R26, R95). -/
def readMbs (s : State) (off : Nat) : Nat :=
  let p := s.mbs
  match off with
  | 0x60 => fld p.IN_STAT_REFUSED 16 16 + fld p.IN_STAT_ABORTED 8 8 + fld p.IN_STAT_FULL 0 8
  | 0x64 => fld (s.mbs.outQ.headD 0) 0 32
  | 0x6C => fld p.OUT_STAT_DROPPED 16 16 + bit p.OUT_STAT_ABORTED 9 + bit p.OUT_STAT_OVF 8 + fld s.mbs.outQ.length 0 4
  | 0x70 => fld p.CFG_NOTE_EN 16 4 + fld p.CFG_RX_DOM 0 6
  | 0xC0 => fld p.BLK_ADDR 0 13
  | 0xC4 => bit p.BLK_CTRL_GO 31 + fld p.BLK_CTRL_OP 0 2
  | 0xC8 => fld p.BLK_STAT_ERR 8 3 + bit p.BLK_STAT_DONE 0
  | 0xCC => fld p.BLK_CRC 0 32
  | 0xE4 => fld (hbAge s) 16 16 + fld p.HB_STAT_LAST 0 16
  | 0xE8 => fld p.HB_CFG 0 16
  | 0xEC => fld p.ORPH_STEP 16 16 + fld p.ORPH_FLOOR 0 16
  | 0xF0 => fld s.mbs.orphCapNow 0 32
  | 0xF4 => fld p.HB_CNT_BAD 16 16 + fld p.HB_CNT_LOSSES 0 16
  | _ =>
    if let some i := indexAt off 0x40 4 8 then (let e := vAt p.inb i {}; fld e.IN 0 32) else
    if let some i := indexAt off 0x80 4 16 then (let e := vAt p.blk i {}; fld e.BLK_D 0 32) else
    0

/-- The words of the MBN page at the offsets its chapter lists; reserved offsets read 0 (R26, R95). -/
def readMbn (s : State) (off : Nat) : Nat :=
  let p := s.mbn
  match off with
  | 0x60 => fld p.IN_STAT_REFUSED 16 16 + fld p.IN_STAT_ABORTED 8 8 + fld p.IN_STAT_FULL 0 8
  | 0x64 => fld (s.mbn.outQ.headD 0) 0 32
  | 0x6C => fld p.OUT_STAT_DROPPED 16 16 + bit p.OUT_STAT_ABORTED 9 + bit p.OUT_STAT_OVF 8 + fld s.mbn.outQ.length 0 4
  | 0x70 => fld p.CFG_NOTE_EN 16 4 + fld p.CFG_RX_DOM 0 6
  | 0xC0 => fld p.BLK_ADDR 0 13
  | 0xC4 => bit p.BLK_CTRL_GO 31 + fld p.BLK_CTRL_OP 0 2
  | 0xC8 => fld p.BLK_STAT_ERR 8 3 + bit p.BLK_STAT_DONE 0
  | 0xCC => fld p.BLK_CRC 0 32
  | _ =>
    if let some i := indexAt off 0x40 4 8 then (let e := vAt p.inb i {}; fld e.IN 0 32) else
    if let some i := indexAt off 0x80 4 16 then (let e := vAt p.blk i {}; fld e.BLK_D 0 32) else
    0

/-- The words of the RCK page at the offsets its chapter lists; reserved offsets read 0 (R26, R95). -/
def readRck (s : State) (off : Nat) : Nat :=
  let p := s.rck
  match off with
  | 0x40 => bit p.ADDR_DA_VALID 15 + fld p.ADDR_DA 8 7 + fld p.ADDR_SADDR 0 7
  | 0x44 => fld s.cmn.fuses.dieId.toNat 0 32
  | 0x48 => fld s.cmn.fuses.rckPidHi.toNat 0 16
  | 0x4C => fld p.CAP 0 32
  | 0x50 => fld (rckMuteLeft s) 24 8 + fld p.STAT_LAST_ST 16 3 + fld p.STAT_LAST_TYPE 8 8 + bit p.STAT_IBI_EN 2 + bit p.STAT_REPLY 1 + bit p.STAT_MUTED 0
  | 0x54 => fld p.CNT_PERFORMED 16 16 + fld p.CNT_REJECTED 0 16
  | 0x58 => fld p.CNT2_RATE 16 16 + fld p.CNT2_FRAME 0 16
  | 0x5C => fld p.CNT3_MUTES 16 16 + fld p.CNT3_BAD 0 16
  | _ => 0

/-- The words of the AUT page at the offsets its chapter lists; reserved offsets read 0 (R26, R95). -/
def readAut (s : State) (off : Nat) : Nat :=
  let p := s.aut
  match off with
  | 0x58 => fld (wchkAge s) 4 13 + bit s.aut.pend.isSome 0
  | 0x5C => fld (keyOkMask s) 8 4 + bit s.rck.STAT_MUTED 3 + bit p.STAT_HS_LOGMUTE 2 + bit p.STAT_UNANCHORED 1 + bit p.STAT_ANCHORED 0
  | 0x60 => fld p.ANCHOR 0 32
  | 0x64 => fld p.HS_LAST 0 32
  | 0x68 => fld (((p.HS_LAST) >>> 32)) 0 32
  | 0x6C => fld p.RK_LAST 0 32
  | 0x70 => fld (((p.RK_LAST) >>> 32)) 0 32
  | 0x74 => fld p.RK_OUT 0 32
  | 0x78 => fld (((p.RK_OUT) >>> 32)) 0 32
  | 0x7C => fld p.TR_TX 0 32
  | 0x80 => fld (((p.TR_TX) >>> 32)) 0 32
  | 0x84 => fld p.FAIL_CNT_RK 16 16 + fld p.FAIL_CNT_HS 0 16
  | 0x88 => fld (treSyncCount s) 0 5
  | _ =>
    0

/-- The words of the RST page at the offsets its chapter lists; reserved offsets read 0 (R26, R95). -/
def readRst (s : State) (off : Nat) : Nat :=
  let p := s.rst
  match off with
  | 0x40 => bit p.CAUSE_RESTARTED 4 + bit p.CAUSE_PIN_LAST 3 + bit p.CAUSE_OVERLAP 2 + fld p.CAUSE_CAUSE 0 2
  | 0x44 => fld p.CNT_WARM 16 16 + fld p.CNT_LOCAL 0 16
  | 0x48 => fld p.EXIT 0 16
  | 0x4C => fld p.SELFTEST_ROWS 24 8 + fld p.SELFTEST_LANES 16 8 + fld p.SELFTEST_MACROS 8 8 + bit p.SELFTEST_FAIL 1 + bit p.SELFTEST_DONE 0
  | 0x50 => fld p.STRAP_ERR 0 8
  | 0x54 => bit s.rst.vioLow 0
  | _ =>
    if let some i := indexAt off 0x60 4 8 then (let e := vAt p.page i {}; fld e.LRST_TO_FORCED 16 16 + fld e.LRST_TO_TIMEOUT 0 10) else
    0

/-- The words of the REL page at the offsets its chapter lists; reserved offsets read 0 (R26, R95). -/
def readRel (s : State) (off : Nat) : Nat :=
  let p := s.rel
  match off with
  | 0x40 => fld p.REPLAY_RETIRED 16 16 + fld p.REPLAY_REPLAYED 0 16
  | 0x44 => fld p.SPARE_USE_DD_FREE 24 4 + fld p.SPARE_USE_TS_FREE 20 3 + fld s.ctl.MU_SPARE_FREE 16 2 + fld s.tly.ROWCAP_SPARE_FREE 0 9
  | 0x48 => fld p.SCRUB_PASSES 16 16 + fld p.SCRUB_LAST 0 16
  | 0x4C => fld p.SCRUB_CNT_RESTORED 16 16 + fld p.SCRUB_CNT_FOUND 0 16
  | 0x50 => bit p.STAGING_DAMAGED 31 + fld p.STAGING_ROW 0 13
  | 0x54 => fld p.INTR_MAX 16 16 + fld p.INTR_LAST 0 16
  | 0x58 => fld p.BLIND_BUS 16 16 + fld p.BLIND_TG 0 16
  | 0x5C => fld p.BLIND_CFG 0 4
  | 0x60 => bit p.SPARE_CMD_GO 31 + fld p.SPARE_CMD_OP 24 2 + fld p.SPARE_CMD_KIND 16 4 + fld p.SPARE_CMD_INDEX 0 12
  | 0x64 => bit p.SPARE_STAT_DONE 31 + fld p.SPARE_STAT_ST 24 4 + fld p.SPARE_STAT_KIND 16 4 + fld p.SPARE_STAT_INDEX 0 12
  | _ =>
    if let some i := indexAt off 0x80 4 6 then (let e := vAt p.mem i {}; bit e.MEM_EXHAUSTED 24 + fld (memFree s i) 16 8 + fld e.MEM_MAPPED 0 16) else
    if let some i := indexAt off 0x100 8 16 then (let e := vAt p.wear i {}; bit e.WEAR_FAILED 31 + bit e.WEAR_INIT 30 + fld (gWear s i) 16 8 + fld e.WEAR_AG_MEAN 0 12) else
    if let some i := indexAt off 0x104 8 16 then (let e := vAt p.wear i {}; fld e.WEARCFG_WEAR_MAX 8 8 + fld e.WEARCFG_WK 0 8) else
    0

/-- The words of the EVT page at the offsets its chapter lists; reserved offsets read 0 (R26, R95). -/
def readEvt (s : State) (off : Nat) : Nat :=
  let p := s.evt
  match off with
  | 0x40 => fld p.CFG_SUPP_LIM 8 8 + bit p.CFG_FREEZE 2 + bit p.CFG_TRIP_FREEZE 1 + bit p.CFG_MODE 0
  | 0x44 => fld s.evt.queue.length 24 6 + bit p.STAT_ERASING 19 + bit p.STAT_FLUSH_ACT 18 + bit p.STAT_FLUSHED 17 + bit p.STAT_FROZEN 16 + fld p.STAT_WR 0 12
  | 0x48 => fld p.COUNT 0 32
  | 0x4C => fld p.DROP_ALW 16 16 + fld p.DROP_ORD 0 16
  | 0x50 => fld p.SUPP 0 32
  | 0x54 => fld p.CAP_RES_NEXT 16 8 + fld p.CAP_USABLE 0 13
  | 0x58 => fld p.IRQ_LAST_CODE 16 16 + bit p.IRQ_PEND 0
  | 0x5C => bit p.ERASE 31
  | 0x60 => fld p.RD_SEL 0 12
  | 0x64 => fld p.RD_STAT_CHK_CNT 16 16 + bit p.RD_STAT_CHK_BAD 9 + bit p.RD_STAT_STALE 8
  | 0x68 => fld p.FRZ_CAUSE 16 2 + fld p.FRZ_FRZ_SLOT 0 12
  | 0x6C => fld (optime s) 0 32
  | 0x70 => fld (((optime s) >>> 32)) 0 32
  | 0x74 => fld p.PCYCLE 0 32
  | _ =>
    if let some i := indexAt off 0x80 4 8 then (let e := vAt p.rd i {}; fld e.RD_D 0 32) else
    0

/-- The words of the TRC page at the offsets its chapter lists; reserved offsets read 0 (R26, R95). -/
def readTrc (s : State) (off : Nat) : Nat :=
  let p := s.trc
  match off with
  | 0x40 => fld p.CFG_RAIL_PER 16 16 + bit p.CFG_EVC_EN 2 + bit p.CFG_THM_EN 1 + bit p.CFG_RAIL_EN 0
  | 0x44 => fld (trcHeadType s) 24 8 + bit (trcHeadPar s) 17 + bit (trcHeadFirst s) 16 + fld (trcChunks s) 0 11
  | 0x4C => fld p.DROP0_E2 16 16 + fld p.DROP0_E1 0 16
  | 0x50 => fld p.DROP1_PAR 16 16 + fld p.DROP1_E4 0 16
  | 0x54 => fld p.PEAK 0 11
  | _ =>
    if let some i := indexAt off 0x80 4 8 then (fld (trcHeadWord s i) 0 32) else
    0

/-- PAGE_CAPS of each page (R107, and each page's table of header bits). -/
def pageCaps (p : Nat) : Nat :=
  [0x339218, 0x0, 0x1002000, 0x4181000, 0x4808, 0x2480210, 0x40ff1006, 0x60201906, 0x1ea00003, 0x30032, 0x19001f, 0x10000c, 0x8, 0x180041, 0x10, 0x100808, 0x100808, 0x26, 0x4, 0x0, 0x6286100, 0x401000, 0x4000004].getD p 0

/-- The page-specific bits of PAGE_STATUS: laws executing, the observer and the orderly window, PMB_EN (R107). -/
def statusBits (s : State) (p : Nat) : Nat :=
  if p = 5 then bit (lawsRun s) 16
  else if p = 7 then bit (obsRuns s) 17 + bit (decide (s.thm.STATE_PHASE = 1)) 16
  else if p = 12 then bit s.cmn.straps.pmbEn 16
  else 0

/-- The common header of a page (R107). -/
def readHdr (s : State) (p : Fin 23) (off : Nat) : Nat :=
  let h := s.hdr[p]
  match off with
  | 0x00 => 0x4C59 * 2 ^ 16 + p.val
  | 0x04 => 3 * 2 ^ 24 + 4 * 2 ^ 16 + 3 * 2 ^ 8 + 4
  | 0x08 => pageCaps p.val
  | 0x0C => bit h.lrstReq 0
  | 0x10 => statusBits s p.val + bit h.lrstAct 2 + bit h.lock 1 + bit h.busy 0
  | 0x14 => fld h.err 0 32
  | 0x18 => fld h.errMask 0 32
  | 0x1C => fld h.evtEn 0 32
  | 0x20 => bit h.lockSrc 1 + bit h.lock 0
  | 0x24 => fld h.lastWord 12 10 + fld h.faultCnt 0 8
  | _ => 0

/-- The words of a page beyond its header. -/
def readPage (s : State) (p : Fin 23) (off : Nat) : Nat :=
  match p.val with
  | 0 => readCmn s off
  | 1 => readSeq s off
  | 2 => readTly s off
  | 3 => readAdm s off
  | 4 => readBeam s off
  | 5 => readCtl s off
  | 6 => readFcs s off
  | 7 => readThm s off
  | 8 => readSns s off
  | 9 => readDom s off
  | 10 => readClk s off
  | 11 => readVrg s off
  | 12 => readPmb s off
  | 13 => readFrm s off
  | 14 => readTre s off
  | 15 => readMbs s off
  | 16 => readMbn s off
  | 17 => readRck s off
  | 18 => readAut s off
  | 19 => readRst s off
  | 20 => readRel s off
  | 21 => readEvt s off
  | _ => readTrc s off

/-- The registers that a page's chapter lists beyond its header: offset of the first, step, and how many (R94, R95). -/
def pageRegs (p : Nat) : List (Nat × Nat × Nat) :=
  match p with
  | 0 => [(0x40, 4, 18)]
  | 1 => [(0x40, 4, 11)]
  | 2 => [(0x40, 4, 13), (0x100, 16, 16), (0x104, 16, 16), (0x108, 16, 16), (0x10C, 16, 16)]
  | 3 => [(0x40, 4, 12), (0x80, 4, 18), (0x100, 4, 16)]
  | 4 => [(0x40, 4, 10), (0x100, 16, 16), (0x104, 16, 16), (0x108, 16, 16), (0x10C, 16, 16), (0x200, 4, 32), (0x300, 4, 72), (0x500, 4, 72), (0x600, 4, 72), (0x800, 4, 25)]
  | 5 => [(0x40, 4, 12), (0x100, 32, 16), (0x104, 32, 16), (0x108, 32, 16), (0x10C, 32, 16), (0x110, 32, 16), (0x114, 32, 16), (0x118, 32, 16), (0x11C, 32, 16)]
  | 6 => [(0x40, 4, 7), (0x60, 4, 7), (0x80, 8, 6), (0x84, 8, 6), (0xC0, 4, 2), (0x100, 16, 16), (0x104, 16, 16), (0x108, 16, 16), (0x10C, 16, 16)]
  | 7 => [(0x40, 4, 22), (0x100, 4, 6), (0x120, 4, 6), (0x140, 4, 16), (0x200, 4, 25), (0x280, 4, 76), (0x3C0, 4, 6)]
  | 8 => [(0x40, 4, 9), (0x100, 4, 30), (0x180, 4, 30)]
  | 9 => [(0x40, 4, 14), (0x80, 4, 16), (0x100, 16, 50), (0x104, 16, 50), (0x108, 16, 50), (0x10C, 16, 50)]
  | 10 => [(0x40, 4, 6), (0x100, 16, 25), (0x104, 16, 25), (0x108, 16, 25), (0x10C, 16, 25)]
  | 11 => [(0x40, 4, 5), (0x100, 32, 16), (0x104, 32, 16), (0x108, 32, 16), (0x10C, 32, 16), (0x110, 32, 16), (0x114, 32, 16), (0x118, 32, 16), (0x11C, 32, 16)]
  | 12 => [(0x40, 4, 12), (0x80, 4, 24)]
  | 13 => [(0x40, 4, 11), (0x100, 4, 24), (0x180, 4, 24), (0x200, 4, 24), (0x280, 4, 24)]
  | 14 => [(0x40, 4, 11), (0x100, 16, 16), (0x104, 16, 16), (0x108, 16, 16), (0x10C, 16, 16)]
  | 15 => [(0x40, 4, 13), (0x80, 4, 20), (0xE0, 4, 6)]
  | 16 => [(0x40, 4, 13), (0x80, 4, 20)]
  | 17 => [(0x40, 4, 8)]
  | 18 => [(0x40, 4, 19)]
  | 19 => [(0x40, 4, 6), (0x60, 4, 8)]
  | 20 => [(0x40, 4, 10), (0x80, 4, 6), (0x100, 8, 16), (0x104, 8, 16)]
  | 21 => [(0x40, 4, 14), (0x80, 4, 8)]
  | _ => [(0x40, 4, 6), (0x80, 4, 8)]

/-- A word address names a register: a header word, or one that the page's chapter lists (R95). -/
def regListed (addr : Nat) : Bool :=
  let off := addr % 1024 * 4
  decide (addr / 1024 < 23) && (decide (off < 0x28) || (pageRegs (addr / 1024)).any fun x => (indexAt off x.1 x.2.1 x.2.2).isSome)

/-- The word that a register holds (R94 to R97). -/
def rawReg (s : State) (addr : Nat) : Nat :=
  let off := addr % 1024 * 4
  if h : addr / 1024 < 23 then
    (if off < 0x28 then readHdr s ⟨addr / 1024, h⟩ off else readPage s ⟨addr / 1024, h⟩ off) % 2 ^ 32
  else 0

/-- The state whose registers hold their Cold values, with the straps and fuses of this instance (R24). -/
def coldView (s : State) : State :=
  let f := s.cmn.straps.fboot.toNat
  let c : State := { State.reset with cmn := { State.reset.cmn with straps := s.cmn.straps, fuses := s.cmn.fuses } }
  { c with clk.dom := c.clk.dom.map fun (e : ClkDom) => { e with CFG_F_IMG := f, ST_FSTEP := f, ST_F_TGT := f },
           vrg.rail := Vector.ofFn fun r : Fin 16 => { c.vrg.rail[r] with SET := vbootOf s r.val } }

/-- The Cold value of a register word. -/
def coldReg (s : State) (addr : Nat) : Nat := rawReg (coldView s) addr

/-- The bits of a register that an image sets. -/
def imgBits (addr : Nat) : Nat := if addr % 1024 * 4 < 0x28 then 0 else (imgMask (addr / 1024) (addr % 1024 * 4)).getD 0

/-- The word that a read of `addr` (hst_addr, a word address) returns: of a word with no spare left, its Cold value (R480);
of one whose computed fields wait for their next update, their Cold values beside its image fields (R113). -/
def readReg (s : State) (addr : Nat) : Nat :=
  let w := rawReg s addr
  if s.rel.regDead.contains addr then coldReg s addr
  else match s.rel.regStale.find? fun x => x.1 = addr with
    | some x =>
      if x.2 = w then
        let m := imgBits addr
        (w &&& m) ||| (coldReg s addr &&& (2 ^ 32 - 1 - m))
      else w
    | none => w

end Sys2Proof.Machine
end

