-- ==== Sys2Proof/Machine/HostPort.lean ====
section
/-! DEFINITION. The host port (03_register_model.md): parity, security, locks and keyed checks (R97 to R105, R113 to R120), the
effect of a write on every writable register, and the commands that a host sends. -/

namespace Sys2Proof.Machine

open Sys2Proof

/-! ### Answers -/

/-- The even-parity bit of `len` bits (R98). -/
def evenPar (len n : Nat) : Bool := decide (popcount len n % 2 = 1)

/-- hst_apar of an access (R98): over the 17 bits of hst_addr, hst_we and hst_sec. -/
def addrPar (addr : Nat) (we sec : Bool) : Bool := evenPar 17 (addr % 32768 + 32768 * b2n we + 65536 * b2n sec)

/-- The response: status, data, and the parity of the data (R97, R98). [DESIGN CHOICE, log entry 21] -/
def State.respond (s : State) (st data : Nat) : State := { s with hst := { st := st, data := data, par := evenPar 32 data } }

/-- Pages whose writes need hst_sec (R94). -/
def secWrites (p : Nat) : Bool := [1, 4, 15, 18, 19, 20].contains p

/-- Pages whose reads need hst_sec (R94). -/
def secReads (p : Nat) : Bool := [15, 18].contains p

/-- A reserved value was written (R27, R109). [DEDUCED, log entry 16] -/
def State.resvVal (s : State) (p : Fin 23) (off : Nat) : State := s.fault p 3 (p.val * 256 + 3) [off / 4, 1]

/-- A value where it is reserved: the field's Cold value takes its place, and RESV_VAL is flagged (R27).
[DEDUCED, log entry 16] -/
def State.resvIf (s : State) (p : Fin 23) (off : Nat) (bad : Bool) : State := if bad then s.resvVal p off else s

/-- A write of an RWA register (R119): the check first, then what the owning chapter refuses, then the effect.
[DEDUCED, log entry 14] -/
def State.keyedWrite (s : State) (p : Fin 23) (off data : Nat) (refused : State → Bool) (act : State → State) : State × Nat :=
  let k := s.keyedCheck p (4096 * p.val + off) data
  if !k.1 then (k.2, 2) else if refused k.2 then (k.2, 2) else (act k.2, 0)

/-! ### The windows -/

/-- A write of TLY_ROW_SEL copies one row (R114). A row not written since the reset holds its own index and nothing else.
[DEDUCED, log entry 19] -/
def State.rowSnapshot (s : State) (data : Nat) : State :=
  let sp := bitAt data 31
  let sel := bitsOf data 0 13
  let row : Option Nat := if sp then ((s.tly.maps.find? fun x => x.2 = sel % 256 + 1).map fun x => x.1) else some sel
  let w := match row with | some i => (let w := rowW s i; if w = 0 then i else w) | none => 0
  let phys := match row with | some i => memRead 0 s.tly.maps i | none => 0
  let bad := decide (rowSt w = 4)
  { s with tly.ROW_SEL_SPARE := sp, tly.ROW_SEL_SEL := sel, tly.ROW_LO := if bad then 0 else w % 2 ^ 32,
           tly.ROW_HI := if bad then 0 else w / 2 ^ 32, tly.ROW_STAT_PHYS := phys - 1, tly.ROW_STAT_MAPPED := decide (phys ≠ 0),
           tly.ROW_STAT_STALE := false, tly.ROW_STAT_PFAULT := bad, tly.ROW_STAT_EPOCH := s.tly.EPOCH_NUM }

/-- A write of FCS_WADDR (R115): the whole value is compared before it is stored. -/
def State.setWaddr (s : State) (data : Nat) : State :=
  { s with fcs.WADDR := if 262144 ≤ data then 65536 else data / 4, fcs.WCRC := 0 }

/-- A write of FCS_WDATA (R115): four weights at the offset, which advances; refused outside an open load and at the end. -/
def State.putWdata (s : State) (data : Nat) : State × Nat :=
  if !stagingOpen s || decide (65536 ≤ s.fcs.WADDR) then (s.setErr pgFcs 16, 2)
  else
    let bs := bytesLE 4 data
    ({ s.stgWrite (weightBase + 4 * s.fcs.WADDR) bs with fcs.WADDR := s.fcs.WADDR + 1, fcs.WCRC := crc32Ext s.fcs.WCRC bs }, 0)

/-! ### The registers of each page -/

/-- SEQ (R469, R471, R476). -/
def writeSeq (s : State) (off data : Nat) : State × Nat :=
  match off with
  | 0x44 => ({ s with seq.DRV_VER := bitsOf data 0 8 }, 0)
  | 0x48 =>
    (match bitsOf data 0 3 with
      | 0 => s
      | 1 => s.loadCmd
      | 2 => s.commitCmd
      | 3 => s.activateCmd
      | 4 => s.abortCmd
      | _ => s.resvVal pgSeq off, 0)
  | 0x54 =>
    let v := bitsOf data 0 16
    let ok := decide (10 ≤ v ∧ v ≤ 60000)
    ({ s with seq.ACT_TIMEOUT := if ok then v else 1000 }.resvIf pgSeq off !ok, 0)
  | 0x58 =>
    s.keyedWrite pgSeq off data (fun _ => false) fun s =>
      let low := lowestPkg s
      let s := if low < data then s.fault pgSeq 20 0x0117 (dat2 data) else s
      { s with seq.HOST_CAP := min data low }.sendCap
  | _ => (s, 0)

/-- TLY (R114, R189). TLY_EPOCH_LEN is RWL: refused while the page is locked (R117). -/
def writeTly (s : State) (off data : Nat) : State × Nat :=
  match off with
  | 0x40 =>
    if s.hdr[pgTly].lock then (s.fault pgTly 4 0x0204 [off / 4, 1], 2)
    else
      let v := bitsOf data 0 14
      let ok := decide (128 ≤ v ∧ v ≤ 8192)
      ({ s with tly.EPOCH_LEN := if ok then v else 1024 }.resvIf pgTly off !ok, 0)
  | 0x58 => (s.rowSnapshot data, 0)
  | _ => (s, 0)

/-- A BEAM_HLIMn write: a value above the fuse ceiling is accepted at it (R33, R197); a lowered limit acts at once (R198). -/
def State.setHlim (s : State) (r v : Nat) : State :=
  let top := (fuseRail s r).iCeil.toNat
  let above := !railAbsent s r && decide (top < v)
  let s := if above then s.fault pgBeam 18 0x041C [2, 1, r] else s
  (s.brMod r fun e => { e with HLIM := if above then top else v }).lowerLimits.beamSettle

/-- BEAM (R197, R220, R222). [DEDUCED, log entry 15] -/
def writeBeam (s : State) (off data : Nat) : State × Nat :=
  if off = 0x60 then
    let kind := bitsOf data 8 4
    let bad := !decide (1 ≤ kind ∧ kind ≤ 7) && (bitAt data 31 || decide (kind ≠ 0))
    s.keyedWrite pgBeam off data (fun s => bitAt data 31 && beamTestRefused s) fun s =>
      let s := s.resvIf pgBeam off bad
      if bitAt data 31 then s.beamTest kind (bitsOf data 0 8)
      else { s with beam.TEST_CTRL_KIND := if bad then 0 else kind, beam.TEST_CTRL_TARGET := bitsOf data 0 8 }
  else
    match indexAt off 0x108 16 16 with
    | some r => (s.setHlim r (bitsOf data 0 12), 0)
    | none => (s, 0)

/-- CTL: the windows of R256. -/
def writeCtl (s : State) (off data : Nat) : State × Nat :=
  match off with
  | 0x60 =>
    let i := bitsOf data 0 8
    ({ s with ctl.COEF_SEL_RAIL := bitsOf data 24 4, ctl.COEF_SEL_BANK := bitAt data 16,
              ctl.COEF_SEL_INDEX := if i < 144 then i else 0 }.resvIf pgCtl off (decide (144 ≤ i)), 0)
  | 0x68 => ({ s with ctl.X_SEL_RAIL := bitsOf data 24 4, ctl.X_SEL_IDX := bitsOf data 0 3 }, 0)
  | _ => (s, 0)

/-- FCS (R115, R277, R279). [DEDUCED, log entry 16] -/
def writeFcs (s : State) (off data : Nat) : State × Nat :=
  match off with
  | 0x60 => (s.setWaddr data, 0)
  | 0x64 => s.putWdata data
  | 0x74 => (s.trcCfg (bitAt data 0) (bitsOf data 4 8) (bitsOf data 16 12), 0)
  | 0xC0 => ({ s with fcs.BIAS_SEL_LAYER := bitsOf data 16 3, fcs.BIAS_SEL_CH := bitsOf data 0 9 }, 0)
  | _ => (s, 0)

/-- THM: the ambient and the windows (R292, R311). [DEDUCED, log entry 16] -/
def writeThm (s : State) (off data : Nat) : State × Nat :=
  match off with
  | 0x64 => (s.onThm fun t => { t with AMB := bitsOf data 0 16 }, 0)
  | 0x7C =>
    let r := bitsOf data 16 7
    ((s.onThm fun t => { t with COEF_SEL_ROW := if r < 96 then r else 0, COEF_SEL_COL := bitsOf data 0 7 }).resvIf pgThm off
      (decide (96 ≤ r)), 0)
  | 0x84 => (s.onThm fun t => { t with NODE_SEL := bitsOf data 0 7 }, 0)
  | _ => (s, 0)

/-- SNS: the channel window (R287). -/
def writeSns (s : State) (off data : Nat) : State × Nat :=
  match off with
  | 0x44 =>
    let c := bitsOf data 0 8
    ((s.onSns fun t => { t with HK_SEL := if c < 160 then c else 0 }).resvIf pgSns off (decide (160 ≤ c)), 0)
  | _ => (s, 0)

/-- DOM (R318, R331). The lower word of DOM_REQ waits for the upper one (R105).
[DEDUCED, log entry 15; DEDUCED, log entry 17] -/
def writeDom (s : State) (off data : Nat) : State × Nat :=
  match off with
  | 0x48 => ({ s with pairLo := some (9 * 1024 + 0x12, data) }, 0)
  | 0x4C =>
    let lo := match s.pairLo with | some (_, v) => v | none => s.dom.REQ % 2 ^ 32
    ({ s with pairLo := none, dom.REQ := bitsOf data 0 18 * 2 ^ 32 + lo }.demands, 0)
  | 0x68 =>
    let d := bitsOf data 0 6
    let on := bitAt data 8
    s.keyedWrite pgDom off data (fun s => bitAt data 31 && domForceRefused s d on) fun s =>
      let s : State := { s with dom.FORCE_ON := on, dom.FORCE_DOM := d }
      if bitAt data 31 then (if on then s.domForceOn d else s.domForceOff d) else s
  | _ => (s, 0)

/-- CLK (R333, R340). -/
def writeClk (s : State) (off data : Nat) : State × Nat :=
  if off = 0x50 then s.keyedWrite pgClk off data (fun s => forceSrcRefused s (bitsOf data 0 2)) fun s => s.forceSrc (bitsOf data 0 2)
  else
    match indexAt off 0x104 16 25 with
    | some c => ((s.clkMod c fun e => { e with HREQ_EN := bitAt data 8, HREQ_F_HOST := bitsOf data 0 5 }).fLower, 0)
    | none => (s, 0)

/-- PMB (R366). -/
def writePmb (s : State) (off data : Nat) : State × Nat :=
  if off = 0x64 then
    s.keyedWrite pgPmb off data (fun s => hostXactRefused s (bitsOf data 24 3)) fun s =>
      s.hostXact (bitsOf data 30 2) (bitsOf data 24 3) (bitsOf data 16 8) (bitsOf data 0 16)
  else (s, 0)

/-- A write of MBx_BLK_CTRL (R427). [DEDUCED, log entry 15] -/
def State.blkCtrl (s : State) (c : Chan) (data : Nat) : State × Nat :=
  let op := bitsOf data 0 2
  if bitAt data 31 then (if blkAllowed s c op then (s.blkStart c op, 0) else (s, 2))
  else
    ((s.mbxMod c fun m => { m with BLK_CTRL_OP := if op < 2 then op else 0 }).resvIf (chanPage c) 0xC4 (decide (2 ≤ op)), 0)

/-- A mailbox page (R420 to R428). [DEDUCED, log entry 16] -/
def writeMbx (s : State) (c : Chan) (off data : Nat) : State × Nat :=
  match off with
  | 0x60 => (s.mbxMod c fun m => { m with IN_STAT_ABORTED := m.IN_STAT_ABORTED - (m.IN_STAT_ABORTED &&& bitsOf data 8 8) }, 0)
  | 0x68 => (if bitAt data 0 then s.outPop c else s, 0)
  | 0x6C => (s.mbxMod c fun m => { m with OUT_STAT_ABORTED := m.OUT_STAT_ABORTED && !bitAt data 9,
                                          OUT_STAT_OVF := m.OUT_STAT_OVF && !bitAt data 8 }, 0)
  | 0x70 => (s.mbxMod c fun m => { m with CFG_NOTE_EN := bitsOf data 16 4, CFG_RX_DOM := bitsOf data 0 6 }, 0)
  | 0xC0 => (s.mbxMod c fun m => { m with BLK_ADDR := bitsOf data 0 13, BLK_CRC := 0 }, 0)
  | 0xC4 => s.blkCtrl c data
  | 0xE0 => (if c = .mbs then s.beat (bitsOf data 0 16) else s, 0)
  | _ =>
    match indexAt off 0x40 4 8, indexAt off 0x80 4 16 with
    | some k, _ => if (s.mbx c).IN_STAT_FULL.testBit k then (s.boxRefuse c, 2) else (s.boxFill c k data, 0)
    | none, some j => (s.mbxMod c fun m => { m with blk := vMod m.blk j fun _ => { BLK_D := data } }, 0)
    | none, none => (s, 0)

/-- AUT: the six check registers (R119). -/
def writeAut (s : State) (off data : Nat) : State × Nat :=
  match off with
  | 0x40 => ({ s with aut.WCHK_CTR_LO := data }, 0)
  | 0x44 => ({ s with aut.WCHK_CTR_HI := data }, 0)
  | 0x54 => (s.armCheck data, 0)
  | _ =>
    match indexAt off 0x48 4 3 with
    | some i => ({ s with aut.mac := vMod s.aut.mac i fun _ => { WCHK_MAC := data } }, 0)
    | none => (s, 0)

/-- RST: the timeouts of the block-local resets (R474). -/
def writeRst (s : State) (off data : Nat) : State × Nat :=
  match indexAt off 0x60 4 8 with
  | some p =>
    let v := bitsOf data 0 10
    let ok := decide (1 ≤ v ∧ v ≤ 1000)
    ({ s with rst.page := vMod s.rst.page p fun e => { e with LRST_TO_TIMEOUT := if ok then v else 50 } }.resvIf pgRst off !ok, 0)
  | none => (s, 0)

/-- REL: spare commands (R493). [DEDUCED, log entry 15] -/
def writeRel (s : State) (off data : Nat) : State × Nat :=
  if off = 0x60 then
    let kind := bitsOf data 16 4
    let op := bitsOf data 24 2
    let i := bitsOf data 0 12
    s.keyedWrite pgRel off data (fun s => bitAt data 31 && relRefused s kind) fun s =>
      if bitAt data 31 then s.relStart kind op i
      else { s with rel.SPARE_CMD_OP := op, rel.SPARE_CMD_KIND := kind, rel.SPARE_CMD_INDEX := i }
  else (s, 0)

/-- EVT (R514, R518, R520, R521). [DEDUCED, log entry 15] -/
def writeEvt (s : State) (off data : Nat) : State × Nat :=
  match off with
  | 0x40 => (s.writeEvtCfg data, 0)
  | 0x58 => ({ s with evt.IRQ_PEND := s.evt.IRQ_PEND && !bitAt data 0 }, 0)
  | 0x5C => s.keyedWrite pgEvt off data (fun s => bitAt data 31 && (s.evt.STAT_FLUSH_ACT || s.evt.STAT_ERASING)) fun s =>
      if bitAt data 31 then s.eraseStart else s
  | 0x60 => (s.copySlot (bitsOf data 0 12), 0)
  | _ => (s, 0)

/-- TRC (R524, R525). -/
def writeTrc (s : State) (off data : Nat) : State × Nat :=
  match off with
  | 0x40 => ({ s with trc.CFG_RAIL_PER := bitsOf data 16 16, trc.CFG_EVC_EN := bitAt data 2, trc.CFG_THM_EN := bitAt data 1,
                      trc.CFG_RAIL_EN := bitAt data 0 }, 0)
  | 0x48 => (if bitAt data 0 then s.trcPop else s, 0)
  | _ => (s, 0)

/-- The bits of each page's PAGE_EVT_EN beyond the sixteen of the errors. -/
def evtEnMask (p : Nat) : Nat :=
  [0, 0x30000, 0x10000, 0x70000, 0x10000, 0xF0000, 0x70000, 0x1F0000, 0x30000, 0x30000, 0x30000, 0x30000, 0x30000, 0x30000, 0x30000,
   0x30000, 0x30000, 0x30000, 0x10000, 0x30000, 0x70000, 0x10000, 0x10000].getD p 0 + 0xFFFF

/-- The common header (R107, R116, R460). -/
def writeHdr (s : State) (p : Fin 23) (off data : Nat) : State × Nat :=
  match off with
  | 0x0C => (if bitAt data 0 then s.lrstAsk p else s, 0)
  | 0x14 => (s.hdrMod p fun h => { h with err := h.err - (h.err &&& data) }, 0)
  | 0x18 => (s.hdrMod p fun h => { h with errMask := data }, 0)
  | 0x1C => (s.hdrMod p fun h => { h with evtEn := data &&& evtEnMask p.val }, 0)
  | 0x20 => (if bitAt data 0 then s.hdrMod p fun h => { h with lock := true } else s, 0)
  | _ => (s, 0)

/-- The effect of a write on the register it names, and the status that the owning chapter gives it. Registers that the
host cannot write, and reserved offsets, take no write (R25, R26). -/
def writeReg (s : State) (p : Fin 23) (off data : Nat) : State × Nat :=
  if off < 0x28 then writeHdr s p off data
  else match p.val with
    | 1 => writeSeq s off data
    | 2 => writeTly s off data
    | 4 => writeBeam s off data
    | 5 => writeCtl s off data
    | 6 => writeFcs s off data
    | 7 => writeThm s off data
    | 8 => writeSns s off data
    | 9 => writeDom s off data
    | 10 => writeClk s off data
    | 12 => writePmb s off data
    | 15 => writeMbx s .mbs off data
    | 16 => writeMbx s .mbn off data
    | 18 => writeAut s off data
    | 19 => writeRst s off data
    | 20 => writeRel s off data
    | 21 => writeEvt s off data
    | 22 => writeTrc s off data
    | _ => (s, 0)

/-! ### An access -/

/-- An address parity fault (R99, R109). [DESIGN CHOICE, log entry 21] -/
def State.addrFault (s : State) (addr : Nat) (we sec : Bool) : State :=
  ({ s with cmn.PORT_ERR_CNT_APAR_CNT := satAdd 16 s.cmn.PORT_ERR_CNT_APAR_CNT 1 }.fault pgCmn 1 0x0001
    [addr % 32768, b2n we + 2 * b2n sec]).respond 1 0

/-- A write data parity fault with good address parity (R99). [DESIGN CHOICE, log entry 21] -/
def State.dataFault (s : State) (addr : Nat) : State :=
  let s := { s with cmn.PORT_ERR_CNT_WPAR_CNT := satAdd 16 s.cmn.PORT_ERR_CNT_WPAR_CNT 1 }
  (if h : addr / 1024 < 23 then s.fault ⟨addr / 1024, h⟩ 2 (addr / 1024 * 256 + 2) [addr % 1024, 1] else s).respond 1 0

/-- A secure page accessed with hst_sec at 0 (R62, R94, R97). -/
def State.secRefused (s : State) (p : Fin 23) (addr : Nat) (we : Bool) : State :=
  (s.fault p 6 (p.val * 256 + 6) [addr % 1024, b2n we]).respond 2 0

/-- A pending lower word is discarded by a write of a different register on its page (R105). -/
def State.dropPair (s : State) (addr : Nat) : State :=
  match s.pairLo with
  | some (a, _) => if a / 1024 = addr / 1024 && regListed addr && decide (addr ≠ a) && decide (addr ≠ a + 1) then { s with pairLo := none } else s
  | none => s

/-- A write on the host port (R97 to R105): its parity, the page's security, a block-local reset in progress (R460), a word
with no spare left (R480), and then the register. The port answers only while it is live (R63, R64).
[DEDUCED, log entry 14; DEDUCED, log entry 17; DEDUCED, log entry 18] -/
def hostWrite (s : State) (addr data : Nat) (acc : HostAcc) : State :=
  if !netUp s then s
  else if acc.apar ≠ addrPar addr true acc.sec then s.addrFault addr true acc.sec
  else if acc.wpar ≠ evenPar 32 data then s.dataFault addr
  else if h : addr / 1024 < 23 then
    let p : Fin 23 := ⟨addr / 1024, h⟩
    let off := addr % 1024 * 4
    if secWrites p.val && !acc.sec then s.secRefused p addr true
    else if s.hdr[p].lrstAct && decide (0x28 ≤ off) then s.respond 0 0
    else if s.rel.regDead.contains addr then s.respond 0 0
    else
      let x := writeReg (s.dropPair addr) p off data
      x.1.respond x.2 0
  else s.respond 0 0

/-- A read on the host port: it changes nothing but the response, and a parity or security fault's record (R97, R102).
[DEDUCED, log entry 18] -/
def hostRead (s : State) (addr : Nat) (acc : HostAcc) : State :=
  if !netUp s then s
  else if acc.apar ≠ addrPar addr false acc.sec then s.addrFault addr false acc.sec
  else if h : addr / 1024 < 23 then
    let p : Fin 23 := ⟨addr / 1024, h⟩
    if secReads p.val && !acc.sec then s.secRefused p addr false else s.respond 0 (readReg s addr)
  else s.respond 0 0

/-! ### Storage parity (R113, R480) -/

/-- The fields of a word that the driver sets take their Cold values (R113). [DEDUCED, log entry 20] -/
def State.driverCold (s : State) (p : Fin 23) (off : Nat) : State :=
  match p.val, off with
  | 1, 0x44 => { s with seq.DRV_VER := 0 }
  | 1, 0x54 => { s with seq.ACT_TIMEOUT := 1000 }
  | 1, 0x58 => { s with seq.HOST_CAP := 0 }.sendCap
  | 2, 0x40 => { s with tly.EPOCH_LEN := 1024 }
  | 2, 0x58 => { s with tly.ROW_SEL_SPARE := false, tly.ROW_SEL_SEL := 0 }
  | 4, 0x60 => { s with beam.TEST_CTRL_KIND := 0, beam.TEST_CTRL_TARGET := 0 }
  | 5, 0x60 => { s with ctl.COEF_SEL_RAIL := 0, ctl.COEF_SEL_BANK := false, ctl.COEF_SEL_INDEX := 0 }
  | 5, 0x68 => { s with ctl.X_SEL_RAIL := 0, ctl.X_SEL_IDX := 0 }
  | 6, 0x60 => { s with fcs.WADDR := 0 }
  | 6, 0x74 => s.trcCfg false 0 0
  | 6, 0xC0 => { s with fcs.BIAS_SEL_LAYER := 0, fcs.BIAS_SEL_CH := 0 }
  | 7, 0x64 => s.onThm fun t => { t with AMB := 0x08C0 }
  | 7, 0x7C => s.onThm fun t => { t with COEF_SEL_ROW := 0, COEF_SEL_COL := 0 }
  | 7, 0x84 => s.onThm fun t => { t with NODE_SEL := 0 }
  | 8, 0x44 => s.onSns fun t => { t with HK_SEL := 0 }
  | 9, 0x48 => { s with dom.REQ := s.dom.REQ / 2 ^ 32 * 2 ^ 32 }.demands
  | 9, 0x4C => { s with dom.REQ := s.dom.REQ % 2 ^ 32 }.demands
  | 9, 0x68 => { s with dom.FORCE_ON := false, dom.FORCE_DOM := 0 }
  | 10, 0x50 => s.forceSrc 0
  | 12, 0x64 => { s with pmb.HOST_XACT_KIND := 0, pmb.HOST_XACT_SLOT := 0, pmb.HOST_XACT_CMD := 0, pmb.HOST_XACT_DATA := 0 }
  | 18, 0x40 => { s with aut.WCHK_CTR_LO := 0 }
  | 18, 0x44 => { s with aut.WCHK_CTR_HI := 0 }
  | 20, 0x60 => { s with rel.SPARE_CMD_OP := 0, rel.SPARE_CMD_KIND := 0, rel.SPARE_CMD_INDEX := 0 }
  | 21, 0x40 => s.writeEvtCfg (16 * 256)
  | 21, 0x60 => { s with evt.RD_SEL := 0 }
  | 22, 0x40 => { s with trc.CFG_RAIL_PER := 64, trc.CFG_EVC_EN := false, trc.CFG_THM_EN := false, trc.CFG_RAIL_EN := false }
  | q, o =>
    if o = 0x18 then s.hdrMod p fun h => { h with errMask := 0 }
    else if o = 0x1C then s.hdrMod p fun h => { h with evtEn := 0 }
    else if q = 4 then (match indexAt o 0x108 16 16 with | some r => s.brMod r fun e => { e with HLIM := 0 } | none => s)
    else if q = 10 then
      (match indexAt o 0x104 16 25 with | some c => s.clkMod c fun e => { e with HREQ_EN := false, HREQ_F_HOST := 0 } | none => s)
    else if q = 15 ∨ q = 16 then
      let c : Chan := if q = 15 then .mbs else .mbn
      (match o with
        | 0x70 => s.mbxMod c fun m => { m with CFG_NOTE_EN := 0, CFG_RX_DOM := 63 }
        | 0xC0 => s.mbxMod c fun m => { m with BLK_ADDR := 0 }
        | 0xC4 => s.mbxMod c fun m => { m with BLK_CTRL_OP := 0 }
        | _ =>
          match indexAt o 0x40 4 8, indexAt o 0x80 4 16 with
          | some k, _ => s.mbxMod c fun m => { m with inb := vMod m.inb k fun _ => {} }
          | none, some j => s.mbxMod c fun m => { m with blk := vMod m.blk j fun _ => {} }
          | none, none => s)
    else if q = 18 then
      (match indexAt o 0x48 4 4 with | some i => { s with aut.mac := vMod s.aut.mac i fun _ => {} } | none => s)
    else if q = 19 then
      (match indexAt o 0x60 4 8 with
        | some k => { s with rst.page := vMod s.rst.page k fun e => { e with LRST_TO_TIMEOUT := 50 } }
        | none => s)
    else s

/-- A word that fails again on its first use after a restore takes a spare word of its page; with none left, it reads cold and
takes no write, and the instance is in DEGRADED (R480). [DEDUCED, log entry 20] -/
def State.regAgain (s : State) (p : Fin 23) (addr : Nat) : State :=
  if 0 < vAt s.rel.regFree p.val 0 then { s with rel.regFree := vMod s.rel.regFree p.val fun n => n - 1 }
  else
    let s : State := { s with rel.regDead := if s.rel.regDead.contains addr then s.rel.regDead else s.rel.regDead ++ [addr] }
    (s.hdrMod p fun h => { h with faultCnt := 255 }).settle (p.val * 256 + 7)

/-- INT_PAR (R113): the word is restored by its kind, and the fault recorded. [DEDUCED, log entry 20] -/
def execIntPar (addr : BitVec 15) (again : Bool) (s : State) : Host.Outcome State Fault Refusal :=
  .next (
    let a := addr.toNat
    if !regListed a || !s.rst.started then s
    else if h : a / 1024 < 23 then
      let p : Fin 23 := ⟨a / 1024, h⟩
      let s := s.driverCold p (a % 1024 * 4)
      let s := { s with rel.regStale := (a, rawReg s a) :: s.rel.regStale.filter fun x => x.1 ≠ a }
      let s := s.hdrMod p fun h => { h with lastWord := a % 1024, faultCnt := satAdd 8 h.faultCnt 1 }
      let s := s.fault p 7 (p.val * 256 + 7) [a % 1024]
      if again then s.regAgain p a else s
    else s)

/-! ### The commands -/

/-- The word address of a register. -/
def regAddr (page off : Nat) : Nat := page * 1024 + off / 4

/-- REGISTER_WRITE (R97, R103). -/
def execRegisterWrite (addr : BitVec 15) (data : Word) (acc : HostAcc) (s : State) : Host.Outcome State Fault Refusal :=
  .next (hostWrite s addr.toNat data.toNat acc)

/-- REGISTER_READ (R97, R102). -/
def execRegisterRead (addr : BitVec 15) (acc : HostAcc) (s : State) : Host.Outcome State Fault Refusal :=
  .next (hostRead s addr.toNat acc)

/-- PAGE_LOCK_WRITE (R116). -/
def execPageLockWrite (page : Fin 23) (data : Word) (acc : HostAcc) (s : State) : Host.Outcome State Fault Refusal :=
  .next (hostWrite s (regAddr page.val 0x20) data.toNat acc)

/-- TLY_ROW_SEL_WRITE (R114). -/
def execTlyRowSelWrite (data : Word) (acc : HostAcc) (s : State) : Host.Outcome State Fault Refusal :=
  .next (hostWrite s (regAddr 2 0x58) data.toNat acc)

/-- FCS_WADDR_WRITE (R115). -/
def execFcsWaddrWrite (data : Word) (acc : HostAcc) (s : State) : Host.Outcome State Fault Refusal :=
  .next (hostWrite s (regAddr 6 0x60) data.toNat acc)

/-- FCS_WDATA_WRITE (R115). -/
def execFcsWdataWrite (data : Word) (acc : HostAcc) (s : State) : Host.Outcome State Fault Refusal :=
  .next (hostWrite s (regAddr 6 0x64) data.toNat acc)

/-- AUT_WCHK_MAC3_WRITE (R119). -/
def execAutWchkMac3Write (data : Word) (acc : HostAcc) (s : State) : Host.Outcome State Fault Refusal :=
  .next (hostWrite s (regAddr 18 0x54) data.toNat acc)

/-- SEQ_HOST_CAP_WRITE (R33, R118, R476). -/
def execSeqHostCapWrite (data : Word) (acc : HostAcc) (s : State) : Host.Outcome State Fault Refusal :=
  .next (hostWrite s (regAddr 1 0x58) data.toNat acc)

/-- BEAM_HLIM_WRITE (R197, R198). -/
def execBeamHlimWrite (rail : Fin 16) (data : Word) (acc : HostAcc) (s : State) : Host.Outcome State Fault Refusal :=
  .next (hostWrite s (regAddr 4 (0x108 + 16 * rail.val)) data.toNat acc)

/-- The word of BEAM_TEST_CTRL that starts a test. -/
def testWord (kind target : Nat) : Nat := 2 ^ 31 + kind * 2 ^ 8 + target

/-- A write of BEAM_TEST_CTRL with START at 1 (R220). -/
def beamTestWrite (kind target : Nat) (acc : HostAcc) (s : State) : State := hostWrite s (regAddr 4 0x60) (testWord kind target) acc

/-- BEAM_TEST_DETECTOR (R220). -/
def execBeamTestDetector (target : BitVec 8) (acc : HostAcc) (s : State) : Host.Outcome State Fault Refusal :=
  .next (beamTestWrite 1 target.toNat acc s)

/-- BEAM_TEST_CURRENT (R220). -/
def execBeamTestCurrent (target : BitVec 8) (acc : HostAcc) (s : State) : Host.Outcome State Fault Refusal :=
  .next (beamTestWrite 2 target.toNat acc s)

/-- BEAM_TEST_VOLTAGE (R220). -/
def execBeamTestVoltage (target : BitVec 8) (acc : HostAcc) (s : State) : Host.Outcome State Fault Refusal :=
  .next (beamTestWrite 3 target.toNat acc s)

/-- BEAM_TEST_DIE_POWER (R220). -/
def execBeamTestDiePower (acc : HostAcc) (s : State) : Host.Outcome State Fault Refusal := .next (beamTestWrite 4 0 acc s)

/-- BEAM_TEST_TEMPERATURE (R220). -/
def execBeamTestTemperature (acc : HostAcc) (s : State) : Host.Outcome State Fault Refusal := .next (beamTestWrite 5 0 acc s)

/-- BEAM_TEST_BROWN_OUT (R220). -/
def execBeamTestBrownOut (acc : HostAcc) (s : State) : Host.Outcome State Fault Refusal := .next (beamTestWrite 6 0 acc s)

/-- BEAM_TEST_ALL (R220). -/
def execBeamTestAll (acc : HostAcc) (s : State) : Host.Outcome State Fault Refusal := .next (beamTestWrite 7 0 acc s)

/-- DOM_FORCE_ON (R331). -/
def execDomForceOn (dom : BitVec 6) (acc : HostAcc) (s : State) : Host.Outcome State Fault Refusal :=
  .next (hostWrite s (regAddr 9 0x68) (2 ^ 31 + 2 ^ 8 + dom.toNat) acc)

/-- DOM_FORCE_OFF (R331). -/
def execDomForceOff (dom : BitVec 6) (acc : HostAcc) (s : State) : Host.Outcome State Fault Refusal :=
  .next (hostWrite s (regAddr 9 0x68) (2 ^ 31 + dom.toNat) acc)

/-- CLK_FORCE_SRC_WRITE (R340). -/
def execClkForceSrcWrite (data : Word) (acc : HostAcc) (s : State) : Host.Outcome State Fault Refusal :=
  .next (hostWrite s (regAddr 10 0x50) data.toNat acc)

/-- A write of REL_SPARE_CMD with GO at 1 (R493). -/
def spareWrite (kind op index : Nat) (acc : HostAcc) (s : State) : State :=
  hostWrite s (regAddr 20 0x60) (2 ^ 31 + op * 2 ^ 24 + kind * 2 ^ 16 + index) acc

/-- SPARE_SUBST_DETECTOR (R493). -/
def execSpareSubstDetector (index : BitVec 12) (acc : HostAcc) (s : State) : Host.Outcome State Fault Refusal :=
  .next (spareWrite 1 1 index.toNat acc s)

/-- SPARE_RESTORE_DETECTOR (R493). -/
def execSpareRestoreDetector (index : BitVec 12) (acc : HostAcc) (s : State) : Host.Outcome State Fault Refusal :=
  .next (spareWrite 1 2 index.toNat acc s)

/-- SPARE_SUBST_SENSOR (R284, R493). -/
def execSpareSubstSensor (index : BitVec 12) (acc : HostAcc) (s : State) : Host.Outcome State Fault Refusal :=
  .next (spareWrite 2 1 index.toNat acc s)

/-- SPARE_RESTORE_SENSOR (R493). -/
def execSpareRestoreSensor (index : BitVec 12) (acc : HostAcc) (s : State) : Host.Outcome State Fault Refusal :=
  .next (spareWrite 2 2 index.toNat acc s)

/-- SPARE_SUBST_LANE (R493). -/
def execSpareSubstLane (index : BitVec 12) (acc : HostAcc) (s : State) : Host.Outcome State Fault Refusal :=
  .next (spareWrite 3 1 index.toNat acc s)

/-- SPARE_RESTORE_LANE (R493). -/
def execSpareRestoreLane (index : BitVec 12) (acc : HostAcc) (s : State) : Host.Outcome State Fault Refusal :=
  .next (spareWrite 3 2 index.toNat acc s)

/-- SPARE_SUBST_PHASE (R360, R493). -/
def execSpareSubstPhase (index : BitVec 12) (acc : HostAcc) (s : State) : Host.Outcome State Fault Refusal :=
  .next (spareWrite 5 1 index.toNat acc s)

/-- SPARE_RESTORE_PHASE (R493). -/
def execSpareRestorePhase (index : BitVec 12) (acc : HostAcc) (s : State) : Host.Outcome State Fault Refusal :=
  .next (spareWrite 5 2 index.toNat acc s)

/-- SPARE_RESTORE_AGEING (R493, R495). -/
def execSpareRestoreAgeing (index : BitVec 12) (acc : HostAcc) (s : State) : Host.Outcome State Fault Refusal :=
  .next (spareWrite 6 2 index.toNat acc s)

/-- EVT_ERASE (R518). -/
def execEvtErase (acc : HostAcc) (s : State) : Host.Outcome State Fault Refusal :=
  .next (hostWrite s (regAddr 21 0x5C) (2 ^ 31) acc)

/-- A write of PMB_HOST_XACT (R366). -/
def xactWrite (kind slot cmd data : Nat) (acc : HostAcc) (s : State) : State :=
  hostWrite s (regAddr 12 0x64) (kind * 2 ^ 30 + slot * 2 ^ 24 + cmd * 2 ^ 16 + data) acc

/-- PMB_HOST_SEND_BYTE (R366). -/
def execPmbHostSendByte (slot : BitVec 3) (cmd : BitVec 8) (data : BitVec 16) (acc : HostAcc) (s : State) : Host.Outcome State Fault Refusal :=
  .next (xactWrite 0 slot.toNat cmd.toNat data.toNat acc s)

/-- PMB_HOST_WRITE_BYTE (R366). -/
def execPmbHostWriteByte (slot : BitVec 3) (cmd : BitVec 8) (data : BitVec 16) (acc : HostAcc) (s : State) : Host.Outcome State Fault Refusal :=
  .next (xactWrite 1 slot.toNat cmd.toNat data.toNat acc s)

/-- PMB_HOST_WRITE_WORD (R366). -/
def execPmbHostWriteWord (slot : BitVec 3) (cmd : BitVec 8) (data : BitVec 16) (acc : HostAcc) (s : State) : Host.Outcome State Fault Refusal :=
  .next (xactWrite 2 slot.toNat cmd.toNat data.toNat acc s)

/-- PMB_HOST_READ_WORD (R366). -/
def execPmbHostReadWord (slot : BitVec 3) (cmd : BitVec 8) (data : BitVec 16) (acc : HostAcc) (s : State) : Host.Outcome State Fault Refusal :=
  .next (xactWrite 3 slot.toNat cmd.toNat data.toNat acc s)

/-- LRST_REQ (R460). -/
def execLrstReq (page : Fin 23) (acc : HostAcc) (s : State) : Host.Outcome State Fault Refusal :=
  .next (hostWrite s (regAddr page.val 0x0C) 1 acc)

/-- SEQ_LOAD (R462, R472). -/
def execSeqLoad (acc : HostAcc) (s : State) : Host.Outcome State Fault Refusal := .next (hostWrite s (regAddr 1 0x48) 1 acc)

/-- SEQ_COMMIT (R467). -/
def execSeqCommit (acc : HostAcc) (s : State) : Host.Outcome State Fault Refusal := .next (hostWrite s (regAddr 1 0x48) 2 acc)

/-- SEQ_ACTIVATE (R469). -/
def execSeqActivate (acc : HostAcc) (s : State) : Host.Outcome State Fault Refusal := .next (hostWrite s (regAddr 1 0x48) 3 acc)

/-- SEQ_ABORT (R471). -/
def execSeqAbort (acc : HostAcc) (s : State) : Host.Outcome State Fault Refusal := .next (hostWrite s (regAddr 1 0x48) 4 acc)

/-- MAILBOX_IN_WRITE (R420). -/
def execMailboxInWrite (c : Chan) (k : Fin 8) (data : Word) (acc : HostAcc) (s : State) : Host.Outcome State Fault Refusal :=
  .next (hostWrite s (regAddr (chanPage c).val (0x40 + 4 * k.val)) data.toNat acc)

/-- OUT_POP (R423). -/
def execOutPop (c : Chan) (data : Word) (acc : HostAcc) (s : State) : Host.Outcome State Fault Refusal :=
  .next (hostWrite s (regAddr (chanPage c).val 0x68) data.toNat acc)

/-- BLOCK_WRITE (R427): MBx_BLK_CTRL with GO at 1 and OP 0. -/
def execBlockWrite (c : Chan) (acc : HostAcc) (s : State) : Host.Outcome State Fault Refusal :=
  .next (hostWrite s (regAddr (chanPage c).val 0xC4) (2 ^ 31) acc)

/-- BLOCK_READ (R427): MBx_BLK_CTRL with GO at 1 and OP 1. -/
def execBlockRead (c : Chan) (acc : HostAcc) (s : State) : Host.Outcome State Fault Refusal :=
  .next (hostWrite s (regAddr (chanPage c).val 0xC4) (2 ^ 31 + 1) acc)

/-- BLK_ADDR_WRITE (R427). -/
def execBlkAddrWrite (c : Chan) (data : Word) (acc : HostAcc) (s : State) : Host.Outcome State Fault Refusal :=
  .next (hostWrite s (regAddr (chanPage c).val 0xC0) data.toNat acc)

/-- HEARTBEAT (R428, R430). -/
def execHeartbeat (data : Word) (acc : HostAcc) (s : State) : Host.Outcome State Fault Refusal :=
  .next (hostWrite s (regAddr 15 0xE0) data.toNat acc)

/-- EVT_RD_SEL_WRITE (R520). -/
def execEvtRdSelWrite (data : Word) (acc : HostAcc) (s : State) : Host.Outcome State Fault Refusal :=
  .next (hostWrite s (regAddr 21 0x60) data.toNat acc)

/-- EVT_FREEZE (R514): EVT_CFG with FREEZE at 1. -/
def execEvtFreeze (data : Word) (acc : HostAcc) (s : State) : Host.Outcome State Fault Refusal :=
  .next (hostWrite s (regAddr 21 0x40) (data.toNat ||| 4) acc)

/-- EVT_UNFREEZE (R514): EVT_CFG with MODE and FREEZE at 0. -/
def execEvtUnfreeze (data : Word) (acc : HostAcc) (s : State) : Host.Outcome State Fault Refusal :=
  .next (hostWrite s (regAddr 21 0x40) (data.toNat &&& 0xFFFFFFFA) acc)

/-- TRC_POP (R525). -/
def execTrcPop (data : Word) (acc : HostAcc) (s : State) : Host.Outcome State Fault Refusal :=
  .next (hostWrite s (regAddr 22 0x48) data.toNat acc)

end Sys2Proof.Machine
end

