-- ==== Sys2Proof/Machine/Tree.lean ====
section
/-! DEFINITION. The Kazsin link at work (R401 to R412): receiving from the parent and from the ports, bad checks and mutes,
reply slots, polling, and loss. A port's number names it as a sender; 16 names the parent. -/

namespace Sys2Proof.Machine

open Sys2Proof

/-! ### Bad checks (R404, R405, R411) -/

/-- The bad checks of a sender within the last second, with one more. -/
def badList (s : State) (l : List Nat) : List Nat := lastSecond s l ++ [s.now]

/-- The parent is lost (R409): its source presents TRE_ISO. Cause 1 is MISSED, 2 silence, 3 a mute.
[DEDUCED, log entry 50] -/
def State.loseParent (s : State) (cause : Nat) : State :=
  if s.tre.lost then s
  else ((s.onTre fun t => { t with lost := true, PARENT_BUD := t.ISO, pend := none }).fault pgTre 16 0x0E11 [cause]).subFell

/-- A port is absent (R409): its budget is held. [DEDUCED, log entry 50] -/
def State.portAbsent (s : State) (p : Nat) : State :=
  if (portOf s p).PORT_ST_ABSENT then s
  else
    let s := s.portMod p fun e =>
      { e with PORT_ST_PRESENT := false, PORT_ST_ABSENT := true, heldW := e.PORT_BUD, heldAt := s.now, heldCut := false }
    (s.onTre fun t =>
      { t with
        lowQ := t.lowQ.filter fun q => decide (q ≠ p)
        highQ := t.highQ.filter fun q => decide (q ≠ p) }).fault pgTre 17 0x0E12 [p]

/-- A frame failed its check: counted; recorded for the first four of a second; the fourth in a row asks for SYNC; the
sixteenth of a second mutes the sender (R405, R411). -/
def State.badCheck (s : State) (sender : Nat) : State :=
  let s := (s.onTre fun t => { t with CNT_BAD := satAdd 16 t.CNT_BAD 1 })
  let e := portOf s sender
  let up := decide (sender = 16)
  let l := badList s (if up then s.tre.badAt else e.badAt)
  let run := (if up then s.tre.badRun else e.badRun) + 1
  let mute := decide (16 ≤ l.length)
  let s := if up then s.onTre fun t =>
        { t with
          badAt := l, badRun := run % 4, syncDue := t.syncDue || decide (run = 4)
          muteAt := if mute then some s.now else t.muteAt }
    else s.portMod sender fun e =>
        { e with
          badAt := l, badRun := run % 4, frames := if run = 4 ∧ !e.frames.contains 1 then e.frames ++ [1] else e.frames
          muteAt := if mute then some s.now else e.muteAt }
  let s := if l.length ≤ 4 then s.fault pgTre 18 0x0E13 [sender] else s.setErr pgTre 18
  if mute then
    let s := s.fault pgTre 19 0x0E14 [sender]
    if up then s.loseParent 3 else s.portAbsent sender
  else s

/-- A frame that the rate limits ignore (R411). -/
def State.rateIgnored (s : State) (typ : Nat) : State :=
  let n := satAdd 16 s.tre.CNT2_IGNORED 1
  (s.onTre fun t => { t with CNT2_IGNORED := n }).fault pgTre 20 0x0E18 [typ, n]

/-! ### The standby (R412) -/

/-- The counter of an overheard frame: SYNC_ACK shows all of it, any other its low bits, SYNC none. -/
def followCtr (last : Nat) (f : KFrame) : Nat :=
  match kType f with
  | 1 => last
  | 2 => f.payload.toNat * 65536 + f.ctrLo.toNat
  | _ => kCounter last f.ctrLo.toNat

/-- The lower of a version heard and this block's (R405). -/
def lowerVer (f : KFrame) : Nat := min (bitsOf f.payload.toNat 24 8 % 16 * 16 + bitsOf f.payload.toNat 16 8 % 16) (blkMajor * 16 + blkMinor)

/-- The standby listens on both buses and sends nothing. -/
def State.follow (s : State) (bus : TreBus) (f : KFrame) : State :=
  let p := kPort f
  match bus, kUp f with
  | .up, false =>
    if p ≠ s.tre.CFG_MYPORT ∧ p ≠ 31 then s
    else s.onTre fun t =>
      { t with
        ctrUp := followCtr t.ctrUp f
        ver := if kType f = 3 then some (lowerVer f) else t.ver
        linkId := if kType f = 4 then f.payload.toNat else t.linkId }
  | .up, true => if p = s.tre.CFG_MYPORT then s.onTre fun t => { t with selfUp := followCtr t.selfUp f } else s
  | .dn, false => s.onTre fun t => { t with selfDn := followCtr t.selfDn f }
  | .dn, true => s.portMod p fun e => { e with ctr := followCtr e.ctr f, ver := if kType f = 3 then some (lowerVer f) else e.ver }

/-! ### As a child -/

/-- The counter and the verdict of a frame of the parent (R404). [DEDUCED, log entry 48] -/
def parentCheck (s : State) (f : KFrame) (chal : List Nat) : Nat × Bool :=
  let c := if kType f = 2 then f.payload.toNat * 65536 + f.ctrLo.toNat else kCounter s.tre.ctrUp f.ctrLo.toNat
  (c, decide (kMac s (linkIdUp s) f.hdr.toNat f.payload.toNat c chal = f.mac.toNat))

/-- The payload of a HELLO (R405). -/
def kHelloPay : Nat := blkMajor * 2 ^ 24 + blkMinor * 2 ^ 16 + 2 * 2 ^ 8

/-- The payload of a SYNC_ACK: bits 47:16 of the counter that it is sent with. -/
def kAckPay (ctr : Nat) : Nat := bitsOf (ctr + 1) 16 32

/-- A challenge: a value of the samples since the reset, which the rules do not fix (R405). [DESIGN CHOICE, log entry 49] -/
def State.challenge (s : State) : Nat × State := (s.freeNat 32, s.tookFree)

/-- The child's reply slot (R406): its HELLO, SYNC_ACK or SYNC while its link start or resynchronisation is pending; else, to a
frame that passed its check, its DEMAND. [DESIGN CHOICE, log entry 49] -/
def State.reply (s : State) (ok : Bool) : State :=
  if s.tre.helloDue || s.tre.ver.isNone then (s.onTre fun t => { t with helloDue := false }).sendUp 3 kHelloPay []
  else
    match s.tre.ackDue with
    | some x => (s.onTre fun t => { t with ackDue := none }).sendUp 2 (kAckPay s.tre.txUp) (bytesLE 4 x)
    | none =>
      if s.tre.syncDue || !s.tre.synced then
        let r := s.challenge
        (r.2.onTre fun t => { t with syncDue := false, chal := some r.1 }).sendUp 1 r.1 []
      else if ok then
        let d := treDemandUp s
        (s.onTre fun t => { t with DEMAND := d }).sendUp 6 d []
      else s

/-- The types whose frames open a reply slot (R406). -/
def opensSlot (typ : Nat) : Bool := [1, 3, 4, 5, 7].contains typ

/-- A frame of the parent that a check confirms, where the parent is synchronised (R404, R409). -/
def State.parentTake (s : State) (f : KFrame) (act : State → State) : Bool × State :=
  if !s.tre.synced then (false, s)
  else
    let r := parentCheck s f []
    if r.2 then (true, act (s.onTre fun t => { t with ctrUp := r.1, badRun := 0, rxAt := some s.now, lost := false }))
    else (false, s.badCheck 16)

/-- A BUDGET of the parent (R408, R411): lower at once, higher at the next boundary. -/
def State.takeBudget (s : State) (w : Nat) : State :=
  if 4 ≤ s.tre.budN then s.rateIgnored 7
  else
    let b := bSub s
    let s := s.onTre fun t => { t with budN := t.budN + 1 }
    if w < b then (s.onTre fun t => { t with PARENT_BUD := w, pend := none }).subFell
    else s.onTre fun t => { t with pend := some w }

/-- A CUT of the parent (R406, R407, R411). [DEDUCED, log entry 48; DEDUCED, log entry 66] -/
def State.takeCut (s : State) (ratio q : Nat) : State :=
  let l := s.tre.cutAt.filter (fun t => decide (s.now < t + ticksPerMs))
  if 16 ≤ l.length then s.rateIgnored 8
  else
    let s := s.onTre fun t => { t with cutAt := l ++ [s.now] }
    if s.tre.cseqRx = some q then s
    else
      let b := bSub s
      ((s.onTre fun t =>
        { t with
          cseqRx := some q, CNT2_CUTS := satAdd 16 t.CNT2_CUTS 1, PARENT_BUD := b * ratio / 65536
          pend := t.pend.map fun w => w * ratio / 65536 }).event 0x0E16 [ratio, q]).subFell

/-- SYNC at most once per ms (R411). -/
def syncOpen (s : State) (t : Option Nat) : Bool := match t with | some x => s.after x ticksPerMs | none => true

/-- A frame of the parent: whether it passed a check, and what it does. -/
def State.parentFrame (s : State) (f : KFrame) : Bool × State :=
  let w := f.payload.toNat
  match kType f with
  | 1 => (false, if syncOpen s s.tre.ackAt then s.onTre fun t => { t with ackDue := some w, ackAt := some s.now } else s)
  | 2 =>
    match s.tre.chal with
    | none => (false, s)
    | some x =>
      let r := parentCheck s f (bytesLE 4 x)
      if r.2 then
        (true, (s.onTre fun t =>
          { t with
            chal := none, synced := true, idSure := true, ctrUp := r.1, badRun := 0, rxAt := some s.now, lost := false
            syncDue := false }).event 0x0E10 [16])
      else (false, s.badCheck 16)
  | 3 => (false, s.onTre fun t => { t with ver := some (lowerVer f), helloDue := true })
  | 4 =>
    if verOld s.tre.ver then (false, s)
    else if w = s.tre.linkId ∧ s.tre.idSure = true then s.parentTake f id
    else if w = s.tre.linkId then (false, s)
    else (false, s.onTre fun t => { t with linkId := w, idSure := false, synced := false, syncDue := true })
  | 5 => s.parentTake f fun s => if 2 ≤ w % 256 then s.loseParent 1 else s
  | 7 => s.parentTake f fun s => s.takeBudget w
  | 8 => if verOld s.tre.ver || decide (kPort f ≠ 31) then (false, s) else s.parentTake f fun s => s.takeCut (w % 65536) (bitsOf w 16 8)
  | _ => (false, s)

/-! ### As a parent -/

/-- A port has answered (R406, R409). -/
def State.answered (s : State) (p : Nat) : State :=
  let sent := decide (0 < (portOf s p).tries)
  let s := s.portMod p fun e =>
    { e with
      PORT_ST_MISSED := 0, PORT_ST_PRESENT := e.synced, PORT_ST_ABSENT := e.PORT_ST_ABSENT && !e.synced, tries := 0, badRun := 0
      heldW := if e.synced then 0 else e.heldW }
  s.onTre fun t =>
    { t with
      slot := none
      lowQ := if sent then t.lowQ.filter fun q => decide (q ≠ p) else t.lowQ
      highQ := if sent then t.highQ.filter fun q => decide (q ≠ p) else t.highQ }

/-- The counter and the verdict of a frame of a port (R404). [DEDUCED, log entry 48] -/
def portCheck (s : State) (p : Nat) (f : KFrame) (chal : List Nat) : Nat × Bool :=
  let c := if kType f = 2 then f.payload.toNat * 65536 + f.ctrLo.toNat else kCounter (portOf s p).ctr f.ctrLo.toNat
  (c, decide (kMac s (linkIdDn s p) f.hdr.toNat f.payload.toNat c chal = f.mac.toNat))

/-- A frame of a port in its reply slot. -/
def State.portFrame (s : State) (p : Nat) (f : KFrame) : State :=
  let e := portOf s p
  let w := f.payload.toNat
  let s := if s.tre.slot = some p then s.onTre fun t => { t with slot := none } else s
  match kType f with
  | 1 =>
    if syncOpen s e.ackAt then
      s.portMod p fun e => { e with ackFor := some w, ackAt := some s.now, frames := if e.frames.contains 2 then e.frames else 2 :: e.frames }
    else s
  | 2 =>
    match e.chal with
    | none => s
    | some x =>
      let r := portCheck s p f (bytesLE 4 x)
      if r.2 then ((s.portMod p fun e => { e with chal := none, synced := true, ctr := r.1 }).answered p).event 0x0E10 [p]
      else s.badCheck p
  | 3 =>
    let v := lowerVer f
    s.portMod p fun e => { e with ver := some v, frames := if v / 16 < 3 then [3, 1] else [3, 4, 1] }
  | 6 =>
    if !e.synced then s
    else
      let r := portCheck s p f []
      if r.2 then (s.portMod p fun e => { e with ctr := r.1, PORT_DEM := w }).answered p else s.badCheck p
  | _ => s

/-! ### A frame arrives -/

/-- A Kazsin frame of a TYPE is heard (R402 to R406, R411, R412): the standby follows it; the active instance takes it from its
parent or from a port, unless the sender is muted, and replies in its slot. -/
def State.kReceived (s : State) (bus : TreBus) (f : KFrame) (typ : Nat) : State :=
  let p := kPort f
  if !treLive s || !trePins s || decide (kType f ≠ typ) then s
  else if !treActive s then s.follow bus f
  else
    match bus, kUp f with
    | .up, false =>
      if (p ≠ s.tre.CFG_MYPORT ∧ p ≠ 31) ∨ s.tre.muteAt.isSome then s
      else
        let r := s.parentFrame f
        if p = s.tre.CFG_MYPORT ∧ opensSlot typ = true then r.2.reply r.1 else r.2
    | .dn, true => if 16 ≤ p ∨ (portOf s p).muteAt.isSome then s else s.portFrame p f
    | _, _ => s

/-- TRE_SYNC (R405). -/
def execTreSync (bus : TreBus) (f : KFrame) (s : State) : Host.Outcome State Fault Refusal := .next (s.kReceived bus f 1)

/-- TRE_SYNC_ACK (R405). -/
def execTreSyncAck (bus : TreBus) (f : KFrame) (s : State) : Host.Outcome State Fault Refusal := .next (s.kReceived bus f 2)

/-- TRE_HELLO (R405). -/
def execTreHello (bus : TreBus) (f : KFrame) (s : State) : Host.Outcome State Fault Refusal := .next (s.kReceived bus f 3)

/-- TRE_IDENT (R405). -/
def execTreIdent (bus : TreBus) (f : KFrame) (s : State) : Host.Outcome State Fault Refusal := .next (s.kReceived bus f 4)

/-- TRE_POLL (R406). -/
def execTrePoll (bus : TreBus) (f : KFrame) (s : State) : Host.Outcome State Fault Refusal := .next (s.kReceived bus f 5)

/-- TRE_DEMAND (R410). -/
def execTreDemand (bus : TreBus) (f : KFrame) (s : State) : Host.Outcome State Fault Refusal := .next (s.kReceived bus f 6)

/-- TRE_BUDGET (R408). -/
def execTreBudget (bus : TreBus) (f : KFrame) (s : State) : Host.Outcome State Fault Refusal := .next (s.kReceived bus f 7)

/-- TRE_CUT (R407). -/
def execTreCut (bus : TreBus) (f : KFrame) (s : State) : Host.Outcome State Fault Refusal := .next (s.kReceived bus f 8)

/-! ### The parent's bus (R406, R409) -/

/-- A frame that opens a port's reply slot has left. -/
def State.slotOpened (s : State) (p : Nat) : State :=
  (s.portMod p fun e => { e with polledAt := some s.now }).onTre fun t => { t with slot := some p }

/-- A BUDGET leaves for a port (R408). -/
def State.sendBudget (s : State) (p : Nat) : State :=
  let w := (portOf s p).want
  ((s.portMod p fun e => { e with PORT_BUD := w, tries := e.tries + 1 }).sendDn p 7 w []).slotOpened p

/-- A link-start frame leaves for a port (R405). -/
def State.sendStart (s : State) (p typ : Nat) : State :=
  let s := s.portMod p fun e => { e with frames := e.frames.drop 1 }
  match typ with
  | 1 =>
    let r := s.challenge
    ((r.2.portMod p fun e => { e with chal := some r.1 }).sendDn p 1 r.1 []).slotOpened p
  | 2 => s.sendDn p 2 (kAckPay s.aut.TR_TX) (bytesLE 4 ((portOf s p).ackFor.getD 0))
  | 3 => (s.sendDn p 3 kHelloPay []).slotOpened p
  | _ => (s.sendDn p 4 (s.cmn.fuses.dieId.toNat % 2 ^ 32) []).slotOpened p

/-- A port's POLL is due: after POLL where it is present, after 16 × POLL where it is not. [DEDUCED, log entry 50] -/
def pollDue (s : State) (p : Nat) : Bool :=
  let e := portOf s p
  let k := s.tre.CFG_POLL * 40 * (if e.PORT_ST_PRESENT then 1 else 16)
  match e.polledAt with
  | some t => s.after t k
  | none => true

/-- TREE_POLL_SEND (R406 to R408): the parent's next frame, while no reply slot is open: a CUT, then a lowered BUDGET, then a
raised one, then a link-start frame, then a POLL that is due. -/
def execTreePollSend (s : State) : Host.Outcome State Fault Refusal :=
  .next (
    if !treActive s || !trePins s || s.tre.slot.isSome then s
    else
      match s.tre.cutQ, s.tre.lowQ, s.tre.highQ with
      | (ratio, q) :: l, _, _ => (s.onTre fun t => { t with cutQ := l }).sendDn 31 8 (ratio % 65536 + q % 256 * 65536) []
      | [], p :: _, _ => s.sendBudget p
      | [], [], p :: _ => s.sendBudget p
      | [], [], [] =>
        match firstBelow 16 fun p => !(portOf s p).frames.isEmpty with
        | some p => s.sendStart p ((portOf s p).frames.headD 1)
        | none =>
          match firstBelow 16 (pollDue s) with
          | some p => (s.sendDn p 5 ((portOf s p).PORT_ST_MISSED % 256) []).slotOpened p
          | none => s)

/-- TREE_NO_REPLY (R406, R409): the slot passes without a reply; a BUDGET has three attempts, and three frames unanswered in a
row mark the port absent. -/
def execTreeNoReply (p : Fin 16) (s : State) : Host.Outcome State Fault Refusal :=
  .next (
    if treActive s && decide (s.tre.slot = some p.val) then
      let s := (s.portMod p.val fun e => { e with PORT_ST_MISSED := satAdd 8 e.PORT_ST_MISSED 1 }).onTre fun t => { t with slot := none }
      let e := portOf s p.val
      let s := if 3 ≤ e.tries then
          (s.portMod p.val fun e => { e with tries := 0 }).onTre fun t =>
            { t with
              lowQ := t.lowQ.filter fun q => decide (q ≠ p.val)
              highQ := t.highQ.filter fun q => decide (q ≠ p.val) }
        else s
      if 3 ≤ e.PORT_ST_MISSED then s.portAbsent p.val else s
    else s)

/-- PARENT_LOST (R409): no valid frame for 8 × POLL. A parent never heard presents no value. -/
def execParentLost (s : State) : Host.Outcome State Fault Refusal :=
  .next (match s.tre.rxAt with
    | some t => if s.cmn.straps.treEn && s.after t (320 * s.tre.CFG_POLL) then s.loseParent 2 else s
    | none => s)

/-- PORT_HOLD_EXPIRY (R409): after HOLD ms only FLOOR stays held. -/
def execPortHoldExpiry (p : Fin 16) (s : State) : Host.Outcome State Fault Refusal :=
  .next (
    let e := portOf s p.val
    if e.PORT_ST_ABSENT && !e.heldCut && s.after e.heldAt (s.tre.CFG_HOLD * ticksPerMs) then
      s.portMod p.val fun e => { e with heldW := min e.heldW (10 * e.PORT_FLOOR), heldCut := true }
    else s)

/-- TRE_MUTE_END (R411): 10 s after the mute. -/
def execTreMuteEnd (sender : Fin 17) (s : State) : Host.Outcome State Fault Refusal :=
  .next (
    if sender.val = 16 then
      match s.tre.muteAt with
      | some t => if s.after t (10 * ticksPerS) then (s.onTre fun t => { t with muteAt := none, badAt := [], badRun := 0 }).event 0x0E15 [16] else s
      | none => s
    else
      match (portOf s sender.val).muteAt with
      | some t =>
        if s.after t (10 * ticksPerS) then
          (s.portMod sender.val fun e => { e with muteAt := none, badAt := [], badRun := 0 }).event 0x0E15 [sender.val]
        else s
      | none => s)

/-- TRE_LINK_FAILED (R412): three read-backs in a row failed, or the pair was held busy for 10 ms. -/
def execTreLinkFailed (s : State) : Host.Outcome State Fault Refusal :=
  .next (if treLive s then (s.onTre fun t => { t with failed := true }).setErr pgTre 21 else s)

/-- TRE_CRC_ERR (R403). -/
def execTreCrcErr (_bus : TreBus) (s : State) : Host.Outcome State Fault Refusal :=
  .next (if treLive s && trePins s then s.onTre fun t => { t with CNT_CRC_ERR := satAdd 16 t.CNT_CRC_ERR 1 } else s)

end Sys2Proof.Machine
end

