-- ==== Sys2Proof/Machine/Dispatch.lean ====
section
/-! DEFINITION. One arm per command, each a direct call of its meaning. -/

namespace Sys2Proof.Machine

open Sys2Proof

/-- The effect of a command on everything but the queue. [DESIGN CHOICE, log entry 86] -/
def exec (i : Instr) (s : State) : Host.Outcome State Fault Refusal :=
  match i with
  | .registerWrite addr data acc => Sys2Proof.Machine.execRegisterWrite addr data acc s
  | .intPar addr again => Sys2Proof.Machine.execIntPar addr again s
  | .pageLockWrite page data acc => Sys2Proof.Machine.execPageLockWrite page data acc s
  | .tlyRowSelWrite data acc => Sys2Proof.Machine.execTlyRowSelWrite data acc s
  | .fcsWaddrWrite data acc => Sys2Proof.Machine.execFcsWaddrWrite data acc s
  | .fcsWdataWrite data acc => Sys2Proof.Machine.execFcsWdataWrite data acc s
  | .autWchkMac3Write data acc => Sys2Proof.Machine.execAutWchkMac3Write data acc s
  | .pendingCheckDiscard => Sys2Proof.Machine.execPendingCheckDiscard s
  | .hsLogmuteEnd => Sys2Proof.Machine.execHsLogmuteEnd s
  | .seqHostCapWrite data acc => Sys2Proof.Machine.execSeqHostCapWrite data acc s
  | .beamHlimWrite rail data acc => Sys2Proof.Machine.execBeamHlimWrite rail data acc s
  | .beamTestDetector target acc => Sys2Proof.Machine.execBeamTestDetector target acc s
  | .beamTestCurrent target acc => Sys2Proof.Machine.execBeamTestCurrent target acc s
  | .beamTestVoltage target acc => Sys2Proof.Machine.execBeamTestVoltage target acc s
  | .beamTestDiePower acc => Sys2Proof.Machine.execBeamTestDiePower acc s
  | .beamTestTemperature acc => Sys2Proof.Machine.execBeamTestTemperature acc s
  | .beamTestBrownOut acc => Sys2Proof.Machine.execBeamTestBrownOut acc s
  | .beamTestAll acc => Sys2Proof.Machine.execBeamTestAll acc s
  | .beamTestComplete fail => Sys2Proof.Machine.execBeamTestComplete fail s
  | .domForceOn dom acc => Sys2Proof.Machine.execDomForceOn dom acc s
  | .domForceOff dom acc => Sys2Proof.Machine.execDomForceOff dom acc s
  | .clkForceSrcWrite data acc => Sys2Proof.Machine.execClkForceSrcWrite data acc s
  | .spareSubstDetector index acc => Sys2Proof.Machine.execSpareSubstDetector index acc s
  | .spareRestoreDetector index acc => Sys2Proof.Machine.execSpareRestoreDetector index acc s
  | .spareSubstSensor index acc => Sys2Proof.Machine.execSpareSubstSensor index acc s
  | .spareRestoreSensor index acc => Sys2Proof.Machine.execSpareRestoreSensor index acc s
  | .spareSubstLane index acc => Sys2Proof.Machine.execSpareSubstLane index acc s
  | .spareRestoreLane index acc => Sys2Proof.Machine.execSpareRestoreLane index acc s
  | .spareSubstPhase index acc => Sys2Proof.Machine.execSpareSubstPhase index acc s
  | .spareRestorePhase index acc => Sys2Proof.Machine.execSpareRestorePhase index acc s
  | .spareRestoreAgeing index acc => Sys2Proof.Machine.execSpareRestoreAgeing index acc s
  | .spareCmdComplete pass => Sys2Proof.Machine.execSpareCmdComplete pass s
  | .evtErase acc => Sys2Proof.Machine.execEvtErase acc s
  | .eraseComplete => Sys2Proof.Machine.execEraseComplete s
  | .pmbHostSendByte slot cmd data acc => Sys2Proof.Machine.execPmbHostSendByte slot cmd data acc s
  | .pmbHostWriteByte slot cmd data acc => Sys2Proof.Machine.execPmbHostWriteByte slot cmd data acc s
  | .pmbHostWriteWord slot cmd data acc => Sys2Proof.Machine.execPmbHostWriteWord slot cmd data acc s
  | .pmbHostReadWord slot cmd data acc => Sys2Proof.Machine.execPmbHostReadWord slot cmd data acc s
  | .lrstReq page acc => Sys2Proof.Machine.execLrstReq page acc s
  | .lrstComplete p idle => Sys2Proof.Machine.execLrstComplete p idle s
  | .seqLoad acc => Sys2Proof.Machine.execSeqLoad acc s
  | .seqCommit acc => Sys2Proof.Machine.execSeqCommit acc s
  | .commitEnd us => Sys2Proof.Machine.execCommitEnd us s
  | .seqActivate acc => Sys2Proof.Machine.execSeqActivate acc s
  | .seqAbort acc => Sys2Proof.Machine.execSeqAbort acc s
  | .activationTimeout => Sys2Proof.Machine.execActivationTimeout s
  | .weightCopyComplete => Sys2Proof.Machine.execWeightCopyComplete s
  | .observerCopyComplete => Sys2Proof.Machine.execObserverCopyComplete s
  | .mailboxInWrite ch k data acc => Sys2Proof.Machine.execMailboxInWrite ch k data acc s
  | .ping ch => Sys2Proof.Machine.execPing ch s
  | .query ch => Sys2Proof.Machine.execQuery ch s
  | .mailboxBadOp ch => Sys2Proof.Machine.execMailboxBadOp ch s
  | .outPop ch data acc => Sys2Proof.Machine.execOutPop ch data acc s
  | .blockWrite ch acc => Sys2Proof.Machine.execBlockWrite ch acc s
  | .blockRead ch acc => Sys2Proof.Machine.execBlockRead ch acc s
  | .blockTransferDone ch parBad => Sys2Proof.Machine.execBlockTransferDone ch parBad s
  | .blkAddrWrite ch data acc => Sys2Proof.Machine.execBlkAddrWrite ch data acc s
  | .heartbeat data acc => Sys2Proof.Machine.execHeartbeat data acc s
  | .heartbeatLoss => Sys2Proof.Machine.execHeartbeatLoss s
  | .evtRdSelWrite data acc => Sys2Proof.Machine.execEvtRdSelWrite data acc s
  | .evtFreeze data acc => Sys2Proof.Machine.execEvtFreeze data acc s
  | .evtUnfreeze data acc => Sys2Proof.Machine.execEvtUnfreeze data acc s
  | .trcPop data acc => Sys2Proof.Machine.execTrcPop data acc s
  | .request word faults => Sys2Proof.Machine.execRequest word faults s
  | .release word faults => Sys2Proof.Machine.execRelease word faults s
  | .transfer word faults => Sys2Proof.Machine.execTransfer word faults s
  | .badType word => Sys2Proof.Machine.execBadType word s
  | .admissionWordParityFault word par => Sys2Proof.Machine.execAdmissionWordParityFault word par s
  | .admOutTransfer => Sys2Proof.Machine.execAdmOutTransfer s
  | .armLapse row => Sys2Proof.Machine.execArmLapse row s
  | .quarExpiry row => Sys2Proof.Machine.execQuarExpiry row s
  | .epochBoundary => Sys2Proof.Machine.execEpochBoundary s
  | .baselineSample readBackBad => Sys2Proof.Machine.execBaselineSample readBackBad s
  | .boundaryTimeout => Sys2Proof.Machine.execBoundaryTimeout s
  | .controlSample obs => Sys2Proof.Machine.execControlSample obs s
  | .coefRestoreComplete rail index => Sys2Proof.Machine.execCoefRestoreComplete rail index s
  | .laneRetire lane => Sys2Proof.Machine.execLaneRetire lane s
  | .droopDetect d => Sys2Proof.Machine.execDroopDetect d s
  | .droopPersistence r => Sys2Proof.Machine.execDroopPersistence r s
  | .droopPersistenceEnd r => Sys2Proof.Machine.execDroopPersistenceEnd r s
  | .stretchHoldEnd r => Sys2Proof.Machine.execStretchHoldEnd r s
  | .detectorSpareJoin j pass => Sys2Proof.Machine.execDetectorSpareJoin j pass s
  | .vrgFltChange r level => Sys2Proof.Machine.execVrgFltChange r level s
  | .emergencyEntry => Sys2Proof.Machine.execEmergencyEntry s
  | .emergencyExit => Sys2Proof.Machine.execEmergencyExit s
  | .emergencyRampStep => Sys2Proof.Machine.execEmergencyRampStep s
  | .persistentOverload => Sys2Proof.Machine.execPersistentOverload s
  | .brownOutWarning => Sys2Proof.Machine.execBrownOutWarning s
  | .brownOutRecovery dipUs => Sys2Proof.Machine.execBrownOutRecovery dipUs s
  | .brownOutHoldEnd => Sys2Proof.Machine.execBrownOutHoldEnd s
  | .brownOutRampStep => Sys2Proof.Machine.execBrownOutRampStep s
  | .forecasterEvaluation obs => Sys2Proof.Machine.execForecasterEvaluation obs s
  | .forecasterOutputLatch ns => Sys2Proof.Machine.execForecasterOutputLatch ns s
  | .deadlineMiss => Sys2Proof.Machine.execDeadlineMiss s
  | .weightRestoreComplete => Sys2Proof.Machine.execWeightRestoreComplete s
  | .arraySelfTestTile lane pass => Sys2Proof.Machine.execArraySelfTestTile lane pass s
  | .thermalSweep => Sys2Proof.Machine.execThermalSweep s
  | .sweepCalibrationDone samples dur => Sys2Proof.Machine.execSweepCalibrationDone samples dur s
  | .hotBandEnd => Sys2Proof.Machine.execHotBandEnd s
  | .orderlyForceOff => Sys2Proof.Machine.execOrderlyForceOff s
  | .shutdownComplete => Sys2Proof.Machine.execShutdownComplete s
  | .stackBandRelax k => Sys2Proof.Machine.execStackBandRelax k s
  | .restartHoldComplete => Sys2Proof.Machine.execRestartHoldComplete s
  | .observerStep coefBad => Sys2Proof.Machine.execObserverStep coefBad s
  | .observerStepComplete ns => Sys2Proof.Machine.execObserverStepComplete ns s
  | .observerReenable => Sys2Proof.Machine.execObserverReenable s
  | .housekeepingSlot rd => Sys2Proof.Machine.execHousekeepingSlot rd s
  | .housekeepingRoundEnd => Sys2Proof.Machine.execHousekeepingRoundEnd s
  | .coreRangeEnd => Sys2Proof.Machine.execCoreRangeEnd s
  | .belowLost => Sys2Proof.Machine.execBelowLost s
  | .domWakeInput d level => Sys2Proof.Machine.execDomWakeInput d level s
  | .wakeStart => Sys2Proof.Machine.execWakeStart s
  | .domPgChange d level => Sys2Proof.Machine.execDomPgChange d level s
  | .wakeFail d => Sys2Proof.Machine.execWakeFail d s
  | .wakeMainSwitch d => Sys2Proof.Machine.execWakeMainSwitch d s
  | .wakePowerSettled d => Sys2Proof.Machine.execWakePowerSettled d s
  | .wakeComplete d => Sys2Proof.Machine.execWakeComplete d s
  | .sleepStart d => Sys2Proof.Machine.execSleepStart d s
  | .idleAck d => Sys2Proof.Machine.execIdleAck d s
  | .idleTo d => Sys2Proof.Machine.execIdleTo d s
  | .saveComplete d => Sys2Proof.Machine.execSaveComplete d s
  | .sleepSwitchOff d => Sys2Proof.Machine.execSleepSwitchOff d s
  | .bootDomainPgTimeout d => Sys2Proof.Machine.execBootDomainPgTimeout d s
  | .crossingTimeout c => Sys2Proof.Machine.execCrossingTimeout c s
  | .crossingResume c => Sys2Proof.Machine.execCrossingResume c s
  | .clockCodeChange c => Sys2Proof.Machine.execClockCodeChange c s
  | .xtalAmpLoss => Sys2Proof.Machine.execXtalAmpLoss s
  | .xtalSelect => Sys2Proof.Machine.execXtalSelect s
  | .sourceSelectionForced events => Sys2Proof.Machine.execSourceSelectionForced events s
  | .vrgTransactionStart => Sys2Proof.Machine.execVrgTransactionStart s
  | .vrgAck ns => Sys2Proof.Machine.execVrgAck ns s
  | .vrgAckTimeout => Sys2Proof.Machine.execVrgAckTimeout s
  | .vrgRdy r level => Sys2Proof.Machine.execVrgRdy r level s
  | .telemetryWord r d par replay => Sys2Proof.Machine.execTelemetryWord r d par replay s
  | .blindModeEntry r => Sys2Proof.Machine.execBlindModeEntry r s
  | .blindModeEnd r => Sys2Proof.Machine.execBlindModeEnd r s
  | .pollRound => Sys2Proof.Machine.execPollRound s
  | .pmbusTransactionDone res => Sys2Proof.Machine.execPmbusTransactionDone res s
  | .smbusTimeout => Sys2Proof.Machine.execSmbusTimeout s
  | .pmbAlert addr status => Sys2Proof.Machine.execPmbAlert addr status s
  | .alertMuteEnd => Sys2Proof.Machine.execAlertMuteEnd s
  | .counterPersist => Sys2Proof.Machine.execCounterPersist s
  | .frmIdle dir m => Sys2Proof.Machine.execFrmIdle dir m s
  | .frmLane dir m => Sys2Proof.Machine.execFrmLane dir m s
  | .frmHello dir m => Sys2Proof.Machine.execFrmHello dir m s
  | .frmFormed dir m => Sys2Proof.Machine.execFrmFormed dir m s
  | .frmLink dir m => Sys2Proof.Machine.execFrmLink dir m s
  | .frmBoundary dir m => Sys2Proof.Machine.execFrmBoundary dir m s
  | .frmShare dir m => Sys2Proof.Machine.execFrmShare dir m s
  | .frmShareAck dir m => Sys2Proof.Machine.execFrmShareAck dir m s
  | .frmDemand dir m => Sys2Proof.Machine.execFrmDemand dir m s
  | .frmCap dir m => Sys2Proof.Machine.execFrmCap dir m s
  | .frmAsk dir m => Sys2Proof.Machine.execFrmAsk dir m s
  | .frmLoan dir m => Sys2Proof.Machine.execFrmLoan dir m s
  | .frmThermal dir m => Sys2Proof.Machine.execFrmThermal dir m s
  | .frmInput dir m => Sys2Proof.Machine.execFrmInput dir m s
  | .frmCtrId dir m => Sys2Proof.Machine.execFrmCtrId dir m s
  | .frmCtrData dir m => Sys2Proof.Machine.execFrmCtrData dir m s
  | .frmCtrStat dir m => Sys2Proof.Machine.execFrmCtrStat dir m s
  | .frmRetryTimeout dir => Sys2Proof.Machine.execFrmRetryTimeout dir s
  | .linkSilence dir => Sys2Proof.Machine.execLinkSilence dir s
  | .helloBroadcast => Sys2Proof.Machine.execHelloBroadcast s
  | .formationDecide => Sys2Proof.Machine.execFormationDecide s
  | .demandSend => Sys2Proof.Machine.execDemandSend s
  | .loanAskTimeout => Sys2Proof.Machine.execLoanAskTimeout s
  | .heldShareFree m => Sys2Proof.Machine.execHeldShareFree m s
  | .isolationCut => Sys2Proof.Machine.execIsolationCut s
  | .treSync bus f => Sys2Proof.Machine.execTreSync bus f s
  | .treSyncAck bus f => Sys2Proof.Machine.execTreSyncAck bus f s
  | .treHello bus f => Sys2Proof.Machine.execTreHello bus f s
  | .treIdent bus f => Sys2Proof.Machine.execTreIdent bus f s
  | .trePoll bus f => Sys2Proof.Machine.execTrePoll bus f s
  | .treDemand bus f => Sys2Proof.Machine.execTreDemand bus f s
  | .treBudget bus f => Sys2Proof.Machine.execTreBudget bus f s
  | .treCut bus f => Sys2Proof.Machine.execTreCut bus f s
  | .treePollSend => Sys2Proof.Machine.execTreePollSend s
  | .treeNoReply p => Sys2Proof.Machine.execTreeNoReply p s
  | .parentLost => Sys2Proof.Machine.execParentLost s
  | .portHoldExpiry p => Sys2Proof.Machine.execPortHoldExpiry p s
  | .treMuteEnd sender => Sys2Proof.Machine.execTreMuteEnd sender s
  | .treLinkFailed => Sys2Proof.Machine.execTreLinkFailed s
  | .rackHello bytes => Sys2Proof.Machine.execRackHello bytes s
  | .capSet bytes => Sys2Proof.Machine.execCapSet bytes s
  | .capClear bytes => Sys2Proof.Machine.execCapClear bytes s
  | .rackStatus bytes => Sys2Proof.Machine.execRackStatus bytes s
  | .rackEvents bytes => Sys2Proof.Machine.execRackEvents bytes s
  | .rackBadReq bytes => Sys2Proof.Machine.execRackBadReq bytes s
  | .rackMuteEnd => Sys2Proof.Machine.execRackMuteEnd s
  | .rackReplyReady => Sys2Proof.Machine.execRackReplyReady s
  | .rackReplyRead => Sys2Proof.Machine.execRackReplyRead s
  | .entdaa addr => Sys2Proof.Machine.execEntdaa addr s
  | .setdasa saddr addr => Sys2Proof.Machine.execSetdasa saddr addr s
  | .rstdaa => Sys2Proof.Machine.execRstdaa s
  | .enec events => Sys2Proof.Machine.execEnec events s
  | .disec events => Sys2Proof.Machine.execDisec events s
  | .setmwl len => Sys2Proof.Machine.execSetmwl len s
  | .setmrl len => Sys2Proof.Machine.execSetmrl len s
  | .getmwl => Sys2Proof.Machine.execGetmwl s
  | .getmrl => Sys2Proof.Machine.execGetmrl s
  | .getpid => Sys2Proof.Machine.execGetpid s
  | .getbcr => Sys2Proof.Machine.execGetbcr s
  | .getdcr => Sys2Proof.Machine.execGetdcr s
  | .getstatus => Sys2Proof.Machine.execGetstatus s
  | .otherCcc code => Sys2Proof.Machine.execOtherCcc code s
  | .porAssert => Sys2Proof.Machine.execPorAssert s
  | .porRelease straps fuses => Sys2Proof.Machine.execPorRelease straps fuses s
  | .rstNAssert => Sys2Proof.Machine.execRstNAssert s
  | .rstNRelease => Sys2Proof.Machine.execRstNRelease s
  | .startupSelftestComplete obs => Sys2Proof.Machine.execStartupSelftestComplete obs s
  | .anchorTimeout => Sys2Proof.Machine.execAnchorTimeout s
  | .vioLow => Sys2Proof.Machine.execVioLow s
  | .vioRestore => Sys2Proof.Machine.execVioRestore s
  | .scrubRead obs => Sys2Proof.Machine.execScrubRead obs s
  | .eventRecordWrite => Sys2Proof.Machine.execEventRecordWrite s
  | .suppressionSummary => Sys2Proof.Machine.execSuppressionSummary s
  | .railSummary => Sys2Proof.Machine.execRailSummary s
  | .registerRead addr acc => Sys2Proof.Machine.execRegisterRead addr acc s
  | .clkGenOkLow c => Sys2Proof.Machine.execClkGenOkLow c s
  | .droopRelease d => Sys2Proof.Machine.execDroopRelease d s
  | .trainingWord dir good => Sys2Proof.Machine.execTrainingWord dir good s
  | .frmCrcErr dir => Sys2Proof.Machine.execFrmCrcErr dir s
  | .treCrcErr bus => Sys2Proof.Machine.execTreCrcErr bus s
  | .linkResponseTimeout ring pos => Sys2Proof.Machine.execLinkResponseTimeout ring pos s
  | .secondWave => Sys2Proof.Machine.execSecondWave s

end Sys2Proof.Machine
end

