-- ==== Sys2Proof/Machine/Step.lean ====
section
/-! DEFINITION. One step of the block: the command at the front of the queue has its effect on everything but the queue. -/

namespace Sys2Proof.Machine

open Sys2Proof

/-- The command at the front of the queue is taken, and `exec` runs on the state that holds the rest of the queue. With no
command waiting the block idles (assumption 2). [DESIGN CHOICE, log entry 1; DESIGN CHOICE, log entry 83] -/
def step (s : State) : Host.Outcome State Fault Refusal :=
  match s.pending with
  | [] => .next s
  | c :: q => exec c { s with pending := q }

/-- The command that a word spells goes to the front of the queue. The table gives its rows no bits, so no word spells one.
[DESIGN CHOICE, log entry 1; DESIGN CHOICE, log entry 6] -/
def State.withFetchWord (s : State) (nbits w : Nat) : State :=
  match Sys2Proof.decodeTableWord nbits w with
  | some c => { s with pending := c :: s.pending }
  | none => s

end Sys2Proof.Machine
end

