-- ==== Sys2Proof/Safety.lean ====
section
/-! DEFINITION. What claims about the block are stated in: the canonical form of every sparse memory, what the host port asks of
an access before a register takes it, and what an accepted keyed write leaves of its check. -/

namespace Sys2Proof.Machine

open Sys2Proof

/-- Every sparse memory of the block is in its canonical form: addresses strictly rising, no entry equal to what an unlisted
address reads as. -/
def memoriesWf (s : State) : Bool :=
  memWf (0 : Byte) s.stg.mem && memWf 0 s.evt.slots && memWf 0 s.tly.rows && memWf 0 s.tly.maps

/-- The host port takes a write to its register: the port is live (R63, R64), both parity bits are right (R98), a secure page
is written from the secure world (R94), no block-local reset holds the page (R460), and the word has storage (R480). -/
def hostAccepts (s : State) (addr data : Nat) (acc : HostAcc) : Bool :=
  netUp s && decide (acc.apar = addrPar addr true acc.sec) && decide (acc.wpar = evenPar 32 data) &&
  (!secWrites (addr / 1024) || acc.sec) && (!(vAt s.hdr (addr / 1024) {}).lrstAct || decide (addr % 1024 * 4 < 0x28)) &&
  !s.rel.regDead.contains addr

/-- The pending check, of counter `ctr`, passes for a write of `data` to the register at byte offset `off` of the window
(R119, step 3). -/
def keyPasses (s : State) (ctr off data : Nat) : Bool :=
  match s.aut.pend with
  | some c => decide (c.ctr = ctr) && checkPasses s c off data
  | none => false

/-- The AUT page once an accepted keyed write has consumed its check: nothing pends, the six check registers read 0, and the
counter is the last accepted one (R119). -/
def checkTaken (a : Aut) (ctr : Nat) : Aut :=
  { a with pend := none, WCHK_CTR_LO := 0, WCHK_CTR_HI := 0, mac := Vector.replicate 4 {}, HS_LAST := ctr }

/-- The answer of the host port to a write, with a status. -/
def answer (st : Nat) : HostRsp := { st := st, data := 0, par := false }

/-- A mailbox page without its outbound queue, OVF and DROPPED: what a notice leaves alone (R422, R423). -/
def Mbx.quiet (m : Mbx) : Mbx := { m with outQ := [], OUT_STAT_OVF := false, OUT_STAT_DROPPED := 0 }

/-- A header without PAGE_ERR: what errors leave alone (R107). -/
def PageHdr.sansErr (h : PageHdr) : PageHdr := { h with err := 0 }

/-- A header without PAGE_ERR, the busy mark and the lock: the masks, the parity record and the block-local reset's bits. -/
def PageHdr.core (h : PageHdr) : PageHdr := { h with err := 0, busy := false, lock := false, lockSrc := false }

/-- The cores of all the headers. -/
def hdrCore (v : Vector PageHdr 23) : Vector PageHdr 23 := v.map PageHdr.core

/-- A sequenced frame message of a type that reaches what applies it (R376 to R378, R385): the crossing is alive, the CRC holds, the
link is up, the sequence number is the next, the frame's version knows the type, and another member sent it. -/
def frmAccepts (s : State) (d : Dir) (m : BitVec 128) (typ : Nat) : Bool :=
  frmAlive s && decide (mType m = typ) && decide (frmCrc m.toNat = mf m 0 16) && (s.link d).up && decide (mLseq m = (s.link d).rxNext) &&
  typeDefined s typ && decide (mSrc m ≠ myPos s)

/-- A frame message of a type that its CRC finds intact, on a crossing that is alive (R377, R380). -/
def frmIntact (s : State) (m : BitVec 128) (typ : Nat) : Bool :=
  frmAlive s && decide (mType m = typ) && decide (frmCrc m.toNat = mf m 0 16)

/-- The message is addressed to this member (R376). -/
def frmMine (s : State) (m : BitVec 128) : Bool := decide (dstPos s (mDst m) = myPos s)

/-- A Kazsin frame of a type comes from the parent to this reckoner (R402, R406, R412): the link is live, the pins are driven, the
frame names this port or 31, and the parent is not muted. -/
def fromParent (s : State) (f : KFrame) (typ : Nat) : Bool :=
  treActive s && trePins s && decide (kType f = typ) && !kUp f && (decide (kPort f = s.tre.CFG_MYPORT) || decide (kPort f = 31)) &&
  s.tre.muteAt.isNone

/-- A Kazsin frame of a type comes from a child port to this reckoner, and the port is not muted (R402, R406, R411, R412). -/
def fromPort (s : State) (f : KFrame) (typ : Nat) : Bool :=
  treActive s && trePins s && decide (kType f = typ) && kUp f && decide (kPort f < 16) && (portOf s (kPort f)).muteAt.isNone

/-- The child's link start is done: nothing but its DEMAND waits for a reply slot (R405, R406). -/
def childIdle (s : State) : Bool := !s.tre.helloDue && s.tre.ver.isSome && s.tre.ackDue.isNone && !s.tre.syncDue && s.tre.synced

/-- A request of a type passes the rack port's checks of frame, mute, fields and rate (R440, R441). -/
def rackPasses (s : State) (bs : List Nat) (typ : Nat) : Bool :=
  rckUp s && decide (bs.length = 38) && decide (crc16 (bs.take 36) = ofBytesLE (bs.drop 36)) && !s.rck.STAT_MUTED && rackFields bs &&
  decide (bs.getD 0 0 = typ) && rackRateOk s typ

/-- Its counter (R438). -/
def rackCtr (bs : List Nat) : Nat := ofBytesLE ((bs.drop 12).take 8)

/-- A request of a type passes every check of R440, its MAC and its counter included. -/
def rackSigned (s : State) (bs : List Nat) (typ : Nat) : Bool :=
  rackPasses s bs typ && s.aut.STAT_ANCHORED && rackMacOk s bs && decide (s.aut.RK_LAST < rackCtr bs)

/-- The word of DOM_FORCE that forces a domain on (1) or off (0) (R331). -/
def forceWord (on dom : Nat) : Nat := 2 ^ 31 + on * 2 ^ 8 + dom

/-- The word of REL_SPARE_CMD with GO at 1 (R493). -/
def spareWord (kind op index : Nat) : Nat := 2 ^ 31 + op * 2 ^ 24 + kind * 2 ^ 16 + index

/-- The word of PMB_HOST_XACT (R366). -/
def xactWord (kind slot cmd data : Nat) : Nat := kind * 2 ^ 30 + slot * 2 ^ 24 + cmd * 2 ^ 16 + data

/-- The commands that are writes of an RWA register (R118): the register's page and offset, the word written, the access. -/
def keyedTarget : Instr → Option (Fin 23 × Nat × Nat × HostAcc)
  | .seqHostCapWrite data acc => some (pgSeq, 0x58, data.toNat, acc)
  | .beamTestDetector target acc => some (pgBeam, 0x60, testWord 1 target.toNat, acc)
  | .beamTestCurrent target acc => some (pgBeam, 0x60, testWord 2 target.toNat, acc)
  | .beamTestVoltage target acc => some (pgBeam, 0x60, testWord 3 target.toNat, acc)
  | .beamTestDiePower acc => some (pgBeam, 0x60, testWord 4 0, acc)
  | .beamTestTemperature acc => some (pgBeam, 0x60, testWord 5 0, acc)
  | .beamTestBrownOut acc => some (pgBeam, 0x60, testWord 6 0, acc)
  | .beamTestAll acc => some (pgBeam, 0x60, testWord 7 0, acc)
  | .domForceOn dom acc => some (pgDom, 0x68, forceWord 1 dom.toNat, acc)
  | .domForceOff dom acc => some (pgDom, 0x68, forceWord 0 dom.toNat, acc)
  | .clkForceSrcWrite data acc => some (pgClk, 0x50, data.toNat, acc)
  | .spareSubstDetector index acc => some (pgRel, 0x60, spareWord 1 1 index.toNat, acc)
  | .spareRestoreDetector index acc => some (pgRel, 0x60, spareWord 1 2 index.toNat, acc)
  | .spareSubstSensor index acc => some (pgRel, 0x60, spareWord 2 1 index.toNat, acc)
  | .spareRestoreSensor index acc => some (pgRel, 0x60, spareWord 2 2 index.toNat, acc)
  | .spareSubstLane index acc => some (pgRel, 0x60, spareWord 3 1 index.toNat, acc)
  | .spareRestoreLane index acc => some (pgRel, 0x60, spareWord 3 2 index.toNat, acc)
  | .spareSubstPhase index acc => some (pgRel, 0x60, spareWord 5 1 index.toNat, acc)
  | .spareRestorePhase index acc => some (pgRel, 0x60, spareWord 5 2 index.toNat, acc)
  | .spareRestoreAgeing index acc => some (pgRel, 0x60, spareWord 6 2 index.toNat, acc)
  | .evtErase acc => some (pgEvt, 0x5C, 2 ^ 31, acc)
  | .pmbHostSendByte slot cmd data acc => some (pgPmb, 0x64, xactWord 0 slot.toNat cmd.toNat data.toNat, acc)
  | .pmbHostWriteByte slot cmd data acc => some (pgPmb, 0x64, xactWord 1 slot.toNat cmd.toNat data.toNat, acc)
  | .pmbHostWriteWord slot cmd data acc => some (pgPmb, 0x64, xactWord 2 slot.toNat cmd.toNat data.toNat, acc)
  | .pmbHostReadWord slot cmd data acc => some (pgPmb, 0x64, xactWord 3 slot.toNat cmd.toNat data.toNat, acc)
  | _ => none

end Sys2Proof.Machine
end

