-- ==== Sys2Proof/Certificates/Slice0/Obligations.lean ====
section
/-! DEFINITION. The statements for the provers: what the rules of the spec say each command of the block does, what it leaves
alone, and what every step keeps. -/

open Sys2Proof Sys2Proof.Machine

/-- A step takes the command at the front of the queue and runs it with the rest of the queue waiting; with nothing waiting the
block idles. Both are the model's (log entry 1): the spec gives the block commands, and no order of its own for them. -/
def Obligations.StepTakesFront : Prop :=
  (∀ (s : State) (c : Instr) (q : List Instr), step { s with pending := c :: q } = exec c { s with pending := q }) ∧
  ∀ s : State, s.pending = [] → step s = .next s

/-- R99. An address parity fault is flagged on the CMN page alone and counted; a data parity fault of a write with good address
parity is flagged on the addressed page and counted. Both are answered with status 1 and take no other effect. -/
def Obligations.HostParityFaults : Prop :=
  ∀ (s : State) (addr : BitVec 15) (data : Word) (acc : HostAcc), netUp s = true →
    (acc.apar ≠ addrPar addr.toNat true acc.sec →
      ∃ t, exec (.registerWrite addr data acc) s = .next t ∧ t.hst = answer 1 ∧
        t.cmn = { s.cmn with PORT_ERR_CNT_APAR_CNT := satAdd 16 s.cmn.PORT_ERR_CNT_APAR_CNT 1 } ∧
        t.hdr[pgCmn].err.testBit 1 = true ∧ (∀ q : Fin 23, q ≠ pgCmn → q ≠ pgEvt → t.hdr[q] = s.hdr[q]) ∧
        t = { s with cmn := t.cmn, evt := t.evt, hdr := t.hdr, hst := t.hst }) ∧
    (acc.apar ≠ addrPar addr.toNat false acc.sec →
      ∃ t, exec (.registerRead addr acc) s = .next t ∧ t.hst = answer 1 ∧
        t.cmn = { s.cmn with PORT_ERR_CNT_APAR_CNT := satAdd 16 s.cmn.PORT_ERR_CNT_APAR_CNT 1 } ∧
        t.hdr[pgCmn].err.testBit 1 = true ∧ (∀ q : Fin 23, q ≠ pgCmn → q ≠ pgEvt → t.hdr[q] = s.hdr[q]) ∧
        t = { s with cmn := t.cmn, evt := t.evt, hdr := t.hdr, hst := t.hst }) ∧
    ∀ p : Fin 23, addr.toNat / 1024 = p.val → acc.apar = addrPar addr.toNat true acc.sec → acc.wpar ≠ evenPar 32 data.toNat →
      ∃ t, exec (.registerWrite addr data acc) s = .next t ∧ t.hst = answer 1 ∧
        t.cmn = { s.cmn with PORT_ERR_CNT_WPAR_CNT := satAdd 16 s.cmn.PORT_ERR_CNT_WPAR_CNT 1 } ∧
        t.hdr[p].err.testBit 2 = true ∧ (∀ q : Fin 23, q ≠ p → q ≠ pgEvt → t.hdr[q] = s.hdr[q]) ∧
        t = { s with cmn := t.cmn, evt := t.evt, hdr := t.hdr, hst := t.hst }

/-- R62, R94, R97. A secure page refuses an access from the non-secure world: status 2, SEC_REF on that page, and nothing else. -/
def Obligations.SecurePagesRefuse : Prop :=
  ∀ (s : State) (addr : BitVec 15) (data : Word) (acc : HostAcc) (p : Fin 23), netUp s = true → addr.toNat / 1024 = p.val →
    acc.sec = false →
    (secWrites p.val = true → acc.apar = addrPar addr.toNat true false → acc.wpar = evenPar 32 data.toNat →
      ∃ t, exec (.registerWrite addr data acc) s = .next t ∧ t.hst = answer 2 ∧ t.hdr[p].err.testBit 6 = true ∧
        (∀ q : Fin 23, q ≠ p → q ≠ pgEvt → t.hdr[q] = s.hdr[q]) ∧ t = { s with evt := t.evt, hdr := t.hdr, hst := t.hst }) ∧
    (secReads p.val = true → acc.apar = addrPar addr.toNat false false →
      ∃ t, exec (.registerRead addr acc) s = .next t ∧ t.hst = answer 2 ∧ t.hdr[p].err.testBit 6 = true ∧
        (∀ q : Fin 23, q ≠ p → q ≠ pgEvt → t.hdr[q] = s.hdr[q]) ∧ t = { s with evt := t.evt, hdr := t.hdr, hst := t.hst })

/-- R102, with R95 and R98. An accepted read drives the response and changes no state of Lytrum; beyond the pages it reads 0. -/
def Obligations.ReadChangesNothing : Prop :=
  ∀ (s : State) (addr : BitVec 15) (acc : HostAcc), netUp s = true → acc.apar = addrPar addr.toNat false acc.sec →
    (secReads (addr.toNat / 1024) = true → acc.sec = true) →
    ∃ v, exec (.registerRead addr acc) s = .next { s with hst := { st := 0, data := v, par := evenPar 32 v } } ∧
      (addr.toNat / 1024 < 23 → v = readReg s addr.toNat) ∧ (23 ≤ addr.toNat / 1024 → v = 0)

/-- R116, R107. PAGE_LOCK_WRITE sets LOCK where bit 0 of the word is 1, leaves LOCK_SRC, and clears no lock. -/
def Obligations.PageLockWriteLocks : Prop :=
  ∀ (s : State) (page : Fin 23) (data : Word) (acc : HostAcc), hostAccepts s (regAddr page.val 0x20) data.toNat acc = true →
    exec (.pageLockWrite page data acc) s = .next
      { s with pairLo := (s.dropPair (regAddr page.val 0x20)).pairLo, hst := answer 0,
               hdr := s.hdr.set page { s.hdr[page] with lock := s.hdr[page].lock || bitAt data.toNat 0 } }

/-- R114. A write of TLY_ROW_SEL copies the row it names whole (a spare row by the logical row it serves), with the epoch number
of the copy; a retired row shows PFAULT and zeros. A row with nothing stored shows its own number (the model's, log entry 19).
Nothing else of the state changes. R115. A write of FCS_WADDR sets the word offset from the whole value, held at the end of
the region from 256 KiB up, and restarts the CRC. A write of FCS_WDATA while a load is open and not yet committed stores its
four bytes lowest first, takes them into the CRC and moves to the next word; elsewhere, and at the end of the region, it is
refused with status 2 and flagged, and stores nothing. -/
def Obligations.StreamWindows : Prop :=
  (∀ (s : State) (data : Word) (acc : HostAcc) (i : Nat) (sp : Bool), hostAccepts s (regAddr 2 0x58) data.toNat acc = true →
    i < 8192 → bitAt data.toNat 31 = sp → (sp = false → bitsOf data.toNat 0 13 = i) →
    (sp = true → s.tly.maps.find? (fun x => x.2 = bitsOf data.toNat 0 13 % 256 + 1) = some (i, bitsOf data.toNat 0 8 + 1)) →
    ∃ t, exec (.tlyRowSelWrite data acc) s = .next t ∧
      t.tly.ROW_SEL_SPARE = sp ∧ t.tly.ROW_SEL_SEL = bitsOf data.toNat 0 13 ∧ t.tly.ROW_STAT_EPOCH = s.tly.EPOCH_NUM ∧
      t.tly.ROW_STAT_STALE = false ∧ t.tly.ROW_STAT_PFAULT = decide (rowSt (rowW s i) = 4) ∧
      (rowSt (rowW s i) = 4 → t.tly.ROW_LO = 0 ∧ t.tly.ROW_HI = 0) ∧
      (rowSt (rowW s i) ≠ 4 → t.tly.ROW_LO + 2 ^ 32 * t.tly.ROW_HI = if rowW s i = 0 then i else rowW s i) ∧
      t.tly.ROW_STAT_MAPPED = decide (memRead 0 s.tly.maps i ≠ 0) ∧ t.tly.ROW_STAT_PHYS = memRead 0 s.tly.maps i - 1 ∧
      t = { s with pairLo := (s.dropPair (regAddr 2 0x58)).pairLo, hst := answer 0,
                   tly := { s.tly with ROW_SEL_SPARE := t.tly.ROW_SEL_SPARE, ROW_SEL_SEL := t.tly.ROW_SEL_SEL,
                                       ROW_LO := t.tly.ROW_LO, ROW_HI := t.tly.ROW_HI, ROW_STAT_EPOCH := t.tly.ROW_STAT_EPOCH,
                                       ROW_STAT_STALE := t.tly.ROW_STAT_STALE, ROW_STAT_PFAULT := t.tly.ROW_STAT_PFAULT,
                                       ROW_STAT_MAPPED := t.tly.ROW_STAT_MAPPED, ROW_STAT_PHYS := t.tly.ROW_STAT_PHYS } }) ∧
  (∀ (s : State) (data : Word) (acc : HostAcc),
    (hostAccepts s (regAddr 6 0x60) data.toNat acc = true →
      exec (.fcsWaddrWrite data acc) s = .next
        { s with pairLo := (s.dropPair (regAddr 6 0x60)).pairLo, hst := answer 0,
                 fcs := { s.fcs with WADDR := min (data.toNat / 4) 65536, WCRC := 0 } }) ∧
    (hostAccepts s (regAddr 6 0x64) data.toNat acc = true → s.fcs.WADDR < 65536 → stagingOpen s = true →
      memWf (0 : Byte) s.stg.mem = true →
      ∃ t, exec (.fcsWdataWrite data acc) s = .next t ∧ t.hst = answer 0 ∧
        t.fcs = { s.fcs with WADDR := s.fcs.WADDR + 1, WCRC := crc32Ext s.fcs.WCRC (bytesLE 4 data.toNat) } ∧
        (∀ k < 4, memRead 0 t.stg.mem (weightBase + 4 * s.fcs.WADDR + k) = BitVec.ofNat 8 (data.toNat / 256 ^ k)) ∧
        (∀ a, (a < weightBase + 4 * s.fcs.WADDR ∨ weightBase + 4 * s.fcs.WADDR + 4 ≤ a) →
          memRead 0 t.stg.mem a = memRead 0 s.stg.mem a) ∧
        t = { s with pairLo := (s.dropPair (regAddr 6 0x64)).pairLo, hst := answer 0, fcs := t.fcs,
                     seq := { s.seq with STATE_COMMITTED := false }, stg := { s.stg with mem := t.stg.mem, holds := false } }) ∧
    (hostAccepts s (regAddr 6 0x64) data.toNat acc = true → (stagingOpen s = false ∨ 65536 ≤ s.fcs.WADDR) →
      exec (.fcsWdataWrite data acc) s = .next
        { s with pairLo := (s.dropPair (regAddr 6 0x64)).pairLo, hst := answer 2, hdr := (s.setErr pgFcs 16).hdr }))

/-- R119. The write of AUT_WCHK_MAC3 arms one pending check from the six registers as they stand at that write; a check that
already pends is replaced and its age restarts. -/
def Obligations.CheckArms : Prop :=
  ∀ (s : State) (data : Word) (acc : HostAcc), hostAccepts s (regAddr 18 0x54) data.toNat acc = true →
    (∀ i < 3, (vAt s.aut.mac i {}).WCHK_MAC < 2 ^ 32) →
    exec (.autWchkMac3Write data acc) s = .next
      { s with pairLo := (s.dropPair (regAddr 18 0x54)).pairLo, hst := answer 0,
               aut := { s.aut with mac := s.aut.mac.set 3 { WCHK_MAC := data.toNat },
                                   pend := some { ctr := s.aut.WCHK_CTR_LO + s.aut.WCHK_CTR_HI * 2 ^ 32, at_ := s.now,
                                                  mac := (vAt s.aut.mac 0 {}).WCHK_MAC + (vAt s.aut.mac 1 {}).WCHK_MAC * 2 ^ 32 +
                                                    (vAt s.aut.mac 2 {}).WCHK_MAC * 2 ^ 64 + data.toNat * 2 ^ 96 } } }

/-- R420. A write to an empty inbound box holds the word and sets the box's FULL bit, last in the order in which Lytrum takes the
boxes; a write to a full box is refused with status 2, counted and flagged, and the word it holds stays. R423, R427. A write
of 1 to MBx_OUT_POP removes the oldest outbound word, and a write of 0 none; a write of MBx_BLK_ADDR sets the block address
and restarts the CRC. R428, R430. A heartbeat is a write of MBS_HB whose BEAT is one above the last accepted, modulo 65 536:
it becomes the last, and the timer restarts. Any other value changes nothing but the count of bad beats. In ORPHAN a heartbeat
ends the state: the cap is withdrawn and stays in force until the next boundary. -/
def Obligations.MailboxesAndHeartbeat : Prop :=
  (∀ (s : State) (c : Chan) (k : Fin 8) (data : Word) (acc : HostAcc),
    hostAccepts s (regAddr (chanPage c).val (0x40 + 4 * k.val)) data.toNat acc = true →
    ((s.mbx c).IN_STAT_FULL.testBit k.val = false →
      ∃ t, exec (.mailboxInWrite c k data acc) s = .next t ∧ t.hst = answer 0 ∧
        t.mbx c = { s.mbx c with inb := (s.mbx c).inb.set k { IN := data.toNat }, order := (s.mbx c).order ++ [k.val],
                                 IN_STAT_FULL := (s.mbx c).IN_STAT_FULL ||| 2 ^ k.val } ∧
        t = { (s.mbxMod c fun _ => t.mbx c) with
                pairLo := (s.dropPair (regAddr (chanPage c).val (0x40 + 4 * k.val))).pairLo, hst := answer 0 }) ∧
    ((s.mbx c).IN_STAT_FULL.testBit k.val = true →
      exec (.mailboxInWrite c k data acc) s = .next
        { ((s.mbxMod c fun m => { m with IN_STAT_REFUSED := satAdd 16 m.IN_STAT_REFUSED 1 }).setErr (chanPage c) 16) with
            pairLo := (s.dropPair (regAddr (chanPage c).val (0x40 + 4 * k.val))).pairLo, hst := answer 2 })) ∧
  (∀ (s : State) (c : Chan) (data : Word) (acc : HostAcc),
    (hostAccepts s (regAddr (chanPage c).val 0x68) data.toNat acc = true →
      exec (.outPop c data acc) s = .next
        { (s.mbxMod c fun m => { m with outQ := m.outQ.drop (data.toNat % 2) }) with
            pairLo := (s.dropPair (regAddr (chanPage c).val 0x68)).pairLo, hst := answer 0 }) ∧
    (hostAccepts s (regAddr (chanPage c).val 0xC0) data.toNat acc = true →
      exec (.blkAddrWrite c data acc) s = .next
        { (s.mbxMod c fun m => { m with BLK_ADDR := data.toNat % 2 ^ 13, BLK_CRC := 0 }) with
            pairLo := (s.dropPair (regAddr (chanPage c).val 0xC0)).pairLo, hst := answer 0 })) ∧
  (∀ (s : State) (data : Word) (acc : HostAcc), hostAccepts s (regAddr 15 0xE0) data.toNat acc = true →
    (data.toNat % 65536 ≠ (s.mbs.HB_STAT_LAST + 1) % 65536 →
      exec (.heartbeat data acc) s = .next
        { s with pairLo := (s.dropPair (regAddr 15 0xE0)).pairLo, hst := answer 0,
                 mbs := { s.mbs with HB_CNT_BAD := satAdd 16 s.mbs.HB_CNT_BAD 1 } }) ∧
    (data.toNat % 65536 = (s.mbs.HB_STAT_LAST + 1) % 65536 → s.seq.STATE_C_ORPHAN = false →
      exec (.heartbeat data acc) s = .next
        { s with pairLo := (s.dropPair (regAddr 15 0xE0)).pairLo, hst := answer 0,
                 mbs := { s.mbs with HB_STAT_LAST := data.toNat % 65536, beatAt := some s.now, timerAt := s.now,
                                     lossTaken := false } }) ∧
    (data.toNat % 65536 = (s.mbs.HB_STAT_LAST + 1) % 65536 → s.seq.STATE_C_ORPHAN = true →
      ∃ t, exec (.heartbeat data acc) s = .next t ∧
        t.seq = { s.seq with STATE_C_ORPHAN := false, shown := t.seq.shown } ∧
        t.mbs.quiet = { s.mbs with HB_STAT_LAST := data.toNat % 65536, beatAt := some s.now, timerAt := s.now, lossTaken := false,
                                   orphCapNow := 0, orphKeep := s.mbs.orphCapNow }.quiet ∧
        t.mbn.quiet = s.mbn.quiet ∧
        t = { s with pairLo := (s.dropPair (regAddr 15 0xE0)).pairLo, hst := answer 0, seq := t.seq, mbs := t.mbs, mbn := t.mbn,
                     rck := t.rck, evt := t.evt, hdr := t.hdr }))

/-- R427. A block write is accepted on the MBS channel while staging is open, a block read in SAFE and LOADING, each while no
transfer runs on the channel: the transfer starts, with DONE cleared. Elsewhere the write is refused with status 2 and starts
none. R427. The end of a block transfer. A write stores the 64 bytes of the data registers at the block, lowest first; a read
brings the block's 64 bytes; each takes them into the CRC, moves the address to the next block and shows DONE with ERR 0. A
block beyond staging, and a read whose word fails, show DONE with their ERR and leave the address. -/
def Obligations.BlockTransfersRun : Prop :=
  (∀ (s : State) (c : Chan) (acc : HostAcc),
    (hostAccepts s (regAddr (chanPage c).val 0xC4) (2 ^ 31) acc = true →
      (s.hdr[chanPage c].busy = false → c = .mbs → stagingOpen s = true →
        exec (.blockWrite c acc) s = .next
          { ((s.mbxMod c fun m => { m with blkOp := 0, blkAt := m.BLK_ADDR, BLK_CTRL_OP := 0, BLK_CTRL_GO := true,
                                           BLK_STAT_DONE := false }).setBusy (chanPage c) true) with
              pairLo := (s.dropPair (regAddr (chanPage c).val 0xC4)).pairLo, hst := answer 0 }) ∧
      (s.hdr[chanPage c].busy = true ∨ c = .mbn ∨ stagingOpen s = false →
        exec (.blockWrite c acc) s = .next
          { s with pairLo := (s.dropPair (regAddr (chanPage c).val 0xC4)).pairLo, hst := answer 2 })) ∧
    (hostAccepts s (regAddr (chanPage c).val 0xC4) (2 ^ 31 + 1) acc = true →
      (s.hdr[chanPage c].busy = false → (s.seq.base = .safe ∨ s.seq.base = .loading) →
        exec (.blockRead c acc) s = .next
          { ((s.mbxMod c fun m => { m with blkOp := 1, blkAt := m.BLK_ADDR, BLK_CTRL_OP := 1, BLK_CTRL_GO := true,
                                           BLK_STAT_DONE := false }).setBusy (chanPage c) true) with
              pairLo := (s.dropPair (regAddr (chanPage c).val 0xC4)).pairLo, hst := answer 0 }) ∧
      (s.hdr[chanPage c].busy = true ∨ s.seq.base = .running →
        exec (.blockRead c acc) s = .next
          { s with pairLo := (s.dropPair (regAddr (chanPage c).val 0xC4)).pairLo, hst := answer 2 }))) ∧
  (∀ (s : State) (c : Chan) (bad : Bool), s.hdr[chanPage c].busy = true → memWf (0 : Byte) s.stg.mem = true →
    ∃ t, exec (.blockTransferDone c bad) s = .next t ∧ t.hdr[chanPage c].busy = false ∧ (t.mbx c).BLK_CTRL_GO = false ∧
      (t.mbx c).BLK_STAT_DONE = true ∧
      ((s.mbx c).blkAt < 4096 → (s.mbx c).blkOp = 0 →
        (t.mbx c).BLK_STAT_ERR = 0 ∧ (t.mbx c).BLK_ADDR = (s.mbx c).blkAt + 1 ∧
        (t.mbx c).BLK_CRC = crc32Ext (s.mbx c).BLK_CRC (blkBytes (s.mbx c)) ∧ (t.mbx c).blk = (s.mbx c).blk ∧
        (∀ i < 64, memRead 0 t.stg.mem (64 * (s.mbx c).blkAt + i) = BitVec.ofNat 8 ((blkBytes (s.mbx c)).getD i 0)) ∧
        (∀ a, (a < 64 * (s.mbx c).blkAt ∨ 64 * (s.mbx c).blkAt + 64 ≤ a) → memRead 0 t.stg.mem a = memRead 0 s.stg.mem a) ∧
        t.seq = { s.seq with STATE_COMMITTED := false } ∧ t.stg.holds = false) ∧
      ((s.mbx c).blkAt < 4096 → (s.mbx c).blkOp ≠ 0 → bad = false →
        (t.mbx c).BLK_STAT_ERR = 0 ∧ (t.mbx c).BLK_ADDR = (s.mbx c).blkAt + 1 ∧
        (t.mbx c).BLK_CRC = crc32Ext (s.mbx c).BLK_CRC (stgBytes s.stg.mem (64 * (s.mbx c).blkAt) 64) ∧
        (∀ j : Fin 16, (t.mbx c).blk[j].BLK_D = stgWord s.stg.mem (64 * (s.mbx c).blkAt + 4 * j.val) 4) ∧ t.stg = s.stg ∧
        t.seq = s.seq) ∧
      ((s.mbx c).blkAt < 4096 → (s.mbx c).blkOp ≠ 0 → bad = true →
        (t.mbx c).BLK_STAT_ERR = 3 ∧ (t.mbx c).BLK_ADDR = (s.mbx c).BLK_ADDR ∧ t.hdr[chanPage c].err.testBit 19 = true ∧
        t.stg = s.stg ∧ t.seq = s.seq) ∧
      (4096 ≤ (s.mbx c).blkAt →
        (t.mbx c).BLK_STAT_ERR = 2 ∧ (t.mbx c).BLK_ADDR = (s.mbx c).BLK_ADDR ∧ t.hdr[chanPage c].err.testBit 19 = true ∧
        t.stg = s.stg ∧ t.seq = s.seq) ∧
      t = { (s.mbxMod c fun _ => t.mbx c) with seq := t.seq, stg := t.stg, evt := t.evt, hdr := t.hdr })

/-- R120, R119, R436. A write of an RWA register with no pending check, or with one that fails, is refused with status 2: it is
counted, KEY_FAIL is set on the register's page, the check is spent, and the register and every other page stay. -/
def Obligations.KeyedWriteWithoutCheckRefused : Prop :=
  ∀ (s : State) (c : Instr) (p : Fin 23) (off w : Nat) (acc : HostAcc), keyedTarget c = some (p, off, w, acc) →
    hostAccepts s (regAddr p.val off) w acc = true → (∀ ctr, keyPasses s ctr (4096 * p.val + off) w = false) →
    ∃ t, exec c s = .next t ∧ t.hst = answer 2 ∧ t.hdr[p].err.testBit 5 = true ∧
      (∀ q : Fin 23, q ≠ p → q ≠ pgEvt → q ≠ pgAut → t.hdr[q] = s.hdr[q]) ∧
      t.aut.pend = none ∧ t.aut.HS_LAST = s.aut.HS_LAST ∧ t.aut.FAIL_CNT_HS = satAdd 16 s.aut.FAIL_CNT_HS 1 ∧
      t = { s with pairLo := (s.dropPair (regAddr p.val off)).pairLo, hst := answer 2, aut := t.aut, evt := t.evt, hdr := t.hdr }

/-- R33, R118, R391, R476. An accepted write of SEQ_HOST_CAP sets the host cap, at the lowest package ceiling of the roster where
the word lies above it, and reports the cap to the reckoner. R220. An accepted keyed write of BEAM_TEST_CTRL starts the self-
test of its kind in SAFE, while none runs; elsewhere it is refused with status 2 and spends its check, and nothing else
changes. R493. An accepted keyed write of REL_SPARE_CMD with GO at 1 starts its command, while none runs and the state allows
its kind; elsewhere it is refused with status 2 and spends its check, and nothing else changes. R331, R330. An accepted keyed
write of DOM_FORCE acts at once: ON takes FAILED away and puts a wake entry first in the round in progress; OFF switches the
domain off and drops FAILED and a queued entry. A domain that is already on, or already off, is left as it is, and what R331
refuses takes no effect but on the check. R340, R366, R518. Accepted keyed writes: CLK_FORCE_SRC sets the forced selection and
the source follows the selection; a host transaction of PMB_HOST_XACT waits with its four fields, or goes at once on an idle
bus; EVT_ERASE begins the erase. -/
def Obligations.KeyedCommandsRun : Prop :=
  (∀ (s : State) (data : Word) (acc : HostAcc) (ctr : Nat), hostAccepts s (regAddr 1 0x58) data.toNat acc = true →
    keyPasses s ctr 0x1058 data.toNat = true →
    ∃ t, exec (.seqHostCapWrite data acc) s = .next t ∧ t.seq = { s.seq with HOST_CAP := min data.toNat (lowestPkg s) } ∧
      t = { s with pairLo := (s.dropPair (regAddr 1 0x58)).pairLo, hst := answer 0, aut := checkTaken s.aut ctr, seq := t.seq,
                   adm := t.adm, frm := t.frm, tre := t.tre, mbs := t.mbs, mbn := t.mbn, rck := t.rck, evt := t.evt, hdr := t.hdr }) ∧
  (∀ (s : State) (c : Instr) (kind target : Nat) (acc : HostAcc) (ctr : Nat),
    ((∃ t : BitVec 8, target = t.toNat ∧ ((c = .beamTestDetector t acc ∧ kind = 1) ∨ (c = .beamTestCurrent t acc ∧ kind = 2) ∨
        (c = .beamTestVoltage t acc ∧ kind = 3))) ∨
      (target = 0 ∧ ((c = .beamTestDiePower acc ∧ kind = 4) ∨ (c = .beamTestTemperature acc ∧ kind = 5) ∨
        (c = .beamTestBrownOut acc ∧ kind = 6) ∨ (c = .beamTestAll acc ∧ kind = 7)))) →
    hostAccepts s (regAddr 4 0x60) (testWord kind target) acc = true → keyPasses s ctr 0x4060 (testWord kind target) = true →
    (shownState s = stSafe → s.beam.test = none →
      exec c s = .next
        { s with pairLo := (s.dropPair (regAddr 4 0x60)).pairLo, hst := answer 0, aut := checkTaken s.aut ctr,
                 beam := { s.beam with TEST_CTRL_KIND := kind, TEST_CTRL_TARGET := target, TEST_CTRL_START := true,
                                       TEST_STAT_DONE := false, test := some (kind, target) },
                 hdr := s.hdr.set pgBeam { s.hdr[pgBeam] with busy := true } }) ∧
    (shownState s ≠ stSafe ∨ s.beam.test ≠ none →
      exec c s = .next
        { s with pairLo := (s.dropPair (regAddr 4 0x60)).pairLo, hst := answer 2, aut := checkTaken s.aut ctr })) ∧
  (∀ (s : State) (c : Instr) (kind op : Nat) (i : BitVec 12) (acc : HostAcc) (ctr : Nat),
    ((c = .spareSubstDetector i acc ∧ kind = 1 ∧ op = 1) ∨ (c = .spareRestoreDetector i acc ∧ kind = 1 ∧ op = 2) ∨
      (c = .spareSubstSensor i acc ∧ kind = 2 ∧ op = 1) ∨ (c = .spareRestoreSensor i acc ∧ kind = 2 ∧ op = 2) ∨
      (c = .spareSubstLane i acc ∧ kind = 3 ∧ op = 1) ∨ (c = .spareRestoreLane i acc ∧ kind = 3 ∧ op = 2) ∨
      (c = .spareSubstPhase i acc ∧ kind = 5 ∧ op = 1) ∨ (c = .spareRestorePhase i acc ∧ kind = 5 ∧ op = 2) ∨
      (c = .spareRestoreAgeing i acc ∧ kind = 6 ∧ op = 2)) →
    hostAccepts s (regAddr 20 0x60) (spareWord kind op i.toNat) acc = true →
    keyPasses s ctr 0x14060 (spareWord kind op i.toNat) = true →
    (s.rel.cmd = none → relStateOk s kind = true →
      ∃ fits, exec c s = .next
        { s with pairLo := (s.dropPair (regAddr 20 0x60)).pairLo, hst := answer 0, aut := checkTaken s.aut ctr,
                 rel := { s.rel with cmd := some { kind := kind, op := op, index := i.toNat, fits := fits }, SPARE_CMD_GO := true,
                                     SPARE_CMD_OP := op, SPARE_CMD_KIND := kind, SPARE_CMD_INDEX := i.toNat,
                                     SPARE_STAT_DONE := false } }) ∧
    (s.rel.cmd ≠ none ∨ relStateOk s kind = false →
      exec c s = .next { s with pairLo := (s.dropPair (regAddr 20 0x60)).pairLo, hst := answer 2, aut := checkTaken s.aut ctr })) ∧
  (∀ (s : State) (d : BitVec 6) (acc : HostAcc) (ctr : Nat), d.toNat < 50 →
    (hostAccepts s (regAddr 9 0x68) (forceWord 1 d.toNat) acc = true → keyPasses s ctr 0x9068 (forceWord 1 d.toNat) = true →
      (s.seq.base = .running → s.seq.tripped = false →
        ((domOf s d.toNat).ST_ST = 0 ∨ (domOf s d.toNat).ST_ST = 1 ∨ (domOf s d.toNat).ST_ST = 8 →
          ∃ t, exec (.domForceOn d acc) s = .next t ∧
            t.dom = { s.dom with FORCE_ON := true, FORCE_DOM := d.toNat,
                                 queue := { dom := d.toNat, prio := 0, at_ := s.now } :: s.dom.queue.filter (·.dom ≠ d.toNat),
                                 nextQ := s.dom.nextQ.filter (·.dom ≠ d.toNat),
                                 dom := vMod s.dom.dom d.toNat fun x =>
                                   { x with ST_ST := 1, forced := true, wantAt := s.now, stepAt := s.now } } ∧
            t.hdr[pgDom].err.testBit 19 = true ∧
            t = { s with pairLo := (s.dropPair (regAddr 9 0x68)).pairLo, hst := answer 0, aut := checkTaken s.aut ctr, dom := t.dom,
                         evt := t.evt, hdr := t.hdr }) ∧
        ((domOf s d.toNat).ST_ST = 5 →
          exec (.domForceOn d acc) s = .next
            { s with pairLo := (s.dropPair (regAddr 9 0x68)).pairLo, hst := answer 0, aut := checkTaken s.aut ctr,
                     dom := { s.dom with FORCE_ON := true, FORCE_DOM := d.toNat } })) ∧
      (s.seq.base ≠ .running ∨ s.seq.tripped = true →
        exec (.domForceOn d acc) s = .next
          { s with pairLo := (s.dropPair (regAddr 9 0x68)).pairLo, hst := answer 2, aut := checkTaken s.aut ctr })) ∧
    (hostAccepts s (regAddr 9 0x68) (forceWord 0 d.toNat) acc = true → keyPasses s ctr 0x9068 (forceWord 0 d.toNat) = true →
      (isBoot s d.toNat = false → s.seq.tripped = false →
        ∃ t, exec (.domForceOff d acc) s = .next t ∧ (domOf t d.toNat).ST_ST = 0 ∧
          (∀ e ∈ t.dom.queue, (domOf s d.toNat).ST_ST = 1 → e.dom ≠ d.toNat) ∧
          ((domOf s d.toNat).ST_ST ≠ 0 → t.hdr[pgDom].err.testBit 19 = true) ∧
          t = { s with pairLo := (s.dropPair (regAddr 9 0x68)).pairLo, hst := answer 0, aut := checkTaken s.aut ctr, tly := t.tly,
                       adm := t.adm, fcs := t.fcs, dom := t.dom, vrg := t.vrg, frm := t.frm, mbs := t.mbs, mbn := t.mbn,
                       evt := t.evt, hdr := t.hdr }) ∧
      (isBoot s d.toNat = true ∨ s.seq.tripped = true →
        exec (.domForceOff d acc) s = .next
          { s with pairLo := (s.dropPair (regAddr 9 0x68)).pairLo, hst := answer 2, aut := checkTaken s.aut ctr }))) ∧
  (∀ (s : State) (acc : HostAcc) (ctr : Nat),
    (∀ data : Word, hostAccepts s (regAddr 10 0x50) data.toNat acc = true → keyPasses s ctr 0xA050 data.toNat = true →
      forceSrcRefused s (data.toNat % 4) = false →
      ∃ t, exec (.clkForceSrcWrite data acc) s = .next t ∧ t.clk.FORCE_SRC = data.toNat % 4 ∧
        t.clk.TK_SRC = srcWanted { s with clk := { s.clk with FORCE_SRC := data.toNat % 4 } } ∧
        t.clk = { s.clk with FORCE_SRC := t.clk.FORCE_SRC, TK_SRC := t.clk.TK_SRC, TK_GLITCH := t.clk.TK_GLITCH,
                             TK_XTAL_SEEN := t.clk.TK_XTAL_SEEN, TK_CNT_SWITCHES := t.clk.TK_CNT_SWITCHES } ∧
        t.seq = { s.seq with shown := t.seq.shown } ∧ t.mbs.quiet = s.mbs.quiet ∧ t.mbn.quiet = s.mbn.quiet ∧
        t = { s with pairLo := (s.dropPair (regAddr 10 0x50)).pairLo, hst := answer 0, aut := checkTaken s.aut ctr, clk := t.clk,
                     seq := t.seq, mbs := t.mbs, mbn := t.mbn, rck := t.rck, evt := t.evt, hdr := t.hdr }) ∧
    (∀ (c : Instr) (k : Nat) (slot : BitVec 3) (cmd : BitVec 8) (data : BitVec 16),
      ((c = .pmbHostSendByte slot cmd data acc ∧ k = 0) ∨ (c = .pmbHostWriteByte slot cmd data acc ∧ k = 1) ∨
        (c = .pmbHostWriteWord slot cmd data acc ∧ k = 2) ∨ (c = .pmbHostReadWord slot cmd data acc ∧ k = 3)) →
      hostAccepts s (regAddr 12 0x64) (xactWord k slot.toNat cmd.toNat data.toNat) acc = true →
      keyPasses s ctr 0xC064 (xactWord k slot.toNat cmd.toNat data.toNat) = true → hostXactRefused s slot.toNat = false →
      ∃ t, exec c s = .next t ∧
        t.pmb = { s.pmb with HOST_RES_DONE := false, HOST_XACT_KIND := k, HOST_XACT_SLOT := slot.toNat, HOST_XACT_CMD := cmd.toNat,
                             HOST_XACT_DATA := data.toNat,
                             host := if s.pmb.task = .none then none else some (k, slot.toNat, cmd.toNat, data.toNat),
                             task := if s.pmb.task = .none then .host k slot.toNat cmd.toNat data.toNat 1 else s.pmb.task } ∧
        t = { s with pairLo := (s.dropPair (regAddr 12 0x64)).pairLo, hst := answer 0, aut := checkTaken s.aut ctr, pmb := t.pmb }) ∧
    (hostAccepts s (regAddr 21 0x5C) (2 ^ 31) acc = true → keyPasses s ctr 0x1505C (2 ^ 31) = true → s.evt.STAT_FLUSH_ACT = false →
      s.evt.STAT_ERASING = false →
      exec (.evtErase acc) s = .next
        { s with pairLo := (s.dropPair (regAddr 21 0x5C)).pairLo, hst := answer 0, aut := checkTaken s.aut ctr,
                 evt := { s.evt with STAT_ERASING := true }, hdr := s.hdr.set pgEvt { s.hdr[pgEvt] with busy := true } }))

/-- R97, R103. Each command that is a write of one register is REGISTER_WRITE of that register's address with the same word and
access. -/
def Obligations.NamedWritesAreRegisterWrites : Prop :=
  ∀ (s : State) (addr : BitVec 15) (data : Word) (acc : HostAcc) (page : Fin 23) (rail : Fin 16) (c : Chan) (k : Fin 8),
    (addr.toNat = regAddr page.val 0x20 → exec (.pageLockWrite page data acc) s = exec (.registerWrite addr data acc) s) ∧
    (addr.toNat = regAddr 2 0x58 → exec (.tlyRowSelWrite data acc) s = exec (.registerWrite addr data acc) s) ∧
    (addr.toNat = regAddr 6 0x60 → exec (.fcsWaddrWrite data acc) s = exec (.registerWrite addr data acc) s) ∧
    (addr.toNat = regAddr 6 0x64 → exec (.fcsWdataWrite data acc) s = exec (.registerWrite addr data acc) s) ∧
    (addr.toNat = regAddr 18 0x54 → exec (.autWchkMac3Write data acc) s = exec (.registerWrite addr data acc) s) ∧
    (addr.toNat = regAddr 1 0x58 → exec (.seqHostCapWrite data acc) s = exec (.registerWrite addr data acc) s) ∧
    (addr.toNat = regAddr 4 (0x108 + 16 * rail.val) → exec (.beamHlimWrite rail data acc) s = exec (.registerWrite addr data acc) s) ∧
    (addr.toNat = regAddr 10 0x50 → exec (.clkForceSrcWrite data acc) s = exec (.registerWrite addr data acc) s) ∧
    (addr.toNat = regAddr (chanPage c).val (0x40 + 4 * k.val) →
      exec (.mailboxInWrite c k data acc) s = exec (.registerWrite addr data acc) s) ∧
    (addr.toNat = regAddr (chanPage c).val 0x68 → exec (.outPop c data acc) s = exec (.registerWrite addr data acc) s) ∧
    (addr.toNat = regAddr (chanPage c).val 0xC0 → exec (.blkAddrWrite c data acc) s = exec (.registerWrite addr data acc) s) ∧
    (addr.toNat = regAddr 15 0xE0 → exec (.heartbeat data acc) s = exec (.registerWrite addr data acc) s) ∧
    (addr.toNat = regAddr 21 0x60 → exec (.evtRdSelWrite data acc) s = exec (.registerWrite addr data acc) s) ∧
    (addr.toNat = regAddr 22 0x48 → exec (.trcPop data acc) s = exec (.registerWrite addr data acc) s) ∧
    (addr.toNat = regAddr page.val 0x0C → data = 1 → exec (.lrstReq page acc) s = exec (.registerWrite addr data acc) s) ∧
    (addr.toNat = regAddr 1 0x48 →
      (data = 1 → exec (.seqLoad acc) s = exec (.registerWrite addr data acc) s) ∧
      (data = 2 → exec (.seqCommit acc) s = exec (.registerWrite addr data acc) s) ∧
      (data = 3 → exec (.seqActivate acc) s = exec (.registerWrite addr data acc) s) ∧
      (data = 4 → exec (.seqAbort acc) s = exec (.registerWrite addr data acc) s)) ∧
    (addr.toNat = regAddr 21 0x40 →
      (bitAt data.toNat 2 = true → exec (.evtFreeze data acc) s = exec (.registerWrite addr data acc) s) ∧
      (bitAt data.toNat 2 = false → bitAt data.toNat 0 = false →
        exec (.evtUnfreeze data acc) s = exec (.registerWrite addr data acc) s))

/-- R25, R27, R107, R116, R117, R189, R26, R95. REGISTER_WRITE on the plain registers. PAGE_ERR clears the bits written as 1, the
masks are stored; a write of TLY_EPOCH_LEN stores a length of 128 to 8192 µs, or 1024 with RESV_VAL, and a locked page refuses it with
status 2 and LOCK_WR; a page number that no page has takes no write and answers 0. -/
def Obligations.PlainRegisterWrites : Prop :=
  ∀ (s : State) (addr : BitVec 15) (data : Word) (acc : HostAcc), hostAccepts s addr.toNat data.toNat acc = true →
    (∀ p : Fin 23, addr.toNat = regAddr p.val 0x14 →
      exec (.registerWrite addr data acc) s = .next
        { s with pairLo := (s.dropPair addr.toNat).pairLo, hst := answer 0,
                 hdr := s.hdr.set p { s.hdr[p] with err := s.hdr[p].err - (s.hdr[p].err &&& data.toNat) } }) ∧
    (∀ p : Fin 23, addr.toNat = regAddr p.val 0x18 →
      exec (.registerWrite addr data acc) s = .next
        { s with pairLo := (s.dropPair addr.toNat).pairLo, hst := answer 0,
                 hdr := s.hdr.set p { s.hdr[p] with errMask := data.toNat } }) ∧
    (addr.toNat = regAddr 2 0x40 → s.hdr[pgTly].lock = false → 128 ≤ data.toNat % 2 ^ 14 → data.toNat % 2 ^ 14 ≤ 8192 →
      exec (.registerWrite addr data acc) s = .next
        { s with pairLo := (s.dropPair addr.toNat).pairLo, hst := answer 0, tly := { s.tly with EPOCH_LEN := data.toNat % 2 ^ 14 } }) ∧
    (addr.toNat = regAddr 2 0x40 → s.hdr[pgTly].lock = false → (data.toNat % 2 ^ 14 < 128 ∨ 8192 < data.toNat % 2 ^ 14) →
      ∃ t, exec (.registerWrite addr data acc) s = .next t ∧ t.hdr[pgTly].err.testBit 3 = true ∧
        t = { s with pairLo := (s.dropPair addr.toNat).pairLo, hst := answer 0, tly := { s.tly with EPOCH_LEN := 1024 },
                     evt := t.evt, hdr := t.hdr }) ∧
    (addr.toNat = regAddr 2 0x40 → s.hdr[pgTly].lock = true →
      ∃ t, exec (.registerWrite addr data acc) s = .next t ∧ t.hdr[pgTly].err.testBit 4 = true ∧
        t = { s with pairLo := (s.dropPair addr.toNat).pairLo, hst := answer 2, evt := t.evt, hdr := t.hdr }) ∧
    (23 * 1024 ≤ addr.toNat → exec (.registerWrite addr data acc) s = .next { s with hst := answer 0 })

/-- R462, R472. LOAD: from SAFE with every check of R462 met the instance enters LOADING; from RUN, DEGRADED or ORPHAN with no live
load open it opens one, its page locks cleared. A check that fails gives its status and changes no state of the instance. -/
def Obligations.LoadOpens : Prop :=
  ∀ (s : State) (acc : HostAcc), hostAccepts s (regAddr 1 0x48) 1 acc = true →
    (s.seq.base = .safe → shownState s = stSafe → s.seq.STATE_LIVE_LOAD = false → loadCheck s = none →
      ∃ t, exec (.seqLoad acc) s = .next t ∧
        t.seq = { s.seq with CMD_ST_OP := 1, CMD_ST_ST := 0, base := .loading, shown := stLoading } ∧
        t.mbs.quiet = s.mbs.quiet ∧ t.mbn.quiet = s.mbn.quiet ∧
        t = { s with pairLo := (s.dropPair (regAddr 1 0x48)).pairLo, hst := answer 0, seq := t.seq, mbs := t.mbs, mbn := t.mbn,
                     rck := t.rck, evt := t.evt, hdr := t.hdr }) ∧
    (s.seq.base = .running → 2 ≤ shownState s → shownState s ≤ 4 → s.seq.STATE_LIVE_LOAD = false → loadCheck s = none →
      ∃ t, exec (.seqLoad acc) s = .next t ∧
        t.seq = { s.seq with CMD_ST_OP := 1, CMD_ST_ST := 0, STATE_LIVE_LOAD := true } ∧
        (∀ p : Fin 23, t.hdr[p].lock = false ∧ t.hdr[p].lockSrc = false) ∧
        t = { s with pairLo := (s.dropPair (regAddr 1 0x48)).pairLo, hst := answer 0, seq := t.seq, evt := t.evt, hdr := t.hdr }) ∧
    (∀ st, loadRefusal s = some st →
      ∃ t, exec (.seqLoad acc) s = .next t ∧
        t.seq = { s.seq with CMD_ST_OP := 1, CMD_ST_ST := st, CNT_REFUSED := satAdd 16 s.seq.CNT_REFUSED 1 } ∧
        t.hdr[pgSeq].err.testBit 17 = true ∧
        t = { s with pairLo := (s.dropPair (regAddr 1 0x48)).pairLo, hst := answer 0, seq := t.seq, evt := t.evt, hdr := t.hdr })

/-- R467, R469, R471. COMMIT starts the commit while a load is open and none runs; ACTIVATE makes an activation pend on a committed
image, with its timeout running from then; ABORT abandons the load, LOADING going back to SAFE; each reports 0x16 where it does not
apply, and changes nothing else. -/
def Obligations.CommitActivateAbort : Prop :=
  ∀ (s : State) (acc : HostAcc),
    (hostAccepts s (regAddr 1 0x48) 2 acc = true →
      (loadOpen s = true → s.hdr[pgSeq].busy = false →
        exec (.seqCommit acc) s = .next
          { s with pairLo := (s.dropPair (regAddr 1 0x48)).pairLo, hst := answer 0,
                   seq := { s.seq with CMD_ST_OP := 2, CMD_ST_ST := 0x01 },
                   hdr := s.hdr.set pgSeq { s.hdr[pgSeq] with busy := true } }) ∧
      (loadOpen s = false ∨ s.hdr[pgSeq].busy = true →
        exec (.seqCommit acc) s = .next
          { s with pairLo := (s.dropPair (regAddr 1 0x48)).pairLo, hst := answer 0,
                   seq := { s.seq with CMD_ST_OP := 2, CMD_ST_ST := 0x16, CNT_REFUSED := satAdd 16 s.seq.CNT_REFUSED 1 } })) ∧
    (hostAccepts s (regAddr 1 0x48) 3 acc = true →
      (loadOpen s = true → s.seq.STATE_COMMITTED = true → s.hdr[pgSeq].busy = false → s.seq.STATE_ACT_PEND = false →
        exec (.seqActivate acc) s = .next
          { s with pairLo := (s.dropPair (regAddr 1 0x48)).pairLo, hst := answer 0,
                   seq := { s.seq with CMD_ST_OP := 3, CMD_ST_ST := 0x01, STATE_ACT_PEND := true, actAt := s.now,
                                       deferred := false } }) ∧
      (loadOpen s = false ∨ s.seq.STATE_COMMITTED = false ∨ s.hdr[pgSeq].busy = true →
        exec (.seqActivate acc) s = .next
          { s with pairLo := (s.dropPair (regAddr 1 0x48)).pairLo, hst := answer 0,
                   seq := { s.seq with CMD_ST_OP := 3, CMD_ST_ST := 0x16, CNT_REFUSED := satAdd 16 s.seq.CNT_REFUSED 1 } })) ∧
    (hostAccepts s (regAddr 1 0x48) 4 acc = true →
      (loadOpen s = true →
        ∃ t, exec (.seqAbort acc) s = .next t ∧
          t.seq = { s.seq with CMD_ST_OP := 4, CMD_ST_ST := 0x51, STATE_ACT_PEND := false, STATE_COMMITTED := false, deferred := false,
                               base := if s.seq.base = .loading then .safe else s.seq.base,
                               STATE_LIVE_LOAD := if s.seq.base = .loading then s.seq.STATE_LIVE_LOAD else false,
                               shown := t.seq.shown } ∧
          t.stg = { s.stg with img := none } ∧ t.hdr[pgSeq].busy = false ∧
          (s.seq.base = .loading → ∀ p : Fin 23, t.hdr[p].lock = false) ∧
          t.mbs.quiet = s.mbs.quiet ∧ t.mbn.quiet = s.mbn.quiet ∧
          t = { s with pairLo := (s.dropPair (regAddr 1 0x48)).pairLo, hst := answer 0, seq := t.seq, mbs := t.mbs, mbn := t.mbn,
                       rck := t.rck, evt := t.evt, hdr := t.hdr, stg := t.stg }) ∧
      (loadOpen s = false →
        exec (.seqAbort acc) s = .next
          { s with pairLo := (s.dropPair (regAddr 1 0x48)).pairLo, hst := answer 0,
                   seq := { s.seq with CMD_ST_OP := 4, CMD_ST_ST := 0x16 } }))

/-- R33, R34, R197, R198, R460. A host limit above the rail's fuse ceiling is stored at it and flagged; below it, as written. A
block-local reset asked for on a page that has one holds the page from then; on another page the write does nothing. -/
def Obligations.HostLimitAndLocalReset : Prop :=
  ∀ (s : State) (acc : HostAcc),
    (∀ (rail : Fin 16) (data : Word), hostAccepts s (regAddr 4 (0x108 + 16 * rail.val)) data.toNat acc = true →
      ∃ t, exec (.beamHlimWrite rail data acc) s = .next t ∧
        t.beam.rail[rail].HLIM = (if railAbsent s rail.val then data.toNat % 2 ^ 12
          else min (data.toNat % 2 ^ 12) (fuseRail s rail.val).iCeil.toNat) ∧
        (∀ r : Fin 16, r ≠ rail → t.beam.rail[r].HLIM = s.beam.rail[r].HLIM) ∧
        t = { s with pairLo := (s.dropPair (regAddr 4 (0x108 + 16 * rail.val))).pairLo, hst := answer 0, beam := t.beam, ctl := t.ctl,
                     rel := t.rel, evt := t.evt, hdr := t.hdr }) ∧
    (∀ page : Fin 23, hostAccepts s (regAddr page.val 0x0C) 1 acc = true →
      (lrstIndex page.val < 8 → s.hdr[page].lrstAct = false → page ≠ pgFcs →
        exec (.lrstReq page acc) s = .next
          { s with pairLo := (s.dropPair (regAddr page.val 0x0C)).pairLo, hst := answer 0,
                   hdr := s.hdr.set page { s.hdr[page] with lrstReq := true, lrstAct := true, lrstAt := s.now } }) ∧
      (s.hdr[page].lrstAct = false → page = pgFcs →
        ∃ t, exec (.lrstReq page acc) s = .next t ∧ t.hdr[pgFcs].lrstAct = true ∧ t.hdr[pgFcs].lrstAt = s.now ∧
          t.fcs = { s.fcs with STAT_FZ_CAUSE := t.fcs.STAT_FZ_CAUSE, STAT_FZ := t.fcs.STAT_FZ, STAT_RUNNING := t.fcs.STAT_RUNNING,
                               fzAt := t.fcs.fzAt } ∧
          t = { s with pairLo := (s.dropPair (regAddr page.val 0x0C)).pairLo, hst := answer 0, fcs := t.fcs, evt := t.evt,
                       hdr := t.hdr }) ∧
      (8 ≤ lrstIndex page.val ∨ s.hdr[page].lrstAct = true →
        exec (.lrstReq page acc) s = .next { s with pairLo := (s.dropPair (regAddr page.val 0x0C)).pairLo, hst := answer 0 }))

/-- R520, R514, R525. The recorder's window copies a whole slot and judges its check byte where its MARK shows a record; a freeze
holds the recorder with cause 3 at the slot that the next write would have taken, and a frozen one stays as it is; an unfreeze
resumes at the slot after the last reserve slot written. A pop of the telemetry stream takes the head chunk. -/
def Obligations.RecorderWindowFreezePop : Prop :=
  ∀ (s : State) (data : Word) (acc : HostAcc),
    (hostAccepts s (regAddr 21 0x60) data.toNat acc = true →
      ∃ t bad, exec (.evtRdSelWrite data acc) s = .next t ∧
        (bad = true ↔ memRead 0 s.evt.slots (data.toNat % 4096) >>> 248 = 0xA5 ∧
          crc8 (bytesLE 30 (memRead 0 s.evt.slots (data.toNat % 4096))) ≠
            bitsOf (memRead 0 s.evt.slots (data.toNat % 4096)) 240 8) ∧
        (∀ j : Fin 8, t.evt.rd[j].RD_D = bitsOf (memRead 0 s.evt.slots (data.toNat % 4096)) (32 * j.val) 32) ∧
        t.evt = { s.evt with RD_SEL := data.toNat % 4096, rdSlot := some (data.toNat % 4096), rd := t.evt.rd, RD_STAT_STALE := false,
                             RD_STAT_CHK_BAD := bad,
                             RD_STAT_CHK_CNT := if bad then satAdd 16 s.evt.RD_STAT_CHK_CNT 1 else s.evt.RD_STAT_CHK_CNT } ∧
        t = { s with pairLo := (s.dropPair (regAddr 21 0x60)).pairLo, hst := answer 0, evt := t.evt }) ∧
    (hostAccepts s (regAddr 21 0x40) (data.toNat ||| 4) acc = true →
      ∃ t, exec (.evtFreeze data acc) s = .next t ∧ t.evt.STAT_FROZEN = true ∧ t.evt.slots = s.evt.slots ∧
        (s.evt.STAT_FROZEN = false → t.evt.FRZ_CAUSE = 3 ∧ t.hdr[pgEvt].err.testBit 18 = true ∧
          t.evt.FRZ_FRZ_SLOT = usableFrom s (2 * s.evt.outRows.length) s.evt.STAT_WR) ∧
        (s.evt.STAT_FROZEN = true → t.evt.FRZ_CAUSE = s.evt.FRZ_CAUSE ∧ t.evt.FRZ_FRZ_SLOT = s.evt.FRZ_FRZ_SLOT ∧ t.hdr = s.hdr) ∧
        t = { s with pairLo := (s.dropPair (regAddr 21 0x40)).pairLo, hst := answer 0, evt := t.evt, hdr := t.hdr }) ∧
    (hostAccepts s (regAddr 21 0x40) (data.toNat &&& 0xFFFFFFFA) acc = true →
      ∃ t, exec (.evtUnfreeze data acc) s = .next t ∧ t.evt.STAT_FROZEN = false ∧ t.evt.slots = s.evt.slots ∧
        (s.evt.STAT_FROZEN = true → (∀ k, s.evt.lastRes = some k → t.evt.STAT_WR = nextSlot s k) ∧
          (s.evt.lastRes = none → t.evt.STAT_WR = s.evt.FRZ_FRZ_SLOT)) ∧
        (s.evt.STAT_FROZEN = false → t.evt.STAT_WR = s.evt.STAT_WR) ∧
        t = { s with pairLo := (s.dropPair (regAddr 21 0x40)).pairLo, hst := answer 0, evt := t.evt }) ∧
    (hostAccepts s (regAddr 22 0x48) data.toNat acc = true →
      ((data.toNat % 2 = 0 ∨ s.trc.recs = []) →
        exec (.trcPop data acc) s = .next { s with pairLo := (s.dropPair (regAddr 22 0x48)).pairLo, hst := answer 0 }) ∧
      (∀ r rs, data.toNat % 2 = 1 → s.trc.recs = r :: rs → r.par = false →
        exec (.trcPop data acc) s = .next
          { s with pairLo := (s.dropPair (regAddr 22 0x48)).pairLo, hst := answer 0,
                   trc := { s.trc with recs := if r.chunks.length ≤ 1 then rs
                                               else { r with chunks := r.chunks.drop 1, first := false } :: rs } }) ∧
      (∀ r rs, data.toNat % 2 = 1 → s.trc.recs = r :: rs → r.par = true →
        ∃ t, exec (.trcPop data acc) s = .next t ∧ t.hdr[pgTrc].err.testBit 17 = true ∧
          t = { s with pairLo := (s.dropPair (regAddr 22 0x48)).pairLo, hst := answer 0,
                       trc := { s.trc with recs := rs, DROP1_PAR := satAdd 16 s.trc.DROP1_PAR 1 }, evt := t.evt, hdr := t.hdr }))

/-- R113. A storage parity fault on a register word of a running instance: INT_PAR on its page, the word's place and the count in
PAGE_PARITY, the event, and a field that the driver sets at its Cold value; a word that fails again takes a spare word of its page.
Nothing is touched that the page's own words do not hold. -/
def Obligations.StorageParityRestores : Prop :=
  ∀ (s : State) (addr : BitVec 15) (p : Fin 23), regListed addr.toNat = true → s.rst.started = true → addr.toNat / 1024 = p.val →
    (∃ t, exec (.intPar addr false) s = .next t ∧ t.hdr[p].err.testBit 7 = true ∧ t.hdr[p].lastWord = addr.toNat % 1024 ∧
      (addr.toNat = regAddr 1 0x54 → t.seq = { s.seq with ACT_TIMEOUT := 1000 } ∧ t.hdr[p].faultCnt = satAdd 8 s.hdr[p].faultCnt 1) ∧
      (addr.toNat = regAddr 2 0x40 → t.tly = { s.tly with EPOCH_LEN := 1024 } ∧ t.hdr[p].faultCnt = satAdd 8 s.hdr[p].faultCnt 1) ∧
      (addr.toNat = regAddr 15 0x70 →
        t.mbs = { s.mbs with CFG_NOTE_EN := 0, CFG_RX_DOM := 63 } ∧ t.hdr[p].faultCnt = satAdd 8 s.hdr[p].faultCnt 1) ∧
      (addr.toNat = regAddr 18 0x40 → t.aut = { s.aut with WCHK_CTR_LO := 0 } ∧ t.hdr[p].faultCnt = satAdd 8 s.hdr[p].faultCnt 1) ∧
      t = { s with seq := t.seq, tly := t.tly, adm := t.adm, beam := t.beam, ctl := t.ctl, fcs := t.fcs, thm := t.thm, sns := t.sns,
                   dom := t.dom, clk := t.clk, pmb := t.pmb, frm := t.frm, tre := t.tre, mbs := t.mbs, mbn := t.mbn, rck := t.rck,
                   aut := t.aut, rst := t.rst, rel := t.rel, evt := t.evt, trc := t.trc, hdr := t.hdr }) ∧
    (0 < vAt s.rel.regFree p.val 0 →
      ∃ t u, exec (.intPar addr true) s = .next t ∧ exec (.intPar addr false) s = .next u ∧
        t = { u with rel := { u.rel with regFree := vMod u.rel.regFree p.val fun n => n - 1 } }) ∧
    (vAt s.rel.regFree p.val 0 = 0 →
      ∃ t, exec (.intPar addr true) s = .next t ∧ t.rel.regDead.contains addr.toNat = true ∧ t.hdr[p].faultCnt = 255)

/-- R420, R421. The box written first is taken: OP 1 is answered with PONG, OP 2 with the value its ARG selects, or with ERR where
ARG is not listed, and any other OP with ERR and the OP as its data; each reply keeps the TAG, and the box is free again. -/
def Obligations.MailboxReplies : Prop :=
  ∀ (s : State) (c : Chan) (k : Nat) (ks : List Nat), (s.mbx c).order = k :: ks → (s.mbx c).outQ.length < 8 →
    let w := (vAt (s.mbx c).inb k {}).IN
    let op := w / 2 ^ 24
    let reply := fun (o v : Nat) => (s.mbxMod c fun m => { m with
      order := ks, IN_STAT_FULL := putBit m.IN_STAT_FULL k false,
      outQ := m.outQ ++ [o * 2 ^ 24 + w / 2 ^ 16 % 256 * 2 ^ 16 + v % 65536] })
    (op = 1 → exec (.ping c) s = .next (reply 0x01 w)) ∧
    (op = 2 → (∀ v, queryValue s (w % 65536) = some v → exec (.query c) s = .next (reply 0x02 v)) ∧
      (queryValue s (w % 65536) = none → exec (.query c) s = .next (reply 0x0F 0x02))) ∧
    (op ≠ 1 → op ≠ 2 → exec (.mailboxBadOp c) s = .next (reply 0x0F (op % 256)))

/-- R120, R434, R436. A pending check that nothing consumed for 4096 ticks is discarded and its six registers read 0; the muted
recording of failures ends after 10 s; channels not anchored one second after the cold reset anchor at PCYCLE × 2³² without a
restored count, and say so. R44, R46, R429, R431. A heartbeat whose timer has run out on a supervised instance is counted
once; the load that is open is abandoned, and a running instance becomes an orphan with the cap at its share. -/
def Obligations.ChannelTimersRun : Prop :=
  (∀ s : State,
    (∀ k, s.aut.pend = some k → k.at_ + 4096 ≤ s.now →
      exec .pendingCheckDiscard s = .next
        { s with aut := { s.aut with pend := none, WCHK_CTR_LO := 0, WCHK_CTR_HI := 0, mac := Vector.replicate 4 {} } }) ∧
    (s.aut.STAT_HS_LOGMUTE = true → s.aut.muteAt + 40000000 ≤ s.now →
      exec .hsLogmuteEnd s = .next { s with aut := { s.aut with STAT_HS_LOGMUTE := false, hsAt := [] } }) ∧
    (s.aut.STAT_ANCHORED = false → 4000000 ≤ s.now →
      ∃ t, exec .anchorTimeout s = .next t ∧
        t.aut = { s.aut with HS_LAST := s.evt.PCYCLE * 2 ^ 32, RK_LAST := s.evt.PCYCLE * 2 ^ 32, RK_OUT := s.evt.PCYCLE * 2 ^ 32,
                             STAT_ANCHORED := true, ANCHOR := s.evt.PCYCLE, STAT_UNANCHORED := true } ∧
        t.hdr[pgAut].err.testBit 17 = true ∧ t = { s with aut := t.aut, evt := t.evt, hdr := t.hdr })) ∧
  (∀ s : State, s.seq.STATE_HB_SUP = true → s.mbs.lossTaken = false → s.mbs.timerAt + s.mbs.HB_CFG * 4000 ≤ s.now →
    ∃ t, exec .heartbeatLoss s = .next t ∧ t.mbs.lossTaken = true ∧ t.mbs.HB_CNT_LOSSES = satAdd 16 s.mbs.HB_CNT_LOSSES 1 ∧
      (s.seq.base = .running → s.seq.STATE_C_ORPHAN = false →
        t.seq.STATE_C_ORPHAN = true ∧ t.seq.base = .running ∧ t.seq.STATE_LIVE_LOAD = false ∧ t.mbs.orphCapNow = s.adm.SHARE ∧
        t.mbs.orphBnds = 0) ∧
      (s.seq.base = .loading → t.seq.base = .safe ∧ t.seq.CMD_ST_ST = 0x50 ∧ t.seq.STATE_COMMITTED = false) ∧
      t.mbn.quiet = s.mbn.quiet ∧
      t = { s with seq := t.seq, stg := t.stg, mbs := t.mbs, mbn := t.mbn, rck := t.rck, evt := t.evt, hdr := t.hdr })

/-- Every sparse memory of the block (staging, the recorder's slots, the tally rows and their spare map) keeps its one canonical
form under every command, from every state that has it: equal contents are equal data. -/
def Obligations.StepKeepsMemoriesWf : Prop :=
  ∀ s t : State, memoriesWf s = true → step s = .next t → memoriesWf t = true

/-- At reset no sparse memory lists anything, so each has its canonical form, and no command waits. -/
def Obligations.ResetMemoriesWf : Prop :=
  memoriesWf State.reset = true ∧ State.reset.pending = []

/-- Every command completes, and leaves the commands that wait as they are: the block stops on no command. -/
def Obligations.EveryCommandCompletes : Prop :=
  ∀ (c : Instr) (s : State), ∃ t, exec c s = .next t ∧ t.pending = s.pending

/-- R66, R69, R451. The strap inputs and the fuses are read on a cold exit and stand until the next power-on reset: while por_n is high
no command but POR_ASSERT changes what was read. -/
def Obligations.StrapsAndFusesStand : Prop :=
  ∀ (c : Instr) (s t : State), s.rst.por = false → c ≠ .porAssert → exec c s = .next t →
    t.cmn.straps = s.cmn.straps ∧ t.cmn.fuses = s.cmn.fuses

/-- Time moves by CONTROL_SAMPLE alone, one timekeeper tick each; of the other commands only the four of the reset pins may change
the count, and they leave it or set it to 0 (the model's choice of what its commands say about time, log entry 2). -/
def Obligations.TimeMovesByTicks : Prop :=
  ∀ s : State,
    (∀ o : SampleObs, s.rst.started = true → ∃ t, exec (.controlSample o) s = .next t ∧ t.now = s.now + 1) ∧
    (∀ o : SampleObs, s.rst.started = false → exec (.controlSample o) s = .next s) ∧
    ∀ (c : Instr) (t : State), (∀ o, c ≠ .controlSample o) → exec c s = .next t →
      t.now = s.now ∨
      t.now = 0 ∧ (c = .porAssert ∨ (∃ x f, c = .porRelease x f) ∨ c = .rstNAssert ∨ c = .rstNRelease)

/-- R25, R116, R157, R426, R460, R463, R508, R522. Values that the register tables give in the Cold column, at State.reset. -/
def Obligations.ColdValues : Prop :=
  (∀ p : Fin 23, State.reset.hdr[p] = { (default : PageHdr) with lock := false, err := 0 }) ∧
  State.reset.seq.ACT_TIMEOUT = 1000 ∧ State.reset.seq.base = .safe ∧ State.reset.tly.EPOCH_LEN = 1024 ∧
  State.reset.thm.AMB = 0x08C0 ∧ State.reset.mbs.CFG_RX_DOM = 63 ∧ State.reset.mbn.CFG_RX_DOM = 63 ∧
  State.reset.evt.CFG_SUPP_LIM = 16 ∧ State.reset.trc.CFG_RAIL_PER = 64 ∧
  (∀ k : Fin 8, State.reset.rst.page[k].LRST_TO_TIMEOUT = 50) ∧ State.reset.stg.mem = [] ∧ State.reset.rst.live = false

/-- R451, R453, R455. POR_ASSERT makes everything within its reach cold at once, whatever the state was: every page but RST_*
stands as at State.reset (the free values' counter and the commands that wait are the model's and stay). A second edge changes
nothing. R68, R73, R81, R457. The release of por_n with rst_n high begins the cold exit: straps and fuses as sampled, the
strap check's mask, cause 2 in RST_CAUSE, the ports live, every boot domain in its power-up step with its main switch closed,
every clock at STRAP_FBOOT and every regulator at its power-up code; with rst_n low the exit waits for its release. -/
def Obligations.ColdResetRuns : Prop :=
  (∀ s : State,
    (s.rst.por = true → exec .porAssert s = .next s) ∧
    (s.rst.por = false →
      exec .porAssert s = .next
        { State.reset with
          rst := { State.reset.rst with por := true, pin := s.rst.pin, epOpen := true, epCold := true, epPor := true,
                                        epPin := s.rst.epOpen && s.rst.epPin, pinLast := s.rst.pinLast,
                                        restarted := s.rst.epOpen && (s.rst.restarted || s.rst.exiting) },
          free := s.free, pending := s.pending })) ∧
  (∀ (s : State) (x : Straps) (f : Fuses), s.rst.por = true →
    (s.rst.pin = true → exec (.porRelease x f) s = .next
      { s with rst := { s.rst with por := false, pinLast := false }, cmn := { s.cmn with straps := x, fuses := f } }) ∧
    (s.rst.pin = false → ∃ t, exec (.porRelease x f) s = .next t ∧ t.cmn = { s.cmn with straps := x, fuses := f } ∧
      t.rst.por = false ∧ t.rst.live = true ∧ t.rst.started = true ∧ t.rst.STRAP_ERR = strapErr x ∧ t.rst.CAUSE_CAUSE = 2 ∧
      t.seq.base = .safe ∧ t.now = 0 ∧
      (∀ d : Fin 50, x.bootDom.toNat.testBit d.val = true → t.dom.dom[d].ST_ST = 3) ∧
      (∀ d : Fin 50, x.bootDom.toNat.testBit d.val = false → t.dom.dom[d] = State.reset.dom.dom[d]) ∧
      (∀ c : Fin 25, t.clk.dom[c].ST_FSTEP = x.fboot.toNat) ∧ (∀ r : Fin 16, t.vrg.rail[r].SET = (vAt x.vboot r.val 0).toNat) ∧
      t.stg = State.reset.stg ∧ t.free = s.free ∧ t.pending = s.pending))

/-- R453, R454, R455. RST_N_ASSERT outside an episode opens a warm one: the ports stop, the instance is in SAFE, the driver's
registers take their Warm values, the admission buffers are empty; straps, fuses, staging's bytes, page locks and the
recorder's slots are held. R455, R457, R458. RST_N_RELEASE: while por_n is low nothing begins; in a cold episode the cold exit
begins; in a warm one the ports are live again and RST_CAUSE and RST_CNT record a warm reset. -/
def Obligations.WarmResetRuns : Prop :=
  (∀ s : State, s.rst.pin = false → s.rst.epOpen = false →
    ∃ t, exec .rstNAssert s = .next t ∧ t.rst.pin = true ∧ t.rst.epOpen = true ∧ t.rst.epCold = false ∧ t.rst.live = false ∧
      t.seq.base = .safe ∧ t.seq.ACT_TIMEOUT = 1000 ∧ t.seq.HOST_CAP = 0 ∧ t.seq.STATE_ACT_PEND = false ∧ t.tly.EPOCH_NUM = 0 ∧
      t.adm.inQ = [] ∧ t.adm.outQ = [] ∧ t.adm.SHARE = 0 ∧ t.frm.FORM_STATE = 0 ∧ t.hst = {} ∧
      (∀ p : Fin 23, t.hdr[p].errMask = 0 ∧ t.hdr[p].evtEn = 0) ∧
      t.cmn.straps = s.cmn.straps ∧ t.cmn.fuses = s.cmn.fuses ∧ t.stg.mem = s.stg.mem ∧ t.now = s.now ∧ t.free = s.free) ∧
  (∀ s : State, s.rst.pin = true →
    (s.rst.por = true → exec .rstNRelease s = .next { s with rst := { s.rst with pin := false, pinLast := false } }) ∧
    (s.rst.por = false → s.rst.epCold = true → ∃ t, exec .rstNRelease s = .next t ∧ t.rst.pin = false ∧ t.rst.live = true ∧
      t.rst.started = true ∧ t.rst.CAUSE_CAUSE = 2 ∧ t.rst.STRAP_ERR = strapErr s.cmn.straps ∧ t.cmn = s.cmn ∧ t.seq.base = .safe) ∧
    (s.rst.por = false → s.rst.epCold = false → ∃ t, exec .rstNRelease s = .next t ∧ t.rst.pin = false ∧ t.rst.live = true ∧
      t.rst.epOpen = false ∧ t.rst.CAUSE_CAUSE = 1 ∧ t.rst.CNT_WARM = satAdd 16 s.rst.CNT_WARM 1 ∧ t.rst.CAUSE_PIN_LAST = true ∧
      t = { s with seq := t.seq, dom := t.dom, tly := { s.tly with bndAt := s.now }, mbs := t.mbs, mbn := t.mbn, rck := t.rck,
                   rst := t.rst, evt := t.evt, hdr := t.hdr }))

/-- R459, R457. The end of the start-up self-test closes the cold episode: what was found is counted in RST_SELFTEST, a tally row
without a spare is lost. R460, R461. The end of a block-local reset, where the sub-block is idle or its timeout has passed:
the page's masks are 0 and its reset bits clear, RST_CNT.LOCAL counts it, and a timeout is counted and flagged; no other
block's page is touched. R89. aon_vio low for 10 µs sets VIO_LOST and records 0x1312; 1 ms or more later the links resume. -/
def Obligations.EpisodesClose : Prop :=
  (∀ (s : State) (o : SelfTestObs), s.rst.exiting = true → s.rst.epCold = true →
    ∃ t, exec (.startupSelftestComplete o) s = .next t ∧ t.rst.SELFTEST_DONE = true ∧ t.rst.SELFTEST_ROWS = sat 8 o.rows ∧
      t.rst.SELFTEST_LANES = o.lanesBad.length ∧ t.rst.SELFTEST_MACROS = o.detsBad.length + o.sensorsBad.length ∧
      t.rst.SELFTEST_FAIL = !o.beyond.isEmpty ∧ t.rst.exiting = false ∧ t.rst.epOpen = false ∧ t.rst.CAUSE_CAUSE = 2 ∧
      (∀ i ∈ o.rowsLost, t.tly.lost.contains i.toNat = true) ∧
      t = { s with seq := t.seq, tly := t.tly, beam := t.beam, ctl := t.ctl, fcs := t.fcs, sns := t.sns, mbs := t.mbs, mbn := t.mbn,
                   rck := t.rck, rst := t.rst, rel := t.rel, evt := t.evt, hdr := t.hdr }) ∧
  (∀ (s : State) (p : Fin 8) (idle : Bool), s.hdr[lrstPage p.val].lrstAct = true →
    (idle = true ∨ s.hdr[lrstPage p.val].lrstAt + s.rst.page[p].LRST_TO_TIMEOUT * 4 ≤ s.now) →
    ∃ t, exec (.lrstComplete p idle) s = .next t ∧ t.hdr[lrstPage p.val].lrstAct = false ∧ t.hdr[lrstPage p.val].lrstReq = false ∧
      t.hdr[lrstPage p.val].errMask = 0 ∧ t.rst.CNT_LOCAL = satAdd 16 s.rst.CNT_LOCAL 1 ∧
      (idle = true → t.rst.page = s.rst.page) ∧
      (idle = false → t.hdr[pgRst].err.testBit 19 = true ∧
        t.rst.page[p].LRST_TO_FORCED = satAdd 16 s.rst.page[p].LRST_TO_FORCED 1) ∧
      t = { s with fcs := if p = 0 then t.fcs else s.fcs, pmb := if p = 1 then t.pmb else s.pmb, frm := if p = 2 then t.frm else s.frm,
                   tre := if p = 3 then t.tre else s.tre, mbs := if p = 4 then t.mbs else s.mbs, mbn := if p = 5 then t.mbn else s.mbn,
                   rck := if p = 6 then t.rck else s.rck, trc := if p = 0 ∨ p = 7 then t.trc else s.trc, rst := t.rst, evt := t.evt,
                   hdr := t.hdr }) ∧
  (∀ s : State,
    (s.rst.vioLow = false → s.rst.started = true →
      ∃ t, exec .vioLow s = .next t ∧ t.rst = { s.rst with vioLow := true, vioAt := s.now } ∧ t.hdr[pgRst].err.testBit 17 = true ∧
        t = { s with rst := t.rst, evt := t.evt, hdr := t.hdr }) ∧
    (s.rst.vioLow = true → s.rst.vioAt + 4000 ≤ s.now →
      ∃ t, exec .vioRestore s = .next t ∧ t.rst = { s.rst with vioLow := false } ∧ t = { s with rst := t.rst, evt := t.evt, hdr := t.hdr }))

/-- R423. The outbound queue of each mailbox never holds more than eight words, whatever command runs. -/
def Obligations.OutboundQueueBounded : Prop :=
  ∀ s t : State, (s.mbs.outQ.length ≤ 8 ∧ s.mbn.outQ.length ≤ 8) → step s = .next t →
    t.mbs.outQ.length ≤ 8 ∧ t.mbn.outQ.length ≤ 8

/-- R94, R107, R113, R460. The masks, the parity record and the block-local reset's bits of every page header change by no command but
a register write of the header, a page's parity fault, a block-local reset and the reset pins. -/
def Obligations.HeadersChangeOnlyBy : Prop :=
  ∀ (c : Instr) (s t : State),
    (∀ a d x, c ≠ .registerWrite a d x) → (∀ a b, c ≠ .intPar a b) → (∀ p x, c ≠ .lrstReq p x) → (∀ p b, c ≠ .lrstComplete p b) →
    c ≠ .porAssert → (∀ x f, c ≠ .porRelease x f) → c ≠ .rstNAssert → c ≠ .rstNRelease →
    exec c s = .next t → hdrCore t.hdr = hdrCore s.hdr

/-- R506, R508, R509, R512. The oldest event of the queue is written: where the recorder is not frozen, to the first usable slot
from WR, whose next usable slot becomes WR; frozen, an always-recorded one to its place in the reserve ring and an ordinary
one nowhere. No other slot changes. R515, R518. When a millisecond's suppressions are summed up, none waits any longer and
what lies beyond the first eight codes goes to EVT_SUPP. The end of an erase leaves no slot marked, every count 0 and the
recorder unfrozen. R523, R524, R525. A rail summary that is due begins a new period, and enters the stream whole as five
chunks where the buffer has room for it, or is dropped and counted. -/
def Obligations.RecorderAndStreamRun : Prop :=
  (∀ (s : State) (e : EvtEntry) (q : List EvtEntry), s.evt.queue = e :: q → s.evt.STAT_ERASING = false →
    memWf 0 s.evt.slots = true →
    (s.evt.STAT_FROZEN = false →
      let k := usableFrom s (2 * s.evt.outRows.length) s.evt.STAT_WR
      ∃ t, exec .eventRecordWrite s = .next t ∧ memRead 0 t.evt.slots k = recordWord e.body s.evt.num ∧
        (∀ j, j ≠ k → memRead 0 t.evt.slots j = memRead 0 s.evt.slots j) ∧ t.evt.STAT_WR = nextSlot s k ∧
        t.evt.num = (s.evt.num + 1) % 65536 ∧ t.evt.COUNT = satAdd 32 s.evt.COUNT 1 ∧
        t = { s with evt := t.evt, trc := t.trc, hdr := t.hdr }) ∧
    (s.evt.STAT_FROZEN = true → e.alw = true →
      let k := resSlot s s.evt.CAP_RES_NEXT s.evt.FRZ_FRZ_SLOT
      ∃ t, exec .eventRecordWrite s = .next t ∧ memRead 0 t.evt.slots k = recordWord e.body s.evt.num ∧
        (∀ j, j ≠ k → memRead 0 t.evt.slots j = memRead 0 s.evt.slots j) ∧ t.evt.STAT_WR = s.evt.STAT_WR ∧
        t.evt.CAP_RES_NEXT = (s.evt.CAP_RES_NEXT + 1) % 64 ∧ t = { s with evt := t.evt, trc := t.trc, hdr := t.hdr }) ∧
    (s.evt.STAT_FROZEN = true → e.alw = false →
      ∃ t, exec .eventRecordWrite s = .next t ∧ t.evt.slots = s.evt.slots ∧ t.evt.num = s.evt.num ∧ t.evt.COUNT = s.evt.COUNT ∧
        t = { s with evt := t.evt, trc := t.trc, hdr := t.hdr })) ∧
  (∀ s : State,
    (∃ t, exec .suppressionSummary s = .next t ∧ t.evt.suppDone = [] ∧
      t.evt.SUPP = satAdd 32 s.evt.SUPP (((s.evt.suppDone.drop 8).map (·.2)).foldl (· + ·) 0) ∧ t.evt.slots = s.evt.slots ∧
      (s.evt.suppDone.length + s.evt.queue.length ≤ 24 →
        t.evt.queue.length = s.evt.queue.length + min 8 s.evt.suppDone.length) ∧
      t = { s with evt := t.evt, hdr := t.hdr }) ∧
    (s.evt.STAT_ERASING = true →
      ∃ t, exec .eraseComplete s = .next t ∧ t.evt.STAT_ERASING = false ∧ t.hdr[pgEvt].busy = false ∧ t.evt.STAT_FROZEN = false ∧
        t.evt.COUNT = 0 ∧ t.evt.SUPP = 0 ∧ t.evt.num = 0 ∧ t.evt.slots = clearMarks s.evt.slots ∧
        (∀ c ∈ t.evt.slots, c.2 < 2 ^ 248) ∧ t = { s with evt := t.evt, hdr := t.hdr })) ∧
  (∀ s : State, s.trc.CFG_RAIL_EN = true → s.trc.railAt + max 16 s.trc.CFG_RAIL_PER * 4 ≤ s.now →
    ∃ t, exec .railSummary s = .next t ∧ t.trc.railAt = s.now ∧ t.trc.sums = Vector.replicate 16 {} ∧
      (trcChunks s + 5 ≤ 1024 →
        (∃ r : TrcRec, r.typ = 0xE1 ∧ r.chunks.length = 5 ∧ t.trc.recs = s.trc.recs ++ [r]) ∧
        t.trc.seqE1 = (s.trc.seqE1 + 1) % 65536 ∧ t.trc.DROP0_E1 = s.trc.DROP0_E1) ∧
      (1024 < trcChunks s + 5 →
        t.trc.recs = s.trc.recs ∧ t.trc.DROP0_E1 = satAdd 16 s.trc.DROP0_E1 1 ∧ t.hdr[pgTrc].err.testBit 16 = true) ∧
      t = { s with evt := t.evt, trc := t.trc, hdr := t.hdr })

/-- R478, R484. A read of the scrubber that is due moves the pass on by one row; a clean read does nothing else, a replayed one
counts in REL_REPLAY, and a word of a memory row that failed its attempts counts in REL_SCRUB_CNT. The last read of a pass
ends it. R479, R492. A lane whose self-test tile fails is due to retire at the next tick, once; a tile that passes, or a lane
already retired or due, changes nothing. R493, R494. The end of a spare command: GO falls, DONE rises, and ST says 3 where the
command did not apply, 2 where the item faulted meanwhile or failed its test, 1 with no free spare and 0 where the item was
substituted or restored. R246. A lane whose third attempt fails is due to retire at the next tick, once; one already retired
or due is left. -/
def Obligations.RepairsRun : Prop :=
  (∀ s : State, s.rst.started = true → s.rel.scrubT + s.rel.scrubAt ≤ s.now →
    (s.rel.scrubAt + 1 < scrubLen →
      exec (.scrubRead .clean) s = .next { s with rel := { s.rel with scrubAt := s.rel.scrubAt + 1 } } ∧
      exec (.scrubRead .replayed) s = .next
        { s with rel := { s.rel with scrubAt := s.rel.scrubAt + 1, REPLAY_REPLAYED := satAdd 16 s.rel.REPLAY_REPLAYED 1 } }) ∧
    (scrubLen ≤ s.rel.scrubAt + 1 →
      exec (.scrubRead .clean) s = .next
        { s with rel := { s.rel with scrubAt := 0, scrubT := s.now + 1, SCRUB_PASSES := satAdd 16 s.rel.SCRUB_PASSES 1,
                                     SCRUB_LAST := sat 16 ((s.now + 1 - s.rel.scrubT) / 40) } }) ∧
    ∀ (w : BitVec 4) (again : Bool), (scrubPlace 6 0 s.rel.scrubAt).1 < 6 →
      rowServed s (scrubPlace 6 0 s.rel.scrubAt).1 (scrubPlace 6 0 s.rel.scrubAt).2 ≠ none →
      ∃ t, exec (.scrubRead (.bad w again)) s = .next t ∧ t.rel.SCRUB_CNT_FOUND = satAdd 16 s.rel.SCRUB_CNT_FOUND 1 ∧
        t.tly = s.tly ∧ t.beam = s.beam ∧ t.cmn = s.cmn ∧ t.now = s.now ∧ t.pending = s.pending) ∧
  (∀ (s : State) (lane : Fin 18),
    exec (.arraySelfTestTile lane true) s = .next s ∧
    (s.rst.started = true → s.ctl.MU_LANES.testBit lane.val = false → s.ctl.retireDue.contains lane.val = false →
      exec (.arraySelfTestTile lane false) s = .next { s with ctl := { s.ctl with retireDue := s.ctl.retireDue ++ [lane.val] } }) ∧
    ((s.rst.started = false ∨ s.ctl.MU_LANES.testBit lane.val = true ∨ s.ctl.retireDue.contains lane.val = true) →
      exec (.arraySelfTestTile lane false) s = .next s)) ∧
  (∀ (s : State) (c : RelCmd) (pass : Bool), s.rel.cmd = some c →
    ∃ t, exec (.spareCmdComplete pass) s = .next t ∧ t.rel.cmd = none ∧ t.rel.SPARE_CMD_GO = false ∧ t.rel.SPARE_STAT_DONE = true ∧
      t.rel.SPARE_STAT_KIND = c.kind ∧ t.rel.SPARE_STAT_INDEX = c.index ∧
      (c.fits = false → t.rel.SPARE_STAT_ST = 3) ∧
      (c.fits = true → relFits s c.kind c.op c.index = false → t.rel.SPARE_STAT_ST = 2) ∧
      (c.fits = true → relFits s c.kind c.op c.index = true → c.op = 1 → relSpareFree s c.kind c.index = false →
        t.rel.SPARE_STAT_ST = 1) ∧
      (c.fits = true → relFits s c.kind c.op c.index = true → c.op = 1 → relSpareFree s c.kind c.index = true →
        t.rel.SPARE_STAT_ST = 0) ∧
      (c.fits = true → relFits s c.kind c.op c.index = true → c.op ≠ 1 → c.kind < 5 → pass = false → t.rel.SPARE_STAT_ST = 2) ∧
      (c.fits = true → relFits s c.kind c.op c.index = true → c.op ≠ 1 → (pass = true ∨ 5 ≤ c.kind) → t.rel.SPARE_STAT_ST = 0) ∧
      (t.rel.SPARE_STAT_ST ≠ 0 → t = { s with rel := t.rel, evt := t.evt, hdr := t.hdr }) ∧
      t = { s with seq := t.seq, beam := t.beam, ctl := t.ctl, fcs := t.fcs, thm := t.thm, sns := t.sns, vrg := t.vrg, mbs := t.mbs,
                   mbn := t.mbn, rck := t.rck, rel := t.rel, evt := t.evt, hdr := t.hdr }) ∧
  (∀ (s : State) (lane : Fin 18),
    (s.ctl.MU_LANES.testBit lane.val = false → lane.val ∉ s.ctl.retireDue →
      exec (.laneRetire lane) s = .next { s with ctl := { s.ctl with retireDue := s.ctl.retireDue ++ [lane.val] } }) ∧
    (s.ctl.MU_LANES.testBit lane.val = true ∨ lane.val ∈ s.ctl.retireDue → exec (.laneRetire lane) s = .next s))

/-- R467, R468. The end of a commit. A failed check: its code in SEQ_CMD_ST and the refusal counted, no image committed, a load
that was open in LOADING ends in SAFE and a live load ends. No failed check: the image is committed, and every page is locked.
R470. An activation that is still pending SEQ_ACT_TIMEOUT milliseconds after it was asked for is refused with 0x41: nothing
pends, the commit mark clears, and the load is abandoned in the way the state allows. -/
def Obligations.CommitsAndActivationsEnd : Prop :=
  (∀ (s : State) (us : Nat), s.hdr[pgSeq].busy = true → loadOpen s = true →
    let u := { s with seq := { s.seq with COMMIT_T := sat 16 us } }.setBusy pgSeq false
    (∀ st, commitCheck u = some st →
      ∃ t, exec (.commitEnd us) s = .next t ∧ t.seq.CMD_ST_OP = 2 ∧ t.seq.CMD_ST_ST = st ∧ t.seq.STATE_COMMITTED = false ∧
        t.seq.STATE_ACT_PEND = false ∧ t.seq.COMMIT_T = sat 16 us ∧ t.seq.CNT_REFUSED = satAdd 16 s.seq.CNT_REFUSED 1 ∧
        (s.seq.base = .loading → t.seq.base = .safe) ∧ (s.seq.base ≠ .loading → t.seq.base = s.seq.base ∧ t.seq.STATE_LIVE_LOAD = false) ∧
        t.stg = { s.stg with img := none } ∧
        t = { s with seq := t.seq, mbs := t.mbs, mbn := t.mbn, rck := t.rck, evt := t.evt, hdr := t.hdr, stg := t.stg }) ∧
    (commitCheck u = none →
      ∃ t, exec (.commitEnd us) s = .next t ∧ t.seq.CMD_ST_OP = 2 ∧ t.seq.CMD_ST_ST = 0 ∧ t.seq.STATE_COMMITTED = true ∧
        t.seq.base = s.seq.base ∧ t.ctl.BANK_PENDING = true ∧ (∀ p : Fin 23, t.hdr[p].lock = true ∧ t.hdr[p].lockSrc = true) ∧
        t.stg.img.isSome = true ∧ t.stg.mem = s.stg.mem ∧
        t = { s with seq := t.seq, ctl := t.ctl, evt := t.evt, hdr := t.hdr, stg := t.stg })) ∧
  (∀ s : State, s.seq.STATE_ACT_PEND = true → s.seq.actAt + s.seq.ACT_TIMEOUT * 4000 ≤ s.now →
    ∃ t, exec .activationTimeout s = .next t ∧ t.seq.STATE_ACT_PEND = false ∧ t.seq.STATE_COMMITTED = false ∧ t.seq.ACT_ST_ST = 0x41 ∧
      t.seq.CNT_REFUSED = satAdd 16 s.seq.CNT_REFUSED 1 ∧ t.stg = { s.stg with img := none } ∧
      (s.seq.base ≠ .loading → t.seq.base = s.seq.base ∧ t.seq.STATE_LIVE_LOAD = false) ∧
      (s.seq.base = .loading → s.seq.tripped = false → s.beam.inEmg = false → t.seq.base = .safe) ∧
      (s.seq.base = .loading → s.seq.tripped = false → s.beam.inEmg = true → t.seq.base = .loading ∧ t.seq.abandon = true) ∧
      t = { s with seq := t.seq, mbs := t.mbs, mbn := t.mbn, rck := t.rck, evt := t.evt, hdr := t.hdr, stg := t.stg })

/-- R202, R203, R204, R185. A comparator that trips is counted and, where the OR of its rail's detectors rises with it, a stretch
is counted on the rail; one that releases ends the OR with the last. Droop persistence puts the rail at its beam floor and
ends after 64 µs without a stretch, as does the stretch hold, after which harvesting begins again where every condition holds.
R491, R205. A spare droop detector whose read-back passes serves the primary that asked for it, and one whose read-back fails
is marked failed and serves none; either way one free spare fewer is left. -/
def Obligations.DetectorsRun : Prop :=
  (∀ s : State,
    (∀ (d : Fin 72) (r : Fin 16), (detPrimary s d.val).map detRail = some r.val → (detOf s d.val).out = false →
      ∃ t, exec (.droopDetect d) s = .next t ∧
        t.beam.det = s.beam.det.set d { s.beam.det[d] with out := true, DDCNT := satAdd 32 s.beam.det[d].DDCNT 1 } ∧
        (railOr s r.val = false → railOr t r.val = true →
          t.tly.rail[r] = { s.tly.rail[r] with HARV_STRETCHES := satAdd 8 s.tly.rail[r].HARV_STRETCHES 1, holdOn := true } ∧
          t.beam.rail[r].orAt = some s.now ∧ stretches16 t r.val = stretches16 s r.val + 1) ∧
        (railOr s r.val = railOr t r.val → t.tly = s.tly ∧ t.beam.rail = s.beam.rail) ∧
        (∀ q : Fin 16, q ≠ r → t.tly.rail[q] = s.tly.rail[q] ∧ t.beam.rail[q] = s.beam.rail[q]) ∧
        t = { s with beam := t.beam, tly := t.tly, ctl := { s.ctl with strSeen := t.ctl.strSeen } }) ∧
    (∀ (d : Fin 72) (r : Fin 16), (detPrimary s d.val).map detRail = some r.val → (detOf s d.val).out = true →
      ∃ t, exec (.droopRelease d) s = .next t ∧ t.beam.det = s.beam.det.set d { s.beam.det[d] with out := false, stuck := 0 } ∧
        (railOr s r.val = true → railOr t r.val = false → t.beam.rail[r].lastHigh = some s.now ∧ t.beam.rail[r].orAt = none) ∧
        (∀ q : Fin 16, q ≠ r → t.beam.rail[q] = s.beam.rail[q]) ∧ t = { s with beam := t.beam }) ∧
    (∀ r : Fin 16, s.beam.rail[r].persist = false → railAbsent s r.val = false →
      ((∃ t0, s.beam.rail[r].orAt = some t0 ∧ railOr s r.val = true ∧ t0 + 4 ≤ s.now) ∨ 32 ≤ stretches16 s r.val) →
      ∃ t, exec (.droopPersistence r) s = .next t ∧ t.beam.rail[r].persist = true ∧ respOn t r.val 0 = true ∧ railRc t r.val = 0 ∧
        railFloor t r.val = true ∧ t.beam.det = s.beam.det ∧
        t = { s with seq := t.seq, beam := t.beam, ctl := t.ctl, mbs := t.mbs, mbn := t.mbn, rck := t.rck, rel := t.rel,
                     evt := t.evt, hdr := t.hdr }) ∧
    (∀ r : Fin 16, railOr s r.val = false → (∀ t0, s.beam.rail[r].lastHigh = some t0 → t0 + 256 ≤ s.now) →
      (s.beam.rail[r].persist = true →
        exec (.droopPersistenceEnd r) s =
          .next { s with beam := { s.beam with rail := s.beam.rail.set r { s.beam.rail[r] with persist := false } } }) ∧
      (s.tly.rail[r].holdOn = true →
        ∃ t, exec (.stretchHoldEnd r) s = .next t ∧
          t.tly.rail[r] = { s.tly.rail[r] with holdOn := false, HARV_HARV := t.tly.rail[r].HARV_HARV } ∧
          (s.tly.EPOCH_DRAIN = true → t.tly.rail[r].HARV_HARV = s.tly.rail[r].HARV_HARV) ∧
          (s.tly.EPOCH_DRAIN = false → t.tly.rail[r].HARV_HARV =
            harvestOk { s with tly := { s.tly with rail := s.tly.rail.set r { s.tly.rail[r] with holdOn := false } } } r.val) ∧
          (∀ q : Fin 16, q ≠ r → t.tly.rail[q] = s.tly.rail[q]) ∧ t = { s with tly := { s.tly with rail := t.tly.rail } }))) ∧
  (∀ (s : State) (j : Fin 8) (p : Fin 64), (detOf s (64 + j.val)).want = p.val →
    (∃ t, exec (.detectorSpareJoin j true) s = .next t ∧
      detOf t (64 + j.val) = { detOf s (64 + j.val) with DD_SERVES := p.val, DD_SUBST := true, want := 127 } ∧
      detOf t p.val = { detOf s p.val with DD_SUBST := true } ∧ t.rel.SPARE_USE_DD_FREE = s.rel.SPARE_USE_DD_FREE - 1 ∧
      (∀ d : Fin 72, d.val ≠ p.val → d.val ≠ 64 + j.val → t.beam.det[d] = s.beam.det[d]) ∧
      t = { s with seq := t.seq, beam := t.beam, ctl := t.ctl, mbs := t.mbs, mbn := t.mbn, rck := t.rck, rel := t.rel,
                   evt := t.evt, hdr := t.hdr }) ∧
    ((detOf s (64 + j.val)).DD_FAILED = false →
      ∃ t, exec (.detectorSpareJoin j false) s = .next t ∧ (detOf t (64 + j.val)).DD_FAILED = true ∧
        (detOf t (64 + j.val)).DD_SERVES = 127 ∧ (detOf t (64 + j.val)).DD_SUBST = false ∧
        t.hdr[pgBeam].err.testBit 19 = true ∧ t.rel.SPARE_USE_DD_FREE = s.rel.SPARE_USE_DD_FREE - 1 ∧
        t = { s with seq := t.seq, beam := t.beam, ctl := t.ctl, mbs := t.mbs, mbn := t.mbn, rck := t.rck, rel := t.rel,
                     evt := t.evt, hdr := t.hdr }))

/-- R213, R214, R215, R45. EMERGENCY: the entry puts every domain's beam ceiling at 0, shows the state and counts it; the exit comes 100 µs after
the last cause and leaves the term at 0, from where it rises by one level every 4 µs; an overload still present 1 ms after the entry
trips the die with cause 5. -/
def Obligations.EmergencyRuns : Prop :=
  ∀ s : State,
    (∀ k src, s.beam.inEmg = false → s.seq.tripped = false → emgDue s = some (k, src) →
      ∃ t, exec .emergencyEntry s = .next t ∧ t.beam.inEmg = true ∧ t.beam.emgAt = s.now ∧ t.seq.shown = stEmergency ∧
        (∀ c : Fin 25, bc t c.val = 0) ∧ t.beam.CAUSE_EMG_CAUSE = k ∧ t.beam.CAUSE_EMG_SRC = src ∧
        t.beam.EMG_CNT_EMERGENCIES = satAdd 16 s.beam.EMG_CNT_EMERGENCIES 1 ∧ t.seq.base = s.seq.base ∧
        t = { s with seq := t.seq, beam := t.beam, ctl := t.ctl, mbs := t.mbs, mbn := t.mbn, rck := t.rck, rel := t.rel,
                     evt := t.evt, hdr := t.hdr }) ∧
    (∀ g, s.beam.inEmg = true → s.beam.emgGone = some g → g + 400 ≤ s.now →
      ∃ t, exec .emergencyExit s = .next t ∧ t.beam.inEmg = false ∧ t.beam.emgTerm = 0 ∧
        (s.seq.abandon = false → t.seq = { s.seq with shown := t.seq.shown }) ∧
        (s.seq.abandon = true → t.seq.base = .safe ∧ t.seq.abandon = false) ∧
        t = { s with seq := t.seq, beam := t.beam, ctl := t.ctl, mbs := t.mbs, mbn := t.mbn, rck := t.rck, rel := t.rel,
                     evt := t.evt, hdr := t.hdr }) ∧
    (s.beam.inEmg = false → s.beam.emgTerm < 15 → emgCausePresent s = false → s.beam.emgStep + 16 ≤ s.now →
      ∃ t, exec .emergencyRampStep s = .next t ∧ t.beam.emgTerm = s.beam.emgTerm + 1 ∧ t.beam.emgStep = s.now ∧
        t.beam.inEmg = false ∧ t = { s with beam := t.beam, ctl := t.ctl, rel := t.rel, evt := t.evt, hdr := t.hdr }) ∧
    (s.beam.inEmg = true → s.beam.emgAt + 4000 ≤ s.now → overloadPresent s = true → s.seq.tripped = false →
      ∃ t, exec .persistentOverload s = .next t ∧ t.seq.tripped = true ∧ t.beam.STATE_TRIP_LATCH = true ∧
        t.seq.shown = stTripped ∧ (∀ c : Fin 25, bc t c.val = 0) ∧ t.beam.CAUSE_TRIP_CAUSE = 5 ∧
        t.beam.EMG_CNT_TRIPS = satAdd 16 s.beam.EMG_CNT_TRIPS 1 ∧ t.seq.STATE_LIVE_LOAD = false ∧ t.thm.STATE_PHASE = 2 ∧
        t = { s with seq := t.seq, tly := t.tly, adm := t.adm, beam := t.beam, ctl := t.ctl, fcs := t.fcs, thm := t.thm, dom := t.dom,
                     vrg := t.vrg, frm := t.frm, mbs := t.mbs, mbn := t.mbn, rck := t.rck, rel := t.rel, evt := t.evt,
                     hdr := t.hdr, stg := t.stg })

/-- R217, R218, R219. A brown-out: the warning sets BO, counts it and puts the brown-out term at BO_THR, also when it comes during
the hold or the ramp; the recovery begins the hold with the dip's duration in LAST_US, the hold ends after 100 µs, and sixteen
steps 62.5 µs apart complete the ramp. R220, R205, R222. The end of a beam self-test: START falls, DONE rises, PASS and
FAIL_IDX say how it went; a failed one sets TEST_FAIL, and a failure of kind 1 marks its detector failed. -/
def Obligations.BeamEventsRun : Prop :=
  (∀ s : State,
    (s.rst.started = true → s.beam.STATE_BO = false →
      ∃ t, exec .brownOutWarning s = .next t ∧ t.beam.STATE_BO = true ∧ t.beam.STATE_BO_RAMP = false ∧ t.beam.STATE_BO_STEP = 0 ∧
        t.beam.BO_BO_CNT = satAdd 16 s.beam.BO_BO_CNT 1 ∧
        (s.beam.STATE_BUILTIN = false → boTerm t = min 15 s.cmn.fuses.boThr.toNat ∧
          (∀ v, boScale t v = v * (16 * s.cmn.fuses.boFrac.toNat) / 256)) ∧
        (∀ r : Fin 16, t.beam.rail[r].iAdm ≤ iEff t r.val) ∧ t.beam.inEmg = s.beam.inEmg ∧
        t = { s with beam := t.beam, ctl := t.ctl, rel := t.rel, evt := t.evt, hdr := t.hdr }) ∧
    (∀ dip, s.beam.STATE_BO = true →
      ∃ t, exec (.brownOutRecovery dip) s = .next t ∧
        t.beam = { s.beam with STATE_BO := false, STATE_BO_RAMP := true, STATE_BO_STEP := 0, boHold := true, boAt := s.now,
                               BO_LAST_US := min dip 65535 } ∧
        t = { s with beam := t.beam, evt := t.evt, hdr := t.hdr }) ∧
    (s.beam.STATE_BO_RAMP = true → s.beam.boHold = true → s.beam.boAt + 400 ≤ s.now →
      exec .brownOutHoldEnd s = .next { s with beam := { s.beam with boHold := false, boAt := s.now } }) ∧
    (s.beam.STATE_BO_RAMP = true → s.beam.boHold = false → s.beam.boAt + 250 * (s.beam.STATE_BO_STEP + 1) ≤ s.now →
      ∃ t, exec .brownOutRampStep s = .next t ∧
        (s.beam.STATE_BO_STEP < 15 → t.beam.STATE_BO_RAMP = true ∧ t.beam.STATE_BO_STEP = s.beam.STATE_BO_STEP + 1) ∧
        (15 ≤ s.beam.STATE_BO_STEP → t.beam.STATE_BO_RAMP = false ∧ (s.beam.STATE_BO = false → boTerm t = 15 ∧ ∀ v, boScale t v = v)) ∧
        t = { s with beam := t.beam, ctl := t.ctl, rel := t.rel, evt := t.evt, hdr := t.hdr })) ∧
  (∀ (s : State) (k target : Nat), s.beam.test = some (k, target) →
    (∃ t, exec (.beamTestComplete none) s = .next t ∧
      t.beam = { s.beam with test := none, TEST_CTRL_START := false, TEST_STAT_DONE := true, TEST_STAT_PASS := true, TEST_STAT_FAIL_IDX := 0 } ∧
      t.hdr[pgBeam].busy = false ∧ t = { s with beam := t.beam, evt := t.evt, hdr := t.hdr }) ∧
    (∀ (fk : BitVec 4) (i : BitVec 8),
      ∃ t, exec (.beamTestComplete (some (fk, i))) s = .next t ∧ t.beam.test = none ∧ t.beam.TEST_CTRL_START = false ∧
        t.beam.TEST_STAT_DONE = true ∧ t.beam.TEST_STAT_PASS = false ∧ t.beam.TEST_STAT_FAIL_IDX = i.toNat ∧
        t.hdr[pgBeam].busy = false ∧ t.hdr[pgBeam].err.testBit 21 = true ∧
        (fk = 1 → ∀ d : Fin 72, d.val = i.toNat → t.beam.det[d].DD_FAILED = true) ∧
        (fk ≠ 1 → t.beam.det = s.beam.det ∧ t = { s with beam := t.beam, evt := t.evt, hdr := t.hdr }) ∧
        t = { s with seq := t.seq, beam := t.beam, ctl := t.ctl, mbs := t.mbs, mbn := t.mbn, rck := t.rck, rel := t.rel,
                     evt := t.evt, hdr := t.hdr }))

/-- R261, R262, R264, R268, R273. An evaluation of the forecaster closes the frame, quantises it and runs the layers on it; a
weight word that fails twice abandons it and forces zero, and the frame of an evaluation that is still in progress, or that
has not reached its latch by the deadline, is counted as a miss. R266, R267, R268, R270. The latch of an evaluation on time
decodes the four outputs of each rail (the guard-band raise in no case below 0), counts the evaluation and takes one off the
warm-up and off the run that ends a miss; a latch after 950 ns is none. R272, R273, R249. The weight copy ends with the CRC of
what it copied: a match clears the histories and starts the warm-up, a mismatch sets LOAD_CRC and keeps cause WEIGHT. A
restore brings the four bytes of a weight word, or one coefficient of the active bank, back from staging. -/
def Obligations.ForecasterRuns : Prop :=
  (∀ s : State,
    (fcsRuns s = true → (s.now - s.tly.bndAt) % 4 = 0 → s.fcs.lastAt < s.now →
      let q := (List.range 16).flatMap fun r => (railFeatures s r (s.now - s.fcs.lastAt)).zipIdx.map fun p => quantise p.1 (featShift s p.2)
      (s.fcs.frame = none →
        (∃ t, exec (.forecasterEvaluation { weightBad := none }) s = .next t ∧
          (∃ f, t.fcs.frame = some f ∧ f.at_ = s.now ∧ f.q = q ∧ f.out = (s.runLayers q).1 ∧ f.epoch = s.tly.EPOCH_NUM) ∧
          t.fcs.lastAt = s.now ∧ t.fcs.heldF = 0 ∧ t.fcs.strF = 0 ∧ t.fcs.drainF = false ∧
          (∀ r : Fin 16, t.fcs.rail[r].accI = 0 ∧ t.fcs.rail[r].accZ = 0 ∧ t.fcs.rail[r].accT = 0 ∧ t.fcs.rail[r].nShort = 0 ∧
            t.fcs.rail[r].nLong = 0 ∧ t.fcs.rail[r].nGone = 0) ∧
          t = { s with fcs := t.fcs, evt := t.evt, hdr := t.hdr }) ∧
        (∀ off, ∃ t, exec (.forecasterEvaluation { weightBad := some off }) s = .next t ∧ t.fcs.frame = none ∧
          t.fcs.badAt = some (off / 4 * 4) ∧ t.fcs.MISS_CNT_WFAULT = satAdd 16 s.fcs.MISS_CNT_WFAULT 1 ∧
          (t.fcs.WLOAD_RESTORE = true ∨ t.fcs.wStuck = true) ∧ t.fcs.STAT_FZ = true ∧ t.fcs.STAT_WARM_LEFT = s.fcs.MODEL_RF ∧
          t.fcs.wmem = s.fcs.wmem ∧
          t = { s with seq := t.seq, fcs := t.fcs, thm := t.thm, mbs := t.mbs, mbn := t.mbn, rck := t.rck, rel := t.rel, evt := t.evt,
                       trc := t.trc, hdr := t.hdr })) ∧
      (s.fcs.frame ≠ none →
        ∃ t, exec (.forecasterEvaluation { weightBad := none }) s = .next t ∧ t.fcs.MISS_CNT_MISS = satAdd 16 s.fcs.MISS_CNT_MISS 1 ∧
          t.fcs.missLeft = 16 ∧ (∃ f, t.fcs.frame = some f ∧ f.at_ = s.now) ∧ t.hdr[pgFcs].err.testBit 19 = true ∧
          t = { s with fcs := t.fcs, evt := t.evt, trc := t.trc, hdr := t.hdr })) ∧
    (∀ f, s.fcs.frame = some f → f.at_ + 3 ≤ s.now →
      ∃ t, exec .deadlineMiss s = .next t ∧ t.fcs.frame = none ∧ t.fcs.MISS_CNT_MISS = satAdd 16 s.fcs.MISS_CNT_MISS 1 ∧
        t.fcs.missLeft = 16 ∧ t.fcs.STAT_FZ = true ∧ t.hdr[pgFcs].err.testBit 19 = true ∧
        t = { s with fcs := t.fcs, evt := t.evt, trc := t.trc, hdr := t.hdr })) ∧
  (∀ (s : State) (f : FcsFrame) (ns : Nat), s.fcs.frame = some f →
    (ns ≤ 950 →
      ∃ t, exec (.forecasterOutputLatch ns) s = .next t ∧ t.fcs.frame = none ∧ t.fcs.EVAL_CNT = satAdd 32 s.fcs.EVAL_CNT 1 ∧
        t.fcs.TIME_LAST = ns ∧ t.fcs.TIME_MAX = max s.fcs.TIME_MAX ns ∧ t.fcs.STAT_WARM_LEFT = s.fcs.STAT_WARM_LEFT - 1 ∧
        t.fcs.missLeft = s.fcs.missLeft - 1 ∧
        (∀ r : Fin 16, t.fcs.rail[r].OUT_Y1 = f.out.getD (4 * r.val) 0 * 2 ^ s.fcs.rail[r].RAIL_OSH ∧
          t.fcs.rail[r].HZ_Y4 = f.out.getD (4 * r.val + 1) 0 * 2 ^ s.fcs.rail[r].RAIL_OSH ∧
          t.fcs.rail[r].HZ_Y16 = f.out.getD (4 * r.val + 2) 0 * 2 ^ s.fcs.rail[r].RAIL_OSH ∧
          (t.fcs.rail[r].OUT_G : Int) = max (f.out.getD (4 * r.val + 3) 0) 0 ∧ t.fcs.rail[r].y1Now = s.fcs.rail[r].y1Now) ∧
        (s.fcs.winLeft = 0 → t.trc = s.trc) ∧ t = { s with fcs := t.fcs, evt := t.evt, trc := t.trc, hdr := t.hdr }) ∧
    (950 < ns → exec (.forecasterOutputLatch ns) s = .next s)) ∧
  (∀ s : State,
    (s.fcs.WLOAD_COPY = true →
      let ok := crc32 (stgBytes s.stg.mem weightBase s.fcs.MACS) = s.fcs.IMG_CRC
      ∃ t, exec .weightCopyComplete s = .next t ∧ t.fcs.WLOAD_COPY = false ∧ t.fcs.wmem = weightImage s ∧
        (ok → t.fcs.WLOAD_CRC_FAIL = false ∧ t.fcs.hist = Vector.replicate 6 [] ∧ t.fcs.STAT_WARM_LEFT = s.fcs.MODEL_RF ∧
          (weightRowLost s = false → t.fcs.wStuck = false)) ∧
        (¬ ok → t.fcs.WLOAD_CRC_FAIL = true ∧ t.fcs.wStuck = true ∧ t.fcs.STAT_FZ = true ∧ t.hdr[pgFcs].err.testBit 18 = true) ∧
        t = { s with fcs := t.fcs, evt := t.evt, hdr := t.hdr }) ∧
    (∀ off, s.fcs.badAt = some off → s.fcs.WLOAD_RESTORE = true →
      (s.stg.holds = true → rowLost s 1 (off / 64) = false →
        ∃ t, exec .weightRestoreComplete s = .next t ∧ t.fcs.WLOAD_RESTORE = false ∧ t.fcs.badAt = none ∧
          t.fcs.restoredAt = some off ∧ t.fcs.STAT_WARM_LEFT = s.fcs.MODEL_RF ∧
          t.fcs.wmem = memWriteRun 0 s.fcs.wmem off (stgBytes s.stg.mem (weightBase + off) 4) ∧ t.hdr[pgFcs].err.testBit 17 = true ∧
          t = { s with fcs := t.fcs, evt := t.evt, hdr := t.hdr }) ∧
      (s.stg.holds = false ∨ rowLost s 1 (off / 64) = true →
        ∃ t, exec .weightRestoreComplete s = .next t ∧ t.fcs.WLOAD_RESTORE = false ∧ t.fcs.wStuck = true ∧ t.fcs.wmem = s.fcs.wmem ∧
          t.fcs.STAT_FZ = true ∧ t = { s with fcs := t.fcs, evt := t.evt, hdr := t.hdr })) ∧
    (∀ (r : Fin 16) (i : BitVec 8), s.ctl.coefBad.contains (r.val, i.toNat) = true → s.stg.holds = true →
      rowLost s 2 (coefRow s.ctl.BANK_ACTIVE r.val i.toNat) = false →
      ∃ t, exec (.coefRestoreComplete r i) s = .next t ∧ (r.val, i.toNat) ∉ t.ctl.coefBad ∧
        (s.ctl.BANK_ACTIVE = true → t.ctl.bank0 = s.ctl.bank0 ∧ t.ctl.bank1 =
          memWrite 0 s.ctl.bank1 (144 * r.val + i.toNat) (memRead 0 (s.stg.act.getD {}).coef (144 * r.val + i.toNat))) ∧
        (s.ctl.BANK_ACTIVE = false → t.ctl.bank1 = s.ctl.bank1 ∧ t.ctl.bank0 =
          memWrite 0 s.ctl.bank0 (144 * r.val + i.toNat) (memRead 0 (s.stg.act.getD {}).coef (144 * r.val + i.toNat))) ∧
        t = { s with ctl := { s.ctl with coefBad := t.ctl.coefBad, restored := t.ctl.restored, bank0 := t.ctl.bank0,
                                         bank1 := t.ctl.bank1 }, evt := t.evt, hdr := t.hdr }))

/-- R300, R308. The hot band ends once every temperature has stayed below for 100 ms: the caps go, and no limit of the beam rises
yet. A stack's band codes move one band down each, once the lower band has held for 10 ms and 10 ms have passed since the last
such move. R302, R303, R304. The orderly shutdown: at 4 ms every domain outside the boot domains is off, and what was not off
yet is counted; at its end the latch is set and cooling begins. A hold that completes clears both latches, and leaves TRIPPED
to the boundary. R291 to R296. The observer: a step that begins freezes its inputs (one still running is discarded and
counted), a step that completes forms every node from the coefficients and the inputs, and the virtual sensors from the nodes;
its copy ends with the nodes initialised, as does a re-enabling. -/
def Obligations.ThermalLayerRuns : Prop :=
  (∀ s : State,
    (∀ g, s.thm.hotGone = some g → s.thm.STATE_HOT = true → g + 400000 ≤ s.now →
      ∃ t, exec .hotBandEnd s = .next t ∧ t.thm = { s.thm with STATE_HOT := false, hotGone := none } ∧
        t = { s with thm := t.thm, evt := t.evt, hdr := t.hdr }) ∧
    (∀ k : Fin 12, supervised s k.val = true → s.thm.STATE_PHASE ≠ 1 →
      let e := s.thm.stk[k]
      let due := fun (since : Option Nat) (moved : Nat) => ∃ a, since = some a ∧ a + 40000 ≤ s.now ∧ moved + 40000 ≤ s.now
      ∃ t, exec (.stackBandRelax k) s = .next t ∧
        (due e.relR e.movR → t.thm.stk[k].STK_RFB = bandDown e.STK_RFB ∧ t.thm.stk[k].movR = s.now) ∧
        (¬ due e.relR e.movR → t.thm.stk[k].STK_RFB = e.STK_RFB) ∧
        (due e.relT e.movT → t.thm.stk[k].STK_TGB = bandDown e.STK_TGB ∧ t.thm.stk[k].movT = s.now) ∧
        (¬ due e.relT e.movT → t.thm.stk[k].STK_TGB = e.STK_TGB) ∧ t.thm.stk[k].STK_TS = e.STK_TS ∧
        (∀ j : Fin 12, j ≠ k → t.thm.stk[j] = s.thm.stk[j]) ∧ t = { s with thm := { s.thm with stk := t.thm.stk } })) ∧
  (∀ s : State,
    (s.thm.STATE_PHASE = 1 → s.thm.shutAt + 16000 ≤ s.now →
      ∃ t, exec .orderlyForceOff s = .next t ∧ t.thm.shutForced = s.thm.shutForced + stillOn s ∧ t.dom.orderly = none ∧
        ((∀ d : Fin 50, s.dom.dom[d].CFG_ORDER ≤ 7) → allOff t = true) ∧
        t = { s with tly := t.tly, adm := t.adm, fcs := t.fcs, thm := { s.thm with shutForced := t.thm.shutForced, bootRails := t.thm.bootRails },
                     dom := t.dom, vrg := t.vrg, frm := t.frm, mbs := t.mbs, mbn := t.mbn, evt := t.evt, hdr := t.hdr }) ∧
    (s.thm.STATE_PHASE = 1 → allOff s = true → (∀ r : Fin 16, railAbsent s r.val = true ∨ s.thm.bootRails.testBit r.val = true) →
      ∃ t, exec .shutdownComplete s = .next t ∧ t.thm.STATE_SHUT_LATCH = true ∧ (t.thm.STATE_PHASE = 2 ∨ t.thm.STATE_PHASE = 3) ∧
        t.evt.STAT_FLUSH_ACT = true ∧
        t = { s with thm := t.thm, dom := { s.dom with orderly := none }, evt := t.evt, hdr := t.hdr }) ∧
    (s.thm.STATE_PHASE = 3 → s.thm.phaseAt + s.thm.holdLen ≤ s.now →
      ∃ t, exec .restartHoldComplete s = .next t ∧
        t.thm = { s.thm with STATE_SHUT_LATCH := false, STATE_PHASE := 0, STATE_STORM := false, phaseAt := s.now,
                             SHUT_CNT_RESTARTS := satAdd 16 s.thm.SHUT_CNT_RESTARTS 1 } ∧
        t.beam = { s.beam with STATE_TRIP_LATCH := false } ∧
        t.seq = { s.seq with react := s.seq.tripped, reactBy := if s.beam.STATE_TRIP_LATCH then 0x041B else 0x0712 } ∧
        t = { s with beam := t.beam, seq := t.seq, thm := t.thm, evt := t.evt, hdr := t.hdr })) ∧
  (∀ s : State,
    (obsRuns s = true → s.now % 400 = 0 → s.thm.stepAt ≠ some s.now → s.thm.newSweep = false →
      (s.thm.obsIn = none →
        exec (.observerStep none) s = .next { s with thm := { s.thm with stepAt := some s.now, obsIn := some (obsInputs s), obsRestored := none } }) ∧
      (s.thm.obsIn ≠ none → s.thm.discRun < 3 →
        ∃ t, exec (.observerStep none) s = .next t ∧ t.thm.obsIn = some (obsInputs s) ∧
          t.thm.OBS_CNT_OVERRUNS = satAdd 16 s.thm.OBS_CNT_OVERRUNS 1 ∧ t.thm.nodes = s.thm.nodes ∧ t.thm.OBS_OFF = false ∧
          t.hdr[pgThm].err.testBit 19 = true ∧ t = { s with thm := t.thm, evt := t.evt, hdr := t.hdr }) ∧
      (∀ i : BitVec 14, s.thm.obsIn = none → s.thm.obsRestored ≠ some i.toNat →
        ∃ t, exec (.observerStep (some i)) s = .next t ∧ t.thm.OBS_OFF = true ∧ t.thm.obsBad = some i.toNat ∧
          t.thm.OBS_CNT_DISABLES = satAdd 16 s.thm.OBS_CNT_DISABLES 1 ∧ t.hdr[pgThm].err.testBit 18 = true ∧
          t = { s with thm := t.thm, evt := t.evt, hdr := t.hdr })) ∧
    (∀ (u : List Int) (ns : Nat), s.thm.obsIn = some u →
      ∃ t, exec (.observerStepComplete ns) s = .next t ∧ t.thm.obsIn = none ∧ t.thm.warmLeft = s.thm.warmLeft - 1 ∧
        t.thm.OBS_TIME_LAST = min ns 65535 ∧ (∀ i : Fin 96, t.thm.nodes[i] = (nodeNext s u i.val).1) ∧
        (∀ v : Fin 32, s.thm.vs[v].VS_NODE ≠ 127 → s.thm.vs[v].VS_NODE < 96 →
          t.thm.vs[v].VS_VALUE =
            max (-32768) (min 32767 ((nodeNext s u s.thm.vs[v].VS_NODE).1 / 2 ^ 16 + 16 * s.thm.vs[v].VS_VOFS))) ∧
        ((∃ i : Fin 96, (nodeNext s u i.val).2 = true) → t.thm.OBS_OFF = true) ∧
        t = { s with seq := t.seq, tly := t.tly, adm := t.adm, beam := t.beam, ctl := t.ctl, fcs := t.fcs, thm := t.thm, dom := t.dom,
                     vrg := t.vrg, frm := t.frm, mbs := t.mbs, mbn := t.mbn, rck := t.rck, rel := t.rel, evt := t.evt,
                     hdr := t.hdr, stg := t.stg }) ∧
    (s.thm.obsCopy = true →
      ∃ t, exec .observerCopyComplete s = .next t ∧ t.thm.obsCopy = false ∧ t.thm.obsOn = true ∧ t.thm.warmLeft = s.thm.OBS_VS_WARM ∧
        (∀ im, s.stg.act = some im → t.thm.ocoef = im.obs) ∧ (∀ i j : Fin 96, t.thm.nodes[i] = t.thm.nodes[j]) ∧
        t = { s with thm := t.thm }) ∧
    (s.thm.OBS_OFF = true → s.thm.OBS_LOCKED = false → lawsRun s = true → s.thm.obsOn = true → s.thm.obsCopy = false →
      obsRowLost s = false →
      (∀ i, s.thm.obsBad = some i → s.stg.holds = true →
        ∃ t, exec .observerReenable s = .next t ∧ t.thm.OBS_OFF = false ∧ t.thm.obsBad = none ∧ t.thm.obsRestored = some i ∧
          t.thm.warmLeft = s.thm.OBS_VS_WARM ∧ t = { s with thm := t.thm, hdr := t.hdr }) ∧
      (s.thm.obsBad = none → s.thm.obsOffAt + 4000000 ≤ s.now →
        ∃ t, exec .observerReenable s = .next t ∧ t.thm.OBS_OFF = false ∧ t.thm.warmLeft = s.thm.OBS_VS_WARM ∧
          (∀ i j : Fin 96, t.thm.nodes[i] = t.thm.nodes[j]) ∧ t = { s with thm := t.thm })))

/-- R318, R321, R322, R323, R328. Waking: the input is one source of demand; the first entry of the round starts where its cost
fits both free pools, which lose it; the main switch, the settled power (which returns the credits) and the end of the restore
follow at their times; a late or falling power good fails the wake, or isolates a domain that is ON. R318, R319, R321, R323,
R327, R328, R477. Demand and power good: a wake input that makes an OFF domain wanted queues it, and one that turns a sleep
back before its step 6 leaves the domain ON; power good that falls fails a wake, and isolates a domain that is ON or waits for
its acknowledge; a boot domain without power good within 1 ms fails its start. R318, R319, R325, R326, R329. Sleeping: a
domain that may sleep and has gone unwanted for its delay asks for idle; the acknowledge closes it and begins the save, a
missing one leaves it ON, or in an orderly switch-off switches it off all the same; after the save the isolation rises, and a
tick later both switches fall. -/
def Obligations.DomainsRun : Prop :=
  (∀ s : State,
    (∀ (e : WakeEnt) (q : List WakeEnt), s.dom.queue = e :: q → e.dom < 50 → wakePaused s = false → domGo s = true →
      s.dom.startAt ≠ some s.now → (domOf s e.dom).CFG_RAIL < 16 →
      (domOf s e.dom).CFG_COST ≤ (vAt s.dom.rail (domOf s e.dom).CFG_RAIL {}).INR_RAIL_FREE → (domOf s e.dom).CFG_COST ≤ s.dom.INR_DIE_FREE →
      ∃ t, exec .wakeStart s = .next t ∧
        domOf t e.dom = { domOf s e.dom with ST_ST := 2, stepAt := s.now, cred := true, forced := false, starting := false } ∧
        t.dom.INR_DIE_FREE = s.dom.INR_DIE_FREE - (domOf s e.dom).CFG_COST ∧
        (vAt t.dom.rail (domOf s e.dom).CFG_RAIL {}).INR_RAIL_FREE =
          (vAt s.dom.rail (domOf s e.dom).CFG_RAIL {}).INR_RAIL_FREE - (domOf s e.dom).CFG_COST ∧
        (q ≠ [] → t.dom.queue = q ∧ t.dom.QUEUE_ROUND = s.dom.QUEUE_ROUND) ∧
        (q = [] → t.dom.queue = s.dom.nextQ ∧ t.dom.nextQ = [] ∧ t.dom.QUEUE_ROUND = satAdd 15 s.dom.QUEUE_ROUND 1) ∧
        (∀ d : Fin 50, d.val ≠ e.dom → t.dom.dom[d] = s.dom.dom[d]) ∧ t = { s with dom := t.dom }) ∧
    ∀ d : Fin 50, domGo s = true →
      let e := s.dom.dom[d]
      (e.ST_ST = 2 → e.pg = false → e.stepAt + e.TIM_PRE_TO ≤ s.now →
        ∃ t, exec (.wakeFail d) s = .next t ∧ t.dom.dom[d].ST_ST = 8 ∧ t.dom.dom[d].ST_RET_HELD = false ∧ t.dom.dom[d].cred = false ∧
          (e.cred = true → t.dom.INR_DIE_FREE = s.dom.INR_DIE_FREE + e.CFG_COST) ∧ t.hdr[pgDom].err.testBit 16 = true ∧
          t = { s with dom := t.dom, evt := t.evt, hdr := t.hdr }) ∧
      (e.ST_ST = 2 → e.pg = true → e.pgAt + e.TIM_PRE_HOLD ≤ s.now →
        exec (.wakeMainSwitch d) s = .next { s with dom := { s.dom with dom := s.dom.dom.set d { e with ST_ST := 3, stepAt := s.now } } }) ∧
      (e.ST_ST = 3 → e.pg = true → max e.stepAt e.pgAt + 4 ≤ s.now →
        ∃ t, exec (.wakePowerSettled d) s = .next t ∧
          t.dom.dom[d] = { e with ST_ST := 4, stepAt := s.now, ST_RET_HELD := false, cred := false } ∧
          t.dom.INR_DIE_FREE = s.dom.INR_DIE_FREE + (if e.cred then e.CFG_COST else 0) ∧
          (∀ j : Fin 50, j ≠ d → t.dom.dom[j] = s.dom.dom[j]) ∧ t = { s with dom := t.dom }) ∧
      (e.ST_ST = 4 → e.stepAt + e.TIM_RESTORE ≤ s.now →
        ∃ t, exec (.wakeComplete d) s = .next t ∧ t.dom.dom[d].ST_ST = 5 ∧ t.dom.dom[d].isoUp = false ∧ t.dom.dom[d].starting = false ∧
          (e.starting = false → t.dom.CNT_WAKES = satAdd 16 s.dom.CNT_WAKES 1 ∧ t.dom.LAT_LAST = sat 16 (s.now - e.wantAt) ∧
            t.dom.LAT_MAX = max s.dom.LAT_MAX (sat 16 (s.now - e.wantAt))) ∧
          (e.starting = true → t.dom.CNT_WAKES = s.dom.CNT_WAKES ∧ t.dom.LAT_LAST = s.dom.LAT_LAST ∧ t.dom.LAT_MAX = s.dom.LAT_MAX) ∧
          (∀ j : Fin 50, j ≠ d → t.dom.dom[j] = s.dom.dom[j]) ∧ t = { s with dom := t.dom })) ∧
  (∀ (s : State) (d : Fin 50),
    let e := s.dom.dom[d]
    (isBoot s d.val = false → s.dom.REQ.testBit d.val = false → doorbellWake s d.val = false →
      (e.ST_ST = 0 → demandActs s = true →
        ∃ t, exec (.domWakeInput d true) s = .next t ∧ t.dom.WAKE = putBit s.dom.WAKE d.val true ∧ t.dom.dom[d].ST_ST = 1 ∧
          (∃ w : WakeEnt, w.dom = d.val ∧ w.prio = 1 + e.CFG_PRIO ∧ w.at_ = s.now ∧
            (d.val ∉ s.dom.started → t.dom.queue = wakeInsert w s.dom.queue ∧ t.dom.nextQ = s.dom.nextQ) ∧
            (d.val ∈ s.dom.started → t.dom.queue = s.dom.queue ∧ t.dom.nextQ = wakeInsert w s.dom.nextQ)) ∧
          (∀ j : Fin 50, j ≠ d → t.dom.dom[j] = s.dom.dom[j]) ∧ t = { s with dom := t.dom }) ∧
      (s.seq.tripped = false → (e.ST_ST = 6 ∨ (e.ST_ST = 7 ∧ e.isoUp = false)) →
        ∃ t, exec (.domWakeInput d true) s = .next t ∧ t.dom.dom[d].ST_ST = 5 ∧ t.dom.dom[d].ST_RET_HELD = false ∧
          t.dom.queue = s.dom.queue ∧ t = { s with dom := t.dom }) ∧
      (e.ST_ST = 1 → e.forced = false →
        ∃ t, exec (.domWakeInput d false) s = .next t ∧ t.dom.WAKE = putBit s.dom.WAKE d.val false ∧ t.dom.dom[d].ST_ST = 0 ∧
          t = { s with dom := t.dom })) ∧
    (¬ (domGo s = true ∧ e.ST_ST = 2 ∧ e.pg = false ∧ e.stepAt + e.TIM_PRE_TO < s.now) →
      exec (.domPgChange d true) s = .next
        { s with dom := { s.dom with dom := s.dom.dom.set d { e with pg := true, pgAt := if e.pg then e.pgAt else s.now } } }) ∧
    (domGo s = true → e.pg = true → (e.ST_ST = 2 ∨ e.ST_ST = 3 ∨ e.ST_ST = 4) →
      ∃ t, exec (.domPgChange d false) s = .next t ∧ t.dom.dom[d].pg = false ∧ t.dom.dom[d].ST_ST = 8 ∧ t.dom.dom[d].ST_RET_HELD = false ∧
        t.dom.dom[d].cred = false ∧ t.hdr[pgDom].err.testBit 16 = true ∧ t = { s with dom := t.dom, evt := t.evt, hdr := t.hdr }) ∧
    (e.pg = true → (e.ST_ST = 5 ∨ e.ST_ST = 6) →
      ∃ t, exec (.domPgChange d false) s = .next t ∧ t.dom.dom[d].pg = false ∧ t.dom.dom[d].ST_ST = 8 ∧ t.dom.dom[d].ST_RET_HELD = false ∧
        t.hdr[pgDom].err.testBit 18 = true ∧
        t = { s with tly := t.tly, adm := t.adm, fcs := t.fcs, dom := t.dom, vrg := t.vrg, frm := t.frm, mbs := t.mbs, mbn := t.mbn,
                     evt := t.evt, hdr := t.hdr }) ∧
    (isBoot s d.val = true → s.rst.started = true → e.ST_ST = 3 → e.pg = false → s.rst.exitAt + 4000 ≤ s.now →
      ∃ t, exec (.bootDomainPgTimeout d) s = .next t ∧ t.dom.dom[d].ST_ST = 8 ∧ t.hdr[pgDom].err.testBit 16 = true ∧
        t.hdr[pgRst].err.testBit 20 = true ∧ t = { s with dom := t.dom, evt := t.evt, hdr := t.hdr })) ∧
  (∀ (s : State) (d : Fin 50),
    let e := s.dom.dom[d]
    (domGo s = true → e.ST_ST = 5 → e.CFG_SLEEP = true → isBoot s d.val = false → domWanted s d.val = false → demandActs s = true →
      (∃ a, e.unwantAt = some a ∧ a + e.OFFD * 4 ≤ s.now) →
      exec (.sleepStart d) s = .next { s with dom := { s.dom with dom := s.dom.dom.set d { e with ST_ST := 6, stepAt := s.now } } }) ∧
    (e.ST_ST = 6 →
      (∃ t, exec (.idleAck d) s = .next t ∧ t.dom.dom[d].ST_ST = 7 ∧ t.dom.dom[d].isoUp = false ∧ t.dom.dom[d].stepAt = s.now ∧
        t.dom.queue = s.dom.queue ∧
        t = { s with tly := t.tly, adm := t.adm, fcs := t.fcs, dom := t.dom, vrg := t.vrg, frm := t.frm }) ∧
      (e.stepAt + e.CFG_IDLE_TO * 4 ≤ s.now →
        (s.dom.orderly = none →
          ∃ t, exec (.idleTo d) s = .next t ∧ t.dom.dom[d].ST_ST = 5 ∧ t.dom.dom[d].stepAt = s.now ∧ t.hdr[pgDom].err.testBit 17 = true ∧
            t.dom.ABORT_CNT_TIMEOUTS = satAdd 16 s.dom.ABORT_CNT_TIMEOUTS 1 ∧ t.tly = s.tly ∧
            t = { s with dom := t.dom, evt := t.evt, hdr := t.hdr }) ∧
        (s.dom.orderly ≠ none →
          ∃ t, exec (.idleTo d) s = .next t ∧ t.dom.dom[d].ST_ST = 7 ∧ t.thm.shutForced = s.thm.shutForced + 1 ∧
            t = { s with tly := t.tly, adm := t.adm, fcs := t.fcs, dom := t.dom, vrg := t.vrg, frm := t.frm, thm := t.thm }))) ∧
    (domGo s = true → e.ST_ST = 7 → e.isoUp = false → e.stepAt + (if e.CFG_RET then e.TIM_SAVE else 0) ≤ s.now →
      exec (.saveComplete d) s = .next { s with dom := { s.dom with dom := s.dom.dom.set d { e with isoUp := true, stepAt := s.now } } }) ∧
    (domGo s = true → e.ST_ST = 7 → e.isoUp = true → e.stepAt + 1 ≤ s.now → s.dom.orderly = none → domWanted s d.val = false →
      ∃ t, exec (.sleepSwitchOff d) s = .next t ∧ t.dom.dom[d].ST_ST = 0 ∧ t.dom.dom[d].ST_RET_HELD = e.CFG_RET ∧
        t.dom.dom[d].isoUp = false ∧ t.dom.CNT_SLEEPS = satAdd 16 s.dom.CNT_SLEEPS 1 ∧
        (∀ j : Fin 50, j ≠ d → t.dom.dom[j] = s.dom.dom[j]) ∧ t = { s with dom := t.dom }))

/-- R126, R130, R132, R134, R163, R165, R166, R191. A REQUEST that reaches the decision stage is refused with the code and the
RETRY of the first check that fails, which is counted, and changes no row and no book; or it is granted: a free row takes it,
its beads are booked at once, and the GRANT waits for the port. R124, R125, R128, R129, R131, R147, R148, R160. Other
admission words: a RELEASE or TRANSFER whose tag names no live row is stale, or refused with 0x0D; a RELEASE of part of an
armed row lowers its beads and the book, of all of it retires the row; a TRANSFER gives the row its new owner or is refused
with 0x0E; another TYPE is refused with 0x02, and a word that failed parity with 0x01. -/
def Obligations.AdmissionDecides : Prop :=
  (∀ (s : State) (word : BitVec 64), word.toNat >>> 60 = 1 → netUp s = true → s.adm.inQ = [] → s.adm.outQ.length < 32 →
    memWf 0 s.tly.rows = true →
    let w := word.toNat
    let u := bitsOf w 48 12
    let r := bitsOf w 44 4
    (∀ code retry, requestCheck s w = some (code, retry) →
      ∃ t, exec (.request word { row := false, cnt := false }) s = .next t ∧ t.tly.rows = s.tly.rows ∧
        (∀ q, booked t q = booked s q) ∧ t.adm.GRANT_CNT = s.adm.GRANT_CNT ∧
        t.adm.ref = (vMod s.adm.ref (code - 1) fun e => { e with REF_CNT := satAdd 32 e.REF_CNT 1 }) ∧
        (unitClosed s u = false →
          t.adm.outQ = s.adm.outQ ++ [⟨BitVec.ofNat 64 (refusalWord u 0 code (bitsOf w 40 4) false retry), none⟩]) ∧
        (unitClosed s u = true → t.adm.outQ = s.adm.outQ) ∧ t = { s with tly := t.tly, adm := t.adm, frm := t.frm }) ∧
    (requestCheck s w = none →
      ∃ t i, exec (.request word { row := false, cnt := false }) s = .next t ∧ allocRow s u = some i ∧
        (let n := min (min (bitsOf w 30 10) (unitCap s u)) (room s r).toNat
         rowW t i = mkRow false 1 n r u u s.tly.EPOCH_NUM i ∧ (∀ j, j ≠ i → rowW t j = rowW s j) ∧
         (s.tly.rail[r]!.cntStuck = false → booked t r = min 65535 (booked s r + n)) ∧ (∀ q, q ≠ r → booked t q = booked s q) ∧
         (∃ o : OutWord, o.row = some i ∧ t.adm.outQ = s.adm.outQ ++ [o] ∧ o.word.toNat >>> 60 = 8) ∧
         t.adm.GRANT_CNT = satAdd 32 s.adm.GRANT_CNT 1 ∧ t.adm.ref = s.adm.ref ∧
         t = { s with tly := t.tly, adm := t.adm, vrg := t.vrg, frm := t.frm }))) ∧
  (∀ (s : State) (word : BitVec 64), netUp s = true → s.adm.inQ = [] → s.adm.outQ.length < 32 → memWf 0 s.tly.rows = true →
    let w := word.toNat
    let u := bitsOf w 48 12
    let counted := fun (code : Nat) => vMod s.adm.ref (code - 1) fun e => { e with REF_CNT := satAdd 32 e.REF_CNT 1 }
    (w >>> 60 = 2 → tagRow s word = none →
      exec (.release word { row := false, cnt := false }) s = .next
        { s with adm := { s.adm with PORT_INBUF_PEAK := max s.adm.PORT_INBUF_PEAK 1 },
                 tly := { s.tly with STALE_CNT := satAdd 32 s.tly.STALE_CNT 1 } }) ∧
    (∀ i, w >>> 60 = 2 → tagRow s word = some i →
      ∃ t, exec (.release word { row := false, cnt := false }) s = .next t ∧
        (let row := rowW s i
         let n := bitsOf w 5 10
         (rowSt row = 2 → n ≠ 0 → n < rowBeads row → rowW t i = rowToBeads row (rowBeads row - n)) ∧
         (rowSt row = 1 ∨ n = 0 ∨ rowBeads row ≤ n → rowW t i = rowToSt row 3) ∧ (∀ j, j ≠ i → rowW t j = rowW s j) ∧
         t.adm.NONOWN_CNT = (if rowOwner row = u then s.adm.NONOWN_CNT else satAdd 32 s.adm.NONOWN_CNT 1) ∧
         t.tly.STALE_CNT = s.tly.STALE_CNT ∧ t = { s with tly := t.tly, adm := t.adm, fcs := t.fcs, vrg := t.vrg, frm := t.frm })) ∧
    (w >>> 60 = 3 → unitClosed s u = false → tagRow s word = none →
      ∃ t, exec (.transfer word { row := false, cnt := false }) s = .next t ∧ t.adm.ref = counted 0x0D ∧
        t.adm.outQ = s.adm.outQ ++ [⟨BitVec.ofNat 64 (refusalWord u (bitsOf w 15 33 * 2 ^ 15) 0x0D 0 true 31), none⟩] ∧
        t.tly.rows = s.tly.rows ∧ t = { s with tly := t.tly, adm := t.adm }) ∧
    (∀ i, w >>> 60 = 3 → tagRow s word = some i →
      let nu := bitsOf w 3 12
      let bad := !unitValid s nu || unitClosed s nu || !(unitMask s nu).testBit (rowRail (rowW s i))
      ∃ t, exec (.transfer word { row := false, cnt := false }) s = .next t ∧
        (bad = true → t.tly.rows = s.tly.rows ∧ t.adm.ref = counted 0x0E) ∧
        (bad = false → rowW t i = rowToOwner (rowW s i) nu ∧ t.adm.ref = s.adm.ref ∧ (∀ q, booked t q = booked s q)) ∧
        (∀ j, j ≠ i → rowW t j = rowW s j) ∧ t = { s with tly := t.tly, adm := t.adm }) ∧
    (w >>> 60 ≠ 1 → w >>> 60 ≠ 2 → w >>> 60 ≠ 3 → unitClosed s u = false →
      ∃ t, exec (.badType word) s = .next t ∧ t.adm.ref = counted 0x02 ∧
        t.adm.outQ = s.adm.outQ ++ [⟨BitVec.ofNat 64 (refusalWord u 0 0x02 0 false 0), none⟩] ∧ t.tly.rows = s.tly.rows ∧
        t = { s with tly := t.tly, adm := t.adm }) ∧
    (∀ par : BitVec 2, unitClosed s u = false →
      ∃ t, exec (.admissionWordParityFault word par) s = .next t ∧ t.adm.ref = counted 0x01 ∧ t.hdr[pgAdm].err.testBit 16 = true ∧
        t.tly.rows = s.tly.rows ∧ t.adm.outQ.length = s.adm.outQ.length + 1 ∧
        t = { s with tly := t.tly, adm := t.adm, evt := t.evt, hdr := t.hdr }))

/-- R127, R137, R149, R155, R163, R164, R165, R175, R534. Words leave the port one a transfer, and an ARM, or a GRANT with ARMED, makes
its row ARMED as it leaves. A row still granted at its arming deadline is withdrawn, with 0x10, or with 0x12 where its rail is held or
the instance in EMERGENCY or TRIPPED; a row that has been 8 µs in quarantine becomes free; an ask without an answer closes. -/
def Obligations.RowsLeaveAndLapse : Prop :=
  ∀ s : State,
    (∀ (o : OutWord) (q : List OutWord), netUp s = true → s.adm.inQ = [] → s.adm.outQ = o :: q →
      unitClosed s (bitsOf o.word.toNat 48 12) = false → memWf 0 s.tly.rows = true →
      ∃ t, exec .admOutTransfer s = .next t ∧ t.adm.outQ = q ∧
        (o.row = none → t.adm.lastOut = o.word ∧ t.adm.lastPar = wordPar o.word.toNat ∧ t.tly.rows = s.tly.rows) ∧
        (∀ i, o.row = some i → o.word.toNat >>> 60 = 0xA → rowSt (rowW s i) = 1 →
          t.adm.lastOut = BitVec.ofNat 64 (armWord (rowW s i)) ∧ rowW t i = rowToSt (rowW s i) 2) ∧
        (∀ i, o.row = some i → o.word.toNat >>> 60 = 8 → rowSt (rowW s i) = 1 →
          t.adm.lastOut = o.word ∧ rowW t i = (if bitAt o.word.toNat 0 then rowToSt (rowW s i) 2 else rowW s i)) ∧
        t = { s with tly := t.tly, adm := t.adm, fcs := t.fcs }) ∧
    (∀ i : Fin 8192, memWf 0 s.tly.rows = true → rowSt (rowW s i.val) = 1 → memRead 0 s.tly.timer i.val ≠ 0 →
      memRead 0 s.tly.timer i.val + 5 ≤ s.now →
      let code := if 5 ≤ shownState s ∨ railHeld s (rowRail (rowW s i.val)) = true then 0x12 else 0x10
      ∃ t, exec (.armLapse i) s = .next t ∧ rowW t i.val = rowToSt (rowW s i.val) 3 ∧ (∀ j, j ≠ i.val → rowW t j = rowW s j) ∧
        t.adm.ref = (vMod s.adm.ref (code - 1) fun e => { e with REF_CNT := satAdd 32 e.REF_CNT 1 }) ∧
        t = { s with tly := t.tly, adm := t.adm, fcs := t.fcs, vrg := t.vrg, frm := t.frm, evt := t.evt, hdr := t.hdr }) ∧
    (∀ i : Fin 8192, memWf 0 s.tly.rows = true → rowSt (rowW s i.val) = 3 → memRead 0 s.tly.timer i.val ≠ 0 →
      memRead 0 s.tly.timer i.val + 31 ≤ s.now →
      ∃ t, exec (.quarExpiry i) s = .next t ∧ rowW t i.val = rowToSt (rowW s i.val) 0 ∧ (∀ j, j ≠ i.val → rowW t j = rowW s j) ∧
        t.tly.freed = s.tly.freed ++ [i.val] ∧
        t = { s with tly := { s.tly with rows := t.tly.rows, timer := t.tly.timer, freed := t.tly.freed,
                                         ROW_STAT_STALE := t.tly.ROW_STAT_STALE } }) ∧
    (∀ a, s.adm.askAt = some a →
      (a + 80 ≤ s.now → exec .loanAskTimeout s = .next { s with adm := { s.adm with askAt := none } }) ∧
      (s.now < a + 80 → exec .loanAskTimeout s = .next s))

/-- R179, R180, R181, R388, R389. A boundary instant, whoever takes it: the epoch number, the drain window with no live row and no
loan, the policing at rest and the closing epoch's figures. The reckoner takes one when its epoch has run, with GOV and the
next FSEQ; a member takes one on the announcement, with its number and length, or on its own without GOV when none has come.
R173, R174, R180, R164, R168, R184. The end of the drain window: each present rail's baseline is the larger of its two
samples, or its limit with BFAULT where it has none; the audit compares the books; the books are empty, no row is left in
quarantine, and decisions go on. -/
def Obligations.EpochsTurn : Prop :=
  (∀ s : State, memWf 0 s.tly.rows = true →
    let opened := fun (t : State) (num : Nat) =>
      t.tly.EPOCH_NUM = num % 256 ∧ t.tly.EPOCH_DRAIN = true ∧ t.tly.bndAt = s.now ∧ t.tly.AUDIT_EPOCH = s.tly.EPOCH_NUM ∧
        t.tly.LAST_GRANTS = s.tly.grants ∧ t.tly.LAST_PEAK = s.tly.peak ∧ t.tly.grants = 0 ∧
        (∀ i, liveW (rowW t i) = false) ∧ (∀ r : Fin 16, t.tly.rail[r].pol = 15 ∧ t.tly.rail[r].HARV_STRETCHES = 0 ∧
          t.tly.rail[r].BOOK_BOOKED = s.tly.rail[r].BOOK_BOOKED) ∧
        t.adm.LOAN_IN = 0 ∧ t.adm.LOAN_OUT = 0 ∧
        t = { s with seq := t.seq, tly := t.tly, adm := t.adm, beam := t.beam, ctl := t.ctl, fcs := t.fcs, thm := t.thm, dom := t.dom,
                     clk := t.clk, vrg := t.vrg, pmb := t.pmb, frm := t.frm, tre := t.tre, mbs := t.mbs, mbn := t.mbn, rck := t.rck,
                     rel := t.rel, evt := t.evt, trc := t.trc, hdr := t.hdr, stg := t.stg }
    (s.rst.live = true → (isReckoner s = true ∨ s.tly.ownCount = true) → s.tly.bndAt + s.tly.lenInForce * 4 ≤ s.now →
      ∃ t, exec .epochBoundary s = .next t ∧ opened t (s.tly.EPOCH_NUM + 1) ∧ t.tly.EPOCH_GOV = isReckoner s ∧
        (isReckoner s = true → t.frm.FSEQ = (s.frm.FSEQ + 1) % 2 ^ 24)) ∧
    (s.rst.live = true → isReckoner s = false → s.tly.ownCount = false → s.tly.bndAt + (s.tly.lenInForce + 64) * 4 ≤ s.now →
      ∃ t, exec .boundaryTimeout s = .next t ∧ opened t (s.tly.EPOCH_NUM + 1) ∧ t.tly.EPOCH_GOV = false) ∧
    (∀ (d : Dir) (m : BitVec 128), frmAccepts s d m 0x08 = true → mDst m = 31 → s.frm.FORM_STATE = 2 →
      mSrc m = s.frm.ROLE_RECKONER → boundaryLater s (mf m 88 8) = true →
      ∃ t, exec (.frmBoundary d m) s = .next t ∧ opened t (mf m 88 8) ∧ t.tly.EPOCH_GOV = true ∧ t.tly.ownCount = false ∧
        t.tly.lenInForce = mf m 74 14 ∧ t.frm.FSEQ = mf m 18 24)) ∧
  (∀ (s : State) (bad : List (Fin 8192)), s.tly.EPOCH_DRAIN = true → s.tly.bndAt + 7 ≤ s.now → memWf 0 s.tly.rows = true →
    ∃ t, exec (.baselineSample bad) s = .next t ∧ t.tly.EPOCH_DRAIN = false ∧ t.tly.faulted = [] ∧ t.tly.badFree = [] ∧
      (∀ r : Fin 16, t.tly.rail[r].BOOK_BOOKED = 0 ∧ t.tly.rail[r].cntStuck = false ∧
        (railAbsent s r.val = true → t.tly.rail[r].BASE_BASE = 0 ∧ t.tly.rail[r].BASE_BFAULT = false) ∧
        (railAbsent s r.val = false → s.tly.rail[r].base1 = none → s.tly.rail[r].base2 = none →
          t.tly.rail[r].BASE_BASE = iLim s r.val ∧ t.tly.rail[r].BASE_BFAULT = true) ∧
        (∀ a b, railAbsent s r.val = false → s.tly.rail[r].base1 = some a → s.tly.rail[r].base2 = some b →
          t.tly.rail[r].BASE_BASE = max a b ∧ t.tly.rail[r].BASE_BFAULT = false)) ∧
      ((∃ r : Fin 16, s.tly.rail[r].BOOK_BOOKED < s.tly.rail[r].sumBnd) → t.tly.AUDIT_MISMATCH = true ∧ t.hdr[pgTly].err.testBit 19 = true) ∧
      (∀ i, rowSt (rowW t i) ≠ 3) ∧ (s.tly.actPol = true → t.tly.polOn = true) ∧
      t = { s with seq := t.seq, tly := t.tly, ctl := t.ctl, fcs := t.fcs, vrg := t.vrg, frm := t.frm, mbs := t.mbs, mbn := t.mbn,
                   rck := t.rck, evt := t.evt, hdr := t.hdr })

/-- R348, R350, R351, R354. The setpoint bus: a transaction starts with a waiting PREPOS first, at the booked current of the moment, unless
sixteen have gone before a waiting trim; its acknowledge frees the bus and makes its operand the regulator's; without one for 1 µs it is replayed, and after
three attempts the regulator is marked unresponsive and its rail goes to its floor. -/
def Obligations.SetpointBusRuns : Prop :=
  ∀ s : State,
    (s.vrg.cur = none → busOpen s = true →
      (∀ r q, s.vrg.ppQ = r :: q → (s.vrg.ppRun < 16 ∨ s.vrg.trimQ = []) →
        exec .vrgTransactionStart s = .next
          { s with vrg := { s.vrg with cur := some { rail := r, op := 2, d := sat 16 ((bookedCurrent s r + 24) / 25),
                                                     cover := (vAt s.tly.rail r {}).bookSeq },
                                       curAt := s.now, ppQ := q, ppRun := s.vrg.ppRun + 1 } }) ∧
      (∀ x q, s.vrg.trimQ = x :: q → ((s.vrg.ppQ = [] ∧ s.vrg.resendQ = []) ∨ (s.vrg.ppQ ≠ [] ∧ 16 ≤ s.vrg.ppRun)) →
        exec .vrgTransactionStart s = .next
          { s with vrg := { s.vrg with cur := some x, curAt := s.now, trimQ := q, ppRun := 0 } }) ∧
      (∀ r q, s.vrg.resendQ = r :: q → s.vrg.ppQ = [] →
        exec .vrgTransactionStart s = .next
          { s with vrg := { s.vrg with cur := some { rail := r, op := 6, d := 0 }, curAt := s.now, resendQ := q, ppRun := 0 } })) ∧
    (∀ (x : VrgXact) (ns : Nat), s.vrg.cur = some x → x.rail < 16 →
      (x.op = 1 → ∃ t, exec (.vrgAck ns) s = .next t ∧ t.vrg.cur = none ∧ (vrgOf t x.rail).SET = x.d ∧
        t = { s with vrg := t.vrg, rel := t.rel }) ∧
      (x.op = 2 → ∃ t, exec (.vrgAck ns) s = .next t ∧ t.vrg.cur = none ∧ (vrgOf t x.rail).PP_I_PP = x.d ∧
        (vAt t.tly.rail x.rail {}).ackSeq = x.cover ∧ t.vrg.PP_CNT = satAdd 32 s.vrg.PP_CNT 1 ∧ t.vrg.PP_TIME_LAST = sat 16 ns ∧
        t.tly.rows = s.tly.rows ∧ t = { s with tly := t.tly, adm := t.adm, vrg := t.vrg, rel := t.rel }) ∧
      (x.op = 4 → ∃ t, exec (.vrgAck ns) s = .next t ∧ t.vrg.cur = none ∧ (vrgOf t x.rail).PHST_ACTIVE = x.d ∧
        t = { s with vrg := t.vrg, rel := t.rel })) ∧
    (∀ x : VrgXact, s.vrg.cur = some x → x.single = false → s.vrg.curAt + 4 ≤ s.now →
      (x.tries < 3 →
        exec .vrgAckTimeout s = .next
          { s with vrg := { s.vrg with BUS_CNT_TIMEOUTS := satAdd 16 s.vrg.BUS_CNT_TIMEOUTS 1,
                                       cur := some { x with tries := x.tries + 1 }, curAt := s.now } }) ∧
      (3 ≤ x.tries → x.rail < 16 →
        ∃ t, exec .vrgAckTimeout s = .next t ∧ t.vrg.cur = none ∧ t.vrg.BUS_UNRESP.testBit x.rail = true ∧
          t.vrg.BUS_CNT_TIMEOUTS = satAdd 16 s.vrg.BUS_CNT_TIMEOUTS 1 ∧ x.rail ∉ t.vrg.ppQ ∧ (∀ y ∈ t.vrg.trimQ, y.rail ≠ x.rail) ∧
          t.hdr[pgVrg].err.testBit 17 = true ∧ railRc t x.rail = 0 ∧
          t = { s with seq := t.seq, beam := t.beam, ctl := t.ctl, vrg := t.vrg, mbs := t.mbs, mbn := t.mbn, rck := t.rck,
                       rel := t.rel, evt := t.evt, hdr := t.hdr }))

/-- R135, R211, R352, R356, R357, R358. What a regulator reports: vrg_rdy, vrg_flt (which puts the rail at its floor), and its telemetry
words: calibrated, counted and asked for again where parity fails, or a report of phase health. -/
def Obligations.RegulatorsReport : Prop :=
  ∀ (s : State) (r : Fin 16),
    (∀ level, ∃ t, exec (.vrgRdy r level) s = .next t ∧ t.vrg.rail[r] = { s.vrg.rail[r] with rdy := level } ∧
      (∀ q : Fin 16, q ≠ r → t.vrg.rail[q] = s.vrg.rail[q]) ∧ t.tly.rows = s.tly.rows ∧ (level = false → t.adm = s.adm ∧ t.tly = s.tly) ∧
      t = { s with tly := t.tly, adm := t.adm, vrg := t.vrg }) ∧
    (exec (.vrgFltChange r false) s = .next { s with vrg := { s.vrg with rail := s.vrg.rail.set r { s.vrg.rail[r] with flt := false } } }) ∧
    (railAbsent s r.val = false →
      ∃ t, exec (.vrgFltChange r true) s = .next t ∧ t.vrg.rail[r] = { s.vrg.rail[r] with flt := true } ∧ railRc t r.val = 0 ∧
        railHeld t r.val = true ∧
        t = { s with seq := t.seq, beam := t.beam, ctl := t.ctl, vrg := t.vrg, mbs := t.mbs, mbn := t.mbn, rck := t.rck, rel := t.rel,
                     evt := t.evt, hdr := t.hdr }) ∧
    (∀ w : BitVec 24, s.rst.started = true → w.toNat % 4096 ≠ 4095 → s.vrg.rail[r].late = 0 →
      ∃ t, exec (.telemetryWord r w (decide (popcount 24 w.toNat % 2 = 1)) false) s = .next t ∧ t.vrg.rail[r].TG_RAW = w.toNat ∧
        (t.vrg.rail[r].iMeas : Int) = max 0 (100 * (w.toNat / 4096) * s.vrg.rail[r].CAL_I_GAIN / 2 ^ 14 + s.vrg.rail[r].CAL_I_OFS) ∧
        (t.vrg.rail[r].vMeas : Int) = max 0 (500 * (w.toNat % 4096) * s.vrg.rail[r].CALV_V_GAIN / 2 ^ 14 +
          10 * (s.vrg.rail[r].CALV_V_OFS + s.vrg.rail[r].TRK_V_TRACK)) ∧ t.vrg.rail[r].bad = 0 ∧ t.vrg.rail[r].got = true ∧
        (∀ q : Fin 16, q ≠ r → t.vrg.rail[q] = s.vrg.rail[q]) ∧ t = { s with vrg := t.vrg, rel := t.rel }) ∧
    (∀ (w : BitVec 24) (par : Bool), s.rst.started = true → par ≠ decide (popcount 24 w.toNat % 2 = 1) → s.vrg.rail[r].bad < 2 →
      unresp s r.val = false →
      ∃ t, exec (.telemetryWord r w par false) s = .next t ∧ t.vrg.rail[r].TG_PAR_CNT = satAdd 8 s.vrg.rail[r].TG_PAR_CNT 1 ∧
        t.vrg.rail[r].TG_RAW = s.vrg.rail[r].TG_RAW ∧ t.vrg.rail[r].iMeas = s.vrg.rail[r].iMeas ∧ r.val ∈ t.vrg.resendQ ∧
        t.hdr[pgVrg].err.testBit 18 = true ∧ t = { s with vrg := t.vrg, hdr := t.hdr }) ∧
    (∀ w : BitVec 24, s.rst.started = true → w.toNat % 4096 = 4095 →
      ∃ t, exec (.telemetryWord r w (decide (popcount 24 w.toNat % 2 = 1)) false) s = .next t ∧
        (∀ p, p < 12 → (w.toNat / 4096).testBit p = true → (phaseMap s r.val).testBit p = true →
          t.vrg.rail[r].PHST_FAULTY.testBit p = true) ∧ t.vrg.rail[r].TG_RAW = s.vrg.rail[r].TG_RAW ∧
        t = { s with seq := t.seq, beam := t.beam, vrg := t.vrg, mbs := t.mbs, mbn := t.mbn, rck := t.rck, evt := t.evt, hdr := t.hdr })

/-- R487, R488, R489. Blind mode begins 200 µs after the first sample that was not delivered, or after the regulator was marked, with the
rail's response at LEVEL; its last cause gone, it ends, after 4096 delivered samples where the telemetry was lost. -/
def Obligations.BlindModeRuns : Prop :=
  ∀ (s : State) (r : Fin 16),
    (∀ a, s.rel.wear[r].tgAt = some a → a + 800 ≤ s.now → s.rel.BLIND_TG.testBit r.val = false →
      ∃ t, exec (.blindModeEntry r) s = .next t ∧ t.rel.BLIND_TG.testBit r.val = true ∧ railBlind t r.val = true ∧
        t.rel.wear[r].okRun = 0 ∧ respOn t r.val 5 = true ∧ (respOf t r.val 5).rc = blindLevel s ∧ respOn t r.val 1 = false ∧
        t.hdr[pgRel].err.testBit 20 = true ∧
        t = { s with seq := t.seq, beam := t.beam, ctl := t.ctl, mbs := t.mbs, mbn := t.mbn, rck := t.rck, rel := t.rel, evt := t.evt,
                     hdr := t.hdr }) ∧
    (∀ a, s.rel.wear[r].busAt = some a → a + 800 ≤ s.now → s.rel.BLIND_BUS.testBit r.val = false → s.rel.wear[r].tgAt = none →
      ∃ t, exec (.blindModeEntry r) s = .next t ∧ t.rel.BLIND_BUS.testBit r.val = true ∧ respOn t r.val 7 = true ∧
        (respOf t r.val 7).rc = blindLevel s ∧ t.hdr[pgRel].err.testBit 20 = true ∧
        t = { s with seq := t.seq, beam := t.beam, ctl := t.ctl, mbs := t.mbs, mbn := t.mbn, rck := t.rck, rel := t.rel, evt := t.evt,
                     hdr := t.hdr }) ∧
    (s.rel.BLIND_TG.testBit r.val = true → 4096 ≤ s.rel.wear[r].okRun →
      ∃ t, exec (.blindModeEnd r) s = .next t ∧ t.rel.BLIND_TG.testBit r.val = false ∧ t.rel.wear[r].tgAt = none ∧
        (s.rel.BLIND_BUS.testBit r.val = false → railBlind t r.val = false) ∧
        t = { s with seq := t.seq, beam := t.beam, ctl := t.ctl, mbs := t.mbs, mbn := t.mbn, rck := t.rck, rel := t.rel, evt := t.evt,
                     hdr := t.hdr }) ∧
    (s.rel.BLIND_BUS.testBit r.val = true → unresp s r.val = false → s.rel.BLIND_TG.testBit r.val = false →
      ∃ t, exec (.blindModeEnd r) s = .next t ∧ railBlind t r.val = false ∧ t.rel.wear = s.rel.wear ∧
        t = { s with seq := t.seq, beam := t.beam, ctl := t.ctl, mbs := t.mbs, mbn := t.mbn, rck := t.rck, rel := t.rel, evt := t.evt,
                     hdr := t.hdr })

/-- R282, R283, R284. The sweep: it latches on every 1000th tick, and at its end each sensor that answered holds its calibrated sample and one
that failed parity is failed; with every sensor in order the group maximum is the largest of its four samples, and the difference since the sweep
before is formed where the membership is the same. -/
def Obligations.SweepsRun : Prop :=
  ∀ s : State,
    (s.rst.started = true → s.now % 1000 = 0 → s.sns.lastSweep ≠ some s.now →
      exec .thermalSweep s = .next { s with sns := { s.sns with sweepAt := some s.now, lastSweep := some s.now } }) ∧
    (∀ (samples : Vector TempSample 30) (dur at_ : Nat), s.sns.sweepAt = some at_ →
      ∃ t, exec (.sweepCalibrationDone samples dur) s = .next t ∧ t.sns.sweepAt = none ∧
        t.sns.SWEEP_SWEEPS = satAdd 16 s.sns.SWEEP_SWEEPS 1 ∧ t.sns.SWEEP_DUR = sat 16 dur ∧
        (∀ (i : Fin 30) x, samples[i] = .ok x → s.sns.ts[i].TS_FAILED = false → -2560 ≤ x → x ≤ 9600 →
          t.sns.ts[i].TS_TEMP = x ∧ t.sns.ts[i].TS_FAILED = false) ∧
        (∀ i : Fin 30, samples[i] = .parity → s.sns.ts[i].TS_FAILED = false →
          t.sns.ts[i].TS_FAILED = true ∧ t.sns.ts[i].TS_REASON = 1 ∧ t.hdr[pgSns].err.testBit 16 = true) ∧
        ((∀ i : Fin 30, s.sns.ts[i].TS_FAILED = false ∧ ∃ x, samples[i] = .ok x ∧ -2560 ≤ x ∧ x ≤ 9600) →
          (∀ i : Fin 30, 24 ≤ i.val → s.sns.ts[i].TS_SERVES = 255) →
          ∀ g : Fin 6, t.thm.grp[g].GRP_LIVE = 4 ∧ t.thm.grp[g].GRP_LOST = false ∧ t.thm.grp[g].GRP_SHORT = false ∧
            (∀ (i : Fin 30) x, i.val < 24 → i.val / 4 = g.val → samples[i] = .ok x → x ≤ t.thm.grp[g].GRP_MAX) ∧
            (∃ i : Fin 30, i.val < 24 ∧ i.val / 4 = g.val ∧ samples[i] = .ok t.thm.grp[g].GRP_MAX) ∧
            (s.thm.grp[g].valid = true → s.thm.grp[g].members = 15 →
              t.thm.grp[g].diff = some (t.thm.grp[g].GRP_MAX - s.thm.grp[g].GRP_MAX)) ∧
            (s.thm.grp[g].members ≠ 15 → t.thm.grp[g].diff = none)) ∧
        t = { s with seq := t.seq, tly := t.tly, adm := t.adm, beam := t.beam, ctl := t.ctl, fcs := t.fcs, thm := t.thm, sns := t.sns,
                     dom := t.dom, vrg := t.vrg, frm := t.frm, mbs := t.mbs, mbn := t.mbn, rck := t.rck, rel := t.rel, evt := t.evt,
                     trc := t.trc, hdr := t.hdr, stg := t.stg })

/-- R36, R86, R287, R288, R289. The housekeeping round: a slot's channel keeps the value read, or after two failed rounds is failed; slots 0
and 1 feed the core range; the end of a round counts it and ages every channel; the core-range condition ends after 100 rounds inside it; a stacked die with no
value for three rounds is BELOW_LOST; a response that does not return moves the ring's break. -/
def Obligations.HousekeepingRuns : Prop :=
  ∀ s : State,
    (∀ rd k, s.rst.started = true → s.sns.slotRead ≠ some (slotNow s) → k = slotNow s % 160 → slotOpen s k = true →
      ∃ t, exec (.housekeepingSlot rd) s = .next t ∧ t.sns.slotRead = some (slotNow s) ∧
        (∀ v, rd = .value v → vAt t.sns.hk k {} = { val := v, valid := true, age := 0, failed := false, fails := 0 }) ∧
        (rd = .failed → (vAt t.sns.hk k {}).val = (vAt s.sns.hk k {}).val ∧ (vAt t.sns.hk k {}).age = (vAt s.sns.hk k {}).age ∧
          (1 ≤ (vAt s.sns.hk k {}).fails → (vAt t.sns.hk k {}).failed = true) ∧
          (1 ≤ (vAt s.sns.hk k {}).fails → (vAt s.sns.hk k {}).failed = false → t.hdr[pgSns].err.testBit 19 = true)) ∧
        (∀ j, j ≠ k → vAt t.sns.hk j {} = vAt s.sns.hk j {}) ∧
        (∀ v, rd = .value v → k = 0 → t.sns.CORE_V_AON = sat 16 v.toNat ∧ (v < 7100 ∨ 7900 < v → t.sns.RANGE_OUT = true)) ∧
        (∀ v, rd = .value v → k = 1 → t.sns.CORE_T_CORE = max (-32768) (min 32767 v) ∧ (v < -640 ∨ 7360 < v → t.sns.RANGE_OUT = true)) ∧
        t = { s with seq := t.seq, beam := t.beam, ctl := t.ctl, fcs := t.fcs, sns := t.sns, vrg := t.vrg, mbs := t.mbs, mbn := t.mbn,
                     rck := t.rck, rel := t.rel, evt := t.evt, hdr := t.hdr }) ∧
    (s.rst.started = true → s.sns.roundDone < s.now / 4000 →
      ∃ t, exec .housekeepingRoundEnd s = .next t ∧ t.sns.roundDone = s.now / 4000 ∧ t.sns.HK_ROUNDS = satAdd 16 s.sns.HK_ROUNDS 1 ∧
        (∀ k : Fin 160, t.sns.hk[k] = { s.sns.hk[k] with age := min 255 (s.sns.hk[k].age + 1) }) ∧
        t.thm.BELOW_AGE = min 15 (s.thm.BELOW_AGE + 1) ∧ (s.sns.roundBad = true → t.sns.RANGE_IN_ROUNDS = 0) ∧
        (s.sns.roundBad = false → s.sns.hk[0].failed = false → s.sns.hk[1].failed = false →
          t.sns.RANGE_IN_ROUNDS = satAdd 8 s.sns.RANGE_IN_ROUNDS 1) ∧
        t = { s with thm := t.thm, sns := t.sns, vrg := t.vrg, frm := t.frm, rel := t.rel, evt := t.evt, hdr := t.hdr, free := t.free }) ∧
    (s.sns.RANGE_OUT = true → 100 ≤ s.sns.RANGE_IN_ROUNDS →
      ∃ t, exec .coreRangeEnd s = .next t ∧ t.sns = { s.sns with RANGE_OUT := false, outRounds := 0 } ∧
        t = { s with seq := t.seq, fcs := t.fcs, sns := t.sns, mbs := t.mbs, mbn := t.mbn, rck := t.rck, evt := t.evt, hdr := t.hdr }) ∧
    (s.cmn.straps.dieKind = false → s.rst.started = true → s.thm.STATE_BELOW_LOST = false → 3 ≤ s.thm.belowN →
      ∃ t, exec .belowLost s = .next t ∧ t.thm.STATE_BELOW_LOST = true ∧ t.hdr[pgThm].err.testBit 17 = true ∧
        t = { s with thm := t.thm, evt := t.evt, hdr := t.hdr }) ∧
    (∀ (i : Fin 3) (pos : BitVec 8), s.rst.started = true → pos.toNat < ringLen i.val →
      (pos.toNat < s.sns.ring[i].RING_B_FROM →
        ∃ t, exec (.linkResponseTimeout i pos) s = .next t ∧
          t.sns = { s.sns with ring := s.sns.ring.set i { s.sns.ring[i] with RING_BREAK := pos.toNat, RING_B_FROM := pos.toNat } } ∧
          t.hdr[pgSns].err.testBit 18 = true ∧ t = { s with sns := t.sns, evt := t.evt, hdr := t.hdr }) ∧
      (s.sns.ring[i].RING_B_FROM ≤ pos.toNat →
        ∃ t, exec (.linkResponseTimeout i pos) s = .next t ∧ t.sns.ring = s.sns.ring ∧
          (i.val = 1 → (vAt t.sns.ts pos.toNat {}).TS_FAILED = true) ∧ (i.val = 2 → (vAt t.rel.wear pos.toNat {}).WEAR_FAILED = true)))

/-- R337, R340, R341. A domain's codes move by one step at a time, a lowered throttle first and nothing while the clock is lost; the
timekeeper leaves a crystal whose amplitude collapses and selects it again after 2 ms of amplitude; a selection forced through is marked and
counted. -/
def Obligations.ClockCodesAndSource : Prop :=
  ∀ s : State,
    let moved := fun (c : Fin 25) (e : ClkDom) => ({ s with clk := { s.clk with dom := s.clk.dom.set c e } } : State)
    (∀ c : Fin 25, s.clk.dom[c].ST_LOST = false →
      (∀ e, e = s.clk.dom[c] → tTarget s c.val < e.ST_THR →
        exec (.clockCodeChange c) s = .next (moved c { e with ST_THR := e.ST_THR - 1, thrAt := s.now, MOVES_THR_MOVES := satAdd 16 e.MOVES_THR_MOVES 1 })) ∧
      (∀ e, e = s.clk.dom[c] → e.ST_THR ≤ tTarget s c.val → e.ST_F_TGT < e.ST_FSTEP → s.after e.fAt e.CFG_FGAP = true →
        exec (.clockCodeChange c) s = .next (moved c { e with ST_FSTEP := e.ST_FSTEP - 1, fAt := s.now, MOVES_F_MOVES := satAdd 16 e.MOVES_F_MOVES 1 })) ∧
      (∀ e, e = s.clk.dom[c] → e.ST_THR < tTarget s c.val → e.ST_FSTEP ≤ e.ST_F_TGT → e.ST_SSC = sscWant s c.val →
        s.after e.thrAt e.CFG_UP_GAP = true →
        exec (.clockCodeChange c) s = .next (moved c { e with ST_THR := e.ST_THR + 1, thrAt := s.now, MOVES_THR_MOVES := satAdd 16 e.MOVES_THR_MOVES 1 })) ∧
      (∀ e, e = s.clk.dom[c] → e.ST_THR = tTarget s c.val → e.ST_FSTEP < e.ST_F_TGT → e.ST_SSC = sscWant s c.val →
        s.after e.fAt e.CFG_FGAP = true →
        (s.beam.inEmg = false →
          exec (.clockCodeChange c) s = .next (moved c { e with ST_FSTEP := e.ST_FSTEP + 1, fAt := s.now, MOVES_F_MOVES := satAdd 16 e.MOVES_F_MOVES 1 })) ∧
        (s.beam.inEmg = true → exec (.clockCodeChange c) s = .next s))) ∧
    (∀ c : Fin 25, s.clk.dom[c].ST_LOST = true → exec (.clockCodeChange c) s = .next s) ∧
    (s.clk.TK_SRC = false → exec .xtalAmpLoss s = .next { s with clk := { s.clk with TK_AMP_OK := false, ampAt := s.now } }) ∧
    (s.clk.TK_SRC = true →
      ∃ t, exec .xtalAmpLoss s = .next t ∧
        t.clk = { s.clk with TK_AMP_OK := false, ampAt := s.now, TK_CNT_XTAL_LOSS := satAdd 16 s.clk.TK_CNT_XTAL_LOSS 1, TK_SRC := false,
                             TK_GLITCH := false, TK_CNT_SWITCHES := satAdd 16 s.clk.TK_CNT_SWITCHES 1 } ∧
        t.hdr[pgClk].err.testBit 18 = true ∧
        t = { s with seq := t.seq, clk := t.clk, mbs := t.mbs, mbn := t.mbn, rck := t.rck, evt := t.evt, hdr := t.hdr }) ∧
    (s.after s.clk.ampAt (2 * ticksPerMs) = true → s.clk.TK_CFG = true → s.clk.FORCE_SRC = 0 →
      ∃ t, exec .xtalSelect s = .next t ∧ t.clk.TK_AMP_OK = true ∧ t.clk.TK_SRC = true ∧
        (s.clk.TK_SRC = false → t.clk.TK_XTAL_SEEN = true ∧ t.clk.TK_CNT_SWITCHES = satAdd 16 s.clk.TK_CNT_SWITCHES 1) ∧
        t = { s with seq := t.seq, clk := t.clk, mbs := t.mbs, mbn := t.mbn, rck := t.rck, evt := t.evt, hdr := t.hdr }) ∧
    (∀ events, 64 ≤ events →
      ∃ t, exec (.sourceSelectionForced events) s = .next t ∧
        t.clk = { s.clk with TK_GLITCH := true, TK_HANGS := satAdd 8 s.clk.TK_HANGS 1 } ∧ t.hdr[pgClk].err.testBit 17 = true ∧
        t = { s with clk := t.clk, evt := t.evt, hdr := t.hdr })

/-- R362, R365, R366, R369. The PMBus master: a round starts with its first valid converter, a good read is kept and the next one follows, a
read whose PEC fails is tried again, one that is not acknowledged counts, a transaction that times out fails; host transactions end with their
status; alerts are recorded and muted after eight in one second; counters are asked to be kept once an hour. -/
def Obligations.PmbusRuns : Prop :=
  ∀ s : State,
    (pmbMaster s = true → s.pmb.inRound = false → s.after s.pmb.roundAt (s.pmb.CFG_POLL * ticksPerMs) = true → s.pmb.task = .none →
      s.pmb.host = none → s.pmb.reqs = [] → s.pmb.conv[0].CONV_VALID = true →
      exec .pollRound s = .next
        { s with pmb := { s.pmb with inRound := true, roundAt := s.now, failed := 0, next := 1, task := .poll 0 1 } }) ∧
    (∀ k tr, s.pmb.task = .poll k tr → s.pmb.host = none → s.pmb.reqs = [] → s.pmb.inRound = true → k < 16 →
      (∀ w : BitVec 16, k % 2 = 0 → s.pmb.next = k + 1 → (convOf s (k / 2)).CONV_VALID = true → s.pmb.failed.testBit (k / 2) = false →
        ∃ t, exec (.pmbusTransactionDone (.data w)) s = .next t ∧ t.pmb.task = .poll (k + 1) 1 ∧
          (convOf t (k / 2)).READ_VIN = sat 16 (toHundredths (lin16 (linear11 w.toNat)) 1).toNat ∧
          (convOf t (k / 2)).READ_IIN = (convOf s (k / 2)).READ_IIN ∧ t = { s with pmb := t.pmb }) ∧
      (tr < 3 →
        exec (.pmbusTransactionDone .pecBad) s = .next
          { s with pmb := { s.pmb with ERR_CNT_PEC := satAdd 16 s.pmb.ERR_CNT_PEC 1, task := .poll k (tr + 1) } })) ∧
    (s.pmb.task ≠ .none →
      (∃ t, exec (.pmbusTransactionDone .nack) s = .next t ∧ t.pmb.ERR_CNT_NACK = satAdd 16 s.pmb.ERR_CNT_NACK 1 ∧
        t.hdr[pgPmb].err.testBit 17 = true ∧
        t = { s with pmb := t.pmb, frm := t.frm, aut := t.aut, evt := t.evt, hdr := t.hdr })) ∧
    (∀ kind i c d tr, s.pmb.task = .host kind i c d tr → s.pmb.host = none → s.pmb.reqs = [] → s.pmb.inRound = false →
      (∀ w : BitVec 16, ∃ t, exec (.pmbusTransactionDone (.data w)) s = .next t ∧
        t.pmb = { s.pmb with task := .none, HOST_RES_DONE := true, HOST_RES_ST := 0, HOST_RES_RDATA := if kind = 3 then w.toNat else 0 } ∧
        t = { s with pmb := t.pmb, evt := t.evt, hdr := t.hdr }) ∧
      (∃ t, exec .smbusTimeout s = .next t ∧
        t.pmb = { s.pmb with task := .none, HOST_RES_DONE := true, HOST_RES_ST := 3, HOST_RES_RDATA := 0 } ∧
        t = { s with pmb := t.pmb, evt := t.evt, hdr := t.hdr })) ∧
    (∀ (addr : BitVec 7) (status : BitVec 16), pmbMaster s = true → s.pmb.muteAt = none →
      ∃ t, exec (.pmbAlert addr status) s = .next t ∧ t.pmb.ALERT_ALERTS = satAdd 16 s.pmb.ALERT_ALERTS 1 ∧
        t.pmb.ALERT_ADDR = addr.toNat ∧ t.pmb.ALERT_ST = status.toNat ∧
        (∀ i : Fin 8, s.pmb.conv[i].CONV_VALID = true → s.pmb.conv[i].CONV_ADDR = addr.toNat → t.pmb.conv[i].CST_STATUS = status.toNat) ∧
        (∀ i : Fin 8, s.pmb.conv[i].CONV_ADDR ≠ addr.toNat → t.pmb.conv[i] = s.pmb.conv[i]) ∧
        ((lastSecond s s.pmb.alertAt).length = 7 → t.pmb.muteAt = some s.now ∧ t.hdr[pgPmb].err.testBit 18 = true) ∧
        t = { s with pmb := t.pmb, evt := t.evt, hdr := t.hdr }) ∧
    (∀ a, s.pmb.muteAt = some a → s.after a ticksPerS = true →
      exec .alertMuteEnd s = .next { s with pmb := { s.pmb with muteAt := none, alertAt := [] } }) ∧
    (s.evt.norest = false → s.pmb.persHr < optime s / 3600000 →
      ∃ t, exec .counterPersist s = .next t ∧ t.pmb.persHr = optime s / 3600000 ∧
        (s.frm.FORM_FMAJ ≠ 2 → s.frm.ROLE_PMB = myPos s → s.pmb.task ≠ .none →
          t.pmb.reqs = s.pmb.reqs ++ [CtrReq.mk (myPos s) s.cmn.fuses.dieId.toNat true (optime s % 2 ^ 48) s.evt.PCYCLE true]) ∧
        (s.frm.FORM_FMAJ ≠ 2 → s.frm.ROLE_PMB ≠ myPos s → t.pmb = { s.pmb with persHr := optime s / 3600000 }) ∧
        t = { s with pmb := t.pmb, frm := t.frm, evt := t.evt, hdr := t.hdr })

/-- R377, R378, R379, R380. A hop of the frame: an intact IDLE gives its acknowledgement; a CRC failure counts, and the sixteenth
within 1 ms asks for a lane check; an unacknowledged message leaves again, until a lane check and then the link's fall; a
silent link goes down. R379, R380. Training and lane checks: the active lanes must pass twice in a row; on a link that is up
the second word gives the verdict, which changes nothing, brings the spare lane in, or takes the link down; a LANE request
starts the sender's check and its answer ends it. R59, R334. A crossing that makes no progress, or a generator that lowers
clk_gen_ok, makes its domain clock-lost, and the die-to-die domain takes the frame's links with it; the crossing resumes once
clk_gen_ok has been high for 16 ticks. -/
def Obligations.FrameHopsRun : Prop :=
  (∀ (s : State) (d : Dir),
    (∀ m, frmIntact s m 0x00 = true →
      ∃ t, exec (.frmIdle d m) s = .next t ∧ (t.link d).rxAt = s.now ∧ (t.link d).rxNext = (s.link d).rxNext ∧
        (∀ i, (s.link d).unack.findIdx? (fun x => decide (mLseq x = mLack m)) = some i → (s.link d).wait = [] →
          (t.link d).unack = (s.link d).unack.drop (i + 1) ∧ (t.link d).tries = 0) ∧
        ((s.link d).unack.findIdx? (fun x => decide (mLseq x = mLack m)) = none → (t.link d).unack = (s.link d).unack) ∧
        t.link (Dir.other d) = s.link (Dir.other d) ∧ t = { s with frm := t.frm, rel := t.rel }) ∧
    (frmAlive s = true → ∃ l, l = (s.link d).crcAt.filter (fun a => decide (s.now < a + ticksPerMs)) ++ [s.now] ∧
      ∃ t, exec (.frmCrcErr d) s = .next t ∧ t.frm.CNT_CRC_ERR = satAdd 16 s.frm.CNT_CRC_ERR 1 ∧
        (l.length < 16 → t.link d = { s.link d with crcAt := l }) ∧
        (16 ≤ l.length → (t.link d).crcAt = [] ∧ mType (t.link d).last = 0x01 ∧ mf (t.link d).last 90 1 = 1) ∧ t = { s with frm := t.frm }) ∧
    (frmAlive s = true → (s.link d).up = true → (s.link d).unack ≠ [] → (s.link d).checking = false →
      ((s.link d).tries < 2 →
        ∃ t, exec (.frmRetryTimeout d) s = .next t ∧ (t.link d).tries = (s.link d).tries + 1 ∧ (t.link d).retryAt = s.now ∧
          (t.link d).unack.length = (s.link d).unack.length ∧
          t.frm.CNT_RETRIES = satAdd 16 s.frm.CNT_RETRIES (s.link d).unack.length ∧ t = { s with frm := t.frm }) ∧
      (2 ≤ (s.link d).tries → (s.link d).checked = false →
        ∃ t, exec (.frmRetryTimeout d) s = .next t ∧ (t.link d).checking = true ∧ (t.link d).tries = 0 ∧
          t.rel.REPLAY_RETIRED = satAdd 16 s.rel.REPLAY_RETIRED 1 ∧ t = { s with frm := t.frm, rel := t.rel, evt := t.evt, hdr := t.hdr }) ∧
      (2 ≤ (s.link d).tries → (s.link d).checked = true →
        ∃ t, exec (.frmRetryTimeout d) s = .next t ∧ (t.link d).up = false ∧ t.frm.CNT2_DOWNS = satAdd 16 s.frm.CNT2_DOWNS 1 ∧
          t = { s with adm := t.adm, frm := t.frm, tre := t.tre, mbs := t.mbs, mbn := t.mbn, rck := t.rck, aut := t.aut, evt := t.evt,
                       hdr := t.hdr })) ∧
    (s.rst.live = true → (s.link d).up = true →
      ∃ t, exec (.linkSilence d) s = .next t ∧ (t.link d).up = false ∧ (t.link d).unack = [] ∧ (t.link d).train = 0 ∧
        t.frm.CNT2_DOWNS = satAdd 16 s.frm.CNT2_DOWNS 1 ∧ t.hdr[pgFrm].err.testBit 17 = true ∧
        t = { s with adm := t.adm, frm := t.frm, tre := t.tre, mbs := t.mbs, mbn := t.mbn, rck := t.rck, aut := t.aut, evt := t.evt,
                     hdr := t.hdr })) ∧
  (∀ (s : State) (d : Dir), frmAlive s = true →
    (∀ (good : BitVec 5) bad, bad = 31 ^^^ good.toNat →
      ((s.link d).up = false → rxLanes s d &&& bad ≠ 0 →
        ∃ t, exec (.trainingWord d good) s = .next t ∧ t.link d = { s.link d with train := 0 } ∧ t = { s with frm := t.frm }) ∧
      ((s.link d).up = false → rxLanes s d &&& bad = 0 →
        ∃ t, exec (.trainingWord d good) s = .next t ∧ (t.link d).train = min 2 ((s.link d).train + 1) ∧
          ((s.link d).train = 1 → (s.link d).hello = true → (t.link d).up = true) ∧
          t = { s with adm := t.adm, frm := t.frm, tre := t.tre, mbs := t.mbs, mbn := t.mbn, rck := t.rck, aut := t.aut, evt := t.evt,
                       hdr := t.hdr }) ∧
      ((s.link d).up = true → (s.link d).chkN = 0 →
        ∃ t, exec (.trainingWord d good) s = .next t ∧ t.link d = { s.link d with chkN := 1, chkBad := (s.link d).chkBad ||| bad } ∧
          t = { s with frm := t.frm }) ∧
      (∀ act failed, (s.link d).up = true → (s.link d).chkN = 1 → act = rxLanes s d → failed = (s.link d).chkBad ||| bad →
        (act &&& failed = 0 →
          ∃ t, exec (.trainingWord d good) s = .next t ∧ rxLanes t d = act ∧ (t.link d).chkN = 0 ∧ (t.link d).up = true ∧
            mType (t.link d).last = 0x01 ∧ mf (t.link d).last 91 5 = failed % 32 ∧ t = { s with frm := t.frm }) ∧
        (act = 15 → popcount 4 (act &&& failed) = 1 → failed.testBit 4 = false →
          ∃ t, exec (.trainingWord d good) s = .next t ∧ rxLanes t d = ((act &&& (31 ^^^ failed)) ||| 16) ∧ (t.link d).up = true ∧
            t.hdr[pgFrm].err.testBit 18 = true ∧
            t = { s with seq := t.seq, frm := t.frm, mbs := t.mbs, mbn := t.mbn, rck := t.rck, evt := t.evt, hdr := t.hdr }) ∧
        (act = 15 → 2 ≤ popcount 4 (act &&& failed) →
          ∃ t, exec (.trainingWord d good) s = .next t ∧ (t.link d).up = false ∧ t.hdr[pgFrm].err.testBit 19 = true ∧
            t = { s with adm := t.adm, frm := t.frm, tre := t.tre, mbs := t.mbs, mbn := t.mbn, rck := t.rck, aut := t.aut, evt := t.evt,
                         hdr := t.hdr }))) ∧
    (∀ m, frmIntact s m 0x01 = true → (s.link d).unack = [] →
      (mf m 90 1 = 1 →
        ∃ t, exec (.frmLane d m) s = .next t ∧ t.link d = { s.link d with rxAt := s.now, checking := true, tries := 0 } ∧
          t = { s with frm := t.frm }) ∧
      (∀ l, mf m 90 1 = 0 → (s.link d).checking = true → lanesAfter (s.link d).tx (mf m 91 5) = some l →
        ∃ t, exec (.frmLane d m) s = .next t ∧ (t.link d).tx = l ∧ (t.link d).checking = false ∧ (t.link d).checked = true ∧
          (t.link d).tries = 0 ∧ (t.link d).up = (s.link d).up ∧ t = { s with frm := t.frm }) ∧
      (mf m 90 1 = 0 → (s.link d).checking = true → lanesAfter (s.link d).tx (mf m 91 5) = none →
        ∃ t, exec (.frmLane d m) s = .next t ∧ (t.link d).up = false ∧
          t = { s with adm := t.adm, frm := t.frm, tre := t.tre, mbs := t.mbs, mbn := t.mbn, rck := t.rck, aut := t.aut, evt := t.evt,
                       hdr := t.hdr }))) ∧
  (∀ (s : State) (c : Fin 25), s.rst.live = true →
    (s.clk.dom[c].ST_LOST = false →
      (∃ t, exec (.crossingTimeout c) s = .next t ∧
        t.clk = { s.clk with dom := s.clk.dom.set c { s.clk.dom[c] with ST_LOST := true, lostAt := s.now, lowAt := s.now } } ∧
        t.hdr[pgClk].err.testBit 16 = true ∧
        (c.val = s.cmn.straps.d2dCd.toNat → t.frm.east.up = false ∧ t.frm.west.up = false) ∧
        (c.val ≠ s.cmn.straps.d2dCd.toNat → t.frm = s.frm) ∧
        (c.val ≠ s.cmn.straps.d2dCd.toNat → c.val ≠ s.cmn.straps.netCd.toNat → t = { s with clk := t.clk, evt := t.evt, hdr := t.hdr })) ∧
      (∃ t, exec (.clkGenOkLow c) s = .next t ∧
        t.clk = { s.clk with dom := s.clk.dom.set c { s.clk.dom[c] with genLow := true, ST_LOST := true, lostAt := s.now, lowAt := s.now } } ∧
        t.hdr[pgClk].err.testBit 16 = true ∧
        (c.val = s.cmn.straps.d2dCd.toNat → t.frm.east.up = false ∧ t.frm.west.up = false) ∧
        (c.val ≠ s.cmn.straps.d2dCd.toNat → c.val ≠ s.cmn.straps.netCd.toNat → t = { s with clk := t.clk, evt := t.evt, hdr := t.hdr }))) ∧
    (s.clk.dom[c].ST_LOST = true →
      exec (.crossingTimeout c) s = .next s ∧
      exec (.clkGenOkLow c) s = .next { s with clk := { s.clk with dom := s.clk.dom.set c { s.clk.dom[c] with genLow := true, lowAt := s.now } } } ∧
      (s.after s.clk.dom[c].lowAt 16 = true →
        ∃ t, exec (.crossingResume c) s = .next t ∧
          t.clk = { s.clk with dom := s.clk.dom.set c { s.clk.dom[c] with ST_LOST := false, genLow := false } } ∧
          t = { s with clk := t.clk, evt := t.evt, hdr := t.hdr })))

/-- R383, R384, R385, R387, R396, R400. Formation: a member broadcasts HELLO from the start and every 20 µs; a HELLO makes its sender
known; the member that R387 names checks the roster and forms the frame or fails it; FORMED does the same at the others, and one sent to a single member lets it join
with no share; a LINK message is kept with its member. -/
def Obligations.FramesForm : Prop :=
  ∀ s : State,
    (frmAlive s = true → s.frm.FORM_STATE = 0 →
      ∃ t, exec .helloBroadcast s = .next t ∧ t.frm.FORM_STATE = 1 ∧ t.frm.pos = [myPos s] ∧ t.frm.rosterAt = s.now ∧
        t.frm.helloAt = s.now ∧ t = { s with frm := t.frm }) ∧
    (frmAlive s = true → s.frm.FORM_STATE = 1 → s.after s.frm.helloAt 80 = true →
      ∃ t, exec .helloBroadcast s = .next t ∧ t.frm.helloAt = s.now ∧ t.frm.pos = s.frm.pos ∧ t.frm.member = s.frm.member ∧
        t = { s with frm := t.frm }) ∧
    (∀ (d : Dir) m, frmIntact s m 0x02 = true → mLseq m = (s.link d).rxNext → mSrc m ≠ myPos s → mSrc m < 24 → mDst m = 31 →
      s.frm.FORM_STATE = 1 → s.frm.pos.contains (mSrc m) = false →
      ∃ t, exec (.frmHello d m) s = .next t ∧ t.frm.pos = mSrc m :: s.frm.pos ∧ t.frm.rosterAt = s.now ∧
        memberOf t (mSrc m) = (memberOf s (mSrc m)).hello m ∧ (∀ p, p ≠ mSrc m → memberOf t p = memberOf s p) ∧
        (t.link d).hello = true ∧ ((s.link d).hello = false → (t.link d).partner = mSrc m) ∧ (2 ≤ (s.link d).train → (t.link d).up = true) ∧
        t = { s with frm := t.frm, rel := t.rel, evt := t.evt, hdr := t.hdr }) ∧
    (frmAlive s = true → s.frm.FORM_STATE = 1 → s.after s.frm.rosterAt 800 = true → reckonerOf s s.frm.pos = myPos s → myPos s < 24 →
      (rosterErr s s.frm.pos ≠ 0 →
        ∃ t, exec .formationDecide s = .next t ∧ t.frm.FORM_STATE = 3 ∧ t.frm.FORM_ERR = rosterErr s s.frm.pos ∧
          t.hdr[pgFrm].err.testBit 16 = true ∧ t = { s with frm := t.frm, evt := t.evt, hdr := t.hdr }) ∧
      (rosterErr s s.frm.pos = 0 →
        ∃ t, exec .formationDecide s = .next t ∧ t.frm.FORM_STATE = 2 ∧ t.frm.FORM_ERR = 0 ∧ t.frm.FSEQ = 0 ∧ t.frm.formedAt = s.now ∧
          t.frm.ROLE_RECKONER = myPos s ∧ t.frm.FORM_FMAJ = (frameVer s s.frm.pos).1 ∧ t.frm.FORM_FMIN = (frameVer s s.frm.pos).2 ∧
          t.frm.attempt = s.frm.attempt + 1 ∧
          t = { s with adm := t.adm, pmb := t.pmb, frm := t.frm, tre := t.tre, mbs := t.mbs, mbn := t.mbn, rck := t.rck, aut := t.aut,
                       evt := t.evt, hdr := t.hdr })) ∧
    (∀ (d : Dir) m, frmAccepts s d m 0x03 = true →
      (mDst m = 31 → s.frm.FORM_STATE = 1 → mf m 52 4 ≠ 0 →
        ∃ t, exec (.frmFormed d m) s = .next t ∧ t.frm.FORM_STATE = 3 ∧ t.frm.FORM_ERR = mf m 52 4 ∧ t.hdr[pgFrm].err.testBit 16 = true ∧
          t = { s with frm := t.frm, rel := t.rel, evt := t.evt, hdr := t.hdr }) ∧
      (mDst m = 31 → s.frm.FORM_STATE = 1 → mf m 52 4 = 0 → mf m 72 24 = posMask s.frm.pos →
        ∃ t, exec (.frmFormed d m) s = .next t ∧ t.frm.FORM_STATE = 2 ∧ t.frm.FORM_ERR = 0 ∧ t.frm.FORM_FMAJ = mf m 64 8 ∧
          t.frm.FORM_FMIN = mf m 56 8 ∧ t.frm.attempt = mf m 45 2 ∧ t.frm.FSEQ = 0 ∧ t.frm.formedAt = s.now ∧
          t = { s with adm := t.adm, pmb := t.pmb, frm := t.frm, tre := t.tre, mbs := t.mbs, mbn := t.mbn, rck := t.rck, aut := t.aut,
                       rel := t.rel, evt := t.evt, hdr := t.hdr }) ∧
      (mDst m = 31 → s.frm.FORM_STATE = 1 → mf m 52 4 = 0 → mf m 72 24 ≠ posMask s.frm.pos →
        ∃ t, exec (.frmFormed d m) s = .next t ∧ t.frm.FORM_STATE = 1 ∧ t.frm.helloAt = s.now ∧ t = { s with frm := t.frm, rel := t.rel }) ∧
      (mDst m ≠ 31 → frmMine s m = true → mf m 52 4 = 0 →
        ∃ t, exec (.frmFormed d m) s = .next t ∧ t.frm.FORM_STATE = 2 ∧ t.frm.joined = true ∧ t.frm.firstShare = false ∧ t.adm.SHARE = 0 ∧
          t = { s with adm := t.adm, pmb := t.pmb, frm := t.frm, tre := t.tre, mbs := t.mbs, mbn := t.mbn, rck := t.rck, aut := t.aut,
                       rel := t.rel, evt := t.evt, hdr := t.hdr })) ∧
    (∀ (d : Dir) m, frmAccepts s d m 0x04 = true → mDst m = 31 → mf m 91 5 ≠ myPos s → mf m 91 5 < 24 →
      ∃ t, exec (.frmLink d m) s = .next t ∧
        (mf m 90 1 = 0 → (memberOf t (mf m 91 5)).eDown = decide (mf m 89 1 = 0) ∧
          (memberOf t (mf m 91 5)).wDown = (memberOf s (mf m 91 5)).wDown) ∧
        (mf m 90 1 = 1 → (memberOf t (mf m 91 5)).wDown = decide (mf m 89 1 = 0) ∧
          (memberOf t (mf m 91 5)).eDown = (memberOf s (mf m 91 5)).eDown) ∧
        t = { s with adm := t.adm, frm := t.frm, tre := t.tre, mbs := t.mbs, mbn := t.mbn, rck := t.rck, aut := t.aut, rel := t.rel,
                     evt := t.evt, hdr := t.hdr })

/-- R175, R176, R390, R391, R393. Shares, demands, caps and loans: a SHARE of the epoch comes into force, one of the next is held,
any other is discarded; its answer lets the first wave go on; a DEMAND and a CAP are kept with their member; an ask is lent
what R175 leaves; a loan counts once, in its epoch and outside the drain window; DEMAND leaves 64 µs before the end of the
epoch. R386, R392, R394, R397, R398. An isolated member is cut to its FLOOR after half of HOLD; the reckoner frees a held
share down to FLOOR after HOLD; at major version 2 the second wave leaves on its time. -/
def Obligations.SharesRun : Prop :=
  (∀ (s : State) (d : Dir) (m : BitVec 128), mSrc m < 24 →
    (frmAccepts s d m 0x09 = true → frmMine s m = true →
      (mf m 88 8 = s.tly.EPOCH_NUM →
        ∃ t, exec (.frmShare d m) s = .next t ∧ t.adm.SHARE = mf m 54 32 ∧ t.frm.floorRx = mf m 38 16 ∧ t.frm.firstShare = true ∧
          t.frm.shareNext = s.frm.shareNext ∧ t = { s with adm := t.adm, frm := t.frm, rel := t.rel }) ∧
      (mf m 88 8 ≠ s.tly.EPOCH_NUM → mf m 88 8 = (s.tly.EPOCH_NUM + 1) % 256 →
        ∃ t, exec (.frmShare d m) s = .next t ∧ t.frm.shareNext = some (mf m 54 32, mf m 38 16) ∧ t = { s with frm := t.frm, rel := t.rel }) ∧
      (mf m 88 8 ≠ s.tly.EPOCH_NUM → mf m 88 8 ≠ (s.tly.EPOCH_NUM + 1) % 256 →
        ∃ t, exec (.frmShare d m) s = .next t ∧ t.frm.shareNext = s.frm.shareNext ∧ t = { s with frm := t.frm, rel := t.rel })) ∧
    (frmAccepts s d m 0x0A = true → frmMine s m = true → isReckoner s = true → mf m 88 8 = s.tly.EPOCH_NUM → mSrc m ∈ s.frm.wave →
      ∃ t, exec (.frmShareAck d m) s = .next t ∧ t.frm.wave = s.frm.wave.filter (fun x => x ≠ mSrc m) ∧
        (t.frm.wave = [] → s.frm.v2 = false → t.frm.wave2 = []) ∧ (t.frm.wave ≠ [] → t.frm.wave2 = s.frm.wave2 ∧ t.adm = s.adm) ∧
        t = { s with adm := t.adm, frm := t.frm, rel := t.rel }) ∧
    (frmAccepts s d m 0x0B = true → frmMine s m = true →
      ∃ t, exec (.frmDemand d m) s = .next t ∧
        t.frm.member = vMod s.frm.member (mSrc m) (fun e => { e with demand := some (mf m 54 32) }) ∧
        t = { s with frm := t.frm, rel := t.rel }) ∧
    (frmAccepts s d m 0x0C = true → frmMine s m = true →
      ∃ t, exec (.frmCap d m) s = .next t ∧ (memberOf t (mSrc m)).hostCap = mf m 64 32 ∧ (memberOf t (mSrc m)).rackCap = mf m 32 32 ∧
        (isReckoner s = false → t.adm = s.adm ∧ t.frm.BUDGET = s.frm.BUDGET) ∧
        t = { s with adm := t.adm, frm := t.frm, tre := t.tre, mbs := t.mbs, mbn := t.mbn, rck := t.rck, rel := t.rel, evt := t.evt,
                     hdr := t.hdr }) ∧
    (frmAccepts s d m 0x10 = true → frmMine s m = true →
      (lendable s (mf m 48 32) = 0 → ∃ t, exec (.frmAsk d m) s = .next t ∧ t.adm = s.adm ∧ t = { s with frm := t.frm, rel := t.rel }) ∧
      (lendable s (mf m 48 32) ≠ 0 →
        ∃ t, exec (.frmAsk d m) s = .next t ∧
          t.adm = { s.adm with LOAN_OUT := sat 32 (s.adm.LOAN_OUT + lendable s (mf m 48 32)),
                               LOAN_CNT_LENT := satAdd 16 s.adm.LOAN_CNT_LENT 1 } ∧
          t = { s with adm := t.adm, frm := t.frm, rel := t.rel })) ∧
    (frmAccepts s d m 0x11 = true → frmMine s m = true →
      (mf m 48 32 = 0 →
        ∃ t, exec (.frmLoan d m) s = .next t ∧ t.adm = { s.adm with askAt := none } ∧ t = { s with adm := t.adm, frm := t.frm, rel := t.rel }) ∧
      (mf m 48 32 ≠ 0 → mf m 88 8 = s.tly.EPOCH_NUM → s.tly.EPOCH_DRAIN = false → mf m 80 8 ∉ (memberOf s (mSrc m)).pseqRx →
        ∃ t, exec (.frmLoan d m) s = .next t ∧
          t.adm = { s.adm with askAt := none, LOAN_IN := sat 32 (s.adm.LOAN_IN + mf m 48 32) } ∧
          mf m 80 8 ∈ (memberOf t (mSrc m)).pseqRx ∧ t = { s with adm := t.adm, frm := t.frm, rel := t.rel }) ∧
      (mf m 48 32 ≠ 0 → (mf m 88 8 ≠ s.tly.EPOCH_NUM ∨ s.tly.EPOCH_DRAIN = true ∨ mf m 80 8 ∈ (memberOf s (mSrc m)).pseqRx) →
        ∃ t, exec (.frmLoan d m) s = .next t ∧
          t.adm = { s.adm with askAt := none, LOAN_CNT_DISC := satAdd 16 s.adm.LOAN_CNT_DISC 1 } ∧ t.frm.member = s.frm.member ∧
          t = { s with adm := t.adm, frm := t.frm, rel := t.rel, evt := t.evt, hdr := t.hdr })) ∧
    (s.frm.FORM_STATE = 2 → s.frm.demandSent = false → s.tly.lenInForce ≤ s.usSince s.tly.bndAt + 64 →
      ∃ t, exec .demandSend s = .next t ∧ t.frm.demandSent = true ∧
        (isReckoner s = true → myPos s < 24 →
          (memberOf t (myPos s)).demand = some (sat 32 (max s.frm.peak (pBase s + pBooked s)))) ∧
        (isReckoner s = false → t.frm.member = s.frm.member) ∧ t = { s with frm := t.frm })) ∧
  (∀ s : State,
    (∀ a, s.frm.isoAt = some a → s.frm.isoCut = false → s.after a (s.frm.CFG * ticksPerMs / 2) = true →
      ∃ t, exec .isolationCut s = .next t ∧ t.adm = { s.adm with SHARE := min s.adm.SHARE (1000 * s.frm.floorRx) } ∧
        t.frm = { s.frm with isoCut := true } ∧ t.hdr[pgFrm].err.testBit 21 = true ∧
        t = { s with adm := t.adm, frm := t.frm, evt := t.evt, hdr := t.hdr }) ∧
    (∀ m : Fin 24, 0 < s.frm.member[m].heldMw → s.frm.member[m].heldCut = false →
      s.after s.frm.member[m].heldAt (max 1 s.frm.CFG * ticksPerMs) = true →
      ∃ t, exec (.heldShareFree m) s = .next t ∧
        t.frm = { s.frm with member := s.frm.member.set m { s.frm.member[m] with
          heldMw := min s.frm.member[m].heldMw (1000 * memberFloor s s.frm.member[m]), heldCut := true } } ∧
        t = { s with frm := t.frm, evt := t.evt, hdr := t.hdr }) ∧
    (s.frm.v2 = true → s.after s.frm.v2At 256 = true →
      ∃ t, exec .secondWave s = .next t ∧ t.frm.v2 = false ∧ t.frm.wave2 = [] ∧
        (∀ w, s.frm.wave2 = [(myPos s, w)] → myPos s < 24 →
          t.adm = { s.adm with SHARE := w } ∧ (memberOf t (myPos s)).SHARE = w) ∧
        (∀ p w, s.frm.wave2 = [(p, w)] → p ≠ myPos s → p < 24 → t.adm = s.adm ∧ (memberOf t p).SHARE = w) ∧
        t = { s with adm := t.adm, frm := t.frm }))

/-- R289, R363, R368, R369. What members tell each other of temperature, input and counters: a stacked die takes the die maximum of the base die
beneath it; every member takes the input figures from the PMB_EN member; counter requests are queued at the master, their data completes a write, and an answer
restores the member's counters or starts them afresh. -/
def Obligations.FiguresAreExchanged : Prop :=
  ∀ (s : State) (d : Dir) (m : BitVec 128),
    (frmAccepts s d m 0x14 = true → mDst m = 31 → s.frm.FORM_FMAJ ≠ 2 →
      (stacked s = true → mSrc m = s.cmn.straps.below.toNat → mf m 79 1 = 1 →
        ∃ t, exec (.frmThermal d m) s = .next t ∧
          t.thm = { s.thm with BELOW_T_BELOW := sextOf (mf m 80 16) 16, BELOW_AGE := 0, belowN := 0, STATE_BELOW_LOST := false } ∧
          t = { s with thm := t.thm, frm := t.frm, rel := t.rel }) ∧
      (stacked s = false ∨ mSrc m ≠ s.cmn.straps.below.toNat ∨ mf m 79 1 ≠ 1 →
        ∃ t, exec (.frmThermal d m) s = .next t ∧ t = { s with frm := t.frm, rel := t.rel })) ∧
    (frmAccepts s d m 0x15 = true → mDst m = 31 →
      (mSrc m = s.frm.ROLE_PMB →
        ∃ t, exec (.frmInput d m) s = .next t ∧
          t.pmb = { s.pmb with VIN_VIN := mf m 80 16, vinAt := agedTick s (mf m 64 16), IIN := mf m 48 16,
                               iinAt := agedTick s (mf m 32 16) } ∧
          t = { s with pmb := t.pmb, frm := t.frm, rel := t.rel }) ∧
      (mSrc m ≠ s.frm.ROLE_PMB → ∃ t, exec (.frmInput d m) s = .next t ∧ t = { s with frm := t.frm, rel := t.rel })) ∧
    (frmAccepts s d m 0x16 = true → frmMine s m = true → pmbMaster s = true → s.pmb.task ≠ .none →
      ∃ t, exec (.frmCtrId d m) s = .next t ∧
        t.pmb = { s.pmb with reqs := s.pmb.reqs ++ [{ pos := mSrc m, id := mf m 31 64, write := decide (mf m 95 1 = 1),
                                                      ready := !decide (mf m 95 1 = 1) }] } ∧
        t = { s with pmb := t.pmb, frm := t.frm, rel := t.rel }) ∧
    (frmAccepts s d m 0x17 = true → frmMine s m = true →
      (pmbMaster s = true → s.pmb.task ≠ .none → ∀ q, s.pmb.reqs = [q] → q.pos = mSrc m → q.write = true → q.ready = false →
        ∃ t, exec (.frmCtrData d m) s = .next t ∧
          t.pmb = { s.pmb with reqs := [{ q with ready := true, optime := mf m 48 48, pcycle := mf m 16 32 }] } ∧
          t = { s with pmb := t.pmb, frm := t.frm, rel := t.rel }) ∧
      (pmbMaster s = false → mSrc m = s.frm.ROLE_PMB →
        ∃ t, exec (.frmCtrData d m) s = .next t ∧ t.pmb = { s.pmb with answer := some (mf m 48 48, mf m 16 32) } ∧
          t = { s with pmb := t.pmb, frm := t.frm, rel := t.rel })) ∧
    (frmAccepts s d m 0x18 = true → frmMine s m = true → mSrc m = s.frm.ROLE_PMB → s.evt.norest = true →
      (∀ o c, mf m 94 2 = 0 → s.pmb.answer = some (o, c) →
        ∃ t, exec (.frmCtrStat d m) s = .next t ∧ t.evt.norest = false ∧ t.evt.optBase = o ∧ t.evt.PCYCLE = (c + 1) % 2 ^ 32 ∧
          t.pmb.PERS_RESTORED = true ∧
          t = { s with pmb := t.pmb, frm := t.frm, aut := t.aut, rel := t.rel, evt := t.evt, hdr := t.hdr }) ∧
      (mf m 94 2 ≠ 0 → mf m 94 2 ≠ 3 →
        ∃ t, exec (.frmCtrStat d m) s = .next t ∧ t.evt.norest = false ∧ t.evt.optBase = 0 ∧ t.evt.PCYCLE = 1 ∧
          t.pmb.PERS_RESTORED = false ∧
          t = { s with pmb := t.pmb, frm := t.frm, aut := t.aut, rel := t.rel, evt := t.evt, hdr := t.hdr }))

/-- R404, R405, R406. A child's link start: the parent's HELLO gives the version and is answered with HELLO; its SYNC is answered with
SYNC_ACK, authenticated over the challenge; a SYNC_ACK that its check confirms synchronises the parent, and one that it does not is counted; another LINK_ID in IDENT
undoes both; the standby follows what it hears. -/
def Obligations.ChildStartsItsLink : Prop :=
  ∀ (s : State) (f : KFrame), kPort f = s.tre.CFG_MYPORT →
    (fromParent s f 3 = true →
      ∃ t, exec (.treHello .up f) s = .next t ∧ t.tre.ver = some (lowerVer f) ∧ t.tre.helloDue = false ∧ t.tre.txUp = s.tre.txUp + 1 ∧
        t.tre.lastUp = kBytes (kHdr 3 1 s.tre.CFG_MYPORT) kHelloPay ((s.tre.txUp + 1) % 65536)
          (kMac t (linkIdUp t) (kHdr 3 1 s.tre.CFG_MYPORT) kHelloPay (s.tre.txUp + 1) []) ∧
        t.tre.synced = s.tre.synced ∧ t = { s with tre := t.tre }) ∧
    (fromParent s f 1 = true → syncOpen s s.tre.ackAt = true → s.tre.helloDue = false → s.tre.ver.isSome = true →
      ∃ t, exec (.treSync .up f) s = .next t ∧ t.tre.ackAt = some s.now ∧ t.tre.ackDue = none ∧ t.tre.txUp = s.tre.txUp + 1 ∧
        t.tre.lastUp = kBytes (kHdr 2 1 s.tre.CFG_MYPORT) (kAckPay s.tre.txUp) ((s.tre.txUp + 1) % 65536)
          (kMac s (linkIdUp s) (kHdr 2 1 s.tre.CFG_MYPORT) (kAckPay s.tre.txUp) (s.tre.txUp + 1) (bytesLE 4 f.payload.toNat)) ∧
        t = { s with tre := t.tre }) ∧
    (∀ x, fromParent s f 2 = true → s.tre.chal = some x →
      ((parentCheck s f (bytesLE 4 x)).2 = true →
        ∃ t, exec (.treSyncAck .up f) s = .next t ∧ t.tre.synced = true ∧ t.tre.idSure = true ∧ t.tre.chal = none ∧
          t.tre.ctrUp = f.payload.toNat * 65536 + f.ctrLo.toNat ∧ t.tre.badRun = 0 ∧ t.tre.rxAt = some s.now ∧ t.tre.lost = false ∧
          t = { s with tre := t.tre, evt := t.evt, hdr := t.hdr }) ∧
      ((parentCheck s f (bytesLE 4 x)).2 = false →
        ∃ t, exec (.treSyncAck .up f) s = .next t ∧ t.tre.CNT_BAD = satAdd 16 s.tre.CNT_BAD 1 ∧ t.tre.synced = s.tre.synced ∧
          t.tre.ctrUp = s.tre.ctrUp ∧ t.hdr[pgTre].err.testBit 18 = true ∧
          (15 ≤ (lastSecond s s.tre.badAt).length → t.tre.muteAt = some s.now ∧ t.hdr[pgTre].err.testBit 19 = true) ∧
          t = { s with adm := t.adm, frm := t.frm, tre := t.tre, mbs := t.mbs, mbn := t.mbn, rck := t.rck, evt := t.evt, hdr := t.hdr })) ∧
    (fromParent s f 4 = true → verOld s.tre.ver = false → f.payload.toNat ≠ s.tre.linkId →
      ∃ t, exec (.treIdent .up f) s = .next t ∧ t.tre.linkId = f.payload.toNat ∧ t.tre.idSure = false ∧ t.tre.synced = false ∧
        t.tre.ctrUp = s.tre.ctrUp ∧ t = { s with tre := t.tre, free := t.free }) ∧
    (∀ bus, treLive s = true → trePins s = true → treActive s = false → kType f = 5 →
      exec (.trePoll bus f) s = .next (s.follow bus f))

/-- R406, R407, R408, R409, R410, R411. The parent's frames at a synchronised child: a POLL that its check confirms is answered with DEMAND, and
MISSED from 2 up loses the parent; a lower BUDGET applies at once and a higher one waits for the boundary; a CUT applies once for its CSEQ; what the
rate limits refuse is counted. -/
def Obligations.ChildObeysItsParent : Prop :=
  ∀ (s : State) (f : KFrame) (c : Nat), parentCheck s f [] = (c, true) → childIdle s = true →
    (fromParent s f 5 = true → kPort f = s.tre.CFG_MYPORT → f.payload.toNat % 256 < 2 →
      ∃ t, exec (.trePoll .up f) s = .next t ∧ t.tre.ctrUp = c ∧ t.tre.badRun = 0 ∧ t.tre.rxAt = some s.now ∧ t.tre.lost = false ∧
        t.tre.DEMAND = treDemandUp s ∧ t.tre.txUp = s.tre.txUp + 1 ∧
        t.tre.lastUp = kBytes (kHdr 6 1 s.tre.CFG_MYPORT) (treDemandUp s) ((s.tre.txUp + 1) % 65536)
          (kMac s (linkIdUp s) (kHdr 6 1 s.tre.CFG_MYPORT) (treDemandUp s) (s.tre.txUp + 1) []) ∧
        t = { s with tre := t.tre }) ∧
    (fromParent s f 5 = true → 2 ≤ f.payload.toNat % 256 →
      ∃ t, exec (.trePoll .up f) s = .next t ∧ t.tre.lost = true ∧ t.tre.PARENT_BUD = s.tre.ISO ∧ t.tre.pend = none ∧
        t.hdr[pgTre].err.testBit 16 = true ∧
        t = { s with adm := t.adm, frm := t.frm, tre := t.tre, mbs := t.mbs, mbn := t.mbn, rck := t.rck, evt := t.evt, hdr := t.hdr }) ∧
    (fromParent s f 7 = true →
      (s.tre.budN < 4 → f.payload.toNat < bSub s →
        ∃ t, exec (.treBudget .up f) s = .next t ∧ t.tre.PARENT_BUD = f.payload.toNat ∧ t.tre.pend = none ∧ t.tre.budN = s.tre.budN + 1 ∧
          t.tre.ctrUp = c ∧
          t = { s with adm := t.adm, frm := t.frm, tre := t.tre, mbs := t.mbs, mbn := t.mbn, rck := t.rck, evt := t.evt, hdr := t.hdr }) ∧
      (s.tre.budN < 4 → bSub s ≤ f.payload.toNat →
        ∃ t, exec (.treBudget .up f) s = .next t ∧ t.tre.PARENT_BUD = s.tre.PARENT_BUD ∧ t.tre.pend = some f.payload.toNat ∧
          t.tre.budN = s.tre.budN + 1 ∧ t = { s with tre := t.tre }) ∧
      (4 ≤ s.tre.budN →
        ∃ t, exec (.treBudget .up f) s = .next t ∧ t.tre.PARENT_BUD = s.tre.PARENT_BUD ∧ t.tre.pend = s.tre.pend ∧
          t.tre.CNT2_IGNORED = satAdd 16 s.tre.CNT2_IGNORED 1 ∧ t.hdr[pgTre].err.testBit 20 = true ∧
          t = { s with tre := t.tre, evt := t.evt, hdr := t.hdr })) ∧
    (fromParent s f 8 = true → kPort f = 31 → verOld s.tre.ver = false →
      (s.tre.cutAt.filter (fun a => decide (s.now < a + ticksPerMs))).length < 16 →
      (s.tre.cseqRx ≠ some (bitsOf f.payload.toNat 16 8) →
        ∃ t, exec (.treCut .up f) s = .next t ∧ t.tre.PARENT_BUD = bSub s * (f.payload.toNat % 65536) / 65536 ∧
          t.tre.cseqRx = some (bitsOf f.payload.toNat 16 8) ∧ t.tre.CNT2_CUTS = satAdd 16 s.tre.CNT2_CUTS 1 ∧
          t.tre.pend = s.tre.pend.map (fun w => w * (f.payload.toNat % 65536) / 65536) ∧
          t = { s with adm := t.adm, frm := t.frm, tre := t.tre, mbs := t.mbs, mbn := t.mbn, rck := t.rck, evt := t.evt, hdr := t.hdr }) ∧
      (s.tre.cseqRx = some (bitsOf f.payload.toNat 16 8) →
        ∃ t, exec (.treCut .up f) s = .next t ∧ t.tre.PARENT_BUD = s.tre.PARENT_BUD ∧ t.tre.CNT2_CUTS = s.tre.CNT2_CUTS ∧ t.tre.ctrUp = c ∧
          t = { s with tre := t.tre }))

/-- R404, R405, R406, R409, R411. The frames of a child port: HELLO gives its version and starts its link; a SYNC waits for its SYNC_ACK; a
SYNC_ACK that the check confirms synchronises the port; DEMAND is kept and the port is present; a bad one is counted, and the sixteenth in a second mutes
the port and makes it absent. -/
def Obligations.PortsAreHeard : Prop :=
  ∀ (s : State) (f : KFrame) (p : Nat), p = kPort f →
    (fromPort s f 3 = true →
      ∃ t, exec (.treHello .dn f) s = .next t ∧
        portOf t p = { portOf s p with ver := some (lowerVer f), frames := if lowerVer f / 16 < 3 then [3, 1] else [3, 4, 1] } ∧
        (∀ q, q ≠ p → portOf t q = portOf s q) ∧ t = { s with tre := t.tre }) ∧
    (fromPort s f 1 = true → syncOpen s (portOf s p).ackAt = true → (portOf s p).frames = [] →
      ∃ t, exec (.treSync .dn f) s = .next t ∧
        portOf t p = { portOf s p with ackFor := some f.payload.toNat, ackAt := some s.now, frames := [2] } ∧
        (∀ q, q ≠ p → portOf t q = portOf s q) ∧ t = { s with tre := t.tre }) ∧
    (∀ x, fromPort s f 2 = true → (portOf s p).chal = some x → (portCheck s p f (bytesLE 4 x)).2 = true →
      ∃ t, exec (.treSyncAck .dn f) s = .next t ∧ (portOf t p).synced = true ∧ (portOf t p).chal = none ∧
        (portOf t p).ctr = f.payload.toNat * 65536 + f.ctrLo.toNat ∧ (portOf t p).PORT_ST_PRESENT = true ∧
        (portOf t p).PORT_ST_MISSED = 0 ∧ t = { s with tre := t.tre, evt := t.evt, hdr := t.hdr }) ∧
    (fromPort s f 6 = true → (portOf s p).synced = true →
      ((portCheck s p f []).2 = true →
        ∃ t, exec (.treDemand .dn f) s = .next t ∧ (portOf t p).PORT_DEM = f.payload.toNat ∧ (portOf t p).ctr = (portCheck s p f []).1 ∧
          (portOf t p).PORT_ST_PRESENT = true ∧ (portOf t p).PORT_ST_ABSENT = false ∧ (portOf t p).PORT_ST_MISSED = 0 ∧
          (portOf t p).heldW = 0 ∧ (∀ q, q ≠ p → portOf t q = portOf s q) ∧ t.tre.slot = none ∧ t = { s with tre := t.tre }) ∧
      ((portCheck s p f []).2 = false →
        ∃ t, exec (.treDemand .dn f) s = .next t ∧ t.tre.CNT_BAD = satAdd 16 s.tre.CNT_BAD 1 ∧ (portOf t p).PORT_DEM = (portOf s p).PORT_DEM ∧
          (portOf t p).ctr = (portOf s p).ctr ∧ t.hdr[pgTre].err.testBit 18 = true ∧
          (15 ≤ (lastSecond s (portOf s p).badAt).length → (portOf t p).muteAt = some s.now ∧ (portOf t p).PORT_ST_ABSENT = true ∧
            t.hdr[pgTre].err.testBit 19 = true) ∧
          t = { s with tre := t.tre, evt := t.evt, hdr := t.hdr }))

/-- R403, R406, R408, R409, R411, R412. The parent's bus: a CUT leaves first, then a lowered BUDGET, then a POLL that is due, one at a time; a
slot that passes without a reply counts, and the third makes the port absent with its budget held, down to FLOOR after HOLD; a silent parent is lost and
presents TRE_ISO; mutes end after 10 s; a link that has failed is marked. -/
def Obligations.TreeBusRuns : Prop :=
  ∀ s : State,
    (treActive s = true → trePins s = true → s.tre.slot = none →
      (∀ ratio q l, s.tre.cutQ = (ratio, q) :: l →
        ∃ t pay, exec .treePollSend s = .next t ∧ pay = ratio % 65536 + q % 256 * 65536 ∧ t.tre.cutQ = l ∧ t.aut.TR_TX = s.aut.TR_TX + 1 ∧
          t.tre.slot = none ∧
          t.tre.lastDn = kBytes (kHdr 8 0 31) pay ((s.aut.TR_TX + 1) % 65536) (kMac s (linkIdDn s 31) (kHdr 8 0 31) pay (s.aut.TR_TX + 1) []) ∧
          t = { s with tre := t.tre, aut := t.aut }) ∧
      (∀ p l, s.tre.cutQ = [] → (s.tre.lowQ = p :: l ∨ (s.tre.lowQ = [] ∧ s.tre.highQ = p :: l)) → p < 16 →
        ∃ t, exec .treePollSend s = .next t ∧ (portOf t p).PORT_BUD = (portOf s p).want ∧ (portOf t p).tries = (portOf s p).tries + 1 ∧
          (portOf t p).polledAt = some s.now ∧ t.tre.slot = some p ∧ t.aut.TR_TX = s.aut.TR_TX + 1 ∧
          (∀ q, q ≠ p → portOf t q = portOf s q) ∧ t.tre.lowQ = s.tre.lowQ ∧ t.tre.highQ = s.tre.highQ ∧
          t = { s with tre := t.tre, aut := t.aut }) ∧
      (∀ p : Fin 16, s.tre.cutQ = [] → s.tre.lowQ = [] → s.tre.highQ = [] → (∀ q, q < 16 → (portOf s q).frames = []) →
        pollDue s p.val = true → (∀ q, q < p.val → pollDue s q = false) →
        ∃ t, exec .treePollSend s = .next t ∧ (portOf t p.val).polledAt = some s.now ∧ t.tre.slot = some p.val ∧
          t.aut.TR_TX = s.aut.TR_TX + 1 ∧ (∀ q, q ≠ p.val → portOf t q = portOf s q) ∧ t = { s with tre := t.tre, aut := t.aut })) ∧
    (∀ p : Fin 16, treActive s = true → s.tre.slot = some p.val →
      (s.tre.port[p].PORT_ST_MISSED < 2 →
        ∃ t, exec (.treeNoReply p) s = .next t ∧ t.tre.slot = none ∧ t.tre.port[p].PORT_ST_MISSED = s.tre.port[p].PORT_ST_MISSED + 1 ∧
          t.tre.port[p].PORT_ST_ABSENT = s.tre.port[p].PORT_ST_ABSENT ∧ t = { s with tre := t.tre }) ∧
      (2 ≤ s.tre.port[p].PORT_ST_MISSED → s.tre.port[p].PORT_ST_ABSENT = false →
        ∃ t, exec (.treeNoReply p) s = .next t ∧ t.tre.slot = none ∧ t.tre.port[p].PORT_ST_ABSENT = true ∧
          t.tre.port[p].PORT_ST_PRESENT = false ∧ t.tre.port[p].heldW = s.tre.port[p].PORT_BUD ∧ t.tre.port[p].heldAt = s.now ∧
          p.val ∉ t.tre.lowQ ∧ p.val ∉ t.tre.highQ ∧ t.hdr[pgTre].err.testBit 17 = true ∧
          t = { s with tre := t.tre, evt := t.evt, hdr := t.hdr })) ∧
    (∀ a, s.tre.rxAt = some a → s.cmn.straps.treEn = true → s.after a (320 * s.tre.CFG_POLL) = true → s.tre.lost = false →
      ∃ t, exec .parentLost s = .next t ∧ t.tre.lost = true ∧ t.tre.PARENT_BUD = s.tre.ISO ∧ t.tre.pend = none ∧
        t.hdr[pgTre].err.testBit 16 = true ∧
        t = { s with adm := t.adm, frm := t.frm, tre := t.tre, mbs := t.mbs, mbn := t.mbn, rck := t.rck, evt := t.evt, hdr := t.hdr }) ∧
    (∀ p : Fin 16, s.tre.port[p].PORT_ST_ABSENT = true → s.tre.port[p].heldCut = false →
      s.after s.tre.port[p].heldAt (s.tre.CFG_HOLD * ticksPerMs) = true →
      exec (.portHoldExpiry p) s = .next (s.portMod p.val fun e => { e with heldW := min e.heldW (10 * e.PORT_FLOOR), heldCut := true })) ∧
    (∀ a, s.tre.muteAt = some a → s.after a (10 * ticksPerS) = true →
      ∃ t, exec (.treMuteEnd 16) s = .next t ∧ t.tre = { s.tre with muteAt := none, badAt := [], badRun := 0 } ∧
        t = { s with tre := t.tre, evt := t.evt, hdr := t.hdr }) ∧
    (∀ (p : Fin 16) a, s.tre.port[p].muteAt = some a → s.after a (10 * ticksPerS) = true →
      ∃ t, exec (.treMuteEnd ⟨p.val, by omega⟩) s = .next t ∧
        t.tre = { s.tre with port := s.tre.port.set p { s.tre.port[p] with muteAt := none, badAt := [], badRun := 0 } } ∧
        t = { s with tre := t.tre, evt := t.evt, hdr := t.hdr }) ∧
    (treLive s = true →
      ∃ t, exec .treLinkFailed s = .next t ∧ t.tre = { s.tre with failed := true } ∧ t.hdr[pgTre].err.testBit 21 = true ∧
        treLive t = false ∧ t = { s with tre := t.tre, hdr := t.hdr }) ∧
    (∀ bus, treLive s = true → trePins s = true →
      exec (.treCrcErr bus) s = .next { s with tre := { s.tre with CNT_CRC_ERR := satAdd 16 s.tre.CNT_CRC_ERR 1 } })

/-- R438, R439, R440, R442. A rack request that passes its checks is performed: HELLO without a check of its MAC, the others with
it and with the next counter accepted; a cap is accepted at no more than the lowest P_PKG, or withdrawn; the reply carries the
next reply counter and what the request asks for. R438, R440, R441. What the rack port refuses, in the order of its checks,
and how its replies are read: a write that is no frame answers status 1, a bad field 5, a request beyond its rate 4, one
before the counters are anchored 6, a bad MAC 2 and an old counter 3, with bad checks counted and the sixteenth of a second
muting the port for 10 s; a muted port takes nothing. -/
def Obligations.RackRequestsRun : Prop :=
  (∀ (s : State) (bs : Vector Byte 38) (b : List Nat) (ctr8 : List Nat), b = rackBytes bs →
    ctr8 = bytesLE 8 ((s.aut.RK_OUT + 1) % 2 ^ 64) →
    let replied := fun (t : State) (typ : Nat) (pay : List Nat) =>
      t.rck.replyDue = true ∧ t.rck.STAT_REPLY = false ∧ t.rck.STAT_LAST_ST = 0 ∧ t.rck.STAT_LAST_TYPE = typ ∧
        t.rck.CNT_PERFORMED = satAdd 16 s.rck.CNT_PERFORMED 1 ∧ t.rck.CNT_REJECTED = s.rck.CNT_REJECTED ∧
        t.aut.RK_OUT = (s.aut.RK_OUT + 1) % 2 ^ 64 ∧ t.rck.reply.take 20 = [typ + 0x80, b.getD 1 0, 0, 3] ++ pay ++ ctr8
    (rackPasses s b 1 = true →
      ∃ t, exec (.rackHello bs) s = .next t ∧ replied t 1 (helloReply s (b.getD 2 0)) ∧ t.aut.RK_LAST = s.aut.RK_LAST ∧
        t.rck.CAP = s.rck.CAP ∧ t = { s with rck := t.rck, aut := t.aut }) ∧
    (rackSigned s b 2 = true →
      ∃ t, exec (.capSet bs) s = .next t ∧ replied t 2 (bytesLE 4 t.rck.CAP ++ bytesLE 4 (sat 32 (t.frm.BUDGET / 1000))) ∧
        t.aut.RK_LAST = rackCtr b ∧ t.rck.CAP = min (ofBytesLE ((b.drop 4).take 4)) (lowestPkg s) ∧
        (lowestPkg s < ofBytesLE ((b.drop 4).take 4) → t.hdr[pgRck].err.testBit 20 = true) ∧
        t = { s with adm := t.adm, frm := t.frm, tre := t.tre, mbs := t.mbs, mbn := t.mbn, rck := t.rck, aut := t.aut, evt := t.evt,
                     hdr := t.hdr }) ∧
    (rackSigned s b 3 = true →
      ∃ t, exec (.capClear bs) s = .next t ∧ replied t 3 (bytesLE 4 0 ++ bytesLE 4 (sat 32 (t.frm.BUDGET / 1000))) ∧
        t.aut.RK_LAST = rackCtr b ∧ t.rck.CAP = 0 ∧
        t = { s with adm := t.adm, frm := t.frm, tre := t.tre, mbs := t.mbs, mbn := t.mbn, rck := t.rck, aut := t.aut, evt := t.evt,
                     hdr := t.hdr }) ∧
    (rackSigned s b 4 = true →
      ∃ t, exec (.rackStatus bs) s = .next t ∧ replied t 4 (statusReply s) ∧ t.aut.RK_LAST = rackCtr b ∧ t.rck.CAP = s.rck.CAP ∧
        t = { s with rck := t.rck, aut := t.aut }) ∧
    (rackSigned s b 5 = true →
      ∃ t, exec (.rackEvents bs) s = .next t ∧ replied t 5 (eventsReply s) ∧ t.aut.RK_LAST = rackCtr b ∧ t.rck.CAP = s.rck.CAP ∧
        t = { s with rck := t.rck, aut := t.aut })) ∧
  (∀ (s : State) (bs : List Byte) (b : List Nat), b = bs.map (fun x => x.toNat) → rckUp s = true →
    let refused := fun (t : State) (st : Nat) =>
      t.rck.STAT_LAST_ST = st ∧ t.rck.replyDue = true ∧ t.rck.CNT_REJECTED = satAdd 16 s.rck.CNT_REJECTED 1 ∧
        t.rck.CNT_PERFORMED = s.rck.CNT_PERFORMED ∧ t.rck.CAP = s.rck.CAP ∧ t.aut.RK_LAST = s.aut.RK_LAST ∧
        t = { s with rck := t.rck, aut := t.aut, evt := t.evt, hdr := t.hdr }
    let framed := b.length = 38 ∧ crc16 (b.take 36) = ofBytesLE (b.drop 36)
    (¬ framed → ∃ t, exec (.rackBadReq bs) s = .next t ∧ refused t 1 ∧ t.rck.CNT2_FRAME = satAdd 16 s.rck.CNT2_FRAME 1 ∧
      t.hdr[pgRck].err.testBit 16 = true) ∧
    (framed → s.rck.STAT_MUTED = true → exec (.rackBadReq bs) s = .next s) ∧
    (framed → s.rck.STAT_MUTED = false →
      (rackFields b = false → ∃ t, exec (.rackBadReq bs) s = .next t ∧ refused t 5) ∧
      (rackFields b = true → rackRateOk s (b.getD 0 0) = false →
        ∃ t, exec (.rackBadReq bs) s = .next t ∧ refused t 4 ∧ t.rck.CNT2_RATE = satAdd 16 s.rck.CNT2_RATE 1 ∧
          t.hdr[pgRck].err.testBit 19 = true) ∧
      (rackFields b = true → rackRateOk s (b.getD 0 0) = true → b.getD 0 0 ≠ 1 →
        (s.aut.STAT_ANCHORED = false → ∃ t, exec (.rackBadReq bs) s = .next t ∧ refused t 6) ∧
        (∀ st, s.aut.STAT_ANCHORED = true →
          ((rackMacOk s b = false ∧ st = 2) ∨ (rackMacOk s b = true ∧ rackCtr b ≤ s.aut.RK_LAST ∧ st = 3)) →
          ∃ t, exec (.rackBadReq bs) s = .next t ∧ refused t st ∧ t.aut.FAIL_CNT_RK = satAdd 16 s.aut.FAIL_CNT_RK 1 ∧
            t.rck.CNT3_BAD = satAdd 16 s.rck.CNT3_BAD 1 ∧ t.hdr[pgRck].err.testBit 17 = true ∧
            (15 ≤ (lastSecond s s.rck.badAt).length → t.rck.STAT_MUTED = true ∧ t.rck.muteAt = s.now ∧
              t.rck.CNT3_MUTES = satAdd 16 s.rck.CNT3_MUTES 1)))) ∧
    (s.rck.STAT_MUTED = true → s.after s.rck.muteAt (10 * ticksPerS) = true →
      ∃ t, exec .rackMuteEnd s = .next t ∧ t.rck = { s.rck with STAT_MUTED := false, badAt := [] } ∧
        t = { s with rck := t.rck, evt := t.evt, hdr := t.hdr }) ∧
    (s.rck.replyDue = true →
      ∃ t, exec .rackReplyReady s = .next t ∧ t.rck.replyDue = false ∧ t.rck.STAT_REPLY = true ∧ t.rck.reply = s.rck.reply ∧
        t = { s with rck := t.rck }) ∧
    (s.rck.STAT_REPLY = true → s.rck.STAT_MUTED = false →
      exec .rackReplyRead s = .next { s with rck := { s.rck with STAT_REPLY := false, bus := s.rck.reply, acked := true,
                                                                 ibi := s.rck.ibi.filter fun x => decide (x ≠ 1) } }) ∧
    (s.rck.STAT_REPLY = false ∨ s.rck.STAT_MUTED = true →
      exec .rackReplyRead s = .next { s with rck := { s.rck with bus := [], acked := false } }))

/-- R437. The common command codes of the rack port's I3C target: it takes a dynamic address once, loses it with RSTDAA, turns its
in-band interrupts on and off, answers its lengths, identity and status, and acknowledges no direct code it does not know. -/
def Obligations.RackCodesAreAnswered : Prop :=
  ∀ s : State, rckUp s = true →
    let answers := fun (bytes : List Nat) (c : Instr) => exec c s = .next { s with rck := { s.rck with acked := true, bus := bytes } }
    (∀ addr, s.rck.ADDR_DA_VALID = false →
      ∃ t, exec (.entdaa addr) s = .next t ∧
        t.rck = { s.rck with acked := true, bus := pidBytes s ++ [0x06, 0x00], ADDR_DA_VALID := true, ADDR_DA := addr.toNat } ∧
        t = { s with rck := t.rck, evt := t.evt, hdr := t.hdr }) ∧
    (∀ saddr addr, s.rck.ADDR_DA_VALID = false → saddr.toNat = s.rck.ADDR_SADDR →
      ∃ t, exec (.setdasa saddr addr) s = .next t ∧
        t.rck = { s.rck with acked := true, bus := [], ADDR_DA_VALID := true, ADDR_DA := addr.toNat } ∧
        t = { s with rck := t.rck, evt := t.evt, hdr := t.hdr }) ∧
    (exec .rstdaa s = .next { s with rck := { s.rck with acked := true, bus := [], ADDR_DA_VALID := false, ADDR_DA := 0 } }) ∧
    (∀ ev, exec (.enec ev) s =
      .next { s with rck := { s.rck with acked := true, bus := [], STAT_IBI_EN := s.rck.STAT_IBI_EN || ev.getLsbD 0 } }) ∧
    (∀ ev, exec (.disec ev) s =
      .next { s with rck := { s.rck with acked := true, bus := [], STAT_IBI_EN := s.rck.STAT_IBI_EN && !ev.getLsbD 0 } }) ∧
    (∀ len, answers [] (.setmwl len) ∧ answers [] (.setmrl len)) ∧ answers [0, 38] .getmwl ∧ answers [0, 38, 1] .getmrl ∧
    answers (pidBytes s) .getpid ∧ answers [0x06] .getbcr ∧ answers [0x00] .getdcr ∧
    (s.rck.STAT_REPLY = true ∨ s.rck.ibi ≠ [] →
      exec .getstatus s = .next { s with rck := { s.rck with acked := true, bus := [0, 1], ibi := s.rck.ibi.filter fun x => decide (x = 1) } }) ∧
    (s.rck.STAT_REPLY = false → s.rck.ibi = [] →
      exec .getstatus s = .next { s with rck := { s.rck with acked := true, bus := [0, 0] } }) ∧
    (∀ code : Byte, 128 ≤ code.toNat → exec (.otherCcc code) s = .next { s with rck := { s.rck with acked := false, bus := [] } }) ∧
    (∀ code : Byte, code.toNat < 128 → exec (.otherCcc code) s = .next s)
end

