-- ==== Sys2Proof/Laws/Lists.lean ====
section
/-! SUPPORT. Choices and folds over states, page by page: what the lemmas that say which pages an operation leaves alone are
proved with. -/

namespace Sys2Proof.Machine

open Sys2Proof

/-- What every step of a fold leaves alone, the fold leaves alone. -/
theorem foldl_proj {α β γ : Type} (g : β → γ) (f : β → α → β) (h : ∀ b a, g (f b a) = g b) (l : List α) (b : β) : g (l.foldl f b) = g b := by
  induction l generalizing b with
  | nil => rfl
  | cons a l ih => exact (ih (f b a)).trans (h b a)

/-- A fold whose every step leaves this page alone leaves it alone. -/
@[simp] theorem foldl_cmn {α : Type} (f : State → α → State) (h : ∀ s a, (f s a).cmn = s.cmn) (l : List α) (s : State) : (l.foldl f s).cmn = s.cmn := by
  induction l generalizing s with
  | nil => rfl
  | cons a l ih => exact (ih (f s a)).trans (h s a)

/-- A fold whose every step leaves this page alone leaves it alone. -/
@[simp] theorem foldl_seq {α : Type} (f : State → α → State) (h : ∀ s a, (f s a).seq = s.seq) (l : List α) (s : State) : (l.foldl f s).seq = s.seq := by
  induction l generalizing s with
  | nil => rfl
  | cons a l ih => exact (ih (f s a)).trans (h s a)

/-- A fold whose every step leaves this page alone leaves it alone. -/
@[simp] theorem foldl_tly {α : Type} (f : State → α → State) (h : ∀ s a, (f s a).tly = s.tly) (l : List α) (s : State) : (l.foldl f s).tly = s.tly := by
  induction l generalizing s with
  | nil => rfl
  | cons a l ih => exact (ih (f s a)).trans (h s a)

/-- A fold whose every step leaves this page alone leaves it alone. -/
@[simp] theorem foldl_adm {α : Type} (f : State → α → State) (h : ∀ s a, (f s a).adm = s.adm) (l : List α) (s : State) : (l.foldl f s).adm = s.adm := by
  induction l generalizing s with
  | nil => rfl
  | cons a l ih => exact (ih (f s a)).trans (h s a)

/-- A fold whose every step leaves this page alone leaves it alone. -/
@[simp] theorem foldl_beam {α : Type} (f : State → α → State) (h : ∀ s a, (f s a).beam = s.beam) (l : List α) (s : State) : (l.foldl f s).beam = s.beam := by
  induction l generalizing s with
  | nil => rfl
  | cons a l ih => exact (ih (f s a)).trans (h s a)

/-- A fold whose every step leaves this page alone leaves it alone. -/
@[simp] theorem foldl_ctl {α : Type} (f : State → α → State) (h : ∀ s a, (f s a).ctl = s.ctl) (l : List α) (s : State) : (l.foldl f s).ctl = s.ctl := by
  induction l generalizing s with
  | nil => rfl
  | cons a l ih => exact (ih (f s a)).trans (h s a)

/-- A fold whose every step leaves this page alone leaves it alone. -/
@[simp] theorem foldl_fcs {α : Type} (f : State → α → State) (h : ∀ s a, (f s a).fcs = s.fcs) (l : List α) (s : State) : (l.foldl f s).fcs = s.fcs := by
  induction l generalizing s with
  | nil => rfl
  | cons a l ih => exact (ih (f s a)).trans (h s a)

/-- A fold whose every step leaves this page alone leaves it alone. -/
@[simp] theorem foldl_thm {α : Type} (f : State → α → State) (h : ∀ s a, (f s a).thm = s.thm) (l : List α) (s : State) : (l.foldl f s).thm = s.thm := by
  induction l generalizing s with
  | nil => rfl
  | cons a l ih => exact (ih (f s a)).trans (h s a)

/-- A fold whose every step leaves this page alone leaves it alone. -/
@[simp] theorem foldl_sns {α : Type} (f : State → α → State) (h : ∀ s a, (f s a).sns = s.sns) (l : List α) (s : State) : (l.foldl f s).sns = s.sns := by
  induction l generalizing s with
  | nil => rfl
  | cons a l ih => exact (ih (f s a)).trans (h s a)

/-- A fold whose every step leaves this page alone leaves it alone. -/
@[simp] theorem foldl_dom {α : Type} (f : State → α → State) (h : ∀ s a, (f s a).dom = s.dom) (l : List α) (s : State) : (l.foldl f s).dom = s.dom := by
  induction l generalizing s with
  | nil => rfl
  | cons a l ih => exact (ih (f s a)).trans (h s a)

/-- A fold whose every step leaves this page alone leaves it alone. -/
@[simp] theorem foldl_clk {α : Type} (f : State → α → State) (h : ∀ s a, (f s a).clk = s.clk) (l : List α) (s : State) : (l.foldl f s).clk = s.clk := by
  induction l generalizing s with
  | nil => rfl
  | cons a l ih => exact (ih (f s a)).trans (h s a)

/-- A fold whose every step leaves this page alone leaves it alone. -/
@[simp] theorem foldl_vrg {α : Type} (f : State → α → State) (h : ∀ s a, (f s a).vrg = s.vrg) (l : List α) (s : State) : (l.foldl f s).vrg = s.vrg := by
  induction l generalizing s with
  | nil => rfl
  | cons a l ih => exact (ih (f s a)).trans (h s a)

/-- A fold whose every step leaves this page alone leaves it alone. -/
@[simp] theorem foldl_pmb {α : Type} (f : State → α → State) (h : ∀ s a, (f s a).pmb = s.pmb) (l : List α) (s : State) : (l.foldl f s).pmb = s.pmb := by
  induction l generalizing s with
  | nil => rfl
  | cons a l ih => exact (ih (f s a)).trans (h s a)

/-- A fold whose every step leaves this page alone leaves it alone. -/
@[simp] theorem foldl_frm {α : Type} (f : State → α → State) (h : ∀ s a, (f s a).frm = s.frm) (l : List α) (s : State) : (l.foldl f s).frm = s.frm := by
  induction l generalizing s with
  | nil => rfl
  | cons a l ih => exact (ih (f s a)).trans (h s a)

/-- A fold whose every step leaves this page alone leaves it alone. -/
@[simp] theorem foldl_tre {α : Type} (f : State → α → State) (h : ∀ s a, (f s a).tre = s.tre) (l : List α) (s : State) : (l.foldl f s).tre = s.tre := by
  induction l generalizing s with
  | nil => rfl
  | cons a l ih => exact (ih (f s a)).trans (h s a)

/-- A fold whose every step leaves this page alone leaves it alone. -/
@[simp] theorem foldl_mbs {α : Type} (f : State → α → State) (h : ∀ s a, (f s a).mbs = s.mbs) (l : List α) (s : State) : (l.foldl f s).mbs = s.mbs := by
  induction l generalizing s with
  | nil => rfl
  | cons a l ih => exact (ih (f s a)).trans (h s a)

/-- A fold whose every step leaves this page alone leaves it alone. -/
@[simp] theorem foldl_mbn {α : Type} (f : State → α → State) (h : ∀ s a, (f s a).mbn = s.mbn) (l : List α) (s : State) : (l.foldl f s).mbn = s.mbn := by
  induction l generalizing s with
  | nil => rfl
  | cons a l ih => exact (ih (f s a)).trans (h s a)

/-- A fold whose every step leaves this page alone leaves it alone. -/
@[simp] theorem foldl_rck {α : Type} (f : State → α → State) (h : ∀ s a, (f s a).rck = s.rck) (l : List α) (s : State) : (l.foldl f s).rck = s.rck := by
  induction l generalizing s with
  | nil => rfl
  | cons a l ih => exact (ih (f s a)).trans (h s a)

/-- A fold whose every step leaves this page alone leaves it alone. -/
@[simp] theorem foldl_aut {α : Type} (f : State → α → State) (h : ∀ s a, (f s a).aut = s.aut) (l : List α) (s : State) : (l.foldl f s).aut = s.aut := by
  induction l generalizing s with
  | nil => rfl
  | cons a l ih => exact (ih (f s a)).trans (h s a)

/-- A fold whose every step leaves this page alone leaves it alone. -/
@[simp] theorem foldl_rst {α : Type} (f : State → α → State) (h : ∀ s a, (f s a).rst = s.rst) (l : List α) (s : State) : (l.foldl f s).rst = s.rst := by
  induction l generalizing s with
  | nil => rfl
  | cons a l ih => exact (ih (f s a)).trans (h s a)

/-- A fold whose every step leaves this page alone leaves it alone. -/
@[simp] theorem foldl_rel {α : Type} (f : State → α → State) (h : ∀ s a, (f s a).rel = s.rel) (l : List α) (s : State) : (l.foldl f s).rel = s.rel := by
  induction l generalizing s with
  | nil => rfl
  | cons a l ih => exact (ih (f s a)).trans (h s a)

/-- A fold whose every step leaves this page alone leaves it alone. -/
@[simp] theorem foldl_evt {α : Type} (f : State → α → State) (h : ∀ s a, (f s a).evt = s.evt) (l : List α) (s : State) : (l.foldl f s).evt = s.evt := by
  induction l generalizing s with
  | nil => rfl
  | cons a l ih => exact (ih (f s a)).trans (h s a)

/-- A fold whose every step leaves this page alone leaves it alone. -/
@[simp] theorem foldl_trc {α : Type} (f : State → α → State) (h : ∀ s a, (f s a).trc = s.trc) (l : List α) (s : State) : (l.foldl f s).trc = s.trc := by
  induction l generalizing s with
  | nil => rfl
  | cons a l ih => exact (ih (f s a)).trans (h s a)

/-- A fold whose every step leaves this page alone leaves it alone. -/
@[simp] theorem foldl_hdr {α : Type} (f : State → α → State) (h : ∀ s a, (f s a).hdr = s.hdr) (l : List α) (s : State) : (l.foldl f s).hdr = s.hdr := by
  induction l generalizing s with
  | nil => rfl
  | cons a l ih => exact (ih (f s a)).trans (h s a)

/-- A fold whose every step leaves this page alone leaves it alone. -/
@[simp] theorem foldl_stg {α : Type} (f : State → α → State) (h : ∀ s a, (f s a).stg = s.stg) (l : List α) (s : State) : (l.foldl f s).stg = s.stg := by
  induction l generalizing s with
  | nil => rfl
  | cons a l ih => exact (ih (f s a)).trans (h s a)

/-- A fold whose every step leaves this page alone leaves it alone. -/
@[simp] theorem foldl_hst {α : Type} (f : State → α → State) (h : ∀ s a, (f s a).hst = s.hst) (l : List α) (s : State) : (l.foldl f s).hst = s.hst := by
  induction l generalizing s with
  | nil => rfl
  | cons a l ih => exact (ih (f s a)).trans (h s a)

/-- A fold whose every step leaves this page alone leaves it alone. -/
@[simp] theorem foldl_pairLo {α : Type} (f : State → α → State) (h : ∀ s a, (f s a).pairLo = s.pairLo) (l : List α) (s : State) : (l.foldl f s).pairLo = s.pairLo := by
  induction l generalizing s with
  | nil => rfl
  | cons a l ih => exact (ih (f s a)).trans (h s a)

/-- A fold whose every step leaves this page alone leaves it alone. -/
@[simp] theorem foldl_now {α : Type} (f : State → α → State) (h : ∀ s a, (f s a).now = s.now) (l : List α) (s : State) : (l.foldl f s).now = s.now := by
  induction l generalizing s with
  | nil => rfl
  | cons a l ih => exact (ih (f s a)).trans (h s a)

/-- A fold whose every step leaves this page alone leaves it alone. -/
@[simp] theorem foldl_free {α : Type} (f : State → α → State) (h : ∀ s a, (f s a).free = s.free) (l : List α) (s : State) : (l.foldl f s).free = s.free := by
  induction l generalizing s with
  | nil => rfl
  | cons a l ih => exact (ih (f s a)).trans (h s a)

/-- A fold whose every step leaves this page alone leaves it alone. -/
@[simp] theorem foldl_pending {α : Type} (f : State → α → State) (h : ∀ s a, (f s a).pending = s.pending) (l : List α) (s : State) : (l.foldl f s).pending = s.pending := by
  induction l generalizing s with
  | nil => rfl
  | cons a l ih => exact (ih (f s a)).trans (h s a)

end Sys2Proof.Machine

namespace Pages

open Sys2Proof Sys2Proof.Machine

/-- A page of a choice is the choice of the pages. -/
@[simp] theorem choice (c : Prop) [Decidable c] (a b : State) : (if c then a else b).cmn = (if c then a.cmn else b.cmn) ∧
    (if c then a else b).seq = (if c then a.seq else b.seq) ∧ (if c then a else b).tly = (if c then a.tly else b.tly) ∧
    (if c then a else b).adm = (if c then a.adm else b.adm) ∧ (if c then a else b).beam = (if c then a.beam else b.beam) ∧
    (if c then a else b).ctl = (if c then a.ctl else b.ctl) ∧ (if c then a else b).fcs = (if c then a.fcs else b.fcs) ∧
    (if c then a else b).thm = (if c then a.thm else b.thm) ∧ (if c then a else b).sns = (if c then a.sns else b.sns) ∧
    (if c then a else b).dom = (if c then a.dom else b.dom) ∧ (if c then a else b).clk = (if c then a.clk else b.clk) ∧
    (if c then a else b).vrg = (if c then a.vrg else b.vrg) ∧ (if c then a else b).pmb = (if c then a.pmb else b.pmb) ∧
    (if c then a else b).frm = (if c then a.frm else b.frm) ∧ (if c then a else b).tre = (if c then a.tre else b.tre) ∧
    (if c then a else b).mbs = (if c then a.mbs else b.mbs) ∧ (if c then a else b).mbn = (if c then a.mbn else b.mbn) ∧
    (if c then a else b).rck = (if c then a.rck else b.rck) ∧ (if c then a else b).aut = (if c then a.aut else b.aut) ∧
    (if c then a else b).rst = (if c then a.rst else b.rst) ∧ (if c then a else b).rel = (if c then a.rel else b.rel) ∧
    (if c then a else b).evt = (if c then a.evt else b.evt) ∧ (if c then a else b).trc = (if c then a.trc else b.trc) ∧
    (if c then a else b).hdr = (if c then a.hdr else b.hdr) ∧ (if c then a else b).stg = (if c then a.stg else b.stg) ∧
    (if c then a else b).hst = (if c then a.hst else b.hst) ∧
    (if c then a else b).pairLo = (if c then a.pairLo else b.pairLo) ∧
    (if c then a else b).now = (if c then a.now else b.now) ∧ (if c then a else b).free = (if c then a.free else b.free) ∧
    (if c then a else b).pending = (if c then a.pending else b.pending) := by
  split <;> simp

/-- A page of a dependent choice is the choice of the pages. -/
@[simp] theorem dchoice (c : Prop) [Decidable c] (a : c → State) (b : ¬ c → State) : (if h : c then a h else b h).cmn = (if h : c then (a h).cmn else (b h).cmn) ∧ (if h : c then a h else b h).seq = (if h : c then (a h).seq else (b h).seq) ∧ (if h : c then a h else b h).tly = (if h : c then (a h).tly else (b h).tly) ∧ (if h : c then a h else b h).adm = (if h : c then (a h).adm else (b h).adm) ∧ (if h : c then a h else b h).beam = (if h : c then (a h).beam else (b h).beam) ∧ (if h : c then a h else b h).ctl = (if h : c then (a h).ctl else (b h).ctl) ∧ (if h : c then a h else b h).fcs = (if h : c then (a h).fcs else (b h).fcs) ∧ (if h : c then a h else b h).thm = (if h : c then (a h).thm else (b h).thm) ∧ (if h : c then a h else b h).sns = (if h : c then (a h).sns else (b h).sns) ∧ (if h : c then a h else b h).dom = (if h : c then (a h).dom else (b h).dom) ∧ (if h : c then a h else b h).clk = (if h : c then (a h).clk else (b h).clk) ∧ (if h : c then a h else b h).vrg = (if h : c then (a h).vrg else (b h).vrg) ∧ (if h : c then a h else b h).pmb = (if h : c then (a h).pmb else (b h).pmb) ∧ (if h : c then a h else b h).frm = (if h : c then (a h).frm else (b h).frm) ∧ (if h : c then a h else b h).tre = (if h : c then (a h).tre else (b h).tre) ∧ (if h : c then a h else b h).mbs = (if h : c then (a h).mbs else (b h).mbs) ∧ (if h : c then a h else b h).mbn = (if h : c then (a h).mbn else (b h).mbn) ∧ (if h : c then a h else b h).rck = (if h : c then (a h).rck else (b h).rck) ∧ (if h : c then a h else b h).aut = (if h : c then (a h).aut else (b h).aut) ∧ (if h : c then a h else b h).rst = (if h : c then (a h).rst else (b h).rst) ∧ (if h : c then a h else b h).rel = (if h : c then (a h).rel else (b h).rel) ∧ (if h : c then a h else b h).evt = (if h : c then (a h).evt else (b h).evt) ∧ (if h : c then a h else b h).trc = (if h : c then (a h).trc else (b h).trc) ∧ (if h : c then a h else b h).hdr = (if h : c then (a h).hdr else (b h).hdr) ∧ (if h : c then a h else b h).stg = (if h : c then (a h).stg else (b h).stg) ∧ (if h : c then a h else b h).hst = (if h : c then (a h).hst else (b h).hst) ∧ (if h : c then a h else b h).pairLo = (if h : c then (a h).pairLo else (b h).pairLo) ∧ (if h : c then a h else b h).now = (if h : c then (a h).now else (b h).now) ∧ (if h : c then a h else b h).free = (if h : c then (a h).free else (b h).free) ∧ (if h : c then a h else b h).pending = (if h : c then (a h).pending else (b h).pending) := by
  split <;> simp

end Pages
end

