-- ==== Sys2Proof/Laws/PagesOps.lean ====
section
/-! SUPPORT. Which pages of State each operation leaves alone: the shared operations, the recorder and the channels. One lemma for each operation, a conjunction
over every page the operation does not write, tagged simp so that no later proof unfolds the operation for them. -/

set_option linter.unusedSimpArgs false

namespace Pages

open Sys2Proof Sys2Proof.Machine

@[simp] theorem hdrMod (s : State) (p : Fin 23) (f : PageHdr → PageHdr) : (State.hdrMod s p f).cmn = s.cmn ∧
    (State.hdrMod s p f).seq = s.seq ∧ (State.hdrMod s p f).tly = s.tly ∧ (State.hdrMod s p f).adm = s.adm ∧
    (State.hdrMod s p f).beam = s.beam ∧ (State.hdrMod s p f).ctl = s.ctl ∧ (State.hdrMod s p f).fcs = s.fcs ∧
    (State.hdrMod s p f).thm = s.thm ∧ (State.hdrMod s p f).sns = s.sns ∧ (State.hdrMod s p f).dom = s.dom ∧
    (State.hdrMod s p f).clk = s.clk ∧ (State.hdrMod s p f).vrg = s.vrg ∧ (State.hdrMod s p f).pmb = s.pmb ∧
    (State.hdrMod s p f).frm = s.frm ∧ (State.hdrMod s p f).tre = s.tre ∧ (State.hdrMod s p f).mbs = s.mbs ∧
    (State.hdrMod s p f).mbn = s.mbn ∧ (State.hdrMod s p f).rck = s.rck ∧ (State.hdrMod s p f).aut = s.aut ∧
    (State.hdrMod s p f).rst = s.rst ∧ (State.hdrMod s p f).rel = s.rel ∧ (State.hdrMod s p f).evt = s.evt ∧
    (State.hdrMod s p f).trc = s.trc ∧ (State.hdrMod s p f).stg = s.stg ∧ (State.hdrMod s p f).hst = s.hst ∧
    (State.hdrMod s p f).pairLo = s.pairLo ∧ (State.hdrMod s p f).now = s.now ∧ (State.hdrMod s p f).free = s.free ∧
    (State.hdrMod s p f).pending = s.pending := by
  unfold State.hdrMod; simp

@[simp] theorem setErr (s : State) (p : Fin 23) (b : Nat) : (State.setErr s p b).cmn = s.cmn ∧
    (State.setErr s p b).seq = s.seq ∧ (State.setErr s p b).tly = s.tly ∧ (State.setErr s p b).adm = s.adm ∧
    (State.setErr s p b).beam = s.beam ∧ (State.setErr s p b).ctl = s.ctl ∧ (State.setErr s p b).fcs = s.fcs ∧
    (State.setErr s p b).thm = s.thm ∧ (State.setErr s p b).sns = s.sns ∧ (State.setErr s p b).dom = s.dom ∧
    (State.setErr s p b).clk = s.clk ∧ (State.setErr s p b).vrg = s.vrg ∧ (State.setErr s p b).pmb = s.pmb ∧
    (State.setErr s p b).frm = s.frm ∧ (State.setErr s p b).tre = s.tre ∧ (State.setErr s p b).mbs = s.mbs ∧
    (State.setErr s p b).mbn = s.mbn ∧ (State.setErr s p b).rck = s.rck ∧ (State.setErr s p b).aut = s.aut ∧
    (State.setErr s p b).rst = s.rst ∧ (State.setErr s p b).rel = s.rel ∧ (State.setErr s p b).evt = s.evt ∧
    (State.setErr s p b).trc = s.trc ∧ (State.setErr s p b).stg = s.stg ∧ (State.setErr s p b).hst = s.hst ∧
    (State.setErr s p b).pairLo = s.pairLo ∧ (State.setErr s p b).now = s.now ∧ (State.setErr s p b).free = s.free ∧
    (State.setErr s p b).pending = s.pending := by
  unfold State.setErr; simp

@[simp] theorem setBusy (s : State) (p : Fin 23) (b : Bool) : (State.setBusy s p b).cmn = s.cmn ∧
    (State.setBusy s p b).seq = s.seq ∧ (State.setBusy s p b).tly = s.tly ∧ (State.setBusy s p b).adm = s.adm ∧
    (State.setBusy s p b).beam = s.beam ∧ (State.setBusy s p b).ctl = s.ctl ∧ (State.setBusy s p b).fcs = s.fcs ∧
    (State.setBusy s p b).thm = s.thm ∧ (State.setBusy s p b).sns = s.sns ∧ (State.setBusy s p b).dom = s.dom ∧
    (State.setBusy s p b).clk = s.clk ∧ (State.setBusy s p b).vrg = s.vrg ∧ (State.setBusy s p b).pmb = s.pmb ∧
    (State.setBusy s p b).frm = s.frm ∧ (State.setBusy s p b).tre = s.tre ∧ (State.setBusy s p b).mbs = s.mbs ∧
    (State.setBusy s p b).mbn = s.mbn ∧ (State.setBusy s p b).rck = s.rck ∧ (State.setBusy s p b).aut = s.aut ∧
    (State.setBusy s p b).rst = s.rst ∧ (State.setBusy s p b).rel = s.rel ∧ (State.setBusy s p b).evt = s.evt ∧
    (State.setBusy s p b).trc = s.trc ∧ (State.setBusy s p b).stg = s.stg ∧ (State.setBusy s p b).hst = s.hst ∧
    (State.setBusy s p b).pairLo = s.pairLo ∧ (State.setBusy s p b).now = s.now ∧ (State.setBusy s p b).free = s.free ∧
    (State.setBusy s p b).pending = s.pending := by
  unfold State.setBusy; simp

@[simp] theorem tookFree (s : State) : (State.tookFree s).cmn = s.cmn ∧ (State.tookFree s).seq = s.seq ∧
    (State.tookFree s).tly = s.tly ∧ (State.tookFree s).adm = s.adm ∧ (State.tookFree s).beam = s.beam ∧
    (State.tookFree s).ctl = s.ctl ∧ (State.tookFree s).fcs = s.fcs ∧ (State.tookFree s).thm = s.thm ∧
    (State.tookFree s).sns = s.sns ∧ (State.tookFree s).dom = s.dom ∧ (State.tookFree s).clk = s.clk ∧
    (State.tookFree s).vrg = s.vrg ∧ (State.tookFree s).pmb = s.pmb ∧ (State.tookFree s).frm = s.frm ∧
    (State.tookFree s).tre = s.tre ∧ (State.tookFree s).mbs = s.mbs ∧ (State.tookFree s).mbn = s.mbn ∧
    (State.tookFree s).rck = s.rck ∧ (State.tookFree s).aut = s.aut ∧ (State.tookFree s).rst = s.rst ∧
    (State.tookFree s).rel = s.rel ∧ (State.tookFree s).evt = s.evt ∧ (State.tookFree s).trc = s.trc ∧
    (State.tookFree s).hdr = s.hdr ∧ (State.tookFree s).stg = s.stg ∧ (State.tookFree s).hst = s.hst ∧
    (State.tookFree s).pairLo = s.pairLo ∧ (State.tookFree s).now = s.now ∧ (State.tookFree s).pending = s.pending := by
  unfold State.tookFree; simp

@[simp] theorem enqueue (s : State) (code : Nat) (suppr : Bool) (d : List Nat) : (State.enqueue s code suppr d).cmn = s.cmn ∧ (State.enqueue s code suppr d).seq = s.seq ∧ (State.enqueue s code suppr d).tly = s.tly ∧ (State.enqueue s code suppr d).adm = s.adm ∧ (State.enqueue s code suppr d).beam = s.beam ∧ (State.enqueue s code suppr d).ctl = s.ctl ∧ (State.enqueue s code suppr d).fcs = s.fcs ∧ (State.enqueue s code suppr d).thm = s.thm ∧ (State.enqueue s code suppr d).sns = s.sns ∧ (State.enqueue s code suppr d).dom = s.dom ∧ (State.enqueue s code suppr d).clk = s.clk ∧ (State.enqueue s code suppr d).vrg = s.vrg ∧ (State.enqueue s code suppr d).pmb = s.pmb ∧ (State.enqueue s code suppr d).frm = s.frm ∧ (State.enqueue s code suppr d).tre = s.tre ∧ (State.enqueue s code suppr d).mbs = s.mbs ∧ (State.enqueue s code suppr d).mbn = s.mbn ∧ (State.enqueue s code suppr d).rck = s.rck ∧ (State.enqueue s code suppr d).aut = s.aut ∧ (State.enqueue s code suppr d).rst = s.rst ∧ (State.enqueue s code suppr d).rel = s.rel ∧ (State.enqueue s code suppr d).trc = s.trc ∧ (State.enqueue s code suppr d).stg = s.stg ∧ (State.enqueue s code suppr d).hst = s.hst ∧ (State.enqueue s code suppr d).pairLo = s.pairLo ∧ (State.enqueue s code suppr d).now = s.now ∧ (State.enqueue s code suppr d).free = s.free ∧ (State.enqueue s code suppr d).pending = s.pending := by
  unfold State.enqueue; simp

@[simp] theorem event (s : State) (code : Nat) (d : List Nat) : (State.event s code d).cmn = s.cmn ∧
    (State.event s code d).seq = s.seq ∧ (State.event s code d).tly = s.tly ∧ (State.event s code d).adm = s.adm ∧
    (State.event s code d).beam = s.beam ∧ (State.event s code d).ctl = s.ctl ∧ (State.event s code d).fcs = s.fcs ∧
    (State.event s code d).thm = s.thm ∧ (State.event s code d).sns = s.sns ∧ (State.event s code d).dom = s.dom ∧
    (State.event s code d).clk = s.clk ∧ (State.event s code d).vrg = s.vrg ∧ (State.event s code d).pmb = s.pmb ∧
    (State.event s code d).frm = s.frm ∧ (State.event s code d).tre = s.tre ∧ (State.event s code d).mbs = s.mbs ∧
    (State.event s code d).mbn = s.mbn ∧ (State.event s code d).rck = s.rck ∧ (State.event s code d).aut = s.aut ∧
    (State.event s code d).rst = s.rst ∧ (State.event s code d).rel = s.rel ∧ (State.event s code d).trc = s.trc ∧
    (State.event s code d).stg = s.stg ∧ (State.event s code d).hst = s.hst ∧ (State.event s code d).pairLo = s.pairLo ∧
    (State.event s code d).now = s.now ∧ (State.event s code d).free = s.free ∧ (State.event s code d).pending = s.pending := by
  unfold State.event; simp

@[simp] theorem fault (s : State) (p : Fin 23) (b code : Nat) (d : List Nat) : (State.fault s p b code d).cmn = s.cmn ∧ (State.fault s p b code d).seq = s.seq ∧ (State.fault s p b code d).tly = s.tly ∧ (State.fault s p b code d).adm = s.adm ∧ (State.fault s p b code d).beam = s.beam ∧ (State.fault s p b code d).ctl = s.ctl ∧ (State.fault s p b code d).fcs = s.fcs ∧ (State.fault s p b code d).thm = s.thm ∧ (State.fault s p b code d).sns = s.sns ∧ (State.fault s p b code d).dom = s.dom ∧ (State.fault s p b code d).clk = s.clk ∧ (State.fault s p b code d).vrg = s.vrg ∧ (State.fault s p b code d).pmb = s.pmb ∧ (State.fault s p b code d).frm = s.frm ∧ (State.fault s p b code d).tre = s.tre ∧ (State.fault s p b code d).mbs = s.mbs ∧ (State.fault s p b code d).mbn = s.mbn ∧ (State.fault s p b code d).rck = s.rck ∧ (State.fault s p b code d).aut = s.aut ∧ (State.fault s p b code d).rst = s.rst ∧ (State.fault s p b code d).rel = s.rel ∧ (State.fault s p b code d).trc = s.trc ∧ (State.fault s p b code d).stg = s.stg ∧ (State.fault s p b code d).hst = s.hst ∧ (State.fault s p b code d).pairLo = s.pairLo ∧ (State.fault s p b code d).now = s.now ∧ (State.fault s p b code d).free = s.free ∧ (State.fault s p b code d).pending = s.pending := by
  unfold State.fault; simp

@[simp] theorem wordReplayed (s : State) : (State.wordReplayed s).cmn = s.cmn ∧
    (State.wordReplayed s).seq = s.seq ∧ (State.wordReplayed s).tly = s.tly ∧ (State.wordReplayed s).adm = s.adm ∧
    (State.wordReplayed s).beam = s.beam ∧ (State.wordReplayed s).ctl = s.ctl ∧ (State.wordReplayed s).fcs = s.fcs ∧
    (State.wordReplayed s).thm = s.thm ∧ (State.wordReplayed s).sns = s.sns ∧ (State.wordReplayed s).dom = s.dom ∧
    (State.wordReplayed s).clk = s.clk ∧ (State.wordReplayed s).vrg = s.vrg ∧ (State.wordReplayed s).pmb = s.pmb ∧
    (State.wordReplayed s).frm = s.frm ∧ (State.wordReplayed s).tre = s.tre ∧ (State.wordReplayed s).mbs = s.mbs ∧
    (State.wordReplayed s).mbn = s.mbn ∧ (State.wordReplayed s).rck = s.rck ∧ (State.wordReplayed s).aut = s.aut ∧
    (State.wordReplayed s).rst = s.rst ∧ (State.wordReplayed s).evt = s.evt ∧ (State.wordReplayed s).trc = s.trc ∧
    (State.wordReplayed s).hdr = s.hdr ∧ (State.wordReplayed s).stg = s.stg ∧ (State.wordReplayed s).hst = s.hst ∧
    (State.wordReplayed s).pairLo = s.pairLo ∧ (State.wordReplayed s).now = s.now ∧ (State.wordReplayed s).free = s.free ∧
    (State.wordReplayed s).pending = s.pending := by
  unfold State.wordReplayed; simp

@[simp] theorem wordRetired (s : State) (path index : Nat) : (State.wordRetired s path index).cmn = s.cmn ∧
    (State.wordRetired s path index).seq = s.seq ∧ (State.wordRetired s path index).tly = s.tly ∧
    (State.wordRetired s path index).adm = s.adm ∧ (State.wordRetired s path index).beam = s.beam ∧
    (State.wordRetired s path index).ctl = s.ctl ∧ (State.wordRetired s path index).fcs = s.fcs ∧
    (State.wordRetired s path index).thm = s.thm ∧ (State.wordRetired s path index).sns = s.sns ∧
    (State.wordRetired s path index).dom = s.dom ∧ (State.wordRetired s path index).clk = s.clk ∧
    (State.wordRetired s path index).vrg = s.vrg ∧ (State.wordRetired s path index).pmb = s.pmb ∧
    (State.wordRetired s path index).frm = s.frm ∧ (State.wordRetired s path index).tre = s.tre ∧
    (State.wordRetired s path index).mbs = s.mbs ∧ (State.wordRetired s path index).mbn = s.mbn ∧
    (State.wordRetired s path index).rck = s.rck ∧ (State.wordRetired s path index).aut = s.aut ∧
    (State.wordRetired s path index).rst = s.rst ∧ (State.wordRetired s path index).trc = s.trc ∧
    (State.wordRetired s path index).stg = s.stg ∧ (State.wordRetired s path index).hst = s.hst ∧
    (State.wordRetired s path index).pairLo = s.pairLo ∧ (State.wordRetired s path index).now = s.now ∧
    (State.wordRetired s path index).free = s.free ∧ (State.wordRetired s path index).pending = s.pending := by
  unfold State.wordRetired; simp

@[simp] theorem mbxMod (s : State) (c : Chan) (f : Mbx → Mbx) : (State.mbxMod s c f).cmn = s.cmn ∧
    (State.mbxMod s c f).seq = s.seq ∧ (State.mbxMod s c f).tly = s.tly ∧ (State.mbxMod s c f).adm = s.adm ∧
    (State.mbxMod s c f).beam = s.beam ∧ (State.mbxMod s c f).ctl = s.ctl ∧ (State.mbxMod s c f).fcs = s.fcs ∧
    (State.mbxMod s c f).thm = s.thm ∧ (State.mbxMod s c f).sns = s.sns ∧ (State.mbxMod s c f).dom = s.dom ∧
    (State.mbxMod s c f).clk = s.clk ∧ (State.mbxMod s c f).vrg = s.vrg ∧ (State.mbxMod s c f).pmb = s.pmb ∧
    (State.mbxMod s c f).frm = s.frm ∧ (State.mbxMod s c f).tre = s.tre ∧ (State.mbxMod s c f).rck = s.rck ∧
    (State.mbxMod s c f).aut = s.aut ∧ (State.mbxMod s c f).rst = s.rst ∧ (State.mbxMod s c f).rel = s.rel ∧
    (State.mbxMod s c f).evt = s.evt ∧ (State.mbxMod s c f).trc = s.trc ∧ (State.mbxMod s c f).hdr = s.hdr ∧
    (State.mbxMod s c f).stg = s.stg ∧ (State.mbxMod s c f).hst = s.hst ∧ (State.mbxMod s c f).pairLo = s.pairLo ∧
    (State.mbxMod s c f).now = s.now ∧ (State.mbxMod s c f).free = s.free ∧ (State.mbxMod s c f).pending = s.pending := by
  unfold State.mbxMod; split <;> simp

@[simp] theorem sendOut (s : State) (c : Chan) (kind sub data : Nat) : (State.sendOut s c kind sub data).cmn = s.cmn ∧ (State.sendOut s c kind sub data).seq = s.seq ∧ (State.sendOut s c kind sub data).tly = s.tly ∧ (State.sendOut s c kind sub data).adm = s.adm ∧ (State.sendOut s c kind sub data).beam = s.beam ∧ (State.sendOut s c kind sub data).ctl = s.ctl ∧ (State.sendOut s c kind sub data).fcs = s.fcs ∧ (State.sendOut s c kind sub data).thm = s.thm ∧ (State.sendOut s c kind sub data).sns = s.sns ∧ (State.sendOut s c kind sub data).dom = s.dom ∧ (State.sendOut s c kind sub data).clk = s.clk ∧ (State.sendOut s c kind sub data).vrg = s.vrg ∧ (State.sendOut s c kind sub data).pmb = s.pmb ∧ (State.sendOut s c kind sub data).frm = s.frm ∧ (State.sendOut s c kind sub data).tre = s.tre ∧ (State.sendOut s c kind sub data).rck = s.rck ∧ (State.sendOut s c kind sub data).aut = s.aut ∧ (State.sendOut s c kind sub data).rst = s.rst ∧ (State.sendOut s c kind sub data).rel = s.rel ∧ (State.sendOut s c kind sub data).trc = s.trc ∧ (State.sendOut s c kind sub data).stg = s.stg ∧ (State.sendOut s c kind sub data).hst = s.hst ∧ (State.sendOut s c kind sub data).pairLo = s.pairLo ∧ (State.sendOut s c kind sub data).now = s.now ∧ (State.sendOut s c kind sub data).free = s.free ∧ (State.sendOut s c kind sub data).pending = s.pending := by
  unfold State.sendOut; simp

@[simp] theorem notice (s : State) (kind sub data : Nat) : (State.notice s kind sub data).cmn = s.cmn ∧
    (State.notice s kind sub data).seq = s.seq ∧ (State.notice s kind sub data).tly = s.tly ∧
    (State.notice s kind sub data).adm = s.adm ∧ (State.notice s kind sub data).beam = s.beam ∧
    (State.notice s kind sub data).ctl = s.ctl ∧ (State.notice s kind sub data).fcs = s.fcs ∧
    (State.notice s kind sub data).thm = s.thm ∧ (State.notice s kind sub data).sns = s.sns ∧
    (State.notice s kind sub data).dom = s.dom ∧ (State.notice s kind sub data).clk = s.clk ∧
    (State.notice s kind sub data).vrg = s.vrg ∧ (State.notice s kind sub data).pmb = s.pmb ∧
    (State.notice s kind sub data).frm = s.frm ∧ (State.notice s kind sub data).tre = s.tre ∧
    (State.notice s kind sub data).rck = s.rck ∧ (State.notice s kind sub data).aut = s.aut ∧
    (State.notice s kind sub data).rst = s.rst ∧ (State.notice s kind sub data).rel = s.rel ∧
    (State.notice s kind sub data).trc = s.trc ∧ (State.notice s kind sub data).stg = s.stg ∧
    (State.notice s kind sub data).hst = s.hst ∧ (State.notice s kind sub data).pairLo = s.pairLo ∧
    (State.notice s kind sub data).now = s.now ∧ (State.notice s kind sub data).free = s.free ∧
    (State.notice s kind sub data).pending = s.pending := by
  unfold State.notice; simp

@[simp] theorem trcPush (s : State) (typ : Nat) (bs : List Nat) : (State.trcPush s typ bs).2.cmn = s.cmn ∧
    (State.trcPush s typ bs).2.seq = s.seq ∧ (State.trcPush s typ bs).2.tly = s.tly ∧
    (State.trcPush s typ bs).2.adm = s.adm ∧ (State.trcPush s typ bs).2.beam = s.beam ∧
    (State.trcPush s typ bs).2.ctl = s.ctl ∧ (State.trcPush s typ bs).2.fcs = s.fcs ∧
    (State.trcPush s typ bs).2.thm = s.thm ∧ (State.trcPush s typ bs).2.sns = s.sns ∧
    (State.trcPush s typ bs).2.dom = s.dom ∧ (State.trcPush s typ bs).2.clk = s.clk ∧
    (State.trcPush s typ bs).2.vrg = s.vrg ∧ (State.trcPush s typ bs).2.pmb = s.pmb ∧
    (State.trcPush s typ bs).2.frm = s.frm ∧ (State.trcPush s typ bs).2.tre = s.tre ∧
    (State.trcPush s typ bs).2.mbs = s.mbs ∧ (State.trcPush s typ bs).2.mbn = s.mbn ∧
    (State.trcPush s typ bs).2.rck = s.rck ∧ (State.trcPush s typ bs).2.aut = s.aut ∧
    (State.trcPush s typ bs).2.rst = s.rst ∧ (State.trcPush s typ bs).2.rel = s.rel ∧
    (State.trcPush s typ bs).2.evt = s.evt ∧ (State.trcPush s typ bs).2.hdr = s.hdr ∧
    (State.trcPush s typ bs).2.stg = s.stg ∧ (State.trcPush s typ bs).2.hst = s.hst ∧
    (State.trcPush s typ bs).2.pairLo = s.pairLo ∧ (State.trcPush s typ bs).2.now = s.now ∧
    (State.trcPush s typ bs).2.free = s.free ∧ (State.trcPush s typ bs).2.pending = s.pending := by
  unfold State.trcPush; dsimp only; (repeat' split) <;> simp

@[simp] theorem trcDropped (s : State) (k typ : Nat) : (State.trcDropped s k typ).cmn = s.cmn ∧
    (State.trcDropped s k typ).seq = s.seq ∧ (State.trcDropped s k typ).tly = s.tly ∧
    (State.trcDropped s k typ).adm = s.adm ∧ (State.trcDropped s k typ).beam = s.beam ∧
    (State.trcDropped s k typ).ctl = s.ctl ∧ (State.trcDropped s k typ).fcs = s.fcs ∧
    (State.trcDropped s k typ).thm = s.thm ∧ (State.trcDropped s k typ).sns = s.sns ∧
    (State.trcDropped s k typ).dom = s.dom ∧ (State.trcDropped s k typ).clk = s.clk ∧
    (State.trcDropped s k typ).vrg = s.vrg ∧ (State.trcDropped s k typ).pmb = s.pmb ∧
    (State.trcDropped s k typ).frm = s.frm ∧ (State.trcDropped s k typ).tre = s.tre ∧
    (State.trcDropped s k typ).mbs = s.mbs ∧ (State.trcDropped s k typ).mbn = s.mbn ∧
    (State.trcDropped s k typ).rck = s.rck ∧ (State.trcDropped s k typ).aut = s.aut ∧
    (State.trcDropped s k typ).rst = s.rst ∧ (State.trcDropped s k typ).rel = s.rel ∧
    (State.trcDropped s k typ).stg = s.stg ∧ (State.trcDropped s k typ).hst = s.hst ∧
    (State.trcDropped s k typ).pairLo = s.pairLo ∧ (State.trcDropped s k typ).now = s.now ∧
    (State.trcDropped s k typ).free = s.free ∧ (State.trcDropped s k typ).pending = s.pending := by
  unfold State.trcDropped; split <;> simp

@[simp] theorem trcEvent (s : State) (rec_ : Nat) : (State.trcEvent s rec_).cmn = s.cmn ∧
    (State.trcEvent s rec_).seq = s.seq ∧ (State.trcEvent s rec_).tly = s.tly ∧ (State.trcEvent s rec_).adm = s.adm ∧
    (State.trcEvent s rec_).beam = s.beam ∧ (State.trcEvent s rec_).ctl = s.ctl ∧ (State.trcEvent s rec_).fcs = s.fcs ∧
    (State.trcEvent s rec_).thm = s.thm ∧ (State.trcEvent s rec_).sns = s.sns ∧ (State.trcEvent s rec_).dom = s.dom ∧
    (State.trcEvent s rec_).clk = s.clk ∧ (State.trcEvent s rec_).vrg = s.vrg ∧ (State.trcEvent s rec_).pmb = s.pmb ∧
    (State.trcEvent s rec_).frm = s.frm ∧ (State.trcEvent s rec_).tre = s.tre ∧ (State.trcEvent s rec_).mbs = s.mbs ∧
    (State.trcEvent s rec_).mbn = s.mbn ∧ (State.trcEvent s rec_).rck = s.rck ∧ (State.trcEvent s rec_).aut = s.aut ∧
    (State.trcEvent s rec_).rst = s.rst ∧ (State.trcEvent s rec_).rel = s.rel ∧ (State.trcEvent s rec_).stg = s.stg ∧
    (State.trcEvent s rec_).hst = s.hst ∧ (State.trcEvent s rec_).pairLo = s.pairLo ∧ (State.trcEvent s rec_).now = s.now ∧
    (State.trcEvent s rec_).free = s.free ∧ (State.trcEvent s rec_).pending = s.pending := by
  unfold State.trcEvent; simp

@[simp] theorem putSlot (s : State) (k w : Nat) : (State.putSlot s k w).cmn = s.cmn ∧
    (State.putSlot s k w).seq = s.seq ∧ (State.putSlot s k w).tly = s.tly ∧ (State.putSlot s k w).adm = s.adm ∧
    (State.putSlot s k w).beam = s.beam ∧ (State.putSlot s k w).ctl = s.ctl ∧ (State.putSlot s k w).fcs = s.fcs ∧
    (State.putSlot s k w).thm = s.thm ∧ (State.putSlot s k w).sns = s.sns ∧ (State.putSlot s k w).dom = s.dom ∧
    (State.putSlot s k w).clk = s.clk ∧ (State.putSlot s k w).vrg = s.vrg ∧ (State.putSlot s k w).pmb = s.pmb ∧
    (State.putSlot s k w).frm = s.frm ∧ (State.putSlot s k w).tre = s.tre ∧ (State.putSlot s k w).mbs = s.mbs ∧
    (State.putSlot s k w).mbn = s.mbn ∧ (State.putSlot s k w).rck = s.rck ∧ (State.putSlot s k w).aut = s.aut ∧
    (State.putSlot s k w).rst = s.rst ∧ (State.putSlot s k w).rel = s.rel ∧ (State.putSlot s k w).trc = s.trc ∧
    (State.putSlot s k w).hdr = s.hdr ∧ (State.putSlot s k w).stg = s.stg ∧ (State.putSlot s k w).hst = s.hst ∧
    (State.putSlot s k w).pairLo = s.pairLo ∧ (State.putSlot s k w).now = s.now ∧ (State.putSlot s k w).free = s.free ∧
    (State.putSlot s k w).pending = s.pending := by
  unfold State.putSlot; simp

@[simp] theorem freeze (s : State) (cause : Nat) : (State.freeze s cause).cmn = s.cmn ∧
    (State.freeze s cause).seq = s.seq ∧ (State.freeze s cause).tly = s.tly ∧ (State.freeze s cause).adm = s.adm ∧
    (State.freeze s cause).beam = s.beam ∧ (State.freeze s cause).ctl = s.ctl ∧ (State.freeze s cause).fcs = s.fcs ∧
    (State.freeze s cause).thm = s.thm ∧ (State.freeze s cause).sns = s.sns ∧ (State.freeze s cause).dom = s.dom ∧
    (State.freeze s cause).clk = s.clk ∧ (State.freeze s cause).vrg = s.vrg ∧ (State.freeze s cause).pmb = s.pmb ∧
    (State.freeze s cause).frm = s.frm ∧ (State.freeze s cause).tre = s.tre ∧ (State.freeze s cause).mbs = s.mbs ∧
    (State.freeze s cause).mbn = s.mbn ∧ (State.freeze s cause).rck = s.rck ∧ (State.freeze s cause).aut = s.aut ∧
    (State.freeze s cause).rst = s.rst ∧ (State.freeze s cause).rel = s.rel ∧ (State.freeze s cause).trc = s.trc ∧
    (State.freeze s cause).stg = s.stg ∧ (State.freeze s cause).hst = s.hst ∧ (State.freeze s cause).pairLo = s.pairLo ∧
    (State.freeze s cause).now = s.now ∧ (State.freeze s cause).free = s.free ∧ (State.freeze s cause).pending = s.pending := by
  unfold State.freeze; simp

@[simp] theorem unfreeze (s : State) : (State.unfreeze s).cmn = s.cmn ∧ (State.unfreeze s).seq = s.seq ∧
    (State.unfreeze s).tly = s.tly ∧ (State.unfreeze s).adm = s.adm ∧ (State.unfreeze s).beam = s.beam ∧
    (State.unfreeze s).ctl = s.ctl ∧ (State.unfreeze s).fcs = s.fcs ∧ (State.unfreeze s).thm = s.thm ∧
    (State.unfreeze s).sns = s.sns ∧ (State.unfreeze s).dom = s.dom ∧ (State.unfreeze s).clk = s.clk ∧
    (State.unfreeze s).vrg = s.vrg ∧ (State.unfreeze s).pmb = s.pmb ∧ (State.unfreeze s).frm = s.frm ∧
    (State.unfreeze s).tre = s.tre ∧ (State.unfreeze s).mbs = s.mbs ∧ (State.unfreeze s).mbn = s.mbn ∧
    (State.unfreeze s).rck = s.rck ∧ (State.unfreeze s).aut = s.aut ∧ (State.unfreeze s).rst = s.rst ∧
    (State.unfreeze s).rel = s.rel ∧ (State.unfreeze s).trc = s.trc ∧ (State.unfreeze s).hdr = s.hdr ∧
    (State.unfreeze s).stg = s.stg ∧ (State.unfreeze s).hst = s.hst ∧ (State.unfreeze s).pairLo = s.pairLo ∧
    (State.unfreeze s).now = s.now ∧ (State.unfreeze s).free = s.free ∧ (State.unfreeze s).pending = s.pending := by
  unfold State.unfreeze; simp

@[simp] theorem freezeIfFull (s : State) : (State.freezeIfFull s).cmn = s.cmn ∧
    (State.freezeIfFull s).seq = s.seq ∧ (State.freezeIfFull s).tly = s.tly ∧ (State.freezeIfFull s).adm = s.adm ∧
    (State.freezeIfFull s).beam = s.beam ∧ (State.freezeIfFull s).ctl = s.ctl ∧ (State.freezeIfFull s).fcs = s.fcs ∧
    (State.freezeIfFull s).thm = s.thm ∧ (State.freezeIfFull s).sns = s.sns ∧ (State.freezeIfFull s).dom = s.dom ∧
    (State.freezeIfFull s).clk = s.clk ∧ (State.freezeIfFull s).vrg = s.vrg ∧ (State.freezeIfFull s).pmb = s.pmb ∧
    (State.freezeIfFull s).frm = s.frm ∧ (State.freezeIfFull s).tre = s.tre ∧ (State.freezeIfFull s).mbs = s.mbs ∧
    (State.freezeIfFull s).mbn = s.mbn ∧ (State.freezeIfFull s).rck = s.rck ∧ (State.freezeIfFull s).aut = s.aut ∧
    (State.freezeIfFull s).rst = s.rst ∧ (State.freezeIfFull s).rel = s.rel ∧ (State.freezeIfFull s).trc = s.trc ∧
    (State.freezeIfFull s).stg = s.stg ∧ (State.freezeIfFull s).hst = s.hst ∧ (State.freezeIfFull s).pairLo = s.pairLo ∧
    (State.freezeIfFull s).now = s.now ∧ (State.freezeIfFull s).free = s.free ∧ (State.freezeIfFull s).pending = s.pending := by
  unfold State.freezeIfFull; simp

@[simp] theorem flushEnd (s : State) : (State.flushEnd s).cmn = s.cmn ∧ (State.flushEnd s).seq = s.seq ∧
    (State.flushEnd s).tly = s.tly ∧ (State.flushEnd s).adm = s.adm ∧ (State.flushEnd s).beam = s.beam ∧
    (State.flushEnd s).ctl = s.ctl ∧ (State.flushEnd s).fcs = s.fcs ∧ (State.flushEnd s).thm = s.thm ∧
    (State.flushEnd s).sns = s.sns ∧ (State.flushEnd s).dom = s.dom ∧ (State.flushEnd s).clk = s.clk ∧
    (State.flushEnd s).vrg = s.vrg ∧ (State.flushEnd s).pmb = s.pmb ∧ (State.flushEnd s).frm = s.frm ∧
    (State.flushEnd s).tre = s.tre ∧ (State.flushEnd s).mbs = s.mbs ∧ (State.flushEnd s).mbn = s.mbn ∧
    (State.flushEnd s).rck = s.rck ∧ (State.flushEnd s).aut = s.aut ∧ (State.flushEnd s).rst = s.rst ∧
    (State.flushEnd s).rel = s.rel ∧ (State.flushEnd s).trc = s.trc ∧ (State.flushEnd s).stg = s.stg ∧
    (State.flushEnd s).hst = s.hst ∧ (State.flushEnd s).pairLo = s.pairLo ∧ (State.flushEnd s).now = s.now ∧
    (State.flushEnd s).free = s.free ∧ (State.flushEnd s).pending = s.pending := by
  unfold State.flushEnd; simp

@[simp] theorem flush (s : State) : (State.flush s).cmn = s.cmn ∧ (State.flush s).seq = s.seq ∧
    (State.flush s).tly = s.tly ∧ (State.flush s).adm = s.adm ∧ (State.flush s).beam = s.beam ∧ (State.flush s).ctl = s.ctl ∧
    (State.flush s).fcs = s.fcs ∧ (State.flush s).thm = s.thm ∧ (State.flush s).sns = s.sns ∧ (State.flush s).dom = s.dom ∧
    (State.flush s).clk = s.clk ∧ (State.flush s).vrg = s.vrg ∧ (State.flush s).pmb = s.pmb ∧ (State.flush s).frm = s.frm ∧
    (State.flush s).tre = s.tre ∧ (State.flush s).mbs = s.mbs ∧ (State.flush s).mbn = s.mbn ∧ (State.flush s).rck = s.rck ∧
    (State.flush s).aut = s.aut ∧ (State.flush s).rst = s.rst ∧ (State.flush s).rel = s.rel ∧ (State.flush s).trc = s.trc ∧
    (State.flush s).stg = s.stg ∧ (State.flush s).hst = s.hst ∧ (State.flush s).pairLo = s.pairLo ∧
    (State.flush s).now = s.now ∧ (State.flush s).free = s.free ∧ (State.flush s).pending = s.pending := by
  unfold State.flush; simp

@[simp] theorem overflowRecord (s : State) : (State.overflowRecord s).cmn = s.cmn ∧
    (State.overflowRecord s).seq = s.seq ∧ (State.overflowRecord s).tly = s.tly ∧ (State.overflowRecord s).adm = s.adm ∧
    (State.overflowRecord s).beam = s.beam ∧ (State.overflowRecord s).ctl = s.ctl ∧ (State.overflowRecord s).fcs = s.fcs ∧
    (State.overflowRecord s).thm = s.thm ∧ (State.overflowRecord s).sns = s.sns ∧ (State.overflowRecord s).dom = s.dom ∧
    (State.overflowRecord s).clk = s.clk ∧ (State.overflowRecord s).vrg = s.vrg ∧ (State.overflowRecord s).pmb = s.pmb ∧
    (State.overflowRecord s).frm = s.frm ∧ (State.overflowRecord s).tre = s.tre ∧ (State.overflowRecord s).mbs = s.mbs ∧
    (State.overflowRecord s).mbn = s.mbn ∧ (State.overflowRecord s).rck = s.rck ∧ (State.overflowRecord s).aut = s.aut ∧
    (State.overflowRecord s).rst = s.rst ∧ (State.overflowRecord s).rel = s.rel ∧ (State.overflowRecord s).trc = s.trc ∧
    (State.overflowRecord s).stg = s.stg ∧ (State.overflowRecord s).hst = s.hst ∧
    (State.overflowRecord s).pairLo = s.pairLo ∧ (State.overflowRecord s).now = s.now ∧
    (State.overflowRecord s).free = s.free ∧ (State.overflowRecord s).pending = s.pending := by
  unfold State.overflowRecord; simp

@[simp] theorem recordDone (s : State) (e : EvtEntry) (k : Nat) : (State.recordDone s e k).cmn = s.cmn ∧
    (State.recordDone s e k).seq = s.seq ∧ (State.recordDone s e k).tly = s.tly ∧ (State.recordDone s e k).adm = s.adm ∧
    (State.recordDone s e k).beam = s.beam ∧ (State.recordDone s e k).ctl = s.ctl ∧ (State.recordDone s e k).fcs = s.fcs ∧
    (State.recordDone s e k).thm = s.thm ∧ (State.recordDone s e k).sns = s.sns ∧ (State.recordDone s e k).dom = s.dom ∧
    (State.recordDone s e k).clk = s.clk ∧ (State.recordDone s e k).vrg = s.vrg ∧ (State.recordDone s e k).pmb = s.pmb ∧
    (State.recordDone s e k).frm = s.frm ∧ (State.recordDone s e k).tre = s.tre ∧ (State.recordDone s e k).mbs = s.mbs ∧
    (State.recordDone s e k).mbn = s.mbn ∧ (State.recordDone s e k).rck = s.rck ∧ (State.recordDone s e k).aut = s.aut ∧
    (State.recordDone s e k).rst = s.rst ∧ (State.recordDone s e k).rel = s.rel ∧ (State.recordDone s e k).stg = s.stg ∧
    (State.recordDone s e k).hst = s.hst ∧ (State.recordDone s e k).pairLo = s.pairLo ∧
    (State.recordDone s e k).now = s.now ∧ (State.recordDone s e k).free = s.free ∧
    (State.recordDone s e k).pending = s.pending := by
  unfold State.recordDone; simp

@[simp] theorem writeRecord (s : State) (e : EvtEntry) : (State.writeRecord s e).cmn = s.cmn ∧
    (State.writeRecord s e).seq = s.seq ∧ (State.writeRecord s e).tly = s.tly ∧ (State.writeRecord s e).adm = s.adm ∧
    (State.writeRecord s e).beam = s.beam ∧ (State.writeRecord s e).ctl = s.ctl ∧ (State.writeRecord s e).fcs = s.fcs ∧
    (State.writeRecord s e).thm = s.thm ∧ (State.writeRecord s e).sns = s.sns ∧ (State.writeRecord s e).dom = s.dom ∧
    (State.writeRecord s e).clk = s.clk ∧ (State.writeRecord s e).vrg = s.vrg ∧ (State.writeRecord s e).pmb = s.pmb ∧
    (State.writeRecord s e).frm = s.frm ∧ (State.writeRecord s e).tre = s.tre ∧ (State.writeRecord s e).mbs = s.mbs ∧
    (State.writeRecord s e).mbn = s.mbn ∧ (State.writeRecord s e).rck = s.rck ∧ (State.writeRecord s e).aut = s.aut ∧
    (State.writeRecord s e).rst = s.rst ∧ (State.writeRecord s e).rel = s.rel ∧ (State.writeRecord s e).stg = s.stg ∧
    (State.writeRecord s e).hst = s.hst ∧ (State.writeRecord s e).pairLo = s.pairLo ∧ (State.writeRecord s e).now = s.now ∧
    (State.writeRecord s e).free = s.free ∧ (State.writeRecord s e).pending = s.pending := by
  unfold State.writeRecord; simp

@[simp] theorem summary (s : State) (ck : Nat × Nat) : (State.summary s ck).cmn = s.cmn ∧
    (State.summary s ck).seq = s.seq ∧ (State.summary s ck).tly = s.tly ∧ (State.summary s ck).adm = s.adm ∧
    (State.summary s ck).beam = s.beam ∧ (State.summary s ck).ctl = s.ctl ∧ (State.summary s ck).fcs = s.fcs ∧
    (State.summary s ck).thm = s.thm ∧ (State.summary s ck).sns = s.sns ∧ (State.summary s ck).dom = s.dom ∧
    (State.summary s ck).clk = s.clk ∧ (State.summary s ck).vrg = s.vrg ∧ (State.summary s ck).pmb = s.pmb ∧
    (State.summary s ck).frm = s.frm ∧ (State.summary s ck).tre = s.tre ∧ (State.summary s ck).mbs = s.mbs ∧
    (State.summary s ck).mbn = s.mbn ∧ (State.summary s ck).rck = s.rck ∧ (State.summary s ck).aut = s.aut ∧
    (State.summary s ck).rst = s.rst ∧ (State.summary s ck).rel = s.rel ∧ (State.summary s ck).trc = s.trc ∧
    (State.summary s ck).stg = s.stg ∧ (State.summary s ck).hst = s.hst ∧ (State.summary s ck).pairLo = s.pairLo ∧
    (State.summary s ck).now = s.now ∧ (State.summary s ck).free = s.free ∧ (State.summary s ck).pending = s.pending := by
  unfold State.summary; simp

@[simp] theorem suppMsEnd (s : State) : (State.suppMsEnd s).cmn = s.cmn ∧ (State.suppMsEnd s).seq = s.seq ∧
    (State.suppMsEnd s).tly = s.tly ∧ (State.suppMsEnd s).adm = s.adm ∧ (State.suppMsEnd s).beam = s.beam ∧
    (State.suppMsEnd s).ctl = s.ctl ∧ (State.suppMsEnd s).fcs = s.fcs ∧ (State.suppMsEnd s).thm = s.thm ∧
    (State.suppMsEnd s).sns = s.sns ∧ (State.suppMsEnd s).dom = s.dom ∧ (State.suppMsEnd s).clk = s.clk ∧
    (State.suppMsEnd s).vrg = s.vrg ∧ (State.suppMsEnd s).pmb = s.pmb ∧ (State.suppMsEnd s).frm = s.frm ∧
    (State.suppMsEnd s).tre = s.tre ∧ (State.suppMsEnd s).mbs = s.mbs ∧ (State.suppMsEnd s).mbn = s.mbn ∧
    (State.suppMsEnd s).rck = s.rck ∧ (State.suppMsEnd s).aut = s.aut ∧ (State.suppMsEnd s).rst = s.rst ∧
    (State.suppMsEnd s).rel = s.rel ∧ (State.suppMsEnd s).trc = s.trc ∧ (State.suppMsEnd s).hdr = s.hdr ∧
    (State.suppMsEnd s).stg = s.stg ∧ (State.suppMsEnd s).hst = s.hst ∧ (State.suppMsEnd s).pairLo = s.pairLo ∧
    (State.suppMsEnd s).now = s.now ∧ (State.suppMsEnd s).free = s.free ∧ (State.suppMsEnd s).pending = s.pending := by
  unfold State.suppMsEnd; simp

@[simp] theorem placeholder (s : State) (row k : Nat) : (State.placeholder s row k).cmn = s.cmn ∧
    (State.placeholder s row k).seq = s.seq ∧ (State.placeholder s row k).tly = s.tly ∧
    (State.placeholder s row k).adm = s.adm ∧ (State.placeholder s row k).beam = s.beam ∧
    (State.placeholder s row k).ctl = s.ctl ∧ (State.placeholder s row k).fcs = s.fcs ∧
    (State.placeholder s row k).thm = s.thm ∧ (State.placeholder s row k).sns = s.sns ∧
    (State.placeholder s row k).dom = s.dom ∧ (State.placeholder s row k).clk = s.clk ∧
    (State.placeholder s row k).vrg = s.vrg ∧ (State.placeholder s row k).pmb = s.pmb ∧
    (State.placeholder s row k).frm = s.frm ∧ (State.placeholder s row k).tre = s.tre ∧
    (State.placeholder s row k).mbs = s.mbs ∧ (State.placeholder s row k).mbn = s.mbn ∧
    (State.placeholder s row k).rck = s.rck ∧ (State.placeholder s row k).aut = s.aut ∧
    (State.placeholder s row k).rst = s.rst ∧ (State.placeholder s row k).rel = s.rel ∧
    (State.placeholder s row k).trc = s.trc ∧ (State.placeholder s row k).hdr = s.hdr ∧
    (State.placeholder s row k).stg = s.stg ∧ (State.placeholder s row k).hst = s.hst ∧
    (State.placeholder s row k).pairLo = s.pairLo ∧ (State.placeholder s row k).now = s.now ∧
    (State.placeholder s row k).free = s.free ∧ (State.placeholder s row k).pending = s.pending := by
  unfold State.placeholder; simp

@[simp] theorem recorderRowMoved (s : State) (row : Nat) : (State.recorderRowMoved s row).cmn = s.cmn ∧
    (State.recorderRowMoved s row).seq = s.seq ∧ (State.recorderRowMoved s row).tly = s.tly ∧
    (State.recorderRowMoved s row).adm = s.adm ∧ (State.recorderRowMoved s row).beam = s.beam ∧
    (State.recorderRowMoved s row).ctl = s.ctl ∧ (State.recorderRowMoved s row).fcs = s.fcs ∧
    (State.recorderRowMoved s row).thm = s.thm ∧ (State.recorderRowMoved s row).sns = s.sns ∧
    (State.recorderRowMoved s row).dom = s.dom ∧ (State.recorderRowMoved s row).clk = s.clk ∧
    (State.recorderRowMoved s row).vrg = s.vrg ∧ (State.recorderRowMoved s row).pmb = s.pmb ∧
    (State.recorderRowMoved s row).frm = s.frm ∧ (State.recorderRowMoved s row).tre = s.tre ∧
    (State.recorderRowMoved s row).mbs = s.mbs ∧ (State.recorderRowMoved s row).mbn = s.mbn ∧
    (State.recorderRowMoved s row).rck = s.rck ∧ (State.recorderRowMoved s row).aut = s.aut ∧
    (State.recorderRowMoved s row).rst = s.rst ∧ (State.recorderRowMoved s row).rel = s.rel ∧
    (State.recorderRowMoved s row).trc = s.trc ∧ (State.recorderRowMoved s row).hdr = s.hdr ∧
    (State.recorderRowMoved s row).stg = s.stg ∧ (State.recorderRowMoved s row).hst = s.hst ∧
    (State.recorderRowMoved s row).pairLo = s.pairLo ∧ (State.recorderRowMoved s row).now = s.now ∧
    (State.recorderRowMoved s row).free = s.free ∧ (State.recorderRowMoved s row).pending = s.pending := by
  unfold State.recorderRowMoved; simp

@[simp] theorem recorderRowOut (s : State) (row : Nat) : (State.recorderRowOut s row).cmn = s.cmn ∧
    (State.recorderRowOut s row).seq = s.seq ∧ (State.recorderRowOut s row).tly = s.tly ∧
    (State.recorderRowOut s row).adm = s.adm ∧ (State.recorderRowOut s row).beam = s.beam ∧
    (State.recorderRowOut s row).ctl = s.ctl ∧ (State.recorderRowOut s row).fcs = s.fcs ∧
    (State.recorderRowOut s row).thm = s.thm ∧ (State.recorderRowOut s row).sns = s.sns ∧
    (State.recorderRowOut s row).dom = s.dom ∧ (State.recorderRowOut s row).clk = s.clk ∧
    (State.recorderRowOut s row).vrg = s.vrg ∧ (State.recorderRowOut s row).pmb = s.pmb ∧
    (State.recorderRowOut s row).frm = s.frm ∧ (State.recorderRowOut s row).tre = s.tre ∧
    (State.recorderRowOut s row).mbs = s.mbs ∧ (State.recorderRowOut s row).mbn = s.mbn ∧
    (State.recorderRowOut s row).rck = s.rck ∧ (State.recorderRowOut s row).aut = s.aut ∧
    (State.recorderRowOut s row).rst = s.rst ∧ (State.recorderRowOut s row).rel = s.rel ∧
    (State.recorderRowOut s row).trc = s.trc ∧ (State.recorderRowOut s row).hdr = s.hdr ∧
    (State.recorderRowOut s row).stg = s.stg ∧ (State.recorderRowOut s row).hst = s.hst ∧
    (State.recorderRowOut s row).pairLo = s.pairLo ∧ (State.recorderRowOut s row).now = s.now ∧
    (State.recorderRowOut s row).free = s.free ∧ (State.recorderRowOut s row).pending = s.pending := by
  unfold State.recorderRowOut; simp

@[simp] theorem copySlot (s : State) (k : Nat) : (State.copySlot s k).cmn = s.cmn ∧
    (State.copySlot s k).seq = s.seq ∧ (State.copySlot s k).tly = s.tly ∧ (State.copySlot s k).adm = s.adm ∧
    (State.copySlot s k).beam = s.beam ∧ (State.copySlot s k).ctl = s.ctl ∧ (State.copySlot s k).fcs = s.fcs ∧
    (State.copySlot s k).thm = s.thm ∧ (State.copySlot s k).sns = s.sns ∧ (State.copySlot s k).dom = s.dom ∧
    (State.copySlot s k).clk = s.clk ∧ (State.copySlot s k).vrg = s.vrg ∧ (State.copySlot s k).pmb = s.pmb ∧
    (State.copySlot s k).frm = s.frm ∧ (State.copySlot s k).tre = s.tre ∧ (State.copySlot s k).mbs = s.mbs ∧
    (State.copySlot s k).mbn = s.mbn ∧ (State.copySlot s k).rck = s.rck ∧ (State.copySlot s k).aut = s.aut ∧
    (State.copySlot s k).rst = s.rst ∧ (State.copySlot s k).rel = s.rel ∧ (State.copySlot s k).trc = s.trc ∧
    (State.copySlot s k).hdr = s.hdr ∧ (State.copySlot s k).stg = s.stg ∧ (State.copySlot s k).hst = s.hst ∧
    (State.copySlot s k).pairLo = s.pairLo ∧ (State.copySlot s k).now = s.now ∧ (State.copySlot s k).free = s.free ∧
    (State.copySlot s k).pending = s.pending := by
  unfold State.copySlot; simp

@[simp] theorem writeEvtCfg (s : State) (w : Nat) : (State.writeEvtCfg s w).cmn = s.cmn ∧
    (State.writeEvtCfg s w).seq = s.seq ∧ (State.writeEvtCfg s w).tly = s.tly ∧ (State.writeEvtCfg s w).adm = s.adm ∧
    (State.writeEvtCfg s w).beam = s.beam ∧ (State.writeEvtCfg s w).ctl = s.ctl ∧ (State.writeEvtCfg s w).fcs = s.fcs ∧
    (State.writeEvtCfg s w).thm = s.thm ∧ (State.writeEvtCfg s w).sns = s.sns ∧ (State.writeEvtCfg s w).dom = s.dom ∧
    (State.writeEvtCfg s w).clk = s.clk ∧ (State.writeEvtCfg s w).vrg = s.vrg ∧ (State.writeEvtCfg s w).pmb = s.pmb ∧
    (State.writeEvtCfg s w).frm = s.frm ∧ (State.writeEvtCfg s w).tre = s.tre ∧ (State.writeEvtCfg s w).mbs = s.mbs ∧
    (State.writeEvtCfg s w).mbn = s.mbn ∧ (State.writeEvtCfg s w).rck = s.rck ∧ (State.writeEvtCfg s w).aut = s.aut ∧
    (State.writeEvtCfg s w).rst = s.rst ∧ (State.writeEvtCfg s w).rel = s.rel ∧ (State.writeEvtCfg s w).trc = s.trc ∧
    (State.writeEvtCfg s w).stg = s.stg ∧ (State.writeEvtCfg s w).hst = s.hst ∧ (State.writeEvtCfg s w).pairLo = s.pairLo ∧
    (State.writeEvtCfg s w).now = s.now ∧ (State.writeEvtCfg s w).free = s.free ∧
    (State.writeEvtCfg s w).pending = s.pending := by
  unfold State.writeEvtCfg; simp

@[simp] theorem eraseStart (s : State) : (State.eraseStart s).cmn = s.cmn ∧ (State.eraseStart s).seq = s.seq ∧
    (State.eraseStart s).tly = s.tly ∧ (State.eraseStart s).adm = s.adm ∧ (State.eraseStart s).beam = s.beam ∧
    (State.eraseStart s).ctl = s.ctl ∧ (State.eraseStart s).fcs = s.fcs ∧ (State.eraseStart s).thm = s.thm ∧
    (State.eraseStart s).sns = s.sns ∧ (State.eraseStart s).dom = s.dom ∧ (State.eraseStart s).clk = s.clk ∧
    (State.eraseStart s).vrg = s.vrg ∧ (State.eraseStart s).pmb = s.pmb ∧ (State.eraseStart s).frm = s.frm ∧
    (State.eraseStart s).tre = s.tre ∧ (State.eraseStart s).mbs = s.mbs ∧ (State.eraseStart s).mbn = s.mbn ∧
    (State.eraseStart s).rck = s.rck ∧ (State.eraseStart s).aut = s.aut ∧ (State.eraseStart s).rst = s.rst ∧
    (State.eraseStart s).rel = s.rel ∧ (State.eraseStart s).trc = s.trc ∧ (State.eraseStart s).stg = s.stg ∧
    (State.eraseStart s).hst = s.hst ∧ (State.eraseStart s).pairLo = s.pairLo ∧ (State.eraseStart s).now = s.now ∧
    (State.eraseStart s).free = s.free ∧ (State.eraseStart s).pending = s.pending := by
  unfold State.eraseStart; simp

@[simp] theorem trcPop (s : State) : (State.trcPop s).cmn = s.cmn ∧ (State.trcPop s).seq = s.seq ∧
    (State.trcPop s).tly = s.tly ∧ (State.trcPop s).adm = s.adm ∧ (State.trcPop s).beam = s.beam ∧
    (State.trcPop s).ctl = s.ctl ∧ (State.trcPop s).fcs = s.fcs ∧ (State.trcPop s).thm = s.thm ∧
    (State.trcPop s).sns = s.sns ∧ (State.trcPop s).dom = s.dom ∧ (State.trcPop s).clk = s.clk ∧
    (State.trcPop s).vrg = s.vrg ∧ (State.trcPop s).pmb = s.pmb ∧ (State.trcPop s).frm = s.frm ∧
    (State.trcPop s).tre = s.tre ∧ (State.trcPop s).mbs = s.mbs ∧ (State.trcPop s).mbn = s.mbn ∧
    (State.trcPop s).rck = s.rck ∧ (State.trcPop s).aut = s.aut ∧ (State.trcPop s).rst = s.rst ∧
    (State.trcPop s).rel = s.rel ∧ (State.trcPop s).stg = s.stg ∧ (State.trcPop s).hst = s.hst ∧
    (State.trcPop s).pairLo = s.pairLo ∧ (State.trcPop s).now = s.now ∧ (State.trcPop s).free = s.free ∧
    (State.trcPop s).pending = s.pending := by
  unfold State.trcPop; split <;> simp

@[simp] theorem rackIbi (s : State) (payload : Nat) : (State.rackIbi s payload).cmn = s.cmn ∧
    (State.rackIbi s payload).seq = s.seq ∧ (State.rackIbi s payload).tly = s.tly ∧ (State.rackIbi s payload).adm = s.adm ∧
    (State.rackIbi s payload).beam = s.beam ∧ (State.rackIbi s payload).ctl = s.ctl ∧ (State.rackIbi s payload).fcs = s.fcs ∧
    (State.rackIbi s payload).thm = s.thm ∧ (State.rackIbi s payload).sns = s.sns ∧ (State.rackIbi s payload).dom = s.dom ∧
    (State.rackIbi s payload).clk = s.clk ∧ (State.rackIbi s payload).vrg = s.vrg ∧ (State.rackIbi s payload).pmb = s.pmb ∧
    (State.rackIbi s payload).frm = s.frm ∧ (State.rackIbi s payload).tre = s.tre ∧ (State.rackIbi s payload).mbs = s.mbs ∧
    (State.rackIbi s payload).mbn = s.mbn ∧ (State.rackIbi s payload).aut = s.aut ∧ (State.rackIbi s payload).rst = s.rst ∧
    (State.rackIbi s payload).rel = s.rel ∧ (State.rackIbi s payload).evt = s.evt ∧ (State.rackIbi s payload).trc = s.trc ∧
    (State.rackIbi s payload).hdr = s.hdr ∧ (State.rackIbi s payload).stg = s.stg ∧ (State.rackIbi s payload).hst = s.hst ∧
    (State.rackIbi s payload).pairLo = s.pairLo ∧ (State.rackIbi s payload).now = s.now ∧
    (State.rackIbi s payload).free = s.free ∧ (State.rackIbi s payload).pending = s.pending := by
  unfold State.rackIbi; simp

@[simp] theorem settle (s : State) (cause : Nat) : (State.settle s cause).cmn = s.cmn ∧
    (State.settle s cause).tly = s.tly ∧ (State.settle s cause).adm = s.adm ∧ (State.settle s cause).beam = s.beam ∧
    (State.settle s cause).ctl = s.ctl ∧ (State.settle s cause).fcs = s.fcs ∧ (State.settle s cause).thm = s.thm ∧
    (State.settle s cause).sns = s.sns ∧ (State.settle s cause).dom = s.dom ∧ (State.settle s cause).clk = s.clk ∧
    (State.settle s cause).vrg = s.vrg ∧ (State.settle s cause).pmb = s.pmb ∧ (State.settle s cause).frm = s.frm ∧
    (State.settle s cause).tre = s.tre ∧ (State.settle s cause).aut = s.aut ∧ (State.settle s cause).rst = s.rst ∧
    (State.settle s cause).rel = s.rel ∧ (State.settle s cause).trc = s.trc ∧ (State.settle s cause).stg = s.stg ∧
    (State.settle s cause).hst = s.hst ∧ (State.settle s cause).pairLo = s.pairLo ∧ (State.settle s cause).now = s.now ∧
    (State.settle s cause).free = s.free ∧ (State.settle s cause).pending = s.pending := by
  unfold State.settle; simp

@[simp] theorem boxFill (s : State) (c : Chan) (k w : Nat) : (State.boxFill s c k w).cmn = s.cmn ∧
    (State.boxFill s c k w).seq = s.seq ∧ (State.boxFill s c k w).tly = s.tly ∧ (State.boxFill s c k w).adm = s.adm ∧
    (State.boxFill s c k w).beam = s.beam ∧ (State.boxFill s c k w).ctl = s.ctl ∧ (State.boxFill s c k w).fcs = s.fcs ∧
    (State.boxFill s c k w).thm = s.thm ∧ (State.boxFill s c k w).sns = s.sns ∧ (State.boxFill s c k w).dom = s.dom ∧
    (State.boxFill s c k w).clk = s.clk ∧ (State.boxFill s c k w).vrg = s.vrg ∧ (State.boxFill s c k w).pmb = s.pmb ∧
    (State.boxFill s c k w).frm = s.frm ∧ (State.boxFill s c k w).tre = s.tre ∧ (State.boxFill s c k w).rck = s.rck ∧
    (State.boxFill s c k w).aut = s.aut ∧ (State.boxFill s c k w).rst = s.rst ∧ (State.boxFill s c k w).rel = s.rel ∧
    (State.boxFill s c k w).evt = s.evt ∧ (State.boxFill s c k w).trc = s.trc ∧ (State.boxFill s c k w).hdr = s.hdr ∧
    (State.boxFill s c k w).stg = s.stg ∧ (State.boxFill s c k w).hst = s.hst ∧ (State.boxFill s c k w).pairLo = s.pairLo ∧
    (State.boxFill s c k w).now = s.now ∧ (State.boxFill s c k w).free = s.free ∧
    (State.boxFill s c k w).pending = s.pending := by
  unfold State.boxFill; simp

@[simp] theorem boxRefuse (s : State) (c : Chan) : (State.boxRefuse s c).cmn = s.cmn ∧
    (State.boxRefuse s c).seq = s.seq ∧ (State.boxRefuse s c).tly = s.tly ∧ (State.boxRefuse s c).adm = s.adm ∧
    (State.boxRefuse s c).beam = s.beam ∧ (State.boxRefuse s c).ctl = s.ctl ∧ (State.boxRefuse s c).fcs = s.fcs ∧
    (State.boxRefuse s c).thm = s.thm ∧ (State.boxRefuse s c).sns = s.sns ∧ (State.boxRefuse s c).dom = s.dom ∧
    (State.boxRefuse s c).clk = s.clk ∧ (State.boxRefuse s c).vrg = s.vrg ∧ (State.boxRefuse s c).pmb = s.pmb ∧
    (State.boxRefuse s c).frm = s.frm ∧ (State.boxRefuse s c).tre = s.tre ∧ (State.boxRefuse s c).rck = s.rck ∧
    (State.boxRefuse s c).aut = s.aut ∧ (State.boxRefuse s c).rst = s.rst ∧ (State.boxRefuse s c).rel = s.rel ∧
    (State.boxRefuse s c).evt = s.evt ∧ (State.boxRefuse s c).trc = s.trc ∧ (State.boxRefuse s c).stg = s.stg ∧
    (State.boxRefuse s c).hst = s.hst ∧ (State.boxRefuse s c).pairLo = s.pairLo ∧ (State.boxRefuse s c).now = s.now ∧
    (State.boxRefuse s c).free = s.free ∧ (State.boxRefuse s c).pending = s.pending := by
  unfold State.boxRefuse; simp

@[simp] theorem boxTake (s : State) (c : Chan) (k : Nat) : (State.boxTake s c k).cmn = s.cmn ∧
    (State.boxTake s c k).seq = s.seq ∧ (State.boxTake s c k).tly = s.tly ∧ (State.boxTake s c k).adm = s.adm ∧
    (State.boxTake s c k).beam = s.beam ∧ (State.boxTake s c k).ctl = s.ctl ∧ (State.boxTake s c k).fcs = s.fcs ∧
    (State.boxTake s c k).thm = s.thm ∧ (State.boxTake s c k).sns = s.sns ∧ (State.boxTake s c k).dom = s.dom ∧
    (State.boxTake s c k).clk = s.clk ∧ (State.boxTake s c k).vrg = s.vrg ∧ (State.boxTake s c k).pmb = s.pmb ∧
    (State.boxTake s c k).frm = s.frm ∧ (State.boxTake s c k).tre = s.tre ∧ (State.boxTake s c k).rck = s.rck ∧
    (State.boxTake s c k).aut = s.aut ∧ (State.boxTake s c k).rst = s.rst ∧ (State.boxTake s c k).rel = s.rel ∧
    (State.boxTake s c k).evt = s.evt ∧ (State.boxTake s c k).trc = s.trc ∧ (State.boxTake s c k).hdr = s.hdr ∧
    (State.boxTake s c k).stg = s.stg ∧ (State.boxTake s c k).hst = s.hst ∧ (State.boxTake s c k).pairLo = s.pairLo ∧
    (State.boxTake s c k).now = s.now ∧ (State.boxTake s c k).free = s.free ∧ (State.boxTake s c k).pending = s.pending := by
  unfold State.boxTake; simp

@[simp] theorem outPop (s : State) (c : Chan) : (State.outPop s c).cmn = s.cmn ∧ (State.outPop s c).seq = s.seq ∧
    (State.outPop s c).tly = s.tly ∧ (State.outPop s c).adm = s.adm ∧ (State.outPop s c).beam = s.beam ∧
    (State.outPop s c).ctl = s.ctl ∧ (State.outPop s c).fcs = s.fcs ∧ (State.outPop s c).thm = s.thm ∧
    (State.outPop s c).sns = s.sns ∧ (State.outPop s c).dom = s.dom ∧ (State.outPop s c).clk = s.clk ∧
    (State.outPop s c).vrg = s.vrg ∧ (State.outPop s c).pmb = s.pmb ∧ (State.outPop s c).frm = s.frm ∧
    (State.outPop s c).tre = s.tre ∧ (State.outPop s c).rck = s.rck ∧ (State.outPop s c).aut = s.aut ∧
    (State.outPop s c).rst = s.rst ∧ (State.outPop s c).rel = s.rel ∧ (State.outPop s c).evt = s.evt ∧
    (State.outPop s c).trc = s.trc ∧ (State.outPop s c).hdr = s.hdr ∧ (State.outPop s c).stg = s.stg ∧
    (State.outPop s c).hst = s.hst ∧ (State.outPop s c).pairLo = s.pairLo ∧ (State.outPop s c).now = s.now ∧
    (State.outPop s c).free = s.free ∧ (State.outPop s c).pending = s.pending := by
  unfold State.outPop; simp

@[simp] theorem rxDomLost (s : State) (c : Chan) (d : Nat) : (State.rxDomLost s c d).cmn = s.cmn ∧
    (State.rxDomLost s c d).seq = s.seq ∧ (State.rxDomLost s c d).tly = s.tly ∧ (State.rxDomLost s c d).adm = s.adm ∧
    (State.rxDomLost s c d).beam = s.beam ∧ (State.rxDomLost s c d).ctl = s.ctl ∧ (State.rxDomLost s c d).fcs = s.fcs ∧
    (State.rxDomLost s c d).thm = s.thm ∧ (State.rxDomLost s c d).sns = s.sns ∧ (State.rxDomLost s c d).dom = s.dom ∧
    (State.rxDomLost s c d).clk = s.clk ∧ (State.rxDomLost s c d).vrg = s.vrg ∧ (State.rxDomLost s c d).pmb = s.pmb ∧
    (State.rxDomLost s c d).frm = s.frm ∧ (State.rxDomLost s c d).tre = s.tre ∧ (State.rxDomLost s c d).rck = s.rck ∧
    (State.rxDomLost s c d).aut = s.aut ∧ (State.rxDomLost s c d).rst = s.rst ∧ (State.rxDomLost s c d).rel = s.rel ∧
    (State.rxDomLost s c d).trc = s.trc ∧ (State.rxDomLost s c d).stg = s.stg ∧ (State.rxDomLost s c d).hst = s.hst ∧
    (State.rxDomLost s c d).pairLo = s.pairLo ∧ (State.rxDomLost s c d).now = s.now ∧ (State.rxDomLost s c d).free = s.free ∧
    (State.rxDomLost s c d).pending = s.pending := by
  unfold State.rxDomLost; simp

@[simp] theorem rxOff (s : State) (d : Nat) : (State.rxOff s d).cmn = s.cmn ∧ (State.rxOff s d).seq = s.seq ∧
    (State.rxOff s d).tly = s.tly ∧ (State.rxOff s d).adm = s.adm ∧ (State.rxOff s d).beam = s.beam ∧
    (State.rxOff s d).ctl = s.ctl ∧ (State.rxOff s d).fcs = s.fcs ∧ (State.rxOff s d).thm = s.thm ∧
    (State.rxOff s d).sns = s.sns ∧ (State.rxOff s d).dom = s.dom ∧ (State.rxOff s d).clk = s.clk ∧
    (State.rxOff s d).vrg = s.vrg ∧ (State.rxOff s d).pmb = s.pmb ∧ (State.rxOff s d).frm = s.frm ∧
    (State.rxOff s d).tre = s.tre ∧ (State.rxOff s d).rck = s.rck ∧ (State.rxOff s d).aut = s.aut ∧
    (State.rxOff s d).rst = s.rst ∧ (State.rxOff s d).rel = s.rel ∧ (State.rxOff s d).trc = s.trc ∧
    (State.rxOff s d).stg = s.stg ∧ (State.rxOff s d).hst = s.hst ∧ (State.rxOff s d).pairLo = s.pairLo ∧
    (State.rxOff s d).now = s.now ∧ (State.rxOff s d).free = s.free ∧ (State.rxOff s d).pending = s.pending := by
  unfold State.rxOff; simp

@[simp] theorem mbxLocalReset (s : State) (c : Chan) : (State.mbxLocalReset s c).cmn = s.cmn ∧
    (State.mbxLocalReset s c).seq = s.seq ∧ (State.mbxLocalReset s c).tly = s.tly ∧ (State.mbxLocalReset s c).adm = s.adm ∧
    (State.mbxLocalReset s c).beam = s.beam ∧ (State.mbxLocalReset s c).ctl = s.ctl ∧ (State.mbxLocalReset s c).fcs = s.fcs ∧
    (State.mbxLocalReset s c).thm = s.thm ∧ (State.mbxLocalReset s c).sns = s.sns ∧ (State.mbxLocalReset s c).dom = s.dom ∧
    (State.mbxLocalReset s c).clk = s.clk ∧ (State.mbxLocalReset s c).vrg = s.vrg ∧ (State.mbxLocalReset s c).pmb = s.pmb ∧
    (State.mbxLocalReset s c).frm = s.frm ∧ (State.mbxLocalReset s c).tre = s.tre ∧ (State.mbxLocalReset s c).rck = s.rck ∧
    (State.mbxLocalReset s c).aut = s.aut ∧ (State.mbxLocalReset s c).rst = s.rst ∧ (State.mbxLocalReset s c).rel = s.rel ∧
    (State.mbxLocalReset s c).trc = s.trc ∧ (State.mbxLocalReset s c).stg = s.stg ∧ (State.mbxLocalReset s c).hst = s.hst ∧
    (State.mbxLocalReset s c).pairLo = s.pairLo ∧ (State.mbxLocalReset s c).now = s.now ∧
    (State.mbxLocalReset s c).free = s.free ∧ (State.mbxLocalReset s c).pending = s.pending := by
  unfold State.mbxLocalReset; simp

@[simp] theorem stgWrite (s : State) (a : Nat) (bs : List Nat) : (State.stgWrite s a bs).cmn = s.cmn ∧
    (State.stgWrite s a bs).tly = s.tly ∧ (State.stgWrite s a bs).adm = s.adm ∧ (State.stgWrite s a bs).beam = s.beam ∧
    (State.stgWrite s a bs).ctl = s.ctl ∧ (State.stgWrite s a bs).fcs = s.fcs ∧ (State.stgWrite s a bs).thm = s.thm ∧
    (State.stgWrite s a bs).sns = s.sns ∧ (State.stgWrite s a bs).dom = s.dom ∧ (State.stgWrite s a bs).clk = s.clk ∧
    (State.stgWrite s a bs).vrg = s.vrg ∧ (State.stgWrite s a bs).pmb = s.pmb ∧ (State.stgWrite s a bs).frm = s.frm ∧
    (State.stgWrite s a bs).tre = s.tre ∧ (State.stgWrite s a bs).mbs = s.mbs ∧ (State.stgWrite s a bs).mbn = s.mbn ∧
    (State.stgWrite s a bs).rck = s.rck ∧ (State.stgWrite s a bs).aut = s.aut ∧ (State.stgWrite s a bs).rst = s.rst ∧
    (State.stgWrite s a bs).rel = s.rel ∧ (State.stgWrite s a bs).evt = s.evt ∧ (State.stgWrite s a bs).trc = s.trc ∧
    (State.stgWrite s a bs).hdr = s.hdr ∧ (State.stgWrite s a bs).hst = s.hst ∧ (State.stgWrite s a bs).pairLo = s.pairLo ∧
    (State.stgWrite s a bs).now = s.now ∧ (State.stgWrite s a bs).free = s.free ∧
    (State.stgWrite s a bs).pending = s.pending := by
  unfold State.stgWrite; simp

@[simp] theorem blkStart (s : State) (c : Chan) (op : Nat) : (State.blkStart s c op).cmn = s.cmn ∧
    (State.blkStart s c op).seq = s.seq ∧ (State.blkStart s c op).tly = s.tly ∧ (State.blkStart s c op).adm = s.adm ∧
    (State.blkStart s c op).beam = s.beam ∧ (State.blkStart s c op).ctl = s.ctl ∧ (State.blkStart s c op).fcs = s.fcs ∧
    (State.blkStart s c op).thm = s.thm ∧ (State.blkStart s c op).sns = s.sns ∧ (State.blkStart s c op).dom = s.dom ∧
    (State.blkStart s c op).clk = s.clk ∧ (State.blkStart s c op).vrg = s.vrg ∧ (State.blkStart s c op).pmb = s.pmb ∧
    (State.blkStart s c op).frm = s.frm ∧ (State.blkStart s c op).tre = s.tre ∧ (State.blkStart s c op).rck = s.rck ∧
    (State.blkStart s c op).aut = s.aut ∧ (State.blkStart s c op).rst = s.rst ∧ (State.blkStart s c op).rel = s.rel ∧
    (State.blkStart s c op).evt = s.evt ∧ (State.blkStart s c op).trc = s.trc ∧ (State.blkStart s c op).stg = s.stg ∧
    (State.blkStart s c op).hst = s.hst ∧ (State.blkStart s c op).pairLo = s.pairLo ∧ (State.blkStart s c op).now = s.now ∧
    (State.blkStart s c op).free = s.free ∧ (State.blkStart s c op).pending = s.pending := by
  unfold State.blkStart; simp

@[simp] theorem blkEnd (s : State) (c : Chan) (err : Nat) : (State.blkEnd s c err).cmn = s.cmn ∧
    (State.blkEnd s c err).seq = s.seq ∧ (State.blkEnd s c err).tly = s.tly ∧ (State.blkEnd s c err).adm = s.adm ∧
    (State.blkEnd s c err).beam = s.beam ∧ (State.blkEnd s c err).ctl = s.ctl ∧ (State.blkEnd s c err).fcs = s.fcs ∧
    (State.blkEnd s c err).thm = s.thm ∧ (State.blkEnd s c err).sns = s.sns ∧ (State.blkEnd s c err).dom = s.dom ∧
    (State.blkEnd s c err).clk = s.clk ∧ (State.blkEnd s c err).vrg = s.vrg ∧ (State.blkEnd s c err).pmb = s.pmb ∧
    (State.blkEnd s c err).frm = s.frm ∧ (State.blkEnd s c err).tre = s.tre ∧ (State.blkEnd s c err).rck = s.rck ∧
    (State.blkEnd s c err).aut = s.aut ∧ (State.blkEnd s c err).rst = s.rst ∧ (State.blkEnd s c err).rel = s.rel ∧
    (State.blkEnd s c err).trc = s.trc ∧ (State.blkEnd s c err).stg = s.stg ∧ (State.blkEnd s c err).hst = s.hst ∧
    (State.blkEnd s c err).pairLo = s.pairLo ∧ (State.blkEnd s c err).now = s.now ∧ (State.blkEnd s c err).free = s.free ∧
    (State.blkEnd s c err).pending = s.pending := by
  unfold State.blkEnd; simp

@[simp] theorem unlockPages (s : State) : (State.unlockPages s).cmn = s.cmn ∧ (State.unlockPages s).seq = s.seq ∧
    (State.unlockPages s).tly = s.tly ∧ (State.unlockPages s).adm = s.adm ∧ (State.unlockPages s).beam = s.beam ∧
    (State.unlockPages s).ctl = s.ctl ∧ (State.unlockPages s).fcs = s.fcs ∧ (State.unlockPages s).thm = s.thm ∧
    (State.unlockPages s).sns = s.sns ∧ (State.unlockPages s).dom = s.dom ∧ (State.unlockPages s).clk = s.clk ∧
    (State.unlockPages s).vrg = s.vrg ∧ (State.unlockPages s).pmb = s.pmb ∧ (State.unlockPages s).frm = s.frm ∧
    (State.unlockPages s).tre = s.tre ∧ (State.unlockPages s).mbs = s.mbs ∧ (State.unlockPages s).mbn = s.mbn ∧
    (State.unlockPages s).rck = s.rck ∧ (State.unlockPages s).aut = s.aut ∧ (State.unlockPages s).rst = s.rst ∧
    (State.unlockPages s).rel = s.rel ∧ (State.unlockPages s).evt = s.evt ∧ (State.unlockPages s).trc = s.trc ∧
    (State.unlockPages s).stg = s.stg ∧ (State.unlockPages s).hst = s.hst ∧ (State.unlockPages s).pairLo = s.pairLo ∧
    (State.unlockPages s).now = s.now ∧ (State.unlockPages s).free = s.free ∧ (State.unlockPages s).pending = s.pending := by
  unfold State.unlockPages; simp

@[simp] theorem enterSafe (s : State) : (State.enterSafe s).cmn = s.cmn ∧ (State.enterSafe s).tly = s.tly ∧
    (State.enterSafe s).adm = s.adm ∧ (State.enterSafe s).beam = s.beam ∧ (State.enterSafe s).ctl = s.ctl ∧
    (State.enterSafe s).fcs = s.fcs ∧ (State.enterSafe s).thm = s.thm ∧ (State.enterSafe s).sns = s.sns ∧
    (State.enterSafe s).dom = s.dom ∧ (State.enterSafe s).clk = s.clk ∧ (State.enterSafe s).vrg = s.vrg ∧
    (State.enterSafe s).pmb = s.pmb ∧ (State.enterSafe s).frm = s.frm ∧ (State.enterSafe s).tre = s.tre ∧
    (State.enterSafe s).mbs = s.mbs ∧ (State.enterSafe s).mbn = s.mbn ∧ (State.enterSafe s).rck = s.rck ∧
    (State.enterSafe s).aut = s.aut ∧ (State.enterSafe s).rst = s.rst ∧ (State.enterSafe s).rel = s.rel ∧
    (State.enterSafe s).evt = s.evt ∧ (State.enterSafe s).trc = s.trc ∧ (State.enterSafe s).stg = s.stg ∧
    (State.enterSafe s).hst = s.hst ∧ (State.enterSafe s).pairLo = s.pairLo ∧ (State.enterSafe s).now = s.now ∧
    (State.enterSafe s).free = s.free ∧ (State.enterSafe s).pending = s.pending := by
  unfold State.enterSafe; simp

@[simp] theorem abandonLoad (s : State) (st : Nat) : (State.abandonLoad s st).cmn = s.cmn ∧
    (State.abandonLoad s st).tly = s.tly ∧ (State.abandonLoad s st).adm = s.adm ∧ (State.abandonLoad s st).beam = s.beam ∧
    (State.abandonLoad s st).ctl = s.ctl ∧ (State.abandonLoad s st).fcs = s.fcs ∧ (State.abandonLoad s st).thm = s.thm ∧
    (State.abandonLoad s st).sns = s.sns ∧ (State.abandonLoad s st).dom = s.dom ∧ (State.abandonLoad s st).clk = s.clk ∧
    (State.abandonLoad s st).vrg = s.vrg ∧ (State.abandonLoad s st).pmb = s.pmb ∧ (State.abandonLoad s st).frm = s.frm ∧
    (State.abandonLoad s st).tre = s.tre ∧ (State.abandonLoad s st).mbs = s.mbs ∧ (State.abandonLoad s st).mbn = s.mbn ∧
    (State.abandonLoad s st).rck = s.rck ∧ (State.abandonLoad s st).aut = s.aut ∧ (State.abandonLoad s st).rst = s.rst ∧
    (State.abandonLoad s st).rel = s.rel ∧ (State.abandonLoad s st).trc = s.trc ∧ (State.abandonLoad s st).hst = s.hst ∧
    (State.abandonLoad s st).pairLo = s.pairLo ∧ (State.abandonLoad s st).now = s.now ∧
    (State.abandonLoad s st).free = s.free ∧ (State.abandonLoad s st).pending = s.pending := by
  unfold State.abandonLoad; simp

@[simp] theorem enterOrphan (s : State) (cause : Nat) : (State.enterOrphan s cause).cmn = s.cmn ∧
    (State.enterOrphan s cause).tly = s.tly ∧ (State.enterOrphan s cause).adm = s.adm ∧
    (State.enterOrphan s cause).beam = s.beam ∧ (State.enterOrphan s cause).ctl = s.ctl ∧
    (State.enterOrphan s cause).fcs = s.fcs ∧ (State.enterOrphan s cause).thm = s.thm ∧
    (State.enterOrphan s cause).sns = s.sns ∧ (State.enterOrphan s cause).dom = s.dom ∧
    (State.enterOrphan s cause).clk = s.clk ∧ (State.enterOrphan s cause).vrg = s.vrg ∧
    (State.enterOrphan s cause).pmb = s.pmb ∧ (State.enterOrphan s cause).frm = s.frm ∧
    (State.enterOrphan s cause).tre = s.tre ∧ (State.enterOrphan s cause).mbn = s.mbn ∧
    (State.enterOrphan s cause).rck = s.rck ∧ (State.enterOrphan s cause).aut = s.aut ∧
    (State.enterOrphan s cause).rst = s.rst ∧ (State.enterOrphan s cause).rel = s.rel ∧
    (State.enterOrphan s cause).trc = s.trc ∧ (State.enterOrphan s cause).stg = s.stg ∧
    (State.enterOrphan s cause).hst = s.hst ∧ (State.enterOrphan s cause).pairLo = s.pairLo ∧
    (State.enterOrphan s cause).now = s.now ∧ (State.enterOrphan s cause).free = s.free ∧
    (State.enterOrphan s cause).pending = s.pending := by
  unfold State.enterOrphan; simp

@[simp] theorem heartbeatLost (s : State) (cause : Nat) : (State.heartbeatLost s cause).cmn = s.cmn ∧
    (State.heartbeatLost s cause).tly = s.tly ∧ (State.heartbeatLost s cause).adm = s.adm ∧
    (State.heartbeatLost s cause).beam = s.beam ∧ (State.heartbeatLost s cause).ctl = s.ctl ∧
    (State.heartbeatLost s cause).fcs = s.fcs ∧ (State.heartbeatLost s cause).thm = s.thm ∧
    (State.heartbeatLost s cause).sns = s.sns ∧ (State.heartbeatLost s cause).dom = s.dom ∧
    (State.heartbeatLost s cause).clk = s.clk ∧ (State.heartbeatLost s cause).vrg = s.vrg ∧
    (State.heartbeatLost s cause).pmb = s.pmb ∧ (State.heartbeatLost s cause).frm = s.frm ∧
    (State.heartbeatLost s cause).tre = s.tre ∧ (State.heartbeatLost s cause).aut = s.aut ∧
    (State.heartbeatLost s cause).rst = s.rst ∧ (State.heartbeatLost s cause).rel = s.rel ∧
    (State.heartbeatLost s cause).trc = s.trc ∧ (State.heartbeatLost s cause).hst = s.hst ∧
    (State.heartbeatLost s cause).pairLo = s.pairLo ∧ (State.heartbeatLost s cause).now = s.now ∧
    (State.heartbeatLost s cause).free = s.free ∧ (State.heartbeatLost s cause).pending = s.pending := by
  unfold State.heartbeatLost; simp

@[simp] theorem leaveOrphan (s : State) : (State.leaveOrphan s).cmn = s.cmn ∧ (State.leaveOrphan s).tly = s.tly ∧
    (State.leaveOrphan s).adm = s.adm ∧ (State.leaveOrphan s).beam = s.beam ∧ (State.leaveOrphan s).ctl = s.ctl ∧
    (State.leaveOrphan s).fcs = s.fcs ∧ (State.leaveOrphan s).thm = s.thm ∧ (State.leaveOrphan s).sns = s.sns ∧
    (State.leaveOrphan s).dom = s.dom ∧ (State.leaveOrphan s).clk = s.clk ∧ (State.leaveOrphan s).vrg = s.vrg ∧
    (State.leaveOrphan s).pmb = s.pmb ∧ (State.leaveOrphan s).frm = s.frm ∧ (State.leaveOrphan s).tre = s.tre ∧
    (State.leaveOrphan s).aut = s.aut ∧ (State.leaveOrphan s).rst = s.rst ∧ (State.leaveOrphan s).rel = s.rel ∧
    (State.leaveOrphan s).trc = s.trc ∧ (State.leaveOrphan s).stg = s.stg ∧ (State.leaveOrphan s).hst = s.hst ∧
    (State.leaveOrphan s).pairLo = s.pairLo ∧ (State.leaveOrphan s).now = s.now ∧ (State.leaveOrphan s).free = s.free ∧
    (State.leaveOrphan s).pending = s.pending := by
  unfold State.leaveOrphan; simp

@[simp] theorem beat (s : State) (b : Nat) : (State.beat s b).cmn = s.cmn ∧ (State.beat s b).tly = s.tly ∧
    (State.beat s b).adm = s.adm ∧ (State.beat s b).beam = s.beam ∧ (State.beat s b).ctl = s.ctl ∧
    (State.beat s b).fcs = s.fcs ∧ (State.beat s b).thm = s.thm ∧ (State.beat s b).sns = s.sns ∧
    (State.beat s b).dom = s.dom ∧ (State.beat s b).clk = s.clk ∧ (State.beat s b).vrg = s.vrg ∧
    (State.beat s b).pmb = s.pmb ∧ (State.beat s b).frm = s.frm ∧ (State.beat s b).tre = s.tre ∧
    (State.beat s b).aut = s.aut ∧ (State.beat s b).rst = s.rst ∧ (State.beat s b).rel = s.rel ∧
    (State.beat s b).trc = s.trc ∧ (State.beat s b).stg = s.stg ∧ (State.beat s b).hst = s.hst ∧
    (State.beat s b).pairLo = s.pairLo ∧ (State.beat s b).now = s.now ∧ (State.beat s b).free = s.free ∧
    (State.beat s b).pending = s.pending := by
  unfold State.beat; simp

@[simp] theorem orphanStep (s : State) : (State.orphanStep s).cmn = s.cmn ∧ (State.orphanStep s).seq = s.seq ∧
    (State.orphanStep s).tly = s.tly ∧ (State.orphanStep s).adm = s.adm ∧ (State.orphanStep s).beam = s.beam ∧
    (State.orphanStep s).ctl = s.ctl ∧ (State.orphanStep s).fcs = s.fcs ∧ (State.orphanStep s).thm = s.thm ∧
    (State.orphanStep s).sns = s.sns ∧ (State.orphanStep s).dom = s.dom ∧ (State.orphanStep s).clk = s.clk ∧
    (State.orphanStep s).vrg = s.vrg ∧ (State.orphanStep s).pmb = s.pmb ∧ (State.orphanStep s).frm = s.frm ∧
    (State.orphanStep s).tre = s.tre ∧ (State.orphanStep s).rck = s.rck ∧ (State.orphanStep s).aut = s.aut ∧
    (State.orphanStep s).rst = s.rst ∧ (State.orphanStep s).rel = s.rel ∧ (State.orphanStep s).trc = s.trc ∧
    (State.orphanStep s).stg = s.stg ∧ (State.orphanStep s).hst = s.hst ∧ (State.orphanStep s).pairLo = s.pairLo ∧
    (State.orphanStep s).now = s.now ∧ (State.orphanStep s).free = s.free ∧ (State.orphanStep s).pending = s.pending := by
  unfold State.orphanStep; simp

@[simp] theorem armCheck (s : State) (mac3 : Nat) : (State.armCheck s mac3).cmn = s.cmn ∧
    (State.armCheck s mac3).seq = s.seq ∧ (State.armCheck s mac3).tly = s.tly ∧ (State.armCheck s mac3).adm = s.adm ∧
    (State.armCheck s mac3).beam = s.beam ∧ (State.armCheck s mac3).ctl = s.ctl ∧ (State.armCheck s mac3).fcs = s.fcs ∧
    (State.armCheck s mac3).thm = s.thm ∧ (State.armCheck s mac3).sns = s.sns ∧ (State.armCheck s mac3).dom = s.dom ∧
    (State.armCheck s mac3).clk = s.clk ∧ (State.armCheck s mac3).vrg = s.vrg ∧ (State.armCheck s mac3).pmb = s.pmb ∧
    (State.armCheck s mac3).frm = s.frm ∧ (State.armCheck s mac3).tre = s.tre ∧ (State.armCheck s mac3).mbs = s.mbs ∧
    (State.armCheck s mac3).mbn = s.mbn ∧ (State.armCheck s mac3).rck = s.rck ∧ (State.armCheck s mac3).rst = s.rst ∧
    (State.armCheck s mac3).rel = s.rel ∧ (State.armCheck s mac3).evt = s.evt ∧ (State.armCheck s mac3).trc = s.trc ∧
    (State.armCheck s mac3).hdr = s.hdr ∧ (State.armCheck s mac3).stg = s.stg ∧ (State.armCheck s mac3).hst = s.hst ∧
    (State.armCheck s mac3).pairLo = s.pairLo ∧ (State.armCheck s mac3).now = s.now ∧ (State.armCheck s mac3).free = s.free ∧
    (State.armCheck s mac3).pending = s.pending := by
  unfold State.armCheck; simp

@[simp] theorem dropCheck (s : State) : (State.dropCheck s).cmn = s.cmn ∧ (State.dropCheck s).seq = s.seq ∧
    (State.dropCheck s).tly = s.tly ∧ (State.dropCheck s).adm = s.adm ∧ (State.dropCheck s).beam = s.beam ∧
    (State.dropCheck s).ctl = s.ctl ∧ (State.dropCheck s).fcs = s.fcs ∧ (State.dropCheck s).thm = s.thm ∧
    (State.dropCheck s).sns = s.sns ∧ (State.dropCheck s).dom = s.dom ∧ (State.dropCheck s).clk = s.clk ∧
    (State.dropCheck s).vrg = s.vrg ∧ (State.dropCheck s).pmb = s.pmb ∧ (State.dropCheck s).frm = s.frm ∧
    (State.dropCheck s).tre = s.tre ∧ (State.dropCheck s).mbs = s.mbs ∧ (State.dropCheck s).mbn = s.mbn ∧
    (State.dropCheck s).rck = s.rck ∧ (State.dropCheck s).rst = s.rst ∧ (State.dropCheck s).rel = s.rel ∧
    (State.dropCheck s).evt = s.evt ∧ (State.dropCheck s).trc = s.trc ∧ (State.dropCheck s).hdr = s.hdr ∧
    (State.dropCheck s).stg = s.stg ∧ (State.dropCheck s).hst = s.hst ∧ (State.dropCheck s).pairLo = s.pairLo ∧
    (State.dropCheck s).now = s.now ∧ (State.dropCheck s).free = s.free ∧ (State.dropCheck s).pending = s.pending := by
  unfold State.dropCheck; simp

@[simp] theorem checkFailed (s : State) (p : Fin 23) (off : Nat) : (State.checkFailed s p off).cmn = s.cmn ∧
    (State.checkFailed s p off).seq = s.seq ∧ (State.checkFailed s p off).tly = s.tly ∧
    (State.checkFailed s p off).adm = s.adm ∧ (State.checkFailed s p off).beam = s.beam ∧
    (State.checkFailed s p off).ctl = s.ctl ∧ (State.checkFailed s p off).fcs = s.fcs ∧
    (State.checkFailed s p off).thm = s.thm ∧ (State.checkFailed s p off).sns = s.sns ∧
    (State.checkFailed s p off).dom = s.dom ∧ (State.checkFailed s p off).clk = s.clk ∧
    (State.checkFailed s p off).vrg = s.vrg ∧ (State.checkFailed s p off).pmb = s.pmb ∧
    (State.checkFailed s p off).frm = s.frm ∧ (State.checkFailed s p off).tre = s.tre ∧
    (State.checkFailed s p off).mbs = s.mbs ∧ (State.checkFailed s p off).mbn = s.mbn ∧
    (State.checkFailed s p off).rck = s.rck ∧ (State.checkFailed s p off).rst = s.rst ∧
    (State.checkFailed s p off).rel = s.rel ∧ (State.checkFailed s p off).trc = s.trc ∧
    (State.checkFailed s p off).stg = s.stg ∧ (State.checkFailed s p off).hst = s.hst ∧
    (State.checkFailed s p off).pairLo = s.pairLo ∧ (State.checkFailed s p off).now = s.now ∧
    (State.checkFailed s p off).free = s.free ∧ (State.checkFailed s p off).pending = s.pending := by
  unfold State.checkFailed; simp

@[simp] theorem keyedCheck (s : State) (p : Fin 23) (off data : Nat) : (State.keyedCheck s p off data).2.cmn = s.cmn ∧ (State.keyedCheck s p off data).2.seq = s.seq ∧ (State.keyedCheck s p off data).2.tly = s.tly ∧ (State.keyedCheck s p off data).2.adm = s.adm ∧ (State.keyedCheck s p off data).2.beam = s.beam ∧ (State.keyedCheck s p off data).2.ctl = s.ctl ∧ (State.keyedCheck s p off data).2.fcs = s.fcs ∧ (State.keyedCheck s p off data).2.thm = s.thm ∧ (State.keyedCheck s p off data).2.sns = s.sns ∧ (State.keyedCheck s p off data).2.dom = s.dom ∧ (State.keyedCheck s p off data).2.clk = s.clk ∧ (State.keyedCheck s p off data).2.vrg = s.vrg ∧ (State.keyedCheck s p off data).2.pmb = s.pmb ∧ (State.keyedCheck s p off data).2.frm = s.frm ∧ (State.keyedCheck s p off data).2.tre = s.tre ∧ (State.keyedCheck s p off data).2.mbs = s.mbs ∧ (State.keyedCheck s p off data).2.mbn = s.mbn ∧ (State.keyedCheck s p off data).2.rck = s.rck ∧ (State.keyedCheck s p off data).2.rst = s.rst ∧ (State.keyedCheck s p off data).2.rel = s.rel ∧ (State.keyedCheck s p off data).2.trc = s.trc ∧ (State.keyedCheck s p off data).2.stg = s.stg ∧ (State.keyedCheck s p off data).2.hst = s.hst ∧ (State.keyedCheck s p off data).2.pairLo = s.pairLo ∧ (State.keyedCheck s p off data).2.now = s.now ∧ (State.keyedCheck s p off data).2.free = s.free ∧ (State.keyedCheck s p off data).2.pending = s.pending := by
  unfold State.keyedCheck; (repeat' split) <;> simp

@[simp] theorem anchor (s : State) (restored : Bool) : (State.anchor s restored).cmn = s.cmn ∧
    (State.anchor s restored).seq = s.seq ∧ (State.anchor s restored).tly = s.tly ∧ (State.anchor s restored).adm = s.adm ∧
    (State.anchor s restored).beam = s.beam ∧ (State.anchor s restored).ctl = s.ctl ∧ (State.anchor s restored).fcs = s.fcs ∧
    (State.anchor s restored).thm = s.thm ∧ (State.anchor s restored).sns = s.sns ∧ (State.anchor s restored).dom = s.dom ∧
    (State.anchor s restored).clk = s.clk ∧ (State.anchor s restored).vrg = s.vrg ∧ (State.anchor s restored).pmb = s.pmb ∧
    (State.anchor s restored).frm = s.frm ∧ (State.anchor s restored).tre = s.tre ∧ (State.anchor s restored).mbs = s.mbs ∧
    (State.anchor s restored).mbn = s.mbn ∧ (State.anchor s restored).rck = s.rck ∧ (State.anchor s restored).rst = s.rst ∧
    (State.anchor s restored).rel = s.rel ∧ (State.anchor s restored).trc = s.trc ∧ (State.anchor s restored).stg = s.stg ∧
    (State.anchor s restored).hst = s.hst ∧ (State.anchor s restored).pairLo = s.pairLo ∧
    (State.anchor s restored).now = s.now ∧ (State.anchor s restored).free = s.free ∧
    (State.anchor s restored).pending = s.pending := by
  unfold State.anchor; simp

end Pages
end

