-- ==== Sys2Proof/Laws/PagesTally.lean ====
section
/-! SUPPORT. Which pages of State each operation leaves alone: the tally, the admission port and the telemetry stream. One lemma for each operation, a conjunction
over every page the operation does not write, tagged simp so that no later proof unfolds the operation for them. -/

set_option linter.unusedSimpArgs false

namespace Pages

open Sys2Proof Sys2Proof.Machine

@[simp] theorem linkMod (s : State) (d : Dir) (f : FrmLinkState → FrmLinkState) : (State.linkMod s d f).cmn = s.cmn ∧ (State.linkMod s d f).seq = s.seq ∧ (State.linkMod s d f).tly = s.tly ∧ (State.linkMod s d f).adm = s.adm ∧ (State.linkMod s d f).beam = s.beam ∧ (State.linkMod s d f).ctl = s.ctl ∧ (State.linkMod s d f).fcs = s.fcs ∧ (State.linkMod s d f).thm = s.thm ∧ (State.linkMod s d f).sns = s.sns ∧ (State.linkMod s d f).dom = s.dom ∧ (State.linkMod s d f).clk = s.clk ∧ (State.linkMod s d f).vrg = s.vrg ∧ (State.linkMod s d f).pmb = s.pmb ∧ (State.linkMod s d f).tre = s.tre ∧ (State.linkMod s d f).mbs = s.mbs ∧ (State.linkMod s d f).mbn = s.mbn ∧ (State.linkMod s d f).rck = s.rck ∧ (State.linkMod s d f).aut = s.aut ∧ (State.linkMod s d f).rst = s.rst ∧ (State.linkMod s d f).rel = s.rel ∧ (State.linkMod s d f).evt = s.evt ∧ (State.linkMod s d f).trc = s.trc ∧ (State.linkMod s d f).hdr = s.hdr ∧ (State.linkMod s d f).stg = s.stg ∧ (State.linkMod s d f).hst = s.hst ∧ (State.linkMod s d f).pairLo = s.pairLo ∧ (State.linkMod s d f).now = s.now ∧ (State.linkMod s d f).free = s.free ∧ (State.linkMod s d f).pending = s.pending := by
  unfold State.linkMod; split <;> simp

@[simp] theorem linkSend (s : State) (d : Dir) (c : Nat) (m : BitVec 128) : (State.linkSend s d c m).cmn = s.cmn ∧ (State.linkSend s d c m).seq = s.seq ∧ (State.linkSend s d c m).tly = s.tly ∧ (State.linkSend s d c m).adm = s.adm ∧ (State.linkSend s d c m).beam = s.beam ∧ (State.linkSend s d c m).ctl = s.ctl ∧ (State.linkSend s d c m).fcs = s.fcs ∧ (State.linkSend s d c m).thm = s.thm ∧ (State.linkSend s d c m).sns = s.sns ∧ (State.linkSend s d c m).dom = s.dom ∧ (State.linkSend s d c m).clk = s.clk ∧ (State.linkSend s d c m).vrg = s.vrg ∧ (State.linkSend s d c m).pmb = s.pmb ∧ (State.linkSend s d c m).tre = s.tre ∧ (State.linkSend s d c m).mbs = s.mbs ∧ (State.linkSend s d c m).mbn = s.mbn ∧ (State.linkSend s d c m).rck = s.rck ∧ (State.linkSend s d c m).aut = s.aut ∧ (State.linkSend s d c m).rst = s.rst ∧ (State.linkSend s d c m).rel = s.rel ∧ (State.linkSend s d c m).evt = s.evt ∧ (State.linkSend s d c m).trc = s.trc ∧ (State.linkSend s d c m).hdr = s.hdr ∧ (State.linkSend s d c m).stg = s.stg ∧ (State.linkSend s d c m).hst = s.hst ∧ (State.linkSend s d c m).pairLo = s.pairLo ∧ (State.linkSend s d c m).now = s.now ∧ (State.linkSend s d c m).free = s.free ∧ (State.linkSend s d c m).pending = s.pending := by
  unfold State.linkSend; simp

@[simp] theorem linkSendRaw (s : State) (d : Dir) (m : BitVec 128) : (State.linkSendRaw s d m).cmn = s.cmn ∧
    (State.linkSendRaw s d m).seq = s.seq ∧ (State.linkSendRaw s d m).tly = s.tly ∧ (State.linkSendRaw s d m).adm = s.adm ∧
    (State.linkSendRaw s d m).beam = s.beam ∧ (State.linkSendRaw s d m).ctl = s.ctl ∧ (State.linkSendRaw s d m).fcs = s.fcs ∧
    (State.linkSendRaw s d m).thm = s.thm ∧ (State.linkSendRaw s d m).sns = s.sns ∧ (State.linkSendRaw s d m).dom = s.dom ∧
    (State.linkSendRaw s d m).clk = s.clk ∧ (State.linkSendRaw s d m).vrg = s.vrg ∧ (State.linkSendRaw s d m).pmb = s.pmb ∧
    (State.linkSendRaw s d m).tre = s.tre ∧ (State.linkSendRaw s d m).mbs = s.mbs ∧ (State.linkSendRaw s d m).mbn = s.mbn ∧
    (State.linkSendRaw s d m).rck = s.rck ∧ (State.linkSendRaw s d m).aut = s.aut ∧ (State.linkSendRaw s d m).rst = s.rst ∧
    (State.linkSendRaw s d m).rel = s.rel ∧ (State.linkSendRaw s d m).evt = s.evt ∧ (State.linkSendRaw s d m).trc = s.trc ∧
    (State.linkSendRaw s d m).hdr = s.hdr ∧ (State.linkSendRaw s d m).stg = s.stg ∧ (State.linkSendRaw s d m).hst = s.hst ∧
    (State.linkSendRaw s d m).pairLo = s.pairLo ∧ (State.linkSendRaw s d m).now = s.now ∧
    (State.linkSendRaw s d m).free = s.free ∧ (State.linkSendRaw s d m).pending = s.pending := by
  unfold State.linkSendRaw; simp

@[simp] theorem frmSend (s : State) (cls typ dst pay : Nat) : (State.frmSend s cls typ dst pay).cmn = s.cmn ∧
    (State.frmSend s cls typ dst pay).seq = s.seq ∧ (State.frmSend s cls typ dst pay).tly = s.tly ∧
    (State.frmSend s cls typ dst pay).adm = s.adm ∧ (State.frmSend s cls typ dst pay).beam = s.beam ∧
    (State.frmSend s cls typ dst pay).ctl = s.ctl ∧ (State.frmSend s cls typ dst pay).fcs = s.fcs ∧
    (State.frmSend s cls typ dst pay).thm = s.thm ∧ (State.frmSend s cls typ dst pay).sns = s.sns ∧
    (State.frmSend s cls typ dst pay).dom = s.dom ∧ (State.frmSend s cls typ dst pay).clk = s.clk ∧
    (State.frmSend s cls typ dst pay).vrg = s.vrg ∧ (State.frmSend s cls typ dst pay).pmb = s.pmb ∧
    (State.frmSend s cls typ dst pay).tre = s.tre ∧ (State.frmSend s cls typ dst pay).mbs = s.mbs ∧
    (State.frmSend s cls typ dst pay).mbn = s.mbn ∧ (State.frmSend s cls typ dst pay).rck = s.rck ∧
    (State.frmSend s cls typ dst pay).aut = s.aut ∧ (State.frmSend s cls typ dst pay).rst = s.rst ∧
    (State.frmSend s cls typ dst pay).rel = s.rel ∧ (State.frmSend s cls typ dst pay).evt = s.evt ∧
    (State.frmSend s cls typ dst pay).trc = s.trc ∧ (State.frmSend s cls typ dst pay).hdr = s.hdr ∧
    (State.frmSend s cls typ dst pay).stg = s.stg ∧ (State.frmSend s cls typ dst pay).hst = s.hst ∧
    (State.frmSend s cls typ dst pay).pairLo = s.pairLo ∧ (State.frmSend s cls typ dst pay).now = s.now ∧
    (State.frmSend s cls typ dst pay).free = s.free ∧ (State.frmSend s cls typ dst pay).pending = s.pending := by
  unfold State.frmSend; (repeat' split) <;> simp

@[simp] theorem lowerLimits (s : State) : (State.lowerLimits s).cmn = s.cmn ∧ (State.lowerLimits s).seq = s.seq ∧
    (State.lowerLimits s).tly = s.tly ∧ (State.lowerLimits s).adm = s.adm ∧ (State.lowerLimits s).ctl = s.ctl ∧
    (State.lowerLimits s).fcs = s.fcs ∧ (State.lowerLimits s).thm = s.thm ∧ (State.lowerLimits s).sns = s.sns ∧
    (State.lowerLimits s).dom = s.dom ∧ (State.lowerLimits s).clk = s.clk ∧ (State.lowerLimits s).vrg = s.vrg ∧
    (State.lowerLimits s).pmb = s.pmb ∧ (State.lowerLimits s).frm = s.frm ∧ (State.lowerLimits s).tre = s.tre ∧
    (State.lowerLimits s).mbs = s.mbs ∧ (State.lowerLimits s).mbn = s.mbn ∧ (State.lowerLimits s).rck = s.rck ∧
    (State.lowerLimits s).aut = s.aut ∧ (State.lowerLimits s).rst = s.rst ∧ (State.lowerLimits s).rel = s.rel ∧
    (State.lowerLimits s).evt = s.evt ∧ (State.lowerLimits s).trc = s.trc ∧ (State.lowerLimits s).hdr = s.hdr ∧
    (State.lowerLimits s).stg = s.stg ∧ (State.lowerLimits s).hst = s.hst ∧ (State.lowerLimits s).pairLo = s.pairLo ∧
    (State.lowerLimits s).now = s.now ∧ (State.lowerLimits s).free = s.free ∧ (State.lowerLimits s).pending = s.pending := by
  unfold State.lowerLimits; simp

@[simp] theorem raiseLimits (s : State) : (State.raiseLimits s).cmn = s.cmn ∧ (State.raiseLimits s).seq = s.seq ∧
    (State.raiseLimits s).tly = s.tly ∧ (State.raiseLimits s).adm = s.adm ∧ (State.raiseLimits s).ctl = s.ctl ∧
    (State.raiseLimits s).fcs = s.fcs ∧ (State.raiseLimits s).thm = s.thm ∧ (State.raiseLimits s).sns = s.sns ∧
    (State.raiseLimits s).dom = s.dom ∧ (State.raiseLimits s).clk = s.clk ∧ (State.raiseLimits s).vrg = s.vrg ∧
    (State.raiseLimits s).pmb = s.pmb ∧ (State.raiseLimits s).frm = s.frm ∧ (State.raiseLimits s).tre = s.tre ∧
    (State.raiseLimits s).mbs = s.mbs ∧ (State.raiseLimits s).mbn = s.mbn ∧ (State.raiseLimits s).rck = s.rck ∧
    (State.raiseLimits s).aut = s.aut ∧ (State.raiseLimits s).rst = s.rst ∧ (State.raiseLimits s).rel = s.rel ∧
    (State.raiseLimits s).evt = s.evt ∧ (State.raiseLimits s).trc = s.trc ∧ (State.raiseLimits s).hdr = s.hdr ∧
    (State.raiseLimits s).stg = s.stg ∧ (State.raiseLimits s).hst = s.hst ∧ (State.raiseLimits s).pairLo = s.pairLo ∧
    (State.raiseLimits s).now = s.now ∧ (State.raiseLimits s).free = s.free ∧ (State.raiseLimits s).pending = s.pending := by
  unfold State.raiseLimits; simp

@[simp] theorem setTripFigures (s : State) : (State.setTripFigures s).cmn = s.cmn ∧
    (State.setTripFigures s).seq = s.seq ∧ (State.setTripFigures s).tly = s.tly ∧ (State.setTripFigures s).adm = s.adm ∧
    (State.setTripFigures s).ctl = s.ctl ∧ (State.setTripFigures s).fcs = s.fcs ∧ (State.setTripFigures s).thm = s.thm ∧
    (State.setTripFigures s).sns = s.sns ∧ (State.setTripFigures s).dom = s.dom ∧ (State.setTripFigures s).clk = s.clk ∧
    (State.setTripFigures s).vrg = s.vrg ∧ (State.setTripFigures s).pmb = s.pmb ∧ (State.setTripFigures s).frm = s.frm ∧
    (State.setTripFigures s).tre = s.tre ∧ (State.setTripFigures s).mbs = s.mbs ∧ (State.setTripFigures s).mbn = s.mbn ∧
    (State.setTripFigures s).rck = s.rck ∧ (State.setTripFigures s).aut = s.aut ∧ (State.setTripFigures s).rst = s.rst ∧
    (State.setTripFigures s).rel = s.rel ∧ (State.setTripFigures s).evt = s.evt ∧ (State.setTripFigures s).trc = s.trc ∧
    (State.setTripFigures s).hdr = s.hdr ∧ (State.setTripFigures s).stg = s.stg ∧ (State.setTripFigures s).hst = s.hst ∧
    (State.setTripFigures s).pairLo = s.pairLo ∧ (State.setTripFigures s).now = s.now ∧
    (State.setTripFigures s).free = s.free ∧ (State.setTripFigures s).pending = s.pending := by
  unfold State.setTripFigures; simp

@[simp] theorem intrStep (s : State) (c : Nat) : (State.intrStep s c).cmn = s.cmn ∧
    (State.intrStep s c).seq = s.seq ∧ (State.intrStep s c).tly = s.tly ∧ (State.intrStep s c).adm = s.adm ∧
    (State.intrStep s c).beam = s.beam ∧ (State.intrStep s c).ctl = s.ctl ∧ (State.intrStep s c).fcs = s.fcs ∧
    (State.intrStep s c).thm = s.thm ∧ (State.intrStep s c).sns = s.sns ∧ (State.intrStep s c).dom = s.dom ∧
    (State.intrStep s c).clk = s.clk ∧ (State.intrStep s c).vrg = s.vrg ∧ (State.intrStep s c).pmb = s.pmb ∧
    (State.intrStep s c).frm = s.frm ∧ (State.intrStep s c).tre = s.tre ∧ (State.intrStep s c).mbs = s.mbs ∧
    (State.intrStep s c).mbn = s.mbn ∧ (State.intrStep s c).rck = s.rck ∧ (State.intrStep s c).aut = s.aut ∧
    (State.intrStep s c).rst = s.rst ∧ (State.intrStep s c).trc = s.trc ∧ (State.intrStep s c).stg = s.stg ∧
    (State.intrStep s c).hst = s.hst ∧ (State.intrStep s c).pairLo = s.pairLo ∧ (State.intrStep s c).now = s.now ∧
    (State.intrStep s c).free = s.free ∧ (State.intrStep s c).pending = s.pending := by
  unfold State.intrStep; split <;> simp

@[simp] theorem beamSettle (s : State) : (State.beamSettle s).cmn = s.cmn ∧ (State.beamSettle s).seq = s.seq ∧
    (State.beamSettle s).tly = s.tly ∧ (State.beamSettle s).adm = s.adm ∧ (State.beamSettle s).fcs = s.fcs ∧
    (State.beamSettle s).thm = s.thm ∧ (State.beamSettle s).sns = s.sns ∧ (State.beamSettle s).dom = s.dom ∧
    (State.beamSettle s).clk = s.clk ∧ (State.beamSettle s).vrg = s.vrg ∧ (State.beamSettle s).pmb = s.pmb ∧
    (State.beamSettle s).frm = s.frm ∧ (State.beamSettle s).tre = s.tre ∧ (State.beamSettle s).mbs = s.mbs ∧
    (State.beamSettle s).mbn = s.mbn ∧ (State.beamSettle s).rck = s.rck ∧ (State.beamSettle s).aut = s.aut ∧
    (State.beamSettle s).rst = s.rst ∧ (State.beamSettle s).trc = s.trc ∧ (State.beamSettle s).stg = s.stg ∧
    (State.beamSettle s).hst = s.hst ∧ (State.beamSettle s).pairLo = s.pairLo ∧ (State.beamSettle s).now = s.now ∧
    (State.beamSettle s).free = s.free ∧ (State.beamSettle s).pending = s.pending := by
  unfold State.beamSettle; simp

@[simp] theorem respMod (s : State) (r k : Nat) (f : Resp → Resp) : (State.respMod s r k f).cmn = s.cmn ∧
    (State.respMod s r k f).seq = s.seq ∧ (State.respMod s r k f).tly = s.tly ∧ (State.respMod s r k f).adm = s.adm ∧
    (State.respMod s r k f).ctl = s.ctl ∧ (State.respMod s r k f).fcs = s.fcs ∧ (State.respMod s r k f).thm = s.thm ∧
    (State.respMod s r k f).sns = s.sns ∧ (State.respMod s r k f).dom = s.dom ∧ (State.respMod s r k f).clk = s.clk ∧
    (State.respMod s r k f).vrg = s.vrg ∧ (State.respMod s r k f).pmb = s.pmb ∧ (State.respMod s r k f).frm = s.frm ∧
    (State.respMod s r k f).tre = s.tre ∧ (State.respMod s r k f).mbs = s.mbs ∧ (State.respMod s r k f).mbn = s.mbn ∧
    (State.respMod s r k f).rck = s.rck ∧ (State.respMod s r k f).aut = s.aut ∧ (State.respMod s r k f).rst = s.rst ∧
    (State.respMod s r k f).rel = s.rel ∧ (State.respMod s r k f).evt = s.evt ∧ (State.respMod s r k f).trc = s.trc ∧
    (State.respMod s r k f).hdr = s.hdr ∧ (State.respMod s r k f).stg = s.stg ∧ (State.respMod s r k f).hst = s.hst ∧
    (State.respMod s r k f).pairLo = s.pairLo ∧ (State.respMod s r k f).now = s.now ∧ (State.respMod s r k f).free = s.free ∧
    (State.respMod s r k f).pending = s.pending := by
  unfold State.respMod; simp

@[simp] theorem respBegin (s : State) (r k rc : Nat) : (State.respBegin s r k rc).cmn = s.cmn ∧
    (State.respBegin s r k rc).seq = s.seq ∧ (State.respBegin s r k rc).tly = s.tly ∧
    (State.respBegin s r k rc).adm = s.adm ∧ (State.respBegin s r k rc).ctl = s.ctl ∧
    (State.respBegin s r k rc).fcs = s.fcs ∧ (State.respBegin s r k rc).thm = s.thm ∧
    (State.respBegin s r k rc).sns = s.sns ∧ (State.respBegin s r k rc).dom = s.dom ∧
    (State.respBegin s r k rc).clk = s.clk ∧ (State.respBegin s r k rc).vrg = s.vrg ∧
    (State.respBegin s r k rc).pmb = s.pmb ∧ (State.respBegin s r k rc).frm = s.frm ∧
    (State.respBegin s r k rc).tre = s.tre ∧ (State.respBegin s r k rc).mbs = s.mbs ∧
    (State.respBegin s r k rc).mbn = s.mbn ∧ (State.respBegin s r k rc).rck = s.rck ∧
    (State.respBegin s r k rc).aut = s.aut ∧ (State.respBegin s r k rc).rst = s.rst ∧
    (State.respBegin s r k rc).trc = s.trc ∧ (State.respBegin s r k rc).stg = s.stg ∧
    (State.respBegin s r k rc).hst = s.hst ∧ (State.respBegin s r k rc).pairLo = s.pairLo ∧
    (State.respBegin s r k rc).now = s.now ∧ (State.respBegin s r k rc).free = s.free ∧
    (State.respBegin s r k rc).pending = s.pending := by
  unfold State.respBegin; simp

@[simp] theorem respEnd (s : State) (r k : Nat) : (State.respEnd s r k).cmn = s.cmn ∧
    (State.respEnd s r k).seq = s.seq ∧ (State.respEnd s r k).tly = s.tly ∧ (State.respEnd s r k).adm = s.adm ∧
    (State.respEnd s r k).ctl = s.ctl ∧ (State.respEnd s r k).fcs = s.fcs ∧ (State.respEnd s r k).thm = s.thm ∧
    (State.respEnd s r k).sns = s.sns ∧ (State.respEnd s r k).dom = s.dom ∧ (State.respEnd s r k).clk = s.clk ∧
    (State.respEnd s r k).vrg = s.vrg ∧ (State.respEnd s r k).pmb = s.pmb ∧ (State.respEnd s r k).frm = s.frm ∧
    (State.respEnd s r k).tre = s.tre ∧ (State.respEnd s r k).mbs = s.mbs ∧ (State.respEnd s r k).mbn = s.mbn ∧
    (State.respEnd s r k).rck = s.rck ∧ (State.respEnd s r k).aut = s.aut ∧ (State.respEnd s r k).rst = s.rst ∧
    (State.respEnd s r k).trc = s.trc ∧ (State.respEnd s r k).stg = s.stg ∧ (State.respEnd s r k).hst = s.hst ∧
    (State.respEnd s r k).pairLo = s.pairLo ∧ (State.respEnd s r k).now = s.now ∧ (State.respEnd s r k).free = s.free ∧
    (State.respEnd s r k).pending = s.pending := by
  unfold State.respEnd; simp

@[simp] theorem respRise (s : State) (r k n : Nat) : (State.respRise s r k n).cmn = s.cmn ∧
    (State.respRise s r k n).seq = s.seq ∧ (State.respRise s r k n).tly = s.tly ∧ (State.respRise s r k n).adm = s.adm ∧
    (State.respRise s r k n).ctl = s.ctl ∧ (State.respRise s r k n).fcs = s.fcs ∧ (State.respRise s r k n).thm = s.thm ∧
    (State.respRise s r k n).sns = s.sns ∧ (State.respRise s r k n).dom = s.dom ∧ (State.respRise s r k n).clk = s.clk ∧
    (State.respRise s r k n).vrg = s.vrg ∧ (State.respRise s r k n).pmb = s.pmb ∧ (State.respRise s r k n).frm = s.frm ∧
    (State.respRise s r k n).tre = s.tre ∧ (State.respRise s r k n).mbs = s.mbs ∧ (State.respRise s r k n).mbn = s.mbn ∧
    (State.respRise s r k n).rck = s.rck ∧ (State.respRise s r k n).aut = s.aut ∧ (State.respRise s r k n).rst = s.rst ∧
    (State.respRise s r k n).trc = s.trc ∧ (State.respRise s r k n).stg = s.stg ∧ (State.respRise s r k n).hst = s.hst ∧
    (State.respRise s r k n).pairLo = s.pairLo ∧ (State.respRise s r k n).now = s.now ∧
    (State.respRise s r k n).free = s.free ∧ (State.respRise s r k n).pending = s.pending := by
  unfold State.respRise; simp

@[simp] theorem detMod (s : State) (d : Nat) (f : BeamDet → BeamDet) : (State.detMod s d f).cmn = s.cmn ∧
    (State.detMod s d f).seq = s.seq ∧ (State.detMod s d f).tly = s.tly ∧ (State.detMod s d f).adm = s.adm ∧
    (State.detMod s d f).ctl = s.ctl ∧ (State.detMod s d f).fcs = s.fcs ∧ (State.detMod s d f).thm = s.thm ∧
    (State.detMod s d f).sns = s.sns ∧ (State.detMod s d f).dom = s.dom ∧ (State.detMod s d f).clk = s.clk ∧
    (State.detMod s d f).vrg = s.vrg ∧ (State.detMod s d f).pmb = s.pmb ∧ (State.detMod s d f).frm = s.frm ∧
    (State.detMod s d f).tre = s.tre ∧ (State.detMod s d f).mbs = s.mbs ∧ (State.detMod s d f).mbn = s.mbn ∧
    (State.detMod s d f).rck = s.rck ∧ (State.detMod s d f).aut = s.aut ∧ (State.detMod s d f).rst = s.rst ∧
    (State.detMod s d f).rel = s.rel ∧ (State.detMod s d f).evt = s.evt ∧ (State.detMod s d f).trc = s.trc ∧
    (State.detMod s d f).hdr = s.hdr ∧ (State.detMod s d f).stg = s.stg ∧ (State.detMod s d f).hst = s.hst ∧
    (State.detMod s d f).pairLo = s.pairLo ∧ (State.detMod s d f).now = s.now ∧ (State.detMod s d f).free = s.free ∧
    (State.detMod s d f).pending = s.pending := by
  unfold State.detMod; simp

@[simp] theorem brMod (s : State) (r : Nat) (f : BeamRail → BeamRail) : (State.brMod s r f).cmn = s.cmn ∧
    (State.brMod s r f).seq = s.seq ∧ (State.brMod s r f).tly = s.tly ∧ (State.brMod s r f).adm = s.adm ∧
    (State.brMod s r f).ctl = s.ctl ∧ (State.brMod s r f).fcs = s.fcs ∧ (State.brMod s r f).thm = s.thm ∧
    (State.brMod s r f).sns = s.sns ∧ (State.brMod s r f).dom = s.dom ∧ (State.brMod s r f).clk = s.clk ∧
    (State.brMod s r f).vrg = s.vrg ∧ (State.brMod s r f).pmb = s.pmb ∧ (State.brMod s r f).frm = s.frm ∧
    (State.brMod s r f).tre = s.tre ∧ (State.brMod s r f).mbs = s.mbs ∧ (State.brMod s r f).mbn = s.mbn ∧
    (State.brMod s r f).rck = s.rck ∧ (State.brMod s r f).aut = s.aut ∧ (State.brMod s r f).rst = s.rst ∧
    (State.brMod s r f).rel = s.rel ∧ (State.brMod s r f).evt = s.evt ∧ (State.brMod s r f).trc = s.trc ∧
    (State.brMod s r f).hdr = s.hdr ∧ (State.brMod s r f).stg = s.stg ∧ (State.brMod s r f).hst = s.hst ∧
    (State.brMod s r f).pairLo = s.pairLo ∧ (State.brMod s r f).now = s.now ∧ (State.brMod s r f).free = s.free ∧
    (State.brMod s r f).pending = s.pending := by
  unfold State.brMod; simp

@[simp] theorem wearMod (s : State) (r : Nat) (f : RelWear → RelWear) : (State.wearMod s r f).cmn = s.cmn ∧
    (State.wearMod s r f).seq = s.seq ∧ (State.wearMod s r f).tly = s.tly ∧ (State.wearMod s r f).adm = s.adm ∧
    (State.wearMod s r f).beam = s.beam ∧ (State.wearMod s r f).ctl = s.ctl ∧ (State.wearMod s r f).fcs = s.fcs ∧
    (State.wearMod s r f).thm = s.thm ∧ (State.wearMod s r f).sns = s.sns ∧ (State.wearMod s r f).dom = s.dom ∧
    (State.wearMod s r f).clk = s.clk ∧ (State.wearMod s r f).vrg = s.vrg ∧ (State.wearMod s r f).pmb = s.pmb ∧
    (State.wearMod s r f).frm = s.frm ∧ (State.wearMod s r f).tre = s.tre ∧ (State.wearMod s r f).mbs = s.mbs ∧
    (State.wearMod s r f).mbn = s.mbn ∧ (State.wearMod s r f).rck = s.rck ∧ (State.wearMod s r f).aut = s.aut ∧
    (State.wearMod s r f).rst = s.rst ∧ (State.wearMod s r f).evt = s.evt ∧ (State.wearMod s r f).trc = s.trc ∧
    (State.wearMod s r f).hdr = s.hdr ∧ (State.wearMod s r f).stg = s.stg ∧ (State.wearMod s r f).hst = s.hst ∧
    (State.wearMod s r f).pairLo = s.pairLo ∧ (State.wearMod s r f).now = s.now ∧ (State.wearMod s r f).free = s.free ∧
    (State.wearMod s r f).pending = s.pending := by
  unfold State.wearMod; simp

@[simp] theorem setRow (s : State) (i w : Nat) : (State.setRow s i w).cmn = s.cmn ∧
    (State.setRow s i w).seq = s.seq ∧ (State.setRow s i w).adm = s.adm ∧ (State.setRow s i w).beam = s.beam ∧
    (State.setRow s i w).ctl = s.ctl ∧ (State.setRow s i w).fcs = s.fcs ∧ (State.setRow s i w).thm = s.thm ∧
    (State.setRow s i w).sns = s.sns ∧ (State.setRow s i w).dom = s.dom ∧ (State.setRow s i w).clk = s.clk ∧
    (State.setRow s i w).vrg = s.vrg ∧ (State.setRow s i w).pmb = s.pmb ∧ (State.setRow s i w).frm = s.frm ∧
    (State.setRow s i w).tre = s.tre ∧ (State.setRow s i w).mbs = s.mbs ∧ (State.setRow s i w).mbn = s.mbn ∧
    (State.setRow s i w).rck = s.rck ∧ (State.setRow s i w).aut = s.aut ∧ (State.setRow s i w).rst = s.rst ∧
    (State.setRow s i w).rel = s.rel ∧ (State.setRow s i w).evt = s.evt ∧ (State.setRow s i w).trc = s.trc ∧
    (State.setRow s i w).hdr = s.hdr ∧ (State.setRow s i w).stg = s.stg ∧ (State.setRow s i w).hst = s.hst ∧
    (State.setRow s i w).pairLo = s.pairLo ∧ (State.setRow s i w).now = s.now ∧ (State.setRow s i w).free = s.free ∧
    (State.setRow s i w).pending = s.pending := by
  unfold State.setRow; simp

@[simp] theorem prepos (s : State) (r : Nat) : (State.prepos s r).cmn = s.cmn ∧ (State.prepos s r).seq = s.seq ∧
    (State.prepos s r).tly = s.tly ∧ (State.prepos s r).adm = s.adm ∧ (State.prepos s r).beam = s.beam ∧
    (State.prepos s r).ctl = s.ctl ∧ (State.prepos s r).fcs = s.fcs ∧ (State.prepos s r).thm = s.thm ∧
    (State.prepos s r).sns = s.sns ∧ (State.prepos s r).dom = s.dom ∧ (State.prepos s r).clk = s.clk ∧
    (State.prepos s r).pmb = s.pmb ∧ (State.prepos s r).frm = s.frm ∧ (State.prepos s r).tre = s.tre ∧
    (State.prepos s r).mbs = s.mbs ∧ (State.prepos s r).mbn = s.mbn ∧ (State.prepos s r).rck = s.rck ∧
    (State.prepos s r).aut = s.aut ∧ (State.prepos s r).rst = s.rst ∧ (State.prepos s r).rel = s.rel ∧
    (State.prepos s r).evt = s.evt ∧ (State.prepos s r).trc = s.trc ∧ (State.prepos s r).hdr = s.hdr ∧
    (State.prepos s r).stg = s.stg ∧ (State.prepos s r).hst = s.hst ∧ (State.prepos s r).pairLo = s.pairLo ∧
    (State.prepos s r).now = s.now ∧ (State.prepos s r).free = s.free ∧ (State.prepos s r).pending = s.pending := by
  unfold State.prepos; simp

@[simp] theorem outRise (s : State) : (State.outRise s).cmn = s.cmn ∧ (State.outRise s).seq = s.seq ∧
    (State.outRise s).adm = s.adm ∧ (State.outRise s).beam = s.beam ∧ (State.outRise s).ctl = s.ctl ∧
    (State.outRise s).fcs = s.fcs ∧ (State.outRise s).thm = s.thm ∧ (State.outRise s).sns = s.sns ∧
    (State.outRise s).dom = s.dom ∧ (State.outRise s).clk = s.clk ∧ (State.outRise s).vrg = s.vrg ∧
    (State.outRise s).pmb = s.pmb ∧ (State.outRise s).frm = s.frm ∧ (State.outRise s).tre = s.tre ∧
    (State.outRise s).mbs = s.mbs ∧ (State.outRise s).mbn = s.mbn ∧ (State.outRise s).rck = s.rck ∧
    (State.outRise s).aut = s.aut ∧ (State.outRise s).rst = s.rst ∧ (State.outRise s).rel = s.rel ∧
    (State.outRise s).evt = s.evt ∧ (State.outRise s).trc = s.trc ∧ (State.outRise s).hdr = s.hdr ∧
    (State.outRise s).stg = s.stg ∧ (State.outRise s).hst = s.hst ∧ (State.outRise s).pairLo = s.pairLo ∧
    (State.outRise s).now = s.now ∧ (State.outRise s).free = s.free ∧ (State.outRise s).pending = s.pending := by
  unfold State.outRise; (repeat' split) <;> simp

@[simp] theorem sendWord (s : State) (w : Nat) (row : Option Nat) : (State.sendWord s w row).cmn = s.cmn ∧
    (State.sendWord s w row).seq = s.seq ∧ (State.sendWord s w row).beam = s.beam ∧ (State.sendWord s w row).ctl = s.ctl ∧
    (State.sendWord s w row).fcs = s.fcs ∧ (State.sendWord s w row).thm = s.thm ∧ (State.sendWord s w row).sns = s.sns ∧
    (State.sendWord s w row).dom = s.dom ∧ (State.sendWord s w row).clk = s.clk ∧ (State.sendWord s w row).vrg = s.vrg ∧
    (State.sendWord s w row).pmb = s.pmb ∧ (State.sendWord s w row).frm = s.frm ∧ (State.sendWord s w row).tre = s.tre ∧
    (State.sendWord s w row).mbs = s.mbs ∧ (State.sendWord s w row).mbn = s.mbn ∧ (State.sendWord s w row).rck = s.rck ∧
    (State.sendWord s w row).aut = s.aut ∧ (State.sendWord s w row).rst = s.rst ∧ (State.sendWord s w row).rel = s.rel ∧
    (State.sendWord s w row).evt = s.evt ∧ (State.sendWord s w row).trc = s.trc ∧ (State.sendWord s w row).hdr = s.hdr ∧
    (State.sendWord s w row).stg = s.stg ∧ (State.sendWord s w row).hst = s.hst ∧
    (State.sendWord s w row).pairLo = s.pairLo ∧ (State.sendWord s w row).now = s.now ∧
    (State.sendWord s w row).free = s.free ∧ (State.sendWord s w row).pending = s.pending := by
  unfold State.sendWord; simp

@[simp] theorem refuse (s : State) (unit tag code seqn : Nat) (tagv : Bool) (retry : Nat) : (State.refuse s unit tag code seqn tagv retry).cmn = s.cmn ∧ (State.refuse s unit tag code seqn tagv retry).seq = s.seq ∧ (State.refuse s unit tag code seqn tagv retry).beam = s.beam ∧ (State.refuse s unit tag code seqn tagv retry).ctl = s.ctl ∧ (State.refuse s unit tag code seqn tagv retry).fcs = s.fcs ∧ (State.refuse s unit tag code seqn tagv retry).thm = s.thm ∧ (State.refuse s unit tag code seqn tagv retry).sns = s.sns ∧ (State.refuse s unit tag code seqn tagv retry).dom = s.dom ∧ (State.refuse s unit tag code seqn tagv retry).clk = s.clk ∧ (State.refuse s unit tag code seqn tagv retry).vrg = s.vrg ∧ (State.refuse s unit tag code seqn tagv retry).pmb = s.pmb ∧ (State.refuse s unit tag code seqn tagv retry).frm = s.frm ∧ (State.refuse s unit tag code seqn tagv retry).tre = s.tre ∧ (State.refuse s unit tag code seqn tagv retry).mbs = s.mbs ∧ (State.refuse s unit tag code seqn tagv retry).mbn = s.mbn ∧ (State.refuse s unit tag code seqn tagv retry).rck = s.rck ∧ (State.refuse s unit tag code seqn tagv retry).aut = s.aut ∧ (State.refuse s unit tag code seqn tagv retry).rst = s.rst ∧ (State.refuse s unit tag code seqn tagv retry).rel = s.rel ∧ (State.refuse s unit tag code seqn tagv retry).evt = s.evt ∧ (State.refuse s unit tag code seqn tagv retry).trc = s.trc ∧ (State.refuse s unit tag code seqn tagv retry).hdr = s.hdr ∧ (State.refuse s unit tag code seqn tagv retry).stg = s.stg ∧ (State.refuse s unit tag code seqn tagv retry).hst = s.hst ∧ (State.refuse s unit tag code seqn tagv retry).pairLo = s.pairLo ∧ (State.refuse s unit tag code seqn tagv retry).now = s.now ∧ (State.refuse s unit tag code seqn tagv retry).free = s.free ∧ (State.refuse s unit tag code seqn tagv retry).pending = s.pending := by
  unfold State.refuse; simp

@[simp] theorem dropWords (s : State) (i : Nat) (grantsToo : Bool) : (State.dropWords s i grantsToo).cmn = s.cmn ∧ (State.dropWords s i grantsToo).seq = s.seq ∧ (State.dropWords s i grantsToo).tly = s.tly ∧ (State.dropWords s i grantsToo).beam = s.beam ∧ (State.dropWords s i grantsToo).ctl = s.ctl ∧ (State.dropWords s i grantsToo).fcs = s.fcs ∧ (State.dropWords s i grantsToo).thm = s.thm ∧ (State.dropWords s i grantsToo).sns = s.sns ∧ (State.dropWords s i grantsToo).dom = s.dom ∧ (State.dropWords s i grantsToo).clk = s.clk ∧ (State.dropWords s i grantsToo).vrg = s.vrg ∧ (State.dropWords s i grantsToo).pmb = s.pmb ∧ (State.dropWords s i grantsToo).frm = s.frm ∧ (State.dropWords s i grantsToo).tre = s.tre ∧ (State.dropWords s i grantsToo).mbs = s.mbs ∧ (State.dropWords s i grantsToo).mbn = s.mbn ∧ (State.dropWords s i grantsToo).rck = s.rck ∧ (State.dropWords s i grantsToo).aut = s.aut ∧ (State.dropWords s i grantsToo).rst = s.rst ∧ (State.dropWords s i grantsToo).rel = s.rel ∧ (State.dropWords s i grantsToo).evt = s.evt ∧ (State.dropWords s i grantsToo).trc = s.trc ∧ (State.dropWords s i grantsToo).hdr = s.hdr ∧ (State.dropWords s i grantsToo).stg = s.stg ∧ (State.dropWords s i grantsToo).hst = s.hst ∧ (State.dropWords s i grantsToo).pairLo = s.pairLo ∧ (State.dropWords s i grantsToo).now = s.now ∧ (State.dropWords s i grantsToo).free = s.free ∧ (State.dropWords s i grantsToo).pending = s.pending := by
  unfold State.dropWords; simp

@[simp] theorem demandNote (s : State) (extra : Nat) : (State.demandNote s extra).cmn = s.cmn ∧
    (State.demandNote s extra).seq = s.seq ∧ (State.demandNote s extra).tly = s.tly ∧
    (State.demandNote s extra).adm = s.adm ∧ (State.demandNote s extra).beam = s.beam ∧
    (State.demandNote s extra).ctl = s.ctl ∧ (State.demandNote s extra).fcs = s.fcs ∧
    (State.demandNote s extra).thm = s.thm ∧ (State.demandNote s extra).sns = s.sns ∧
    (State.demandNote s extra).dom = s.dom ∧ (State.demandNote s extra).clk = s.clk ∧
    (State.demandNote s extra).vrg = s.vrg ∧ (State.demandNote s extra).pmb = s.pmb ∧
    (State.demandNote s extra).tre = s.tre ∧ (State.demandNote s extra).mbs = s.mbs ∧
    (State.demandNote s extra).mbn = s.mbn ∧ (State.demandNote s extra).rck = s.rck ∧
    (State.demandNote s extra).aut = s.aut ∧ (State.demandNote s extra).rst = s.rst ∧
    (State.demandNote s extra).rel = s.rel ∧ (State.demandNote s extra).evt = s.evt ∧
    (State.demandNote s extra).trc = s.trc ∧ (State.demandNote s extra).hdr = s.hdr ∧
    (State.demandNote s extra).stg = s.stg ∧ (State.demandNote s extra).hst = s.hst ∧
    (State.demandNote s extra).pairLo = s.pairLo ∧ (State.demandNote s extra).now = s.now ∧
    (State.demandNote s extra).free = s.free ∧ (State.demandNote s extra).pending = s.pending := by
  unfold State.demandNote; simp

@[simp] theorem book (s : State) (r : Nat) (f : Nat → Nat) : (State.book s r f).cmn = s.cmn ∧
    (State.book s r f).seq = s.seq ∧ (State.book s r f).adm = s.adm ∧ (State.book s r f).beam = s.beam ∧
    (State.book s r f).ctl = s.ctl ∧ (State.book s r f).fcs = s.fcs ∧ (State.book s r f).thm = s.thm ∧
    (State.book s r f).sns = s.sns ∧ (State.book s r f).dom = s.dom ∧ (State.book s r f).clk = s.clk ∧
    (State.book s r f).pmb = s.pmb ∧ (State.book s r f).tre = s.tre ∧ (State.book s r f).mbs = s.mbs ∧
    (State.book s r f).mbn = s.mbn ∧ (State.book s r f).rck = s.rck ∧ (State.book s r f).aut = s.aut ∧
    (State.book s r f).rst = s.rst ∧ (State.book s r f).rel = s.rel ∧ (State.book s r f).evt = s.evt ∧
    (State.book s r f).trc = s.trc ∧ (State.book s r f).hdr = s.hdr ∧ (State.book s r f).stg = s.stg ∧
    (State.book s r f).hst = s.hst ∧ (State.book s r f).pairLo = s.pairLo ∧ (State.book s r f).now = s.now ∧
    (State.book s r f).free = s.free ∧ (State.book s r f).pending = s.pending := by
  unfold State.book; simp

@[simp] theorem beadsGone (s : State) (r n : Nat) : (State.beadsGone s r n).cmn = s.cmn ∧
    (State.beadsGone s r n).seq = s.seq ∧ (State.beadsGone s r n).tly = s.tly ∧ (State.beadsGone s r n).adm = s.adm ∧
    (State.beadsGone s r n).beam = s.beam ∧ (State.beadsGone s r n).ctl = s.ctl ∧ (State.beadsGone s r n).thm = s.thm ∧
    (State.beadsGone s r n).sns = s.sns ∧ (State.beadsGone s r n).dom = s.dom ∧ (State.beadsGone s r n).clk = s.clk ∧
    (State.beadsGone s r n).vrg = s.vrg ∧ (State.beadsGone s r n).pmb = s.pmb ∧ (State.beadsGone s r n).frm = s.frm ∧
    (State.beadsGone s r n).tre = s.tre ∧ (State.beadsGone s r n).mbs = s.mbs ∧ (State.beadsGone s r n).mbn = s.mbn ∧
    (State.beadsGone s r n).rck = s.rck ∧ (State.beadsGone s r n).aut = s.aut ∧ (State.beadsGone s r n).rst = s.rst ∧
    (State.beadsGone s r n).rel = s.rel ∧ (State.beadsGone s r n).evt = s.evt ∧ (State.beadsGone s r n).trc = s.trc ∧
    (State.beadsGone s r n).hdr = s.hdr ∧ (State.beadsGone s r n).stg = s.stg ∧ (State.beadsGone s r n).hst = s.hst ∧
    (State.beadsGone s r n).pairLo = s.pairLo ∧ (State.beadsGone s r n).now = s.now ∧ (State.beadsGone s r n).free = s.free ∧
    (State.beadsGone s r n).pending = s.pending := by
  unfold State.beadsGone; simp

@[simp] theorem retire (s : State) (i : Nat) : (State.retire s i).cmn = s.cmn ∧ (State.retire s i).seq = s.seq ∧
    (State.retire s i).beam = s.beam ∧ (State.retire s i).ctl = s.ctl ∧ (State.retire s i).thm = s.thm ∧
    (State.retire s i).sns = s.sns ∧ (State.retire s i).dom = s.dom ∧ (State.retire s i).clk = s.clk ∧
    (State.retire s i).pmb = s.pmb ∧ (State.retire s i).tre = s.tre ∧ (State.retire s i).mbs = s.mbs ∧
    (State.retire s i).mbn = s.mbn ∧ (State.retire s i).rck = s.rck ∧ (State.retire s i).aut = s.aut ∧
    (State.retire s i).rst = s.rst ∧ (State.retire s i).rel = s.rel ∧ (State.retire s i).evt = s.evt ∧
    (State.retire s i).trc = s.trc ∧ (State.retire s i).hdr = s.hdr ∧ (State.retire s i).stg = s.stg ∧
    (State.retire s i).hst = s.hst ∧ (State.retire s i).pairLo = s.pairLo ∧ (State.retire s i).now = s.now ∧
    (State.retire s i).free = s.free ∧ (State.retire s i).pending = s.pending := by
  unfold State.retire; simp

@[simp] theorem withdraw (s : State) (i code retry : Nat) : (State.withdraw s i code retry).cmn = s.cmn ∧
    (State.withdraw s i code retry).seq = s.seq ∧ (State.withdraw s i code retry).beam = s.beam ∧
    (State.withdraw s i code retry).ctl = s.ctl ∧ (State.withdraw s i code retry).thm = s.thm ∧
    (State.withdraw s i code retry).sns = s.sns ∧ (State.withdraw s i code retry).dom = s.dom ∧
    (State.withdraw s i code retry).clk = s.clk ∧ (State.withdraw s i code retry).pmb = s.pmb ∧
    (State.withdraw s i code retry).tre = s.tre ∧ (State.withdraw s i code retry).mbs = s.mbs ∧
    (State.withdraw s i code retry).mbn = s.mbn ∧ (State.withdraw s i code retry).rck = s.rck ∧
    (State.withdraw s i code retry).aut = s.aut ∧ (State.withdraw s i code retry).rst = s.rst ∧
    (State.withdraw s i code retry).rel = s.rel ∧ (State.withdraw s i code retry).evt = s.evt ∧
    (State.withdraw s i code retry).trc = s.trc ∧ (State.withdraw s i code retry).hdr = s.hdr ∧
    (State.withdraw s i code retry).stg = s.stg ∧ (State.withdraw s i code retry).hst = s.hst ∧
    (State.withdraw s i code retry).pairLo = s.pairLo ∧ (State.withdraw s i code retry).now = s.now ∧
    (State.withdraw s i code retry).free = s.free ∧ (State.withdraw s i code retry).pending = s.pending := by
  unfold State.withdraw; simp

@[simp] theorem retireDomain (s : State) (d : Nat) : (State.retireDomain s d).cmn = s.cmn ∧
    (State.retireDomain s d).seq = s.seq ∧ (State.retireDomain s d).beam = s.beam ∧ (State.retireDomain s d).ctl = s.ctl ∧
    (State.retireDomain s d).thm = s.thm ∧ (State.retireDomain s d).sns = s.sns ∧ (State.retireDomain s d).dom = s.dom ∧
    (State.retireDomain s d).clk = s.clk ∧ (State.retireDomain s d).pmb = s.pmb ∧ (State.retireDomain s d).tre = s.tre ∧
    (State.retireDomain s d).mbs = s.mbs ∧ (State.retireDomain s d).mbn = s.mbn ∧ (State.retireDomain s d).rck = s.rck ∧
    (State.retireDomain s d).aut = s.aut ∧ (State.retireDomain s d).rst = s.rst ∧ (State.retireDomain s d).rel = s.rel ∧
    (State.retireDomain s d).evt = s.evt ∧ (State.retireDomain s d).trc = s.trc ∧ (State.retireDomain s d).hdr = s.hdr ∧
    (State.retireDomain s d).stg = s.stg ∧ (State.retireDomain s d).hst = s.hst ∧
    (State.retireDomain s d).pairLo = s.pairLo ∧ (State.retireDomain s d).now = s.now ∧
    (State.retireDomain s d).free = s.free ∧ (State.retireDomain s d).pending = s.pending := by
  unfold State.retireDomain; simp

@[simp] theorem rowFault (s : State) (i : Nat) : (State.rowFault s i).cmn = s.cmn ∧
    (State.rowFault s i).seq = s.seq ∧ (State.rowFault s i).beam = s.beam ∧ (State.rowFault s i).ctl = s.ctl ∧
    (State.rowFault s i).fcs = s.fcs ∧ (State.rowFault s i).thm = s.thm ∧ (State.rowFault s i).sns = s.sns ∧
    (State.rowFault s i).dom = s.dom ∧ (State.rowFault s i).clk = s.clk ∧ (State.rowFault s i).vrg = s.vrg ∧
    (State.rowFault s i).pmb = s.pmb ∧ (State.rowFault s i).frm = s.frm ∧ (State.rowFault s i).tre = s.tre ∧
    (State.rowFault s i).mbs = s.mbs ∧ (State.rowFault s i).mbn = s.mbn ∧ (State.rowFault s i).rck = s.rck ∧
    (State.rowFault s i).aut = s.aut ∧ (State.rowFault s i).rst = s.rst ∧ (State.rowFault s i).trc = s.trc ∧
    (State.rowFault s i).stg = s.stg ∧ (State.rowFault s i).hst = s.hst ∧ (State.rowFault s i).pairLo = s.pairLo ∧
    (State.rowFault s i).now = s.now ∧ (State.rowFault s i).free = s.free ∧ (State.rowFault s i).pending = s.pending := by
  unfold State.rowFault; simp

@[simp] theorem cntFault (s : State) (r : Nat) : (State.cntFault s r).cmn = s.cmn ∧
    (State.cntFault s r).seq = s.seq ∧ (State.cntFault s r).adm = s.adm ∧ (State.cntFault s r).beam = s.beam ∧
    (State.cntFault s r).ctl = s.ctl ∧ (State.cntFault s r).fcs = s.fcs ∧ (State.cntFault s r).thm = s.thm ∧
    (State.cntFault s r).sns = s.sns ∧ (State.cntFault s r).dom = s.dom ∧ (State.cntFault s r).clk = s.clk ∧
    (State.cntFault s r).vrg = s.vrg ∧ (State.cntFault s r).pmb = s.pmb ∧ (State.cntFault s r).frm = s.frm ∧
    (State.cntFault s r).tre = s.tre ∧ (State.cntFault s r).mbs = s.mbs ∧ (State.cntFault s r).mbn = s.mbn ∧
    (State.cntFault s r).rck = s.rck ∧ (State.cntFault s r).aut = s.aut ∧ (State.cntFault s r).rst = s.rst ∧
    (State.cntFault s r).trc = s.trc ∧ (State.cntFault s r).stg = s.stg ∧ (State.cntFault s r).hst = s.hst ∧
    (State.cntFault s r).pairLo = s.pairLo ∧ (State.cntFault s r).now = s.now ∧ (State.cntFault s r).free = s.free ∧
    (State.cntFault s r).pending = s.pending := by
  unfold State.cntFault; simp

@[simp] theorem grant (s : State) (w i n : Nat) : (State.grant s w i n).cmn = s.cmn ∧
    (State.grant s w i n).seq = s.seq ∧ (State.grant s w i n).beam = s.beam ∧ (State.grant s w i n).ctl = s.ctl ∧
    (State.grant s w i n).fcs = s.fcs ∧ (State.grant s w i n).thm = s.thm ∧ (State.grant s w i n).sns = s.sns ∧
    (State.grant s w i n).dom = s.dom ∧ (State.grant s w i n).clk = s.clk ∧ (State.grant s w i n).pmb = s.pmb ∧
    (State.grant s w i n).tre = s.tre ∧ (State.grant s w i n).mbs = s.mbs ∧ (State.grant s w i n).mbn = s.mbn ∧
    (State.grant s w i n).rck = s.rck ∧ (State.grant s w i n).aut = s.aut ∧ (State.grant s w i n).rst = s.rst ∧
    (State.grant s w i n).rel = s.rel ∧ (State.grant s w i n).evt = s.evt ∧ (State.grant s w i n).trc = s.trc ∧
    (State.grant s w i n).hdr = s.hdr ∧ (State.grant s w i n).stg = s.stg ∧ (State.grant s w i n).hst = s.hst ∧
    (State.grant s w i n).pairLo = s.pairLo ∧ (State.grant s w i n).now = s.now ∧ (State.grant s w i n).free = s.free ∧
    (State.grant s w i n).pending = s.pending := by
  unfold State.grant; simp

@[simp] theorem askLoan (s : State) (r m : Nat) : (State.askLoan s r m).cmn = s.cmn ∧
    (State.askLoan s r m).seq = s.seq ∧ (State.askLoan s r m).tly = s.tly ∧ (State.askLoan s r m).beam = s.beam ∧
    (State.askLoan s r m).ctl = s.ctl ∧ (State.askLoan s r m).fcs = s.fcs ∧ (State.askLoan s r m).thm = s.thm ∧
    (State.askLoan s r m).sns = s.sns ∧ (State.askLoan s r m).dom = s.dom ∧ (State.askLoan s r m).clk = s.clk ∧
    (State.askLoan s r m).vrg = s.vrg ∧ (State.askLoan s r m).pmb = s.pmb ∧ (State.askLoan s r m).tre = s.tre ∧
    (State.askLoan s r m).mbs = s.mbs ∧ (State.askLoan s r m).mbn = s.mbn ∧ (State.askLoan s r m).rck = s.rck ∧
    (State.askLoan s r m).aut = s.aut ∧ (State.askLoan s r m).rst = s.rst ∧ (State.askLoan s r m).rel = s.rel ∧
    (State.askLoan s r m).evt = s.evt ∧ (State.askLoan s r m).trc = s.trc ∧ (State.askLoan s r m).hdr = s.hdr ∧
    (State.askLoan s r m).stg = s.stg ∧ (State.askLoan s r m).hst = s.hst ∧ (State.askLoan s r m).pairLo = s.pairLo ∧
    (State.askLoan s r m).now = s.now ∧ (State.askLoan s r m).free = s.free ∧ (State.askLoan s r m).pending = s.pending := by
  unfold State.askLoan; dsimp only; (repeat' split) <;> simp

@[simp] theorem decideRequest (s : State) (w : Nat) : (State.decideRequest s w).cmn = s.cmn ∧
    (State.decideRequest s w).seq = s.seq ∧ (State.decideRequest s w).beam = s.beam ∧ (State.decideRequest s w).ctl = s.ctl ∧
    (State.decideRequest s w).fcs = s.fcs ∧ (State.decideRequest s w).thm = s.thm ∧ (State.decideRequest s w).sns = s.sns ∧
    (State.decideRequest s w).dom = s.dom ∧ (State.decideRequest s w).clk = s.clk ∧ (State.decideRequest s w).pmb = s.pmb ∧
    (State.decideRequest s w).tre = s.tre ∧ (State.decideRequest s w).mbs = s.mbs ∧ (State.decideRequest s w).mbn = s.mbn ∧
    (State.decideRequest s w).rck = s.rck ∧ (State.decideRequest s w).aut = s.aut ∧ (State.decideRequest s w).rst = s.rst ∧
    (State.decideRequest s w).rel = s.rel ∧ (State.decideRequest s w).evt = s.evt ∧ (State.decideRequest s w).trc = s.trc ∧
    (State.decideRequest s w).hdr = s.hdr ∧ (State.decideRequest s w).stg = s.stg ∧ (State.decideRequest s w).hst = s.hst ∧
    (State.decideRequest s w).pairLo = s.pairLo ∧ (State.decideRequest s w).now = s.now ∧
    (State.decideRequest s w).free = s.free ∧ (State.decideRequest s w).pending = s.pending := by
  unfold State.decideRequest; dsimp only; (repeat' split) <;> simp

@[simp] theorem decideRelease (s : State) (w : Nat) : (State.decideRelease s w).cmn = s.cmn ∧
    (State.decideRelease s w).seq = s.seq ∧ (State.decideRelease s w).beam = s.beam ∧ (State.decideRelease s w).ctl = s.ctl ∧
    (State.decideRelease s w).thm = s.thm ∧ (State.decideRelease s w).sns = s.sns ∧ (State.decideRelease s w).dom = s.dom ∧
    (State.decideRelease s w).clk = s.clk ∧ (State.decideRelease s w).pmb = s.pmb ∧ (State.decideRelease s w).tre = s.tre ∧
    (State.decideRelease s w).mbs = s.mbs ∧ (State.decideRelease s w).mbn = s.mbn ∧ (State.decideRelease s w).rck = s.rck ∧
    (State.decideRelease s w).aut = s.aut ∧ (State.decideRelease s w).rst = s.rst ∧ (State.decideRelease s w).rel = s.rel ∧
    (State.decideRelease s w).evt = s.evt ∧ (State.decideRelease s w).trc = s.trc ∧ (State.decideRelease s w).hdr = s.hdr ∧
    (State.decideRelease s w).stg = s.stg ∧ (State.decideRelease s w).hst = s.hst ∧
    (State.decideRelease s w).pairLo = s.pairLo ∧ (State.decideRelease s w).now = s.now ∧
    (State.decideRelease s w).free = s.free ∧ (State.decideRelease s w).pending = s.pending := by
  unfold State.decideRelease; split <;> simp

@[simp] theorem decideTransfer (s : State) (w : Nat) : (State.decideTransfer s w).cmn = s.cmn ∧
    (State.decideTransfer s w).seq = s.seq ∧ (State.decideTransfer s w).beam = s.beam ∧
    (State.decideTransfer s w).ctl = s.ctl ∧ (State.decideTransfer s w).fcs = s.fcs ∧
    (State.decideTransfer s w).thm = s.thm ∧ (State.decideTransfer s w).sns = s.sns ∧
    (State.decideTransfer s w).dom = s.dom ∧ (State.decideTransfer s w).clk = s.clk ∧
    (State.decideTransfer s w).vrg = s.vrg ∧ (State.decideTransfer s w).pmb = s.pmb ∧
    (State.decideTransfer s w).frm = s.frm ∧ (State.decideTransfer s w).tre = s.tre ∧
    (State.decideTransfer s w).mbs = s.mbs ∧ (State.decideTransfer s w).mbn = s.mbn ∧
    (State.decideTransfer s w).rck = s.rck ∧ (State.decideTransfer s w).aut = s.aut ∧
    (State.decideTransfer s w).rst = s.rst ∧ (State.decideTransfer s w).rel = s.rel ∧
    (State.decideTransfer s w).evt = s.evt ∧ (State.decideTransfer s w).trc = s.trc ∧
    (State.decideTransfer s w).hdr = s.hdr ∧ (State.decideTransfer s w).stg = s.stg ∧
    (State.decideTransfer s w).hst = s.hst ∧ (State.decideTransfer s w).pairLo = s.pairLo ∧
    (State.decideTransfer s w).now = s.now ∧ (State.decideTransfer s w).free = s.free ∧
    (State.decideTransfer s w).pending = s.pending := by
  unfold State.decideTransfer; split <;> simp

@[simp] theorem decideParity (s : State) (w : Nat) : (State.decideParity s w).cmn = s.cmn ∧
    (State.decideParity s w).seq = s.seq ∧ (State.decideParity s w).beam = s.beam ∧ (State.decideParity s w).ctl = s.ctl ∧
    (State.decideParity s w).fcs = s.fcs ∧ (State.decideParity s w).thm = s.thm ∧ (State.decideParity s w).sns = s.sns ∧
    (State.decideParity s w).dom = s.dom ∧ (State.decideParity s w).clk = s.clk ∧ (State.decideParity s w).vrg = s.vrg ∧
    (State.decideParity s w).pmb = s.pmb ∧ (State.decideParity s w).frm = s.frm ∧ (State.decideParity s w).tre = s.tre ∧
    (State.decideParity s w).mbs = s.mbs ∧ (State.decideParity s w).mbn = s.mbn ∧ (State.decideParity s w).rck = s.rck ∧
    (State.decideParity s w).aut = s.aut ∧ (State.decideParity s w).rst = s.rst ∧ (State.decideParity s w).rel = s.rel ∧
    (State.decideParity s w).trc = s.trc ∧ (State.decideParity s w).stg = s.stg ∧ (State.decideParity s w).hst = s.hst ∧
    (State.decideParity s w).pairLo = s.pairLo ∧ (State.decideParity s w).now = s.now ∧
    (State.decideParity s w).free = s.free ∧ (State.decideParity s w).pending = s.pending := by
  unfold State.decideParity; simp

@[simp] theorem decideWord (s : State) (x : InWord) : (State.decideWord s x).cmn = s.cmn ∧
    (State.decideWord s x).seq = s.seq ∧ (State.decideWord s x).beam = s.beam ∧ (State.decideWord s x).ctl = s.ctl ∧
    (State.decideWord s x).thm = s.thm ∧ (State.decideWord s x).sns = s.sns ∧ (State.decideWord s x).dom = s.dom ∧
    (State.decideWord s x).clk = s.clk ∧ (State.decideWord s x).pmb = s.pmb ∧ (State.decideWord s x).tre = s.tre ∧
    (State.decideWord s x).mbs = s.mbs ∧ (State.decideWord s x).mbn = s.mbn ∧ (State.decideWord s x).rck = s.rck ∧
    (State.decideWord s x).aut = s.aut ∧ (State.decideWord s x).rst = s.rst ∧ (State.decideWord s x).trc = s.trc ∧
    (State.decideWord s x).stg = s.stg ∧ (State.decideWord s x).hst = s.hst ∧ (State.decideWord s x).pairLo = s.pairLo ∧
    (State.decideWord s x).now = s.now ∧ (State.decideWord s x).free = s.free ∧ (State.decideWord s x).pending = s.pending := by
  unfold State.decideWord; dsimp only; (repeat' split) <;> simp

@[simp] theorem decideAll (f : Nat) (s : State) : (State.decideAll f s).cmn = s.cmn ∧
    (State.decideAll f s).seq = s.seq ∧ (State.decideAll f s).beam = s.beam ∧ (State.decideAll f s).ctl = s.ctl ∧
    (State.decideAll f s).thm = s.thm ∧ (State.decideAll f s).sns = s.sns ∧ (State.decideAll f s).dom = s.dom ∧
    (State.decideAll f s).clk = s.clk ∧ (State.decideAll f s).pmb = s.pmb ∧ (State.decideAll f s).tre = s.tre ∧
    (State.decideAll f s).mbs = s.mbs ∧ (State.decideAll f s).mbn = s.mbn ∧ (State.decideAll f s).rck = s.rck ∧
    (State.decideAll f s).aut = s.aut ∧ (State.decideAll f s).rst = s.rst ∧ (State.decideAll f s).trc = s.trc ∧
    (State.decideAll f s).stg = s.stg ∧ (State.decideAll f s).hst = s.hst ∧ (State.decideAll f s).pairLo = s.pairLo ∧
    (State.decideAll f s).now = s.now ∧ (State.decideAll f s).free = s.free ∧ (State.decideAll f s).pending = s.pending := by
  induction f generalizing s with
  | zero => simp [State.decideAll]
  | succ k ih => unfold State.decideAll; dsimp only; (repeat' split) <;> simp [ih]

@[simp] theorem admIn (s : State) (x : InWord) : (State.admIn s x).cmn = s.cmn ∧ (State.admIn s x).seq = s.seq ∧
    (State.admIn s x).beam = s.beam ∧ (State.admIn s x).ctl = s.ctl ∧ (State.admIn s x).thm = s.thm ∧
    (State.admIn s x).sns = s.sns ∧ (State.admIn s x).dom = s.dom ∧ (State.admIn s x).clk = s.clk ∧
    (State.admIn s x).pmb = s.pmb ∧ (State.admIn s x).tre = s.tre ∧ (State.admIn s x).mbs = s.mbs ∧
    (State.admIn s x).mbn = s.mbn ∧ (State.admIn s x).rck = s.rck ∧ (State.admIn s x).aut = s.aut ∧
    (State.admIn s x).rst = s.rst ∧ (State.admIn s x).trc = s.trc ∧ (State.admIn s x).stg = s.stg ∧
    (State.admIn s x).hst = s.hst ∧ (State.admIn s x).pairLo = s.pairLo ∧ (State.admIn s x).now = s.now ∧
    (State.admIn s x).free = s.free ∧ (State.admIn s x).pending = s.pending := by
  unfold State.admIn; simp

@[simp] theorem skipClosed (f : Nat) (s : State) : (State.skipClosed f s).cmn = s.cmn ∧
    (State.skipClosed f s).seq = s.seq ∧ (State.skipClosed f s).tly = s.tly ∧ (State.skipClosed f s).beam = s.beam ∧
    (State.skipClosed f s).ctl = s.ctl ∧ (State.skipClosed f s).fcs = s.fcs ∧ (State.skipClosed f s).thm = s.thm ∧
    (State.skipClosed f s).sns = s.sns ∧ (State.skipClosed f s).dom = s.dom ∧ (State.skipClosed f s).clk = s.clk ∧
    (State.skipClosed f s).vrg = s.vrg ∧ (State.skipClosed f s).pmb = s.pmb ∧ (State.skipClosed f s).frm = s.frm ∧
    (State.skipClosed f s).tre = s.tre ∧ (State.skipClosed f s).mbs = s.mbs ∧ (State.skipClosed f s).mbn = s.mbn ∧
    (State.skipClosed f s).rck = s.rck ∧ (State.skipClosed f s).aut = s.aut ∧ (State.skipClosed f s).rst = s.rst ∧
    (State.skipClosed f s).rel = s.rel ∧ (State.skipClosed f s).evt = s.evt ∧ (State.skipClosed f s).trc = s.trc ∧
    (State.skipClosed f s).hdr = s.hdr ∧ (State.skipClosed f s).stg = s.stg ∧ (State.skipClosed f s).hst = s.hst ∧
    (State.skipClosed f s).pairLo = s.pairLo ∧ (State.skipClosed f s).now = s.now ∧ (State.skipClosed f s).free = s.free ∧
    (State.skipClosed f s).pending = s.pending := by
  induction f generalizing s with
  | zero => simp [State.skipClosed]
  | succ k ih => unfold State.skipClosed; dsimp only; (repeat' split) <;> simp [ih]

@[simp] theorem grantLeft (s : State) (i r n : Nat) : (State.grantLeft s i r n).cmn = s.cmn ∧
    (State.grantLeft s i r n).seq = s.seq ∧ (State.grantLeft s i r n).adm = s.adm ∧ (State.grantLeft s i r n).beam = s.beam ∧
    (State.grantLeft s i r n).ctl = s.ctl ∧ (State.grantLeft s i r n).thm = s.thm ∧ (State.grantLeft s i r n).sns = s.sns ∧
    (State.grantLeft s i r n).dom = s.dom ∧ (State.grantLeft s i r n).clk = s.clk ∧ (State.grantLeft s i r n).vrg = s.vrg ∧
    (State.grantLeft s i r n).pmb = s.pmb ∧ (State.grantLeft s i r n).frm = s.frm ∧ (State.grantLeft s i r n).tre = s.tre ∧
    (State.grantLeft s i r n).mbs = s.mbs ∧ (State.grantLeft s i r n).mbn = s.mbn ∧ (State.grantLeft s i r n).rck = s.rck ∧
    (State.grantLeft s i r n).aut = s.aut ∧ (State.grantLeft s i r n).rst = s.rst ∧ (State.grantLeft s i r n).rel = s.rel ∧
    (State.grantLeft s i r n).evt = s.evt ∧ (State.grantLeft s i r n).trc = s.trc ∧ (State.grantLeft s i r n).hdr = s.hdr ∧
    (State.grantLeft s i r n).stg = s.stg ∧ (State.grantLeft s i r n).hst = s.hst ∧
    (State.grantLeft s i r n).pairLo = s.pairLo ∧ (State.grantLeft s i r n).now = s.now ∧
    (State.grantLeft s i r n).free = s.free ∧ (State.grantLeft s i r n).pending = s.pending := by
  unfold State.grantLeft; simp

@[simp] theorem leave (s : State) (o : OutWord) : (State.leave s o).cmn = s.cmn ∧ (State.leave s o).seq = s.seq ∧
    (State.leave s o).beam = s.beam ∧ (State.leave s o).ctl = s.ctl ∧ (State.leave s o).thm = s.thm ∧
    (State.leave s o).sns = s.sns ∧ (State.leave s o).dom = s.dom ∧ (State.leave s o).clk = s.clk ∧
    (State.leave s o).vrg = s.vrg ∧ (State.leave s o).pmb = s.pmb ∧ (State.leave s o).frm = s.frm ∧
    (State.leave s o).tre = s.tre ∧ (State.leave s o).mbs = s.mbs ∧ (State.leave s o).mbn = s.mbn ∧
    (State.leave s o).rck = s.rck ∧ (State.leave s o).aut = s.aut ∧ (State.leave s o).rst = s.rst ∧
    (State.leave s o).rel = s.rel ∧ (State.leave s o).evt = s.evt ∧ (State.leave s o).trc = s.trc ∧
    (State.leave s o).hdr = s.hdr ∧ (State.leave s o).stg = s.stg ∧ (State.leave s o).hst = s.hst ∧
    (State.leave s o).pairLo = s.pairLo ∧ (State.leave s o).now = s.now ∧ (State.leave s o).free = s.free ∧
    (State.leave s o).pending = s.pending := by
  unfold State.leave; split <;> simp

@[simp] theorem armRail (s : State) (r : Nat) : (State.armRail s r).cmn = s.cmn ∧
    (State.armRail s r).seq = s.seq ∧ (State.armRail s r).beam = s.beam ∧ (State.armRail s r).ctl = s.ctl ∧
    (State.armRail s r).fcs = s.fcs ∧ (State.armRail s r).thm = s.thm ∧ (State.armRail s r).sns = s.sns ∧
    (State.armRail s r).dom = s.dom ∧ (State.armRail s r).clk = s.clk ∧ (State.armRail s r).vrg = s.vrg ∧
    (State.armRail s r).pmb = s.pmb ∧ (State.armRail s r).frm = s.frm ∧ (State.armRail s r).tre = s.tre ∧
    (State.armRail s r).mbs = s.mbs ∧ (State.armRail s r).mbn = s.mbn ∧ (State.armRail s r).rck = s.rck ∧
    (State.armRail s r).aut = s.aut ∧ (State.armRail s r).rst = s.rst ∧ (State.armRail s r).rel = s.rel ∧
    (State.armRail s r).evt = s.evt ∧ (State.armRail s r).trc = s.trc ∧ (State.armRail s r).hdr = s.hdr ∧
    (State.armRail s r).stg = s.stg ∧ (State.armRail s r).hst = s.hst ∧ (State.armRail s r).pairLo = s.pairLo ∧
    (State.armRail s r).now = s.now ∧ (State.armRail s r).free = s.free ∧ (State.armRail s r).pending = s.pending := by
  unfold State.armRail; simp

@[simp] theorem freeRow (s : State) (i : Nat) : (State.freeRow s i).cmn = s.cmn ∧
    (State.freeRow s i).seq = s.seq ∧ (State.freeRow s i).adm = s.adm ∧ (State.freeRow s i).beam = s.beam ∧
    (State.freeRow s i).ctl = s.ctl ∧ (State.freeRow s i).fcs = s.fcs ∧ (State.freeRow s i).thm = s.thm ∧
    (State.freeRow s i).sns = s.sns ∧ (State.freeRow s i).dom = s.dom ∧ (State.freeRow s i).clk = s.clk ∧
    (State.freeRow s i).vrg = s.vrg ∧ (State.freeRow s i).pmb = s.pmb ∧ (State.freeRow s i).frm = s.frm ∧
    (State.freeRow s i).tre = s.tre ∧ (State.freeRow s i).mbs = s.mbs ∧ (State.freeRow s i).mbn = s.mbn ∧
    (State.freeRow s i).rck = s.rck ∧ (State.freeRow s i).aut = s.aut ∧ (State.freeRow s i).rst = s.rst ∧
    (State.freeRow s i).rel = s.rel ∧ (State.freeRow s i).evt = s.evt ∧ (State.freeRow s i).trc = s.trc ∧
    (State.freeRow s i).hdr = s.hdr ∧ (State.freeRow s i).stg = s.stg ∧ (State.freeRow s i).hst = s.hst ∧
    (State.freeRow s i).pairLo = s.pairLo ∧ (State.freeRow s i).now = s.now ∧ (State.freeRow s i).free = s.free ∧
    (State.freeRow s i).pending = s.pending := by
  unfold State.freeRow; simp

@[simp] theorem askDone (s : State) : (State.askDone s).cmn = s.cmn ∧ (State.askDone s).seq = s.seq ∧
    (State.askDone s).tly = s.tly ∧ (State.askDone s).beam = s.beam ∧ (State.askDone s).ctl = s.ctl ∧
    (State.askDone s).fcs = s.fcs ∧ (State.askDone s).thm = s.thm ∧ (State.askDone s).sns = s.sns ∧
    (State.askDone s).dom = s.dom ∧ (State.askDone s).clk = s.clk ∧ (State.askDone s).vrg = s.vrg ∧
    (State.askDone s).pmb = s.pmb ∧ (State.askDone s).frm = s.frm ∧ (State.askDone s).tre = s.tre ∧
    (State.askDone s).mbs = s.mbs ∧ (State.askDone s).mbn = s.mbn ∧ (State.askDone s).rck = s.rck ∧
    (State.askDone s).aut = s.aut ∧ (State.askDone s).rst = s.rst ∧ (State.askDone s).rel = s.rel ∧
    (State.askDone s).evt = s.evt ∧ (State.askDone s).trc = s.trc ∧ (State.askDone s).hdr = s.hdr ∧
    (State.askDone s).stg = s.stg ∧ (State.askDone s).hst = s.hst ∧ (State.askDone s).pairLo = s.pairLo ∧
    (State.askDone s).now = s.now ∧ (State.askDone s).free = s.free ∧ (State.askDone s).pending = s.pending := by
  unfold State.askDone; simp

@[simp] theorem unannEnd (s : State) (r : Nat) : (State.unannEnd s r).cmn = s.cmn ∧
    (State.unannEnd s r).seq = s.seq ∧ (State.unannEnd s r).adm = s.adm ∧ (State.unannEnd s r).beam = s.beam ∧
    (State.unannEnd s r).ctl = s.ctl ∧ (State.unannEnd s r).fcs = s.fcs ∧ (State.unannEnd s r).thm = s.thm ∧
    (State.unannEnd s r).sns = s.sns ∧ (State.unannEnd s r).dom = s.dom ∧ (State.unannEnd s r).clk = s.clk ∧
    (State.unannEnd s r).vrg = s.vrg ∧ (State.unannEnd s r).pmb = s.pmb ∧ (State.unannEnd s r).frm = s.frm ∧
    (State.unannEnd s r).tre = s.tre ∧ (State.unannEnd s r).mbs = s.mbs ∧ (State.unannEnd s r).mbn = s.mbn ∧
    (State.unannEnd s r).rck = s.rck ∧ (State.unannEnd s r).aut = s.aut ∧ (State.unannEnd s r).rst = s.rst ∧
    (State.unannEnd s r).rel = s.rel ∧ (State.unannEnd s r).trc = s.trc ∧ (State.unannEnd s r).stg = s.stg ∧
    (State.unannEnd s r).hst = s.hst ∧ (State.unannEnd s r).pairLo = s.pairLo ∧ (State.unannEnd s r).now = s.now ∧
    (State.unannEnd s r).free = s.free ∧ (State.unannEnd s r).pending = s.pending := by
  unfold State.unannEnd; simp

@[simp] theorem polDown (s : State) (r : Nat) : (State.polDown s r).cmn = s.cmn ∧
    (State.polDown s r).seq = s.seq ∧ (State.polDown s r).adm = s.adm ∧ (State.polDown s r).beam = s.beam ∧
    (State.polDown s r).ctl = s.ctl ∧ (State.polDown s r).fcs = s.fcs ∧ (State.polDown s r).thm = s.thm ∧
    (State.polDown s r).sns = s.sns ∧ (State.polDown s r).dom = s.dom ∧ (State.polDown s r).clk = s.clk ∧
    (State.polDown s r).vrg = s.vrg ∧ (State.polDown s r).pmb = s.pmb ∧ (State.polDown s r).frm = s.frm ∧
    (State.polDown s r).tre = s.tre ∧ (State.polDown s r).mbs = s.mbs ∧ (State.polDown s r).mbn = s.mbn ∧
    (State.polDown s r).rck = s.rck ∧ (State.polDown s r).aut = s.aut ∧ (State.polDown s r).rst = s.rst ∧
    (State.polDown s r).rel = s.rel ∧ (State.polDown s r).evt = s.evt ∧ (State.polDown s r).trc = s.trc ∧
    (State.polDown s r).hdr = s.hdr ∧ (State.polDown s r).stg = s.stg ∧ (State.polDown s r).hst = s.hst ∧
    (State.polDown s r).pairLo = s.pairLo ∧ (State.polDown s r).now = s.now ∧ (State.polDown s r).free = s.free ∧
    (State.polDown s r).pending = s.pending := by
  unfold State.polDown; simp

@[simp] theorem police (s : State) (r iMeas : Nat) : (State.police s r iMeas).cmn = s.cmn ∧
    (State.police s r iMeas).seq = s.seq ∧ (State.police s r iMeas).adm = s.adm ∧ (State.police s r iMeas).beam = s.beam ∧
    (State.police s r iMeas).ctl = s.ctl ∧ (State.police s r iMeas).fcs = s.fcs ∧ (State.police s r iMeas).thm = s.thm ∧
    (State.police s r iMeas).sns = s.sns ∧ (State.police s r iMeas).dom = s.dom ∧ (State.police s r iMeas).clk = s.clk ∧
    (State.police s r iMeas).vrg = s.vrg ∧ (State.police s r iMeas).pmb = s.pmb ∧ (State.police s r iMeas).frm = s.frm ∧
    (State.police s r iMeas).tre = s.tre ∧ (State.police s r iMeas).mbs = s.mbs ∧ (State.police s r iMeas).mbn = s.mbn ∧
    (State.police s r iMeas).rck = s.rck ∧ (State.police s r iMeas).aut = s.aut ∧ (State.police s r iMeas).rst = s.rst ∧
    (State.police s r iMeas).rel = s.rel ∧ (State.police s r iMeas).trc = s.trc ∧ (State.police s r iMeas).stg = s.stg ∧
    (State.police s r iMeas).hst = s.hst ∧ (State.police s r iMeas).pairLo = s.pairLo ∧
    (State.police s r iMeas).now = s.now ∧ (State.police s r iMeas).free = s.free ∧
    (State.police s r iMeas).pending = s.pending := by
  unfold State.police; simp

@[simp] theorem harvestBegin (s : State) (r : Nat) : (State.harvestBegin s r).cmn = s.cmn ∧
    (State.harvestBegin s r).seq = s.seq ∧ (State.harvestBegin s r).adm = s.adm ∧ (State.harvestBegin s r).beam = s.beam ∧
    (State.harvestBegin s r).ctl = s.ctl ∧ (State.harvestBegin s r).fcs = s.fcs ∧ (State.harvestBegin s r).thm = s.thm ∧
    (State.harvestBegin s r).sns = s.sns ∧ (State.harvestBegin s r).dom = s.dom ∧ (State.harvestBegin s r).clk = s.clk ∧
    (State.harvestBegin s r).vrg = s.vrg ∧ (State.harvestBegin s r).pmb = s.pmb ∧ (State.harvestBegin s r).frm = s.frm ∧
    (State.harvestBegin s r).tre = s.tre ∧ (State.harvestBegin s r).mbs = s.mbs ∧ (State.harvestBegin s r).mbn = s.mbn ∧
    (State.harvestBegin s r).rck = s.rck ∧ (State.harvestBegin s r).aut = s.aut ∧ (State.harvestBegin s r).rst = s.rst ∧
    (State.harvestBegin s r).rel = s.rel ∧ (State.harvestBegin s r).evt = s.evt ∧ (State.harvestBegin s r).trc = s.trc ∧
    (State.harvestBegin s r).hdr = s.hdr ∧ (State.harvestBegin s r).stg = s.stg ∧ (State.harvestBegin s r).hst = s.hst ∧
    (State.harvestBegin s r).pairLo = s.pairLo ∧ (State.harvestBegin s r).now = s.now ∧
    (State.harvestBegin s r).free = s.free ∧ (State.harvestBegin s r).pending = s.pending := by
  unfold State.harvestBegin; simp

@[simp] theorem harvestCheck (s : State) (r : Nat) : (State.harvestCheck s r).cmn = s.cmn ∧
    (State.harvestCheck s r).seq = s.seq ∧ (State.harvestCheck s r).adm = s.adm ∧ (State.harvestCheck s r).beam = s.beam ∧
    (State.harvestCheck s r).ctl = s.ctl ∧ (State.harvestCheck s r).fcs = s.fcs ∧ (State.harvestCheck s r).thm = s.thm ∧
    (State.harvestCheck s r).sns = s.sns ∧ (State.harvestCheck s r).dom = s.dom ∧ (State.harvestCheck s r).clk = s.clk ∧
    (State.harvestCheck s r).vrg = s.vrg ∧ (State.harvestCheck s r).pmb = s.pmb ∧ (State.harvestCheck s r).frm = s.frm ∧
    (State.harvestCheck s r).tre = s.tre ∧ (State.harvestCheck s r).mbs = s.mbs ∧ (State.harvestCheck s r).mbn = s.mbn ∧
    (State.harvestCheck s r).rck = s.rck ∧ (State.harvestCheck s r).aut = s.aut ∧ (State.harvestCheck s r).rst = s.rst ∧
    (State.harvestCheck s r).rel = s.rel ∧ (State.harvestCheck s r).trc = s.trc ∧ (State.harvestCheck s r).stg = s.stg ∧
    (State.harvestCheck s r).hst = s.hst ∧ (State.harvestCheck s r).pairLo = s.pairLo ∧
    (State.harvestCheck s r).now = s.now ∧ (State.harvestCheck s r).free = s.free ∧
    (State.harvestCheck s r).pending = s.pending := by
  unfold State.harvestCheck; simp

@[simp] theorem closeRow (s : State) (i : Nat) : (State.closeRow s i).2.cmn = s.cmn ∧
    (State.closeRow s i).2.seq = s.seq ∧ (State.closeRow s i).2.beam = s.beam ∧ (State.closeRow s i).2.ctl = s.ctl ∧
    (State.closeRow s i).2.thm = s.thm ∧ (State.closeRow s i).2.sns = s.sns ∧ (State.closeRow s i).2.dom = s.dom ∧
    (State.closeRow s i).2.clk = s.clk ∧ (State.closeRow s i).2.pmb = s.pmb ∧ (State.closeRow s i).2.tre = s.tre ∧
    (State.closeRow s i).2.mbs = s.mbs ∧ (State.closeRow s i).2.mbn = s.mbn ∧ (State.closeRow s i).2.rck = s.rck ∧
    (State.closeRow s i).2.aut = s.aut ∧ (State.closeRow s i).2.rst = s.rst ∧ (State.closeRow s i).2.rel = s.rel ∧
    (State.closeRow s i).2.evt = s.evt ∧ (State.closeRow s i).2.trc = s.trc ∧ (State.closeRow s i).2.hdr = s.hdr ∧
    (State.closeRow s i).2.stg = s.stg ∧ (State.closeRow s i).2.hst = s.hst ∧ (State.closeRow s i).2.pairLo = s.pairLo ∧
    (State.closeRow s i).2.now = s.now ∧ (State.closeRow s i).2.free = s.free ∧ (State.closeRow s i).2.pending = s.pending := by
  unfold State.closeRow; dsimp only; (repeat' split) <;> simp

@[simp] theorem closeRows (s : State) : (State.closeRows s).cmn = s.cmn ∧ (State.closeRows s).seq = s.seq ∧
    (State.closeRows s).beam = s.beam ∧ (State.closeRows s).ctl = s.ctl ∧ (State.closeRows s).thm = s.thm ∧
    (State.closeRows s).sns = s.sns ∧ (State.closeRows s).dom = s.dom ∧ (State.closeRows s).clk = s.clk ∧
    (State.closeRows s).pmb = s.pmb ∧ (State.closeRows s).tre = s.tre ∧ (State.closeRows s).mbs = s.mbs ∧
    (State.closeRows s).mbn = s.mbn ∧ (State.closeRows s).rck = s.rck ∧ (State.closeRows s).aut = s.aut ∧
    (State.closeRows s).rst = s.rst ∧ (State.closeRows s).rel = s.rel ∧ (State.closeRows s).evt = s.evt ∧
    (State.closeRows s).trc = s.trc ∧ (State.closeRows s).hdr = s.hdr ∧ (State.closeRows s).stg = s.stg ∧
    (State.closeRows s).hst = s.hst ∧ (State.closeRows s).pairLo = s.pairLo ∧ (State.closeRows s).now = s.now ∧
    (State.closeRows s).free = s.free ∧ (State.closeRows s).pending = s.pending := by
  unfold State.closeRows; dsimp only; simp only [outRise]; exact ⟨(foldl_proj (fun (x : List OutWord × State) => x.2.cmn) _ (by intro s a; simp) _ _), (foldl_proj (fun (x : List OutWord × State) => x.2.seq) _ (by intro s a; simp) _ _), (foldl_proj (fun (x : List OutWord × State) => x.2.beam) _ (by intro s a; simp) _ _), (foldl_proj (fun (x : List OutWord × State) => x.2.ctl) _ (by intro s a; simp) _ _), (foldl_proj (fun (x : List OutWord × State) => x.2.thm) _ (by intro s a; simp) _ _), (foldl_proj (fun (x : List OutWord × State) => x.2.sns) _ (by intro s a; simp) _ _), (foldl_proj (fun (x : List OutWord × State) => x.2.dom) _ (by intro s a; simp) _ _), (foldl_proj (fun (x : List OutWord × State) => x.2.clk) _ (by intro s a; simp) _ _), (foldl_proj (fun (x : List OutWord × State) => x.2.pmb) _ (by intro s a; simp) _ _), (foldl_proj (fun (x : List OutWord × State) => x.2.tre) _ (by intro s a; simp) _ _), (foldl_proj (fun (x : List OutWord × State) => x.2.mbs) _ (by intro s a; simp) _ _), (foldl_proj (fun (x : List OutWord × State) => x.2.mbn) _ (by intro s a; simp) _ _), (foldl_proj (fun (x : List OutWord × State) => x.2.rck) _ (by intro s a; simp) _ _), (foldl_proj (fun (x : List OutWord × State) => x.2.aut) _ (by intro s a; simp) _ _), (foldl_proj (fun (x : List OutWord × State) => x.2.rst) _ (by intro s a; simp) _ _), (foldl_proj (fun (x : List OutWord × State) => x.2.rel) _ (by intro s a; simp) _ _), (foldl_proj (fun (x : List OutWord × State) => x.2.evt) _ (by intro s a; simp) _ _), (foldl_proj (fun (x : List OutWord × State) => x.2.trc) _ (by intro s a; simp) _ _), (foldl_proj (fun (x : List OutWord × State) => x.2.hdr) _ (by intro s a; simp) _ _), (foldl_proj (fun (x : List OutWord × State) => x.2.stg) _ (by intro s a; simp) _ _), (foldl_proj (fun (x : List OutWord × State) => x.2.hst) _ (by intro s a; simp) _ _), (foldl_proj (fun (x : List OutWord × State) => x.2.pairLo) _ (by intro s a; simp) _ _), (foldl_proj (fun (x : List OutWord × State) => x.2.now) _ (by intro s a; simp) _ _), (foldl_proj (fun (x : List OutWord × State) => x.2.free) _ (by intro s a; simp) _ _), (foldl_proj (fun (x : List OutWord × State) => x.2.pending) _ (by intro s a; simp) _ _)⟩

@[simp] theorem tlyBoundary (s : State) (num : Nat) : (State.tlyBoundary s num).cmn = s.cmn ∧
    (State.tlyBoundary s num).seq = s.seq ∧ (State.tlyBoundary s num).beam = s.beam ∧ (State.tlyBoundary s num).ctl = s.ctl ∧
    (State.tlyBoundary s num).thm = s.thm ∧ (State.tlyBoundary s num).sns = s.sns ∧ (State.tlyBoundary s num).dom = s.dom ∧
    (State.tlyBoundary s num).clk = s.clk ∧ (State.tlyBoundary s num).pmb = s.pmb ∧ (State.tlyBoundary s num).tre = s.tre ∧
    (State.tlyBoundary s num).mbs = s.mbs ∧ (State.tlyBoundary s num).mbn = s.mbn ∧ (State.tlyBoundary s num).rck = s.rck ∧
    (State.tlyBoundary s num).aut = s.aut ∧ (State.tlyBoundary s num).rst = s.rst ∧ (State.tlyBoundary s num).rel = s.rel ∧
    (State.tlyBoundary s num).stg = s.stg ∧ (State.tlyBoundary s num).hst = s.hst ∧
    (State.tlyBoundary s num).pairLo = s.pairLo ∧ (State.tlyBoundary s num).now = s.now ∧
    (State.tlyBoundary s num).free = s.free ∧ (State.tlyBoundary s num).pending = s.pending := by
  unfold State.tlyBoundary; simp

@[simp] theorem takeBase (s : State) (r : Nat) : (State.takeBase s r).cmn = s.cmn ∧
    (State.takeBase s r).seq = s.seq ∧ (State.takeBase s r).adm = s.adm ∧ (State.takeBase s r).beam = s.beam ∧
    (State.takeBase s r).ctl = s.ctl ∧ (State.takeBase s r).fcs = s.fcs ∧ (State.takeBase s r).thm = s.thm ∧
    (State.takeBase s r).sns = s.sns ∧ (State.takeBase s r).dom = s.dom ∧ (State.takeBase s r).clk = s.clk ∧
    (State.takeBase s r).vrg = s.vrg ∧ (State.takeBase s r).pmb = s.pmb ∧ (State.takeBase s r).frm = s.frm ∧
    (State.takeBase s r).tre = s.tre ∧ (State.takeBase s r).mbs = s.mbs ∧ (State.takeBase s r).mbn = s.mbn ∧
    (State.takeBase s r).rck = s.rck ∧ (State.takeBase s r).aut = s.aut ∧ (State.takeBase s r).rst = s.rst ∧
    (State.takeBase s r).rel = s.rel ∧ (State.takeBase s r).trc = s.trc ∧ (State.takeBase s r).stg = s.stg ∧
    (State.takeBase s r).hst = s.hst ∧ (State.takeBase s r).pairLo = s.pairLo ∧ (State.takeBase s r).now = s.now ∧
    (State.takeBase s r).free = s.free ∧ (State.takeBase s r).pending = s.pending := by
  unfold State.takeBase; dsimp only; (repeat' split) <;> simp

@[simp] theorem audit (s : State) : (State.audit s).cmn = s.cmn ∧ (State.audit s).seq = s.seq ∧
    (State.audit s).adm = s.adm ∧ (State.audit s).beam = s.beam ∧ (State.audit s).ctl = s.ctl ∧ (State.audit s).fcs = s.fcs ∧
    (State.audit s).thm = s.thm ∧ (State.audit s).sns = s.sns ∧ (State.audit s).dom = s.dom ∧ (State.audit s).clk = s.clk ∧
    (State.audit s).vrg = s.vrg ∧ (State.audit s).pmb = s.pmb ∧ (State.audit s).frm = s.frm ∧ (State.audit s).tre = s.tre ∧
    (State.audit s).mbs = s.mbs ∧ (State.audit s).mbn = s.mbn ∧ (State.audit s).rck = s.rck ∧ (State.audit s).aut = s.aut ∧
    (State.audit s).rst = s.rst ∧ (State.audit s).rel = s.rel ∧ (State.audit s).trc = s.trc ∧ (State.audit s).stg = s.stg ∧
    (State.audit s).hst = s.hst ∧ (State.audit s).pairLo = s.pairLo ∧ (State.audit s).now = s.now ∧
    (State.audit s).free = s.free ∧ (State.audit s).pending = s.pending := by
  unfold State.audit; simp

@[simp] theorem testRow (s : State) (bad : List Nat) (i : Nat) : (State.testRow s bad i).cmn = s.cmn ∧
    (State.testRow s bad i).seq = s.seq ∧ (State.testRow s bad i).adm = s.adm ∧ (State.testRow s bad i).beam = s.beam ∧
    (State.testRow s bad i).ctl = s.ctl ∧ (State.testRow s bad i).fcs = s.fcs ∧ (State.testRow s bad i).thm = s.thm ∧
    (State.testRow s bad i).sns = s.sns ∧ (State.testRow s bad i).dom = s.dom ∧ (State.testRow s bad i).clk = s.clk ∧
    (State.testRow s bad i).vrg = s.vrg ∧ (State.testRow s bad i).pmb = s.pmb ∧ (State.testRow s bad i).frm = s.frm ∧
    (State.testRow s bad i).tre = s.tre ∧ (State.testRow s bad i).mbs = s.mbs ∧ (State.testRow s bad i).mbn = s.mbn ∧
    (State.testRow s bad i).rck = s.rck ∧ (State.testRow s bad i).aut = s.aut ∧ (State.testRow s bad i).rst = s.rst ∧
    (State.testRow s bad i).rel = s.rel ∧ (State.testRow s bad i).trc = s.trc ∧ (State.testRow s bad i).stg = s.stg ∧
    (State.testRow s bad i).hst = s.hst ∧ (State.testRow s bad i).pairLo = s.pairLo ∧ (State.testRow s bad i).now = s.now ∧
    (State.testRow s bad i).free = s.free ∧ (State.testRow s bad i).pending = s.pending := by
  unfold State.testRow; simp

@[simp] theorem drainRows (s : State) (bad : List Nat) : (State.drainRows s bad).cmn = s.cmn ∧
    (State.drainRows s bad).seq = s.seq ∧ (State.drainRows s bad).adm = s.adm ∧ (State.drainRows s bad).beam = s.beam ∧
    (State.drainRows s bad).ctl = s.ctl ∧ (State.drainRows s bad).fcs = s.fcs ∧ (State.drainRows s bad).thm = s.thm ∧
    (State.drainRows s bad).sns = s.sns ∧ (State.drainRows s bad).dom = s.dom ∧ (State.drainRows s bad).clk = s.clk ∧
    (State.drainRows s bad).vrg = s.vrg ∧ (State.drainRows s bad).pmb = s.pmb ∧ (State.drainRows s bad).frm = s.frm ∧
    (State.drainRows s bad).tre = s.tre ∧ (State.drainRows s bad).mbs = s.mbs ∧ (State.drainRows s bad).mbn = s.mbn ∧
    (State.drainRows s bad).rck = s.rck ∧ (State.drainRows s bad).aut = s.aut ∧ (State.drainRows s bad).rst = s.rst ∧
    (State.drainRows s bad).rel = s.rel ∧ (State.drainRows s bad).trc = s.trc ∧ (State.drainRows s bad).stg = s.stg ∧
    (State.drainRows s bad).hst = s.hst ∧ (State.drainRows s bad).pairLo = s.pairLo ∧ (State.drainRows s bad).now = s.now ∧
    (State.drainRows s bad).free = s.free ∧ (State.drainRows s bad).pending = s.pending := by
  unfold State.drainRows; simp

@[simp] theorem drainRail (moved : Nat → Bool) (s : State) (r : Nat) : (State.drainRail moved s r).cmn = s.cmn ∧
    (State.drainRail moved s r).seq = s.seq ∧ (State.drainRail moved s r).adm = s.adm ∧
    (State.drainRail moved s r).beam = s.beam ∧ (State.drainRail moved s r).ctl = s.ctl ∧
    (State.drainRail moved s r).fcs = s.fcs ∧ (State.drainRail moved s r).thm = s.thm ∧
    (State.drainRail moved s r).sns = s.sns ∧ (State.drainRail moved s r).dom = s.dom ∧
    (State.drainRail moved s r).clk = s.clk ∧ (State.drainRail moved s r).pmb = s.pmb ∧
    (State.drainRail moved s r).frm = s.frm ∧ (State.drainRail moved s r).tre = s.tre ∧
    (State.drainRail moved s r).mbs = s.mbs ∧ (State.drainRail moved s r).mbn = s.mbn ∧
    (State.drainRail moved s r).rck = s.rck ∧ (State.drainRail moved s r).aut = s.aut ∧
    (State.drainRail moved s r).rst = s.rst ∧ (State.drainRail moved s r).rel = s.rel ∧
    (State.drainRail moved s r).evt = s.evt ∧ (State.drainRail moved s r).trc = s.trc ∧
    (State.drainRail moved s r).hdr = s.hdr ∧ (State.drainRail moved s r).stg = s.stg ∧
    (State.drainRail moved s r).hst = s.hst ∧ (State.drainRail moved s r).pairLo = s.pairLo ∧
    (State.drainRail moved s r).now = s.now ∧ (State.drainRail moved s r).free = s.free ∧
    (State.drainRail moved s r).pending = s.pending := by
  unfold State.drainRail; simp

@[simp] theorem drainEnd (s : State) (bad : List Nat) : (State.drainEnd s bad).cmn = s.cmn ∧
    (State.drainEnd s bad).adm = s.adm ∧ (State.drainEnd s bad).beam = s.beam ∧ (State.drainEnd s bad).ctl = s.ctl ∧
    (State.drainEnd s bad).fcs = s.fcs ∧ (State.drainEnd s bad).thm = s.thm ∧ (State.drainEnd s bad).sns = s.sns ∧
    (State.drainEnd s bad).dom = s.dom ∧ (State.drainEnd s bad).clk = s.clk ∧ (State.drainEnd s bad).pmb = s.pmb ∧
    (State.drainEnd s bad).tre = s.tre ∧ (State.drainEnd s bad).aut = s.aut ∧ (State.drainEnd s bad).rst = s.rst ∧
    (State.drainEnd s bad).rel = s.rel ∧ (State.drainEnd s bad).trc = s.trc ∧ (State.drainEnd s bad).stg = s.stg ∧
    (State.drainEnd s bad).hst = s.hst ∧ (State.drainEnd s bad).pairLo = s.pairLo ∧ (State.drainEnd s bad).now = s.now ∧
    (State.drainEnd s bad).free = s.free ∧ (State.drainEnd s bad).pending = s.pending := by
  unfold State.drainEnd; simp

@[simp] theorem trcRails (s : State) : (State.trcRails s).cmn = s.cmn ∧ (State.trcRails s).seq = s.seq ∧
    (State.trcRails s).tly = s.tly ∧ (State.trcRails s).adm = s.adm ∧ (State.trcRails s).beam = s.beam ∧
    (State.trcRails s).ctl = s.ctl ∧ (State.trcRails s).fcs = s.fcs ∧ (State.trcRails s).thm = s.thm ∧
    (State.trcRails s).sns = s.sns ∧ (State.trcRails s).dom = s.dom ∧ (State.trcRails s).clk = s.clk ∧
    (State.trcRails s).vrg = s.vrg ∧ (State.trcRails s).pmb = s.pmb ∧ (State.trcRails s).frm = s.frm ∧
    (State.trcRails s).tre = s.tre ∧ (State.trcRails s).mbs = s.mbs ∧ (State.trcRails s).mbn = s.mbn ∧
    (State.trcRails s).rck = s.rck ∧ (State.trcRails s).aut = s.aut ∧ (State.trcRails s).rst = s.rst ∧
    (State.trcRails s).rel = s.rel ∧ (State.trcRails s).stg = s.stg ∧ (State.trcRails s).hst = s.hst ∧
    (State.trcRails s).pairLo = s.pairLo ∧ (State.trcRails s).now = s.now ∧ (State.trcRails s).free = s.free ∧
    (State.trcRails s).pending = s.pending := by
  unfold State.trcRails; simp

@[simp] theorem trcThermal (s : State) : (State.trcThermal s).cmn = s.cmn ∧ (State.trcThermal s).seq = s.seq ∧
    (State.trcThermal s).tly = s.tly ∧ (State.trcThermal s).adm = s.adm ∧ (State.trcThermal s).beam = s.beam ∧
    (State.trcThermal s).ctl = s.ctl ∧ (State.trcThermal s).fcs = s.fcs ∧ (State.trcThermal s).thm = s.thm ∧
    (State.trcThermal s).sns = s.sns ∧ (State.trcThermal s).dom = s.dom ∧ (State.trcThermal s).clk = s.clk ∧
    (State.trcThermal s).vrg = s.vrg ∧ (State.trcThermal s).pmb = s.pmb ∧ (State.trcThermal s).frm = s.frm ∧
    (State.trcThermal s).tre = s.tre ∧ (State.trcThermal s).mbs = s.mbs ∧ (State.trcThermal s).mbn = s.mbn ∧
    (State.trcThermal s).rck = s.rck ∧ (State.trcThermal s).aut = s.aut ∧ (State.trcThermal s).rst = s.rst ∧
    (State.trcThermal s).rel = s.rel ∧ (State.trcThermal s).stg = s.stg ∧ (State.trcThermal s).hst = s.hst ∧
    (State.trcThermal s).pairLo = s.pairLo ∧ (State.trcThermal s).now = s.now ∧ (State.trcThermal s).free = s.free ∧
    (State.trcThermal s).pending = s.pending := by
  unfold State.trcThermal; simp

end Pages
end

