-- ==== Sys2Proof/Laws/PagesDomains.lean ====
section
/-! SUPPORT. Which pages of State each operation leaves alone: the power domains, the clocks and the trims. One lemma for each operation, a conjunction
over every page the operation does not write, tagged simp so that no later proof unfolds the operation for them. -/

set_option linter.unusedSimpArgs false

namespace Pages

open Sys2Proof Sys2Proof.Machine

@[simp] theorem domMod (s : State) (d : Nat) (f : DomDom → DomDom) : (State.domMod s d f).cmn = s.cmn ∧
    (State.domMod s d f).seq = s.seq ∧ (State.domMod s d f).tly = s.tly ∧ (State.domMod s d f).adm = s.adm ∧
    (State.domMod s d f).beam = s.beam ∧ (State.domMod s d f).ctl = s.ctl ∧ (State.domMod s d f).fcs = s.fcs ∧
    (State.domMod s d f).thm = s.thm ∧ (State.domMod s d f).sns = s.sns ∧ (State.domMod s d f).clk = s.clk ∧
    (State.domMod s d f).vrg = s.vrg ∧ (State.domMod s d f).pmb = s.pmb ∧ (State.domMod s d f).frm = s.frm ∧
    (State.domMod s d f).tre = s.tre ∧ (State.domMod s d f).mbs = s.mbs ∧ (State.domMod s d f).mbn = s.mbn ∧
    (State.domMod s d f).rck = s.rck ∧ (State.domMod s d f).aut = s.aut ∧ (State.domMod s d f).rst = s.rst ∧
    (State.domMod s d f).rel = s.rel ∧ (State.domMod s d f).evt = s.evt ∧ (State.domMod s d f).trc = s.trc ∧
    (State.domMod s d f).hdr = s.hdr ∧ (State.domMod s d f).stg = s.stg ∧ (State.domMod s d f).hst = s.hst ∧
    (State.domMod s d f).pairLo = s.pairLo ∧ (State.domMod s d f).now = s.now ∧ (State.domMod s d f).free = s.free ∧
    (State.domMod s d f).pending = s.pending := by
  unfold State.domMod; simp

@[simp] theorem roundEnd (s : State) : (State.roundEnd s).cmn = s.cmn ∧ (State.roundEnd s).seq = s.seq ∧
    (State.roundEnd s).tly = s.tly ∧ (State.roundEnd s).adm = s.adm ∧ (State.roundEnd s).beam = s.beam ∧
    (State.roundEnd s).ctl = s.ctl ∧ (State.roundEnd s).fcs = s.fcs ∧ (State.roundEnd s).thm = s.thm ∧
    (State.roundEnd s).sns = s.sns ∧ (State.roundEnd s).clk = s.clk ∧ (State.roundEnd s).vrg = s.vrg ∧
    (State.roundEnd s).pmb = s.pmb ∧ (State.roundEnd s).frm = s.frm ∧ (State.roundEnd s).tre = s.tre ∧
    (State.roundEnd s).mbs = s.mbs ∧ (State.roundEnd s).mbn = s.mbn ∧ (State.roundEnd s).rck = s.rck ∧
    (State.roundEnd s).aut = s.aut ∧ (State.roundEnd s).rst = s.rst ∧ (State.roundEnd s).rel = s.rel ∧
    (State.roundEnd s).evt = s.evt ∧ (State.roundEnd s).trc = s.trc ∧ (State.roundEnd s).hdr = s.hdr ∧
    (State.roundEnd s).stg = s.stg ∧ (State.roundEnd s).hst = s.hst ∧ (State.roundEnd s).pairLo = s.pairLo ∧
    (State.roundEnd s).now = s.now ∧ (State.roundEnd s).free = s.free ∧ (State.roundEnd s).pending = s.pending := by
  unfold State.roundEnd; simp

@[simp] theorem joinQueue (s : State) (d : Nat) : (State.joinQueue s d).cmn = s.cmn ∧
    (State.joinQueue s d).seq = s.seq ∧ (State.joinQueue s d).tly = s.tly ∧ (State.joinQueue s d).adm = s.adm ∧
    (State.joinQueue s d).beam = s.beam ∧ (State.joinQueue s d).ctl = s.ctl ∧ (State.joinQueue s d).fcs = s.fcs ∧
    (State.joinQueue s d).thm = s.thm ∧ (State.joinQueue s d).sns = s.sns ∧ (State.joinQueue s d).clk = s.clk ∧
    (State.joinQueue s d).vrg = s.vrg ∧ (State.joinQueue s d).pmb = s.pmb ∧ (State.joinQueue s d).frm = s.frm ∧
    (State.joinQueue s d).tre = s.tre ∧ (State.joinQueue s d).mbs = s.mbs ∧ (State.joinQueue s d).mbn = s.mbn ∧
    (State.joinQueue s d).rck = s.rck ∧ (State.joinQueue s d).aut = s.aut ∧ (State.joinQueue s d).rst = s.rst ∧
    (State.joinQueue s d).rel = s.rel ∧ (State.joinQueue s d).evt = s.evt ∧ (State.joinQueue s d).trc = s.trc ∧
    (State.joinQueue s d).hdr = s.hdr ∧ (State.joinQueue s d).stg = s.stg ∧ (State.joinQueue s d).hst = s.hst ∧
    (State.joinQueue s d).pairLo = s.pairLo ∧ (State.joinQueue s d).now = s.now ∧ (State.joinQueue s d).free = s.free ∧
    (State.joinQueue s d).pending = s.pending := by
  unfold State.joinQueue; simp

@[simp] theorem leaveQueue (s : State) (d : Nat) : (State.leaveQueue s d).cmn = s.cmn ∧
    (State.leaveQueue s d).seq = s.seq ∧ (State.leaveQueue s d).tly = s.tly ∧ (State.leaveQueue s d).adm = s.adm ∧
    (State.leaveQueue s d).beam = s.beam ∧ (State.leaveQueue s d).ctl = s.ctl ∧ (State.leaveQueue s d).fcs = s.fcs ∧
    (State.leaveQueue s d).thm = s.thm ∧ (State.leaveQueue s d).sns = s.sns ∧ (State.leaveQueue s d).clk = s.clk ∧
    (State.leaveQueue s d).vrg = s.vrg ∧ (State.leaveQueue s d).pmb = s.pmb ∧ (State.leaveQueue s d).frm = s.frm ∧
    (State.leaveQueue s d).tre = s.tre ∧ (State.leaveQueue s d).mbs = s.mbs ∧ (State.leaveQueue s d).mbn = s.mbn ∧
    (State.leaveQueue s d).rck = s.rck ∧ (State.leaveQueue s d).aut = s.aut ∧ (State.leaveQueue s d).rst = s.rst ∧
    (State.leaveQueue s d).rel = s.rel ∧ (State.leaveQueue s d).evt = s.evt ∧ (State.leaveQueue s d).trc = s.trc ∧
    (State.leaveQueue s d).hdr = s.hdr ∧ (State.leaveQueue s d).stg = s.stg ∧ (State.leaveQueue s d).hst = s.hst ∧
    (State.leaveQueue s d).pairLo = s.pairLo ∧ (State.leaveQueue s d).now = s.now ∧ (State.leaveQueue s d).free = s.free ∧
    (State.leaveQueue s d).pending = s.pending := by
  unfold State.leaveQueue; simp

@[simp] theorem creditsBack (s : State) (d : Nat) : (State.creditsBack s d).cmn = s.cmn ∧
    (State.creditsBack s d).seq = s.seq ∧ (State.creditsBack s d).tly = s.tly ∧ (State.creditsBack s d).adm = s.adm ∧
    (State.creditsBack s d).beam = s.beam ∧ (State.creditsBack s d).ctl = s.ctl ∧ (State.creditsBack s d).fcs = s.fcs ∧
    (State.creditsBack s d).thm = s.thm ∧ (State.creditsBack s d).sns = s.sns ∧ (State.creditsBack s d).clk = s.clk ∧
    (State.creditsBack s d).vrg = s.vrg ∧ (State.creditsBack s d).pmb = s.pmb ∧ (State.creditsBack s d).frm = s.frm ∧
    (State.creditsBack s d).tre = s.tre ∧ (State.creditsBack s d).mbs = s.mbs ∧ (State.creditsBack s d).mbn = s.mbn ∧
    (State.creditsBack s d).rck = s.rck ∧ (State.creditsBack s d).aut = s.aut ∧ (State.creditsBack s d).rst = s.rst ∧
    (State.creditsBack s d).rel = s.rel ∧ (State.creditsBack s d).evt = s.evt ∧ (State.creditsBack s d).trc = s.trc ∧
    (State.creditsBack s d).hdr = s.hdr ∧ (State.creditsBack s d).stg = s.stg ∧ (State.creditsBack s d).hst = s.hst ∧
    (State.creditsBack s d).pairLo = s.pairLo ∧ (State.creditsBack s d).now = s.now ∧ (State.creditsBack s d).free = s.free ∧
    (State.creditsBack s d).pending = s.pending := by
  unfold State.creditsBack; simp

@[simp] theorem demandOf (s : State) (d : Nat) : (State.demandOf s d).cmn = s.cmn ∧
    (State.demandOf s d).seq = s.seq ∧ (State.demandOf s d).tly = s.tly ∧ (State.demandOf s d).adm = s.adm ∧
    (State.demandOf s d).beam = s.beam ∧ (State.demandOf s d).ctl = s.ctl ∧ (State.demandOf s d).fcs = s.fcs ∧
    (State.demandOf s d).thm = s.thm ∧ (State.demandOf s d).sns = s.sns ∧ (State.demandOf s d).clk = s.clk ∧
    (State.demandOf s d).vrg = s.vrg ∧ (State.demandOf s d).pmb = s.pmb ∧ (State.demandOf s d).frm = s.frm ∧
    (State.demandOf s d).tre = s.tre ∧ (State.demandOf s d).mbs = s.mbs ∧ (State.demandOf s d).mbn = s.mbn ∧
    (State.demandOf s d).rck = s.rck ∧ (State.demandOf s d).aut = s.aut ∧ (State.demandOf s d).rst = s.rst ∧
    (State.demandOf s d).rel = s.rel ∧ (State.demandOf s d).evt = s.evt ∧ (State.demandOf s d).trc = s.trc ∧
    (State.demandOf s d).hdr = s.hdr ∧ (State.demandOf s d).stg = s.stg ∧ (State.demandOf s d).hst = s.hst ∧
    (State.demandOf s d).pairLo = s.pairLo ∧ (State.demandOf s d).now = s.now ∧ (State.demandOf s d).free = s.free ∧
    (State.demandOf s d).pending = s.pending := by
  unfold State.demandOf; simp

@[simp] theorem demands (s : State) : (State.demands s).cmn = s.cmn ∧ (State.demands s).seq = s.seq ∧
    (State.demands s).tly = s.tly ∧ (State.demands s).adm = s.adm ∧ (State.demands s).beam = s.beam ∧
    (State.demands s).ctl = s.ctl ∧ (State.demands s).fcs = s.fcs ∧ (State.demands s).thm = s.thm ∧
    (State.demands s).sns = s.sns ∧ (State.demands s).clk = s.clk ∧ (State.demands s).vrg = s.vrg ∧
    (State.demands s).pmb = s.pmb ∧ (State.demands s).frm = s.frm ∧ (State.demands s).tre = s.tre ∧
    (State.demands s).mbs = s.mbs ∧ (State.demands s).mbn = s.mbn ∧ (State.demands s).rck = s.rck ∧
    (State.demands s).aut = s.aut ∧ (State.demands s).rst = s.rst ∧ (State.demands s).rel = s.rel ∧
    (State.demands s).evt = s.evt ∧ (State.demands s).trc = s.trc ∧ (State.demands s).hdr = s.hdr ∧
    (State.demands s).stg = s.stg ∧ (State.demands s).hst = s.hst ∧ (State.demands s).pairLo = s.pairLo ∧
    (State.demands s).now = s.now ∧ (State.demands s).free = s.free ∧ (State.demands s).pending = s.pending := by
  unfold State.demands; simp

@[simp] theorem wakeFailed (s : State) (d step : Nat) : (State.wakeFailed s d step).cmn = s.cmn ∧
    (State.wakeFailed s d step).seq = s.seq ∧ (State.wakeFailed s d step).tly = s.tly ∧
    (State.wakeFailed s d step).adm = s.adm ∧ (State.wakeFailed s d step).beam = s.beam ∧
    (State.wakeFailed s d step).ctl = s.ctl ∧ (State.wakeFailed s d step).fcs = s.fcs ∧
    (State.wakeFailed s d step).thm = s.thm ∧ (State.wakeFailed s d step).sns = s.sns ∧
    (State.wakeFailed s d step).clk = s.clk ∧ (State.wakeFailed s d step).vrg = s.vrg ∧
    (State.wakeFailed s d step).pmb = s.pmb ∧ (State.wakeFailed s d step).frm = s.frm ∧
    (State.wakeFailed s d step).tre = s.tre ∧ (State.wakeFailed s d step).mbs = s.mbs ∧
    (State.wakeFailed s d step).mbn = s.mbn ∧ (State.wakeFailed s d step).rck = s.rck ∧
    (State.wakeFailed s d step).aut = s.aut ∧ (State.wakeFailed s d step).rst = s.rst ∧
    (State.wakeFailed s d step).rel = s.rel ∧ (State.wakeFailed s d step).trc = s.trc ∧
    (State.wakeFailed s d step).stg = s.stg ∧ (State.wakeFailed s d step).hst = s.hst ∧
    (State.wakeFailed s d step).pairLo = s.pairLo ∧ (State.wakeFailed s d step).now = s.now ∧
    (State.wakeFailed s d step).free = s.free ∧ (State.wakeFailed s d step).pending = s.pending := by
  unfold State.wakeFailed; simp

@[simp] theorem pgLost (s : State) (d : Nat) : (State.pgLost s d).cmn = s.cmn ∧ (State.pgLost s d).seq = s.seq ∧
    (State.pgLost s d).beam = s.beam ∧ (State.pgLost s d).ctl = s.ctl ∧ (State.pgLost s d).thm = s.thm ∧
    (State.pgLost s d).sns = s.sns ∧ (State.pgLost s d).clk = s.clk ∧ (State.pgLost s d).pmb = s.pmb ∧
    (State.pgLost s d).tre = s.tre ∧ (State.pgLost s d).rck = s.rck ∧ (State.pgLost s d).aut = s.aut ∧
    (State.pgLost s d).rst = s.rst ∧ (State.pgLost s d).rel = s.rel ∧ (State.pgLost s d).trc = s.trc ∧
    (State.pgLost s d).stg = s.stg ∧ (State.pgLost s d).hst = s.hst ∧ (State.pgLost s d).pairLo = s.pairLo ∧
    (State.pgLost s d).now = s.now ∧ (State.pgLost s d).free = s.free ∧ (State.pgLost s d).pending = s.pending := by
  unfold State.pgLost; simp

@[simp] theorem sleepClose (s : State) (d : Nat) : (State.sleepClose s d).cmn = s.cmn ∧
    (State.sleepClose s d).seq = s.seq ∧ (State.sleepClose s d).beam = s.beam ∧ (State.sleepClose s d).ctl = s.ctl ∧
    (State.sleepClose s d).thm = s.thm ∧ (State.sleepClose s d).sns = s.sns ∧ (State.sleepClose s d).clk = s.clk ∧
    (State.sleepClose s d).pmb = s.pmb ∧ (State.sleepClose s d).tre = s.tre ∧ (State.sleepClose s d).mbs = s.mbs ∧
    (State.sleepClose s d).mbn = s.mbn ∧ (State.sleepClose s d).rck = s.rck ∧ (State.sleepClose s d).aut = s.aut ∧
    (State.sleepClose s d).rst = s.rst ∧ (State.sleepClose s d).rel = s.rel ∧ (State.sleepClose s d).evt = s.evt ∧
    (State.sleepClose s d).trc = s.trc ∧ (State.sleepClose s d).hdr = s.hdr ∧ (State.sleepClose s d).stg = s.stg ∧
    (State.sleepClose s d).hst = s.hst ∧ (State.sleepClose s d).pairLo = s.pairLo ∧ (State.sleepClose s d).now = s.now ∧
    (State.sleepClose s d).free = s.free ∧ (State.sleepClose s d).pending = s.pending := by
  unfold State.sleepClose; simp

@[simp] theorem forcedOne (s : State) : (State.forcedOne s).cmn = s.cmn ∧ (State.forcedOne s).seq = s.seq ∧
    (State.forcedOne s).tly = s.tly ∧ (State.forcedOne s).adm = s.adm ∧ (State.forcedOne s).beam = s.beam ∧
    (State.forcedOne s).ctl = s.ctl ∧ (State.forcedOne s).fcs = s.fcs ∧ (State.forcedOne s).sns = s.sns ∧
    (State.forcedOne s).dom = s.dom ∧ (State.forcedOne s).clk = s.clk ∧ (State.forcedOne s).vrg = s.vrg ∧
    (State.forcedOne s).pmb = s.pmb ∧ (State.forcedOne s).frm = s.frm ∧ (State.forcedOne s).tre = s.tre ∧
    (State.forcedOne s).mbs = s.mbs ∧ (State.forcedOne s).mbn = s.mbn ∧ (State.forcedOne s).rck = s.rck ∧
    (State.forcedOne s).aut = s.aut ∧ (State.forcedOne s).rst = s.rst ∧ (State.forcedOne s).rel = s.rel ∧
    (State.forcedOne s).evt = s.evt ∧ (State.forcedOne s).trc = s.trc ∧ (State.forcedOne s).hdr = s.hdr ∧
    (State.forcedOne s).stg = s.stg ∧ (State.forcedOne s).hst = s.hst ∧ (State.forcedOne s).pairLo = s.pairLo ∧
    (State.forcedOne s).now = s.now ∧ (State.forcedOne s).free = s.free ∧ (State.forcedOne s).pending = s.pending := by
  unfold State.forcedOne; simp

@[simp] theorem forceOff (s : State) (d : Nat) : (State.forceOff s d).cmn = s.cmn ∧
    (State.forceOff s d).seq = s.seq ∧ (State.forceOff s d).beam = s.beam ∧ (State.forceOff s d).ctl = s.ctl ∧
    (State.forceOff s d).thm = s.thm ∧ (State.forceOff s d).sns = s.sns ∧ (State.forceOff s d).clk = s.clk ∧
    (State.forceOff s d).pmb = s.pmb ∧ (State.forceOff s d).tre = s.tre ∧ (State.forceOff s d).rck = s.rck ∧
    (State.forceOff s d).aut = s.aut ∧ (State.forceOff s d).rst = s.rst ∧ (State.forceOff s d).rel = s.rel ∧
    (State.forceOff s d).trc = s.trc ∧ (State.forceOff s d).stg = s.stg ∧ (State.forceOff s d).hst = s.hst ∧
    (State.forceOff s d).pairLo = s.pairLo ∧ (State.forceOff s d).now = s.now ∧ (State.forceOff s d).free = s.free ∧
    (State.forceOff s d).pending = s.pending := by
  unfold State.forceOff; simp

@[simp] theorem forceOffAll (s : State) : (State.forceOffAll s).cmn = s.cmn ∧ (State.forceOffAll s).seq = s.seq ∧
    (State.forceOffAll s).beam = s.beam ∧ (State.forceOffAll s).ctl = s.ctl ∧ (State.forceOffAll s).thm = s.thm ∧
    (State.forceOffAll s).sns = s.sns ∧ (State.forceOffAll s).clk = s.clk ∧ (State.forceOffAll s).pmb = s.pmb ∧
    (State.forceOffAll s).tre = s.tre ∧ (State.forceOffAll s).rck = s.rck ∧ (State.forceOffAll s).aut = s.aut ∧
    (State.forceOffAll s).rst = s.rst ∧ (State.forceOffAll s).rel = s.rel ∧ (State.forceOffAll s).trc = s.trc ∧
    (State.forceOffAll s).stg = s.stg ∧ (State.forceOffAll s).hst = s.hst ∧ (State.forceOffAll s).pairLo = s.pairLo ∧
    (State.forceOffAll s).now = s.now ∧ (State.forceOffAll s).free = s.free ∧ (State.forceOffAll s).pending = s.pending := by
  unfold State.forceOffAll; simp

@[simp] theorem orderlyOne (s : State) (d : Nat) : (State.orderlyOne s d).cmn = s.cmn ∧
    (State.orderlyOne s d).seq = s.seq ∧ (State.orderlyOne s d).beam = s.beam ∧ (State.orderlyOne s d).ctl = s.ctl ∧
    (State.orderlyOne s d).sns = s.sns ∧ (State.orderlyOne s d).clk = s.clk ∧ (State.orderlyOne s d).pmb = s.pmb ∧
    (State.orderlyOne s d).tre = s.tre ∧ (State.orderlyOne s d).rck = s.rck ∧ (State.orderlyOne s d).aut = s.aut ∧
    (State.orderlyOne s d).rst = s.rst ∧ (State.orderlyOne s d).rel = s.rel ∧ (State.orderlyOne s d).trc = s.trc ∧
    (State.orderlyOne s d).stg = s.stg ∧ (State.orderlyOne s d).hst = s.hst ∧ (State.orderlyOne s d).pairLo = s.pairLo ∧
    (State.orderlyOne s d).now = s.now ∧ (State.orderlyOne s d).free = s.free ∧ (State.orderlyOne s d).pending = s.pending := by
  unfold State.orderlyOne; split <;> simp

@[simp] theorem orderlyGo (f : Nat) (s : State) : (State.orderlyGo f s).cmn = s.cmn ∧
    (State.orderlyGo f s).seq = s.seq ∧ (State.orderlyGo f s).beam = s.beam ∧ (State.orderlyGo f s).ctl = s.ctl ∧
    (State.orderlyGo f s).sns = s.sns ∧ (State.orderlyGo f s).clk = s.clk ∧ (State.orderlyGo f s).pmb = s.pmb ∧
    (State.orderlyGo f s).tre = s.tre ∧ (State.orderlyGo f s).rck = s.rck ∧ (State.orderlyGo f s).aut = s.aut ∧
    (State.orderlyGo f s).rst = s.rst ∧ (State.orderlyGo f s).rel = s.rel ∧ (State.orderlyGo f s).trc = s.trc ∧
    (State.orderlyGo f s).stg = s.stg ∧ (State.orderlyGo f s).hst = s.hst ∧ (State.orderlyGo f s).pairLo = s.pairLo ∧
    (State.orderlyGo f s).now = s.now ∧ (State.orderlyGo f s).free = s.free ∧ (State.orderlyGo f s).pending = s.pending := by
  induction f generalizing s with
  | zero => simp [State.orderlyGo]
  | succ k ih => unfold State.orderlyGo; dsimp only; (repeat' split) <;> simp [ih]

@[simp] theorem queueLeave (s : State) : (State.queueLeave s).cmn = s.cmn ∧ (State.queueLeave s).seq = s.seq ∧
    (State.queueLeave s).tly = s.tly ∧ (State.queueLeave s).adm = s.adm ∧ (State.queueLeave s).beam = s.beam ∧
    (State.queueLeave s).ctl = s.ctl ∧ (State.queueLeave s).fcs = s.fcs ∧ (State.queueLeave s).thm = s.thm ∧
    (State.queueLeave s).sns = s.sns ∧ (State.queueLeave s).clk = s.clk ∧ (State.queueLeave s).vrg = s.vrg ∧
    (State.queueLeave s).pmb = s.pmb ∧ (State.queueLeave s).frm = s.frm ∧ (State.queueLeave s).tre = s.tre ∧
    (State.queueLeave s).mbs = s.mbs ∧ (State.queueLeave s).mbn = s.mbn ∧ (State.queueLeave s).rck = s.rck ∧
    (State.queueLeave s).aut = s.aut ∧ (State.queueLeave s).rst = s.rst ∧ (State.queueLeave s).rel = s.rel ∧
    (State.queueLeave s).evt = s.evt ∧ (State.queueLeave s).trc = s.trc ∧ (State.queueLeave s).hdr = s.hdr ∧
    (State.queueLeave s).stg = s.stg ∧ (State.queueLeave s).hst = s.hst ∧ (State.queueLeave s).pairLo = s.pairLo ∧
    (State.queueLeave s).now = s.now ∧ (State.queueLeave s).free = s.free ∧ (State.queueLeave s).pending = s.pending := by
  unfold State.queueLeave; simp

@[simp] theorem orderlyStart (s : State) : (State.orderlyStart s).cmn = s.cmn ∧
    (State.orderlyStart s).seq = s.seq ∧ (State.orderlyStart s).beam = s.beam ∧ (State.orderlyStart s).ctl = s.ctl ∧
    (State.orderlyStart s).sns = s.sns ∧ (State.orderlyStart s).clk = s.clk ∧ (State.orderlyStart s).pmb = s.pmb ∧
    (State.orderlyStart s).tre = s.tre ∧ (State.orderlyStart s).rck = s.rck ∧ (State.orderlyStart s).aut = s.aut ∧
    (State.orderlyStart s).rst = s.rst ∧ (State.orderlyStart s).rel = s.rel ∧ (State.orderlyStart s).trc = s.trc ∧
    (State.orderlyStart s).stg = s.stg ∧ (State.orderlyStart s).hst = s.hst ∧ (State.orderlyStart s).pairLo = s.pairLo ∧
    (State.orderlyStart s).now = s.now ∧ (State.orderlyStart s).free = s.free ∧ (State.orderlyStart s).pending = s.pending := by
  unfold State.orderlyStart; simp

@[simp] theorem domForceOff (s : State) (d : Nat) : (State.domForceOff s d).cmn = s.cmn ∧
    (State.domForceOff s d).seq = s.seq ∧ (State.domForceOff s d).beam = s.beam ∧ (State.domForceOff s d).ctl = s.ctl ∧
    (State.domForceOff s d).thm = s.thm ∧ (State.domForceOff s d).sns = s.sns ∧ (State.domForceOff s d).clk = s.clk ∧
    (State.domForceOff s d).pmb = s.pmb ∧ (State.domForceOff s d).tre = s.tre ∧ (State.domForceOff s d).rck = s.rck ∧
    (State.domForceOff s d).aut = s.aut ∧ (State.domForceOff s d).rst = s.rst ∧ (State.domForceOff s d).rel = s.rel ∧
    (State.domForceOff s d).trc = s.trc ∧ (State.domForceOff s d).stg = s.stg ∧ (State.domForceOff s d).hst = s.hst ∧
    (State.domForceOff s d).pairLo = s.pairLo ∧ (State.domForceOff s d).now = s.now ∧ (State.domForceOff s d).free = s.free ∧
    (State.domForceOff s d).pending = s.pending := by
  unfold State.domForceOff; simp

@[simp] theorem domForceOn (s : State) (d : Nat) : (State.domForceOn s d).cmn = s.cmn ∧
    (State.domForceOn s d).seq = s.seq ∧ (State.domForceOn s d).tly = s.tly ∧ (State.domForceOn s d).adm = s.adm ∧
    (State.domForceOn s d).beam = s.beam ∧ (State.domForceOn s d).ctl = s.ctl ∧ (State.domForceOn s d).fcs = s.fcs ∧
    (State.domForceOn s d).thm = s.thm ∧ (State.domForceOn s d).sns = s.sns ∧ (State.domForceOn s d).clk = s.clk ∧
    (State.domForceOn s d).vrg = s.vrg ∧ (State.domForceOn s d).pmb = s.pmb ∧ (State.domForceOn s d).frm = s.frm ∧
    (State.domForceOn s d).tre = s.tre ∧ (State.domForceOn s d).mbs = s.mbs ∧ (State.domForceOn s d).mbn = s.mbn ∧
    (State.domForceOn s d).rck = s.rck ∧ (State.domForceOn s d).aut = s.aut ∧ (State.domForceOn s d).rst = s.rst ∧
    (State.domForceOn s d).rel = s.rel ∧ (State.domForceOn s d).trc = s.trc ∧ (State.domForceOn s d).stg = s.stg ∧
    (State.domForceOn s d).hst = s.hst ∧ (State.domForceOn s d).pairLo = s.pairLo ∧ (State.domForceOn s d).now = s.now ∧
    (State.domForceOn s d).free = s.free ∧ (State.domForceOn s d).pending = s.pending := by
  unfold State.domForceOn; simp

@[simp] theorem domsAtWarmExit (s : State) : (State.domsAtWarmExit s).cmn = s.cmn ∧
    (State.domsAtWarmExit s).seq = s.seq ∧ (State.domsAtWarmExit s).tly = s.tly ∧ (State.domsAtWarmExit s).adm = s.adm ∧
    (State.domsAtWarmExit s).beam = s.beam ∧ (State.domsAtWarmExit s).ctl = s.ctl ∧ (State.domsAtWarmExit s).fcs = s.fcs ∧
    (State.domsAtWarmExit s).thm = s.thm ∧ (State.domsAtWarmExit s).sns = s.sns ∧ (State.domsAtWarmExit s).clk = s.clk ∧
    (State.domsAtWarmExit s).vrg = s.vrg ∧ (State.domsAtWarmExit s).pmb = s.pmb ∧ (State.domsAtWarmExit s).frm = s.frm ∧
    (State.domsAtWarmExit s).tre = s.tre ∧ (State.domsAtWarmExit s).mbs = s.mbs ∧ (State.domsAtWarmExit s).mbn = s.mbn ∧
    (State.domsAtWarmExit s).rck = s.rck ∧ (State.domsAtWarmExit s).aut = s.aut ∧ (State.domsAtWarmExit s).rst = s.rst ∧
    (State.domsAtWarmExit s).rel = s.rel ∧ (State.domsAtWarmExit s).trc = s.trc ∧ (State.domsAtWarmExit s).stg = s.stg ∧
    (State.domsAtWarmExit s).hst = s.hst ∧ (State.domsAtWarmExit s).pairLo = s.pairLo ∧
    (State.domsAtWarmExit s).now = s.now ∧ (State.domsAtWarmExit s).free = s.free ∧
    (State.domsAtWarmExit s).pending = s.pending := by
  unfold State.domsAtWarmExit; exact ⟨(foldl_proj State.cmn _ (by intro s a; dsimp only; split <;> (try split) <;> simp) _ _), (foldl_proj State.seq _ (by intro s a; dsimp only; split <;> (try split) <;> simp) _ _), (foldl_proj State.tly _ (by intro s a; dsimp only; split <;> (try split) <;> simp) _ _), (foldl_proj State.adm _ (by intro s a; dsimp only; split <;> (try split) <;> simp) _ _), (foldl_proj State.beam _ (by intro s a; dsimp only; split <;> (try split) <;> simp) _ _), (foldl_proj State.ctl _ (by intro s a; dsimp only; split <;> (try split) <;> simp) _ _), (foldl_proj State.fcs _ (by intro s a; dsimp only; split <;> (try split) <;> simp) _ _), (foldl_proj State.thm _ (by intro s a; dsimp only; split <;> (try split) <;> simp) _ _), (foldl_proj State.sns _ (by intro s a; dsimp only; split <;> (try split) <;> simp) _ _), (foldl_proj State.clk _ (by intro s a; dsimp only; split <;> (try split) <;> simp) _ _), (foldl_proj State.vrg _ (by intro s a; dsimp only; split <;> (try split) <;> simp) _ _), (foldl_proj State.pmb _ (by intro s a; dsimp only; split <;> (try split) <;> simp) _ _), (foldl_proj State.frm _ (by intro s a; dsimp only; split <;> (try split) <;> simp) _ _), (foldl_proj State.tre _ (by intro s a; dsimp only; split <;> (try split) <;> simp) _ _), (foldl_proj State.mbs _ (by intro s a; dsimp only; split <;> (try split) <;> simp) _ _), (foldl_proj State.mbn _ (by intro s a; dsimp only; split <;> (try split) <;> simp) _ _), (foldl_proj State.rck _ (by intro s a; dsimp only; split <;> (try split) <;> simp) _ _), (foldl_proj State.aut _ (by intro s a; dsimp only; split <;> (try split) <;> simp) _ _), (foldl_proj State.rst _ (by intro s a; dsimp only; split <;> (try split) <;> simp) _ _), (foldl_proj State.rel _ (by intro s a; dsimp only; split <;> (try split) <;> simp) _ _), (foldl_proj State.trc _ (by intro s a; dsimp only; split <;> (try split) <;> simp) _ _), (foldl_proj State.stg _ (by intro s a; dsimp only; split <;> (try split) <;> simp) _ _), (foldl_proj State.hst _ (by intro s a; dsimp only; split <;> (try split) <;> simp) _ _), (foldl_proj State.pairLo _ (by intro s a; dsimp only; split <;> (try split) <;> simp) _ _), (foldl_proj State.now _ (by intro s a; dsimp only; split <;> (try split) <;> simp) _ _), (foldl_proj State.free _ (by intro s a; dsimp only; split <;> (try split) <;> simp) _ _), (foldl_proj State.pending _ (by intro s a; dsimp only; split <;> (try split) <;> simp) _ _)⟩

@[simp] theorem clkMod (s : State) (c : Nat) (f : ClkDom → ClkDom) : (State.clkMod s c f).cmn = s.cmn ∧
    (State.clkMod s c f).seq = s.seq ∧ (State.clkMod s c f).tly = s.tly ∧ (State.clkMod s c f).adm = s.adm ∧
    (State.clkMod s c f).beam = s.beam ∧ (State.clkMod s c f).ctl = s.ctl ∧ (State.clkMod s c f).fcs = s.fcs ∧
    (State.clkMod s c f).thm = s.thm ∧ (State.clkMod s c f).sns = s.sns ∧ (State.clkMod s c f).dom = s.dom ∧
    (State.clkMod s c f).vrg = s.vrg ∧ (State.clkMod s c f).pmb = s.pmb ∧ (State.clkMod s c f).frm = s.frm ∧
    (State.clkMod s c f).tre = s.tre ∧ (State.clkMod s c f).mbs = s.mbs ∧ (State.clkMod s c f).mbn = s.mbn ∧
    (State.clkMod s c f).rck = s.rck ∧ (State.clkMod s c f).aut = s.aut ∧ (State.clkMod s c f).rst = s.rst ∧
    (State.clkMod s c f).rel = s.rel ∧ (State.clkMod s c f).evt = s.evt ∧ (State.clkMod s c f).trc = s.trc ∧
    (State.clkMod s c f).hdr = s.hdr ∧ (State.clkMod s c f).stg = s.stg ∧ (State.clkMod s c f).hst = s.hst ∧
    (State.clkMod s c f).pairLo = s.pairLo ∧ (State.clkMod s c f).now = s.now ∧ (State.clkMod s c f).free = s.free ∧
    (State.clkMod s c f).pending = s.pending := by
  unfold State.clkMod; simp

@[simp] theorem fLower (s : State) : (State.fLower s).cmn = s.cmn ∧ (State.fLower s).seq = s.seq ∧
    (State.fLower s).tly = s.tly ∧ (State.fLower s).adm = s.adm ∧ (State.fLower s).beam = s.beam ∧
    (State.fLower s).ctl = s.ctl ∧ (State.fLower s).fcs = s.fcs ∧ (State.fLower s).thm = s.thm ∧
    (State.fLower s).sns = s.sns ∧ (State.fLower s).dom = s.dom ∧ (State.fLower s).vrg = s.vrg ∧
    (State.fLower s).pmb = s.pmb ∧ (State.fLower s).frm = s.frm ∧ (State.fLower s).tre = s.tre ∧
    (State.fLower s).mbs = s.mbs ∧ (State.fLower s).mbn = s.mbn ∧ (State.fLower s).rck = s.rck ∧
    (State.fLower s).aut = s.aut ∧ (State.fLower s).rst = s.rst ∧ (State.fLower s).rel = s.rel ∧
    (State.fLower s).evt = s.evt ∧ (State.fLower s).trc = s.trc ∧ (State.fLower s).hdr = s.hdr ∧
    (State.fLower s).stg = s.stg ∧ (State.fLower s).hst = s.hst ∧ (State.fLower s).pairLo = s.pairLo ∧
    (State.fLower s).now = s.now ∧ (State.fLower s).free = s.free ∧ (State.fLower s).pending = s.pending := by
  unfold State.fLower; simp

@[simp] theorem fRaise (s : State) : (State.fRaise s).cmn = s.cmn ∧ (State.fRaise s).seq = s.seq ∧
    (State.fRaise s).tly = s.tly ∧ (State.fRaise s).adm = s.adm ∧ (State.fRaise s).beam = s.beam ∧
    (State.fRaise s).ctl = s.ctl ∧ (State.fRaise s).fcs = s.fcs ∧ (State.fRaise s).thm = s.thm ∧
    (State.fRaise s).sns = s.sns ∧ (State.fRaise s).dom = s.dom ∧ (State.fRaise s).vrg = s.vrg ∧
    (State.fRaise s).pmb = s.pmb ∧ (State.fRaise s).frm = s.frm ∧ (State.fRaise s).tre = s.tre ∧
    (State.fRaise s).mbs = s.mbs ∧ (State.fRaise s).mbn = s.mbn ∧ (State.fRaise s).rck = s.rck ∧
    (State.fRaise s).aut = s.aut ∧ (State.fRaise s).rst = s.rst ∧ (State.fRaise s).rel = s.rel ∧
    (State.fRaise s).evt = s.evt ∧ (State.fRaise s).trc = s.trc ∧ (State.fRaise s).hdr = s.hdr ∧
    (State.fRaise s).stg = s.stg ∧ (State.fRaise s).hst = s.hst ∧ (State.fRaise s).pairLo = s.pairLo ∧
    (State.fRaise s).now = s.now ∧ (State.fRaise s).free = s.free ∧ (State.fRaise s).pending = s.pending := by
  unfold State.fRaise; simp

@[simp] theorem codeMove (s : State) (c : Nat) : (State.codeMove s c).cmn = s.cmn ∧
    (State.codeMove s c).seq = s.seq ∧ (State.codeMove s c).tly = s.tly ∧ (State.codeMove s c).adm = s.adm ∧
    (State.codeMove s c).beam = s.beam ∧ (State.codeMove s c).ctl = s.ctl ∧ (State.codeMove s c).fcs = s.fcs ∧
    (State.codeMove s c).thm = s.thm ∧ (State.codeMove s c).sns = s.sns ∧ (State.codeMove s c).dom = s.dom ∧
    (State.codeMove s c).vrg = s.vrg ∧ (State.codeMove s c).pmb = s.pmb ∧ (State.codeMove s c).frm = s.frm ∧
    (State.codeMove s c).tre = s.tre ∧ (State.codeMove s c).mbs = s.mbs ∧ (State.codeMove s c).mbn = s.mbn ∧
    (State.codeMove s c).rck = s.rck ∧ (State.codeMove s c).aut = s.aut ∧ (State.codeMove s c).rst = s.rst ∧
    (State.codeMove s c).rel = s.rel ∧ (State.codeMove s c).evt = s.evt ∧ (State.codeMove s c).trc = s.trc ∧
    (State.codeMove s c).hdr = s.hdr ∧ (State.codeMove s c).stg = s.stg ∧ (State.codeMove s c).hst = s.hst ∧
    (State.codeMove s c).pairLo = s.pairLo ∧ (State.codeMove s c).now = s.now ∧ (State.codeMove s c).free = s.free ∧
    (State.codeMove s c).pending = s.pending := by
  unfold State.codeMove; simp

@[simp] theorem srcApply (s : State) : (State.srcApply s).cmn = s.cmn ∧ (State.srcApply s).tly = s.tly ∧
    (State.srcApply s).adm = s.adm ∧ (State.srcApply s).beam = s.beam ∧ (State.srcApply s).ctl = s.ctl ∧
    (State.srcApply s).fcs = s.fcs ∧ (State.srcApply s).thm = s.thm ∧ (State.srcApply s).sns = s.sns ∧
    (State.srcApply s).dom = s.dom ∧ (State.srcApply s).vrg = s.vrg ∧ (State.srcApply s).pmb = s.pmb ∧
    (State.srcApply s).frm = s.frm ∧ (State.srcApply s).tre = s.tre ∧ (State.srcApply s).aut = s.aut ∧
    (State.srcApply s).rst = s.rst ∧ (State.srcApply s).rel = s.rel ∧ (State.srcApply s).trc = s.trc ∧
    (State.srcApply s).stg = s.stg ∧ (State.srcApply s).hst = s.hst ∧ (State.srcApply s).pairLo = s.pairLo ∧
    (State.srcApply s).now = s.now ∧ (State.srcApply s).free = s.free ∧ (State.srcApply s).pending = s.pending := by
  unfold State.srcApply; simp

@[simp] theorem forceSrc (s : State) (sel : Nat) : (State.forceSrc s sel).cmn = s.cmn ∧
    (State.forceSrc s sel).tly = s.tly ∧ (State.forceSrc s sel).adm = s.adm ∧ (State.forceSrc s sel).beam = s.beam ∧
    (State.forceSrc s sel).ctl = s.ctl ∧ (State.forceSrc s sel).fcs = s.fcs ∧ (State.forceSrc s sel).thm = s.thm ∧
    (State.forceSrc s sel).sns = s.sns ∧ (State.forceSrc s sel).dom = s.dom ∧ (State.forceSrc s sel).vrg = s.vrg ∧
    (State.forceSrc s sel).pmb = s.pmb ∧ (State.forceSrc s sel).frm = s.frm ∧ (State.forceSrc s sel).tre = s.tre ∧
    (State.forceSrc s sel).aut = s.aut ∧ (State.forceSrc s sel).rst = s.rst ∧ (State.forceSrc s sel).rel = s.rel ∧
    (State.forceSrc s sel).trc = s.trc ∧ (State.forceSrc s sel).stg = s.stg ∧ (State.forceSrc s sel).hst = s.hst ∧
    (State.forceSrc s sel).pairLo = s.pairLo ∧ (State.forceSrc s sel).now = s.now ∧ (State.forceSrc s sel).free = s.free ∧
    (State.forceSrc s sel).pending = s.pending := by
  unfold State.forceSrc; simp

@[simp] theorem vrgMod (s : State) (r : Nat) (f : VrgRail → VrgRail) : (State.vrgMod s r f).cmn = s.cmn ∧
    (State.vrgMod s r f).seq = s.seq ∧ (State.vrgMod s r f).tly = s.tly ∧ (State.vrgMod s r f).adm = s.adm ∧
    (State.vrgMod s r f).beam = s.beam ∧ (State.vrgMod s r f).ctl = s.ctl ∧ (State.vrgMod s r f).fcs = s.fcs ∧
    (State.vrgMod s r f).thm = s.thm ∧ (State.vrgMod s r f).sns = s.sns ∧ (State.vrgMod s r f).dom = s.dom ∧
    (State.vrgMod s r f).clk = s.clk ∧ (State.vrgMod s r f).pmb = s.pmb ∧ (State.vrgMod s r f).frm = s.frm ∧
    (State.vrgMod s r f).tre = s.tre ∧ (State.vrgMod s r f).mbs = s.mbs ∧ (State.vrgMod s r f).mbn = s.mbn ∧
    (State.vrgMod s r f).rck = s.rck ∧ (State.vrgMod s r f).aut = s.aut ∧ (State.vrgMod s r f).rst = s.rst ∧
    (State.vrgMod s r f).rel = s.rel ∧ (State.vrgMod s r f).evt = s.evt ∧ (State.vrgMod s r f).trc = s.trc ∧
    (State.vrgMod s r f).hdr = s.hdr ∧ (State.vrgMod s r f).stg = s.stg ∧ (State.vrgMod s r f).hst = s.hst ∧
    (State.vrgMod s r f).pairLo = s.pairLo ∧ (State.vrgMod s r f).now = s.now ∧ (State.vrgMod s r f).free = s.free ∧
    (State.vrgMod s r f).pending = s.pending := by
  unfold State.vrgMod; simp

@[simp] theorem trim (s : State) (r op d : Nat) (single : Bool) : (State.trim s r op d single).cmn = s.cmn ∧
    (State.trim s r op d single).seq = s.seq ∧ (State.trim s r op d single).tly = s.tly ∧
    (State.trim s r op d single).adm = s.adm ∧ (State.trim s r op d single).beam = s.beam ∧
    (State.trim s r op d single).ctl = s.ctl ∧ (State.trim s r op d single).fcs = s.fcs ∧
    (State.trim s r op d single).thm = s.thm ∧ (State.trim s r op d single).sns = s.sns ∧
    (State.trim s r op d single).dom = s.dom ∧ (State.trim s r op d single).clk = s.clk ∧
    (State.trim s r op d single).pmb = s.pmb ∧ (State.trim s r op d single).frm = s.frm ∧
    (State.trim s r op d single).tre = s.tre ∧ (State.trim s r op d single).mbs = s.mbs ∧
    (State.trim s r op d single).mbn = s.mbn ∧ (State.trim s r op d single).rck = s.rck ∧
    (State.trim s r op d single).aut = s.aut ∧ (State.trim s r op d single).rst = s.rst ∧
    (State.trim s r op d single).rel = s.rel ∧ (State.trim s r op d single).evt = s.evt ∧
    (State.trim s r op d single).trc = s.trc ∧ (State.trim s r op d single).hdr = s.hdr ∧
    (State.trim s r op d single).stg = s.stg ∧ (State.trim s r op d single).hst = s.hst ∧
    (State.trim s r op d single).pairLo = s.pairLo ∧ (State.trim s r op d single).now = s.now ∧
    (State.trim s r op d single).free = s.free ∧ (State.trim s r op d single).pending = s.pending := by
  unfold State.trim; simp

@[simp] theorem coldCodes (s : State) : (State.coldCodes s).cmn = s.cmn ∧ (State.coldCodes s).seq = s.seq ∧
    (State.coldCodes s).tly = s.tly ∧ (State.coldCodes s).adm = s.adm ∧ (State.coldCodes s).beam = s.beam ∧
    (State.coldCodes s).ctl = s.ctl ∧ (State.coldCodes s).fcs = s.fcs ∧ (State.coldCodes s).thm = s.thm ∧
    (State.coldCodes s).sns = s.sns ∧ (State.coldCodes s).dom = s.dom ∧ (State.coldCodes s).clk = s.clk ∧
    (State.coldCodes s).pmb = s.pmb ∧ (State.coldCodes s).frm = s.frm ∧ (State.coldCodes s).tre = s.tre ∧
    (State.coldCodes s).mbs = s.mbs ∧ (State.coldCodes s).mbn = s.mbn ∧ (State.coldCodes s).rck = s.rck ∧
    (State.coldCodes s).aut = s.aut ∧ (State.coldCodes s).rst = s.rst ∧ (State.coldCodes s).rel = s.rel ∧
    (State.coldCodes s).evt = s.evt ∧ (State.coldCodes s).trc = s.trc ∧ (State.coldCodes s).hdr = s.hdr ∧
    (State.coldCodes s).stg = s.stg ∧ (State.coldCodes s).hst = s.hst ∧ (State.coldCodes s).pairLo = s.pairLo ∧
    (State.coldCodes s).now = s.now ∧ (State.coldCodes s).free = s.free ∧ (State.coldCodes s).pending = s.pending := by
  unfold State.coldCodes; simp

@[simp] theorem bootCode (s : State) (r : Nat) : (State.bootCode s r).cmn = s.cmn ∧
    (State.bootCode s r).seq = s.seq ∧ (State.bootCode s r).tly = s.tly ∧ (State.bootCode s r).adm = s.adm ∧
    (State.bootCode s r).beam = s.beam ∧ (State.bootCode s r).ctl = s.ctl ∧ (State.bootCode s r).fcs = s.fcs ∧
    (State.bootCode s r).thm = s.thm ∧ (State.bootCode s r).sns = s.sns ∧ (State.bootCode s r).dom = s.dom ∧
    (State.bootCode s r).clk = s.clk ∧ (State.bootCode s r).pmb = s.pmb ∧ (State.bootCode s r).frm = s.frm ∧
    (State.bootCode s r).tre = s.tre ∧ (State.bootCode s r).mbs = s.mbs ∧ (State.bootCode s r).mbn = s.mbn ∧
    (State.bootCode s r).rck = s.rck ∧ (State.bootCode s r).aut = s.aut ∧ (State.bootCode s r).rst = s.rst ∧
    (State.bootCode s r).rel = s.rel ∧ (State.bootCode s r).evt = s.evt ∧ (State.bootCode s r).trc = s.trc ∧
    (State.bootCode s r).hdr = s.hdr ∧ (State.bootCode s r).stg = s.stg ∧ (State.bootCode s r).hst = s.hst ∧
    (State.bootCode s r).pairLo = s.pairLo ∧ (State.bootCode s r).now = s.now ∧ (State.bootCode s r).free = s.free ∧
    (State.bootCode s r).pending = s.pending := by
  unfold State.bootCode; simp

@[simp] theorem bootCodes (s : State) : (State.bootCodes s).cmn = s.cmn ∧ (State.bootCodes s).seq = s.seq ∧
    (State.bootCodes s).tly = s.tly ∧ (State.bootCodes s).adm = s.adm ∧ (State.bootCodes s).beam = s.beam ∧
    (State.bootCodes s).ctl = s.ctl ∧ (State.bootCodes s).fcs = s.fcs ∧ (State.bootCodes s).thm = s.thm ∧
    (State.bootCodes s).sns = s.sns ∧ (State.bootCodes s).dom = s.dom ∧ (State.bootCodes s).clk = s.clk ∧
    (State.bootCodes s).pmb = s.pmb ∧ (State.bootCodes s).frm = s.frm ∧ (State.bootCodes s).tre = s.tre ∧
    (State.bootCodes s).mbs = s.mbs ∧ (State.bootCodes s).mbn = s.mbn ∧ (State.bootCodes s).rck = s.rck ∧
    (State.bootCodes s).aut = s.aut ∧ (State.bootCodes s).rst = s.rst ∧ (State.bootCodes s).rel = s.rel ∧
    (State.bootCodes s).evt = s.evt ∧ (State.bootCodes s).trc = s.trc ∧ (State.bootCodes s).hdr = s.hdr ∧
    (State.bootCodes s).stg = s.stg ∧ (State.bootCodes s).hst = s.hst ∧ (State.bootCodes s).pairLo = s.pairLo ∧
    (State.bootCodes s).now = s.now ∧ (State.bootCodes s).free = s.free ∧ (State.bootCodes s).pending = s.pending := by
  unfold State.bootCodes; simp

@[simp] theorem tripRows (s : State) : (State.tripRows s).cmn = s.cmn ∧ (State.tripRows s).seq = s.seq ∧
    (State.tripRows s).beam = s.beam ∧ (State.tripRows s).ctl = s.ctl ∧ (State.tripRows s).thm = s.thm ∧
    (State.tripRows s).sns = s.sns ∧ (State.tripRows s).dom = s.dom ∧ (State.tripRows s).clk = s.clk ∧
    (State.tripRows s).pmb = s.pmb ∧ (State.tripRows s).tre = s.tre ∧ (State.tripRows s).mbs = s.mbs ∧
    (State.tripRows s).mbn = s.mbn ∧ (State.tripRows s).rck = s.rck ∧ (State.tripRows s).aut = s.aut ∧
    (State.tripRows s).rst = s.rst ∧ (State.tripRows s).rel = s.rel ∧ (State.tripRows s).evt = s.evt ∧
    (State.tripRows s).trc = s.trc ∧ (State.tripRows s).hdr = s.hdr ∧ (State.tripRows s).stg = s.stg ∧
    (State.tripRows s).hst = s.hst ∧ (State.tripRows s).pairLo = s.pairLo ∧ (State.tripRows s).now = s.now ∧
    (State.tripRows s).free = s.free ∧ (State.tripRows s).pending = s.pending := by
  unfold State.tripRows; simp

@[simp] theorem tripEntry (s : State) : (State.tripEntry s).cmn = s.cmn ∧ (State.tripEntry s).tly = s.tly ∧
    (State.tripEntry s).adm = s.adm ∧ (State.tripEntry s).beam = s.beam ∧ (State.tripEntry s).ctl = s.ctl ∧
    (State.tripEntry s).fcs = s.fcs ∧ (State.tripEntry s).sns = s.sns ∧ (State.tripEntry s).clk = s.clk ∧
    (State.tripEntry s).vrg = s.vrg ∧ (State.tripEntry s).pmb = s.pmb ∧ (State.tripEntry s).frm = s.frm ∧
    (State.tripEntry s).tre = s.tre ∧ (State.tripEntry s).mbs = s.mbs ∧ (State.tripEntry s).mbn = s.mbn ∧
    (State.tripEntry s).rck = s.rck ∧ (State.tripEntry s).aut = s.aut ∧ (State.tripEntry s).rst = s.rst ∧
    (State.tripEntry s).rel = s.rel ∧ (State.tripEntry s).evt = s.evt ∧ (State.tripEntry s).trc = s.trc ∧
    (State.tripEntry s).hdr = s.hdr ∧ (State.tripEntry s).hst = s.hst ∧ (State.tripEntry s).pairLo = s.pairLo ∧
    (State.tripEntry s).now = s.now ∧ (State.tripEntry s).free = s.free ∧ (State.tripEntry s).pending = s.pending := by
  unfold State.tripEntry; simp

@[simp] theorem trip (s : State) (cause src value : Nat) : (State.trip s cause src value).cmn = s.cmn ∧
    (State.trip s cause src value).ctl = s.ctl ∧ (State.trip s cause src value).sns = s.sns ∧
    (State.trip s cause src value).clk = s.clk ∧ (State.trip s cause src value).pmb = s.pmb ∧
    (State.trip s cause src value).tre = s.tre ∧ (State.trip s cause src value).aut = s.aut ∧
    (State.trip s cause src value).rst = s.rst ∧ (State.trip s cause src value).rel = s.rel ∧
    (State.trip s cause src value).trc = s.trc ∧ (State.trip s cause src value).hst = s.hst ∧
    (State.trip s cause src value).pairLo = s.pairLo ∧ (State.trip s cause src value).now = s.now ∧
    (State.trip s cause src value).free = s.free ∧ (State.trip s cause src value).pending = s.pending := by
  unfold State.trip; simp

end Pages
end

