-- ==== Sys2Proof/Laws/PagesBeam.lean ====
section
/-! SUPPORT. Which pages of State each operation leaves alone: the samples, the regulators, PMBus, the beam and the spares. One lemma for each operation, a conjunction
over every page the operation does not write, tagged simp so that no later proof unfolds the operation for them. -/

set_option linter.unusedSimpArgs false

namespace Pages

open Sys2Proof Sys2Proof.Machine

@[simp] theorem lowering (s : State) (r k trig : Nat) (beyond clean : Bool) : (State.lowering s r k trig beyond clean).cmn = s.cmn ∧ (State.lowering s r k trig beyond clean).seq = s.seq ∧ (State.lowering s r k trig beyond clean).tly = s.tly ∧ (State.lowering s r k trig beyond clean).adm = s.adm ∧ (State.lowering s r k trig beyond clean).ctl = s.ctl ∧ (State.lowering s r k trig beyond clean).fcs = s.fcs ∧ (State.lowering s r k trig beyond clean).thm = s.thm ∧ (State.lowering s r k trig beyond clean).sns = s.sns ∧ (State.lowering s r k trig beyond clean).dom = s.dom ∧ (State.lowering s r k trig beyond clean).clk = s.clk ∧ (State.lowering s r k trig beyond clean).vrg = s.vrg ∧ (State.lowering s r k trig beyond clean).pmb = s.pmb ∧ (State.lowering s r k trig beyond clean).frm = s.frm ∧ (State.lowering s r k trig beyond clean).tre = s.tre ∧ (State.lowering s r k trig beyond clean).mbs = s.mbs ∧ (State.lowering s r k trig beyond clean).mbn = s.mbn ∧ (State.lowering s r k trig beyond clean).rck = s.rck ∧ (State.lowering s r k trig beyond clean).aut = s.aut ∧ (State.lowering s r k trig beyond clean).rst = s.rst ∧ (State.lowering s r k trig beyond clean).trc = s.trc ∧ (State.lowering s r k trig beyond clean).stg = s.stg ∧ (State.lowering s r k trig beyond clean).hst = s.hst ∧ (State.lowering s r k trig beyond clean).pairLo = s.pairLo ∧ (State.lowering s r k trig beyond clean).now = s.now ∧ (State.lowering s r k trig beyond clean).free = s.free ∧ (State.lowering s r k trig beyond clean).pending = s.pending := by
  unfold State.lowering; simp

@[simp] theorem overVoltage (s : State) (r vUv : Nat) : (State.overVoltage s r vUv).cmn = s.cmn ∧
    (State.overVoltage s r vUv).seq = s.seq ∧ (State.overVoltage s r vUv).tly = s.tly ∧
    (State.overVoltage s r vUv).adm = s.adm ∧ (State.overVoltage s r vUv).ctl = s.ctl ∧
    (State.overVoltage s r vUv).fcs = s.fcs ∧ (State.overVoltage s r vUv).thm = s.thm ∧
    (State.overVoltage s r vUv).sns = s.sns ∧ (State.overVoltage s r vUv).dom = s.dom ∧
    (State.overVoltage s r vUv).clk = s.clk ∧ (State.overVoltage s r vUv).vrg = s.vrg ∧
    (State.overVoltage s r vUv).pmb = s.pmb ∧ (State.overVoltage s r vUv).frm = s.frm ∧
    (State.overVoltage s r vUv).tre = s.tre ∧ (State.overVoltage s r vUv).mbs = s.mbs ∧
    (State.overVoltage s r vUv).mbn = s.mbn ∧ (State.overVoltage s r vUv).rck = s.rck ∧
    (State.overVoltage s r vUv).aut = s.aut ∧ (State.overVoltage s r vUv).rst = s.rst ∧
    (State.overVoltage s r vUv).trc = s.trc ∧ (State.overVoltage s r vUv).stg = s.stg ∧
    (State.overVoltage s r vUv).hst = s.hst ∧ (State.overVoltage s r vUv).pairLo = s.pairLo ∧
    (State.overVoltage s r vUv).now = s.now ∧ (State.overVoltage s r vUv).free = s.free ∧
    (State.overVoltage s r vUv).pending = s.pending := by
  unfold State.overVoltage; simp

@[simp] theorem otherReleases (s : State) (r : Nat) : (State.otherReleases s r).cmn = s.cmn ∧
    (State.otherReleases s r).seq = s.seq ∧ (State.otherReleases s r).tly = s.tly ∧ (State.otherReleases s r).adm = s.adm ∧
    (State.otherReleases s r).ctl = s.ctl ∧ (State.otherReleases s r).fcs = s.fcs ∧ (State.otherReleases s r).thm = s.thm ∧
    (State.otherReleases s r).sns = s.sns ∧ (State.otherReleases s r).dom = s.dom ∧ (State.otherReleases s r).clk = s.clk ∧
    (State.otherReleases s r).vrg = s.vrg ∧ (State.otherReleases s r).pmb = s.pmb ∧ (State.otherReleases s r).frm = s.frm ∧
    (State.otherReleases s r).tre = s.tre ∧ (State.otherReleases s r).mbs = s.mbs ∧ (State.otherReleases s r).mbn = s.mbn ∧
    (State.otherReleases s r).rck = s.rck ∧ (State.otherReleases s r).aut = s.aut ∧ (State.otherReleases s r).rst = s.rst ∧
    (State.otherReleases s r).trc = s.trc ∧ (State.otherReleases s r).stg = s.stg ∧ (State.otherReleases s r).hst = s.hst ∧
    (State.otherReleases s r).pairLo = s.pairLo ∧ (State.otherReleases s r).now = s.now ∧
    (State.otherReleases s r).free = s.free ∧ (State.otherReleases s r).pending = s.pending := by
  unfold State.otherReleases; simp

@[simp] theorem ovTrip (s : State) (r vUv : Nat) : (State.ovTrip s r vUv).cmn = s.cmn ∧
    (State.ovTrip s r vUv).ctl = s.ctl ∧ (State.ovTrip s r vUv).sns = s.sns ∧ (State.ovTrip s r vUv).clk = s.clk ∧
    (State.ovTrip s r vUv).pmb = s.pmb ∧ (State.ovTrip s r vUv).tre = s.tre ∧ (State.ovTrip s r vUv).aut = s.aut ∧
    (State.ovTrip s r vUv).rst = s.rst ∧ (State.ovTrip s r vUv).rel = s.rel ∧ (State.ovTrip s r vUv).trc = s.trc ∧
    (State.ovTrip s r vUv).hst = s.hst ∧ (State.ovTrip s r vUv).pairLo = s.pairLo ∧ (State.ovTrip s r vUv).now = s.now ∧
    (State.ovTrip s r vUv).free = s.free ∧ (State.ovTrip s r vUv).pending = s.pending := by
  unfold State.ovTrip; simp

@[simp] theorem wantSpare (s : State) (d : Nat) : (State.wantSpare s d).cmn = s.cmn ∧
    (State.wantSpare s d).seq = s.seq ∧ (State.wantSpare s d).tly = s.tly ∧ (State.wantSpare s d).adm = s.adm ∧
    (State.wantSpare s d).ctl = s.ctl ∧ (State.wantSpare s d).fcs = s.fcs ∧ (State.wantSpare s d).thm = s.thm ∧
    (State.wantSpare s d).sns = s.sns ∧ (State.wantSpare s d).dom = s.dom ∧ (State.wantSpare s d).clk = s.clk ∧
    (State.wantSpare s d).vrg = s.vrg ∧ (State.wantSpare s d).pmb = s.pmb ∧ (State.wantSpare s d).frm = s.frm ∧
    (State.wantSpare s d).tre = s.tre ∧ (State.wantSpare s d).mbs = s.mbs ∧ (State.wantSpare s d).mbn = s.mbn ∧
    (State.wantSpare s d).rck = s.rck ∧ (State.wantSpare s d).aut = s.aut ∧ (State.wantSpare s d).rst = s.rst ∧
    (State.wantSpare s d).rel = s.rel ∧ (State.wantSpare s d).evt = s.evt ∧ (State.wantSpare s d).trc = s.trc ∧
    (State.wantSpare s d).hdr = s.hdr ∧ (State.wantSpare s d).stg = s.stg ∧ (State.wantSpare s d).hst = s.hst ∧
    (State.wantSpare s d).pairLo = s.pairLo ∧ (State.wantSpare s d).now = s.now ∧ (State.wantSpare s d).free = s.free ∧
    (State.wantSpare s d).pending = s.pending := by
  unfold State.wantSpare; simp

@[simp] theorem failDet (s : State) (d reason : Nat) : (State.failDet s d reason).cmn = s.cmn ∧
    (State.failDet s d reason).seq = s.seq ∧ (State.failDet s d reason).tly = s.tly ∧
    (State.failDet s d reason).adm = s.adm ∧ (State.failDet s d reason).ctl = s.ctl ∧
    (State.failDet s d reason).fcs = s.fcs ∧ (State.failDet s d reason).thm = s.thm ∧
    (State.failDet s d reason).sns = s.sns ∧ (State.failDet s d reason).dom = s.dom ∧
    (State.failDet s d reason).clk = s.clk ∧ (State.failDet s d reason).vrg = s.vrg ∧
    (State.failDet s d reason).pmb = s.pmb ∧ (State.failDet s d reason).frm = s.frm ∧
    (State.failDet s d reason).tre = s.tre ∧ (State.failDet s d reason).mbs = s.mbs ∧
    (State.failDet s d reason).mbn = s.mbn ∧ (State.failDet s d reason).rck = s.rck ∧
    (State.failDet s d reason).aut = s.aut ∧ (State.failDet s d reason).rst = s.rst ∧
    (State.failDet s d reason).trc = s.trc ∧ (State.failDet s d reason).stg = s.stg ∧
    (State.failDet s d reason).hst = s.hst ∧ (State.failDet s d reason).pairLo = s.pairLo ∧
    (State.failDet s d reason).now = s.now ∧ (State.failDet s d reason).free = s.free ∧
    (State.failDet s d reason).pending = s.pending := by
  unfold State.failDet; simp

@[simp] theorem stuckCheck (s : State) (r vUv : Nat) : (State.stuckCheck s r vUv).cmn = s.cmn ∧
    (State.stuckCheck s r vUv).seq = s.seq ∧ (State.stuckCheck s r vUv).tly = s.tly ∧
    (State.stuckCheck s r vUv).adm = s.adm ∧ (State.stuckCheck s r vUv).ctl = s.ctl ∧
    (State.stuckCheck s r vUv).fcs = s.fcs ∧ (State.stuckCheck s r vUv).thm = s.thm ∧
    (State.stuckCheck s r vUv).sns = s.sns ∧ (State.stuckCheck s r vUv).dom = s.dom ∧
    (State.stuckCheck s r vUv).clk = s.clk ∧ (State.stuckCheck s r vUv).vrg = s.vrg ∧
    (State.stuckCheck s r vUv).pmb = s.pmb ∧ (State.stuckCheck s r vUv).frm = s.frm ∧
    (State.stuckCheck s r vUv).tre = s.tre ∧ (State.stuckCheck s r vUv).mbs = s.mbs ∧
    (State.stuckCheck s r vUv).mbn = s.mbn ∧ (State.stuckCheck s r vUv).rck = s.rck ∧
    (State.stuckCheck s r vUv).aut = s.aut ∧ (State.stuckCheck s r vUv).rst = s.rst ∧
    (State.stuckCheck s r vUv).trc = s.trc ∧ (State.stuckCheck s r vUv).stg = s.stg ∧
    (State.stuckCheck s r vUv).hst = s.hst ∧ (State.stuckCheck s r vUv).pairLo = s.pairLo ∧
    (State.stuckCheck s r vUv).now = s.now ∧ (State.stuckCheck s r vUv).free = s.free ∧
    (State.stuckCheck s r vUv).pending = s.pending := by
  unfold State.stuckCheck; simp

@[simp] theorem railSample (s : State) (r : Nat) : (State.railSample s r).cmn = s.cmn ∧
    (State.railSample s r).ctl = s.ctl ∧ (State.railSample s r).sns = s.sns ∧ (State.railSample s r).clk = s.clk ∧
    (State.railSample s r).pmb = s.pmb ∧ (State.railSample s r).tre = s.tre ∧ (State.railSample s r).aut = s.aut ∧
    (State.railSample s r).rst = s.rst ∧ (State.railSample s r).hst = s.hst ∧ (State.railSample s r).pairLo = s.pairLo ∧
    (State.railSample s r).now = s.now ∧ (State.railSample s r).free = s.free ∧ (State.railSample s r).pending = s.pending := by
  unfold State.railSample; simp

@[simp] theorem sampleLost (s : State) (r : Nat) : (State.sampleLost s r).cmn = s.cmn ∧
    (State.sampleLost s r).seq = s.seq ∧ (State.sampleLost s r).tly = s.tly ∧ (State.sampleLost s r).adm = s.adm ∧
    (State.sampleLost s r).ctl = s.ctl ∧ (State.sampleLost s r).fcs = s.fcs ∧ (State.sampleLost s r).thm = s.thm ∧
    (State.sampleLost s r).sns = s.sns ∧ (State.sampleLost s r).dom = s.dom ∧ (State.sampleLost s r).clk = s.clk ∧
    (State.sampleLost s r).vrg = s.vrg ∧ (State.sampleLost s r).pmb = s.pmb ∧ (State.sampleLost s r).frm = s.frm ∧
    (State.sampleLost s r).tre = s.tre ∧ (State.sampleLost s r).mbs = s.mbs ∧ (State.sampleLost s r).mbn = s.mbn ∧
    (State.sampleLost s r).rck = s.rck ∧ (State.sampleLost s r).aut = s.aut ∧ (State.sampleLost s r).rst = s.rst ∧
    (State.sampleLost s r).trc = s.trc ∧ (State.sampleLost s r).stg = s.stg ∧ (State.sampleLost s r).hst = s.hst ∧
    (State.sampleLost s r).pairLo = s.pairLo ∧ (State.sampleLost s r).now = s.now ∧ (State.sampleLost s r).free = s.free ∧
    (State.sampleLost s r).pending = s.pending := by
  unfold State.sampleLost; simp

@[simp] theorem dieSample (s : State) : (State.dieSample s).cmn = s.cmn ∧ (State.dieSample s).seq = s.seq ∧
    (State.dieSample s).tly = s.tly ∧ (State.dieSample s).adm = s.adm ∧ (State.dieSample s).ctl = s.ctl ∧
    (State.dieSample s).fcs = s.fcs ∧ (State.dieSample s).thm = s.thm ∧ (State.dieSample s).sns = s.sns ∧
    (State.dieSample s).dom = s.dom ∧ (State.dieSample s).clk = s.clk ∧ (State.dieSample s).vrg = s.vrg ∧
    (State.dieSample s).pmb = s.pmb ∧ (State.dieSample s).frm = s.frm ∧ (State.dieSample s).tre = s.tre ∧
    (State.dieSample s).mbs = s.mbs ∧ (State.dieSample s).mbn = s.mbn ∧ (State.dieSample s).rck = s.rck ∧
    (State.dieSample s).aut = s.aut ∧ (State.dieSample s).rst = s.rst ∧ (State.dieSample s).trc = s.trc ∧
    (State.dieSample s).stg = s.stg ∧ (State.dieSample s).hst = s.hst ∧ (State.dieSample s).pairLo = s.pairLo ∧
    (State.dieSample s).now = s.now ∧ (State.dieSample s).free = s.free ∧ (State.dieSample s).pending = s.pending := by
  unfold State.dieSample; simp

@[simp] theorem xactAcked (s : State) (x : VrgXact) (ns : Nat) : (State.xactAcked s x ns).cmn = s.cmn ∧
    (State.xactAcked s x ns).seq = s.seq ∧ (State.xactAcked s x ns).beam = s.beam ∧ (State.xactAcked s x ns).ctl = s.ctl ∧
    (State.xactAcked s x ns).fcs = s.fcs ∧ (State.xactAcked s x ns).thm = s.thm ∧ (State.xactAcked s x ns).sns = s.sns ∧
    (State.xactAcked s x ns).dom = s.dom ∧ (State.xactAcked s x ns).clk = s.clk ∧ (State.xactAcked s x ns).pmb = s.pmb ∧
    (State.xactAcked s x ns).frm = s.frm ∧ (State.xactAcked s x ns).tre = s.tre ∧ (State.xactAcked s x ns).mbs = s.mbs ∧
    (State.xactAcked s x ns).mbn = s.mbn ∧ (State.xactAcked s x ns).rck = s.rck ∧ (State.xactAcked s x ns).aut = s.aut ∧
    (State.xactAcked s x ns).rst = s.rst ∧ (State.xactAcked s x ns).rel = s.rel ∧ (State.xactAcked s x ns).evt = s.evt ∧
    (State.xactAcked s x ns).trc = s.trc ∧ (State.xactAcked s x ns).hdr = s.hdr ∧ (State.xactAcked s x ns).stg = s.stg ∧
    (State.xactAcked s x ns).hst = s.hst ∧ (State.xactAcked s x ns).pairLo = s.pairLo ∧
    (State.xactAcked s x ns).now = s.now ∧ (State.xactAcked s x ns).free = s.free ∧
    (State.xactAcked s x ns).pending = s.pending := by
  unfold State.xactAcked; split <;> simp

@[simp] theorem vrgTaken (s : State) : (State.vrgTaken s).cmn = s.cmn ∧ (State.vrgTaken s).seq = s.seq ∧
    (State.vrgTaken s).tly = s.tly ∧ (State.vrgTaken s).adm = s.adm ∧ (State.vrgTaken s).beam = s.beam ∧
    (State.vrgTaken s).ctl = s.ctl ∧ (State.vrgTaken s).fcs = s.fcs ∧ (State.vrgTaken s).thm = s.thm ∧
    (State.vrgTaken s).sns = s.sns ∧ (State.vrgTaken s).dom = s.dom ∧ (State.vrgTaken s).clk = s.clk ∧
    (State.vrgTaken s).pmb = s.pmb ∧ (State.vrgTaken s).frm = s.frm ∧ (State.vrgTaken s).tre = s.tre ∧
    (State.vrgTaken s).mbs = s.mbs ∧ (State.vrgTaken s).mbn = s.mbn ∧ (State.vrgTaken s).rck = s.rck ∧
    (State.vrgTaken s).aut = s.aut ∧ (State.vrgTaken s).rst = s.rst ∧ (State.vrgTaken s).rel = s.rel ∧
    (State.vrgTaken s).evt = s.evt ∧ (State.vrgTaken s).trc = s.trc ∧ (State.vrgTaken s).hdr = s.hdr ∧
    (State.vrgTaken s).stg = s.stg ∧ (State.vrgTaken s).hst = s.hst ∧ (State.vrgTaken s).pairLo = s.pairLo ∧
    (State.vrgTaken s).now = s.now ∧ (State.vrgTaken s).free = s.free ∧ (State.vrgTaken s).pending = s.pending := by
  unfold State.vrgTaken; simp

@[simp] theorem unrespMark (s : State) (r op : Nat) : (State.unrespMark s r op).cmn = s.cmn ∧
    (State.unrespMark s r op).seq = s.seq ∧ (State.unrespMark s r op).tly = s.tly ∧ (State.unrespMark s r op).adm = s.adm ∧
    (State.unrespMark s r op).ctl = s.ctl ∧ (State.unrespMark s r op).fcs = s.fcs ∧ (State.unrespMark s r op).thm = s.thm ∧
    (State.unrespMark s r op).sns = s.sns ∧ (State.unrespMark s r op).dom = s.dom ∧ (State.unrespMark s r op).clk = s.clk ∧
    (State.unrespMark s r op).pmb = s.pmb ∧ (State.unrespMark s r op).frm = s.frm ∧ (State.unrespMark s r op).tre = s.tre ∧
    (State.unrespMark s r op).mbs = s.mbs ∧ (State.unrespMark s r op).mbn = s.mbn ∧ (State.unrespMark s r op).rck = s.rck ∧
    (State.unrespMark s r op).aut = s.aut ∧ (State.unrespMark s r op).rst = s.rst ∧ (State.unrespMark s r op).trc = s.trc ∧
    (State.unrespMark s r op).stg = s.stg ∧ (State.unrespMark s r op).hst = s.hst ∧
    (State.unrespMark s r op).pairLo = s.pairLo ∧ (State.unrespMark s r op).now = s.now ∧
    (State.unrespMark s r op).free = s.free ∧ (State.unrespMark s r op).pending = s.pending := by
  unfold State.unrespMark; simp

@[simp] theorem phasesChanged (s : State) (r old : Nat) (p : Option Nat) : (State.phasesChanged s r old p).cmn = s.cmn ∧ (State.phasesChanged s r old p).seq = s.seq ∧ (State.phasesChanged s r old p).tly = s.tly ∧ (State.phasesChanged s r old p).adm = s.adm ∧ (State.phasesChanged s r old p).ctl = s.ctl ∧ (State.phasesChanged s r old p).fcs = s.fcs ∧ (State.phasesChanged s r old p).thm = s.thm ∧ (State.phasesChanged s r old p).sns = s.sns ∧ (State.phasesChanged s r old p).dom = s.dom ∧ (State.phasesChanged s r old p).clk = s.clk ∧ (State.phasesChanged s r old p).pmb = s.pmb ∧ (State.phasesChanged s r old p).frm = s.frm ∧ (State.phasesChanged s r old p).tre = s.tre ∧ (State.phasesChanged s r old p).mbs = s.mbs ∧ (State.phasesChanged s r old p).mbn = s.mbn ∧ (State.phasesChanged s r old p).rck = s.rck ∧ (State.phasesChanged s r old p).aut = s.aut ∧ (State.phasesChanged s r old p).rst = s.rst ∧ (State.phasesChanged s r old p).rel = s.rel ∧ (State.phasesChanged s r old p).trc = s.trc ∧ (State.phasesChanged s r old p).stg = s.stg ∧ (State.phasesChanged s r old p).hst = s.hst ∧ (State.phasesChanged s r old p).pairLo = s.pairLo ∧ (State.phasesChanged s r old p).now = s.now ∧ (State.phasesChanged s r old p).free = s.free ∧ (State.phasesChanged s r old p).pending = s.pending := by
  unfold State.phasesChanged; dsimp only; (repeat' split) <;> simp

@[simp] theorem phaseShown (s : State) (r : Nat) : (State.phaseShown s r).cmn = s.cmn ∧
    (State.phaseShown s r).tly = s.tly ∧ (State.phaseShown s r).adm = s.adm ∧ (State.phaseShown s r).beam = s.beam ∧
    (State.phaseShown s r).ctl = s.ctl ∧ (State.phaseShown s r).fcs = s.fcs ∧ (State.phaseShown s r).thm = s.thm ∧
    (State.phaseShown s r).sns = s.sns ∧ (State.phaseShown s r).dom = s.dom ∧ (State.phaseShown s r).clk = s.clk ∧
    (State.phaseShown s r).vrg = s.vrg ∧ (State.phaseShown s r).pmb = s.pmb ∧ (State.phaseShown s r).frm = s.frm ∧
    (State.phaseShown s r).tre = s.tre ∧ (State.phaseShown s r).aut = s.aut ∧ (State.phaseShown s r).rst = s.rst ∧
    (State.phaseShown s r).rel = s.rel ∧ (State.phaseShown s r).trc = s.trc ∧ (State.phaseShown s r).stg = s.stg ∧
    (State.phaseShown s r).hst = s.hst ∧ (State.phaseShown s r).pairLo = s.pairLo ∧ (State.phaseShown s r).now = s.now ∧
    (State.phaseShown s r).free = s.free ∧ (State.phaseShown s r).pending = s.pending := by
  unfold State.phaseShown; simp

@[simp] theorem phaseFault (s : State) (r p : Nat) : (State.phaseFault s r p).cmn = s.cmn ∧
    (State.phaseFault s r p).tly = s.tly ∧ (State.phaseFault s r p).adm = s.adm ∧ (State.phaseFault s r p).ctl = s.ctl ∧
    (State.phaseFault s r p).fcs = s.fcs ∧ (State.phaseFault s r p).thm = s.thm ∧ (State.phaseFault s r p).sns = s.sns ∧
    (State.phaseFault s r p).dom = s.dom ∧ (State.phaseFault s r p).clk = s.clk ∧ (State.phaseFault s r p).pmb = s.pmb ∧
    (State.phaseFault s r p).frm = s.frm ∧ (State.phaseFault s r p).tre = s.tre ∧ (State.phaseFault s r p).aut = s.aut ∧
    (State.phaseFault s r p).rst = s.rst ∧ (State.phaseFault s r p).rel = s.rel ∧ (State.phaseFault s r p).trc = s.trc ∧
    (State.phaseFault s r p).stg = s.stg ∧ (State.phaseFault s r p).hst = s.hst ∧
    (State.phaseFault s r p).pairLo = s.pairLo ∧ (State.phaseFault s r p).now = s.now ∧
    (State.phaseFault s r p).free = s.free ∧ (State.phaseFault s r p).pending = s.pending := by
  unfold State.phaseFault; simp

@[simp] theorem statusWord (s : State) (r health : Nat) : (State.statusWord s r health).cmn = s.cmn ∧
    (State.statusWord s r health).tly = s.tly ∧ (State.statusWord s r health).adm = s.adm ∧
    (State.statusWord s r health).ctl = s.ctl ∧ (State.statusWord s r health).fcs = s.fcs ∧
    (State.statusWord s r health).thm = s.thm ∧ (State.statusWord s r health).sns = s.sns ∧
    (State.statusWord s r health).dom = s.dom ∧ (State.statusWord s r health).clk = s.clk ∧
    (State.statusWord s r health).pmb = s.pmb ∧ (State.statusWord s r health).frm = s.frm ∧
    (State.statusWord s r health).tre = s.tre ∧ (State.statusWord s r health).aut = s.aut ∧
    (State.statusWord s r health).rst = s.rst ∧ (State.statusWord s r health).rel = s.rel ∧
    (State.statusWord s r health).trc = s.trc ∧ (State.statusWord s r health).stg = s.stg ∧
    (State.statusWord s r health).hst = s.hst ∧ (State.statusWord s r health).pairLo = s.pairLo ∧
    (State.statusWord s r health).now = s.now ∧ (State.statusWord s r health).free = s.free ∧
    (State.statusWord s r health).pending = s.pending := by
  unfold State.statusWord; simp

@[simp] theorem goodWord (s : State) (r d : Nat) : (State.goodWord s r d).cmn = s.cmn ∧
    (State.goodWord s r d).sns = s.sns ∧ (State.goodWord s r d).clk = s.clk ∧ (State.goodWord s r d).pmb = s.pmb ∧
    (State.goodWord s r d).tre = s.tre ∧ (State.goodWord s r d).aut = s.aut ∧ (State.goodWord s r d).rst = s.rst ∧
    (State.goodWord s r d).hst = s.hst ∧ (State.goodWord s r d).pairLo = s.pairLo ∧ (State.goodWord s r d).now = s.now ∧
    (State.goodWord s r d).free = s.free ∧ (State.goodWord s r d).pending = s.pending := by
  unfold State.goodWord; simp

@[simp] theorem badWord (s : State) (r : Nat) : (State.badWord s r).cmn = s.cmn ∧
    (State.badWord s r).tly = s.tly ∧ (State.badWord s r).adm = s.adm ∧ (State.badWord s r).fcs = s.fcs ∧
    (State.badWord s r).thm = s.thm ∧ (State.badWord s r).sns = s.sns ∧ (State.badWord s r).dom = s.dom ∧
    (State.badWord s r).clk = s.clk ∧ (State.badWord s r).pmb = s.pmb ∧ (State.badWord s r).frm = s.frm ∧
    (State.badWord s r).tre = s.tre ∧ (State.badWord s r).aut = s.aut ∧ (State.badWord s r).rst = s.rst ∧
    (State.badWord s r).trc = s.trc ∧ (State.badWord s r).stg = s.stg ∧ (State.badWord s r).hst = s.hst ∧
    (State.badWord s r).pairLo = s.pairLo ∧ (State.badWord s r).now = s.now ∧ (State.badWord s r).free = s.free ∧
    (State.badWord s r).pending = s.pending := by
  unfold State.badWord; simp

@[simp] theorem blindHold (s : State) (r k : Nat) : (State.blindHold s r k).cmn = s.cmn ∧
    (State.blindHold s r k).seq = s.seq ∧ (State.blindHold s r k).tly = s.tly ∧ (State.blindHold s r k).adm = s.adm ∧
    (State.blindHold s r k).ctl = s.ctl ∧ (State.blindHold s r k).fcs = s.fcs ∧ (State.blindHold s r k).thm = s.thm ∧
    (State.blindHold s r k).sns = s.sns ∧ (State.blindHold s r k).dom = s.dom ∧ (State.blindHold s r k).clk = s.clk ∧
    (State.blindHold s r k).vrg = s.vrg ∧ (State.blindHold s r k).pmb = s.pmb ∧ (State.blindHold s r k).frm = s.frm ∧
    (State.blindHold s r k).tre = s.tre ∧ (State.blindHold s r k).mbs = s.mbs ∧ (State.blindHold s r k).mbn = s.mbn ∧
    (State.blindHold s r k).rck = s.rck ∧ (State.blindHold s r k).aut = s.aut ∧ (State.blindHold s r k).rst = s.rst ∧
    (State.blindHold s r k).trc = s.trc ∧ (State.blindHold s r k).stg = s.stg ∧ (State.blindHold s r k).hst = s.hst ∧
    (State.blindHold s r k).pairLo = s.pairLo ∧ (State.blindHold s r k).now = s.now ∧ (State.blindHold s r k).free = s.free ∧
    (State.blindHold s r k).pending = s.pending := by
  unfold State.blindHold; simp

@[simp] theorem refreshRail (s : State) (r : Nat) : (State.refreshRail s r).cmn = s.cmn ∧
    (State.refreshRail s r).seq = s.seq ∧ (State.refreshRail s r).tly = s.tly ∧ (State.refreshRail s r).adm = s.adm ∧
    (State.refreshRail s r).beam = s.beam ∧ (State.refreshRail s r).ctl = s.ctl ∧ (State.refreshRail s r).fcs = s.fcs ∧
    (State.refreshRail s r).thm = s.thm ∧ (State.refreshRail s r).sns = s.sns ∧ (State.refreshRail s r).dom = s.dom ∧
    (State.refreshRail s r).clk = s.clk ∧ (State.refreshRail s r).pmb = s.pmb ∧ (State.refreshRail s r).frm = s.frm ∧
    (State.refreshRail s r).tre = s.tre ∧ (State.refreshRail s r).mbs = s.mbs ∧ (State.refreshRail s r).mbn = s.mbn ∧
    (State.refreshRail s r).rck = s.rck ∧ (State.refreshRail s r).aut = s.aut ∧ (State.refreshRail s r).rst = s.rst ∧
    (State.refreshRail s r).evt = s.evt ∧ (State.refreshRail s r).trc = s.trc ∧ (State.refreshRail s r).hdr = s.hdr ∧
    (State.refreshRail s r).stg = s.stg ∧ (State.refreshRail s r).hst = s.hst ∧ (State.refreshRail s r).pairLo = s.pairLo ∧
    (State.refreshRail s r).now = s.now ∧ (State.refreshRail s r).free = s.free ∧
    (State.refreshRail s r).pending = s.pending := by
  unfold State.refreshRail; simp

@[simp] theorem parityRound (s : State) (r : Nat) : (State.parityRound s r).cmn = s.cmn ∧
    (State.parityRound s r).seq = s.seq ∧ (State.parityRound s r).tly = s.tly ∧ (State.parityRound s r).adm = s.adm ∧
    (State.parityRound s r).beam = s.beam ∧ (State.parityRound s r).ctl = s.ctl ∧ (State.parityRound s r).fcs = s.fcs ∧
    (State.parityRound s r).thm = s.thm ∧ (State.parityRound s r).sns = s.sns ∧ (State.parityRound s r).dom = s.dom ∧
    (State.parityRound s r).clk = s.clk ∧ (State.parityRound s r).pmb = s.pmb ∧ (State.parityRound s r).frm = s.frm ∧
    (State.parityRound s r).tre = s.tre ∧ (State.parityRound s r).mbs = s.mbs ∧ (State.parityRound s r).mbn = s.mbn ∧
    (State.parityRound s r).rck = s.rck ∧ (State.parityRound s r).aut = s.aut ∧ (State.parityRound s r).rst = s.rst ∧
    (State.parityRound s r).rel = s.rel ∧ (State.parityRound s r).trc = s.trc ∧ (State.parityRound s r).stg = s.stg ∧
    (State.parityRound s r).hst = s.hst ∧ (State.parityRound s r).pairLo = s.pairLo ∧ (State.parityRound s r).now = s.now ∧
    (State.parityRound s r).free = s.free ∧ (State.parityRound s r).pending = s.pending := by
  unfold State.parityRound; simp

@[simp] theorem convMod (s : State) (i : Nat) (f : PmbConv → PmbConv) : (State.convMod s i f).cmn = s.cmn ∧
    (State.convMod s i f).seq = s.seq ∧ (State.convMod s i f).tly = s.tly ∧ (State.convMod s i f).adm = s.adm ∧
    (State.convMod s i f).beam = s.beam ∧ (State.convMod s i f).ctl = s.ctl ∧ (State.convMod s i f).fcs = s.fcs ∧
    (State.convMod s i f).thm = s.thm ∧ (State.convMod s i f).sns = s.sns ∧ (State.convMod s i f).dom = s.dom ∧
    (State.convMod s i f).clk = s.clk ∧ (State.convMod s i f).vrg = s.vrg ∧ (State.convMod s i f).frm = s.frm ∧
    (State.convMod s i f).tre = s.tre ∧ (State.convMod s i f).mbs = s.mbs ∧ (State.convMod s i f).mbn = s.mbn ∧
    (State.convMod s i f).rck = s.rck ∧ (State.convMod s i f).aut = s.aut ∧ (State.convMod s i f).rst = s.rst ∧
    (State.convMod s i f).rel = s.rel ∧ (State.convMod s i f).evt = s.evt ∧ (State.convMod s i f).trc = s.trc ∧
    (State.convMod s i f).hdr = s.hdr ∧ (State.convMod s i f).stg = s.stg ∧ (State.convMod s i f).hst = s.hst ∧
    (State.convMod s i f).pairLo = s.pairLo ∧ (State.convMod s i f).now = s.now ∧ (State.convMod s i f).free = s.free ∧
    (State.convMod s i f).pending = s.pending := by
  unfold State.convMod; simp

@[simp] theorem publishInput (s : State) : (State.publishInput s).cmn = s.cmn ∧
    (State.publishInput s).seq = s.seq ∧ (State.publishInput s).tly = s.tly ∧ (State.publishInput s).adm = s.adm ∧
    (State.publishInput s).beam = s.beam ∧ (State.publishInput s).ctl = s.ctl ∧ (State.publishInput s).fcs = s.fcs ∧
    (State.publishInput s).thm = s.thm ∧ (State.publishInput s).sns = s.sns ∧ (State.publishInput s).dom = s.dom ∧
    (State.publishInput s).clk = s.clk ∧ (State.publishInput s).vrg = s.vrg ∧ (State.publishInput s).pmb = s.pmb ∧
    (State.publishInput s).tre = s.tre ∧ (State.publishInput s).mbs = s.mbs ∧ (State.publishInput s).mbn = s.mbn ∧
    (State.publishInput s).rck = s.rck ∧ (State.publishInput s).aut = s.aut ∧ (State.publishInput s).rst = s.rst ∧
    (State.publishInput s).rel = s.rel ∧ (State.publishInput s).evt = s.evt ∧ (State.publishInput s).trc = s.trc ∧
    (State.publishInput s).hdr = s.hdr ∧ (State.publishInput s).stg = s.stg ∧ (State.publishInput s).hst = s.hst ∧
    (State.publishInput s).pairLo = s.pairLo ∧ (State.publishInput s).now = s.now ∧ (State.publishInput s).free = s.free ∧
    (State.publishInput s).pending = s.pending := by
  unfold State.publishInput; simp

@[simp] theorem formInput (s : State) : (State.formInput s).cmn = s.cmn ∧ (State.formInput s).seq = s.seq ∧
    (State.formInput s).tly = s.tly ∧ (State.formInput s).adm = s.adm ∧ (State.formInput s).beam = s.beam ∧
    (State.formInput s).ctl = s.ctl ∧ (State.formInput s).fcs = s.fcs ∧ (State.formInput s).thm = s.thm ∧
    (State.formInput s).sns = s.sns ∧ (State.formInput s).dom = s.dom ∧ (State.formInput s).clk = s.clk ∧
    (State.formInput s).vrg = s.vrg ∧ (State.formInput s).frm = s.frm ∧ (State.formInput s).tre = s.tre ∧
    (State.formInput s).mbs = s.mbs ∧ (State.formInput s).mbn = s.mbn ∧ (State.formInput s).rck = s.rck ∧
    (State.formInput s).aut = s.aut ∧ (State.formInput s).rst = s.rst ∧ (State.formInput s).rel = s.rel ∧
    (State.formInput s).evt = s.evt ∧ (State.formInput s).trc = s.trc ∧ (State.formInput s).hdr = s.hdr ∧
    (State.formInput s).stg = s.stg ∧ (State.formInput s).hst = s.hst ∧ (State.formInput s).pairLo = s.pairLo ∧
    (State.formInput s).now = s.now ∧ (State.formInput s).free = s.free ∧ (State.formInput s).pending = s.pending := by
  unfold State.formInput; simp

@[simp] theorem inputLimits (s : State) : (State.inputLimits s).cmn = s.cmn ∧ (State.inputLimits s).seq = s.seq ∧
    (State.inputLimits s).tly = s.tly ∧ (State.inputLimits s).adm = s.adm ∧ (State.inputLimits s).beam = s.beam ∧
    (State.inputLimits s).ctl = s.ctl ∧ (State.inputLimits s).fcs = s.fcs ∧ (State.inputLimits s).thm = s.thm ∧
    (State.inputLimits s).sns = s.sns ∧ (State.inputLimits s).dom = s.dom ∧ (State.inputLimits s).clk = s.clk ∧
    (State.inputLimits s).vrg = s.vrg ∧ (State.inputLimits s).frm = s.frm ∧ (State.inputLimits s).tre = s.tre ∧
    (State.inputLimits s).mbs = s.mbs ∧ (State.inputLimits s).mbn = s.mbn ∧ (State.inputLimits s).rck = s.rck ∧
    (State.inputLimits s).aut = s.aut ∧ (State.inputLimits s).rst = s.rst ∧ (State.inputLimits s).rel = s.rel ∧
    (State.inputLimits s).trc = s.trc ∧ (State.inputLimits s).stg = s.stg ∧ (State.inputLimits s).hst = s.hst ∧
    (State.inputLimits s).pairLo = s.pairLo ∧ (State.inputLimits s).now = s.now ∧ (State.inputLimits s).free = s.free ∧
    (State.inputLimits s).pending = s.pending := by
  unfold State.inputLimits; simp

@[simp] theorem convRound (s : State) (i : Nat) : (State.convRound s i).cmn = s.cmn ∧
    (State.convRound s i).seq = s.seq ∧ (State.convRound s i).tly = s.tly ∧ (State.convRound s i).adm = s.adm ∧
    (State.convRound s i).beam = s.beam ∧ (State.convRound s i).ctl = s.ctl ∧ (State.convRound s i).fcs = s.fcs ∧
    (State.convRound s i).thm = s.thm ∧ (State.convRound s i).sns = s.sns ∧ (State.convRound s i).dom = s.dom ∧
    (State.convRound s i).clk = s.clk ∧ (State.convRound s i).vrg = s.vrg ∧ (State.convRound s i).frm = s.frm ∧
    (State.convRound s i).tre = s.tre ∧ (State.convRound s i).mbs = s.mbs ∧ (State.convRound s i).mbn = s.mbn ∧
    (State.convRound s i).rck = s.rck ∧ (State.convRound s i).aut = s.aut ∧ (State.convRound s i).rst = s.rst ∧
    (State.convRound s i).rel = s.rel ∧ (State.convRound s i).trc = s.trc ∧ (State.convRound s i).stg = s.stg ∧
    (State.convRound s i).hst = s.hst ∧ (State.convRound s i).pairLo = s.pairLo ∧ (State.convRound s i).now = s.now ∧
    (State.convRound s i).free = s.free ∧ (State.convRound s i).pending = s.pending := by
  unfold State.convRound; simp

@[simp] theorem pollEnd (s : State) : (State.pollEnd s).cmn = s.cmn ∧ (State.pollEnd s).seq = s.seq ∧
    (State.pollEnd s).tly = s.tly ∧ (State.pollEnd s).adm = s.adm ∧ (State.pollEnd s).beam = s.beam ∧
    (State.pollEnd s).ctl = s.ctl ∧ (State.pollEnd s).fcs = s.fcs ∧ (State.pollEnd s).thm = s.thm ∧
    (State.pollEnd s).sns = s.sns ∧ (State.pollEnd s).dom = s.dom ∧ (State.pollEnd s).clk = s.clk ∧
    (State.pollEnd s).vrg = s.vrg ∧ (State.pollEnd s).tre = s.tre ∧ (State.pollEnd s).mbs = s.mbs ∧
    (State.pollEnd s).mbn = s.mbn ∧ (State.pollEnd s).rck = s.rck ∧ (State.pollEnd s).aut = s.aut ∧
    (State.pollEnd s).rst = s.rst ∧ (State.pollEnd s).rel = s.rel ∧ (State.pollEnd s).trc = s.trc ∧
    (State.pollEnd s).stg = s.stg ∧ (State.pollEnd s).hst = s.hst ∧ (State.pollEnd s).pairLo = s.pairLo ∧
    (State.pollEnd s).now = s.now ∧ (State.pollEnd s).free = s.free ∧ (State.pollEnd s).pending = s.pending := by
  unfold State.pollEnd; simp

@[simp] theorem pmbNext (s : State) : (State.pmbNext s).cmn = s.cmn ∧ (State.pmbNext s).seq = s.seq ∧
    (State.pmbNext s).tly = s.tly ∧ (State.pmbNext s).adm = s.adm ∧ (State.pmbNext s).beam = s.beam ∧
    (State.pmbNext s).ctl = s.ctl ∧ (State.pmbNext s).fcs = s.fcs ∧ (State.pmbNext s).thm = s.thm ∧
    (State.pmbNext s).sns = s.sns ∧ (State.pmbNext s).dom = s.dom ∧ (State.pmbNext s).clk = s.clk ∧
    (State.pmbNext s).vrg = s.vrg ∧ (State.pmbNext s).tre = s.tre ∧ (State.pmbNext s).mbs = s.mbs ∧
    (State.pmbNext s).mbn = s.mbn ∧ (State.pmbNext s).rck = s.rck ∧ (State.pmbNext s).aut = s.aut ∧
    (State.pmbNext s).rst = s.rst ∧ (State.pmbNext s).rel = s.rel ∧ (State.pmbNext s).trc = s.trc ∧
    (State.pmbNext s).stg = s.stg ∧ (State.pmbNext s).hst = s.hst ∧ (State.pmbNext s).pairLo = s.pairLo ∧
    (State.pmbNext s).now = s.now ∧ (State.pmbNext s).free = s.free ∧ (State.pmbNext s).pending = s.pending := by
  unfold State.pmbNext; (repeat' split) <;> simp

@[simp] theorem countersAnswer (s : State) (st opt pc sq : Nat) : (State.countersAnswer s st opt pc sq).cmn = s.cmn ∧ (State.countersAnswer s st opt pc sq).seq = s.seq ∧ (State.countersAnswer s st opt pc sq).tly = s.tly ∧ (State.countersAnswer s st opt pc sq).adm = s.adm ∧ (State.countersAnswer s st opt pc sq).beam = s.beam ∧ (State.countersAnswer s st opt pc sq).ctl = s.ctl ∧ (State.countersAnswer s st opt pc sq).fcs = s.fcs ∧ (State.countersAnswer s st opt pc sq).thm = s.thm ∧ (State.countersAnswer s st opt pc sq).sns = s.sns ∧ (State.countersAnswer s st opt pc sq).dom = s.dom ∧ (State.countersAnswer s st opt pc sq).clk = s.clk ∧ (State.countersAnswer s st opt pc sq).vrg = s.vrg ∧ (State.countersAnswer s st opt pc sq).frm = s.frm ∧ (State.countersAnswer s st opt pc sq).tre = s.tre ∧ (State.countersAnswer s st opt pc sq).mbs = s.mbs ∧ (State.countersAnswer s st opt pc sq).mbn = s.mbn ∧ (State.countersAnswer s st opt pc sq).rck = s.rck ∧ (State.countersAnswer s st opt pc sq).rst = s.rst ∧ (State.countersAnswer s st opt pc sq).rel = s.rel ∧ (State.countersAnswer s st opt pc sq).trc = s.trc ∧ (State.countersAnswer s st opt pc sq).stg = s.stg ∧ (State.countersAnswer s st opt pc sq).hst = s.hst ∧ (State.countersAnswer s st opt pc sq).pairLo = s.pairLo ∧ (State.countersAnswer s st opt pc sq).now = s.now ∧ (State.countersAnswer s st opt pc sq).free = s.free ∧ (State.countersAnswer s st opt pc sq).pending = s.pending := by
  unfold State.countersAnswer; simp

@[simp] theorem counterAsk (s : State) (write : Bool) : (State.counterAsk s write).cmn = s.cmn ∧
    (State.counterAsk s write).seq = s.seq ∧ (State.counterAsk s write).tly = s.tly ∧
    (State.counterAsk s write).adm = s.adm ∧ (State.counterAsk s write).beam = s.beam ∧
    (State.counterAsk s write).ctl = s.ctl ∧ (State.counterAsk s write).fcs = s.fcs ∧
    (State.counterAsk s write).thm = s.thm ∧ (State.counterAsk s write).sns = s.sns ∧
    (State.counterAsk s write).dom = s.dom ∧ (State.counterAsk s write).clk = s.clk ∧
    (State.counterAsk s write).vrg = s.vrg ∧ (State.counterAsk s write).tre = s.tre ∧
    (State.counterAsk s write).mbs = s.mbs ∧ (State.counterAsk s write).mbn = s.mbn ∧
    (State.counterAsk s write).rck = s.rck ∧ (State.counterAsk s write).aut = s.aut ∧
    (State.counterAsk s write).rst = s.rst ∧ (State.counterAsk s write).rel = s.rel ∧
    (State.counterAsk s write).trc = s.trc ∧ (State.counterAsk s write).stg = s.stg ∧
    (State.counterAsk s write).hst = s.hst ∧ (State.counterAsk s write).pairLo = s.pairLo ∧
    (State.counterAsk s write).now = s.now ∧ (State.counterAsk s write).free = s.free ∧
    (State.counterAsk s write).pending = s.pending := by
  unfold State.counterAsk; simp

@[simp] theorem counterRead (s : State) : (State.counterRead s).cmn = s.cmn ∧ (State.counterRead s).seq = s.seq ∧
    (State.counterRead s).tly = s.tly ∧ (State.counterRead s).adm = s.adm ∧ (State.counterRead s).beam = s.beam ∧
    (State.counterRead s).ctl = s.ctl ∧ (State.counterRead s).fcs = s.fcs ∧ (State.counterRead s).thm = s.thm ∧
    (State.counterRead s).sns = s.sns ∧ (State.counterRead s).dom = s.dom ∧ (State.counterRead s).clk = s.clk ∧
    (State.counterRead s).vrg = s.vrg ∧ (State.counterRead s).tre = s.tre ∧ (State.counterRead s).mbs = s.mbs ∧
    (State.counterRead s).mbn = s.mbn ∧ (State.counterRead s).rck = s.rck ∧ (State.counterRead s).aut = s.aut ∧
    (State.counterRead s).rst = s.rst ∧ (State.counterRead s).rel = s.rel ∧ (State.counterRead s).trc = s.trc ∧
    (State.counterRead s).stg = s.stg ∧ (State.counterRead s).hst = s.hst ∧ (State.counterRead s).pairLo = s.pairLo ∧
    (State.counterRead s).now = s.now ∧ (State.counterRead s).free = s.free ∧ (State.counterRead s).pending = s.pending := by
  unfold State.counterRead; simp

@[simp] theorem counterReply (s : State) (q : CtrReq) (st opt pc sq : Nat) : (State.counterReply s q st opt pc sq).cmn = s.cmn ∧ (State.counterReply s q st opt pc sq).seq = s.seq ∧ (State.counterReply s q st opt pc sq).tly = s.tly ∧ (State.counterReply s q st opt pc sq).adm = s.adm ∧ (State.counterReply s q st opt pc sq).beam = s.beam ∧ (State.counterReply s q st opt pc sq).ctl = s.ctl ∧ (State.counterReply s q st opt pc sq).fcs = s.fcs ∧ (State.counterReply s q st opt pc sq).thm = s.thm ∧ (State.counterReply s q st opt pc sq).sns = s.sns ∧ (State.counterReply s q st opt pc sq).dom = s.dom ∧ (State.counterReply s q st opt pc sq).clk = s.clk ∧ (State.counterReply s q st opt pc sq).vrg = s.vrg ∧ (State.counterReply s q st opt pc sq).tre = s.tre ∧ (State.counterReply s q st opt pc sq).mbs = s.mbs ∧ (State.counterReply s q st opt pc sq).mbn = s.mbn ∧ (State.counterReply s q st opt pc sq).rck = s.rck ∧ (State.counterReply s q st opt pc sq).rst = s.rst ∧ (State.counterReply s q st opt pc sq).rel = s.rel ∧ (State.counterReply s q st opt pc sq).trc = s.trc ∧ (State.counterReply s q st opt pc sq).stg = s.stg ∧ (State.counterReply s q st opt pc sq).hst = s.hst ∧ (State.counterReply s q st opt pc sq).pairLo = s.pairLo ∧ (State.counterReply s q st opt pc sq).now = s.now ∧ (State.counterReply s q st opt pc sq).free = s.free ∧ (State.counterReply s q st opt pc sq).pending = s.pending := by
  unfold State.counterReply; simp

@[simp] theorem eeFail (s : State) (q : CtrReq) (cause : Nat) : (State.eeFail s q cause).cmn = s.cmn ∧
    (State.eeFail s q cause).seq = s.seq ∧ (State.eeFail s q cause).tly = s.tly ∧ (State.eeFail s q cause).adm = s.adm ∧
    (State.eeFail s q cause).beam = s.beam ∧ (State.eeFail s q cause).ctl = s.ctl ∧ (State.eeFail s q cause).fcs = s.fcs ∧
    (State.eeFail s q cause).thm = s.thm ∧ (State.eeFail s q cause).sns = s.sns ∧ (State.eeFail s q cause).dom = s.dom ∧
    (State.eeFail s q cause).clk = s.clk ∧ (State.eeFail s q cause).vrg = s.vrg ∧ (State.eeFail s q cause).tre = s.tre ∧
    (State.eeFail s q cause).mbs = s.mbs ∧ (State.eeFail s q cause).mbn = s.mbn ∧ (State.eeFail s q cause).rck = s.rck ∧
    (State.eeFail s q cause).rst = s.rst ∧ (State.eeFail s q cause).rel = s.rel ∧ (State.eeFail s q cause).trc = s.trc ∧
    (State.eeFail s q cause).stg = s.stg ∧ (State.eeFail s q cause).hst = s.hst ∧
    (State.eeFail s q cause).pairLo = s.pairLo ∧ (State.eeFail s q cause).now = s.now ∧
    (State.eeFail s q cause).free = s.free ∧ (State.eeFail s q cause).pending = s.pending := by
  unfold State.eeFail; simp

@[simp] theorem eeSlot (s : State) (q : CtrReq) (bs : List Nat) : (State.eeSlot s q bs).cmn = s.cmn ∧
    (State.eeSlot s q bs).seq = s.seq ∧ (State.eeSlot s q bs).tly = s.tly ∧ (State.eeSlot s q bs).adm = s.adm ∧
    (State.eeSlot s q bs).beam = s.beam ∧ (State.eeSlot s q bs).ctl = s.ctl ∧ (State.eeSlot s q bs).fcs = s.fcs ∧
    (State.eeSlot s q bs).thm = s.thm ∧ (State.eeSlot s q bs).sns = s.sns ∧ (State.eeSlot s q bs).dom = s.dom ∧
    (State.eeSlot s q bs).clk = s.clk ∧ (State.eeSlot s q bs).vrg = s.vrg ∧ (State.eeSlot s q bs).tre = s.tre ∧
    (State.eeSlot s q bs).mbs = s.mbs ∧ (State.eeSlot s q bs).mbn = s.mbn ∧ (State.eeSlot s q bs).rck = s.rck ∧
    (State.eeSlot s q bs).rst = s.rst ∧ (State.eeSlot s q bs).rel = s.rel ∧ (State.eeSlot s q bs).trc = s.trc ∧
    (State.eeSlot s q bs).stg = s.stg ∧ (State.eeSlot s q bs).hst = s.hst ∧ (State.eeSlot s q bs).pairLo = s.pairLo ∧
    (State.eeSlot s q bs).now = s.now ∧ (State.eeSlot s q bs).free = s.free ∧ (State.eeSlot s q bs).pending = s.pending := by
  unfold State.eeSlot; simp

@[simp] theorem hostXactEnd (s : State) (slot st rdata : Nat) : (State.hostXactEnd s slot st rdata).cmn = s.cmn ∧
    (State.hostXactEnd s slot st rdata).seq = s.seq ∧ (State.hostXactEnd s slot st rdata).tly = s.tly ∧
    (State.hostXactEnd s slot st rdata).adm = s.adm ∧ (State.hostXactEnd s slot st rdata).beam = s.beam ∧
    (State.hostXactEnd s slot st rdata).ctl = s.ctl ∧ (State.hostXactEnd s slot st rdata).fcs = s.fcs ∧
    (State.hostXactEnd s slot st rdata).thm = s.thm ∧ (State.hostXactEnd s slot st rdata).sns = s.sns ∧
    (State.hostXactEnd s slot st rdata).dom = s.dom ∧ (State.hostXactEnd s slot st rdata).clk = s.clk ∧
    (State.hostXactEnd s slot st rdata).vrg = s.vrg ∧ (State.hostXactEnd s slot st rdata).frm = s.frm ∧
    (State.hostXactEnd s slot st rdata).tre = s.tre ∧ (State.hostXactEnd s slot st rdata).mbs = s.mbs ∧
    (State.hostXactEnd s slot st rdata).mbn = s.mbn ∧ (State.hostXactEnd s slot st rdata).rck = s.rck ∧
    (State.hostXactEnd s slot st rdata).aut = s.aut ∧ (State.hostXactEnd s slot st rdata).rst = s.rst ∧
    (State.hostXactEnd s slot st rdata).rel = s.rel ∧ (State.hostXactEnd s slot st rdata).trc = s.trc ∧
    (State.hostXactEnd s slot st rdata).stg = s.stg ∧ (State.hostXactEnd s slot st rdata).hst = s.hst ∧
    (State.hostXactEnd s slot st rdata).pairLo = s.pairLo ∧ (State.hostXactEnd s slot st rdata).now = s.now ∧
    (State.hostXactEnd s slot st rdata).free = s.free ∧ (State.hostXactEnd s slot st rdata).pending = s.pending := by
  unfold State.hostXactEnd; simp

@[simp] theorem convFail (s : State) (i : Nat) : (State.convFail s i).cmn = s.cmn ∧
    (State.convFail s i).seq = s.seq ∧ (State.convFail s i).tly = s.tly ∧ (State.convFail s i).adm = s.adm ∧
    (State.convFail s i).beam = s.beam ∧ (State.convFail s i).ctl = s.ctl ∧ (State.convFail s i).fcs = s.fcs ∧
    (State.convFail s i).thm = s.thm ∧ (State.convFail s i).sns = s.sns ∧ (State.convFail s i).dom = s.dom ∧
    (State.convFail s i).clk = s.clk ∧ (State.convFail s i).vrg = s.vrg ∧ (State.convFail s i).frm = s.frm ∧
    (State.convFail s i).tre = s.tre ∧ (State.convFail s i).mbs = s.mbs ∧ (State.convFail s i).mbn = s.mbn ∧
    (State.convFail s i).rck = s.rck ∧ (State.convFail s i).aut = s.aut ∧ (State.convFail s i).rst = s.rst ∧
    (State.convFail s i).rel = s.rel ∧ (State.convFail s i).evt = s.evt ∧ (State.convFail s i).trc = s.trc ∧
    (State.convFail s i).hdr = s.hdr ∧ (State.convFail s i).stg = s.stg ∧ (State.convFail s i).hst = s.hst ∧
    (State.convFail s i).pairLo = s.pairLo ∧ (State.convFail s i).now = s.now ∧ (State.convFail s i).free = s.free ∧
    (State.convFail s i).pending = s.pending := by
  unfold State.convFail; simp

@[simp] theorem pollData (s : State) (k w : Nat) : (State.pollData s k w).cmn = s.cmn ∧
    (State.pollData s k w).seq = s.seq ∧ (State.pollData s k w).tly = s.tly ∧ (State.pollData s k w).adm = s.adm ∧
    (State.pollData s k w).beam = s.beam ∧ (State.pollData s k w).ctl = s.ctl ∧ (State.pollData s k w).fcs = s.fcs ∧
    (State.pollData s k w).thm = s.thm ∧ (State.pollData s k w).sns = s.sns ∧ (State.pollData s k w).dom = s.dom ∧
    (State.pollData s k w).clk = s.clk ∧ (State.pollData s k w).vrg = s.vrg ∧ (State.pollData s k w).frm = s.frm ∧
    (State.pollData s k w).tre = s.tre ∧ (State.pollData s k w).mbs = s.mbs ∧ (State.pollData s k w).mbn = s.mbn ∧
    (State.pollData s k w).rck = s.rck ∧ (State.pollData s k w).aut = s.aut ∧ (State.pollData s k w).rst = s.rst ∧
    (State.pollData s k w).rel = s.rel ∧ (State.pollData s k w).evt = s.evt ∧ (State.pollData s k w).trc = s.trc ∧
    (State.pollData s k w).hdr = s.hdr ∧ (State.pollData s k w).stg = s.stg ∧ (State.pollData s k w).hst = s.hst ∧
    (State.pollData s k w).pairLo = s.pairLo ∧ (State.pollData s k w).now = s.now ∧ (State.pollData s k w).free = s.free ∧
    (State.pollData s k w).pending = s.pending := by
  unfold State.pollData; simp

@[simp] theorem pmbOutcome (s : State) (st w : Nat) (slot : Option (List Nat)) : (State.pmbOutcome s st w slot).cmn = s.cmn ∧ (State.pmbOutcome s st w slot).seq = s.seq ∧ (State.pmbOutcome s st w slot).tly = s.tly ∧ (State.pmbOutcome s st w slot).adm = s.adm ∧ (State.pmbOutcome s st w slot).beam = s.beam ∧ (State.pmbOutcome s st w slot).ctl = s.ctl ∧ (State.pmbOutcome s st w slot).fcs = s.fcs ∧ (State.pmbOutcome s st w slot).thm = s.thm ∧ (State.pmbOutcome s st w slot).sns = s.sns ∧ (State.pmbOutcome s st w slot).dom = s.dom ∧ (State.pmbOutcome s st w slot).clk = s.clk ∧ (State.pmbOutcome s st w slot).vrg = s.vrg ∧ (State.pmbOutcome s st w slot).tre = s.tre ∧ (State.pmbOutcome s st w slot).mbs = s.mbs ∧ (State.pmbOutcome s st w slot).mbn = s.mbn ∧ (State.pmbOutcome s st w slot).rck = s.rck ∧ (State.pmbOutcome s st w slot).rst = s.rst ∧ (State.pmbOutcome s st w slot).rel = s.rel ∧ (State.pmbOutcome s st w slot).trc = s.trc ∧ (State.pmbOutcome s st w slot).stg = s.stg ∧ (State.pmbOutcome s st w slot).hst = s.hst ∧ (State.pmbOutcome s st w slot).pairLo = s.pairLo ∧ (State.pmbOutcome s st w slot).now = s.now ∧ (State.pmbOutcome s st w slot).free = s.free ∧ (State.pmbOutcome s st w slot).pending = s.pending := by
  unfold State.pmbOutcome; dsimp only; (repeat' split) <;> simp

@[simp] theorem hostXact (s : State) (kind slot cmd data : Nat) : (State.hostXact s kind slot cmd data).cmn = s.cmn ∧ (State.hostXact s kind slot cmd data).seq = s.seq ∧ (State.hostXact s kind slot cmd data).tly = s.tly ∧ (State.hostXact s kind slot cmd data).adm = s.adm ∧ (State.hostXact s kind slot cmd data).beam = s.beam ∧ (State.hostXact s kind slot cmd data).ctl = s.ctl ∧ (State.hostXact s kind slot cmd data).fcs = s.fcs ∧ (State.hostXact s kind slot cmd data).thm = s.thm ∧ (State.hostXact s kind slot cmd data).sns = s.sns ∧ (State.hostXact s kind slot cmd data).dom = s.dom ∧ (State.hostXact s kind slot cmd data).clk = s.clk ∧ (State.hostXact s kind slot cmd data).vrg = s.vrg ∧ (State.hostXact s kind slot cmd data).tre = s.tre ∧ (State.hostXact s kind slot cmd data).mbs = s.mbs ∧ (State.hostXact s kind slot cmd data).mbn = s.mbn ∧ (State.hostXact s kind slot cmd data).rck = s.rck ∧ (State.hostXact s kind slot cmd data).aut = s.aut ∧ (State.hostXact s kind slot cmd data).rst = s.rst ∧ (State.hostXact s kind slot cmd data).rel = s.rel ∧ (State.hostXact s kind slot cmd data).trc = s.trc ∧ (State.hostXact s kind slot cmd data).stg = s.stg ∧ (State.hostXact s kind slot cmd data).hst = s.hst ∧ (State.hostXact s kind slot cmd data).pairLo = s.pairLo ∧ (State.hostXact s kind slot cmd data).now = s.now ∧ (State.hostXact s kind slot cmd data).free = s.free ∧ (State.hostXact s kind slot cmd data).pending = s.pending := by
  unfold State.hostXact; simp

@[simp] theorem stretchBegin (s : State) (r : Nat) : (State.stretchBegin s r).cmn = s.cmn ∧
    (State.stretchBegin s r).seq = s.seq ∧ (State.stretchBegin s r).adm = s.adm ∧ (State.stretchBegin s r).ctl = s.ctl ∧
    (State.stretchBegin s r).fcs = s.fcs ∧ (State.stretchBegin s r).thm = s.thm ∧ (State.stretchBegin s r).sns = s.sns ∧
    (State.stretchBegin s r).dom = s.dom ∧ (State.stretchBegin s r).clk = s.clk ∧ (State.stretchBegin s r).vrg = s.vrg ∧
    (State.stretchBegin s r).pmb = s.pmb ∧ (State.stretchBegin s r).frm = s.frm ∧ (State.stretchBegin s r).tre = s.tre ∧
    (State.stretchBegin s r).mbs = s.mbs ∧ (State.stretchBegin s r).mbn = s.mbn ∧ (State.stretchBegin s r).rck = s.rck ∧
    (State.stretchBegin s r).aut = s.aut ∧ (State.stretchBegin s r).rst = s.rst ∧ (State.stretchBegin s r).rel = s.rel ∧
    (State.stretchBegin s r).evt = s.evt ∧ (State.stretchBegin s r).trc = s.trc ∧ (State.stretchBegin s r).hdr = s.hdr ∧
    (State.stretchBegin s r).stg = s.stg ∧ (State.stretchBegin s r).hst = s.hst ∧
    (State.stretchBegin s r).pairLo = s.pairLo ∧ (State.stretchBegin s r).now = s.now ∧
    (State.stretchBegin s r).free = s.free ∧ (State.stretchBegin s r).pending = s.pending := by
  unfold State.stretchBegin; simp

@[simp] theorem beamTest (s : State) (kind target : Nat) : (State.beamTest s kind target).cmn = s.cmn ∧
    (State.beamTest s kind target).seq = s.seq ∧ (State.beamTest s kind target).tly = s.tly ∧
    (State.beamTest s kind target).adm = s.adm ∧ (State.beamTest s kind target).ctl = s.ctl ∧
    (State.beamTest s kind target).fcs = s.fcs ∧ (State.beamTest s kind target).thm = s.thm ∧
    (State.beamTest s kind target).sns = s.sns ∧ (State.beamTest s kind target).dom = s.dom ∧
    (State.beamTest s kind target).clk = s.clk ∧ (State.beamTest s kind target).vrg = s.vrg ∧
    (State.beamTest s kind target).pmb = s.pmb ∧ (State.beamTest s kind target).frm = s.frm ∧
    (State.beamTest s kind target).tre = s.tre ∧ (State.beamTest s kind target).mbs = s.mbs ∧
    (State.beamTest s kind target).mbn = s.mbn ∧ (State.beamTest s kind target).rck = s.rck ∧
    (State.beamTest s kind target).aut = s.aut ∧ (State.beamTest s kind target).rst = s.rst ∧
    (State.beamTest s kind target).rel = s.rel ∧ (State.beamTest s kind target).evt = s.evt ∧
    (State.beamTest s kind target).trc = s.trc ∧ (State.beamTest s kind target).stg = s.stg ∧
    (State.beamTest s kind target).hst = s.hst ∧ (State.beamTest s kind target).pairLo = s.pairLo ∧
    (State.beamTest s kind target).now = s.now ∧ (State.beamTest s kind target).free = s.free ∧
    (State.beamTest s kind target).pending = s.pending := by
  unfold State.beamTest; simp

@[simp] theorem spareRow (s : State) (k row : Nat) : (State.spareRow s k row).cmn = s.cmn ∧
    (State.spareRow s k row).tly = s.tly ∧ (State.spareRow s k row).adm = s.adm ∧ (State.spareRow s k row).beam = s.beam ∧
    (State.spareRow s k row).ctl = s.ctl ∧ (State.spareRow s k row).fcs = s.fcs ∧ (State.spareRow s k row).sns = s.sns ∧
    (State.spareRow s k row).dom = s.dom ∧ (State.spareRow s k row).clk = s.clk ∧ (State.spareRow s k row).vrg = s.vrg ∧
    (State.spareRow s k row).pmb = s.pmb ∧ (State.spareRow s k row).frm = s.frm ∧ (State.spareRow s k row).tre = s.tre ∧
    (State.spareRow s k row).aut = s.aut ∧ (State.spareRow s k row).rst = s.rst ∧ (State.spareRow s k row).trc = s.trc ∧
    (State.spareRow s k row).stg = s.stg ∧ (State.spareRow s k row).hst = s.hst ∧
    (State.spareRow s k row).pairLo = s.pairLo ∧ (State.spareRow s k row).now = s.now ∧
    (State.spareRow s k row).free = s.free ∧ (State.spareRow s k row).pending = s.pending := by
  unfold State.spareRow; simp

@[simp] theorem loseBytes (a n : Nat) (s : State) : (State.loseBytes a n s).cmn = s.cmn ∧
    (State.loseBytes a n s).seq = s.seq ∧ (State.loseBytes a n s).tly = s.tly ∧ (State.loseBytes a n s).adm = s.adm ∧
    (State.loseBytes a n s).beam = s.beam ∧ (State.loseBytes a n s).ctl = s.ctl ∧ (State.loseBytes a n s).fcs = s.fcs ∧
    (State.loseBytes a n s).thm = s.thm ∧ (State.loseBytes a n s).sns = s.sns ∧ (State.loseBytes a n s).dom = s.dom ∧
    (State.loseBytes a n s).clk = s.clk ∧ (State.loseBytes a n s).vrg = s.vrg ∧ (State.loseBytes a n s).pmb = s.pmb ∧
    (State.loseBytes a n s).frm = s.frm ∧ (State.loseBytes a n s).tre = s.tre ∧ (State.loseBytes a n s).mbs = s.mbs ∧
    (State.loseBytes a n s).mbn = s.mbn ∧ (State.loseBytes a n s).rck = s.rck ∧ (State.loseBytes a n s).aut = s.aut ∧
    (State.loseBytes a n s).rst = s.rst ∧ (State.loseBytes a n s).rel = s.rel ∧ (State.loseBytes a n s).evt = s.evt ∧
    (State.loseBytes a n s).trc = s.trc ∧ (State.loseBytes a n s).hdr = s.hdr ∧ (State.loseBytes a n s).hst = s.hst ∧
    (State.loseBytes a n s).pairLo = s.pairLo ∧ (State.loseBytes a n s).now = s.now ∧
    (State.loseBytes a n s).pending = s.pending := by
  induction a generalizing n s with
  | zero => simp [State.loseBytes]
  | succ k ih => simp [State.loseBytes, ih]

@[simp] theorem stagingDamage (s : State) (row : Nat) : (State.stagingDamage s row).cmn = s.cmn ∧
    (State.stagingDamage s row).tly = s.tly ∧ (State.stagingDamage s row).adm = s.adm ∧
    (State.stagingDamage s row).beam = s.beam ∧ (State.stagingDamage s row).ctl = s.ctl ∧
    (State.stagingDamage s row).fcs = s.fcs ∧ (State.stagingDamage s row).sns = s.sns ∧
    (State.stagingDamage s row).dom = s.dom ∧ (State.stagingDamage s row).clk = s.clk ∧
    (State.stagingDamage s row).vrg = s.vrg ∧ (State.stagingDamage s row).pmb = s.pmb ∧
    (State.stagingDamage s row).frm = s.frm ∧ (State.stagingDamage s row).tre = s.tre ∧
    (State.stagingDamage s row).aut = s.aut ∧ (State.stagingDamage s row).rst = s.rst ∧
    (State.stagingDamage s row).trc = s.trc ∧ (State.stagingDamage s row).hst = s.hst ∧
    (State.stagingDamage s row).pairLo = s.pairLo ∧ (State.stagingDamage s row).now = s.now ∧
    (State.stagingDamage s row).pending = s.pending := by
  unfold State.stagingDamage; simp

end Pages
end

