-- ==== Sys2Proof/Laws/PagesLaw.lean ====
section
/-! SUPPORT. Which pages of State each operation leaves alone: the control law and the forecaster. One lemma for each operation, a conjunction
over every page the operation does not write, tagged simp so that no later proof unfolds the operation for them. -/

set_option linter.unusedSimpArgs false

namespace Pages

open Sys2Proof Sys2Proof.Machine

@[simp] theorem ctlMod (s : State) (r : Nat) (f : CtlRail → CtlRail) : (State.ctlMod s r f).cmn = s.cmn ∧
    (State.ctlMod s r f).seq = s.seq ∧ (State.ctlMod s r f).tly = s.tly ∧ (State.ctlMod s r f).adm = s.adm ∧
    (State.ctlMod s r f).beam = s.beam ∧ (State.ctlMod s r f).fcs = s.fcs ∧ (State.ctlMod s r f).thm = s.thm ∧
    (State.ctlMod s r f).sns = s.sns ∧ (State.ctlMod s r f).dom = s.dom ∧ (State.ctlMod s r f).clk = s.clk ∧
    (State.ctlMod s r f).vrg = s.vrg ∧ (State.ctlMod s r f).pmb = s.pmb ∧ (State.ctlMod s r f).frm = s.frm ∧
    (State.ctlMod s r f).tre = s.tre ∧ (State.ctlMod s r f).mbs = s.mbs ∧ (State.ctlMod s r f).mbn = s.mbn ∧
    (State.ctlMod s r f).rck = s.rck ∧ (State.ctlMod s r f).aut = s.aut ∧ (State.ctlMod s r f).rst = s.rst ∧
    (State.ctlMod s r f).rel = s.rel ∧ (State.ctlMod s r f).evt = s.evt ∧ (State.ctlMod s r f).trc = s.trc ∧
    (State.ctlMod s r f).hdr = s.hdr ∧ (State.ctlMod s r f).stg = s.stg ∧ (State.ctlMod s r f).hst = s.hst ∧
    (State.ctlMod s r f).pairLo = s.pairLo ∧ (State.ctlMod s r f).now = s.now ∧ (State.ctlMod s r f).free = s.free ∧
    (State.ctlMod s r f).pending = s.pending := by
  unfold State.ctlMod; simp

@[simp] theorem eventUnless (s : State) (p : Fin 23) (b code : Nat) (d : List Nat) : (State.eventUnless s p b code d).cmn = s.cmn ∧ (State.eventUnless s p b code d).seq = s.seq ∧ (State.eventUnless s p b code d).tly = s.tly ∧ (State.eventUnless s p b code d).adm = s.adm ∧ (State.eventUnless s p b code d).beam = s.beam ∧ (State.eventUnless s p b code d).ctl = s.ctl ∧ (State.eventUnless s p b code d).fcs = s.fcs ∧ (State.eventUnless s p b code d).thm = s.thm ∧ (State.eventUnless s p b code d).sns = s.sns ∧ (State.eventUnless s p b code d).dom = s.dom ∧ (State.eventUnless s p b code d).clk = s.clk ∧ (State.eventUnless s p b code d).vrg = s.vrg ∧ (State.eventUnless s p b code d).pmb = s.pmb ∧ (State.eventUnless s p b code d).frm = s.frm ∧ (State.eventUnless s p b code d).tre = s.tre ∧ (State.eventUnless s p b code d).mbs = s.mbs ∧ (State.eventUnless s p b code d).mbn = s.mbn ∧ (State.eventUnless s p b code d).rck = s.rck ∧ (State.eventUnless s p b code d).aut = s.aut ∧ (State.eventUnless s p b code d).rst = s.rst ∧ (State.eventUnless s p b code d).rel = s.rel ∧ (State.eventUnless s p b code d).trc = s.trc ∧ (State.eventUnless s p b code d).stg = s.stg ∧ (State.eventUnless s p b code d).hst = s.hst ∧ (State.eventUnless s p b code d).pairLo = s.pairLo ∧ (State.eventUnless s p b code d).now = s.now ∧ (State.eventUnless s p b code d).free = s.free ∧ (State.eventUnless s p b code d).pending = s.pending := by
  unfold State.eventUnless; simp

@[simp] theorem residualEpoch (s : State) (r : Nat) : (State.residualEpoch s r).cmn = s.cmn ∧
    (State.residualEpoch s r).seq = s.seq ∧ (State.residualEpoch s r).tly = s.tly ∧ (State.residualEpoch s r).adm = s.adm ∧
    (State.residualEpoch s r).beam = s.beam ∧ (State.residualEpoch s r).fcs = s.fcs ∧ (State.residualEpoch s r).thm = s.thm ∧
    (State.residualEpoch s r).sns = s.sns ∧ (State.residualEpoch s r).dom = s.dom ∧ (State.residualEpoch s r).clk = s.clk ∧
    (State.residualEpoch s r).vrg = s.vrg ∧ (State.residualEpoch s r).pmb = s.pmb ∧ (State.residualEpoch s r).frm = s.frm ∧
    (State.residualEpoch s r).tre = s.tre ∧ (State.residualEpoch s r).mbs = s.mbs ∧ (State.residualEpoch s r).mbn = s.mbn ∧
    (State.residualEpoch s r).rck = s.rck ∧ (State.residualEpoch s r).aut = s.aut ∧ (State.residualEpoch s r).rst = s.rst ∧
    (State.residualEpoch s r).rel = s.rel ∧ (State.residualEpoch s r).trc = s.trc ∧ (State.residualEpoch s r).stg = s.stg ∧
    (State.residualEpoch s r).hst = s.hst ∧ (State.residualEpoch s r).pairLo = s.pairLo ∧
    (State.residualEpoch s r).now = s.now ∧ (State.residualEpoch s r).free = s.free ∧
    (State.residualEpoch s r).pending = s.pending := by
  unfold State.residualEpoch; simp

@[simp] theorem neutralEnter (s : State) (r c : Nat) : (State.neutralEnter s r c).cmn = s.cmn ∧
    (State.neutralEnter s r c).seq = s.seq ∧ (State.neutralEnter s r c).tly = s.tly ∧
    (State.neutralEnter s r c).adm = s.adm ∧ (State.neutralEnter s r c).beam = s.beam ∧
    (State.neutralEnter s r c).fcs = s.fcs ∧ (State.neutralEnter s r c).thm = s.thm ∧
    (State.neutralEnter s r c).sns = s.sns ∧ (State.neutralEnter s r c).dom = s.dom ∧
    (State.neutralEnter s r c).clk = s.clk ∧ (State.neutralEnter s r c).vrg = s.vrg ∧
    (State.neutralEnter s r c).pmb = s.pmb ∧ (State.neutralEnter s r c).frm = s.frm ∧
    (State.neutralEnter s r c).tre = s.tre ∧ (State.neutralEnter s r c).mbs = s.mbs ∧
    (State.neutralEnter s r c).mbn = s.mbn ∧ (State.neutralEnter s r c).rck = s.rck ∧
    (State.neutralEnter s r c).aut = s.aut ∧ (State.neutralEnter s r c).rst = s.rst ∧
    (State.neutralEnter s r c).rel = s.rel ∧ (State.neutralEnter s r c).trc = s.trc ∧
    (State.neutralEnter s r c).stg = s.stg ∧ (State.neutralEnter s r c).hst = s.hst ∧
    (State.neutralEnter s r c).pairLo = s.pairLo ∧ (State.neutralEnter s r c).now = s.now ∧
    (State.neutralEnter s r c).free = s.free ∧ (State.neutralEnter s r c).pending = s.pending := by
  unfold State.neutralEnter; simp

@[simp] theorem neutralLeave (s : State) (r : Nat) : (State.neutralLeave s r).cmn = s.cmn ∧
    (State.neutralLeave s r).seq = s.seq ∧ (State.neutralLeave s r).tly = s.tly ∧ (State.neutralLeave s r).adm = s.adm ∧
    (State.neutralLeave s r).beam = s.beam ∧ (State.neutralLeave s r).fcs = s.fcs ∧ (State.neutralLeave s r).thm = s.thm ∧
    (State.neutralLeave s r).sns = s.sns ∧ (State.neutralLeave s r).dom = s.dom ∧ (State.neutralLeave s r).clk = s.clk ∧
    (State.neutralLeave s r).vrg = s.vrg ∧ (State.neutralLeave s r).pmb = s.pmb ∧ (State.neutralLeave s r).frm = s.frm ∧
    (State.neutralLeave s r).tre = s.tre ∧ (State.neutralLeave s r).mbs = s.mbs ∧ (State.neutralLeave s r).mbn = s.mbn ∧
    (State.neutralLeave s r).rck = s.rck ∧ (State.neutralLeave s r).aut = s.aut ∧ (State.neutralLeave s r).rst = s.rst ∧
    (State.neutralLeave s r).rel = s.rel ∧ (State.neutralLeave s r).trc = s.trc ∧ (State.neutralLeave s r).stg = s.stg ∧
    (State.neutralLeave s r).hst = s.hst ∧ (State.neutralLeave s r).pairLo = s.pairLo ∧
    (State.neutralLeave s r).now = s.now ∧ (State.neutralLeave s r).free = s.free ∧
    (State.neutralLeave s r).pending = s.pending := by
  unfold State.neutralLeave; simp

@[simp] theorem neutralDrain (s : State) : (State.neutralDrain s).cmn = s.cmn ∧
    (State.neutralDrain s).seq = s.seq ∧ (State.neutralDrain s).tly = s.tly ∧ (State.neutralDrain s).adm = s.adm ∧
    (State.neutralDrain s).beam = s.beam ∧ (State.neutralDrain s).fcs = s.fcs ∧ (State.neutralDrain s).thm = s.thm ∧
    (State.neutralDrain s).sns = s.sns ∧ (State.neutralDrain s).dom = s.dom ∧ (State.neutralDrain s).clk = s.clk ∧
    (State.neutralDrain s).vrg = s.vrg ∧ (State.neutralDrain s).pmb = s.pmb ∧ (State.neutralDrain s).frm = s.frm ∧
    (State.neutralDrain s).tre = s.tre ∧ (State.neutralDrain s).mbs = s.mbs ∧ (State.neutralDrain s).mbn = s.mbn ∧
    (State.neutralDrain s).rck = s.rck ∧ (State.neutralDrain s).aut = s.aut ∧ (State.neutralDrain s).rst = s.rst ∧
    (State.neutralDrain s).rel = s.rel ∧ (State.neutralDrain s).trc = s.trc ∧ (State.neutralDrain s).stg = s.stg ∧
    (State.neutralDrain s).hst = s.hst ∧ (State.neutralDrain s).pairLo = s.pairLo ∧ (State.neutralDrain s).now = s.now ∧
    (State.neutralDrain s).free = s.free ∧ (State.neutralDrain s).pending = s.pending := by
  unfold State.neutralDrain; simp

@[simp] theorem ctlEpoch (s : State) : (State.ctlEpoch s).cmn = s.cmn ∧ (State.ctlEpoch s).seq = s.seq ∧
    (State.ctlEpoch s).tly = s.tly ∧ (State.ctlEpoch s).adm = s.adm ∧ (State.ctlEpoch s).beam = s.beam ∧
    (State.ctlEpoch s).fcs = s.fcs ∧ (State.ctlEpoch s).thm = s.thm ∧ (State.ctlEpoch s).sns = s.sns ∧
    (State.ctlEpoch s).dom = s.dom ∧ (State.ctlEpoch s).clk = s.clk ∧ (State.ctlEpoch s).vrg = s.vrg ∧
    (State.ctlEpoch s).pmb = s.pmb ∧ (State.ctlEpoch s).frm = s.frm ∧ (State.ctlEpoch s).tre = s.tre ∧
    (State.ctlEpoch s).mbs = s.mbs ∧ (State.ctlEpoch s).mbn = s.mbn ∧ (State.ctlEpoch s).rck = s.rck ∧
    (State.ctlEpoch s).aut = s.aut ∧ (State.ctlEpoch s).rst = s.rst ∧ (State.ctlEpoch s).rel = s.rel ∧
    (State.ctlEpoch s).evt = s.evt ∧ (State.ctlEpoch s).trc = s.trc ∧ (State.ctlEpoch s).hdr = s.hdr ∧
    (State.ctlEpoch s).stg = s.stg ∧ (State.ctlEpoch s).hst = s.hst ∧ (State.ctlEpoch s).pairLo = s.pairLo ∧
    (State.ctlEpoch s).now = s.now ∧ (State.ctlEpoch s).free = s.free ∧ (State.ctlEpoch s).pending = s.pending := by
  unfold State.ctlEpoch; simp

@[simp] theorem loadShadow (s : State) (im : Image) : (State.loadShadow s im).cmn = s.cmn ∧
    (State.loadShadow s im).seq = s.seq ∧ (State.loadShadow s im).tly = s.tly ∧ (State.loadShadow s im).adm = s.adm ∧
    (State.loadShadow s im).beam = s.beam ∧ (State.loadShadow s im).fcs = s.fcs ∧ (State.loadShadow s im).thm = s.thm ∧
    (State.loadShadow s im).sns = s.sns ∧ (State.loadShadow s im).dom = s.dom ∧ (State.loadShadow s im).clk = s.clk ∧
    (State.loadShadow s im).vrg = s.vrg ∧ (State.loadShadow s im).pmb = s.pmb ∧ (State.loadShadow s im).frm = s.frm ∧
    (State.loadShadow s im).tre = s.tre ∧ (State.loadShadow s im).mbs = s.mbs ∧ (State.loadShadow s im).mbn = s.mbn ∧
    (State.loadShadow s im).rck = s.rck ∧ (State.loadShadow s im).aut = s.aut ∧ (State.loadShadow s im).rst = s.rst ∧
    (State.loadShadow s im).rel = s.rel ∧ (State.loadShadow s im).evt = s.evt ∧ (State.loadShadow s im).trc = s.trc ∧
    (State.loadShadow s im).hdr = s.hdr ∧ (State.loadShadow s im).stg = s.stg ∧ (State.loadShadow s im).hst = s.hst ∧
    (State.loadShadow s im).pairLo = s.pairLo ∧ (State.loadShadow s im).now = s.now ∧ (State.loadShadow s im).free = s.free ∧
    (State.loadShadow s im).pending = s.pending := by
  unfold State.loadShadow; simp

@[simp] theorem swapRail (s : State) (old : Vector CtlRail 16) (r : Nat) : (State.swapRail s old r).cmn = s.cmn ∧
    (State.swapRail s old r).seq = s.seq ∧ (State.swapRail s old r).tly = s.tly ∧ (State.swapRail s old r).adm = s.adm ∧
    (State.swapRail s old r).beam = s.beam ∧ (State.swapRail s old r).fcs = s.fcs ∧ (State.swapRail s old r).thm = s.thm ∧
    (State.swapRail s old r).sns = s.sns ∧ (State.swapRail s old r).dom = s.dom ∧ (State.swapRail s old r).clk = s.clk ∧
    (State.swapRail s old r).vrg = s.vrg ∧ (State.swapRail s old r).pmb = s.pmb ∧ (State.swapRail s old r).frm = s.frm ∧
    (State.swapRail s old r).tre = s.tre ∧ (State.swapRail s old r).mbs = s.mbs ∧ (State.swapRail s old r).mbn = s.mbn ∧
    (State.swapRail s old r).rck = s.rck ∧ (State.swapRail s old r).aut = s.aut ∧ (State.swapRail s old r).rst = s.rst ∧
    (State.swapRail s old r).rel = s.rel ∧ (State.swapRail s old r).trc = s.trc ∧ (State.swapRail s old r).stg = s.stg ∧
    (State.swapRail s old r).hst = s.hst ∧ (State.swapRail s old r).pairLo = s.pairLo ∧
    (State.swapRail s old r).now = s.now ∧ (State.swapRail s old r).free = s.free ∧
    (State.swapRail s old r).pending = s.pending := by
  unfold State.swapRail; simp

@[simp] theorem bankSwap (s : State) : (State.bankSwap s).cmn = s.cmn ∧ (State.bankSwap s).seq = s.seq ∧
    (State.bankSwap s).tly = s.tly ∧ (State.bankSwap s).adm = s.adm ∧ (State.bankSwap s).beam = s.beam ∧
    (State.bankSwap s).fcs = s.fcs ∧ (State.bankSwap s).thm = s.thm ∧ (State.bankSwap s).sns = s.sns ∧
    (State.bankSwap s).dom = s.dom ∧ (State.bankSwap s).clk = s.clk ∧ (State.bankSwap s).vrg = s.vrg ∧
    (State.bankSwap s).pmb = s.pmb ∧ (State.bankSwap s).frm = s.frm ∧ (State.bankSwap s).tre = s.tre ∧
    (State.bankSwap s).mbs = s.mbs ∧ (State.bankSwap s).mbn = s.mbn ∧ (State.bankSwap s).rck = s.rck ∧
    (State.bankSwap s).aut = s.aut ∧ (State.bankSwap s).rst = s.rst ∧ (State.bankSwap s).rel = s.rel ∧
    (State.bankSwap s).trc = s.trc ∧ (State.bankSwap s).stg = s.stg ∧ (State.bankSwap s).hst = s.hst ∧
    (State.bankSwap s).pairLo = s.pairLo ∧ (State.bankSwap s).now = s.now ∧ (State.bankSwap s).free = s.free ∧
    (State.bankSwap s).pending = s.pending := by
  unfold State.bankSwap; simp

@[simp] theorem vinCheck (s : State) : (State.vinCheck s).cmn = s.cmn ∧ (State.vinCheck s).seq = s.seq ∧
    (State.vinCheck s).tly = s.tly ∧ (State.vinCheck s).adm = s.adm ∧ (State.vinCheck s).beam = s.beam ∧
    (State.vinCheck s).fcs = s.fcs ∧ (State.vinCheck s).thm = s.thm ∧ (State.vinCheck s).sns = s.sns ∧
    (State.vinCheck s).dom = s.dom ∧ (State.vinCheck s).clk = s.clk ∧ (State.vinCheck s).vrg = s.vrg ∧
    (State.vinCheck s).pmb = s.pmb ∧ (State.vinCheck s).frm = s.frm ∧ (State.vinCheck s).tre = s.tre ∧
    (State.vinCheck s).mbs = s.mbs ∧ (State.vinCheck s).mbn = s.mbn ∧ (State.vinCheck s).rck = s.rck ∧
    (State.vinCheck s).aut = s.aut ∧ (State.vinCheck s).rst = s.rst ∧ (State.vinCheck s).rel = s.rel ∧
    (State.vinCheck s).trc = s.trc ∧ (State.vinCheck s).stg = s.stg ∧ (State.vinCheck s).hst = s.hst ∧
    (State.vinCheck s).pairLo = s.pairLo ∧ (State.vinCheck s).now = s.now ∧ (State.vinCheck s).free = s.free ∧
    (State.vinCheck s).pending = s.pending := by
  unfold State.vinCheck; simp

@[simp] theorem satSample (s : State) (r : Nat) (sat : Bool) : (State.satSample s r sat).cmn = s.cmn ∧
    (State.satSample s r sat).seq = s.seq ∧ (State.satSample s r sat).tly = s.tly ∧ (State.satSample s r sat).adm = s.adm ∧
    (State.satSample s r sat).beam = s.beam ∧ (State.satSample s r sat).fcs = s.fcs ∧ (State.satSample s r sat).thm = s.thm ∧
    (State.satSample s r sat).sns = s.sns ∧ (State.satSample s r sat).dom = s.dom ∧ (State.satSample s r sat).clk = s.clk ∧
    (State.satSample s r sat).vrg = s.vrg ∧ (State.satSample s r sat).pmb = s.pmb ∧ (State.satSample s r sat).frm = s.frm ∧
    (State.satSample s r sat).tre = s.tre ∧ (State.satSample s r sat).mbs = s.mbs ∧ (State.satSample s r sat).mbn = s.mbn ∧
    (State.satSample s r sat).rck = s.rck ∧ (State.satSample s r sat).aut = s.aut ∧ (State.satSample s r sat).rst = s.rst ∧
    (State.satSample s r sat).rel = s.rel ∧ (State.satSample s r sat).trc = s.trc ∧ (State.satSample s r sat).stg = s.stg ∧
    (State.satSample s r sat).hst = s.hst ∧ (State.satSample s r sat).pairLo = s.pairLo ∧
    (State.satSample s r sat).now = s.now ∧ (State.satSample s r sat).free = s.free ∧
    (State.satSample s r sat).pending = s.pending := by
  unfold State.satSample; simp

@[simp] theorem freezeInputs (s : State) (r : Nat) (fresh : Bool) : (State.freezeInputs s r fresh).2.cmn = s.cmn ∧ (State.freezeInputs s r fresh).2.seq = s.seq ∧ (State.freezeInputs s r fresh).2.tly = s.tly ∧ (State.freezeInputs s r fresh).2.adm = s.adm ∧ (State.freezeInputs s r fresh).2.beam = s.beam ∧ (State.freezeInputs s r fresh).2.fcs = s.fcs ∧ (State.freezeInputs s r fresh).2.thm = s.thm ∧ (State.freezeInputs s r fresh).2.sns = s.sns ∧ (State.freezeInputs s r fresh).2.dom = s.dom ∧ (State.freezeInputs s r fresh).2.clk = s.clk ∧ (State.freezeInputs s r fresh).2.vrg = s.vrg ∧ (State.freezeInputs s r fresh).2.pmb = s.pmb ∧ (State.freezeInputs s r fresh).2.frm = s.frm ∧ (State.freezeInputs s r fresh).2.tre = s.tre ∧ (State.freezeInputs s r fresh).2.mbs = s.mbs ∧ (State.freezeInputs s r fresh).2.mbn = s.mbn ∧ (State.freezeInputs s r fresh).2.rck = s.rck ∧ (State.freezeInputs s r fresh).2.aut = s.aut ∧ (State.freezeInputs s r fresh).2.rst = s.rst ∧ (State.freezeInputs s r fresh).2.rel = s.rel ∧ (State.freezeInputs s r fresh).2.evt = s.evt ∧ (State.freezeInputs s r fresh).2.trc = s.trc ∧ (State.freezeInputs s r fresh).2.hdr = s.hdr ∧ (State.freezeInputs s r fresh).2.stg = s.stg ∧ (State.freezeInputs s r fresh).2.hst = s.hst ∧ (State.freezeInputs s r fresh).2.pairLo = s.pairLo ∧ (State.freezeInputs s r fresh).2.now = s.now ∧ (State.freezeInputs s r fresh).2.free = s.free ∧ (State.freezeInputs s r fresh).2.pending = s.pending := by
  unfold State.freezeInputs; simp

@[simp] theorem holdSample (s : State) (r : Nat) : (State.holdSample s r).cmn = s.cmn ∧
    (State.holdSample s r).seq = s.seq ∧ (State.holdSample s r).tly = s.tly ∧ (State.holdSample s r).adm = s.adm ∧
    (State.holdSample s r).beam = s.beam ∧ (State.holdSample s r).fcs = s.fcs ∧ (State.holdSample s r).thm = s.thm ∧
    (State.holdSample s r).sns = s.sns ∧ (State.holdSample s r).dom = s.dom ∧ (State.holdSample s r).clk = s.clk ∧
    (State.holdSample s r).vrg = s.vrg ∧ (State.holdSample s r).pmb = s.pmb ∧ (State.holdSample s r).frm = s.frm ∧
    (State.holdSample s r).tre = s.tre ∧ (State.holdSample s r).mbs = s.mbs ∧ (State.holdSample s r).mbn = s.mbn ∧
    (State.holdSample s r).rck = s.rck ∧ (State.holdSample s r).aut = s.aut ∧ (State.holdSample s r).rst = s.rst ∧
    (State.holdSample s r).rel = s.rel ∧ (State.holdSample s r).trc = s.trc ∧ (State.holdSample s r).stg = s.stg ∧
    (State.holdSample s r).hst = s.hst ∧ (State.holdSample s r).pairLo = s.pairLo ∧ (State.holdSample s r).now = s.now ∧
    (State.holdSample s r).free = s.free ∧ (State.holdSample s r).pending = s.pending := by
  unfold State.holdSample; simp

@[simp] theorem offerTrim (s : State) (r code : Nat) : (State.offerTrim s r code).cmn = s.cmn ∧
    (State.offerTrim s r code).seq = s.seq ∧ (State.offerTrim s r code).tly = s.tly ∧
    (State.offerTrim s r code).adm = s.adm ∧ (State.offerTrim s r code).beam = s.beam ∧
    (State.offerTrim s r code).ctl = s.ctl ∧ (State.offerTrim s r code).fcs = s.fcs ∧
    (State.offerTrim s r code).thm = s.thm ∧ (State.offerTrim s r code).sns = s.sns ∧
    (State.offerTrim s r code).dom = s.dom ∧ (State.offerTrim s r code).clk = s.clk ∧
    (State.offerTrim s r code).pmb = s.pmb ∧ (State.offerTrim s r code).frm = s.frm ∧
    (State.offerTrim s r code).tre = s.tre ∧ (State.offerTrim s r code).mbs = s.mbs ∧
    (State.offerTrim s r code).mbn = s.mbn ∧ (State.offerTrim s r code).rck = s.rck ∧
    (State.offerTrim s r code).aut = s.aut ∧ (State.offerTrim s r code).rst = s.rst ∧
    (State.offerTrim s r code).rel = s.rel ∧ (State.offerTrim s r code).evt = s.evt ∧
    (State.offerTrim s r code).trc = s.trc ∧ (State.offerTrim s r code).hdr = s.hdr ∧
    (State.offerTrim s r code).stg = s.stg ∧ (State.offerTrim s r code).hst = s.hst ∧
    (State.offerTrim s r code).pairLo = s.pairLo ∧ (State.offerTrim s r code).now = s.now ∧
    (State.offerTrim s r code).free = s.free ∧ (State.offerTrim s r code).pending = s.pending := by
  unfold State.offerTrim; simp

@[simp] theorem lawOut (s : State) (r : Nat) : (State.lawOut s r).cmn = s.cmn ∧ (State.lawOut s r).seq = s.seq ∧
    (State.lawOut s r).tly = s.tly ∧ (State.lawOut s r).adm = s.adm ∧ (State.lawOut s r).beam = s.beam ∧
    (State.lawOut s r).fcs = s.fcs ∧ (State.lawOut s r).thm = s.thm ∧ (State.lawOut s r).sns = s.sns ∧
    (State.lawOut s r).dom = s.dom ∧ (State.lawOut s r).clk = s.clk ∧ (State.lawOut s r).pmb = s.pmb ∧
    (State.lawOut s r).frm = s.frm ∧ (State.lawOut s r).tre = s.tre ∧ (State.lawOut s r).mbs = s.mbs ∧
    (State.lawOut s r).mbn = s.mbn ∧ (State.lawOut s r).rck = s.rck ∧ (State.lawOut s r).aut = s.aut ∧
    (State.lawOut s r).rst = s.rst ∧ (State.lawOut s r).rel = s.rel ∧ (State.lawOut s r).evt = s.evt ∧
    (State.lawOut s r).trc = s.trc ∧ (State.lawOut s r).hdr = s.hdr ∧ (State.lawOut s r).stg = s.stg ∧
    (State.lawOut s r).hst = s.hst ∧ (State.lawOut s r).pairLo = s.pairLo ∧ (State.lawOut s r).now = s.now ∧
    (State.lawOut s r).free = s.free ∧ (State.lawOut s r).pending = s.pending := by
  unfold State.lawOut; simp

@[simp] theorem residual (s : State) (r : Nat) (rho : Int) : (State.residual s r rho).cmn = s.cmn ∧
    (State.residual s r rho).seq = s.seq ∧ (State.residual s r rho).tly = s.tly ∧ (State.residual s r rho).adm = s.adm ∧
    (State.residual s r rho).beam = s.beam ∧ (State.residual s r rho).fcs = s.fcs ∧ (State.residual s r rho).thm = s.thm ∧
    (State.residual s r rho).sns = s.sns ∧ (State.residual s r rho).dom = s.dom ∧ (State.residual s r rho).clk = s.clk ∧
    (State.residual s r rho).vrg = s.vrg ∧ (State.residual s r rho).pmb = s.pmb ∧ (State.residual s r rho).frm = s.frm ∧
    (State.residual s r rho).tre = s.tre ∧ (State.residual s r rho).mbs = s.mbs ∧ (State.residual s r rho).mbn = s.mbn ∧
    (State.residual s r rho).rck = s.rck ∧ (State.residual s r rho).aut = s.aut ∧ (State.residual s r rho).rst = s.rst ∧
    (State.residual s r rho).rel = s.rel ∧ (State.residual s r rho).trc = s.trc ∧ (State.residual s r rho).stg = s.stg ∧
    (State.residual s r rho).hst = s.hst ∧ (State.residual s r rho).pairLo = s.pairLo ∧
    (State.residual s r rho).now = s.now ∧ (State.residual s r rho).free = s.free ∧
    (State.residual s r rho).pending = s.pending := by
  unfold State.residual; simp

@[simp] theorem lawState (s : State) (r : Nat) (insat late : Bool) : (State.lawState s r insat late).cmn = s.cmn ∧ (State.lawState s r insat late).seq = s.seq ∧ (State.lawState s r insat late).tly = s.tly ∧ (State.lawState s r insat late).adm = s.adm ∧ (State.lawState s r insat late).beam = s.beam ∧ (State.lawState s r insat late).fcs = s.fcs ∧ (State.lawState s r insat late).thm = s.thm ∧ (State.lawState s r insat late).sns = s.sns ∧ (State.lawState s r insat late).dom = s.dom ∧ (State.lawState s r insat late).clk = s.clk ∧ (State.lawState s r insat late).vrg = s.vrg ∧ (State.lawState s r insat late).pmb = s.pmb ∧ (State.lawState s r insat late).frm = s.frm ∧ (State.lawState s r insat late).tre = s.tre ∧ (State.lawState s r insat late).mbs = s.mbs ∧ (State.lawState s r insat late).mbn = s.mbn ∧ (State.lawState s r insat late).rck = s.rck ∧ (State.lawState s r insat late).aut = s.aut ∧ (State.lawState s r insat late).rst = s.rst ∧ (State.lawState s r insat late).rel = s.rel ∧ (State.lawState s r insat late).trc = s.trc ∧ (State.lawState s r insat late).stg = s.stg ∧ (State.lawState s r insat late).hst = s.hst ∧ (State.lawState s r insat late).pairLo = s.pairLo ∧ (State.lawState s r insat late).now = s.now ∧ (State.lawState s r insat late).free = s.free ∧ (State.lawState s r insat late).pending = s.pending := by
  unfold State.lawState; simp

@[simp] theorem coefFault (s : State) (r i : Nat) : (State.coefFault s r i).cmn = s.cmn ∧
    (State.coefFault s r i).tly = s.tly ∧ (State.coefFault s r i).adm = s.adm ∧ (State.coefFault s r i).beam = s.beam ∧
    (State.coefFault s r i).fcs = s.fcs ∧ (State.coefFault s r i).sns = s.sns ∧ (State.coefFault s r i).dom = s.dom ∧
    (State.coefFault s r i).clk = s.clk ∧ (State.coefFault s r i).vrg = s.vrg ∧ (State.coefFault s r i).pmb = s.pmb ∧
    (State.coefFault s r i).frm = s.frm ∧ (State.coefFault s r i).tre = s.tre ∧ (State.coefFault s r i).aut = s.aut ∧
    (State.coefFault s r i).rst = s.rst ∧ (State.coefFault s r i).trc = s.trc ∧ (State.coefFault s r i).stg = s.stg ∧
    (State.coefFault s r i).hst = s.hst ∧ (State.coefFault s r i).pairLo = s.pairLo ∧ (State.coefFault s r i).now = s.now ∧
    (State.coefFault s r i).free = s.free ∧ (State.coefFault s r i).pending = s.pending := by
  unfold State.coefFault; simp

@[simp] theorem commitNote (s : State) (ns : Nat) : (State.commitNote s ns).cmn = s.cmn ∧
    (State.commitNote s ns).seq = s.seq ∧ (State.commitNote s ns).tly = s.tly ∧ (State.commitNote s ns).adm = s.adm ∧
    (State.commitNote s ns).beam = s.beam ∧ (State.commitNote s ns).fcs = s.fcs ∧ (State.commitNote s ns).thm = s.thm ∧
    (State.commitNote s ns).sns = s.sns ∧ (State.commitNote s ns).dom = s.dom ∧ (State.commitNote s ns).clk = s.clk ∧
    (State.commitNote s ns).vrg = s.vrg ∧ (State.commitNote s ns).pmb = s.pmb ∧ (State.commitNote s ns).frm = s.frm ∧
    (State.commitNote s ns).tre = s.tre ∧ (State.commitNote s ns).mbs = s.mbs ∧ (State.commitNote s ns).mbn = s.mbn ∧
    (State.commitNote s ns).rck = s.rck ∧ (State.commitNote s ns).aut = s.aut ∧ (State.commitNote s ns).rst = s.rst ∧
    (State.commitNote s ns).rel = s.rel ∧ (State.commitNote s ns).trc = s.trc ∧ (State.commitNote s ns).stg = s.stg ∧
    (State.commitNote s ns).hst = s.hst ∧ (State.commitNote s ns).pairLo = s.pairLo ∧ (State.commitNote s ns).now = s.now ∧
    (State.commitNote s ns).free = s.free ∧ (State.commitNote s ns).pending = s.pending := by
  unfold State.commitNote; simp

@[simp] theorem lawsStop (s : State) : (State.lawsStop s).cmn = s.cmn ∧ (State.lawsStop s).seq = s.seq ∧
    (State.lawsStop s).tly = s.tly ∧ (State.lawsStop s).adm = s.adm ∧ (State.lawsStop s).beam = s.beam ∧
    (State.lawsStop s).fcs = s.fcs ∧ (State.lawsStop s).thm = s.thm ∧ (State.lawsStop s).sns = s.sns ∧
    (State.lawsStop s).dom = s.dom ∧ (State.lawsStop s).clk = s.clk ∧ (State.lawsStop s).vrg = s.vrg ∧
    (State.lawsStop s).pmb = s.pmb ∧ (State.lawsStop s).frm = s.frm ∧ (State.lawsStop s).tre = s.tre ∧
    (State.lawsStop s).mbs = s.mbs ∧ (State.lawsStop s).mbn = s.mbn ∧ (State.lawsStop s).rck = s.rck ∧
    (State.lawsStop s).aut = s.aut ∧ (State.lawsStop s).rst = s.rst ∧ (State.lawsStop s).rel = s.rel ∧
    (State.lawsStop s).evt = s.evt ∧ (State.lawsStop s).trc = s.trc ∧ (State.lawsStop s).hdr = s.hdr ∧
    (State.lawsStop s).stg = s.stg ∧ (State.lawsStop s).hst = s.hst ∧ (State.lawsStop s).pairLo = s.pairLo ∧
    (State.lawsStop s).now = s.now ∧ (State.lawsStop s).free = s.free ∧ (State.lawsStop s).pending = s.pending := by
  unfold State.lawsStop; simp

@[simp] theorem lawStart (s : State) : (State.lawStart s).cmn = s.cmn ∧ (State.lawStart s).seq = s.seq ∧
    (State.lawStart s).tly = s.tly ∧ (State.lawStart s).adm = s.adm ∧ (State.lawStart s).beam = s.beam ∧
    (State.lawStart s).fcs = s.fcs ∧ (State.lawStart s).thm = s.thm ∧ (State.lawStart s).sns = s.sns ∧
    (State.lawStart s).dom = s.dom ∧ (State.lawStart s).clk = s.clk ∧ (State.lawStart s).vrg = s.vrg ∧
    (State.lawStart s).pmb = s.pmb ∧ (State.lawStart s).frm = s.frm ∧ (State.lawStart s).tre = s.tre ∧
    (State.lawStart s).mbs = s.mbs ∧ (State.lawStart s).mbn = s.mbn ∧ (State.lawStart s).rck = s.rck ∧
    (State.lawStart s).aut = s.aut ∧ (State.lawStart s).rst = s.rst ∧ (State.lawStart s).rel = s.rel ∧
    (State.lawStart s).trc = s.trc ∧ (State.lawStart s).stg = s.stg ∧ (State.lawStart s).hst = s.hst ∧
    (State.lawStart s).pairLo = s.pairLo ∧ (State.lawStart s).now = s.now ∧ (State.lawStart s).free = s.free ∧
    (State.lawStart s).pending = s.pending := by
  unfold State.lawStart; simp

@[simp] theorem lawFreeze_pages (fresh : Bool) (s : List Bool × State) (r : Nat) : (lawFreeze fresh s r).2.cmn = s.2.cmn ∧
    (lawFreeze fresh s r).2.seq = s.2.seq ∧ (lawFreeze fresh s r).2.tly = s.2.tly ∧ (lawFreeze fresh s r).2.adm = s.2.adm ∧
    (lawFreeze fresh s r).2.beam = s.2.beam ∧ (lawFreeze fresh s r).2.fcs = s.2.fcs ∧ (lawFreeze fresh s r).2.thm = s.2.thm ∧
    (lawFreeze fresh s r).2.sns = s.2.sns ∧ (lawFreeze fresh s r).2.dom = s.2.dom ∧ (lawFreeze fresh s r).2.clk = s.2.clk ∧
    (lawFreeze fresh s r).2.vrg = s.2.vrg ∧ (lawFreeze fresh s r).2.pmb = s.2.pmb ∧ (lawFreeze fresh s r).2.frm = s.2.frm ∧
    (lawFreeze fresh s r).2.tre = s.2.tre ∧ (lawFreeze fresh s r).2.mbs = s.2.mbs ∧ (lawFreeze fresh s r).2.mbn = s.2.mbn ∧
    (lawFreeze fresh s r).2.rck = s.2.rck ∧ (lawFreeze fresh s r).2.aut = s.2.aut ∧ (lawFreeze fresh s r).2.rst = s.2.rst ∧
    (lawFreeze fresh s r).2.rel = s.2.rel ∧ (lawFreeze fresh s r).2.trc = s.2.trc ∧ (lawFreeze fresh s r).2.stg = s.2.stg ∧
    (lawFreeze fresh s r).2.hst = s.2.hst ∧ (lawFreeze fresh s r).2.pairLo = s.2.pairLo ∧
    (lawFreeze fresh s r).2.now = s.2.now ∧ (lawFreeze fresh s r).2.free = s.2.free ∧
    (lawFreeze fresh s r).2.pending = s.2.pending := by
  unfold lawFreeze; simp

@[simp] theorem foldl_lawFreeze (fresh : Bool) (l : List Nat) (x : List Bool × State) : (l.foldl (lawFreeze fresh) x).2.cmn = x.2.cmn ∧ (l.foldl (lawFreeze fresh) x).2.seq = x.2.seq ∧ (l.foldl (lawFreeze fresh) x).2.tly = x.2.tly ∧ (l.foldl (lawFreeze fresh) x).2.adm = x.2.adm ∧ (l.foldl (lawFreeze fresh) x).2.beam = x.2.beam ∧ (l.foldl (lawFreeze fresh) x).2.fcs = x.2.fcs ∧ (l.foldl (lawFreeze fresh) x).2.thm = x.2.thm ∧ (l.foldl (lawFreeze fresh) x).2.sns = x.2.sns ∧ (l.foldl (lawFreeze fresh) x).2.dom = x.2.dom ∧ (l.foldl (lawFreeze fresh) x).2.clk = x.2.clk ∧ (l.foldl (lawFreeze fresh) x).2.vrg = x.2.vrg ∧ (l.foldl (lawFreeze fresh) x).2.pmb = x.2.pmb ∧ (l.foldl (lawFreeze fresh) x).2.frm = x.2.frm ∧ (l.foldl (lawFreeze fresh) x).2.tre = x.2.tre ∧ (l.foldl (lawFreeze fresh) x).2.mbs = x.2.mbs ∧ (l.foldl (lawFreeze fresh) x).2.mbn = x.2.mbn ∧ (l.foldl (lawFreeze fresh) x).2.rck = x.2.rck ∧ (l.foldl (lawFreeze fresh) x).2.aut = x.2.aut ∧ (l.foldl (lawFreeze fresh) x).2.rst = x.2.rst ∧ (l.foldl (lawFreeze fresh) x).2.rel = x.2.rel ∧ (l.foldl (lawFreeze fresh) x).2.trc = x.2.trc ∧ (l.foldl (lawFreeze fresh) x).2.stg = x.2.stg ∧ (l.foldl (lawFreeze fresh) x).2.hst = x.2.hst ∧ (l.foldl (lawFreeze fresh) x).2.pairLo = x.2.pairLo ∧ (l.foldl (lawFreeze fresh) x).2.now = x.2.now ∧ (l.foldl (lawFreeze fresh) x).2.free = x.2.free ∧ (l.foldl (lawFreeze fresh) x).2.pending = x.2.pending :=
  ⟨foldl_proj (fun (x : List Bool × State) => x.2.cmn) _ (by intro s a; simp) _ _,
    foldl_proj (fun (x : List Bool × State) => x.2.seq) _ (by intro s a; simp) _ _,
    foldl_proj (fun (x : List Bool × State) => x.2.tly) _ (by intro s a; simp) _ _,
    foldl_proj (fun (x : List Bool × State) => x.2.adm) _ (by intro s a; simp) _ _,
    foldl_proj (fun (x : List Bool × State) => x.2.beam) _ (by intro s a; simp) _ _,
    foldl_proj (fun (x : List Bool × State) => x.2.fcs) _ (by intro s a; simp) _ _,
    foldl_proj (fun (x : List Bool × State) => x.2.thm) _ (by intro s a; simp) _ _,
    foldl_proj (fun (x : List Bool × State) => x.2.sns) _ (by intro s a; simp) _ _,
    foldl_proj (fun (x : List Bool × State) => x.2.dom) _ (by intro s a; simp) _ _,
    foldl_proj (fun (x : List Bool × State) => x.2.clk) _ (by intro s a; simp) _ _,
    foldl_proj (fun (x : List Bool × State) => x.2.vrg) _ (by intro s a; simp) _ _,
    foldl_proj (fun (x : List Bool × State) => x.2.pmb) _ (by intro s a; simp) _ _,
    foldl_proj (fun (x : List Bool × State) => x.2.frm) _ (by intro s a; simp) _ _,
    foldl_proj (fun (x : List Bool × State) => x.2.tre) _ (by intro s a; simp) _ _,
    foldl_proj (fun (x : List Bool × State) => x.2.mbs) _ (by intro s a; simp) _ _,
    foldl_proj (fun (x : List Bool × State) => x.2.mbn) _ (by intro s a; simp) _ _,
    foldl_proj (fun (x : List Bool × State) => x.2.rck) _ (by intro s a; simp) _ _,
    foldl_proj (fun (x : List Bool × State) => x.2.aut) _ (by intro s a; simp) _ _,
    foldl_proj (fun (x : List Bool × State) => x.2.rst) _ (by intro s a; simp) _ _,
    foldl_proj (fun (x : List Bool × State) => x.2.rel) _ (by intro s a; simp) _ _,
    foldl_proj (fun (x : List Bool × State) => x.2.trc) _ (by intro s a; simp) _ _,
    foldl_proj (fun (x : List Bool × State) => x.2.stg) _ (by intro s a; simp) _ _,
    foldl_proj (fun (x : List Bool × State) => x.2.hst) _ (by intro s a; simp) _ _,
    foldl_proj (fun (x : List Bool × State) => x.2.pairLo) _ (by intro s a; simp) _ _,
    foldl_proj (fun (x : List Bool × State) => x.2.now) _ (by intro s a; simp) _ _,
    foldl_proj (fun (x : List Bool × State) => x.2.free) _ (by intro s a; simp) _ _,
    foldl_proj (fun (x : List Bool × State) => x.2.pending) _ (by intro s a; simp) _ _⟩

@[simp] theorem lawFinish (s : State) (sats : List Bool) (obs : SampleObs) : (State.lawFinish s sats obs).cmn = s.cmn ∧ (State.lawFinish s sats obs).tly = s.tly ∧ (State.lawFinish s sats obs).adm = s.adm ∧ (State.lawFinish s sats obs).beam = s.beam ∧ (State.lawFinish s sats obs).fcs = s.fcs ∧ (State.lawFinish s sats obs).sns = s.sns ∧ (State.lawFinish s sats obs).dom = s.dom ∧ (State.lawFinish s sats obs).clk = s.clk ∧ (State.lawFinish s sats obs).pmb = s.pmb ∧ (State.lawFinish s sats obs).frm = s.frm ∧ (State.lawFinish s sats obs).tre = s.tre ∧ (State.lawFinish s sats obs).aut = s.aut ∧ (State.lawFinish s sats obs).rst = s.rst ∧ (State.lawFinish s sats obs).trc = s.trc ∧ (State.lawFinish s sats obs).stg = s.stg ∧ (State.lawFinish s sats obs).hst = s.hst ∧ (State.lawFinish s sats obs).pairLo = s.pairLo ∧ (State.lawFinish s sats obs).now = s.now ∧ (State.lawFinish s sats obs).free = s.free ∧ (State.lawFinish s sats obs).pending = s.pending := by
  unfold State.lawFinish; simp

@[simp] theorem lawTick (s : State) (obs : SampleObs) : (State.lawTick s obs).cmn = s.cmn ∧
    (State.lawTick s obs).tly = s.tly ∧ (State.lawTick s obs).adm = s.adm ∧ (State.lawTick s obs).beam = s.beam ∧
    (State.lawTick s obs).fcs = s.fcs ∧ (State.lawTick s obs).sns = s.sns ∧ (State.lawTick s obs).dom = s.dom ∧
    (State.lawTick s obs).clk = s.clk ∧ (State.lawTick s obs).pmb = s.pmb ∧ (State.lawTick s obs).frm = s.frm ∧
    (State.lawTick s obs).tre = s.tre ∧ (State.lawTick s obs).aut = s.aut ∧ (State.lawTick s obs).rst = s.rst ∧
    (State.lawTick s obs).trc = s.trc ∧ (State.lawTick s obs).stg = s.stg ∧ (State.lawTick s obs).hst = s.hst ∧
    (State.lawTick s obs).pairLo = s.pairLo ∧ (State.lawTick s obs).now = s.now ∧ (State.lawTick s obs).free = s.free ∧
    (State.lawTick s obs).pending = s.pending := by
  unfold State.lawTick; dsimp only; (repeat' split) <;> simp [foldl_lawFreeze]

@[simp] theorem lanesChanged (s : State) (cause : Nat) : (State.lanesChanged s cause).cmn = s.cmn ∧
    (State.lanesChanged s cause).tly = s.tly ∧ (State.lanesChanged s cause).adm = s.adm ∧
    (State.lanesChanged s cause).fcs = s.fcs ∧ (State.lanesChanged s cause).thm = s.thm ∧
    (State.lanesChanged s cause).sns = s.sns ∧ (State.lanesChanged s cause).dom = s.dom ∧
    (State.lanesChanged s cause).clk = s.clk ∧ (State.lanesChanged s cause).vrg = s.vrg ∧
    (State.lanesChanged s cause).pmb = s.pmb ∧ (State.lanesChanged s cause).frm = s.frm ∧
    (State.lanesChanged s cause).tre = s.tre ∧ (State.lanesChanged s cause).aut = s.aut ∧
    (State.lanesChanged s cause).rst = s.rst ∧ (State.lanesChanged s cause).trc = s.trc ∧
    (State.lanesChanged s cause).stg = s.stg ∧ (State.lanesChanged s cause).hst = s.hst ∧
    (State.lanesChanged s cause).pairLo = s.pairLo ∧ (State.lanesChanged s cause).now = s.now ∧
    (State.lanesChanged s cause).free = s.free ∧ (State.lanesChanged s cause).pending = s.pending := by
  unfold State.lanesChanged; simp

@[simp] theorem retireLane (s : State) (p : Nat) : (State.retireLane s p).cmn = s.cmn ∧
    (State.retireLane s p).tly = s.tly ∧ (State.retireLane s p).adm = s.adm ∧ (State.retireLane s p).fcs = s.fcs ∧
    (State.retireLane s p).thm = s.thm ∧ (State.retireLane s p).sns = s.sns ∧ (State.retireLane s p).dom = s.dom ∧
    (State.retireLane s p).clk = s.clk ∧ (State.retireLane s p).vrg = s.vrg ∧ (State.retireLane s p).pmb = s.pmb ∧
    (State.retireLane s p).frm = s.frm ∧ (State.retireLane s p).tre = s.tre ∧ (State.retireLane s p).aut = s.aut ∧
    (State.retireLane s p).rst = s.rst ∧ (State.retireLane s p).trc = s.trc ∧ (State.retireLane s p).stg = s.stg ∧
    (State.retireLane s p).hst = s.hst ∧ (State.retireLane s p).pairLo = s.pairLo ∧ (State.retireLane s p).now = s.now ∧
    (State.retireLane s p).free = s.free ∧ (State.retireLane s p).pending = s.pending := by
  unfold State.retireLane; simp

@[simp] theorem fcsMod (s : State) (r : Nat) (f : FcsRail → FcsRail) : (State.fcsMod s r f).cmn = s.cmn ∧
    (State.fcsMod s r f).seq = s.seq ∧ (State.fcsMod s r f).tly = s.tly ∧ (State.fcsMod s r f).adm = s.adm ∧
    (State.fcsMod s r f).beam = s.beam ∧ (State.fcsMod s r f).ctl = s.ctl ∧ (State.fcsMod s r f).thm = s.thm ∧
    (State.fcsMod s r f).sns = s.sns ∧ (State.fcsMod s r f).dom = s.dom ∧ (State.fcsMod s r f).clk = s.clk ∧
    (State.fcsMod s r f).vrg = s.vrg ∧ (State.fcsMod s r f).pmb = s.pmb ∧ (State.fcsMod s r f).frm = s.frm ∧
    (State.fcsMod s r f).tre = s.tre ∧ (State.fcsMod s r f).mbs = s.mbs ∧ (State.fcsMod s r f).mbn = s.mbn ∧
    (State.fcsMod s r f).rck = s.rck ∧ (State.fcsMod s r f).aut = s.aut ∧ (State.fcsMod s r f).rst = s.rst ∧
    (State.fcsMod s r f).rel = s.rel ∧ (State.fcsMod s r f).evt = s.evt ∧ (State.fcsMod s r f).trc = s.trc ∧
    (State.fcsMod s r f).hdr = s.hdr ∧ (State.fcsMod s r f).stg = s.stg ∧ (State.fcsMod s r f).hst = s.hst ∧
    (State.fcsMod s r f).pairLo = s.pairLo ∧ (State.fcsMod s r f).now = s.now ∧ (State.fcsMod s r f).free = s.free ∧
    (State.fcsMod s r f).pending = s.pending := by
  unfold State.fcsMod; simp

@[simp] theorem onFcs (s : State) (f : Fcs → Fcs) : (State.onFcs s f).cmn = s.cmn ∧
    (State.onFcs s f).seq = s.seq ∧ (State.onFcs s f).tly = s.tly ∧ (State.onFcs s f).adm = s.adm ∧
    (State.onFcs s f).beam = s.beam ∧ (State.onFcs s f).ctl = s.ctl ∧ (State.onFcs s f).thm = s.thm ∧
    (State.onFcs s f).sns = s.sns ∧ (State.onFcs s f).dom = s.dom ∧ (State.onFcs s f).clk = s.clk ∧
    (State.onFcs s f).vrg = s.vrg ∧ (State.onFcs s f).pmb = s.pmb ∧ (State.onFcs s f).frm = s.frm ∧
    (State.onFcs s f).tre = s.tre ∧ (State.onFcs s f).mbs = s.mbs ∧ (State.onFcs s f).mbn = s.mbn ∧
    (State.onFcs s f).rck = s.rck ∧ (State.onFcs s f).aut = s.aut ∧ (State.onFcs s f).rst = s.rst ∧
    (State.onFcs s f).rel = s.rel ∧ (State.onFcs s f).evt = s.evt ∧ (State.onFcs s f).trc = s.trc ∧
    (State.onFcs s f).hdr = s.hdr ∧ (State.onFcs s f).stg = s.stg ∧ (State.onFcs s f).hst = s.hst ∧
    (State.onFcs s f).pairLo = s.pairLo ∧ (State.onFcs s f).now = s.now ∧ (State.onFcs s f).free = s.free ∧
    (State.onFcs s f).pending = s.pending := by
  unfold State.onFcs; simp

@[simp] theorem layerStep (s : State) (l : Nat) (inp : List Int) : (State.layerStep s l inp).2.cmn = s.cmn ∧
    (State.layerStep s l inp).2.seq = s.seq ∧ (State.layerStep s l inp).2.tly = s.tly ∧
    (State.layerStep s l inp).2.adm = s.adm ∧ (State.layerStep s l inp).2.beam = s.beam ∧
    (State.layerStep s l inp).2.ctl = s.ctl ∧ (State.layerStep s l inp).2.thm = s.thm ∧
    (State.layerStep s l inp).2.sns = s.sns ∧ (State.layerStep s l inp).2.dom = s.dom ∧
    (State.layerStep s l inp).2.clk = s.clk ∧ (State.layerStep s l inp).2.vrg = s.vrg ∧
    (State.layerStep s l inp).2.pmb = s.pmb ∧ (State.layerStep s l inp).2.frm = s.frm ∧
    (State.layerStep s l inp).2.tre = s.tre ∧ (State.layerStep s l inp).2.mbs = s.mbs ∧
    (State.layerStep s l inp).2.mbn = s.mbn ∧ (State.layerStep s l inp).2.rck = s.rck ∧
    (State.layerStep s l inp).2.aut = s.aut ∧ (State.layerStep s l inp).2.rst = s.rst ∧
    (State.layerStep s l inp).2.rel = s.rel ∧ (State.layerStep s l inp).2.evt = s.evt ∧
    (State.layerStep s l inp).2.trc = s.trc ∧ (State.layerStep s l inp).2.hdr = s.hdr ∧
    (State.layerStep s l inp).2.stg = s.stg ∧ (State.layerStep s l inp).2.hst = s.hst ∧
    (State.layerStep s l inp).2.pairLo = s.pairLo ∧ (State.layerStep s l inp).2.now = s.now ∧
    (State.layerStep s l inp).2.free = s.free ∧ (State.layerStep s l inp).2.pending = s.pending := by
  unfold State.layerStep; simp

@[simp] theorem runLayers (s : State) (q : List Int) : (State.runLayers s q).2.cmn = s.cmn ∧
    (State.runLayers s q).2.seq = s.seq ∧ (State.runLayers s q).2.tly = s.tly ∧ (State.runLayers s q).2.adm = s.adm ∧
    (State.runLayers s q).2.beam = s.beam ∧ (State.runLayers s q).2.ctl = s.ctl ∧ (State.runLayers s q).2.thm = s.thm ∧
    (State.runLayers s q).2.sns = s.sns ∧ (State.runLayers s q).2.dom = s.dom ∧ (State.runLayers s q).2.clk = s.clk ∧
    (State.runLayers s q).2.vrg = s.vrg ∧ (State.runLayers s q).2.pmb = s.pmb ∧ (State.runLayers s q).2.frm = s.frm ∧
    (State.runLayers s q).2.tre = s.tre ∧ (State.runLayers s q).2.mbs = s.mbs ∧ (State.runLayers s q).2.mbn = s.mbn ∧
    (State.runLayers s q).2.rck = s.rck ∧ (State.runLayers s q).2.aut = s.aut ∧ (State.runLayers s q).2.rst = s.rst ∧
    (State.runLayers s q).2.rel = s.rel ∧ (State.runLayers s q).2.evt = s.evt ∧ (State.runLayers s q).2.trc = s.trc ∧
    (State.runLayers s q).2.hdr = s.hdr ∧ (State.runLayers s q).2.stg = s.stg ∧ (State.runLayers s q).2.hst = s.hst ∧
    (State.runLayers s q).2.pairLo = s.pairLo ∧ (State.runLayers s q).2.now = s.now ∧ (State.runLayers s q).2.free = s.free ∧
    (State.runLayers s q).2.pending = s.pending := by
  unfold State.runLayers; exact ⟨(foldl_proj (fun (x : List Int × State) => x.2.cmn) _ (by intro s a; simp) _ _),
    (foldl_proj (fun (x : List Int × State) => x.2.seq) _ (by intro s a; simp) _ _),
    (foldl_proj (fun (x : List Int × State) => x.2.tly) _ (by intro s a; simp) _ _),
    (foldl_proj (fun (x : List Int × State) => x.2.adm) _ (by intro s a; simp) _ _),
    (foldl_proj (fun (x : List Int × State) => x.2.beam) _ (by intro s a; simp) _ _),
    (foldl_proj (fun (x : List Int × State) => x.2.ctl) _ (by intro s a; simp) _ _),
    (foldl_proj (fun (x : List Int × State) => x.2.thm) _ (by intro s a; simp) _ _),
    (foldl_proj (fun (x : List Int × State) => x.2.sns) _ (by intro s a; simp) _ _),
    (foldl_proj (fun (x : List Int × State) => x.2.dom) _ (by intro s a; simp) _ _),
    (foldl_proj (fun (x : List Int × State) => x.2.clk) _ (by intro s a; simp) _ _),
    (foldl_proj (fun (x : List Int × State) => x.2.vrg) _ (by intro s a; simp) _ _),
    (foldl_proj (fun (x : List Int × State) => x.2.pmb) _ (by intro s a; simp) _ _),
    (foldl_proj (fun (x : List Int × State) => x.2.frm) _ (by intro s a; simp) _ _),
    (foldl_proj (fun (x : List Int × State) => x.2.tre) _ (by intro s a; simp) _ _),
    (foldl_proj (fun (x : List Int × State) => x.2.mbs) _ (by intro s a; simp) _ _),
    (foldl_proj (fun (x : List Int × State) => x.2.mbn) _ (by intro s a; simp) _ _),
    (foldl_proj (fun (x : List Int × State) => x.2.rck) _ (by intro s a; simp) _ _),
    (foldl_proj (fun (x : List Int × State) => x.2.aut) _ (by intro s a; simp) _ _),
    (foldl_proj (fun (x : List Int × State) => x.2.rst) _ (by intro s a; simp) _ _),
    (foldl_proj (fun (x : List Int × State) => x.2.rel) _ (by intro s a; simp) _ _),
    (foldl_proj (fun (x : List Int × State) => x.2.evt) _ (by intro s a; simp) _ _),
    (foldl_proj (fun (x : List Int × State) => x.2.trc) _ (by intro s a; simp) _ _),
    (foldl_proj (fun (x : List Int × State) => x.2.hdr) _ (by intro s a; simp) _ _),
    (foldl_proj (fun (x : List Int × State) => x.2.stg) _ (by intro s a; simp) _ _),
    (foldl_proj (fun (x : List Int × State) => x.2.hst) _ (by intro s a; simp) _ _),
    (foldl_proj (fun (x : List Int × State) => x.2.pairLo) _ (by intro s a; simp) _ _),
    (foldl_proj (fun (x : List Int × State) => x.2.now) _ (by intro s a; simp) _ _),
    (foldl_proj (fun (x : List Int × State) => x.2.free) _ (by intro s a; simp) _ _),
    (foldl_proj (fun (x : List Int × State) => x.2.pending) _ (by intro s a; simp) _ _)⟩

@[simp] theorem fcsSample (s : State) : (State.fcsSample s).cmn = s.cmn ∧ (State.fcsSample s).seq = s.seq ∧
    (State.fcsSample s).tly = s.tly ∧ (State.fcsSample s).adm = s.adm ∧ (State.fcsSample s).beam = s.beam ∧
    (State.fcsSample s).ctl = s.ctl ∧ (State.fcsSample s).thm = s.thm ∧ (State.fcsSample s).sns = s.sns ∧
    (State.fcsSample s).dom = s.dom ∧ (State.fcsSample s).clk = s.clk ∧ (State.fcsSample s).vrg = s.vrg ∧
    (State.fcsSample s).pmb = s.pmb ∧ (State.fcsSample s).frm = s.frm ∧ (State.fcsSample s).tre = s.tre ∧
    (State.fcsSample s).mbs = s.mbs ∧ (State.fcsSample s).mbn = s.mbn ∧ (State.fcsSample s).rck = s.rck ∧
    (State.fcsSample s).aut = s.aut ∧ (State.fcsSample s).rst = s.rst ∧ (State.fcsSample s).rel = s.rel ∧
    (State.fcsSample s).evt = s.evt ∧ (State.fcsSample s).trc = s.trc ∧ (State.fcsSample s).hdr = s.hdr ∧
    (State.fcsSample s).stg = s.stg ∧ (State.fcsSample s).hst = s.hst ∧ (State.fcsSample s).pairLo = s.pairLo ∧
    (State.fcsSample s).now = s.now ∧ (State.fcsSample s).free = s.free ∧ (State.fcsSample s).pending = s.pending := by
  unfold State.fcsSample; simp

@[simp] theorem frameClear (s : State) : (State.frameClear s).cmn = s.cmn ∧ (State.frameClear s).seq = s.seq ∧
    (State.frameClear s).tly = s.tly ∧ (State.frameClear s).adm = s.adm ∧ (State.frameClear s).beam = s.beam ∧
    (State.frameClear s).ctl = s.ctl ∧ (State.frameClear s).thm = s.thm ∧ (State.frameClear s).sns = s.sns ∧
    (State.frameClear s).dom = s.dom ∧ (State.frameClear s).clk = s.clk ∧ (State.frameClear s).vrg = s.vrg ∧
    (State.frameClear s).pmb = s.pmb ∧ (State.frameClear s).frm = s.frm ∧ (State.frameClear s).tre = s.tre ∧
    (State.frameClear s).mbs = s.mbs ∧ (State.frameClear s).mbn = s.mbn ∧ (State.frameClear s).rck = s.rck ∧
    (State.frameClear s).aut = s.aut ∧ (State.frameClear s).rst = s.rst ∧ (State.frameClear s).rel = s.rel ∧
    (State.frameClear s).evt = s.evt ∧ (State.frameClear s).trc = s.trc ∧ (State.frameClear s).hdr = s.hdr ∧
    (State.frameClear s).stg = s.stg ∧ (State.frameClear s).hst = s.hst ∧ (State.frameClear s).pairLo = s.pairLo ∧
    (State.frameClear s).now = s.now ∧ (State.frameClear s).free = s.free ∧ (State.frameClear s).pending = s.pending := by
  unfold State.frameClear; simp

@[simp] theorem fcsSettle (s : State) : (State.fcsSettle s).cmn = s.cmn ∧ (State.fcsSettle s).seq = s.seq ∧
    (State.fcsSettle s).tly = s.tly ∧ (State.fcsSettle s).adm = s.adm ∧ (State.fcsSettle s).beam = s.beam ∧
    (State.fcsSettle s).ctl = s.ctl ∧ (State.fcsSettle s).thm = s.thm ∧ (State.fcsSettle s).sns = s.sns ∧
    (State.fcsSettle s).dom = s.dom ∧ (State.fcsSettle s).clk = s.clk ∧ (State.fcsSettle s).vrg = s.vrg ∧
    (State.fcsSettle s).pmb = s.pmb ∧ (State.fcsSettle s).frm = s.frm ∧ (State.fcsSettle s).tre = s.tre ∧
    (State.fcsSettle s).mbs = s.mbs ∧ (State.fcsSettle s).mbn = s.mbn ∧ (State.fcsSettle s).rck = s.rck ∧
    (State.fcsSettle s).aut = s.aut ∧ (State.fcsSettle s).rst = s.rst ∧ (State.fcsSettle s).rel = s.rel ∧
    (State.fcsSettle s).trc = s.trc ∧ (State.fcsSettle s).stg = s.stg ∧ (State.fcsSettle s).hst = s.hst ∧
    (State.fcsSettle s).pairLo = s.pairLo ∧ (State.fcsSettle s).now = s.now ∧ (State.fcsSettle s).free = s.free ∧
    (State.fcsSettle s).pending = s.pending := by
  unfold State.fcsSettle; simp

@[simp] theorem winEnd (s : State) : (State.winEnd s).cmn = s.cmn ∧ (State.winEnd s).seq = s.seq ∧
    (State.winEnd s).tly = s.tly ∧ (State.winEnd s).adm = s.adm ∧ (State.winEnd s).beam = s.beam ∧
    (State.winEnd s).ctl = s.ctl ∧ (State.winEnd s).thm = s.thm ∧ (State.winEnd s).sns = s.sns ∧
    (State.winEnd s).dom = s.dom ∧ (State.winEnd s).clk = s.clk ∧ (State.winEnd s).vrg = s.vrg ∧
    (State.winEnd s).pmb = s.pmb ∧ (State.winEnd s).frm = s.frm ∧ (State.winEnd s).tre = s.tre ∧
    (State.winEnd s).mbs = s.mbs ∧ (State.winEnd s).mbn = s.mbn ∧ (State.winEnd s).rck = s.rck ∧
    (State.winEnd s).aut = s.aut ∧ (State.winEnd s).rst = s.rst ∧ (State.winEnd s).rel = s.rel ∧
    (State.winEnd s).trc = s.trc ∧ (State.winEnd s).stg = s.stg ∧ (State.winEnd s).hst = s.hst ∧
    (State.winEnd s).pairLo = s.pairLo ∧ (State.winEnd s).now = s.now ∧ (State.winEnd s).free = s.free ∧
    (State.winEnd s).pending = s.pending := by
  unfold State.winEnd; simp

@[simp] theorem trcCfg (s : State) (en : Bool) (win gap : Nat) : (State.trcCfg s en win gap).cmn = s.cmn ∧
    (State.trcCfg s en win gap).seq = s.seq ∧ (State.trcCfg s en win gap).tly = s.tly ∧
    (State.trcCfg s en win gap).adm = s.adm ∧ (State.trcCfg s en win gap).beam = s.beam ∧
    (State.trcCfg s en win gap).ctl = s.ctl ∧ (State.trcCfg s en win gap).thm = s.thm ∧
    (State.trcCfg s en win gap).sns = s.sns ∧ (State.trcCfg s en win gap).dom = s.dom ∧
    (State.trcCfg s en win gap).clk = s.clk ∧ (State.trcCfg s en win gap).vrg = s.vrg ∧
    (State.trcCfg s en win gap).pmb = s.pmb ∧ (State.trcCfg s en win gap).frm = s.frm ∧
    (State.trcCfg s en win gap).tre = s.tre ∧ (State.trcCfg s en win gap).mbs = s.mbs ∧
    (State.trcCfg s en win gap).mbn = s.mbn ∧ (State.trcCfg s en win gap).rck = s.rck ∧
    (State.trcCfg s en win gap).aut = s.aut ∧ (State.trcCfg s en win gap).rst = s.rst ∧
    (State.trcCfg s en win gap).rel = s.rel ∧ (State.trcCfg s en win gap).trc = s.trc ∧
    (State.trcCfg s en win gap).stg = s.stg ∧ (State.trcCfg s en win gap).hst = s.hst ∧
    (State.trcCfg s en win gap).pairLo = s.pairLo ∧ (State.trcCfg s en win gap).now = s.now ∧
    (State.trcCfg s en win gap).free = s.free ∧ (State.trcCfg s en win gap).pending = s.pending := by
  unfold State.trcCfg; simp

@[simp] theorem winBegin (s : State) : (State.winBegin s).cmn = s.cmn ∧ (State.winBegin s).seq = s.seq ∧
    (State.winBegin s).tly = s.tly ∧ (State.winBegin s).adm = s.adm ∧ (State.winBegin s).beam = s.beam ∧
    (State.winBegin s).ctl = s.ctl ∧ (State.winBegin s).thm = s.thm ∧ (State.winBegin s).sns = s.sns ∧
    (State.winBegin s).dom = s.dom ∧ (State.winBegin s).clk = s.clk ∧ (State.winBegin s).vrg = s.vrg ∧
    (State.winBegin s).pmb = s.pmb ∧ (State.winBegin s).frm = s.frm ∧ (State.winBegin s).tre = s.tre ∧
    (State.winBegin s).mbs = s.mbs ∧ (State.winBegin s).mbn = s.mbn ∧ (State.winBegin s).rck = s.rck ∧
    (State.winBegin s).aut = s.aut ∧ (State.winBegin s).rst = s.rst ∧ (State.winBegin s).rel = s.rel ∧
    (State.winBegin s).evt = s.evt ∧ (State.winBegin s).trc = s.trc ∧ (State.winBegin s).hdr = s.hdr ∧
    (State.winBegin s).stg = s.stg ∧ (State.winBegin s).hst = s.hst ∧ (State.winBegin s).pairLo = s.pairLo ∧
    (State.winBegin s).now = s.now ∧ (State.winBegin s).free = s.free ∧ (State.winBegin s).pending = s.pending := by
  unfold State.winBegin; simp

@[simp] theorem frameTrace (s : State) (f : FcsFrame) (abandoned : Bool) : (State.frameTrace s f abandoned).cmn = s.cmn ∧ (State.frameTrace s f abandoned).seq = s.seq ∧ (State.frameTrace s f abandoned).tly = s.tly ∧ (State.frameTrace s f abandoned).adm = s.adm ∧ (State.frameTrace s f abandoned).beam = s.beam ∧ (State.frameTrace s f abandoned).ctl = s.ctl ∧ (State.frameTrace s f abandoned).thm = s.thm ∧ (State.frameTrace s f abandoned).sns = s.sns ∧ (State.frameTrace s f abandoned).dom = s.dom ∧ (State.frameTrace s f abandoned).clk = s.clk ∧ (State.frameTrace s f abandoned).vrg = s.vrg ∧ (State.frameTrace s f abandoned).pmb = s.pmb ∧ (State.frameTrace s f abandoned).frm = s.frm ∧ (State.frameTrace s f abandoned).tre = s.tre ∧ (State.frameTrace s f abandoned).mbs = s.mbs ∧ (State.frameTrace s f abandoned).mbn = s.mbn ∧ (State.frameTrace s f abandoned).rck = s.rck ∧ (State.frameTrace s f abandoned).aut = s.aut ∧ (State.frameTrace s f abandoned).rst = s.rst ∧ (State.frameTrace s f abandoned).rel = s.rel ∧ (State.frameTrace s f abandoned).stg = s.stg ∧ (State.frameTrace s f abandoned).hst = s.hst ∧ (State.frameTrace s f abandoned).pairLo = s.pairLo ∧ (State.frameTrace s f abandoned).now = s.now ∧ (State.frameTrace s f abandoned).free = s.free ∧ (State.frameTrace s f abandoned).pending = s.pending := by
  unfold State.frameTrace; simp

@[simp] theorem warmup (s : State) : (State.warmup s).cmn = s.cmn ∧ (State.warmup s).seq = s.seq ∧
    (State.warmup s).tly = s.tly ∧ (State.warmup s).adm = s.adm ∧ (State.warmup s).beam = s.beam ∧
    (State.warmup s).ctl = s.ctl ∧ (State.warmup s).thm = s.thm ∧ (State.warmup s).sns = s.sns ∧
    (State.warmup s).dom = s.dom ∧ (State.warmup s).clk = s.clk ∧ (State.warmup s).vrg = s.vrg ∧
    (State.warmup s).pmb = s.pmb ∧ (State.warmup s).frm = s.frm ∧ (State.warmup s).tre = s.tre ∧
    (State.warmup s).mbs = s.mbs ∧ (State.warmup s).mbn = s.mbn ∧ (State.warmup s).rck = s.rck ∧
    (State.warmup s).aut = s.aut ∧ (State.warmup s).rst = s.rst ∧ (State.warmup s).rel = s.rel ∧
    (State.warmup s).evt = s.evt ∧ (State.warmup s).trc = s.trc ∧ (State.warmup s).hdr = s.hdr ∧
    (State.warmup s).stg = s.stg ∧ (State.warmup s).hst = s.hst ∧ (State.warmup s).pairLo = s.pairLo ∧
    (State.warmup s).now = s.now ∧ (State.warmup s).free = s.free ∧ (State.warmup s).pending = s.pending := by
  unfold State.warmup; simp

@[simp] theorem evalAbandon (s : State) : (State.evalAbandon s).cmn = s.cmn ∧ (State.evalAbandon s).seq = s.seq ∧
    (State.evalAbandon s).tly = s.tly ∧ (State.evalAbandon s).adm = s.adm ∧ (State.evalAbandon s).beam = s.beam ∧
    (State.evalAbandon s).ctl = s.ctl ∧ (State.evalAbandon s).thm = s.thm ∧ (State.evalAbandon s).sns = s.sns ∧
    (State.evalAbandon s).dom = s.dom ∧ (State.evalAbandon s).clk = s.clk ∧ (State.evalAbandon s).vrg = s.vrg ∧
    (State.evalAbandon s).pmb = s.pmb ∧ (State.evalAbandon s).frm = s.frm ∧ (State.evalAbandon s).tre = s.tre ∧
    (State.evalAbandon s).mbs = s.mbs ∧ (State.evalAbandon s).mbn = s.mbn ∧ (State.evalAbandon s).rck = s.rck ∧
    (State.evalAbandon s).aut = s.aut ∧ (State.evalAbandon s).rst = s.rst ∧ (State.evalAbandon s).rel = s.rel ∧
    (State.evalAbandon s).stg = s.stg ∧ (State.evalAbandon s).hst = s.hst ∧ (State.evalAbandon s).pairLo = s.pairLo ∧
    (State.evalAbandon s).now = s.now ∧ (State.evalAbandon s).free = s.free ∧ (State.evalAbandon s).pending = s.pending := by
  unfold State.evalAbandon; split <;> simp

@[simp] theorem evalMiss (s : State) : (State.evalMiss s).cmn = s.cmn ∧ (State.evalMiss s).seq = s.seq ∧
    (State.evalMiss s).tly = s.tly ∧ (State.evalMiss s).adm = s.adm ∧ (State.evalMiss s).beam = s.beam ∧
    (State.evalMiss s).ctl = s.ctl ∧ (State.evalMiss s).thm = s.thm ∧ (State.evalMiss s).sns = s.sns ∧
    (State.evalMiss s).dom = s.dom ∧ (State.evalMiss s).clk = s.clk ∧ (State.evalMiss s).vrg = s.vrg ∧
    (State.evalMiss s).pmb = s.pmb ∧ (State.evalMiss s).frm = s.frm ∧ (State.evalMiss s).tre = s.tre ∧
    (State.evalMiss s).mbs = s.mbs ∧ (State.evalMiss s).mbn = s.mbn ∧ (State.evalMiss s).rck = s.rck ∧
    (State.evalMiss s).aut = s.aut ∧ (State.evalMiss s).rst = s.rst ∧ (State.evalMiss s).rel = s.rel ∧
    (State.evalMiss s).stg = s.stg ∧ (State.evalMiss s).hst = s.hst ∧ (State.evalMiss s).pairLo = s.pairLo ∧
    (State.evalMiss s).now = s.now ∧ (State.evalMiss s).free = s.free ∧ (State.evalMiss s).pending = s.pending := by
  unfold State.evalMiss; simp

@[simp] theorem scoreRail (s : State) (ev : FcsEval) (l1 l4 : FcsLabel) (r : Nat) : (State.scoreRail s ev l1 l4 r).cmn = s.cmn ∧ (State.scoreRail s ev l1 l4 r).seq = s.seq ∧ (State.scoreRail s ev l1 l4 r).tly = s.tly ∧ (State.scoreRail s ev l1 l4 r).adm = s.adm ∧ (State.scoreRail s ev l1 l4 r).beam = s.beam ∧ (State.scoreRail s ev l1 l4 r).ctl = s.ctl ∧ (State.scoreRail s ev l1 l4 r).thm = s.thm ∧ (State.scoreRail s ev l1 l4 r).sns = s.sns ∧ (State.scoreRail s ev l1 l4 r).dom = s.dom ∧ (State.scoreRail s ev l1 l4 r).clk = s.clk ∧ (State.scoreRail s ev l1 l4 r).vrg = s.vrg ∧ (State.scoreRail s ev l1 l4 r).pmb = s.pmb ∧ (State.scoreRail s ev l1 l4 r).frm = s.frm ∧ (State.scoreRail s ev l1 l4 r).tre = s.tre ∧ (State.scoreRail s ev l1 l4 r).mbs = s.mbs ∧ (State.scoreRail s ev l1 l4 r).mbn = s.mbn ∧ (State.scoreRail s ev l1 l4 r).rck = s.rck ∧ (State.scoreRail s ev l1 l4 r).aut = s.aut ∧ (State.scoreRail s ev l1 l4 r).rst = s.rst ∧ (State.scoreRail s ev l1 l4 r).rel = s.rel ∧ (State.scoreRail s ev l1 l4 r).trc = s.trc ∧ (State.scoreRail s ev l1 l4 r).stg = s.stg ∧ (State.scoreRail s ev l1 l4 r).hst = s.hst ∧ (State.scoreRail s ev l1 l4 r).pairLo = s.pairLo ∧ (State.scoreRail s ev l1 l4 r).now = s.now ∧ (State.scoreRail s ev l1 l4 r).free = s.free ∧ (State.scoreRail s ev l1 l4 r).pending = s.pending := by
  unfold State.scoreRail; simp

@[simp] theorem scoreNow (s : State) : (State.scoreNow s).cmn = s.cmn ∧ (State.scoreNow s).seq = s.seq ∧
    (State.scoreNow s).tly = s.tly ∧ (State.scoreNow s).adm = s.adm ∧ (State.scoreNow s).beam = s.beam ∧
    (State.scoreNow s).ctl = s.ctl ∧ (State.scoreNow s).thm = s.thm ∧ (State.scoreNow s).sns = s.sns ∧
    (State.scoreNow s).dom = s.dom ∧ (State.scoreNow s).clk = s.clk ∧ (State.scoreNow s).vrg = s.vrg ∧
    (State.scoreNow s).pmb = s.pmb ∧ (State.scoreNow s).frm = s.frm ∧ (State.scoreNow s).tre = s.tre ∧
    (State.scoreNow s).mbs = s.mbs ∧ (State.scoreNow s).mbn = s.mbn ∧ (State.scoreNow s).rck = s.rck ∧
    (State.scoreNow s).aut = s.aut ∧ (State.scoreNow s).rst = s.rst ∧ (State.scoreNow s).rel = s.rel ∧
    (State.scoreNow s).trc = s.trc ∧ (State.scoreNow s).stg = s.stg ∧ (State.scoreNow s).hst = s.hst ∧
    (State.scoreNow s).pairLo = s.pairLo ∧ (State.scoreNow s).now = s.now ∧ (State.scoreNow s).free = s.free ∧
    (State.scoreNow s).pending = s.pending := by
  unfold State.scoreNow; split <;> simp

@[simp] theorem weightFault (s : State) (off : Nat) (again : Bool) : (State.weightFault s off again).cmn = s.cmn ∧ (State.weightFault s off again).tly = s.tly ∧ (State.weightFault s off again).adm = s.adm ∧ (State.weightFault s off again).beam = s.beam ∧ (State.weightFault s off again).ctl = s.ctl ∧ (State.weightFault s off again).sns = s.sns ∧ (State.weightFault s off again).dom = s.dom ∧ (State.weightFault s off again).clk = s.clk ∧ (State.weightFault s off again).vrg = s.vrg ∧ (State.weightFault s off again).pmb = s.pmb ∧ (State.weightFault s off again).frm = s.frm ∧ (State.weightFault s off again).tre = s.tre ∧ (State.weightFault s off again).aut = s.aut ∧ (State.weightFault s off again).rst = s.rst ∧ (State.weightFault s off again).stg = s.stg ∧ (State.weightFault s off again).hst = s.hst ∧ (State.weightFault s off again).pairLo = s.pairLo ∧ (State.weightFault s off again).now = s.now ∧ (State.weightFault s off again).free = s.free ∧ (State.weightFault s off again).pending = s.pending := by
  unfold State.weightFault; simp

@[simp] theorem evalStart (s : State) (bad : Option Nat) : (State.evalStart s bad).cmn = s.cmn ∧
    (State.evalStart s bad).tly = s.tly ∧ (State.evalStart s bad).adm = s.adm ∧ (State.evalStart s bad).beam = s.beam ∧
    (State.evalStart s bad).ctl = s.ctl ∧ (State.evalStart s bad).sns = s.sns ∧ (State.evalStart s bad).dom = s.dom ∧
    (State.evalStart s bad).clk = s.clk ∧ (State.evalStart s bad).vrg = s.vrg ∧ (State.evalStart s bad).pmb = s.pmb ∧
    (State.evalStart s bad).frm = s.frm ∧ (State.evalStart s bad).tre = s.tre ∧ (State.evalStart s bad).aut = s.aut ∧
    (State.evalStart s bad).rst = s.rst ∧ (State.evalStart s bad).stg = s.stg ∧ (State.evalStart s bad).hst = s.hst ∧
    (State.evalStart s bad).pairLo = s.pairLo ∧ (State.evalStart s bad).now = s.now ∧ (State.evalStart s bad).free = s.free ∧
    (State.evalStart s bad).pending = s.pending := by
  unfold State.evalStart; split <;> simp

@[simp] theorem fcsPresent (s : State) : (State.fcsPresent s).cmn = s.cmn ∧ (State.fcsPresent s).seq = s.seq ∧
    (State.fcsPresent s).tly = s.tly ∧ (State.fcsPresent s).adm = s.adm ∧ (State.fcsPresent s).beam = s.beam ∧
    (State.fcsPresent s).ctl = s.ctl ∧ (State.fcsPresent s).thm = s.thm ∧ (State.fcsPresent s).sns = s.sns ∧
    (State.fcsPresent s).dom = s.dom ∧ (State.fcsPresent s).clk = s.clk ∧ (State.fcsPresent s).vrg = s.vrg ∧
    (State.fcsPresent s).pmb = s.pmb ∧ (State.fcsPresent s).frm = s.frm ∧ (State.fcsPresent s).tre = s.tre ∧
    (State.fcsPresent s).mbs = s.mbs ∧ (State.fcsPresent s).mbn = s.mbn ∧ (State.fcsPresent s).rck = s.rck ∧
    (State.fcsPresent s).aut = s.aut ∧ (State.fcsPresent s).rst = s.rst ∧ (State.fcsPresent s).rel = s.rel ∧
    (State.fcsPresent s).evt = s.evt ∧ (State.fcsPresent s).trc = s.trc ∧ (State.fcsPresent s).hdr = s.hdr ∧
    (State.fcsPresent s).stg = s.stg ∧ (State.fcsPresent s).hst = s.hst ∧ (State.fcsPresent s).pairLo = s.pairLo ∧
    (State.fcsPresent s).now = s.now ∧ (State.fcsPresent s).free = s.free ∧ (State.fcsPresent s).pending = s.pending := by
  unfold State.fcsPresent; split <;> simp

@[simp] theorem histClear (s : State) : (State.histClear s).cmn = s.cmn ∧ (State.histClear s).seq = s.seq ∧
    (State.histClear s).tly = s.tly ∧ (State.histClear s).adm = s.adm ∧ (State.histClear s).beam = s.beam ∧
    (State.histClear s).ctl = s.ctl ∧ (State.histClear s).thm = s.thm ∧ (State.histClear s).sns = s.sns ∧
    (State.histClear s).dom = s.dom ∧ (State.histClear s).clk = s.clk ∧ (State.histClear s).vrg = s.vrg ∧
    (State.histClear s).pmb = s.pmb ∧ (State.histClear s).frm = s.frm ∧ (State.histClear s).tre = s.tre ∧
    (State.histClear s).mbs = s.mbs ∧ (State.histClear s).mbn = s.mbn ∧ (State.histClear s).rck = s.rck ∧
    (State.histClear s).aut = s.aut ∧ (State.histClear s).rst = s.rst ∧ (State.histClear s).rel = s.rel ∧
    (State.histClear s).evt = s.evt ∧ (State.histClear s).trc = s.trc ∧ (State.histClear s).hdr = s.hdr ∧
    (State.histClear s).stg = s.stg ∧ (State.histClear s).hst = s.hst ∧ (State.histClear s).pairLo = s.pairLo ∧
    (State.histClear s).now = s.now ∧ (State.histClear s).free = s.free ∧ (State.histClear s).pending = s.pending := by
  unfold State.histClear; simp

@[simp] theorem fcsBound (s : State) : (State.fcsBound s).cmn = s.cmn ∧ (State.fcsBound s).seq = s.seq ∧
    (State.fcsBound s).tly = s.tly ∧ (State.fcsBound s).adm = s.adm ∧ (State.fcsBound s).beam = s.beam ∧
    (State.fcsBound s).ctl = s.ctl ∧ (State.fcsBound s).thm = s.thm ∧ (State.fcsBound s).sns = s.sns ∧
    (State.fcsBound s).dom = s.dom ∧ (State.fcsBound s).clk = s.clk ∧ (State.fcsBound s).vrg = s.vrg ∧
    (State.fcsBound s).pmb = s.pmb ∧ (State.fcsBound s).frm = s.frm ∧ (State.fcsBound s).tre = s.tre ∧
    (State.fcsBound s).mbs = s.mbs ∧ (State.fcsBound s).mbn = s.mbn ∧ (State.fcsBound s).rck = s.rck ∧
    (State.fcsBound s).aut = s.aut ∧ (State.fcsBound s).rst = s.rst ∧ (State.fcsBound s).rel = s.rel ∧
    (State.fcsBound s).trc = s.trc ∧ (State.fcsBound s).stg = s.stg ∧ (State.fcsBound s).hst = s.hst ∧
    (State.fcsBound s).pairLo = s.pairLo ∧ (State.fcsBound s).now = s.now ∧ (State.fcsBound s).free = s.free ∧
    (State.fcsBound s).pending = s.pending := by
  unfold State.fcsBound; simp

@[simp] theorem copyStart (s : State) : (State.copyStart s).cmn = s.cmn ∧ (State.copyStart s).seq = s.seq ∧
    (State.copyStart s).tly = s.tly ∧ (State.copyStart s).adm = s.adm ∧ (State.copyStart s).beam = s.beam ∧
    (State.copyStart s).ctl = s.ctl ∧ (State.copyStart s).thm = s.thm ∧ (State.copyStart s).sns = s.sns ∧
    (State.copyStart s).dom = s.dom ∧ (State.copyStart s).clk = s.clk ∧ (State.copyStart s).vrg = s.vrg ∧
    (State.copyStart s).pmb = s.pmb ∧ (State.copyStart s).frm = s.frm ∧ (State.copyStart s).tre = s.tre ∧
    (State.copyStart s).mbs = s.mbs ∧ (State.copyStart s).mbn = s.mbn ∧ (State.copyStart s).rck = s.rck ∧
    (State.copyStart s).aut = s.aut ∧ (State.copyStart s).rst = s.rst ∧ (State.copyStart s).rel = s.rel ∧
    (State.copyStart s).stg = s.stg ∧ (State.copyStart s).hst = s.hst ∧ (State.copyStart s).pairLo = s.pairLo ∧
    (State.copyStart s).now = s.now ∧ (State.copyStart s).free = s.free ∧ (State.copyStart s).pending = s.pending := by
  unfold State.copyStart; simp

@[simp] theorem fcsSwap (s : State) : (State.fcsSwap s).cmn = s.cmn ∧ (State.fcsSwap s).seq = s.seq ∧
    (State.fcsSwap s).tly = s.tly ∧ (State.fcsSwap s).adm = s.adm ∧ (State.fcsSwap s).beam = s.beam ∧
    (State.fcsSwap s).ctl = s.ctl ∧ (State.fcsSwap s).thm = s.thm ∧ (State.fcsSwap s).sns = s.sns ∧
    (State.fcsSwap s).dom = s.dom ∧ (State.fcsSwap s).clk = s.clk ∧ (State.fcsSwap s).vrg = s.vrg ∧
    (State.fcsSwap s).pmb = s.pmb ∧ (State.fcsSwap s).frm = s.frm ∧ (State.fcsSwap s).tre = s.tre ∧
    (State.fcsSwap s).mbs = s.mbs ∧ (State.fcsSwap s).mbn = s.mbn ∧ (State.fcsSwap s).rck = s.rck ∧
    (State.fcsSwap s).aut = s.aut ∧ (State.fcsSwap s).rst = s.rst ∧ (State.fcsSwap s).rel = s.rel ∧
    (State.fcsSwap s).stg = s.stg ∧ (State.fcsSwap s).hst = s.hst ∧ (State.fcsSwap s).pairLo = s.pairLo ∧
    (State.fcsSwap s).now = s.now ∧ (State.fcsSwap s).free = s.free ∧ (State.fcsSwap s).pending = s.pending := by
  unfold State.fcsSwap; simp

@[simp] theorem fcsStop (s : State) : (State.fcsStop s).cmn = s.cmn ∧ (State.fcsStop s).seq = s.seq ∧
    (State.fcsStop s).tly = s.tly ∧ (State.fcsStop s).adm = s.adm ∧ (State.fcsStop s).beam = s.beam ∧
    (State.fcsStop s).ctl = s.ctl ∧ (State.fcsStop s).thm = s.thm ∧ (State.fcsStop s).sns = s.sns ∧
    (State.fcsStop s).dom = s.dom ∧ (State.fcsStop s).clk = s.clk ∧ (State.fcsStop s).vrg = s.vrg ∧
    (State.fcsStop s).pmb = s.pmb ∧ (State.fcsStop s).frm = s.frm ∧ (State.fcsStop s).tre = s.tre ∧
    (State.fcsStop s).mbs = s.mbs ∧ (State.fcsStop s).mbn = s.mbn ∧ (State.fcsStop s).rck = s.rck ∧
    (State.fcsStop s).aut = s.aut ∧ (State.fcsStop s).rst = s.rst ∧ (State.fcsStop s).rel = s.rel ∧
    (State.fcsStop s).evt = s.evt ∧ (State.fcsStop s).trc = s.trc ∧ (State.fcsStop s).hdr = s.hdr ∧
    (State.fcsStop s).stg = s.stg ∧ (State.fcsStop s).hst = s.hst ∧ (State.fcsStop s).pairLo = s.pairLo ∧
    (State.fcsStop s).now = s.now ∧ (State.fcsStop s).free = s.free ∧ (State.fcsStop s).pending = s.pending := by
  unfold State.fcsStop; simp

@[simp] theorem fcsBoundary (s : State) : (State.fcsBoundary s).cmn = s.cmn ∧ (State.fcsBoundary s).seq = s.seq ∧
    (State.fcsBoundary s).tly = s.tly ∧ (State.fcsBoundary s).adm = s.adm ∧ (State.fcsBoundary s).beam = s.beam ∧
    (State.fcsBoundary s).ctl = s.ctl ∧ (State.fcsBoundary s).thm = s.thm ∧ (State.fcsBoundary s).sns = s.sns ∧
    (State.fcsBoundary s).dom = s.dom ∧ (State.fcsBoundary s).clk = s.clk ∧ (State.fcsBoundary s).vrg = s.vrg ∧
    (State.fcsBoundary s).pmb = s.pmb ∧ (State.fcsBoundary s).frm = s.frm ∧ (State.fcsBoundary s).tre = s.tre ∧
    (State.fcsBoundary s).mbs = s.mbs ∧ (State.fcsBoundary s).mbn = s.mbn ∧ (State.fcsBoundary s).rck = s.rck ∧
    (State.fcsBoundary s).aut = s.aut ∧ (State.fcsBoundary s).rst = s.rst ∧ (State.fcsBoundary s).rel = s.rel ∧
    (State.fcsBoundary s).stg = s.stg ∧ (State.fcsBoundary s).hst = s.hst ∧ (State.fcsBoundary s).pairLo = s.pairLo ∧
    (State.fcsBoundary s).now = s.now ∧ (State.fcsBoundary s).free = s.free ∧ (State.fcsBoundary s).pending = s.pending := by
  unfold State.fcsBoundary; split <;> simp

@[simp] theorem fcsDrain (s : State) : (State.fcsDrain s).cmn = s.cmn ∧ (State.fcsDrain s).seq = s.seq ∧
    (State.fcsDrain s).tly = s.tly ∧ (State.fcsDrain s).adm = s.adm ∧ (State.fcsDrain s).beam = s.beam ∧
    (State.fcsDrain s).ctl = s.ctl ∧ (State.fcsDrain s).thm = s.thm ∧ (State.fcsDrain s).sns = s.sns ∧
    (State.fcsDrain s).dom = s.dom ∧ (State.fcsDrain s).clk = s.clk ∧ (State.fcsDrain s).vrg = s.vrg ∧
    (State.fcsDrain s).pmb = s.pmb ∧ (State.fcsDrain s).frm = s.frm ∧ (State.fcsDrain s).tre = s.tre ∧
    (State.fcsDrain s).mbs = s.mbs ∧ (State.fcsDrain s).mbn = s.mbn ∧ (State.fcsDrain s).rck = s.rck ∧
    (State.fcsDrain s).aut = s.aut ∧ (State.fcsDrain s).rst = s.rst ∧ (State.fcsDrain s).rel = s.rel ∧
    (State.fcsDrain s).evt = s.evt ∧ (State.fcsDrain s).trc = s.trc ∧ (State.fcsDrain s).hdr = s.hdr ∧
    (State.fcsDrain s).stg = s.stg ∧ (State.fcsDrain s).hst = s.hst ∧ (State.fcsDrain s).pairLo = s.pairLo ∧
    (State.fcsDrain s).now = s.now ∧ (State.fcsDrain s).free = s.free ∧ (State.fcsDrain s).pending = s.pending := by
  unfold State.fcsDrain; simp

@[simp] theorem retireDueLanes (s : State) : (State.retireDueLanes s).cmn = s.cmn ∧
    (State.retireDueLanes s).tly = s.tly ∧ (State.retireDueLanes s).adm = s.adm ∧ (State.retireDueLanes s).thm = s.thm ∧
    (State.retireDueLanes s).sns = s.sns ∧ (State.retireDueLanes s).dom = s.dom ∧ (State.retireDueLanes s).clk = s.clk ∧
    (State.retireDueLanes s).vrg = s.vrg ∧ (State.retireDueLanes s).pmb = s.pmb ∧ (State.retireDueLanes s).frm = s.frm ∧
    (State.retireDueLanes s).tre = s.tre ∧ (State.retireDueLanes s).aut = s.aut ∧ (State.retireDueLanes s).rst = s.rst ∧
    (State.retireDueLanes s).trc = s.trc ∧ (State.retireDueLanes s).stg = s.stg ∧ (State.retireDueLanes s).hst = s.hst ∧
    (State.retireDueLanes s).pairLo = s.pairLo ∧ (State.retireDueLanes s).now = s.now ∧
    (State.retireDueLanes s).free = s.free ∧ (State.retireDueLanes s).pending = s.pending := by
  unfold State.retireDueLanes; simp

end Pages
end

