-- ==== Sys2Proof/Laws/PagesThermal.lean ====
section
/-! SUPPORT. Which pages of State each operation leaves alone: the thermal layer and the sensors. One lemma for each operation, a conjunction
over every page the operation does not write, tagged simp so that no later proof unfolds the operation for them. -/

set_option linter.unusedSimpArgs false

namespace Pages

open Sys2Proof Sys2Proof.Machine

@[simp] theorem grpMod (s : State) (g : Nat) (f : ThmGrp → ThmGrp) : (State.grpMod s g f).cmn = s.cmn ∧
    (State.grpMod s g f).seq = s.seq ∧ (State.grpMod s g f).tly = s.tly ∧ (State.grpMod s g f).adm = s.adm ∧
    (State.grpMod s g f).beam = s.beam ∧ (State.grpMod s g f).ctl = s.ctl ∧ (State.grpMod s g f).fcs = s.fcs ∧
    (State.grpMod s g f).sns = s.sns ∧ (State.grpMod s g f).dom = s.dom ∧ (State.grpMod s g f).clk = s.clk ∧
    (State.grpMod s g f).vrg = s.vrg ∧ (State.grpMod s g f).pmb = s.pmb ∧ (State.grpMod s g f).frm = s.frm ∧
    (State.grpMod s g f).tre = s.tre ∧ (State.grpMod s g f).mbs = s.mbs ∧ (State.grpMod s g f).mbn = s.mbn ∧
    (State.grpMod s g f).rck = s.rck ∧ (State.grpMod s g f).aut = s.aut ∧ (State.grpMod s g f).rst = s.rst ∧
    (State.grpMod s g f).rel = s.rel ∧ (State.grpMod s g f).evt = s.evt ∧ (State.grpMod s g f).trc = s.trc ∧
    (State.grpMod s g f).hdr = s.hdr ∧ (State.grpMod s g f).stg = s.stg ∧ (State.grpMod s g f).hst = s.hst ∧
    (State.grpMod s g f).pairLo = s.pairLo ∧ (State.grpMod s g f).now = s.now ∧ (State.grpMod s g f).free = s.free ∧
    (State.grpMod s g f).pending = s.pending := by
  unfold State.grpMod; simp

@[simp] theorem stkMod (s : State) (k : Nat) (f : ThmStk → ThmStk) : (State.stkMod s k f).cmn = s.cmn ∧
    (State.stkMod s k f).seq = s.seq ∧ (State.stkMod s k f).tly = s.tly ∧ (State.stkMod s k f).adm = s.adm ∧
    (State.stkMod s k f).beam = s.beam ∧ (State.stkMod s k f).ctl = s.ctl ∧ (State.stkMod s k f).fcs = s.fcs ∧
    (State.stkMod s k f).sns = s.sns ∧ (State.stkMod s k f).dom = s.dom ∧ (State.stkMod s k f).clk = s.clk ∧
    (State.stkMod s k f).vrg = s.vrg ∧ (State.stkMod s k f).pmb = s.pmb ∧ (State.stkMod s k f).frm = s.frm ∧
    (State.stkMod s k f).tre = s.tre ∧ (State.stkMod s k f).mbs = s.mbs ∧ (State.stkMod s k f).mbn = s.mbn ∧
    (State.stkMod s k f).rck = s.rck ∧ (State.stkMod s k f).aut = s.aut ∧ (State.stkMod s k f).rst = s.rst ∧
    (State.stkMod s k f).rel = s.rel ∧ (State.stkMod s k f).evt = s.evt ∧ (State.stkMod s k f).trc = s.trc ∧
    (State.stkMod s k f).hdr = s.hdr ∧ (State.stkMod s k f).stg = s.stg ∧ (State.stkMod s k f).hst = s.hst ∧
    (State.stkMod s k f).pairLo = s.pairLo ∧ (State.stkMod s k f).now = s.now ∧ (State.stkMod s k f).free = s.free ∧
    (State.stkMod s k f).pending = s.pending := by
  unfold State.stkMod; simp

@[simp] theorem onThm (s : State) (f : Thm → Thm) : (State.onThm s f).cmn = s.cmn ∧
    (State.onThm s f).seq = s.seq ∧ (State.onThm s f).tly = s.tly ∧ (State.onThm s f).adm = s.adm ∧
    (State.onThm s f).beam = s.beam ∧ (State.onThm s f).ctl = s.ctl ∧ (State.onThm s f).fcs = s.fcs ∧
    (State.onThm s f).sns = s.sns ∧ (State.onThm s f).dom = s.dom ∧ (State.onThm s f).clk = s.clk ∧
    (State.onThm s f).vrg = s.vrg ∧ (State.onThm s f).pmb = s.pmb ∧ (State.onThm s f).frm = s.frm ∧
    (State.onThm s f).tre = s.tre ∧ (State.onThm s f).mbs = s.mbs ∧ (State.onThm s f).mbn = s.mbn ∧
    (State.onThm s f).rck = s.rck ∧ (State.onThm s f).aut = s.aut ∧ (State.onThm s f).rst = s.rst ∧
    (State.onThm s f).rel = s.rel ∧ (State.onThm s f).evt = s.evt ∧ (State.onThm s f).trc = s.trc ∧
    (State.onThm s f).hdr = s.hdr ∧ (State.onThm s f).stg = s.stg ∧ (State.onThm s f).hst = s.hst ∧
    (State.onThm s f).pairLo = s.pairLo ∧ (State.onThm s f).now = s.now ∧ (State.onThm s f).free = s.free ∧
    (State.onThm s f).pending = s.pending := by
  unfold State.onThm; simp

@[simp] theorem ladderDom (s : State) (sweep : Bool) (c : Nat) : (State.ladderDom s sweep c).cmn = s.cmn ∧
    (State.ladderDom s sweep c).seq = s.seq ∧ (State.ladderDom s sweep c).tly = s.tly ∧
    (State.ladderDom s sweep c).adm = s.adm ∧ (State.ladderDom s sweep c).beam = s.beam ∧
    (State.ladderDom s sweep c).ctl = s.ctl ∧ (State.ladderDom s sweep c).fcs = s.fcs ∧
    (State.ladderDom s sweep c).sns = s.sns ∧ (State.ladderDom s sweep c).dom = s.dom ∧
    (State.ladderDom s sweep c).clk = s.clk ∧ (State.ladderDom s sweep c).vrg = s.vrg ∧
    (State.ladderDom s sweep c).pmb = s.pmb ∧ (State.ladderDom s sweep c).frm = s.frm ∧
    (State.ladderDom s sweep c).tre = s.tre ∧ (State.ladderDom s sweep c).mbs = s.mbs ∧
    (State.ladderDom s sweep c).mbn = s.mbn ∧ (State.ladderDom s sweep c).rck = s.rck ∧
    (State.ladderDom s sweep c).aut = s.aut ∧ (State.ladderDom s sweep c).rst = s.rst ∧
    (State.ladderDom s sweep c).rel = s.rel ∧ (State.ladderDom s sweep c).trc = s.trc ∧
    (State.ladderDom s sweep c).stg = s.stg ∧ (State.ladderDom s sweep c).hst = s.hst ∧
    (State.ladderDom s sweep c).pairLo = s.pairLo ∧ (State.ladderDom s sweep c).now = s.now ∧
    (State.ladderDom s sweep c).free = s.free ∧ (State.ladderDom s sweep c).pending = s.pending := by
  unfold State.ladderDom; dsimp only; (repeat' split) <;> simp

@[simp] theorem ladder (s : State) (sweep : Bool) : (State.ladder s sweep).cmn = s.cmn ∧
    (State.ladder s sweep).seq = s.seq ∧ (State.ladder s sweep).tly = s.tly ∧ (State.ladder s sweep).adm = s.adm ∧
    (State.ladder s sweep).beam = s.beam ∧ (State.ladder s sweep).ctl = s.ctl ∧ (State.ladder s sweep).fcs = s.fcs ∧
    (State.ladder s sweep).sns = s.sns ∧ (State.ladder s sweep).dom = s.dom ∧ (State.ladder s sweep).clk = s.clk ∧
    (State.ladder s sweep).vrg = s.vrg ∧ (State.ladder s sweep).pmb = s.pmb ∧ (State.ladder s sweep).frm = s.frm ∧
    (State.ladder s sweep).tre = s.tre ∧ (State.ladder s sweep).mbs = s.mbs ∧ (State.ladder s sweep).mbn = s.mbn ∧
    (State.ladder s sweep).rck = s.rck ∧ (State.ladder s sweep).aut = s.aut ∧ (State.ladder s sweep).rst = s.rst ∧
    (State.ladder s sweep).rel = s.rel ∧ (State.ladder s sweep).trc = s.trc ∧ (State.ladder s sweep).stg = s.stg ∧
    (State.ladder s sweep).hst = s.hst ∧ (State.ladder s sweep).pairLo = s.pairLo ∧ (State.ladder s sweep).now = s.now ∧
    (State.ladder s sweep).free = s.free ∧ (State.ladder s sweep).pending = s.pending := by
  unfold State.ladder; simp

@[simp] theorem hotCheck (s : State) : (State.hotCheck s).cmn = s.cmn ∧ (State.hotCheck s).seq = s.seq ∧
    (State.hotCheck s).tly = s.tly ∧ (State.hotCheck s).adm = s.adm ∧ (State.hotCheck s).ctl = s.ctl ∧
    (State.hotCheck s).fcs = s.fcs ∧ (State.hotCheck s).sns = s.sns ∧ (State.hotCheck s).dom = s.dom ∧
    (State.hotCheck s).clk = s.clk ∧ (State.hotCheck s).vrg = s.vrg ∧ (State.hotCheck s).pmb = s.pmb ∧
    (State.hotCheck s).frm = s.frm ∧ (State.hotCheck s).tre = s.tre ∧ (State.hotCheck s).mbs = s.mbs ∧
    (State.hotCheck s).mbn = s.mbn ∧ (State.hotCheck s).rck = s.rck ∧ (State.hotCheck s).aut = s.aut ∧
    (State.hotCheck s).rst = s.rst ∧ (State.hotCheck s).rel = s.rel ∧ (State.hotCheck s).trc = s.trc ∧
    (State.hotCheck s).stg = s.stg ∧ (State.hotCheck s).hst = s.hst ∧ (State.hotCheck s).pairLo = s.pairLo ∧
    (State.hotCheck s).now = s.now ∧ (State.hotCheck s).free = s.free ∧ (State.hotCheck s).pending = s.pending := by
  unfold State.hotCheck; dsimp only; (repeat' split) <;> simp

@[simp] theorem rfbUp (s : State) (k want f : Nat) : (State.rfbUp s k want f).cmn = s.cmn ∧
    (State.rfbUp s k want f).seq = s.seq ∧ (State.rfbUp s k want f).tly = s.tly ∧ (State.rfbUp s k want f).adm = s.adm ∧
    (State.rfbUp s k want f).beam = s.beam ∧ (State.rfbUp s k want f).ctl = s.ctl ∧ (State.rfbUp s k want f).fcs = s.fcs ∧
    (State.rfbUp s k want f).sns = s.sns ∧ (State.rfbUp s k want f).dom = s.dom ∧ (State.rfbUp s k want f).clk = s.clk ∧
    (State.rfbUp s k want f).vrg = s.vrg ∧ (State.rfbUp s k want f).pmb = s.pmb ∧ (State.rfbUp s k want f).frm = s.frm ∧
    (State.rfbUp s k want f).tre = s.tre ∧ (State.rfbUp s k want f).mbs = s.mbs ∧ (State.rfbUp s k want f).mbn = s.mbn ∧
    (State.rfbUp s k want f).rck = s.rck ∧ (State.rfbUp s k want f).aut = s.aut ∧ (State.rfbUp s k want f).rst = s.rst ∧
    (State.rfbUp s k want f).rel = s.rel ∧ (State.rfbUp s k want f).trc = s.trc ∧ (State.rfbUp s k want f).stg = s.stg ∧
    (State.rfbUp s k want f).hst = s.hst ∧ (State.rfbUp s k want f).pairLo = s.pairLo ∧
    (State.rfbUp s k want f).now = s.now ∧ (State.rfbUp s k want f).free = s.free ∧
    (State.rfbUp s k want f).pending = s.pending := by
  induction f generalizing s with
  | zero => simp [State.rfbUp]
  | succ k ih => unfold State.rfbUp; dsimp only; (repeat' split) <;> simp [ih]

@[simp] theorem tgbUp (s : State) (k want f : Nat) : (State.tgbUp s k want f).cmn = s.cmn ∧
    (State.tgbUp s k want f).seq = s.seq ∧ (State.tgbUp s k want f).tly = s.tly ∧ (State.tgbUp s k want f).adm = s.adm ∧
    (State.tgbUp s k want f).beam = s.beam ∧ (State.tgbUp s k want f).ctl = s.ctl ∧ (State.tgbUp s k want f).fcs = s.fcs ∧
    (State.tgbUp s k want f).sns = s.sns ∧ (State.tgbUp s k want f).dom = s.dom ∧ (State.tgbUp s k want f).clk = s.clk ∧
    (State.tgbUp s k want f).vrg = s.vrg ∧ (State.tgbUp s k want f).pmb = s.pmb ∧ (State.tgbUp s k want f).frm = s.frm ∧
    (State.tgbUp s k want f).tre = s.tre ∧ (State.tgbUp s k want f).mbs = s.mbs ∧ (State.tgbUp s k want f).mbn = s.mbn ∧
    (State.tgbUp s k want f).rck = s.rck ∧ (State.tgbUp s k want f).aut = s.aut ∧ (State.tgbUp s k want f).rst = s.rst ∧
    (State.tgbUp s k want f).rel = s.rel ∧ (State.tgbUp s k want f).trc = s.trc ∧ (State.tgbUp s k want f).stg = s.stg ∧
    (State.tgbUp s k want f).hst = s.hst ∧ (State.tgbUp s k want f).pairLo = s.pairLo ∧
    (State.tgbUp s k want f).now = s.now ∧ (State.tgbUp s k want f).free = s.free ∧
    (State.tgbUp s k want f).pending = s.pending := by
  induction f generalizing s with
  | zero => simp [State.tgbUp]
  | succ k ih => unfold State.tgbUp; dsimp only; (repeat' split) <;> simp [ih]

@[simp] theorem safeBands (s : State) : (State.safeBands s).cmn = s.cmn ∧ (State.safeBands s).seq = s.seq ∧
    (State.safeBands s).tly = s.tly ∧ (State.safeBands s).adm = s.adm ∧ (State.safeBands s).beam = s.beam ∧
    (State.safeBands s).ctl = s.ctl ∧ (State.safeBands s).fcs = s.fcs ∧ (State.safeBands s).sns = s.sns ∧
    (State.safeBands s).dom = s.dom ∧ (State.safeBands s).clk = s.clk ∧ (State.safeBands s).vrg = s.vrg ∧
    (State.safeBands s).pmb = s.pmb ∧ (State.safeBands s).frm = s.frm ∧ (State.safeBands s).tre = s.tre ∧
    (State.safeBands s).mbs = s.mbs ∧ (State.safeBands s).mbn = s.mbn ∧ (State.safeBands s).rck = s.rck ∧
    (State.safeBands s).aut = s.aut ∧ (State.safeBands s).rst = s.rst ∧ (State.safeBands s).rel = s.rel ∧
    (State.safeBands s).trc = s.trc ∧ (State.safeBands s).stg = s.stg ∧ (State.safeBands s).hst = s.hst ∧
    (State.safeBands s).pairLo = s.pairLo ∧ (State.safeBands s).now = s.now ∧ (State.safeBands s).free = s.free ∧
    (State.safeBands s).pending = s.pending := by
  unfold State.safeBands; simp

@[simp] theorem stackBands (s : State) (k : Nat) : (State.stackBands s k).cmn = s.cmn ∧
    (State.stackBands s k).seq = s.seq ∧ (State.stackBands s k).tly = s.tly ∧ (State.stackBands s k).adm = s.adm ∧
    (State.stackBands s k).beam = s.beam ∧ (State.stackBands s k).ctl = s.ctl ∧ (State.stackBands s k).fcs = s.fcs ∧
    (State.stackBands s k).sns = s.sns ∧ (State.stackBands s k).dom = s.dom ∧ (State.stackBands s k).clk = s.clk ∧
    (State.stackBands s k).vrg = s.vrg ∧ (State.stackBands s k).pmb = s.pmb ∧ (State.stackBands s k).frm = s.frm ∧
    (State.stackBands s k).tre = s.tre ∧ (State.stackBands s k).mbs = s.mbs ∧ (State.stackBands s k).mbn = s.mbn ∧
    (State.stackBands s k).rck = s.rck ∧ (State.stackBands s k).aut = s.aut ∧ (State.stackBands s k).rst = s.rst ∧
    (State.stackBands s k).rel = s.rel ∧ (State.stackBands s k).trc = s.trc ∧ (State.stackBands s k).stg = s.stg ∧
    (State.stackBands s k).hst = s.hst ∧ (State.stackBands s k).pairLo = s.pairLo ∧ (State.stackBands s k).now = s.now ∧
    (State.stackBands s k).free = s.free ∧ (State.stackBands s k).pending = s.pending := by
  unfold State.stackBands; simp

@[simp] theorem stackTemp (s : State) (k : Nat) : (State.stackTemp s k).cmn = s.cmn ∧
    (State.stackTemp s k).seq = s.seq ∧ (State.stackTemp s k).tly = s.tly ∧ (State.stackTemp s k).adm = s.adm ∧
    (State.stackTemp s k).beam = s.beam ∧ (State.stackTemp s k).ctl = s.ctl ∧ (State.stackTemp s k).fcs = s.fcs ∧
    (State.stackTemp s k).sns = s.sns ∧ (State.stackTemp s k).dom = s.dom ∧ (State.stackTemp s k).clk = s.clk ∧
    (State.stackTemp s k).vrg = s.vrg ∧ (State.stackTemp s k).pmb = s.pmb ∧ (State.stackTemp s k).frm = s.frm ∧
    (State.stackTemp s k).tre = s.tre ∧ (State.stackTemp s k).mbs = s.mbs ∧ (State.stackTemp s k).mbn = s.mbn ∧
    (State.stackTemp s k).rck = s.rck ∧ (State.stackTemp s k).aut = s.aut ∧ (State.stackTemp s k).rst = s.rst ∧
    (State.stackTemp s k).rel = s.rel ∧ (State.stackTemp s k).trc = s.trc ∧ (State.stackTemp s k).stg = s.stg ∧
    (State.stackTemp s k).hst = s.hst ∧ (State.stackTemp s k).pairLo = s.pairLo ∧ (State.stackTemp s k).now = s.now ∧
    (State.stackTemp s k).free = s.free ∧ (State.stackTemp s k).pending = s.pending := by
  unfold State.stackTemp; (repeat' split) <;> simp

@[simp] theorem shutRail (s : State) (r : Nat) : (State.shutRail s r).cmn = s.cmn ∧
    (State.shutRail s r).seq = s.seq ∧ (State.shutRail s r).tly = s.tly ∧ (State.shutRail s r).adm = s.adm ∧
    (State.shutRail s r).beam = s.beam ∧ (State.shutRail s r).ctl = s.ctl ∧ (State.shutRail s r).fcs = s.fcs ∧
    (State.shutRail s r).sns = s.sns ∧ (State.shutRail s r).dom = s.dom ∧ (State.shutRail s r).clk = s.clk ∧
    (State.shutRail s r).pmb = s.pmb ∧ (State.shutRail s r).frm = s.frm ∧ (State.shutRail s r).tre = s.tre ∧
    (State.shutRail s r).mbs = s.mbs ∧ (State.shutRail s r).mbn = s.mbn ∧ (State.shutRail s r).rck = s.rck ∧
    (State.shutRail s r).aut = s.aut ∧ (State.shutRail s r).rst = s.rst ∧ (State.shutRail s r).rel = s.rel ∧
    (State.shutRail s r).evt = s.evt ∧ (State.shutRail s r).trc = s.trc ∧ (State.shutRail s r).hdr = s.hdr ∧
    (State.shutRail s r).stg = s.stg ∧ (State.shutRail s r).hst = s.hst ∧ (State.shutRail s r).pairLo = s.pairLo ∧
    (State.shutRail s r).now = s.now ∧ (State.shutRail s r).free = s.free ∧ (State.shutRail s r).pending = s.pending := by
  unfold State.shutRail; simp

@[simp] theorem shutRails (s : State) : (State.shutRails s).cmn = s.cmn ∧ (State.shutRails s).seq = s.seq ∧
    (State.shutRails s).tly = s.tly ∧ (State.shutRails s).adm = s.adm ∧ (State.shutRails s).beam = s.beam ∧
    (State.shutRails s).ctl = s.ctl ∧ (State.shutRails s).fcs = s.fcs ∧ (State.shutRails s).sns = s.sns ∧
    (State.shutRails s).dom = s.dom ∧ (State.shutRails s).clk = s.clk ∧ (State.shutRails s).pmb = s.pmb ∧
    (State.shutRails s).frm = s.frm ∧ (State.shutRails s).tre = s.tre ∧ (State.shutRails s).mbs = s.mbs ∧
    (State.shutRails s).mbn = s.mbn ∧ (State.shutRails s).rck = s.rck ∧ (State.shutRails s).aut = s.aut ∧
    (State.shutRails s).rst = s.rst ∧ (State.shutRails s).rel = s.rel ∧ (State.shutRails s).evt = s.evt ∧
    (State.shutRails s).trc = s.trc ∧ (State.shutRails s).hdr = s.hdr ∧ (State.shutRails s).stg = s.stg ∧
    (State.shutRails s).hst = s.hst ∧ (State.shutRails s).pairLo = s.pairLo ∧ (State.shutRails s).now = s.now ∧
    (State.shutRails s).free = s.free ∧ (State.shutRails s).pending = s.pending := by
  unfold State.shutRails; simp

@[simp] theorem shutdown (s : State) (cause src : Nat) (value : Int) : (State.shutdown s cause src value).cmn = s.cmn ∧ (State.shutdown s cause src value).sns = s.sns ∧ (State.shutdown s cause src value).clk = s.clk ∧ (State.shutdown s cause src value).pmb = s.pmb ∧ (State.shutdown s cause src value).tre = s.tre ∧ (State.shutdown s cause src value).aut = s.aut ∧ (State.shutdown s cause src value).rst = s.rst ∧ (State.shutdown s cause src value).trc = s.trc ∧ (State.shutdown s cause src value).hst = s.hst ∧ (State.shutdown s cause src value).pairLo = s.pairLo ∧ (State.shutdown s cause src value).now = s.now ∧ (State.shutdown s cause src value).free = s.free ∧ (State.shutdown s cause src value).pending = s.pending := by
  unfold State.shutdown; simp

@[simp] theorem sweepCauses (s : State) : (State.sweepCauses s).cmn = s.cmn ∧ (State.sweepCauses s).sns = s.sns ∧
    (State.sweepCauses s).clk = s.clk ∧ (State.sweepCauses s).pmb = s.pmb ∧ (State.sweepCauses s).tre = s.tre ∧
    (State.sweepCauses s).aut = s.aut ∧ (State.sweepCauses s).rst = s.rst ∧ (State.sweepCauses s).trc = s.trc ∧
    (State.sweepCauses s).hst = s.hst ∧ (State.sweepCauses s).pairLo = s.pairLo ∧ (State.sweepCauses s).now = s.now ∧
    (State.sweepCauses s).free = s.free ∧ (State.sweepCauses s).pending = s.pending := by
  unfold State.sweepCauses; exact ⟨((foldl_proj State.cmn _ (by intro s a; dsimp only; (repeat' split) <;> simp) _ _).trans (foldl_proj State.cmn _ (by intro s a; dsimp only; (repeat' split) <;> simp) _ _)), ((foldl_proj State.sns _ (by intro s a; dsimp only; (repeat' split) <;> simp) _ _).trans (foldl_proj State.sns _ (by intro s a; dsimp only; (repeat' split) <;> simp) _ _)), ((foldl_proj State.clk _ (by intro s a; dsimp only; (repeat' split) <;> simp) _ _).trans (foldl_proj State.clk _ (by intro s a; dsimp only; (repeat' split) <;> simp) _ _)), ((foldl_proj State.pmb _ (by intro s a; dsimp only; (repeat' split) <;> simp) _ _).trans (foldl_proj State.pmb _ (by intro s a; dsimp only; (repeat' split) <;> simp) _ _)), ((foldl_proj State.tre _ (by intro s a; dsimp only; (repeat' split) <;> simp) _ _).trans (foldl_proj State.tre _ (by intro s a; dsimp only; (repeat' split) <;> simp) _ _)), ((foldl_proj State.aut _ (by intro s a; dsimp only; (repeat' split) <;> simp) _ _).trans (foldl_proj State.aut _ (by intro s a; dsimp only; (repeat' split) <;> simp) _ _)), ((foldl_proj State.rst _ (by intro s a; dsimp only; (repeat' split) <;> simp) _ _).trans (foldl_proj State.rst _ (by intro s a; dsimp only; (repeat' split) <;> simp) _ _)), ((foldl_proj State.trc _ (by intro s a; dsimp only; (repeat' split) <;> simp) _ _).trans (foldl_proj State.trc _ (by intro s a; dsimp only; (repeat' split) <;> simp) _ _)), ((foldl_proj State.hst _ (by intro s a; dsimp only; (repeat' split) <;> simp) _ _).trans (foldl_proj State.hst _ (by intro s a; dsimp only; (repeat' split) <;> simp) _ _)), ((foldl_proj State.pairLo _ (by intro s a; dsimp only; (repeat' split) <;> simp) _ _).trans (foldl_proj State.pairLo _ (by intro s a; dsimp only; (repeat' split) <;> simp) _ _)), ((foldl_proj State.now _ (by intro s a; dsimp only; (repeat' split) <;> simp) _ _).trans (foldl_proj State.now _ (by intro s a; dsimp only; (repeat' split) <;> simp) _ _)), ((foldl_proj State.free _ (by intro s a; dsimp only; (repeat' split) <;> simp) _ _).trans (foldl_proj State.free _ (by intro s a; dsimp only; (repeat' split) <;> simp) _ _)), ((foldl_proj State.pending _ (by intro s a; dsimp only; (repeat' split) <;> simp) _ _).trans (foldl_proj State.pending _ (by intro s a; dsimp only; (repeat' split) <;> simp) _ _))⟩

@[simp] theorem dwellCause (s : State) : (State.dwellCause s).cmn = s.cmn ∧ (State.dwellCause s).sns = s.sns ∧
    (State.dwellCause s).clk = s.clk ∧ (State.dwellCause s).pmb = s.pmb ∧ (State.dwellCause s).tre = s.tre ∧
    (State.dwellCause s).aut = s.aut ∧ (State.dwellCause s).rst = s.rst ∧ (State.dwellCause s).trc = s.trc ∧
    (State.dwellCause s).hst = s.hst ∧ (State.dwellCause s).pairLo = s.pairLo ∧ (State.dwellCause s).now = s.now ∧
    (State.dwellCause s).free = s.free ∧ (State.dwellCause s).pending = s.pending := by
  unfold State.dwellCause; exact ⟨(foldl_proj State.cmn _ (by intro s a; dsimp only; (repeat' split) <;> simp) _ _),
    (foldl_proj State.sns _ (by intro s a; dsimp only; (repeat' split) <;> simp) _ _),
    (foldl_proj State.clk _ (by intro s a; dsimp only; (repeat' split) <;> simp) _ _),
    (foldl_proj State.pmb _ (by intro s a; dsimp only; (repeat' split) <;> simp) _ _),
    (foldl_proj State.tre _ (by intro s a; dsimp only; (repeat' split) <;> simp) _ _),
    (foldl_proj State.aut _ (by intro s a; dsimp only; (repeat' split) <;> simp) _ _),
    (foldl_proj State.rst _ (by intro s a; dsimp only; (repeat' split) <;> simp) _ _),
    (foldl_proj State.trc _ (by intro s a; dsimp only; (repeat' split) <;> simp) _ _),
    (foldl_proj State.hst _ (by intro s a; dsimp only; (repeat' split) <;> simp) _ _),
    (foldl_proj State.pairLo _ (by intro s a; dsimp only; (repeat' split) <;> simp) _ _),
    (foldl_proj State.now _ (by intro s a; dsimp only; (repeat' split) <;> simp) _ _),
    (foldl_proj State.free _ (by intro s a; dsimp only; (repeat' split) <;> simp) _ _),
    (foldl_proj State.pending _ (by intro s a; dsimp only; (repeat' split) <;> simp) _ _)⟩

@[simp] theorem holdBegin (s : State) : (State.holdBegin s).cmn = s.cmn ∧ (State.holdBegin s).seq = s.seq ∧
    (State.holdBegin s).tly = s.tly ∧ (State.holdBegin s).adm = s.adm ∧ (State.holdBegin s).beam = s.beam ∧
    (State.holdBegin s).ctl = s.ctl ∧ (State.holdBegin s).fcs = s.fcs ∧ (State.holdBegin s).sns = s.sns ∧
    (State.holdBegin s).dom = s.dom ∧ (State.holdBegin s).clk = s.clk ∧ (State.holdBegin s).vrg = s.vrg ∧
    (State.holdBegin s).pmb = s.pmb ∧ (State.holdBegin s).frm = s.frm ∧ (State.holdBegin s).tre = s.tre ∧
    (State.holdBegin s).mbs = s.mbs ∧ (State.holdBegin s).mbn = s.mbn ∧ (State.holdBegin s).rck = s.rck ∧
    (State.holdBegin s).aut = s.aut ∧ (State.holdBegin s).rst = s.rst ∧ (State.holdBegin s).rel = s.rel ∧
    (State.holdBegin s).trc = s.trc ∧ (State.holdBegin s).stg = s.stg ∧ (State.holdBegin s).hst = s.hst ∧
    (State.holdBegin s).pairLo = s.pairLo ∧ (State.holdBegin s).now = s.now ∧ (State.holdBegin s).free = s.free ∧
    (State.holdBegin s).pending = s.pending := by
  unfold State.holdBegin; simp

@[simp] theorem phaseCheck (s : State) : (State.phaseCheck s).cmn = s.cmn ∧ (State.phaseCheck s).seq = s.seq ∧
    (State.phaseCheck s).tly = s.tly ∧ (State.phaseCheck s).adm = s.adm ∧ (State.phaseCheck s).beam = s.beam ∧
    (State.phaseCheck s).ctl = s.ctl ∧ (State.phaseCheck s).fcs = s.fcs ∧ (State.phaseCheck s).sns = s.sns ∧
    (State.phaseCheck s).dom = s.dom ∧ (State.phaseCheck s).clk = s.clk ∧ (State.phaseCheck s).vrg = s.vrg ∧
    (State.phaseCheck s).pmb = s.pmb ∧ (State.phaseCheck s).frm = s.frm ∧ (State.phaseCheck s).tre = s.tre ∧
    (State.phaseCheck s).mbs = s.mbs ∧ (State.phaseCheck s).mbn = s.mbn ∧ (State.phaseCheck s).rck = s.rck ∧
    (State.phaseCheck s).aut = s.aut ∧ (State.phaseCheck s).rst = s.rst ∧ (State.phaseCheck s).rel = s.rel ∧
    (State.phaseCheck s).trc = s.trc ∧ (State.phaseCheck s).stg = s.stg ∧ (State.phaseCheck s).hst = s.hst ∧
    (State.phaseCheck s).pairLo = s.pairLo ∧ (State.phaseCheck s).now = s.now ∧ (State.phaseCheck s).free = s.free ∧
    (State.phaseCheck s).pending = s.pending := by
  unfold State.phaseCheck; simp

@[simp] theorem obsInit (s : State) : (State.obsInit s).cmn = s.cmn ∧ (State.obsInit s).seq = s.seq ∧
    (State.obsInit s).tly = s.tly ∧ (State.obsInit s).adm = s.adm ∧ (State.obsInit s).beam = s.beam ∧
    (State.obsInit s).ctl = s.ctl ∧ (State.obsInit s).fcs = s.fcs ∧ (State.obsInit s).sns = s.sns ∧
    (State.obsInit s).dom = s.dom ∧ (State.obsInit s).clk = s.clk ∧ (State.obsInit s).vrg = s.vrg ∧
    (State.obsInit s).pmb = s.pmb ∧ (State.obsInit s).frm = s.frm ∧ (State.obsInit s).tre = s.tre ∧
    (State.obsInit s).mbs = s.mbs ∧ (State.obsInit s).mbn = s.mbn ∧ (State.obsInit s).rck = s.rck ∧
    (State.obsInit s).aut = s.aut ∧ (State.obsInit s).rst = s.rst ∧ (State.obsInit s).rel = s.rel ∧
    (State.obsInit s).evt = s.evt ∧ (State.obsInit s).trc = s.trc ∧ (State.obsInit s).hdr = s.hdr ∧
    (State.obsInit s).stg = s.stg ∧ (State.obsInit s).hst = s.hst ∧ (State.obsInit s).pairLo = s.pairLo ∧
    (State.obsInit s).now = s.now ∧ (State.obsInit s).free = s.free ∧ (State.obsInit s).pending = s.pending := by
  unfold State.obsInit; simp

@[simp] theorem obsDisable (s : State) (cause group : Nat) : (State.obsDisable s cause group).cmn = s.cmn ∧
    (State.obsDisable s cause group).seq = s.seq ∧ (State.obsDisable s cause group).tly = s.tly ∧
    (State.obsDisable s cause group).adm = s.adm ∧ (State.obsDisable s cause group).beam = s.beam ∧
    (State.obsDisable s cause group).ctl = s.ctl ∧ (State.obsDisable s cause group).fcs = s.fcs ∧
    (State.obsDisable s cause group).sns = s.sns ∧ (State.obsDisable s cause group).dom = s.dom ∧
    (State.obsDisable s cause group).clk = s.clk ∧ (State.obsDisable s cause group).vrg = s.vrg ∧
    (State.obsDisable s cause group).pmb = s.pmb ∧ (State.obsDisable s cause group).frm = s.frm ∧
    (State.obsDisable s cause group).tre = s.tre ∧ (State.obsDisable s cause group).mbs = s.mbs ∧
    (State.obsDisable s cause group).mbn = s.mbn ∧ (State.obsDisable s cause group).rck = s.rck ∧
    (State.obsDisable s cause group).aut = s.aut ∧ (State.obsDisable s cause group).rst = s.rst ∧
    (State.obsDisable s cause group).rel = s.rel ∧ (State.obsDisable s cause group).trc = s.trc ∧
    (State.obsDisable s cause group).stg = s.stg ∧ (State.obsDisable s cause group).hst = s.hst ∧
    (State.obsDisable s cause group).pairLo = s.pairLo ∧ (State.obsDisable s cause group).now = s.now ∧
    (State.obsDisable s cause group).free = s.free ∧ (State.obsDisable s cause group).pending = s.pending := by
  unfold State.obsDisable; simp

@[simp] theorem innovCheck (s : State) : (State.innovCheck s).cmn = s.cmn ∧ (State.innovCheck s).seq = s.seq ∧
    (State.innovCheck s).tly = s.tly ∧ (State.innovCheck s).adm = s.adm ∧ (State.innovCheck s).beam = s.beam ∧
    (State.innovCheck s).ctl = s.ctl ∧ (State.innovCheck s).fcs = s.fcs ∧ (State.innovCheck s).sns = s.sns ∧
    (State.innovCheck s).dom = s.dom ∧ (State.innovCheck s).clk = s.clk ∧ (State.innovCheck s).vrg = s.vrg ∧
    (State.innovCheck s).pmb = s.pmb ∧ (State.innovCheck s).frm = s.frm ∧ (State.innovCheck s).tre = s.tre ∧
    (State.innovCheck s).mbs = s.mbs ∧ (State.innovCheck s).mbn = s.mbn ∧ (State.innovCheck s).rck = s.rck ∧
    (State.innovCheck s).aut = s.aut ∧ (State.innovCheck s).rst = s.rst ∧ (State.innovCheck s).rel = s.rel ∧
    (State.innovCheck s).trc = s.trc ∧ (State.innovCheck s).stg = s.stg ∧ (State.innovCheck s).hst = s.hst ∧
    (State.innovCheck s).pairLo = s.pairLo ∧ (State.innovCheck s).now = s.now ∧ (State.innovCheck s).free = s.free ∧
    (State.innovCheck s).pending = s.pending := by
  unfold State.innovCheck; simp

@[simp] theorem obsDiscard (s : State) : (State.obsDiscard s).cmn = s.cmn ∧ (State.obsDiscard s).seq = s.seq ∧
    (State.obsDiscard s).tly = s.tly ∧ (State.obsDiscard s).adm = s.adm ∧ (State.obsDiscard s).beam = s.beam ∧
    (State.obsDiscard s).ctl = s.ctl ∧ (State.obsDiscard s).fcs = s.fcs ∧ (State.obsDiscard s).sns = s.sns ∧
    (State.obsDiscard s).dom = s.dom ∧ (State.obsDiscard s).clk = s.clk ∧ (State.obsDiscard s).vrg = s.vrg ∧
    (State.obsDiscard s).pmb = s.pmb ∧ (State.obsDiscard s).frm = s.frm ∧ (State.obsDiscard s).tre = s.tre ∧
    (State.obsDiscard s).mbs = s.mbs ∧ (State.obsDiscard s).mbn = s.mbn ∧ (State.obsDiscard s).rck = s.rck ∧
    (State.obsDiscard s).aut = s.aut ∧ (State.obsDiscard s).rst = s.rst ∧ (State.obsDiscard s).rel = s.rel ∧
    (State.obsDiscard s).trc = s.trc ∧ (State.obsDiscard s).stg = s.stg ∧ (State.obsDiscard s).hst = s.hst ∧
    (State.obsDiscard s).pairLo = s.pairLo ∧ (State.obsDiscard s).now = s.now ∧ (State.obsDiscard s).free = s.free ∧
    (State.obsDiscard s).pending = s.pending := by
  unfold State.obsDiscard; simp

@[simp] theorem obsCoefFault (s : State) (i : Nat) : (State.obsCoefFault s i).cmn = s.cmn ∧
    (State.obsCoefFault s i).tly = s.tly ∧ (State.obsCoefFault s i).adm = s.adm ∧ (State.obsCoefFault s i).beam = s.beam ∧
    (State.obsCoefFault s i).ctl = s.ctl ∧ (State.obsCoefFault s i).fcs = s.fcs ∧ (State.obsCoefFault s i).sns = s.sns ∧
    (State.obsCoefFault s i).dom = s.dom ∧ (State.obsCoefFault s i).clk = s.clk ∧ (State.obsCoefFault s i).vrg = s.vrg ∧
    (State.obsCoefFault s i).pmb = s.pmb ∧ (State.obsCoefFault s i).frm = s.frm ∧ (State.obsCoefFault s i).tre = s.tre ∧
    (State.obsCoefFault s i).aut = s.aut ∧ (State.obsCoefFault s i).rst = s.rst ∧ (State.obsCoefFault s i).trc = s.trc ∧
    (State.obsCoefFault s i).stg = s.stg ∧ (State.obsCoefFault s i).hst = s.hst ∧
    (State.obsCoefFault s i).pairLo = s.pairLo ∧ (State.obsCoefFault s i).now = s.now ∧
    (State.obsCoefFault s i).free = s.free ∧ (State.obsCoefFault s i).pending = s.pending := by
  unfold State.obsCoefFault; simp

@[simp] theorem vsForm (s : State) : (State.vsForm s).cmn = s.cmn ∧ (State.vsForm s).seq = s.seq ∧
    (State.vsForm s).tly = s.tly ∧ (State.vsForm s).adm = s.adm ∧ (State.vsForm s).beam = s.beam ∧
    (State.vsForm s).ctl = s.ctl ∧ (State.vsForm s).fcs = s.fcs ∧ (State.vsForm s).sns = s.sns ∧
    (State.vsForm s).dom = s.dom ∧ (State.vsForm s).clk = s.clk ∧ (State.vsForm s).vrg = s.vrg ∧
    (State.vsForm s).pmb = s.pmb ∧ (State.vsForm s).frm = s.frm ∧ (State.vsForm s).tre = s.tre ∧
    (State.vsForm s).mbs = s.mbs ∧ (State.vsForm s).mbn = s.mbn ∧ (State.vsForm s).rck = s.rck ∧
    (State.vsForm s).aut = s.aut ∧ (State.vsForm s).rst = s.rst ∧ (State.vsForm s).rel = s.rel ∧
    (State.vsForm s).evt = s.evt ∧ (State.vsForm s).trc = s.trc ∧ (State.vsForm s).hdr = s.hdr ∧
    (State.vsForm s).stg = s.stg ∧ (State.vsForm s).hst = s.hst ∧ (State.vsForm s).pairLo = s.pairLo ∧
    (State.vsForm s).now = s.now ∧ (State.vsForm s).free = s.free ∧ (State.vsForm s).pending = s.pending := by
  unfold State.vsForm; simp

@[simp] theorem stepCauses (s : State) : (State.stepCauses s).cmn = s.cmn ∧ (State.stepCauses s).sns = s.sns ∧
    (State.stepCauses s).clk = s.clk ∧ (State.stepCauses s).pmb = s.pmb ∧ (State.stepCauses s).tre = s.tre ∧
    (State.stepCauses s).aut = s.aut ∧ (State.stepCauses s).rst = s.rst ∧ (State.stepCauses s).trc = s.trc ∧
    (State.stepCauses s).hst = s.hst ∧ (State.stepCauses s).pairLo = s.pairLo ∧ (State.stepCauses s).now = s.now ∧
    (State.stepCauses s).free = s.free ∧ (State.stepCauses s).pending = s.pending := by
  unfold State.stepCauses; exact ⟨(foldl_proj State.cmn _ (by intro s a; dsimp only; (repeat' split) <;> simp) _ _),
    (foldl_proj State.sns _ (by intro s a; dsimp only; (repeat' split) <;> simp) _ _),
    (foldl_proj State.clk _ (by intro s a; dsimp only; (repeat' split) <;> simp) _ _),
    (foldl_proj State.pmb _ (by intro s a; dsimp only; (repeat' split) <;> simp) _ _),
    (foldl_proj State.tre _ (by intro s a; dsimp only; (repeat' split) <;> simp) _ _),
    (foldl_proj State.aut _ (by intro s a; dsimp only; (repeat' split) <;> simp) _ _),
    (foldl_proj State.rst _ (by intro s a; dsimp only; (repeat' split) <;> simp) _ _),
    (foldl_proj State.trc _ (by intro s a; dsimp only; (repeat' split) <;> simp) _ _),
    (foldl_proj State.hst _ (by intro s a; dsimp only; (repeat' split) <;> simp) _ _),
    (foldl_proj State.pairLo _ (by intro s a; dsimp only; (repeat' split) <;> simp) _ _),
    (foldl_proj State.now _ (by intro s a; dsimp only; (repeat' split) <;> simp) _ _),
    (foldl_proj State.free _ (by intro s a; dsimp only; (repeat' split) <;> simp) _ _),
    (foldl_proj State.pending _ (by intro s a; dsimp only; (repeat' split) <;> simp) _ _)⟩

@[simp] theorem obsSwap (s : State) : (State.obsSwap s).cmn = s.cmn ∧ (State.obsSwap s).seq = s.seq ∧
    (State.obsSwap s).tly = s.tly ∧ (State.obsSwap s).adm = s.adm ∧ (State.obsSwap s).beam = s.beam ∧
    (State.obsSwap s).ctl = s.ctl ∧ (State.obsSwap s).fcs = s.fcs ∧ (State.obsSwap s).sns = s.sns ∧
    (State.obsSwap s).dom = s.dom ∧ (State.obsSwap s).clk = s.clk ∧ (State.obsSwap s).vrg = s.vrg ∧
    (State.obsSwap s).pmb = s.pmb ∧ (State.obsSwap s).frm = s.frm ∧ (State.obsSwap s).tre = s.tre ∧
    (State.obsSwap s).mbs = s.mbs ∧ (State.obsSwap s).mbn = s.mbn ∧ (State.obsSwap s).rck = s.rck ∧
    (State.obsSwap s).aut = s.aut ∧ (State.obsSwap s).rst = s.rst ∧ (State.obsSwap s).rel = s.rel ∧
    (State.obsSwap s).evt = s.evt ∧ (State.obsSwap s).trc = s.trc ∧ (State.obsSwap s).hdr = s.hdr ∧
    (State.obsSwap s).stg = s.stg ∧ (State.obsSwap s).hst = s.hst ∧ (State.obsSwap s).pairLo = s.pairLo ∧
    (State.obsSwap s).now = s.now ∧ (State.obsSwap s).free = s.free ∧ (State.obsSwap s).pending = s.pending := by
  unfold State.obsSwap; simp

@[simp] theorem obsPower (s : State) : (State.obsPower s).cmn = s.cmn ∧ (State.obsPower s).seq = s.seq ∧
    (State.obsPower s).tly = s.tly ∧ (State.obsPower s).adm = s.adm ∧ (State.obsPower s).beam = s.beam ∧
    (State.obsPower s).ctl = s.ctl ∧ (State.obsPower s).fcs = s.fcs ∧ (State.obsPower s).sns = s.sns ∧
    (State.obsPower s).dom = s.dom ∧ (State.obsPower s).clk = s.clk ∧ (State.obsPower s).vrg = s.vrg ∧
    (State.obsPower s).pmb = s.pmb ∧ (State.obsPower s).frm = s.frm ∧ (State.obsPower s).tre = s.tre ∧
    (State.obsPower s).mbs = s.mbs ∧ (State.obsPower s).mbn = s.mbn ∧ (State.obsPower s).rck = s.rck ∧
    (State.obsPower s).aut = s.aut ∧ (State.obsPower s).rst = s.rst ∧ (State.obsPower s).rel = s.rel ∧
    (State.obsPower s).evt = s.evt ∧ (State.obsPower s).trc = s.trc ∧ (State.obsPower s).hdr = s.hdr ∧
    (State.obsPower s).stg = s.stg ∧ (State.obsPower s).hst = s.hst ∧ (State.obsPower s).pairLo = s.pairLo ∧
    (State.obsPower s).now = s.now ∧ (State.obsPower s).free = s.free ∧ (State.obsPower s).pending = s.pending := by
  unfold State.obsPower; simp

@[simp] theorem tsMod (s : State) (i : Nat) (f : SnsTs → SnsTs) : (State.tsMod s i f).cmn = s.cmn ∧
    (State.tsMod s i f).seq = s.seq ∧ (State.tsMod s i f).tly = s.tly ∧ (State.tsMod s i f).adm = s.adm ∧
    (State.tsMod s i f).beam = s.beam ∧ (State.tsMod s i f).ctl = s.ctl ∧ (State.tsMod s i f).fcs = s.fcs ∧
    (State.tsMod s i f).thm = s.thm ∧ (State.tsMod s i f).dom = s.dom ∧ (State.tsMod s i f).clk = s.clk ∧
    (State.tsMod s i f).vrg = s.vrg ∧ (State.tsMod s i f).pmb = s.pmb ∧ (State.tsMod s i f).frm = s.frm ∧
    (State.tsMod s i f).tre = s.tre ∧ (State.tsMod s i f).mbs = s.mbs ∧ (State.tsMod s i f).mbn = s.mbn ∧
    (State.tsMod s i f).rck = s.rck ∧ (State.tsMod s i f).aut = s.aut ∧ (State.tsMod s i f).rst = s.rst ∧
    (State.tsMod s i f).rel = s.rel ∧ (State.tsMod s i f).evt = s.evt ∧ (State.tsMod s i f).trc = s.trc ∧
    (State.tsMod s i f).hdr = s.hdr ∧ (State.tsMod s i f).stg = s.stg ∧ (State.tsMod s i f).hst = s.hst ∧
    (State.tsMod s i f).pairLo = s.pairLo ∧ (State.tsMod s i f).now = s.now ∧ (State.tsMod s i f).free = s.free ∧
    (State.tsMod s i f).pending = s.pending := by
  unfold State.tsMod; simp

@[simp] theorem onSns (s : State) (f : Sns → Sns) : (State.onSns s f).cmn = s.cmn ∧
    (State.onSns s f).seq = s.seq ∧ (State.onSns s f).tly = s.tly ∧ (State.onSns s f).adm = s.adm ∧
    (State.onSns s f).beam = s.beam ∧ (State.onSns s f).ctl = s.ctl ∧ (State.onSns s f).fcs = s.fcs ∧
    (State.onSns s f).thm = s.thm ∧ (State.onSns s f).dom = s.dom ∧ (State.onSns s f).clk = s.clk ∧
    (State.onSns s f).vrg = s.vrg ∧ (State.onSns s f).pmb = s.pmb ∧ (State.onSns s f).frm = s.frm ∧
    (State.onSns s f).tre = s.tre ∧ (State.onSns s f).mbs = s.mbs ∧ (State.onSns s f).mbn = s.mbn ∧
    (State.onSns s f).rck = s.rck ∧ (State.onSns s f).aut = s.aut ∧ (State.onSns s f).rst = s.rst ∧
    (State.onSns s f).rel = s.rel ∧ (State.onSns s f).evt = s.evt ∧ (State.onSns s f).trc = s.trc ∧
    (State.onSns s f).hdr = s.hdr ∧ (State.onSns s f).stg = s.stg ∧ (State.onSns s f).hst = s.hst ∧
    (State.onSns s f).pairLo = s.pairLo ∧ (State.onSns s f).now = s.now ∧ (State.onSns s f).free = s.free ∧
    (State.onSns s f).pending = s.pending := by
  unfold State.onSns; simp

@[simp] theorem tsCount (s : State) : (State.tsCount s).cmn = s.cmn ∧ (State.tsCount s).seq = s.seq ∧
    (State.tsCount s).tly = s.tly ∧ (State.tsCount s).adm = s.adm ∧ (State.tsCount s).beam = s.beam ∧
    (State.tsCount s).ctl = s.ctl ∧ (State.tsCount s).fcs = s.fcs ∧ (State.tsCount s).thm = s.thm ∧
    (State.tsCount s).sns = s.sns ∧ (State.tsCount s).dom = s.dom ∧ (State.tsCount s).clk = s.clk ∧
    (State.tsCount s).vrg = s.vrg ∧ (State.tsCount s).pmb = s.pmb ∧ (State.tsCount s).frm = s.frm ∧
    (State.tsCount s).tre = s.tre ∧ (State.tsCount s).mbs = s.mbs ∧ (State.tsCount s).mbn = s.mbn ∧
    (State.tsCount s).rck = s.rck ∧ (State.tsCount s).aut = s.aut ∧ (State.tsCount s).rst = s.rst ∧
    (State.tsCount s).evt = s.evt ∧ (State.tsCount s).trc = s.trc ∧ (State.tsCount s).hdr = s.hdr ∧
    (State.tsCount s).stg = s.stg ∧ (State.tsCount s).hst = s.hst ∧ (State.tsCount s).pairLo = s.pairLo ∧
    (State.tsCount s).now = s.now ∧ (State.tsCount s).free = s.free ∧ (State.tsCount s).pending = s.pending := by
  unfold State.tsCount; simp

@[simp] theorem sensorFail (s : State) (i reason : Nat) : (State.sensorFail s i reason).cmn = s.cmn ∧
    (State.sensorFail s i reason).seq = s.seq ∧ (State.sensorFail s i reason).tly = s.tly ∧
    (State.sensorFail s i reason).adm = s.adm ∧ (State.sensorFail s i reason).beam = s.beam ∧
    (State.sensorFail s i reason).ctl = s.ctl ∧ (State.sensorFail s i reason).fcs = s.fcs ∧
    (State.sensorFail s i reason).thm = s.thm ∧ (State.sensorFail s i reason).dom = s.dom ∧
    (State.sensorFail s i reason).clk = s.clk ∧ (State.sensorFail s i reason).vrg = s.vrg ∧
    (State.sensorFail s i reason).pmb = s.pmb ∧ (State.sensorFail s i reason).frm = s.frm ∧
    (State.sensorFail s i reason).tre = s.tre ∧ (State.sensorFail s i reason).mbs = s.mbs ∧
    (State.sensorFail s i reason).mbn = s.mbn ∧ (State.sensorFail s i reason).rck = s.rck ∧
    (State.sensorFail s i reason).aut = s.aut ∧ (State.sensorFail s i reason).rst = s.rst ∧
    (State.sensorFail s i reason).trc = s.trc ∧ (State.sensorFail s i reason).stg = s.stg ∧
    (State.sensorFail s i reason).hst = s.hst ∧ (State.sensorFail s i reason).pairLo = s.pairLo ∧
    (State.sensorFail s i reason).now = s.now ∧ (State.sensorFail s i reason).free = s.free ∧
    (State.sensorFail s i reason).pending = s.pending := by
  unfold State.sensorFail; simp

@[simp] theorem sensorSubst (s : State) (g : Nat) : (State.sensorSubst s g).cmn = s.cmn ∧
    (State.sensorSubst s g).tly = s.tly ∧ (State.sensorSubst s g).adm = s.adm ∧ (State.sensorSubst s g).beam = s.beam ∧
    (State.sensorSubst s g).ctl = s.ctl ∧ (State.sensorSubst s g).fcs = s.fcs ∧ (State.sensorSubst s g).thm = s.thm ∧
    (State.sensorSubst s g).dom = s.dom ∧ (State.sensorSubst s g).clk = s.clk ∧ (State.sensorSubst s g).vrg = s.vrg ∧
    (State.sensorSubst s g).pmb = s.pmb ∧ (State.sensorSubst s g).frm = s.frm ∧ (State.sensorSubst s g).tre = s.tre ∧
    (State.sensorSubst s g).aut = s.aut ∧ (State.sensorSubst s g).rst = s.rst ∧ (State.sensorSubst s g).trc = s.trc ∧
    (State.sensorSubst s g).stg = s.stg ∧ (State.sensorSubst s g).hst = s.hst ∧ (State.sensorSubst s g).pairLo = s.pairLo ∧
    (State.sensorSubst s g).now = s.now ∧ (State.sensorSubst s g).free = s.free ∧
    (State.sensorSubst s g).pending = s.pending := by
  unfold State.sensorSubst; split <;> simp

@[simp] theorem sensorSample (s : State) (i : Nat) (x : TempSample) : (State.sensorSample s i x).cmn = s.cmn ∧
    (State.sensorSample s i x).seq = s.seq ∧ (State.sensorSample s i x).tly = s.tly ∧
    (State.sensorSample s i x).adm = s.adm ∧ (State.sensorSample s i x).beam = s.beam ∧
    (State.sensorSample s i x).ctl = s.ctl ∧ (State.sensorSample s i x).fcs = s.fcs ∧
    (State.sensorSample s i x).thm = s.thm ∧ (State.sensorSample s i x).dom = s.dom ∧
    (State.sensorSample s i x).clk = s.clk ∧ (State.sensorSample s i x).vrg = s.vrg ∧
    (State.sensorSample s i x).pmb = s.pmb ∧ (State.sensorSample s i x).frm = s.frm ∧
    (State.sensorSample s i x).tre = s.tre ∧ (State.sensorSample s i x).mbs = s.mbs ∧
    (State.sensorSample s i x).mbn = s.mbn ∧ (State.sensorSample s i x).rck = s.rck ∧
    (State.sensorSample s i x).aut = s.aut ∧ (State.sensorSample s i x).rst = s.rst ∧
    (State.sensorSample s i x).trc = s.trc ∧ (State.sensorSample s i x).stg = s.stg ∧
    (State.sensorSample s i x).hst = s.hst ∧ (State.sensorSample s i x).pairLo = s.pairLo ∧
    (State.sensorSample s i x).now = s.now ∧ (State.sensorSample s i x).free = s.free ∧
    (State.sensorSample s i x).pending = s.pending := by
  unfold State.sensorSample; (repeat' split) <;> simp

@[simp] theorem groupSweep (s : State) (t g : Nat) : (State.groupSweep s t g).cmn = s.cmn ∧
    (State.groupSweep s t g).seq = s.seq ∧ (State.groupSweep s t g).tly = s.tly ∧ (State.groupSweep s t g).adm = s.adm ∧
    (State.groupSweep s t g).beam = s.beam ∧ (State.groupSweep s t g).ctl = s.ctl ∧ (State.groupSweep s t g).fcs = s.fcs ∧
    (State.groupSweep s t g).dom = s.dom ∧ (State.groupSweep s t g).clk = s.clk ∧ (State.groupSweep s t g).vrg = s.vrg ∧
    (State.groupSweep s t g).pmb = s.pmb ∧ (State.groupSweep s t g).frm = s.frm ∧ (State.groupSweep s t g).tre = s.tre ∧
    (State.groupSweep s t g).mbs = s.mbs ∧ (State.groupSweep s t g).mbn = s.mbn ∧ (State.groupSweep s t g).rck = s.rck ∧
    (State.groupSweep s t g).aut = s.aut ∧ (State.groupSweep s t g).rst = s.rst ∧ (State.groupSweep s t g).rel = s.rel ∧
    (State.groupSweep s t g).trc = s.trc ∧ (State.groupSweep s t g).stg = s.stg ∧ (State.groupSweep s t g).hst = s.hst ∧
    (State.groupSweep s t g).pairLo = s.pairLo ∧ (State.groupSweep s t g).now = s.now ∧
    (State.groupSweep s t g).free = s.free ∧ (State.groupSweep s t g).pending = s.pending := by
  unfold State.groupSweep; simp

@[simp] theorem tripGroup (s : State) (g : Nat) : (State.tripGroup s g).cmn = s.cmn ∧
    (State.tripGroup s g).ctl = s.ctl ∧ (State.tripGroup s g).sns = s.sns ∧ (State.tripGroup s g).clk = s.clk ∧
    (State.tripGroup s g).pmb = s.pmb ∧ (State.tripGroup s g).tre = s.tre ∧ (State.tripGroup s g).aut = s.aut ∧
    (State.tripGroup s g).rst = s.rst ∧ (State.tripGroup s g).rel = s.rel ∧ (State.tripGroup s g).trc = s.trc ∧
    (State.tripGroup s g).hst = s.hst ∧ (State.tripGroup s g).pairLo = s.pairLo ∧ (State.tripGroup s g).now = s.now ∧
    (State.tripGroup s g).free = s.free ∧ (State.tripGroup s g).pending = s.pending := by
  unfold State.tripGroup; simp

@[simp] theorem tripRate (prev : List Nat) (t : Nat) (s : State) (g : Nat) : (State.tripRate prev t s g).cmn = s.cmn ∧ (State.tripRate prev t s g).ctl = s.ctl ∧ (State.tripRate prev t s g).sns = s.sns ∧ (State.tripRate prev t s g).clk = s.clk ∧ (State.tripRate prev t s g).pmb = s.pmb ∧ (State.tripRate prev t s g).tre = s.tre ∧ (State.tripRate prev t s g).aut = s.aut ∧ (State.tripRate prev t s g).rst = s.rst ∧ (State.tripRate prev t s g).rel = s.rel ∧ (State.tripRate prev t s g).trc = s.trc ∧ (State.tripRate prev t s g).hst = s.hst ∧ (State.tripRate prev t s g).pairLo = s.pairLo ∧ (State.tripRate prev t s g).now = s.now ∧ (State.tripRate prev t s g).free = s.free ∧ (State.tripRate prev t s g).pending = s.pending := by
  unfold State.tripRate; dsimp only; (repeat' split) <;> simp

@[simp] theorem tripStack (s : State) (k : Nat) : (State.tripStack s k).cmn = s.cmn ∧
    (State.tripStack s k).ctl = s.ctl ∧ (State.tripStack s k).sns = s.sns ∧ (State.tripStack s k).clk = s.clk ∧
    (State.tripStack s k).pmb = s.pmb ∧ (State.tripStack s k).tre = s.tre ∧ (State.tripStack s k).aut = s.aut ∧
    (State.tripStack s k).rst = s.rst ∧ (State.tripStack s k).rel = s.rel ∧ (State.tripStack s k).trc = s.trc ∧
    (State.tripStack s k).hst = s.hst ∧ (State.tripStack s k).pairLo = s.pairLo ∧ (State.tripStack s k).now = s.now ∧
    (State.tripStack s k).free = s.free ∧ (State.tripStack s k).pending = s.pending := by
  unfold State.tripStack; simp

@[simp] theorem thermalTrips (s : State) (prev : List Nat) (t : Nat) : (State.thermalTrips s prev t).cmn = s.cmn ∧ (State.thermalTrips s prev t).ctl = s.ctl ∧ (State.thermalTrips s prev t).sns = s.sns ∧ (State.thermalTrips s prev t).clk = s.clk ∧ (State.thermalTrips s prev t).pmb = s.pmb ∧ (State.thermalTrips s prev t).tre = s.tre ∧ (State.thermalTrips s prev t).aut = s.aut ∧ (State.thermalTrips s prev t).rst = s.rst ∧ (State.thermalTrips s prev t).rel = s.rel ∧ (State.thermalTrips s prev t).trc = s.trc ∧ (State.thermalTrips s prev t).hst = s.hst ∧ (State.thermalTrips s prev t).pairLo = s.pairLo ∧ (State.thermalTrips s prev t).now = s.now ∧ (State.thermalTrips s prev t).free = s.free ∧ (State.thermalTrips s prev t).pending = s.pending := by
  unfold State.thermalTrips; simp

@[simp] theorem macroFail (s : State) (i pos : Nat) : (State.macroFail s i pos).cmn = s.cmn ∧
    (State.macroFail s i pos).tly = s.tly ∧ (State.macroFail s i pos).adm = s.adm ∧ (State.macroFail s i pos).fcs = s.fcs ∧
    (State.macroFail s i pos).thm = s.thm ∧ (State.macroFail s i pos).dom = s.dom ∧ (State.macroFail s i pos).clk = s.clk ∧
    (State.macroFail s i pos).vrg = s.vrg ∧ (State.macroFail s i pos).pmb = s.pmb ∧ (State.macroFail s i pos).frm = s.frm ∧
    (State.macroFail s i pos).tre = s.tre ∧ (State.macroFail s i pos).aut = s.aut ∧ (State.macroFail s i pos).rst = s.rst ∧
    (State.macroFail s i pos).trc = s.trc ∧ (State.macroFail s i pos).stg = s.stg ∧ (State.macroFail s i pos).hst = s.hst ∧
    (State.macroFail s i pos).pairLo = s.pairLo ∧ (State.macroFail s i pos).now = s.now ∧
    (State.macroFail s i pos).free = s.free ∧ (State.macroFail s i pos).pending = s.pending := by
  unfold State.macroFail; simp

@[simp] theorem ringBreak (s : State) (i pos : Nat) : (State.ringBreak s i pos).cmn = s.cmn ∧
    (State.ringBreak s i pos).tly = s.tly ∧ (State.ringBreak s i pos).adm = s.adm ∧ (State.ringBreak s i pos).fcs = s.fcs ∧
    (State.ringBreak s i pos).thm = s.thm ∧ (State.ringBreak s i pos).dom = s.dom ∧ (State.ringBreak s i pos).clk = s.clk ∧
    (State.ringBreak s i pos).vrg = s.vrg ∧ (State.ringBreak s i pos).pmb = s.pmb ∧ (State.ringBreak s i pos).frm = s.frm ∧
    (State.ringBreak s i pos).tre = s.tre ∧ (State.ringBreak s i pos).aut = s.aut ∧ (State.ringBreak s i pos).rst = s.rst ∧
    (State.ringBreak s i pos).trc = s.trc ∧ (State.ringBreak s i pos).stg = s.stg ∧ (State.ringBreak s i pos).hst = s.hst ∧
    (State.ringBreak s i pos).pairLo = s.pairLo ∧ (State.ringBreak s i pos).now = s.now ∧
    (State.ringBreak s i pos).free = s.free ∧ (State.ringBreak s i pos).pending = s.pending := by
  unfold State.ringBreak; simp

@[simp] theorem rangeBegin (s : State) : (State.rangeBegin s).cmn = s.cmn ∧ (State.rangeBegin s).tly = s.tly ∧
    (State.rangeBegin s).adm = s.adm ∧ (State.rangeBegin s).beam = s.beam ∧ (State.rangeBegin s).ctl = s.ctl ∧
    (State.rangeBegin s).thm = s.thm ∧ (State.rangeBegin s).dom = s.dom ∧ (State.rangeBegin s).clk = s.clk ∧
    (State.rangeBegin s).vrg = s.vrg ∧ (State.rangeBegin s).pmb = s.pmb ∧ (State.rangeBegin s).frm = s.frm ∧
    (State.rangeBegin s).tre = s.tre ∧ (State.rangeBegin s).aut = s.aut ∧ (State.rangeBegin s).rst = s.rst ∧
    (State.rangeBegin s).rel = s.rel ∧ (State.rangeBegin s).trc = s.trc ∧ (State.rangeBegin s).stg = s.stg ∧
    (State.rangeBegin s).hst = s.hst ∧ (State.rangeBegin s).pairLo = s.pairLo ∧ (State.rangeBegin s).now = s.now ∧
    (State.rangeBegin s).free = s.free ∧ (State.rangeBegin s).pending = s.pending := by
  unfold State.rangeBegin; simp

@[simp] theorem ageFail (s : State) (r reason : Nat) : (State.ageFail s r reason).cmn = s.cmn ∧
    (State.ageFail s r reason).seq = s.seq ∧ (State.ageFail s r reason).tly = s.tly ∧
    (State.ageFail s r reason).adm = s.adm ∧ (State.ageFail s r reason).beam = s.beam ∧
    (State.ageFail s r reason).ctl = s.ctl ∧ (State.ageFail s r reason).fcs = s.fcs ∧
    (State.ageFail s r reason).thm = s.thm ∧ (State.ageFail s r reason).sns = s.sns ∧
    (State.ageFail s r reason).dom = s.dom ∧ (State.ageFail s r reason).clk = s.clk ∧
    (State.ageFail s r reason).vrg = s.vrg ∧ (State.ageFail s r reason).pmb = s.pmb ∧
    (State.ageFail s r reason).frm = s.frm ∧ (State.ageFail s r reason).tre = s.tre ∧
    (State.ageFail s r reason).mbs = s.mbs ∧ (State.ageFail s r reason).mbn = s.mbn ∧
    (State.ageFail s r reason).rck = s.rck ∧ (State.ageFail s r reason).aut = s.aut ∧
    (State.ageFail s r reason).rst = s.rst ∧ (State.ageFail s r reason).trc = s.trc ∧
    (State.ageFail s r reason).stg = s.stg ∧ (State.ageFail s r reason).hst = s.hst ∧
    (State.ageFail s r reason).pairLo = s.pairLo ∧ (State.ageFail s r reason).now = s.now ∧
    (State.ageFail s r reason).free = s.free ∧ (State.ageFail s r reason).pending = s.pending := by
  unfold State.ageFail; simp

@[simp] theorem ageReading (s : State) (r ag : Nat) : (State.ageReading s r ag).cmn = s.cmn ∧
    (State.ageReading s r ag).seq = s.seq ∧ (State.ageReading s r ag).tly = s.tly ∧ (State.ageReading s r ag).adm = s.adm ∧
    (State.ageReading s r ag).beam = s.beam ∧ (State.ageReading s r ag).ctl = s.ctl ∧ (State.ageReading s r ag).fcs = s.fcs ∧
    (State.ageReading s r ag).thm = s.thm ∧ (State.ageReading s r ag).sns = s.sns ∧ (State.ageReading s r ag).dom = s.dom ∧
    (State.ageReading s r ag).clk = s.clk ∧ (State.ageReading s r ag).vrg = s.vrg ∧ (State.ageReading s r ag).pmb = s.pmb ∧
    (State.ageReading s r ag).frm = s.frm ∧ (State.ageReading s r ag).tre = s.tre ∧ (State.ageReading s r ag).mbs = s.mbs ∧
    (State.ageReading s r ag).mbn = s.mbn ∧ (State.ageReading s r ag).rck = s.rck ∧ (State.ageReading s r ag).aut = s.aut ∧
    (State.ageReading s r ag).rst = s.rst ∧ (State.ageReading s r ag).trc = s.trc ∧ (State.ageReading s r ag).stg = s.stg ∧
    (State.ageReading s r ag).hst = s.hst ∧ (State.ageReading s r ag).pairLo = s.pairLo ∧
    (State.ageReading s r ag).now = s.now ∧ (State.ageReading s r ag).free = s.free ∧
    (State.ageReading s r ag).pending = s.pending := by
  unfold State.ageReading; simp

@[simp] theorem referenceCheck (s : State) (r ref : Nat) : (State.referenceCheck s r ref).cmn = s.cmn ∧
    (State.referenceCheck s r ref).tly = s.tly ∧ (State.referenceCheck s r ref).adm = s.adm ∧
    (State.referenceCheck s r ref).fcs = s.fcs ∧ (State.referenceCheck s r ref).thm = s.thm ∧
    (State.referenceCheck s r ref).sns = s.sns ∧ (State.referenceCheck s r ref).dom = s.dom ∧
    (State.referenceCheck s r ref).clk = s.clk ∧ (State.referenceCheck s r ref).pmb = s.pmb ∧
    (State.referenceCheck s r ref).frm = s.frm ∧ (State.referenceCheck s r ref).tre = s.tre ∧
    (State.referenceCheck s r ref).aut = s.aut ∧ (State.referenceCheck s r ref).rst = s.rst ∧
    (State.referenceCheck s r ref).trc = s.trc ∧ (State.referenceCheck s r ref).stg = s.stg ∧
    (State.referenceCheck s r ref).hst = s.hst ∧ (State.referenceCheck s r ref).pairLo = s.pairLo ∧
    (State.referenceCheck s r ref).now = s.now ∧ (State.referenceCheck s r ref).free = s.free ∧
    (State.referenceCheck s r ref).pending = s.pending := by
  unfold State.referenceCheck; simp

@[simp] theorem slotValue (s : State) (k : Nat) (v : Int) : (State.slotValue s k v).cmn = s.cmn ∧
    (State.slotValue s k v).tly = s.tly ∧ (State.slotValue s k v).adm = s.adm ∧ (State.slotValue s k v).thm = s.thm ∧
    (State.slotValue s k v).dom = s.dom ∧ (State.slotValue s k v).clk = s.clk ∧ (State.slotValue s k v).pmb = s.pmb ∧
    (State.slotValue s k v).frm = s.frm ∧ (State.slotValue s k v).tre = s.tre ∧ (State.slotValue s k v).aut = s.aut ∧
    (State.slotValue s k v).rst = s.rst ∧ (State.slotValue s k v).trc = s.trc ∧ (State.slotValue s k v).stg = s.stg ∧
    (State.slotValue s k v).hst = s.hst ∧ (State.slotValue s k v).pairLo = s.pairLo ∧ (State.slotValue s k v).now = s.now ∧
    (State.slotValue s k v).free = s.free ∧ (State.slotValue s k v).pending = s.pending := by
  unfold State.slotValue; simp

@[simp] theorem slotFailed (s : State) (k : Nat) : (State.slotFailed s k).cmn = s.cmn ∧
    (State.slotFailed s k).tly = s.tly ∧ (State.slotFailed s k).adm = s.adm ∧ (State.slotFailed s k).beam = s.beam ∧
    (State.slotFailed s k).ctl = s.ctl ∧ (State.slotFailed s k).thm = s.thm ∧ (State.slotFailed s k).dom = s.dom ∧
    (State.slotFailed s k).clk = s.clk ∧ (State.slotFailed s k).vrg = s.vrg ∧ (State.slotFailed s k).pmb = s.pmb ∧
    (State.slotFailed s k).frm = s.frm ∧ (State.slotFailed s k).tre = s.tre ∧ (State.slotFailed s k).aut = s.aut ∧
    (State.slotFailed s k).rst = s.rst ∧ (State.slotFailed s k).trc = s.trc ∧ (State.slotFailed s k).stg = s.stg ∧
    (State.slotFailed s k).hst = s.hst ∧ (State.slotFailed s k).pairLo = s.pairLo ∧ (State.slotFailed s k).now = s.now ∧
    (State.slotFailed s k).free = s.free ∧ (State.slotFailed s k).pending = s.pending := by
  unfold State.slotFailed; simp

@[simp] theorem maskFault (s : State) (d : Nat) (bad : Bool) : (State.maskFault s d bad).cmn = s.cmn ∧
    (State.maskFault s d bad).seq = s.seq ∧ (State.maskFault s d bad).tly = s.tly ∧ (State.maskFault s d bad).adm = s.adm ∧
    (State.maskFault s d bad).ctl = s.ctl ∧ (State.maskFault s d bad).fcs = s.fcs ∧ (State.maskFault s d bad).thm = s.thm ∧
    (State.maskFault s d bad).sns = s.sns ∧ (State.maskFault s d bad).dom = s.dom ∧ (State.maskFault s d bad).clk = s.clk ∧
    (State.maskFault s d bad).vrg = s.vrg ∧ (State.maskFault s d bad).pmb = s.pmb ∧ (State.maskFault s d bad).frm = s.frm ∧
    (State.maskFault s d bad).tre = s.tre ∧ (State.maskFault s d bad).mbs = s.mbs ∧ (State.maskFault s d bad).mbn = s.mbn ∧
    (State.maskFault s d bad).rck = s.rck ∧ (State.maskFault s d bad).aut = s.aut ∧ (State.maskFault s d bad).rst = s.rst ∧
    (State.maskFault s d bad).rel = s.rel ∧ (State.maskFault s d bad).evt = s.evt ∧ (State.maskFault s d bad).trc = s.trc ∧
    (State.maskFault s d bad).stg = s.stg ∧ (State.maskFault s d bad).hst = s.hst ∧
    (State.maskFault s d bad).pairLo = s.pairLo ∧ (State.maskFault s d bad).now = s.now ∧
    (State.maskFault s d bad).free = s.free ∧ (State.maskFault s d bad).pending = s.pending := by
  unfold State.maskFault; simp

@[simp] theorem publishThermal (s : State) : (State.publishThermal s).cmn = s.cmn ∧
    (State.publishThermal s).seq = s.seq ∧ (State.publishThermal s).tly = s.tly ∧ (State.publishThermal s).adm = s.adm ∧
    (State.publishThermal s).beam = s.beam ∧ (State.publishThermal s).ctl = s.ctl ∧ (State.publishThermal s).fcs = s.fcs ∧
    (State.publishThermal s).thm = s.thm ∧ (State.publishThermal s).sns = s.sns ∧ (State.publishThermal s).dom = s.dom ∧
    (State.publishThermal s).clk = s.clk ∧ (State.publishThermal s).vrg = s.vrg ∧ (State.publishThermal s).pmb = s.pmb ∧
    (State.publishThermal s).tre = s.tre ∧ (State.publishThermal s).mbs = s.mbs ∧ (State.publishThermal s).mbn = s.mbn ∧
    (State.publishThermal s).rck = s.rck ∧ (State.publishThermal s).aut = s.aut ∧ (State.publishThermal s).rst = s.rst ∧
    (State.publishThermal s).rel = s.rel ∧ (State.publishThermal s).evt = s.evt ∧ (State.publishThermal s).trc = s.trc ∧
    (State.publishThermal s).hdr = s.hdr ∧ (State.publishThermal s).stg = s.stg ∧ (State.publishThermal s).hst = s.hst ∧
    (State.publishThermal s).pairLo = s.pairLo ∧ (State.publishThermal s).now = s.now ∧
    (State.publishThermal s).free = s.free ∧ (State.publishThermal s).pending = s.pending := by
  unfold State.publishThermal; (repeat' split) <;> simp

@[simp] theorem driftRefit (s : State) : (State.driftRefit s).cmn = s.cmn ∧ (State.driftRefit s).seq = s.seq ∧
    (State.driftRefit s).tly = s.tly ∧ (State.driftRefit s).adm = s.adm ∧ (State.driftRefit s).beam = s.beam ∧
    (State.driftRefit s).ctl = s.ctl ∧ (State.driftRefit s).fcs = s.fcs ∧ (State.driftRefit s).thm = s.thm ∧
    (State.driftRefit s).dom = s.dom ∧ (State.driftRefit s).clk = s.clk ∧ (State.driftRefit s).vrg = s.vrg ∧
    (State.driftRefit s).pmb = s.pmb ∧ (State.driftRefit s).frm = s.frm ∧ (State.driftRefit s).tre = s.tre ∧
    (State.driftRefit s).mbs = s.mbs ∧ (State.driftRefit s).mbn = s.mbn ∧ (State.driftRefit s).rck = s.rck ∧
    (State.driftRefit s).aut = s.aut ∧ (State.driftRefit s).rst = s.rst ∧ (State.driftRefit s).rel = s.rel ∧
    (State.driftRefit s).evt = s.evt ∧ (State.driftRefit s).trc = s.trc ∧ (State.driftRefit s).hdr = s.hdr ∧
    (State.driftRefit s).stg = s.stg ∧ (State.driftRefit s).hst = s.hst ∧ (State.driftRefit s).pairLo = s.pairLo ∧
    (State.driftRefit s).now = s.now ∧ (State.driftRefit s).pending = s.pending := by
  unfold State.driftRefit; simp

end Pages
end

