-- ==== Sys2Proof/Laws/PagesLinks.lean ====
section
/-! SUPPORT. Which pages of State each operation leaves alone: the frame, the Kazsin tree and the rack port. One lemma for each operation, a conjunction
over every page the operation does not write, tagged simp so that no later proof unfolds the operation for them. -/

set_option linter.unusedSimpArgs false

namespace Pages

open Sys2Proof Sys2Proof.Machine

@[simp] theorem portMod (s : State) (p : Nat) (f : TrePort → TrePort) : (State.portMod s p f).cmn = s.cmn ∧
    (State.portMod s p f).seq = s.seq ∧ (State.portMod s p f).tly = s.tly ∧ (State.portMod s p f).adm = s.adm ∧
    (State.portMod s p f).beam = s.beam ∧ (State.portMod s p f).ctl = s.ctl ∧ (State.portMod s p f).fcs = s.fcs ∧
    (State.portMod s p f).thm = s.thm ∧ (State.portMod s p f).sns = s.sns ∧ (State.portMod s p f).dom = s.dom ∧
    (State.portMod s p f).clk = s.clk ∧ (State.portMod s p f).vrg = s.vrg ∧ (State.portMod s p f).pmb = s.pmb ∧
    (State.portMod s p f).frm = s.frm ∧ (State.portMod s p f).mbs = s.mbs ∧ (State.portMod s p f).mbn = s.mbn ∧
    (State.portMod s p f).rck = s.rck ∧ (State.portMod s p f).aut = s.aut ∧ (State.portMod s p f).rst = s.rst ∧
    (State.portMod s p f).rel = s.rel ∧ (State.portMod s p f).evt = s.evt ∧ (State.portMod s p f).trc = s.trc ∧
    (State.portMod s p f).hdr = s.hdr ∧ (State.portMod s p f).stg = s.stg ∧ (State.portMod s p f).hst = s.hst ∧
    (State.portMod s p f).pairLo = s.pairLo ∧ (State.portMod s p f).now = s.now ∧ (State.portMod s p f).free = s.free ∧
    (State.portMod s p f).pending = s.pending := by
  unfold State.portMod; simp

@[simp] theorem onTre (s : State) (f : Tre → Tre) : (State.onTre s f).cmn = s.cmn ∧
    (State.onTre s f).seq = s.seq ∧ (State.onTre s f).tly = s.tly ∧ (State.onTre s f).adm = s.adm ∧
    (State.onTre s f).beam = s.beam ∧ (State.onTre s f).ctl = s.ctl ∧ (State.onTre s f).fcs = s.fcs ∧
    (State.onTre s f).thm = s.thm ∧ (State.onTre s f).sns = s.sns ∧ (State.onTre s f).dom = s.dom ∧
    (State.onTre s f).clk = s.clk ∧ (State.onTre s f).vrg = s.vrg ∧ (State.onTre s f).pmb = s.pmb ∧
    (State.onTre s f).frm = s.frm ∧ (State.onTre s f).mbs = s.mbs ∧ (State.onTre s f).mbn = s.mbn ∧
    (State.onTre s f).rck = s.rck ∧ (State.onTre s f).aut = s.aut ∧ (State.onTre s f).rst = s.rst ∧
    (State.onTre s f).rel = s.rel ∧ (State.onTre s f).evt = s.evt ∧ (State.onTre s f).trc = s.trc ∧
    (State.onTre s f).hdr = s.hdr ∧ (State.onTre s f).stg = s.stg ∧ (State.onTre s f).hst = s.hst ∧
    (State.onTre s f).pairLo = s.pairLo ∧ (State.onTre s f).now = s.now ∧ (State.onTre s f).free = s.free ∧
    (State.onTre s f).pending = s.pending := by
  unfold State.onTre; simp

@[simp] theorem sendUp (s : State) (typ pay : Nat) (chal : List Nat) : (State.sendUp s typ pay chal).cmn = s.cmn ∧ (State.sendUp s typ pay chal).seq = s.seq ∧ (State.sendUp s typ pay chal).tly = s.tly ∧ (State.sendUp s typ pay chal).adm = s.adm ∧ (State.sendUp s typ pay chal).beam = s.beam ∧ (State.sendUp s typ pay chal).ctl = s.ctl ∧ (State.sendUp s typ pay chal).fcs = s.fcs ∧ (State.sendUp s typ pay chal).thm = s.thm ∧ (State.sendUp s typ pay chal).sns = s.sns ∧ (State.sendUp s typ pay chal).dom = s.dom ∧ (State.sendUp s typ pay chal).clk = s.clk ∧ (State.sendUp s typ pay chal).vrg = s.vrg ∧ (State.sendUp s typ pay chal).pmb = s.pmb ∧ (State.sendUp s typ pay chal).frm = s.frm ∧ (State.sendUp s typ pay chal).mbs = s.mbs ∧ (State.sendUp s typ pay chal).mbn = s.mbn ∧ (State.sendUp s typ pay chal).rck = s.rck ∧ (State.sendUp s typ pay chal).aut = s.aut ∧ (State.sendUp s typ pay chal).rst = s.rst ∧ (State.sendUp s typ pay chal).rel = s.rel ∧ (State.sendUp s typ pay chal).evt = s.evt ∧ (State.sendUp s typ pay chal).trc = s.trc ∧ (State.sendUp s typ pay chal).hdr = s.hdr ∧ (State.sendUp s typ pay chal).stg = s.stg ∧ (State.sendUp s typ pay chal).hst = s.hst ∧ (State.sendUp s typ pay chal).pairLo = s.pairLo ∧ (State.sendUp s typ pay chal).now = s.now ∧ (State.sendUp s typ pay chal).free = s.free ∧ (State.sendUp s typ pay chal).pending = s.pending := by
  unfold State.sendUp; simp

@[simp] theorem sendDn (s : State) (port typ pay : Nat) (chal : List Nat) : (State.sendDn s port typ pay chal).cmn = s.cmn ∧ (State.sendDn s port typ pay chal).seq = s.seq ∧ (State.sendDn s port typ pay chal).tly = s.tly ∧ (State.sendDn s port typ pay chal).adm = s.adm ∧ (State.sendDn s port typ pay chal).beam = s.beam ∧ (State.sendDn s port typ pay chal).ctl = s.ctl ∧ (State.sendDn s port typ pay chal).fcs = s.fcs ∧ (State.sendDn s port typ pay chal).thm = s.thm ∧ (State.sendDn s port typ pay chal).sns = s.sns ∧ (State.sendDn s port typ pay chal).dom = s.dom ∧ (State.sendDn s port typ pay chal).clk = s.clk ∧ (State.sendDn s port typ pay chal).vrg = s.vrg ∧ (State.sendDn s port typ pay chal).pmb = s.pmb ∧ (State.sendDn s port typ pay chal).frm = s.frm ∧ (State.sendDn s port typ pay chal).mbs = s.mbs ∧ (State.sendDn s port typ pay chal).mbn = s.mbn ∧ (State.sendDn s port typ pay chal).rck = s.rck ∧ (State.sendDn s port typ pay chal).rst = s.rst ∧ (State.sendDn s port typ pay chal).rel = s.rel ∧ (State.sendDn s port typ pay chal).evt = s.evt ∧ (State.sendDn s port typ pay chal).trc = s.trc ∧ (State.sendDn s port typ pay chal).hdr = s.hdr ∧ (State.sendDn s port typ pay chal).stg = s.stg ∧ (State.sendDn s port typ pay chal).hst = s.hst ∧ (State.sendDn s port typ pay chal).pairLo = s.pairLo ∧ (State.sendDn s port typ pay chal).now = s.now ∧ (State.sendDn s port typ pay chal).free = s.free ∧ (State.sendDn s port typ pay chal).pending = s.pending := by
  unfold State.sendDn; simp

@[simp] theorem memberMod (s : State) (m : Nat) (f : FrmMember → FrmMember) : (State.memberMod s m f).cmn = s.cmn ∧ (State.memberMod s m f).seq = s.seq ∧ (State.memberMod s m f).tly = s.tly ∧ (State.memberMod s m f).adm = s.adm ∧ (State.memberMod s m f).beam = s.beam ∧ (State.memberMod s m f).ctl = s.ctl ∧ (State.memberMod s m f).fcs = s.fcs ∧ (State.memberMod s m f).thm = s.thm ∧ (State.memberMod s m f).sns = s.sns ∧ (State.memberMod s m f).dom = s.dom ∧ (State.memberMod s m f).clk = s.clk ∧ (State.memberMod s m f).vrg = s.vrg ∧ (State.memberMod s m f).pmb = s.pmb ∧ (State.memberMod s m f).tre = s.tre ∧ (State.memberMod s m f).mbs = s.mbs ∧ (State.memberMod s m f).mbn = s.mbn ∧ (State.memberMod s m f).rck = s.rck ∧ (State.memberMod s m f).aut = s.aut ∧ (State.memberMod s m f).rst = s.rst ∧ (State.memberMod s m f).rel = s.rel ∧ (State.memberMod s m f).evt = s.evt ∧ (State.memberMod s m f).trc = s.trc ∧ (State.memberMod s m f).hdr = s.hdr ∧ (State.memberMod s m f).stg = s.stg ∧ (State.memberMod s m f).hst = s.hst ∧ (State.memberMod s m f).pairLo = s.pairLo ∧ (State.memberMod s m f).now = s.now ∧ (State.memberMod s m f).free = s.free ∧ (State.memberMod s m f).pending = s.pending := by
  unfold State.memberMod; simp

@[simp] theorem onFrm (s : State) (f : Machine.Frm → Machine.Frm) : (State.onFrm s f).cmn = s.cmn ∧
    (State.onFrm s f).seq = s.seq ∧ (State.onFrm s f).tly = s.tly ∧ (State.onFrm s f).adm = s.adm ∧
    (State.onFrm s f).beam = s.beam ∧ (State.onFrm s f).ctl = s.ctl ∧ (State.onFrm s f).fcs = s.fcs ∧
    (State.onFrm s f).thm = s.thm ∧ (State.onFrm s f).sns = s.sns ∧ (State.onFrm s f).dom = s.dom ∧
    (State.onFrm s f).clk = s.clk ∧ (State.onFrm s f).vrg = s.vrg ∧ (State.onFrm s f).pmb = s.pmb ∧
    (State.onFrm s f).tre = s.tre ∧ (State.onFrm s f).mbs = s.mbs ∧ (State.onFrm s f).mbn = s.mbn ∧
    (State.onFrm s f).rck = s.rck ∧ (State.onFrm s f).aut = s.aut ∧ (State.onFrm s f).rst = s.rst ∧
    (State.onFrm s f).rel = s.rel ∧ (State.onFrm s f).evt = s.evt ∧ (State.onFrm s f).trc = s.trc ∧
    (State.onFrm s f).hdr = s.hdr ∧ (State.onFrm s f).stg = s.stg ∧ (State.onFrm s f).hst = s.hst ∧
    (State.onFrm s f).pairLo = s.pairLo ∧ (State.onFrm s f).now = s.now ∧ (State.onFrm s f).free = s.free ∧
    (State.onFrm s f).pending = s.pending := by
  unfold State.onFrm; simp

@[simp] theorem setBudget (s : State) (b : Nat) : (State.setBudget s b).cmn = s.cmn ∧
    (State.setBudget s b).seq = s.seq ∧ (State.setBudget s b).tly = s.tly ∧ (State.setBudget s b).adm = s.adm ∧
    (State.setBudget s b).beam = s.beam ∧ (State.setBudget s b).ctl = s.ctl ∧ (State.setBudget s b).fcs = s.fcs ∧
    (State.setBudget s b).thm = s.thm ∧ (State.setBudget s b).sns = s.sns ∧ (State.setBudget s b).dom = s.dom ∧
    (State.setBudget s b).clk = s.clk ∧ (State.setBudget s b).vrg = s.vrg ∧ (State.setBudget s b).pmb = s.pmb ∧
    (State.setBudget s b).tre = s.tre ∧ (State.setBudget s b).aut = s.aut ∧ (State.setBudget s b).rst = s.rst ∧
    (State.setBudget s b).rel = s.rel ∧ (State.setBudget s b).trc = s.trc ∧ (State.setBudget s b).stg = s.stg ∧
    (State.setBudget s b).hst = s.hst ∧ (State.setBudget s b).pairLo = s.pairLo ∧ (State.setBudget s b).now = s.now ∧
    (State.setBudget s b).free = s.free ∧ (State.setBudget s b).pending = s.pending := by
  unfold State.setBudget; simp

@[simp] theorem applyShare (s : State) (share floor : Nat) : (State.applyShare s share floor).cmn = s.cmn ∧
    (State.applyShare s share floor).seq = s.seq ∧ (State.applyShare s share floor).tly = s.tly ∧
    (State.applyShare s share floor).beam = s.beam ∧ (State.applyShare s share floor).ctl = s.ctl ∧
    (State.applyShare s share floor).fcs = s.fcs ∧ (State.applyShare s share floor).thm = s.thm ∧
    (State.applyShare s share floor).sns = s.sns ∧ (State.applyShare s share floor).dom = s.dom ∧
    (State.applyShare s share floor).clk = s.clk ∧ (State.applyShare s share floor).vrg = s.vrg ∧
    (State.applyShare s share floor).pmb = s.pmb ∧ (State.applyShare s share floor).tre = s.tre ∧
    (State.applyShare s share floor).mbs = s.mbs ∧ (State.applyShare s share floor).mbn = s.mbn ∧
    (State.applyShare s share floor).rck = s.rck ∧ (State.applyShare s share floor).aut = s.aut ∧
    (State.applyShare s share floor).rst = s.rst ∧ (State.applyShare s share floor).rel = s.rel ∧
    (State.applyShare s share floor).evt = s.evt ∧ (State.applyShare s share floor).trc = s.trc ∧
    (State.applyShare s share floor).hdr = s.hdr ∧ (State.applyShare s share floor).stg = s.stg ∧
    (State.applyShare s share floor).hst = s.hst ∧ (State.applyShare s share floor).pairLo = s.pairLo ∧
    (State.applyShare s share floor).now = s.now ∧ (State.applyShare s share floor).free = s.free ∧
    (State.applyShare s share floor).pending = s.pending := by
  unfold State.applyShare; simp

@[simp] theorem shareSend (s : State) (kind m share : Nat) : (State.shareSend s kind m share).cmn = s.cmn ∧
    (State.shareSend s kind m share).seq = s.seq ∧ (State.shareSend s kind m share).tly = s.tly ∧
    (State.shareSend s kind m share).beam = s.beam ∧ (State.shareSend s kind m share).ctl = s.ctl ∧
    (State.shareSend s kind m share).fcs = s.fcs ∧ (State.shareSend s kind m share).thm = s.thm ∧
    (State.shareSend s kind m share).sns = s.sns ∧ (State.shareSend s kind m share).dom = s.dom ∧
    (State.shareSend s kind m share).clk = s.clk ∧ (State.shareSend s kind m share).vrg = s.vrg ∧
    (State.shareSend s kind m share).pmb = s.pmb ∧ (State.shareSend s kind m share).tre = s.tre ∧
    (State.shareSend s kind m share).mbs = s.mbs ∧ (State.shareSend s kind m share).mbn = s.mbn ∧
    (State.shareSend s kind m share).rck = s.rck ∧ (State.shareSend s kind m share).aut = s.aut ∧
    (State.shareSend s kind m share).rst = s.rst ∧ (State.shareSend s kind m share).rel = s.rel ∧
    (State.shareSend s kind m share).evt = s.evt ∧ (State.shareSend s kind m share).trc = s.trc ∧
    (State.shareSend s kind m share).hdr = s.hdr ∧ (State.shareSend s kind m share).stg = s.stg ∧
    (State.shareSend s kind m share).hst = s.hst ∧ (State.shareSend s kind m share).pairLo = s.pairLo ∧
    (State.shareSend s kind m share).now = s.now ∧ (State.shareSend s kind m share).free = s.free ∧
    (State.shareSend s kind m share).pending = s.pending := by
  unfold State.shareSend; simp

@[simp] theorem secondWave (s : State) : (State.secondWave s).cmn = s.cmn ∧ (State.secondWave s).seq = s.seq ∧
    (State.secondWave s).tly = s.tly ∧ (State.secondWave s).beam = s.beam ∧ (State.secondWave s).ctl = s.ctl ∧
    (State.secondWave s).fcs = s.fcs ∧ (State.secondWave s).thm = s.thm ∧ (State.secondWave s).sns = s.sns ∧
    (State.secondWave s).dom = s.dom ∧ (State.secondWave s).clk = s.clk ∧ (State.secondWave s).vrg = s.vrg ∧
    (State.secondWave s).pmb = s.pmb ∧ (State.secondWave s).tre = s.tre ∧ (State.secondWave s).mbs = s.mbs ∧
    (State.secondWave s).mbn = s.mbn ∧ (State.secondWave s).rck = s.rck ∧ (State.secondWave s).aut = s.aut ∧
    (State.secondWave s).rst = s.rst ∧ (State.secondWave s).rel = s.rel ∧ (State.secondWave s).evt = s.evt ∧
    (State.secondWave s).trc = s.trc ∧ (State.secondWave s).hdr = s.hdr ∧ (State.secondWave s).stg = s.stg ∧
    (State.secondWave s).hst = s.hst ∧ (State.secondWave s).pairLo = s.pairLo ∧ (State.secondWave s).now = s.now ∧
    (State.secondWave s).free = s.free ∧ (State.secondWave s).pending = s.pending := by
  unfold State.secondWave; simp

@[simp] theorem waveStep (s : State) : (State.waveStep s).cmn = s.cmn ∧ (State.waveStep s).seq = s.seq ∧
    (State.waveStep s).tly = s.tly ∧ (State.waveStep s).beam = s.beam ∧ (State.waveStep s).ctl = s.ctl ∧
    (State.waveStep s).fcs = s.fcs ∧ (State.waveStep s).thm = s.thm ∧ (State.waveStep s).sns = s.sns ∧
    (State.waveStep s).dom = s.dom ∧ (State.waveStep s).clk = s.clk ∧ (State.waveStep s).vrg = s.vrg ∧
    (State.waveStep s).pmb = s.pmb ∧ (State.waveStep s).tre = s.tre ∧ (State.waveStep s).mbs = s.mbs ∧
    (State.waveStep s).mbn = s.mbn ∧ (State.waveStep s).rck = s.rck ∧ (State.waveStep s).aut = s.aut ∧
    (State.waveStep s).rst = s.rst ∧ (State.waveStep s).rel = s.rel ∧ (State.waveStep s).evt = s.evt ∧
    (State.waveStep s).trc = s.trc ∧ (State.waveStep s).hdr = s.hdr ∧ (State.waveStep s).stg = s.stg ∧
    (State.waveStep s).hst = s.hst ∧ (State.waveStep s).pairLo = s.pairLo ∧ (State.waveStep s).now = s.now ∧
    (State.waveStep s).free = s.free ∧ (State.waveStep s).pending = s.pending := by
  unfold State.waveStep; simp

@[simp] theorem waveDrop (s : State) (m : Nat) : (State.waveDrop s m).cmn = s.cmn ∧
    (State.waveDrop s m).seq = s.seq ∧ (State.waveDrop s m).tly = s.tly ∧ (State.waveDrop s m).beam = s.beam ∧
    (State.waveDrop s m).ctl = s.ctl ∧ (State.waveDrop s m).fcs = s.fcs ∧ (State.waveDrop s m).thm = s.thm ∧
    (State.waveDrop s m).sns = s.sns ∧ (State.waveDrop s m).dom = s.dom ∧ (State.waveDrop s m).clk = s.clk ∧
    (State.waveDrop s m).vrg = s.vrg ∧ (State.waveDrop s m).pmb = s.pmb ∧ (State.waveDrop s m).tre = s.tre ∧
    (State.waveDrop s m).mbs = s.mbs ∧ (State.waveDrop s m).mbn = s.mbn ∧ (State.waveDrop s m).rck = s.rck ∧
    (State.waveDrop s m).aut = s.aut ∧ (State.waveDrop s m).rst = s.rst ∧ (State.waveDrop s m).rel = s.rel ∧
    (State.waveDrop s m).evt = s.evt ∧ (State.waveDrop s m).trc = s.trc ∧ (State.waveDrop s m).hdr = s.hdr ∧
    (State.waveDrop s m).stg = s.stg ∧ (State.waveDrop s m).hst = s.hst ∧ (State.waveDrop s m).pairLo = s.pairLo ∧
    (State.waveDrop s m).now = s.now ∧ (State.waveDrop s m).free = s.free ∧ (State.waveDrop s m).pending = s.pending := by
  unfold State.waveDrop; simp

@[simp] theorem splitShares (s : State) : (State.splitShares s).cmn = s.cmn ∧ (State.splitShares s).seq = s.seq ∧
    (State.splitShares s).tly = s.tly ∧ (State.splitShares s).beam = s.beam ∧ (State.splitShares s).ctl = s.ctl ∧
    (State.splitShares s).fcs = s.fcs ∧ (State.splitShares s).thm = s.thm ∧ (State.splitShares s).sns = s.sns ∧
    (State.splitShares s).dom = s.dom ∧ (State.splitShares s).clk = s.clk ∧ (State.splitShares s).vrg = s.vrg ∧
    (State.splitShares s).pmb = s.pmb ∧ (State.splitShares s).tre = s.tre ∧ (State.splitShares s).aut = s.aut ∧
    (State.splitShares s).rst = s.rst ∧ (State.splitShares s).rel = s.rel ∧ (State.splitShares s).trc = s.trc ∧
    (State.splitShares s).stg = s.stg ∧ (State.splitShares s).hst = s.hst ∧ (State.splitShares s).pairLo = s.pairLo ∧
    (State.splitShares s).now = s.now ∧ (State.splitShares s).free = s.free ∧ (State.splitShares s).pending = s.pending := by
  unfold State.splitShares; simp

@[simp] theorem budgetFell (s : State) : (State.budgetFell s).cmn = s.cmn ∧ (State.budgetFell s).seq = s.seq ∧
    (State.budgetFell s).tly = s.tly ∧ (State.budgetFell s).beam = s.beam ∧ (State.budgetFell s).ctl = s.ctl ∧
    (State.budgetFell s).fcs = s.fcs ∧ (State.budgetFell s).thm = s.thm ∧ (State.budgetFell s).sns = s.sns ∧
    (State.budgetFell s).dom = s.dom ∧ (State.budgetFell s).clk = s.clk ∧ (State.budgetFell s).vrg = s.vrg ∧
    (State.budgetFell s).pmb = s.pmb ∧ (State.budgetFell s).tre = s.tre ∧ (State.budgetFell s).aut = s.aut ∧
    (State.budgetFell s).rst = s.rst ∧ (State.budgetFell s).rel = s.rel ∧ (State.budgetFell s).trc = s.trc ∧
    (State.budgetFell s).stg = s.stg ∧ (State.budgetFell s).hst = s.hst ∧ (State.budgetFell s).pairLo = s.pairLo ∧
    (State.budgetFell s).now = s.now ∧ (State.budgetFell s).free = s.free ∧ (State.budgetFell s).pending = s.pending := by
  unfold State.budgetFell; simp

@[simp] theorem holdShare (s : State) (m : Nat) : (State.holdShare s m).cmn = s.cmn ∧
    (State.holdShare s m).seq = s.seq ∧ (State.holdShare s m).tly = s.tly ∧ (State.holdShare s m).beam = s.beam ∧
    (State.holdShare s m).ctl = s.ctl ∧ (State.holdShare s m).fcs = s.fcs ∧ (State.holdShare s m).thm = s.thm ∧
    (State.holdShare s m).sns = s.sns ∧ (State.holdShare s m).dom = s.dom ∧ (State.holdShare s m).clk = s.clk ∧
    (State.holdShare s m).vrg = s.vrg ∧ (State.holdShare s m).pmb = s.pmb ∧ (State.holdShare s m).tre = s.tre ∧
    (State.holdShare s m).mbs = s.mbs ∧ (State.holdShare s m).mbn = s.mbn ∧ (State.holdShare s m).rck = s.rck ∧
    (State.holdShare s m).aut = s.aut ∧ (State.holdShare s m).rst = s.rst ∧ (State.holdShare s m).rel = s.rel ∧
    (State.holdShare s m).evt = s.evt ∧ (State.holdShare s m).trc = s.trc ∧ (State.holdShare s m).hdr = s.hdr ∧
    (State.holdShare s m).stg = s.stg ∧ (State.holdShare s m).hst = s.hst ∧ (State.holdShare s m).pairLo = s.pairLo ∧
    (State.holdShare s m).now = s.now ∧ (State.holdShare s m).free = s.free ∧ (State.holdShare s m).pending = s.pending := by
  unfold State.holdShare; simp

@[simp] theorem treSplit (s : State) : (State.treSplit s).cmn = s.cmn ∧ (State.treSplit s).seq = s.seq ∧
    (State.treSplit s).tly = s.tly ∧ (State.treSplit s).adm = s.adm ∧ (State.treSplit s).beam = s.beam ∧
    (State.treSplit s).ctl = s.ctl ∧ (State.treSplit s).fcs = s.fcs ∧ (State.treSplit s).thm = s.thm ∧
    (State.treSplit s).sns = s.sns ∧ (State.treSplit s).dom = s.dom ∧ (State.treSplit s).clk = s.clk ∧
    (State.treSplit s).vrg = s.vrg ∧ (State.treSplit s).pmb = s.pmb ∧ (State.treSplit s).frm = s.frm ∧
    (State.treSplit s).mbs = s.mbs ∧ (State.treSplit s).mbn = s.mbn ∧ (State.treSplit s).rck = s.rck ∧
    (State.treSplit s).aut = s.aut ∧ (State.treSplit s).rst = s.rst ∧ (State.treSplit s).rel = s.rel ∧
    (State.treSplit s).evt = s.evt ∧ (State.treSplit s).trc = s.trc ∧ (State.treSplit s).hdr = s.hdr ∧
    (State.treSplit s).stg = s.stg ∧ (State.treSplit s).hst = s.hst ∧ (State.treSplit s).pairLo = s.pairLo ∧
    (State.treSplit s).now = s.now ∧ (State.treSplit s).free = s.free ∧ (State.treSplit s).pending = s.pending := by
  unfold State.treSplit; simp

@[simp] theorem subFell (s : State) : (State.subFell s).cmn = s.cmn ∧ (State.subFell s).seq = s.seq ∧
    (State.subFell s).tly = s.tly ∧ (State.subFell s).beam = s.beam ∧ (State.subFell s).ctl = s.ctl ∧
    (State.subFell s).fcs = s.fcs ∧ (State.subFell s).thm = s.thm ∧ (State.subFell s).sns = s.sns ∧
    (State.subFell s).dom = s.dom ∧ (State.subFell s).clk = s.clk ∧ (State.subFell s).vrg = s.vrg ∧
    (State.subFell s).pmb = s.pmb ∧ (State.subFell s).aut = s.aut ∧ (State.subFell s).rst = s.rst ∧
    (State.subFell s).rel = s.rel ∧ (State.subFell s).trc = s.trc ∧ (State.subFell s).stg = s.stg ∧
    (State.subFell s).hst = s.hst ∧ (State.subFell s).pairLo = s.pairLo ∧ (State.subFell s).now = s.now ∧
    (State.subFell s).free = s.free ∧ (State.subFell s).pending = s.pending := by
  unfold State.subFell; simp

@[simp] theorem sendCap (s : State) : (State.sendCap s).cmn = s.cmn ∧ (State.sendCap s).seq = s.seq ∧
    (State.sendCap s).tly = s.tly ∧ (State.sendCap s).beam = s.beam ∧ (State.sendCap s).ctl = s.ctl ∧
    (State.sendCap s).fcs = s.fcs ∧ (State.sendCap s).thm = s.thm ∧ (State.sendCap s).sns = s.sns ∧
    (State.sendCap s).dom = s.dom ∧ (State.sendCap s).clk = s.clk ∧ (State.sendCap s).vrg = s.vrg ∧
    (State.sendCap s).pmb = s.pmb ∧ (State.sendCap s).aut = s.aut ∧ (State.sendCap s).rst = s.rst ∧
    (State.sendCap s).rel = s.rel ∧ (State.sendCap s).trc = s.trc ∧ (State.sendCap s).stg = s.stg ∧
    (State.sendCap s).hst = s.hst ∧ (State.sendCap s).pairLo = s.pairLo ∧ (State.sendCap s).now = s.now ∧
    (State.sendCap s).free = s.free ∧ (State.sendCap s).pending = s.pending := by
  unfold State.sendCap; simp

@[simp] theorem treTakeOver (s : State) : (State.treTakeOver s).cmn = s.cmn ∧ (State.treTakeOver s).seq = s.seq ∧
    (State.treTakeOver s).tly = s.tly ∧ (State.treTakeOver s).adm = s.adm ∧ (State.treTakeOver s).beam = s.beam ∧
    (State.treTakeOver s).ctl = s.ctl ∧ (State.treTakeOver s).fcs = s.fcs ∧ (State.treTakeOver s).thm = s.thm ∧
    (State.treTakeOver s).sns = s.sns ∧ (State.treTakeOver s).dom = s.dom ∧ (State.treTakeOver s).clk = s.clk ∧
    (State.treTakeOver s).vrg = s.vrg ∧ (State.treTakeOver s).pmb = s.pmb ∧ (State.treTakeOver s).mbs = s.mbs ∧
    (State.treTakeOver s).mbn = s.mbn ∧ (State.treTakeOver s).rck = s.rck ∧ (State.treTakeOver s).rst = s.rst ∧
    (State.treTakeOver s).rel = s.rel ∧ (State.treTakeOver s).trc = s.trc ∧ (State.treTakeOver s).stg = s.stg ∧
    (State.treTakeOver s).hst = s.hst ∧ (State.treTakeOver s).pairLo = s.pairLo ∧ (State.treTakeOver s).now = s.now ∧
    (State.treTakeOver s).free = s.free ∧ (State.treTakeOver s).pending = s.pending := by
  unfold State.treTakeOver; simp

@[simp] theorem elect (s : State) : (State.elect s).cmn = s.cmn ∧ (State.elect s).seq = s.seq ∧
    (State.elect s).tly = s.tly ∧ (State.elect s).adm = s.adm ∧ (State.elect s).beam = s.beam ∧ (State.elect s).ctl = s.ctl ∧
    (State.elect s).fcs = s.fcs ∧ (State.elect s).thm = s.thm ∧ (State.elect s).sns = s.sns ∧ (State.elect s).dom = s.dom ∧
    (State.elect s).clk = s.clk ∧ (State.elect s).vrg = s.vrg ∧ (State.elect s).pmb = s.pmb ∧ (State.elect s).rst = s.rst ∧
    (State.elect s).rel = s.rel ∧ (State.elect s).trc = s.trc ∧ (State.elect s).stg = s.stg ∧ (State.elect s).hst = s.hst ∧
    (State.elect s).pairLo = s.pairLo ∧ (State.elect s).now = s.now ∧ (State.elect s).free = s.free ∧
    (State.elect s).pending = s.pending := by
  unfold State.elect; simp

@[simp] theorem topology (s : State) : (State.topology s).cmn = s.cmn ∧ (State.topology s).seq = s.seq ∧
    (State.topology s).tly = s.tly ∧ (State.topology s).beam = s.beam ∧ (State.topology s).ctl = s.ctl ∧
    (State.topology s).fcs = s.fcs ∧ (State.topology s).thm = s.thm ∧ (State.topology s).sns = s.sns ∧
    (State.topology s).dom = s.dom ∧ (State.topology s).clk = s.clk ∧ (State.topology s).vrg = s.vrg ∧
    (State.topology s).pmb = s.pmb ∧ (State.topology s).rst = s.rst ∧ (State.topology s).rel = s.rel ∧
    (State.topology s).trc = s.trc ∧ (State.topology s).stg = s.stg ∧ (State.topology s).hst = s.hst ∧
    (State.topology s).pairLo = s.pairLo ∧ (State.topology s).now = s.now ∧ (State.topology s).free = s.free ∧
    (State.topology s).pending = s.pending := by
  unfold State.topology; simp

@[simp] theorem helloOn (s : State) (d : Dir) : (State.helloOn s d).cmn = s.cmn ∧
    (State.helloOn s d).seq = s.seq ∧ (State.helloOn s d).tly = s.tly ∧ (State.helloOn s d).adm = s.adm ∧
    (State.helloOn s d).beam = s.beam ∧ (State.helloOn s d).ctl = s.ctl ∧ (State.helloOn s d).fcs = s.fcs ∧
    (State.helloOn s d).thm = s.thm ∧ (State.helloOn s d).sns = s.sns ∧ (State.helloOn s d).dom = s.dom ∧
    (State.helloOn s d).clk = s.clk ∧ (State.helloOn s d).vrg = s.vrg ∧ (State.helloOn s d).pmb = s.pmb ∧
    (State.helloOn s d).tre = s.tre ∧ (State.helloOn s d).mbs = s.mbs ∧ (State.helloOn s d).mbn = s.mbn ∧
    (State.helloOn s d).rck = s.rck ∧ (State.helloOn s d).aut = s.aut ∧ (State.helloOn s d).rst = s.rst ∧
    (State.helloOn s d).rel = s.rel ∧ (State.helloOn s d).evt = s.evt ∧ (State.helloOn s d).trc = s.trc ∧
    (State.helloOn s d).hdr = s.hdr ∧ (State.helloOn s d).stg = s.stg ∧ (State.helloOn s d).hst = s.hst ∧
    (State.helloOn s d).pairLo = s.pairLo ∧ (State.helloOn s d).now = s.now ∧ (State.helloOn s d).free = s.free ∧
    (State.helloOn s d).pending = s.pending := by
  unfold State.helloOn; simp

@[simp] theorem helloAll (s : State) : (State.helloAll s).cmn = s.cmn ∧ (State.helloAll s).seq = s.seq ∧
    (State.helloAll s).tly = s.tly ∧ (State.helloAll s).adm = s.adm ∧ (State.helloAll s).beam = s.beam ∧
    (State.helloAll s).ctl = s.ctl ∧ (State.helloAll s).fcs = s.fcs ∧ (State.helloAll s).thm = s.thm ∧
    (State.helloAll s).sns = s.sns ∧ (State.helloAll s).dom = s.dom ∧ (State.helloAll s).clk = s.clk ∧
    (State.helloAll s).vrg = s.vrg ∧ (State.helloAll s).pmb = s.pmb ∧ (State.helloAll s).tre = s.tre ∧
    (State.helloAll s).mbs = s.mbs ∧ (State.helloAll s).mbn = s.mbn ∧ (State.helloAll s).rck = s.rck ∧
    (State.helloAll s).aut = s.aut ∧ (State.helloAll s).rst = s.rst ∧ (State.helloAll s).rel = s.rel ∧
    (State.helloAll s).evt = s.evt ∧ (State.helloAll s).trc = s.trc ∧ (State.helloAll s).hdr = s.hdr ∧
    (State.helloAll s).stg = s.stg ∧ (State.helloAll s).hst = s.hst ∧ (State.helloAll s).pairLo = s.pairLo ∧
    (State.helloAll s).now = s.now ∧ (State.helloAll s).free = s.free ∧ (State.helloAll s).pending = s.pending := by
  unfold State.helloAll; simp

@[simp] theorem linkReport (s : State) (d : Dir) (up : Bool) : (State.linkReport s d up).cmn = s.cmn ∧
    (State.linkReport s d up).seq = s.seq ∧ (State.linkReport s d up).tly = s.tly ∧ (State.linkReport s d up).adm = s.adm ∧
    (State.linkReport s d up).beam = s.beam ∧ (State.linkReport s d up).ctl = s.ctl ∧ (State.linkReport s d up).fcs = s.fcs ∧
    (State.linkReport s d up).thm = s.thm ∧ (State.linkReport s d up).sns = s.sns ∧ (State.linkReport s d up).dom = s.dom ∧
    (State.linkReport s d up).clk = s.clk ∧ (State.linkReport s d up).vrg = s.vrg ∧ (State.linkReport s d up).pmb = s.pmb ∧
    (State.linkReport s d up).tre = s.tre ∧ (State.linkReport s d up).mbs = s.mbs ∧ (State.linkReport s d up).mbn = s.mbn ∧
    (State.linkReport s d up).rck = s.rck ∧ (State.linkReport s d up).aut = s.aut ∧ (State.linkReport s d up).rst = s.rst ∧
    (State.linkReport s d up).rel = s.rel ∧ (State.linkReport s d up).evt = s.evt ∧ (State.linkReport s d up).trc = s.trc ∧
    (State.linkReport s d up).hdr = s.hdr ∧ (State.linkReport s d up).stg = s.stg ∧ (State.linkReport s d up).hst = s.hst ∧
    (State.linkReport s d up).pairLo = s.pairLo ∧ (State.linkReport s d up).now = s.now ∧
    (State.linkReport s d up).free = s.free ∧ (State.linkReport s d up).pending = s.pending := by
  unfold State.linkReport; simp

@[simp] theorem linkUp (s : State) (d : Dir) : (State.linkUp s d).cmn = s.cmn ∧ (State.linkUp s d).seq = s.seq ∧
    (State.linkUp s d).tly = s.tly ∧ (State.linkUp s d).beam = s.beam ∧ (State.linkUp s d).ctl = s.ctl ∧
    (State.linkUp s d).fcs = s.fcs ∧ (State.linkUp s d).thm = s.thm ∧ (State.linkUp s d).sns = s.sns ∧
    (State.linkUp s d).dom = s.dom ∧ (State.linkUp s d).clk = s.clk ∧ (State.linkUp s d).vrg = s.vrg ∧
    (State.linkUp s d).pmb = s.pmb ∧ (State.linkUp s d).rst = s.rst ∧ (State.linkUp s d).rel = s.rel ∧
    (State.linkUp s d).trc = s.trc ∧ (State.linkUp s d).stg = s.stg ∧ (State.linkUp s d).hst = s.hst ∧
    (State.linkUp s d).pairLo = s.pairLo ∧ (State.linkUp s d).now = s.now ∧ (State.linkUp s d).free = s.free ∧
    (State.linkUp s d).pending = s.pending := by
  unfold State.linkUp; simp

@[simp] theorem linkDown (s : State) (d : Dir) : (State.linkDown s d).cmn = s.cmn ∧
    (State.linkDown s d).seq = s.seq ∧ (State.linkDown s d).tly = s.tly ∧ (State.linkDown s d).beam = s.beam ∧
    (State.linkDown s d).ctl = s.ctl ∧ (State.linkDown s d).fcs = s.fcs ∧ (State.linkDown s d).thm = s.thm ∧
    (State.linkDown s d).sns = s.sns ∧ (State.linkDown s d).dom = s.dom ∧ (State.linkDown s d).clk = s.clk ∧
    (State.linkDown s d).vrg = s.vrg ∧ (State.linkDown s d).pmb = s.pmb ∧ (State.linkDown s d).rst = s.rst ∧
    (State.linkDown s d).rel = s.rel ∧ (State.linkDown s d).trc = s.trc ∧ (State.linkDown s d).stg = s.stg ∧
    (State.linkDown s d).hst = s.hst ∧ (State.linkDown s d).pairLo = s.pairLo ∧ (State.linkDown s d).now = s.now ∧
    (State.linkDown s d).free = s.free ∧ (State.linkDown s d).pending = s.pending := by
  unfold State.linkDown; simp

@[simp] theorem resend (s : State) (d : Dir) : (State.resend s d).cmn = s.cmn ∧ (State.resend s d).seq = s.seq ∧
    (State.resend s d).tly = s.tly ∧ (State.resend s d).adm = s.adm ∧ (State.resend s d).beam = s.beam ∧
    (State.resend s d).ctl = s.ctl ∧ (State.resend s d).fcs = s.fcs ∧ (State.resend s d).thm = s.thm ∧
    (State.resend s d).sns = s.sns ∧ (State.resend s d).dom = s.dom ∧ (State.resend s d).clk = s.clk ∧
    (State.resend s d).vrg = s.vrg ∧ (State.resend s d).pmb = s.pmb ∧ (State.resend s d).tre = s.tre ∧
    (State.resend s d).mbs = s.mbs ∧ (State.resend s d).mbn = s.mbn ∧ (State.resend s d).rck = s.rck ∧
    (State.resend s d).aut = s.aut ∧ (State.resend s d).rst = s.rst ∧ (State.resend s d).rel = s.rel ∧
    (State.resend s d).evt = s.evt ∧ (State.resend s d).trc = s.trc ∧ (State.resend s d).hdr = s.hdr ∧
    (State.resend s d).stg = s.stg ∧ (State.resend s d).hst = s.hst ∧ (State.resend s d).pairLo = s.pairLo ∧
    (State.resend s d).now = s.now ∧ (State.resend s d).free = s.free ∧ (State.resend s d).pending = s.pending := by
  unfold State.resend; simp

@[simp] theorem laneCheck (s : State) (d : Dir) : (State.laneCheck s d).cmn = s.cmn ∧
    (State.laneCheck s d).seq = s.seq ∧ (State.laneCheck s d).tly = s.tly ∧ (State.laneCheck s d).adm = s.adm ∧
    (State.laneCheck s d).beam = s.beam ∧ (State.laneCheck s d).ctl = s.ctl ∧ (State.laneCheck s d).fcs = s.fcs ∧
    (State.laneCheck s d).thm = s.thm ∧ (State.laneCheck s d).sns = s.sns ∧ (State.laneCheck s d).dom = s.dom ∧
    (State.laneCheck s d).clk = s.clk ∧ (State.laneCheck s d).vrg = s.vrg ∧ (State.laneCheck s d).pmb = s.pmb ∧
    (State.laneCheck s d).tre = s.tre ∧ (State.laneCheck s d).mbs = s.mbs ∧ (State.laneCheck s d).mbn = s.mbn ∧
    (State.laneCheck s d).rck = s.rck ∧ (State.laneCheck s d).aut = s.aut ∧ (State.laneCheck s d).rst = s.rst ∧
    (State.laneCheck s d).rel = s.rel ∧ (State.laneCheck s d).evt = s.evt ∧ (State.laneCheck s d).trc = s.trc ∧
    (State.laneCheck s d).hdr = s.hdr ∧ (State.laneCheck s d).stg = s.stg ∧ (State.laneCheck s d).hst = s.hst ∧
    (State.laneCheck s d).pairLo = s.pairLo ∧ (State.laneCheck s d).now = s.now ∧ (State.laneCheck s d).free = s.free ∧
    (State.laneCheck s d).pending = s.pending := by
  unfold State.laneCheck; simp

@[simp] theorem crcErr (s : State) (d : Dir) : (State.crcErr s d).cmn = s.cmn ∧ (State.crcErr s d).seq = s.seq ∧
    (State.crcErr s d).tly = s.tly ∧ (State.crcErr s d).adm = s.adm ∧ (State.crcErr s d).beam = s.beam ∧
    (State.crcErr s d).ctl = s.ctl ∧ (State.crcErr s d).fcs = s.fcs ∧ (State.crcErr s d).thm = s.thm ∧
    (State.crcErr s d).sns = s.sns ∧ (State.crcErr s d).dom = s.dom ∧ (State.crcErr s d).clk = s.clk ∧
    (State.crcErr s d).vrg = s.vrg ∧ (State.crcErr s d).pmb = s.pmb ∧ (State.crcErr s d).tre = s.tre ∧
    (State.crcErr s d).mbs = s.mbs ∧ (State.crcErr s d).mbn = s.mbn ∧ (State.crcErr s d).rck = s.rck ∧
    (State.crcErr s d).aut = s.aut ∧ (State.crcErr s d).rst = s.rst ∧ (State.crcErr s d).rel = s.rel ∧
    (State.crcErr s d).evt = s.evt ∧ (State.crcErr s d).trc = s.trc ∧ (State.crcErr s d).hdr = s.hdr ∧
    (State.crcErr s d).stg = s.stg ∧ (State.crcErr s d).hst = s.hst ∧ (State.crcErr s d).pairLo = s.pairLo ∧
    (State.crcErr s d).now = s.now ∧ (State.crcErr s d).free = s.free ∧ (State.crcErr s d).pending = s.pending := by
  unfold State.crcErr; simp

@[simp] theorem setRxLanes (s : State) (d : Dir) (m : Nat) : (State.setRxLanes s d m).cmn = s.cmn ∧
    (State.setRxLanes s d m).seq = s.seq ∧ (State.setRxLanes s d m).tly = s.tly ∧ (State.setRxLanes s d m).adm = s.adm ∧
    (State.setRxLanes s d m).beam = s.beam ∧ (State.setRxLanes s d m).ctl = s.ctl ∧ (State.setRxLanes s d m).fcs = s.fcs ∧
    (State.setRxLanes s d m).thm = s.thm ∧ (State.setRxLanes s d m).sns = s.sns ∧ (State.setRxLanes s d m).dom = s.dom ∧
    (State.setRxLanes s d m).clk = s.clk ∧ (State.setRxLanes s d m).vrg = s.vrg ∧ (State.setRxLanes s d m).pmb = s.pmb ∧
    (State.setRxLanes s d m).tre = s.tre ∧ (State.setRxLanes s d m).mbs = s.mbs ∧ (State.setRxLanes s d m).mbn = s.mbn ∧
    (State.setRxLanes s d m).rck = s.rck ∧ (State.setRxLanes s d m).aut = s.aut ∧ (State.setRxLanes s d m).rst = s.rst ∧
    (State.setRxLanes s d m).rel = s.rel ∧ (State.setRxLanes s d m).evt = s.evt ∧ (State.setRxLanes s d m).trc = s.trc ∧
    (State.setRxLanes s d m).hdr = s.hdr ∧ (State.setRxLanes s d m).stg = s.stg ∧ (State.setRxLanes s d m).hst = s.hst ∧
    (State.setRxLanes s d m).pairLo = s.pairLo ∧ (State.setRxLanes s d m).now = s.now ∧
    (State.setRxLanes s d m).free = s.free ∧ (State.setRxLanes s d m).pending = s.pending := by
  unfold State.setRxLanes; split <;> simp

@[simp] theorem laneVerdict (s : State) (d : Dir) : (State.laneVerdict s d).cmn = s.cmn ∧
    (State.laneVerdict s d).tly = s.tly ∧ (State.laneVerdict s d).beam = s.beam ∧ (State.laneVerdict s d).ctl = s.ctl ∧
    (State.laneVerdict s d).fcs = s.fcs ∧ (State.laneVerdict s d).thm = s.thm ∧ (State.laneVerdict s d).sns = s.sns ∧
    (State.laneVerdict s d).dom = s.dom ∧ (State.laneVerdict s d).clk = s.clk ∧ (State.laneVerdict s d).vrg = s.vrg ∧
    (State.laneVerdict s d).pmb = s.pmb ∧ (State.laneVerdict s d).rst = s.rst ∧ (State.laneVerdict s d).rel = s.rel ∧
    (State.laneVerdict s d).trc = s.trc ∧ (State.laneVerdict s d).stg = s.stg ∧ (State.laneVerdict s d).hst = s.hst ∧
    (State.laneVerdict s d).pairLo = s.pairLo ∧ (State.laneVerdict s d).now = s.now ∧ (State.laneVerdict s d).free = s.free ∧
    (State.laneVerdict s d).pending = s.pending := by
  unfold State.laneVerdict; dsimp only; (repeat' split) <;> simp

@[simp] theorem lack (s : State) (d : Dir) (n : Nat) : (State.lack s d n).cmn = s.cmn ∧
    (State.lack s d n).seq = s.seq ∧ (State.lack s d n).tly = s.tly ∧ (State.lack s d n).adm = s.adm ∧
    (State.lack s d n).beam = s.beam ∧ (State.lack s d n).ctl = s.ctl ∧ (State.lack s d n).fcs = s.fcs ∧
    (State.lack s d n).thm = s.thm ∧ (State.lack s d n).sns = s.sns ∧ (State.lack s d n).dom = s.dom ∧
    (State.lack s d n).clk = s.clk ∧ (State.lack s d n).vrg = s.vrg ∧ (State.lack s d n).pmb = s.pmb ∧
    (State.lack s d n).tre = s.tre ∧ (State.lack s d n).mbs = s.mbs ∧ (State.lack s d n).mbn = s.mbn ∧
    (State.lack s d n).rck = s.rck ∧ (State.lack s d n).aut = s.aut ∧ (State.lack s d n).rst = s.rst ∧
    (State.lack s d n).evt = s.evt ∧ (State.lack s d n).trc = s.trc ∧ (State.lack s d n).hdr = s.hdr ∧
    (State.lack s d n).stg = s.stg ∧ (State.lack s d n).hst = s.hst ∧ (State.lack s d n).pairLo = s.pairLo ∧
    (State.lack s d n).now = s.now ∧ (State.lack s d n).free = s.free ∧ (State.lack s d n).pending = s.pending := by
  unfold State.lack; dsimp only; (repeat' split) <;> simp

@[simp] theorem relay (s : State) (d : Dir) (m : BitVec 128) : (State.relay s d m).cmn = s.cmn ∧
    (State.relay s d m).seq = s.seq ∧ (State.relay s d m).tly = s.tly ∧ (State.relay s d m).adm = s.adm ∧
    (State.relay s d m).beam = s.beam ∧ (State.relay s d m).ctl = s.ctl ∧ (State.relay s d m).fcs = s.fcs ∧
    (State.relay s d m).thm = s.thm ∧ (State.relay s d m).sns = s.sns ∧ (State.relay s d m).dom = s.dom ∧
    (State.relay s d m).clk = s.clk ∧ (State.relay s d m).vrg = s.vrg ∧ (State.relay s d m).pmb = s.pmb ∧
    (State.relay s d m).tre = s.tre ∧ (State.relay s d m).mbs = s.mbs ∧ (State.relay s d m).mbn = s.mbn ∧
    (State.relay s d m).rck = s.rck ∧ (State.relay s d m).aut = s.aut ∧ (State.relay s d m).rst = s.rst ∧
    (State.relay s d m).rel = s.rel ∧ (State.relay s d m).evt = s.evt ∧ (State.relay s d m).trc = s.trc ∧
    (State.relay s d m).hdr = s.hdr ∧ (State.relay s d m).stg = s.stg ∧ (State.relay s d m).hst = s.hst ∧
    (State.relay s d m).pairLo = s.pairLo ∧ (State.relay s d m).now = s.now ∧ (State.relay s d m).free = s.free ∧
    (State.relay s d m).pending = s.pending := by
  unfold State.relay; refine ⟨?_, ?_, ?_, ?_, ?_, ?_, ?_, ?_, ?_, ?_, ?_, ?_, ?_, ?_, ?_, ?_, ?_, ?_, ?_, ?_, ?_, ?_, ?_, ?_,
    ?_, ?_, ?_, ?_, ?_⟩ <;> (dsimp only; (repeat' split) <;> simp)

@[simp] theorem received_cmn (s : State) (d : Dir) (m : BitVec 128) (typ : Nat) (f : State → State) (h : ∀ s, (f s).cmn = s.cmn) : (State.received s d m typ f).cmn = s.cmn := by
  simp [State.received, h, apply_ite Prod.snd, apply_ite Prod.fst]

@[simp] theorem received_seq (s : State) (d : Dir) (m : BitVec 128) (typ : Nat) (f : State → State) (h : ∀ s, (f s).seq = s.seq) : (State.received s d m typ f).seq = s.seq := by
  simp [State.received, h, apply_ite Prod.snd, apply_ite Prod.fst]

@[simp] theorem received_tly (s : State) (d : Dir) (m : BitVec 128) (typ : Nat) (f : State → State) (h : ∀ s, (f s).tly = s.tly) : (State.received s d m typ f).tly = s.tly := by
  simp [State.received, h, apply_ite Prod.snd, apply_ite Prod.fst]

@[simp] theorem received_adm (s : State) (d : Dir) (m : BitVec 128) (typ : Nat) (f : State → State) (h : ∀ s, (f s).adm = s.adm) : (State.received s d m typ f).adm = s.adm := by
  simp [State.received, h, apply_ite Prod.snd, apply_ite Prod.fst]

@[simp] theorem received_beam (s : State) (d : Dir) (m : BitVec 128) (typ : Nat) (f : State → State) (h : ∀ s, (f s).beam = s.beam) : (State.received s d m typ f).beam = s.beam := by
  simp [State.received, h, apply_ite Prod.snd, apply_ite Prod.fst]

@[simp] theorem received_ctl (s : State) (d : Dir) (m : BitVec 128) (typ : Nat) (f : State → State) (h : ∀ s, (f s).ctl = s.ctl) : (State.received s d m typ f).ctl = s.ctl := by
  simp [State.received, h, apply_ite Prod.snd, apply_ite Prod.fst]

@[simp] theorem received_fcs (s : State) (d : Dir) (m : BitVec 128) (typ : Nat) (f : State → State) (h : ∀ s, (f s).fcs = s.fcs) : (State.received s d m typ f).fcs = s.fcs := by
  simp [State.received, h, apply_ite Prod.snd, apply_ite Prod.fst]

@[simp] theorem received_thm (s : State) (d : Dir) (m : BitVec 128) (typ : Nat) (f : State → State) (h : ∀ s, (f s).thm = s.thm) : (State.received s d m typ f).thm = s.thm := by
  simp [State.received, h, apply_ite Prod.snd, apply_ite Prod.fst]

@[simp] theorem received_sns (s : State) (d : Dir) (m : BitVec 128) (typ : Nat) (f : State → State) (h : ∀ s, (f s).sns = s.sns) : (State.received s d m typ f).sns = s.sns := by
  simp [State.received, h, apply_ite Prod.snd, apply_ite Prod.fst]

@[simp] theorem received_dom (s : State) (d : Dir) (m : BitVec 128) (typ : Nat) (f : State → State) (h : ∀ s, (f s).dom = s.dom) : (State.received s d m typ f).dom = s.dom := by
  simp [State.received, h, apply_ite Prod.snd, apply_ite Prod.fst]

@[simp] theorem received_clk (s : State) (d : Dir) (m : BitVec 128) (typ : Nat) (f : State → State) (h : ∀ s, (f s).clk = s.clk) : (State.received s d m typ f).clk = s.clk := by
  simp [State.received, h, apply_ite Prod.snd, apply_ite Prod.fst]

@[simp] theorem received_vrg (s : State) (d : Dir) (m : BitVec 128) (typ : Nat) (f : State → State) (h : ∀ s, (f s).vrg = s.vrg) : (State.received s d m typ f).vrg = s.vrg := by
  simp [State.received, h, apply_ite Prod.snd, apply_ite Prod.fst]

@[simp] theorem received_pmb (s : State) (d : Dir) (m : BitVec 128) (typ : Nat) (f : State → State) (h : ∀ s, (f s).pmb = s.pmb) : (State.received s d m typ f).pmb = s.pmb := by
  simp [State.received, h, apply_ite Prod.snd, apply_ite Prod.fst]

@[simp] theorem received_tre (s : State) (d : Dir) (m : BitVec 128) (typ : Nat) (f : State → State) (h : ∀ s, (f s).tre = s.tre) : (State.received s d m typ f).tre = s.tre := by
  simp [State.received, h, apply_ite Prod.snd, apply_ite Prod.fst]

@[simp] theorem received_mbs (s : State) (d : Dir) (m : BitVec 128) (typ : Nat) (f : State → State) (h : ∀ s, (f s).mbs = s.mbs) : (State.received s d m typ f).mbs = s.mbs := by
  simp [State.received, h, apply_ite Prod.snd, apply_ite Prod.fst]

@[simp] theorem received_mbn (s : State) (d : Dir) (m : BitVec 128) (typ : Nat) (f : State → State) (h : ∀ s, (f s).mbn = s.mbn) : (State.received s d m typ f).mbn = s.mbn := by
  simp [State.received, h, apply_ite Prod.snd, apply_ite Prod.fst]

@[simp] theorem received_rck (s : State) (d : Dir) (m : BitVec 128) (typ : Nat) (f : State → State) (h : ∀ s, (f s).rck = s.rck) : (State.received s d m typ f).rck = s.rck := by
  simp [State.received, h, apply_ite Prod.snd, apply_ite Prod.fst]

@[simp] theorem received_aut (s : State) (d : Dir) (m : BitVec 128) (typ : Nat) (f : State → State) (h : ∀ s, (f s).aut = s.aut) : (State.received s d m typ f).aut = s.aut := by
  simp [State.received, h, apply_ite Prod.snd, apply_ite Prod.fst]

@[simp] theorem received_rst (s : State) (d : Dir) (m : BitVec 128) (typ : Nat) (f : State → State) (h : ∀ s, (f s).rst = s.rst) : (State.received s d m typ f).rst = s.rst := by
  simp [State.received, h, apply_ite Prod.snd, apply_ite Prod.fst]

@[simp] theorem received_evt (s : State) (d : Dir) (m : BitVec 128) (typ : Nat) (f : State → State) (h : ∀ s, (f s).evt = s.evt) : (State.received s d m typ f).evt = s.evt := by
  simp [State.received, h, apply_ite Prod.snd, apply_ite Prod.fst]

@[simp] theorem received_trc (s : State) (d : Dir) (m : BitVec 128) (typ : Nat) (f : State → State) (h : ∀ s, (f s).trc = s.trc) : (State.received s d m typ f).trc = s.trc := by
  simp [State.received, h, apply_ite Prod.snd, apply_ite Prod.fst]

@[simp] theorem received_hdr (s : State) (d : Dir) (m : BitVec 128) (typ : Nat) (f : State → State) (h : ∀ s, (f s).hdr = s.hdr) : (State.received s d m typ f).hdr = s.hdr := by
  simp [State.received, h, apply_ite Prod.snd, apply_ite Prod.fst]

@[simp] theorem received_stg (s : State) (d : Dir) (m : BitVec 128) (typ : Nat) (f : State → State) (h : ∀ s, (f s).stg = s.stg) : (State.received s d m typ f).stg = s.stg := by
  simp [State.received, h, apply_ite Prod.snd, apply_ite Prod.fst]

@[simp] theorem received_hst (s : State) (d : Dir) (m : BitVec 128) (typ : Nat) (f : State → State) (h : ∀ s, (f s).hst = s.hst) : (State.received s d m typ f).hst = s.hst := by
  simp [State.received, h, apply_ite Prod.snd, apply_ite Prod.fst]

@[simp] theorem received_pairLo (s : State) (d : Dir) (m : BitVec 128) (typ : Nat) (f : State → State) (h : ∀ s, (f s).pairLo = s.pairLo) : (State.received s d m typ f).pairLo = s.pairLo := by
  simp [State.received, h, apply_ite Prod.snd, apply_ite Prod.fst]

@[simp] theorem received_now (s : State) (d : Dir) (m : BitVec 128) (typ : Nat) (f : State → State) (h : ∀ s, (f s).now = s.now) : (State.received s d m typ f).now = s.now := by
  simp [State.received, h, apply_ite Prod.snd, apply_ite Prod.fst]

@[simp] theorem received_free (s : State) (d : Dir) (m : BitVec 128) (typ : Nat) (f : State → State) (h : ∀ s, (f s).free = s.free) : (State.received s d m typ f).free = s.free := by
  simp [State.received, h, apply_ite Prod.snd, apply_ite Prod.fst]

@[simp] theorem received_pending (s : State) (d : Dir) (m : BitVec 128) (typ : Nat) (f : State → State) (h : ∀ s, (f s).pending = s.pending) : (State.received s d m typ f).pending = s.pending := by
  simp [State.received, h, apply_ite Prod.snd, apply_ite Prod.fst]

@[simp] theorem laneMsg (s : State) (d : Dir) (m : BitVec 128) : (State.laneMsg s d m).cmn = s.cmn ∧
    (State.laneMsg s d m).seq = s.seq ∧ (State.laneMsg s d m).tly = s.tly ∧ (State.laneMsg s d m).beam = s.beam ∧
    (State.laneMsg s d m).ctl = s.ctl ∧ (State.laneMsg s d m).fcs = s.fcs ∧ (State.laneMsg s d m).thm = s.thm ∧
    (State.laneMsg s d m).sns = s.sns ∧ (State.laneMsg s d m).dom = s.dom ∧ (State.laneMsg s d m).clk = s.clk ∧
    (State.laneMsg s d m).vrg = s.vrg ∧ (State.laneMsg s d m).pmb = s.pmb ∧ (State.laneMsg s d m).rst = s.rst ∧
    (State.laneMsg s d m).rel = s.rel ∧ (State.laneMsg s d m).trc = s.trc ∧ (State.laneMsg s d m).stg = s.stg ∧
    (State.laneMsg s d m).hst = s.hst ∧ (State.laneMsg s d m).pairLo = s.pairLo ∧ (State.laneMsg s d m).now = s.now ∧
    (State.laneMsg s d m).free = s.free ∧ (State.laneMsg s d m).pending = s.pending := by
  unfold State.laneMsg; dsimp only; (repeat' split) <;> simp

@[simp] theorem formFail (s : State) (err fmaj fmin count : Nat) : (State.formFail s err fmaj fmin count).cmn = s.cmn ∧ (State.formFail s err fmaj fmin count).seq = s.seq ∧ (State.formFail s err fmaj fmin count).tly = s.tly ∧ (State.formFail s err fmaj fmin count).adm = s.adm ∧ (State.formFail s err fmaj fmin count).beam = s.beam ∧ (State.formFail s err fmaj fmin count).ctl = s.ctl ∧ (State.formFail s err fmaj fmin count).fcs = s.fcs ∧ (State.formFail s err fmaj fmin count).thm = s.thm ∧ (State.formFail s err fmaj fmin count).sns = s.sns ∧ (State.formFail s err fmaj fmin count).dom = s.dom ∧ (State.formFail s err fmaj fmin count).clk = s.clk ∧ (State.formFail s err fmaj fmin count).vrg = s.vrg ∧ (State.formFail s err fmaj fmin count).pmb = s.pmb ∧ (State.formFail s err fmaj fmin count).tre = s.tre ∧ (State.formFail s err fmaj fmin count).mbs = s.mbs ∧ (State.formFail s err fmaj fmin count).mbn = s.mbn ∧ (State.formFail s err fmaj fmin count).rck = s.rck ∧ (State.formFail s err fmaj fmin count).aut = s.aut ∧ (State.formFail s err fmaj fmin count).rst = s.rst ∧ (State.formFail s err fmaj fmin count).rel = s.rel ∧ (State.formFail s err fmaj fmin count).trc = s.trc ∧ (State.formFail s err fmaj fmin count).stg = s.stg ∧ (State.formFail s err fmaj fmin count).hst = s.hst ∧ (State.formFail s err fmaj fmin count).pairLo = s.pairLo ∧ (State.formFail s err fmaj fmin count).now = s.now ∧ (State.formFail s err fmaj fmin count).free = s.free ∧ (State.formFail s err fmaj fmin count).pending = s.pending := by
  unfold State.formFail; simp

@[simp] theorem countersAtFormation (s : State) : (State.countersAtFormation s).cmn = s.cmn ∧
    (State.countersAtFormation s).seq = s.seq ∧ (State.countersAtFormation s).tly = s.tly ∧
    (State.countersAtFormation s).adm = s.adm ∧ (State.countersAtFormation s).beam = s.beam ∧
    (State.countersAtFormation s).ctl = s.ctl ∧ (State.countersAtFormation s).fcs = s.fcs ∧
    (State.countersAtFormation s).thm = s.thm ∧ (State.countersAtFormation s).sns = s.sns ∧
    (State.countersAtFormation s).dom = s.dom ∧ (State.countersAtFormation s).clk = s.clk ∧
    (State.countersAtFormation s).vrg = s.vrg ∧ (State.countersAtFormation s).tre = s.tre ∧
    (State.countersAtFormation s).mbs = s.mbs ∧ (State.countersAtFormation s).mbn = s.mbn ∧
    (State.countersAtFormation s).rck = s.rck ∧ (State.countersAtFormation s).aut = s.aut ∧
    (State.countersAtFormation s).rst = s.rst ∧ (State.countersAtFormation s).rel = s.rel ∧
    (State.countersAtFormation s).trc = s.trc ∧ (State.countersAtFormation s).stg = s.stg ∧
    (State.countersAtFormation s).hst = s.hst ∧ (State.countersAtFormation s).pairLo = s.pairLo ∧
    (State.countersAtFormation s).now = s.now ∧ (State.countersAtFormation s).free = s.free ∧
    (State.countersAtFormation s).pending = s.pending := by
  unfold State.countersAtFormation; simp

@[simp] theorem formed (s : State) (mask fmaj fmin attempt reck : Nat) : (State.formed s mask fmaj fmin attempt reck).cmn = s.cmn ∧ (State.formed s mask fmaj fmin attempt reck).seq = s.seq ∧ (State.formed s mask fmaj fmin attempt reck).tly = s.tly ∧ (State.formed s mask fmaj fmin attempt reck).beam = s.beam ∧ (State.formed s mask fmaj fmin attempt reck).ctl = s.ctl ∧ (State.formed s mask fmaj fmin attempt reck).fcs = s.fcs ∧ (State.formed s mask fmaj fmin attempt reck).thm = s.thm ∧ (State.formed s mask fmaj fmin attempt reck).sns = s.sns ∧ (State.formed s mask fmaj fmin attempt reck).dom = s.dom ∧ (State.formed s mask fmaj fmin attempt reck).clk = s.clk ∧ (State.formed s mask fmaj fmin attempt reck).vrg = s.vrg ∧ (State.formed s mask fmaj fmin attempt reck).rst = s.rst ∧ (State.formed s mask fmaj fmin attempt reck).rel = s.rel ∧ (State.formed s mask fmaj fmin attempt reck).trc = s.trc ∧ (State.formed s mask fmaj fmin attempt reck).stg = s.stg ∧ (State.formed s mask fmaj fmin attempt reck).hst = s.hst ∧ (State.formed s mask fmaj fmin attempt reck).pairLo = s.pairLo ∧ (State.formed s mask fmaj fmin attempt reck).now = s.now ∧ (State.formed s mask fmaj fmin attempt reck).free = s.free ∧ (State.formed s mask fmaj fmin attempt reck).pending = s.pending := by
  unfold State.formed; simp

@[simp] theorem join (s : State) (p : Nat) : (State.join s p).cmn = s.cmn ∧ (State.join s p).seq = s.seq ∧
    (State.join s p).tly = s.tly ∧ (State.join s p).beam = s.beam ∧ (State.join s p).ctl = s.ctl ∧
    (State.join s p).fcs = s.fcs ∧ (State.join s p).thm = s.thm ∧ (State.join s p).sns = s.sns ∧
    (State.join s p).dom = s.dom ∧ (State.join s p).clk = s.clk ∧ (State.join s p).vrg = s.vrg ∧
    (State.join s p).pmb = s.pmb ∧ (State.join s p).rst = s.rst ∧ (State.join s p).rel = s.rel ∧
    (State.join s p).trc = s.trc ∧ (State.join s p).stg = s.stg ∧ (State.join s p).hst = s.hst ∧
    (State.join s p).pairLo = s.pairLo ∧ (State.join s p).now = s.now ∧ (State.join s p).free = s.free ∧
    (State.join s p).pending = s.pending := by
  unfold State.join; simp

@[simp] theorem helloFormed (s : State) (p : Nat) : (State.helloFormed s p).cmn = s.cmn ∧
    (State.helloFormed s p).seq = s.seq ∧ (State.helloFormed s p).tly = s.tly ∧ (State.helloFormed s p).beam = s.beam ∧
    (State.helloFormed s p).ctl = s.ctl ∧ (State.helloFormed s p).fcs = s.fcs ∧ (State.helloFormed s p).thm = s.thm ∧
    (State.helloFormed s p).sns = s.sns ∧ (State.helloFormed s p).dom = s.dom ∧ (State.helloFormed s p).clk = s.clk ∧
    (State.helloFormed s p).vrg = s.vrg ∧ (State.helloFormed s p).pmb = s.pmb ∧ (State.helloFormed s p).rst = s.rst ∧
    (State.helloFormed s p).rel = s.rel ∧ (State.helloFormed s p).trc = s.trc ∧ (State.helloFormed s p).stg = s.stg ∧
    (State.helloFormed s p).hst = s.hst ∧ (State.helloFormed s p).pairLo = s.pairLo ∧ (State.helloFormed s p).now = s.now ∧
    (State.helloFormed s p).free = s.free ∧ (State.helloFormed s p).pending = s.pending := by
  unfold State.helloFormed; simp

@[simp] theorem helloMsg (s : State) (d : Dir) (m : BitVec 128) : (State.helloMsg s d m).cmn = s.cmn ∧
    (State.helloMsg s d m).seq = s.seq ∧ (State.helloMsg s d m).tly = s.tly ∧ (State.helloMsg s d m).beam = s.beam ∧
    (State.helloMsg s d m).ctl = s.ctl ∧ (State.helloMsg s d m).fcs = s.fcs ∧ (State.helloMsg s d m).thm = s.thm ∧
    (State.helloMsg s d m).sns = s.sns ∧ (State.helloMsg s d m).dom = s.dom ∧ (State.helloMsg s d m).clk = s.clk ∧
    (State.helloMsg s d m).vrg = s.vrg ∧ (State.helloMsg s d m).pmb = s.pmb ∧ (State.helloMsg s d m).rst = s.rst ∧
    (State.helloMsg s d m).rel = s.rel ∧ (State.helloMsg s d m).trc = s.trc ∧ (State.helloMsg s d m).stg = s.stg ∧
    (State.helloMsg s d m).hst = s.hst ∧ (State.helloMsg s d m).pairLo = s.pairLo ∧ (State.helloMsg s d m).now = s.now ∧
    (State.helloMsg s d m).free = s.free ∧ (State.helloMsg s d m).pending = s.pending := by
  unfold State.helloMsg; simp

@[simp] theorem shareAck (s : State) (share : Nat) : (State.shareAck s share).cmn = s.cmn ∧
    (State.shareAck s share).seq = s.seq ∧ (State.shareAck s share).tly = s.tly ∧ (State.shareAck s share).adm = s.adm ∧
    (State.shareAck s share).beam = s.beam ∧ (State.shareAck s share).ctl = s.ctl ∧ (State.shareAck s share).fcs = s.fcs ∧
    (State.shareAck s share).thm = s.thm ∧ (State.shareAck s share).sns = s.sns ∧ (State.shareAck s share).dom = s.dom ∧
    (State.shareAck s share).clk = s.clk ∧ (State.shareAck s share).vrg = s.vrg ∧ (State.shareAck s share).pmb = s.pmb ∧
    (State.shareAck s share).tre = s.tre ∧ (State.shareAck s share).mbs = s.mbs ∧ (State.shareAck s share).mbn = s.mbn ∧
    (State.shareAck s share).rck = s.rck ∧ (State.shareAck s share).aut = s.aut ∧ (State.shareAck s share).rst = s.rst ∧
    (State.shareAck s share).rel = s.rel ∧ (State.shareAck s share).evt = s.evt ∧ (State.shareAck s share).trc = s.trc ∧
    (State.shareAck s share).hdr = s.hdr ∧ (State.shareAck s share).stg = s.stg ∧ (State.shareAck s share).hst = s.hst ∧
    (State.shareAck s share).pairLo = s.pairLo ∧ (State.shareAck s share).now = s.now ∧
    (State.shareAck s share).free = s.free ∧ (State.shareAck s share).pending = s.pending := by
  unfold State.shareAck; simp

@[simp] theorem clockLost (s : State) (c : Nat) : (State.clockLost s c).cmn = s.cmn ∧
    (State.clockLost s c).tly = s.tly ∧ (State.clockLost s c).beam = s.beam ∧ (State.clockLost s c).ctl = s.ctl ∧
    (State.clockLost s c).fcs = s.fcs ∧ (State.clockLost s c).thm = s.thm ∧ (State.clockLost s c).sns = s.sns ∧
    (State.clockLost s c).dom = s.dom ∧ (State.clockLost s c).vrg = s.vrg ∧ (State.clockLost s c).pmb = s.pmb ∧
    (State.clockLost s c).rst = s.rst ∧ (State.clockLost s c).rel = s.rel ∧ (State.clockLost s c).trc = s.trc ∧
    (State.clockLost s c).hst = s.hst ∧ (State.clockLost s c).pairLo = s.pairLo ∧ (State.clockLost s c).now = s.now ∧
    (State.clockLost s c).free = s.free ∧ (State.clockLost s c).pending = s.pending := by
  unfold State.clockLost; simp

@[simp] theorem loseParent (s : State) (cause : Nat) : (State.loseParent s cause).cmn = s.cmn ∧
    (State.loseParent s cause).seq = s.seq ∧ (State.loseParent s cause).tly = s.tly ∧
    (State.loseParent s cause).beam = s.beam ∧ (State.loseParent s cause).ctl = s.ctl ∧
    (State.loseParent s cause).fcs = s.fcs ∧ (State.loseParent s cause).thm = s.thm ∧
    (State.loseParent s cause).sns = s.sns ∧ (State.loseParent s cause).dom = s.dom ∧
    (State.loseParent s cause).clk = s.clk ∧ (State.loseParent s cause).vrg = s.vrg ∧
    (State.loseParent s cause).pmb = s.pmb ∧ (State.loseParent s cause).aut = s.aut ∧
    (State.loseParent s cause).rst = s.rst ∧ (State.loseParent s cause).rel = s.rel ∧
    (State.loseParent s cause).trc = s.trc ∧ (State.loseParent s cause).stg = s.stg ∧
    (State.loseParent s cause).hst = s.hst ∧ (State.loseParent s cause).pairLo = s.pairLo ∧
    (State.loseParent s cause).now = s.now ∧ (State.loseParent s cause).free = s.free ∧
    (State.loseParent s cause).pending = s.pending := by
  unfold State.loseParent; simp

@[simp] theorem portAbsent (s : State) (p : Nat) : (State.portAbsent s p).cmn = s.cmn ∧
    (State.portAbsent s p).seq = s.seq ∧ (State.portAbsent s p).tly = s.tly ∧ (State.portAbsent s p).adm = s.adm ∧
    (State.portAbsent s p).beam = s.beam ∧ (State.portAbsent s p).ctl = s.ctl ∧ (State.portAbsent s p).fcs = s.fcs ∧
    (State.portAbsent s p).thm = s.thm ∧ (State.portAbsent s p).sns = s.sns ∧ (State.portAbsent s p).dom = s.dom ∧
    (State.portAbsent s p).clk = s.clk ∧ (State.portAbsent s p).vrg = s.vrg ∧ (State.portAbsent s p).pmb = s.pmb ∧
    (State.portAbsent s p).frm = s.frm ∧ (State.portAbsent s p).mbs = s.mbs ∧ (State.portAbsent s p).mbn = s.mbn ∧
    (State.portAbsent s p).rck = s.rck ∧ (State.portAbsent s p).aut = s.aut ∧ (State.portAbsent s p).rst = s.rst ∧
    (State.portAbsent s p).rel = s.rel ∧ (State.portAbsent s p).trc = s.trc ∧ (State.portAbsent s p).stg = s.stg ∧
    (State.portAbsent s p).hst = s.hst ∧ (State.portAbsent s p).pairLo = s.pairLo ∧ (State.portAbsent s p).now = s.now ∧
    (State.portAbsent s p).free = s.free ∧ (State.portAbsent s p).pending = s.pending := by
  unfold State.portAbsent; simp

@[simp] theorem badCheck (s : State) (sender : Nat) : (State.badCheck s sender).cmn = s.cmn ∧
    (State.badCheck s sender).seq = s.seq ∧ (State.badCheck s sender).tly = s.tly ∧ (State.badCheck s sender).beam = s.beam ∧
    (State.badCheck s sender).ctl = s.ctl ∧ (State.badCheck s sender).fcs = s.fcs ∧ (State.badCheck s sender).thm = s.thm ∧
    (State.badCheck s sender).sns = s.sns ∧ (State.badCheck s sender).dom = s.dom ∧ (State.badCheck s sender).clk = s.clk ∧
    (State.badCheck s sender).vrg = s.vrg ∧ (State.badCheck s sender).pmb = s.pmb ∧ (State.badCheck s sender).aut = s.aut ∧
    (State.badCheck s sender).rst = s.rst ∧ (State.badCheck s sender).rel = s.rel ∧ (State.badCheck s sender).trc = s.trc ∧
    (State.badCheck s sender).stg = s.stg ∧ (State.badCheck s sender).hst = s.hst ∧
    (State.badCheck s sender).pairLo = s.pairLo ∧ (State.badCheck s sender).now = s.now ∧
    (State.badCheck s sender).free = s.free ∧ (State.badCheck s sender).pending = s.pending := by
  unfold State.badCheck; simp

@[simp] theorem rateIgnored (s : State) (typ : Nat) : (State.rateIgnored s typ).cmn = s.cmn ∧
    (State.rateIgnored s typ).seq = s.seq ∧ (State.rateIgnored s typ).tly = s.tly ∧ (State.rateIgnored s typ).adm = s.adm ∧
    (State.rateIgnored s typ).beam = s.beam ∧ (State.rateIgnored s typ).ctl = s.ctl ∧ (State.rateIgnored s typ).fcs = s.fcs ∧
    (State.rateIgnored s typ).thm = s.thm ∧ (State.rateIgnored s typ).sns = s.sns ∧ (State.rateIgnored s typ).dom = s.dom ∧
    (State.rateIgnored s typ).clk = s.clk ∧ (State.rateIgnored s typ).vrg = s.vrg ∧ (State.rateIgnored s typ).pmb = s.pmb ∧
    (State.rateIgnored s typ).frm = s.frm ∧ (State.rateIgnored s typ).mbs = s.mbs ∧ (State.rateIgnored s typ).mbn = s.mbn ∧
    (State.rateIgnored s typ).rck = s.rck ∧ (State.rateIgnored s typ).aut = s.aut ∧ (State.rateIgnored s typ).rst = s.rst ∧
    (State.rateIgnored s typ).rel = s.rel ∧ (State.rateIgnored s typ).trc = s.trc ∧ (State.rateIgnored s typ).stg = s.stg ∧
    (State.rateIgnored s typ).hst = s.hst ∧ (State.rateIgnored s typ).pairLo = s.pairLo ∧
    (State.rateIgnored s typ).now = s.now ∧ (State.rateIgnored s typ).free = s.free ∧
    (State.rateIgnored s typ).pending = s.pending := by
  unfold State.rateIgnored; simp

@[simp] theorem follow (s : State) (bus : TreBus) (f : KFrame) : (State.follow s bus f).cmn = s.cmn ∧
    (State.follow s bus f).seq = s.seq ∧ (State.follow s bus f).tly = s.tly ∧ (State.follow s bus f).adm = s.adm ∧
    (State.follow s bus f).beam = s.beam ∧ (State.follow s bus f).ctl = s.ctl ∧ (State.follow s bus f).fcs = s.fcs ∧
    (State.follow s bus f).thm = s.thm ∧ (State.follow s bus f).sns = s.sns ∧ (State.follow s bus f).dom = s.dom ∧
    (State.follow s bus f).clk = s.clk ∧ (State.follow s bus f).vrg = s.vrg ∧ (State.follow s bus f).pmb = s.pmb ∧
    (State.follow s bus f).frm = s.frm ∧ (State.follow s bus f).mbs = s.mbs ∧ (State.follow s bus f).mbn = s.mbn ∧
    (State.follow s bus f).rck = s.rck ∧ (State.follow s bus f).aut = s.aut ∧ (State.follow s bus f).rst = s.rst ∧
    (State.follow s bus f).rel = s.rel ∧ (State.follow s bus f).evt = s.evt ∧ (State.follow s bus f).trc = s.trc ∧
    (State.follow s bus f).hdr = s.hdr ∧ (State.follow s bus f).stg = s.stg ∧ (State.follow s bus f).hst = s.hst ∧
    (State.follow s bus f).pairLo = s.pairLo ∧ (State.follow s bus f).now = s.now ∧ (State.follow s bus f).free = s.free ∧
    (State.follow s bus f).pending = s.pending := by
  unfold State.follow; split <;> simp

@[simp] theorem challenge (s : State) : (State.challenge s).2.cmn = s.cmn ∧ (State.challenge s).2.seq = s.seq ∧
    (State.challenge s).2.tly = s.tly ∧ (State.challenge s).2.adm = s.adm ∧ (State.challenge s).2.beam = s.beam ∧
    (State.challenge s).2.ctl = s.ctl ∧ (State.challenge s).2.fcs = s.fcs ∧ (State.challenge s).2.thm = s.thm ∧
    (State.challenge s).2.sns = s.sns ∧ (State.challenge s).2.dom = s.dom ∧ (State.challenge s).2.clk = s.clk ∧
    (State.challenge s).2.vrg = s.vrg ∧ (State.challenge s).2.pmb = s.pmb ∧ (State.challenge s).2.frm = s.frm ∧
    (State.challenge s).2.tre = s.tre ∧ (State.challenge s).2.mbs = s.mbs ∧ (State.challenge s).2.mbn = s.mbn ∧
    (State.challenge s).2.rck = s.rck ∧ (State.challenge s).2.aut = s.aut ∧ (State.challenge s).2.rst = s.rst ∧
    (State.challenge s).2.rel = s.rel ∧ (State.challenge s).2.evt = s.evt ∧ (State.challenge s).2.trc = s.trc ∧
    (State.challenge s).2.hdr = s.hdr ∧ (State.challenge s).2.stg = s.stg ∧ (State.challenge s).2.hst = s.hst ∧
    (State.challenge s).2.pairLo = s.pairLo ∧ (State.challenge s).2.now = s.now ∧
    (State.challenge s).2.pending = s.pending := by
  unfold State.challenge; simp

@[simp] theorem reply (s : State) (ok : Bool) : (State.reply s ok).cmn = s.cmn ∧ (State.reply s ok).seq = s.seq ∧
    (State.reply s ok).tly = s.tly ∧ (State.reply s ok).adm = s.adm ∧ (State.reply s ok).beam = s.beam ∧
    (State.reply s ok).ctl = s.ctl ∧ (State.reply s ok).fcs = s.fcs ∧ (State.reply s ok).thm = s.thm ∧
    (State.reply s ok).sns = s.sns ∧ (State.reply s ok).dom = s.dom ∧ (State.reply s ok).clk = s.clk ∧
    (State.reply s ok).vrg = s.vrg ∧ (State.reply s ok).pmb = s.pmb ∧ (State.reply s ok).frm = s.frm ∧
    (State.reply s ok).mbs = s.mbs ∧ (State.reply s ok).mbn = s.mbn ∧ (State.reply s ok).rck = s.rck ∧
    (State.reply s ok).aut = s.aut ∧ (State.reply s ok).rst = s.rst ∧ (State.reply s ok).rel = s.rel ∧
    (State.reply s ok).evt = s.evt ∧ (State.reply s ok).trc = s.trc ∧ (State.reply s ok).hdr = s.hdr ∧
    (State.reply s ok).stg = s.stg ∧ (State.reply s ok).hst = s.hst ∧ (State.reply s ok).pairLo = s.pairLo ∧
    (State.reply s ok).now = s.now ∧ (State.reply s ok).pending = s.pending := by
  unfold State.reply; (repeat' split) <;> simp

@[simp] theorem parentTake_cmn (s : State) (f : KFrame) (act : State → State) (h : ∀ s, (act s).cmn = s.cmn) : (State.parentTake s f act).2.cmn = s.cmn := by
  simp [State.parentTake, h, apply_ite Prod.snd, apply_ite Prod.fst]

@[simp] theorem parentTake_seq (s : State) (f : KFrame) (act : State → State) (h : ∀ s, (act s).seq = s.seq) : (State.parentTake s f act).2.seq = s.seq := by
  simp [State.parentTake, h, apply_ite Prod.snd, apply_ite Prod.fst]

@[simp] theorem parentTake_tly (s : State) (f : KFrame) (act : State → State) (h : ∀ s, (act s).tly = s.tly) : (State.parentTake s f act).2.tly = s.tly := by
  simp [State.parentTake, h, apply_ite Prod.snd, apply_ite Prod.fst]

@[simp] theorem parentTake_beam (s : State) (f : KFrame) (act : State → State) (h : ∀ s, (act s).beam = s.beam) : (State.parentTake s f act).2.beam = s.beam := by
  simp [State.parentTake, h, apply_ite Prod.snd, apply_ite Prod.fst]

@[simp] theorem parentTake_ctl (s : State) (f : KFrame) (act : State → State) (h : ∀ s, (act s).ctl = s.ctl) : (State.parentTake s f act).2.ctl = s.ctl := by
  simp [State.parentTake, h, apply_ite Prod.snd, apply_ite Prod.fst]

@[simp] theorem parentTake_fcs (s : State) (f : KFrame) (act : State → State) (h : ∀ s, (act s).fcs = s.fcs) : (State.parentTake s f act).2.fcs = s.fcs := by
  simp [State.parentTake, h, apply_ite Prod.snd, apply_ite Prod.fst]

@[simp] theorem parentTake_thm (s : State) (f : KFrame) (act : State → State) (h : ∀ s, (act s).thm = s.thm) : (State.parentTake s f act).2.thm = s.thm := by
  simp [State.parentTake, h, apply_ite Prod.snd, apply_ite Prod.fst]

@[simp] theorem parentTake_sns (s : State) (f : KFrame) (act : State → State) (h : ∀ s, (act s).sns = s.sns) : (State.parentTake s f act).2.sns = s.sns := by
  simp [State.parentTake, h, apply_ite Prod.snd, apply_ite Prod.fst]

@[simp] theorem parentTake_dom (s : State) (f : KFrame) (act : State → State) (h : ∀ s, (act s).dom = s.dom) : (State.parentTake s f act).2.dom = s.dom := by
  simp [State.parentTake, h, apply_ite Prod.snd, apply_ite Prod.fst]

@[simp] theorem parentTake_clk (s : State) (f : KFrame) (act : State → State) (h : ∀ s, (act s).clk = s.clk) : (State.parentTake s f act).2.clk = s.clk := by
  simp [State.parentTake, h, apply_ite Prod.snd, apply_ite Prod.fst]

@[simp] theorem parentTake_vrg (s : State) (f : KFrame) (act : State → State) (h : ∀ s, (act s).vrg = s.vrg) : (State.parentTake s f act).2.vrg = s.vrg := by
  simp [State.parentTake, h, apply_ite Prod.snd, apply_ite Prod.fst]

@[simp] theorem parentTake_pmb (s : State) (f : KFrame) (act : State → State) (h : ∀ s, (act s).pmb = s.pmb) : (State.parentTake s f act).2.pmb = s.pmb := by
  simp [State.parentTake, h, apply_ite Prod.snd, apply_ite Prod.fst]

@[simp] theorem parentTake_aut (s : State) (f : KFrame) (act : State → State) (h : ∀ s, (act s).aut = s.aut) : (State.parentTake s f act).2.aut = s.aut := by
  simp [State.parentTake, h, apply_ite Prod.snd, apply_ite Prod.fst]

@[simp] theorem parentTake_rst (s : State) (f : KFrame) (act : State → State) (h : ∀ s, (act s).rst = s.rst) : (State.parentTake s f act).2.rst = s.rst := by
  simp [State.parentTake, h, apply_ite Prod.snd, apply_ite Prod.fst]

@[simp] theorem parentTake_rel (s : State) (f : KFrame) (act : State → State) (h : ∀ s, (act s).rel = s.rel) : (State.parentTake s f act).2.rel = s.rel := by
  simp [State.parentTake, h, apply_ite Prod.snd, apply_ite Prod.fst]

@[simp] theorem parentTake_trc (s : State) (f : KFrame) (act : State → State) (h : ∀ s, (act s).trc = s.trc) : (State.parentTake s f act).2.trc = s.trc := by
  simp [State.parentTake, h, apply_ite Prod.snd, apply_ite Prod.fst]

@[simp] theorem parentTake_stg (s : State) (f : KFrame) (act : State → State) (h : ∀ s, (act s).stg = s.stg) : (State.parentTake s f act).2.stg = s.stg := by
  simp [State.parentTake, h, apply_ite Prod.snd, apply_ite Prod.fst]

@[simp] theorem parentTake_hst (s : State) (f : KFrame) (act : State → State) (h : ∀ s, (act s).hst = s.hst) : (State.parentTake s f act).2.hst = s.hst := by
  simp [State.parentTake, h, apply_ite Prod.snd, apply_ite Prod.fst]

@[simp] theorem parentTake_pairLo (s : State) (f : KFrame) (act : State → State) (h : ∀ s, (act s).pairLo = s.pairLo) : (State.parentTake s f act).2.pairLo = s.pairLo := by
  simp [State.parentTake, h, apply_ite Prod.snd, apply_ite Prod.fst]

@[simp] theorem parentTake_now (s : State) (f : KFrame) (act : State → State) (h : ∀ s, (act s).now = s.now) : (State.parentTake s f act).2.now = s.now := by
  simp [State.parentTake, h, apply_ite Prod.snd, apply_ite Prod.fst]

@[simp] theorem parentTake_free (s : State) (f : KFrame) (act : State → State) (h : ∀ s, (act s).free = s.free) : (State.parentTake s f act).2.free = s.free := by
  simp [State.parentTake, h, apply_ite Prod.snd, apply_ite Prod.fst]

@[simp] theorem parentTake_pending (s : State) (f : KFrame) (act : State → State) (h : ∀ s, (act s).pending = s.pending) : (State.parentTake s f act).2.pending = s.pending := by
  simp [State.parentTake, h, apply_ite Prod.snd, apply_ite Prod.fst]

@[simp] theorem takeBudget (s : State) (w : Nat) : (State.takeBudget s w).cmn = s.cmn ∧
    (State.takeBudget s w).seq = s.seq ∧ (State.takeBudget s w).tly = s.tly ∧ (State.takeBudget s w).beam = s.beam ∧
    (State.takeBudget s w).ctl = s.ctl ∧ (State.takeBudget s w).fcs = s.fcs ∧ (State.takeBudget s w).thm = s.thm ∧
    (State.takeBudget s w).sns = s.sns ∧ (State.takeBudget s w).dom = s.dom ∧ (State.takeBudget s w).clk = s.clk ∧
    (State.takeBudget s w).vrg = s.vrg ∧ (State.takeBudget s w).pmb = s.pmb ∧ (State.takeBudget s w).aut = s.aut ∧
    (State.takeBudget s w).rst = s.rst ∧ (State.takeBudget s w).rel = s.rel ∧ (State.takeBudget s w).trc = s.trc ∧
    (State.takeBudget s w).stg = s.stg ∧ (State.takeBudget s w).hst = s.hst ∧ (State.takeBudget s w).pairLo = s.pairLo ∧
    (State.takeBudget s w).now = s.now ∧ (State.takeBudget s w).free = s.free ∧ (State.takeBudget s w).pending = s.pending := by
  unfold State.takeBudget; simp

@[simp] theorem takeCut (s : State) (ratio q : Nat) : (State.takeCut s ratio q).cmn = s.cmn ∧
    (State.takeCut s ratio q).seq = s.seq ∧ (State.takeCut s ratio q).tly = s.tly ∧ (State.takeCut s ratio q).beam = s.beam ∧
    (State.takeCut s ratio q).ctl = s.ctl ∧ (State.takeCut s ratio q).fcs = s.fcs ∧ (State.takeCut s ratio q).thm = s.thm ∧
    (State.takeCut s ratio q).sns = s.sns ∧ (State.takeCut s ratio q).dom = s.dom ∧ (State.takeCut s ratio q).clk = s.clk ∧
    (State.takeCut s ratio q).vrg = s.vrg ∧ (State.takeCut s ratio q).pmb = s.pmb ∧ (State.takeCut s ratio q).aut = s.aut ∧
    (State.takeCut s ratio q).rst = s.rst ∧ (State.takeCut s ratio q).rel = s.rel ∧ (State.takeCut s ratio q).trc = s.trc ∧
    (State.takeCut s ratio q).stg = s.stg ∧ (State.takeCut s ratio q).hst = s.hst ∧
    (State.takeCut s ratio q).pairLo = s.pairLo ∧ (State.takeCut s ratio q).now = s.now ∧
    (State.takeCut s ratio q).free = s.free ∧ (State.takeCut s ratio q).pending = s.pending := by
  unfold State.takeCut; simp

@[simp] theorem parentFrame (s : State) (f : KFrame) : (State.parentFrame s f).2.cmn = s.cmn ∧
    (State.parentFrame s f).2.seq = s.seq ∧ (State.parentFrame s f).2.tly = s.tly ∧ (State.parentFrame s f).2.beam = s.beam ∧
    (State.parentFrame s f).2.ctl = s.ctl ∧ (State.parentFrame s f).2.fcs = s.fcs ∧ (State.parentFrame s f).2.thm = s.thm ∧
    (State.parentFrame s f).2.sns = s.sns ∧ (State.parentFrame s f).2.dom = s.dom ∧ (State.parentFrame s f).2.clk = s.clk ∧
    (State.parentFrame s f).2.vrg = s.vrg ∧ (State.parentFrame s f).2.pmb = s.pmb ∧ (State.parentFrame s f).2.aut = s.aut ∧
    (State.parentFrame s f).2.rst = s.rst ∧ (State.parentFrame s f).2.rel = s.rel ∧ (State.parentFrame s f).2.trc = s.trc ∧
    (State.parentFrame s f).2.stg = s.stg ∧ (State.parentFrame s f).2.hst = s.hst ∧
    (State.parentFrame s f).2.pairLo = s.pairLo ∧ (State.parentFrame s f).2.now = s.now ∧
    (State.parentFrame s f).2.free = s.free ∧ (State.parentFrame s f).2.pending = s.pending := by
  unfold State.parentFrame; dsimp only; (repeat' split) <;> simp

@[simp] theorem answered (s : State) (p : Nat) : (State.answered s p).cmn = s.cmn ∧
    (State.answered s p).seq = s.seq ∧ (State.answered s p).tly = s.tly ∧ (State.answered s p).adm = s.adm ∧
    (State.answered s p).beam = s.beam ∧ (State.answered s p).ctl = s.ctl ∧ (State.answered s p).fcs = s.fcs ∧
    (State.answered s p).thm = s.thm ∧ (State.answered s p).sns = s.sns ∧ (State.answered s p).dom = s.dom ∧
    (State.answered s p).clk = s.clk ∧ (State.answered s p).vrg = s.vrg ∧ (State.answered s p).pmb = s.pmb ∧
    (State.answered s p).frm = s.frm ∧ (State.answered s p).mbs = s.mbs ∧ (State.answered s p).mbn = s.mbn ∧
    (State.answered s p).rck = s.rck ∧ (State.answered s p).aut = s.aut ∧ (State.answered s p).rst = s.rst ∧
    (State.answered s p).rel = s.rel ∧ (State.answered s p).evt = s.evt ∧ (State.answered s p).trc = s.trc ∧
    (State.answered s p).hdr = s.hdr ∧ (State.answered s p).stg = s.stg ∧ (State.answered s p).hst = s.hst ∧
    (State.answered s p).pairLo = s.pairLo ∧ (State.answered s p).now = s.now ∧ (State.answered s p).free = s.free ∧
    (State.answered s p).pending = s.pending := by
  unfold State.answered; simp

@[simp] theorem portFrame (s : State) (p : Nat) (f : KFrame) : (State.portFrame s p f).cmn = s.cmn ∧
    (State.portFrame s p f).seq = s.seq ∧ (State.portFrame s p f).tly = s.tly ∧ (State.portFrame s p f).beam = s.beam ∧
    (State.portFrame s p f).ctl = s.ctl ∧ (State.portFrame s p f).fcs = s.fcs ∧ (State.portFrame s p f).thm = s.thm ∧
    (State.portFrame s p f).sns = s.sns ∧ (State.portFrame s p f).dom = s.dom ∧ (State.portFrame s p f).clk = s.clk ∧
    (State.portFrame s p f).vrg = s.vrg ∧ (State.portFrame s p f).pmb = s.pmb ∧ (State.portFrame s p f).aut = s.aut ∧
    (State.portFrame s p f).rst = s.rst ∧ (State.portFrame s p f).rel = s.rel ∧ (State.portFrame s p f).trc = s.trc ∧
    (State.portFrame s p f).stg = s.stg ∧ (State.portFrame s p f).hst = s.hst ∧ (State.portFrame s p f).pairLo = s.pairLo ∧
    (State.portFrame s p f).now = s.now ∧ (State.portFrame s p f).free = s.free ∧
    (State.portFrame s p f).pending = s.pending := by
  unfold State.portFrame; dsimp only; (repeat' split) <;> simp

@[simp] theorem kReceived (s : State) (bus : TreBus) (f : KFrame) (typ : Nat) : (State.kReceived s bus f typ).cmn = s.cmn ∧ (State.kReceived s bus f typ).seq = s.seq ∧ (State.kReceived s bus f typ).tly = s.tly ∧ (State.kReceived s bus f typ).beam = s.beam ∧ (State.kReceived s bus f typ).ctl = s.ctl ∧ (State.kReceived s bus f typ).fcs = s.fcs ∧ (State.kReceived s bus f typ).thm = s.thm ∧ (State.kReceived s bus f typ).sns = s.sns ∧ (State.kReceived s bus f typ).dom = s.dom ∧ (State.kReceived s bus f typ).clk = s.clk ∧ (State.kReceived s bus f typ).vrg = s.vrg ∧ (State.kReceived s bus f typ).pmb = s.pmb ∧ (State.kReceived s bus f typ).aut = s.aut ∧ (State.kReceived s bus f typ).rst = s.rst ∧ (State.kReceived s bus f typ).rel = s.rel ∧ (State.kReceived s bus f typ).trc = s.trc ∧ (State.kReceived s bus f typ).stg = s.stg ∧ (State.kReceived s bus f typ).hst = s.hst ∧ (State.kReceived s bus f typ).pairLo = s.pairLo ∧ (State.kReceived s bus f typ).now = s.now ∧ (State.kReceived s bus f typ).pending = s.pending := by
  unfold State.kReceived; (repeat' split) <;> simp

@[simp] theorem slotOpened (s : State) (p : Nat) : (State.slotOpened s p).cmn = s.cmn ∧
    (State.slotOpened s p).seq = s.seq ∧ (State.slotOpened s p).tly = s.tly ∧ (State.slotOpened s p).adm = s.adm ∧
    (State.slotOpened s p).beam = s.beam ∧ (State.slotOpened s p).ctl = s.ctl ∧ (State.slotOpened s p).fcs = s.fcs ∧
    (State.slotOpened s p).thm = s.thm ∧ (State.slotOpened s p).sns = s.sns ∧ (State.slotOpened s p).dom = s.dom ∧
    (State.slotOpened s p).clk = s.clk ∧ (State.slotOpened s p).vrg = s.vrg ∧ (State.slotOpened s p).pmb = s.pmb ∧
    (State.slotOpened s p).frm = s.frm ∧ (State.slotOpened s p).mbs = s.mbs ∧ (State.slotOpened s p).mbn = s.mbn ∧
    (State.slotOpened s p).rck = s.rck ∧ (State.slotOpened s p).aut = s.aut ∧ (State.slotOpened s p).rst = s.rst ∧
    (State.slotOpened s p).rel = s.rel ∧ (State.slotOpened s p).evt = s.evt ∧ (State.slotOpened s p).trc = s.trc ∧
    (State.slotOpened s p).hdr = s.hdr ∧ (State.slotOpened s p).stg = s.stg ∧ (State.slotOpened s p).hst = s.hst ∧
    (State.slotOpened s p).pairLo = s.pairLo ∧ (State.slotOpened s p).now = s.now ∧ (State.slotOpened s p).free = s.free ∧
    (State.slotOpened s p).pending = s.pending := by
  unfold State.slotOpened; simp

@[simp] theorem sendBudget (s : State) (p : Nat) : (State.sendBudget s p).cmn = s.cmn ∧
    (State.sendBudget s p).seq = s.seq ∧ (State.sendBudget s p).tly = s.tly ∧ (State.sendBudget s p).adm = s.adm ∧
    (State.sendBudget s p).beam = s.beam ∧ (State.sendBudget s p).ctl = s.ctl ∧ (State.sendBudget s p).fcs = s.fcs ∧
    (State.sendBudget s p).thm = s.thm ∧ (State.sendBudget s p).sns = s.sns ∧ (State.sendBudget s p).dom = s.dom ∧
    (State.sendBudget s p).clk = s.clk ∧ (State.sendBudget s p).vrg = s.vrg ∧ (State.sendBudget s p).pmb = s.pmb ∧
    (State.sendBudget s p).frm = s.frm ∧ (State.sendBudget s p).mbs = s.mbs ∧ (State.sendBudget s p).mbn = s.mbn ∧
    (State.sendBudget s p).rck = s.rck ∧ (State.sendBudget s p).rst = s.rst ∧ (State.sendBudget s p).rel = s.rel ∧
    (State.sendBudget s p).evt = s.evt ∧ (State.sendBudget s p).trc = s.trc ∧ (State.sendBudget s p).hdr = s.hdr ∧
    (State.sendBudget s p).stg = s.stg ∧ (State.sendBudget s p).hst = s.hst ∧ (State.sendBudget s p).pairLo = s.pairLo ∧
    (State.sendBudget s p).now = s.now ∧ (State.sendBudget s p).free = s.free ∧ (State.sendBudget s p).pending = s.pending := by
  unfold State.sendBudget; simp

@[simp] theorem sendStart (s : State) (p typ : Nat) : (State.sendStart s p typ).cmn = s.cmn ∧
    (State.sendStart s p typ).seq = s.seq ∧ (State.sendStart s p typ).tly = s.tly ∧ (State.sendStart s p typ).adm = s.adm ∧
    (State.sendStart s p typ).beam = s.beam ∧ (State.sendStart s p typ).ctl = s.ctl ∧ (State.sendStart s p typ).fcs = s.fcs ∧
    (State.sendStart s p typ).thm = s.thm ∧ (State.sendStart s p typ).sns = s.sns ∧ (State.sendStart s p typ).dom = s.dom ∧
    (State.sendStart s p typ).clk = s.clk ∧ (State.sendStart s p typ).vrg = s.vrg ∧ (State.sendStart s p typ).pmb = s.pmb ∧
    (State.sendStart s p typ).frm = s.frm ∧ (State.sendStart s p typ).mbs = s.mbs ∧ (State.sendStart s p typ).mbn = s.mbn ∧
    (State.sendStart s p typ).rck = s.rck ∧ (State.sendStart s p typ).rst = s.rst ∧ (State.sendStart s p typ).rel = s.rel ∧
    (State.sendStart s p typ).evt = s.evt ∧ (State.sendStart s p typ).trc = s.trc ∧ (State.sendStart s p typ).hdr = s.hdr ∧
    (State.sendStart s p typ).stg = s.stg ∧ (State.sendStart s p typ).hst = s.hst ∧
    (State.sendStart s p typ).pairLo = s.pairLo ∧ (State.sendStart s p typ).now = s.now ∧
    (State.sendStart s p typ).pending = s.pending := by
  unfold State.sendStart; split <;> simp

@[simp] theorem onRck (s : State) (f : Rck → Rck) : (State.onRck s f).cmn = s.cmn ∧
    (State.onRck s f).seq = s.seq ∧ (State.onRck s f).tly = s.tly ∧ (State.onRck s f).adm = s.adm ∧
    (State.onRck s f).beam = s.beam ∧ (State.onRck s f).ctl = s.ctl ∧ (State.onRck s f).fcs = s.fcs ∧
    (State.onRck s f).thm = s.thm ∧ (State.onRck s f).sns = s.sns ∧ (State.onRck s f).dom = s.dom ∧
    (State.onRck s f).clk = s.clk ∧ (State.onRck s f).vrg = s.vrg ∧ (State.onRck s f).pmb = s.pmb ∧
    (State.onRck s f).frm = s.frm ∧ (State.onRck s f).tre = s.tre ∧ (State.onRck s f).mbs = s.mbs ∧
    (State.onRck s f).mbn = s.mbn ∧ (State.onRck s f).aut = s.aut ∧ (State.onRck s f).rst = s.rst ∧
    (State.onRck s f).rel = s.rel ∧ (State.onRck s f).evt = s.evt ∧ (State.onRck s f).trc = s.trc ∧
    (State.onRck s f).hdr = s.hdr ∧ (State.onRck s f).stg = s.stg ∧ (State.onRck s f).hst = s.hst ∧
    (State.onRck s f).pairLo = s.pairLo ∧ (State.onRck s f).now = s.now ∧ (State.onRck s f).free = s.free ∧
    (State.onRck s f).pending = s.pending := by
  unfold State.onRck; simp

@[simp] theorem rackReply (s : State) (bs : List Nat) (st : Nat) (pay : List Nat) : (State.rackReply s bs st pay).cmn = s.cmn ∧ (State.rackReply s bs st pay).seq = s.seq ∧ (State.rackReply s bs st pay).tly = s.tly ∧ (State.rackReply s bs st pay).adm = s.adm ∧ (State.rackReply s bs st pay).beam = s.beam ∧ (State.rackReply s bs st pay).ctl = s.ctl ∧ (State.rackReply s bs st pay).fcs = s.fcs ∧ (State.rackReply s bs st pay).thm = s.thm ∧ (State.rackReply s bs st pay).sns = s.sns ∧ (State.rackReply s bs st pay).dom = s.dom ∧ (State.rackReply s bs st pay).clk = s.clk ∧ (State.rackReply s bs st pay).vrg = s.vrg ∧ (State.rackReply s bs st pay).pmb = s.pmb ∧ (State.rackReply s bs st pay).frm = s.frm ∧ (State.rackReply s bs st pay).tre = s.tre ∧ (State.rackReply s bs st pay).mbs = s.mbs ∧ (State.rackReply s bs st pay).mbn = s.mbn ∧ (State.rackReply s bs st pay).rst = s.rst ∧ (State.rackReply s bs st pay).rel = s.rel ∧ (State.rackReply s bs st pay).evt = s.evt ∧ (State.rackReply s bs st pay).trc = s.trc ∧ (State.rackReply s bs st pay).hdr = s.hdr ∧ (State.rackReply s bs st pay).stg = s.stg ∧ (State.rackReply s bs st pay).hst = s.hst ∧ (State.rackReply s bs st pay).pairLo = s.pairLo ∧ (State.rackReply s bs st pay).now = s.now ∧ (State.rackReply s bs st pay).free = s.free ∧ (State.rackReply s bs st pay).pending = s.pending := by
  unfold State.rackReply; simp

@[simp] theorem setRackCap (s : State) (v : Nat) : (State.setRackCap s v).cmn = s.cmn ∧
    (State.setRackCap s v).seq = s.seq ∧ (State.setRackCap s v).tly = s.tly ∧ (State.setRackCap s v).beam = s.beam ∧
    (State.setRackCap s v).ctl = s.ctl ∧ (State.setRackCap s v).fcs = s.fcs ∧ (State.setRackCap s v).thm = s.thm ∧
    (State.setRackCap s v).sns = s.sns ∧ (State.setRackCap s v).dom = s.dom ∧ (State.setRackCap s v).clk = s.clk ∧
    (State.setRackCap s v).vrg = s.vrg ∧ (State.setRackCap s v).pmb = s.pmb ∧ (State.setRackCap s v).aut = s.aut ∧
    (State.setRackCap s v).rst = s.rst ∧ (State.setRackCap s v).rel = s.rel ∧ (State.setRackCap s v).trc = s.trc ∧
    (State.setRackCap s v).stg = s.stg ∧ (State.setRackCap s v).hst = s.hst ∧ (State.setRackCap s v).pairLo = s.pairLo ∧
    (State.setRackCap s v).now = s.now ∧ (State.setRackCap s v).free = s.free ∧ (State.setRackCap s v).pending = s.pending := by
  unfold State.setRackCap; simp

@[simp] theorem clearRackCap (s : State) : (State.clearRackCap s).cmn = s.cmn ∧
    (State.clearRackCap s).seq = s.seq ∧ (State.clearRackCap s).tly = s.tly ∧ (State.clearRackCap s).beam = s.beam ∧
    (State.clearRackCap s).ctl = s.ctl ∧ (State.clearRackCap s).fcs = s.fcs ∧ (State.clearRackCap s).thm = s.thm ∧
    (State.clearRackCap s).sns = s.sns ∧ (State.clearRackCap s).dom = s.dom ∧ (State.clearRackCap s).clk = s.clk ∧
    (State.clearRackCap s).vrg = s.vrg ∧ (State.clearRackCap s).pmb = s.pmb ∧ (State.clearRackCap s).aut = s.aut ∧
    (State.clearRackCap s).rst = s.rst ∧ (State.clearRackCap s).rel = s.rel ∧ (State.clearRackCap s).trc = s.trc ∧
    (State.clearRackCap s).stg = s.stg ∧ (State.clearRackCap s).hst = s.hst ∧ (State.clearRackCap s).pairLo = s.pairLo ∧
    (State.clearRackCap s).now = s.now ∧ (State.clearRackCap s).free = s.free ∧ (State.clearRackCap s).pending = s.pending := by
  unfold State.clearRackCap; simp

@[simp] theorem rackRate (s : State) (typ : Nat) : (State.rackRate s typ).cmn = s.cmn ∧
    (State.rackRate s typ).seq = s.seq ∧ (State.rackRate s typ).tly = s.tly ∧ (State.rackRate s typ).adm = s.adm ∧
    (State.rackRate s typ).beam = s.beam ∧ (State.rackRate s typ).ctl = s.ctl ∧ (State.rackRate s typ).fcs = s.fcs ∧
    (State.rackRate s typ).thm = s.thm ∧ (State.rackRate s typ).sns = s.sns ∧ (State.rackRate s typ).dom = s.dom ∧
    (State.rackRate s typ).clk = s.clk ∧ (State.rackRate s typ).vrg = s.vrg ∧ (State.rackRate s typ).pmb = s.pmb ∧
    (State.rackRate s typ).frm = s.frm ∧ (State.rackRate s typ).tre = s.tre ∧ (State.rackRate s typ).mbs = s.mbs ∧
    (State.rackRate s typ).mbn = s.mbn ∧ (State.rackRate s typ).aut = s.aut ∧ (State.rackRate s typ).rst = s.rst ∧
    (State.rackRate s typ).rel = s.rel ∧ (State.rackRate s typ).trc = s.trc ∧ (State.rackRate s typ).stg = s.stg ∧
    (State.rackRate s typ).hst = s.hst ∧ (State.rackRate s typ).pairLo = s.pairLo ∧ (State.rackRate s typ).now = s.now ∧
    (State.rackRate s typ).free = s.free ∧ (State.rackRate s typ).pending = s.pending := by
  unfold State.rackRate; simp

@[simp] theorem rackBad (s : State) (st : Nat) : (State.rackBad s st).cmn = s.cmn ∧
    (State.rackBad s st).seq = s.seq ∧ (State.rackBad s st).tly = s.tly ∧ (State.rackBad s st).adm = s.adm ∧
    (State.rackBad s st).beam = s.beam ∧ (State.rackBad s st).ctl = s.ctl ∧ (State.rackBad s st).fcs = s.fcs ∧
    (State.rackBad s st).thm = s.thm ∧ (State.rackBad s st).sns = s.sns ∧ (State.rackBad s st).dom = s.dom ∧
    (State.rackBad s st).clk = s.clk ∧ (State.rackBad s st).vrg = s.vrg ∧ (State.rackBad s st).pmb = s.pmb ∧
    (State.rackBad s st).frm = s.frm ∧ (State.rackBad s st).tre = s.tre ∧ (State.rackBad s st).mbs = s.mbs ∧
    (State.rackBad s st).mbn = s.mbn ∧ (State.rackBad s st).rst = s.rst ∧ (State.rackBad s st).rel = s.rel ∧
    (State.rackBad s st).trc = s.trc ∧ (State.rackBad s st).stg = s.stg ∧ (State.rackBad s st).hst = s.hst ∧
    (State.rackBad s st).pairLo = s.pairLo ∧ (State.rackBad s st).now = s.now ∧ (State.rackBad s st).free = s.free ∧
    (State.rackBad s st).pending = s.pending := by
  unfold State.rackBad; simp

@[simp] theorem rackPerform (s : State) (bs : List Nat) : (State.rackPerform s bs).cmn = s.cmn ∧
    (State.rackPerform s bs).seq = s.seq ∧ (State.rackPerform s bs).tly = s.tly ∧ (State.rackPerform s bs).beam = s.beam ∧
    (State.rackPerform s bs).ctl = s.ctl ∧ (State.rackPerform s bs).fcs = s.fcs ∧ (State.rackPerform s bs).thm = s.thm ∧
    (State.rackPerform s bs).sns = s.sns ∧ (State.rackPerform s bs).dom = s.dom ∧ (State.rackPerform s bs).clk = s.clk ∧
    (State.rackPerform s bs).vrg = s.vrg ∧ (State.rackPerform s bs).pmb = s.pmb ∧ (State.rackPerform s bs).rst = s.rst ∧
    (State.rackPerform s bs).rel = s.rel ∧ (State.rackPerform s bs).trc = s.trc ∧ (State.rackPerform s bs).stg = s.stg ∧
    (State.rackPerform s bs).hst = s.hst ∧ (State.rackPerform s bs).pairLo = s.pairLo ∧
    (State.rackPerform s bs).now = s.now ∧ (State.rackPerform s bs).free = s.free ∧
    (State.rackPerform s bs).pending = s.pending := by
  unfold State.rackPerform; split <;> simp

@[simp] theorem rackRequest (s : State) (bs : List Nat) : (State.rackRequest s bs).cmn = s.cmn ∧
    (State.rackRequest s bs).seq = s.seq ∧ (State.rackRequest s bs).tly = s.tly ∧ (State.rackRequest s bs).beam = s.beam ∧
    (State.rackRequest s bs).ctl = s.ctl ∧ (State.rackRequest s bs).fcs = s.fcs ∧ (State.rackRequest s bs).thm = s.thm ∧
    (State.rackRequest s bs).sns = s.sns ∧ (State.rackRequest s bs).dom = s.dom ∧ (State.rackRequest s bs).clk = s.clk ∧
    (State.rackRequest s bs).vrg = s.vrg ∧ (State.rackRequest s bs).pmb = s.pmb ∧ (State.rackRequest s bs).rst = s.rst ∧
    (State.rackRequest s bs).rel = s.rel ∧ (State.rackRequest s bs).trc = s.trc ∧ (State.rackRequest s bs).stg = s.stg ∧
    (State.rackRequest s bs).hst = s.hst ∧ (State.rackRequest s bs).pairLo = s.pairLo ∧
    (State.rackRequest s bs).now = s.now ∧ (State.rackRequest s bs).free = s.free ∧
    (State.rackRequest s bs).pending = s.pending := by
  unfold State.rackRequest; simp

@[simp] theorem rckAnswer (s : State) (bs : List Nat) : (State.rckAnswer s bs).cmn = s.cmn ∧
    (State.rckAnswer s bs).seq = s.seq ∧ (State.rckAnswer s bs).tly = s.tly ∧ (State.rckAnswer s bs).adm = s.adm ∧
    (State.rckAnswer s bs).beam = s.beam ∧ (State.rckAnswer s bs).ctl = s.ctl ∧ (State.rckAnswer s bs).fcs = s.fcs ∧
    (State.rckAnswer s bs).thm = s.thm ∧ (State.rckAnswer s bs).sns = s.sns ∧ (State.rckAnswer s bs).dom = s.dom ∧
    (State.rckAnswer s bs).clk = s.clk ∧ (State.rckAnswer s bs).vrg = s.vrg ∧ (State.rckAnswer s bs).pmb = s.pmb ∧
    (State.rckAnswer s bs).frm = s.frm ∧ (State.rckAnswer s bs).tre = s.tre ∧ (State.rckAnswer s bs).mbs = s.mbs ∧
    (State.rckAnswer s bs).mbn = s.mbn ∧ (State.rckAnswer s bs).aut = s.aut ∧ (State.rckAnswer s bs).rst = s.rst ∧
    (State.rckAnswer s bs).rel = s.rel ∧ (State.rckAnswer s bs).evt = s.evt ∧ (State.rckAnswer s bs).trc = s.trc ∧
    (State.rckAnswer s bs).hdr = s.hdr ∧ (State.rckAnswer s bs).stg = s.stg ∧ (State.rckAnswer s bs).hst = s.hst ∧
    (State.rckAnswer s bs).pairLo = s.pairLo ∧ (State.rckAnswer s bs).now = s.now ∧ (State.rckAnswer s bs).free = s.free ∧
    (State.rckAnswer s bs).pending = s.pending := by
  unfold State.rckAnswer; simp

@[simp] theorem setDa (s : State) (a : Nat) : (State.setDa s a).cmn = s.cmn ∧ (State.setDa s a).seq = s.seq ∧
    (State.setDa s a).tly = s.tly ∧ (State.setDa s a).adm = s.adm ∧ (State.setDa s a).beam = s.beam ∧
    (State.setDa s a).ctl = s.ctl ∧ (State.setDa s a).fcs = s.fcs ∧ (State.setDa s a).thm = s.thm ∧
    (State.setDa s a).sns = s.sns ∧ (State.setDa s a).dom = s.dom ∧ (State.setDa s a).clk = s.clk ∧
    (State.setDa s a).vrg = s.vrg ∧ (State.setDa s a).pmb = s.pmb ∧ (State.setDa s a).frm = s.frm ∧
    (State.setDa s a).tre = s.tre ∧ (State.setDa s a).mbs = s.mbs ∧ (State.setDa s a).mbn = s.mbn ∧
    (State.setDa s a).aut = s.aut ∧ (State.setDa s a).rst = s.rst ∧ (State.setDa s a).rel = s.rel ∧
    (State.setDa s a).trc = s.trc ∧ (State.setDa s a).stg = s.stg ∧ (State.setDa s a).hst = s.hst ∧
    (State.setDa s a).pairLo = s.pairLo ∧ (State.setDa s a).now = s.now ∧ (State.setDa s a).free = s.free ∧
    (State.setDa s a).pending = s.pending := by
  unfold State.setDa; simp

end Pages
end

