-- ==== Sys2Proof/Laws/PagesSeq.lean ====
section
/-! SUPPORT. Which pages of State each operation leaves alone: repair, policy, the control sample, the boundary and resets. One lemma for each operation, a conjunction
over every page the operation does not write, tagged simp so that no later proof unfolds the operation for them. -/

set_option linter.unusedSimpArgs false

namespace Pages

open Sys2Proof Sys2Proof.Machine

@[simp] theorem scrubBad (s : State) (k a w : Nat) (again : Bool) : (State.scrubBad s k a w again).cmn = s.cmn ∧
    (State.scrubBad s k a w again).beam = s.beam ∧ (State.scrubBad s k a w again).sns = s.sns ∧
    (State.scrubBad s k a w again).dom = s.dom ∧ (State.scrubBad s k a w again).clk = s.clk ∧
    (State.scrubBad s k a w again).vrg = s.vrg ∧ (State.scrubBad s k a w again).pmb = s.pmb ∧
    (State.scrubBad s k a w again).frm = s.frm ∧ (State.scrubBad s k a w again).tre = s.tre ∧
    (State.scrubBad s k a w again).aut = s.aut ∧ (State.scrubBad s k a w again).rst = s.rst ∧
    (State.scrubBad s k a w again).hst = s.hst ∧ (State.scrubBad s k a w again).pairLo = s.pairLo ∧
    (State.scrubBad s k a w again).now = s.now ∧ (State.scrubBad s k a w again).pending = s.pending := by
  unfold State.scrubBad; (repeat' split) <;> simp

@[simp] theorem relStart (s : State) (kind op i : Nat) : (State.relStart s kind op i).cmn = s.cmn ∧
    (State.relStart s kind op i).seq = s.seq ∧ (State.relStart s kind op i).tly = s.tly ∧
    (State.relStart s kind op i).adm = s.adm ∧ (State.relStart s kind op i).beam = s.beam ∧
    (State.relStart s kind op i).ctl = s.ctl ∧ (State.relStart s kind op i).fcs = s.fcs ∧
    (State.relStart s kind op i).thm = s.thm ∧ (State.relStart s kind op i).sns = s.sns ∧
    (State.relStart s kind op i).dom = s.dom ∧ (State.relStart s kind op i).clk = s.clk ∧
    (State.relStart s kind op i).vrg = s.vrg ∧ (State.relStart s kind op i).pmb = s.pmb ∧
    (State.relStart s kind op i).frm = s.frm ∧ (State.relStart s kind op i).tre = s.tre ∧
    (State.relStart s kind op i).mbs = s.mbs ∧ (State.relStart s kind op i).mbn = s.mbn ∧
    (State.relStart s kind op i).rck = s.rck ∧ (State.relStart s kind op i).aut = s.aut ∧
    (State.relStart s kind op i).rst = s.rst ∧ (State.relStart s kind op i).evt = s.evt ∧
    (State.relStart s kind op i).trc = s.trc ∧ (State.relStart s kind op i).hdr = s.hdr ∧
    (State.relStart s kind op i).stg = s.stg ∧ (State.relStart s kind op i).hst = s.hst ∧
    (State.relStart s kind op i).pairLo = s.pairLo ∧ (State.relStart s kind op i).now = s.now ∧
    (State.relStart s kind op i).free = s.free ∧ (State.relStart s kind op i).pending = s.pending := by
  unfold State.relStart; simp

@[simp] theorem relSubst (s : State) (kind i : Nat) : (State.relSubst s kind i).cmn = s.cmn ∧
    (State.relSubst s kind i).tly = s.tly ∧ (State.relSubst s kind i).adm = s.adm ∧ (State.relSubst s kind i).fcs = s.fcs ∧
    (State.relSubst s kind i).thm = s.thm ∧ (State.relSubst s kind i).dom = s.dom ∧ (State.relSubst s kind i).clk = s.clk ∧
    (State.relSubst s kind i).pmb = s.pmb ∧ (State.relSubst s kind i).frm = s.frm ∧ (State.relSubst s kind i).tre = s.tre ∧
    (State.relSubst s kind i).aut = s.aut ∧ (State.relSubst s kind i).rst = s.rst ∧ (State.relSubst s kind i).trc = s.trc ∧
    (State.relSubst s kind i).stg = s.stg ∧ (State.relSubst s kind i).hst = s.hst ∧
    (State.relSubst s kind i).pairLo = s.pairLo ∧ (State.relSubst s kind i).now = s.now ∧
    (State.relSubst s kind i).free = s.free ∧ (State.relSubst s kind i).pending = s.pending := by
  unfold State.relSubst; split <;> simp

@[simp] theorem relRestore (s : State) (kind i : Nat) : (State.relRestore s kind i).cmn = s.cmn ∧
    (State.relRestore s kind i).tly = s.tly ∧ (State.relRestore s kind i).adm = s.adm ∧
    (State.relRestore s kind i).dom = s.dom ∧ (State.relRestore s kind i).clk = s.clk ∧
    (State.relRestore s kind i).pmb = s.pmb ∧ (State.relRestore s kind i).frm = s.frm ∧
    (State.relRestore s kind i).tre = s.tre ∧ (State.relRestore s kind i).aut = s.aut ∧
    (State.relRestore s kind i).rst = s.rst ∧ (State.relRestore s kind i).trc = s.trc ∧
    (State.relRestore s kind i).stg = s.stg ∧ (State.relRestore s kind i).hst = s.hst ∧
    (State.relRestore s kind i).pairLo = s.pairLo ∧ (State.relRestore s kind i).now = s.now ∧
    (State.relRestore s kind i).free = s.free ∧ (State.relRestore s kind i).pending = s.pending := by
  unfold State.relRestore; split <;> simp

@[simp] theorem cmdSt (s : State) (op st : Nat) : (State.cmdSt s op st).cmn = s.cmn ∧
    (State.cmdSt s op st).tly = s.tly ∧ (State.cmdSt s op st).adm = s.adm ∧ (State.cmdSt s op st).beam = s.beam ∧
    (State.cmdSt s op st).ctl = s.ctl ∧ (State.cmdSt s op st).fcs = s.fcs ∧ (State.cmdSt s op st).thm = s.thm ∧
    (State.cmdSt s op st).sns = s.sns ∧ (State.cmdSt s op st).dom = s.dom ∧ (State.cmdSt s op st).clk = s.clk ∧
    (State.cmdSt s op st).vrg = s.vrg ∧ (State.cmdSt s op st).pmb = s.pmb ∧ (State.cmdSt s op st).frm = s.frm ∧
    (State.cmdSt s op st).tre = s.tre ∧ (State.cmdSt s op st).mbs = s.mbs ∧ (State.cmdSt s op st).mbn = s.mbn ∧
    (State.cmdSt s op st).rck = s.rck ∧ (State.cmdSt s op st).aut = s.aut ∧ (State.cmdSt s op st).rst = s.rst ∧
    (State.cmdSt s op st).rel = s.rel ∧ (State.cmdSt s op st).evt = s.evt ∧ (State.cmdSt s op st).trc = s.trc ∧
    (State.cmdSt s op st).hdr = s.hdr ∧ (State.cmdSt s op st).stg = s.stg ∧ (State.cmdSt s op st).hst = s.hst ∧
    (State.cmdSt s op st).pairLo = s.pairLo ∧ (State.cmdSt s op st).now = s.now ∧ (State.cmdSt s op st).free = s.free ∧
    (State.cmdSt s op st).pending = s.pending := by
  unfold State.cmdSt; simp

@[simp] theorem seqRefused (s : State) : (State.seqRefused s).cmn = s.cmn ∧ (State.seqRefused s).tly = s.tly ∧
    (State.seqRefused s).adm = s.adm ∧ (State.seqRefused s).beam = s.beam ∧ (State.seqRefused s).ctl = s.ctl ∧
    (State.seqRefused s).fcs = s.fcs ∧ (State.seqRefused s).thm = s.thm ∧ (State.seqRefused s).sns = s.sns ∧
    (State.seqRefused s).dom = s.dom ∧ (State.seqRefused s).clk = s.clk ∧ (State.seqRefused s).vrg = s.vrg ∧
    (State.seqRefused s).pmb = s.pmb ∧ (State.seqRefused s).frm = s.frm ∧ (State.seqRefused s).tre = s.tre ∧
    (State.seqRefused s).mbs = s.mbs ∧ (State.seqRefused s).mbn = s.mbn ∧ (State.seqRefused s).rck = s.rck ∧
    (State.seqRefused s).aut = s.aut ∧ (State.seqRefused s).rst = s.rst ∧ (State.seqRefused s).rel = s.rel ∧
    (State.seqRefused s).evt = s.evt ∧ (State.seqRefused s).trc = s.trc ∧ (State.seqRefused s).hdr = s.hdr ∧
    (State.seqRefused s).stg = s.stg ∧ (State.seqRefused s).hst = s.hst ∧ (State.seqRefused s).pairLo = s.pairLo ∧
    (State.seqRefused s).now = s.now ∧ (State.seqRefused s).free = s.free ∧ (State.seqRefused s).pending = s.pending := by
  unfold State.seqRefused; simp

@[simp] theorem loadCmd (s : State) : (State.loadCmd s).cmn = s.cmn ∧ (State.loadCmd s).tly = s.tly ∧
    (State.loadCmd s).adm = s.adm ∧ (State.loadCmd s).beam = s.beam ∧ (State.loadCmd s).ctl = s.ctl ∧
    (State.loadCmd s).fcs = s.fcs ∧ (State.loadCmd s).thm = s.thm ∧ (State.loadCmd s).sns = s.sns ∧
    (State.loadCmd s).dom = s.dom ∧ (State.loadCmd s).clk = s.clk ∧ (State.loadCmd s).vrg = s.vrg ∧
    (State.loadCmd s).pmb = s.pmb ∧ (State.loadCmd s).frm = s.frm ∧ (State.loadCmd s).tre = s.tre ∧
    (State.loadCmd s).aut = s.aut ∧ (State.loadCmd s).rst = s.rst ∧ (State.loadCmd s).rel = s.rel ∧
    (State.loadCmd s).trc = s.trc ∧ (State.loadCmd s).stg = s.stg ∧ (State.loadCmd s).hst = s.hst ∧
    (State.loadCmd s).pairLo = s.pairLo ∧ (State.loadCmd s).now = s.now ∧ (State.loadCmd s).free = s.free ∧
    (State.loadCmd s).pending = s.pending := by
  unfold State.loadCmd; split <;> simp

@[simp] theorem commitCmd (s : State) : (State.commitCmd s).cmn = s.cmn ∧ (State.commitCmd s).tly = s.tly ∧
    (State.commitCmd s).adm = s.adm ∧ (State.commitCmd s).beam = s.beam ∧ (State.commitCmd s).ctl = s.ctl ∧
    (State.commitCmd s).fcs = s.fcs ∧ (State.commitCmd s).thm = s.thm ∧ (State.commitCmd s).sns = s.sns ∧
    (State.commitCmd s).dom = s.dom ∧ (State.commitCmd s).clk = s.clk ∧ (State.commitCmd s).vrg = s.vrg ∧
    (State.commitCmd s).pmb = s.pmb ∧ (State.commitCmd s).frm = s.frm ∧ (State.commitCmd s).tre = s.tre ∧
    (State.commitCmd s).mbs = s.mbs ∧ (State.commitCmd s).mbn = s.mbn ∧ (State.commitCmd s).rck = s.rck ∧
    (State.commitCmd s).aut = s.aut ∧ (State.commitCmd s).rst = s.rst ∧ (State.commitCmd s).rel = s.rel ∧
    (State.commitCmd s).evt = s.evt ∧ (State.commitCmd s).trc = s.trc ∧ (State.commitCmd s).stg = s.stg ∧
    (State.commitCmd s).hst = s.hst ∧ (State.commitCmd s).pairLo = s.pairLo ∧ (State.commitCmd s).now = s.now ∧
    (State.commitCmd s).free = s.free ∧ (State.commitCmd s).pending = s.pending := by
  unfold State.commitCmd; simp

@[simp] theorem commitFailed (s : State) (st : Nat) : (State.commitFailed s st).cmn = s.cmn ∧
    (State.commitFailed s st).tly = s.tly ∧ (State.commitFailed s st).adm = s.adm ∧ (State.commitFailed s st).beam = s.beam ∧
    (State.commitFailed s st).ctl = s.ctl ∧ (State.commitFailed s st).fcs = s.fcs ∧ (State.commitFailed s st).thm = s.thm ∧
    (State.commitFailed s st).sns = s.sns ∧ (State.commitFailed s st).dom = s.dom ∧ (State.commitFailed s st).clk = s.clk ∧
    (State.commitFailed s st).vrg = s.vrg ∧ (State.commitFailed s st).pmb = s.pmb ∧ (State.commitFailed s st).frm = s.frm ∧
    (State.commitFailed s st).tre = s.tre ∧ (State.commitFailed s st).aut = s.aut ∧ (State.commitFailed s st).rst = s.rst ∧
    (State.commitFailed s st).rel = s.rel ∧ (State.commitFailed s st).trc = s.trc ∧ (State.commitFailed s st).hst = s.hst ∧
    (State.commitFailed s st).pairLo = s.pairLo ∧ (State.commitFailed s st).now = s.now ∧
    (State.commitFailed s st).free = s.free ∧ (State.commitFailed s st).pending = s.pending := by
  unfold State.commitFailed; simp

@[simp] theorem lockPages (s : State) : (State.lockPages s).cmn = s.cmn ∧ (State.lockPages s).seq = s.seq ∧
    (State.lockPages s).tly = s.tly ∧ (State.lockPages s).adm = s.adm ∧ (State.lockPages s).beam = s.beam ∧
    (State.lockPages s).ctl = s.ctl ∧ (State.lockPages s).fcs = s.fcs ∧ (State.lockPages s).thm = s.thm ∧
    (State.lockPages s).sns = s.sns ∧ (State.lockPages s).dom = s.dom ∧ (State.lockPages s).clk = s.clk ∧
    (State.lockPages s).vrg = s.vrg ∧ (State.lockPages s).pmb = s.pmb ∧ (State.lockPages s).frm = s.frm ∧
    (State.lockPages s).tre = s.tre ∧ (State.lockPages s).mbs = s.mbs ∧ (State.lockPages s).mbn = s.mbn ∧
    (State.lockPages s).rck = s.rck ∧ (State.lockPages s).aut = s.aut ∧ (State.lockPages s).rst = s.rst ∧
    (State.lockPages s).rel = s.rel ∧ (State.lockPages s).evt = s.evt ∧ (State.lockPages s).trc = s.trc ∧
    (State.lockPages s).stg = s.stg ∧ (State.lockPages s).hst = s.hst ∧ (State.lockPages s).pairLo = s.pairLo ∧
    (State.lockPages s).now = s.now ∧ (State.lockPages s).free = s.free ∧ (State.lockPages s).pending = s.pending := by
  unfold State.lockPages; simp

@[simp] theorem commitDone (s : State) : (State.commitDone s).cmn = s.cmn ∧ (State.commitDone s).tly = s.tly ∧
    (State.commitDone s).adm = s.adm ∧ (State.commitDone s).beam = s.beam ∧ (State.commitDone s).fcs = s.fcs ∧
    (State.commitDone s).thm = s.thm ∧ (State.commitDone s).sns = s.sns ∧ (State.commitDone s).dom = s.dom ∧
    (State.commitDone s).clk = s.clk ∧ (State.commitDone s).vrg = s.vrg ∧ (State.commitDone s).pmb = s.pmb ∧
    (State.commitDone s).frm = s.frm ∧ (State.commitDone s).tre = s.tre ∧ (State.commitDone s).mbs = s.mbs ∧
    (State.commitDone s).mbn = s.mbn ∧ (State.commitDone s).rck = s.rck ∧ (State.commitDone s).aut = s.aut ∧
    (State.commitDone s).rst = s.rst ∧ (State.commitDone s).rel = s.rel ∧ (State.commitDone s).trc = s.trc ∧
    (State.commitDone s).hst = s.hst ∧ (State.commitDone s).pairLo = s.pairLo ∧ (State.commitDone s).now = s.now ∧
    (State.commitDone s).free = s.free ∧ (State.commitDone s).pending = s.pending := by
  unfold State.commitDone; simp

@[simp] theorem activateCmd (s : State) : (State.activateCmd s).cmn = s.cmn ∧ (State.activateCmd s).tly = s.tly ∧
    (State.activateCmd s).adm = s.adm ∧ (State.activateCmd s).beam = s.beam ∧ (State.activateCmd s).ctl = s.ctl ∧
    (State.activateCmd s).fcs = s.fcs ∧ (State.activateCmd s).thm = s.thm ∧ (State.activateCmd s).sns = s.sns ∧
    (State.activateCmd s).dom = s.dom ∧ (State.activateCmd s).clk = s.clk ∧ (State.activateCmd s).vrg = s.vrg ∧
    (State.activateCmd s).pmb = s.pmb ∧ (State.activateCmd s).frm = s.frm ∧ (State.activateCmd s).tre = s.tre ∧
    (State.activateCmd s).mbs = s.mbs ∧ (State.activateCmd s).mbn = s.mbn ∧ (State.activateCmd s).rck = s.rck ∧
    (State.activateCmd s).aut = s.aut ∧ (State.activateCmd s).rst = s.rst ∧ (State.activateCmd s).rel = s.rel ∧
    (State.activateCmd s).evt = s.evt ∧ (State.activateCmd s).trc = s.trc ∧ (State.activateCmd s).hdr = s.hdr ∧
    (State.activateCmd s).stg = s.stg ∧ (State.activateCmd s).hst = s.hst ∧ (State.activateCmd s).pairLo = s.pairLo ∧
    (State.activateCmd s).now = s.now ∧ (State.activateCmd s).free = s.free ∧ (State.activateCmd s).pending = s.pending := by
  unfold State.activateCmd; simp

@[simp] theorem abortCmd (s : State) : (State.abortCmd s).cmn = s.cmn ∧ (State.abortCmd s).tly = s.tly ∧
    (State.abortCmd s).adm = s.adm ∧ (State.abortCmd s).beam = s.beam ∧ (State.abortCmd s).ctl = s.ctl ∧
    (State.abortCmd s).fcs = s.fcs ∧ (State.abortCmd s).thm = s.thm ∧ (State.abortCmd s).sns = s.sns ∧
    (State.abortCmd s).dom = s.dom ∧ (State.abortCmd s).clk = s.clk ∧ (State.abortCmd s).vrg = s.vrg ∧
    (State.abortCmd s).pmb = s.pmb ∧ (State.abortCmd s).frm = s.frm ∧ (State.abortCmd s).tre = s.tre ∧
    (State.abortCmd s).aut = s.aut ∧ (State.abortCmd s).rst = s.rst ∧ (State.abortCmd s).rel = s.rel ∧
    (State.abortCmd s).trc = s.trc ∧ (State.abortCmd s).hst = s.hst ∧ (State.abortCmd s).pairLo = s.pairLo ∧
    (State.abortCmd s).now = s.now ∧ (State.abortCmd s).free = s.free ∧ (State.abortCmd s).pending = s.pending := by
  unfold State.abortCmd; simp

@[simp] theorem actNotice (s : State) (st : Nat) : (State.actNotice s st).cmn = s.cmn ∧
    (State.actNotice s st).tly = s.tly ∧ (State.actNotice s st).adm = s.adm ∧ (State.actNotice s st).beam = s.beam ∧
    (State.actNotice s st).ctl = s.ctl ∧ (State.actNotice s st).fcs = s.fcs ∧ (State.actNotice s st).thm = s.thm ∧
    (State.actNotice s st).sns = s.sns ∧ (State.actNotice s st).dom = s.dom ∧ (State.actNotice s st).clk = s.clk ∧
    (State.actNotice s st).vrg = s.vrg ∧ (State.actNotice s st).pmb = s.pmb ∧ (State.actNotice s st).frm = s.frm ∧
    (State.actNotice s st).tre = s.tre ∧ (State.actNotice s st).rck = s.rck ∧ (State.actNotice s st).aut = s.aut ∧
    (State.actNotice s st).rst = s.rst ∧ (State.actNotice s st).rel = s.rel ∧ (State.actNotice s st).trc = s.trc ∧
    (State.actNotice s st).stg = s.stg ∧ (State.actNotice s st).hst = s.hst ∧ (State.actNotice s st).pairLo = s.pairLo ∧
    (State.actNotice s st).now = s.now ∧ (State.actNotice s st).free = s.free ∧ (State.actNotice s st).pending = s.pending := by
  unfold State.actNotice; simp

@[simp] theorem activationRefused (s : State) (st : Nat) : (State.activationRefused s st).cmn = s.cmn ∧
    (State.activationRefused s st).tly = s.tly ∧ (State.activationRefused s st).adm = s.adm ∧
    (State.activationRefused s st).beam = s.beam ∧ (State.activationRefused s st).ctl = s.ctl ∧
    (State.activationRefused s st).fcs = s.fcs ∧ (State.activationRefused s st).thm = s.thm ∧
    (State.activationRefused s st).sns = s.sns ∧ (State.activationRefused s st).dom = s.dom ∧
    (State.activationRefused s st).clk = s.clk ∧ (State.activationRefused s st).vrg = s.vrg ∧
    (State.activationRefused s st).pmb = s.pmb ∧ (State.activationRefused s st).frm = s.frm ∧
    (State.activationRefused s st).tre = s.tre ∧ (State.activationRefused s st).aut = s.aut ∧
    (State.activationRefused s st).rst = s.rst ∧ (State.activationRefused s st).rel = s.rel ∧
    (State.activationRefused s st).trc = s.trc ∧ (State.activationRefused s st).hst = s.hst ∧
    (State.activationRefused s st).pairLo = s.pairLo ∧ (State.activationRefused s st).now = s.now ∧
    (State.activationRefused s st).free = s.free ∧ (State.activationRefused s st).pending = s.pending := by
  unfold State.activationRefused; simp

@[simp] theorem imgApply (s : State) (im : Image) : (State.imgApply s im).cmn = s.cmn ∧
    (State.imgApply s im).seq = s.seq ∧ (State.imgApply s im).tly = s.tly ∧ (State.imgApply s im).ctl = s.ctl ∧
    (State.imgApply s im).fcs = s.fcs ∧ (State.imgApply s im).sns = s.sns ∧ (State.imgApply s im).mbn = s.mbn ∧
    (State.imgApply s im).rck = s.rck ∧ (State.imgApply s im).aut = s.aut ∧ (State.imgApply s im).rst = s.rst ∧
    (State.imgApply s im).evt = s.evt ∧ (State.imgApply s im).trc = s.trc ∧ (State.imgApply s im).hdr = s.hdr ∧
    (State.imgApply s im).stg = s.stg ∧ (State.imgApply s im).hst = s.hst ∧ (State.imgApply s im).pairLo = s.pairLo ∧
    (State.imgApply s im).now = s.now ∧ (State.imgApply s im).free = s.free ∧ (State.imgApply s im).pending = s.pending := by
  unfold State.imgApply; simp

@[simp] theorem phaseMaps (s : State) : (State.phaseMaps s).cmn = s.cmn ∧ (State.phaseMaps s).seq = s.seq ∧
    (State.phaseMaps s).tly = s.tly ∧ (State.phaseMaps s).adm = s.adm ∧ (State.phaseMaps s).ctl = s.ctl ∧
    (State.phaseMaps s).fcs = s.fcs ∧ (State.phaseMaps s).thm = s.thm ∧ (State.phaseMaps s).sns = s.sns ∧
    (State.phaseMaps s).dom = s.dom ∧ (State.phaseMaps s).clk = s.clk ∧ (State.phaseMaps s).pmb = s.pmb ∧
    (State.phaseMaps s).frm = s.frm ∧ (State.phaseMaps s).tre = s.tre ∧ (State.phaseMaps s).mbs = s.mbs ∧
    (State.phaseMaps s).mbn = s.mbn ∧ (State.phaseMaps s).rck = s.rck ∧ (State.phaseMaps s).aut = s.aut ∧
    (State.phaseMaps s).rst = s.rst ∧ (State.phaseMaps s).rel = s.rel ∧ (State.phaseMaps s).trc = s.trc ∧
    (State.phaseMaps s).stg = s.stg ∧ (State.phaseMaps s).hst = s.hst ∧ (State.phaseMaps s).pairLo = s.pairLo ∧
    (State.phaseMaps s).now = s.now ∧ (State.phaseMaps s).free = s.free ∧ (State.phaseMaps s).pending = s.pending := by
  unfold State.phaseMaps; simp

@[simp] theorem switchIn (s : State) (im : Image) : (State.switchIn s im).cmn = s.cmn ∧
    (State.switchIn s im).fcs = s.fcs ∧ (State.switchIn s im).sns = s.sns ∧ (State.switchIn s im).aut = s.aut ∧
    (State.switchIn s im).rst = s.rst ∧ (State.switchIn s im).trc = s.trc ∧ (State.switchIn s im).hst = s.hst ∧
    (State.switchIn s im).pairLo = s.pairLo ∧ (State.switchIn s im).now = s.now ∧ (State.switchIn s im).free = s.free ∧
    (State.switchIn s im).pending = s.pending := by
  unfold State.switchIn; simp

@[simp] theorem deferActivation (s : State) : (State.deferActivation s).cmn = s.cmn ∧
    (State.deferActivation s).tly = s.tly ∧ (State.deferActivation s).adm = s.adm ∧ (State.deferActivation s).beam = s.beam ∧
    (State.deferActivation s).ctl = s.ctl ∧ (State.deferActivation s).fcs = s.fcs ∧ (State.deferActivation s).thm = s.thm ∧
    (State.deferActivation s).sns = s.sns ∧ (State.deferActivation s).dom = s.dom ∧ (State.deferActivation s).clk = s.clk ∧
    (State.deferActivation s).vrg = s.vrg ∧ (State.deferActivation s).pmb = s.pmb ∧ (State.deferActivation s).frm = s.frm ∧
    (State.deferActivation s).tre = s.tre ∧ (State.deferActivation s).rck = s.rck ∧ (State.deferActivation s).aut = s.aut ∧
    (State.deferActivation s).rst = s.rst ∧ (State.deferActivation s).rel = s.rel ∧ (State.deferActivation s).trc = s.trc ∧
    (State.deferActivation s).stg = s.stg ∧ (State.deferActivation s).hst = s.hst ∧
    (State.deferActivation s).pairLo = s.pairLo ∧ (State.deferActivation s).now = s.now ∧
    (State.deferActivation s).free = s.free ∧ (State.deferActivation s).pending = s.pending := by
  unfold State.deferActivation; simp

@[simp] theorem activationStep (s : State) : (State.activationStep s).cmn = s.cmn ∧
    (State.activationStep s).fcs = s.fcs ∧ (State.activationStep s).sns = s.sns ∧ (State.activationStep s).aut = s.aut ∧
    (State.activationStep s).rst = s.rst ∧ (State.activationStep s).trc = s.trc ∧ (State.activationStep s).hst = s.hst ∧
    (State.activationStep s).pairLo = s.pairLo ∧ (State.activationStep s).now = s.now ∧
    (State.activationStep s).free = s.free ∧ (State.activationStep s).pending = s.pending := by
  unfold State.activationStep; (repeat' split) <;> simp

@[simp] theorem sampleRail (s : State) (r : Nat) : (State.sampleRail s r).cmn = s.cmn ∧
    (State.sampleRail s r).ctl = s.ctl ∧ (State.sampleRail s r).sns = s.sns ∧ (State.sampleRail s r).clk = s.clk ∧
    (State.sampleRail s r).pmb = s.pmb ∧ (State.sampleRail s r).tre = s.tre ∧ (State.sampleRail s r).aut = s.aut ∧
    (State.sampleRail s r).rst = s.rst ∧ (State.sampleRail s r).hst = s.hst ∧ (State.sampleRail s r).pairLo = s.pairLo ∧
    (State.sampleRail s r).now = s.now ∧ (State.sampleRail s r).free = s.free ∧ (State.sampleRail s r).pending = s.pending := by
  unfold State.sampleRail; simp

@[simp] theorem baseSamples (s : State) : (State.baseSamples s).cmn = s.cmn ∧ (State.baseSamples s).seq = s.seq ∧
    (State.baseSamples s).adm = s.adm ∧ (State.baseSamples s).beam = s.beam ∧ (State.baseSamples s).ctl = s.ctl ∧
    (State.baseSamples s).fcs = s.fcs ∧ (State.baseSamples s).thm = s.thm ∧ (State.baseSamples s).sns = s.sns ∧
    (State.baseSamples s).dom = s.dom ∧ (State.baseSamples s).clk = s.clk ∧ (State.baseSamples s).vrg = s.vrg ∧
    (State.baseSamples s).pmb = s.pmb ∧ (State.baseSamples s).frm = s.frm ∧ (State.baseSamples s).tre = s.tre ∧
    (State.baseSamples s).mbs = s.mbs ∧ (State.baseSamples s).mbn = s.mbn ∧ (State.baseSamples s).rck = s.rck ∧
    (State.baseSamples s).aut = s.aut ∧ (State.baseSamples s).rst = s.rst ∧ (State.baseSamples s).rel = s.rel ∧
    (State.baseSamples s).evt = s.evt ∧ (State.baseSamples s).trc = s.trc ∧ (State.baseSamples s).hdr = s.hdr ∧
    (State.baseSamples s).stg = s.stg ∧ (State.baseSamples s).hst = s.hst ∧ (State.baseSamples s).pairLo = s.pairLo ∧
    (State.baseSamples s).now = s.now ∧ (State.baseSamples s).free = s.free ∧ (State.baseSamples s).pending = s.pending := by
  unfold State.baseSamples; simp

@[simp] theorem tickLaw (s : State) (obs : SampleObs) : (State.tickLaw s obs).cmn = s.cmn ∧
    (State.tickLaw s obs).tly = s.tly ∧ (State.tickLaw s obs).adm = s.adm ∧ (State.tickLaw s obs).beam = s.beam ∧
    (State.tickLaw s obs).sns = s.sns ∧ (State.tickLaw s obs).dom = s.dom ∧ (State.tickLaw s obs).clk = s.clk ∧
    (State.tickLaw s obs).pmb = s.pmb ∧ (State.tickLaw s obs).frm = s.frm ∧ (State.tickLaw s obs).tre = s.tre ∧
    (State.tickLaw s obs).aut = s.aut ∧ (State.tickLaw s obs).rst = s.rst ∧ (State.tickLaw s obs).stg = s.stg ∧
    (State.tickLaw s obs).hst = s.hst ∧ (State.tickLaw s obs).pairLo = s.pairLo ∧ (State.tickLaw s obs).now = s.now ∧
    (State.tickLaw s obs).free = s.free ∧ (State.tickLaw s obs).pending = s.pending := by
  unfold State.tickLaw; simp

@[simp] theorem periodEnd (s : State) : (State.periodEnd s).cmn = s.cmn ∧ (State.periodEnd s).seq = s.seq ∧
    (State.periodEnd s).tly = s.tly ∧ (State.periodEnd s).adm = s.adm ∧ (State.periodEnd s).beam = s.beam ∧
    (State.periodEnd s).fcs = s.fcs ∧ (State.periodEnd s).thm = s.thm ∧ (State.periodEnd s).sns = s.sns ∧
    (State.periodEnd s).dom = s.dom ∧ (State.periodEnd s).clk = s.clk ∧ (State.periodEnd s).pmb = s.pmb ∧
    (State.periodEnd s).frm = s.frm ∧ (State.periodEnd s).tre = s.tre ∧ (State.periodEnd s).mbs = s.mbs ∧
    (State.periodEnd s).mbn = s.mbn ∧ (State.periodEnd s).rck = s.rck ∧ (State.periodEnd s).aut = s.aut ∧
    (State.periodEnd s).rst = s.rst ∧ (State.periodEnd s).rel = s.rel ∧ (State.periodEnd s).evt = s.evt ∧
    (State.periodEnd s).trc = s.trc ∧ (State.periodEnd s).hdr = s.hdr ∧ (State.periodEnd s).stg = s.stg ∧
    (State.periodEnd s).hst = s.hst ∧ (State.periodEnd s).pairLo = s.pairLo ∧ (State.periodEnd s).now = s.now ∧
    (State.periodEnd s).free = s.free ∧ (State.periodEnd s).pending = s.pending := by
  unfold State.periodEnd; simp

@[simp] theorem tickEnd (s : State) : (State.tickEnd s).cmn = s.cmn ∧ (State.tickEnd s).adm = s.adm ∧
    (State.tickEnd s).clk = s.clk ∧ (State.tickEnd s).pmb = s.pmb ∧ (State.tickEnd s).frm = s.frm ∧
    (State.tickEnd s).tre = s.tre ∧ (State.tickEnd s).aut = s.aut ∧ (State.tickEnd s).rst = s.rst ∧
    (State.tickEnd s).trc = s.trc ∧ (State.tickEnd s).stg = s.stg ∧ (State.tickEnd s).hst = s.hst ∧
    (State.tickEnd s).pairLo = s.pairLo ∧ (State.tickEnd s).now = s.now ∧ (State.tickEnd s).free = s.free ∧
    (State.tickEnd s).pending = s.pending := by
  unfold State.tickEnd; simp

@[simp] theorem trcBoundary (s : State) : (State.trcBoundary s).cmn = s.cmn ∧ (State.trcBoundary s).seq = s.seq ∧
    (State.trcBoundary s).tly = s.tly ∧ (State.trcBoundary s).adm = s.adm ∧ (State.trcBoundary s).beam = s.beam ∧
    (State.trcBoundary s).ctl = s.ctl ∧ (State.trcBoundary s).fcs = s.fcs ∧ (State.trcBoundary s).thm = s.thm ∧
    (State.trcBoundary s).sns = s.sns ∧ (State.trcBoundary s).dom = s.dom ∧ (State.trcBoundary s).clk = s.clk ∧
    (State.trcBoundary s).vrg = s.vrg ∧ (State.trcBoundary s).pmb = s.pmb ∧ (State.trcBoundary s).frm = s.frm ∧
    (State.trcBoundary s).tre = s.tre ∧ (State.trcBoundary s).mbs = s.mbs ∧ (State.trcBoundary s).mbn = s.mbn ∧
    (State.trcBoundary s).rck = s.rck ∧ (State.trcBoundary s).aut = s.aut ∧ (State.trcBoundary s).rst = s.rst ∧
    (State.trcBoundary s).rel = s.rel ∧ (State.trcBoundary s).stg = s.stg ∧ (State.trcBoundary s).hst = s.hst ∧
    (State.trcBoundary s).pairLo = s.pairLo ∧ (State.trcBoundary s).now = s.now ∧ (State.trcBoundary s).free = s.free ∧
    (State.trcBoundary s).pending = s.pending := by
  unfold State.trcBoundary; simp

@[simp] theorem shareOpen (s : State) (next : Bool) : (State.shareOpen s next).cmn = s.cmn ∧
    (State.shareOpen s next).seq = s.seq ∧ (State.shareOpen s next).tly = s.tly ∧ (State.shareOpen s next).beam = s.beam ∧
    (State.shareOpen s next).ctl = s.ctl ∧ (State.shareOpen s next).fcs = s.fcs ∧ (State.shareOpen s next).thm = s.thm ∧
    (State.shareOpen s next).sns = s.sns ∧ (State.shareOpen s next).dom = s.dom ∧ (State.shareOpen s next).clk = s.clk ∧
    (State.shareOpen s next).vrg = s.vrg ∧ (State.shareOpen s next).pmb = s.pmb ∧ (State.shareOpen s next).tre = s.tre ∧
    (State.shareOpen s next).mbs = s.mbs ∧ (State.shareOpen s next).mbn = s.mbn ∧ (State.shareOpen s next).rck = s.rck ∧
    (State.shareOpen s next).aut = s.aut ∧ (State.shareOpen s next).rst = s.rst ∧ (State.shareOpen s next).rel = s.rel ∧
    (State.shareOpen s next).evt = s.evt ∧ (State.shareOpen s next).trc = s.trc ∧ (State.shareOpen s next).hdr = s.hdr ∧
    (State.shareOpen s next).stg = s.stg ∧ (State.shareOpen s next).hst = s.hst ∧
    (State.shareOpen s next).pairLo = s.pairLo ∧ (State.shareOpen s next).now = s.now ∧
    (State.shareOpen s next).free = s.free ∧ (State.shareOpen s next).pending = s.pending := by
  unfold State.shareOpen; split <;> simp

@[simp] theorem treOpen (s : State) : (State.treOpen s).cmn = s.cmn ∧ (State.treOpen s).seq = s.seq ∧
    (State.treOpen s).tly = s.tly ∧ (State.treOpen s).adm = s.adm ∧ (State.treOpen s).beam = s.beam ∧
    (State.treOpen s).ctl = s.ctl ∧ (State.treOpen s).fcs = s.fcs ∧ (State.treOpen s).thm = s.thm ∧
    (State.treOpen s).sns = s.sns ∧ (State.treOpen s).dom = s.dom ∧ (State.treOpen s).clk = s.clk ∧
    (State.treOpen s).vrg = s.vrg ∧ (State.treOpen s).pmb = s.pmb ∧ (State.treOpen s).frm = s.frm ∧
    (State.treOpen s).mbs = s.mbs ∧ (State.treOpen s).mbn = s.mbn ∧ (State.treOpen s).rck = s.rck ∧
    (State.treOpen s).aut = s.aut ∧ (State.treOpen s).rst = s.rst ∧ (State.treOpen s).rel = s.rel ∧
    (State.treOpen s).evt = s.evt ∧ (State.treOpen s).trc = s.trc ∧ (State.treOpen s).hdr = s.hdr ∧
    (State.treOpen s).stg = s.stg ∧ (State.treOpen s).hst = s.hst ∧ (State.treOpen s).pairLo = s.pairLo ∧
    (State.treOpen s).now = s.now ∧ (State.treOpen s).free = s.free ∧ (State.treOpen s).pending = s.pending := by
  unfold State.treOpen; simp

@[simp] theorem frmOpen (s : State) : (State.frmOpen s).cmn = s.cmn ∧ (State.frmOpen s).seq = s.seq ∧
    (State.frmOpen s).tly = s.tly ∧ (State.frmOpen s).adm = s.adm ∧ (State.frmOpen s).beam = s.beam ∧
    (State.frmOpen s).ctl = s.ctl ∧ (State.frmOpen s).fcs = s.fcs ∧ (State.frmOpen s).thm = s.thm ∧
    (State.frmOpen s).sns = s.sns ∧ (State.frmOpen s).dom = s.dom ∧ (State.frmOpen s).clk = s.clk ∧
    (State.frmOpen s).vrg = s.vrg ∧ (State.frmOpen s).pmb = s.pmb ∧ (State.frmOpen s).tre = s.tre ∧
    (State.frmOpen s).mbs = s.mbs ∧ (State.frmOpen s).mbn = s.mbn ∧ (State.frmOpen s).rck = s.rck ∧
    (State.frmOpen s).aut = s.aut ∧ (State.frmOpen s).rst = s.rst ∧ (State.frmOpen s).rel = s.rel ∧
    (State.frmOpen s).evt = s.evt ∧ (State.frmOpen s).trc = s.trc ∧ (State.frmOpen s).hdr = s.hdr ∧
    (State.frmOpen s).stg = s.stg ∧ (State.frmOpen s).hst = s.hst ∧ (State.frmOpen s).pairLo = s.pairLo ∧
    (State.frmOpen s).now = s.now ∧ (State.frmOpen s).free = s.free ∧ (State.frmOpen s).pending = s.pending := by
  unfold State.frmOpen; simp

@[simp] theorem boundary (s : State) (num : Nat) (gov : Bool) : (State.boundary s num gov).cmn = s.cmn ∧
    (State.boundary s num gov).sns = s.sns ∧ (State.boundary s num gov).aut = s.aut ∧
    (State.boundary s num gov).rst = s.rst ∧ (State.boundary s num gov).hst = s.hst ∧
    (State.boundary s num gov).pairLo = s.pairLo ∧ (State.boundary s num gov).now = s.now ∧
    (State.boundary s num gov).free = s.free ∧ (State.boundary s num gov).pending = s.pending := by
  unfold State.boundary; simp

@[simp] theorem reckon (s : State) : (State.reckon s).cmn = s.cmn ∧ (State.reckon s).seq = s.seq ∧
    (State.reckon s).tly = s.tly ∧ (State.reckon s).beam = s.beam ∧ (State.reckon s).ctl = s.ctl ∧
    (State.reckon s).fcs = s.fcs ∧ (State.reckon s).thm = s.thm ∧ (State.reckon s).sns = s.sns ∧
    (State.reckon s).dom = s.dom ∧ (State.reckon s).clk = s.clk ∧ (State.reckon s).vrg = s.vrg ∧
    (State.reckon s).pmb = s.pmb ∧ (State.reckon s).aut = s.aut ∧ (State.reckon s).rst = s.rst ∧
    (State.reckon s).rel = s.rel ∧ (State.reckon s).trc = s.trc ∧ (State.reckon s).stg = s.stg ∧
    (State.reckon s).hst = s.hst ∧ (State.reckon s).pairLo = s.pairLo ∧ (State.reckon s).now = s.now ∧
    (State.reckon s).free = s.free ∧ (State.reckon s).pending = s.pending := by
  unfold State.reckon; simp

@[simp] theorem memberOpen (s : State) : (State.memberOpen s).cmn = s.cmn ∧ (State.memberOpen s).seq = s.seq ∧
    (State.memberOpen s).tly = s.tly ∧ (State.memberOpen s).beam = s.beam ∧ (State.memberOpen s).ctl = s.ctl ∧
    (State.memberOpen s).fcs = s.fcs ∧ (State.memberOpen s).thm = s.thm ∧ (State.memberOpen s).sns = s.sns ∧
    (State.memberOpen s).dom = s.dom ∧ (State.memberOpen s).clk = s.clk ∧ (State.memberOpen s).vrg = s.vrg ∧
    (State.memberOpen s).pmb = s.pmb ∧ (State.memberOpen s).aut = s.aut ∧ (State.memberOpen s).rst = s.rst ∧
    (State.memberOpen s).rel = s.rel ∧ (State.memberOpen s).trc = s.trc ∧ (State.memberOpen s).stg = s.stg ∧
    (State.memberOpen s).hst = s.hst ∧ (State.memberOpen s).pairLo = s.pairLo ∧ (State.memberOpen s).now = s.now ∧
    (State.memberOpen s).free = s.free ∧ (State.memberOpen s).pending = s.pending := by
  unfold State.memberOpen; simp

@[simp] theorem bootOutputs (s : State) : (State.bootOutputs s).cmn = s.cmn ∧ (State.bootOutputs s).seq = s.seq ∧
    (State.bootOutputs s).tly = s.tly ∧ (State.bootOutputs s).adm = s.adm ∧ (State.bootOutputs s).beam = s.beam ∧
    (State.bootOutputs s).ctl = s.ctl ∧ (State.bootOutputs s).fcs = s.fcs ∧ (State.bootOutputs s).thm = s.thm ∧
    (State.bootOutputs s).sns = s.sns ∧ (State.bootOutputs s).pmb = s.pmb ∧ (State.bootOutputs s).frm = s.frm ∧
    (State.bootOutputs s).tre = s.tre ∧ (State.bootOutputs s).mbs = s.mbs ∧ (State.bootOutputs s).mbn = s.mbn ∧
    (State.bootOutputs s).rck = s.rck ∧ (State.bootOutputs s).aut = s.aut ∧ (State.bootOutputs s).rst = s.rst ∧
    (State.bootOutputs s).rel = s.rel ∧ (State.bootOutputs s).evt = s.evt ∧ (State.bootOutputs s).trc = s.trc ∧
    (State.bootOutputs s).hdr = s.hdr ∧ (State.bootOutputs s).stg = s.stg ∧ (State.bootOutputs s).hst = s.hst ∧
    (State.bootOutputs s).pairLo = s.pairLo ∧ (State.bootOutputs s).now = s.now ∧ (State.bootOutputs s).free = s.free ∧
    (State.bootOutputs s).pending = s.pending := by
  unfold State.bootOutputs; simp

@[simp] theorem fuseFaults (s : State) : (State.fuseFaults s).cmn = s.cmn ∧ (State.fuseFaults s).seq = s.seq ∧
    (State.fuseFaults s).tly = s.tly ∧ (State.fuseFaults s).adm = s.adm ∧ (State.fuseFaults s).ctl = s.ctl ∧
    (State.fuseFaults s).fcs = s.fcs ∧ (State.fuseFaults s).thm = s.thm ∧ (State.fuseFaults s).dom = s.dom ∧
    (State.fuseFaults s).clk = s.clk ∧ (State.fuseFaults s).vrg = s.vrg ∧ (State.fuseFaults s).pmb = s.pmb ∧
    (State.fuseFaults s).frm = s.frm ∧ (State.fuseFaults s).tre = s.tre ∧ (State.fuseFaults s).mbs = s.mbs ∧
    (State.fuseFaults s).mbn = s.mbn ∧ (State.fuseFaults s).rck = s.rck ∧ (State.fuseFaults s).aut = s.aut ∧
    (State.fuseFaults s).rst = s.rst ∧ (State.fuseFaults s).rel = s.rel ∧ (State.fuseFaults s).trc = s.trc ∧
    (State.fuseFaults s).stg = s.stg ∧ (State.fuseFaults s).hst = s.hst ∧ (State.fuseFaults s).pairLo = s.pairLo ∧
    (State.fuseFaults s).now = s.now ∧ (State.fuseFaults s).free = s.free ∧ (State.fuseFaults s).pending = s.pending := by
  unfold State.fuseFaults; simp

@[simp] theorem closeEpisode (s : State) (cause : Nat) : (State.closeEpisode s cause).cmn = s.cmn ∧
    (State.closeEpisode s cause).seq = s.seq ∧ (State.closeEpisode s cause).tly = s.tly ∧
    (State.closeEpisode s cause).adm = s.adm ∧ (State.closeEpisode s cause).beam = s.beam ∧
    (State.closeEpisode s cause).ctl = s.ctl ∧ (State.closeEpisode s cause).fcs = s.fcs ∧
    (State.closeEpisode s cause).thm = s.thm ∧ (State.closeEpisode s cause).sns = s.sns ∧
    (State.closeEpisode s cause).dom = s.dom ∧ (State.closeEpisode s cause).clk = s.clk ∧
    (State.closeEpisode s cause).vrg = s.vrg ∧ (State.closeEpisode s cause).pmb = s.pmb ∧
    (State.closeEpisode s cause).frm = s.frm ∧ (State.closeEpisode s cause).tre = s.tre ∧
    (State.closeEpisode s cause).mbs = s.mbs ∧ (State.closeEpisode s cause).mbn = s.mbn ∧
    (State.closeEpisode s cause).rck = s.rck ∧ (State.closeEpisode s cause).aut = s.aut ∧
    (State.closeEpisode s cause).rel = s.rel ∧ (State.closeEpisode s cause).trc = s.trc ∧
    (State.closeEpisode s cause).stg = s.stg ∧ (State.closeEpisode s cause).hst = s.hst ∧
    (State.closeEpisode s cause).pairLo = s.pairLo ∧ (State.closeEpisode s cause).now = s.now ∧
    (State.closeEpisode s cause).free = s.free ∧ (State.closeEpisode s cause).pending = s.pending := by
  unfold State.closeEpisode; simp

@[simp] theorem startRowLost (s : State) (i : Nat) : (State.startRowLost s i).cmn = s.cmn ∧
    (State.startRowLost s i).seq = s.seq ∧ (State.startRowLost s i).adm = s.adm ∧ (State.startRowLost s i).beam = s.beam ∧
    (State.startRowLost s i).ctl = s.ctl ∧ (State.startRowLost s i).fcs = s.fcs ∧ (State.startRowLost s i).thm = s.thm ∧
    (State.startRowLost s i).sns = s.sns ∧ (State.startRowLost s i).dom = s.dom ∧ (State.startRowLost s i).clk = s.clk ∧
    (State.startRowLost s i).vrg = s.vrg ∧ (State.startRowLost s i).pmb = s.pmb ∧ (State.startRowLost s i).frm = s.frm ∧
    (State.startRowLost s i).tre = s.tre ∧ (State.startRowLost s i).mbs = s.mbs ∧ (State.startRowLost s i).mbn = s.mbn ∧
    (State.startRowLost s i).rck = s.rck ∧ (State.startRowLost s i).aut = s.aut ∧ (State.startRowLost s i).rst = s.rst ∧
    (State.startRowLost s i).rel = s.rel ∧ (State.startRowLost s i).trc = s.trc ∧ (State.startRowLost s i).stg = s.stg ∧
    (State.startRowLost s i).hst = s.hst ∧ (State.startRowLost s i).pairLo = s.pairLo ∧
    (State.startRowLost s i).now = s.now ∧ (State.startRowLost s i).free = s.free ∧
    (State.startRowLost s i).pending = s.pending := by
  unfold State.startRowLost; simp

@[simp] theorem warmPages (s : State) : (State.warmPages s).hdr = s.hdr ∧ (State.warmPages s).stg = s.stg ∧
    (State.warmPages s).hst = s.hst ∧ (State.warmPages s).pairLo = s.pairLo ∧ (State.warmPages s).now = s.now ∧
    (State.warmPages s).free = s.free ∧ (State.warmPages s).pending = s.pending := by
  unfold State.warmPages; simp

@[simp] theorem warmLoad (s : State) : (State.warmLoad s).cmn = s.cmn ∧ (State.warmLoad s).tly = s.tly ∧
    (State.warmLoad s).adm = s.adm ∧ (State.warmLoad s).beam = s.beam ∧ (State.warmLoad s).ctl = s.ctl ∧
    (State.warmLoad s).fcs = s.fcs ∧ (State.warmLoad s).thm = s.thm ∧ (State.warmLoad s).sns = s.sns ∧
    (State.warmLoad s).dom = s.dom ∧ (State.warmLoad s).clk = s.clk ∧ (State.warmLoad s).vrg = s.vrg ∧
    (State.warmLoad s).pmb = s.pmb ∧ (State.warmLoad s).frm = s.frm ∧ (State.warmLoad s).tre = s.tre ∧
    (State.warmLoad s).mbs = s.mbs ∧ (State.warmLoad s).mbn = s.mbn ∧ (State.warmLoad s).rck = s.rck ∧
    (State.warmLoad s).aut = s.aut ∧ (State.warmLoad s).rst = s.rst ∧ (State.warmLoad s).rel = s.rel ∧
    (State.warmLoad s).evt = s.evt ∧ (State.warmLoad s).trc = s.trc ∧ (State.warmLoad s).hst = s.hst ∧
    (State.warmLoad s).pairLo = s.pairLo ∧ (State.warmLoad s).now = s.now ∧ (State.warmLoad s).free = s.free ∧
    (State.warmLoad s).pending = s.pending := by
  unfold State.warmLoad; simp

@[simp] theorem warmPhase (s : State) : (State.warmPhase s).cmn = s.cmn ∧ (State.warmPhase s).seq = s.seq ∧
    (State.warmPhase s).tly = s.tly ∧ (State.warmPhase s).adm = s.adm ∧ (State.warmPhase s).beam = s.beam ∧
    (State.warmPhase s).ctl = s.ctl ∧ (State.warmPhase s).fcs = s.fcs ∧ (State.warmPhase s).sns = s.sns ∧
    (State.warmPhase s).dom = s.dom ∧ (State.warmPhase s).clk = s.clk ∧ (State.warmPhase s).vrg = s.vrg ∧
    (State.warmPhase s).pmb = s.pmb ∧ (State.warmPhase s).frm = s.frm ∧ (State.warmPhase s).tre = s.tre ∧
    (State.warmPhase s).mbs = s.mbs ∧ (State.warmPhase s).mbn = s.mbn ∧ (State.warmPhase s).rck = s.rck ∧
    (State.warmPhase s).aut = s.aut ∧ (State.warmPhase s).rst = s.rst ∧ (State.warmPhase s).rel = s.rel ∧
    (State.warmPhase s).trc = s.trc ∧ (State.warmPhase s).stg = s.stg ∧ (State.warmPhase s).hst = s.hst ∧
    (State.warmPhase s).pairLo = s.pairLo ∧ (State.warmPhase s).now = s.now ∧ (State.warmPhase s).free = s.free ∧
    (State.warmPhase s).pending = s.pending := by
  unfold State.warmPhase; simp

@[simp] theorem warmReset (s : State) : (State.warmReset s).stg = s.stg ∧ (State.warmReset s).now = s.now ∧
    (State.warmReset s).free = s.free ∧ (State.warmReset s).pending = s.pending := by
  unfold State.warmReset; simp

@[simp] theorem warmExit (s : State) : (State.warmExit s).cmn = s.cmn ∧ (State.warmExit s).adm = s.adm ∧
    (State.warmExit s).beam = s.beam ∧ (State.warmExit s).ctl = s.ctl ∧ (State.warmExit s).fcs = s.fcs ∧
    (State.warmExit s).thm = s.thm ∧ (State.warmExit s).sns = s.sns ∧ (State.warmExit s).clk = s.clk ∧
    (State.warmExit s).vrg = s.vrg ∧ (State.warmExit s).pmb = s.pmb ∧ (State.warmExit s).frm = s.frm ∧
    (State.warmExit s).tre = s.tre ∧ (State.warmExit s).aut = s.aut ∧ (State.warmExit s).rel = s.rel ∧
    (State.warmExit s).trc = s.trc ∧ (State.warmExit s).stg = s.stg ∧ (State.warmExit s).hst = s.hst ∧
    (State.warmExit s).pairLo = s.pairLo ∧ (State.warmExit s).now = s.now ∧ (State.warmExit s).free = s.free ∧
    (State.warmExit s).pending = s.pending := by
  unfold State.warmExit; simp

@[simp] theorem lrstAsk (s : State) (pg : Fin 23) : (State.lrstAsk s pg).cmn = s.cmn ∧
    (State.lrstAsk s pg).seq = s.seq ∧ (State.lrstAsk s pg).tly = s.tly ∧ (State.lrstAsk s pg).adm = s.adm ∧
    (State.lrstAsk s pg).beam = s.beam ∧ (State.lrstAsk s pg).ctl = s.ctl ∧ (State.lrstAsk s pg).thm = s.thm ∧
    (State.lrstAsk s pg).sns = s.sns ∧ (State.lrstAsk s pg).dom = s.dom ∧ (State.lrstAsk s pg).clk = s.clk ∧
    (State.lrstAsk s pg).vrg = s.vrg ∧ (State.lrstAsk s pg).pmb = s.pmb ∧ (State.lrstAsk s pg).frm = s.frm ∧
    (State.lrstAsk s pg).tre = s.tre ∧ (State.lrstAsk s pg).mbs = s.mbs ∧ (State.lrstAsk s pg).mbn = s.mbn ∧
    (State.lrstAsk s pg).rck = s.rck ∧ (State.lrstAsk s pg).aut = s.aut ∧ (State.lrstAsk s pg).rst = s.rst ∧
    (State.lrstAsk s pg).rel = s.rel ∧ (State.lrstAsk s pg).trc = s.trc ∧ (State.lrstAsk s pg).stg = s.stg ∧
    (State.lrstAsk s pg).hst = s.hst ∧ (State.lrstAsk s pg).pairLo = s.pairLo ∧ (State.lrstAsk s pg).now = s.now ∧
    (State.lrstAsk s pg).free = s.free ∧ (State.lrstAsk s pg).pending = s.pending := by
  unfold State.lrstAsk; simp

@[simp] theorem lrstFcs (s : State) : (State.lrstFcs s).cmn = s.cmn ∧ (State.lrstFcs s).seq = s.seq ∧
    (State.lrstFcs s).tly = s.tly ∧ (State.lrstFcs s).adm = s.adm ∧ (State.lrstFcs s).beam = s.beam ∧
    (State.lrstFcs s).ctl = s.ctl ∧ (State.lrstFcs s).thm = s.thm ∧ (State.lrstFcs s).sns = s.sns ∧
    (State.lrstFcs s).dom = s.dom ∧ (State.lrstFcs s).clk = s.clk ∧ (State.lrstFcs s).vrg = s.vrg ∧
    (State.lrstFcs s).pmb = s.pmb ∧ (State.lrstFcs s).frm = s.frm ∧ (State.lrstFcs s).tre = s.tre ∧
    (State.lrstFcs s).mbs = s.mbs ∧ (State.lrstFcs s).mbn = s.mbn ∧ (State.lrstFcs s).rck = s.rck ∧
    (State.lrstFcs s).aut = s.aut ∧ (State.lrstFcs s).rst = s.rst ∧ (State.lrstFcs s).rel = s.rel ∧
    (State.lrstFcs s).stg = s.stg ∧ (State.lrstFcs s).hst = s.hst ∧ (State.lrstFcs s).pairLo = s.pairLo ∧
    (State.lrstFcs s).now = s.now ∧ (State.lrstFcs s).free = s.free ∧ (State.lrstFcs s).pending = s.pending := by
  unfold State.lrstFcs; simp

@[simp] theorem lrstFrm (s : State) : (State.lrstFrm s).cmn = s.cmn ∧ (State.lrstFrm s).seq = s.seq ∧
    (State.lrstFrm s).tly = s.tly ∧ (State.lrstFrm s).adm = s.adm ∧ (State.lrstFrm s).beam = s.beam ∧
    (State.lrstFrm s).ctl = s.ctl ∧ (State.lrstFrm s).fcs = s.fcs ∧ (State.lrstFrm s).thm = s.thm ∧
    (State.lrstFrm s).sns = s.sns ∧ (State.lrstFrm s).dom = s.dom ∧ (State.lrstFrm s).clk = s.clk ∧
    (State.lrstFrm s).vrg = s.vrg ∧ (State.lrstFrm s).pmb = s.pmb ∧ (State.lrstFrm s).tre = s.tre ∧
    (State.lrstFrm s).mbs = s.mbs ∧ (State.lrstFrm s).mbn = s.mbn ∧ (State.lrstFrm s).rck = s.rck ∧
    (State.lrstFrm s).aut = s.aut ∧ (State.lrstFrm s).rst = s.rst ∧ (State.lrstFrm s).rel = s.rel ∧
    (State.lrstFrm s).evt = s.evt ∧ (State.lrstFrm s).trc = s.trc ∧ (State.lrstFrm s).hdr = s.hdr ∧
    (State.lrstFrm s).stg = s.stg ∧ (State.lrstFrm s).hst = s.hst ∧ (State.lrstFrm s).pairLo = s.pairLo ∧
    (State.lrstFrm s).now = s.now ∧ (State.lrstFrm s).free = s.free ∧ (State.lrstFrm s).pending = s.pending := by
  unfold State.lrstFrm; simp

@[simp] theorem lrstMbx (s : State) (c : Chan) : (State.lrstMbx s c).cmn = s.cmn ∧
    (State.lrstMbx s c).seq = s.seq ∧ (State.lrstMbx s c).tly = s.tly ∧ (State.lrstMbx s c).adm = s.adm ∧
    (State.lrstMbx s c).beam = s.beam ∧ (State.lrstMbx s c).ctl = s.ctl ∧ (State.lrstMbx s c).fcs = s.fcs ∧
    (State.lrstMbx s c).thm = s.thm ∧ (State.lrstMbx s c).sns = s.sns ∧ (State.lrstMbx s c).dom = s.dom ∧
    (State.lrstMbx s c).clk = s.clk ∧ (State.lrstMbx s c).vrg = s.vrg ∧ (State.lrstMbx s c).pmb = s.pmb ∧
    (State.lrstMbx s c).frm = s.frm ∧ (State.lrstMbx s c).tre = s.tre ∧ (State.lrstMbx s c).rck = s.rck ∧
    (State.lrstMbx s c).aut = s.aut ∧ (State.lrstMbx s c).rst = s.rst ∧ (State.lrstMbx s c).rel = s.rel ∧
    (State.lrstMbx s c).trc = s.trc ∧ (State.lrstMbx s c).stg = s.stg ∧ (State.lrstMbx s c).hst = s.hst ∧
    (State.lrstMbx s c).pairLo = s.pairLo ∧ (State.lrstMbx s c).now = s.now ∧ (State.lrstMbx s c).free = s.free ∧
    (State.lrstMbx s c).pending = s.pending := by
  unfold State.lrstMbx; simp

@[simp] theorem lrstPmb (s : State) : (State.lrstPmb s).cmn = s.cmn ∧ (State.lrstPmb s).seq = s.seq ∧
    (State.lrstPmb s).tly = s.tly ∧ (State.lrstPmb s).adm = s.adm ∧ (State.lrstPmb s).beam = s.beam ∧
    (State.lrstPmb s).ctl = s.ctl ∧ (State.lrstPmb s).fcs = s.fcs ∧ (State.lrstPmb s).thm = s.thm ∧
    (State.lrstPmb s).sns = s.sns ∧ (State.lrstPmb s).dom = s.dom ∧ (State.lrstPmb s).clk = s.clk ∧
    (State.lrstPmb s).vrg = s.vrg ∧ (State.lrstPmb s).frm = s.frm ∧ (State.lrstPmb s).tre = s.tre ∧
    (State.lrstPmb s).mbs = s.mbs ∧ (State.lrstPmb s).mbn = s.mbn ∧ (State.lrstPmb s).rck = s.rck ∧
    (State.lrstPmb s).aut = s.aut ∧ (State.lrstPmb s).rst = s.rst ∧ (State.lrstPmb s).rel = s.rel ∧
    (State.lrstPmb s).evt = s.evt ∧ (State.lrstPmb s).trc = s.trc ∧ (State.lrstPmb s).hdr = s.hdr ∧
    (State.lrstPmb s).stg = s.stg ∧ (State.lrstPmb s).hst = s.hst ∧ (State.lrstPmb s).pairLo = s.pairLo ∧
    (State.lrstPmb s).now = s.now ∧ (State.lrstPmb s).free = s.free ∧ (State.lrstPmb s).pending = s.pending := by
  unfold State.lrstPmb; simp

@[simp] theorem lrstReach (s : State) (p : Nat) : (State.lrstReach s p).cmn = s.cmn ∧
    (State.lrstReach s p).seq = s.seq ∧ (State.lrstReach s p).tly = s.tly ∧ (State.lrstReach s p).adm = s.adm ∧
    (State.lrstReach s p).beam = s.beam ∧ (State.lrstReach s p).ctl = s.ctl ∧ (State.lrstReach s p).thm = s.thm ∧
    (State.lrstReach s p).sns = s.sns ∧ (State.lrstReach s p).dom = s.dom ∧ (State.lrstReach s p).clk = s.clk ∧
    (State.lrstReach s p).vrg = s.vrg ∧ (State.lrstReach s p).aut = s.aut ∧ (State.lrstReach s p).rst = s.rst ∧
    (State.lrstReach s p).rel = s.rel ∧ (State.lrstReach s p).stg = s.stg ∧ (State.lrstReach s p).hst = s.hst ∧
    (State.lrstReach s p).pairLo = s.pairLo ∧ (State.lrstReach s p).now = s.now ∧ (State.lrstReach s p).free = s.free ∧
    (State.lrstReach s p).pending = s.pending := by
  unfold State.lrstReach; split <;> simp

end Pages
end

