-- ==== Sys2Proof/Laws/PagesHost.lean ====
section
/-! SUPPORT. Which pages of State each operation leaves alone: the host port. One lemma for each operation, a conjunction
over every page the operation does not write, tagged simp so that no later proof unfolds the operation for them. -/

set_option linter.unusedSimpArgs false

namespace Pages

open Sys2Proof Sys2Proof.Machine

@[simp] theorem respond (s : State) (st data : Nat) : (State.respond s st data).cmn = s.cmn ∧
    (State.respond s st data).seq = s.seq ∧ (State.respond s st data).tly = s.tly ∧ (State.respond s st data).adm = s.adm ∧
    (State.respond s st data).beam = s.beam ∧ (State.respond s st data).ctl = s.ctl ∧ (State.respond s st data).fcs = s.fcs ∧
    (State.respond s st data).thm = s.thm ∧ (State.respond s st data).sns = s.sns ∧ (State.respond s st data).dom = s.dom ∧
    (State.respond s st data).clk = s.clk ∧ (State.respond s st data).vrg = s.vrg ∧ (State.respond s st data).pmb = s.pmb ∧
    (State.respond s st data).frm = s.frm ∧ (State.respond s st data).tre = s.tre ∧ (State.respond s st data).mbs = s.mbs ∧
    (State.respond s st data).mbn = s.mbn ∧ (State.respond s st data).rck = s.rck ∧ (State.respond s st data).aut = s.aut ∧
    (State.respond s st data).rst = s.rst ∧ (State.respond s st data).rel = s.rel ∧ (State.respond s st data).evt = s.evt ∧
    (State.respond s st data).trc = s.trc ∧ (State.respond s st data).hdr = s.hdr ∧ (State.respond s st data).stg = s.stg ∧
    (State.respond s st data).pairLo = s.pairLo ∧ (State.respond s st data).now = s.now ∧
    (State.respond s st data).free = s.free ∧ (State.respond s st data).pending = s.pending := by
  unfold State.respond; simp

@[simp] theorem resvVal (s : State) (p : Fin 23) (off : Nat) : (State.resvVal s p off).cmn = s.cmn ∧
    (State.resvVal s p off).seq = s.seq ∧ (State.resvVal s p off).tly = s.tly ∧ (State.resvVal s p off).adm = s.adm ∧
    (State.resvVal s p off).beam = s.beam ∧ (State.resvVal s p off).ctl = s.ctl ∧ (State.resvVal s p off).fcs = s.fcs ∧
    (State.resvVal s p off).thm = s.thm ∧ (State.resvVal s p off).sns = s.sns ∧ (State.resvVal s p off).dom = s.dom ∧
    (State.resvVal s p off).clk = s.clk ∧ (State.resvVal s p off).vrg = s.vrg ∧ (State.resvVal s p off).pmb = s.pmb ∧
    (State.resvVal s p off).frm = s.frm ∧ (State.resvVal s p off).tre = s.tre ∧ (State.resvVal s p off).mbs = s.mbs ∧
    (State.resvVal s p off).mbn = s.mbn ∧ (State.resvVal s p off).rck = s.rck ∧ (State.resvVal s p off).aut = s.aut ∧
    (State.resvVal s p off).rst = s.rst ∧ (State.resvVal s p off).rel = s.rel ∧ (State.resvVal s p off).trc = s.trc ∧
    (State.resvVal s p off).stg = s.stg ∧ (State.resvVal s p off).hst = s.hst ∧ (State.resvVal s p off).pairLo = s.pairLo ∧
    (State.resvVal s p off).now = s.now ∧ (State.resvVal s p off).free = s.free ∧
    (State.resvVal s p off).pending = s.pending := by
  unfold State.resvVal; simp

@[simp] theorem resvIf (s : State) (p : Fin 23) (off : Nat) (bad : Bool) : (State.resvIf s p off bad).cmn = s.cmn ∧ (State.resvIf s p off bad).seq = s.seq ∧ (State.resvIf s p off bad).tly = s.tly ∧ (State.resvIf s p off bad).adm = s.adm ∧ (State.resvIf s p off bad).beam = s.beam ∧ (State.resvIf s p off bad).ctl = s.ctl ∧ (State.resvIf s p off bad).fcs = s.fcs ∧ (State.resvIf s p off bad).thm = s.thm ∧ (State.resvIf s p off bad).sns = s.sns ∧ (State.resvIf s p off bad).dom = s.dom ∧ (State.resvIf s p off bad).clk = s.clk ∧ (State.resvIf s p off bad).vrg = s.vrg ∧ (State.resvIf s p off bad).pmb = s.pmb ∧ (State.resvIf s p off bad).frm = s.frm ∧ (State.resvIf s p off bad).tre = s.tre ∧ (State.resvIf s p off bad).mbs = s.mbs ∧ (State.resvIf s p off bad).mbn = s.mbn ∧ (State.resvIf s p off bad).rck = s.rck ∧ (State.resvIf s p off bad).aut = s.aut ∧ (State.resvIf s p off bad).rst = s.rst ∧ (State.resvIf s p off bad).rel = s.rel ∧ (State.resvIf s p off bad).trc = s.trc ∧ (State.resvIf s p off bad).stg = s.stg ∧ (State.resvIf s p off bad).hst = s.hst ∧ (State.resvIf s p off bad).pairLo = s.pairLo ∧ (State.resvIf s p off bad).now = s.now ∧ (State.resvIf s p off bad).free = s.free ∧ (State.resvIf s p off bad).pending = s.pending := by
  unfold State.resvIf; simp

@[simp] theorem keyedWrite_cmn (s : State) (p : Fin 23) (off data : Nat) (refused : State → Bool) (act : State → State) (h : ∀ s, (act s).cmn = s.cmn) : (State.keyedWrite s p off data refused act).1.cmn = s.cmn := by
  simp [State.keyedWrite, h, apply_ite Prod.snd, apply_ite Prod.fst]

@[simp] theorem keyedWrite_seq (s : State) (p : Fin 23) (off data : Nat) (refused : State → Bool) (act : State → State) (h : ∀ s, (act s).seq = s.seq) : (State.keyedWrite s p off data refused act).1.seq = s.seq := by
  simp [State.keyedWrite, h, apply_ite Prod.snd, apply_ite Prod.fst]

@[simp] theorem keyedWrite_tly (s : State) (p : Fin 23) (off data : Nat) (refused : State → Bool) (act : State → State) (h : ∀ s, (act s).tly = s.tly) : (State.keyedWrite s p off data refused act).1.tly = s.tly := by
  simp [State.keyedWrite, h, apply_ite Prod.snd, apply_ite Prod.fst]

@[simp] theorem keyedWrite_adm (s : State) (p : Fin 23) (off data : Nat) (refused : State → Bool) (act : State → State) (h : ∀ s, (act s).adm = s.adm) : (State.keyedWrite s p off data refused act).1.adm = s.adm := by
  simp [State.keyedWrite, h, apply_ite Prod.snd, apply_ite Prod.fst]

@[simp] theorem keyedWrite_beam (s : State) (p : Fin 23) (off data : Nat) (refused : State → Bool) (act : State → State) (h : ∀ s, (act s).beam = s.beam) : (State.keyedWrite s p off data refused act).1.beam = s.beam := by
  simp [State.keyedWrite, h, apply_ite Prod.snd, apply_ite Prod.fst]

@[simp] theorem keyedWrite_ctl (s : State) (p : Fin 23) (off data : Nat) (refused : State → Bool) (act : State → State) (h : ∀ s, (act s).ctl = s.ctl) : (State.keyedWrite s p off data refused act).1.ctl = s.ctl := by
  simp [State.keyedWrite, h, apply_ite Prod.snd, apply_ite Prod.fst]

@[simp] theorem keyedWrite_fcs (s : State) (p : Fin 23) (off data : Nat) (refused : State → Bool) (act : State → State) (h : ∀ s, (act s).fcs = s.fcs) : (State.keyedWrite s p off data refused act).1.fcs = s.fcs := by
  simp [State.keyedWrite, h, apply_ite Prod.snd, apply_ite Prod.fst]

@[simp] theorem keyedWrite_thm (s : State) (p : Fin 23) (off data : Nat) (refused : State → Bool) (act : State → State) (h : ∀ s, (act s).thm = s.thm) : (State.keyedWrite s p off data refused act).1.thm = s.thm := by
  simp [State.keyedWrite, h, apply_ite Prod.snd, apply_ite Prod.fst]

@[simp] theorem keyedWrite_sns (s : State) (p : Fin 23) (off data : Nat) (refused : State → Bool) (act : State → State) (h : ∀ s, (act s).sns = s.sns) : (State.keyedWrite s p off data refused act).1.sns = s.sns := by
  simp [State.keyedWrite, h, apply_ite Prod.snd, apply_ite Prod.fst]

@[simp] theorem keyedWrite_dom (s : State) (p : Fin 23) (off data : Nat) (refused : State → Bool) (act : State → State) (h : ∀ s, (act s).dom = s.dom) : (State.keyedWrite s p off data refused act).1.dom = s.dom := by
  simp [State.keyedWrite, h, apply_ite Prod.snd, apply_ite Prod.fst]

@[simp] theorem keyedWrite_clk (s : State) (p : Fin 23) (off data : Nat) (refused : State → Bool) (act : State → State) (h : ∀ s, (act s).clk = s.clk) : (State.keyedWrite s p off data refused act).1.clk = s.clk := by
  simp [State.keyedWrite, h, apply_ite Prod.snd, apply_ite Prod.fst]

@[simp] theorem keyedWrite_vrg (s : State) (p : Fin 23) (off data : Nat) (refused : State → Bool) (act : State → State) (h : ∀ s, (act s).vrg = s.vrg) : (State.keyedWrite s p off data refused act).1.vrg = s.vrg := by
  simp [State.keyedWrite, h, apply_ite Prod.snd, apply_ite Prod.fst]

@[simp] theorem keyedWrite_pmb (s : State) (p : Fin 23) (off data : Nat) (refused : State → Bool) (act : State → State) (h : ∀ s, (act s).pmb = s.pmb) : (State.keyedWrite s p off data refused act).1.pmb = s.pmb := by
  simp [State.keyedWrite, h, apply_ite Prod.snd, apply_ite Prod.fst]

@[simp] theorem keyedWrite_frm (s : State) (p : Fin 23) (off data : Nat) (refused : State → Bool) (act : State → State) (h : ∀ s, (act s).frm = s.frm) : (State.keyedWrite s p off data refused act).1.frm = s.frm := by
  simp [State.keyedWrite, h, apply_ite Prod.snd, apply_ite Prod.fst]

@[simp] theorem keyedWrite_tre (s : State) (p : Fin 23) (off data : Nat) (refused : State → Bool) (act : State → State) (h : ∀ s, (act s).tre = s.tre) : (State.keyedWrite s p off data refused act).1.tre = s.tre := by
  simp [State.keyedWrite, h, apply_ite Prod.snd, apply_ite Prod.fst]

@[simp] theorem keyedWrite_mbs (s : State) (p : Fin 23) (off data : Nat) (refused : State → Bool) (act : State → State) (h : ∀ s, (act s).mbs = s.mbs) : (State.keyedWrite s p off data refused act).1.mbs = s.mbs := by
  simp [State.keyedWrite, h, apply_ite Prod.snd, apply_ite Prod.fst]

@[simp] theorem keyedWrite_mbn (s : State) (p : Fin 23) (off data : Nat) (refused : State → Bool) (act : State → State) (h : ∀ s, (act s).mbn = s.mbn) : (State.keyedWrite s p off data refused act).1.mbn = s.mbn := by
  simp [State.keyedWrite, h, apply_ite Prod.snd, apply_ite Prod.fst]

@[simp] theorem keyedWrite_rck (s : State) (p : Fin 23) (off data : Nat) (refused : State → Bool) (act : State → State) (h : ∀ s, (act s).rck = s.rck) : (State.keyedWrite s p off data refused act).1.rck = s.rck := by
  simp [State.keyedWrite, h, apply_ite Prod.snd, apply_ite Prod.fst]

@[simp] theorem keyedWrite_rst (s : State) (p : Fin 23) (off data : Nat) (refused : State → Bool) (act : State → State) (h : ∀ s, (act s).rst = s.rst) : (State.keyedWrite s p off data refused act).1.rst = s.rst := by
  simp [State.keyedWrite, h, apply_ite Prod.snd, apply_ite Prod.fst]

@[simp] theorem keyedWrite_rel (s : State) (p : Fin 23) (off data : Nat) (refused : State → Bool) (act : State → State) (h : ∀ s, (act s).rel = s.rel) : (State.keyedWrite s p off data refused act).1.rel = s.rel := by
  simp [State.keyedWrite, h, apply_ite Prod.snd, apply_ite Prod.fst]

@[simp] theorem keyedWrite_trc (s : State) (p : Fin 23) (off data : Nat) (refused : State → Bool) (act : State → State) (h : ∀ s, (act s).trc = s.trc) : (State.keyedWrite s p off data refused act).1.trc = s.trc := by
  simp [State.keyedWrite, h, apply_ite Prod.snd, apply_ite Prod.fst]

@[simp] theorem keyedWrite_stg (s : State) (p : Fin 23) (off data : Nat) (refused : State → Bool) (act : State → State) (h : ∀ s, (act s).stg = s.stg) : (State.keyedWrite s p off data refused act).1.stg = s.stg := by
  simp [State.keyedWrite, h, apply_ite Prod.snd, apply_ite Prod.fst]

@[simp] theorem keyedWrite_hst (s : State) (p : Fin 23) (off data : Nat) (refused : State → Bool) (act : State → State) (h : ∀ s, (act s).hst = s.hst) : (State.keyedWrite s p off data refused act).1.hst = s.hst := by
  simp [State.keyedWrite, h, apply_ite Prod.snd, apply_ite Prod.fst]

@[simp] theorem keyedWrite_pairLo (s : State) (p : Fin 23) (off data : Nat) (refused : State → Bool) (act : State → State) (h : ∀ s, (act s).pairLo = s.pairLo) : (State.keyedWrite s p off data refused act).1.pairLo = s.pairLo := by
  simp [State.keyedWrite, h, apply_ite Prod.snd, apply_ite Prod.fst]

@[simp] theorem keyedWrite_now (s : State) (p : Fin 23) (off data : Nat) (refused : State → Bool) (act : State → State) (h : ∀ s, (act s).now = s.now) : (State.keyedWrite s p off data refused act).1.now = s.now := by
  simp [State.keyedWrite, h, apply_ite Prod.snd, apply_ite Prod.fst]

@[simp] theorem keyedWrite_free (s : State) (p : Fin 23) (off data : Nat) (refused : State → Bool) (act : State → State) (h : ∀ s, (act s).free = s.free) : (State.keyedWrite s p off data refused act).1.free = s.free := by
  simp [State.keyedWrite, h, apply_ite Prod.snd, apply_ite Prod.fst]

@[simp] theorem keyedWrite_pending (s : State) (p : Fin 23) (off data : Nat) (refused : State → Bool) (act : State → State) (h : ∀ s, (act s).pending = s.pending) : (State.keyedWrite s p off data refused act).1.pending = s.pending := by
  simp [State.keyedWrite, h, apply_ite Prod.snd, apply_ite Prod.fst]

@[simp] theorem rowSnapshot (s : State) (data : Nat) : (State.rowSnapshot s data).cmn = s.cmn ∧
    (State.rowSnapshot s data).seq = s.seq ∧ (State.rowSnapshot s data).adm = s.adm ∧
    (State.rowSnapshot s data).beam = s.beam ∧ (State.rowSnapshot s data).ctl = s.ctl ∧
    (State.rowSnapshot s data).fcs = s.fcs ∧ (State.rowSnapshot s data).thm = s.thm ∧
    (State.rowSnapshot s data).sns = s.sns ∧ (State.rowSnapshot s data).dom = s.dom ∧
    (State.rowSnapshot s data).clk = s.clk ∧ (State.rowSnapshot s data).vrg = s.vrg ∧
    (State.rowSnapshot s data).pmb = s.pmb ∧ (State.rowSnapshot s data).frm = s.frm ∧
    (State.rowSnapshot s data).tre = s.tre ∧ (State.rowSnapshot s data).mbs = s.mbs ∧
    (State.rowSnapshot s data).mbn = s.mbn ∧ (State.rowSnapshot s data).rck = s.rck ∧
    (State.rowSnapshot s data).aut = s.aut ∧ (State.rowSnapshot s data).rst = s.rst ∧
    (State.rowSnapshot s data).rel = s.rel ∧ (State.rowSnapshot s data).evt = s.evt ∧
    (State.rowSnapshot s data).trc = s.trc ∧ (State.rowSnapshot s data).hdr = s.hdr ∧
    (State.rowSnapshot s data).stg = s.stg ∧ (State.rowSnapshot s data).hst = s.hst ∧
    (State.rowSnapshot s data).pairLo = s.pairLo ∧ (State.rowSnapshot s data).now = s.now ∧
    (State.rowSnapshot s data).free = s.free ∧ (State.rowSnapshot s data).pending = s.pending := by
  unfold State.rowSnapshot; simp

@[simp] theorem setWaddr (s : State) (data : Nat) : (State.setWaddr s data).cmn = s.cmn ∧
    (State.setWaddr s data).seq = s.seq ∧ (State.setWaddr s data).tly = s.tly ∧ (State.setWaddr s data).adm = s.adm ∧
    (State.setWaddr s data).beam = s.beam ∧ (State.setWaddr s data).ctl = s.ctl ∧ (State.setWaddr s data).thm = s.thm ∧
    (State.setWaddr s data).sns = s.sns ∧ (State.setWaddr s data).dom = s.dom ∧ (State.setWaddr s data).clk = s.clk ∧
    (State.setWaddr s data).vrg = s.vrg ∧ (State.setWaddr s data).pmb = s.pmb ∧ (State.setWaddr s data).frm = s.frm ∧
    (State.setWaddr s data).tre = s.tre ∧ (State.setWaddr s data).mbs = s.mbs ∧ (State.setWaddr s data).mbn = s.mbn ∧
    (State.setWaddr s data).rck = s.rck ∧ (State.setWaddr s data).aut = s.aut ∧ (State.setWaddr s data).rst = s.rst ∧
    (State.setWaddr s data).rel = s.rel ∧ (State.setWaddr s data).evt = s.evt ∧ (State.setWaddr s data).trc = s.trc ∧
    (State.setWaddr s data).hdr = s.hdr ∧ (State.setWaddr s data).stg = s.stg ∧ (State.setWaddr s data).hst = s.hst ∧
    (State.setWaddr s data).pairLo = s.pairLo ∧ (State.setWaddr s data).now = s.now ∧ (State.setWaddr s data).free = s.free ∧
    (State.setWaddr s data).pending = s.pending := by
  unfold State.setWaddr; simp

@[simp] theorem putWdata (s : State) (data : Nat) : (State.putWdata s data).1.cmn = s.cmn ∧
    (State.putWdata s data).1.tly = s.tly ∧ (State.putWdata s data).1.adm = s.adm ∧ (State.putWdata s data).1.beam = s.beam ∧
    (State.putWdata s data).1.ctl = s.ctl ∧ (State.putWdata s data).1.thm = s.thm ∧ (State.putWdata s data).1.sns = s.sns ∧
    (State.putWdata s data).1.dom = s.dom ∧ (State.putWdata s data).1.clk = s.clk ∧ (State.putWdata s data).1.vrg = s.vrg ∧
    (State.putWdata s data).1.pmb = s.pmb ∧ (State.putWdata s data).1.frm = s.frm ∧ (State.putWdata s data).1.tre = s.tre ∧
    (State.putWdata s data).1.mbs = s.mbs ∧ (State.putWdata s data).1.mbn = s.mbn ∧ (State.putWdata s data).1.rck = s.rck ∧
    (State.putWdata s data).1.aut = s.aut ∧ (State.putWdata s data).1.rst = s.rst ∧ (State.putWdata s data).1.rel = s.rel ∧
    (State.putWdata s data).1.evt = s.evt ∧ (State.putWdata s data).1.trc = s.trc ∧ (State.putWdata s data).1.hst = s.hst ∧
    (State.putWdata s data).1.pairLo = s.pairLo ∧ (State.putWdata s data).1.now = s.now ∧
    (State.putWdata s data).1.free = s.free ∧ (State.putWdata s data).1.pending = s.pending := by
  unfold State.putWdata; split <;> simp

@[simp] theorem writeSeq_pages (s : State) (off data : Nat) : (writeSeq s off data).1.cmn = s.cmn ∧
    (writeSeq s off data).1.tly = s.tly ∧ (writeSeq s off data).1.beam = s.beam ∧ (writeSeq s off data).1.ctl = s.ctl ∧
    (writeSeq s off data).1.fcs = s.fcs ∧ (writeSeq s off data).1.thm = s.thm ∧ (writeSeq s off data).1.sns = s.sns ∧
    (writeSeq s off data).1.dom = s.dom ∧ (writeSeq s off data).1.clk = s.clk ∧ (writeSeq s off data).1.vrg = s.vrg ∧
    (writeSeq s off data).1.pmb = s.pmb ∧ (writeSeq s off data).1.rst = s.rst ∧ (writeSeq s off data).1.rel = s.rel ∧
    (writeSeq s off data).1.trc = s.trc ∧ (writeSeq s off data).1.hst = s.hst ∧ (writeSeq s off data).1.pairLo = s.pairLo ∧
    (writeSeq s off data).1.now = s.now ∧ (writeSeq s off data).1.free = s.free ∧
    (writeSeq s off data).1.pending = s.pending := by
  unfold writeSeq; (repeat' split) <;> simp

@[simp] theorem writeTly_pages (s : State) (off data : Nat) : (writeTly s off data).1.cmn = s.cmn ∧
    (writeTly s off data).1.seq = s.seq ∧ (writeTly s off data).1.adm = s.adm ∧ (writeTly s off data).1.beam = s.beam ∧
    (writeTly s off data).1.ctl = s.ctl ∧ (writeTly s off data).1.fcs = s.fcs ∧ (writeTly s off data).1.thm = s.thm ∧
    (writeTly s off data).1.sns = s.sns ∧ (writeTly s off data).1.dom = s.dom ∧ (writeTly s off data).1.clk = s.clk ∧
    (writeTly s off data).1.vrg = s.vrg ∧ (writeTly s off data).1.pmb = s.pmb ∧ (writeTly s off data).1.frm = s.frm ∧
    (writeTly s off data).1.tre = s.tre ∧ (writeTly s off data).1.mbs = s.mbs ∧ (writeTly s off data).1.mbn = s.mbn ∧
    (writeTly s off data).1.rck = s.rck ∧ (writeTly s off data).1.aut = s.aut ∧ (writeTly s off data).1.rst = s.rst ∧
    (writeTly s off data).1.rel = s.rel ∧ (writeTly s off data).1.trc = s.trc ∧ (writeTly s off data).1.stg = s.stg ∧
    (writeTly s off data).1.hst = s.hst ∧ (writeTly s off data).1.pairLo = s.pairLo ∧ (writeTly s off data).1.now = s.now ∧
    (writeTly s off data).1.free = s.free ∧ (writeTly s off data).1.pending = s.pending := by
  unfold writeTly; (repeat' split) <;> simp

@[simp] theorem setHlim (s : State) (r v : Nat) : (State.setHlim s r v).cmn = s.cmn ∧
    (State.setHlim s r v).seq = s.seq ∧ (State.setHlim s r v).tly = s.tly ∧ (State.setHlim s r v).adm = s.adm ∧
    (State.setHlim s r v).fcs = s.fcs ∧ (State.setHlim s r v).thm = s.thm ∧ (State.setHlim s r v).sns = s.sns ∧
    (State.setHlim s r v).dom = s.dom ∧ (State.setHlim s r v).clk = s.clk ∧ (State.setHlim s r v).vrg = s.vrg ∧
    (State.setHlim s r v).pmb = s.pmb ∧ (State.setHlim s r v).frm = s.frm ∧ (State.setHlim s r v).tre = s.tre ∧
    (State.setHlim s r v).mbs = s.mbs ∧ (State.setHlim s r v).mbn = s.mbn ∧ (State.setHlim s r v).rck = s.rck ∧
    (State.setHlim s r v).aut = s.aut ∧ (State.setHlim s r v).rst = s.rst ∧ (State.setHlim s r v).trc = s.trc ∧
    (State.setHlim s r v).stg = s.stg ∧ (State.setHlim s r v).hst = s.hst ∧ (State.setHlim s r v).pairLo = s.pairLo ∧
    (State.setHlim s r v).now = s.now ∧ (State.setHlim s r v).free = s.free ∧ (State.setHlim s r v).pending = s.pending := by
  unfold State.setHlim; simp

@[simp] theorem writeBeam_pages (s : State) (off data : Nat) : (writeBeam s off data).1.cmn = s.cmn ∧
    (writeBeam s off data).1.seq = s.seq ∧ (writeBeam s off data).1.tly = s.tly ∧ (writeBeam s off data).1.adm = s.adm ∧
    (writeBeam s off data).1.fcs = s.fcs ∧ (writeBeam s off data).1.thm = s.thm ∧ (writeBeam s off data).1.sns = s.sns ∧
    (writeBeam s off data).1.dom = s.dom ∧ (writeBeam s off data).1.clk = s.clk ∧ (writeBeam s off data).1.vrg = s.vrg ∧
    (writeBeam s off data).1.pmb = s.pmb ∧ (writeBeam s off data).1.frm = s.frm ∧ (writeBeam s off data).1.tre = s.tre ∧
    (writeBeam s off data).1.mbs = s.mbs ∧ (writeBeam s off data).1.mbn = s.mbn ∧ (writeBeam s off data).1.rck = s.rck ∧
    (writeBeam s off data).1.rst = s.rst ∧ (writeBeam s off data).1.trc = s.trc ∧ (writeBeam s off data).1.stg = s.stg ∧
    (writeBeam s off data).1.hst = s.hst ∧ (writeBeam s off data).1.pairLo = s.pairLo ∧
    (writeBeam s off data).1.now = s.now ∧ (writeBeam s off data).1.free = s.free ∧
    (writeBeam s off data).1.pending = s.pending := by
  unfold writeBeam; (repeat' split) <;> simp

@[simp] theorem writeCtl_pages (s : State) (off data : Nat) : (writeCtl s off data).1.cmn = s.cmn ∧
    (writeCtl s off data).1.seq = s.seq ∧ (writeCtl s off data).1.tly = s.tly ∧ (writeCtl s off data).1.adm = s.adm ∧
    (writeCtl s off data).1.beam = s.beam ∧ (writeCtl s off data).1.fcs = s.fcs ∧ (writeCtl s off data).1.thm = s.thm ∧
    (writeCtl s off data).1.sns = s.sns ∧ (writeCtl s off data).1.dom = s.dom ∧ (writeCtl s off data).1.clk = s.clk ∧
    (writeCtl s off data).1.vrg = s.vrg ∧ (writeCtl s off data).1.pmb = s.pmb ∧ (writeCtl s off data).1.frm = s.frm ∧
    (writeCtl s off data).1.tre = s.tre ∧ (writeCtl s off data).1.mbs = s.mbs ∧ (writeCtl s off data).1.mbn = s.mbn ∧
    (writeCtl s off data).1.rck = s.rck ∧ (writeCtl s off data).1.aut = s.aut ∧ (writeCtl s off data).1.rst = s.rst ∧
    (writeCtl s off data).1.rel = s.rel ∧ (writeCtl s off data).1.trc = s.trc ∧ (writeCtl s off data).1.stg = s.stg ∧
    (writeCtl s off data).1.hst = s.hst ∧ (writeCtl s off data).1.pairLo = s.pairLo ∧ (writeCtl s off data).1.now = s.now ∧
    (writeCtl s off data).1.free = s.free ∧ (writeCtl s off data).1.pending = s.pending := by
  unfold writeCtl; split <;> simp

@[simp] theorem writeFcs_pages (s : State) (off data : Nat) : (writeFcs s off data).1.cmn = s.cmn ∧
    (writeFcs s off data).1.tly = s.tly ∧ (writeFcs s off data).1.adm = s.adm ∧ (writeFcs s off data).1.beam = s.beam ∧
    (writeFcs s off data).1.ctl = s.ctl ∧ (writeFcs s off data).1.thm = s.thm ∧ (writeFcs s off data).1.sns = s.sns ∧
    (writeFcs s off data).1.dom = s.dom ∧ (writeFcs s off data).1.clk = s.clk ∧ (writeFcs s off data).1.vrg = s.vrg ∧
    (writeFcs s off data).1.pmb = s.pmb ∧ (writeFcs s off data).1.frm = s.frm ∧ (writeFcs s off data).1.tre = s.tre ∧
    (writeFcs s off data).1.mbs = s.mbs ∧ (writeFcs s off data).1.mbn = s.mbn ∧ (writeFcs s off data).1.rck = s.rck ∧
    (writeFcs s off data).1.aut = s.aut ∧ (writeFcs s off data).1.rst = s.rst ∧ (writeFcs s off data).1.rel = s.rel ∧
    (writeFcs s off data).1.trc = s.trc ∧ (writeFcs s off data).1.hst = s.hst ∧ (writeFcs s off data).1.pairLo = s.pairLo ∧
    (writeFcs s off data).1.now = s.now ∧ (writeFcs s off data).1.free = s.free ∧
    (writeFcs s off data).1.pending = s.pending := by
  unfold writeFcs; split <;> simp

@[simp] theorem writeThm_pages (s : State) (off data : Nat) : (writeThm s off data).1.cmn = s.cmn ∧
    (writeThm s off data).1.seq = s.seq ∧ (writeThm s off data).1.tly = s.tly ∧ (writeThm s off data).1.adm = s.adm ∧
    (writeThm s off data).1.beam = s.beam ∧ (writeThm s off data).1.ctl = s.ctl ∧ (writeThm s off data).1.fcs = s.fcs ∧
    (writeThm s off data).1.sns = s.sns ∧ (writeThm s off data).1.dom = s.dom ∧ (writeThm s off data).1.clk = s.clk ∧
    (writeThm s off data).1.vrg = s.vrg ∧ (writeThm s off data).1.pmb = s.pmb ∧ (writeThm s off data).1.frm = s.frm ∧
    (writeThm s off data).1.tre = s.tre ∧ (writeThm s off data).1.mbs = s.mbs ∧ (writeThm s off data).1.mbn = s.mbn ∧
    (writeThm s off data).1.rck = s.rck ∧ (writeThm s off data).1.aut = s.aut ∧ (writeThm s off data).1.rst = s.rst ∧
    (writeThm s off data).1.rel = s.rel ∧ (writeThm s off data).1.trc = s.trc ∧ (writeThm s off data).1.stg = s.stg ∧
    (writeThm s off data).1.hst = s.hst ∧ (writeThm s off data).1.pairLo = s.pairLo ∧ (writeThm s off data).1.now = s.now ∧
    (writeThm s off data).1.free = s.free ∧ (writeThm s off data).1.pending = s.pending := by
  unfold writeThm; split <;> simp

@[simp] theorem writeSns_pages (s : State) (off data : Nat) : (writeSns s off data).1.cmn = s.cmn ∧
    (writeSns s off data).1.seq = s.seq ∧ (writeSns s off data).1.tly = s.tly ∧ (writeSns s off data).1.adm = s.adm ∧
    (writeSns s off data).1.beam = s.beam ∧ (writeSns s off data).1.ctl = s.ctl ∧ (writeSns s off data).1.fcs = s.fcs ∧
    (writeSns s off data).1.thm = s.thm ∧ (writeSns s off data).1.dom = s.dom ∧ (writeSns s off data).1.clk = s.clk ∧
    (writeSns s off data).1.vrg = s.vrg ∧ (writeSns s off data).1.pmb = s.pmb ∧ (writeSns s off data).1.frm = s.frm ∧
    (writeSns s off data).1.tre = s.tre ∧ (writeSns s off data).1.mbs = s.mbs ∧ (writeSns s off data).1.mbn = s.mbn ∧
    (writeSns s off data).1.rck = s.rck ∧ (writeSns s off data).1.aut = s.aut ∧ (writeSns s off data).1.rst = s.rst ∧
    (writeSns s off data).1.rel = s.rel ∧ (writeSns s off data).1.trc = s.trc ∧ (writeSns s off data).1.stg = s.stg ∧
    (writeSns s off data).1.hst = s.hst ∧ (writeSns s off data).1.pairLo = s.pairLo ∧ (writeSns s off data).1.now = s.now ∧
    (writeSns s off data).1.free = s.free ∧ (writeSns s off data).1.pending = s.pending := by
  unfold writeSns; split <;> simp

@[simp] theorem writeDom_pages (s : State) (off data : Nat) : (writeDom s off data).1.cmn = s.cmn ∧
    (writeDom s off data).1.seq = s.seq ∧ (writeDom s off data).1.beam = s.beam ∧ (writeDom s off data).1.ctl = s.ctl ∧
    (writeDom s off data).1.thm = s.thm ∧ (writeDom s off data).1.sns = s.sns ∧ (writeDom s off data).1.clk = s.clk ∧
    (writeDom s off data).1.pmb = s.pmb ∧ (writeDom s off data).1.tre = s.tre ∧ (writeDom s off data).1.rck = s.rck ∧
    (writeDom s off data).1.rst = s.rst ∧ (writeDom s off data).1.rel = s.rel ∧ (writeDom s off data).1.trc = s.trc ∧
    (writeDom s off data).1.stg = s.stg ∧ (writeDom s off data).1.hst = s.hst ∧ (writeDom s off data).1.now = s.now ∧
    (writeDom s off data).1.free = s.free ∧ (writeDom s off data).1.pending = s.pending := by
  unfold writeDom; split <;> simp

@[simp] theorem writeClk_pages (s : State) (off data : Nat) : (writeClk s off data).1.cmn = s.cmn ∧
    (writeClk s off data).1.tly = s.tly ∧ (writeClk s off data).1.adm = s.adm ∧ (writeClk s off data).1.beam = s.beam ∧
    (writeClk s off data).1.ctl = s.ctl ∧ (writeClk s off data).1.fcs = s.fcs ∧ (writeClk s off data).1.thm = s.thm ∧
    (writeClk s off data).1.sns = s.sns ∧ (writeClk s off data).1.dom = s.dom ∧ (writeClk s off data).1.vrg = s.vrg ∧
    (writeClk s off data).1.pmb = s.pmb ∧ (writeClk s off data).1.frm = s.frm ∧ (writeClk s off data).1.tre = s.tre ∧
    (writeClk s off data).1.rst = s.rst ∧ (writeClk s off data).1.rel = s.rel ∧ (writeClk s off data).1.trc = s.trc ∧
    (writeClk s off data).1.stg = s.stg ∧ (writeClk s off data).1.hst = s.hst ∧ (writeClk s off data).1.pairLo = s.pairLo ∧
    (writeClk s off data).1.now = s.now ∧ (writeClk s off data).1.free = s.free ∧
    (writeClk s off data).1.pending = s.pending := by
  unfold writeClk; (repeat' split) <;> simp

@[simp] theorem writePmb_pages (s : State) (off data : Nat) : (writePmb s off data).1.cmn = s.cmn ∧
    (writePmb s off data).1.seq = s.seq ∧ (writePmb s off data).1.tly = s.tly ∧ (writePmb s off data).1.adm = s.adm ∧
    (writePmb s off data).1.beam = s.beam ∧ (writePmb s off data).1.ctl = s.ctl ∧ (writePmb s off data).1.fcs = s.fcs ∧
    (writePmb s off data).1.thm = s.thm ∧ (writePmb s off data).1.sns = s.sns ∧ (writePmb s off data).1.dom = s.dom ∧
    (writePmb s off data).1.clk = s.clk ∧ (writePmb s off data).1.vrg = s.vrg ∧ (writePmb s off data).1.tre = s.tre ∧
    (writePmb s off data).1.mbs = s.mbs ∧ (writePmb s off data).1.mbn = s.mbn ∧ (writePmb s off data).1.rck = s.rck ∧
    (writePmb s off data).1.rst = s.rst ∧ (writePmb s off data).1.rel = s.rel ∧ (writePmb s off data).1.trc = s.trc ∧
    (writePmb s off data).1.stg = s.stg ∧ (writePmb s off data).1.hst = s.hst ∧ (writePmb s off data).1.pairLo = s.pairLo ∧
    (writePmb s off data).1.now = s.now ∧ (writePmb s off data).1.free = s.free ∧
    (writePmb s off data).1.pending = s.pending := by
  unfold writePmb; split <;> simp

@[simp] theorem blkCtrl (s : State) (c : Chan) (data : Nat) : (State.blkCtrl s c data).1.cmn = s.cmn ∧
    (State.blkCtrl s c data).1.seq = s.seq ∧ (State.blkCtrl s c data).1.tly = s.tly ∧
    (State.blkCtrl s c data).1.adm = s.adm ∧ (State.blkCtrl s c data).1.beam = s.beam ∧
    (State.blkCtrl s c data).1.ctl = s.ctl ∧ (State.blkCtrl s c data).1.fcs = s.fcs ∧
    (State.blkCtrl s c data).1.thm = s.thm ∧ (State.blkCtrl s c data).1.sns = s.sns ∧
    (State.blkCtrl s c data).1.dom = s.dom ∧ (State.blkCtrl s c data).1.clk = s.clk ∧
    (State.blkCtrl s c data).1.vrg = s.vrg ∧ (State.blkCtrl s c data).1.pmb = s.pmb ∧
    (State.blkCtrl s c data).1.frm = s.frm ∧ (State.blkCtrl s c data).1.tre = s.tre ∧
    (State.blkCtrl s c data).1.rck = s.rck ∧ (State.blkCtrl s c data).1.aut = s.aut ∧
    (State.blkCtrl s c data).1.rst = s.rst ∧ (State.blkCtrl s c data).1.rel = s.rel ∧
    (State.blkCtrl s c data).1.trc = s.trc ∧ (State.blkCtrl s c data).1.stg = s.stg ∧
    (State.blkCtrl s c data).1.hst = s.hst ∧ (State.blkCtrl s c data).1.pairLo = s.pairLo ∧
    (State.blkCtrl s c data).1.now = s.now ∧ (State.blkCtrl s c data).1.free = s.free ∧
    (State.blkCtrl s c data).1.pending = s.pending := by
  unfold State.blkCtrl; dsimp only; (repeat' split) <;> simp

@[simp] theorem writeMbx_pages (s : State) (c : Chan) (off data : Nat) : (writeMbx s c off data).1.cmn = s.cmn ∧
    (writeMbx s c off data).1.tly = s.tly ∧ (writeMbx s c off data).1.adm = s.adm ∧ (writeMbx s c off data).1.beam = s.beam ∧
    (writeMbx s c off data).1.ctl = s.ctl ∧ (writeMbx s c off data).1.fcs = s.fcs ∧ (writeMbx s c off data).1.thm = s.thm ∧
    (writeMbx s c off data).1.sns = s.sns ∧ (writeMbx s c off data).1.dom = s.dom ∧ (writeMbx s c off data).1.clk = s.clk ∧
    (writeMbx s c off data).1.vrg = s.vrg ∧ (writeMbx s c off data).1.pmb = s.pmb ∧ (writeMbx s c off data).1.frm = s.frm ∧
    (writeMbx s c off data).1.tre = s.tre ∧ (writeMbx s c off data).1.aut = s.aut ∧ (writeMbx s c off data).1.rst = s.rst ∧
    (writeMbx s c off data).1.rel = s.rel ∧ (writeMbx s c off data).1.trc = s.trc ∧ (writeMbx s c off data).1.stg = s.stg ∧
    (writeMbx s c off data).1.hst = s.hst ∧ (writeMbx s c off data).1.pairLo = s.pairLo ∧
    (writeMbx s c off data).1.now = s.now ∧ (writeMbx s c off data).1.free = s.free ∧
    (writeMbx s c off data).1.pending = s.pending := by
  unfold writeMbx; (repeat' split) <;> simp

@[simp] theorem writeAut_pages (s : State) (off data : Nat) : (writeAut s off data).1.cmn = s.cmn ∧
    (writeAut s off data).1.seq = s.seq ∧ (writeAut s off data).1.tly = s.tly ∧ (writeAut s off data).1.adm = s.adm ∧
    (writeAut s off data).1.beam = s.beam ∧ (writeAut s off data).1.ctl = s.ctl ∧ (writeAut s off data).1.fcs = s.fcs ∧
    (writeAut s off data).1.thm = s.thm ∧ (writeAut s off data).1.sns = s.sns ∧ (writeAut s off data).1.dom = s.dom ∧
    (writeAut s off data).1.clk = s.clk ∧ (writeAut s off data).1.vrg = s.vrg ∧ (writeAut s off data).1.pmb = s.pmb ∧
    (writeAut s off data).1.frm = s.frm ∧ (writeAut s off data).1.tre = s.tre ∧ (writeAut s off data).1.mbs = s.mbs ∧
    (writeAut s off data).1.mbn = s.mbn ∧ (writeAut s off data).1.rck = s.rck ∧ (writeAut s off data).1.rst = s.rst ∧
    (writeAut s off data).1.rel = s.rel ∧ (writeAut s off data).1.evt = s.evt ∧ (writeAut s off data).1.trc = s.trc ∧
    (writeAut s off data).1.hdr = s.hdr ∧ (writeAut s off data).1.stg = s.stg ∧ (writeAut s off data).1.hst = s.hst ∧
    (writeAut s off data).1.pairLo = s.pairLo ∧ (writeAut s off data).1.now = s.now ∧ (writeAut s off data).1.free = s.free ∧
    (writeAut s off data).1.pending = s.pending := by
  unfold writeAut; (repeat' split) <;> simp

@[simp] theorem writeRst_pages (s : State) (off data : Nat) : (writeRst s off data).1.cmn = s.cmn ∧
    (writeRst s off data).1.seq = s.seq ∧ (writeRst s off data).1.tly = s.tly ∧ (writeRst s off data).1.adm = s.adm ∧
    (writeRst s off data).1.beam = s.beam ∧ (writeRst s off data).1.ctl = s.ctl ∧ (writeRst s off data).1.fcs = s.fcs ∧
    (writeRst s off data).1.thm = s.thm ∧ (writeRst s off data).1.sns = s.sns ∧ (writeRst s off data).1.dom = s.dom ∧
    (writeRst s off data).1.clk = s.clk ∧ (writeRst s off data).1.vrg = s.vrg ∧ (writeRst s off data).1.pmb = s.pmb ∧
    (writeRst s off data).1.frm = s.frm ∧ (writeRst s off data).1.tre = s.tre ∧ (writeRst s off data).1.mbs = s.mbs ∧
    (writeRst s off data).1.mbn = s.mbn ∧ (writeRst s off data).1.rck = s.rck ∧ (writeRst s off data).1.aut = s.aut ∧
    (writeRst s off data).1.rel = s.rel ∧ (writeRst s off data).1.trc = s.trc ∧ (writeRst s off data).1.stg = s.stg ∧
    (writeRst s off data).1.hst = s.hst ∧ (writeRst s off data).1.pairLo = s.pairLo ∧ (writeRst s off data).1.now = s.now ∧
    (writeRst s off data).1.free = s.free ∧ (writeRst s off data).1.pending = s.pending := by
  unfold writeRst; split <;> simp

@[simp] theorem writeRel_pages (s : State) (off data : Nat) : (writeRel s off data).1.cmn = s.cmn ∧
    (writeRel s off data).1.seq = s.seq ∧ (writeRel s off data).1.tly = s.tly ∧ (writeRel s off data).1.adm = s.adm ∧
    (writeRel s off data).1.beam = s.beam ∧ (writeRel s off data).1.ctl = s.ctl ∧ (writeRel s off data).1.fcs = s.fcs ∧
    (writeRel s off data).1.thm = s.thm ∧ (writeRel s off data).1.sns = s.sns ∧ (writeRel s off data).1.dom = s.dom ∧
    (writeRel s off data).1.clk = s.clk ∧ (writeRel s off data).1.vrg = s.vrg ∧ (writeRel s off data).1.pmb = s.pmb ∧
    (writeRel s off data).1.frm = s.frm ∧ (writeRel s off data).1.tre = s.tre ∧ (writeRel s off data).1.mbs = s.mbs ∧
    (writeRel s off data).1.mbn = s.mbn ∧ (writeRel s off data).1.rck = s.rck ∧ (writeRel s off data).1.rst = s.rst ∧
    (writeRel s off data).1.trc = s.trc ∧ (writeRel s off data).1.stg = s.stg ∧ (writeRel s off data).1.hst = s.hst ∧
    (writeRel s off data).1.pairLo = s.pairLo ∧ (writeRel s off data).1.now = s.now ∧ (writeRel s off data).1.free = s.free ∧
    (writeRel s off data).1.pending = s.pending := by
  unfold writeRel; split <;> simp

@[simp] theorem writeEvt_pages (s : State) (off data : Nat) : (writeEvt s off data).1.cmn = s.cmn ∧
    (writeEvt s off data).1.seq = s.seq ∧ (writeEvt s off data).1.tly = s.tly ∧ (writeEvt s off data).1.adm = s.adm ∧
    (writeEvt s off data).1.beam = s.beam ∧ (writeEvt s off data).1.ctl = s.ctl ∧ (writeEvt s off data).1.fcs = s.fcs ∧
    (writeEvt s off data).1.thm = s.thm ∧ (writeEvt s off data).1.sns = s.sns ∧ (writeEvt s off data).1.dom = s.dom ∧
    (writeEvt s off data).1.clk = s.clk ∧ (writeEvt s off data).1.vrg = s.vrg ∧ (writeEvt s off data).1.pmb = s.pmb ∧
    (writeEvt s off data).1.frm = s.frm ∧ (writeEvt s off data).1.tre = s.tre ∧ (writeEvt s off data).1.mbs = s.mbs ∧
    (writeEvt s off data).1.mbn = s.mbn ∧ (writeEvt s off data).1.rck = s.rck ∧ (writeEvt s off data).1.rst = s.rst ∧
    (writeEvt s off data).1.rel = s.rel ∧ (writeEvt s off data).1.trc = s.trc ∧ (writeEvt s off data).1.stg = s.stg ∧
    (writeEvt s off data).1.hst = s.hst ∧ (writeEvt s off data).1.pairLo = s.pairLo ∧ (writeEvt s off data).1.now = s.now ∧
    (writeEvt s off data).1.free = s.free ∧ (writeEvt s off data).1.pending = s.pending := by
  unfold writeEvt; split <;> simp

@[simp] theorem writeTrc_pages (s : State) (off data : Nat) : (writeTrc s off data).1.cmn = s.cmn ∧
    (writeTrc s off data).1.seq = s.seq ∧ (writeTrc s off data).1.tly = s.tly ∧ (writeTrc s off data).1.adm = s.adm ∧
    (writeTrc s off data).1.beam = s.beam ∧ (writeTrc s off data).1.ctl = s.ctl ∧ (writeTrc s off data).1.fcs = s.fcs ∧
    (writeTrc s off data).1.thm = s.thm ∧ (writeTrc s off data).1.sns = s.sns ∧ (writeTrc s off data).1.dom = s.dom ∧
    (writeTrc s off data).1.clk = s.clk ∧ (writeTrc s off data).1.vrg = s.vrg ∧ (writeTrc s off data).1.pmb = s.pmb ∧
    (writeTrc s off data).1.frm = s.frm ∧ (writeTrc s off data).1.tre = s.tre ∧ (writeTrc s off data).1.mbs = s.mbs ∧
    (writeTrc s off data).1.mbn = s.mbn ∧ (writeTrc s off data).1.rck = s.rck ∧ (writeTrc s off data).1.aut = s.aut ∧
    (writeTrc s off data).1.rst = s.rst ∧ (writeTrc s off data).1.rel = s.rel ∧ (writeTrc s off data).1.stg = s.stg ∧
    (writeTrc s off data).1.hst = s.hst ∧ (writeTrc s off data).1.pairLo = s.pairLo ∧ (writeTrc s off data).1.now = s.now ∧
    (writeTrc s off data).1.free = s.free ∧ (writeTrc s off data).1.pending = s.pending := by
  unfold writeTrc; split <;> simp

@[simp] theorem writeHdr_pages (s : State) (p : Fin 23) (off data : Nat) : (writeHdr s p off data).1.cmn = s.cmn ∧
    (writeHdr s p off data).1.seq = s.seq ∧ (writeHdr s p off data).1.tly = s.tly ∧ (writeHdr s p off data).1.adm = s.adm ∧
    (writeHdr s p off data).1.beam = s.beam ∧ (writeHdr s p off data).1.ctl = s.ctl ∧ (writeHdr s p off data).1.thm = s.thm ∧
    (writeHdr s p off data).1.sns = s.sns ∧ (writeHdr s p off data).1.dom = s.dom ∧ (writeHdr s p off data).1.clk = s.clk ∧
    (writeHdr s p off data).1.vrg = s.vrg ∧ (writeHdr s p off data).1.pmb = s.pmb ∧ (writeHdr s p off data).1.frm = s.frm ∧
    (writeHdr s p off data).1.tre = s.tre ∧ (writeHdr s p off data).1.mbs = s.mbs ∧ (writeHdr s p off data).1.mbn = s.mbn ∧
    (writeHdr s p off data).1.rck = s.rck ∧ (writeHdr s p off data).1.aut = s.aut ∧ (writeHdr s p off data).1.rst = s.rst ∧
    (writeHdr s p off data).1.rel = s.rel ∧ (writeHdr s p off data).1.trc = s.trc ∧ (writeHdr s p off data).1.stg = s.stg ∧
    (writeHdr s p off data).1.hst = s.hst ∧ (writeHdr s p off data).1.pairLo = s.pairLo ∧
    (writeHdr s p off data).1.now = s.now ∧ (writeHdr s p off data).1.free = s.free ∧
    (writeHdr s p off data).1.pending = s.pending := by
  unfold writeHdr; split <;> simp

@[simp] theorem writeReg_pages (s : State) (p : Fin 23) (off data : Nat) : (writeReg s p off data).1.cmn = s.cmn ∧
    (writeReg s p off data).1.hst = s.hst ∧ (writeReg s p off data).1.now = s.now ∧ (writeReg s p off data).1.free = s.free ∧
    (writeReg s p off data).1.pending = s.pending := by
  unfold writeReg; (repeat' split) <;> simp

@[simp] theorem addrFault (s : State) (addr : Nat) (we sec : Bool) : (State.addrFault s addr we sec).seq = s.seq ∧ (State.addrFault s addr we sec).tly = s.tly ∧ (State.addrFault s addr we sec).adm = s.adm ∧ (State.addrFault s addr we sec).beam = s.beam ∧ (State.addrFault s addr we sec).ctl = s.ctl ∧ (State.addrFault s addr we sec).fcs = s.fcs ∧ (State.addrFault s addr we sec).thm = s.thm ∧ (State.addrFault s addr we sec).sns = s.sns ∧ (State.addrFault s addr we sec).dom = s.dom ∧ (State.addrFault s addr we sec).clk = s.clk ∧ (State.addrFault s addr we sec).vrg = s.vrg ∧ (State.addrFault s addr we sec).pmb = s.pmb ∧ (State.addrFault s addr we sec).frm = s.frm ∧ (State.addrFault s addr we sec).tre = s.tre ∧ (State.addrFault s addr we sec).mbs = s.mbs ∧ (State.addrFault s addr we sec).mbn = s.mbn ∧ (State.addrFault s addr we sec).rck = s.rck ∧ (State.addrFault s addr we sec).aut = s.aut ∧ (State.addrFault s addr we sec).rst = s.rst ∧ (State.addrFault s addr we sec).rel = s.rel ∧ (State.addrFault s addr we sec).trc = s.trc ∧ (State.addrFault s addr we sec).stg = s.stg ∧ (State.addrFault s addr we sec).pairLo = s.pairLo ∧ (State.addrFault s addr we sec).now = s.now ∧ (State.addrFault s addr we sec).free = s.free ∧ (State.addrFault s addr we sec).pending = s.pending := by
  unfold State.addrFault; simp

@[simp] theorem dataFault (s : State) (addr : Nat) : (State.dataFault s addr).seq = s.seq ∧
    (State.dataFault s addr).tly = s.tly ∧ (State.dataFault s addr).adm = s.adm ∧ (State.dataFault s addr).beam = s.beam ∧
    (State.dataFault s addr).ctl = s.ctl ∧ (State.dataFault s addr).fcs = s.fcs ∧ (State.dataFault s addr).thm = s.thm ∧
    (State.dataFault s addr).sns = s.sns ∧ (State.dataFault s addr).dom = s.dom ∧ (State.dataFault s addr).clk = s.clk ∧
    (State.dataFault s addr).vrg = s.vrg ∧ (State.dataFault s addr).pmb = s.pmb ∧ (State.dataFault s addr).frm = s.frm ∧
    (State.dataFault s addr).tre = s.tre ∧ (State.dataFault s addr).mbs = s.mbs ∧ (State.dataFault s addr).mbn = s.mbn ∧
    (State.dataFault s addr).rck = s.rck ∧ (State.dataFault s addr).aut = s.aut ∧ (State.dataFault s addr).rst = s.rst ∧
    (State.dataFault s addr).rel = s.rel ∧ (State.dataFault s addr).trc = s.trc ∧ (State.dataFault s addr).stg = s.stg ∧
    (State.dataFault s addr).pairLo = s.pairLo ∧ (State.dataFault s addr).now = s.now ∧
    (State.dataFault s addr).free = s.free ∧ (State.dataFault s addr).pending = s.pending := by
  unfold State.dataFault; split <;> simp

@[simp] theorem secRefused (s : State) (p : Fin 23) (addr : Nat) (we : Bool) : (State.secRefused s p addr we).cmn = s.cmn ∧ (State.secRefused s p addr we).seq = s.seq ∧ (State.secRefused s p addr we).tly = s.tly ∧ (State.secRefused s p addr we).adm = s.adm ∧ (State.secRefused s p addr we).beam = s.beam ∧ (State.secRefused s p addr we).ctl = s.ctl ∧ (State.secRefused s p addr we).fcs = s.fcs ∧ (State.secRefused s p addr we).thm = s.thm ∧ (State.secRefused s p addr we).sns = s.sns ∧ (State.secRefused s p addr we).dom = s.dom ∧ (State.secRefused s p addr we).clk = s.clk ∧ (State.secRefused s p addr we).vrg = s.vrg ∧ (State.secRefused s p addr we).pmb = s.pmb ∧ (State.secRefused s p addr we).frm = s.frm ∧ (State.secRefused s p addr we).tre = s.tre ∧ (State.secRefused s p addr we).mbs = s.mbs ∧ (State.secRefused s p addr we).mbn = s.mbn ∧ (State.secRefused s p addr we).rck = s.rck ∧ (State.secRefused s p addr we).aut = s.aut ∧ (State.secRefused s p addr we).rst = s.rst ∧ (State.secRefused s p addr we).rel = s.rel ∧ (State.secRefused s p addr we).trc = s.trc ∧ (State.secRefused s p addr we).stg = s.stg ∧ (State.secRefused s p addr we).pairLo = s.pairLo ∧ (State.secRefused s p addr we).now = s.now ∧ (State.secRefused s p addr we).free = s.free ∧ (State.secRefused s p addr we).pending = s.pending := by
  unfold State.secRefused; simp

@[simp] theorem dropPair (s : State) (addr : Nat) : (State.dropPair s addr).cmn = s.cmn ∧
    (State.dropPair s addr).seq = s.seq ∧ (State.dropPair s addr).tly = s.tly ∧ (State.dropPair s addr).adm = s.adm ∧
    (State.dropPair s addr).beam = s.beam ∧ (State.dropPair s addr).ctl = s.ctl ∧ (State.dropPair s addr).fcs = s.fcs ∧
    (State.dropPair s addr).thm = s.thm ∧ (State.dropPair s addr).sns = s.sns ∧ (State.dropPair s addr).dom = s.dom ∧
    (State.dropPair s addr).clk = s.clk ∧ (State.dropPair s addr).vrg = s.vrg ∧ (State.dropPair s addr).pmb = s.pmb ∧
    (State.dropPair s addr).frm = s.frm ∧ (State.dropPair s addr).tre = s.tre ∧ (State.dropPair s addr).mbs = s.mbs ∧
    (State.dropPair s addr).mbn = s.mbn ∧ (State.dropPair s addr).rck = s.rck ∧ (State.dropPair s addr).aut = s.aut ∧
    (State.dropPair s addr).rst = s.rst ∧ (State.dropPair s addr).rel = s.rel ∧ (State.dropPair s addr).evt = s.evt ∧
    (State.dropPair s addr).trc = s.trc ∧ (State.dropPair s addr).hdr = s.hdr ∧ (State.dropPair s addr).stg = s.stg ∧
    (State.dropPair s addr).hst = s.hst ∧ (State.dropPair s addr).now = s.now ∧ (State.dropPair s addr).free = s.free ∧
    (State.dropPair s addr).pending = s.pending := by
  unfold State.dropPair; split <;> simp

@[simp] theorem driverCold (s : State) (p : Fin 23) (off : Nat) : (State.driverCold s p off).cmn = s.cmn ∧
    (State.driverCold s p off).vrg = s.vrg ∧ (State.driverCold s p off).stg = s.stg ∧
    (State.driverCold s p off).hst = s.hst ∧ (State.driverCold s p off).pairLo = s.pairLo ∧
    (State.driverCold s p off).now = s.now ∧ (State.driverCold s p off).free = s.free ∧
    (State.driverCold s p off).pending = s.pending := by
  unfold State.driverCold; (repeat' split) <;> simp

@[simp] theorem regAgain (s : State) (p : Fin 23) (addr : Nat) : (State.regAgain s p addr).cmn = s.cmn ∧
    (State.regAgain s p addr).tly = s.tly ∧ (State.regAgain s p addr).adm = s.adm ∧ (State.regAgain s p addr).beam = s.beam ∧
    (State.regAgain s p addr).ctl = s.ctl ∧ (State.regAgain s p addr).fcs = s.fcs ∧ (State.regAgain s p addr).thm = s.thm ∧
    (State.regAgain s p addr).sns = s.sns ∧ (State.regAgain s p addr).dom = s.dom ∧ (State.regAgain s p addr).clk = s.clk ∧
    (State.regAgain s p addr).vrg = s.vrg ∧ (State.regAgain s p addr).pmb = s.pmb ∧ (State.regAgain s p addr).frm = s.frm ∧
    (State.regAgain s p addr).tre = s.tre ∧ (State.regAgain s p addr).aut = s.aut ∧ (State.regAgain s p addr).rst = s.rst ∧
    (State.regAgain s p addr).trc = s.trc ∧ (State.regAgain s p addr).stg = s.stg ∧ (State.regAgain s p addr).hst = s.hst ∧
    (State.regAgain s p addr).pairLo = s.pairLo ∧ (State.regAgain s p addr).now = s.now ∧
    (State.regAgain s p addr).free = s.free ∧ (State.regAgain s p addr).pending = s.pending := by
  unfold State.regAgain; simp

end Pages
end

