-- ==== Sys2Proof/Laws/KeepHdr.lean ====
section
/-! SUPPORT. The page headers (R94, R107): each operation leaves the masks, the parity record and the reset bits of every header
as they are (`hdrCore`); errors, busy marks and locks are what may change. -/

set_option linter.unusedSimpArgs false

namespace Sys2Proof.Machine

open Sys2Proof

/-- A change of a header that keeps its core keeps the cores of all. -/
theorem hdrMod_core (s : State) (p : Fin 23) (f : PageHdr → PageHdr) (h : ∀ x, (f x).core = x.core) : hdrCore (s.hdrMod p f).hdr = hdrCore s.hdr := by
  unfold hdrCore State.hdrMod
  apply Vector.ext
  intro i hi
  simp only [Vector.getElem_map, Fin.getElem_fin]
  rw [Vector.getElem_set]
  split
  · rename_i e; subst e; exact h _
  · rfl

/-- Headers with equal cores agree in every field of the core. -/
theorem core_at {v w : Vector PageHdr 23} (h : hdrCore v = hdrCore w) (q : Fin 23) :
    v[q].lrstAct = w[q].lrstAct ∧ v[q].lrstReq = w[q].lrstReq ∧ v[q].errMask = w[q].errMask ∧ v[q].evtEn = w[q].evtEn ∧
    v[q].lastWord = w[q].lastWord ∧ v[q].faultCnt = w[q].faultCnt := by
  have e : v[q].core = w[q].core := by
    have := congrArg (fun (x : Vector PageHdr 23) => x[q]) h
    simpa [hdrCore] using this
  exact ⟨(congrArg PageHdr.lrstAct e : _), (congrArg PageHdr.lrstReq e : _), (congrArg PageHdr.errMask e : _),
    (congrArg PageHdr.evtEn e : _), (congrArg PageHdr.lastWord e : _), (congrArg PageHdr.faultCnt e : _)⟩

@[simp] theorem foldl_hdrCore {α : Type} (f : State → α → State) (h : ∀ s a, hdrCore (f s a).hdr = hdrCore s.hdr) (l : List α) (s : State) : hdrCore (l.foldl f s).hdr = hdrCore s.hdr :=
  foldl_proj (fun (x : State) => hdrCore x.hdr) f h l s

@[simp] theorem State.setErr_hdrCore (s : State) (p : Fin 23) (b : Nat) : hdrCore (State.setErr s p b).hdr = hdrCore s.hdr := by
  unfold State.setErr; exact hdrMod_core s p _ (fun h => by unfold PageHdr.withErr; split <;> rfl)

@[simp] theorem State.setBusy_hdrCore (s : State) (p : Fin 23) (b : Bool) : hdrCore (State.setBusy s p b).hdr = hdrCore s.hdr := by
  unfold State.setBusy; exact hdrMod_core s p _ (fun h => rfl)

@[simp] theorem State.enqueue_hdrCore (s : State) (code : Nat) (suppr : Bool) (d : List Nat) : hdrCore (State.enqueue s code suppr d).hdr = hdrCore s.hdr := by
  unfold State.enqueue; simp [apply_ite hdrCore, apply_ite Prod.fst, apply_ite Prod.snd]

@[simp] theorem State.event_hdrCore (s : State) (code : Nat) (d : List Nat) : hdrCore (State.event s code d).hdr = hdrCore s.hdr := by
  unfold State.event; simp [apply_ite hdrCore, apply_ite Prod.fst, apply_ite Prod.snd]

@[simp] theorem State.fault_hdrCore (s : State) (p : Fin 23) (b code : Nat) (d : List Nat) : hdrCore (State.fault s p b code d).hdr = hdrCore s.hdr := by
  unfold State.fault; simp [apply_ite hdrCore, apply_ite Prod.fst, apply_ite Prod.snd]

@[simp] theorem State.wordRetired_hdrCore (s : State) (path index : Nat) : hdrCore (State.wordRetired s path index).hdr = hdrCore s.hdr := by
  unfold State.wordRetired; simp [apply_ite hdrCore, apply_ite Prod.fst, apply_ite Prod.snd]

@[simp] theorem State.sendOut_hdrCore (s : State) (c : Chan) (kind sub data : Nat) : hdrCore (State.sendOut s c kind sub data).hdr = hdrCore s.hdr := by
  unfold State.sendOut; simp [apply_ite hdrCore, apply_ite Prod.fst, apply_ite Prod.snd]

@[simp] theorem State.notice_hdrCore (s : State) (kind sub data : Nat) : hdrCore (State.notice s kind sub data).hdr = hdrCore s.hdr := by
  unfold State.notice; simp [apply_ite hdrCore, apply_ite Prod.fst, apply_ite Prod.snd]

@[simp] theorem State.trcDropped_hdrCore (s : State) (k typ : Nat) : hdrCore (State.trcDropped s k typ).hdr = hdrCore s.hdr := by
  unfold State.trcDropped; split <;> simp [apply_ite hdrCore, apply_ite Prod.fst, apply_ite Prod.snd]

@[simp] theorem State.trcEvent_hdrCore (s : State) (rec_ : Nat) : hdrCore (State.trcEvent s rec_).hdr = hdrCore s.hdr := by
  unfold State.trcEvent; simp [apply_ite hdrCore, apply_ite Prod.fst, apply_ite Prod.snd]

@[simp] theorem State.freeze_hdrCore (s : State) (cause : Nat) : hdrCore (State.freeze s cause).hdr = hdrCore s.hdr := by
  unfold State.freeze; simp [apply_ite hdrCore, apply_ite Prod.fst, apply_ite Prod.snd]

@[simp] theorem State.freezeIfFull_hdrCore (s : State) : hdrCore (State.freezeIfFull s).hdr = hdrCore s.hdr := by
  unfold State.freezeIfFull; simp [apply_ite hdrCore, apply_ite Prod.fst, apply_ite Prod.snd]

@[simp] theorem State.flushEnd_hdrCore (s : State) : hdrCore (State.flushEnd s).hdr = hdrCore s.hdr := by
  unfold State.flushEnd; simp [apply_ite hdrCore, apply_ite Prod.fst, apply_ite Prod.snd]

@[simp] theorem State.flush_hdrCore (s : State) : hdrCore (State.flush s).hdr = hdrCore s.hdr := by
  unfold State.flush; simp [apply_ite hdrCore, apply_ite Prod.fst, apply_ite Prod.snd]

@[simp] theorem State.overflowRecord_hdrCore (s : State) : hdrCore (State.overflowRecord s).hdr = hdrCore s.hdr := by
  unfold State.overflowRecord; simp [apply_ite hdrCore, apply_ite Prod.fst, apply_ite Prod.snd]

@[simp] theorem State.recordDone_hdrCore (s : State) (e : EvtEntry) (k : Nat) : hdrCore (State.recordDone s e k).hdr = hdrCore s.hdr := by
  unfold State.recordDone; simp [apply_ite hdrCore, apply_ite Prod.fst, apply_ite Prod.snd]

@[simp] theorem State.writeRecord_hdrCore (s : State) (e : EvtEntry) : hdrCore (State.writeRecord s e).hdr = hdrCore s.hdr := by
  unfold State.writeRecord; simp [apply_ite hdrCore, apply_ite Prod.fst, apply_ite Prod.snd]

@[simp] theorem State.summary_hdrCore (s : State) (ck : Nat × Nat) : hdrCore (State.summary s ck).hdr = hdrCore s.hdr := by
  unfold State.summary; simp [apply_ite hdrCore, apply_ite Prod.fst, apply_ite Prod.snd]

@[simp] theorem State.writeEvtCfg_hdrCore (s : State) (w : Nat) : hdrCore (State.writeEvtCfg s w).hdr = hdrCore s.hdr := by
  unfold State.writeEvtCfg; simp [apply_ite hdrCore, apply_ite Prod.fst, apply_ite Prod.snd]

@[simp] theorem State.eraseStart_hdrCore (s : State) : hdrCore (State.eraseStart s).hdr = hdrCore s.hdr := by
  unfold State.eraseStart; simp [apply_ite hdrCore, apply_ite Prod.fst, apply_ite Prod.snd]

@[simp] theorem State.trcPop_hdrCore (s : State) : hdrCore (State.trcPop s).hdr = hdrCore s.hdr := by
  unfold State.trcPop; split <;> simp [apply_ite hdrCore, apply_ite Prod.fst, apply_ite Prod.snd]

@[simp] theorem State.settle_hdrCore (s : State) (cause : Nat) : hdrCore (State.settle s cause).hdr = hdrCore s.hdr := by
  unfold State.settle; simp [apply_ite hdrCore, apply_ite Prod.fst, apply_ite Prod.snd]

@[simp] theorem State.boxRefuse_hdrCore (s : State) (c : Chan) : hdrCore (State.boxRefuse s c).hdr = hdrCore s.hdr := by
  unfold State.boxRefuse; simp [apply_ite hdrCore, apply_ite Prod.fst, apply_ite Prod.snd]

@[simp] theorem State.rxDomLost_hdrCore (s : State) (c : Chan) (d : Nat) : hdrCore (State.rxDomLost s c d).hdr = hdrCore s.hdr := by
  unfold State.rxDomLost; simp [apply_ite hdrCore, apply_ite Prod.fst, apply_ite Prod.snd]

@[simp] theorem State.rxOff_hdrCore (s : State) (d : Nat) : hdrCore (State.rxOff s d).hdr = hdrCore s.hdr := by
  unfold State.rxOff; simp [apply_ite hdrCore, apply_ite Prod.fst, apply_ite Prod.snd]

@[simp] theorem State.mbxLocalReset_hdrCore (s : State) (c : Chan) : hdrCore (State.mbxLocalReset s c).hdr = hdrCore s.hdr := by
  unfold State.mbxLocalReset; simp [apply_ite hdrCore, apply_ite Prod.fst, apply_ite Prod.snd]

@[simp] theorem State.blkStart_hdrCore (s : State) (c : Chan) (op : Nat) : hdrCore (State.blkStart s c op).hdr = hdrCore s.hdr := by
  unfold State.blkStart; simp [apply_ite hdrCore, apply_ite Prod.fst, apply_ite Prod.snd]

@[simp] theorem State.blkEnd_hdrCore (s : State) (c : Chan) (err : Nat) : hdrCore (State.blkEnd s c err).hdr = hdrCore s.hdr := by
  unfold State.blkEnd; simp [apply_ite hdrCore, apply_ite Prod.fst, apply_ite Prod.snd]

@[simp] theorem State.unlockPages_hdrCore (s : State) : hdrCore (State.unlockPages s).hdr = hdrCore s.hdr := by
  unfold State.unlockPages hdrCore; simp [Function.comp_def, PageHdr.core]

@[simp] theorem State.enterSafe_hdrCore (s : State) : hdrCore (State.enterSafe s).hdr = hdrCore s.hdr := by
  unfold State.enterSafe; simp [apply_ite hdrCore, apply_ite Prod.fst, apply_ite Prod.snd]

@[simp] theorem State.abandonLoad_hdrCore (s : State) (st : Nat) : hdrCore (State.abandonLoad s st).hdr = hdrCore s.hdr := by
  unfold State.abandonLoad; simp [apply_ite hdrCore, apply_ite Prod.fst, apply_ite Prod.snd]

@[simp] theorem State.enterOrphan_hdrCore (s : State) (cause : Nat) : hdrCore (State.enterOrphan s cause).hdr = hdrCore s.hdr := by
  unfold State.enterOrphan; simp [apply_ite hdrCore, apply_ite Prod.fst, apply_ite Prod.snd]

@[simp] theorem State.heartbeatLost_hdrCore (s : State) (cause : Nat) : hdrCore (State.heartbeatLost s cause).hdr = hdrCore s.hdr := by
  unfold State.heartbeatLost; simp [apply_ite hdrCore, apply_ite Prod.fst, apply_ite Prod.snd]

@[simp] theorem State.leaveOrphan_hdrCore (s : State) : hdrCore (State.leaveOrphan s).hdr = hdrCore s.hdr := by
  unfold State.leaveOrphan; simp [apply_ite hdrCore, apply_ite Prod.fst, apply_ite Prod.snd]

@[simp] theorem State.beat_hdrCore (s : State) (b : Nat) : hdrCore (State.beat s b).hdr = hdrCore s.hdr := by
  unfold State.beat; simp [apply_ite hdrCore, apply_ite Prod.fst, apply_ite Prod.snd]

@[simp] theorem State.orphanStep_hdrCore (s : State) : hdrCore (State.orphanStep s).hdr = hdrCore s.hdr := by
  unfold State.orphanStep; simp [apply_ite hdrCore, apply_ite Prod.fst, apply_ite Prod.snd]

@[simp] theorem State.checkFailed_hdrCore (s : State) (p : Fin 23) (off : Nat) : hdrCore (State.checkFailed s p off).hdr = hdrCore s.hdr := by
  unfold State.checkFailed; simp [apply_ite hdrCore, apply_ite Prod.fst, apply_ite Prod.snd]

@[simp] theorem State.keyedCheck_hdrCore (s : State) (p : Fin 23) (off data : Nat) : hdrCore (State.keyedCheck s p off data).2.hdr = hdrCore s.hdr := by
  unfold State.keyedCheck; split <;> simp [apply_ite hdrCore, apply_ite Prod.fst, apply_ite Prod.snd]

@[simp] theorem State.anchor_hdrCore (s : State) (restored : Bool) : hdrCore (State.anchor s restored).hdr = hdrCore s.hdr := by
  unfold State.anchor; simp [apply_ite hdrCore, apply_ite Prod.fst, apply_ite Prod.snd]

@[simp] theorem State.intrStep_hdrCore (s : State) (c : Nat) : hdrCore (State.intrStep s c).hdr = hdrCore s.hdr := by
  unfold State.intrStep; split <;> simp [apply_ite hdrCore, apply_ite Prod.fst, apply_ite Prod.snd]

@[simp] theorem State.beamSettle_hdrCore (s : State) : hdrCore (State.beamSettle s).hdr = hdrCore s.hdr := by
  unfold State.beamSettle; simp [apply_ite hdrCore, apply_ite Prod.fst, apply_ite Prod.snd]

@[simp] theorem State.respBegin_hdrCore (s : State) (r k rc : Nat) : hdrCore (State.respBegin s r k rc).hdr = hdrCore s.hdr := by
  unfold State.respBegin; simp [apply_ite hdrCore, apply_ite Prod.fst, apply_ite Prod.snd]

@[simp] theorem State.respEnd_hdrCore (s : State) (r k : Nat) : hdrCore (State.respEnd s r k).hdr = hdrCore s.hdr := by
  unfold State.respEnd; simp [apply_ite hdrCore, apply_ite Prod.fst, apply_ite Prod.snd]

@[simp] theorem State.respRise_hdrCore (s : State) (r k n : Nat) : hdrCore (State.respRise s r k n).hdr = hdrCore s.hdr := by
  unfold State.respRise; simp [apply_ite hdrCore, apply_ite Prod.fst, apply_ite Prod.snd]

@[simp] theorem State.rowFault_hdrCore (s : State) (i : Nat) : hdrCore (State.rowFault s i).hdr = hdrCore s.hdr := by
  unfold State.rowFault; simp [apply_ite hdrCore, apply_ite Prod.fst, apply_ite Prod.snd]

@[simp] theorem State.cntFault_hdrCore (s : State) (r : Nat) : hdrCore (State.cntFault s r).hdr = hdrCore s.hdr := by
  unfold State.cntFault; simp [apply_ite hdrCore, apply_ite Prod.fst, apply_ite Prod.snd]

@[simp] theorem State.decideParity_hdrCore (s : State) (w : Nat) : hdrCore (State.decideParity s w).hdr = hdrCore s.hdr := by
  unfold State.decideParity; simp [apply_ite hdrCore, apply_ite Prod.fst, apply_ite Prod.snd]

@[simp] theorem State.decideWord_hdrCore (s : State) (x : InWord) : hdrCore (State.decideWord s x).hdr = hdrCore s.hdr := by
  unfold State.decideWord; dsimp only; (repeat' split) <;> simp [apply_ite hdrCore, apply_ite Prod.fst, apply_ite Prod.snd]

@[simp] theorem State.decideAll_hdrCore (f : Nat) (s : State) : hdrCore (State.decideAll f s).hdr = hdrCore s.hdr := by
  induction f generalizing s with
  | zero => simp [State.decideAll]
  | succ k ih => unfold State.decideAll; dsimp only; (repeat' split) <;> simp [ih, apply_ite hdrCore, apply_ite Prod.fst, apply_ite Prod.snd]

@[simp] theorem State.admIn_hdrCore (s : State) (x : InWord) : hdrCore (State.admIn s x).hdr = hdrCore s.hdr := by
  unfold State.admIn; simp [apply_ite hdrCore, apply_ite Prod.fst, apply_ite Prod.snd]

@[simp] theorem State.unannEnd_hdrCore (s : State) (r : Nat) : hdrCore (State.unannEnd s r).hdr = hdrCore s.hdr := by
  unfold State.unannEnd; simp [apply_ite hdrCore, apply_ite Prod.fst, apply_ite Prod.snd]

@[simp] theorem State.police_hdrCore (s : State) (r iMeas : Nat) : hdrCore (State.police s r iMeas).hdr = hdrCore s.hdr := by
  unfold State.police; simp [apply_ite hdrCore, apply_ite Prod.fst, apply_ite Prod.snd]

@[simp] theorem State.harvestCheck_hdrCore (s : State) (r : Nat) : hdrCore (State.harvestCheck s r).hdr = hdrCore s.hdr := by
  unfold State.harvestCheck; simp [apply_ite hdrCore, apply_ite Prod.fst, apply_ite Prod.snd]

@[simp] theorem State.tlyBoundary_hdrCore (s : State) (num : Nat) : hdrCore (State.tlyBoundary s num).hdr = hdrCore s.hdr := by
  unfold State.tlyBoundary; simp [apply_ite hdrCore, apply_ite Prod.fst, apply_ite Prod.snd]

@[simp] theorem State.takeBase_hdrCore (s : State) (r : Nat) : hdrCore (State.takeBase s r).hdr = hdrCore s.hdr := by
  unfold State.takeBase; dsimp only; (repeat' split) <;> simp [apply_ite hdrCore, apply_ite Prod.fst, apply_ite Prod.snd]

@[simp] theorem State.audit_hdrCore (s : State) : hdrCore (State.audit s).hdr = hdrCore s.hdr := by
  unfold State.audit; simp [apply_ite hdrCore, apply_ite Prod.fst, apply_ite Prod.snd]

@[simp] theorem State.testRow_hdrCore (s : State) (bad : List Nat) (i : Nat) : hdrCore (State.testRow s bad i).hdr = hdrCore s.hdr := by
  unfold State.testRow; simp [apply_ite hdrCore, apply_ite Prod.fst, apply_ite Prod.snd]

@[simp] theorem State.drainRows_hdrCore (s : State) (bad : List Nat) : hdrCore (State.drainRows s bad).hdr = hdrCore s.hdr := by
  unfold State.drainRows; simp [apply_ite hdrCore, apply_ite Prod.fst, apply_ite Prod.snd]

@[simp] theorem State.drainEnd_hdrCore (s : State) (bad : List Nat) : hdrCore (State.drainEnd s bad).hdr = hdrCore s.hdr := by
  unfold State.drainEnd; simp [apply_ite hdrCore, apply_ite Prod.fst, apply_ite Prod.snd]

@[simp] theorem State.trcRails_hdrCore (s : State) : hdrCore (State.trcRails s).hdr = hdrCore s.hdr := by
  unfold State.trcRails; simp [apply_ite hdrCore, apply_ite Prod.fst, apply_ite Prod.snd]

@[simp] theorem State.trcThermal_hdrCore (s : State) : hdrCore (State.trcThermal s).hdr = hdrCore s.hdr := by
  unfold State.trcThermal; simp [apply_ite hdrCore, apply_ite Prod.fst, apply_ite Prod.snd]

@[simp] theorem State.wakeFailed_hdrCore (s : State) (d step : Nat) : hdrCore (State.wakeFailed s d step).hdr = hdrCore s.hdr := by
  unfold State.wakeFailed; simp [apply_ite hdrCore, apply_ite Prod.fst, apply_ite Prod.snd]

@[simp] theorem State.pgLost_hdrCore (s : State) (d : Nat) : hdrCore (State.pgLost s d).hdr = hdrCore s.hdr := by
  unfold State.pgLost; simp [apply_ite hdrCore, apply_ite Prod.fst, apply_ite Prod.snd]

@[simp] theorem State.forceOff_hdrCore (s : State) (d : Nat) : hdrCore (State.forceOff s d).hdr = hdrCore s.hdr := by
  unfold State.forceOff; simp [apply_ite hdrCore, apply_ite Prod.fst, apply_ite Prod.snd]

@[simp] theorem State.forceOffAll_hdrCore (s : State) : hdrCore (State.forceOffAll s).hdr = hdrCore s.hdr := by
  unfold State.forceOffAll; simp [apply_ite hdrCore, apply_ite Prod.fst, apply_ite Prod.snd]

@[simp] theorem State.orderlyOne_hdrCore (s : State) (d : Nat) : hdrCore (State.orderlyOne s d).hdr = hdrCore s.hdr := by
  unfold State.orderlyOne; split <;> simp [apply_ite hdrCore, apply_ite Prod.fst, apply_ite Prod.snd]

@[simp] theorem State.orderlyGo_hdrCore (f : Nat) (s : State) : hdrCore (State.orderlyGo f s).hdr = hdrCore s.hdr := by
  induction f generalizing s with
  | zero => simp [State.orderlyGo]
  | succ k ih => unfold State.orderlyGo; dsimp only; (repeat' split) <;> simp [ih, apply_ite hdrCore, apply_ite Prod.fst, apply_ite Prod.snd]

@[simp] theorem State.orderlyStart_hdrCore (s : State) : hdrCore (State.orderlyStart s).hdr = hdrCore s.hdr := by
  unfold State.orderlyStart; simp [apply_ite hdrCore, apply_ite Prod.fst, apply_ite Prod.snd]

@[simp] theorem State.domForceOff_hdrCore (s : State) (d : Nat) : hdrCore (State.domForceOff s d).hdr = hdrCore s.hdr := by
  unfold State.domForceOff; simp [apply_ite hdrCore, apply_ite Prod.fst, apply_ite Prod.snd]

@[simp] theorem State.domForceOn_hdrCore (s : State) (d : Nat) : hdrCore (State.domForceOn s d).hdr = hdrCore s.hdr := by
  unfold State.domForceOn; simp [apply_ite hdrCore, apply_ite Prod.fst, apply_ite Prod.snd]

@[simp] theorem State.domsAtWarmExit_hdrCore (s : State) : hdrCore (State.domsAtWarmExit s).hdr = hdrCore s.hdr := by
  unfold State.domsAtWarmExit; exact foldl_proj (fun (x : State) => hdrCore x.hdr) _ (by intro s a; dsimp only; (repeat' split) <;> simp [apply_ite hdrCore, apply_ite Prod.fst, apply_ite Prod.snd]) _ _

@[simp] theorem State.srcApply_hdrCore (s : State) : hdrCore (State.srcApply s).hdr = hdrCore s.hdr := by
  unfold State.srcApply; simp [apply_ite hdrCore, apply_ite Prod.fst, apply_ite Prod.snd]

@[simp] theorem State.forceSrc_hdrCore (s : State) (sel : Nat) : hdrCore (State.forceSrc s sel).hdr = hdrCore s.hdr := by
  unfold State.forceSrc; simp [apply_ite hdrCore, apply_ite Prod.fst, apply_ite Prod.snd]

@[simp] theorem State.trip_hdrCore (s : State) (cause src value : Nat) : hdrCore (State.trip s cause src value).hdr = hdrCore s.hdr := by
  unfold State.trip; simp [apply_ite hdrCore, apply_ite Prod.fst, apply_ite Prod.snd]

@[simp] theorem State.lowering_hdrCore (s : State) (r k trig : Nat) (beyond clean : Bool) : hdrCore (State.lowering s r k trig beyond clean).hdr = hdrCore s.hdr := by
  unfold State.lowering; simp [apply_ite hdrCore, apply_ite Prod.fst, apply_ite Prod.snd]

@[simp] theorem State.overVoltage_hdrCore (s : State) (r vUv : Nat) : hdrCore (State.overVoltage s r vUv).hdr = hdrCore s.hdr := by
  unfold State.overVoltage; simp [apply_ite hdrCore, apply_ite Prod.fst, apply_ite Prod.snd]

@[simp] theorem State.otherReleases_hdrCore (s : State) (r : Nat) : hdrCore (State.otherReleases s r).hdr = hdrCore s.hdr := by
  unfold State.otherReleases; simp [apply_ite hdrCore, apply_ite Prod.fst, apply_ite Prod.snd]

@[simp] theorem State.ovTrip_hdrCore (s : State) (r vUv : Nat) : hdrCore (State.ovTrip s r vUv).hdr = hdrCore s.hdr := by
  unfold State.ovTrip; simp [apply_ite hdrCore, apply_ite Prod.fst, apply_ite Prod.snd]

@[simp] theorem State.failDet_hdrCore (s : State) (d reason : Nat) : hdrCore (State.failDet s d reason).hdr = hdrCore s.hdr := by
  unfold State.failDet; simp [apply_ite hdrCore, apply_ite Prod.fst, apply_ite Prod.snd]

@[simp] theorem State.stuckCheck_hdrCore (s : State) (r vUv : Nat) : hdrCore (State.stuckCheck s r vUv).hdr = hdrCore s.hdr := by
  unfold State.stuckCheck; simp [apply_ite hdrCore, apply_ite Prod.fst, apply_ite Prod.snd]

@[simp] theorem State.railSample_hdrCore (s : State) (r : Nat) : hdrCore (State.railSample s r).hdr = hdrCore s.hdr := by
  unfold State.railSample; simp [apply_ite hdrCore, apply_ite Prod.fst, apply_ite Prod.snd]

@[simp] theorem State.sampleLost_hdrCore (s : State) (r : Nat) : hdrCore (State.sampleLost s r).hdr = hdrCore s.hdr := by
  unfold State.sampleLost; simp [apply_ite hdrCore, apply_ite Prod.fst, apply_ite Prod.snd]

@[simp] theorem State.dieSample_hdrCore (s : State) : hdrCore (State.dieSample s).hdr = hdrCore s.hdr := by
  unfold State.dieSample; simp [apply_ite hdrCore, apply_ite Prod.fst, apply_ite Prod.snd]

@[simp] theorem State.unrespMark_hdrCore (s : State) (r op : Nat) : hdrCore (State.unrespMark s r op).hdr = hdrCore s.hdr := by
  unfold State.unrespMark; simp [apply_ite hdrCore, apply_ite Prod.fst, apply_ite Prod.snd]

@[simp] theorem State.phasesChanged_hdrCore (s : State) (r old : Nat) (p : Option Nat) : hdrCore (State.phasesChanged s r old p).hdr = hdrCore s.hdr := by
  unfold State.phasesChanged; dsimp only; (repeat' split) <;> simp [apply_ite hdrCore, apply_ite Prod.fst, apply_ite Prod.snd]

@[simp] theorem State.phaseShown_hdrCore (s : State) (r : Nat) : hdrCore (State.phaseShown s r).hdr = hdrCore s.hdr := by
  unfold State.phaseShown; simp [apply_ite hdrCore, apply_ite Prod.fst, apply_ite Prod.snd]

@[simp] theorem State.phaseFault_hdrCore (s : State) (r p : Nat) : hdrCore (State.phaseFault s r p).hdr = hdrCore s.hdr := by
  unfold State.phaseFault; simp [apply_ite hdrCore, apply_ite Prod.fst, apply_ite Prod.snd]

@[simp] theorem State.statusWord_hdrCore (s : State) (r health : Nat) : hdrCore (State.statusWord s r health).hdr = hdrCore s.hdr := by
  unfold State.statusWord; simp [apply_ite hdrCore, apply_ite Prod.fst, apply_ite Prod.snd]

@[simp] theorem State.goodWord_hdrCore (s : State) (r d : Nat) : hdrCore (State.goodWord s r d).hdr = hdrCore s.hdr := by
  unfold State.goodWord; simp [apply_ite hdrCore, apply_ite Prod.fst, apply_ite Prod.snd]

@[simp] theorem State.badWord_hdrCore (s : State) (r : Nat) : hdrCore (State.badWord s r).hdr = hdrCore s.hdr := by
  unfold State.badWord; simp [apply_ite hdrCore, apply_ite Prod.fst, apply_ite Prod.snd]

@[simp] theorem State.blindHold_hdrCore (s : State) (r k : Nat) : hdrCore (State.blindHold s r k).hdr = hdrCore s.hdr := by
  unfold State.blindHold; simp [apply_ite hdrCore, apply_ite Prod.fst, apply_ite Prod.snd]

@[simp] theorem State.parityRound_hdrCore (s : State) (r : Nat) : hdrCore (State.parityRound s r).hdr = hdrCore s.hdr := by
  unfold State.parityRound; simp [apply_ite hdrCore, apply_ite Prod.fst, apply_ite Prod.snd]

@[simp] theorem State.inputLimits_hdrCore (s : State) : hdrCore (State.inputLimits s).hdr = hdrCore s.hdr := by
  unfold State.inputLimits; simp [apply_ite hdrCore, apply_ite Prod.fst, apply_ite Prod.snd]

@[simp] theorem State.convRound_hdrCore (s : State) (i : Nat) : hdrCore (State.convRound s i).hdr = hdrCore s.hdr := by
  unfold State.convRound; simp [apply_ite hdrCore, apply_ite Prod.fst, apply_ite Prod.snd]

@[simp] theorem State.pollEnd_hdrCore (s : State) : hdrCore (State.pollEnd s).hdr = hdrCore s.hdr := by
  unfold State.pollEnd; simp [apply_ite hdrCore, apply_ite Prod.fst, apply_ite Prod.snd]

@[simp] theorem State.pmbNext_hdrCore (s : State) : hdrCore (State.pmbNext s).hdr = hdrCore s.hdr := by
  unfold State.pmbNext; dsimp only; (repeat' split) <;> simp [apply_ite hdrCore, apply_ite Prod.fst, apply_ite Prod.snd]

@[simp] theorem State.countersAnswer_hdrCore (s : State) (st opt pc sq : Nat) : hdrCore (State.countersAnswer s st opt pc sq).hdr = hdrCore s.hdr := by
  unfold State.countersAnswer; simp [apply_ite hdrCore, apply_ite Prod.fst, apply_ite Prod.snd]

@[simp] theorem State.counterAsk_hdrCore (s : State) (write : Bool) : hdrCore (State.counterAsk s write).hdr = hdrCore s.hdr := by
  unfold State.counterAsk; simp [apply_ite hdrCore, apply_ite Prod.fst, apply_ite Prod.snd]

@[simp] theorem State.counterRead_hdrCore (s : State) : hdrCore (State.counterRead s).hdr = hdrCore s.hdr := by
  unfold State.counterRead; simp [apply_ite hdrCore, apply_ite Prod.fst, apply_ite Prod.snd]

@[simp] theorem State.counterReply_hdrCore (s : State) (q : CtrReq) (st opt pc sq : Nat) : hdrCore (State.counterReply s q st opt pc sq).hdr = hdrCore s.hdr := by
  unfold State.counterReply; simp [apply_ite hdrCore, apply_ite Prod.fst, apply_ite Prod.snd]

@[simp] theorem State.eeFail_hdrCore (s : State) (q : CtrReq) (cause : Nat) : hdrCore (State.eeFail s q cause).hdr = hdrCore s.hdr := by
  unfold State.eeFail; simp [apply_ite hdrCore, apply_ite Prod.fst, apply_ite Prod.snd]

@[simp] theorem State.eeSlot_hdrCore (s : State) (q : CtrReq) (bs : List Nat) : hdrCore (State.eeSlot s q bs).hdr = hdrCore s.hdr := by
  unfold State.eeSlot; simp [apply_ite hdrCore, apply_ite Prod.fst, apply_ite Prod.snd]

@[simp] theorem State.hostXactEnd_hdrCore (s : State) (slot st rdata : Nat) : hdrCore (State.hostXactEnd s slot st rdata).hdr = hdrCore s.hdr := by
  unfold State.hostXactEnd; simp [apply_ite hdrCore, apply_ite Prod.fst, apply_ite Prod.snd]

@[simp] theorem State.pmbOutcome_hdrCore (s : State) (st w : Nat) (slot : Option (List Nat)) : hdrCore (State.pmbOutcome s st w slot).hdr = hdrCore s.hdr := by
  unfold State.pmbOutcome; dsimp only; (repeat' split) <;> simp [apply_ite hdrCore, apply_ite Prod.fst, apply_ite Prod.snd]

@[simp] theorem State.hostXact_hdrCore (s : State) (kind slot cmd data : Nat) : hdrCore (State.hostXact s kind slot cmd data).hdr = hdrCore s.hdr := by
  unfold State.hostXact; simp [apply_ite hdrCore, apply_ite Prod.fst, apply_ite Prod.snd]

@[simp] theorem State.beamTest_hdrCore (s : State) (kind target : Nat) : hdrCore (State.beamTest s kind target).hdr = hdrCore s.hdr := by
  unfold State.beamTest; simp [apply_ite hdrCore, apply_ite Prod.fst, apply_ite Prod.snd]

@[simp] theorem State.spareRow_hdrCore (s : State) (k row : Nat) : hdrCore (State.spareRow s k row).hdr = hdrCore s.hdr := by
  unfold State.spareRow; simp [apply_ite hdrCore, apply_ite Prod.fst, apply_ite Prod.snd]

@[simp] theorem State.stagingDamage_hdrCore (s : State) (row : Nat) : hdrCore (State.stagingDamage s row).hdr = hdrCore s.hdr := by
  unfold State.stagingDamage; simp [apply_ite hdrCore, apply_ite Prod.fst, apply_ite Prod.snd]

@[simp] theorem State.eventUnless_hdrCore (s : State) (p : Fin 23) (b code : Nat) (d : List Nat) : hdrCore (State.eventUnless s p b code d).hdr = hdrCore s.hdr := by
  unfold State.eventUnless; simp [apply_ite hdrCore, apply_ite Prod.fst, apply_ite Prod.snd]

@[simp] theorem State.residualEpoch_hdrCore (s : State) (r : Nat) : hdrCore (State.residualEpoch s r).hdr = hdrCore s.hdr := by
  unfold State.residualEpoch; simp [apply_ite hdrCore, apply_ite Prod.fst, apply_ite Prod.snd]

@[simp] theorem State.neutralEnter_hdrCore (s : State) (r c : Nat) : hdrCore (State.neutralEnter s r c).hdr = hdrCore s.hdr := by
  unfold State.neutralEnter; simp [apply_ite hdrCore, apply_ite Prod.fst, apply_ite Prod.snd]

@[simp] theorem State.neutralLeave_hdrCore (s : State) (r : Nat) : hdrCore (State.neutralLeave s r).hdr = hdrCore s.hdr := by
  unfold State.neutralLeave; simp [apply_ite hdrCore, apply_ite Prod.fst, apply_ite Prod.snd]

@[simp] theorem State.neutralDrain_hdrCore (s : State) : hdrCore (State.neutralDrain s).hdr = hdrCore s.hdr := by
  unfold State.neutralDrain; simp [apply_ite hdrCore, apply_ite Prod.fst, apply_ite Prod.snd]

@[simp] theorem State.swapRail_hdrCore (s : State) (old : Vector CtlRail 16) (r : Nat) : hdrCore (State.swapRail s old r).hdr = hdrCore s.hdr := by
  unfold State.swapRail; simp [apply_ite hdrCore, apply_ite Prod.fst, apply_ite Prod.snd]

@[simp] theorem State.bankSwap_hdrCore (s : State) : hdrCore (State.bankSwap s).hdr = hdrCore s.hdr := by
  unfold State.bankSwap; simp [apply_ite hdrCore, apply_ite Prod.fst, apply_ite Prod.snd]

@[simp] theorem State.vinCheck_hdrCore (s : State) : hdrCore (State.vinCheck s).hdr = hdrCore s.hdr := by
  unfold State.vinCheck; simp [apply_ite hdrCore, apply_ite Prod.fst, apply_ite Prod.snd]

@[simp] theorem State.satSample_hdrCore (s : State) (r : Nat) (sat : Bool) : hdrCore (State.satSample s r sat).hdr = hdrCore s.hdr := by
  unfold State.satSample; simp [apply_ite hdrCore, apply_ite Prod.fst, apply_ite Prod.snd]

@[simp] theorem State.holdSample_hdrCore (s : State) (r : Nat) : hdrCore (State.holdSample s r).hdr = hdrCore s.hdr := by
  unfold State.holdSample; simp [apply_ite hdrCore, apply_ite Prod.fst, apply_ite Prod.snd]

@[simp] theorem State.residual_hdrCore (s : State) (r : Nat) (rho : Int) : hdrCore (State.residual s r rho).hdr = hdrCore s.hdr := by
  unfold State.residual; simp [apply_ite hdrCore, apply_ite Prod.fst, apply_ite Prod.snd]

@[simp] theorem State.lawState_hdrCore (s : State) (r : Nat) (insat late : Bool) : hdrCore (State.lawState s r insat late).hdr = hdrCore s.hdr := by
  unfold State.lawState; simp [apply_ite hdrCore, apply_ite Prod.fst, apply_ite Prod.snd]

@[simp] theorem State.coefFault_hdrCore (s : State) (r i : Nat) : hdrCore (State.coefFault s r i).hdr = hdrCore s.hdr := by
  unfold State.coefFault; simp [apply_ite hdrCore, apply_ite Prod.fst, apply_ite Prod.snd]

@[simp] theorem State.commitNote_hdrCore (s : State) (ns : Nat) : hdrCore (State.commitNote s ns).hdr = hdrCore s.hdr := by
  unfold State.commitNote; simp [apply_ite hdrCore, apply_ite Prod.fst, apply_ite Prod.snd]

@[simp] theorem State.lawStart_hdrCore (s : State) : hdrCore (State.lawStart s).hdr = hdrCore s.hdr := by
  unfold State.lawStart; simp [apply_ite hdrCore, apply_ite Prod.fst, apply_ite Prod.snd]

@[simp] theorem lawFreeze_hdrCore (fresh : Bool) (s : List Bool × State) (r : Nat) : hdrCore (lawFreeze fresh s r).2.hdr = hdrCore s.2.hdr := by
  unfold lawFreeze; simp [apply_ite hdrCore, apply_ite Prod.fst, apply_ite Prod.snd]

@[simp] theorem foldl_lawFreeze_hdrCore (fresh : Bool) (l : List Nat) (x : List Bool × State) : hdrCore (l.foldl (lawFreeze fresh) x).2.hdr = hdrCore x.2.hdr :=
  foldl_proj (fun (x : List Bool × State) => hdrCore x.2.hdr) _ (by intro s a; simp) _ _

@[simp] theorem State.lawFinish_hdrCore (s : State) (sats : List Bool) (obs : SampleObs) : hdrCore (State.lawFinish s sats obs).hdr = hdrCore s.hdr := by
  unfold State.lawFinish; simp [apply_ite hdrCore, apply_ite Prod.fst, apply_ite Prod.snd]

@[simp] theorem State.lawTick_hdrCore (s : State) (obs : SampleObs) : hdrCore (State.lawTick s obs).hdr = hdrCore s.hdr := by
  unfold State.lawTick; simp [apply_ite hdrCore, apply_ite Prod.fst, apply_ite Prod.snd]

@[simp] theorem State.lanesChanged_hdrCore (s : State) (cause : Nat) : hdrCore (State.lanesChanged s cause).hdr = hdrCore s.hdr := by
  unfold State.lanesChanged; simp [apply_ite hdrCore, apply_ite Prod.fst, apply_ite Prod.snd]

@[simp] theorem State.retireLane_hdrCore (s : State) (p : Nat) : hdrCore (State.retireLane s p).hdr = hdrCore s.hdr := by
  unfold State.retireLane; simp [apply_ite hdrCore, apply_ite Prod.fst, apply_ite Prod.snd]

@[simp] theorem State.fcsSettle_hdrCore (s : State) : hdrCore (State.fcsSettle s).hdr = hdrCore s.hdr := by
  unfold State.fcsSettle; simp [apply_ite hdrCore, apply_ite Prod.fst, apply_ite Prod.snd]

@[simp] theorem State.winEnd_hdrCore (s : State) : hdrCore (State.winEnd s).hdr = hdrCore s.hdr := by
  unfold State.winEnd; simp [apply_ite hdrCore, apply_ite Prod.fst, apply_ite Prod.snd]

@[simp] theorem State.trcCfg_hdrCore (s : State) (en : Bool) (win gap : Nat) : hdrCore (State.trcCfg s en win gap).hdr = hdrCore s.hdr := by
  unfold State.trcCfg; simp [apply_ite hdrCore, apply_ite Prod.fst, apply_ite Prod.snd]

@[simp] theorem State.frameTrace_hdrCore (s : State) (f : FcsFrame) (abandoned : Bool) : hdrCore (State.frameTrace s f abandoned).hdr = hdrCore s.hdr := by
  unfold State.frameTrace; simp [apply_ite hdrCore, apply_ite Prod.fst, apply_ite Prod.snd]

@[simp] theorem State.evalAbandon_hdrCore (s : State) : hdrCore (State.evalAbandon s).hdr = hdrCore s.hdr := by
  unfold State.evalAbandon; split <;> simp [apply_ite hdrCore, apply_ite Prod.fst, apply_ite Prod.snd]

@[simp] theorem State.evalMiss_hdrCore (s : State) : hdrCore (State.evalMiss s).hdr = hdrCore s.hdr := by
  unfold State.evalMiss; simp [apply_ite hdrCore, apply_ite Prod.fst, apply_ite Prod.snd]

@[simp] theorem State.scoreRail_hdrCore (s : State) (ev : FcsEval) (l1 l4 : FcsLabel) (r : Nat) : hdrCore (State.scoreRail s ev l1 l4 r).hdr = hdrCore s.hdr := by
  unfold State.scoreRail; simp [apply_ite hdrCore, apply_ite Prod.fst, apply_ite Prod.snd]

@[simp] theorem State.scoreNow_hdrCore (s : State) : hdrCore (State.scoreNow s).hdr = hdrCore s.hdr := by
  unfold State.scoreNow; split <;> simp [apply_ite hdrCore, apply_ite Prod.fst, apply_ite Prod.snd]

@[simp] theorem State.weightFault_hdrCore (s : State) (off : Nat) (again : Bool) : hdrCore (State.weightFault s off again).hdr = hdrCore s.hdr := by
  unfold State.weightFault; simp [apply_ite hdrCore, apply_ite Prod.fst, apply_ite Prod.snd]

@[simp] theorem State.evalStart_hdrCore (s : State) (bad : Option Nat) : hdrCore (State.evalStart s bad).hdr = hdrCore s.hdr := by
  unfold State.evalStart; split <;> simp [apply_ite hdrCore, apply_ite Prod.fst, apply_ite Prod.snd]

@[simp] theorem State.fcsBound_hdrCore (s : State) : hdrCore (State.fcsBound s).hdr = hdrCore s.hdr := by
  unfold State.fcsBound; simp [apply_ite hdrCore, apply_ite Prod.fst, apply_ite Prod.snd]

@[simp] theorem State.copyStart_hdrCore (s : State) : hdrCore (State.copyStart s).hdr = hdrCore s.hdr := by
  unfold State.copyStart; simp [apply_ite hdrCore, apply_ite Prod.fst, apply_ite Prod.snd]

@[simp] theorem State.fcsSwap_hdrCore (s : State) : hdrCore (State.fcsSwap s).hdr = hdrCore s.hdr := by
  unfold State.fcsSwap; simp [apply_ite hdrCore, apply_ite Prod.fst, apply_ite Prod.snd]

@[simp] theorem State.fcsBoundary_hdrCore (s : State) : hdrCore (State.fcsBoundary s).hdr = hdrCore s.hdr := by
  unfold State.fcsBoundary; split <;> simp [apply_ite hdrCore, apply_ite Prod.fst, apply_ite Prod.snd]

@[simp] theorem State.retireDueLanes_hdrCore (s : State) : hdrCore (State.retireDueLanes s).hdr = hdrCore s.hdr := by
  unfold State.retireDueLanes; simp [apply_ite hdrCore, apply_ite Prod.fst, apply_ite Prod.snd]

@[simp] theorem State.ladderDom_hdrCore (s : State) (sweep : Bool) (c : Nat) : hdrCore (State.ladderDom s sweep c).hdr = hdrCore s.hdr := by
  unfold State.ladderDom; dsimp only; (repeat' split) <;> simp [apply_ite hdrCore, apply_ite Prod.fst, apply_ite Prod.snd]

@[simp] theorem State.ladder_hdrCore (s : State) (sweep : Bool) : hdrCore (State.ladder s sweep).hdr = hdrCore s.hdr := by
  unfold State.ladder; simp [apply_ite hdrCore, apply_ite Prod.fst, apply_ite Prod.snd]

@[simp] theorem State.hotCheck_hdrCore (s : State) : hdrCore (State.hotCheck s).hdr = hdrCore s.hdr := by
  unfold State.hotCheck; dsimp only; (repeat' split) <;> simp [apply_ite hdrCore, apply_ite Prod.fst, apply_ite Prod.snd]

@[simp] theorem State.rfbUp_hdrCore (s : State) (k want f : Nat) : hdrCore (State.rfbUp s k want f).hdr = hdrCore s.hdr := by
  induction f generalizing s with
  | zero => simp [State.rfbUp]
  | succ k ih => unfold State.rfbUp; dsimp only; (repeat' split) <;> simp [ih, apply_ite hdrCore, apply_ite Prod.fst, apply_ite Prod.snd]

@[simp] theorem State.tgbUp_hdrCore (s : State) (k want f : Nat) : hdrCore (State.tgbUp s k want f).hdr = hdrCore s.hdr := by
  induction f generalizing s with
  | zero => simp [State.tgbUp]
  | succ k ih => unfold State.tgbUp; dsimp only; (repeat' split) <;> simp [ih, apply_ite hdrCore, apply_ite Prod.fst, apply_ite Prod.snd]

@[simp] theorem State.safeBands_hdrCore (s : State) : hdrCore (State.safeBands s).hdr = hdrCore s.hdr := by
  unfold State.safeBands; simp [apply_ite hdrCore, apply_ite Prod.fst, apply_ite Prod.snd]

@[simp] theorem State.stackBands_hdrCore (s : State) (k : Nat) : hdrCore (State.stackBands s k).hdr = hdrCore s.hdr := by
  unfold State.stackBands; simp [apply_ite hdrCore, apply_ite Prod.fst, apply_ite Prod.snd]

@[simp] theorem State.stackTemp_hdrCore (s : State) (k : Nat) : hdrCore (State.stackTemp s k).hdr = hdrCore s.hdr := by
  unfold State.stackTemp; (repeat' split) <;> simp [apply_ite hdrCore, apply_ite Prod.fst, apply_ite Prod.snd]

@[simp] theorem State.shutdown_hdrCore (s : State) (cause src : Nat) (value : Int) : hdrCore (State.shutdown s cause src value).hdr = hdrCore s.hdr := by
  unfold State.shutdown; simp [apply_ite hdrCore, apply_ite Prod.fst, apply_ite Prod.snd]

@[simp] theorem State.sweepCauses_hdrCore (s : State) : hdrCore (State.sweepCauses s).hdr = hdrCore s.hdr := by
  unfold State.sweepCauses; exact (foldl_proj (fun (x : State) => hdrCore x.hdr) _ (by intro s a; dsimp only; (repeat' split) <;> simp [apply_ite hdrCore, apply_ite Prod.fst, apply_ite Prod.snd]) _ _).trans (foldl_proj (fun (x : State) => hdrCore x.hdr) _ (by intro s a; dsimp only; (repeat' split) <;> simp [apply_ite hdrCore, apply_ite Prod.fst, apply_ite Prod.snd]) _ _)

@[simp] theorem State.dwellCause_hdrCore (s : State) : hdrCore (State.dwellCause s).hdr = hdrCore s.hdr := by
  unfold State.dwellCause; exact foldl_proj (fun (x : State) => hdrCore x.hdr) _ (by intro s a; dsimp only; (repeat' split) <;> simp [apply_ite hdrCore, apply_ite Prod.fst, apply_ite Prod.snd]) _ _

@[simp] theorem State.holdBegin_hdrCore (s : State) : hdrCore (State.holdBegin s).hdr = hdrCore s.hdr := by
  unfold State.holdBegin; simp [apply_ite hdrCore, apply_ite Prod.fst, apply_ite Prod.snd]

@[simp] theorem State.phaseCheck_hdrCore (s : State) : hdrCore (State.phaseCheck s).hdr = hdrCore s.hdr := by
  unfold State.phaseCheck; simp [apply_ite hdrCore, apply_ite Prod.fst, apply_ite Prod.snd]

@[simp] theorem State.obsDisable_hdrCore (s : State) (cause group : Nat) : hdrCore (State.obsDisable s cause group).hdr = hdrCore s.hdr := by
  unfold State.obsDisable; simp [apply_ite hdrCore, apply_ite Prod.fst, apply_ite Prod.snd]

@[simp] theorem State.innovCheck_hdrCore (s : State) : hdrCore (State.innovCheck s).hdr = hdrCore s.hdr := by
  unfold State.innovCheck; simp [apply_ite hdrCore, apply_ite Prod.fst, apply_ite Prod.snd]

@[simp] theorem State.obsDiscard_hdrCore (s : State) : hdrCore (State.obsDiscard s).hdr = hdrCore s.hdr := by
  unfold State.obsDiscard; simp [apply_ite hdrCore, apply_ite Prod.fst, apply_ite Prod.snd]

@[simp] theorem State.obsCoefFault_hdrCore (s : State) (i : Nat) : hdrCore (State.obsCoefFault s i).hdr = hdrCore s.hdr := by
  unfold State.obsCoefFault; simp [apply_ite hdrCore, apply_ite Prod.fst, apply_ite Prod.snd]

@[simp] theorem State.stepCauses_hdrCore (s : State) : hdrCore (State.stepCauses s).hdr = hdrCore s.hdr := by
  unfold State.stepCauses; exact foldl_proj (fun (x : State) => hdrCore x.hdr) _ (by intro s a; dsimp only; (repeat' split) <;> simp [apply_ite hdrCore, apply_ite Prod.fst, apply_ite Prod.snd]) _ _

@[simp] theorem State.sensorFail_hdrCore (s : State) (i reason : Nat) : hdrCore (State.sensorFail s i reason).hdr = hdrCore s.hdr := by
  unfold State.sensorFail; simp [apply_ite hdrCore, apply_ite Prod.fst, apply_ite Prod.snd]

@[simp] theorem State.sensorSubst_hdrCore (s : State) (g : Nat) : hdrCore (State.sensorSubst s g).hdr = hdrCore s.hdr := by
  unfold State.sensorSubst; split <;> simp [apply_ite hdrCore, apply_ite Prod.fst, apply_ite Prod.snd]

@[simp] theorem State.sensorSample_hdrCore (s : State) (i : Nat) (x : TempSample) : hdrCore (State.sensorSample s i x).hdr = hdrCore s.hdr := by
  unfold State.sensorSample; dsimp only; (repeat' split) <;> simp [apply_ite hdrCore, apply_ite Prod.fst, apply_ite Prod.snd]

@[simp] theorem State.groupSweep_hdrCore (s : State) (t g : Nat) : hdrCore (State.groupSweep s t g).hdr = hdrCore s.hdr := by
  unfold State.groupSweep; simp [apply_ite hdrCore, apply_ite Prod.fst, apply_ite Prod.snd]

@[simp] theorem State.tripGroup_hdrCore (s : State) (g : Nat) : hdrCore (State.tripGroup s g).hdr = hdrCore s.hdr := by
  unfold State.tripGroup; simp [apply_ite hdrCore, apply_ite Prod.fst, apply_ite Prod.snd]

@[simp] theorem State.tripRate_hdrCore (prev : List Nat) (t : Nat) (s : State) (g : Nat) : hdrCore (State.tripRate prev t s g).hdr = hdrCore s.hdr := by
  unfold State.tripRate; dsimp only; (repeat' split) <;> simp [apply_ite hdrCore, apply_ite Prod.fst, apply_ite Prod.snd]

@[simp] theorem State.tripStack_hdrCore (s : State) (k : Nat) : hdrCore (State.tripStack s k).hdr = hdrCore s.hdr := by
  unfold State.tripStack; simp [apply_ite hdrCore, apply_ite Prod.fst, apply_ite Prod.snd]

@[simp] theorem State.thermalTrips_hdrCore (s : State) (prev : List Nat) (t : Nat) : hdrCore (State.thermalTrips s prev t).hdr = hdrCore s.hdr := by
  unfold State.thermalTrips; simp [apply_ite hdrCore, apply_ite Prod.fst, apply_ite Prod.snd]

@[simp] theorem State.macroFail_hdrCore (s : State) (i pos : Nat) : hdrCore (State.macroFail s i pos).hdr = hdrCore s.hdr := by
  unfold State.macroFail; simp [apply_ite hdrCore, apply_ite Prod.fst, apply_ite Prod.snd]

@[simp] theorem State.ringBreak_hdrCore (s : State) (i pos : Nat) : hdrCore (State.ringBreak s i pos).hdr = hdrCore s.hdr := by
  unfold State.ringBreak; simp [apply_ite hdrCore, apply_ite Prod.fst, apply_ite Prod.snd]

@[simp] theorem State.rangeBegin_hdrCore (s : State) : hdrCore (State.rangeBegin s).hdr = hdrCore s.hdr := by
  unfold State.rangeBegin; simp [apply_ite hdrCore, apply_ite Prod.fst, apply_ite Prod.snd]

@[simp] theorem State.ageFail_hdrCore (s : State) (r reason : Nat) : hdrCore (State.ageFail s r reason).hdr = hdrCore s.hdr := by
  unfold State.ageFail; simp [apply_ite hdrCore, apply_ite Prod.fst, apply_ite Prod.snd]

@[simp] theorem State.ageReading_hdrCore (s : State) (r ag : Nat) : hdrCore (State.ageReading s r ag).hdr = hdrCore s.hdr := by
  unfold State.ageReading; simp [apply_ite hdrCore, apply_ite Prod.fst, apply_ite Prod.snd]

@[simp] theorem State.referenceCheck_hdrCore (s : State) (r ref : Nat) : hdrCore (State.referenceCheck s r ref).hdr = hdrCore s.hdr := by
  unfold State.referenceCheck; simp [apply_ite hdrCore, apply_ite Prod.fst, apply_ite Prod.snd]

@[simp] theorem State.slotValue_hdrCore (s : State) (k : Nat) (v : Int) : hdrCore (State.slotValue s k v).hdr = hdrCore s.hdr := by
  unfold State.slotValue; simp [apply_ite hdrCore, apply_ite Prod.fst, apply_ite Prod.snd]

@[simp] theorem State.slotFailed_hdrCore (s : State) (k : Nat) : hdrCore (State.slotFailed s k).hdr = hdrCore s.hdr := by
  unfold State.slotFailed; simp [apply_ite hdrCore, apply_ite Prod.fst, apply_ite Prod.snd]

@[simp] theorem State.maskFault_hdrCore (s : State) (d : Nat) (bad : Bool) : hdrCore (State.maskFault s d bad).hdr = hdrCore s.hdr := by
  unfold State.maskFault; simp [apply_ite hdrCore, apply_ite Prod.fst, apply_ite Prod.snd]

@[simp] theorem State.setBudget_hdrCore (s : State) (b : Nat) : hdrCore (State.setBudget s b).hdr = hdrCore s.hdr := by
  unfold State.setBudget; simp [apply_ite hdrCore, apply_ite Prod.fst, apply_ite Prod.snd]

@[simp] theorem State.splitShares_hdrCore (s : State) : hdrCore (State.splitShares s).hdr = hdrCore s.hdr := by
  unfold State.splitShares; simp [apply_ite hdrCore, apply_ite Prod.fst, apply_ite Prod.snd]

@[simp] theorem State.budgetFell_hdrCore (s : State) : hdrCore (State.budgetFell s).hdr = hdrCore s.hdr := by
  unfold State.budgetFell; simp [apply_ite hdrCore, apply_ite Prod.fst, apply_ite Prod.snd]

@[simp] theorem State.subFell_hdrCore (s : State) : hdrCore (State.subFell s).hdr = hdrCore s.hdr := by
  unfold State.subFell; simp [apply_ite hdrCore, apply_ite Prod.fst, apply_ite Prod.snd]

@[simp] theorem State.sendCap_hdrCore (s : State) : hdrCore (State.sendCap s).hdr = hdrCore s.hdr := by
  unfold State.sendCap; simp [apply_ite hdrCore, apply_ite Prod.fst, apply_ite Prod.snd]

@[simp] theorem State.treTakeOver_hdrCore (s : State) : hdrCore (State.treTakeOver s).hdr = hdrCore s.hdr := by
  unfold State.treTakeOver; simp [apply_ite hdrCore, apply_ite Prod.fst, apply_ite Prod.snd]

@[simp] theorem State.elect_hdrCore (s : State) : hdrCore (State.elect s).hdr = hdrCore s.hdr := by
  unfold State.elect; simp [apply_ite hdrCore, apply_ite Prod.fst, apply_ite Prod.snd]

@[simp] theorem State.topology_hdrCore (s : State) : hdrCore (State.topology s).hdr = hdrCore s.hdr := by
  unfold State.topology; simp [apply_ite hdrCore, apply_ite Prod.fst, apply_ite Prod.snd]

@[simp] theorem State.linkUp_hdrCore (s : State) (d : Dir) : hdrCore (State.linkUp s d).hdr = hdrCore s.hdr := by
  unfold State.linkUp; simp [apply_ite hdrCore, apply_ite Prod.fst, apply_ite Prod.snd]

@[simp] theorem State.linkDown_hdrCore (s : State) (d : Dir) : hdrCore (State.linkDown s d).hdr = hdrCore s.hdr := by
  unfold State.linkDown; simp [apply_ite hdrCore, apply_ite Prod.fst, apply_ite Prod.snd]

@[simp] theorem State.laneVerdict_hdrCore (s : State) (d : Dir) : hdrCore (State.laneVerdict s d).hdr = hdrCore s.hdr := by
  unfold State.laneVerdict; dsimp only; (repeat' split) <;> simp [apply_ite hdrCore, apply_ite Prod.fst, apply_ite Prod.snd]

@[simp] theorem State.received_hdrCore (s : State) (d : Dir) (m : BitVec 128) (typ : Nat) (f : State → State) (ha : ∀ s, hdrCore (f s).hdr = hdrCore s.hdr) : hdrCore (State.received s d m typ f).hdr = hdrCore s.hdr := by
  unfold State.received; dsimp only; (repeat' split) <;> simp [ha, apply_ite hdrCore, apply_ite Prod.fst, apply_ite Prod.snd]

@[simp] theorem State.laneMsg_hdrCore (s : State) (d : Dir) (m : BitVec 128) : hdrCore (State.laneMsg s d m).hdr = hdrCore s.hdr := by
  unfold State.laneMsg; dsimp only; (repeat' split) <;> simp [apply_ite hdrCore, apply_ite Prod.fst, apply_ite Prod.snd]

@[simp] theorem State.formFail_hdrCore (s : State) (err fmaj fmin count : Nat) : hdrCore (State.formFail s err fmaj fmin count).hdr = hdrCore s.hdr := by
  unfold State.formFail; simp [apply_ite hdrCore, apply_ite Prod.fst, apply_ite Prod.snd]

@[simp] theorem State.countersAtFormation_hdrCore (s : State) : hdrCore (State.countersAtFormation s).hdr = hdrCore s.hdr := by
  unfold State.countersAtFormation; simp [apply_ite hdrCore, apply_ite Prod.fst, apply_ite Prod.snd]

@[simp] theorem State.formed_hdrCore (s : State) (mask fmaj fmin attempt reck : Nat) : hdrCore (State.formed s mask fmaj fmin attempt reck).hdr = hdrCore s.hdr := by
  unfold State.formed; simp [apply_ite hdrCore, apply_ite Prod.fst, apply_ite Prod.snd]

@[simp] theorem State.join_hdrCore (s : State) (p : Nat) : hdrCore (State.join s p).hdr = hdrCore s.hdr := by
  unfold State.join; simp [apply_ite hdrCore, apply_ite Prod.fst, apply_ite Prod.snd]

@[simp] theorem State.helloFormed_hdrCore (s : State) (p : Nat) : hdrCore (State.helloFormed s p).hdr = hdrCore s.hdr := by
  unfold State.helloFormed; simp [apply_ite hdrCore, apply_ite Prod.fst, apply_ite Prod.snd]

@[simp] theorem State.helloMsg_hdrCore (s : State) (d : Dir) (m : BitVec 128) : hdrCore (State.helloMsg s d m).hdr = hdrCore s.hdr := by
  unfold State.helloMsg; simp [apply_ite hdrCore, apply_ite Prod.fst, apply_ite Prod.snd]

@[simp] theorem State.clockLost_hdrCore (s : State) (c : Nat) : hdrCore (State.clockLost s c).hdr = hdrCore s.hdr := by
  unfold State.clockLost; simp [apply_ite hdrCore, apply_ite Prod.fst, apply_ite Prod.snd]

@[simp] theorem State.loseParent_hdrCore (s : State) (cause : Nat) : hdrCore (State.loseParent s cause).hdr = hdrCore s.hdr := by
  unfold State.loseParent; simp [apply_ite hdrCore, apply_ite Prod.fst, apply_ite Prod.snd]

@[simp] theorem State.portAbsent_hdrCore (s : State) (p : Nat) : hdrCore (State.portAbsent s p).hdr = hdrCore s.hdr := by
  unfold State.portAbsent; simp [apply_ite hdrCore, apply_ite Prod.fst, apply_ite Prod.snd]

@[simp] theorem State.badCheck_hdrCore (s : State) (sender : Nat) : hdrCore (State.badCheck s sender).hdr = hdrCore s.hdr := by
  unfold State.badCheck; simp [apply_ite hdrCore, apply_ite Prod.fst, apply_ite Prod.snd]

@[simp] theorem State.rateIgnored_hdrCore (s : State) (typ : Nat) : hdrCore (State.rateIgnored s typ).hdr = hdrCore s.hdr := by
  unfold State.rateIgnored; simp [apply_ite hdrCore, apply_ite Prod.fst, apply_ite Prod.snd]

@[simp] theorem State.parentTake_hdrCore (s : State) (f : KFrame) (act : State → State) (ha : ∀ s, hdrCore (act s).hdr = hdrCore s.hdr) : hdrCore (State.parentTake s f act).2.hdr = hdrCore s.hdr := by
  unfold State.parentTake; dsimp only; (repeat' split) <;> simp [ha, apply_ite hdrCore, apply_ite Prod.fst, apply_ite Prod.snd]

@[simp] theorem State.takeBudget_hdrCore (s : State) (w : Nat) : hdrCore (State.takeBudget s w).hdr = hdrCore s.hdr := by
  unfold State.takeBudget; simp [apply_ite hdrCore, apply_ite Prod.fst, apply_ite Prod.snd]

@[simp] theorem State.takeCut_hdrCore (s : State) (ratio q : Nat) : hdrCore (State.takeCut s ratio q).hdr = hdrCore s.hdr := by
  unfold State.takeCut; simp [apply_ite hdrCore, apply_ite Prod.fst, apply_ite Prod.snd]

@[simp] theorem State.parentFrame_hdrCore (s : State) (f : KFrame) : hdrCore (State.parentFrame s f).2.hdr = hdrCore s.hdr := by
  unfold State.parentFrame; dsimp only; (repeat' split) <;> simp [apply_ite hdrCore, apply_ite Prod.fst, apply_ite Prod.snd]

@[simp] theorem State.portFrame_hdrCore (s : State) (p : Nat) (f : KFrame) : hdrCore (State.portFrame s p f).hdr = hdrCore s.hdr := by
  unfold State.portFrame; dsimp only; (repeat' split) <;> simp [apply_ite hdrCore, apply_ite Prod.fst, apply_ite Prod.snd]

@[simp] theorem State.kReceived_hdrCore (s : State) (bus : TreBus) (f : KFrame) (typ : Nat) : hdrCore (State.kReceived s bus f typ).hdr = hdrCore s.hdr := by
  unfold State.kReceived; dsimp only; (repeat' split) <;> simp [apply_ite hdrCore, apply_ite Prod.fst, apply_ite Prod.snd]

@[simp] theorem State.setRackCap_hdrCore (s : State) (v : Nat) : hdrCore (State.setRackCap s v).hdr = hdrCore s.hdr := by
  unfold State.setRackCap; simp [apply_ite hdrCore, apply_ite Prod.fst, apply_ite Prod.snd]

@[simp] theorem State.clearRackCap_hdrCore (s : State) : hdrCore (State.clearRackCap s).hdr = hdrCore s.hdr := by
  unfold State.clearRackCap; simp [apply_ite hdrCore, apply_ite Prod.fst, apply_ite Prod.snd]

@[simp] theorem State.rackRate_hdrCore (s : State) (typ : Nat) : hdrCore (State.rackRate s typ).hdr = hdrCore s.hdr := by
  unfold State.rackRate; simp [apply_ite hdrCore, apply_ite Prod.fst, apply_ite Prod.snd]

@[simp] theorem State.rackBad_hdrCore (s : State) (st : Nat) : hdrCore (State.rackBad s st).hdr = hdrCore s.hdr := by
  unfold State.rackBad; simp [apply_ite hdrCore, apply_ite Prod.fst, apply_ite Prod.snd]

@[simp] theorem State.rackPerform_hdrCore (s : State) (bs : List Nat) : hdrCore (State.rackPerform s bs).hdr = hdrCore s.hdr := by
  unfold State.rackPerform; split <;> simp [apply_ite hdrCore, apply_ite Prod.fst, apply_ite Prod.snd]

@[simp] theorem State.rackRequest_hdrCore (s : State) (bs : List Nat) : hdrCore (State.rackRequest s bs).hdr = hdrCore s.hdr := by
  unfold State.rackRequest; simp [apply_ite hdrCore, apply_ite Prod.fst, apply_ite Prod.snd]

@[simp] theorem State.setDa_hdrCore (s : State) (a : Nat) : hdrCore (State.setDa s a).hdr = hdrCore s.hdr := by
  unfold State.setDa; simp [apply_ite hdrCore, apply_ite Prod.fst, apply_ite Prod.snd]

@[simp] theorem State.scrubBad_hdrCore (s : State) (k a w : Nat) (again : Bool) : hdrCore (State.scrubBad s k a w again).hdr = hdrCore s.hdr := by
  unfold State.scrubBad; (repeat' split) <;> simp [apply_ite hdrCore, apply_ite Prod.fst, apply_ite Prod.snd]

@[simp] theorem State.relSubst_hdrCore (s : State) (kind i : Nat) : hdrCore (State.relSubst s kind i).hdr = hdrCore s.hdr := by
  unfold State.relSubst; split <;> simp [apply_ite hdrCore, apply_ite Prod.fst, apply_ite Prod.snd]

@[simp] theorem State.relRestore_hdrCore (s : State) (kind i : Nat) : hdrCore (State.relRestore s kind i).hdr = hdrCore s.hdr := by
  unfold State.relRestore; split <;> simp [apply_ite hdrCore, apply_ite Prod.fst, apply_ite Prod.snd]

@[simp] theorem State.loadCmd_hdrCore (s : State) : hdrCore (State.loadCmd s).hdr = hdrCore s.hdr := by
  unfold State.loadCmd; split <;> simp [apply_ite hdrCore, apply_ite Prod.fst, apply_ite Prod.snd]

@[simp] theorem State.commitCmd_hdrCore (s : State) : hdrCore (State.commitCmd s).hdr = hdrCore s.hdr := by
  unfold State.commitCmd; simp [apply_ite hdrCore, apply_ite Prod.fst, apply_ite Prod.snd]

@[simp] theorem State.commitFailed_hdrCore (s : State) (st : Nat) : hdrCore (State.commitFailed s st).hdr = hdrCore s.hdr := by
  unfold State.commitFailed; simp [apply_ite hdrCore, apply_ite Prod.fst, apply_ite Prod.snd]

@[simp] theorem State.lockPages_hdrCore (s : State) : hdrCore (State.lockPages s).hdr = hdrCore s.hdr := by
  unfold State.lockPages hdrCore; simp [Function.comp_def, PageHdr.core]

@[simp] theorem State.commitDone_hdrCore (s : State) : hdrCore (State.commitDone s).hdr = hdrCore s.hdr := by
  unfold State.commitDone; simp [apply_ite hdrCore]; exact foldl_hdrCore _ (by intro s a; split <;> simp) _ _

@[simp] theorem State.abortCmd_hdrCore (s : State) : hdrCore (State.abortCmd s).hdr = hdrCore s.hdr := by
  unfold State.abortCmd; simp [apply_ite hdrCore, apply_ite Prod.fst, apply_ite Prod.snd]

@[simp] theorem State.actNotice_hdrCore (s : State) (st : Nat) : hdrCore (State.actNotice s st).hdr = hdrCore s.hdr := by
  unfold State.actNotice; simp [apply_ite hdrCore, apply_ite Prod.fst, apply_ite Prod.snd]

@[simp] theorem State.activationRefused_hdrCore (s : State) (st : Nat) : hdrCore (State.activationRefused s st).hdr = hdrCore s.hdr := by
  unfold State.activationRefused; simp [apply_ite hdrCore, apply_ite Prod.fst, apply_ite Prod.snd]

@[simp] theorem State.phaseMaps_hdrCore (s : State) : hdrCore (State.phaseMaps s).hdr = hdrCore s.hdr := by
  unfold State.phaseMaps; simp [apply_ite hdrCore, apply_ite Prod.fst, apply_ite Prod.snd]

@[simp] theorem State.switchIn_hdrCore (s : State) (im : Image) : hdrCore (State.switchIn s im).hdr = hdrCore s.hdr := by
  unfold State.switchIn; simp [apply_ite hdrCore, apply_ite Prod.fst, apply_ite Prod.snd]

@[simp] theorem State.deferActivation_hdrCore (s : State) : hdrCore (State.deferActivation s).hdr = hdrCore s.hdr := by
  unfold State.deferActivation; simp [apply_ite hdrCore, apply_ite Prod.fst, apply_ite Prod.snd]

@[simp] theorem State.activationStep_hdrCore (s : State) : hdrCore (State.activationStep s).hdr = hdrCore s.hdr := by
  unfold State.activationStep; dsimp only; (repeat' split) <;> simp [apply_ite hdrCore, apply_ite Prod.fst, apply_ite Prod.snd]

@[simp] theorem State.sampleRail_hdrCore (s : State) (r : Nat) : hdrCore (State.sampleRail s r).hdr = hdrCore s.hdr := by
  unfold State.sampleRail; simp [apply_ite hdrCore, apply_ite Prod.fst, apply_ite Prod.snd]

@[simp] theorem State.tickLaw_hdrCore (s : State) (obs : SampleObs) : hdrCore (State.tickLaw s obs).hdr = hdrCore s.hdr := by
  unfold State.tickLaw; simp [apply_ite hdrCore, apply_ite Prod.fst, apply_ite Prod.snd]

@[simp] theorem State.tickEnd_hdrCore (s : State) : hdrCore (State.tickEnd s).hdr = hdrCore s.hdr := by
  unfold State.tickEnd; simp [apply_ite hdrCore, apply_ite Prod.fst, apply_ite Prod.snd]

@[simp] theorem State.trcBoundary_hdrCore (s : State) : hdrCore (State.trcBoundary s).hdr = hdrCore s.hdr := by
  unfold State.trcBoundary; simp [apply_ite hdrCore, apply_ite Prod.fst, apply_ite Prod.snd]

@[simp] theorem State.boundary_hdrCore (s : State) (num : Nat) (gov : Bool) : hdrCore (State.boundary s num gov).hdr = hdrCore s.hdr := by
  unfold State.boundary; simp [apply_ite hdrCore, apply_ite Prod.fst, apply_ite Prod.snd]

@[simp] theorem State.reckon_hdrCore (s : State) : hdrCore (State.reckon s).hdr = hdrCore s.hdr := by
  unfold State.reckon; simp [apply_ite hdrCore, apply_ite Prod.fst, apply_ite Prod.snd]

@[simp] theorem State.memberOpen_hdrCore (s : State) : hdrCore (State.memberOpen s).hdr = hdrCore s.hdr := by
  unfold State.memberOpen; simp [apply_ite hdrCore, apply_ite Prod.fst, apply_ite Prod.snd]

@[simp] theorem State.fuseFaults_hdrCore (s : State) : hdrCore (State.fuseFaults s).hdr = hdrCore s.hdr := by
  unfold State.fuseFaults; simp [apply_ite hdrCore, apply_ite Prod.fst, apply_ite Prod.snd]

@[simp] theorem State.closeEpisode_hdrCore (s : State) (cause : Nat) : hdrCore (State.closeEpisode s cause).hdr = hdrCore s.hdr := by
  unfold State.closeEpisode; simp [apply_ite hdrCore, apply_ite Prod.fst, apply_ite Prod.snd]

@[simp] theorem State.startRowLost_hdrCore (s : State) (i : Nat) : hdrCore (State.startRowLost s i).hdr = hdrCore s.hdr := by
  unfold State.startRowLost; simp [apply_ite hdrCore, apply_ite Prod.fst, apply_ite Prod.snd]

@[simp] theorem State.warmLoad_hdrCore (s : State) : hdrCore (State.warmLoad s).hdr = hdrCore s.hdr := by
  unfold State.warmLoad; simp [apply_ite hdrCore, apply_ite Prod.fst, apply_ite Prod.snd]

@[simp] theorem State.warmPhase_hdrCore (s : State) : hdrCore (State.warmPhase s).hdr = hdrCore s.hdr := by
  unfold State.warmPhase; simp [apply_ite hdrCore, apply_ite Prod.fst, apply_ite Prod.snd]

@[simp] theorem State.warmExit_hdrCore (s : State) : hdrCore (State.warmExit s).hdr = hdrCore s.hdr := by
  unfold State.warmExit; simp [apply_ite hdrCore, apply_ite Prod.fst, apply_ite Prod.snd]

@[simp] theorem State.lrstFcs_hdrCore (s : State) : hdrCore (State.lrstFcs s).hdr = hdrCore s.hdr := by
  unfold State.lrstFcs; simp [apply_ite hdrCore, apply_ite Prod.fst, apply_ite Prod.snd]

@[simp] theorem State.lrstMbx_hdrCore (s : State) (c : Chan) : hdrCore (State.lrstMbx s c).hdr = hdrCore s.hdr := by
  unfold State.lrstMbx; simp [apply_ite hdrCore, apply_ite Prod.fst, apply_ite Prod.snd]

@[simp] theorem State.lrstReach_hdrCore (s : State) (p : Nat) : hdrCore (State.lrstReach s p).hdr = hdrCore s.hdr := by
  unfold State.lrstReach; split <;> simp [apply_ite hdrCore, apply_ite Prod.fst, apply_ite Prod.snd]

@[simp] theorem State.resvVal_hdrCore (s : State) (p : Fin 23) (off : Nat) : hdrCore (State.resvVal s p off).hdr = hdrCore s.hdr := by
  unfold State.resvVal; simp [apply_ite hdrCore, apply_ite Prod.fst, apply_ite Prod.snd]

@[simp] theorem State.resvIf_hdrCore (s : State) (p : Fin 23) (off : Nat) (bad : Bool) : hdrCore (State.resvIf s p off bad).hdr = hdrCore s.hdr := by
  unfold State.resvIf; simp [apply_ite hdrCore, apply_ite Prod.fst, apply_ite Prod.snd]

@[simp] theorem State.keyedWrite_hdrCore (s : State) (p : Fin 23) (off data : Nat) (refused : State → Bool) (act : State → State) (ha : ∀ s, hdrCore (act s).hdr = hdrCore s.hdr) : hdrCore (State.keyedWrite s p off data refused act).1.hdr = hdrCore s.hdr := by
  unfold State.keyedWrite; dsimp only; (repeat' split) <;> simp [ha, apply_ite hdrCore, apply_ite Prod.fst, apply_ite Prod.snd]

@[simp] theorem State.putWdata_hdrCore (s : State) (data : Nat) : hdrCore (State.putWdata s data).1.hdr = hdrCore s.hdr := by
  unfold State.putWdata; simp [apply_ite hdrCore, apply_ite Prod.fst, apply_ite Prod.snd]

@[simp] theorem writeSeq_hdrCore (s : State) (off data : Nat) : hdrCore (writeSeq s off data).1.hdr = hdrCore s.hdr := by
  unfold writeSeq; dsimp only; (repeat' split) <;> simp [apply_ite hdrCore, apply_ite Prod.fst, apply_ite Prod.snd]

@[simp] theorem writeTly_hdrCore (s : State) (off data : Nat) : hdrCore (writeTly s off data).1.hdr = hdrCore s.hdr := by
  unfold writeTly; split <;> simp [apply_ite hdrCore, apply_ite Prod.fst, apply_ite Prod.snd]

@[simp] theorem State.setHlim_hdrCore (s : State) (r v : Nat) : hdrCore (State.setHlim s r v).hdr = hdrCore s.hdr := by
  unfold State.setHlim; simp [apply_ite hdrCore, apply_ite Prod.fst, apply_ite Prod.snd]

@[simp] theorem writeBeam_hdrCore (s : State) (off data : Nat) : hdrCore (writeBeam s off data).1.hdr = hdrCore s.hdr := by
  unfold writeBeam; dsimp only; (repeat' split) <;> simp [apply_ite hdrCore, apply_ite Prod.fst, apply_ite Prod.snd]

@[simp] theorem writeCtl_hdrCore (s : State) (off data : Nat) : hdrCore (writeCtl s off data).1.hdr = hdrCore s.hdr := by
  unfold writeCtl; split <;> simp [apply_ite hdrCore, apply_ite Prod.fst, apply_ite Prod.snd]

@[simp] theorem writeFcs_hdrCore (s : State) (off data : Nat) : hdrCore (writeFcs s off data).1.hdr = hdrCore s.hdr := by
  unfold writeFcs; split <;> simp [apply_ite hdrCore, apply_ite Prod.fst, apply_ite Prod.snd]

@[simp] theorem writeThm_hdrCore (s : State) (off data : Nat) : hdrCore (writeThm s off data).1.hdr = hdrCore s.hdr := by
  unfold writeThm; split <;> simp [apply_ite hdrCore, apply_ite Prod.fst, apply_ite Prod.snd]

@[simp] theorem writeSns_hdrCore (s : State) (off data : Nat) : hdrCore (writeSns s off data).1.hdr = hdrCore s.hdr := by
  unfold writeSns; split <;> simp [apply_ite hdrCore, apply_ite Prod.fst, apply_ite Prod.snd]

@[simp] theorem writeDom_hdrCore (s : State) (off data : Nat) : hdrCore (writeDom s off data).1.hdr = hdrCore s.hdr := by
  unfold writeDom; split <;> simp [apply_ite hdrCore, apply_ite Prod.fst, apply_ite Prod.snd]

@[simp] theorem writeClk_hdrCore (s : State) (off data : Nat) : hdrCore (writeClk s off data).1.hdr = hdrCore s.hdr := by
  unfold writeClk; (repeat' split) <;> simp [apply_ite hdrCore, apply_ite Prod.fst, apply_ite Prod.snd]

@[simp] theorem writePmb_hdrCore (s : State) (off data : Nat) : hdrCore (writePmb s off data).1.hdr = hdrCore s.hdr := by
  unfold writePmb; split <;> simp [apply_ite hdrCore, apply_ite Prod.fst, apply_ite Prod.snd]

@[simp] theorem State.blkCtrl_hdrCore (s : State) (c : Chan) (data : Nat) : hdrCore (State.blkCtrl s c data).1.hdr = hdrCore s.hdr := by
  unfold State.blkCtrl; simp [apply_ite hdrCore, apply_ite Prod.fst, apply_ite Prod.snd]

@[simp] theorem writeMbx_hdrCore (s : State) (c : Chan) (off data : Nat) : hdrCore (writeMbx s c off data).1.hdr = hdrCore s.hdr := by
  unfold writeMbx; (repeat' split) <;> simp [apply_ite hdrCore, apply_ite Prod.fst, apply_ite Prod.snd]

@[simp] theorem writeRst_hdrCore (s : State) (off data : Nat) : hdrCore (writeRst s off data).1.hdr = hdrCore s.hdr := by
  unfold writeRst; split <;> simp [apply_ite hdrCore, apply_ite Prod.fst, apply_ite Prod.snd]

@[simp] theorem writeRel_hdrCore (s : State) (off data : Nat) : hdrCore (writeRel s off data).1.hdr = hdrCore s.hdr := by
  unfold writeRel; split <;> simp [apply_ite hdrCore, apply_ite Prod.fst, apply_ite Prod.snd]

@[simp] theorem writeEvt_hdrCore (s : State) (off data : Nat) : hdrCore (writeEvt s off data).1.hdr = hdrCore s.hdr := by
  unfold writeEvt; split <;> simp [apply_ite hdrCore, apply_ite Prod.fst, apply_ite Prod.snd]

@[simp] theorem writeTrc_hdrCore (s : State) (off data : Nat) : hdrCore (writeTrc s off data).1.hdr = hdrCore s.hdr := by
  unfold writeTrc; split <;> simp [apply_ite hdrCore, apply_ite Prod.fst, apply_ite Prod.snd]

@[simp] theorem State.addrFault_hdrCore (s : State) (addr : Nat) (we sec : Bool) : hdrCore (State.addrFault s addr we sec).hdr = hdrCore s.hdr := by
  unfold State.addrFault; simp [apply_ite hdrCore, apply_ite Prod.fst, apply_ite Prod.snd]

@[simp] theorem State.dataFault_hdrCore (s : State) (addr : Nat) : hdrCore (State.dataFault s addr).hdr = hdrCore s.hdr := by
  unfold State.dataFault; split <;> simp [apply_ite hdrCore, apply_ite Prod.fst, apply_ite Prod.snd]

@[simp] theorem State.secRefused_hdrCore (s : State) (p : Fin 23) (addr : Nat) (we : Bool) : hdrCore (State.secRefused s p addr we).hdr = hdrCore s.hdr := by
  unfold State.secRefused; simp [apply_ite hdrCore, apply_ite Prod.fst, apply_ite Prod.snd]

end Sys2Proof.Machine
end

