-- ==== Sys2Proof/Laws/Memory.lean ====
section
/-! SUPPORT. Sparse memories: a write keeps the canonical form, a read after a write gives the value written, and every other
place keeps what it held. -/

namespace Sys2Proof.Machine

open Sys2Proof

/-- A canonical form from a higher place is one from a lower place. -/
theorem memWfFrom_weaken {α : Type} [DecidableEq α] (d : α) (lo lo' : Option Nat) (m : List (Nat × α)) (hl : ∀ a, lo' = some a → ∃ b, lo = some b ∧ a ≤ b)
    (h : memWfFrom d lo m = true) : memWfFrom d lo' m = true := by
  cases m with
  | nil => rfl
  | cons x m =>
    obtain ⟨k, v⟩ := x
    simp only [memWfFrom, Bool.and_eq_true] at h ⊢
    refine ⟨⟨?_, h.1.2⟩, h.2⟩
    cases lo' with
    | none => rfl
    | some a =>
      obtain ⟨b, rfl, hb⟩ := hl a rfl
      have := h.1.1; simp at this ⊢; omega

/-- Writing one value keeps a sparse memory canonical, from any place below it. -/
theorem memWfFrom_memWrite {α : Type} [DecidableEq α] (d : α) (m : List (Nat × α)) (a : Nat) (v : α) (lo : Option Nat)
    (hl : ∀ b, lo = some b → b < a) (h : memWfFrom d lo m = true) : memWfFrom d lo (memWrite d m a v) = true := by
  induction m generalizing lo with
  | nil =>
    unfold memWrite; split
    · rfl
    · rename_i hv
      cases lo with
      | none => simp [memWfFrom, hv]
      | some b => simp [memWfFrom, hv, hl b rfl]
  | cons x m ih =>
    obtain ⟨k, w⟩ := x
    have h0 := h
    simp only [memWfFrom, Bool.and_eq_true] at h
    unfold memWrite
    split
    · rename_i hak
      split
      · exact h0
      · rename_i hv
        simp only [memWfFrom, Bool.and_eq_true]
        refine ⟨⟨?_, by simpa using hv⟩, ⟨⟨by simpa using hak, h.1.2⟩, h.2⟩⟩
        cases lo with
        | none => rfl
        | some b => simpa using hl b rfl
    · rename_i hak
      split
      · rename_i hk
        subst hk
        split
        · refine memWfFrom_weaken d (some a) lo m ?_ h.2
          intro b hb; exact ⟨a, rfl, Nat.le_of_lt (hl b hb)⟩
        · rename_i hv
          simp only [memWfFrom, Bool.and_eq_true]
          refine ⟨⟨h.1.1, by simpa using hv⟩, h.2⟩
      · rename_i hk
        simp only [memWfFrom, Bool.and_eq_true]
        refine ⟨h.1, ih (some k) ?_ h.2⟩
        intro b hb; cases hb; omega

/-- Writing one value keeps a sparse memory canonical. -/
@[simp] theorem memWf_memWrite {α : Type} [DecidableEq α] (d : α) (m : List (Nat × α)) (a : Nat) (v : α) (h : memWf d m = true) :
    memWf d (memWrite d m a v) = true := memWfFrom_memWrite d m a v none (by simp) h

/-- Writing a run of values keeps a sparse memory canonical. -/
@[simp] theorem memWf_memWriteRun {α : Type} [DecidableEq α] (d : α) (m : List (Nat × α)) (a : Nat) (vs : List α) (h : memWf d m = true) :
    memWf d (memWriteRun d m a vs) = true := by
  induction vs generalizing m a with
  | nil => exact h
  | cons v vs ih => exact ih _ _ (memWf_memWrite d m a v h)

/-- Striking entries keeps a sparse memory canonical from its place. -/
theorem memWfFrom_filter {α : Type} [DecidableEq α] (d : α) (p : Nat × α → Bool) (m : List (Nat × α)) (lo : Option Nat) (h : memWfFrom d lo m = true) :
    memWfFrom d lo (m.filter p) = true := by
  induction m generalizing lo with
  | nil => rfl
  | cons x m ih =>
    obtain ⟨k, v⟩ := x
    simp only [memWfFrom, Bool.and_eq_true] at h
    simp only [List.filter]
    split
    · simp only [memWfFrom, Bool.and_eq_true]
      exact ⟨h.1, ih _ h.2⟩
    · refine ih lo (memWfFrom_weaken d (some k) lo m ?_ h.2)
      intro a ha; subst ha; exact ⟨k, rfl, by have := h.1.1; simp at this; omega⟩

/-- Striking entries keeps a sparse memory canonical. -/
@[simp] theorem memWf_filter {α : Type} [DecidableEq α] (d : α) (p : Nat × α → Bool) (m : List (Nat × α)) (h : memWf d m = true) :
    memWf d (m.filter p) = true := memWfFrom_filter d p m none h

/-- What every step of a fold keeps, the fold keeps. -/
theorem keep_foldl {α β : Type} {P : β → Prop} {f : β → α → β} (h : ∀ b a, P b → P (f b a)) (l : List α) {b : β} (hb : P b) : P (l.foldl f b) := by
  induction l generalizing b with
  | nil => exact hb
  | cons a l ih => exact ih (h b a hb)

/-- The empty memory is canonical. -/
@[simp] theorem memWf_nil {α : Type} [DecidableEq α] (d : α) : memWf d ([] : List (Nat × α)) = true := rfl

/-- A read after a write to the same place gives the value written. -/
theorem memRead_memWrite_same {α : Type} [DecidableEq α] (d : α) (m : List (Nat × α)) (a : Nat) (v : α) (lo : Option Nat)
    (h : memWfFrom d lo m = true) : memRead d (memWrite d m a v) a = v := by
  induction m generalizing lo with
  | nil => unfold memWrite; split <;> simp_all [memRead]
  | cons x m ih =>
    obtain ⟨k, w⟩ := x
    have h0 := h
    simp only [memWfFrom, Bool.and_eq_true] at h
    unfold memWrite
    split
    · rename_i hak
      split
      · rename_i hv; simp [memRead, hv, hak, Nat.ne_of_gt hak]
      · simp [memRead]
    · split
      · rename_i hk; subst hk
        split
        · rename_i hv
          have h2 := h.2
          cases m with
          | nil => simp [memRead, hv]
          | cons y m =>
            obtain ⟨j, u⟩ := y
            simp only [memWfFrom, Bool.and_eq_true] at h2
            have hj : a < j := by simpa using h2.1.1
            simp [memRead, hv, hj, Nat.ne_of_gt hj]
        · simp [memRead]
      · rename_i hak hk
        have : ¬ k = a := fun e => hk e.symm
        simp [memRead, this, hak, ih (some k) h.2]

/-- A write leaves every other place alone. -/
theorem memRead_memWrite_other {α : Type} [DecidableEq α] (d : α) (m : List (Nat × α)) (a b : Nat) (v : α) (lo : Option Nat)
    (h : memWfFrom d lo m = true) (hb : b ≠ a) : memRead d (memWrite d m a v) b = memRead d m b := by
  induction m generalizing lo with
  | nil => unfold memWrite; split <;> simp [memRead, Ne.symm hb]
  | cons x m ih =>
    obtain ⟨k, w⟩ := x
    simp only [memWfFrom, Bool.and_eq_true] at h
    unfold memWrite
    split
    · rename_i hak
      split
      · rfl
      · by_cases hba : b < a
        · simp [memRead, Ne.symm hb, hba, Nat.lt_trans hba hak, Nat.ne_of_gt (Nat.lt_trans hba hak)]
        · simp [memRead, Ne.symm hb, hba]
    · split
      · rename_i hk; subst hk
        split
        · have h2 := h.2
          by_cases hba : b < a
          · cases m with
            | nil => simp [memRead, Ne.symm hb]
            | cons y m =>
              obtain ⟨j, u⟩ := y
              simp only [memWfFrom, Bool.and_eq_true] at h2
              have hj : a < j := by simpa using h2.1.1
              have hbj : b < j := Nat.lt_trans hba hj
              simp [memRead, Ne.symm hb, hba, hbj, Nat.ne_of_gt hbj]
          · simp [memRead, Ne.symm hb, hba]
        · simp [memRead, Ne.symm hb]
      · simp only [memRead]
        rw [ih (some k) h.2]

end Sys2Proof.Machine
end

