-- ==== Sys2Proof/Laws/KeepMaps.lean ====
section
/-! SUPPORT. The map of rows to spares (R168): each operation leaves them as they are, or keeps their canonical form. -/

set_option linter.unusedSimpArgs false

namespace Sys2Proof.Machine

open Sys2Proof

@[simp] theorem foldl_maps {α : Type} (f : State → α → State) (h : ∀ s a, (f s a).tly.maps = s.tly.maps) (l : List α) (s : State) : (l.foldl f s).tly.maps = s.tly.maps :=
  foldl_proj (fun (x : State) => x.tly.maps) f h l s

@[simp] theorem foldl_mapsWf {α : Type} (f : State → α → State) (h : ∀ s a, memWf 0 s.tly.maps = true → memWf 0 (f s a).tly.maps = true) (l : List α) (s : State) (hs : memWf 0 s.tly.maps = true) : memWf 0 (l.foldl f s).tly.maps = true :=
  keep_foldl (P := fun (x : State) => memWf 0 x.tly.maps = true) h l hs

@[simp] theorem State.setRow_maps (s : State) (i w : Nat) : (State.setRow s i w).tly.maps = s.tly.maps := by
  unfold State.setRow; simp [apply_ite Tly.maps, apply_ite Prod.fst, apply_ite Prod.snd, apply_dite Tly.maps]

@[simp] theorem State.outRise_maps (s : State) : (State.outRise s).tly.maps = s.tly.maps := by
  unfold State.outRise; dsimp only; (repeat' split) <;> simp [apply_ite Tly.maps, apply_ite Prod.fst, apply_ite Prod.snd]

@[simp] theorem State.sendWord_maps (s : State) (w : Nat) (row : Option Nat) : (State.sendWord s w row).tly.maps = s.tly.maps := by
  unfold State.sendWord; simp [apply_ite Tly.maps, apply_ite Prod.fst, apply_ite Prod.snd, apply_dite Tly.maps]

@[simp] theorem State.refuse_maps (s : State) (unit tag code seqn : Nat) (tagv : Bool) (retry : Nat) : (State.refuse s unit tag code seqn tagv retry).tly.maps = s.tly.maps := by
  unfold State.refuse; simp [apply_ite Tly.maps, apply_ite Prod.fst, apply_ite Prod.snd, apply_dite Tly.maps]

@[simp] theorem State.book_maps (s : State) (r : Nat) (f : Nat → Nat) : (State.book s r f).tly.maps = s.tly.maps := by
  unfold State.book; simp [apply_ite Tly.maps, apply_ite Prod.fst, apply_ite Prod.snd, apply_dite Tly.maps]

@[simp] theorem State.retire_maps (s : State) (i : Nat) : (State.retire s i).tly.maps = s.tly.maps := by
  unfold State.retire; simp [apply_ite Tly.maps, apply_ite Prod.fst, apply_ite Prod.snd, apply_dite Tly.maps]

@[simp] theorem State.withdraw_maps (s : State) (i code retry : Nat) : (State.withdraw s i code retry).tly.maps = s.tly.maps := by
  unfold State.withdraw; simp [apply_ite Tly.maps, apply_ite Prod.fst, apply_ite Prod.snd, apply_dite Tly.maps]

@[simp] theorem State.retireDomain_maps (s : State) (d : Nat) : (State.retireDomain s d).tly.maps = s.tly.maps := by
  unfold State.retireDomain; simp [apply_ite Tly.maps, apply_ite Prod.fst, apply_ite Prod.snd, apply_dite Tly.maps]

@[simp] theorem State.rowFault_maps (s : State) (i : Nat) : (State.rowFault s i).tly.maps = s.tly.maps := by
  unfold State.rowFault; simp [apply_ite Tly.maps, apply_ite Prod.fst, apply_ite Prod.snd, apply_dite Tly.maps]

@[simp] theorem State.cntFault_maps (s : State) (r : Nat) : (State.cntFault s r).tly.maps = s.tly.maps := by
  unfold State.cntFault; simp [apply_ite Tly.maps, apply_ite Prod.fst, apply_ite Prod.snd, apply_dite Tly.maps]

@[simp] theorem State.grant_maps (s : State) (w i n : Nat) : (State.grant s w i n).tly.maps = s.tly.maps := by
  unfold State.grant; simp [apply_ite Tly.maps, apply_ite Prod.fst, apply_ite Prod.snd, apply_dite Tly.maps]

@[simp] theorem State.decideRequest_maps (s : State) (w : Nat) : (State.decideRequest s w).tly.maps = s.tly.maps := by
  unfold State.decideRequest; dsimp only; (repeat' split) <;> simp [apply_ite Tly.maps, apply_ite Prod.fst, apply_ite Prod.snd]

@[simp] theorem State.decideRelease_maps (s : State) (w : Nat) : (State.decideRelease s w).tly.maps = s.tly.maps := by
  unfold State.decideRelease; split <;> simp [apply_ite Tly.maps, apply_ite Prod.fst, apply_ite Prod.snd]

@[simp] theorem State.decideTransfer_maps (s : State) (w : Nat) : (State.decideTransfer s w).tly.maps = s.tly.maps := by
  unfold State.decideTransfer; split <;> simp [apply_ite Tly.maps, apply_ite Prod.fst, apply_ite Prod.snd]

@[simp] theorem State.decideParity_maps (s : State) (w : Nat) : (State.decideParity s w).tly.maps = s.tly.maps := by
  unfold State.decideParity; simp [apply_ite Tly.maps, apply_ite Prod.fst, apply_ite Prod.snd, apply_dite Tly.maps]

@[simp] theorem State.decideWord_maps (s : State) (x : InWord) : (State.decideWord s x).tly.maps = s.tly.maps := by
  unfold State.decideWord; dsimp only; (repeat' split) <;> simp [apply_ite Tly.maps, apply_ite Prod.fst, apply_ite Prod.snd]

@[simp] theorem State.decideAll_maps (f : Nat) (s : State) : (State.decideAll f s).tly.maps = s.tly.maps := by
  induction f generalizing s with
  | zero => simp [State.decideAll]
  | succ k ih => unfold State.decideAll; dsimp only; (repeat' split) <;> simp [ih, apply_ite Tly.maps, apply_ite Prod.fst, apply_ite Prod.snd]

@[simp] theorem State.admIn_maps (s : State) (x : InWord) : (State.admIn s x).tly.maps = s.tly.maps := by
  unfold State.admIn; simp [apply_ite Tly.maps, apply_ite Prod.fst, apply_ite Prod.snd, apply_dite Tly.maps]

@[simp] theorem State.grantLeft_maps (s : State) (i r n : Nat) : (State.grantLeft s i r n).tly.maps = s.tly.maps := by
  unfold State.grantLeft; simp [apply_ite Tly.maps, apply_ite Prod.fst, apply_ite Prod.snd, apply_dite Tly.maps]

@[simp] theorem State.leave_maps (s : State) (o : OutWord) : (State.leave s o).tly.maps = s.tly.maps := by
  unfold State.leave; split <;> simp [apply_ite Tly.maps, apply_ite Prod.fst, apply_ite Prod.snd]

@[simp] theorem State.armRail_maps (s : State) (r : Nat) : (State.armRail s r).tly.maps = s.tly.maps := by
  unfold State.armRail; simp [apply_ite Tly.maps, apply_ite Prod.fst, apply_ite Prod.snd, apply_dite Tly.maps]

@[simp] theorem State.freeRow_maps (s : State) (i : Nat) : (State.freeRow s i).tly.maps = s.tly.maps := by
  unfold State.freeRow; simp [apply_ite Tly.maps, apply_ite Prod.fst, apply_ite Prod.snd, apply_dite Tly.maps]

@[simp] theorem State.unannEnd_maps (s : State) (r : Nat) : (State.unannEnd s r).tly.maps = s.tly.maps := by
  unfold State.unannEnd; simp [apply_ite Tly.maps, apply_ite Prod.fst, apply_ite Prod.snd, apply_dite Tly.maps]

@[simp] theorem State.polDown_maps (s : State) (r : Nat) : (State.polDown s r).tly.maps = s.tly.maps := by
  unfold State.polDown; simp [apply_ite Tly.maps, apply_ite Prod.fst, apply_ite Prod.snd, apply_dite Tly.maps]

@[simp] theorem State.police_maps (s : State) (r iMeas : Nat) : (State.police s r iMeas).tly.maps = s.tly.maps := by
  unfold State.police; simp [apply_ite Tly.maps, apply_ite Prod.fst, apply_ite Prod.snd, apply_dite Tly.maps]

@[simp] theorem State.harvestBegin_maps (s : State) (r : Nat) : (State.harvestBegin s r).tly.maps = s.tly.maps := by
  unfold State.harvestBegin; simp [apply_ite Tly.maps, apply_ite Prod.fst, apply_ite Prod.snd, apply_dite Tly.maps]

@[simp] theorem State.harvestCheck_maps (s : State) (r : Nat) : (State.harvestCheck s r).tly.maps = s.tly.maps := by
  unfold State.harvestCheck; simp [apply_ite Tly.maps, apply_ite Prod.fst, apply_ite Prod.snd, apply_dite Tly.maps]

@[simp] theorem State.closeRow_maps (s : State) (i : Nat) : (State.closeRow s i).2.tly.maps = s.tly.maps := by
  unfold State.closeRow; simp [apply_ite Tly.maps, apply_ite Prod.fst, apply_ite Prod.snd, apply_dite Tly.maps]

@[simp] theorem State.closeRows_maps (s : State) : (State.closeRows s).tly.maps = s.tly.maps := by
  unfold State.closeRows; dsimp only; simp only [State.outRise_maps]; exact foldl_proj (fun (x : List OutWord × State) => x.2.tly.maps) _ (by intro s a; simp) _ _

@[simp] theorem State.tlyBoundary_maps (s : State) (num : Nat) : (State.tlyBoundary s num).tly.maps = s.tly.maps := by
  unfold State.tlyBoundary; simp [apply_ite Tly.maps, apply_ite Prod.fst, apply_ite Prod.snd, apply_dite Tly.maps]

@[simp] theorem State.takeBase_maps (s : State) (r : Nat) : (State.takeBase s r).tly.maps = s.tly.maps := by
  unfold State.takeBase; dsimp only; (repeat' split) <;> simp [apply_ite Tly.maps, apply_ite Prod.fst, apply_ite Prod.snd]

@[simp] theorem State.audit_maps (s : State) : (State.audit s).tly.maps = s.tly.maps := by
  unfold State.audit; simp [apply_ite Tly.maps, apply_ite Prod.fst, apply_ite Prod.snd, apply_dite Tly.maps]

@[simp] theorem State.testRow_mapsWf (s : State) (bad : List Nat) (i : Nat) (h : memWf 0 s.tly.maps = true) : memWf 0 (State.testRow s bad i).tly.maps = true := by
  unfold State.testRow; simp +contextual [h, apply_ite Tly.maps, apply_ite Prod.fst, apply_ite Prod.snd, apply_ite (memWf (0)), warmTlyPage]

@[simp] theorem State.drainRows_mapsWf (s : State) (bad : List Nat) (h : memWf 0 s.tly.maps = true) : memWf 0 (State.drainRows s bad).tly.maps = true := by
  unfold State.drainRows; exact keep_foldl (P := fun (x : State) => memWf 0 x.tly.maps = true) (by intro s a h; simp [h]) _ (keep_foldl (P := fun (x : State) => memWf 0 x.tly.maps = true) (by intro s a h; simp [h]) _ (h))

@[simp] theorem State.drainRail_maps (moved : Nat → Bool) (s : State) (r : Nat) : (State.drainRail moved s r).tly.maps = s.tly.maps := by
  unfold State.drainRail; simp [apply_ite Tly.maps, apply_ite Prod.fst, apply_ite Prod.snd, apply_dite Tly.maps]

@[simp] theorem State.drainEnd_mapsWf (s : State) (bad : List Nat) (h : memWf 0 s.tly.maps = true) : memWf 0 (State.drainEnd s bad).tly.maps = true := by
  unfold State.drainEnd; simp +contextual [h, apply_ite Tly.maps, apply_ite Prod.fst, apply_ite Prod.snd, apply_ite (memWf (0)), warmTlyPage]

@[simp] theorem State.pgLost_maps (s : State) (d : Nat) : (State.pgLost s d).tly.maps = s.tly.maps := by
  unfold State.pgLost; simp [apply_ite Tly.maps, apply_ite Prod.fst, apply_ite Prod.snd, apply_dite Tly.maps]

@[simp] theorem State.sleepClose_maps (s : State) (d : Nat) : (State.sleepClose s d).tly.maps = s.tly.maps := by
  unfold State.sleepClose; simp [apply_ite Tly.maps, apply_ite Prod.fst, apply_ite Prod.snd, apply_dite Tly.maps]

@[simp] theorem State.forceOff_maps (s : State) (d : Nat) : (State.forceOff s d).tly.maps = s.tly.maps := by
  unfold State.forceOff; simp [apply_ite Tly.maps, apply_ite Prod.fst, apply_ite Prod.snd, apply_dite Tly.maps]

@[simp] theorem State.forceOffAll_maps (s : State) : (State.forceOffAll s).tly.maps = s.tly.maps := by
  unfold State.forceOffAll; simp [apply_ite Tly.maps, apply_ite Prod.fst, apply_ite Prod.snd, apply_dite Tly.maps]

@[simp] theorem State.orderlyOne_maps (s : State) (d : Nat) : (State.orderlyOne s d).tly.maps = s.tly.maps := by
  unfold State.orderlyOne; split <;> simp [apply_ite Tly.maps, apply_ite Prod.fst, apply_ite Prod.snd]

@[simp] theorem State.orderlyGo_maps (f : Nat) (s : State) : (State.orderlyGo f s).tly.maps = s.tly.maps := by
  induction f generalizing s with
  | zero => simp [State.orderlyGo]
  | succ k ih => unfold State.orderlyGo; dsimp only; (repeat' split) <;> simp [ih, apply_ite Tly.maps, apply_ite Prod.fst, apply_ite Prod.snd]

@[simp] theorem State.orderlyStart_maps (s : State) : (State.orderlyStart s).tly.maps = s.tly.maps := by
  unfold State.orderlyStart; simp [apply_ite Tly.maps, apply_ite Prod.fst, apply_ite Prod.snd, apply_dite Tly.maps]

@[simp] theorem State.domForceOff_maps (s : State) (d : Nat) : (State.domForceOff s d).tly.maps = s.tly.maps := by
  unfold State.domForceOff; simp [apply_ite Tly.maps, apply_ite Prod.fst, apply_ite Prod.snd, apply_dite Tly.maps]

@[simp] theorem State.tripRows_maps (s : State) : (State.tripRows s).tly.maps = s.tly.maps := by
  unfold State.tripRows; simp [apply_ite Tly.maps, apply_ite Prod.fst, apply_ite Prod.snd, apply_dite Tly.maps]

@[simp] theorem State.trip_maps (s : State) (cause src value : Nat) : (State.trip s cause src value).tly.maps = s.tly.maps := by
  unfold State.trip; simp [apply_ite Tly.maps, apply_ite Prod.fst, apply_ite Prod.snd, apply_dite Tly.maps]

@[simp] theorem State.ovTrip_maps (s : State) (r vUv : Nat) : (State.ovTrip s r vUv).tly.maps = s.tly.maps := by
  unfold State.ovTrip; simp [apply_ite Tly.maps, apply_ite Prod.fst, apply_ite Prod.snd, apply_dite Tly.maps]

@[simp] theorem State.railSample_maps (s : State) (r : Nat) : (State.railSample s r).tly.maps = s.tly.maps := by
  unfold State.railSample; simp [apply_ite Tly.maps, apply_ite Prod.fst, apply_ite Prod.snd, apply_dite Tly.maps]

@[simp] theorem State.xactAcked_maps (s : State) (x : VrgXact) (ns : Nat) : (State.xactAcked s x ns).tly.maps = s.tly.maps := by
  unfold State.xactAcked; split <;> simp [apply_ite Tly.maps, apply_ite Prod.fst, apply_ite Prod.snd]

@[simp] theorem State.goodWord_maps (s : State) (r d : Nat) : (State.goodWord s r d).tly.maps = s.tly.maps := by
  unfold State.goodWord; simp [apply_ite Tly.maps, apply_ite Prod.fst, apply_ite Prod.snd, apply_dite Tly.maps]

@[simp] theorem State.stretchBegin_maps (s : State) (r : Nat) : (State.stretchBegin s r).tly.maps = s.tly.maps := by
  unfold State.stretchBegin; simp [apply_ite Tly.maps, apply_ite Prod.fst, apply_ite Prod.snd, apply_dite Tly.maps]

@[simp] theorem State.shutdown_maps (s : State) (cause src : Nat) (value : Int) : (State.shutdown s cause src value).tly.maps = s.tly.maps := by
  unfold State.shutdown; simp [apply_ite Tly.maps, apply_ite Prod.fst, apply_ite Prod.snd, apply_dite Tly.maps]

@[simp] theorem State.sweepCauses_maps (s : State) : (State.sweepCauses s).tly.maps = s.tly.maps := by
  unfold State.sweepCauses; exact (foldl_proj (fun (x : State) => x.tly.maps) _ (by intro s a; dsimp only; (repeat' split) <;> simp) _ _).trans (foldl_proj (fun (x : State) => x.tly.maps) _ (by intro s a; dsimp only; (repeat' split) <;> simp) _ _)

@[simp] theorem State.dwellCause_maps (s : State) : (State.dwellCause s).tly.maps = s.tly.maps := by
  unfold State.dwellCause; exact foldl_proj (fun (x : State) => x.tly.maps) _ (by intro s a; dsimp only; (repeat' split) <;> simp) _ _

@[simp] theorem State.stepCauses_maps (s : State) : (State.stepCauses s).tly.maps = s.tly.maps := by
  unfold State.stepCauses; exact foldl_proj (fun (x : State) => x.tly.maps) _ (by intro s a; dsimp only; (repeat' split) <;> simp) _ _

@[simp] theorem State.tripGroup_maps (s : State) (g : Nat) : (State.tripGroup s g).tly.maps = s.tly.maps := by
  unfold State.tripGroup; simp [apply_ite Tly.maps, apply_ite Prod.fst, apply_ite Prod.snd, apply_dite Tly.maps]

@[simp] theorem State.tripRate_maps (prev : List Nat) (t : Nat) (s : State) (g : Nat) : (State.tripRate prev t s g).tly.maps = s.tly.maps := by
  unfold State.tripRate; dsimp only; (repeat' split) <;> simp [apply_ite Tly.maps, apply_ite Prod.fst, apply_ite Prod.snd]

@[simp] theorem State.tripStack_maps (s : State) (k : Nat) : (State.tripStack s k).tly.maps = s.tly.maps := by
  unfold State.tripStack; simp [apply_ite Tly.maps, apply_ite Prod.fst, apply_ite Prod.snd, apply_dite Tly.maps]

set_option maxRecDepth 8000 in
@[simp] theorem State.thermalTrips_maps (s : State) (prev : List Nat) (t : Nat) : (State.thermalTrips s prev t).tly.maps = s.tly.maps := by
  unfold State.thermalTrips; simp [apply_ite Tly.maps, apply_ite Prod.fst, apply_ite Prod.snd, apply_dite Tly.maps]

@[simp] theorem State.received_maps (s : State) (d : Dir) (m : BitVec 128) (typ : Nat) (f : State → State) (h : ∀ s, (f s).tly.maps = s.tly.maps) : (State.received s d m typ f).tly.maps = s.tly.maps := by
  simp [State.received, h, apply_ite Prod.fst, apply_ite Prod.snd, apply_ite Tly.maps]

@[simp] theorem State.received_mapsWf (s : State) (d : Dir) (m : BitVec 128) (typ : Nat) (f : State → State) (ha : ∀ s, memWf 0 s.tly.maps = true → memWf 0 (f s).tly.maps = true) (h : memWf 0 s.tly.maps = true) : memWf 0 (State.received s d m typ f).tly.maps = true := by
  simp [State.received, h, ha, apply_ite Tly.maps, apply_ite Prod.fst, apply_ite Prod.snd, apply_ite (memWf (0))]

@[simp] theorem State.parentTake_maps (s : State) (f : KFrame) (act : State → State) (h : ∀ s, (act s).tly.maps = s.tly.maps) : (State.parentTake s f act).2.tly.maps = s.tly.maps := by
  simp [State.parentTake, h, apply_ite Prod.fst, apply_ite Prod.snd, apply_ite Tly.maps]

@[simp] theorem State.parentTake_mapsWf (s : State) (f : KFrame) (act : State → State) (ha : ∀ s, memWf 0 s.tly.maps = true → memWf 0 (act s).tly.maps = true) (h : memWf 0 s.tly.maps = true) : memWf 0 (State.parentTake s f act).2.tly.maps = true := by
  simp [State.parentTake, h, ha, apply_ite Tly.maps, apply_ite Prod.fst, apply_ite Prod.snd, apply_ite (memWf (0))]

@[simp] theorem State.scrubBad_maps (s : State) (k a w : Nat) (again : Bool) : (State.scrubBad s k a w again).tly.maps = s.tly.maps := by
  unfold State.scrubBad; (repeat' split) <;> simp [apply_ite Tly.maps, apply_ite Prod.fst, apply_ite Prod.snd]

@[simp] theorem State.switchIn_maps (s : State) (im : Image) : (State.switchIn s im).tly.maps = s.tly.maps := by
  unfold State.switchIn; simp [apply_ite Tly.maps, apply_ite Prod.fst, apply_ite Prod.snd, apply_dite Tly.maps]

@[simp] theorem State.activationStep_maps (s : State) : (State.activationStep s).tly.maps = s.tly.maps := by
  unfold State.activationStep; dsimp only; (repeat' split) <;> simp [apply_ite Tly.maps, apply_ite Prod.fst, apply_ite Prod.snd]

@[simp] theorem State.sampleRail_maps (s : State) (r : Nat) : (State.sampleRail s r).tly.maps = s.tly.maps := by
  unfold State.sampleRail; simp [apply_ite Tly.maps, apply_ite Prod.fst, apply_ite Prod.snd, apply_dite Tly.maps]

@[simp] theorem State.baseSamples_maps (s : State) : (State.baseSamples s).tly.maps = s.tly.maps := by
  unfold State.baseSamples; simp [apply_ite Tly.maps, apply_ite Prod.fst, apply_ite Prod.snd, apply_dite Tly.maps]

@[simp] theorem State.tickEnd_maps (s : State) : (State.tickEnd s).tly.maps = s.tly.maps := by
  unfold State.tickEnd; simp [apply_ite Tly.maps, apply_ite Prod.fst, apply_ite Prod.snd, apply_dite Tly.maps]

@[simp] theorem State.boundary_maps (s : State) (num : Nat) (gov : Bool) : (State.boundary s num gov).tly.maps = s.tly.maps := by
  unfold State.boundary; simp [apply_ite Tly.maps, apply_ite Prod.fst, apply_ite Prod.snd, apply_dite Tly.maps]

@[simp] theorem State.startRowLost_maps (s : State) (i : Nat) : (State.startRowLost s i).tly.maps = s.tly.maps := by
  unfold State.startRowLost; simp [apply_ite Tly.maps, apply_ite Prod.fst, apply_ite Prod.snd, apply_dite Tly.maps]

@[simp] theorem State.warmPages_mapsWf (s : State) (h : memWf 0 s.tly.maps = true) : memWf 0 (State.warmPages s).tly.maps = true := by
  unfold State.warmPages; simp +contextual [h, apply_ite Tly.maps, apply_ite Prod.fst, apply_ite Prod.snd, apply_ite (memWf (0)), warmTlyPage]

@[simp] theorem State.warmReset_mapsWf (s : State) (h : memWf 0 s.tly.maps = true) : memWf 0 (State.warmReset s).tly.maps = true := by
  unfold State.warmReset; simp +contextual [h, apply_ite Tly.maps, apply_ite Prod.fst, apply_ite Prod.snd, apply_ite (memWf (0)), warmTlyPage]

@[simp] theorem State.warmExit_maps (s : State) : (State.warmExit s).tly.maps = s.tly.maps := by
  unfold State.warmExit; simp [apply_ite Tly.maps, apply_ite Prod.fst, apply_ite Prod.snd, apply_dite Tly.maps]

@[simp] theorem State.keyedWrite_maps (s : State) (p : Fin 23) (off data : Nat) (refused : State → Bool) (act : State → State) (h : ∀ s, (act s).tly.maps = s.tly.maps) : (State.keyedWrite s p off data refused act).1.tly.maps = s.tly.maps := by
  simp [State.keyedWrite, h, apply_ite Prod.fst, apply_ite Prod.snd, apply_ite Tly.maps]

@[simp] theorem State.keyedWrite_mapsWf (s : State) (p : Fin 23) (off data : Nat) (refused : State → Bool) (act : State → State) (ha : ∀ s, memWf 0 s.tly.maps = true → memWf 0 (act s).tly.maps = true) (h : memWf 0 s.tly.maps = true) : memWf 0 (State.keyedWrite s p off data refused act).1.tly.maps = true := by
  simp [State.keyedWrite, h, ha, apply_ite Tly.maps, apply_ite Prod.fst, apply_ite Prod.snd, apply_ite (memWf (0))]

@[simp] theorem State.rowSnapshot_maps (s : State) (data : Nat) : (State.rowSnapshot s data).tly.maps = s.tly.maps := by
  unfold State.rowSnapshot; simp [apply_ite Tly.maps, apply_ite Prod.fst, apply_ite Prod.snd, apply_dite Tly.maps]

@[simp] theorem writeTly_maps (s : State) (off data : Nat) : (writeTly s off data).1.tly.maps = s.tly.maps := by
  unfold writeTly; split <;> simp [apply_ite Tly.maps, apply_ite Prod.fst, apply_ite Prod.snd]

@[simp] theorem writeDom_maps (s : State) (off data : Nat) : (writeDom s off data).1.tly.maps = s.tly.maps := by
  unfold writeDom; (repeat' split) <;> first | (simp; done) | (apply State.keyedWrite_maps; intro s; (repeat' split) <;> simp)

@[simp] theorem writeReg_maps (s : State) (p : Fin 23) (off data : Nat) : (writeReg s p off data).1.tly.maps = s.tly.maps := by
  unfold writeReg; (repeat' split) <;> simp [apply_ite Tly.maps, apply_ite Prod.fst, apply_ite Prod.snd]

@[simp] theorem State.driverCold_maps (s : State) (p : Fin 23) (off : Nat) : (State.driverCold s p off).tly.maps = s.tly.maps := by
  unfold State.driverCold; dsimp only; (repeat' split) <;> simp [apply_ite Tly.maps, apply_ite Prod.fst, apply_ite Prod.snd]

end Sys2Proof.Machine
end

