-- ==== Sys2Proof/Laws/KeepRows.lean ====
section
/-! SUPPORT. The tally rows (R161): each operation leaves them as they are, or keeps their canonical form. -/

set_option linter.unusedSimpArgs false

namespace Sys2Proof.Machine

open Sys2Proof

@[simp] theorem foldl_rows {α : Type} (f : State → α → State) (h : ∀ s a, (f s a).tly.rows = s.tly.rows) (l : List α) (s : State) : (l.foldl f s).tly.rows = s.tly.rows :=
  foldl_proj (fun (x : State) => x.tly.rows) f h l s

@[simp] theorem foldl_rowsWf {α : Type} (f : State → α → State) (h : ∀ s a, memWf 0 s.tly.rows = true → memWf 0 (f s a).tly.rows = true) (l : List α) (s : State) (hs : memWf 0 s.tly.rows = true) : memWf 0 (l.foldl f s).tly.rows = true :=
  keep_foldl (P := fun (x : State) => memWf 0 x.tly.rows = true) h l hs

@[simp] theorem State.setRow_rowsWf (s : State) (i w : Nat) (h : memWf 0 s.tly.rows = true) : memWf 0 (State.setRow s i w).tly.rows = true := by
  unfold State.setRow; simp +contextual [h, apply_ite Tly.rows, apply_ite Prod.fst, apply_ite Prod.snd, apply_ite (memWf (0)), warmTlyPage]

@[simp] theorem State.outRise_rows (s : State) : (State.outRise s).tly.rows = s.tly.rows := by
  unfold State.outRise; dsimp only; (repeat' split) <;> simp [apply_ite Tly.rows, apply_ite Prod.fst, apply_ite Prod.snd]

@[simp] theorem State.sendWord_rows (s : State) (w : Nat) (row : Option Nat) : (State.sendWord s w row).tly.rows = s.tly.rows := by
  unfold State.sendWord; simp [apply_ite Tly.rows, apply_ite Prod.fst, apply_ite Prod.snd, apply_dite Tly.rows]

@[simp] theorem State.refuse_rows (s : State) (unit tag code seqn : Nat) (tagv : Bool) (retry : Nat) : (State.refuse s unit tag code seqn tagv retry).tly.rows = s.tly.rows := by
  unfold State.refuse; simp [apply_ite Tly.rows, apply_ite Prod.fst, apply_ite Prod.snd, apply_dite Tly.rows]

@[simp] theorem State.book_rows (s : State) (r : Nat) (f : Nat → Nat) : (State.book s r f).tly.rows = s.tly.rows := by
  unfold State.book; simp [apply_ite Tly.rows, apply_ite Prod.fst, apply_ite Prod.snd, apply_dite Tly.rows]

@[simp] theorem State.retire_rowsWf (s : State) (i : Nat) (h : memWf 0 s.tly.rows = true) : memWf 0 (State.retire s i).tly.rows = true := by
  unfold State.retire; simp +contextual [h, apply_ite Tly.rows, apply_ite Prod.fst, apply_ite Prod.snd, apply_ite (memWf (0)), warmTlyPage]

@[simp] theorem State.withdraw_rowsWf (s : State) (i code retry : Nat) (h : memWf 0 s.tly.rows = true) : memWf 0 (State.withdraw s i code retry).tly.rows = true := by
  unfold State.withdraw; simp +contextual [h, apply_ite Tly.rows, apply_ite Prod.fst, apply_ite Prod.snd, apply_ite (memWf (0)), warmTlyPage]

@[simp] theorem State.retireDomain_rowsWf (s : State) (d : Nat) (h : memWf 0 s.tly.rows = true) : memWf 0 (State.retireDomain s d).tly.rows = true := by
  unfold State.retireDomain; simp +contextual [h, apply_ite Tly.rows, apply_ite Prod.fst, apply_ite Prod.snd, apply_ite (memWf (0)), warmTlyPage]

@[simp] theorem State.rowFault_rowsWf (s : State) (i : Nat) (h : memWf 0 s.tly.rows = true) : memWf 0 (State.rowFault s i).tly.rows = true := by
  unfold State.rowFault; simp +contextual [h, apply_ite Tly.rows, apply_ite Prod.fst, apply_ite Prod.snd, apply_ite (memWf (0)), warmTlyPage]

@[simp] theorem State.cntFault_rows (s : State) (r : Nat) : (State.cntFault s r).tly.rows = s.tly.rows := by
  unfold State.cntFault; simp [apply_ite Tly.rows, apply_ite Prod.fst, apply_ite Prod.snd, apply_dite Tly.rows]

@[simp] theorem State.grant_rowsWf (s : State) (w i n : Nat) (h : memWf 0 s.tly.rows = true) : memWf 0 (State.grant s w i n).tly.rows = true := by
  unfold State.grant; simp +contextual [h, apply_ite Tly.rows, apply_ite Prod.fst, apply_ite Prod.snd, apply_ite (memWf (0)), warmTlyPage]

@[simp] theorem State.decideRequest_rowsWf (s : State) (w : Nat) (h : memWf 0 s.tly.rows = true) : memWf 0 (State.decideRequest s w).tly.rows = true := by
  unfold State.decideRequest; dsimp only; (repeat' split) <;> simp [h, apply_ite Tly.rows, apply_ite Prod.fst, apply_ite Prod.snd, apply_ite (memWf (0))]

@[simp] theorem State.decideRelease_rowsWf (s : State) (w : Nat) (h : memWf 0 s.tly.rows = true) : memWf 0 (State.decideRelease s w).tly.rows = true := by
  unfold State.decideRelease; split <;> simp [h, apply_ite Tly.rows, apply_ite Prod.fst, apply_ite Prod.snd, apply_ite (memWf (0))]

@[simp] theorem State.decideTransfer_rowsWf (s : State) (w : Nat) (h : memWf 0 s.tly.rows = true) : memWf 0 (State.decideTransfer s w).tly.rows = true := by
  unfold State.decideTransfer; split <;> simp [h, apply_ite Tly.rows, apply_ite Prod.fst, apply_ite Prod.snd, apply_ite (memWf (0))]

@[simp] theorem State.decideParity_rows (s : State) (w : Nat) : (State.decideParity s w).tly.rows = s.tly.rows := by
  unfold State.decideParity; simp [apply_ite Tly.rows, apply_ite Prod.fst, apply_ite Prod.snd, apply_dite Tly.rows]

@[simp] theorem State.decideWord_rowsWf (s : State) (x : InWord) (h : memWf 0 s.tly.rows = true) : memWf 0 (State.decideWord s x).tly.rows = true := by
  unfold State.decideWord; dsimp only; (repeat' split) <;> simp [h, apply_ite Tly.rows, apply_ite Prod.fst, apply_ite Prod.snd, apply_ite (memWf (0))]

@[simp] theorem State.decideAll_rowsWf (f : Nat) (s : State) (h : memWf 0 s.tly.rows = true) : memWf 0 (State.decideAll f s).tly.rows = true := by
  induction f generalizing s with
  | zero => simpa [State.decideAll] using h
  | succ k ih => unfold State.decideAll; dsimp only; (repeat' split) <;> simp [ih, h, apply_ite Tly.rows, apply_ite Prod.fst, apply_ite Prod.snd]

@[simp] theorem State.admIn_rowsWf (s : State) (x : InWord) (h : memWf 0 s.tly.rows = true) : memWf 0 (State.admIn s x).tly.rows = true := by
  unfold State.admIn; simp +contextual [h, apply_ite Tly.rows, apply_ite Prod.fst, apply_ite Prod.snd, apply_ite (memWf (0)), warmTlyPage]

@[simp] theorem State.grantLeft_rows (s : State) (i r n : Nat) : (State.grantLeft s i r n).tly.rows = s.tly.rows := by
  unfold State.grantLeft; simp [apply_ite Tly.rows, apply_ite Prod.fst, apply_ite Prod.snd, apply_dite Tly.rows]

@[simp] theorem State.leave_rowsWf (s : State) (o : OutWord) (h : memWf 0 s.tly.rows = true) : memWf 0 (State.leave s o).tly.rows = true := by
  unfold State.leave; split <;> simp [h, apply_ite Tly.rows, apply_ite Prod.fst, apply_ite Prod.snd, apply_ite (memWf (0))]

@[simp] theorem State.armRail_rows (s : State) (r : Nat) : (State.armRail s r).tly.rows = s.tly.rows := by
  unfold State.armRail; simp [apply_ite Tly.rows, apply_ite Prod.fst, apply_ite Prod.snd, apply_dite Tly.rows]

@[simp] theorem State.freeRow_rowsWf (s : State) (i : Nat) (h : memWf 0 s.tly.rows = true) : memWf 0 (State.freeRow s i).tly.rows = true := by
  unfold State.freeRow; simp +contextual [h, apply_ite Tly.rows, apply_ite Prod.fst, apply_ite Prod.snd, apply_ite (memWf (0)), warmTlyPage]

@[simp] theorem State.unannEnd_rows (s : State) (r : Nat) : (State.unannEnd s r).tly.rows = s.tly.rows := by
  unfold State.unannEnd; simp [apply_ite Tly.rows, apply_ite Prod.fst, apply_ite Prod.snd, apply_dite Tly.rows]

@[simp] theorem State.polDown_rows (s : State) (r : Nat) : (State.polDown s r).tly.rows = s.tly.rows := by
  unfold State.polDown; simp [apply_ite Tly.rows, apply_ite Prod.fst, apply_ite Prod.snd, apply_dite Tly.rows]

@[simp] theorem State.police_rows (s : State) (r iMeas : Nat) : (State.police s r iMeas).tly.rows = s.tly.rows := by
  unfold State.police; simp [apply_ite Tly.rows, apply_ite Prod.fst, apply_ite Prod.snd, apply_dite Tly.rows]

@[simp] theorem State.harvestBegin_rows (s : State) (r : Nat) : (State.harvestBegin s r).tly.rows = s.tly.rows := by
  unfold State.harvestBegin; simp [apply_ite Tly.rows, apply_ite Prod.fst, apply_ite Prod.snd, apply_dite Tly.rows]

@[simp] theorem State.harvestCheck_rows (s : State) (r : Nat) : (State.harvestCheck s r).tly.rows = s.tly.rows := by
  unfold State.harvestCheck; simp [apply_ite Tly.rows, apply_ite Prod.fst, apply_ite Prod.snd, apply_dite Tly.rows]

@[simp] theorem State.closeRow_rowsWf (s : State) (i : Nat) (h : memWf 0 s.tly.rows = true) : memWf 0 (State.closeRow s i).2.tly.rows = true := by
  unfold State.closeRow; simp +contextual [h, apply_ite Tly.rows, apply_ite Prod.fst, apply_ite Prod.snd, apply_ite (memWf (0)), warmTlyPage]

@[simp] theorem State.closeRows_rowsWf (s : State) (h : memWf 0 s.tly.rows = true) : memWf 0 (State.closeRows s).tly.rows = true := by
  unfold State.closeRows; dsimp only; simp only [State.outRise_rows]; exact keep_foldl (P := fun (x : List OutWord × State) => memWf 0 x.2.tly.rows = true) (by intro s a h; simp [h]) _ h

@[simp] theorem State.tlyBoundary_rowsWf (s : State) (num : Nat) (h : memWf 0 s.tly.rows = true) : memWf 0 (State.tlyBoundary s num).tly.rows = true := by
  unfold State.tlyBoundary; simp +contextual [h, apply_ite Tly.rows, apply_ite Prod.fst, apply_ite Prod.snd, apply_ite (memWf (0)), warmTlyPage]

@[simp] theorem State.takeBase_rows (s : State) (r : Nat) : (State.takeBase s r).tly.rows = s.tly.rows := by
  unfold State.takeBase; dsimp only; (repeat' split) <;> simp [apply_ite Tly.rows, apply_ite Prod.fst, apply_ite Prod.snd]

@[simp] theorem State.audit_rows (s : State) : (State.audit s).tly.rows = s.tly.rows := by
  unfold State.audit; simp [apply_ite Tly.rows, apply_ite Prod.fst, apply_ite Prod.snd, apply_dite Tly.rows]

@[simp] theorem State.testRow_rowsWf (s : State) (bad : List Nat) (i : Nat) (h : memWf 0 s.tly.rows = true) : memWf 0 (State.testRow s bad i).tly.rows = true := by
  unfold State.testRow; simp +contextual [h, apply_ite Tly.rows, apply_ite Prod.fst, apply_ite Prod.snd, apply_ite (memWf (0)), warmTlyPage]

@[simp] theorem State.drainRows_rowsWf (s : State) (bad : List Nat) (h : memWf 0 s.tly.rows = true) : memWf 0 (State.drainRows s bad).tly.rows = true := by
  unfold State.drainRows; exact keep_foldl (P := fun (x : State) => memWf 0 x.tly.rows = true) (by intro s a h; simp [h]) _ (keep_foldl (P := fun (x : State) => memWf 0 x.tly.rows = true) (by intro s a h; simp [h]) _ (h))

@[simp] theorem State.drainRail_rows (moved : Nat → Bool) (s : State) (r : Nat) : (State.drainRail moved s r).tly.rows = s.tly.rows := by
  unfold State.drainRail; simp [apply_ite Tly.rows, apply_ite Prod.fst, apply_ite Prod.snd, apply_dite Tly.rows]

@[simp] theorem State.drainEnd_rowsWf (s : State) (bad : List Nat) (h : memWf 0 s.tly.rows = true) : memWf 0 (State.drainEnd s bad).tly.rows = true := by
  unfold State.drainEnd; simp +contextual [h, apply_ite Tly.rows, apply_ite Prod.fst, apply_ite Prod.snd, apply_ite (memWf (0)), warmTlyPage]

@[simp] theorem State.pgLost_rowsWf (s : State) (d : Nat) (h : memWf 0 s.tly.rows = true) : memWf 0 (State.pgLost s d).tly.rows = true := by
  unfold State.pgLost; simp +contextual [h, apply_ite Tly.rows, apply_ite Prod.fst, apply_ite Prod.snd, apply_ite (memWf (0)), warmTlyPage]

@[simp] theorem State.sleepClose_rowsWf (s : State) (d : Nat) (h : memWf 0 s.tly.rows = true) : memWf 0 (State.sleepClose s d).tly.rows = true := by
  unfold State.sleepClose; simp +contextual [h, apply_ite Tly.rows, apply_ite Prod.fst, apply_ite Prod.snd, apply_ite (memWf (0)), warmTlyPage]

@[simp] theorem State.forceOff_rowsWf (s : State) (d : Nat) (h : memWf 0 s.tly.rows = true) : memWf 0 (State.forceOff s d).tly.rows = true := by
  unfold State.forceOff; simp +contextual [h, apply_ite Tly.rows, apply_ite Prod.fst, apply_ite Prod.snd, apply_ite (memWf (0)), warmTlyPage]

@[simp] theorem State.forceOffAll_rowsWf (s : State) (h : memWf 0 s.tly.rows = true) : memWf 0 (State.forceOffAll s).tly.rows = true := by
  unfold State.forceOffAll; simp +contextual [h, apply_ite Tly.rows, apply_ite Prod.fst, apply_ite Prod.snd, apply_ite (memWf (0)), warmTlyPage]

@[simp] theorem State.orderlyOne_rowsWf (s : State) (d : Nat) (h : memWf 0 s.tly.rows = true) : memWf 0 (State.orderlyOne s d).tly.rows = true := by
  unfold State.orderlyOne; split <;> simp [h, apply_ite Tly.rows, apply_ite Prod.fst, apply_ite Prod.snd, apply_ite (memWf (0))]

@[simp] theorem State.orderlyGo_rowsWf (f : Nat) (s : State) (h : memWf 0 s.tly.rows = true) : memWf 0 (State.orderlyGo f s).tly.rows = true := by
  induction f generalizing s with
  | zero => simpa [State.orderlyGo] using h
  | succ k ih =>
    unfold State.orderlyGo
    split
    · exact h
    · (repeat' split)
      · exact h
      · exact h
      · exact ih _ (keep_foldl (P := fun (x : State) => memWf 0 x.tly.rows = true) (by intro s a h; simp [h]) _ (h))

@[simp] theorem State.orderlyStart_rowsWf (s : State) (h : memWf 0 s.tly.rows = true) : memWf 0 (State.orderlyStart s).tly.rows = true := by
  unfold State.orderlyStart; exact State.orderlyGo_rowsWf _ _ (keep_foldl (P := fun (x : State) => memWf 0 x.tly.rows = true) (by intro s a h; simp [h]) _ (by simpa using h))

@[simp] theorem State.domForceOff_rowsWf (s : State) (d : Nat) (h : memWf 0 s.tly.rows = true) : memWf 0 (State.domForceOff s d).tly.rows = true := by
  unfold State.domForceOff; simp +contextual [h, apply_ite Tly.rows, apply_ite Prod.fst, apply_ite Prod.snd, apply_ite (memWf (0)), warmTlyPage]

@[simp] theorem State.tripRows_rowsWf (s : State) (h : memWf 0 s.tly.rows = true) : memWf 0 (State.tripRows s).tly.rows = true := by
  unfold State.tripRows; simp +contextual [h, apply_ite Tly.rows, apply_ite Prod.fst, apply_ite Prod.snd, apply_ite (memWf (0)), warmTlyPage]

@[simp] theorem State.trip_rowsWf (s : State) (cause src value : Nat) (h : memWf 0 s.tly.rows = true) : memWf 0 (State.trip s cause src value).tly.rows = true := by
  unfold State.trip; simp +contextual [h, apply_ite Tly.rows, apply_ite Prod.fst, apply_ite Prod.snd, apply_ite (memWf (0)), warmTlyPage]

@[simp] theorem State.ovTrip_rowsWf (s : State) (r vUv : Nat) (h : memWf 0 s.tly.rows = true) : memWf 0 (State.ovTrip s r vUv).tly.rows = true := by
  unfold State.ovTrip; simp +contextual [h, apply_ite Tly.rows, apply_ite Prod.fst, apply_ite Prod.snd, apply_ite (memWf (0)), warmTlyPage]

@[simp] theorem State.railSample_rowsWf (s : State) (r : Nat) (h : memWf 0 s.tly.rows = true) : memWf 0 (State.railSample s r).tly.rows = true := by
  unfold State.railSample; simp +contextual [h, apply_ite Tly.rows, apply_ite Prod.fst, apply_ite Prod.snd, apply_ite (memWf (0)), warmTlyPage]

@[simp] theorem State.xactAcked_rows (s : State) (x : VrgXact) (ns : Nat) : (State.xactAcked s x ns).tly.rows = s.tly.rows := by
  unfold State.xactAcked; split <;> simp [apply_ite Tly.rows, apply_ite Prod.fst, apply_ite Prod.snd]

@[simp] theorem State.goodWord_rowsWf (s : State) (r d : Nat) (h : memWf 0 s.tly.rows = true) : memWf 0 (State.goodWord s r d).tly.rows = true := by
  unfold State.goodWord; simp +contextual [h, apply_ite Tly.rows, apply_ite Prod.fst, apply_ite Prod.snd, apply_ite (memWf (0)), warmTlyPage]

@[simp] theorem State.stretchBegin_rows (s : State) (r : Nat) : (State.stretchBegin s r).tly.rows = s.tly.rows := by
  unfold State.stretchBegin; simp [apply_ite Tly.rows, apply_ite Prod.fst, apply_ite Prod.snd, apply_dite Tly.rows]

@[simp] theorem State.shutdown_rowsWf (s : State) (cause src : Nat) (value : Int) (h : memWf 0 s.tly.rows = true) : memWf 0 (State.shutdown s cause src value).tly.rows = true := by
  unfold State.shutdown; simp +contextual [h, apply_ite Tly.rows, apply_ite Prod.fst, apply_ite Prod.snd, apply_ite (memWf (0)), warmTlyPage]

@[simp] theorem State.sweepCauses_rowsWf (s : State) (h : memWf 0 s.tly.rows = true) : memWf 0 (State.sweepCauses s).tly.rows = true := by
  unfold State.sweepCauses; exact keep_foldl (P := fun (x : State) => memWf 0 x.tly.rows = true) (by intro s a h; dsimp only; (repeat' split) <;> simp [h]) _ (keep_foldl (P := fun (x : State) => memWf 0 x.tly.rows = true) (by intro s a h; dsimp only; (repeat' split) <;> simp [h]) _ h)

@[simp] theorem State.dwellCause_rowsWf (s : State) (h : memWf 0 s.tly.rows = true) : memWf 0 (State.dwellCause s).tly.rows = true := by
  unfold State.dwellCause; exact keep_foldl (P := fun (x : State) => memWf 0 x.tly.rows = true) (by intro s a h; dsimp only; (repeat' split) <;> simp [h]) _ h

@[simp] theorem State.stepCauses_rowsWf (s : State) (h : memWf 0 s.tly.rows = true) : memWf 0 (State.stepCauses s).tly.rows = true := by
  unfold State.stepCauses; exact keep_foldl (P := fun (x : State) => memWf 0 x.tly.rows = true) (by intro s a h; dsimp only; (repeat' split) <;> simp [h]) _ h

@[simp] theorem State.tripGroup_rowsWf (s : State) (g : Nat) (h : memWf 0 s.tly.rows = true) : memWf 0 (State.tripGroup s g).tly.rows = true := by
  unfold State.tripGroup; simp +contextual [h, apply_ite Tly.rows, apply_ite Prod.fst, apply_ite Prod.snd, apply_ite (memWf (0)), warmTlyPage]

@[simp] theorem State.tripRate_rowsWf (prev : List Nat) (t : Nat) (s : State) (g : Nat) (h : memWf 0 s.tly.rows = true) : memWf 0 (State.tripRate prev t s g).tly.rows = true := by
  unfold State.tripRate; dsimp only; (repeat' split) <;> simp [h, apply_ite Tly.rows, apply_ite Prod.fst, apply_ite Prod.snd, apply_ite (memWf (0))]

@[simp] theorem State.tripStack_rowsWf (s : State) (k : Nat) (h : memWf 0 s.tly.rows = true) : memWf 0 (State.tripStack s k).tly.rows = true := by
  unfold State.tripStack; simp +contextual [h, apply_ite Tly.rows, apply_ite Prod.fst, apply_ite Prod.snd, apply_ite (memWf (0)), warmTlyPage]

set_option maxRecDepth 8000 in
@[simp] theorem State.thermalTrips_rowsWf (s : State) (prev : List Nat) (t : Nat) (h : memWf 0 s.tly.rows = true) : memWf 0 (State.thermalTrips s prev t).tly.rows = true := by
  unfold State.thermalTrips; exact keep_foldl (P := fun (x : State) => memWf 0 x.tly.rows = true) (by intro s a h; simp [h]) _ (keep_foldl (P := fun (x : State) => memWf 0 x.tly.rows = true) (by intro s a h; simp [h]) _ (keep_foldl (P := fun (x : State) => memWf 0 x.tly.rows = true) (by intro s a h; simp [h]) _ (h)))

@[simp] theorem State.received_rows (s : State) (d : Dir) (m : BitVec 128) (typ : Nat) (f : State → State) (h : ∀ s, (f s).tly.rows = s.tly.rows) : (State.received s d m typ f).tly.rows = s.tly.rows := by
  simp [State.received, h, apply_ite Prod.fst, apply_ite Prod.snd, apply_ite Tly.rows]

@[simp] theorem State.received_rowsWf (s : State) (d : Dir) (m : BitVec 128) (typ : Nat) (f : State → State) (ha : ∀ s, memWf 0 s.tly.rows = true → memWf 0 (f s).tly.rows = true) (h : memWf 0 s.tly.rows = true) : memWf 0 (State.received s d m typ f).tly.rows = true := by
  simp [State.received, h, ha, apply_ite Tly.rows, apply_ite Prod.fst, apply_ite Prod.snd, apply_ite (memWf (0))]

@[simp] theorem State.parentTake_rows (s : State) (f : KFrame) (act : State → State) (h : ∀ s, (act s).tly.rows = s.tly.rows) : (State.parentTake s f act).2.tly.rows = s.tly.rows := by
  simp [State.parentTake, h, apply_ite Prod.fst, apply_ite Prod.snd, apply_ite Tly.rows]

@[simp] theorem State.parentTake_rowsWf (s : State) (f : KFrame) (act : State → State) (ha : ∀ s, memWf 0 s.tly.rows = true → memWf 0 (act s).tly.rows = true) (h : memWf 0 s.tly.rows = true) : memWf 0 (State.parentTake s f act).2.tly.rows = true := by
  simp [State.parentTake, h, ha, apply_ite Tly.rows, apply_ite Prod.fst, apply_ite Prod.snd, apply_ite (memWf (0))]

@[simp] theorem State.scrubBad_rowsWf (s : State) (k a w : Nat) (again : Bool) (h : memWf 0 s.tly.rows = true) : memWf 0 (State.scrubBad s k a w again).tly.rows = true := by
  unfold State.scrubBad; (repeat' split) <;> simp [h, apply_ite Tly.rows, apply_ite Prod.fst, apply_ite Prod.snd, apply_ite (memWf (0))]

@[simp] theorem State.switchIn_rows (s : State) (im : Image) : (State.switchIn s im).tly.rows = s.tly.rows := by
  unfold State.switchIn; simp [apply_ite Tly.rows, apply_ite Prod.fst, apply_ite Prod.snd, apply_dite Tly.rows]

@[simp] theorem State.activationStep_rows (s : State) : (State.activationStep s).tly.rows = s.tly.rows := by
  unfold State.activationStep; dsimp only; (repeat' split) <;> simp [apply_ite Tly.rows, apply_ite Prod.fst, apply_ite Prod.snd]

@[simp] theorem State.sampleRail_rowsWf (s : State) (r : Nat) (h : memWf 0 s.tly.rows = true) : memWf 0 (State.sampleRail s r).tly.rows = true := by
  unfold State.sampleRail; simp +contextual [h, apply_ite Tly.rows, apply_ite Prod.fst, apply_ite Prod.snd, apply_ite (memWf (0)), warmTlyPage]

@[simp] theorem State.baseSamples_rows (s : State) : (State.baseSamples s).tly.rows = s.tly.rows := by
  unfold State.baseSamples; simp [apply_ite Tly.rows, apply_ite Prod.fst, apply_ite Prod.snd, apply_dite Tly.rows]

@[simp] theorem State.tickEnd_rows (s : State) : (State.tickEnd s).tly.rows = s.tly.rows := by
  unfold State.tickEnd; simp [apply_ite Tly.rows, apply_ite Prod.fst, apply_ite Prod.snd, apply_dite Tly.rows]

@[simp] theorem State.boundary_rowsWf (s : State) (num : Nat) (gov : Bool) (h : memWf 0 s.tly.rows = true) : memWf 0 (State.boundary s num gov).tly.rows = true := by
  unfold State.boundary; simp +contextual [h, apply_ite Tly.rows, apply_ite Prod.fst, apply_ite Prod.snd, apply_ite (memWf (0)), warmTlyPage]

@[simp] theorem State.startRowLost_rowsWf (s : State) (i : Nat) (h : memWf 0 s.tly.rows = true) : memWf 0 (State.startRowLost s i).tly.rows = true := by
  unfold State.startRowLost; simp +contextual [h, apply_ite Tly.rows, apply_ite Prod.fst, apply_ite Prod.snd, apply_ite (memWf (0)), warmTlyPage]

@[simp] theorem State.warmPages_rowsWf (s : State) (h : memWf 0 s.tly.rows = true) : memWf 0 (State.warmPages s).tly.rows = true := by
  unfold State.warmPages; simp +contextual [h, apply_ite Tly.rows, apply_ite Prod.fst, apply_ite Prod.snd, apply_ite (memWf (0)), warmTlyPage]

@[simp] theorem State.warmReset_rowsWf (s : State) (h : memWf 0 s.tly.rows = true) : memWf 0 (State.warmReset s).tly.rows = true := by
  unfold State.warmReset; simp +contextual [h, apply_ite Tly.rows, apply_ite Prod.fst, apply_ite Prod.snd, apply_ite (memWf (0)), warmTlyPage]

@[simp] theorem State.warmExit_rows (s : State) : (State.warmExit s).tly.rows = s.tly.rows := by
  unfold State.warmExit; simp [apply_ite Tly.rows, apply_ite Prod.fst, apply_ite Prod.snd, apply_dite Tly.rows]

@[simp] theorem State.keyedWrite_rows (s : State) (p : Fin 23) (off data : Nat) (refused : State → Bool) (act : State → State) (h : ∀ s, (act s).tly.rows = s.tly.rows) : (State.keyedWrite s p off data refused act).1.tly.rows = s.tly.rows := by
  simp [State.keyedWrite, h, apply_ite Prod.fst, apply_ite Prod.snd, apply_ite Tly.rows]

@[simp] theorem State.keyedWrite_rowsWf (s : State) (p : Fin 23) (off data : Nat) (refused : State → Bool) (act : State → State) (ha : ∀ s, memWf 0 s.tly.rows = true → memWf 0 (act s).tly.rows = true) (h : memWf 0 s.tly.rows = true) : memWf 0 (State.keyedWrite s p off data refused act).1.tly.rows = true := by
  simp [State.keyedWrite, h, ha, apply_ite Tly.rows, apply_ite Prod.fst, apply_ite Prod.snd, apply_ite (memWf (0))]

@[simp] theorem State.rowSnapshot_rows (s : State) (data : Nat) : (State.rowSnapshot s data).tly.rows = s.tly.rows := by
  unfold State.rowSnapshot; simp [apply_ite Tly.rows, apply_ite Prod.fst, apply_ite Prod.snd, apply_dite Tly.rows]

@[simp] theorem writeTly_rows (s : State) (off data : Nat) : (writeTly s off data).1.tly.rows = s.tly.rows := by
  unfold writeTly; split <;> simp [apply_ite Tly.rows, apply_ite Prod.fst, apply_ite Prod.snd]

@[simp] theorem writeDom_rowsWf (s : State) (off data : Nat) (h : memWf 0 s.tly.rows = true) : memWf 0 (writeDom s off data).1.tly.rows = true := by
  unfold writeDom; (repeat' split) <;> first | (simp [h]; done) | (apply State.keyedWrite_rowsWf _ _ _ _ _ _ _ h; intro s h; (repeat' split) <;> simp [h])

@[simp] theorem writeReg_rowsWf (s : State) (p : Fin 23) (off data : Nat) (h : memWf 0 s.tly.rows = true) : memWf 0 (writeReg s p off data).1.tly.rows = true := by
  unfold writeReg; (repeat' split) <;> simp [h, apply_ite Tly.rows, apply_ite Prod.fst, apply_ite Prod.snd, apply_ite (memWf (0))]

@[simp] theorem State.driverCold_rows (s : State) (p : Fin 23) (off : Nat) : (State.driverCold s p off).tly.rows = s.tly.rows := by
  unfold State.driverCold; dsimp only; (repeat' split) <;> simp [apply_ite Tly.rows, apply_ite Prod.fst, apply_ite Prod.snd]

end Sys2Proof.Machine
end

