-- ==== Sys2Proof/Laws/KeepSlots.lean ====
section
/-! SUPPORT. The recorder slots (R506): each operation leaves them as they are, or keeps their canonical form. -/

set_option linter.unusedSimpArgs false

namespace Sys2Proof.Machine

open Sys2Proof

@[simp] theorem foldl_slots {α : Type} (f : State → α → State) (h : ∀ s a, (f s a).evt.slots = s.evt.slots) (l : List α) (s : State) : (l.foldl f s).evt.slots = s.evt.slots :=
  foldl_proj (fun (x : State) => x.evt.slots) f h l s

@[simp] theorem foldl_slotsWf {α : Type} (f : State → α → State) (h : ∀ s a, memWf 0 s.evt.slots = true → memWf 0 (f s a).evt.slots = true) (l : List α) (s : State) (hs : memWf 0 s.evt.slots = true) : memWf 0 (l.foldl f s).evt.slots = true :=
  keep_foldl (P := fun (x : State) => memWf 0 x.evt.slots = true) h l hs

@[simp] theorem State.enqueue_slots (s : State) (code : Nat) (suppr : Bool) (d : List Nat) : (State.enqueue s code suppr d).evt.slots = s.evt.slots := by
  unfold State.enqueue; simp [apply_ite Evt.slots, apply_ite Prod.fst, apply_ite Prod.snd, apply_dite Evt.slots]

@[simp] theorem State.event_slots (s : State) (code : Nat) (d : List Nat) : (State.event s code d).evt.slots = s.evt.slots := by
  unfold State.event; simp [apply_ite Evt.slots, apply_ite Prod.fst, apply_ite Prod.snd, apply_dite Evt.slots]

@[simp] theorem State.fault_slots (s : State) (p : Fin 23) (b code : Nat) (d : List Nat) : (State.fault s p b code d).evt.slots = s.evt.slots := by
  unfold State.fault; simp [apply_ite Evt.slots, apply_ite Prod.fst, apply_ite Prod.snd, apply_dite Evt.slots]

@[simp] theorem State.wordRetired_slots (s : State) (path index : Nat) : (State.wordRetired s path index).evt.slots = s.evt.slots := by
  unfold State.wordRetired; simp [apply_ite Evt.slots, apply_ite Prod.fst, apply_ite Prod.snd, apply_dite Evt.slots]

@[simp] theorem State.sendOut_slots (s : State) (c : Chan) (kind sub data : Nat) : (State.sendOut s c kind sub data).evt.slots = s.evt.slots := by
  unfold State.sendOut; simp [apply_ite Evt.slots, apply_ite Prod.fst, apply_ite Prod.snd, apply_dite Evt.slots]

@[simp] theorem State.notice_slots (s : State) (kind sub data : Nat) : (State.notice s kind sub data).evt.slots = s.evt.slots := by
  unfold State.notice; simp [apply_ite Evt.slots, apply_ite Prod.fst, apply_ite Prod.snd, apply_dite Evt.slots]

@[simp] theorem State.trcDropped_slots (s : State) (k typ : Nat) : (State.trcDropped s k typ).evt.slots = s.evt.slots := by
  unfold State.trcDropped; split <;> simp [apply_ite Evt.slots, apply_ite Prod.fst, apply_ite Prod.snd]

@[simp] theorem State.trcEvent_slots (s : State) (rec_ : Nat) : (State.trcEvent s rec_).evt.slots = s.evt.slots := by
  unfold State.trcEvent; simp [apply_ite Evt.slots, apply_ite Prod.fst, apply_ite Prod.snd, apply_dite Evt.slots]

@[simp] theorem State.putSlot_slotsWf (s : State) (k w : Nat) (h : memWf 0 s.evt.slots = true) : memWf 0 (State.putSlot s k w).evt.slots = true := by
  unfold State.putSlot; simp +contextual [h, apply_ite Evt.slots, apply_ite Prod.fst, apply_ite Prod.snd, apply_ite (memWf (0)), warmEvtPage]

@[simp] theorem State.freeze_slots (s : State) (cause : Nat) : (State.freeze s cause).evt.slots = s.evt.slots := by
  unfold State.freeze; simp [apply_ite Evt.slots, apply_ite Prod.fst, apply_ite Prod.snd, apply_dite Evt.slots]

@[simp] theorem State.unfreeze_slots (s : State) : (State.unfreeze s).evt.slots = s.evt.slots := by
  unfold State.unfreeze; simp [apply_ite Evt.slots, apply_ite Prod.fst, apply_ite Prod.snd, apply_dite Evt.slots]

@[simp] theorem State.freezeIfFull_slots (s : State) : (State.freezeIfFull s).evt.slots = s.evt.slots := by
  unfold State.freezeIfFull; simp [apply_ite Evt.slots, apply_ite Prod.fst, apply_ite Prod.snd, apply_dite Evt.slots]

@[simp] theorem State.flushEnd_slots (s : State) : (State.flushEnd s).evt.slots = s.evt.slots := by
  unfold State.flushEnd; simp [apply_ite Evt.slots, apply_ite Prod.fst, apply_ite Prod.snd, apply_dite Evt.slots]

@[simp] theorem State.flush_slots (s : State) : (State.flush s).evt.slots = s.evt.slots := by
  unfold State.flush; simp [apply_ite Evt.slots, apply_ite Prod.fst, apply_ite Prod.snd, apply_dite Evt.slots]

@[simp] theorem State.overflowRecord_slots (s : State) : (State.overflowRecord s).evt.slots = s.evt.slots := by
  unfold State.overflowRecord; simp [apply_ite Evt.slots, apply_ite Prod.fst, apply_ite Prod.snd, apply_dite Evt.slots]

@[simp] theorem State.recordDone_slotsWf (s : State) (e : EvtEntry) (k : Nat) (h : memWf 0 s.evt.slots = true) : memWf 0 (State.recordDone s e k).evt.slots = true := by
  unfold State.recordDone; simp +contextual [h, apply_ite Evt.slots, apply_ite Prod.fst, apply_ite Prod.snd, apply_ite (memWf (0)), warmEvtPage]

@[simp] theorem State.writeRecord_slotsWf (s : State) (e : EvtEntry) (h : memWf 0 s.evt.slots = true) : memWf 0 (State.writeRecord s e).evt.slots = true := by
  unfold State.writeRecord; simp +contextual [h, apply_ite Evt.slots, apply_ite Prod.fst, apply_ite Prod.snd, apply_ite (memWf (0)), warmEvtPage]

@[simp] theorem State.summary_slots (s : State) (ck : Nat × Nat) : (State.summary s ck).evt.slots = s.evt.slots := by
  unfold State.summary; simp [apply_ite Evt.slots, apply_ite Prod.fst, apply_ite Prod.snd, apply_dite Evt.slots]

@[simp] theorem State.suppMsEnd_slots (s : State) : (State.suppMsEnd s).evt.slots = s.evt.slots := by
  unfold State.suppMsEnd; simp [apply_ite Evt.slots, apply_ite Prod.fst, apply_ite Prod.snd, apply_dite Evt.slots]

@[simp] theorem State.placeholder_slotsWf (s : State) (row k : Nat) (h : memWf 0 s.evt.slots = true) : memWf 0 (State.placeholder s row k).evt.slots = true := by
  unfold State.placeholder; simp +contextual [h, apply_ite Evt.slots, apply_ite Prod.fst, apply_ite Prod.snd, apply_ite (memWf (0)), warmEvtPage]

@[simp] theorem State.recorderRowMoved_slotsWf (s : State) (row : Nat) (h : memWf 0 s.evt.slots = true) : memWf 0 (State.recorderRowMoved s row).evt.slots = true := by
  unfold State.recorderRowMoved; simp +contextual [h, apply_ite Evt.slots, apply_ite Prod.fst, apply_ite Prod.snd, apply_ite (memWf (0)), warmEvtPage]

@[simp] theorem State.recorderRowOut_slotsWf (s : State) (row : Nat) (h : memWf 0 s.evt.slots = true) : memWf 0 (State.recorderRowOut s row).evt.slots = true := by
  unfold State.recorderRowOut; simp +contextual [h, apply_ite Evt.slots, apply_ite Prod.fst, apply_ite Prod.snd, apply_ite (memWf (0)), warmEvtPage]

@[simp] theorem State.copySlot_slots (s : State) (k : Nat) : (State.copySlot s k).evt.slots = s.evt.slots := by
  unfold State.copySlot; simp [apply_ite Evt.slots, apply_ite Prod.fst, apply_ite Prod.snd, apply_dite Evt.slots]

@[simp] theorem State.writeEvtCfg_slots (s : State) (w : Nat) : (State.writeEvtCfg s w).evt.slots = s.evt.slots := by
  unfold State.writeEvtCfg; simp [apply_ite Evt.slots, apply_ite Prod.fst, apply_ite Prod.snd, apply_dite Evt.slots]

@[simp] theorem State.eraseStart_slots (s : State) : (State.eraseStart s).evt.slots = s.evt.slots := by
  unfold State.eraseStart; simp [apply_ite Evt.slots, apply_ite Prod.fst, apply_ite Prod.snd, apply_dite Evt.slots]

@[simp] theorem State.trcPop_slots (s : State) : (State.trcPop s).evt.slots = s.evt.slots := by
  unfold State.trcPop; split <;> simp [apply_ite Evt.slots, apply_ite Prod.fst, apply_ite Prod.snd]

@[simp] theorem State.settle_slots (s : State) (cause : Nat) : (State.settle s cause).evt.slots = s.evt.slots := by
  unfold State.settle; simp [apply_ite Evt.slots, apply_ite Prod.fst, apply_ite Prod.snd, apply_dite Evt.slots]

@[simp] theorem State.rxDomLost_slots (s : State) (c : Chan) (d : Nat) : (State.rxDomLost s c d).evt.slots = s.evt.slots := by
  unfold State.rxDomLost; simp [apply_ite Evt.slots, apply_ite Prod.fst, apply_ite Prod.snd, apply_dite Evt.slots]

@[simp] theorem State.rxOff_slots (s : State) (d : Nat) : (State.rxOff s d).evt.slots = s.evt.slots := by
  unfold State.rxOff; simp [apply_ite Evt.slots, apply_ite Prod.fst, apply_ite Prod.snd, apply_dite Evt.slots]

@[simp] theorem State.mbxLocalReset_slots (s : State) (c : Chan) : (State.mbxLocalReset s c).evt.slots = s.evt.slots := by
  unfold State.mbxLocalReset; simp [apply_ite Evt.slots, apply_ite Prod.fst, apply_ite Prod.snd, apply_dite Evt.slots]

@[simp] theorem State.blkEnd_slots (s : State) (c : Chan) (err : Nat) : (State.blkEnd s c err).evt.slots = s.evt.slots := by
  unfold State.blkEnd; simp [apply_ite Evt.slots, apply_ite Prod.fst, apply_ite Prod.snd, apply_dite Evt.slots]

@[simp] theorem State.abandonLoad_slots (s : State) (st : Nat) : (State.abandonLoad s st).evt.slots = s.evt.slots := by
  unfold State.abandonLoad; simp [apply_ite Evt.slots, apply_ite Prod.fst, apply_ite Prod.snd, apply_dite Evt.slots]

@[simp] theorem State.enterOrphan_slots (s : State) (cause : Nat) : (State.enterOrphan s cause).evt.slots = s.evt.slots := by
  unfold State.enterOrphan; simp [apply_ite Evt.slots, apply_ite Prod.fst, apply_ite Prod.snd, apply_dite Evt.slots]

@[simp] theorem State.heartbeatLost_slots (s : State) (cause : Nat) : (State.heartbeatLost s cause).evt.slots = s.evt.slots := by
  unfold State.heartbeatLost; simp [apply_ite Evt.slots, apply_ite Prod.fst, apply_ite Prod.snd, apply_dite Evt.slots]

@[simp] theorem State.leaveOrphan_slots (s : State) : (State.leaveOrphan s).evt.slots = s.evt.slots := by
  unfold State.leaveOrphan; simp [apply_ite Evt.slots, apply_ite Prod.fst, apply_ite Prod.snd, apply_dite Evt.slots]

@[simp] theorem State.beat_slots (s : State) (b : Nat) : (State.beat s b).evt.slots = s.evt.slots := by
  unfold State.beat; simp [apply_ite Evt.slots, apply_ite Prod.fst, apply_ite Prod.snd, apply_dite Evt.slots]

@[simp] theorem State.orphanStep_slots (s : State) : (State.orphanStep s).evt.slots = s.evt.slots := by
  unfold State.orphanStep; simp [apply_ite Evt.slots, apply_ite Prod.fst, apply_ite Prod.snd, apply_dite Evt.slots]

@[simp] theorem State.checkFailed_slots (s : State) (p : Fin 23) (off : Nat) : (State.checkFailed s p off).evt.slots = s.evt.slots := by
  unfold State.checkFailed; simp [apply_ite Evt.slots, apply_ite Prod.fst, apply_ite Prod.snd, apply_dite Evt.slots]

@[simp] theorem State.keyedCheck_slots (s : State) (p : Fin 23) (off data : Nat) : (State.keyedCheck s p off data).2.evt.slots = s.evt.slots := by
  unfold State.keyedCheck; split <;> simp [apply_ite Evt.slots, apply_ite Prod.fst, apply_ite Prod.snd]

@[simp] theorem State.anchor_slots (s : State) (restored : Bool) : (State.anchor s restored).evt.slots = s.evt.slots := by
  unfold State.anchor; simp [apply_ite Evt.slots, apply_ite Prod.fst, apply_ite Prod.snd, apply_dite Evt.slots]

@[simp] theorem State.intrStep_slots (s : State) (c : Nat) : (State.intrStep s c).evt.slots = s.evt.slots := by
  unfold State.intrStep; split <;> simp [apply_ite Evt.slots, apply_ite Prod.fst, apply_ite Prod.snd]

@[simp] theorem State.beamSettle_slots (s : State) : (State.beamSettle s).evt.slots = s.evt.slots := by
  unfold State.beamSettle; simp [apply_ite Evt.slots, apply_ite Prod.fst, apply_ite Prod.snd, apply_dite Evt.slots]

@[simp] theorem State.respBegin_slots (s : State) (r k rc : Nat) : (State.respBegin s r k rc).evt.slots = s.evt.slots := by
  unfold State.respBegin; simp [apply_ite Evt.slots, apply_ite Prod.fst, apply_ite Prod.snd, apply_dite Evt.slots]

@[simp] theorem State.respEnd_slots (s : State) (r k : Nat) : (State.respEnd s r k).evt.slots = s.evt.slots := by
  unfold State.respEnd; simp [apply_ite Evt.slots, apply_ite Prod.fst, apply_ite Prod.snd, apply_dite Evt.slots]

@[simp] theorem State.respRise_slots (s : State) (r k n : Nat) : (State.respRise s r k n).evt.slots = s.evt.slots := by
  unfold State.respRise; simp [apply_ite Evt.slots, apply_ite Prod.fst, apply_ite Prod.snd, apply_dite Evt.slots]

@[simp] theorem State.rowFault_slots (s : State) (i : Nat) : (State.rowFault s i).evt.slots = s.evt.slots := by
  unfold State.rowFault; simp [apply_ite Evt.slots, apply_ite Prod.fst, apply_ite Prod.snd, apply_dite Evt.slots]

@[simp] theorem State.cntFault_slots (s : State) (r : Nat) : (State.cntFault s r).evt.slots = s.evt.slots := by
  unfold State.cntFault; simp [apply_ite Evt.slots, apply_ite Prod.fst, apply_ite Prod.snd, apply_dite Evt.slots]

@[simp] theorem State.decideParity_slots (s : State) (w : Nat) : (State.decideParity s w).evt.slots = s.evt.slots := by
  unfold State.decideParity; simp [apply_ite Evt.slots, apply_ite Prod.fst, apply_ite Prod.snd, apply_dite Evt.slots]

@[simp] theorem State.decideWord_slots (s : State) (x : InWord) : (State.decideWord s x).evt.slots = s.evt.slots := by
  unfold State.decideWord; dsimp only; (repeat' split) <;> simp [apply_ite Evt.slots, apply_ite Prod.fst, apply_ite Prod.snd]

@[simp] theorem State.decideAll_slots (f : Nat) (s : State) : (State.decideAll f s).evt.slots = s.evt.slots := by
  induction f generalizing s with
  | zero => simp [State.decideAll]
  | succ k ih => unfold State.decideAll; dsimp only; (repeat' split) <;> simp [ih, apply_ite Evt.slots, apply_ite Prod.fst, apply_ite Prod.snd]

@[simp] theorem State.admIn_slots (s : State) (x : InWord) : (State.admIn s x).evt.slots = s.evt.slots := by
  unfold State.admIn; simp [apply_ite Evt.slots, apply_ite Prod.fst, apply_ite Prod.snd, apply_dite Evt.slots]

@[simp] theorem State.unannEnd_slots (s : State) (r : Nat) : (State.unannEnd s r).evt.slots = s.evt.slots := by
  unfold State.unannEnd; simp [apply_ite Evt.slots, apply_ite Prod.fst, apply_ite Prod.snd, apply_dite Evt.slots]

@[simp] theorem State.police_slots (s : State) (r iMeas : Nat) : (State.police s r iMeas).evt.slots = s.evt.slots := by
  unfold State.police; simp [apply_ite Evt.slots, apply_ite Prod.fst, apply_ite Prod.snd, apply_dite Evt.slots]

@[simp] theorem State.harvestCheck_slots (s : State) (r : Nat) : (State.harvestCheck s r).evt.slots = s.evt.slots := by
  unfold State.harvestCheck; simp [apply_ite Evt.slots, apply_ite Prod.fst, apply_ite Prod.snd, apply_dite Evt.slots]

@[simp] theorem State.tlyBoundary_slots (s : State) (num : Nat) : (State.tlyBoundary s num).evt.slots = s.evt.slots := by
  unfold State.tlyBoundary; simp [apply_ite Evt.slots, apply_ite Prod.fst, apply_ite Prod.snd, apply_dite Evt.slots]

@[simp] theorem State.takeBase_slots (s : State) (r : Nat) : (State.takeBase s r).evt.slots = s.evt.slots := by
  unfold State.takeBase; dsimp only; (repeat' split) <;> simp [apply_ite Evt.slots, apply_ite Prod.fst, apply_ite Prod.snd]

@[simp] theorem State.audit_slots (s : State) : (State.audit s).evt.slots = s.evt.slots := by
  unfold State.audit; simp [apply_ite Evt.slots, apply_ite Prod.fst, apply_ite Prod.snd, apply_dite Evt.slots]

@[simp] theorem State.testRow_slots (s : State) (bad : List Nat) (i : Nat) : (State.testRow s bad i).evt.slots = s.evt.slots := by
  unfold State.testRow; simp [apply_ite Evt.slots, apply_ite Prod.fst, apply_ite Prod.snd, apply_dite Evt.slots]

@[simp] theorem State.drainRows_slots (s : State) (bad : List Nat) : (State.drainRows s bad).evt.slots = s.evt.slots := by
  unfold State.drainRows; simp [apply_ite Evt.slots, apply_ite Prod.fst, apply_ite Prod.snd, apply_dite Evt.slots]

@[simp] theorem State.drainEnd_slots (s : State) (bad : List Nat) : (State.drainEnd s bad).evt.slots = s.evt.slots := by
  unfold State.drainEnd; simp [apply_ite Evt.slots, apply_ite Prod.fst, apply_ite Prod.snd, apply_dite Evt.slots]

@[simp] theorem State.trcRails_slots (s : State) : (State.trcRails s).evt.slots = s.evt.slots := by
  unfold State.trcRails; simp [apply_ite Evt.slots, apply_ite Prod.fst, apply_ite Prod.snd, apply_dite Evt.slots]

@[simp] theorem State.trcThermal_slots (s : State) : (State.trcThermal s).evt.slots = s.evt.slots := by
  unfold State.trcThermal; simp [apply_ite Evt.slots, apply_ite Prod.fst, apply_ite Prod.snd, apply_dite Evt.slots]

@[simp] theorem State.wakeFailed_slots (s : State) (d step : Nat) : (State.wakeFailed s d step).evt.slots = s.evt.slots := by
  unfold State.wakeFailed; simp [apply_ite Evt.slots, apply_ite Prod.fst, apply_ite Prod.snd, apply_dite Evt.slots]

@[simp] theorem State.pgLost_slots (s : State) (d : Nat) : (State.pgLost s d).evt.slots = s.evt.slots := by
  unfold State.pgLost; simp [apply_ite Evt.slots, apply_ite Prod.fst, apply_ite Prod.snd, apply_dite Evt.slots]

@[simp] theorem State.forceOff_slots (s : State) (d : Nat) : (State.forceOff s d).evt.slots = s.evt.slots := by
  unfold State.forceOff; simp [apply_ite Evt.slots, apply_ite Prod.fst, apply_ite Prod.snd, apply_dite Evt.slots]

@[simp] theorem State.forceOffAll_slots (s : State) : (State.forceOffAll s).evt.slots = s.evt.slots := by
  unfold State.forceOffAll; simp [apply_ite Evt.slots, apply_ite Prod.fst, apply_ite Prod.snd, apply_dite Evt.slots]

@[simp] theorem State.orderlyOne_slots (s : State) (d : Nat) : (State.orderlyOne s d).evt.slots = s.evt.slots := by
  unfold State.orderlyOne; split <;> simp [apply_ite Evt.slots, apply_ite Prod.fst, apply_ite Prod.snd]

@[simp] theorem State.orderlyGo_slots (f : Nat) (s : State) : (State.orderlyGo f s).evt.slots = s.evt.slots := by
  induction f generalizing s with
  | zero => simp [State.orderlyGo]
  | succ k ih => unfold State.orderlyGo; dsimp only; (repeat' split) <;> simp [ih, apply_ite Evt.slots, apply_ite Prod.fst, apply_ite Prod.snd]

@[simp] theorem State.orderlyStart_slots (s : State) : (State.orderlyStart s).evt.slots = s.evt.slots := by
  unfold State.orderlyStart; simp [apply_ite Evt.slots, apply_ite Prod.fst, apply_ite Prod.snd, apply_dite Evt.slots]

@[simp] theorem State.domForceOff_slots (s : State) (d : Nat) : (State.domForceOff s d).evt.slots = s.evt.slots := by
  unfold State.domForceOff; simp [apply_ite Evt.slots, apply_ite Prod.fst, apply_ite Prod.snd, apply_dite Evt.slots]

@[simp] theorem State.domForceOn_slots (s : State) (d : Nat) : (State.domForceOn s d).evt.slots = s.evt.slots := by
  unfold State.domForceOn; simp [apply_ite Evt.slots, apply_ite Prod.fst, apply_ite Prod.snd, apply_dite Evt.slots]

@[simp] theorem State.domsAtWarmExit_slots (s : State) : (State.domsAtWarmExit s).evt.slots = s.evt.slots := by
  unfold State.domsAtWarmExit; exact foldl_proj (fun (x : State) => x.evt.slots) _ (by intro s a; dsimp only; (repeat' split) <;> simp) _ _

@[simp] theorem State.srcApply_slots (s : State) : (State.srcApply s).evt.slots = s.evt.slots := by
  unfold State.srcApply; simp [apply_ite Evt.slots, apply_ite Prod.fst, apply_ite Prod.snd, apply_dite Evt.slots]

@[simp] theorem State.forceSrc_slots (s : State) (sel : Nat) : (State.forceSrc s sel).evt.slots = s.evt.slots := by
  unfold State.forceSrc; simp [apply_ite Evt.slots, apply_ite Prod.fst, apply_ite Prod.snd, apply_dite Evt.slots]

@[simp] theorem State.trip_slots (s : State) (cause src value : Nat) : (State.trip s cause src value).evt.slots = s.evt.slots := by
  unfold State.trip; simp [apply_ite Evt.slots, apply_ite Prod.fst, apply_ite Prod.snd, apply_dite Evt.slots]

@[simp] theorem State.lowering_slots (s : State) (r k trig : Nat) (beyond clean : Bool) : (State.lowering s r k trig beyond clean).evt.slots = s.evt.slots := by
  unfold State.lowering; simp [apply_ite Evt.slots, apply_ite Prod.fst, apply_ite Prod.snd, apply_dite Evt.slots]

@[simp] theorem State.overVoltage_slots (s : State) (r vUv : Nat) : (State.overVoltage s r vUv).evt.slots = s.evt.slots := by
  unfold State.overVoltage; simp [apply_ite Evt.slots, apply_ite Prod.fst, apply_ite Prod.snd, apply_dite Evt.slots]

@[simp] theorem State.otherReleases_slots (s : State) (r : Nat) : (State.otherReleases s r).evt.slots = s.evt.slots := by
  unfold State.otherReleases; simp [apply_ite Evt.slots, apply_ite Prod.fst, apply_ite Prod.snd, apply_dite Evt.slots]

@[simp] theorem State.ovTrip_slots (s : State) (r vUv : Nat) : (State.ovTrip s r vUv).evt.slots = s.evt.slots := by
  unfold State.ovTrip; simp [apply_ite Evt.slots, apply_ite Prod.fst, apply_ite Prod.snd, apply_dite Evt.slots]

@[simp] theorem State.failDet_slots (s : State) (d reason : Nat) : (State.failDet s d reason).evt.slots = s.evt.slots := by
  unfold State.failDet; simp [apply_ite Evt.slots, apply_ite Prod.fst, apply_ite Prod.snd, apply_dite Evt.slots]

@[simp] theorem State.stuckCheck_slots (s : State) (r vUv : Nat) : (State.stuckCheck s r vUv).evt.slots = s.evt.slots := by
  unfold State.stuckCheck; simp [apply_ite Evt.slots, apply_ite Prod.fst, apply_ite Prod.snd, apply_dite Evt.slots]

@[simp] theorem State.railSample_slots (s : State) (r : Nat) : (State.railSample s r).evt.slots = s.evt.slots := by
  unfold State.railSample; simp [apply_ite Evt.slots, apply_ite Prod.fst, apply_ite Prod.snd, apply_dite Evt.slots]

@[simp] theorem State.sampleLost_slots (s : State) (r : Nat) : (State.sampleLost s r).evt.slots = s.evt.slots := by
  unfold State.sampleLost; simp [apply_ite Evt.slots, apply_ite Prod.fst, apply_ite Prod.snd, apply_dite Evt.slots]

@[simp] theorem State.dieSample_slots (s : State) : (State.dieSample s).evt.slots = s.evt.slots := by
  unfold State.dieSample; simp [apply_ite Evt.slots, apply_ite Prod.fst, apply_ite Prod.snd, apply_dite Evt.slots]

@[simp] theorem State.unrespMark_slots (s : State) (r op : Nat) : (State.unrespMark s r op).evt.slots = s.evt.slots := by
  unfold State.unrespMark; simp [apply_ite Evt.slots, apply_ite Prod.fst, apply_ite Prod.snd, apply_dite Evt.slots]

@[simp] theorem State.phasesChanged_slots (s : State) (r old : Nat) (p : Option Nat) : (State.phasesChanged s r old p).evt.slots = s.evt.slots := by
  unfold State.phasesChanged; dsimp only; (repeat' split) <;> simp [apply_ite Evt.slots, apply_ite Prod.fst, apply_ite Prod.snd]

@[simp] theorem State.phaseShown_slots (s : State) (r : Nat) : (State.phaseShown s r).evt.slots = s.evt.slots := by
  unfold State.phaseShown; simp [apply_ite Evt.slots, apply_ite Prod.fst, apply_ite Prod.snd, apply_dite Evt.slots]

@[simp] theorem State.phaseFault_slots (s : State) (r p : Nat) : (State.phaseFault s r p).evt.slots = s.evt.slots := by
  unfold State.phaseFault; simp [apply_ite Evt.slots, apply_ite Prod.fst, apply_ite Prod.snd, apply_dite Evt.slots]

@[simp] theorem State.statusWord_slots (s : State) (r health : Nat) : (State.statusWord s r health).evt.slots = s.evt.slots := by
  unfold State.statusWord; simp [apply_ite Evt.slots, apply_ite Prod.fst, apply_ite Prod.snd, apply_dite Evt.slots]

@[simp] theorem State.goodWord_slots (s : State) (r d : Nat) : (State.goodWord s r d).evt.slots = s.evt.slots := by
  unfold State.goodWord; simp [apply_ite Evt.slots, apply_ite Prod.fst, apply_ite Prod.snd, apply_dite Evt.slots]

@[simp] theorem State.badWord_slots (s : State) (r : Nat) : (State.badWord s r).evt.slots = s.evt.slots := by
  unfold State.badWord; simp [apply_ite Evt.slots, apply_ite Prod.fst, apply_ite Prod.snd, apply_dite Evt.slots]

@[simp] theorem State.blindHold_slots (s : State) (r k : Nat) : (State.blindHold s r k).evt.slots = s.evt.slots := by
  unfold State.blindHold; simp [apply_ite Evt.slots, apply_ite Prod.fst, apply_ite Prod.snd, apply_dite Evt.slots]

@[simp] theorem State.parityRound_slots (s : State) (r : Nat) : (State.parityRound s r).evt.slots = s.evt.slots := by
  unfold State.parityRound; simp [apply_ite Evt.slots, apply_ite Prod.fst, apply_ite Prod.snd, apply_dite Evt.slots]

@[simp] theorem State.inputLimits_slots (s : State) : (State.inputLimits s).evt.slots = s.evt.slots := by
  unfold State.inputLimits; simp [apply_ite Evt.slots, apply_ite Prod.fst, apply_ite Prod.snd, apply_dite Evt.slots]

@[simp] theorem State.convRound_slots (s : State) (i : Nat) : (State.convRound s i).evt.slots = s.evt.slots := by
  unfold State.convRound; simp [apply_ite Evt.slots, apply_ite Prod.fst, apply_ite Prod.snd, apply_dite Evt.slots]

@[simp] theorem State.pollEnd_slots (s : State) : (State.pollEnd s).evt.slots = s.evt.slots := by
  unfold State.pollEnd; simp [apply_ite Evt.slots, apply_ite Prod.fst, apply_ite Prod.snd, apply_dite Evt.slots]

@[simp] theorem State.pmbNext_slots (s : State) : (State.pmbNext s).evt.slots = s.evt.slots := by
  unfold State.pmbNext; dsimp only; (repeat' split) <;> simp [apply_ite Evt.slots, apply_ite Prod.fst, apply_ite Prod.snd]

@[simp] theorem State.countersAnswer_slots (s : State) (st opt pc sq : Nat) : (State.countersAnswer s st opt pc sq).evt.slots = s.evt.slots := by
  unfold State.countersAnswer; simp [apply_ite Evt.slots, apply_ite Prod.fst, apply_ite Prod.snd, apply_dite Evt.slots]

@[simp] theorem State.counterAsk_slots (s : State) (write : Bool) : (State.counterAsk s write).evt.slots = s.evt.slots := by
  unfold State.counterAsk; simp [apply_ite Evt.slots, apply_ite Prod.fst, apply_ite Prod.snd, apply_dite Evt.slots]

@[simp] theorem State.counterRead_slots (s : State) : (State.counterRead s).evt.slots = s.evt.slots := by
  unfold State.counterRead; simp [apply_ite Evt.slots, apply_ite Prod.fst, apply_ite Prod.snd, apply_dite Evt.slots]

@[simp] theorem State.counterReply_slots (s : State) (q : CtrReq) (st opt pc sq : Nat) : (State.counterReply s q st opt pc sq).evt.slots = s.evt.slots := by
  unfold State.counterReply; simp [apply_ite Evt.slots, apply_ite Prod.fst, apply_ite Prod.snd, apply_dite Evt.slots]

@[simp] theorem State.eeFail_slots (s : State) (q : CtrReq) (cause : Nat) : (State.eeFail s q cause).evt.slots = s.evt.slots := by
  unfold State.eeFail; simp [apply_ite Evt.slots, apply_ite Prod.fst, apply_ite Prod.snd, apply_dite Evt.slots]

@[simp] theorem State.eeSlot_slots (s : State) (q : CtrReq) (bs : List Nat) : (State.eeSlot s q bs).evt.slots = s.evt.slots := by
  unfold State.eeSlot; simp [apply_ite Evt.slots, apply_ite Prod.fst, apply_ite Prod.snd, apply_dite Evt.slots]

@[simp] theorem State.hostXactEnd_slots (s : State) (slot st rdata : Nat) : (State.hostXactEnd s slot st rdata).evt.slots = s.evt.slots := by
  unfold State.hostXactEnd; simp [apply_ite Evt.slots, apply_ite Prod.fst, apply_ite Prod.snd, apply_dite Evt.slots]

@[simp] theorem State.pmbOutcome_slots (s : State) (st w : Nat) (slot : Option (List Nat)) : (State.pmbOutcome s st w slot).evt.slots = s.evt.slots := by
  unfold State.pmbOutcome; dsimp only; (repeat' split) <;> simp [apply_ite Evt.slots, apply_ite Prod.fst, apply_ite Prod.snd]

@[simp] theorem State.hostXact_slots (s : State) (kind slot cmd data : Nat) : (State.hostXact s kind slot cmd data).evt.slots = s.evt.slots := by
  unfold State.hostXact; simp [apply_ite Evt.slots, apply_ite Prod.fst, apply_ite Prod.snd, apply_dite Evt.slots]

@[simp] theorem State.spareRow_slotsWf (s : State) (k row : Nat) (h : memWf 0 s.evt.slots = true) : memWf 0 (State.spareRow s k row).evt.slots = true := by
  unfold State.spareRow; simp +contextual [h, apply_ite Evt.slots, apply_ite Prod.fst, apply_ite Prod.snd, apply_ite (memWf (0)), warmEvtPage]

@[simp] theorem State.stagingDamage_slotsWf (s : State) (row : Nat) (h : memWf 0 s.evt.slots = true) : memWf 0 (State.stagingDamage s row).evt.slots = true := by
  unfold State.stagingDamage; simp +contextual [h, apply_ite Evt.slots, apply_ite Prod.fst, apply_ite Prod.snd, apply_ite (memWf (0)), warmEvtPage]

@[simp] theorem State.eventUnless_slots (s : State) (p : Fin 23) (b code : Nat) (d : List Nat) : (State.eventUnless s p b code d).evt.slots = s.evt.slots := by
  unfold State.eventUnless; simp [apply_ite Evt.slots, apply_ite Prod.fst, apply_ite Prod.snd, apply_dite Evt.slots]

@[simp] theorem State.residualEpoch_slots (s : State) (r : Nat) : (State.residualEpoch s r).evt.slots = s.evt.slots := by
  unfold State.residualEpoch; simp [apply_ite Evt.slots, apply_ite Prod.fst, apply_ite Prod.snd, apply_dite Evt.slots]

@[simp] theorem State.neutralEnter_slots (s : State) (r c : Nat) : (State.neutralEnter s r c).evt.slots = s.evt.slots := by
  unfold State.neutralEnter; simp [apply_ite Evt.slots, apply_ite Prod.fst, apply_ite Prod.snd, apply_dite Evt.slots]

@[simp] theorem State.neutralLeave_slots (s : State) (r : Nat) : (State.neutralLeave s r).evt.slots = s.evt.slots := by
  unfold State.neutralLeave; simp [apply_ite Evt.slots, apply_ite Prod.fst, apply_ite Prod.snd, apply_dite Evt.slots]

@[simp] theorem State.neutralDrain_slots (s : State) : (State.neutralDrain s).evt.slots = s.evt.slots := by
  unfold State.neutralDrain; simp [apply_ite Evt.slots, apply_ite Prod.fst, apply_ite Prod.snd, apply_dite Evt.slots]

@[simp] theorem State.swapRail_slots (s : State) (old : Vector CtlRail 16) (r : Nat) : (State.swapRail s old r).evt.slots = s.evt.slots := by
  unfold State.swapRail; simp [apply_ite Evt.slots, apply_ite Prod.fst, apply_ite Prod.snd, apply_dite Evt.slots]

@[simp] theorem State.bankSwap_slots (s : State) : (State.bankSwap s).evt.slots = s.evt.slots := by
  unfold State.bankSwap; simp [apply_ite Evt.slots, apply_ite Prod.fst, apply_ite Prod.snd, apply_dite Evt.slots]

@[simp] theorem State.vinCheck_slots (s : State) : (State.vinCheck s).evt.slots = s.evt.slots := by
  unfold State.vinCheck; simp [apply_ite Evt.slots, apply_ite Prod.fst, apply_ite Prod.snd, apply_dite Evt.slots]

@[simp] theorem State.satSample_slots (s : State) (r : Nat) (sat : Bool) : (State.satSample s r sat).evt.slots = s.evt.slots := by
  unfold State.satSample; simp [apply_ite Evt.slots, apply_ite Prod.fst, apply_ite Prod.snd, apply_dite Evt.slots]

@[simp] theorem State.holdSample_slots (s : State) (r : Nat) : (State.holdSample s r).evt.slots = s.evt.slots := by
  unfold State.holdSample; simp [apply_ite Evt.slots, apply_ite Prod.fst, apply_ite Prod.snd, apply_dite Evt.slots]

@[simp] theorem State.residual_slots (s : State) (r : Nat) (rho : Int) : (State.residual s r rho).evt.slots = s.evt.slots := by
  unfold State.residual; simp [apply_ite Evt.slots, apply_ite Prod.fst, apply_ite Prod.snd, apply_dite Evt.slots]

@[simp] theorem State.lawState_slots (s : State) (r : Nat) (insat late : Bool) : (State.lawState s r insat late).evt.slots = s.evt.slots := by
  unfold State.lawState; simp [apply_ite Evt.slots, apply_ite Prod.fst, apply_ite Prod.snd, apply_dite Evt.slots]

@[simp] theorem State.coefFault_slotsWf (s : State) (r i : Nat) (h : memWf 0 s.evt.slots = true) : memWf 0 (State.coefFault s r i).evt.slots = true := by
  unfold State.coefFault; simp +contextual [h, apply_ite Evt.slots, apply_ite Prod.fst, apply_ite Prod.snd, apply_ite (memWf (0)), warmEvtPage]

@[simp] theorem State.commitNote_slots (s : State) (ns : Nat) : (State.commitNote s ns).evt.slots = s.evt.slots := by
  unfold State.commitNote; simp [apply_ite Evt.slots, apply_ite Prod.fst, apply_ite Prod.snd, apply_dite Evt.slots]

@[simp] theorem State.lawStart_slots (s : State) : (State.lawStart s).evt.slots = s.evt.slots := by
  unfold State.lawStart; simp [apply_ite Evt.slots, apply_ite Prod.fst, apply_ite Prod.snd, apply_dite Evt.slots]

@[simp] theorem lawFreeze_slots (fresh : Bool) (s : List Bool × State) (r : Nat) : (lawFreeze fresh s r).2.evt.slots = s.2.evt.slots := by
  unfold lawFreeze; simp [apply_ite Evt.slots, apply_ite Prod.fst, apply_ite Prod.snd, apply_dite Evt.slots]

@[simp] theorem foldl_lawFreeze_slots (fresh : Bool) (l : List Nat) (x : List Bool × State) : (l.foldl (lawFreeze fresh) x).2.evt.slots = x.2.evt.slots :=
  foldl_proj (fun (x : List Bool × State) => x.2.evt.slots) _ (by intro s a; simp) _ _

@[simp] theorem State.lawFinish_slotsWf (s : State) (sats : List Bool) (obs : SampleObs) (h : memWf 0 s.evt.slots = true) : memWf 0 (State.lawFinish s sats obs).evt.slots = true := by
  unfold State.lawFinish; simp +contextual [h, apply_ite Evt.slots, apply_ite Prod.fst, apply_ite Prod.snd, apply_ite (memWf (0)), warmEvtPage]

@[simp] theorem State.lawTick_slotsWf (s : State) (obs : SampleObs) (h : memWf 0 s.evt.slots = true) : memWf 0 (State.lawTick s obs).evt.slots = true := by
  unfold State.lawTick; simp +contextual [h, apply_ite Evt.slots, apply_ite Prod.fst, apply_ite Prod.snd, apply_ite (memWf (0)), warmEvtPage]

@[simp] theorem State.lanesChanged_slots (s : State) (cause : Nat) : (State.lanesChanged s cause).evt.slots = s.evt.slots := by
  unfold State.lanesChanged; simp [apply_ite Evt.slots, apply_ite Prod.fst, apply_ite Prod.snd, apply_dite Evt.slots]

@[simp] theorem State.retireLane_slots (s : State) (p : Nat) : (State.retireLane s p).evt.slots = s.evt.slots := by
  unfold State.retireLane; simp [apply_ite Evt.slots, apply_ite Prod.fst, apply_ite Prod.snd, apply_dite Evt.slots]

@[simp] theorem State.fcsSettle_slots (s : State) : (State.fcsSettle s).evt.slots = s.evt.slots := by
  unfold State.fcsSettle; simp [apply_ite Evt.slots, apply_ite Prod.fst, apply_ite Prod.snd, apply_dite Evt.slots]

@[simp] theorem State.winEnd_slots (s : State) : (State.winEnd s).evt.slots = s.evt.slots := by
  unfold State.winEnd; simp [apply_ite Evt.slots, apply_ite Prod.fst, apply_ite Prod.snd, apply_dite Evt.slots]

@[simp] theorem State.trcCfg_slots (s : State) (en : Bool) (win gap : Nat) : (State.trcCfg s en win gap).evt.slots = s.evt.slots := by
  unfold State.trcCfg; simp [apply_ite Evt.slots, apply_ite Prod.fst, apply_ite Prod.snd, apply_dite Evt.slots]

@[simp] theorem State.frameTrace_slots (s : State) (f : FcsFrame) (abandoned : Bool) : (State.frameTrace s f abandoned).evt.slots = s.evt.slots := by
  unfold State.frameTrace; simp [apply_ite Evt.slots, apply_ite Prod.fst, apply_ite Prod.snd, apply_dite Evt.slots]

@[simp] theorem State.evalAbandon_slots (s : State) : (State.evalAbandon s).evt.slots = s.evt.slots := by
  unfold State.evalAbandon; split <;> simp [apply_ite Evt.slots, apply_ite Prod.fst, apply_ite Prod.snd]

@[simp] theorem State.evalMiss_slots (s : State) : (State.evalMiss s).evt.slots = s.evt.slots := by
  unfold State.evalMiss; simp [apply_ite Evt.slots, apply_ite Prod.fst, apply_ite Prod.snd, apply_dite Evt.slots]

@[simp] theorem State.scoreRail_slots (s : State) (ev : FcsEval) (l1 l4 : FcsLabel) (r : Nat) : (State.scoreRail s ev l1 l4 r).evt.slots = s.evt.slots := by
  unfold State.scoreRail; simp [apply_ite Evt.slots, apply_ite Prod.fst, apply_ite Prod.snd, apply_dite Evt.slots]

@[simp] theorem State.scoreNow_slots (s : State) : (State.scoreNow s).evt.slots = s.evt.slots := by
  unfold State.scoreNow; split <;> simp [apply_ite Evt.slots, apply_ite Prod.fst, apply_ite Prod.snd]

@[simp] theorem State.weightFault_slotsWf (s : State) (off : Nat) (again : Bool) (h : memWf 0 s.evt.slots = true) : memWf 0 (State.weightFault s off again).evt.slots = true := by
  unfold State.weightFault; simp +contextual [h, apply_ite Evt.slots, apply_ite Prod.fst, apply_ite Prod.snd, apply_ite (memWf (0)), warmEvtPage]

@[simp] theorem State.evalStart_slotsWf (s : State) (bad : Option Nat) (h : memWf 0 s.evt.slots = true) : memWf 0 (State.evalStart s bad).evt.slots = true := by
  unfold State.evalStart; split <;> simp [h, apply_ite Evt.slots, apply_ite Prod.fst, apply_ite Prod.snd, apply_ite (memWf (0))]

@[simp] theorem State.fcsBound_slots (s : State) : (State.fcsBound s).evt.slots = s.evt.slots := by
  unfold State.fcsBound; simp [apply_ite Evt.slots, apply_ite Prod.fst, apply_ite Prod.snd, apply_dite Evt.slots]

@[simp] theorem State.copyStart_slots (s : State) : (State.copyStart s).evt.slots = s.evt.slots := by
  unfold State.copyStart; simp [apply_ite Evt.slots, apply_ite Prod.fst, apply_ite Prod.snd, apply_dite Evt.slots]

@[simp] theorem State.fcsSwap_slots (s : State) : (State.fcsSwap s).evt.slots = s.evt.slots := by
  unfold State.fcsSwap; simp [apply_ite Evt.slots, apply_ite Prod.fst, apply_ite Prod.snd, apply_dite Evt.slots]

@[simp] theorem State.fcsBoundary_slots (s : State) : (State.fcsBoundary s).evt.slots = s.evt.slots := by
  unfold State.fcsBoundary; split <;> simp [apply_ite Evt.slots, apply_ite Prod.fst, apply_ite Prod.snd]

@[simp] theorem State.retireDueLanes_slots (s : State) : (State.retireDueLanes s).evt.slots = s.evt.slots := by
  unfold State.retireDueLanes; simp [apply_ite Evt.slots, apply_ite Prod.fst, apply_ite Prod.snd, apply_dite Evt.slots]

@[simp] theorem State.ladderDom_slots (s : State) (sweep : Bool) (c : Nat) : (State.ladderDom s sweep c).evt.slots = s.evt.slots := by
  unfold State.ladderDom; dsimp only; (repeat' split) <;> simp [apply_ite Evt.slots, apply_ite Prod.fst, apply_ite Prod.snd]

@[simp] theorem State.ladder_slots (s : State) (sweep : Bool) : (State.ladder s sweep).evt.slots = s.evt.slots := by
  unfold State.ladder; simp [apply_ite Evt.slots, apply_ite Prod.fst, apply_ite Prod.snd, apply_dite Evt.slots]

@[simp] theorem State.hotCheck_slots (s : State) : (State.hotCheck s).evt.slots = s.evt.slots := by
  unfold State.hotCheck; dsimp only; (repeat' split) <;> simp [apply_ite Evt.slots, apply_ite Prod.fst, apply_ite Prod.snd]

@[simp] theorem State.rfbUp_slots (s : State) (k want f : Nat) : (State.rfbUp s k want f).evt.slots = s.evt.slots := by
  induction f generalizing s with
  | zero => simp [State.rfbUp]
  | succ k ih => unfold State.rfbUp; dsimp only; (repeat' split) <;> simp [ih, apply_ite Evt.slots, apply_ite Prod.fst, apply_ite Prod.snd]

@[simp] theorem State.tgbUp_slots (s : State) (k want f : Nat) : (State.tgbUp s k want f).evt.slots = s.evt.slots := by
  induction f generalizing s with
  | zero => simp [State.tgbUp]
  | succ k ih => unfold State.tgbUp; dsimp only; (repeat' split) <;> simp [ih, apply_ite Evt.slots, apply_ite Prod.fst, apply_ite Prod.snd]

@[simp] theorem State.safeBands_slots (s : State) : (State.safeBands s).evt.slots = s.evt.slots := by
  unfold State.safeBands; simp [apply_ite Evt.slots, apply_ite Prod.fst, apply_ite Prod.snd, apply_dite Evt.slots]

@[simp] theorem State.stackBands_slots (s : State) (k : Nat) : (State.stackBands s k).evt.slots = s.evt.slots := by
  unfold State.stackBands; simp [apply_ite Evt.slots, apply_ite Prod.fst, apply_ite Prod.snd, apply_dite Evt.slots]

@[simp] theorem State.stackTemp_slots (s : State) (k : Nat) : (State.stackTemp s k).evt.slots = s.evt.slots := by
  unfold State.stackTemp; (repeat' split) <;> simp [apply_ite Evt.slots, apply_ite Prod.fst, apply_ite Prod.snd]

@[simp] theorem State.shutdown_slots (s : State) (cause src : Nat) (value : Int) : (State.shutdown s cause src value).evt.slots = s.evt.slots := by
  unfold State.shutdown; simp [apply_ite Evt.slots, apply_ite Prod.fst, apply_ite Prod.snd, apply_dite Evt.slots]

@[simp] theorem State.sweepCauses_slots (s : State) : (State.sweepCauses s).evt.slots = s.evt.slots := by
  unfold State.sweepCauses; exact (foldl_proj (fun (x : State) => x.evt.slots) _ (by intro s a; dsimp only; (repeat' split) <;> simp) _ _).trans (foldl_proj (fun (x : State) => x.evt.slots) _ (by intro s a; dsimp only; (repeat' split) <;> simp) _ _)

@[simp] theorem State.dwellCause_slots (s : State) : (State.dwellCause s).evt.slots = s.evt.slots := by
  unfold State.dwellCause; exact foldl_proj (fun (x : State) => x.evt.slots) _ (by intro s a; dsimp only; (repeat' split) <;> simp) _ _

@[simp] theorem State.holdBegin_slots (s : State) : (State.holdBegin s).evt.slots = s.evt.slots := by
  unfold State.holdBegin; simp [apply_ite Evt.slots, apply_ite Prod.fst, apply_ite Prod.snd, apply_dite Evt.slots]

@[simp] theorem State.phaseCheck_slots (s : State) : (State.phaseCheck s).evt.slots = s.evt.slots := by
  unfold State.phaseCheck; simp [apply_ite Evt.slots, apply_ite Prod.fst, apply_ite Prod.snd, apply_dite Evt.slots]

@[simp] theorem State.obsDisable_slots (s : State) (cause group : Nat) : (State.obsDisable s cause group).evt.slots = s.evt.slots := by
  unfold State.obsDisable; simp [apply_ite Evt.slots, apply_ite Prod.fst, apply_ite Prod.snd, apply_dite Evt.slots]

@[simp] theorem State.innovCheck_slots (s : State) : (State.innovCheck s).evt.slots = s.evt.slots := by
  unfold State.innovCheck; simp [apply_ite Evt.slots, apply_ite Prod.fst, apply_ite Prod.snd, apply_dite Evt.slots]

@[simp] theorem State.obsDiscard_slots (s : State) : (State.obsDiscard s).evt.slots = s.evt.slots := by
  unfold State.obsDiscard; simp [apply_ite Evt.slots, apply_ite Prod.fst, apply_ite Prod.snd, apply_dite Evt.slots]

@[simp] theorem State.obsCoefFault_slotsWf (s : State) (i : Nat) (h : memWf 0 s.evt.slots = true) : memWf 0 (State.obsCoefFault s i).evt.slots = true := by
  unfold State.obsCoefFault; simp +contextual [h, apply_ite Evt.slots, apply_ite Prod.fst, apply_ite Prod.snd, apply_ite (memWf (0)), warmEvtPage]

@[simp] theorem State.stepCauses_slots (s : State) : (State.stepCauses s).evt.slots = s.evt.slots := by
  unfold State.stepCauses; exact foldl_proj (fun (x : State) => x.evt.slots) _ (by intro s a; dsimp only; (repeat' split) <;> simp) _ _

@[simp] theorem State.sensorFail_slots (s : State) (i reason : Nat) : (State.sensorFail s i reason).evt.slots = s.evt.slots := by
  unfold State.sensorFail; simp [apply_ite Evt.slots, apply_ite Prod.fst, apply_ite Prod.snd, apply_dite Evt.slots]

@[simp] theorem State.sensorSubst_slots (s : State) (g : Nat) : (State.sensorSubst s g).evt.slots = s.evt.slots := by
  unfold State.sensorSubst; split <;> simp [apply_ite Evt.slots, apply_ite Prod.fst, apply_ite Prod.snd]

@[simp] theorem State.sensorSample_slots (s : State) (i : Nat) (x : TempSample) : (State.sensorSample s i x).evt.slots = s.evt.slots := by
  unfold State.sensorSample; dsimp only; (repeat' split) <;> simp [apply_ite Evt.slots, apply_ite Prod.fst, apply_ite Prod.snd]

@[simp] theorem State.groupSweep_slots (s : State) (t g : Nat) : (State.groupSweep s t g).evt.slots = s.evt.slots := by
  unfold State.groupSweep; simp [apply_ite Evt.slots, apply_ite Prod.fst, apply_ite Prod.snd, apply_dite Evt.slots]

@[simp] theorem State.tripGroup_slots (s : State) (g : Nat) : (State.tripGroup s g).evt.slots = s.evt.slots := by
  unfold State.tripGroup; simp [apply_ite Evt.slots, apply_ite Prod.fst, apply_ite Prod.snd, apply_dite Evt.slots]

@[simp] theorem State.tripRate_slots (prev : List Nat) (t : Nat) (s : State) (g : Nat) : (State.tripRate prev t s g).evt.slots = s.evt.slots := by
  unfold State.tripRate; dsimp only; (repeat' split) <;> simp [apply_ite Evt.slots, apply_ite Prod.fst, apply_ite Prod.snd]

@[simp] theorem State.tripStack_slots (s : State) (k : Nat) : (State.tripStack s k).evt.slots = s.evt.slots := by
  unfold State.tripStack; simp [apply_ite Evt.slots, apply_ite Prod.fst, apply_ite Prod.snd, apply_dite Evt.slots]

set_option maxRecDepth 8000 in
@[simp] theorem State.thermalTrips_slots (s : State) (prev : List Nat) (t : Nat) : (State.thermalTrips s prev t).evt.slots = s.evt.slots := by
  unfold State.thermalTrips; simp [apply_ite Evt.slots, apply_ite Prod.fst, apply_ite Prod.snd, apply_dite Evt.slots]

@[simp] theorem State.macroFail_slots (s : State) (i pos : Nat) : (State.macroFail s i pos).evt.slots = s.evt.slots := by
  unfold State.macroFail; simp [apply_ite Evt.slots, apply_ite Prod.fst, apply_ite Prod.snd, apply_dite Evt.slots]

@[simp] theorem State.ringBreak_slots (s : State) (i pos : Nat) : (State.ringBreak s i pos).evt.slots = s.evt.slots := by
  unfold State.ringBreak; simp [apply_ite Evt.slots, apply_ite Prod.fst, apply_ite Prod.snd, apply_dite Evt.slots]

@[simp] theorem State.rangeBegin_slots (s : State) : (State.rangeBegin s).evt.slots = s.evt.slots := by
  unfold State.rangeBegin; simp [apply_ite Evt.slots, apply_ite Prod.fst, apply_ite Prod.snd, apply_dite Evt.slots]

@[simp] theorem State.ageFail_slots (s : State) (r reason : Nat) : (State.ageFail s r reason).evt.slots = s.evt.slots := by
  unfold State.ageFail; simp [apply_ite Evt.slots, apply_ite Prod.fst, apply_ite Prod.snd, apply_dite Evt.slots]

@[simp] theorem State.ageReading_slots (s : State) (r ag : Nat) : (State.ageReading s r ag).evt.slots = s.evt.slots := by
  unfold State.ageReading; simp [apply_ite Evt.slots, apply_ite Prod.fst, apply_ite Prod.snd, apply_dite Evt.slots]

@[simp] theorem State.referenceCheck_slots (s : State) (r ref : Nat) : (State.referenceCheck s r ref).evt.slots = s.evt.slots := by
  unfold State.referenceCheck; simp [apply_ite Evt.slots, apply_ite Prod.fst, apply_ite Prod.snd, apply_dite Evt.slots]

@[simp] theorem State.slotValue_slots (s : State) (k : Nat) (v : Int) : (State.slotValue s k v).evt.slots = s.evt.slots := by
  unfold State.slotValue; simp [apply_ite Evt.slots, apply_ite Prod.fst, apply_ite Prod.snd, apply_dite Evt.slots]

@[simp] theorem State.slotFailed_slots (s : State) (k : Nat) : (State.slotFailed s k).evt.slots = s.evt.slots := by
  unfold State.slotFailed; simp [apply_ite Evt.slots, apply_ite Prod.fst, apply_ite Prod.snd, apply_dite Evt.slots]

@[simp] theorem State.setBudget_slots (s : State) (b : Nat) : (State.setBudget s b).evt.slots = s.evt.slots := by
  unfold State.setBudget; simp [apply_ite Evt.slots, apply_ite Prod.fst, apply_ite Prod.snd, apply_dite Evt.slots]

@[simp] theorem State.splitShares_slots (s : State) : (State.splitShares s).evt.slots = s.evt.slots := by
  unfold State.splitShares; simp [apply_ite Evt.slots, apply_ite Prod.fst, apply_ite Prod.snd, apply_dite Evt.slots]

@[simp] theorem State.budgetFell_slots (s : State) : (State.budgetFell s).evt.slots = s.evt.slots := by
  unfold State.budgetFell; simp [apply_ite Evt.slots, apply_ite Prod.fst, apply_ite Prod.snd, apply_dite Evt.slots]

@[simp] theorem State.subFell_slots (s : State) : (State.subFell s).evt.slots = s.evt.slots := by
  unfold State.subFell; simp [apply_ite Evt.slots, apply_ite Prod.fst, apply_ite Prod.snd, apply_dite Evt.slots]

@[simp] theorem State.sendCap_slots (s : State) : (State.sendCap s).evt.slots = s.evt.slots := by
  unfold State.sendCap; simp [apply_ite Evt.slots, apply_ite Prod.fst, apply_ite Prod.snd, apply_dite Evt.slots]

@[simp] theorem State.treTakeOver_slots (s : State) : (State.treTakeOver s).evt.slots = s.evt.slots := by
  unfold State.treTakeOver; simp [apply_ite Evt.slots, apply_ite Prod.fst, apply_ite Prod.snd, apply_dite Evt.slots]

@[simp] theorem State.elect_slots (s : State) : (State.elect s).evt.slots = s.evt.slots := by
  unfold State.elect; simp [apply_ite Evt.slots, apply_ite Prod.fst, apply_ite Prod.snd, apply_dite Evt.slots]

@[simp] theorem State.topology_slots (s : State) : (State.topology s).evt.slots = s.evt.slots := by
  unfold State.topology; simp [apply_ite Evt.slots, apply_ite Prod.fst, apply_ite Prod.snd, apply_dite Evt.slots]

@[simp] theorem State.linkUp_slots (s : State) (d : Dir) : (State.linkUp s d).evt.slots = s.evt.slots := by
  unfold State.linkUp; simp [apply_ite Evt.slots, apply_ite Prod.fst, apply_ite Prod.snd, apply_dite Evt.slots]

@[simp] theorem State.linkDown_slots (s : State) (d : Dir) : (State.linkDown s d).evt.slots = s.evt.slots := by
  unfold State.linkDown; simp [apply_ite Evt.slots, apply_ite Prod.fst, apply_ite Prod.snd, apply_dite Evt.slots]

@[simp] theorem State.laneVerdict_slots (s : State) (d : Dir) : (State.laneVerdict s d).evt.slots = s.evt.slots := by
  unfold State.laneVerdict; dsimp only; (repeat' split) <;> simp [apply_ite Evt.slots, apply_ite Prod.fst, apply_ite Prod.snd]

@[simp] theorem State.received_slots (s : State) (d : Dir) (m : BitVec 128) (typ : Nat) (f : State → State) (h : ∀ s, (f s).evt.slots = s.evt.slots) : (State.received s d m typ f).evt.slots = s.evt.slots := by
  simp [State.received, h, apply_ite Prod.fst, apply_ite Prod.snd, apply_ite Evt.slots]

@[simp] theorem State.received_slotsWf (s : State) (d : Dir) (m : BitVec 128) (typ : Nat) (f : State → State) (ha : ∀ s, memWf 0 s.evt.slots = true → memWf 0 (f s).evt.slots = true) (h : memWf 0 s.evt.slots = true) : memWf 0 (State.received s d m typ f).evt.slots = true := by
  simp [State.received, h, ha, apply_ite Evt.slots, apply_ite Prod.fst, apply_ite Prod.snd, apply_ite (memWf (0))]

@[simp] theorem State.laneMsg_slots (s : State) (d : Dir) (m : BitVec 128) : (State.laneMsg s d m).evt.slots = s.evt.slots := by
  unfold State.laneMsg; dsimp only; (repeat' split) <;> simp [apply_ite Evt.slots, apply_ite Prod.fst, apply_ite Prod.snd]

@[simp] theorem State.formFail_slots (s : State) (err fmaj fmin count : Nat) : (State.formFail s err fmaj fmin count).evt.slots = s.evt.slots := by
  unfold State.formFail; simp [apply_ite Evt.slots, apply_ite Prod.fst, apply_ite Prod.snd, apply_dite Evt.slots]

@[simp] theorem State.countersAtFormation_slots (s : State) : (State.countersAtFormation s).evt.slots = s.evt.slots := by
  unfold State.countersAtFormation; simp [apply_ite Evt.slots, apply_ite Prod.fst, apply_ite Prod.snd, apply_dite Evt.slots]

@[simp] theorem State.formed_slots (s : State) (mask fmaj fmin attempt reck : Nat) : (State.formed s mask fmaj fmin attempt reck).evt.slots = s.evt.slots := by
  unfold State.formed; simp [apply_ite Evt.slots, apply_ite Prod.fst, apply_ite Prod.snd, apply_dite Evt.slots]

@[simp] theorem State.join_slots (s : State) (p : Nat) : (State.join s p).evt.slots = s.evt.slots := by
  unfold State.join; simp [apply_ite Evt.slots, apply_ite Prod.fst, apply_ite Prod.snd, apply_dite Evt.slots]

@[simp] theorem State.helloFormed_slots (s : State) (p : Nat) : (State.helloFormed s p).evt.slots = s.evt.slots := by
  unfold State.helloFormed; simp [apply_ite Evt.slots, apply_ite Prod.fst, apply_ite Prod.snd, apply_dite Evt.slots]

@[simp] theorem State.helloMsg_slots (s : State) (d : Dir) (m : BitVec 128) : (State.helloMsg s d m).evt.slots = s.evt.slots := by
  unfold State.helloMsg; simp [apply_ite Evt.slots, apply_ite Prod.fst, apply_ite Prod.snd, apply_dite Evt.slots]

@[simp] theorem State.clockLost_slots (s : State) (c : Nat) : (State.clockLost s c).evt.slots = s.evt.slots := by
  unfold State.clockLost; simp [apply_ite Evt.slots, apply_ite Prod.fst, apply_ite Prod.snd, apply_dite Evt.slots]

@[simp] theorem State.loseParent_slots (s : State) (cause : Nat) : (State.loseParent s cause).evt.slots = s.evt.slots := by
  unfold State.loseParent; simp [apply_ite Evt.slots, apply_ite Prod.fst, apply_ite Prod.snd, apply_dite Evt.slots]

@[simp] theorem State.portAbsent_slots (s : State) (p : Nat) : (State.portAbsent s p).evt.slots = s.evt.slots := by
  unfold State.portAbsent; simp [apply_ite Evt.slots, apply_ite Prod.fst, apply_ite Prod.snd, apply_dite Evt.slots]

@[simp] theorem State.badCheck_slots (s : State) (sender : Nat) : (State.badCheck s sender).evt.slots = s.evt.slots := by
  unfold State.badCheck; simp [apply_ite Evt.slots, apply_ite Prod.fst, apply_ite Prod.snd, apply_dite Evt.slots]

@[simp] theorem State.rateIgnored_slots (s : State) (typ : Nat) : (State.rateIgnored s typ).evt.slots = s.evt.slots := by
  unfold State.rateIgnored; simp [apply_ite Evt.slots, apply_ite Prod.fst, apply_ite Prod.snd, apply_dite Evt.slots]

@[simp] theorem State.parentTake_slots (s : State) (f : KFrame) (act : State → State) (h : ∀ s, (act s).evt.slots = s.evt.slots) : (State.parentTake s f act).2.evt.slots = s.evt.slots := by
  simp [State.parentTake, h, apply_ite Prod.fst, apply_ite Prod.snd, apply_ite Evt.slots]

@[simp] theorem State.parentTake_slotsWf (s : State) (f : KFrame) (act : State → State) (ha : ∀ s, memWf 0 s.evt.slots = true → memWf 0 (act s).evt.slots = true) (h : memWf 0 s.evt.slots = true) : memWf 0 (State.parentTake s f act).2.evt.slots = true := by
  simp [State.parentTake, h, ha, apply_ite Evt.slots, apply_ite Prod.fst, apply_ite Prod.snd, apply_ite (memWf (0))]

@[simp] theorem State.takeBudget_slots (s : State) (w : Nat) : (State.takeBudget s w).evt.slots = s.evt.slots := by
  unfold State.takeBudget; simp [apply_ite Evt.slots, apply_ite Prod.fst, apply_ite Prod.snd, apply_dite Evt.slots]

@[simp] theorem State.takeCut_slots (s : State) (ratio q : Nat) : (State.takeCut s ratio q).evt.slots = s.evt.slots := by
  unfold State.takeCut; simp [apply_ite Evt.slots, apply_ite Prod.fst, apply_ite Prod.snd, apply_dite Evt.slots]

@[simp] theorem State.parentFrame_slots (s : State) (f : KFrame) : (State.parentFrame s f).2.evt.slots = s.evt.slots := by
  unfold State.parentFrame; dsimp only; (repeat' split) <;> simp [apply_ite Evt.slots, apply_ite Prod.fst, apply_ite Prod.snd]

@[simp] theorem State.portFrame_slots (s : State) (p : Nat) (f : KFrame) : (State.portFrame s p f).evt.slots = s.evt.slots := by
  unfold State.portFrame; dsimp only; (repeat' split) <;> simp [apply_ite Evt.slots, apply_ite Prod.fst, apply_ite Prod.snd]

@[simp] theorem State.kReceived_slots (s : State) (bus : TreBus) (f : KFrame) (typ : Nat) : (State.kReceived s bus f typ).evt.slots = s.evt.slots := by
  unfold State.kReceived; dsimp only; (repeat' split) <;> simp [apply_ite Evt.slots, apply_ite Prod.fst, apply_ite Prod.snd]

@[simp] theorem State.setRackCap_slots (s : State) (v : Nat) : (State.setRackCap s v).evt.slots = s.evt.slots := by
  unfold State.setRackCap; simp [apply_ite Evt.slots, apply_ite Prod.fst, apply_ite Prod.snd, apply_dite Evt.slots]

@[simp] theorem State.clearRackCap_slots (s : State) : (State.clearRackCap s).evt.slots = s.evt.slots := by
  unfold State.clearRackCap; simp [apply_ite Evt.slots, apply_ite Prod.fst, apply_ite Prod.snd, apply_dite Evt.slots]

@[simp] theorem State.rackRate_slots (s : State) (typ : Nat) : (State.rackRate s typ).evt.slots = s.evt.slots := by
  unfold State.rackRate; simp [apply_ite Evt.slots, apply_ite Prod.fst, apply_ite Prod.snd, apply_dite Evt.slots]

@[simp] theorem State.rackBad_slots (s : State) (st : Nat) : (State.rackBad s st).evt.slots = s.evt.slots := by
  unfold State.rackBad; simp [apply_ite Evt.slots, apply_ite Prod.fst, apply_ite Prod.snd, apply_dite Evt.slots]

@[simp] theorem State.rackPerform_slots (s : State) (bs : List Nat) : (State.rackPerform s bs).evt.slots = s.evt.slots := by
  unfold State.rackPerform; split <;> simp [apply_ite Evt.slots, apply_ite Prod.fst, apply_ite Prod.snd]

@[simp] theorem State.rackRequest_slots (s : State) (bs : List Nat) : (State.rackRequest s bs).evt.slots = s.evt.slots := by
  unfold State.rackRequest; simp [apply_ite Evt.slots, apply_ite Prod.fst, apply_ite Prod.snd, apply_dite Evt.slots]

@[simp] theorem State.setDa_slots (s : State) (a : Nat) : (State.setDa s a).evt.slots = s.evt.slots := by
  unfold State.setDa; simp [apply_ite Evt.slots, apply_ite Prod.fst, apply_ite Prod.snd, apply_dite Evt.slots]

@[simp] theorem State.scrubBad_slotsWf (s : State) (k a w : Nat) (again : Bool) (h : memWf 0 s.evt.slots = true) : memWf 0 (State.scrubBad s k a w again).evt.slots = true := by
  unfold State.scrubBad; (repeat' split) <;> simp [h, apply_ite Evt.slots, apply_ite Prod.fst, apply_ite Prod.snd, apply_ite (memWf (0))]

@[simp] theorem State.relSubst_slots (s : State) (kind i : Nat) : (State.relSubst s kind i).evt.slots = s.evt.slots := by
  unfold State.relSubst; split <;> simp [apply_ite Evt.slots, apply_ite Prod.fst, apply_ite Prod.snd]

@[simp] theorem State.relRestore_slots (s : State) (kind i : Nat) : (State.relRestore s kind i).evt.slots = s.evt.slots := by
  unfold State.relRestore; split <;> simp [apply_ite Evt.slots, apply_ite Prod.fst, apply_ite Prod.snd]

@[simp] theorem State.loadCmd_slots (s : State) : (State.loadCmd s).evt.slots = s.evt.slots := by
  unfold State.loadCmd; split <;> simp [apply_ite Evt.slots, apply_ite Prod.fst, apply_ite Prod.snd]

@[simp] theorem State.commitFailed_slots (s : State) (st : Nat) : (State.commitFailed s st).evt.slots = s.evt.slots := by
  unfold State.commitFailed; simp [apply_ite Evt.slots, apply_ite Prod.fst, apply_ite Prod.snd, apply_dite Evt.slots]

@[simp] theorem State.commitDone_slots (s : State) : (State.commitDone s).evt.slots = s.evt.slots := by
  unfold State.commitDone; simp [apply_ite Evt.slots, apply_ite Prod.fst, apply_ite Prod.snd, apply_dite Evt.slots]

@[simp] theorem State.abortCmd_slots (s : State) : (State.abortCmd s).evt.slots = s.evt.slots := by
  unfold State.abortCmd; simp [apply_ite Evt.slots, apply_ite Prod.fst, apply_ite Prod.snd, apply_dite Evt.slots]

@[simp] theorem State.actNotice_slots (s : State) (st : Nat) : (State.actNotice s st).evt.slots = s.evt.slots := by
  unfold State.actNotice; simp [apply_ite Evt.slots, apply_ite Prod.fst, apply_ite Prod.snd, apply_dite Evt.slots]

@[simp] theorem State.activationRefused_slots (s : State) (st : Nat) : (State.activationRefused s st).evt.slots = s.evt.slots := by
  unfold State.activationRefused; simp [apply_ite Evt.slots, apply_ite Prod.fst, apply_ite Prod.snd, apply_dite Evt.slots]

@[simp] theorem State.phaseMaps_slots (s : State) : (State.phaseMaps s).evt.slots = s.evt.slots := by
  unfold State.phaseMaps; simp [apply_ite Evt.slots, apply_ite Prod.fst, apply_ite Prod.snd, apply_dite Evt.slots]

@[simp] theorem State.switchIn_slots (s : State) (im : Image) : (State.switchIn s im).evt.slots = s.evt.slots := by
  unfold State.switchIn; simp [apply_ite Evt.slots, apply_ite Prod.fst, apply_ite Prod.snd, apply_dite Evt.slots]

@[simp] theorem State.deferActivation_slots (s : State) : (State.deferActivation s).evt.slots = s.evt.slots := by
  unfold State.deferActivation; simp [apply_ite Evt.slots, apply_ite Prod.fst, apply_ite Prod.snd, apply_dite Evt.slots]

@[simp] theorem State.activationStep_slots (s : State) : (State.activationStep s).evt.slots = s.evt.slots := by
  unfold State.activationStep; dsimp only; (repeat' split) <;> simp [apply_ite Evt.slots, apply_ite Prod.fst, apply_ite Prod.snd]

@[simp] theorem State.sampleRail_slots (s : State) (r : Nat) : (State.sampleRail s r).evt.slots = s.evt.slots := by
  unfold State.sampleRail; simp [apply_ite Evt.slots, apply_ite Prod.fst, apply_ite Prod.snd, apply_dite Evt.slots]

@[simp] theorem State.tickLaw_slotsWf (s : State) (obs : SampleObs) (h : memWf 0 s.evt.slots = true) : memWf 0 (State.tickLaw s obs).evt.slots = true := by
  unfold State.tickLaw; simp +contextual [h, apply_ite Evt.slots, apply_ite Prod.fst, apply_ite Prod.snd, apply_ite (memWf (0)), warmEvtPage]

@[simp] theorem State.tickEnd_slots (s : State) : (State.tickEnd s).evt.slots = s.evt.slots := by
  unfold State.tickEnd; simp [apply_ite Evt.slots, apply_ite Prod.fst, apply_ite Prod.snd, apply_dite Evt.slots]

@[simp] theorem State.trcBoundary_slots (s : State) : (State.trcBoundary s).evt.slots = s.evt.slots := by
  unfold State.trcBoundary; simp [apply_ite Evt.slots, apply_ite Prod.fst, apply_ite Prod.snd, apply_dite Evt.slots]

@[simp] theorem State.boundary_slots (s : State) (num : Nat) (gov : Bool) : (State.boundary s num gov).evt.slots = s.evt.slots := by
  unfold State.boundary; simp [apply_ite Evt.slots, apply_ite Prod.fst, apply_ite Prod.snd, apply_dite Evt.slots]

@[simp] theorem State.reckon_slots (s : State) : (State.reckon s).evt.slots = s.evt.slots := by
  unfold State.reckon; simp [apply_ite Evt.slots, apply_ite Prod.fst, apply_ite Prod.snd, apply_dite Evt.slots]

@[simp] theorem State.memberOpen_slots (s : State) : (State.memberOpen s).evt.slots = s.evt.slots := by
  unfold State.memberOpen; simp [apply_ite Evt.slots, apply_ite Prod.fst, apply_ite Prod.snd, apply_dite Evt.slots]

@[simp] theorem State.fuseFaults_slots (s : State) : (State.fuseFaults s).evt.slots = s.evt.slots := by
  unfold State.fuseFaults; simp [apply_ite Evt.slots, apply_ite Prod.fst, apply_ite Prod.snd, apply_dite Evt.slots]

@[simp] theorem State.closeEpisode_slots (s : State) (cause : Nat) : (State.closeEpisode s cause).evt.slots = s.evt.slots := by
  unfold State.closeEpisode; simp [apply_ite Evt.slots, apply_ite Prod.fst, apply_ite Prod.snd, apply_dite Evt.slots]

@[simp] theorem State.startRowLost_slots (s : State) (i : Nat) : (State.startRowLost s i).evt.slots = s.evt.slots := by
  unfold State.startRowLost; simp [apply_ite Evt.slots, apply_ite Prod.fst, apply_ite Prod.snd, apply_dite Evt.slots]

@[simp] theorem State.warmPages_slotsWf (s : State) (h : memWf 0 s.evt.slots = true) : memWf 0 (State.warmPages s).evt.slots = true := by
  unfold State.warmPages; simp +contextual [h, apply_ite Evt.slots, apply_ite Prod.fst, apply_ite Prod.snd, apply_ite (memWf (0)), warmEvtPage]

@[simp] theorem State.warmPhase_slots (s : State) : (State.warmPhase s).evt.slots = s.evt.slots := by
  unfold State.warmPhase; simp [apply_ite Evt.slots, apply_ite Prod.fst, apply_ite Prod.snd, apply_dite Evt.slots]

@[simp] theorem State.warmReset_slotsWf (s : State) (h : memWf 0 s.evt.slots = true) : memWf 0 (State.warmReset s).evt.slots = true := by
  unfold State.warmReset; simp +contextual [h, apply_ite Evt.slots, apply_ite Prod.fst, apply_ite Prod.snd, apply_ite (memWf (0)), warmEvtPage]

@[simp] theorem State.warmExit_slots (s : State) : (State.warmExit s).evt.slots = s.evt.slots := by
  unfold State.warmExit; simp [apply_ite Evt.slots, apply_ite Prod.fst, apply_ite Prod.snd, apply_dite Evt.slots]

@[simp] theorem State.lrstAsk_slots (s : State) (pg : Fin 23) : (State.lrstAsk s pg).evt.slots = s.evt.slots := by
  unfold State.lrstAsk; simp [apply_ite Evt.slots, apply_ite Prod.fst, apply_ite Prod.snd, apply_dite Evt.slots]

@[simp] theorem State.lrstFcs_slots (s : State) : (State.lrstFcs s).evt.slots = s.evt.slots := by
  unfold State.lrstFcs; simp [apply_ite Evt.slots, apply_ite Prod.fst, apply_ite Prod.snd, apply_dite Evt.slots]

@[simp] theorem State.lrstMbx_slots (s : State) (c : Chan) : (State.lrstMbx s c).evt.slots = s.evt.slots := by
  unfold State.lrstMbx; simp [apply_ite Evt.slots, apply_ite Prod.fst, apply_ite Prod.snd, apply_dite Evt.slots]

@[simp] theorem State.lrstReach_slots (s : State) (p : Nat) : (State.lrstReach s p).evt.slots = s.evt.slots := by
  unfold State.lrstReach; split <;> simp [apply_ite Evt.slots, apply_ite Prod.fst, apply_ite Prod.snd]

@[simp] theorem State.resvVal_slots (s : State) (p : Fin 23) (off : Nat) : (State.resvVal s p off).evt.slots = s.evt.slots := by
  unfold State.resvVal; simp [apply_ite Evt.slots, apply_ite Prod.fst, apply_ite Prod.snd, apply_dite Evt.slots]

@[simp] theorem State.resvIf_slots (s : State) (p : Fin 23) (off : Nat) (bad : Bool) : (State.resvIf s p off bad).evt.slots = s.evt.slots := by
  unfold State.resvIf; simp [apply_ite Evt.slots, apply_ite Prod.fst, apply_ite Prod.snd, apply_dite Evt.slots]

@[simp] theorem State.keyedWrite_slots (s : State) (p : Fin 23) (off data : Nat) (refused : State → Bool) (act : State → State) (h : ∀ s, (act s).evt.slots = s.evt.slots) : (State.keyedWrite s p off data refused act).1.evt.slots = s.evt.slots := by
  simp [State.keyedWrite, h, apply_ite Prod.fst, apply_ite Prod.snd, apply_ite Evt.slots]

@[simp] theorem State.keyedWrite_slotsWf (s : State) (p : Fin 23) (off data : Nat) (refused : State → Bool) (act : State → State) (ha : ∀ s, memWf 0 s.evt.slots = true → memWf 0 (act s).evt.slots = true) (h : memWf 0 s.evt.slots = true) : memWf 0 (State.keyedWrite s p off data refused act).1.evt.slots = true := by
  simp [State.keyedWrite, h, ha, apply_ite Evt.slots, apply_ite Prod.fst, apply_ite Prod.snd, apply_ite (memWf (0))]

@[simp] theorem writeSeq_slots (s : State) (off data : Nat) : (writeSeq s off data).1.evt.slots = s.evt.slots := by
  unfold writeSeq; dsimp only; (repeat' split) <;> simp [apply_ite Evt.slots, apply_ite Prod.fst, apply_ite Prod.snd]

@[simp] theorem writeTly_slots (s : State) (off data : Nat) : (writeTly s off data).1.evt.slots = s.evt.slots := by
  unfold writeTly; split <;> simp [apply_ite Evt.slots, apply_ite Prod.fst, apply_ite Prod.snd]

@[simp] theorem State.setHlim_slots (s : State) (r v : Nat) : (State.setHlim s r v).evt.slots = s.evt.slots := by
  unfold State.setHlim; simp [apply_ite Evt.slots, apply_ite Prod.fst, apply_ite Prod.snd, apply_dite Evt.slots]

@[simp] theorem writeBeam_slots (s : State) (off data : Nat) : (writeBeam s off data).1.evt.slots = s.evt.slots := by
  unfold writeBeam; dsimp only; (repeat' split) <;> simp [apply_ite Evt.slots, apply_ite Prod.fst, apply_ite Prod.snd]

@[simp] theorem writeCtl_slots (s : State) (off data : Nat) : (writeCtl s off data).1.evt.slots = s.evt.slots := by
  unfold writeCtl; split <;> simp [apply_ite Evt.slots, apply_ite Prod.fst, apply_ite Prod.snd]

@[simp] theorem writeFcs_slots (s : State) (off data : Nat) : (writeFcs s off data).1.evt.slots = s.evt.slots := by
  unfold writeFcs; split <;> simp [apply_ite Evt.slots, apply_ite Prod.fst, apply_ite Prod.snd]

@[simp] theorem writeThm_slots (s : State) (off data : Nat) : (writeThm s off data).1.evt.slots = s.evt.slots := by
  unfold writeThm; split <;> simp [apply_ite Evt.slots, apply_ite Prod.fst, apply_ite Prod.snd]

@[simp] theorem writeSns_slots (s : State) (off data : Nat) : (writeSns s off data).1.evt.slots = s.evt.slots := by
  unfold writeSns; split <;> simp [apply_ite Evt.slots, apply_ite Prod.fst, apply_ite Prod.snd]

@[simp] theorem writeDom_slots (s : State) (off data : Nat) : (writeDom s off data).1.evt.slots = s.evt.slots := by
  unfold writeDom; split <;> simp [apply_ite Evt.slots, apply_ite Prod.fst, apply_ite Prod.snd]

@[simp] theorem writeClk_slots (s : State) (off data : Nat) : (writeClk s off data).1.evt.slots = s.evt.slots := by
  unfold writeClk; (repeat' split) <;> simp [apply_ite Evt.slots, apply_ite Prod.fst, apply_ite Prod.snd]

@[simp] theorem writePmb_slots (s : State) (off data : Nat) : (writePmb s off data).1.evt.slots = s.evt.slots := by
  unfold writePmb; simp [apply_ite Evt.slots, apply_ite Prod.fst, apply_ite Prod.snd, apply_dite Evt.slots]

@[simp] theorem State.blkCtrl_slots (s : State) (c : Chan) (data : Nat) : (State.blkCtrl s c data).1.evt.slots = s.evt.slots := by
  unfold State.blkCtrl; simp [apply_ite Evt.slots, apply_ite Prod.fst, apply_ite Prod.snd, apply_dite Evt.slots]

@[simp] theorem writeMbx_slots (s : State) (c : Chan) (off data : Nat) : (writeMbx s c off data).1.evt.slots = s.evt.slots := by
  unfold writeMbx; (repeat' split) <;> simp [apply_ite Evt.slots, apply_ite Prod.fst, apply_ite Prod.snd]

@[simp] theorem writeRst_slots (s : State) (off data : Nat) : (writeRst s off data).1.evt.slots = s.evt.slots := by
  unfold writeRst; split <;> simp [apply_ite Evt.slots, apply_ite Prod.fst, apply_ite Prod.snd]

@[simp] theorem writeRel_slots (s : State) (off data : Nat) : (writeRel s off data).1.evt.slots = s.evt.slots := by
  unfold writeRel; simp [apply_ite Evt.slots, apply_ite Prod.fst, apply_ite Prod.snd, apply_dite Evt.slots]

@[simp] theorem writeEvt_slots (s : State) (off data : Nat) : (writeEvt s off data).1.evt.slots = s.evt.slots := by
  unfold writeEvt; split <;> simp [apply_ite Evt.slots, apply_ite Prod.fst, apply_ite Prod.snd]

@[simp] theorem writeTrc_slots (s : State) (off data : Nat) : (writeTrc s off data).1.evt.slots = s.evt.slots := by
  unfold writeTrc; split <;> simp [apply_ite Evt.slots, apply_ite Prod.fst, apply_ite Prod.snd]

@[simp] theorem writeHdr_slots (s : State) (p : Fin 23) (off data : Nat) : (writeHdr s p off data).1.evt.slots = s.evt.slots := by
  unfold writeHdr; split <;> simp [apply_ite Evt.slots, apply_ite Prod.fst, apply_ite Prod.snd]

@[simp] theorem writeReg_slots (s : State) (p : Fin 23) (off data : Nat) : (writeReg s p off data).1.evt.slots = s.evt.slots := by
  unfold writeReg; (repeat' split) <;> simp [apply_ite Evt.slots, apply_ite Prod.fst, apply_ite Prod.snd]

@[simp] theorem State.addrFault_slots (s : State) (addr : Nat) (we sec : Bool) : (State.addrFault s addr we sec).evt.slots = s.evt.slots := by
  unfold State.addrFault; simp [apply_ite Evt.slots, apply_ite Prod.fst, apply_ite Prod.snd, apply_dite Evt.slots]

@[simp] theorem State.dataFault_slots (s : State) (addr : Nat) : (State.dataFault s addr).evt.slots = s.evt.slots := by
  unfold State.dataFault; simp [apply_ite Evt.slots, apply_ite Prod.fst, apply_ite Prod.snd, apply_dite Evt.slots]

@[simp] theorem State.secRefused_slots (s : State) (p : Fin 23) (addr : Nat) (we : Bool) : (State.secRefused s p addr we).evt.slots = s.evt.slots := by
  unfold State.secRefused; simp [apply_ite Evt.slots, apply_ite Prod.fst, apply_ite Prod.snd, apply_dite Evt.slots]

@[simp] theorem State.driverCold_slots (s : State) (p : Fin 23) (off : Nat) : (State.driverCold s p off).evt.slots = s.evt.slots := by
  unfold State.driverCold; dsimp only; (repeat' split) <;> simp [apply_ite Evt.slots, apply_ite Prod.fst, apply_ite Prod.snd]

@[simp] theorem State.regAgain_slots (s : State) (p : Fin 23) (addr : Nat) : (State.regAgain s p addr).evt.slots = s.evt.slots := by
  unfold State.regAgain; simp [apply_ite Evt.slots, apply_ite Prod.fst, apply_ite Prod.snd, apply_dite Evt.slots]

end Sys2Proof.Machine
end

