-- ==== Sys2Proof/Laws/KeepStaging.lean ====
section
/-! SUPPORT. The staging memory (R427): each operation leaves them as they are, or keeps their canonical form. -/

set_option linter.unusedSimpArgs false

namespace Sys2Proof.Machine

open Sys2Proof

@[simp] theorem foldl_mem {α : Type} (f : State → α → State) (h : ∀ s a, (f s a).stg.mem = s.stg.mem) (l : List α) (s : State) : (l.foldl f s).stg.mem = s.stg.mem :=
  foldl_proj (fun (x : State) => x.stg.mem) f h l s

@[simp] theorem foldl_memWf {α : Type} (f : State → α → State) (h : ∀ s a, memWf 0#8 s.stg.mem = true → memWf 0#8 (f s a).stg.mem = true) (l : List α) (s : State) (hs : memWf 0#8 s.stg.mem = true) : memWf 0#8 (l.foldl f s).stg.mem = true :=
  keep_foldl (P := fun (x : State) => memWf 0#8 x.stg.mem = true) h l hs

@[simp] theorem State.stgWrite_memWf (s : State) (a : Nat) (bs : List Nat) (h : memWf 0#8 s.stg.mem = true) : memWf 0#8 (State.stgWrite s a bs).stg.mem = true := by
  unfold State.stgWrite; simp +contextual [h, apply_ite Stg.mem, apply_ite Prod.fst, apply_ite Prod.snd, apply_ite (memWf (0#8))]

@[simp] theorem State.abandonLoad_mem (s : State) (st : Nat) : (State.abandonLoad s st).stg.mem = s.stg.mem := by
  unfold State.abandonLoad; simp [apply_ite Stg.mem, apply_ite Prod.fst, apply_ite Prod.snd, apply_dite Stg.mem]

@[simp] theorem State.heartbeatLost_mem (s : State) (cause : Nat) : (State.heartbeatLost s cause).stg.mem = s.stg.mem := by
  unfold State.heartbeatLost; simp [apply_ite Stg.mem, apply_ite Prod.fst, apply_ite Prod.snd, apply_dite Stg.mem]

@[simp] theorem State.tripEntry_mem (s : State) : (State.tripEntry s).stg.mem = s.stg.mem := by
  unfold State.tripEntry; simp [apply_ite Stg.mem, apply_ite Prod.fst, apply_ite Prod.snd, apply_dite Stg.mem]

@[simp] theorem State.trip_mem (s : State) (cause src value : Nat) : (State.trip s cause src value).stg.mem = s.stg.mem := by
  unfold State.trip; simp [apply_ite Stg.mem, apply_ite Prod.fst, apply_ite Prod.snd, apply_dite Stg.mem]

@[simp] theorem State.ovTrip_mem (s : State) (r vUv : Nat) : (State.ovTrip s r vUv).stg.mem = s.stg.mem := by
  unfold State.ovTrip; simp [apply_ite Stg.mem, apply_ite Prod.fst, apply_ite Prod.snd, apply_dite Stg.mem]

@[simp] theorem State.railSample_mem (s : State) (r : Nat) : (State.railSample s r).stg.mem = s.stg.mem := by
  unfold State.railSample; simp [apply_ite Stg.mem, apply_ite Prod.fst, apply_ite Prod.snd, apply_dite Stg.mem]

@[simp] theorem State.goodWord_mem (s : State) (r d : Nat) : (State.goodWord s r d).stg.mem = s.stg.mem := by
  unfold State.goodWord; simp [apply_ite Stg.mem, apply_ite Prod.fst, apply_ite Prod.snd, apply_dite Stg.mem]

@[simp] theorem State.loseBytes_memWf (a n : Nat) (s : State) (h : memWf 0#8 s.stg.mem = true) : memWf 0#8 (State.loseBytes a n s).stg.mem = true := by
  induction a generalizing n s with
  | zero => simpa [State.loseBytes] using h
  | succ k ih => unfold State.loseBytes; dsimp only; (repeat' split) <;> simp [ih, h, apply_ite Stg.mem, apply_ite Prod.fst, apply_ite Prod.snd]

@[simp] theorem State.stagingDamage_memWf (s : State) (row : Nat) (h : memWf 0#8 s.stg.mem = true) : memWf 0#8 (State.stagingDamage s row).stg.mem = true := by
  unfold State.stagingDamage; simp +contextual [h, apply_ite Stg.mem, apply_ite Prod.fst, apply_ite Prod.snd, apply_ite (memWf (0#8))]

@[simp] theorem State.shutdown_mem (s : State) (cause src : Nat) (value : Int) : (State.shutdown s cause src value).stg.mem = s.stg.mem := by
  unfold State.shutdown; simp [apply_ite Stg.mem, apply_ite Prod.fst, apply_ite Prod.snd, apply_dite Stg.mem]

@[simp] theorem State.sweepCauses_mem (s : State) : (State.sweepCauses s).stg.mem = s.stg.mem := by
  unfold State.sweepCauses; exact (foldl_proj (fun (x : State) => x.stg.mem) _ (by intro s a; dsimp only; (repeat' split) <;> simp) _ _).trans (foldl_proj (fun (x : State) => x.stg.mem) _ (by intro s a; dsimp only; (repeat' split) <;> simp) _ _)

@[simp] theorem State.dwellCause_mem (s : State) : (State.dwellCause s).stg.mem = s.stg.mem := by
  unfold State.dwellCause; exact foldl_proj (fun (x : State) => x.stg.mem) _ (by intro s a; dsimp only; (repeat' split) <;> simp) _ _

@[simp] theorem State.stepCauses_mem (s : State) : (State.stepCauses s).stg.mem = s.stg.mem := by
  unfold State.stepCauses; exact foldl_proj (fun (x : State) => x.stg.mem) _ (by intro s a; dsimp only; (repeat' split) <;> simp) _ _

@[simp] theorem State.tripGroup_mem (s : State) (g : Nat) : (State.tripGroup s g).stg.mem = s.stg.mem := by
  unfold State.tripGroup; simp [apply_ite Stg.mem, apply_ite Prod.fst, apply_ite Prod.snd, apply_dite Stg.mem]

@[simp] theorem State.tripRate_mem (prev : List Nat) (t : Nat) (s : State) (g : Nat) : (State.tripRate prev t s g).stg.mem = s.stg.mem := by
  unfold State.tripRate; dsimp only; (repeat' split) <;> simp [apply_ite Stg.mem, apply_ite Prod.fst, apply_ite Prod.snd]

@[simp] theorem State.tripStack_mem (s : State) (k : Nat) : (State.tripStack s k).stg.mem = s.stg.mem := by
  unfold State.tripStack; simp [apply_ite Stg.mem, apply_ite Prod.fst, apply_ite Prod.snd, apply_dite Stg.mem]

set_option maxRecDepth 8000 in
@[simp] theorem State.thermalTrips_mem (s : State) (prev : List Nat) (t : Nat) : (State.thermalTrips s prev t).stg.mem = s.stg.mem := by
  unfold State.thermalTrips; simp [apply_ite Stg.mem, apply_ite Prod.fst, apply_ite Prod.snd, apply_dite Stg.mem]

@[simp] theorem State.received_mem (s : State) (d : Dir) (m : BitVec 128) (typ : Nat) (f : State → State) (h : ∀ s, (f s).stg.mem = s.stg.mem) : (State.received s d m typ f).stg.mem = s.stg.mem := by
  simp [State.received, h, apply_ite Prod.fst, apply_ite Prod.snd, apply_ite Stg.mem]

@[simp] theorem State.received_memWf (s : State) (d : Dir) (m : BitVec 128) (typ : Nat) (f : State → State) (ha : ∀ s, memWf 0#8 s.stg.mem = true → memWf 0#8 (f s).stg.mem = true) (h : memWf 0#8 s.stg.mem = true) : memWf 0#8 (State.received s d m typ f).stg.mem = true := by
  simp [State.received, h, ha, apply_ite Stg.mem, apply_ite Prod.fst, apply_ite Prod.snd, apply_ite (memWf (0#8))]

@[simp] theorem State.clockLost_mem (s : State) (c : Nat) : (State.clockLost s c).stg.mem = s.stg.mem := by
  unfold State.clockLost; simp [apply_ite Stg.mem, apply_ite Prod.fst, apply_ite Prod.snd, apply_dite Stg.mem]

@[simp] theorem State.parentTake_mem (s : State) (f : KFrame) (act : State → State) (h : ∀ s, (act s).stg.mem = s.stg.mem) : (State.parentTake s f act).2.stg.mem = s.stg.mem := by
  simp [State.parentTake, h, apply_ite Prod.fst, apply_ite Prod.snd, apply_ite Stg.mem]

@[simp] theorem State.parentTake_memWf (s : State) (f : KFrame) (act : State → State) (ha : ∀ s, memWf 0#8 s.stg.mem = true → memWf 0#8 (act s).stg.mem = true) (h : memWf 0#8 s.stg.mem = true) : memWf 0#8 (State.parentTake s f act).2.stg.mem = true := by
  simp [State.parentTake, h, ha, apply_ite Stg.mem, apply_ite Prod.fst, apply_ite Prod.snd, apply_ite (memWf (0#8))]

@[simp] theorem State.scrubBad_memWf (s : State) (k a w : Nat) (again : Bool) (h : memWf 0#8 s.stg.mem = true) : memWf 0#8 (State.scrubBad s k a w again).stg.mem = true := by
  unfold State.scrubBad; (repeat' split) <;> simp [h, apply_ite Stg.mem, apply_ite Prod.fst, apply_ite Prod.snd, apply_ite (memWf (0#8))]

@[simp] theorem State.commitFailed_mem (s : State) (st : Nat) : (State.commitFailed s st).stg.mem = s.stg.mem := by
  unfold State.commitFailed; simp [apply_ite Stg.mem, apply_ite Prod.fst, apply_ite Prod.snd, apply_dite Stg.mem]

@[simp] theorem State.commitDone_mem (s : State) : (State.commitDone s).stg.mem = s.stg.mem := by
  unfold State.commitDone; simp [apply_ite Stg.mem, apply_ite Prod.fst, apply_ite Prod.snd, apply_dite Stg.mem]

@[simp] theorem State.abortCmd_mem (s : State) : (State.abortCmd s).stg.mem = s.stg.mem := by
  unfold State.abortCmd; simp [apply_ite Stg.mem, apply_ite Prod.fst, apply_ite Prod.snd, apply_dite Stg.mem]

@[simp] theorem State.activationRefused_mem (s : State) (st : Nat) : (State.activationRefused s st).stg.mem = s.stg.mem := by
  unfold State.activationRefused; simp [apply_ite Stg.mem, apply_ite Prod.fst, apply_ite Prod.snd, apply_dite Stg.mem]

@[simp] theorem State.switchIn_mem (s : State) (im : Image) : (State.switchIn s im).stg.mem = s.stg.mem := by
  unfold State.switchIn; simp [apply_ite Stg.mem, apply_ite Prod.fst, apply_ite Prod.snd, apply_dite Stg.mem]

@[simp] theorem State.activationStep_mem (s : State) : (State.activationStep s).stg.mem = s.stg.mem := by
  unfold State.activationStep; dsimp only; (repeat' split) <;> simp [apply_ite Stg.mem, apply_ite Prod.fst, apply_ite Prod.snd]

@[simp] theorem State.sampleRail_mem (s : State) (r : Nat) : (State.sampleRail s r).stg.mem = s.stg.mem := by
  unfold State.sampleRail; simp [apply_ite Stg.mem, apply_ite Prod.fst, apply_ite Prod.snd, apply_dite Stg.mem]

@[simp] theorem State.boundary_mem (s : State) (num : Nat) (gov : Bool) : (State.boundary s num gov).stg.mem = s.stg.mem := by
  unfold State.boundary; simp [apply_ite Stg.mem, apply_ite Prod.fst, apply_ite Prod.snd, apply_dite Stg.mem]

@[simp] theorem State.warmLoad_mem (s : State) : (State.warmLoad s).stg.mem = s.stg.mem := by
  unfold State.warmLoad; simp [apply_ite Stg.mem, apply_ite Prod.fst, apply_ite Prod.snd, apply_dite Stg.mem]

@[simp] theorem State.keyedWrite_mem (s : State) (p : Fin 23) (off data : Nat) (refused : State → Bool) (act : State → State) (h : ∀ s, (act s).stg.mem = s.stg.mem) : (State.keyedWrite s p off data refused act).1.stg.mem = s.stg.mem := by
  simp [State.keyedWrite, h, apply_ite Prod.fst, apply_ite Prod.snd, apply_ite Stg.mem]

@[simp] theorem State.keyedWrite_memWf (s : State) (p : Fin 23) (off data : Nat) (refused : State → Bool) (act : State → State) (ha : ∀ s, memWf 0#8 s.stg.mem = true → memWf 0#8 (act s).stg.mem = true) (h : memWf 0#8 s.stg.mem = true) : memWf 0#8 (State.keyedWrite s p off data refused act).1.stg.mem = true := by
  simp [State.keyedWrite, h, ha, apply_ite Stg.mem, apply_ite Prod.fst, apply_ite Prod.snd, apply_ite (memWf (0#8))]

@[simp] theorem State.putWdata_memWf (s : State) (data : Nat) (h : memWf 0#8 s.stg.mem = true) : memWf 0#8 (State.putWdata s data).1.stg.mem = true := by
  unfold State.putWdata; simp +contextual [h, apply_ite Stg.mem, apply_ite Prod.fst, apply_ite Prod.snd, apply_ite (memWf (0#8))]

@[simp] theorem writeSeq_mem (s : State) (off data : Nat) : (writeSeq s off data).1.stg.mem = s.stg.mem := by
  unfold writeSeq; dsimp only; (repeat' split) <;> simp [apply_ite Stg.mem, apply_ite Prod.fst, apply_ite Prod.snd]

@[simp] theorem writeFcs_memWf (s : State) (off data : Nat) (h : memWf 0#8 s.stg.mem = true) : memWf 0#8 (writeFcs s off data).1.stg.mem = true := by
  unfold writeFcs; split <;> simp [h, apply_ite Stg.mem, apply_ite Prod.fst, apply_ite Prod.snd, apply_ite (memWf (0#8))]

@[simp] theorem writeReg_memWf (s : State) (p : Fin 23) (off data : Nat) (h : memWf 0#8 s.stg.mem = true) : memWf 0#8 (writeReg s p off data).1.stg.mem = true := by
  unfold writeReg; (repeat' split) <;> simp [h, apply_ite Stg.mem, apply_ite Prod.fst, apply_ite Prod.snd, apply_ite (memWf (0#8))]

end Sys2Proof.Machine
end

