-- ==== Sys2Proof/Laws/Whole.lean ====
section
/-! SUPPORT. An access on the host port and a cold reset as wholes: what each leaves alone, and that the memories stay in their
canonical form. -/

set_option linter.unusedSimpArgs false

namespace Sys2Proof.Machine

open Sys2Proof

/-- A write on the host port moves no time, takes no free value and touches no waiting command. -/
@[simp] theorem hostWrite_pages (s : State) (addr data : Nat) (acc : HostAcc) : (hostWrite s addr data acc).now = s.now ∧
    (hostWrite s addr data acc).free = s.free ∧ (hostWrite s addr data acc).pending = s.pending := by
  unfold hostWrite; refine ⟨?_, ?_, ?_⟩ <;> (dsimp only; (repeat' split) <;> simp)

/-- A write on the host port keeps the memories in their canonical form. -/
@[simp] theorem hostWrite_memWf (s : State) (addr data : Nat) (acc : HostAcc) (h : memWf (0#8) s.stg.mem = true) :
    memWf (0#8) (hostWrite s addr data acc).stg.mem = true := by
  unfold hostWrite; dsimp only; (repeat' split) <;> simp [h]

/-- A write on the host port keeps the memories in their canonical form. -/
@[simp] theorem hostWrite_slotsWf (s : State) (addr data : Nat) (acc : HostAcc) (h : memWf 0 s.evt.slots = true) :
    memWf 0 (hostWrite s addr data acc).evt.slots = true := by
  unfold hostWrite; dsimp only; (repeat' split) <;> simp [h]

/-- A write on the host port keeps the memories in their canonical form. -/
@[simp] theorem hostWrite_rowsWf (s : State) (addr data : Nat) (acc : HostAcc) (h : memWf 0 s.tly.rows = true) :
    memWf 0 (hostWrite s addr data acc).tly.rows = true := by
  unfold hostWrite; dsimp only; (repeat' split) <;> simp [h]

/-- A write on the host port keeps the memories in their canonical form. -/
@[simp] theorem hostWrite_mapsWf (s : State) (addr data : Nat) (acc : HostAcc) (h : memWf 0 s.tly.maps = true) :
    memWf 0 (hostWrite s addr data acc).tly.maps = true := by
  unfold hostWrite; dsimp only; (repeat' split) <;> simp [h]

/-- A read on the host port leaves every page but the CMN counters, the headers and the recorder alone (R102). -/
@[simp] theorem hostRead_pages (s : State) (addr : Nat) (acc : HostAcc) : (hostRead s addr acc).seq = s.seq ∧
    (hostRead s addr acc).tly = s.tly ∧ (hostRead s addr acc).adm = s.adm ∧ (hostRead s addr acc).beam = s.beam ∧
    (hostRead s addr acc).ctl = s.ctl ∧ (hostRead s addr acc).fcs = s.fcs ∧ (hostRead s addr acc).thm = s.thm ∧
    (hostRead s addr acc).sns = s.sns ∧ (hostRead s addr acc).dom = s.dom ∧ (hostRead s addr acc).clk = s.clk ∧
    (hostRead s addr acc).vrg = s.vrg ∧ (hostRead s addr acc).pmb = s.pmb ∧ (hostRead s addr acc).frm = s.frm ∧
    (hostRead s addr acc).tre = s.tre ∧ (hostRead s addr acc).mbs = s.mbs ∧ (hostRead s addr acc).mbn = s.mbn ∧
    (hostRead s addr acc).rck = s.rck ∧ (hostRead s addr acc).aut = s.aut ∧ (hostRead s addr acc).rst = s.rst ∧
    (hostRead s addr acc).rel = s.rel ∧ (hostRead s addr acc).trc = s.trc ∧ (hostRead s addr acc).stg = s.stg ∧
    (hostRead s addr acc).pairLo = s.pairLo ∧ (hostRead s addr acc).now = s.now ∧ (hostRead s addr acc).free = s.free ∧
    (hostRead s addr acc).pending = s.pending ∧ (hostRead s addr acc).evt.slots = s.evt.slots := by
  unfold hostRead
  refine ⟨?_, ?_, ?_, ?_, ?_, ?_, ?_, ?_, ?_, ?_, ?_, ?_, ?_, ?_, ?_, ?_, ?_, ?_, ?_, ?_, ?_, ?_, ?_, ?_, ?_, ?_, ?_⟩ <;>
    (dsimp only; (repeat' split) <;> simp)

/-- Clearing every MARK keeps the recorder's slots canonical (R518). -/
theorem memWfFrom_clearMarks (m : List (Nat × Nat)) (lo : Option Nat) (h : memWfFrom 0 lo m = true) : memWfFrom 0 lo (clearMarks m) = true := by
  induction m generalizing lo with
  | nil => rfl
  | cons x m ih =>
    obtain ⟨k, v⟩ := x
    simp only [memWfFrom, Bool.and_eq_true] at h
    unfold clearMarks
    split
    · refine ih lo (memWfFrom_weaken 0 (some k) lo m ?_ h.2)
      intro a ha; subst ha; exact ⟨k, rfl, by have := h.1.1; simp at this; omega⟩
    · rename_i hv
      simp only [memWfFrom, Bool.and_eq_true]
      exact ⟨⟨h.1.1, by simpa using hv⟩, ih _ h.2⟩

/-- Clearing every MARK keeps the recorder's slots canonical (R518). -/
@[simp] theorem memWf_clearMarks (m : List (Nat × Nat)) (h : memWf 0 m = true) : memWf 0 (clearMarks m) = true := memWfFrom_clearMarks m none h

/-- A cold reset leaves the waiting commands, and every memory of the state it makes is empty (R453). -/
@[simp] theorem coldState_facts (s : State) (r : Rst) : (coldState s r).pending = s.pending ∧ (coldState s r).free = s.free ∧
    (coldState s r).rst = r ∧ (coldState s r).stg.mem = [] ∧ (coldState s r).evt.slots = [] ∧ (coldState s r).tly.rows = [] ∧
    (coldState s r).tly.maps = [] ∧ (coldState s r).now = 0 := by
  simp [coldState, State.reset]

/-- The exit of a cold reset leaves the waiting commands, and the memories empty. -/
@[simp] theorem coldExit_facts (s : State) : s.coldExit.pending = s.pending ∧ s.coldExit.stg.mem = [] ∧ s.coldExit.evt.slots = [] ∧
    s.coldExit.tly.rows = [] ∧ s.coldExit.tly.maps = [] ∧ s.coldExit.now = 0 ∧ s.coldExit.cmn = s.cmn := by
  unfold State.coldExit
  refine ⟨?_, ?_, ?_, ?_, ?_, ?_, ?_⟩ <;> (dsimp only; (repeat' split) <;> simp)

end Sys2Proof.Machine
end

