-- ==== Sys2Proof/Laws/State.lean ====
section
/-! SUPPORT. The value each named update gives the page it writes, and the elements of the repeated registers: true by rfl, so
that no later proof unfolds an update. The pages an update leaves alone stand in the Pages files. -/

namespace Sys2Proof.Machine

open Sys2Proof

/-- Two states are equal where every page of them is. -/
theorem State.eq_of_pages (s t : State) : s = t ↔ s.cmn = t.cmn ∧ s.seq = t.seq ∧ s.tly = t.tly ∧ s.adm = t.adm ∧ s.beam = t.beam ∧ s.ctl = t.ctl ∧
    s.fcs = t.fcs ∧ s.thm = t.thm ∧ s.sns = t.sns ∧ s.dom = t.dom ∧ s.clk = t.clk ∧ s.vrg = t.vrg ∧
    s.pmb = t.pmb ∧ s.frm = t.frm ∧ s.tre = t.tre ∧ s.mbs = t.mbs ∧ s.mbn = t.mbn ∧ s.rck = t.rck ∧
    s.aut = t.aut ∧ s.rst = t.rst ∧ s.rel = t.rel ∧ s.evt = t.evt ∧ s.trc = t.trc ∧ s.hdr = t.hdr ∧
    s.stg = t.stg ∧ s.hst = t.hst ∧ s.pairLo = t.pairLo ∧ s.now = t.now ∧ s.free = t.free ∧ s.pending = t.pending := by
  cases s; cases t; simp only [State.mk.injEq]

/-- An element of a repeated register after it is changed. -/
theorem vAt_vMod_same {α : Type} {n : Nat} (v : Vector α n) (i : Nat) (f : α → α) (d : α) (h : i < n) :
    vAt (vMod v i f) i d = f (vAt v i d) := by
  simp [vAt, vMod, h]

/-- Another element of a repeated register keeps its value. -/
theorem vAt_vMod_other {α : Type} {n : Nat} (v : Vector α n) (i j : Nat) (f : α → α) (d : α) (h : i ≠ j) :
    vAt (vMod v i f) j d = vAt v j d := by
  unfold vAt vMod
  by_cases hi : i < n <;> by_cases hj : j < n <;> simp [hi, hj, h]

@[simp] theorem State.hdrMod_hdr (s : State) (p : Fin 23) (f : PageHdr → PageHdr) : (State.hdrMod s p f).hdr = s.hdr.set p (f s.hdr[p]) := rfl

@[simp] theorem State.tookFree_free (s : State) : (State.tookFree s).free = s.free + 1 := rfl

@[simp] theorem State.wordReplayed_rel (s : State) : (State.wordReplayed s).rel = { s.rel with REPLAY_REPLAYED := satAdd 16 s.rel.REPLAY_REPLAYED 1 } := rfl

@[simp] theorem State.respMod_beam (s : State) (r k : Nat) (f : Resp → Resp) : (State.respMod s r k f).beam = { s.beam with rail := vMod s.beam.rail r fun e => { e with resp := vMod e.resp k f } } := rfl

@[simp] theorem State.detMod_beam (s : State) (d : Nat) (f : BeamDet → BeamDet) : (State.detMod s d f).beam = { s.beam with det := vMod s.beam.det d f } := rfl

@[simp] theorem State.brMod_beam (s : State) (r : Nat) (f : BeamRail → BeamRail) : (State.brMod s r f).beam = { s.beam with rail := vMod s.beam.rail r f } := rfl

@[simp] theorem State.wearMod_rel (s : State) (r : Nat) (f : RelWear → RelWear) : (State.wearMod s r f).rel = { s.rel with wear := vMod s.rel.wear r f } := rfl

@[simp] theorem State.ctlMod_ctl (s : State) (r : Nat) (f : CtlRail → CtlRail) : (State.ctlMod s r f).ctl = { s.ctl with rail := vMod s.ctl.rail r f } := rfl

@[simp] theorem State.ctlEpoch_ctl (s : State) : (State.ctlEpoch s).ctl = { s.ctl with rail := s.ctl.rail.map fun (e : CtlRail) => { e with rhoEp := if e.rhoNow then e.rhoEp + 1 else 0, rhoNow := false } } := rfl

@[simp] theorem State.fcsMod_fcs (s : State) (r : Nat) (f : FcsRail → FcsRail) : (State.fcsMod s r f).fcs = { s.fcs with rail := vMod s.fcs.rail r f } := rfl

@[simp] theorem State.onFcs_fcs (s : State) (f : Fcs → Fcs) : (State.onFcs s f).fcs = f s.fcs := rfl

@[simp] theorem State.warmup_fcs (s : State) : (State.warmup s).fcs = { s.fcs with STAT_WARM_LEFT := s.fcs.MODEL_RF } := rfl

@[simp] theorem State.fcsDrain_fcs (s : State) : (State.fcsDrain s).fcs = { s.fcs with rail := s.fcs.rail.map fun (e : FcsRail) => { e with RAIL_DRIFT := e.RAIL_LOCKED } } := rfl

@[simp] theorem State.grpMod_thm (s : State) (g : Nat) (f : ThmGrp → ThmGrp) : (State.grpMod s g f).thm = { s.thm with grp := vMod s.thm.grp g f } := rfl

@[simp] theorem State.stkMod_thm (s : State) (k : Nat) (f : ThmStk → ThmStk) : (State.stkMod s k f).thm = { s.thm with stk := vMod s.thm.stk k f } := rfl

@[simp] theorem State.onThm_thm (s : State) (f : Thm → Thm) : (State.onThm s f).thm = f s.thm := rfl

@[simp] theorem State.tsMod_sns (s : State) (i : Nat) (f : SnsTs → SnsTs) : (State.tsMod s i f).sns = { s.sns with ts := vMod s.sns.ts i f } := rfl

@[simp] theorem State.onSns_sns (s : State) (f : Sns → Sns) : (State.onSns s f).sns = f s.sns := rfl

@[simp] theorem State.domMod_dom (s : State) (d : Nat) (f : DomDom → DomDom) : (State.domMod s d f).dom = { s.dom with dom := vMod s.dom.dom d f } := rfl

@[simp] theorem State.forcedOne_thm (s : State) : (State.forcedOne s).thm = { s.thm with shutForced := s.thm.shutForced + 1 } := rfl

@[simp] theorem State.clkMod_clk (s : State) (c : Nat) (f : ClkDom → ClkDom) : (State.clkMod s c f).clk = { s.clk with dom := vMod s.clk.dom c f } := rfl

@[simp] theorem State.fLower_clk (s : State) : (State.fLower s).clk = { s.clk with dom := Vector.ofFn fun c : Fin 25 => { s.clk.dom[c] with ST_F_TGT := min s.clk.dom[c].ST_F_TGT (fRaw s c) } } := rfl

@[simp] theorem State.fRaise_clk (s : State) : (State.fRaise s).clk = { s.clk with dom := Vector.ofFn fun c : Fin 25 => { s.clk.dom[c] with ST_F_TGT := fRaw s c } } := rfl

@[simp] theorem State.convMod_pmb (s : State) (i : Nat) (f : PmbConv → PmbConv) : (State.convMod s i f).pmb = { s.pmb with conv := vMod s.pmb.conv i f } := rfl

@[simp] theorem State.onRck_rck (s : State) (f : Rck → Rck) : (State.onRck s f).rck = f s.rck := rfl

@[simp] theorem State.portMod_tre (s : State) (p : Nat) (f : TrePort → TrePort) : (State.portMod s p f).tre = { s.tre with port := vMod s.tre.port p f } := rfl

@[simp] theorem State.onTre_tre (s : State) (f : Tre → Tre) : (State.onTre s f).tre = f s.tre := rfl

@[simp] theorem State.memberMod_frm (s : State) (m : Nat) (f : FrmMember → FrmMember) : (State.memberMod s m f).frm = { s.frm with member := vMod s.frm.member m f } := rfl

@[simp] theorem State.onFrm_frm (s : State) (f : Frm → Frm) : (State.onFrm s f).frm = f s.frm := rfl

@[simp] theorem State.vrgMod_vrg (s : State) (r : Nat) (f : VrgRail → VrgRail) : (State.vrgMod s r f).vrg = { s.vrg with rail := vMod s.vrg.rail r f } := rfl

@[simp] theorem State.vrgTaken_vrg (s : State) : (State.vrgTaken s).vrg = { s.vrg with cur := none } := rfl

@[simp] theorem State.demandNote_frm (s : State) (extra : Nat) : (State.demandNote s extra).frm = { s.frm with peak := max s.frm.peak (pBase s + pBooked s + extra) } := rfl

@[simp] theorem State.beadsGone_fcs (s : State) (r n : Nat) : (State.beadsGone s r n).fcs = { s.fcs with rail := vMod s.fcs.rail r fun e => { e with nGone := e.nGone + n } } := rfl

@[simp] theorem State.askDone_adm (s : State) : (State.askDone s).adm = { s.adm with askAt := none } := rfl

@[simp] theorem State.polDown_tly (s : State) (r : Nat) : (State.polDown s r).tly = { s.tly with rail := vMod s.tly.rail r fun e => { e with pol := e.pol - 1, polLow := min e.polLow (e.pol - 1), polOver := 0 } } := rfl

@[simp] theorem State.harvestBegin_tly (s : State) (r : Nat) : (State.harvestBegin s r).tly = { s.tly with rail := vMod s.tly.rail r fun e => { e with HARV_HARV := harvestOk s r } } := rfl

end Sys2Proof.Machine
end

