-- ==== Sys2Proof/Laws/Beam.lean ====
section
/-! SUPPORT. What follows a change of the beam's responses, and what a change of its limits leaves of a rail. -/

namespace Sys2Proof.Machine

open Sys2Proof

/-- What follows a change of the responses marks times and lowest ceilings, and nothing else on the BEAM page (R213, R223). -/
theorem beamSettle_beam (s : State) : ∃ (fl : Vector (Option Nat) 25) (rl : Vector BeamRail 16) (dl : Nat) (eg : Option Nat) (et : Nat),
    s.beamSettle.beam = { s.beam with floorAt := fl, rail := rl, dcLow := dl, emgGone := eg, emgTerm := et } ∧
    ∀ r : Fin 16, ∃ lo, rl[r] = { s.beam.rail[r] with rcLow := lo } := by
  have e : ∀ (l : List Nat) (u : State), (l.foldl State.intrStep u).beam = u.beam := fun l u => foldl_beam _ (by intro v a; simp) l u
  unfold State.beamSettle
  dsimp only
  rw [e]
  refine iteInduction (motive := fun X : State => ∃ (fl : Vector (Option Nat) 25) (rl : Vector BeamRail 16) (dl : Nat) (eg : Option Nat)
    (et : Nat), X.beam = { s.beam with floorAt := fl, rail := rl, dcLow := dl, emgGone := eg, emgTerm := et } ∧
    ∀ r : Fin 16, ∃ lo, rl[r] = { s.beam.rail[r] with rcLow := lo }) (fun _ => ?_) (fun _ => ?_) <;>
  · refine ⟨_, _, _, _, _, rfl, fun r => ?_⟩
    simp only [Fin.getElem_fin, Vector.getElem_ofFn]
    exact ⟨_, rfl⟩

/-- Lowered limits change a rail's figures in force alone (R198, R219). -/
theorem lowerLimits_rail (s : State) (r : Fin 16) : ∃ a b, s.lowerLimits.beam.rail[r] = { s.beam.rail[r] with iPre := a, iAdm := b } := by
  unfold State.lowerLimits
  dsimp only
  simp only [Fin.getElem_fin, Vector.getElem_ofFn]
  exact ⟨_, _, rfl⟩

end Sys2Proof.Machine
end

