-- ==== Sys2Proof/Laws/Shared.lean ====
section
/-! SUPPORT. What the shared operations do to the pages they write: an error and its event touch the recorder and the headers,
a shown state the SEQ page, a keyed check the AUT page. -/

namespace Sys2Proof.Machine

open Sys2Proof

/-- A header keeps everything but PAGE_ERR where errors arrive. -/
theorem PageHdr.withErr_eq (h : PageHdr) (b : Nat) : h.withErr b = { h with err := (h.withErr b).err } := by
  unfold PageHdr.withErr; split <;> rfl

/-- The bit of an error that arrives is set (R107). -/
theorem PageHdr.withErr_bit (h : PageHdr) (b : Nat) : (h.withErr b).err.testBit b = true := by
  unfold PageHdr.withErr
  split
  · rename_i hb; simp [Nat.testBit_or, hb]
  · simp [Nat.testBit_or, Nat.testBit_shiftLeft]

/-- An error that arrives clears no bit. -/
theorem PageHdr.withErr_keeps (h : PageHdr) (b i : Nat) (hi : h.err.testBit i = true) : (h.withErr b).err.testBit i = true := by
  unfold PageHdr.withErr; split <;> simp [Nat.testBit_or, hi]

/-- An event leaves every header but the recorder's alone, and of that one all but PAGE_ERR. -/
theorem event_hdr (s : State) (c : Nat) (d : List Nat) :
    (s.event c d).hdr = s.hdr.set pgEvt { s.hdr[pgEvt] with err := (s.event c d).hdr[pgEvt].err } := by
  have key : ∀ t : State, t.hdr = s.hdr ∨ (∃ b, t.hdr = s.hdr.set pgEvt (s.hdr[pgEvt].withErr b)) →
      t.hdr = s.hdr.set pgEvt { s.hdr[pgEvt] with err := t.hdr[pgEvt].err } := by
    intro t ht
    rcases ht with h | ⟨b, h⟩
    · rw [h]; exact (Vector.set_getElem_self (by decide)).symm
    · rw [h]; simp [← PageHdr.withErr_eq]
  apply key
  unfold State.event State.enqueue
  dsimp only
  (repeat' split) <;> first | (left; rfl) | (right; exact ⟨_, rfl⟩)

/-- An event leaves the header of every page but the recorder's alone. -/
theorem event_hdr_other (s : State) (c : Nat) (d : List Nat) (q : Fin 23) (h : q ≠ pgEvt) : (s.event c d).hdr[q] = s.hdr[q] := by
  rw [event_hdr]
  have : (21 : Nat) ≠ q.val := fun e => h (Fin.ext (by simpa using e.symm))
  simp [this]

/-- An event clears no error of the recorder's page. -/
theorem event_hdr_keeps (s : State) (c : Nat) (d : List Nat) (q : Fin 23) (i : Nat) (hi : s.hdr[q].err.testBit i = true) :
    (s.event c d).hdr[q].err.testBit i = true := by
  by_cases hq : q = pgEvt
  · subst hq
    unfold State.event State.enqueue
    dsimp only
    (repeat' split) <;> simp_all [State.setErr, State.hdrMod, PageHdr.withErr_keeps]
  · rw [event_hdr_other _ _ _ _ hq]; exact hi

/-- An error with its event sets its bit (R107). -/
theorem fault_bit (s : State) (p : Fin 23) (b c : Nat) (d : List Nat) : (s.fault p b c d).hdr[p].err.testBit b = true := by
  unfold State.fault
  dsimp only
  split
  · simp [State.setErr, State.hdrMod, PageHdr.withErr_bit]
  · apply event_hdr_keeps
    simp [State.setErr, State.hdrMod, PageHdr.withErr_bit]

/-- An error with its event clears no error of any page. -/
theorem fault_hdr_keeps (s : State) (p : Fin 23) (b c : Nat) (d : List Nat) (q : Fin 23) (i : Nat)
    (hi : s.hdr[q].err.testBit i = true) : (s.fault p b c d).hdr[q].err.testBit i = true := by
  have h1 : (s.setErr p b).hdr[q].err.testBit i = true := by
    by_cases h : p = q
    · subst h; simpa [State.setErr, State.hdrMod] using PageHdr.withErr_keeps _ b _ hi
    · have hne : (p.val : Nat) ≠ q.val := fun e => h (Fin.ext e)
      simpa [State.setErr, State.hdrMod, hne] using hi
  unfold State.fault
  dsimp only
  split
  · exact h1
  · exact event_hdr_keeps _ _ _ _ _ h1

/-- An error with its event leaves the header of every other page but the recorder's alone. -/
theorem fault_hdr_other (s : State) (p : Fin 23) (b c : Nat) (d : List Nat) (q : Fin 23) (h : q ≠ p) (h' : q ≠ pgEvt) :
    (s.fault p b c d).hdr[q] = s.hdr[q] := by
  have hne : (p.val : Nat) ≠ q.val := fun e => h (Fin.ext e.symm)
  unfold State.fault
  dsimp only
  split
  · simp [State.setErr, State.hdrMod, hne]
  · rw [event_hdr_other _ _ _ _ h']; simp [State.setErr, State.hdrMod, hne]

/-- A shown state that changes changes nothing else on the SEQ page (R477). -/
@[simp] theorem settle_seq (s : State) (c : Nat) : (s.settle c).seq = { s.seq with shown := shownState s } := by
  unfold State.settle
  dsimp only
  split
  · rename_i h; rw [h]
  · (repeat' split) <;> (simp [State.rackIbi]; try ((repeat' split) <;> simp))

/-- An error changes no header but in PAGE_ERR. -/
@[simp] theorem setErr_sansErr (s : State) (p : Fin 23) (b : Nat) (q : Fin 23) : (s.setErr p b).hdr[q].sansErr = s.hdr[q].sansErr := by
  by_cases h : p = q
  · subst h; simp only [State.setErr, State.hdrMod]; unfold PageHdr.withErr; split <;> simp [PageHdr.sansErr]
  · have hne : (p.val : Nat) ≠ q.val := fun e => h (Fin.ext e)
    simp [State.setErr, State.hdrMod, hne]

/-- An event changes no header but in PAGE_ERR. -/
@[simp] theorem event_sansErr (s : State) (c : Nat) (d : List Nat) (q : Fin 23) : (s.event c d).hdr[q].sansErr = s.hdr[q].sansErr := by
  unfold State.event State.enqueue
  dsimp only
  (repeat' split) <;> first | rfl | exact setErr_sansErr _ _ _ _

/-- An error with its event changes no header but in PAGE_ERR. -/
@[simp] theorem fault_sansErr (s : State) (p : Fin 23) (b c : Nat) (d : List Nat) (q : Fin 23) :
    (s.fault p b c d).hdr[q].sansErr = s.hdr[q].sansErr := by
  unfold State.fault
  dsimp only
  split
  · exact setErr_sansErr _ _ _ _
  · exact (event_sansErr _ _ _ _).trans (setErr_sansErr _ _ _ _)

/-- A word for the outbound queue changes no header but in PAGE_ERR. -/
@[simp] theorem sendOut_sansErr (s : State) (c : Chan) (k sb v : Nat) (q : Fin 23) :
    (s.sendOut c k sb v).hdr[q].sansErr = s.hdr[q].sansErr := by
  have m : ∀ (u : State) (f : Mbx → Mbx), (u.mbxMod c f).hdr[q].sansErr = u.hdr[q].sansErr := by intro u f; cases c <;> rfl
  unfold State.sendOut
  dsimp only
  split
  · exact m _ _
  · split
    · exact (setErr_sansErr _ _ _ _).trans (m _ _)
    · exact (fault_sansErr _ _ _ _ _ _).trans (m _ _)

/-- A notice changes no header but in PAGE_ERR. -/
@[simp] theorem notice_sansErr (s : State) (k sb v : Nat) (q : Fin 23) : (s.notice k sb v).hdr[q].sansErr = s.hdr[q].sansErr := by
  unfold State.notice
  dsimp only
  (repeat' split) <;> first | rfl | exact sendOut_sansErr _ _ _ _ _ _ | exact (sendOut_sansErr _ _ _ _ _ _).trans (sendOut_sansErr _ _ _ _ _ _)

/-- A shown state that changes changes no header but in PAGE_ERR. -/
@[simp] theorem settle_sansErr (s : State) (c : Nat) (q : Fin 23) : (s.settle c).hdr[q].sansErr = s.hdr[q].sansErr := by
  have e : ∀ (st : State) (v : Nat), (st.rackIbi v).hdr[q].sansErr = st.hdr[q].sansErr := by intro st v; unfold State.rackIbi; split <;> rfl
  unfold State.settle
  dsimp only
  (repeat' split)
  · rfl
  · exact event_sansErr _ _ _ _
  · exact (e _ _).trans ((notice_sansErr _ _ _ _ _).trans (event_sansErr _ _ _ _))
  · exact (notice_sansErr _ _ _ _ _).trans (event_sansErr _ _ _ _)

/-- A word for the outbound queue changes nothing else on its page (R423). -/
@[simp] theorem sendOut_quiet (s : State) (c d : Chan) (k sb v : Nat) : ((s.sendOut c k sb v).mbx d).quiet = (s.mbx d).quiet := by
  unfold State.sendOut
  dsimp only
  (repeat' split) <;> cases c <;> cases d <;> simp [State.mbxMod, State.mbx, Mbx.quiet]

/-- A notice changes nothing else on a mailbox page (R422). -/
@[simp] theorem notice_quiet (s : State) (d : Chan) (k sb v : Nat) : ((s.notice k sb v).mbx d).quiet = (s.mbx d).quiet := by
  unfold State.notice
  dsimp only
  (repeat' split) <;> simp

/-- An event changes no mailbox page. -/
@[simp] theorem event_mbx (s : State) (d : Chan) (c : Nat) (l : List Nat) : (s.event c l).mbx d = s.mbx d := by
  cases d <;> simp [State.mbx]

/-- A shown state that changes sends a notice, and changes nothing else on a mailbox page (R422, R477). -/
@[simp] theorem settle_quiet (s : State) (d : Chan) (c : Nat) : ((s.settle c).mbx d).quiet = (s.mbx d).quiet := by
  have e : ∀ (st : State) (v : Nat), ((st.rackIbi v).mbx d) = st.mbx d := by
    intro st v; unfold State.rackIbi; split <;> cases d <;> rfl
  have q : ∀ st : State, ({ st with seq := { st.seq with shown := shownState s } } : State).mbx d = st.mbx d := by intro st; cases d <;> rfl
  unfold State.settle
  dsimp only
  (repeat' split) <;> simp [e, q]

end Sys2Proof.Machine
end

