-- ==== Sys2Proof/Laws/Host.lean ====
section
/-! SUPPORT. An accepted write on the host port, and an accepted keyed write, each said once. -/

namespace Sys2Proof.Machine

open Sys2Proof

/-- The word address of a register names its page. -/
theorem regAddr_page (p : Fin 23) (off : Nat) (h : off < 4096) : regAddr p.val off / 1024 = p.val := by
  unfold regAddr; omega

/-- The word address of a register names its offset. -/
theorem regAddr_off (p off : Nat) (h : off < 4096) (h4 : off % 4 = 0) : regAddr p off % 1024 * 4 = off := by
  unfold regAddr; omega

/-- The header of a page by its number. -/
theorem vAt_page {α : Type} {n : Nat} (v : Vector α n) (i : Fin n) (d : α) : vAt v i.val d = v[i] := by
  simp [vAt, i.isLt]

/-- An accepted write reaches its register, and the port answers with the status the owning chapter gives. -/
theorem hostWrite_at (s : State) (p : Fin 23) (off data : Nat) (acc : HostAcc) (h : off < 4096) (h4 : off % 4 = 0)
    (ha : hostAccepts s (regAddr p.val off) data acc = true) :
    hostWrite s (regAddr p.val off) data acc =
      let x := writeReg (s.dropPair (regAddr p.val off)) p off data
      x.1.respond x.2 0 := by
  have hp := regAddr_page p off h
  have ho := regAddr_off p.val off h h4
  simp only [hostAccepts, Bool.and_eq_true, decide_eq_true_eq, hp, vAt_page] at ha
  obtain ⟨⟨⟨⟨⟨hn, h1⟩, h2⟩, h3⟩, h4'⟩, h5⟩ := ha
  have hp' : regAddr p.val off / 1024 < 23 := by rw [hp]; exact p.isLt
  have hf : (⟨regAddr p.val off / 1024, hp'⟩ : Fin 23) = p := Fin.ext hp
  unfold hostWrite
  rw [ho] at h4'
  simp only [hn, h1, h2, hp', hf, ho, dite_true, Bool.not_true]
  have e1 : (secWrites p.val && !acc.sec) = false := by
    cases hs : secWrites p.val <;> cases hc : acc.sec <;> simp_all
  have e2 : (s.hdr[p].lrstAct && decide (40 ≤ off)) = false := by
    cases hs : s.hdr[p].lrstAct <;> simp_all
  have e3 : s.rel.regDead.contains (regAddr p.val off) = false := by simpa using h5
  simp only [hp, e1, e2, e3, Bool.false_eq_true, if_false, ne_eq, not_true_eq_false]

/-- A pending lower word lies beside the pages: dropping it changes nothing else (R105). -/
theorem dropPair_eq (s : State) (addr : Nat) : s.dropPair addr = { s with pairLo := (s.dropPair addr).pairLo } := by
  unfold State.dropPair
  split
  · split <;> rfl
  · rfl

/-- The response lies beside the pages. -/
@[simp] theorem respond_eq (s : State) (st : Nat) : s.respond st 0 = { s with hst := answer st } := by
  simp [State.respond, answer, evenPar, popcount]

/-- A keyed write whose check passes and whose chapter does not refuse it takes its effect on the state in which the check is
consumed and its counter accepted (R119). -/
theorem keyedWrite_taken (s : State) (p : Fin 23) (off data ctr : Nat) (refused : State → Bool) (act : State → State)
    (hk : keyPasses s ctr (4096 * p.val + off) data = true) (hr : refused { s with aut := checkTaken s.aut ctr } = false) :
    s.keyedWrite p off data refused act = (act { s with aut := checkTaken s.aut ctr }, 0) := by
  unfold keyPasses at hk
  split at hk
  · rename_i c hc
    simp only [Bool.and_eq_true, decide_eq_true_eq] at hk
    have e : s.keyedCheck p (4096 * p.val + off) data = (true, { s with aut := checkTaken s.aut ctr }) := by
      simp [State.keyedCheck, hc, hk.2, State.dropCheck, checkTaken, hk.1]
    unfold State.keyedWrite
    simp [e, hr]
  · simp at hk

/-- A keyed write that its chapter refuses spends its check and changes nothing else (R119). -/
theorem keyedWrite_refused (s : State) (p : Fin 23) (off data ctr : Nat) (refused : State → Bool) (act : State → State)
    (hk : keyPasses s ctr (4096 * p.val + off) data = true) (hr : refused { s with aut := checkTaken s.aut ctr } = true) :
    s.keyedWrite p off data refused act = ({ s with aut := checkTaken s.aut ctr }, 2) := by
  unfold keyPasses at hk
  split at hk
  · rename_i c hc
    simp only [Bool.and_eq_true, decide_eq_true_eq] at hk
    have e : s.keyedCheck p (4096 * p.val + off) data = (true, { s with aut := checkTaken s.aut ctr }) := by
      simp [State.keyedCheck, hc, hk.2, State.dropCheck, checkTaken, hk.1]
    unfold State.keyedWrite
    simp [e, hr]
  · simp at hk

/-- The pending check does not look at a pending lower word. -/
@[simp] theorem keyPasses_pairLo (s : State) (v : Option (Nat × Nat)) (ctr off data : Nat) :
    keyPasses { s with pairLo := v } ctr off data = keyPasses s ctr off data := by
  unfold keyPasses checkPasses; rfl

/-- A failed check sets KEY_FAIL on the page of the register (R120). -/
theorem checkFailed_bit (s : State) (p : Fin 23) (off : Nat) : (s.checkFailed p off).hdr[p].err.testBit 5 = true := by
  unfold State.checkFailed
  extract_lets prev s0 s1 s2 s3
  have h2 : s2.hdr[p].err.testBit 5 = true := fault_bit _ _ _ _ _
  have h3 : s3.hdr[p].err.testBit 5 = true := by
    show (if prev.length < 4 then s2.event 0x1210 (dat2 off) else s2).hdr[p].err.testBit 5 = true
    split
    · exact event_hdr_keeps _ _ _ _ _ h2
    · exact h2
  split
  · exact fault_hdr_keeps _ _ _ _ _ _ _ h3
  · exact h3

/-- A failed check leaves every header alone but the register's page, the AUT page's and the recorder's (R436). -/
theorem checkFailed_hdr_other (s : State) (p : Fin 23) (off : Nat) (q : Fin 23) (h : q ≠ p) (h' : q ≠ pgEvt) (ha : q ≠ pgAut) :
    (s.checkFailed p off).hdr[q] = s.hdr[q] := by
  unfold State.checkFailed
  extract_lets prev s0 s1 s2 s3
  have h2 : s2.hdr[q] = s.hdr[q] := fault_hdr_other _ _ _ _ _ q h h'
  have h3 : s3.hdr[q] = s.hdr[q] := by
    show (if prev.length < 4 then s2.event 0x1210 (dat2 off) else s2).hdr[q] = s.hdr[q]
    split
    · rw [event_hdr_other _ _ _ q h', h2]
    · exact h2
  split
  · exact (fault_hdr_other _ _ _ _ _ q ha h').trans h3
  · exact h3

end Sys2Proof.Machine
end

