-- ==== Sys2Proof/Laws/Runs.lean ====
section
/-! SUPPORT. A run of values written to a sparse memory, read back value by value; and a write to staging. -/

namespace Sys2Proof.Machine

open Sys2Proof

/-- A run leaves every place outside it alone. -/
theorem memRead_memWriteRun_other {α : Type} [DecidableEq α] (d : α) (vs : List α) (m : List (Nat × α)) (a b : Nat)
    (h : memWf d m = true) (hb : b < a ∨ a + vs.length ≤ b) : memRead d (memWriteRun d m a vs) b = memRead d m b := by
  induction vs generalizing m a with
  | nil => rfl
  | cons v vs ih =>
    simp only [List.length_cons] at hb
    unfold memWriteRun
    rw [ih (memWrite d m a v) (a + 1) (by simp [h]) (by omega)]
    exact memRead_memWrite_other d m a b v none h (by omega)

/-- A run reads back value by value. -/
theorem memRead_memWriteRun_same {α : Type} [DecidableEq α] (d : α) (vs : List α) (m : List (Nat × α)) (a k : Nat)
    (h : memWf d m = true) (hk : k < vs.length) : memRead d (memWriteRun d m a vs) (a + k) = vs[k] := by
  induction vs generalizing m a k with
  | nil => simp at hk
  | cons v vs ih =>
    unfold memWriteRun
    cases k with
    | zero =>
      rw [memRead_memWriteRun_other d vs _ (a + 1) (a + 0) (by simp [h]) (by omega)]
      simpa using memRead_memWrite_same d m a v none h
    | succ k =>
      have := ih (memWrite d m a v) (a + 1) k (by simp [h]) (by simpa using hk)
      rw [show a + (k + 1) = a + 1 + k by omega]
      simpa using this

/-- Writing to staging: the bytes, the commit mark and the mark that staging holds the active image (R472). -/
theorem stgWrite_eq (s : State) (a : Nat) (bs : List Nat) : s.stgWrite a bs =
    { s with stg := { s.stg with mem := (s.stgWrite a bs).stg.mem, holds := false }, seq := { s.seq with STATE_COMMITTED := false } } := rfl

end Sys2Proof.Machine
end

