-- ==== Sys2Proof/WellFormed.lean ====
section
/-! DEFINITION. What a command's operands must show for it to be the row it is named after: a packet whose type field is
the row's, an index inside its table. `exec` does not rest on it: a word, message or request on a port is decided by its own
type field, whichever row brought it. -/

namespace Sys2Proof

/-- TYPE of an admission word (R124). -/
def rowType (w : BitVec 64) : Nat := bitsOf w.toNat 60 4

/-- The parity of the two halves of an admission word (R66, R124). -/
def halvesPar (w : BitVec 64) : BitVec 2 :=
  let par := fun lo => ((List.range 32).foldl (fun b i => b ^^ w.getLsbD (lo + i)) false)
  BitVec.ofNat 2 (b2n (par 0) + 2 * b2n (par 32))

/-- The common command codes that the port answers (R437). -/
def cccAnswered : List Nat :=
  [0x07, 0x87, 0x06, 0x00, 0x80, 0x01, 0x81, 0x09, 0x89, 0x0A, 0x8A, 0x8B, 0x8C, 0x8D, 0x8E, 0x8F, 0x90]

/-- The operands spell the row: admission TYPE (R124, R130, R147, R148, R131), frame TYPE (R376), Kazsin TYPE (R405), rack
request TYPE (R439), CCC (R437), and the ranges of the indices (R58, R87, R220, R256, R459). -/
def Instr.wellFormed : Instr → Bool
  | .intPar addr _ => decide (addr.toNat / 1024 < 23)
  | .beamTestComplete fail => match fail with | some (k, _) => decide (1 ≤ k.toNat) && decide (k.toNat ≤ 6) | none => true
  | .domForceOn dom _ => decide (dom.toNat < 50)
  | .domForceOff dom _ => decide (dom.toNat < 50)
  | .request word _ => decide (rowType word = 1)
  | .release word _ => decide (rowType word = 2)
  | .transfer word _ => decide (rowType word = 3)
  | .badType word => !(decide (1 ≤ rowType word) && decide (rowType word ≤ 3))
  | .admissionWordParityFault word par => decide (par ≠ halvesPar word)
  | .coefRestoreComplete _ index => decide (index.toNat < 144)
  | .frmIdle _ m => decide (bitsOf m.toNat 122 6 = 0x00)
  | .frmLane _ m => decide (bitsOf m.toNat 122 6 = 0x01)
  | .frmHello _ m => decide (bitsOf m.toNat 122 6 = 0x02)
  | .frmFormed _ m => decide (bitsOf m.toNat 122 6 = 0x03)
  | .frmLink _ m => decide (bitsOf m.toNat 122 6 = 0x04)
  | .frmBoundary _ m => decide (bitsOf m.toNat 122 6 = 0x08)
  | .frmShare _ m => decide (bitsOf m.toNat 122 6 = 0x09)
  | .frmShareAck _ m => decide (bitsOf m.toNat 122 6 = 0x0A)
  | .frmDemand _ m => decide (bitsOf m.toNat 122 6 = 0x0B)
  | .frmCap _ m => decide (bitsOf m.toNat 122 6 = 0x0C)
  | .frmAsk _ m => decide (bitsOf m.toNat 122 6 = 0x10)
  | .frmLoan _ m => decide (bitsOf m.toNat 122 6 = 0x11)
  | .frmThermal _ m => decide (bitsOf m.toNat 122 6 = 0x14)
  | .frmInput _ m => decide (bitsOf m.toNat 122 6 = 0x15)
  | .frmCtrId _ m => decide (bitsOf m.toNat 122 6 = 0x16)
  | .frmCtrData _ m => decide (bitsOf m.toNat 122 6 = 0x17)
  | .frmCtrStat _ m => decide (bitsOf m.toNat 122 6 = 0x18)
  | .treSync _ f => decide (bitsOf f.hdr.toNat 12 4 = 1)
  | .treSyncAck _ f => decide (bitsOf f.hdr.toNat 12 4 = 2)
  | .treHello _ f => decide (bitsOf f.hdr.toNat 12 4 = 3)
  | .treIdent _ f => decide (bitsOf f.hdr.toNat 12 4 = 4)
  | .trePoll _ f => decide (bitsOf f.hdr.toNat 12 4 = 5)
  | .treDemand _ f => decide (bitsOf f.hdr.toNat 12 4 = 6)
  | .treBudget _ f => decide (bitsOf f.hdr.toNat 12 4 = 7)
  | .treCut _ f => decide (bitsOf f.hdr.toNat 12 4 = 8)
  | .rackHello bytes => decide (bytes[0].toNat = 1)
  | .capSet bytes => decide (bytes[0].toNat = 2)
  | .capClear bytes => decide (bytes[0].toNat = 3)
  | .rackStatus bytes => decide (bytes[0].toNat = 4)
  | .rackEvents bytes => decide (bytes[0].toNat = 5)
  | .otherCcc code => !cccAnswered.contains code.toNat
  | .startupSelftestComplete obs => decide (obs.rows ≤ 8192)
  | .linkResponseTimeout _ pos => decide (pos.toNat < 80)
  | .registerWrite _ _ _ | .pageLockWrite _ _ _ | .tlyRowSelWrite _ _ | .fcsWaddrWrite _ _ | .fcsWdataWrite _ _
  | .autWchkMac3Write _ _ | .pendingCheckDiscard | .hsLogmuteEnd | .seqHostCapWrite _ _ | .beamHlimWrite _ _ _
  | .beamTestDetector _ _ | .beamTestCurrent _ _ | .beamTestVoltage _ _ | .beamTestDiePower _ | .beamTestTemperature _
  | .beamTestBrownOut _ | .beamTestAll _ | .clkForceSrcWrite _ _ | .spareSubstDetector _ _ | .spareRestoreDetector _ _
  | .spareSubstSensor _ _ | .spareRestoreSensor _ _ | .spareSubstLane _ _ | .spareRestoreLane _ _ | .spareSubstPhase _ _
  | .spareRestorePhase _ _ | .spareRestoreAgeing _ _ | .spareCmdComplete _ | .evtErase _ | .eraseComplete
  | .pmbHostSendByte _ _ _ _ | .pmbHostWriteByte _ _ _ _ | .pmbHostWriteWord _ _ _ _ | .pmbHostReadWord _ _ _ _
  | .lrstReq _ _ | .lrstComplete _ _ | .seqLoad _ | .seqCommit _ | .commitEnd _ | .seqActivate _ | .seqAbort _
  | .activationTimeout | .weightCopyComplete | .observerCopyComplete | .mailboxInWrite _ _ _ _ | .ping _ | .query _
  | .mailboxBadOp _ | .outPop _ _ _ | .blockWrite _ _ | .blockRead _ _ | .blockTransferDone _ _ | .blkAddrWrite _ _ _
  | .heartbeat _ _ | .heartbeatLoss | .evtRdSelWrite _ _ | .evtFreeze _ _ | .evtUnfreeze _ _ | .trcPop _ _ | .admOutTransfer
  | .armLapse _ | .quarExpiry _ | .epochBoundary | .baselineSample _ | .boundaryTimeout | .controlSample _ | .laneRetire _
  | .droopDetect _ | .droopPersistence _ | .droopPersistenceEnd _ | .stretchHoldEnd _ | .detectorSpareJoin _ _
  | .vrgFltChange _ _ | .emergencyEntry | .emergencyExit | .emergencyRampStep | .persistentOverload | .brownOutWarning
  | .brownOutRecovery _ | .brownOutHoldEnd | .brownOutRampStep | .forecasterEvaluation _ | .forecasterOutputLatch _
  | .deadlineMiss | .weightRestoreComplete | .arraySelfTestTile _ _ | .thermalSweep | .sweepCalibrationDone _ _ | .hotBandEnd
  | .orderlyForceOff | .shutdownComplete | .stackBandRelax _ | .restartHoldComplete | .observerStep _
  | .observerStepComplete _ | .observerReenable | .housekeepingSlot _ | .housekeepingRoundEnd | .coreRangeEnd | .belowLost
  | .domWakeInput _ _ | .wakeStart | .domPgChange _ _ | .wakeFail _ | .wakeMainSwitch _ | .wakePowerSettled _
  | .wakeComplete _ | .sleepStart _ | .idleAck _ | .idleTo _ | .saveComplete _ | .sleepSwitchOff _ | .bootDomainPgTimeout _
  | .crossingTimeout _ | .crossingResume _ | .clockCodeChange _ | .xtalAmpLoss | .xtalSelect | .sourceSelectionForced _
  | .vrgTransactionStart | .vrgAck _ | .vrgAckTimeout | .vrgRdy _ _ | .telemetryWord _ _ _ _ | .blindModeEntry _
  | .blindModeEnd _ | .pollRound | .pmbusTransactionDone _ | .smbusTimeout | .pmbAlert _ _ | .alertMuteEnd | .counterPersist
  | .frmRetryTimeout _ | .linkSilence _ | .helloBroadcast | .formationDecide | .demandSend | .loanAskTimeout
  | .heldShareFree _ | .isolationCut | .treePollSend | .treeNoReply _ | .parentLost | .portHoldExpiry _ | .treMuteEnd _
  | .treLinkFailed | .rackBadReq _ | .rackMuteEnd | .rackReplyReady | .rackReplyRead | .entdaa _ | .setdasa _ _ | .rstdaa
  | .enec _ | .disec _ | .setmwl _ | .setmrl _ | .getmwl | .getmrl | .getpid | .getbcr | .getdcr | .getstatus | .porAssert
  | .porRelease _ _ | .rstNAssert | .rstNRelease | .anchorTimeout | .vioLow | .vioRestore | .scrubRead _ | .eventRecordWrite
  | .suppressionSummary | .railSummary | .registerRead _ _ | .clkGenOkLow _ | .droopRelease _ | .trainingWord _ _
  | .frmCrcErr _ | .treCrcErr _ | .secondWave => true

end Sys2Proof
end

