-- ==== Sys2Proof/Tests/Slice0.lean ====
section
/-! SUPPORT. Tests: worked examples of the spec, one ill-formed command for each check of WellFormed, and for each statement with
hypotheses a state and operands that meet them. -/

namespace Sys2Proof.Tests

open Sys2Proof Sys2Proof.Machine

/-- No row of the table has bits. -/
theorem test_no_words : decodeTableWord 32 0 = none := rfl

end Sys2Proof.Tests
end

section
/-! PROOFS. The host port's REGISTER_WRITE (R97, R103): the command as the effect of its register, what an error flag touches, the
plain registers written one by one, and the Cold column at State.reset. -/

namespace Sys2Proof.Machine

open Sys2Proof

/-! ### What an error flag touches -/

/-- An error with its event touches the headers and the recorder, and nothing else (R107, R109). -/
theorem fault_frame (s : State) (p : Fin 23) (b c : Nat) (d : List Nat) :
    s.fault p b c d = { s with evt := (s.fault p b c d).evt, hdr := (s.fault p b c d).hdr } := by
  simp [State.eq_of_pages]

/-- A value within its range flags nothing (R27). -/
theorem resvIf_false (s : State) (p : Fin 23) (off : Nat) : s.resvIf p off false = s := rfl

/-- A reserved value is the page's error RESV_VAL (R27, R109). -/
theorem resvIf_true (s : State) (p : Fin 23) (off : Nat) :
    s.resvIf p off true = s.fault p 3 (p.val * 256 + 3) [off / 4, 1] := rfl

/-! ### REGISTER_WRITE as the effect of its register -/

/-- REGISTER_WRITE is a write on the host port (R97, R103). -/
theorem exec_registerWrite (s : State) (addr : BitVec 15) (data : Word) (acc : HostAcc) :
    exec (.registerWrite addr data acc) s = .next (hostWrite s addr.toNat data.toNat acc) := rfl

/-- An accepted REGISTER_WRITE, the pending lower word of another register dropped (R105), leaves what its register makes of the
write, and the port answers with the status the owning chapter gives (R97). -/
theorem exec_registerWrite_at (s t : State) (addr : BitVec 15) (data : Word) (acc : HostAcc) (p : Fin 23) (off st : Nat)
    (h : off < 4096) (h4 : off % 4 = 0) (ha : hostAccepts s addr.toNat data.toNat acc = true)
    (e : addr.toNat = regAddr p.val off)
    (hw : writeReg { s with pairLo := (s.dropPair addr.toNat).pairLo } p off data.toNat = (t, st)) :
    exec (.registerWrite addr data acc) s = .next { t with hst := answer st } := by
  rw [← dropPair_eq] at hw
  rw [e] at ha hw
  rw [exec_registerWrite, e, hostWrite_at s p off data.toNat acc h h4 ha, hw]
  simp only [respond_eq]

/-- An accepted REGISTER_WRITE beyond the pages takes no write and answers 0 (R26). -/
theorem exec_registerWrite_beyond (s : State) (addr : BitVec 15) (data : Word) (acc : HostAcc)
    (ha : hostAccepts s addr.toNat data.toNat acc = true) (hb : 23 * 1024 ≤ addr.toNat) :
    exec (.registerWrite addr data acc) s = .next { s with hst := answer 0 } := by
  have hp : ¬ addr.toNat / 1024 < 23 := by omega
  simp only [hostAccepts, Bool.and_eq_true, decide_eq_true_eq] at ha
  obtain ⟨⟨⟨⟨⟨hnet, hapar⟩, hwpar⟩, -⟩, -⟩, -⟩ := ha
  simp [exec_registerWrite, hostWrite, hnet, hapar, hwpar, hp]

/-! ### The plain registers -/

/-- PAGE_ERR is W1C: the bits written as 1 are cleared (R25, R107). -/
theorem writeReg_pageErr (s : State) (p : Fin 23) (data : Nat) :
    writeReg s p 0x14 data =
      ({ s with hdr := s.hdr.set p { s.hdr[p] with err := s.hdr[p].err - (s.hdr[p].err &&& data) } }, 0) := rfl

/-- PAGE_ERR_MASK stores the word (R116). -/
theorem writeReg_pageErrMask (s : State) (p : Fin 23) (data : Nat) :
    writeReg s p 0x18 data = ({ s with hdr := s.hdr.set p { s.hdr[p] with errMask := data } }, 0) := rfl

/-- TLY_EPOCH_LEN while the TLY page is locked: nothing is stored, LOCK_WR is flagged (R25, R117). -/
theorem writeReg_epochLen_locked (s : State) (data : Nat) (hl : s.hdr[pgTly].lock = true) :
    writeReg s pgTly 0x40 data = (s.fault pgTly 4 0x0204 [0x40 / 4, 1], 2) := by
  show writeTly s 0x40 data = _
  simp only [writeTly, hl, if_true]

/-- TLY_EPOCH_LEN while the TLY page is open: a length of 128 to 8192 µs is stored (R189). -/
theorem writeReg_epochLen_inRange (s : State) (data : Nat) (hl : s.hdr[pgTly].lock = false)
    (hv : 128 ≤ data % 2 ^ 14 ∧ data % 2 ^ 14 ≤ 8192) :
    writeReg s pgTly 0x40 data = ({ s with tly.EPOCH_LEN := data % 2 ^ 14 }, 0) := by
  have hb : bitsOf data 0 14 = data % 2 ^ 14 := by simp [bitsOf]
  show writeTly s 0x40 data = _
  simp only [writeTly, hl, Bool.false_eq_true, if_false, hb, decide_eq_true hv, if_true, Bool.not_true, resvIf_false]

/-- TLY_EPOCH_LEN while the TLY page is open: a length outside its range is taken at its Cold value and flagged (R27, R189). -/
theorem writeReg_epochLen_reserved (s : State) (data : Nat) (hl : s.hdr[pgTly].lock = false)
    (hv : ¬ (128 ≤ data % 2 ^ 14 ∧ data % 2 ^ 14 ≤ 8192)) :
    writeReg s pgTly 0x40 data =
      (({ s with tly.EPOCH_LEN := 1024 } : State).fault pgTly 3 (pgTly.val * 256 + 3) [0x40 / 4, 1], 0) := by
  have hb : bitsOf data 0 14 = data % 2 ^ 14 := by simp [bitsOf]
  show writeTly s 0x40 data = _
  simp only [writeTly, hl, Bool.false_eq_true, if_false, hb, decide_eq_false hv, Bool.not_false, resvIf_true]

end Sys2Proof.Machine

namespace Sys2Proof.Proofs

open Sys2Proof Sys2Proof.Machine

/-- Settles O13: every clause is `exec_registerWrite_at` with the register's own equation; what the error flag of the last two writes
of TLY_EPOCH_LEN touches is `fault_frame`. -/
theorem plainRegisterWrites : Obligations.PlainRegisterWrites := by
  unfold Obligations.PlainRegisterWrites
  intro s addr data acc ha
  have run := fun t p off st h h4 => exec_registerWrite_at s t addr data acc p off st h h4 ha
  refine ⟨fun p e => ?pageErr, fun p e => ?errMask, fun e hl hlo hhi => ?stored, fun e hl hout => ?reserved,
    fun e hl => ?locked, exec_registerWrite_beyond s addr data acc ha⟩
  case pageErr => exact run _ p 0x14 0 (by decide) rfl e (writeReg_pageErr _ p _)
  case errMask => exact run _ p 0x18 0 (by decide) rfl e (writeReg_pageErrMask _ p _)
  case stored => exact run _ pgTly 0x40 0 (by decide) rfl e (writeReg_epochLen_inRange _ _ hl ⟨hlo, hhi⟩)
  case reserved =>
    refine ⟨_, run _ pgTly 0x40 0 (by decide) rfl e (writeReg_epochLen_reserved _ _ hl (by omega)), fault_bit .., ?_⟩
    rw [fault_frame]
  case locked =>
    refine ⟨_, run _ pgTly 0x40 2 (by decide) rfl e (writeReg_epochLen_locked _ _ hl), fault_bit .., ?_⟩
    rw [fault_frame]

/-- A state whose host port is live, everything else as at reset. -/
def liveReset : State := { State.reset with rst := { State.reset.rst with live := true } }

/-- The access of the host that writes 8192 to TLY_EPOCH_LEN, both parity bits right (R98). -/
def epochLenAcc : HostAcc :=
  { sec := true, apar := addrPar (regAddr 2 0x40) true true, wpar := evenPar 32 8192 }

/-- `plainRegisterWrites` applies: a live host port takes the longest epoch that TLY_EPOCH_LEN admits. -/
theorem epochLen_longest_stored :
    exec (.registerWrite (BitVec.ofNat 15 (regAddr 2 0x40)) 8192#32 epochLenAcc) liveReset =
      .next { liveReset with hst := answer 0, tly := { liveReset.tly with EPOCH_LEN := 8192 } } := by
  obtain ⟨-, -, stored, -⟩ := plainRegisterWrites liveReset (BitVec.ofNat 15 (regAddr 2 0x40)) 8192#32 epochLenAcc (by decide)
  exact stored rfl rfl (by decide) (by decide)

/-- Every page header is cold at reset: masks, locks and errors at 0 (R107, R116). -/
theorem reset_hdr (p : Fin 23) : State.reset.hdr[p] = {} := by
  simp [State.reset]

/-- Every page's block-local reset timeout is 50 µs at reset (R474). -/
theorem reset_lrstTimeout (k : Fin 8) : State.reset.rst.page[k].LRST_TO_TIMEOUT = 50 := by
  simp [State.reset]

/-- Settles O26: every header and every block-local reset timeout for its page, the other registers one by one. -/
theorem coldValues : Obligations.ColdValues := by
  unfold Obligations.ColdValues
  exact ⟨reset_hdr, rfl, rfl, rfl, rfl, rfl, rfl, rfl, rfl, reset_lrstTimeout, rfl, rfl⟩

end Sys2Proof.Proofs
end

section
/-! PROOFS. Every command completes (R44, R102; log entries 2 and 86). -/

namespace Sys2Proof.Proofs

open Sys2Proof Sys2Proof.Machine

/-- Settles O23, over the commands: those that are a host write of one register are `hostWrite_pages`; those that are one operation
of the machine, that operation's own `Pages` lemma; and each of the others tests the conditions of its command first, in every branch
of which the operations it calls leave the waiting commands alone. -/
theorem everyCommandCompletes : Obligations.EveryCommandCompletes := by
  unfold Obligations.EveryCommandCompletes
  intro c s
  cases c
  case registerWrite | pageLockWrite | tlyRowSelWrite | fcsWaddrWrite | fcsWdataWrite | autWchkMac3Write | seqHostCapWrite |
      beamHlimWrite | beamTestDetector | beamTestCurrent | beamTestVoltage | beamTestDiePower | beamTestTemperature |
      beamTestBrownOut | beamTestAll | domForceOn | domForceOff | clkForceSrcWrite | spareSubstDetector | spareRestoreDetector |
      spareSubstSensor | spareRestoreSensor | spareSubstLane | spareRestoreLane | spareSubstPhase | spareRestorePhase |
      spareRestoreAgeing | evtErase | pmbHostSendByte | pmbHostWriteByte | pmbHostWriteWord | pmbHostReadWord | lrstReq |
      seqLoad | seqCommit | seqActivate | seqAbort | mailboxInWrite | outPop | blockWrite | blockRead | blkAddrWrite | heartbeat
      | evtRdSelWrite | evtFreeze | evtUnfreeze | trcPop =>
    exact ⟨_, rfl, (hostWrite_pages _ _ _ _).2.2⟩
  case request | release | transfer | badType | admissionWordParityFault | domWakeInput | clockCodeChange | vrgRdy | frmIdle |
      frmLane | frmHello | frmDemand | frmCap | treSync | treSyncAck | treHello | treIdent | trePoll | treDemand | treBudget |
      treCut | rackHello | capSet | capClear | rackStatus | rackEvents | rackBadReq | setmwl | setmrl | getmwl | getmrl | getpid
      | getbcr | getdcr | registerRead =>
    exact ⟨_, rfl, by simp⟩
  case pendingCheckDiscard | hsLogmuteEnd | activationTimeout | ping | query | mailboxBadOp | heartbeatLoss | baselineSample |
      boundaryTimeout | laneRetire | droopPersistenceEnd | emergencyRampStep | persistentOverload | brownOutWarning |
      brownOutRecovery | brownOutHoldEnd | brownOutRampStep | forecasterEvaluation | deadlineMiss | arraySelfTestTile |
      thermalSweep | hotBandEnd | observerReenable | belowLost | idleAck | crossingTimeout | xtalSelect | sourceSelectionForced
      | vrgTransactionStart | vrgAck | pollRound | pmbusTransactionDone | smbusTimeout | alertMuteEnd | frmShareAck | frmThermal
      | frmInput | linkSilence | loanAskTimeout | isolationCut | treePollSend | parentLost | treMuteEnd | treLinkFailed |
      rackMuteEnd | rackReplyReady | rackReplyRead | entdaa | setdasa | rstdaa | enec | disec | getstatus | otherCcc |
      anchorTimeout | vioLow | vioRestore | railSummary | clkGenOkLow | frmCrcErr | treCrcErr | linkResponseTimeout | secondWave
      =>
    refine ⟨_, rfl, ?_⟩
    (repeat' split) <;> simp
  all_goals
    refine ⟨_, rfl, ?_⟩
    dsimp only
    (repeat' split) <;> simp
end Sys2Proof.Proofs
end

section
/-! PROOFS. The keyed commands (R119): what an accepted keyed write leaves, the register equations of the keyed registers, and what
each keyed command does. -/

namespace Sys2Proof.Machine

open Sys2Proof

/-! ### An accepted keyed write -/

/-- The state in which an accepted keyed write to the register at word address `addr` takes its effect: a pending lower word of another
register is dropped (R105), and the check, of counter `ctr`, is spent (R119). -/
def State.keySpent (s : State) (addr ctr : Nat) : State :=
  { s with pairLo := (s.dropPair addr).pairLo, aut := checkTaken s.aut ctr }

/-- The state in which the effect takes place, from the one without the pending lower word. -/
theorem dropPair_keySpent (s : State) (addr ctr : Nat) :
    ({ s.dropPair addr with aut := checkTaken (s.dropPair addr).aut ctr } : State) = s.keySpent addr ctr := by
  rw [dropPair_eq]
  rfl

/-- Dropping a pending lower word leaves the pending check as it is (R105, R119). -/
theorem keyPasses_dropPair (s : State) (addr ctr off data : Nat) :
    keyPasses (s.dropPair addr) ctr off data = keyPasses s ctr off data := by
  rw [dropPair_eq, keyPasses_pairLo]

section
variable {s : State} (p : Fin 23) (off : Nat) {data ctr : Nat} {acc : HostAcc} {c : Instr} {refused : State → Bool}
  {act : State → State} (h : off < 4096) (h4 : off % 4 = 0)
  (hc : exec c s = .next (hostWrite s (regAddr p.val off) data acc))
  (ha : hostAccepts s (regAddr p.val off) data acc = true) (hk : keyPasses s ctr (4096 * p.val + off) data = true)
  (hw : ∀ u, writeReg u p off data = u.keyedWrite p off data refused act)
include h h4 hc ha hk hw

/-- A command that is an accepted keyed write, and that its chapter does not refuse, has its effect, and the port answers 0
(R97, R119). -/
theorem exec_keyed_taken (hr : refused (s.keySpent (regAddr p.val off) ctr) = false) :
    exec c s = .next { act (s.keySpent (regAddr p.val off) ctr) with hst := answer 0 } := by
  rw [← dropPair_keySpent] at hr ⊢
  rw [← keyPasses_dropPair s (regAddr p.val off)] at hk
  rw [hc, hostWrite_at s p off data acc h h4 ha, hw, keyedWrite_taken _ p off data ctr refused act hk hr]
  simp only [respond_eq]

/-- A command that is an accepted keyed write, and that its chapter refuses, spends its check, and the port answers 2
(R97, R119). -/
theorem exec_keyed_refused (hr : refused (s.keySpent (regAddr p.val off) ctr) = true) :
    exec c s = .next { s.keySpent (regAddr p.val off) ctr with hst := answer 2 } := by
  rw [← dropPair_keySpent] at hr ⊢
  rw [← keyPasses_dropPair s (regAddr p.val off)] at hk
  rw [hc, hostWrite_at s p off data acc h h4 ha, hw, keyedWrite_refused _ p off data ctr refused act hk hr]
  simp only [respond_eq]

end

/-! ### The fields of the words of the keyed commands -/

/-- A field of a word is a quotient's remainder (R17). -/
theorem bitsOf_eq_div_mod (w lo len : Nat) : bitsOf w lo len = w / 2 ^ lo % 2 ^ len := by
  rw [bitsOf, Nat.shiftRight_eq_div_pow]

/-- A bit of a word is set where it is odd from there on (R17). -/
theorem bitAt_eq_true {w n : Nat} (h : w / 2 ^ n % 2 = 1) : bitAt w n = true := by
  rw [bitAt, Nat.testBit_eq_decide_div_mod_eq]
  simp [h]

/-- A bit of a word is clear where it is even from there on (R17). -/
theorem bitAt_eq_false {w n : Nat} (h : w / 2 ^ n % 2 = 0) : bitAt w n = false := by
  rw [bitAt, Nat.testBit_eq_decide_div_mod_eq]
  simp [h]

/-- The fields of the word that starts a self-test of the beam (R220). -/
theorem testWord_fields (kind target : Nat) (hk : kind < 16) (ht : target < 256) :
    bitAt (testWord kind target) 31 = true ∧ bitsOf (testWord kind target) 8 4 = kind ∧
    bitsOf (testWord kind target) 0 8 = target := by
  simp only [bitsOf_eq_div_mod, testWord]
  exact ⟨bitAt_eq_true (by omega), by omega, by omega⟩

/-- The fields of the word that starts a spare command (R493). -/
theorem spareWord_fields (kind op index : Nat) (hk : kind < 16) (ho : op < 4) (hi : index < 4096) :
    bitAt (spareWord kind op index) 31 = true ∧ bitsOf (spareWord kind op index) 16 4 = kind ∧
    bitsOf (spareWord kind op index) 24 2 = op ∧ bitsOf (spareWord kind op index) 0 12 = index := by
  simp only [bitsOf_eq_div_mod, spareWord]
  exact ⟨bitAt_eq_true (by omega), by omega, by omega, by omega⟩

/-- The fields of the word that forces a domain on (R331). -/
theorem forceWord_on_fields (d : Nat) (hd : d < 64) :
    bitAt (forceWord 1 d) 31 = true ∧ bitAt (forceWord 1 d) 8 = true ∧ bitsOf (forceWord 1 d) 0 6 = d := by
  simp only [bitsOf_eq_div_mod, forceWord]
  exact ⟨bitAt_eq_true (by omega), bitAt_eq_true (by omega), by omega⟩

/-- The fields of the word that forces a domain off (R331). -/
theorem forceWord_off_fields (d : Nat) (hd : d < 64) :
    bitAt (forceWord 0 d) 31 = true ∧ bitAt (forceWord 0 d) 8 = false ∧ bitsOf (forceWord 0 d) 0 6 = d := by
  simp only [bitsOf_eq_div_mod, forceWord]
  exact ⟨bitAt_eq_true (by omega), bitAt_eq_false (by omega), by omega⟩

/-- The fields of the word of a host transaction on the PMBus (R366). -/
theorem xactWord_fields (k slot cmd data : Nat) (hk : k < 4) (hs : slot < 8) (hc : cmd < 256) (hd : data < 65536) :
    bitsOf (xactWord k slot cmd data) 30 2 = k ∧ bitsOf (xactWord k slot cmd data) 24 3 = slot ∧
    bitsOf (xactWord k slot cmd data) 16 8 = cmd ∧ bitsOf (xactWord k slot cmd data) 0 16 = data := by
  simp only [bitsOf_eq_div_mod, xactWord]
  exact ⟨by omega, by omega, by omega, by omega⟩

/-! ### The keyed registers -/

/-- The effect of SEQ_HOST_CAP: a cap above the lowest package ceiling is flagged and taken at it, and the cap is reported to the
reckoner (R33, R391, R476). -/
def hostCapSet (data : Nat) (s : State) : State :=
  let low := lowestPkg s
  let s := if low < data then s.fault pgSeq 20 0x0117 (dat2 data) else s
  { s with seq.HOST_CAP := min data low }.sendCap

/-- SEQ_HOST_CAP is a keyed register, and no state refuses its write (R118). -/
theorem writeReg_hostCap (u : State) (data : Nat) :
    writeReg u pgSeq 0x58 data = u.keyedWrite pgSeq 0x58 data (fun _ => false) (hostCapSet data) := rfl

/-- BEAM_TEST_CTRL with START at 1 (R220). -/
theorem writeReg_testWord (u : State) (kind target : Nat) (hk : 1 ≤ kind ∧ kind ≤ 7) (ht : target < 256) :
    writeReg u pgBeam 0x60 (testWord kind target) =
      u.keyedWrite pgBeam 0x60 (testWord kind target) beamTestRefused (·.beamTest kind target) := by
  obtain ⟨hgo, hkind, htgt⟩ := testWord_fields kind target (by omega) ht
  show writeBeam u 0x60 _ = _
  simp only [writeBeam, if_true, hgo, hkind, htgt, hk, and_self, decide_true, Bool.not_true, Bool.false_and, Bool.true_and, resvIf_false]

/-- REL_SPARE_CMD with GO at 1 (R493). -/
theorem writeReg_spareWord (u : State) (kind op index : Nat) (hk : kind < 16) (ho : op < 4) (hi : index < 4096) :
    writeReg u pgRel 0x60 (spareWord kind op index) =
      u.keyedWrite pgRel 0x60 (spareWord kind op index) (relRefused · kind) (·.relStart kind op index) := by
  obtain ⟨hgo, hkind, hop, hidx⟩ := spareWord_fields kind op index hk ho hi
  show writeRel u 0x60 _ = _
  simp only [writeRel, if_true, hgo, hkind, hop, hidx, Bool.true_and]

/-- The fields that a write of DOM_FORCE stores (R331). -/
def State.forceStored (s : State) (on : Bool) (d : Nat) : State := { s with dom.FORCE_ON := on, dom.FORCE_DOM := d }

/-- DOM_FORCE with ON at 1 (R331). -/
theorem writeReg_forceWord_on (u : State) (d : Nat) (hd : d < 64) :
    writeReg u pgDom 0x68 (forceWord 1 d) =
      u.keyedWrite pgDom 0x68 (forceWord 1 d) (domForceRefused · d true)
        fun s => (s.forceStored true d).domForceOn d := by
  obtain ⟨hgo, hon, hdom⟩ := forceWord_on_fields d hd
  show writeDom u 0x68 _ = _
  simp only [writeDom, hgo, hon, hdom, if_true, Bool.true_and]
  rfl

/-- DOM_FORCE with ON at 0 (R331). -/
theorem writeReg_forceWord_off (u : State) (d : Nat) (hd : d < 64) :
    writeReg u pgDom 0x68 (forceWord 0 d) =
      u.keyedWrite pgDom 0x68 (forceWord 0 d) (domForceRefused · d false)
        fun s => (s.forceStored false d).domForceOff d := by
  obtain ⟨hgo, hon, hdom⟩ := forceWord_off_fields d hd
  show writeDom u 0x68 _ = _
  simp only [writeDom, hgo, hon, hdom, if_true, Bool.true_and, Bool.false_eq_true, if_false]
  rfl

/-- CLK_FORCE_SRC (R340). -/
theorem writeReg_forceSrc (u : State) (data : Nat) :
    writeReg u pgClk 0x50 data =
      u.keyedWrite pgClk 0x50 data (forceSrcRefused · (data % 4)) (·.forceSrc (data % 4)) := by
  have hsel : bitsOf data 0 2 = data % 4 := by simp [bitsOf]
  show writeClk u 0x50 _ = _
  simp only [writeClk, if_true, hsel]

/-- PMB_HOST_XACT (R366). -/
theorem writeReg_xactWord (u : State) (k slot cmd data : Nat) (hk : k < 4) (hs : slot < 8) (hc : cmd < 256) (hd : data < 65536) :
    writeReg u pgPmb 0x64 (xactWord k slot cmd data) =
      u.keyedWrite pgPmb 0x64 (xactWord k slot cmd data) (hostXactRefused · slot) (·.hostXact k slot cmd data) := by
  obtain ⟨hkind, hslot, hcmd, hdata⟩ := xactWord_fields k slot cmd data hk hs hc hd
  show writePmb u 0x64 _ = _
  simp only [writePmb, if_true, hkind, hslot, hcmd, hdata]

/-- EVT_ERASE with GO at 1 (R518). -/
theorem writeReg_erase (u : State) :
    writeReg u pgEvt 0x5C (2 ^ 31) =
      u.keyedWrite pgEvt 0x5C (2 ^ 31) (fun s => s.evt.STAT_FLUSH_ACT || s.evt.STAT_ERASING) State.eraseStart := by
  have hgo : bitAt (2 ^ 31) 31 = true := by decide
  show writeEvt u 0x5C _ = _
  simp only [writeEvt, hgo, if_true, Bool.true_and]

/-! ### The effect of each -/

/-- An accepted host cap stands at the lowest package ceiling where it lies above it (R33, R476). -/
theorem hostCapSet_seq (data : Nat) (u : State) :
    (hostCapSet data u).seq = { u.seq with HOST_CAP := min data (lowestPkg u) } := by
  unfold hostCapSet
  dsimp only
  split <;> simp

/-- What the flag of a host cap and its report to the reckoner may touch (R391). -/
theorem hostCapSet_frame (data : Nat) (u : State) :
    hostCapSet data u =
      { u with seq := (hostCapSet data u).seq, adm := (hostCapSet data u).adm, frm := (hostCapSet data u).frm,
               tre := (hostCapSet data u).tre, mbs := (hostCapSet data u).mbs, mbn := (hostCapSet data u).mbn,
               rck := (hostCapSet data u).rck, evt := (hostCapSet data u).evt, hdr := (hostCapSet data u).hdr } := by
  rw [State.eq_of_pages]
  unfold hostCapSet
  dsimp only
  split <;> simp

/-- A self-test of the beam begins (R220). -/
theorem beamTest_begins (u : State) (kind target : Nat) (hk : 1 ≤ kind ∧ kind ≤ 7) (ht : target < 256) :
    u.beamTest kind target =
      { u with beam := { u.beam with TEST_CTRL_KIND := kind, TEST_CTRL_TARGET := target, TEST_CTRL_START := true,
                                     TEST_STAT_DONE := false, test := some (kind, target) },
               hdr := u.hdr.set pgBeam { u.hdr[pgBeam] with busy := true } } := by
  have h0 : kind ≠ 0 := by omega
  simp only [State.beamTest, if_pos hk, if_neg h0, Nat.mod_eq_of_lt ht]
  rfl

/-- DOM_FORCE on a domain that is off, queued or failed puts a wake entry first in the round in progress (R331). -/
theorem domForceOn_wakes (u : State) (d : Nat)
    (h : (domOf u d).ST_ST = 0 ∨ (domOf u d).ST_ST = 1 ∨ (domOf u d).ST_ST = 8) :
    (u.domForceOn d).dom =
      { u.dom with queue := { dom := d, prio := 0, at_ := u.now } :: u.dom.queue.filter (·.dom ≠ d),
                   nextQ := u.dom.nextQ.filter (·.dom ≠ d),
                   dom := vMod u.dom.dom d fun x => { x with ST_ST := 1, forced := true, wantAt := u.now, stepAt := u.now } } ∧
    (u.domForceOn d).hdr[pgDom].err.testBit 19 = true := by
  simp only [State.domForceOn, if_pos h]
  exact ⟨by simp, fault_bit ..⟩

/-- A forced wake of a domain below 50 is refused outside the running states and in TRIPPED (R331). -/
theorem domForceRefused_on (s : State) (d : Nat) (hd : d < 50) :
    domForceRefused s d true = (decide (s.seq.base ≠ .running) || s.seq.tripped) := by
  simp [domForceRefused, Nat.not_le.mpr hd, Bool.or_comm]

/-- A forced switch-off of a domain below 50 is refused for a boot domain and in TRIPPED (R331). -/
theorem domForceRefused_off (s : State) (d : Nat) (hd : d < 50) :
    domForceRefused s d false = (isBoot s d || s.seq.tripped) := by
  simp [domForceRefused, Nat.not_le.mpr hd]

section
variable {s : State} {d : BitVec 6} {acc : HostAcc} {ctr : Nat}

/-- DOM_FORCE_ON, accepted and not refused (R331). -/
theorem exec_domForceOn_taken (ha : hostAccepts s (regAddr 9 0x68) (forceWord 1 d.toNat) acc = true)
    (hk : keyPasses s ctr 0x9068 (forceWord 1 d.toNat) = true) (hr : domForceRefused s d.toNat true = false) :
    exec (.domForceOn d acc) s =
      .next { ((s.keySpent (regAddr 9 0x68) ctr).forceStored true d.toNat).domForceOn d.toNat with hst := answer 0 } :=
  exec_keyed_taken pgDom 0x68 (by decide) rfl rfl ha hk (writeReg_forceWord_on · _ d.isLt) hr

/-- DOM_FORCE_ON, accepted and refused by the state (R331). -/
theorem exec_domForceOn_refused (ha : hostAccepts s (regAddr 9 0x68) (forceWord 1 d.toNat) acc = true)
    (hk : keyPasses s ctr 0x9068 (forceWord 1 d.toNat) = true) (hr : domForceRefused s d.toNat true = true) :
    exec (.domForceOn d acc) s = .next { s.keySpent (regAddr 9 0x68) ctr with hst := answer 2 } :=
  exec_keyed_refused pgDom 0x68 (by decide) rfl rfl ha hk (writeReg_forceWord_on · _ d.isLt) hr

/-- DOM_FORCE_OFF, accepted and not refused (R331). -/
theorem exec_domForceOff_taken (ha : hostAccepts s (regAddr 9 0x68) (forceWord 0 d.toNat) acc = true)
    (hk : keyPasses s ctr 0x9068 (forceWord 0 d.toNat) = true) (hr : domForceRefused s d.toNat false = false) :
    exec (.domForceOff d acc) s =
      .next { ((s.keySpent (regAddr 9 0x68) ctr).forceStored false d.toNat).domForceOff d.toNat with hst := answer 0 } :=
  exec_keyed_taken pgDom 0x68 (by decide) rfl rfl ha hk (writeReg_forceWord_off · _ d.isLt) hr

/-- DOM_FORCE_OFF, accepted and refused by the state (R331). -/
theorem exec_domForceOff_refused (ha : hostAccepts s (regAddr 9 0x68) (forceWord 0 d.toNat) acc = true)
    (hk : keyPasses s ctr 0x9068 (forceWord 0 d.toNat) = true) (hr : domForceRefused s d.toNat false = true) :
    exec (.domForceOff d acc) s = .next { s.keySpent (regAddr 9 0x68) ctr with hst := answer 2 } :=
  exec_keyed_refused pgDom 0x68 (by decide) rfl rfl ha hk (writeReg_forceWord_off · _ d.isLt) hr

end

/-- What a forced wake may touch (R331). -/
theorem domForceOn_frame (u : State) (d : Nat) :
    u.domForceOn d =
      { u with dom := (u.domForceOn d).dom, evt := (u.domForceOn d).evt, hdr := (u.domForceOn d).hdr } := by
  simp [State.eq_of_pages]

/-- DOM_FORCE leaves a domain that is on as it is (R331). -/
theorem domForceOn_on (u : State) (d : Nat) (h : (domOf u d).ST_ST = 5) : u.domForceOn d = u := by
  simp [State.domForceOn, h]

/-- A domain that leaves the queue is off (R331). -/
theorem leaveQueue_off (u : State) (d : Nat) (hd : d < 50) : (domOf (u.leaveQueue d) d).ST_ST = 0 := by
  unfold State.leaveQueue State.roundEnd
  split <;> simp [domOf, vAt_vMod_same, hd]

/-- A domain that leaves the queue has no entry left, in this round or the next (R322, R331). -/
theorem leaveQueue_noEntry (u : State) (d : Nat) : ∀ e ∈ (u.leaveQueue d).dom.queue, e.dom ≠ d := by
  unfold State.leaveQueue State.roundEnd
  split <;> simp

/-- An error with its event leaves every power domain as it is. -/
theorem fault_domOf (u : State) (p : Fin 23) (b c : Nat) (l : List Nat) (d : Nat) : domOf (u.fault p b c l) d = domOf u d := by
  simp [domOf]

/-- A domain that has not failed is off once it is forced off (R330). -/
theorem forceOff_off (u : State) (d : Nat) (hd : d < 50) (h : (domOf u d).ST_ST ≠ 8) : (domOf (u.forceOff d) d).ST_ST = 0 := by
  unfold State.forceOff
  dsimp only
  split
  · omega
  · split
    · exact leaveQueue_off u d hd
    · simp [domOf, vAt_vMod_same, hd]

/-- DOM_FORCE with ON at 0 leaves the domain off (R331). -/
theorem domForceOff_off (u : State) (d : Nat) (hd : d < 50) : (domOf (u.domForceOff d) d).ST_ST = 0 := by
  unfold State.domForceOff
  dsimp only
  split
  · assumption
  · rw [fault_domOf]
    split
    · simp [domOf, vAt_vMod_same, hd]
    · rename_i h
      exact forceOff_off u d hd h

/-- DOM_FORCE with ON at 0 drops a queued domain's entry (R331). -/
theorem domForceOff_noEntry (u : State) (d : Nat) (h : (domOf u d).ST_ST = 1) :
    ∀ e ∈ (u.domForceOff d).dom.queue, e.dom ≠ d := by
  simpa [State.domForceOff, State.forceOff, h] using leaveQueue_noEntry u d

/-- DOM_FORCE with ON at 0 is recorded where it changes the domain (R331). -/
theorem domForceOff_bit (u : State) (d : Nat) (h : (domOf u d).ST_ST ≠ 0) :
    (u.domForceOff d).hdr[pgDom].err.testBit 19 = true := by
  simp only [State.domForceOff, if_neg h]
  exact fault_bit ..

/-- What a forced switch-off may touch (R330, R331). -/
theorem domForceOff_frame (u : State) (d : Nat) :
    u.domForceOff d =
      { u with tly := (u.domForceOff d).tly, adm := (u.domForceOff d).adm, fcs := (u.domForceOff d).fcs,
               dom := (u.domForceOff d).dom, vrg := (u.domForceOff d).vrg, frm := (u.domForceOff d).frm,
               mbs := (u.domForceOff d).mbs, mbn := (u.domForceOff d).mbn, evt := (u.domForceOff d).evt,
               hdr := (u.domForceOff d).hdr } := by
  simp [State.eq_of_pages]

/-- The timekeeper's source follows its selection (R340, R341). -/
theorem srcApply_src (u : State) : u.srcApply.clk.TK_SRC = srcWanted u := by
  unfold State.srcApply
  split
  · rename_i h
    exact h.symm
  · simp

/-- A switch of the source changes nothing else on the CLK page but what records it (R341). -/
theorem srcApply_clk (u : State) :
    u.srcApply.clk =
      { u.clk with TK_SRC := u.srcApply.clk.TK_SRC, TK_GLITCH := u.srcApply.clk.TK_GLITCH,
                   TK_XTAL_SEEN := u.srcApply.clk.TK_XTAL_SEEN, TK_CNT_SWITCHES := u.srcApply.clk.TK_CNT_SWITCHES } := by
  unfold State.srcApply
  split <;> simp

/-- A switch of the source changes the SEQ page in the shown state alone (R45, R477). -/
theorem srcApply_seq (u : State) : u.srcApply.seq = { u.seq with shown := u.srcApply.seq.shown } := by
  unfold State.srcApply
  split <;> simp

/-- A switch of the source sends notices and changes nothing else on a mailbox page (R422). -/
theorem srcApply_quiet (u : State) (c : Chan) : (u.srcApply.mbx c).quiet = (u.mbx c).quiet := by
  have hclk : ∀ k : Clk, ({ u with clk := k } : State).mbx c = u.mbx c := by intro k; cases c <;> rfl
  unfold State.srcApply
  split <;> simp [hclk]

/-- A forced selection stands in FORCE_SRC (R340). -/
theorem forceSrc_sel (u : State) (sel : Nat) : (u.forceSrc sel).clk.FORCE_SRC = sel := by
  rw [State.forceSrc, srcApply_clk]

/-- A forced selection changes nothing else on the CLK page but the source and what records its switch (R340, R341). -/
theorem forceSrc_clk (u : State) (sel : Nat) :
    (u.forceSrc sel).clk =
      { u.clk with FORCE_SRC := (u.forceSrc sel).clk.FORCE_SRC, TK_SRC := (u.forceSrc sel).clk.TK_SRC,
                   TK_GLITCH := (u.forceSrc sel).clk.TK_GLITCH, TK_XTAL_SEEN := (u.forceSrc sel).clk.TK_XTAL_SEEN,
                   TK_CNT_SWITCHES := (u.forceSrc sel).clk.TK_CNT_SWITCHES } := by
  rw [forceSrc_sel]
  exact srcApply_clk _

/-- What a forced selection of the source may touch (R340). -/
theorem forceSrc_frame (u : State) (sel : Nat) :
    u.forceSrc sel =
      { u with clk := (u.forceSrc sel).clk, seq := (u.forceSrc sel).seq, mbs := (u.forceSrc sel).mbs, mbn := (u.forceSrc sel).mbn,
               rck := (u.forceSrc sel).rck, evt := (u.forceSrc sel).evt, hdr := (u.forceSrc sel).hdr } := by
  simp [State.eq_of_pages]

/-- A host transaction waits with its four fields, and goes at once where the bus is idle (R366). -/
theorem hostXact_eq (u : State) (k slot cmd data : Nat) :
    u.hostXact k slot cmd data =
      { u with pmb :=
          { u.pmb with HOST_RES_DONE := false, HOST_XACT_KIND := k, HOST_XACT_SLOT := slot, HOST_XACT_CMD := cmd, HOST_XACT_DATA := data,
                       host := if u.pmb.task = .none then none else some (k, slot, cmd, data),
                       task := if u.pmb.task = .none then .host k slot cmd data 1 else u.pmb.task } } := by
  unfold State.hostXact State.pmbNext
  by_cases h : u.pmb.task = .none <;> simp [h]

end Sys2Proof.Machine
end

section
namespace Sys2Proof.Proofs

open Sys2Proof Sys2Proof.Machine

/-- Settles O11: each command is the keyed write of its register (`exec_keyed_taken`, `exec_keyed_refused`), whose effect has an
equation of its own, or for what it may touch a frame. -/
theorem keyedCommandsRun : Obligations.KeyedCommandsRun := by
  unfold Obligations.KeyedCommandsRun
  refine ⟨?hostCap, ?beamTest, ?spare, ?domForce, fun s acc ctr => ⟨?forceSrc, ?hostXact, ?erase⟩⟩
  case hostCap =>
    intro s data acc ctr ha hk
    refine ⟨_, exec_keyed_taken pgSeq 0x58 (by decide) rfl rfl ha hk (writeReg_hostCap · _) rfl, hostCapSet_seq .., ?_⟩
    conv_lhs => rw [hostCapSet_frame]
    rfl
  case beamTest =>
    intro s c kind target acc ctr hc ha hk
    obtain ⟨hkind, htgt, hexec⟩ : (1 ≤ kind ∧ kind ≤ 7) ∧ target < 256 ∧
        exec c s = .next (hostWrite s (regAddr 4 0x60) (testWord kind target) acc) := by
      rcases hc with ⟨t, rfl, ⟨rfl, rfl⟩ | ⟨rfl, rfl⟩ | ⟨rfl, rfl⟩⟩ | ⟨rfl, ⟨rfl, rfl⟩ | ⟨rfl, rfl⟩ | ⟨rfl, rfl⟩ | ⟨rfl, rfl⟩⟩ <;>
        exact ⟨by decide, by omega, rfl⟩
    have hw := fun u => writeReg_testWord u kind target hkind htgt
    have hr : beamTestRefused (s.keySpent (regAddr 4 0x60) ctr) = beamTestRefused s := rfl
    refine ⟨fun hsafe hfree => ?_, fun hbad => ?_⟩
    · rw [exec_keyed_taken pgBeam 0x60 (by decide) rfl hexec ha hk hw (hr.trans (by simp [beamTestRefused, hsafe, hfree])),
        beamTest_begins _ _ _ hkind htgt]
      rfl
    · exact exec_keyed_refused pgBeam 0x60 (by decide) rfl hexec ha hk hw
        (hr.trans (by simpa [beamTestRefused, Option.isSome_iff_ne_none] using hbad))
  case spare =>
    intro s c kind op i acc ctr hc ha hk
    obtain ⟨hkind, hop, hexec⟩ : kind < 16 ∧ op < 4 ∧
        exec c s = .next (hostWrite s (regAddr 20 0x60) (spareWord kind op i.toNat) acc) := by
      rcases hc with ⟨rfl, rfl, rfl⟩ | ⟨rfl, rfl, rfl⟩ | ⟨rfl, rfl, rfl⟩ | ⟨rfl, rfl, rfl⟩ | ⟨rfl, rfl, rfl⟩ | ⟨rfl, rfl, rfl⟩ |
        ⟨rfl, rfl, rfl⟩ | ⟨rfl, rfl, rfl⟩ | ⟨rfl, rfl, rfl⟩ <;> exact ⟨by decide, by decide, rfl⟩
    have hw := fun u => writeReg_spareWord u kind op i.toNat hkind hop i.isLt
    have hr : relRefused (s.keySpent (regAddr 20 0x60) ctr) kind = relRefused s kind := rfl
    refine ⟨fun hfree hok => ⟨relFits (s.keySpent (regAddr 20 0x60) ctr) kind op i.toNat, ?_⟩, fun hbad => ?_⟩
    · exact exec_keyed_taken pgRel 0x60 (by decide) rfl hexec ha hk hw (hr.trans (by simp [relRefused, hfree, hok]))
    · exact exec_keyed_refused pgRel 0x60 (by decide) rfl hexec ha hk hw
        (hr.trans (by simpa [relRefused, Option.isSome_iff_ne_none] using hbad))
  case domForce =>
    intro s d acc ctr hd
    refine ⟨fun ha hk => ⟨fun hrun htrip => ?on, fun hbad => ?onRefused⟩,
      fun ha hk => ⟨fun hboot htrip => ?off, fun hbad => ?offRefused⟩⟩
    case on =>
      have run := exec_domForceOn_taken ha hk (by simp [domForceRefused_on, hd, hrun, htrip])
      refine ⟨fun hst => ?wakes, fun hst => ?already⟩
      case wakes =>
        obtain ⟨hdom, hbit⟩ := domForceOn_wakes ((s.keySpent (regAddr 9 0x68) ctr).forceStored true d.toNat) d.toNat hst
        refine ⟨_, run, hdom, hbit, ?_⟩
        conv_lhs => rw [domForceOn_frame]
        rfl
      case already =>
        rw [run, domForceOn_on ((s.keySpent (regAddr 9 0x68) ctr).forceStored true d.toNat) _ hst]
        rfl
    case onRefused => exact exec_domForceOn_refused ha hk (by simpa [domForceRefused_on, hd] using hbad)
    case off =>
      have run := exec_domForceOff_taken ha hk (by simp [domForceRefused_off, hd, hboot, htrip])
      have noEntry := domForceOff_noEntry ((s.keySpent (regAddr 9 0x68) ctr).forceStored false d.toNat) d.toNat
      have hbit := domForceOff_bit ((s.keySpent (regAddr 9 0x68) ctr).forceStored false d.toNat) d.toNat
      refine ⟨_, run, domForceOff_off _ _ hd, fun e he hst => noEntry hst e he, hbit, ?_⟩
      conv_lhs => rw [domForceOff_frame]
      rfl
    case offRefused => exact exec_domForceOff_refused ha hk (by simpa [domForceRefused_off, hd] using hbad)
  case forceSrc =>
    intro data ha hk hfree
    refine ⟨_, exec_keyed_taken pgClk 0x50 (by decide) rfl rfl ha hk (writeReg_forceSrc · _) hfree, forceSrc_sel .., srcApply_src _,
      forceSrc_clk .., srcApply_seq _, srcApply_quiet _ .mbs, srcApply_quiet _ .mbn, ?_⟩
    conv_lhs => rw [forceSrc_frame]
    rfl
  case hostXact =>
    intro c k slot cmd data hc ha hk hfree
    obtain ⟨hkind, hexec⟩ : k < 4 ∧
        exec c s = .next (hostWrite s (regAddr 12 0x64) (xactWord k slot.toNat cmd.toNat data.toNat) acc) := by
      rcases hc with ⟨rfl, rfl⟩ | ⟨rfl, rfl⟩ | ⟨rfl, rfl⟩ | ⟨rfl, rfl⟩ <;> exact ⟨by decide, rfl⟩
    refine ⟨_, exec_keyed_taken pgPmb 0x64 (by decide) rfl hexec ha hk
      (writeReg_xactWord · _ _ _ _ hkind slot.isLt cmd.isLt data.isLt) hfree, ?_⟩
    rw [hostXact_eq]
    exact ⟨rfl, rfl⟩
  case erase =>
    intro ha hk hflush herasing
    exact exec_keyed_taken pgEvt 0x5C (by decide) rfl rfl ha hk writeReg_erase (by simp [State.keySpent, hflush, herasing])

/-- A live host port whose host-secure key is usable and anchored, with the check of counter 1 pending for a write of `data` to the
register at byte offset `off` of the window; everything else as at reset. -/
def checkPending (off data : Nat) : State :=
  let s : State := { liveReset with cmn.fuses.keyCrc := Vector.replicate 4 true }
  { s with aut.STAT_ANCHORED := true,
           aut.pend := some { ctr := 1, mac := hmac128 (s.key 0) (keyedMessage s off data 1), at_ := 0 } }

/-- A pending check that is the keyed one of a write, on a usable and anchored channel, passes for that write (R119). -/
theorem keyPasses_of_mac (s : State) (ctr mac at_ off data : Nat) (hp : s.aut.pend = some { ctr := ctr, mac := mac, at_ := at_ })
    (hkey : vAt s.cmn.fuses.keyCrc 0 false = true) (hanch : s.aut.STAT_ANCHORED = true) (hctr : s.aut.HS_LAST < ctr)
    (hmac : mac = hmac128 (s.key 0) (keyedMessage s off data ctr)) : keyPasses s ctr off data = true := by
  simp [keyPasses, checkPasses, hp, hkey, hanch, hctr, hmac]

/-- The pending check of `checkPending` passes (R119). -/
theorem keyPasses_checkPending (off data : Nat) : keyPasses (checkPending off data) 1 off data = true :=
  keyPasses_of_mac _ 1 _ 0 off data rfl rfl rfl Nat.one_pos rfl

/-- The secure access that writes `data` to the word at `addr`, both parity bits right (R98). -/
def secureWrite (addr data : Nat) : HostAcc := { sec := true, apar := addrPar addr true true, wpar := evenPar 32 data }

/-- `keyedCommandsRun` applies: at reset, with its check pending, EVT_ERASE begins the erase. -/
theorem evtErase_begins_atReset :
    exec (.evtErase (secureWrite (regAddr 21 0x5C) (2 ^ 31))) (checkPending 0x1505C (2 ^ 31)) = .next
      { checkPending 0x1505C (2 ^ 31) with
          hst := answer 0, aut := checkTaken (checkPending 0x1505C (2 ^ 31)).aut 1,
          evt := { (checkPending 0x1505C (2 ^ 31)).evt with STAT_ERASING := true },
          hdr := (checkPending 0x1505C (2 ^ 31)).hdr.set pgEvt { (checkPending 0x1505C (2 ^ 31)).hdr[pgEvt] with busy := true } } := by
  obtain ⟨-, -, -, -, keyed⟩ := keyedCommandsRun
  obtain ⟨-, -, erase⟩ := keyed (checkPending 0x1505C (2 ^ 31)) (secureWrite (regAddr 21 0x5C) (2 ^ 31)) 1
  exact erase (by decide) (keyPasses_checkPending ..) rfl rfl

end Sys2Proof.Proofs
end

section
/-! PROOFS. The sensor hub's housekeeping round, the core range and the rings (R36, R86, R287 to R289). -/

namespace Sys2Proof.Machine

open Sys2Proof

/-! ### Elements of repeated registers -/

/-- What a change of an element leaves alone of every element, it leaves alone of each one read. -/
theorem vAt_vMod_proj {α β : Type} {n : Nat} (p : α → β) (v : Vector α n) (i j : Nat) (f : α → α) (d : α)
    (h : ∀ x, p (f x) = p x) : p (vAt (vMod v i f) j d) = p (vAt v j d) := by
  by_cases hij : i = j
  · subst hij
    by_cases hi : i < n
    · rw [vAt_vMod_same v i f d hi, h]
    · simp [vAt, hi]
  · rw [vAt_vMod_other v i j f d hij]

/-- Changing an element of a repeated register by its own index. -/
theorem vMod_fin {α : Type} {n : Nat} (v : Vector α n) (i : Fin n) (f : α → α) : vMod v i.val f = v.set i (f v[i]) := by
  simp [vMod, i.isLt]

/-! ### Errors that stay -/

/-- Bit `i` of page `q`'s PAGE_ERR is set (R107). -/
def State.hasErr (s : State) (q : Fin 23) (i : Nat) : Prop := s.hdr[q].err.testBit i = true

section
variable {s t : State} {q : Fin 23} {i : Nat}

/-- Equal headers show equal errors. -/
theorem hasErr_of_hdr (hi : s.hasErr q i) (h : t.hdr = s.hdr) : t.hasErr q i := by
  unfold State.hasErr
  rw [h]
  exact hi

/-- An error with its event is set (R107). -/
theorem hasErr_fault (s : State) (p : Fin 23) (b c : Nat) (d : List Nat) : (s.fault p b c d).hasErr p b := fault_bit ..

/-- An event clears no error. -/
theorem hasErr_event (c : Nat) (d : List Nat) (hi : s.hasErr q i) : (s.event c d).hasErr q i := event_hdr_keeps _ _ _ _ _ hi

/-- An error with its event clears no other (R107). -/
theorem hasErr_fault_keeps (p : Fin 23) (b c : Nat) (d : List Nat) (hi : s.hasErr q i) : (s.fault p b c d).hasErr q i :=
  fault_hdr_keeps _ _ _ _ _ _ _ hi

/-- An error that arrives clears no other (R107). -/
theorem hasErr_setErr (p : Fin 23) (b : Nat) (hi : s.hasErr q i) : (s.setErr p b).hasErr q i := by
  unfold State.hasErr at *
  by_cases h : p = q
  · subst h
    simpa [State.setErr] using PageHdr.withErr_keeps _ b _ hi
  · have hne : p.val ≠ q.val := fun e => h (Fin.ext e)
    simpa [State.setErr, hne] using hi

/-- Either branch of a choice. -/
theorem hasErr_ite {c : Prop} [Decidable c] (hs : s.hasErr q i) (ht : t.hasErr q i) : (if c then s else t).hasErr q i := by
  split <;> assumption

/-- A word for the outbound queue clears no error (R423). -/
theorem hasErr_sendOut (c : Chan) (k sb v : Nat) (hi : s.hasErr q i) : (s.sendOut c k sb v).hasErr q i := by
  have hmod : ∀ f, (s.mbxMod c f).hasErr q i := fun f => hasErr_of_hdr hi (by cases c <;> rfl)
  unfold State.sendOut
  exact hasErr_ite (hmod _) (hasErr_ite (hasErr_setErr _ _ (hmod _)) (hasErr_fault_keeps _ _ _ _ (hmod _)))

/-- A notice clears no error (R422). -/
theorem hasErr_notice (k sb v : Nat) (hi : s.hasErr q i) : (s.notice k sb v).hasErr q i := by
  unfold State.notice
  extract_lets b u
  have hu : u.hasErr q i := hasErr_ite (hasErr_sendOut _ _ _ _ hi) hi
  exact hasErr_ite (hasErr_sendOut _ _ _ _ hu) hu

/-- An in-band interrupt of the rack port clears no error (R438). -/
theorem hasErr_rackIbi (v : Nat) (hi : s.hasErr q i) : (s.rackIbi v).hasErr q i := by
  unfold State.rackIbi
  exact hasErr_ite hi hi

/-- A shown state that changes clears no error (R477). -/
theorem hasErr_settle (c : Nat) (hi : s.hasErr q i) : (s.settle c).hasErr q i := by
  have hev : ({ s with seq.shown := shownState s }.event 0x0110 [s.seq.shown, shownState s, c]).hasErr q i := hasErr_event _ _ hi
  unfold State.settle
  exact hasErr_ite hi (hasErr_ite hev (hasErr_ite (hasErr_rackIbi _ (hasErr_notice _ _ _ hev)) (hasErr_notice _ _ _ hev)))

/-- A forecaster that is forced to zero, or runs again, clears no error (R270). -/
theorem hasErr_fcsSettle (hi : s.hasErr q i) : s.fcsSettle.hasErr q i := by
  unfold State.fcsSettle
  exact hasErr_ite (hasErr_event _ _ hi) (hasErr_ite (hasErr_event _ _ hi) hi)

/-- The core-range condition clears no error (R36). -/
theorem hasErr_rangeBegin (hi : s.hasErr q i) : s.rangeBegin.hasErr q i := by
  unfold State.rangeBegin
  exact hasErr_ite hi (hasErr_settle _ (hasErr_fcsSettle (hasErr_fault_keeps _ _ _ _ hi)))

/-- A failed ageing monitor clears no error (R495). -/
theorem hasErr_ageFail (r reason : Nat) (hi : s.hasErr q i) : (s.ageFail r reason).hasErr q i := hasErr_fault_keeps _ _ _ _ hi

/-- The ladder's decision for a domain clears no error (R297). -/
theorem hasErr_ladderDom (sweep : Bool) (c : Nat) (hi : s.hasErr q i) : (s.ladderDom sweep c).hasErr q i := by
  unfold State.ladderDom
  dsimp only
  refine hasErr_of_hdr (s := match (if sweep = true then rateApplies s c else none) with
    | some g => if s.now < (tdOf s c).frzTo then s else s.event 0x0715 [c, g, sdat ((grpOf s g).diff.getD 0 * 5 / 8)]
    | none => s) ?_ rfl
  split
  · split
    · exact hi
    · exact hasErr_event _ _ hi
  · exact hi

/-- The ladder clears no error (R297). -/
theorem hasErr_ladder (sweep : Bool) (hi : s.hasErr q i) : (s.ladder sweep).hasErr q i :=
  List.foldlRecOn (motive := fun u : State => u.hasErr q i) _ _ hi fun _ hu c _ => hasErr_ladderDom sweep c hu

end

/-! ### The sensor hub but for its sensors -/

/-- The sensor hub's page but for its thermal sensors and the count of rounds to the next refit of their drift. -/
def Sns.hub (n : Sns) : Sns := { n with ts := Vector.replicate 30 {}, refits := 0 }

/-- Pages that agree but for the sensors agree in the round, its channels and the rings. -/
theorem Sns.hub_fields {m n : Sns} (h : m.hub = n.hub) :
    m.hk = n.hk ∧ m.slotRead = n.slotRead ∧ m.ring = n.ring ∧ m.roundDone = n.roundDone ∧ m.HK_ROUNDS = n.HK_ROUNDS ∧
    m.RANGE_IN_ROUNDS = n.RANGE_IN_ROUNDS :=
  ⟨(congrArg Sns.hk h :), (congrArg Sns.slotRead h :), (congrArg Sns.ring h :), (congrArg Sns.roundDone h :),
    (congrArg Sns.HK_ROUNDS h :), (congrArg Sns.RANGE_IN_ROUNDS h :)⟩

/-- A failed sensor changes the hub in its sensors alone (R284). -/
@[simp] theorem sensorFail_hub (s : State) (i reason : Nat) : (s.sensorFail i reason).sns.hub = s.sns.hub := by
  unfold State.sensorFail
  split
  · rfl
  · simp [State.tsCount, Sns.hub]

/-- A spare that serves changes the hub in its sensors alone (R284). -/
@[simp] theorem sensorSubst_hub (s : State) (g : Nat) : (s.sensorSubst g).sns.hub = s.sns.hub := by
  unfold State.sensorSubst
  dsimp only
  (repeat' split) <;> simp [State.tsCount, Sns.hub]

/-- A sensor's sample changes the hub in its sensors alone (R284). -/
@[simp] theorem sensorSample_hub (s : State) (i : Nat) (x : TempSample) : (s.sensorSample i x).sns.hub = s.sns.hub := by
  have hmod : ∀ (u : State) (j : Nat) (f : SnsTs → SnsTs), (u.tsMod j f).sns.hub = u.sns.hub := fun _ _ _ => rfl
  unfold State.sensorSample
  dsimp only
  (repeat' split) <;> simp only [sensorFail_hub, hmod]

/-- A ring's device that has failed changes the hub in its sensors alone (R86). -/
@[simp] theorem macroFail_hub (s : State) (i pos : Nat) : (s.macroFail i pos).sns.hub = s.sns.hub := by
  unfold State.macroFail
  dsimp only
  (repeat' split) <;> simp

/-- A refit of the drift corrections changes the hub in its sensors and the count to the next refit alone (R286). -/
@[simp] theorem driftRefit_hub (s : State) : s.driftRefit.sns.hub = s.sns.hub := by
  unfold State.driftRefit
  dsimp only
  split
  · rfl
  · split
    · rfl
    · rw [foldl_proj fun u : State => u.sns.hub]
      · rfl
      · intro u i
        rfl

/-- The core-range condition stands, and the present round is not one inside it (R36). -/
theorem rangeBegin_sns (s : State) :
    s.rangeBegin.sns =
      { s.sns with roundBad := true, RANGE_IN_ROUNDS := 0, RANGE_OUT := true,
                   outRounds := if s.sns.RANGE_OUT then s.sns.outRounds else 0 } := by
  unfold State.rangeBegin
  dsimp only
  split <;> simp_all

/-! ### The slots of the round -/

/-- A channel's value changes no other channel and no reading of the round (R287). -/
theorem slotValue_channels (s : State) (k : Nat) (v : Int) :
    (s.slotValue k v).sns.hk = s.sns.hk ∧ (s.slotValue k v).sns.slotRead = s.sns.slotRead := by
  by_cases h2 : k < 2
  · simp only [State.slotValue, if_pos h2]
    (repeat' split) <;> simp [rangeBegin_sns]
  · have hub : (s.slotValue k v).sns.hub = s.sns.hub := by
      simp only [State.slotValue, if_neg h2]
      (repeat' split) <;> simp
    obtain ⟨hhk, hread, -⟩ := Sns.hub_fields hub
    exact ⟨hhk, hread⟩

/-- Slot 0 is the always-on rail, and a value outside the range of R10 begins the core-range condition (R36, R287). -/
theorem slotValue_vAon (s : State) (v : Int) :
    (s.slotValue 0 v).sns.CORE_V_AON = sat 16 v.toNat ∧ (v < 7100 ∨ 7900 < v → (s.slotValue 0 v).sns.RANGE_OUT = true) := by
  refine ⟨?_, fun hv => ?_⟩
  · simp only [State.slotValue, Nat.zero_lt_two, if_true]
    (repeat' split) <;> simp [rangeBegin_sns]
  · have hout : coreInside 0 v = false := by
      simp only [coreInside, if_true, decide_eq_false_iff_not]
      omega
    simp [State.slotValue, hout, rangeBegin_sns]

/-- Slot 1 is the junction, and a value outside the range of R10 begins the core-range condition (R36, R287). -/
theorem slotValue_tCore (s : State) (v : Int) :
    (s.slotValue 1 v).sns.CORE_T_CORE = max (-32768) (min 32767 v) ∧
    (v < -640 ∨ 7360 < v → (s.slotValue 1 v).sns.RANGE_OUT = true) := by
  refine ⟨?_, fun hv => ?_⟩
  · simp only [State.slotValue, Nat.one_lt_two, if_true, Nat.one_ne_zero, if_false]
    (repeat' split) <;> simp [rangeBegin_sns]
  · have hout : coreInside 1 v = false := by
      simp only [coreInside, Nat.one_ne_zero, if_false, decide_eq_false_iff_not]
      omega
    simp [State.slotValue, hout, rangeBegin_sns]

/-- A failed read on a channel: one more in a row, and with the second the channel is failed (R288). -/
def HkChan.readFailed (e : HkChan) : HkChan := { e with fails := e.fails + 1, failed := e.failed || decide (1 ≤ e.fails) }

/-- A failed read changes its own channel alone (R288). -/
theorem slotFailed_channels (s : State) (k : Nat) :
    (s.slotFailed k).sns.hk = vMod s.sns.hk k HkChan.readFailed ∧ (s.slotFailed k).sns.slotRead = s.sns.slotRead := by
  unfold State.slotFailed
  dsimp only
  (repeat' split) <;> simp [rangeBegin_sns] <;> rfl

/-- The second failed read in a row of a channel that had not failed is the error of R288. -/
theorem slotFailed_hasErr (s : State) (k : Nat) (hf : 1 ≤ (vAt s.sns.hk k {}).fails) (hn : (vAt s.sns.hk k {}).failed = false) :
    (s.slotFailed k).hasErr pgSns 19 := by
  have h2 : 2 ≤ (vAt s.sns.hk k {}).fails + 1 := by omega
  unfold State.slotFailed
  simp only [if_pos h2, hn, Bool.false_eq_true, if_false]
  have herr := fun u : State => hasErr_fault u pgSns 19 0x0817 [k]
  exact hasErr_ite (hasErr_rangeBegin (herr _)) (hasErr_ite (hasErr_ageFail _ _ (herr _)) (herr _))

/-- What a slot begins with (R206, R287). -/
def State.slotBegin (s : State) (k : Nat) : State :=
  let u := s.onSns fun n => { n with slotRead := some (slotNow s) }
  if 26 ≤ k ∧ k < 98 then u.maskFault (k - 26) false else u

/-- What the read of a slot's channel brings (R287, R288). -/
def State.slotTake (s : State) (rd : HkRead) (k : Nat) : State :=
  match rd with
  | .value v =>
    { s with sns.hk := vMod s.sns.hk k fun e => { e with val := v, valid := true, age := 0, failed := false, fails := 0 } }.slotValue k v
  | .failed => s.slotFailed k
  | .unreachable => (match slotMacro s k with | some m => s.macroFail m.1 m.2 | none => s).slotFailed k
  | .storage => if 26 ≤ k ∧ k < 98 then s.maskFault (k - 26) true else s.slotFailed k

/-- What a slot ends with: the sums of a reference check begin again (R359). -/
def State.slotEnd (s : State) (k : Nat) : State :=
  if 128 ≤ k ∧ k < 144 then s.vrgMod (k - 128) fun e => { e with dSum := 0, dN := 0 } else s

/-- HOUSEKEEPING_SLOT on a slot that is due (R287). -/
theorem exec_housekeepingSlot_due (s : State) (rd : HkRead) (k : Nat) (hs : s.rst.started = true)
    (hr : s.sns.slotRead ≠ some (slotNow s)) (hk : k = slotNow s % 160) (ho : slotOpen s k = true) :
    exec (.housekeepingSlot rd) s = .next (((s.slotBegin k).slotTake rd k).slotEnd k) := by
  subst hk
  show execHousekeepingSlot rd s = _
  simp only [execHousekeepingSlot, hs, hr, ho, decide_false, Bool.not_true, Bool.or_self, Bool.false_eq_true, if_false]
  cases rd <;> rfl

/-- A slot begins by marking itself read (R287). -/
theorem slotBegin_sns (s : State) (k : Nat) : (s.slotBegin k).sns = { s.sns with slotRead := some (slotNow s) } := by
  unfold State.slotBegin
  dsimp only
  split <;> simp

/-- The end of a slot leaves the sensor hub alone. -/
theorem slotEnd_sns (s : State) (k : Nat) : (s.slotEnd k).sns = s.sns := by
  unfold State.slotEnd
  split <;> simp

/-- The end of a slot leaves the page headers alone. -/
theorem slotEnd_hdr (s : State) (k : Nat) : (s.slotEnd k).hdr = s.hdr := by
  unfold State.slotEnd
  split <;> simp

/-- The read of a slot changes its own channel alone (R287, R288). -/
theorem slotTake_channels (s : State) (rd : HkRead) (k : Nat) :
    (∀ j, j ≠ k → vAt (s.slotTake rd k).sns.hk j {} = vAt s.sns.hk j {}) ∧ (s.slotTake rd k).sns.slotRead = s.sns.slotRead := by
  have hfail : ∀ u : State, u.sns.hub = s.sns.hub →
      (∀ j, j ≠ k → vAt (u.slotFailed k).sns.hk j {} = vAt s.sns.hk j {}) ∧ (u.slotFailed k).sns.slotRead = s.sns.slotRead := by
    intro u hub
    obtain ⟨hhk, hread⟩ := slotFailed_channels u k
    obtain ⟨hhk', hread', -⟩ := Sns.hub_fields hub
    refine ⟨fun j hj => ?_, hread.trans hread'⟩
    rw [hhk, vAt_vMod_other _ _ _ _ _ hj.symm, hhk']
  cases rd with
  | value v =>
    obtain ⟨hhk, hread⟩ := slotValue_channels
      { s with sns.hk := vMod s.sns.hk k fun e => { e with val := v, valid := true, age := 0, failed := false, fails := 0 } } k v
    refine ⟨fun j hj => ?_, hread⟩
    show vAt (State.slotValue _ k v).sns.hk j {} = _
    rw [hhk, vAt_vMod_other _ _ _ _ _ hj.symm]
  | failed => exact hfail s rfl
  | unreachable =>
    refine hfail _ ?_
    split <;> simp
  | storage =>
    unfold State.slotTake
    dsimp only
    split
    · simp
    · exact hfail s rfl

/-- A value is kept by its channel, which is valid and has not failed (R287). -/
theorem slotTake_value (s : State) (v : Int) (k : Nat) (hk : k < 160) :
    vAt (s.slotTake (.value v) k).sns.hk k {} = { val := v, valid := true, age := 0, failed := false, fails := 0 } := by
  show vAt (State.slotValue _ k v).sns.hk k {} = _
  rw [(slotValue_channels _ _ _).1, vAt_vMod_same _ _ _ _ hk]

/-- What a slot may touch. -/
theorem slot_frame (s : State) (rd : HkRead) (k : Nat) (t : State) (ht : t = ((s.slotBegin k).slotTake rd k).slotEnd k) :
    t = { s with seq := t.seq, beam := t.beam, ctl := t.ctl, fcs := t.fcs, sns := t.sns, vrg := t.vrg, mbs := t.mbs, mbn := t.mbn,
                 rck := t.rck, rel := t.rel, evt := t.evt, hdr := t.hdr } := by
  subst ht
  rw [State.eq_of_pages]
  unfold State.slotBegin State.slotTake State.slotEnd
  cases rd <;> dsimp only <;> (repeat' split) <;> simp

/-! ### The end of a round -/

/-- What the end of a round makes of the sensor hub's page, but for the refit of the drift corrections (R36, R287). -/
def Sns.roundEnded (n : Sns) (now : Nat) : Sns :=
  { n with roundDone := now / 4000, HK_ROUNDS := satAdd 16 n.HK_ROUNDS 1, roundBad := false,
           hk := n.hk.map fun (e : HkChan) => { e with age := min 255 (e.age + 1) },
           outRounds := if n.RANGE_OUT then n.outRounds + 1 else 0,
           RANGE_IN_ROUNDS := if n.roundBad || (vAt n.hk 0 {}).failed || (vAt n.hk 1 {}).failed then 0 else satAdd 8 n.RANGE_IN_ROUNDS 1 }

/-- The end of a round (R287, R289, R353, R358, R36). -/
def State.roundEnded (s : State) : State :=
  let u := (s.onSns (·.roundEnded s.now)).onThm fun t => { t with BELOW_AGE := min 15 (t.BELOW_AGE + 1), belowN := t.belowN + 1 }
  ((List.range 16).foldl (fun u r => (u.parityRound r).refreshRail r) u).driftRefit.publishThermal

/-- HOUSEKEEPING_ROUND_END on a round that is due (R287). -/
theorem exec_housekeepingRoundEnd_due (s : State) (hs : s.rst.started = true) (hd : s.sns.roundDone < s.now / 4000) :
    exec .housekeepingRoundEnd s = .next s.roundEnded := by
  show execHousekeepingRoundEnd s = _
  simp only [execHousekeepingRoundEnd, hs, hd, and_self, if_true]
  rfl

/-- The hub's page after the end of a round (R36, R287). -/
theorem roundEnded_hub (s : State) : s.roundEnded.sns.hub = (s.sns.roundEnded s.now).hub := by
  simp [State.roundEnded]

/-- The end of a round ages what the die below last published (R289). -/
theorem roundEnded_thm (s : State) :
    s.roundEnded.thm = { s.thm with BELOW_AGE := min 15 (s.thm.BELOW_AGE + 1), belowN := s.thm.belowN + 1 } := by
  simp [State.roundEnded]

/-- What the end of a round may touch. -/
theorem roundEnded_frame (s : State) :
    s.roundEnded =
      { s with thm := s.roundEnded.thm, sns := s.roundEnded.sns, vrg := s.roundEnded.vrg, frm := s.roundEnded.frm,
               rel := s.roundEnded.rel, evt := s.roundEnded.evt, hdr := s.roundEnded.hdr, free := s.roundEnded.free } := by
  simp [State.eq_of_pages, State.roundEnded]

/-! ### The end of the core-range condition, and a die below that is lost -/

/-- The state after the core-range condition has ended (R36). -/
def State.rangeEnded (s : State) : State :=
  ((s.onSns fun x => { x with RANGE_OUT := false, outRounds := 0 }).event 0x0815 [sat 16 s.sns.outRounds]).fcsSettle.settle 0x0815

/-- CORE_RANGE_END after 100 rounds inside the range (R36). -/
theorem exec_coreRangeEnd_due (s : State) (ho : s.sns.RANGE_OUT = true) (hr : 100 ≤ s.sns.RANGE_IN_ROUNDS) :
    exec .coreRangeEnd s = .next s.rangeEnded := by
  show execCoreRangeEnd s = _
  simp only [execCoreRangeEnd, ho, hr, and_self, if_true]
  rfl

/-- The end of the core-range condition on the sensor hub's page (R36). -/
theorem rangeEnded_sns (s : State) : s.rangeEnded.sns = { s.sns with RANGE_OUT := false, outRounds := 0 } := by
  simp [State.rangeEnded]

/-- What the end of the core-range condition may touch. -/
theorem rangeEnded_frame (s : State) :
    s.rangeEnded =
      { s with seq := s.rangeEnded.seq, fcs := s.rangeEnded.fcs, sns := s.rangeEnded.sns, mbs := s.rangeEnded.mbs,
               mbn := s.rangeEnded.mbn, rck := s.rangeEnded.rck, evt := s.rangeEnded.evt, hdr := s.rangeEnded.hdr } := by
  simp [State.eq_of_pages, State.rangeEnded]

/-- The ladder leaves BELOW_LOST as it is (R289). -/
theorem ladder_belowLost (s : State) (sweep : Bool) : (s.ladder sweep).thm.STATE_BELOW_LOST = s.thm.STATE_BELOW_LOST := by
  refine foldl_proj (fun u : State => u.thm.STATE_BELOW_LOST) _ (fun u c => ?_) _ s
  unfold State.ladderDom
  dsimp only
  (repeat' split) <;> simp

/-- The state after a die below is lost (R289). -/
def State.belowGone (s : State) : State :=
  ((s.onThm fun t => { t with STATE_BELOW_LOST := true }).fault pgThm 17 0x0716 [s.cmn.straps.below.toNat]).ladder false

/-- BELOW_LOST on a stacked die with no value for three rounds (R289). -/
theorem exec_belowLost_due (s : State) (hd : stacked s = true) (hs : s.rst.started = true)
    (hl : s.thm.STATE_BELOW_LOST = false) (hn : 3 ≤ s.thm.belowN) : exec .belowLost s = .next s.belowGone := by
  show execBelowLost s = _
  simp [execBelowLost, hd, hs, hl, hn, State.belowGone]

/-- BELOW_LOST on a die that has none below it changes nothing (R289, R290). -/
theorem exec_belowLost_notStacked (s : State) (hd : stacked s = false) : exec .belowLost s = .next s := by
  show execBelowLost s = _
  simp [execBelowLost, hd]

/-! ### The rings -/

/-- A sensor that is marked failed shows it (R284). -/
theorem sensorFail_failed (s : State) (i reason : Nat) (hi : i < 30) : (vAt (s.sensorFail i reason).sns.ts i {}).TS_FAILED = true := by
  unfold State.sensorFail
  split
  · assumption
  · simp [State.tsCount, vAt_vMod_same, hi]

/-- A spare that serves leaves every sensor's failure mark as it is (R284). -/
theorem sensorSubst_failed (s : State) (g j : Nat) :
    (vAt (s.sensorSubst g).sns.ts j {}).TS_FAILED = (vAt s.sns.ts j {}).TS_FAILED := by
  have hmod : ∀ p, (vAt (vMod s.sns.ts (24 + g) fun e => { e with TS_SERVES := p }) j {}).TS_FAILED = (vAt s.sns.ts j {}).TS_FAILED :=
    fun p => vAt_vMod_proj SnsTs.TS_FAILED _ _ _ _ _ fun _ => rfl
  unfold State.sensorSubst
  dsimp only
  (repeat' split) <;> simp [State.tsCount, hmod]

/-- A thermal sensor that neither end of its ring reaches has failed (R86, R284). -/
theorem macroFail_sensor (s : State) (pos : Nat) (hp : pos < 30) : (vAt (s.macroFail 1 pos).sns.ts pos {}).TS_FAILED = true := by
  show (vAt ((s.sensorFail pos 2).sensorSubst _).sns.ts pos {}).TS_FAILED = true
  rw [sensorSubst_failed]
  exact sensorFail_failed s pos 2 hp

/-- An ageing monitor that neither end of its ring reaches has failed (R86, R495). -/
theorem macroFail_wear (s : State) (pos : Nat) (hp : pos < 16) : (vAt (s.macroFail 2 pos).rel.wear pos {}).WEAR_FAILED = true := by
  unfold State.macroFail
  simp only [OfNat.ofNat_ne_zero, OfNat.ofNat_ne_one, if_false]
  split
  · assumption
  · simp [vAt_vMod_same, hp]

/-- LINK_RESPONSE_TIMEOUT at a place that the a end still serves: from there on the ring is addressed from the b end (R86). -/
theorem ringBreak_moves (s : State) (i : Fin 3) (pos : Nat) (hp : pos < ringLen i.val) (hb : pos < s.sns.ring[i].RING_B_FROM) :
    s.ringBreak i.val pos =
      ({ s with sns.ring := s.sns.ring.set i { s.sns.ring[i] with RING_BREAK := pos, RING_B_FROM := pos } } : State).fault pgSns 18 0x0813
        [i.val, pos] := by
  simp only [State.ringBreak, if_neg (Nat.not_le.mpr hp), vAt_page, if_pos hb, vMod_fin]

/-- LINK_RESPONSE_TIMEOUT at a place that the b end serves already: its device has failed (R86). -/
theorem ringBreak_fails (s : State) (i : Fin 3) (pos : Nat) (hp : pos < ringLen i.val) (hb : s.sns.ring[i].RING_B_FROM ≤ pos) :
    s.ringBreak i.val pos = s.macroFail i.val pos := by
  simp only [State.ringBreak, if_neg (Nat.not_le.mpr hp), vAt_page, if_neg (Nat.not_lt.mpr hb)]

/-- LINK_RESPONSE_TIMEOUT while the block runs (R86). -/
theorem exec_linkResponseTimeout_started (s : State) (i : Fin 3) (pos : BitVec 8) (hs : s.rst.started = true) :
    exec (.linkResponseTimeout i pos) s = .next (s.ringBreak i.val pos.toNat) := by
  show execLinkResponseTimeout i pos s = _
  rw [execLinkResponseTimeout, if_pos hs]

end Sys2Proof.Machine
end

section
namespace Sys2Proof.Proofs

open Sys2Proof Sys2Proof.Machine

/-- A slot of the housekeeping round that is due: its channel keeps the value read, or after two failed reads in a row is failed; slots
0 and 1 feed the core range (R36, R287, R288). -/
theorem housekeepingSlot_runs (s : State) (rd : HkRead) (k : Nat) (hs : s.rst.started = true)
    (hr : s.sns.slotRead ≠ some (slotNow s)) (hk : k = slotNow s % 160) (ho : slotOpen s k = true) :
    ∃ t, exec (.housekeepingSlot rd) s = .next t ∧ t.sns.slotRead = some (slotNow s) ∧
      (∀ v, rd = .value v → vAt t.sns.hk k {} = { val := v, valid := true, age := 0, failed := false, fails := 0 }) ∧
      (rd = .failed → vAt t.sns.hk k {} = (vAt s.sns.hk k {}).readFailed ∧
        (1 ≤ (vAt s.sns.hk k {}).fails → (vAt s.sns.hk k {}).failed = false → t.hasErr pgSns 19)) ∧
      (∀ j, j ≠ k → vAt t.sns.hk j {} = vAt s.sns.hk j {}) ∧
      (∀ v, rd = .value v → k = 0 → t.sns.CORE_V_AON = sat 16 v.toNat ∧ (v < 7100 ∨ 7900 < v → t.sns.RANGE_OUT = true)) ∧
      (∀ v, rd = .value v → k = 1 → t.sns.CORE_T_CORE = max (-32768) (min 32767 v) ∧ (v < -640 ∨ 7360 < v → t.sns.RANGE_OUT = true)) ∧
      t = { s with seq := t.seq, beam := t.beam, ctl := t.ctl, fcs := t.fcs, sns := t.sns, vrg := t.vrg, mbs := t.mbs, mbn := t.mbn,
                   rck := t.rck, rel := t.rel, evt := t.evt, hdr := t.hdr } := by
  have hk160 : k < 160 := by omega
  have hbegin := slotBegin_sns s k
  obtain ⟨hother, hread⟩ := slotTake_channels (s.slotBegin k) rd k
  refine ⟨_, exec_housekeepingSlot_due s rd k hs hr hk ho, ?_, ?_, ?_, ?_, ?_, ?_, slot_frame s rd k _ rfl⟩ <;> rw [slotEnd_sns]
  · rw [hread, hbegin]
  · rintro v rfl
    exact slotTake_value _ v k hk160
  · rintro rfl
    obtain ⟨hhk, -⟩ := slotFailed_channels (s.slotBegin k) k
    refine ⟨?_, fun hf hn => hasErr_of_hdr (slotFailed_hasErr (s.slotBegin k) k (by rwa [hbegin]) (by rwa [hbegin])) (slotEnd_hdr _ k)⟩
    show vAt ((s.slotBegin k).slotFailed k).sns.hk k {} = _
    rw [hhk, vAt_vMod_same _ _ _ _ hk160, hbegin]
  · intro j hj
    rw [hother j hj, hbegin]
  · rintro v rfl rfl
    exact slotValue_vAon _ v
  · rintro v rfl rfl
    exact slotValue_tCore _ v

/-- The end of a round counts it and ages every channel and what the die below published (R36, R287, R289). -/
theorem housekeepingRoundEnd_runs (s : State) (hs : s.rst.started = true) (hd : s.sns.roundDone < s.now / 4000) :
    ∃ t, exec .housekeepingRoundEnd s = .next t ∧ t.sns.roundDone = s.now / 4000 ∧ t.sns.HK_ROUNDS = satAdd 16 s.sns.HK_ROUNDS 1 ∧
      (∀ k : Fin 160, t.sns.hk[k] = { s.sns.hk[k] with age := min 255 (s.sns.hk[k].age + 1) }) ∧
      t.sns.RANGE_IN_ROUNDS =
        (if s.sns.roundBad || s.sns.hk[0].failed || s.sns.hk[1].failed then 0 else satAdd 8 s.sns.RANGE_IN_ROUNDS 1) ∧
      t.thm = { s.thm with BELOW_AGE := min 15 (s.thm.BELOW_AGE + 1), belowN := s.thm.belowN + 1 } ∧
      t = { s with thm := t.thm, sns := t.sns, vrg := t.vrg, frm := t.frm, rel := t.rel, evt := t.evt, hdr := t.hdr, free := t.free } := by
  obtain ⟨hhk, -, -, hdone, hrounds, hin⟩ := Sns.hub_fields (roundEnded_hub s)
  refine ⟨_, exec_housekeepingRoundEnd_due s hs hd, hdone, hrounds, fun k => ?_, hin, roundEnded_thm s, roundEnded_frame s⟩
  rw [hhk]
  simp [Sns.roundEnded]

/-- The core-range condition ends after 100 rounds inside the range (R36). -/
theorem coreRangeEnd_runs (s : State) (ho : s.sns.RANGE_OUT = true) (hr : 100 ≤ s.sns.RANGE_IN_ROUNDS) :
    ∃ t, exec .coreRangeEnd s = .next t ∧ t.sns = { s.sns with RANGE_OUT := false, outRounds := 0 } ∧
      t = { s with seq := t.seq, fcs := t.fcs, sns := t.sns, mbs := t.mbs, mbn := t.mbn, rck := t.rck, evt := t.evt, hdr := t.hdr } :=
  ⟨_, exec_coreRangeEnd_due s ho hr, rangeEnded_sns s, rangeEnded_frame s⟩

/-- A stacked die with no value for three rounds is BELOW_LOST (R289). -/
theorem belowLost_runs (s : State) (hd : stacked s = true) (hs : s.rst.started = true) (hl : s.thm.STATE_BELOW_LOST = false)
    (hn : 3 ≤ s.thm.belowN) :
    ∃ t, exec .belowLost s = .next t ∧ t.thm.STATE_BELOW_LOST = true ∧ t.hasErr pgThm 17 ∧
      t = { s with thm := t.thm, evt := t.evt, hdr := t.hdr } := by
  refine ⟨_, exec_belowLost_due s hd hs hl hn, ?_, hasErr_ladder false (hasErr_fault ..), ?_⟩
  · simp [State.belowGone, ladder_belowLost]
  · simp [State.eq_of_pages, State.belowGone]

/-- A response that does not return moves the ring's break, or where the b end serves the place already fails its device (R86). -/
theorem linkResponseTimeout_runs (s : State) (i : Fin 3) (pos : BitVec 8) (hs : s.rst.started = true) (hp : pos.toNat < ringLen i.val) :
    (pos.toNat < s.sns.ring[i].RING_B_FROM →
      ∃ t, exec (.linkResponseTimeout i pos) s = .next t ∧
        t.sns = { s.sns with ring := s.sns.ring.set i { s.sns.ring[i] with RING_BREAK := pos.toNat, RING_B_FROM := pos.toNat } } ∧
        t.hasErr pgSns 18 ∧ t = { s with sns := t.sns, evt := t.evt, hdr := t.hdr }) ∧
    (s.sns.ring[i].RING_B_FROM ≤ pos.toNat →
      ∃ t, exec (.linkResponseTimeout i pos) s = .next t ∧ t.sns.ring = s.sns.ring ∧
        (i.val = 1 → (vAt t.sns.ts pos.toNat {}).TS_FAILED = true) ∧ (i.val = 2 → (vAt t.rel.wear pos.toNat {}).WEAR_FAILED = true)) := by
  have run := exec_linkResponseTimeout_started s i pos hs
  refine ⟨fun hb => ?_, fun hb => ?_⟩
  · refine ⟨_, run.trans (congrArg _ (ringBreak_moves s i _ hp hb)), by simp, hasErr_fault .., ?_⟩
    conv_lhs => rw [fault_frame]
    simp
  · obtain ⟨-, -, hring, -⟩ := Sns.hub_fields (macroFail_hub s i.val pos.toNat)
    refine ⟨_, run.trans (congrArg _ (ringBreak_fails s i _ hp hb)), hring, fun hi => ?_, fun hi => ?_⟩ <;> rw [hi] at hp ⊢
    · exact macroFail_sensor s _ hp
    · exact macroFail_wear s _ hp

/-- A running compute die that has no die below it (STRAP_BELOW at 31, R290), three rounds after its reset. -/
def unstackedDie : State :=
  { State.reset with cmn.straps.below := 31, rst.started := true, thm.belowN := 3 }

/-- Refutes O48: its premise for BELOW_LOST is that the die is no base die, where R289 asks for a stacked one, whose STRAP_BELOW is not 31
(R290). A compute die with STRAP_BELOW at 31, started, with no value for three rounds, meets the premise, and BELOW_LOST leaves it as
it is: STATE.BELOW_LOST stays 0. With `stacked` as the premise the clause is `belowLost_runs`; the other four clauses are the
theorems above. -/
theorem not_housekeepingRuns : ¬ Obligations.HousekeepingRuns := by
  unfold Obligations.HousekeepingRuns
  intro h
  obtain ⟨-, -, -, below, -⟩ := h unstackedDie
  obtain ⟨t, ht, hlost, -⟩ := below rfl rfl rfl (Nat.le_refl 3)
  have hsame : exec .belowLost unstackedDie = .next unstackedDie := exec_belowLost_notStacked _ rfl
  rw [hsame] at ht
  obtain rfl : unstackedDie = t := Host.Outcome.next.inj ht
  exact absurd hlost (by decide)

end Sys2Proof.Proofs
end

section
/-! PROOFS. Secure pages (R62, R94, R97): what a refused access of the non-secure world leaves. -/

namespace Sys2Proof.Machine

open Sys2Proof

/-- What a refused access to a secure page leaves: the answer 2, SEC_REF on that page, every other header but the recorder's as it
was, and nothing touched beside the recorder, the headers and the response (R97, R109). -/
def State.SecRefusal (s t : State) (p : Fin 23) : Prop :=
  t.hst = answer 2 ∧ t.hdr[p].err.testBit 6 = true ∧ (∀ q : Fin 23, q ≠ p → q ≠ pgEvt → t.hdr[q] = s.hdr[q]) ∧
    t = { s with evt := t.evt, hdr := t.hdr, hst := t.hst }

/-- A refusal is the page's error SEC_REF with its event, and the answer 2. -/
theorem secRefused_secRefusal (s : State) (p : Fin 23) (addr : Nat) (we : Bool) : s.SecRefusal (s.secRefused p addr we) p := by
  rw [State.secRefused, respond_eq]
  refine ⟨rfl, fault_bit .., fun q hq he => fault_hdr_other _ _ _ _ _ q hq he, ?_⟩
  rw [fault_frame]

section
variable {s : State} {addr data : Nat} {acc : HostAcc} (p : Fin 23) (hn : netUp s = true) (hp : addr / 1024 = p.val)
  (hs : acc.sec = false)
include hn hp hs

/-- A write of good parity from the non-secure world to a page whose writes are secure is refused, before the port looks at a
block-local reset, a dead word or the register (R62, R94). -/
theorem hostWrite_nonSecure (hw : secWrites p.val = true) (ha : acc.apar = addrPar addr true false)
    (hd : acc.wpar = evenPar 32 data) : hostWrite s addr data acc = s.secRefused p addr true := by
  have hlt : addr / 1024 < 23 := hp ▸ p.isLt
  obtain rfl : p = ⟨addr / 1024, hlt⟩ := Fin.ext hp.symm
  simp [hostWrite, hn, hs, ha, hd, hlt, hw]

/-- A read of good parity from the non-secure world of a page whose reads are secure is refused (R62, R94). -/
theorem hostRead_nonSecure (hr : secReads p.val = true) (ha : acc.apar = addrPar addr false false) :
    hostRead s addr acc = s.secRefused p addr false := by
  have hlt : addr / 1024 < 23 := hp ▸ p.isLt
  obtain rfl : p = ⟨addr / 1024, hlt⟩ := Fin.ext hp.symm
  simp [hostRead, hn, hs, ha, hlt, hr]

end

end Sys2Proof.Machine

namespace Sys2Proof.Proofs

open Sys2Proof Sys2Proof.Machine

/-- Settles O3: the write and the read both end in the one refusal, and `secRefused_secRefusal` says what that leaves. -/
theorem securePagesRefuse : Obligations.SecurePagesRefuse := by
  unfold Obligations.SecurePagesRefuse
  intro s addr data acc p hn hp hs
  refine ⟨fun hw ha hd => ⟨_, ?write, secRefused_secRefusal s p addr.toNat true⟩,
    fun hr ha => ⟨_, ?read, secRefused_secRefusal s p addr.toNat false⟩⟩
  case write => exact congrArg _ (hostWrite_nonSecure p hn hp hs hw ha hd)
  case read => exact congrArg _ (hostRead_nonSecure p hn hp hs hr ha)

/-- An access of the non-secure world that reads the first register of the AUT page, its parity bit right (R98). -/
def nonSecureRead : HostAcc := { sec := false, apar := addrPar (regAddr 18 0x40) false false, wpar := false }

/-- `securePagesRefuse` applies: a live host port refuses a non-secure read of the AUT page. -/
theorem autRead_nonSecure_refused :
    ∃ t, exec (.registerRead (BitVec.ofNat 15 (regAddr 18 0x40)) nonSecureRead) liveReset = .next t ∧ t.hst = answer 2 := by
  obtain ⟨-, read⟩ := securePagesRefuse liveReset (BitVec.ofNat 15 (regAddr 18 0x40)) 0 nonSecureRead pgAut (by decide) (by decide) rfl
  obtain ⟨t, run, status, -⟩ := read (by decide) (by decide)
  exact ⟨t, run, status⟩

end Sys2Proof.Proofs
end

section
/-! PROOFS. Straps and fuses (R81, R91, R453, R457): what was read on a cold exit stands through every command but POR_ASSERT. -/

namespace Sys2Proof.Machine

open Sys2Proof

/-- What a cold exit has read: the strap inputs and the fuses (R81, R91). -/
def State.readings (s : State) : Straps × Fuses := (s.cmn.straps, s.cmn.fuses)

/-- The readings stand on the CMN page. -/
theorem readings_of_cmn {s t : State} (h : t.cmn = s.cmn) : t.readings = s.readings := by
  rw [State.readings, h, State.readings]

/-! ### Accesses of the host: the CMN page's parity counters alone may change -/

/-- An address parity fault is counted on the CMN page, beside the readings (R99). -/
theorem addrFault_readings (s : State) (addr : Nat) (we sec : Bool) : (s.addrFault addr we sec).readings = s.readings := by
  simp [State.addrFault, State.readings]

/-- A data parity fault is counted on the CMN page, beside the readings (R99). -/
theorem dataFault_readings (s : State) (addr : Nat) : (s.dataFault addr).readings = s.readings := by
  unfold State.dataFault
  dsimp only
  split <;> simp [State.readings]

/-- No write on the host port changes the readings: but for a parity fault it leaves the CMN page as it is. -/
theorem hostWrite_readings (s : State) (addr data : Nat) (acc : HostAcc) : (hostWrite s addr data acc).readings = s.readings := by
  unfold hostWrite
  split
  · rfl
  split
  · exact addrFault_readings ..
  split
  · exact dataFault_readings ..
  apply readings_of_cmn
  dsimp only
  (repeat' split) <;> simp

/-- No read on the host port changes the readings: but for a parity fault it leaves the CMN page as it is. -/
theorem hostRead_readings (s : State) (addr : Nat) (acc : HostAcc) : (hostRead s addr acc).readings = s.readings := by
  unfold hostRead
  split
  · rfl
  split
  · exact addrFault_readings ..
  apply readings_of_cmn
  dsimp only
  (repeat' split) <;> simp

/-! ### The reset pins -/

/-- The Warm column of the CMN page clears its parity counters and holds the readings (R24, R453). -/
theorem warmPages_readings (s : State) : s.warmPages.readings = s.readings := rfl

/-- A warm reset holds the readings (R453). -/
theorem warmReset_readings (s : State) : s.warmReset.readings = s.readings := by
  calc s.warmReset.readings = s.warmPages.readings := readings_of_cmn (by simp [State.warmReset])
    _ = s.readings := warmPages_readings s

/-- RST_N_ASSERT with por_n high holds the readings: where it joins a cold episode everything else goes cold (R453, R455), and where it
opens a warm one the CMN page takes its Warm column. -/
theorem rstNAssert_readings {s t : State} (hp : s.rst.por = false) (h : exec .rstNAssert s = .next t) : t.readings = s.readings := by
  cases h
  dsimp only
  split
  · rfl
  split
  · split
    · simp [hp, State.readings]
    · rfl
  · calc _ = s.warmLoad.warmReset.readings := readings_of_cmn (by simp)
      _ = s.warmLoad.readings := warmReset_readings _
      _ = s.readings := readings_of_cmn (by simp)

/-- POR_RELEASE with por_n high is no edge, and reads nothing (R451, R457). -/
theorem exec_porRelease_high {s : State} (x : Straps) (f : Fuses) (hp : s.rst.por = false) : exec (.porRelease x f) s = .next s := by
  show Host.Outcome.next _ = _
  rw [hp]
  rfl

/-! ### Every command -/

/-- While por_n is high no command but POR_ASSERT changes the readings: a host access changes the CMN page in its parity counters
alone, the reset pins hold the readings, and every other command leaves the CMN page as it is. -/
theorem exec_readings {c : Instr} {s t : State} (hp : s.rst.por = false) (hc : c ≠ .porAssert) (h : exec c s = .next t) :
    t.readings = s.readings := by
  cases c
  case porAssert => exact absurd rfl hc
  case porRelease x f =>
    rw [exec_porRelease_high x f hp] at h
    cases h
    rfl
  case rstNAssert => exact rstNAssert_readings hp h
  case registerRead =>
    cases h
    exact hostRead_readings ..
  case registerWrite | pageLockWrite | tlyRowSelWrite | fcsWaddrWrite | fcsWdataWrite | autWchkMac3Write | seqHostCapWrite |
      beamHlimWrite | beamTestDetector | beamTestCurrent | beamTestVoltage | beamTestDiePower | beamTestTemperature |
      beamTestBrownOut | beamTestAll | domForceOn | domForceOff | clkForceSrcWrite | spareSubstDetector | spareRestoreDetector |
      spareSubstSensor | spareRestoreSensor | spareSubstLane | spareRestoreLane | spareSubstPhase | spareRestorePhase |
      spareRestoreAgeing | evtErase | pmbHostSendByte | pmbHostWriteByte | pmbHostWriteWord | pmbHostReadWord | lrstReq |
      seqLoad | seqCommit | seqActivate | seqAbort | mailboxInWrite | outPop | blockWrite | blockRead | blkAddrWrite | heartbeat
      | evtRdSelWrite | evtFreeze | evtUnfreeze | trcPop =>
    cases h
    exact hostWrite_readings ..
  -- these name an intermediate state before they branch
  case commitEnd | admOutTransfer | droopDetect | droopRelease | housekeepingSlot | domPgChange | sleepSwitchOff =>
    cases h
    apply readings_of_cmn
    dsimp only
    (repeat' split) <;> simp
  all_goals
    cases h
    apply readings_of_cmn
    (repeat' split) <;> simp

end Sys2Proof.Machine

namespace Sys2Proof.Proofs

open Sys2Proof Sys2Proof.Machine

/-- Settles O24: the two halves of `exec_readings`. -/
theorem strapsAndFusesStand : Obligations.StrapsAndFusesStand := by
  unfold Obligations.StrapsAndFusesStand
  intro c s t hp hc h
  exact Prod.mk.inj (exec_readings hp hc h)

/-- A block out of its power-on reset that read 7 from STRAP_FBOOT. -/
def bootedAt7 : State := { State.reset with cmn.straps.fboot := 7, rst.por := false }

/-- `strapsAndFusesStand` applies: STRAP_FBOOT stands when rst_n falls, and when por_n is released once more with another value. -/
theorem bootedAt7_keeps_fboot (c : Instr) (hc : c = .rstNAssert ∨ c = .porRelease Straps.none Fuses.blank) :
    ∃ t, exec c bootedAt7 = .next t ∧ t.cmn.straps.fboot = 7 := by
  obtain ⟨t, run, -⟩ := everyCommandCompletes c bootedAt7
  obtain ⟨straps, -⟩ := strapsAndFusesStand c bootedAt7 t rfl (by rcases hc with rfl | rfl <;> simp) run
  exact ⟨t, run, by rw [straps]; rfl⟩

/-- The exception is needed: POR_ASSERT forgets what was read (R453). -/
theorem bootedAt7_porAssert_forgets_fboot : ∃ t, exec .porAssert bootedAt7 = .next t ∧ t.cmn.straps.fboot = 0 :=
  ⟨_, rfl, rfl⟩

end Sys2Proof.Proofs
end

section
/-! PROOFS. Parity faults on the host port, and reads (R97 to R99, R102). -/

namespace Sys2Proof.Machine

open Sys2Proof

/-- What a parity fault on the host port leaves: the answer 1, the CMN page with the fault counted, the fault's bit on the page that it
is flagged on, every other header but the recorder's as it was, and nothing touched beside these (R97, R99, R109). -/
def State.PortFault (s t : State) (counted : Cmn) (p : Fin 23) (b : Nat) : Prop :=
  t.hst = answer 1 ∧ t.cmn = counted ∧ t.hdr[p].err.testBit b = true ∧ (∀ q : Fin 23, q ≠ p → q ≠ pgEvt → t.hdr[q] = s.hdr[q]) ∧
    t = { s with cmn := t.cmn, evt := t.evt, hdr := t.hdr, hst := t.hst }

/-- A fault counted on the CMN page, flagged with its event and answered with 1 leaves just that. -/
theorem fault_portFault (s : State) (counted : Cmn) (p : Fin 23) (b code : Nat) (d : List Nat) :
    s.PortFault ((({ s with cmn := counted } : State).fault p b code d).respond 1 0) counted p b := by
  rw [respond_eq]
  refine ⟨rfl, by simp, fault_bit .., fun q hq he => fault_hdr_other _ _ _ _ _ q hq he, ?_⟩
  rw [fault_frame]

/-- An address parity fault is flagged on the CMN page, with APAR_CNT counted (R99). -/
theorem addrFault_portFault (s : State) (addr : Nat) (we sec : Bool) :
    s.PortFault (s.addrFault addr we sec) { s.cmn with PORT_ERR_CNT_APAR_CNT := satAdd 16 s.cmn.PORT_ERR_CNT_APAR_CNT 1 } pgCmn 1 :=
  fault_portFault ..

/-- A data parity fault is flagged on the addressed page, with WPAR_CNT counted (R99). -/
theorem dataFault_portFault (s : State) (addr : Nat) (p : Fin 23) (hp : addr / 1024 = p.val) :
    s.PortFault (s.dataFault addr) { s.cmn with PORT_ERR_CNT_WPAR_CNT := satAdd 16 s.cmn.PORT_ERR_CNT_WPAR_CNT 1 } p 2 := by
  have hlt : addr / 1024 < 23 := hp ▸ p.isLt
  obtain rfl : p = ⟨addr / 1024, hlt⟩ := Fin.ext hp.symm
  rw [State.dataFault, dif_pos hlt]
  exact fault_portFault ..

/-- REGISTER_READ is a read on the host port (R97, R102). -/
theorem exec_registerRead (s : State) (addr : BitVec 15) (acc : HostAcc) :
    exec (.registerRead addr acc) s = .next (hostRead s addr.toNat acc) := rfl

section
variable {s : State} {addr data : Nat} {acc : HostAcc} (hn : netUp s = true)
include hn

/-- A write of wrong address parity goes no further than that fault (R99). -/
theorem hostWrite_addrFault (ha : acc.apar ≠ addrPar addr true acc.sec) :
    hostWrite s addr data acc = s.addrFault addr true acc.sec := by
  simp [hostWrite, hn, ha]

/-- A write of right address parity and wrong data parity goes no further than that fault (R99). -/
theorem hostWrite_dataFault (ha : acc.apar = addrPar addr true acc.sec) (hd : acc.wpar ≠ evenPar 32 data) :
    hostWrite s addr data acc = s.dataFault addr := by
  simp [hostWrite, hn, ha, hd]

/-- A read of wrong address parity goes no further than that fault (R99). -/
theorem hostRead_addrFault (ha : acc.apar ≠ addrPar addr false acc.sec) :
    hostRead s addr acc = s.addrFault addr false acc.sec := by
  simp [hostRead, hn, ha]

/-- A read of right parity, secure where its page asks for it, answers with the register, and beyond the pages with 0
(R95, R98, R102). -/
theorem hostRead_accepted (ha : acc.apar = addrPar addr false acc.sec) (hs : secReads (addr / 1024) = true → acc.sec = true) :
    hostRead s addr acc = s.respond 0 (if addr / 1024 < 23 then readReg s addr else 0) := by
  have hOpen : (secReads (addr / 1024) && !acc.sec) = false := by
    cases hr : secReads (addr / 1024) with
    | false => rfl
    | true => simp [hs hr]
  by_cases hp : addr / 1024 < 23 <;> simp [hostRead, hn, ha, hp, hOpen]

end

end Sys2Proof.Machine

namespace Sys2Proof.Proofs

open Sys2Proof Sys2Proof.Machine

/-- Settles O2: an access of wrong parity ends in its fault, and `addrFault_portFault` and `dataFault_portFault` say what that leaves. -/
theorem hostParityFaults : Obligations.HostParityFaults := by
  unfold Obligations.HostParityFaults
  intro s addr data acc hn
  refine ⟨fun ha => ⟨_, ?writeAddr, addrFault_portFault s addr.toNat true acc.sec⟩,
    fun ha => ⟨_, ?readAddr, addrFault_portFault s addr.toNat false acc.sec⟩,
    fun p hp ha hd => ⟨_, ?writeData, dataFault_portFault s addr.toNat p hp⟩⟩
  case writeAddr => rw [exec_registerWrite, hostWrite_addrFault hn ha]
  case readAddr => rw [exec_registerRead, hostRead_addrFault hn ha]
  case writeData => rw [exec_registerWrite, hostWrite_dataFault hn ha hd]

/-- `hostParityFaults` applies: a live host port flags a write to the TLY page whose data parity is wrong, and keeps the register. -/
theorem epochLen_wrongDataParity_flagged :
    ∃ t, exec (.registerWrite (BitVec.ofNat 15 (regAddr 2 0x40)) 8192#32 { epochLenAcc with wpar := false }) liveReset = .next t ∧
      t.hdr[pgTly].err.testBit 2 = true ∧ t.tly = liveReset.tly := by
  obtain ⟨-, -, dataFault⟩ := hostParityFaults liveReset (BitVec.ofNat 15 (regAddr 2 0x40)) 8192#32 { epochLenAcc with wpar := false }
    (by decide)
  obtain ⟨t, run, -, -, flagged, -, frame⟩ := dataFault pgTly (by decide) (by decide) (by decide)
  exact ⟨t, run, flagged, by rw [frame]⟩

/-- Settles O4: an accepted read is its response, whose word `hostRead_accepted` gives on the pages and beyond them. -/
theorem readChangesNothing : Obligations.ReadChangesNothing := by
  unfold Obligations.ReadChangesNothing
  intro s addr acc hn ha hs
  refine ⟨if addr.toNat / 1024 < 23 then readReg s addr.toNat else 0, ?_, fun hp => if_pos hp, fun hp => if_neg (by omega)⟩
  rw [exec_registerRead, hostRead_accepted hn ha hs]
  rfl

/-- An access that reads TLY_EPOCH_LEN, its parity bit right (R98). -/
def epochLenReadAcc : HostAcc := { sec := true, apar := addrPar (regAddr 2 0x40) false true, wpar := false }

/-- `readChangesNothing` applies: a live host port answers a read of TLY_EPOCH_LEN with the register. -/
theorem epochLen_read :
    ∃ v, exec (.registerRead (BitVec.ofNat 15 (regAddr 2 0x40)) epochLenReadAcc) liveReset =
      .next { liveReset with hst := { st := 0, data := v, par := evenPar 32 v } } ∧ v = readReg liveReset (regAddr 2 0x40) := by
  obtain ⟨v, run, word, -⟩ := readChangesNothing liveReset (BitVec.ofNat 15 (regAddr 2 0x40)) epochLenReadAcc (by decide) (by decide)
    (fun _ => rfl)
  exact ⟨v, run, word (by decide)⟩

end Sys2Proof.Proofs
end

section
/-! PROOFS. Writes of one register: the page lock (R107, R116), the pending check (R119), and the commands named after a register
(R97, R103). -/

namespace Sys2Proof.Machine

open Sys2Proof

/-! ### The page lock -/

/-- PAGE_LOCK sets LOCK where bit 0 of the word is 1, and clears nothing (R107, R116). -/
theorem writeReg_pageLock (s : State) (p : Fin 23) (data : Nat) :
    writeReg s p 0x20 data =
      ({ s with hdr := s.hdr.set p { s.hdr[p] with lock := s.hdr[p].lock || bitAt data 0 } }, 0) := by
  show (if bitAt data 0 then s.hdrMod p fun h => { h with lock := true } else s, 0) = _
  cases bitAt data 0 with
  | true => simp [State.hdrMod]
  | false =>
    have hsame : s.hdr.set p { s.hdr[p] with lock := s.hdr[p].lock || false } = s.hdr := by
      rw [Bool.or_false]
      exact Vector.set_getElem_self p.isLt
    rw [hsame]
    rfl

/-! ### The pending check -/

/-- The number of a run of bytes and of what follows it. -/
theorem ofBytesLE_bytesLE_append (n v : Nat) (bs : List Nat) :
    ofBytesLE (bytesLE n v ++ bs) = v % 256 ^ n + 256 ^ n * ofBytesLE bs := by
  induction n generalizing v with
  | zero => simp [bytesLE, Nat.mod_one]
  | succ n ih =>
    have hpow : 256 ^ (n + 1) = 256 * 256 ^ n := Nat.pow_succ'
    rw [bytesLE, List.cons_append, ofBytesLE, ih, hpow, Nat.mod_mul, Nat.mod_mod, Nat.mul_add, Nat.mul_assoc, Nat.add_assoc]

/-- The number that four words make, the first one lowest. -/
theorem ofBytesLE_four_words {a b c d : Nat} (ha : a < 2 ^ 32) (hb : b < 2 ^ 32) (hc : c < 2 ^ 32) (hd : d < 2 ^ 32) :
    ofBytesLE (bytesLE 4 a ++ (bytesLE 4 b ++ (bytesLE 4 c ++ (bytesLE 4 d ++ [])))) =
      a + b * 2 ^ 32 + c * 2 ^ 64 + d * 2 ^ 96 := by
  simp only [ofBytesLE_bytesLE_append, ofBytesLE]
  omega

/-- The write of AUT_WCHK_MAC3 stores its word, and the check that it arms is made of the counter's two words and the code's four
(R119). -/
theorem armCheck_eq (s : State) {data : Nat} (hdata : data < 2 ^ 32) (hmac : ∀ i < 3, (vAt s.aut.mac i {}).WCHK_MAC < 2 ^ 32) :
    s.armCheck data =
      { s with
        aut := { s.aut with
          mac := s.aut.mac.set 3 { WCHK_MAC := data },
          pend := some { ctr := s.aut.WCHK_CTR_LO + s.aut.WCHK_CTR_HI * 2 ^ 32, at_ := s.now,
                         mac := (vAt s.aut.mac 0 {}).WCHK_MAC + (vAt s.aut.mac 1 {}).WCHK_MAC * 2 ^ 32 +
                           (vAt s.aut.mac 2 {}).WCHK_MAC * 2 ^ 64 + data * 2 ^ 96 } } } := by
  have hcode : ofBytesLE ((List.range 4).flatMap fun i =>
      bytesLE 4 (vAt (vMod s.aut.mac 3 fun _ => { WCHK_MAC := data }) i {}).WCHK_MAC) =
        (vAt s.aut.mac 0 {}).WCHK_MAC + (vAt s.aut.mac 1 {}).WCHK_MAC * 2 ^ 32 + (vAt s.aut.mac 2 {}).WCHK_MAC * 2 ^ 64 +
          data * 2 ^ 96 := by
    simp only [show List.range 4 = [0, 1, 2, 3] from rfl, List.flatMap_cons, List.flatMap_nil, vAt_vMod_same _ 3 _ _ (by decide : 3 < 4),
      vAt_vMod_other _ 3 _ _ _ (by decide : 3 ≠ 0), vAt_vMod_other _ 3 _ _ _ (by decide : 3 ≠ 1),
      vAt_vMod_other _ 3 _ _ _ (by decide : 3 ≠ 2)]
    exact ofBytesLE_four_words (hmac 0 (by decide)) (hmac 1 (by decide)) (hmac 2 (by decide)) hdata
  simp only [State.armCheck, hcode]
  rfl

/-- AUT_WCHK_MAC3 arms the check (R119). -/
theorem writeReg_wchkMac3 (s : State) (data : Nat) : writeReg s pgAut 0x54 data = (s.armCheck data, 0) := rfl

/-! ### Commands named after a register -/

/-- A write on the host port at the register that an address names is REGISTER_WRITE of that address (R97, R103). -/
theorem hostWrite_eq_registerWrite (s : State) {addr : BitVec 15} {data : Word} (acc : HostAcc) {a w : Nat} (ha : addr.toNat = a)
    (hw : data.toNat = w) : .next (hostWrite s a w acc) = exec (.registerWrite addr data acc) s := by
  rw [exec_registerWrite, ha, hw]

/-- A word with FREEZE set is the word that EVT_FREEZE writes (R514). -/
theorem or_freeze_of_bitAt {w : Nat} (h : bitAt w 2 = true) : w ||| 4 = w := by
  apply Nat.eq_of_testBit_eq
  intro i
  rw [Nat.testBit_or, show (4 : Nat) = 2 ^ 2 from rfl, Nat.testBit_two_pow]
  by_cases hi : 2 = i
  · subst hi
    simpa [bitAt] using h
  · simp [hi]

/-- A word with MODE and FREEZE clear is the word that EVT_UNFREEZE writes (R514). -/
theorem and_unfreeze_of_bitAt {w : Nat} (hw : w < 2 ^ 32) (h2 : bitAt w 2 = false) (h0 : bitAt w 0 = false) :
    w &&& 0xFFFFFFFA = w := by
  have hmask : ∀ i < 32, i ≠ 0 → i ≠ 2 → Nat.testBit 0xFFFFFFFA i = true := by decide
  apply Nat.eq_of_testBit_eq
  intro i
  rw [Nat.testBit_and, Bool.and_eq_left_iff_imp]
  intro hi
  have hlt : i < 32 := by
    by_contra hge
    have hhigh : w < 2 ^ i := hw.trans_le (Nat.pow_le_pow_right (by decide) (by omega))
    rw [Nat.testBit_lt_two_pow hhigh] at hi
    contradiction
  refine hmask i hlt ?_ ?_
  · rintro rfl
    exact absurd hi (by simpa [bitAt] using h0)
  · rintro rfl
    exact absurd hi (by simpa [bitAt] using h2)

end Sys2Proof.Machine

namespace Sys2Proof.Proofs

open Sys2Proof Sys2Proof.Machine

/-- Settles O5: the accepted write (`hostWrite_at`) of `writeReg_pageLock`. -/
theorem pageLockWriteLocks : Obligations.PageLockWriteLocks := by
  unfold Obligations.PageLockWriteLocks
  intro s page data acc ha
  have run : exec (.pageLockWrite page data acc) s = .next (hostWrite s (regAddr page.val 0x20) data.toNat acc) := rfl
  rw [run, hostWrite_at s page 0x20 data.toNat acc (by decide) rfl ha, writeReg_pageLock, dropPair_eq]
  simp only [respond_eq]

/-- An access that writes 1 to PAGE_LOCK of the TLY page, both parity bits right (R98). -/
def tlyLockAcc : HostAcc := { sec := true, apar := addrPar (regAddr 2 0x20) true true, wpar := evenPar 32 1 }

/-- `pageLockWriteLocks` applies: a live host port locks the TLY page. -/
theorem tlyLock_locks : ∃ t, exec (.pageLockWrite pgTly 1#32 tlyLockAcc) liveReset = .next t ∧ t.hdr[pgTly].lock = true :=
  ⟨_, pageLockWriteLocks liveReset pgTly 1#32 tlyLockAcc (by decide), by simp [bitAt]⟩

/-- Settles O7: the accepted write (`hostWrite_at`) of AUT_WCHK_MAC3, whose check is `armCheck_eq`. -/
theorem checkArms : Obligations.CheckArms := by
  unfold Obligations.CheckArms
  intro s data acc ha hmac
  have run : exec (.autWchkMac3Write data acc) s = .next (hostWrite s (regAddr pgAut.val 0x54) data.toNat acc) := rfl
  have hmac' : ∀ i < 3, (vAt (s.dropPair (regAddr pgAut.val 0x54)).aut.mac i {}).WCHK_MAC < 2 ^ 32 := by
    rw [dropPair_eq]
    exact hmac
  rw [run, hostWrite_at s pgAut 0x54 data.toNat acc (by decide) rfl ha, writeReg_wchkMac3, armCheck_eq _ data.isLt hmac', dropPair_eq]
  simp only [respond_eq]
  rfl

/-- An access that writes 7 to AUT_WCHK_MAC3, both parity bits right (R98). -/
def wchkMac3Acc : HostAcc := { sec := true, apar := addrPar (regAddr 18 0x54) true true, wpar := evenPar 32 7 }

/-- `checkArms` applies: with the other five registers at 0, the check that pends is of counter 0 and code 7 · 2⁹⁶. -/
theorem wchkMac3_arms :
    ∃ t, exec (.autWchkMac3Write 7#32 wchkMac3Acc) liveReset = .next t ∧
      t.aut.pend = some { ctr := 0, at_ := liveReset.now, mac := 7 * 2 ^ 96 } :=
  ⟨_, checkArms liveReset 7#32 wchkMac3Acc (by decide) (by decide), rfl⟩

/-- Settles O12: each command is one write on the host port (`hostWrite_eq_registerWrite`); EVT_FREEZE and EVT_UNFREEZE write the
word itself where its MODE and FREEZE are already theirs. -/
theorem namedWritesAreRegisterWrites : Obligations.NamedWritesAreRegisterWrites := by
  unfold Obligations.NamedWritesAreRegisterWrites
  intro s addr data acc page rail c k
  have same {a w : Nat} (ha : addr.toNat = a) (hw : data.toNat = w) := hostWrite_eq_registerWrite s acc ha hw
  have named {a : Nat} (ha : addr.toNat = a) := same ha rfl
  refine ⟨fun e => named e, fun e => named e, fun e => named e, fun e => named e, fun e => named e, fun e => named e,
    fun e => named e, fun e => named e, fun e => named e, fun e => named e, fun e => named e, fun e => named e, fun e => named e,
    fun e => named e, fun e hd => same e (congrArg _ hd), fun e => ⟨?load, ?commit, ?activate, ?abort⟩, fun e => ⟨?freeze, ?unfreeze⟩⟩
  case load | commit | activate | abort => exact fun hd => same e (congrArg _ hd)
  case freeze => exact fun h2 => same e (or_freeze_of_bitAt h2).symm
  case unfreeze => exact fun h2 h0 => same e (and_unfreeze_of_bitAt data.isLt h2 h0).symm

end Sys2Proof.Proofs
end

section
/-! PROOFS. Keyed writes without a passing check (R118 to R120, R436). -/

namespace Sys2Proof.Machine

open Sys2Proof

/-- A keyed write whose check fails is refused before its chapter is asked (R119, R120). -/
theorem keyedWrite_unchecked {u : State} {p : Fin 23} {off w : Nat} (h : (u.keyedCheck p (4096 * p.val + off) w).1 = false)
    (refused : State → Bool) (act : State → State) :
    u.keyedWrite p off w refused act = ((u.keyedCheck p (4096 * p.val + off) w).2, 2) := by
  simp [State.keyedWrite, h]

/-- The register is a keyed one (R118): a write whose check fails takes no effect but the check's, and is refused with status 2. -/
def KeyedRegister (p : Fin 23) (off : Nat) : Prop :=
  off < 4096 ∧ off % 4 = 0 ∧ ∀ u w, (u.keyedCheck p (4096 * p.val + off) w).1 = false →
    writeReg u p off w = ((u.keyedCheck p (4096 * p.val + off) w).2, 2)

/-- SEQ_HOST_CAP is keyed (R118). -/
theorem keyedRegister_hostCap : KeyedRegister pgSeq 0x58 :=
  ⟨by decide, rfl, fun u w h => (writeReg_hostCap u w).trans (keyedWrite_unchecked h _ _)⟩

/-- BEAM_TEST_CTRL is keyed (R118). -/
theorem keyedRegister_testCtrl : KeyedRegister pgBeam 0x60 :=
  ⟨by decide, rfl, fun u w h => show writeBeam u 0x60 w = _ by simp only [writeBeam, if_true, keyedWrite_unchecked h]⟩

/-- DOM_FORCE is keyed (R118). -/
theorem keyedRegister_domForce : KeyedRegister pgDom 0x68 :=
  ⟨by decide, rfl, fun u w h => show writeDom u 0x68 w = _ by simp only [writeDom, keyedWrite_unchecked h]⟩

/-- CLK_FORCE_SRC is keyed (R118). -/
theorem keyedRegister_forceSrc : KeyedRegister pgClk 0x50 :=
  ⟨by decide, rfl, fun u w h => (writeReg_forceSrc u w).trans (keyedWrite_unchecked h _ _)⟩

/-- PMB_HOST_XACT is keyed (R118). -/
theorem keyedRegister_hostXact : KeyedRegister pgPmb 0x64 :=
  ⟨by decide, rfl, fun u w h => show writePmb u 0x64 w = _ by simp only [writePmb, if_true, keyedWrite_unchecked h]⟩

/-- REL_SPARE_CMD is keyed (R118). -/
theorem keyedRegister_spareCmd : KeyedRegister pgRel 0x60 :=
  ⟨by decide, rfl, fun u w h => show writeRel u 0x60 w = _ by simp only [writeRel, if_true, keyedWrite_unchecked h]⟩

/-- EVT_ERASE is keyed (R118). -/
theorem keyedRegister_evtErase : KeyedRegister pgEvt 0x5C :=
  ⟨by decide, rfl, fun u w h => show writeEvt u 0x5C w = _ by simp only [writeEvt, keyedWrite_unchecked h]⟩

/-- A keyed command writes a keyed register (R118). -/
theorem exec_keyedTarget {c : Instr} {p : Fin 23} {off w : Nat} {acc : HostAcc} (h : keyedTarget c = some (p, off, w, acc)) (s : State) :
    KeyedRegister p off ∧ exec c s = .next (hostWrite s (regAddr p.val off) w acc) := by
  cases c
  case seqHostCapWrite =>
    cases h
    exact ⟨keyedRegister_hostCap, rfl⟩
  case beamTestDetector | beamTestCurrent | beamTestVoltage | beamTestDiePower | beamTestTemperature | beamTestBrownOut | beamTestAll =>
    cases h
    exact ⟨keyedRegister_testCtrl, rfl⟩
  case domForceOn | domForceOff =>
    cases h
    exact ⟨keyedRegister_domForce, rfl⟩
  case clkForceSrcWrite =>
    cases h
    exact ⟨keyedRegister_forceSrc, rfl⟩
  case pmbHostSendByte | pmbHostWriteByte | pmbHostWriteWord | pmbHostReadWord =>
    cases h
    exact ⟨keyedRegister_hostXact, rfl⟩
  case spareSubstDetector | spareRestoreDetector | spareSubstSensor | spareRestoreSensor | spareSubstLane | spareRestoreLane |
      spareSubstPhase | spareRestorePhase | spareRestoreAgeing =>
    cases h
    exact ⟨keyedRegister_spareCmd, rfl⟩
  case evtErase =>
    cases h
    exact ⟨keyedRegister_evtErase, rfl⟩
  -- no other command is keyed
  all_goals cases h

/-- A write that no check passes for spends a pending check and accepts no counter, and its failure is recorded (R119, R120). -/
theorem keyedCheck_fails {s : State} {p : Fin 23} {off w : Nat} (hk : ∀ ctr, keyPasses s ctr off w = false) :
    ∃ spent : Aut, spent.pend = none ∧ spent.HS_LAST = s.aut.HS_LAST ∧ spent.FAIL_CNT_HS = s.aut.FAIL_CNT_HS ∧
      s.keyedCheck p off w = (false, ({ s with aut := spent } : State).checkFailed p off) := by
  unfold State.keyedCheck
  split
  next hnone => exact ⟨s.aut, hnone, rfl, rfl, rfl⟩
  next c hc =>
    have hbad : ¬ checkPasses s c off w = true := by simpa [keyPasses, hc] using hk c.ctr
    rw [if_neg hbad]
    exact ⟨s.dropCheck.aut, rfl, rfl, rfl, rfl⟩

/-- A failed check is counted, and changes nothing else on the AUT page but the record of failures and its mute (R436). -/
theorem checkFailed_aut (s : State) (p : Fin 23) (off : Nat) :
    (s.checkFailed p off).aut =
      { s.aut with FAIL_CNT_HS := satAdd 16 s.aut.FAIL_CNT_HS 1, hsAt := (s.checkFailed p off).aut.hsAt,
                   STAT_HS_LOGMUTE := (s.checkFailed p off).aut.STAT_HS_LOGMUTE, muteAt := (s.checkFailed p off).aut.muteAt } := by
  unfold State.checkFailed
  dsimp only
  (repeat' split) <;> simp

/-- What a failed check may touch (R436). -/
theorem checkFailed_frame (s : State) (p : Fin 23) (off : Nat) :
    s.checkFailed p off =
      { s with aut := (s.checkFailed p off).aut, evt := (s.checkFailed p off).evt, hdr := (s.checkFailed p off).hdr } := by
  simp [State.eq_of_pages]

end Sys2Proof.Machine

namespace Sys2Proof.Proofs

open Sys2Proof Sys2Proof.Machine

/-- Settles O10: the command is the write of a keyed register (`exec_keyedTarget`); its check fails (`keyedCheck_fails`), and the lemmas
of `State.checkFailed` say what that leaves. -/
theorem keyedWriteWithoutCheckRefused : Obligations.KeyedWriteWithoutCheckRefused := by
  unfold Obligations.KeyedWriteWithoutCheckRefused
  intro s c p off w acc hc ha hk
  obtain ⟨⟨hoff, h4, hkeyed⟩, run⟩ := exec_keyedTarget hc s
  obtain ⟨spent, hpend, hlast, hfail, hcheck⟩ := keyedCheck_fails (s := s.dropPair (regAddr p.val off)) (p := p)
    fun ctr => (keyPasses_dropPair ..).trans (hk ctr)
  rw [hostWrite_at s p off w acc hoff h4 ha, hkeyed _ w (by rw [hcheck]), hcheck] at run
  simp only [respond_eq] at run
  rw [dropPair_eq] at run hlast hfail
  refine ⟨_, run, rfl, checkFailed_bit .., fun q hp he hA => checkFailed_hdr_other _ _ _ q hp he hA, ?_, ?_, ?_, ?_⟩
  · rw [checkFailed_aut]
    exact hpend
  · rw [checkFailed_aut]
    exact hlast
  · rw [checkFailed_aut]
    exact congrArg (satAdd 16 · 1) hfail
  · rw [checkFailed_frame]

/-- An access that writes 5 to SEQ_HOST_CAP, both parity bits right (R98). -/
def hostCapAcc : HostAcc := { sec := true, apar := addrPar (regAddr 1 0x58) true true, wpar := evenPar 32 5 }

/-- `keyedWriteWithoutCheckRefused` applies: a live host port, with no check pending, refuses a host cap and keeps the SEQ page. -/
theorem hostCap_unchecked_refused :
    ∃ t, exec (.seqHostCapWrite 5#32 hostCapAcc) liveReset = .next t ∧ t.hst = answer 2 ∧ t.hdr[pgSeq].err.testBit 5 = true ∧
      t.seq = liveReset.seq := by
  obtain ⟨t, run, status, flagged, -, -, -, -, frame⟩ := keyedWriteWithoutCheckRefused liveReset (.seqHostCapWrite 5#32 hostCapAcc)
    pgSeq 0x58 5 hostCapAcc rfl (by decide) (fun _ => rfl)
  exact ⟨t, run, status, flagged, by rw [frame]⟩

end Sys2Proof.Proofs
end

section
/-! PROOFS. Timers of the secure channel, and the loss of the heartbeat (R120, R434, R436; R44, R46, R429, R431). -/

namespace Sys2Proof.Machine

open Sys2Proof

/-! ### The secure channel -/

/-- The time is up (R38). -/
theorem after_of_le {s : State} {t k : Nat} (h : t + k ≤ s.now) : s.after t k = true := decide_eq_true h

/-- A pending check of 4096 ticks is discarded (R120). -/
theorem exec_pendingCheckDiscard {s : State} {k : PendCheck} (hk : s.aut.pend = some k) (hage : k.at_ + 4096 ≤ s.now) :
    exec .pendingCheckDiscard s = .next s.dropCheck := by
  show execPendingCheckDiscard s = _
  simp only [execPendingCheckDiscard, hk, after_of_le hage, if_true]

/-- The mute of the failures' record ends (R436). -/
theorem exec_hsLogmuteEnd {s : State} (hmute : s.aut.STAT_HS_LOGMUTE = true) (hage : s.aut.muteAt + 40000000 ≤ s.now) :
    exec .hsLogmuteEnd s = .next { s with aut := { s.aut with STAT_HS_LOGMUTE := false, hsAt := [] } } := by
  have hafter : s.after s.aut.muteAt (10 * ticksPerS) = true := after_of_le hage
  show execHsLogmuteEnd s = _
  simp only [execHsLogmuteEnd, hmute, hafter, Bool.and_self, if_true]

/-- One second after the cold reset the channels anchor (R434). -/
theorem exec_anchorTimeout {s : State} (hage : 4000000 ≤ s.now) : exec .anchorTimeout s = .next (s.anchor false) := by
  have hafter : s.after 0 ticksPerS = true := after_of_le (by simpa [ticksPerS] using hage)
  show execAnchorTimeout s = _
  simp only [execAnchorTimeout, hafter, if_true]

/-- The AUT page of channels that anchor at PCYCLE × 2³² without a restored count (R434). -/
def State.anchoredAut (s : State) : Aut :=
  { s.aut with HS_LAST := s.evt.PCYCLE * 2 ^ 32, RK_LAST := s.evt.PCYCLE * 2 ^ 32, RK_OUT := s.evt.PCYCLE * 2 ^ 32,
               STAT_ANCHORED := true, ANCHOR := s.evt.PCYCLE, STAT_UNANCHORED := true }

/-- Channels that anchor without a restored count say so (R434). -/
theorem anchor_unrestored {s : State} (h : s.aut.STAT_ANCHORED = false) :
    s.anchor false = ({ s with aut := s.anchoredAut } : State).fault pgAut 17 0x1213 (dat2 s.evt.PCYCLE) := by
  simp only [State.anchor, h, Bool.false_eq_true, if_false]
  rfl

/-! ### The loss of the heartbeat -/

/-- A lost heartbeat is counted once (R429). -/
def State.lossCounted (s : State) : State :=
  { s with mbs := { s.mbs with HB_CNT_LOSSES := satAdd 16 s.mbs.HB_CNT_LOSSES 1, lossTaken := true } }

/-- The load that is open when a heartbeat is lost is abandoned (R46). -/
def State.loadLost (s : State) : State := if loadOpen s then s.abandonLoad 0x50 else s

/-- A running block that loses its heartbeat becomes an orphan (R44, R429). -/
def State.orphaned (s : State) (cause : Nat) : State :=
  if s.seq.base = .running && !s.seq.STATE_C_ORPHAN then s.enterOrphan cause else s

/-- What a lost heartbeat makes of a supervised block, before the shown state follows (R429). -/
def State.heartbeatGone (s : State) (cause : Nat) : State := s.lossCounted.loadLost.orphaned cause

/-- A supervised block whose heartbeat's timer has run out loses the heartbeat (R429). -/
theorem exec_heartbeatLoss {s : State} (hsup : s.seq.STATE_HB_SUP = true) (htaken : s.mbs.lossTaken = false)
    (hout : s.mbs.timerAt + s.mbs.HB_CFG * 4000 ≤ s.now) :
    exec .heartbeatLoss s = .next ((s.heartbeatGone 1).settle 0x0F10) := by
  have hafter : s.after s.mbs.timerAt (s.mbs.HB_CFG * ticksPerMs) = true := after_of_le hout
  show execHeartbeatLoss s = _
  simp only [execHeartbeatLoss, hafter, if_true, State.heartbeatLost, hsup, htaken, Bool.not_false, Bool.and_self]
  rfl

/-- What an abandoned load may touch (R46). -/
theorem loadLost_frame (s : State) :
    s.loadLost = { s with seq := s.loadLost.seq, stg := s.loadLost.stg, evt := s.loadLost.evt, hdr := s.loadLost.hdr } := by
  rw [State.eq_of_pages]
  unfold State.loadLost
  split <;> simp

/-- A running block runs on when its live load is abandoned, and no load is open any longer (R46, R471). -/
theorem loadLost_running {s : State} (h : s.seq.base = .running) :
    s.loadLost.seq.base = .running ∧ s.loadLost.seq.STATE_LIVE_LOAD = false ∧
      s.loadLost.seq.STATE_C_ORPHAN = s.seq.STATE_C_ORPHAN := by
  unfold State.loadLost
  split
  next => simp [State.abandonLoad, h]
  next hload => exact ⟨h, by simpa [loadOpen, h] using hload, rfl⟩

/-- A load abandoned in LOADING ends in SAFE, with status 0x50 and the commit mark clear (R46, R471). -/
theorem loadLost_loading {s : State} (h : s.seq.base = .loading) :
    s.loadLost.seq.base = .safe ∧ s.loadLost.seq.CMD_ST_ST = 0x50 ∧ s.loadLost.seq.STATE_COMMITTED = false := by
  have hload : loadOpen s = true := by simp [loadOpen, h]
  rw [State.loadLost, if_pos hload]
  simp [State.abandonLoad, h, State.enterSafe, State.unlockPages]

/-- A new orphan shows its cause on the SEQ page, and its cap is its share (R429, R431). -/
theorem orphaned_running {s : State} (cause : Nat) (h : s.seq.base = .running) (ho : s.seq.STATE_C_ORPHAN = false) :
    (s.orphaned cause).seq = { s.seq with STATE_C_ORPHAN := true } ∧
      (s.orphaned cause).mbs = { s.mbs with orphCapNow := s.adm.SHARE, orphBnds := 0, orphKeep := 0 } := by
  simp [State.orphaned, h, ho, State.enterOrphan]

/-- A block that does not run does not become an orphan (R44). -/
theorem orphaned_of_not_running {s : State} (cause : Nat) (h : s.seq.base ≠ .running) : s.orphaned cause = s := by
  simp [State.orphaned, h]

/-- A block that becomes an orphan keeps its count of losses. -/
theorem orphaned_losses (s : State) (cause : Nat) :
    (s.orphaned cause).mbs.lossTaken = s.mbs.lossTaken ∧ (s.orphaned cause).mbs.HB_CNT_LOSSES = s.mbs.HB_CNT_LOSSES := by
  unfold State.orphaned
  split <;> simp [State.enterOrphan]

/-- What becoming an orphan may touch (R429). -/
theorem orphaned_frame (s : State) (cause : Nat) :
    s.orphaned cause =
      { s with seq := (s.orphaned cause).seq, mbs := (s.orphaned cause).mbs, evt := (s.orphaned cause).evt,
               hdr := (s.orphaned cause).hdr } := by
  rw [State.eq_of_pages]
  unfold State.orphaned
  split <;> simp

/-- What a lost heartbeat may touch before the shown state follows (R46, R429). -/
theorem heartbeatGone_frame (s : State) (cause : Nat) :
    s.heartbeatGone cause =
      { s with seq := (s.heartbeatGone cause).seq, mbs := (s.heartbeatGone cause).mbs, stg := (s.heartbeatGone cause).stg,
               evt := (s.heartbeatGone cause).evt, hdr := (s.heartbeatGone cause).hdr } := by
  unfold State.heartbeatGone
  rw [orphaned_frame, loadLost_frame]
  rfl

/-- A lost heartbeat is counted, and marked as taken (R429). -/
theorem heartbeatGone_losses (s : State) (cause : Nat) :
    (s.heartbeatGone cause).mbs.lossTaken = true ∧
      (s.heartbeatGone cause).mbs.HB_CNT_LOSSES = satAdd 16 s.mbs.HB_CNT_LOSSES 1 := by
  unfold State.heartbeatGone
  obtain ⟨htaken, hcount⟩ := orphaned_losses s.lossCounted.loadLost cause
  rw [htaken, hcount, loadLost_frame]
  exact ⟨rfl, rfl⟩

/-- A running block that was no orphan is one, with no load open and the cap at its share (R44, R46, R429, R431). -/
theorem heartbeatGone_running {s : State} (cause : Nat) (h : s.seq.base = .running) (ho : s.seq.STATE_C_ORPHAN = false) :
    (s.heartbeatGone cause).seq.STATE_C_ORPHAN = true ∧ (s.heartbeatGone cause).seq.base = .running ∧
      (s.heartbeatGone cause).seq.STATE_LIVE_LOAD = false ∧ (s.heartbeatGone cause).mbs.orphCapNow = s.adm.SHARE ∧
      (s.heartbeatGone cause).mbs.orphBnds = 0 := by
  obtain ⟨hbase, hlive, horphan⟩ := loadLost_running (s := s.lossCounted) h
  obtain ⟨hseq, hmbs⟩ := orphaned_running cause hbase (horphan.trans ho)
  have hshare : s.lossCounted.loadLost.adm.SHARE = s.adm.SHARE := by rw [loadLost_frame]; rfl
  rw [State.heartbeatGone, hseq, hmbs]
  exact ⟨rfl, hbase, hlive, hshare, rfl⟩

/-- A load in LOADING is abandoned (R46). -/
theorem heartbeatGone_loading {s : State} (cause : Nat) (h : s.seq.base = .loading) :
    (s.heartbeatGone cause).seq.base = .safe ∧ (s.heartbeatGone cause).seq.CMD_ST_ST = 0x50 ∧
      (s.heartbeatGone cause).seq.STATE_COMMITTED = false := by
  have hload := loadLost_loading (s := s.lossCounted) h
  rw [State.heartbeatGone, orphaned_of_not_running cause (by simp [hload])]
  exact hload

/-- What a change of the shown state may touch (R477). -/
theorem settle_frame (s : State) (cause : Nat) :
    s.settle cause =
      { s with seq := (s.settle cause).seq, mbs := (s.settle cause).mbs, mbn := (s.settle cause).mbn, rck := (s.settle cause).rck,
               evt := (s.settle cause).evt, hdr := (s.settle cause).hdr } := by
  simp [State.eq_of_pages]

/-- A change of the shown state leaves the count of losses and the orphan cap as they are (R477). -/
theorem settle_mbs (s : State) (cause : Nat) :
    (s.settle cause).mbs.lossTaken = s.mbs.lossTaken ∧ (s.settle cause).mbs.HB_CNT_LOSSES = s.mbs.HB_CNT_LOSSES ∧
      (s.settle cause).mbs.orphCapNow = s.mbs.orphCapNow ∧ (s.settle cause).mbs.orphBnds = s.mbs.orphBnds := by
  have h : (s.settle cause).mbs.quiet = s.mbs.quiet := settle_quiet s .mbs cause
  exact ⟨(congrArg Mbx.lossTaken h :), (congrArg Mbx.HB_CNT_LOSSES h :), (congrArg Mbx.orphCapNow h :), (congrArg Mbx.orphBnds h :)⟩

end Sys2Proof.Machine

namespace Sys2Proof.Proofs

open Sys2Proof Sys2Proof.Machine

/-- Settles O20: each timer's command by its own equation; what the lost heartbeat leaves are the lemmas of `State.heartbeatGone`, and
`settle_mbs`, `settle_seq` and `settle_frame` say that the shown state following it keeps that. -/
theorem channelTimersRun : Obligations.ChannelTimersRun := by
  unfold Obligations.ChannelTimersRun
  refine ⟨fun s => ⟨fun k hk hage => exec_pendingCheckDiscard hk hage, fun hmute hage => exec_hsLogmuteEnd hmute hage,
    fun hanchored hage => ?anchor⟩, fun s hsup htaken hout => ?loss⟩
  case anchor =>
    refine ⟨_, exec_anchorTimeout hage, ?_⟩
    rw [anchor_unrestored hanchored]
    refine ⟨by simp [State.anchoredAut], fault_bit .., ?_⟩
    rw [fault_frame]
  case loss =>
    obtain ⟨htakenNow, hcount, hcap, hbnds⟩ := settle_mbs (s.heartbeatGone 1) 0x0F10
    refine ⟨_, exec_heartbeatLoss hsup htaken hout, ?_, ?_, fun hrun ho => ?_, fun hload => ?_, ?_, ?_⟩
    · exact htakenNow.trans (heartbeatGone_losses s 1).1
    · exact hcount.trans (heartbeatGone_losses s 1).2
    · rw [settle_seq, hcap, hbnds]
      exact heartbeatGone_running 1 hrun ho
    · rw [settle_seq]
      exact heartbeatGone_loading 1 hload
    · refine (settle_quiet _ .mbn _).trans ?_
      rw [heartbeatGone_frame]
      rfl
    · have hstg : ((s.heartbeatGone 1).settle 0x0F10).stg = (s.heartbeatGone 1).stg := by simp
      rw [hstg]
      conv_lhs => rw [settle_frame]
      generalize (s.heartbeatGone 1).settle 0x0F10 = u
      rw [heartbeatGone_frame]

/-- A supervised, running block, 5 s after its cold reset, whose heartbeat never arrived. -/
def silentRun : State :=
  { State.reset with now := 20000000, seq := { State.reset.seq with base := .running, STATE_HB_SUP := true, STATE_LIVE_LOAD := true } }

/-- `channelTimersRun` applies: the silent block becomes an orphan, and its live load is abandoned. -/
theorem silentRun_orphaned :
    ∃ t, exec .heartbeatLoss silentRun = .next t ∧ t.seq.STATE_C_ORPHAN = true ∧ t.seq.STATE_LIVE_LOAD = false := by
  obtain ⟨-, loss⟩ := channelTimersRun
  obtain ⟨t, run, -, -, orphan, -⟩ := loss silentRun rfl rfl (by decide)
  obtain ⟨cause, -, live, -⟩ := orphan rfl rfl
  exact ⟨t, run, cause, live⟩

/-- `channelTimersRun` applies: channels not anchored one second after the cold reset anchor, and say so. -/
theorem silentRun_anchors :
    ∃ t, exec .anchorTimeout silentRun = .next t ∧ t.aut.STAT_UNANCHORED = true ∧ t.hdr[pgAut].err.testBit 17 = true := by
  obtain ⟨timers, -⟩ := channelTimersRun
  obtain ⟨-, -, anchor⟩ := timers silentRun
  obtain ⟨t, run, haut, flagged, -⟩ := anchor rfl (by decide)
  exact ⟨t, run, by rw [haut], flagged⟩

end Sys2Proof.Proofs
end

section
/-! PROOFS. What may change the masks, the parity record and the reset bits of a page header (R94, R107, R113, R460). -/

namespace Sys2Proof.Machine

open Sys2Proof

/-! ### Accesses of the host -/

/-- The registers of a page header whose writes reach its core: PAGE_LRST, PAGE_ERR_MASK and PAGE_EVT_EN (R107, R460). -/
def coreOffsets : List Nat := [0x0C, 0x18, 0x1C]

/-- A write of a header register outside the core keeps the cores: it clears errors, or locks (R107, R116). -/
theorem writeHdr_hdrCore (s : State) (p : Fin 23) {off : Nat} (data : Nat) (h : off ∉ coreOffsets) :
    hdrCore (writeHdr s p off data).1.hdr = hdrCore s.hdr := by
  simp only [coreOffsets, List.mem_cons, List.not_mem_nil, or_false, not_or] at h
  obtain ⟨hLrst, hMask, hEvtEn⟩ := h
  unfold writeHdr
  split
  case h_1 | h_3 | h_4 => contradiction
  case h_2 => exact hdrMod_core _ _ _ fun _ => rfl
  case h_5 =>
    split
    · exact hdrMod_core _ _ _ fun _ => rfl
    · rfl
  case h_6 => rfl

/-- A write of a register outside the headers' cores keeps them. -/
theorem writeReg_hdrCore (s : State) (p : Fin 23) {off : Nat} (data : Nat) (h : off ∉ coreOffsets) :
    hdrCore (writeReg s p off data).1.hdr = hdrCore s.hdr := by
  unfold writeReg
  split
  · exact writeHdr_hdrCore s p data h
  · split <;> simp

/-- A write on the host port of a register outside the headers' cores keeps them: a fault or a refusal flags an error, and no more. -/
theorem hostWrite_hdrCore (s : State) (addr data : Nat) (acc : HostAcc) (h : addr % 1024 * 4 ∉ coreOffsets) :
    hdrCore (hostWrite s addr data acc).hdr = hdrCore s.hdr := by
  unfold hostWrite
  dsimp only
  (repeat' split) <;> simp [writeReg_hdrCore _ _ _ h]

/-- A read on the host port keeps the headers' cores (R102). -/
theorem hostRead_hdrCore (s : State) (addr : Nat) (acc : HostAcc) : hdrCore (hostRead s addr acc).hdr = hdrCore s.hdr := by
  unfold hostRead
  dsimp only
  (repeat' split) <;> simp

/-! ### Every command -/

/-- The commands that may change the core of a header: REGISTER_WRITE, a page's parity fault, a block-local reset, and the reset
pins. -/
def changesHeaders : Instr → Bool
  | .registerWrite .. | .intPar .. | .lrstReq .. | .lrstComplete .. | .porAssert | .porRelease .. | .rstNAssert | .rstNRelease => true
  | _ => false

/-- Every other command keeps the cores of all headers: a host write of another register is `hostWrite_hdrCore`, and the rest are made
of operations that each keep the cores. -/
theorem exec_hdrCore {c : Instr} {s t : State} (hc : changesHeaders c = false) (h : exec c s = .next t) :
    hdrCore t.hdr = hdrCore s.hdr := by
  cases c
  case registerWrite | intPar | lrstReq | lrstComplete | porAssert | porRelease | rstNAssert | rstNRelease => contradiction
  case registerRead =>
    cases h
    exact hostRead_hdrCore ..
  case pageLockWrite | tlyRowSelWrite | fcsWaddrWrite | fcsWdataWrite | autWchkMac3Write | seqHostCapWrite | beamHlimWrite |
      beamTestDetector | beamTestCurrent | beamTestVoltage | beamTestDiePower | beamTestTemperature | beamTestBrownOut |
      beamTestAll | domForceOn | domForceOff | clkForceSrcWrite | spareSubstDetector | spareRestoreDetector | spareSubstSensor |
      spareRestoreSensor | spareSubstLane | spareRestoreLane | spareSubstPhase | spareRestorePhase | spareRestoreAgeing |
      evtErase | pmbHostSendByte | pmbHostWriteByte | pmbHostWriteWord | pmbHostReadWord | seqLoad | seqCommit | seqActivate |
      seqAbort | mailboxInWrite | outPop | blockWrite | blockRead | blkAddrWrite | heartbeat | evtRdSelWrite | evtFreeze |
      evtUnfreeze | trcPop =>
    cases h
    apply hostWrite_hdrCore
    simp only [regAddr, coreOffsets, List.mem_cons, List.not_mem_nil, or_false]
    omega
  -- these name an intermediate state before they branch
  case commitEnd | admOutTransfer | droopDetect | droopRelease | housekeepingSlot | domPgChange | sleepSwitchOff =>
    cases h
    dsimp only
    (repeat' split) <;> simp
  all_goals
    cases h
    (repeat' split) <;> simp [apply_ite hdrCore]

end Sys2Proof.Machine

namespace Sys2Proof.Proofs

open Sys2Proof Sys2Proof.Machine

/-- Settles O31: the eight exceptions are `changesHeaders`, and `exec_hdrCore` is for every other command. -/
theorem headersChangeOnlyBy : Obligations.HeadersChangeOnlyBy := by
  unfold Obligations.HeadersChangeOnlyBy
  intro c s t hWrite hPar hAsk hDone hPorA hPorR hRstA hRstR h
  have hc : changesHeaders c = false := by
    cases c
    case registerWrite => exact absurd rfl (hWrite _ _ _)
    case intPar => exact absurd rfl (hPar _ _)
    case lrstReq => exact absurd rfl (hAsk _ _)
    case lrstComplete => exact absurd rfl (hDone _ _)
    case porAssert => exact absurd rfl hPorA
    case porRelease => exact absurd rfl (hPorR _ _)
    case rstNAssert => exact absurd rfl hRstA
    case rstNRelease => exact absurd rfl hRstR
    all_goals rfl
  exact exec_hdrCore hc h

/-- `headersChangeOnlyBy` applies: PAGE_LOCK_WRITE locks the TLY page (`tlyLock_locks`), and keeps its error mask. -/
theorem tlyLock_keeps_errMask :
    ∃ t, exec (.pageLockWrite pgTly 1#32 tlyLockAcc) liveReset = .next t ∧ t.hdr[pgTly].errMask = liveReset.hdr[pgTly].errMask := by
  obtain ⟨t, run, -⟩ := everyCommandCompletes (.pageLockWrite pgTly 1#32 tlyLockAcc) liveReset
  have hcore := headersChangeOnlyBy _ _ _ (by simp) (by simp) (by simp) (by simp) (by simp) (by simp) (by simp) (by simp) run
  obtain ⟨-, -, hmask, -⟩ := core_at hcore pgTly
  exact ⟨t, run, hmask⟩

/-- An access that writes 4 to PAGE_ERR_MASK of the TLY page, both parity bits right (R98). -/
def tlyMaskAcc : HostAcc := { sec := true, apar := addrPar (regAddr 2 0x18) true true, wpar := evenPar 32 4 }

/-- The exception is needed: REGISTER_WRITE of PAGE_ERR_MASK changes a mask (R116). -/
theorem registerWrite_changes_errMask :
    ∃ t, exec (.registerWrite (BitVec.ofNat 15 (regAddr 2 0x18)) 4#32 tlyMaskAcc) liveReset = .next t ∧
      t.hdr[pgTly].errMask ≠ liveReset.hdr[pgTly].errMask :=
  ⟨_, exec_registerWrite_at liveReset _ (BitVec.ofNat 15 (regAddr 2 0x18)) 4#32 tlyMaskAcc pgTly 0x18 0 (by decide) rfl (by decide) rfl
    (writeReg_pageErrMask _ pgTly _), by simp [show liveReset.hdr[pgTly] = {} from reset_hdr pgTly]⟩

end Sys2Proof.Proofs
end

section
/-! PROOFS. The admission port's outgoing transfer and the timers of the tally rows (R127, R137, R149, R164, R165, R175, R534). -/

namespace Sys2Proof.Machine

open Sys2Proof

/-! ### Stored rows -/

/-- A stored word depends on the row memory alone. -/
theorem rowW_congr {s t : State} (h : t.tly.rows = s.tly.rows) (j : Nat) : rowW t j = rowW s j := by
  simp only [rowW, h]

/-- A row shows the word written to it (R161). -/
theorem rowW_setRow_same {s : State} (i w : Nat) (h : memWf 0 s.tly.rows = true) : rowW (s.setRow i w) i = w :=
  memRead_memWrite_same 0 s.tly.rows i w none h

/-- A write of one row leaves every other row alone (R161). -/
theorem rowW_setRow_other {s : State} (i w : Nat) {j : Nat} (h : memWf 0 s.tly.rows = true) (hj : j ≠ i) :
    rowW (s.setRow i w) j = rowW s j :=
  memRead_memWrite_other 0 s.tly.rows i j w none h hj

/-! ### ADM_OUT_TRANSFER -/

/-- With an empty inbound buffer nothing is decided (R534). -/
theorem decideAll_of_empty {s : State} (h : s.adm.inQ = []) (f : Nat) : State.decideAll f s = s := by
  cases f with
  | zero => rfl
  | succ f => simp only [State.decideAll, h]

/-- No word is discarded while the unit of the one at the head is open (R151). -/
theorem skipClosed_of_open {s : State} {o : OutWord} {q : List OutWord} (hq : s.adm.outQ = o :: q)
    (ho : unitClosed s (bitsOf o.word.toNat 48 12) = false) (f : Nat) : State.skipClosed f s = s := by
  cases f with
  | zero => rfl
  | succ f => simp [State.skipClosed, hq, ho]

/-- A word that leaves changes neither queue (R534). -/
theorem leave_queues (s : State) (o : OutWord) :
    (s.leave o).adm.inQ = s.adm.inQ ∧ (s.leave o).adm.outQ = s.adm.outQ := by
  unfold State.leave
  cases o.row with
  | none => exact ⟨rfl, rfl⟩
  | some i => simp

/-- The state once the head word `o` has left, with `q` behind it: the next word rises (R534). -/
def State.sent (s : State) (o : OutWord) (q : List OutWord) : State := ({ s with adm.outQ := q }.leave o).outRise

/-- One word leaves a live port, when its unit is open and nothing waits to be decided (R534). -/
theorem exec_admOutTransfer {s : State} {o : OutWord} {q : List OutWord} (hnet : netUp s = true) (hin : s.adm.inQ = [])
    (hq : s.adm.outQ = o :: q) (ho : unitClosed s (bitsOf o.word.toNat 48 12) = false) :
    exec .admOutTransfer s = .next (s.sent o q) := by
  have hempty : (s.sent o q).adm.inQ = [] := by simp [State.sent, leave_queues, hin]
  show execAdmOutTransfer s = _
  simp only [execAdmOutTransfer, hnet, Bool.true_eq_false, if_false, skipClosed_of_open hq ho]
  rw [hq]
  exact congrArg Host.Outcome.next (decideAll_of_empty hempty 33)

/-- The words behind the one that left wait on (R534). -/
theorem sent_outQ (s : State) (o : OutWord) (q : List OutWord) : (s.sent o q).adm.outQ = q := by
  simp [State.sent, leave_queues]

/-- What a transfer on adm_out may touch (R534, R261). -/
theorem sent_frame (s : State) (o : OutWord) (q : List OutWord) :
    s.sent o q = { s with tly := (s.sent o q).tly, adm := (s.sent o q).adm, fcs := (s.sent o q).fcs } := by
  simp [State.eq_of_pages, State.sent]

/-- A word without a row leaves as it was decided, and no row changes (R127). -/
theorem sent_of_no_row (s : State) {o : OutWord} (q : List OutWord) (h : o.row = none) :
    (s.sent o q).adm.lastOut = o.word ∧ (s.sent o q).adm.lastPar = wordPar o.word.toNat ∧ (s.sent o q).tly.rows = s.tly.rows := by
  simp [State.sent, State.leave, h]

/-- The word that the port shows for a word of a row: an ARM to the row's present owner, any other as it was decided (R149). -/
theorem sent_lastOut (s : State) {o : OutWord} (q : List OutWord) {i : Nat} (h : o.row = some i) :
    (s.sent o q).adm.lastOut = BitVec.ofNat 64 (if o.word.toNat >>> 60 = 0xA then armWord (rowW s i) else o.word.toNat) := by
  simp [State.sent, State.leave, h, rowW]

/-- A GRANTED row is ARMED by an ARM, or by a GRANT with ARMED set; any other word leaves it as it is (R163, R164). -/
theorem sent_rowW {s : State} {o : OutWord} (q : List OutWord) {i : Nat} (h : o.row = some i) (hwf : memWf 0 s.tly.rows = true) :
    rowW (s.sent o q) i =
      if rowSt (rowW s i) = 1 ∧ (o.word.toNat >>> 60 = 0xA ∨ bitAt o.word.toNat 0) then rowToSt (rowW s i) 2 else rowW s i := by
  split
  next harm =>
    refine Eq.trans (rowW_congr ?_ i) (rowW_setRow_same i _ hwf)
    simp only [rowW] at harm
    simp [State.sent, State.leave, State.setRow, h, rowW, harm, apply_ite Tly.rows]
  next hkeep =>
    refine rowW_congr ?_ i
    simp only [rowW] at hkeep
    simp [State.sent, State.leave, h, rowW, hkeep, apply_ite Tly.rows]

/-! ### The timers of the rows -/

/-- No refusal is counted when a row retires (R164). -/
theorem retire_ref (s : State) (i : Nat) : (s.retire i).adm.ref = s.adm.ref := by
  unfold State.retire
  dsimp only
  split <;> simp [State.dropWords]

/-- A row that retires stands in QUAR, and no other row changes (R164). -/
theorem retire_rows (s : State) (i : Nat) : (s.retire i).tly.rows = (s.setRow i (rowToSt (rowW s i) 3)).tly.rows := by
  unfold State.retire
  dsimp only
  split <;> simp [State.dropWords]

/-- A refusal is counted by its code (R128, R191). -/
theorem refuse_ref (s : State) (unit tag code seqn : Nat) (tagv : Bool) (retry : Nat) :
    (s.refuse unit tag code seqn tagv retry).adm.ref =
      vMod s.adm.ref (code - 1) fun e => { e with REF_CNT := satAdd 32 e.REF_CNT 1 } := by
  unfold State.refuse State.sendWord
  split <;> simp

/-- A row withdrawn with a code stands in QUAR, no other row changes, and the refusal is counted by that code (R127, R137, R164). -/
theorem withdraw_effect {s : State} (i code retry : Nat) (h : memWf 0 s.tly.rows = true) :
    rowW (s.withdraw i code retry) i = rowToSt (rowW s i) 3 ∧ (∀ j, j ≠ i → rowW (s.withdraw i code retry) j = rowW s j) ∧
      (s.withdraw i code retry).adm.ref = vMod s.adm.ref (code - 1) fun e => { e with REF_CNT := satAdd 32 e.REF_CNT 1 } := by
  have hrows : (s.withdraw i code retry).tly.rows = (s.setRow i (rowToSt (rowW s i) 3)).tly.rows :=
    (State.refuse_rows ..).trans (retire_rows s i)
  refine ⟨(rowW_congr hrows i).trans (rowW_setRow_same i _ h), fun j hj => (rowW_congr hrows j).trans (rowW_setRow_other i _ h hj), ?_⟩
  rw [State.withdraw, refuse_ref, retire_ref]

/-- What the withdrawal of a row may touch (R137, R164). -/
theorem withdraw_frame (s : State) (i code retry : Nat) :
    s.withdraw i code retry =
      { s with tly := (s.withdraw i code retry).tly, adm := (s.withdraw i code retry).adm, fcs := (s.withdraw i code retry).fcs,
               vrg := (s.withdraw i code retry).vrg, frm := (s.withdraw i code retry).frm } := by
  simp [State.eq_of_pages]

/-- A row's timer holds the tick after its start, and 0 where it does not run. -/
theorem after_timer {s : State} {t : Nat} (k : Nat) (h0 : t ≠ 0) (h : t + k ≤ s.now) : s.after (t - 1) (k + 1) = true :=
  after_of_le (by omega)

/-- The code with which a row that misses its arming deadline is refused: 0x12 where its rail is held or the instance in EMERGENCY or
TRIPPED, else 0x10 (R137, R155). -/
def lapseCode (s : State) (i : Nat) : Nat := if 5 ≤ shownState s ∨ railHeld s (rowRail (rowW s i)) = true then 0x12 else 0x10

/-- A row still GRANTED at its arming deadline is withdrawn with that code; an event may follow (R137, R155). -/
theorem exec_armLapse {s : State} {i : Fin 8192} (hst : rowSt (rowW s i.val) = 1) (h0 : memRead 0 s.tly.timer i.val ≠ 0)
    (hdue : memRead 0 s.tly.timer i.val + 5 ≤ s.now) :
    ∃ t retry, exec (.armLapse i) s = .next t ∧ t = { s.withdraw i.val (lapseCode s i.val) retry with evt := t.evt, hdr := t.hdr } := by
  have run : exec (.armLapse i) s = .next (
      if 5 ≤ shownState s ∨ railHeld s (rowRail (rowW s i.val)) = true then s.withdraw i.val 0x12 31
      else (s.withdraw i.val 0x10 0).event 0x0312 (rowRail (rowW s i.val) :: tagDat (rowW s i.val))) := by
    show execArmLapse i s = _
    simp [execArmLapse, hst, h0, after_timer 5 h0 hdue]
  rw [run, lapseCode]
  split
  next => exact ⟨_, 31, rfl, rfl⟩
  next => exact ⟨_, 0, rfl, by simp [State.eq_of_pages]⟩

/-- A row 8 µs in QUAR becomes FREE (R164). -/
theorem exec_quarExpiry {s : State} {i : Fin 8192} (hst : rowSt (rowW s i.val) = 3) (h0 : memRead 0 s.tly.timer i.val ≠ 0)
    (hdue : memRead 0 s.tly.timer i.val + 31 ≤ s.now) : exec (.quarExpiry i) s = .next (s.freeRow i.val) := by
  show execQuarExpiry i s = _
  simp [execQuarExpiry, hst, h0, after_timer 31 h0 hdue]

/-- The rows after one becomes FREE (R165). -/
theorem freeRow_rows (s : State) (i : Nat) : (s.freeRow i).tly.rows = (s.setRow i (rowToSt (rowW s i) 0)).tly.rows := rfl

/-- A row that becomes FREE joins the end of the free list, and what that touches (R165). -/
theorem freeRow_frame (s : State) (i : Nat) :
    (s.freeRow i).tly.freed = s.tly.freed ++ [i] ∧
      s.freeRow i = { s with tly := { s.tly with rows := (s.freeRow i).tly.rows, timer := (s.freeRow i).tly.timer,
                                                 freed := (s.freeRow i).tly.freed,
                                                 ROW_STAT_STALE := (s.freeRow i).tly.ROW_STAT_STALE } } := ⟨rfl, rfl⟩

/-- An ask 20 µs without an answer is open no longer (R175). -/
theorem exec_loanAskTimeout_due {s : State} {a : Nat} (h : s.adm.askAt = some a) (hdue : a + 80 ≤ s.now) :
    exec .loanAskTimeout s = .next s.askDone := by
  show execLoanAskTimeout s = _
  simp only [execLoanAskTimeout, h, after_of_le hdue, if_true]

/-- A younger ask stays open (R175). -/
theorem exec_loanAskTimeout_young {s : State} {a : Nat} (h : s.adm.askAt = some a) (hyoung : s.now < a + 80) :
    exec .loanAskTimeout s = .next s := by
  have hafter : s.after a 80 = false := decide_eq_false (by omega)
  show execLoanAskTimeout s = _
  simp only [execLoanAskTimeout, h, hafter, Bool.false_eq_true, if_false]

end Sys2Proof.Machine

namespace Sys2Proof.Proofs

open Sys2Proof Sys2Proof.Machine

/-- Settles O42: a transfer is `exec_admOutTransfer`, with what the word makes of its row in `sent_rowW`; each timer is its own equation,
and what a withdrawal does to rows and counts is `withdraw_effect`, whatever its code. -/
theorem rowsLeaveAndLapse : Obligations.RowsLeaveAndLapse := by
  unfold Obligations.RowsLeaveAndLapse
  intro s
  refine ⟨fun o q hnet hin hq ho hwf => ?leaves, fun i hwf hst h0 hdue => ?lapses, fun i hwf hst h0 hdue => ?frees,
    fun a ha => ⟨exec_loanAskTimeout_due ha, exec_loanAskTimeout_young ha⟩⟩
  case leaves =>
    refine ⟨_, exec_admOutTransfer hnet hin hq ho, sent_outQ .., sent_of_no_row s q, fun i hrow harm hst => ?_,
      fun i hrow hgrant hst => ?_, sent_frame ..⟩
    · rw [sent_lastOut s q hrow, sent_rowW q hrow hwf]
      simp [harm, hst]
    · rw [sent_lastOut s q hrow, sent_rowW q hrow hwf]
      simp [hgrant, hst]
  case lapses =>
    obtain ⟨t, retry, run, ht⟩ := exec_armLapse hst h0 hdue
    obtain ⟨hrow, hothers, hcount⟩ := withdraw_effect i.val (lapseCode s i.val) retry hwf
    have hrows : t.tly.rows = (s.withdraw i.val (lapseCode s i.val) retry).tly.rows := by rw [ht]
    refine ⟨t, run, (rowW_congr hrows _).trans hrow, fun j hj => (rowW_congr hrows j).trans (hothers j hj), ?_, ?_⟩
    · rw [ht]
      exact hcount
    · rw [ht, withdraw_frame]
  case frees =>
    obtain ⟨hfreed, hframe⟩ := freeRow_frame s i.val
    have hrows := freeRow_rows s i.val
    exact ⟨_, exec_quarExpiry hst h0 hdue, (rowW_congr hrows _).trans (rowW_setRow_same _ _ hwf),
      fun j hj => (rowW_congr hrows j).trans (rowW_setRow_other _ _ hwf hj), hfreed, hframe⟩

/-- Row 3, GRANTED to unit 7 with 5 beads of rail 0. -/
def grantedRow : Nat := mkRow false 1 5 0 7 7 0 3

/-- Row 4, in QUAR. -/
def quarRow : Nat := mkRow false 3 5 0 7 7 0 4

/-- A live port on the tick at which every timer is due: `grantedRow` at its arming deadline, its ARM at the head of the queue,
`quarRow` 8 µs in QUAR, and an ask that has waited 20 µs. -/
def dueState : State :=
  { liveReset with
    now := 100
    tly := { liveReset.tly with rows := [(3, grantedRow), (4, quarRow)], timer := [(3, 95), (4, 69)] }
    adm := { liveReset.adm with outQ := [⟨BitVec.ofNat 64 (armWord grantedRow), some 3⟩], askAt := some 20 } }

/-- `rowsLeaveAndLapse` applies: the ARM leaves, and its row is ARMED. -/
theorem dueState_arms : ∃ t, exec .admOutTransfer dueState = .next t ∧ t.adm.outQ = [] ∧ rowSt (rowW t 3) = 2 := by
  obtain ⟨leaves, -⟩ := rowsLeaveAndLapse dueState
  obtain ⟨t, run, hout, -, harm, -⟩ := leaves _ _ (by decide) rfl rfl (by decide) (by decide)
  obtain ⟨-, hrow⟩ := harm 3 rfl (by decide) (by decide)
  exact ⟨t, run, hout, by rw [hrow]; decide⟩

/-- `rowsLeaveAndLapse` applies: an ARM that has not left by the deadline comes too late, and its row stands in QUAR. -/
theorem dueState_lapses : ∃ t, exec (.armLapse 3) dueState = .next t ∧ rowSt (rowW t 3) = 3 ∧ rowW t 4 = quarRow := by
  obtain ⟨-, lapses, -⟩ := rowsLeaveAndLapse dueState
  obtain ⟨t, run, hrow, hothers, -⟩ := lapses 3 (by decide) (by decide) (by decide) (by decide)
  exact ⟨t, run, (congrArg rowSt hrow).trans (by decide), hothers 4 (by decide)⟩

/-- `rowsLeaveAndLapse` applies: the quarantined row is FREE, and stands at the end of the free list. -/
theorem dueState_frees : ∃ t, exec (.quarExpiry 4) dueState = .next t ∧ rowSt (rowW t 4) = 0 ∧ t.tly.freed = [4] := by
  obtain ⟨-, -, frees, -⟩ := rowsLeaveAndLapse dueState
  obtain ⟨t, run, hrow, -, hfreed, -⟩ := frees 4 (by decide) (by decide) (by decide) (by decide)
  exact ⟨t, run, (congrArg rowSt hrow).trans (by decide), hfreed⟩

/-- `rowsLeaveAndLapse` applies: the ask closes. -/
theorem dueState_ask_closes : ∃ t, exec .loanAskTimeout dueState = .next t ∧ t.adm.askAt = none := by
  obtain ⟨-, -, -, asks⟩ := rowsLeaveAndLapse dueState
  obtain ⟨closes, -⟩ := asks 20 rfl
  exact ⟨_, closes (by decide), rfl⟩

end Sys2Proof.Proofs
end

section
/-! PROOFS. The sparse memories keep their canonical form through every step (R161, R168, R427, R512). -/

namespace Sys2Proof.Machine

open Sys2Proof

/-! ### A message's arrival on the frame's links -/

/-- What the link's own work and the effect of a message keep, its arrival keeps (R376 to R382). -/
theorem received_keeps {P : State → Prop} {s : State} {f : State → State} (d : Dir) (m : BitVec 128) (typ : Nat)
    (hcrc : ∀ s, P s → P (s.crcErr d)) (hlink : ∀ s g, P s → P (s.linkMod d g)) (hlack : ∀ s n, P s → P (s.lack d n))
    (hrelay : ∀ s, P s → P (s.relay d m)) (hf : ∀ s, P s → P (f s)) (hs : P s) : P (s.received d m typ f) := by
  have hheard := hlack _ (mLack m) (hlink _ (fun l => { l with rxAt := s.now }) hs)
  unfold State.received
  split
  · exact hs
  split
  · exact hcrc _ hs
  dsimp only
  split
  · exact hf _ hheard
  split
  · exact hheard
  split
  · exact hlink _ _ hheard
  split
  · exact hlink _ _ (hlink _ _ hheard)
  split
  · split
    · exact hf _ (hlink _ _ (hlink _ _ hheard))
    · exact hlink _ _ (hlink _ _ hheard)
  split
  · exact hf _ (hlink _ _ (hlink _ _ hheard))
  split
  · exact hrelay _ (hf _ (hlink _ _ (hlink _ _ hheard)))
  · exact hrelay _ (hlink _ _ (hlink _ _ hheard))

/-! ### The four memories -/

/-- The canonical forms of the four memories, one by one. -/
theorem memoriesWf_iff (s : State) : memoriesWf s = true ↔
    memWf (0#8) s.stg.mem = true ∧ memWf 0 s.evt.slots = true ∧ memWf 0 s.tly.rows = true ∧ memWf 0 s.tly.maps = true := by
  simp [memoriesWf, and_assoc]

/-- A write on the host port keeps the memories canonical. -/
theorem hostWrite_memoriesWf {s : State} (hs : memoriesWf s = true) (addr data : Nat) (acc : HostAcc) :
    memoriesWf (hostWrite s addr data acc) = true := by
  rw [memoriesWf_iff] at hs ⊢
  simp [hs]

/-- A frame message keeps the memories canonical where its effect does: the links hold none of them. -/
theorem received_memoriesWf {s : State} {f : State → State} (d : Dir) (m : BitVec 128) (typ : Nat)
    (hf : ∀ s, memoriesWf s = true → memoriesWf (f s) = true) (hs : memoriesWf s = true) :
    memoriesWf (s.received d m typ f) = true := by
  refine received_keeps (P := fun s => memoriesWf s = true) d m typ ?_ ?_ ?_ ?_ hf hs
  all_goals simp +contextual [memoriesWf_iff]

/-- What a sweep's temperatures lead to, the trips, the bands, the ladder and the causes of an orderly shutdown, keeps the tally rows
canonical (R290, R293, R300, R301). -/
theorem sweepEffects_rowsWf {s : State} (prev : List Nat) (t : Nat) (h : memWf 0 s.tly.rows = true) :
    memWf 0 (((List.range 12).foldl State.stackBands (s.thermalTrips prev t)).ladder true).hotCheck.sweepCauses.dwellCause.tly.rows =
      true := by
  apply State.dwellCause_rowsWf
  apply State.sweepCauses_rowsWf
  simp [h]

/-- Every command keeps the memories canonical. A host write is `hostWrite_memoriesWf`; a frame message whose effect branches is
`received_memoriesWf`; and the rest are made of operations that each leave a memory alone or keep its form. -/
theorem exec_memoriesWf {c : Instr} {s t : State} (hs : memoriesWf s = true) (h : exec c s = .next t) : memoriesWf t = true := by
  have hs' := (memoriesWf_iff s).mp hs
  cases c
  case registerWrite | pageLockWrite | tlyRowSelWrite | fcsWaddrWrite | fcsWdataWrite | autWchkMac3Write | seqHostCapWrite |
      beamHlimWrite | beamTestDetector | beamTestCurrent | beamTestVoltage | beamTestDiePower | beamTestTemperature |
      beamTestBrownOut | beamTestAll | domForceOn | domForceOff | clkForceSrcWrite | spareSubstDetector | spareRestoreDetector |
      spareSubstSensor | spareRestoreSensor | spareSubstLane | spareRestoreLane | spareSubstPhase | spareRestorePhase |
      spareRestoreAgeing | evtErase | pmbHostSendByte | pmbHostWriteByte | pmbHostWriteWord | pmbHostReadWord | lrstReq |
      seqLoad | seqCommit | seqActivate | seqAbort | mailboxInWrite | outPop | blockWrite | blockRead | blkAddrWrite | heartbeat
      | evtRdSelWrite | evtFreeze | evtUnfreeze | trcPop =>
    cases h
    exact hostWrite_memoriesWf hs _ _ _
  case frmFormed | frmLink | frmBoundary | frmLoan | frmCtrId | frmCtrData | frmCtrStat =>
    cases h
    apply received_memoriesWf _ _ _ _ hs
    intro u hu
    rw [memoriesWf_iff] at hu ⊢
    dsimp -failIfUnchanged only
    (repeat' split) <;> simp [hu]
  case sweepCalibrationDone =>
    cases h
    rw [memoriesWf_iff]
    split <;> simp [hs', sweepEffects_rowsWf]
  -- the lemma of a fold takes its step from a state that is canonical already
  case controlSample | startupSelftestComplete =>
    cases h
    rw [memoriesWf_iff]
    (repeat' split) <;> simp +contextual [hs']
  all_goals
    cases h
    rw [memoriesWf_iff]
    dsimp -failIfUnchanged only
    (repeat' split) <;> simp [hs']

end Sys2Proof.Machine

namespace Sys2Proof.Proofs

open Sys2Proof Sys2Proof.Machine

/-- Settles O21: a step is the front command's effect on the state that holds the rest of the queue, whose memories are the
same; `exec_memoriesWf` is for that command. -/
theorem stepKeepsMemoriesWf : Obligations.StepKeepsMemoriesWf := by
  unfold Obligations.StepKeepsMemoriesWf
  intro s t hs h
  unfold step at h
  split at h
  case h_1 =>
    cases h
    exact hs
  case h_2 c q _ =>
    exact exec_memoriesWf (s := { s with pending := q }) hs h

/-- The reset state with a live host port and one command waiting: the write of the longest epoch. -/
def epochLenWaiting : State := { liveReset with pending := [.registerWrite (BitVec.ofNat 15 (regAddr 2 0x40)) 8192#32 epochLenAcc] }

/-- `stepKeepsMemoriesWf` applies: the first command on the reset state, whose memories are empty, is the write that stores the longest
epoch. -/
theorem epochLen_step_keeps_memories :
    ∃ t, step epochLenWaiting = .next t ∧ memoriesWf t = true := by
  obtain ⟨t, run, -⟩ := everyCommandCompletes (.registerWrite (BitVec.ofNat 15 (regAddr 2 0x40)) 8192#32 epochLenAcc) liveReset
  exact ⟨t, run, stepKeepsMemoriesWf epochLenWaiting t rfl run⟩

end Sys2Proof.Proofs
end

section
/-! PROOFS. Shares, demands, caps and loans on the frame (R175, R176, R386, R390 to R394, R397, R398): what a message for this member is
applied to, and each message's effect. -/

namespace Sys2Proof.Machine

open Sys2Proof

/-! ### The links -/

/-- The state with other links to its neighbours, and nothing else changed. -/
def State.withLinks (s : State) (e w : FrmLinkState) : State := { s with frm.east := e, frm.west := w }

/-- A change of one link changes the links alone. -/
theorem linkMod_links (s : State) (d : Dir) (f : FrmLinkState → FrmLinkState) : ∃ e w, s.linkMod d f = s.withLinks e w := by
  cases d
  · exact ⟨_, s.frm.west, rfl⟩
  · exact ⟨s.frm.east, _, rfl⟩

/-- A message queued on a link changes the links alone (R382). -/
theorem linkSend_links (s : State) (d : Dir) (c : Nat) (m : BitVec 128) : ∃ e w, s.linkSend d c m = s.withLinks e w := by
  unfold State.linkSend
  split
  · exact linkMod_links ..
  · exact ⟨s.frm.east, s.frm.west, rfl⟩

/-- A message of the member's own changes the links alone (R382). -/
theorem frmSend_links (s : State) (cls typ dst pay : Nat) : ∃ e w, s.frmSend cls typ dst pay = s.withLinks e w := by
  unfold State.frmSend
  dsimp only
  split
  · obtain ⟨e, w, hs⟩ := linkSend_links s .east cls (frmMsg typ (myPos s) dst pay)
    obtain ⟨e', w', ht⟩ := linkSend_links (s.withLinks e w) .west cls (frmMsg typ (myPos s) dst pay)
    exact ⟨e', w', by rw [hs, ht]; rfl⟩
  split
  · exact linkSend_links ..
  · exact ⟨s.frm.east, s.frm.west, rfl⟩

/-- A message relayed changes the links alone (R382). -/
theorem relay_links (s : State) (d : Dir) (m : BitVec 128) : ∃ e w, s.relay d m = s.withLinks e w := by
  unfold State.relay
  dsimp only
  split
  · split
    · exact linkSend_links ..
    · exact ⟨s.frm.east, s.frm.west, rfl⟩
  split <;> exact linkSend_links ..

/-- The answer to a SHARE changes the links alone (R393). -/
theorem shareAck_links (s : State) (share : Nat) : ∃ e w, s.shareAck share = s.withLinks e w := by
  unfold State.shareAck
  split
  · exact ⟨s.frm.east, s.frm.west, rfl⟩
  · exact frmSend_links ..

/-! ### A message taken -/

/-- Messages that leave neither take the link down nor move what it expects (R378). -/
theorem FrmLinkState.drain_up_rxNext (n now : Nat) (l : FrmLinkState) :
    (l.drain n now).up = l.up ∧ (l.drain n now).rxNext = l.rxNext := by
  induction n generalizing l with
  | zero => exact ⟨rfl, rfl⟩
  | succ n ih =>
    unfold FrmLinkState.drain
    split
    · exact ⟨rfl, rfl⟩
    split
    · rw [(ih _).1, (ih _).2]
      unfold FrmLinkState.push
      split <;> exact ⟨rfl, rfl⟩
    · exact ⟨rfl, rfl⟩

/-- The state with other links to its neighbours, and another count of replayed words (R478). -/
def State.relinked (s : State) (e w : FrmLinkState) (n : Nat) : State :=
  { s.withLinks e w with rel.REPLAY_REPLAYED := n }

/-- A link that has heard a message, and taken what its LACK acknowledges (R378, R380). -/
def State.heard (s : State) (d : Dir) (m : BitVec 128) : State :=
  (s.linkMod d fun l => { l with rxAt := s.now }).lack d (mLack m)

/-- Hearing a message changes the links, and counts a replayed word where one is acknowledged (R378, R478). -/
theorem heard_links (s : State) (d : Dir) (m : BitVec 128) : ∃ e w n, s.heard d m = s.relinked e w n := by
  obtain ⟨e, w, hs⟩ := linkMod_links s d fun l => { l with rxAt := s.now }
  unfold State.heard State.lack
  dsimp only
  rw [hs]
  split
  · split
    · obtain ⟨e', w', ht⟩ := linkMod_links (s.withLinks e w).wordReplayed d _
      exact ⟨e', w', _, by rw [ht]; rfl⟩
    · obtain ⟨e', w', ht⟩ := linkMod_links (s.withLinks e w) d _
      exact ⟨e', w', _, by rw [ht]; rfl⟩
  · exact ⟨e, w, s.rel.REPLAY_REPLAYED, rfl⟩

/-- Hearing a message neither takes the link down nor moves what it expects (R378). -/
theorem heard_up_rxNext (s : State) (d : Dir) (m : BitVec 128) :
    ((s.heard d m).link d).up = (s.link d).up ∧ ((s.heard d m).link d).rxNext = (s.link d).rxNext := by
  unfold State.heard State.lack
  dsimp only
  split
  · split <;> cases d <;> exact FrmLinkState.drain_up_rxNext ..
  · cases d <;> exact ⟨rfl, rfl⟩

/-- The state in which a sequenced message is applied: the link has heard it, expects the next, and shows the new LACK (R378). -/
def State.taken (s : State) (d : Dir) (m : BitVec 128) : State :=
  ((s.heard d m).linkMod d fun l => { l with rxNext := (l.rxNext + 1) % 256 }).linkSendRaw d (frmMsg 0 (myPos (s.heard d m)) 31 0)

/-- Taking a message changes the links, and the count of replayed words (R378, R478). -/
theorem taken_links (s : State) (d : Dir) (m : BitVec 128) : ∃ e w n, s.taken d m = s.relinked e w n := by
  obtain ⟨e, w, n, hs⟩ := heard_links s d m
  obtain ⟨e', w', ht⟩ := linkMod_links (s.heard d m) d fun l => { l with rxNext := (l.rxNext + 1) % 256 }
  obtain ⟨e'', w'', hu⟩ := linkMod_links ((s.heard d m).withLinks e' w') d
    fun l => { l with last := frmSeal (frmMsg 0 (myPos (s.heard d m)) 31 0) 0 (l.rxNext + 255) }
  exact ⟨e'', w'', n, by rw [State.taken, ht, State.linkSendRaw, hu, hs]; rfl⟩

/-- A sequenced message that is accepted is applied where it names this member, and is relayed where it does not, or names every
member (R376 to R378, R382). -/
theorem received_accepted {s : State} {d : Dir} {m : BitVec 128} {typ : Nat} (f : State → State) (h : frmAccepts s d m typ = true)
    (htyp : 2 < typ) :
    s.received d m typ f = if dstPos s (mDst m) = myPos s then f (s.taken d m)
      else if mDst m = 31 then (f (s.taken d m)).relay d m else (s.taken d m).relay d m := by
  simp only [frmAccepts, Bool.and_eq_true, decide_eq_true_eq] at h
  obtain ⟨⟨⟨⟨⟨⟨halive, hmtyp⟩, hcrc⟩, hlink⟩, hseq⟩, hdef⟩, hsrc⟩ := h
  obtain ⟨hup, hrx⟩ := heard_up_rxNext s d m
  obtain ⟨e, w, n, ht⟩ := taken_links s d m
  have hpos : myPos (s.taken d m) = myPos s := by rw [ht]; rfl
  have hdst : dstPos (s.taken d m) (mDst m) = dstPos s (mDst m) := by rw [ht]; rfl
  have hdefined : typeDefined (s.taken d m) typ = true := by rw [ht]; exact hdef
  unfold State.received
  rw [if_neg (by simp [halive, hmtyp]), if_neg (by simp [hcrc])]
  change (if typ < 2 then f (s.heard d m)
    else if !((s.heard d m).link d).up && decide (typ ≠ 2) then s.heard d m
    else if mLseq m ≠ ((s.heard d m).link d).rxNext then (s.heard d m).linkSendRaw d (frmMsg 0 (myPos (s.heard d m)) 31 0)
    else if !typeDefined (s.taken d m) typ then s.taken d m
    else if mSrc m = myPos (s.taken d m) then (if typ = 2 then f (s.taken d m) else s.taken d m)
    else if dstPos (s.taken d m) (mDst m) = myPos (s.taken d m) then f (s.taken d m)
    else if mDst m = 31 then (f (s.taken d m)).relay d m
    else (s.taken d m).relay d m) = _
  rw [if_neg (by omega), if_neg (by simp [hup, hlink]), if_neg (by simp [hrx, hseq]), if_neg (by simp [hdefined]),
    if_neg (by simp [hpos, hsrc]), hpos, hdst]

/-- A command that is a frame message for this member is its effect on the state that has taken the message. -/
theorem exec_mine {c : Instr} {s : State} {d : Dir} {m : BitVec 128} {typ : Nat} {f : State → State}
    (hc : exec c s = .next (s.received d m typ f)) (h : frmAccepts s d m typ = true) (hm : frmMine s m = true) (htyp : 2 < typ) :
    ∃ e w n, exec c s = .next (f (s.relinked e w n)) := by
  obtain ⟨e, w, n, ht⟩ := taken_links s d m
  exact ⟨e, w, n, by rw [hc, received_accepted f h htyp, if_pos (of_decide_eq_true hm), ht]⟩

/-! ### SHARE (R176, R393) -/

section
variable {s : State} {d : Dir} {m : BitVec 128} (h : frmAccepts s d m 0x09 = true) (hm : frmMine s m = true)
include h hm

/-- A SHARE of the epoch comes into force (R176, R393). -/
theorem exec_frmShare_current (hep : mf m 88 8 = s.tly.EPOCH_NUM) :
    ∃ e w n, exec (.frmShare d m) s = .next ((s.applyShare (mf m 54 32) (mf m 38 16)).relinked e w n) := by
  obtain ⟨e, w, n, run⟩ := exec_mine (c := .frmShare d m) rfl h hm (by decide)
  obtain ⟨e', w', hack⟩ := shareAck_links ((s.relinked e w n).applyShare (mf m 54 32) (mf m 38 16)) (mf m 54 32)
  refine ⟨e', w', n, run.trans (congrArg Host.Outcome.next ?_)⟩
  exact (if_pos hep).trans hack

/-- A SHARE of the next epoch waits for it (R176). -/
theorem exec_frmShare_next (hep : mf m 88 8 ≠ s.tly.EPOCH_NUM) (hnext : mf m 88 8 = (s.tly.EPOCH_NUM + 1) % 256) :
    ∃ e w n, exec (.frmShare d m) s =
      .next { s.relinked e w n with frm.shareNext := some (mf m 54 32, mf m 38 16) } := by
  obtain ⟨e, w, n, run⟩ := exec_mine (c := .frmShare d m) rfl h hm (by decide)
  exact ⟨e, w, n, run.trans (congrArg Host.Outcome.next ((if_neg hep).trans (if_pos hnext)))⟩

/-- A SHARE of any other epoch is discarded (R176). -/
theorem exec_frmShare_other (hep : mf m 88 8 ≠ s.tly.EPOCH_NUM) (hnext : mf m 88 8 ≠ (s.tly.EPOCH_NUM + 1) % 256) :
    ∃ e w n, exec (.frmShare d m) s = .next (s.relinked e w n) := by
  obtain ⟨e, w, n, run⟩ := exec_mine (c := .frmShare d m) rfl h hm (by decide)
  exact ⟨e, w, n, run.trans (congrArg Host.Outcome.next ((if_neg hep).trans (if_neg hnext)))⟩

end

/-! ### Shares given by the reckoner (R393) -/

/-- The member's record with its new share. -/
def State.shareSet (s : State) (m share : Nat) : State := s.memberMod m fun e => { e with SHARE := share }

/-- The reckoner's own share takes effect (R393). -/
theorem shareSend_own (s : State) (kind share : Nat) :
    s.shareSend kind (myPos s) share = (s.shareSet (myPos s) share).applyShare share (memberFloor s (memberOf s (myPos s))) :=
  if_pos rfl

/-- The share of another member leaves on the links (R393). -/
theorem shareSend_other {s : State} (kind share : Nat) {m : Nat} (hm : m ≠ myPos s) :
    ∃ e w, s.shareSend kind m share = (s.shareSet m share).withLinks e w := by
  obtain ⟨e, w, hsend⟩ := frmSend_links (s.shareSet m share) 1 0x09 m
    (sharePay (s.shareSet m share) (if kind = 2 ∧ s.frm.FORM_FMAJ = 2 then 0 else kind) share (memberFloor s (memberOf s m)))
  exact ⟨e, w, (if_neg hm).trans hsend⟩

/-- A share given changes, but for the links, the member's share, and at this member the share and FLOOR in force (R393). -/
theorem shareSend_cases (s : State) (kind m share : Nat) :
    s.shareSend kind m share = (s.shareSet m share).applyShare share (memberFloor s (memberOf s m)) ∨
      ∃ e w, s.shareSend kind m share = (s.shareSet m share).withLinks e w := by
  by_cases hm : m = myPos s
  · subst hm
    exact .inl (shareSend_own ..)
  · exact .inr (shareSend_other kind share hm)

/-- A share given leaves the waves as they are (R393). -/
theorem shareSend_waves (s : State) (kind m share : Nat) :
    (s.shareSend kind m share).frm.wave = s.frm.wave ∧ (s.shareSend kind m share).frm.wave2 = s.frm.wave2 ∧
      (s.shareSend kind m share).frm.v2 = s.frm.v2 := by
  obtain hs | ⟨e, w, hs⟩ := shareSend_cases s kind m share <;> rw [hs] <;> exact ⟨rfl, rfl, rfl⟩

/-- A share given leaves the caps that a member presents as they are (R391). -/
theorem shareSend_caps (s : State) (kind m share p : Nat) :
    (memberOf (s.shareSend kind m share) p).hostCap = (memberOf s p).hostCap ∧
      (memberOf (s.shareSend kind m share) p).rackCap = (memberOf s p).rackCap := by
  have hset : (memberOf (s.shareSet m share) p).hostCap = (memberOf s p).hostCap ∧
      (memberOf (s.shareSet m share) p).rackCap = (memberOf s p).rackCap :=
    ⟨vAt_vMod_proj FrmMember.hostCap _ _ _ _ _ fun _ => rfl, vAt_vMod_proj FrmMember.rackCap _ _ _ _ _ fun _ => rfl⟩
  obtain hs | ⟨e, w, hs⟩ := shareSend_cases s kind m share <;> rw [hs] <;> exact hset

/-- The state as the second wave begins to leave (R393). -/
def State.waveStart (s : State) : State := { s with frm.wave2 := [], frm.v2 := false }

/-- One share of the second wave leaves (R393). -/
def State.waveShare (s : State) (x : Nat × Nat) : State := s.shareSend 1 x.1 x.2

/-- The second wave is its shares, in their order (R393). -/
theorem secondWave_eq (s : State) : s.secondWave = s.frm.wave2.foldl State.waveShare s.waveStart := rfl

/-- The second wave empties both its list and its wait, and leaves the first as it is (R393). -/
theorem secondWave_waves (s : State) : s.secondWave.frm.wave = s.frm.wave ∧ s.secondWave.frm.wave2 = [] ∧ s.secondWave.frm.v2 = false := by
  have keeps (u : State) (x : Nat × Nat) := shareSend_waves u 1 x.1 x.2
  rw [secondWave_eq]
  exact ⟨foldl_proj (fun u : State => u.frm.wave) State.waveShare (fun u x => (keeps u x).1) s.frm.wave2 s.waveStart,
    foldl_proj (fun u : State => u.frm.wave2) State.waveShare (fun u x => (keeps u x).2.1) s.frm.wave2 s.waveStart,
    foldl_proj (fun u : State => u.frm.v2) State.waveShare (fun u x => (keeps u x).2.2) s.frm.wave2 s.waveStart⟩

/-- An answer to the first wave strikes its member; the second leaves once none is awaited (R393). -/
theorem waveDrop_waves {s : State} {p : Nat} (hp : p ∈ s.frm.wave) :
    (s.waveDrop p).frm.wave = s.frm.wave.filter (fun x => x ≠ p) ∧
      ((s.waveDrop p).frm.wave = [] → s.frm.v2 = false → (s.waveDrop p).frm.wave2 = []) ∧
      ((s.waveDrop p).frm.wave ≠ [] → (s.waveDrop p).frm.wave2 = s.frm.wave2 ∧ (s.waveDrop p).adm = s.adm) := by
  have hdrop : s.waveDrop p = ({ s with frm.wave := s.frm.wave.filter fun x => x ≠ p } : State).waveStep :=
    if_pos (List.contains_iff_mem.mpr hp)
  rw [hdrop]
  unfold State.waveStep
  split
  next hdone =>
    obtain ⟨hwave, hwave2, -⟩ := secondWave_waves ({ s with frm.wave := s.frm.wave.filter fun x => x ≠ p } : State)
    simp only [Bool.and_eq_true, List.isEmpty_iff] at hdone
    exact ⟨hwave, fun _ _ => hwave2, fun hne => absurd (hwave.trans hdone.1) hne⟩
  next hwait =>
    simp only [Bool.and_eq_true, List.isEmpty_iff, Bool.not_eq_true', not_and] at hwait
    exact ⟨rfl, fun hnil hv2 => absurd hv2 (hwait hnil), fun _ => ⟨rfl, rfl⟩⟩

/-- A SHARE_ACK of the epoch is an answer to the first wave at the reckoner (R393). -/
theorem exec_frmShareAck {s : State} {d : Dir} {m : BitVec 128} (h : frmAccepts s d m 0x0A = true) (hm : frmMine s m = true)
    (hr : isReckoner s = true) (hep : mf m 88 8 = s.tly.EPOCH_NUM) :
    ∃ e w n, exec (.frmShareAck d m) s = .next ((s.relinked e w n).waveDrop (mSrc m)) := by
  obtain ⟨e, w, n, run⟩ := exec_mine (c := .frmShareAck d m) rfl h hm (by decide)
  refine ⟨e, w, n, run.trans (congrArg Host.Outcome.next (if_pos ?_))⟩
  rw [Bool.and_eq_true, decide_eq_true_eq]
  exact ⟨hr, hep⟩

/-! ### DEMAND and CAP (R390, R391) -/

/-- A DEMAND is kept with its member (R390). -/
theorem exec_frmDemand {s : State} {d : Dir} {m : BitVec 128} (h : frmAccepts s d m 0x0B = true) (hm : frmMine s m = true) :
    ∃ e w n, exec (.frmDemand d m) s =
      .next ((s.relinked e w n).memberMod (mSrc m) fun e => { e with demand := some (mf m 54 32) }) :=
  exec_mine (c := .frmDemand d m) rfl h hm (by decide)

/-- A member's record with the caps it presents. -/
def State.capSet (s : State) (p host rack : Nat) : State := s.memberMod p fun e => { e with hostCap := host, rackCap := rack }

/-- A CAP is kept with its member, and the reckoner sees whether a budget has fallen (R391, R407). -/
theorem exec_frmCap {s : State} {d : Dir} {m : BitVec 128} (h : frmAccepts s d m 0x0C = true) (hm : frmMine s m = true) :
    ∃ e w n, exec (.frmCap d m) s = .next ((s.relinked e w n).capSet (mSrc m) (mf m 64 32) (mf m 32 32)).subFell :=
  exec_mine (c := .frmCap d m) rfl h hm (by decide)

/-- The caps that a member presents, after they are set. -/
theorem memberOf_capSet (s : State) {p : Nat} (hp : p < 24) (host rack : Nat) :
    memberOf (s.capSet p host rack) p = { memberOf s p with hostCap := host, rackCap := rack } := vAt_vMod_same _ _ _ _ hp

/-- FRM_BUDGET alone changes on the FRM page where a budget is set (R391). -/
theorem setBudget_frm (s : State) (b : Nat) : (s.setBudget b).frm = { s.frm with BUDGET := b } := by
  unfold State.setBudget
  dsimp only
  split
  next hsame => rw [hsame]
  next => split <;> simp

/-- What a change of every element leaves alone of each, it leaves alone of each one read. -/
theorem vAt_map_proj {α β : Type} {n : Nat} (p : α → β) (v : Vector α n) (i : Nat) (f : α → α) (d : α) (h : ∀ x, p (f x) = p x) :
    p (vAt (v.map f) i d) = p (vAt v i d) := by
  unfold vAt
  split
  · simp [h]
  · rfl

/-- The state as the cut of a fallen budget begins: the budget in force, and what waits and is held cut in proportion (R394). -/
def State.cutStart (s : State) : State :=
  { s.setBudget (pkgBudget s) with
    frm.bCur := pkgBudget s, frm.wave2 := s.frm.wave2.map fun (x : Nat × Nat) => (x.1, x.2 * pkgBudget s / s.frm.bCur),
    frm.member := s.frm.member.map fun (e : FrmMember) => { e with heldMw := e.heldMw * pkgBudget s / s.frm.bCur } }

/-- One member's share is cut from `c` to `b` (R394). -/
def State.shareCut (b c : Nat) (s : State) (m : Nat) : State := s.shareSend 2 m ((memberOf s m).SHARE * b / c)

/-- Where the package's budget has not fallen, or another member is the reckoner, nothing is cut (R394). -/
theorem budgetFell_none {s : State} (h : ¬(isReckoner s = true ∧ pkgBudget s < s.frm.bCur)) : s.budgetFell = s := by
  refine if_neg ?_
  rwa [Bool.and_eq_true, decide_eq_true_eq]

/-- The reckoner cuts every share when the package's budget falls (R394). -/
theorem budgetFell_cut {s : State} (h : isReckoner s = true ∧ pkgBudget s < s.frm.bCur) :
    s.budgetFell = (liveList24 s.cutStart).foldl (State.shareCut (pkgBudget s) s.frm.bCur) s.cutStart := by
  refine if_pos ?_
  rwa [Bool.and_eq_true, decide_eq_true_eq]

/-- A budget that falls leaves the caps that a member presents as they are (R391, R394). -/
theorem budgetFell_caps (s : State) (p : Nat) :
    (memberOf s.budgetFell p).hostCap = (memberOf s p).hostCap ∧ (memberOf s.budgetFell p).rackCap = (memberOf s p).rackCap := by
  by_cases h : isReckoner s = true ∧ pkgBudget s < s.frm.bCur
  · have keeps (u : State) (m : Nat) := shareSend_caps u 2 m ((memberOf u m).SHARE * pkgBudget s / s.frm.bCur) p
    have hstart : (memberOf s.cutStart p).hostCap = (memberOf s p).hostCap ∧ (memberOf s.cutStart p).rackCap = (memberOf s p).rackCap :=
      ⟨vAt_map_proj FrmMember.hostCap _ _ _ _ fun _ => rfl, vAt_map_proj FrmMember.rackCap _ _ _ _ fun _ => rfl⟩
    rw [budgetFell_cut h, ← hstart.1, ← hstart.2]
    exact ⟨foldl_proj (fun u => (memberOf u p).hostCap) (State.shareCut _ _) (fun u m => (keeps u m).1) _ _,
      foldl_proj (fun u => (memberOf u p).rackCap) (State.shareCut _ _) (fun u m => (keeps u m).2) _ _⟩
  · rw [budgetFell_none h]
    exact ⟨rfl, rfl⟩

/-- A subtree budget that falls acts on the tree's children first, then on the package's budget (R394, R407). -/
theorem subFell_eq (s : State) : ∃ u : State, s.subFell = u.budgetFell ∧ u = { s with tre := u.tre } := by
  unfold State.subFell
  dsimp only
  split
  · exact ⟨s, rfl, rfl⟩
  split
  · exact ⟨_, rfl, by simp [State.eq_of_pages]⟩
  · exact ⟨_, rfl, rfl⟩

/-- A fallen subtree budget leaves the caps that a member presents as they are (R391, R407). -/
theorem subFell_caps (s : State) (p : Nat) :
    (memberOf s.subFell p).hostCap = (memberOf s p).hostCap ∧ (memberOf s.subFell p).rackCap = (memberOf s p).rackCap := by
  obtain ⟨u, hs, hu⟩ := subFell_eq s
  have hcaps := budgetFell_caps u p
  rw [hu] at hcaps
  rw [hs, hu]
  exact hcaps

/-- A member that is not the reckoner cuts no share and sets no budget (R394). -/
theorem subFell_member {s : State} (h : isReckoner s = false) : s.subFell.adm = s.adm ∧ s.subFell.frm = s.frm := by
  obtain ⟨u, hs, hu⟩ := subFell_eq s
  have hr : isReckoner u = false := by
    rw [hu]
    exact h
  rw [hs, budgetFell_none (by simp [hr]), hu]
  exact ⟨rfl, rfl⟩

/-! ### Loans (R175, R176) -/

/-- What a member lends does not depend on its links (R175). -/
theorem lendable_relinked (s : State) (e w : FrmLinkState) (n : Nat) (asked : Nat) : lendable (s.relinked e w n) asked = lendable s asked :=
  rfl

/-- Where nothing can be lent, an ask is declined on the links (R175). -/
theorem exec_frmAsk_declined {s : State} {d : Dir} {m : BitVec 128} (h : frmAccepts s d m 0x10 = true) (hm : frmMine s m = true)
    (hnone : lendable s (mf m 48 32) = 0) : ∃ e w n, exec (.frmAsk d m) s = .next (s.relinked e w n) := by
  obtain ⟨e, w, n, run⟩ := exec_mine (c := .frmAsk d m) rfl h hm (by decide)
  simp only [lendable_relinked, hnone, if_true] at run
  obtain ⟨e', w', hsend⟩ := frmSend_links (s.relinked e w n) _ _ _ _
  exact ⟨e', w', n, run.trans (congrArg Host.Outcome.next hsend)⟩

/-- The state that has lent to a member: the loan, its count, and the number of the member's last one (R175). -/
def State.lent (s : State) (p a : Nat) : State :=
  { s.memberMod p fun e => { e with pseqTx := ((memberOf s p).pseqTx + 1) % 256 } with
    adm.LOAN_OUT := sat 32 (s.adm.LOAN_OUT + a), adm.LOAN_CNT_LENT := satAdd 16 s.adm.LOAN_CNT_LENT 1 }

/-- An ask is lent what R175 leaves. -/
theorem exec_frmAsk_lent {s : State} {d : Dir} {m : BitVec 128} (h : frmAccepts s d m 0x10 = true) (hm : frmMine s m = true)
    (hsome : lendable s (mf m 48 32) ≠ 0) :
    ∃ e w n, exec (.frmAsk d m) s = .next ((s.lent (mSrc m) (lendable s (mf m 48 32))).relinked e w n) := by
  obtain ⟨e, w, n, run⟩ := exec_mine (c := .frmAsk d m) rfl h hm (by decide)
  simp only [lendable_relinked, hsome, if_false] at run
  obtain ⟨e', w', hsend⟩ := frmSend_links ((s.relinked e w n).lent (mSrc m) (lendable s (mf m 48 32))) _ _ _ _
  exact ⟨e', w', n, run.trans (congrArg Host.Outcome.next hsend)⟩

/-- The loan counts where it names the epoch, no drain window is open, and its number has not come before (R176). -/
def loanCounts (s : State) (m : BitVec 128) : Prop :=
  mf m 88 8 = s.tly.EPOCH_NUM ∧ s.tly.EPOCH_DRAIN = false ∧ mf m 80 8 ∉ (memberOf s (mSrc m)).pseqRx

/-- The state that has taken a loan from a member, and remembers its number (R176). -/
def State.borrowed (s : State) (p q a : Nat) : State :=
  { s.askDone.memberMod p fun e => { e with pseqRx := q :: e.pseqRx } with adm.LOAN_IN := sat 32 (s.adm.LOAN_IN + a) }

/-- The number of a loan taken is remembered with its member (R176). -/
theorem borrowed_pseqRx (s : State) {p : Nat} (hp : p < 24) (q a : Nat) : q ∈ (memberOf (s.borrowed p q a) p).pseqRx := by
  have hrec : memberOf (s.borrowed p q a) p = { memberOf s p with pseqRx := q :: (memberOf s p).pseqRx } :=
    vAt_vMod_same s.frm.member p (fun e => { e with pseqRx := q :: e.pseqRx }) {} hp
  rw [hrec]
  exact List.mem_cons_self

section
variable {s : State} {d : Dir} {m : BitVec 128} (h : frmAccepts s d m 0x11 = true) (hm : frmMine s m = true)
include h hm

/-- A LOAN of 0 closes the ask (R175). -/
theorem exec_frmLoan_none (hzero : mf m 48 32 = 0) : ∃ e w n, exec (.frmLoan d m) s = .next (s.askDone.relinked e w n) := by
  obtain ⟨e, w, n, run⟩ := exec_mine (c := .frmLoan d m) rfl h hm (by decide)
  exact ⟨e, w, n, run.trans (congrArg Host.Outcome.next (if_pos hzero))⟩

/-- A LOAN that counts is taken, and its number remembered (R176). -/
theorem exec_frmLoan_taken (hsome : mf m 48 32 ≠ 0) (hcounts : loanCounts s m) :
    ∃ e w n, exec (.frmLoan d m) s = .next ((s.borrowed (mSrc m) (mf m 80 8) (mf m 48 32)).relinked e w n) := by
  obtain ⟨hep, hdrain, hnew⟩ := hcounts
  obtain ⟨e, w, n, run⟩ := exec_mine (c := .frmLoan d m) rfl h hm (by decide)
  refine ⟨e, w, n, run.trans (congrArg Host.Outcome.next ((if_neg hsome).trans (if_pos ?_)))⟩
  change (decide (mf m 88 8 = s.tly.EPOCH_NUM) && !s.tly.EPOCH_DRAIN && !(memberOf s (mSrc m)).pseqRx.contains (mf m 80 8)) = true
  simp [hep, hdrain, hnew]

/-- A LOAN that does not count is discarded, counted and recorded (R176). -/
theorem exec_frmLoan_discarded (hsome : mf m 48 32 ≠ 0) (hnot : ¬ loanCounts s m) :
    ∃ e w n, exec (.frmLoan d m) s = .next
      (({ s.askDone with adm.LOAN_CNT_DISC := satAdd 16 s.adm.LOAN_CNT_DISC 1 }.relinked e w n).event 0x0315 [mSrc m, mf m 88 8]) := by
  obtain ⟨e, w, n, run⟩ := exec_mine (c := .frmLoan d m) rfl h hm (by decide)
  refine ⟨e, w, n, run.trans (congrArg Host.Outcome.next ((if_neg hsome).trans (if_neg ?_)))⟩
  change ¬(decide (mf m 88 8 = s.tly.EPOCH_NUM) && !s.tly.EPOCH_DRAIN && !(memberOf s (mSrc m)).pseqRx.contains (mf m 80 8)) = true
  simpa [loanCounts, and_assoc] using hnot

end

/-! ### DEMAND leaves (R390) -/

/-- The demand that a member sends, mW (R390). -/
def demandNow (s : State) : Nat := sat 32 (max s.frm.peak (pBase s + pBooked s))

section
variable {s : State} (hst : s.frm.FORM_STATE = 2) (hnew : s.frm.demandSent = false)
  (hdue : s.tly.lenInForce ≤ s.usSince s.tly.bndAt + 64)
include hst hnew hdue

/-- The reckoner keeps its own demand (R390). -/
theorem exec_demandSend_reckoner (hr : isReckoner s = true) :
    exec .demandSend s =
      .next (({ s with frm.demandSent := true } : State).memberMod (myPos s) fun e => { e with demand := some (demandNow s) }) :=
  congrArg Host.Outcome.next ((if_pos ⟨hst, hnew, hdue⟩).trans (if_pos hr))

/-- Any other member sends its demand (R390). -/
theorem exec_demandSend_member (hr : isReckoner s = false) :
    ∃ e w, exec .demandSend s = .next (({ s with frm.demandSent := true } : State).withLinks e w) := by
  obtain ⟨e, w, hsend⟩ := frmSend_links ({ s with frm.demandSent := true } : State) 1 0x0B 29
    (s.tly.EPOCH_NUM * 2 ^ 88 + demandNow s * 2 ^ 54)
  have hno : ¬ isReckoner ({ s with frm.demandSent := true } : State) = true := by
    change ¬ isReckoner s = true
    simp [hr]
  exact ⟨e, w, congrArg Host.Outcome.next ((if_pos ⟨hst, hnew, hdue⟩).trans ((if_neg hno).trans hsend))⟩

end

/-! ### What runs out (R386, R397, R398) -/

/-- A member isolated for half of HOLD is cut to its FLOOR (R398). -/
theorem exec_isolationCut {s : State} {a : Nat} (hiso : s.frm.isoAt = some a) (hcut : s.frm.isoCut = false)
    (hdue : s.after a (s.frm.CFG * ticksPerMs / 2) = true) :
    exec .isolationCut s = .next
      (({ s with adm.SHARE := min s.adm.SHARE (1000 * s.frm.floorRx), frm.isoCut := true } : State).fault pgFrm 21 0x0D19 [s.frm.floorRx]) := by
  change execIsolationCut s = _
  simp [execIsolationCut, hiso, hcut, hdue]

/-- The member's record once its held share is freed down to FLOOR (R397). -/
def heldFreed (s : State) (e : FrmMember) : FrmMember := { e with heldMw := min e.heldMw (1000 * memberFloor s e), heldCut := true }

/-- A held share falls to FLOOR after HOLD, and the difference is reported (R397). -/
theorem exec_heldShareFree {s : State} {m : Fin 24} (hheld : 0 < s.frm.member[m].heldMw) (hcut : s.frm.member[m].heldCut = false)
    (hdue : s.after s.frm.member[m].heldAt (max 1 s.frm.CFG * ticksPerMs) = true) :
    ∃ v, exec (.heldShareFree m) s = .next
      (({ s with frm.member := s.frm.member.set m (heldFreed s s.frm.member[m]) } : State).event 0x0D1A v) := by
  have hmem : memberOf s m.val = s.frm.member[m] := dif_pos m.isLt
  have run : exec (.heldShareFree m) s = execHeldShareFree m s := rfl
  simp only [execHeldShareFree, hmem, hheld, hcut, hdue, and_self, if_true, State.memberMod, vMod_fin] at run
  exact ⟨_, run⟩

/-- At major version 2 the second wave leaves once its time has come (R386). -/
theorem exec_secondWave {s : State} (hv2 : s.frm.v2 = true) (hdue : s.after s.frm.v2At 256 = true) :
    exec .secondWave s = .next s.secondWave :=
  congrArg Host.Outcome.next (if_pos (by rw [Bool.and_eq_true]; exact ⟨hv2, hdue⟩))

/-- A member's share once it is given. -/
theorem memberOf_shareSet (s : State) {m : Nat} (hm : m < 24) (share : Nat) : (memberOf (s.shareSet m share) m).SHARE = share := by
  rw [State.shareSet]
  exact congrArg FrmMember.SHARE (vAt_vMod_same s.frm.member m (fun e => { e with SHARE := share }) {} hm)

/-- A second wave of this member's own share alone takes effect (R393). -/
theorem secondWave_own {s : State} {w : Nat} (hone : s.frm.wave2 = [(myPos s, w)]) :
    s.secondWave = (s.waveStart.shareSet (myPos s) w).applyShare w (memberFloor s (memberOf s (myPos s))) := by
  rw [secondWave_eq, hone]
  exact shareSend_own s.waveStart 1 w

/-- A second wave of one other member's share leaves on the links (R393). -/
theorem secondWave_other {s : State} {p share : Nat} (hone : s.frm.wave2 = [(p, share)]) (hp : p ≠ myPos s) :
    ∃ e w, s.secondWave = (s.waveStart.shareSet p share).withLinks e w := by
  rw [secondWave_eq, hone]
  exact shareSend_other (s := s.waveStart) 1 share hp

end Sys2Proof.Machine
end

section
namespace Sys2Proof.Proofs

open Sys2Proof Sys2Proof.Machine

/-- Settles O53: each message is its effect on the state that has taken it, which differs in its links alone (`exec_mine`); the waves
are `waveDrop_waves` and `secondWave_waves`, and a fallen budget is `subFell_caps` and `subFell_member`. -/
theorem sharesRun : Obligations.SharesRun := by
  unfold Obligations.SharesRun
  refine ⟨fun s d m hsrc => ⟨?share, ?ack, ?demand, ?cap, ?ask, ?loan, ?send⟩, fun s => ⟨?isolation, ?held, ?wave⟩⟩
  case share =>
    intro h hm
    refine ⟨fun hep => ?_, fun hep hnext => ?_, fun hep hnext => ?_⟩
    · obtain ⟨e, w, n, run⟩ := exec_frmShare_current h hm hep
      exact ⟨_, run, rfl, rfl, rfl, rfl, rfl⟩
    · obtain ⟨e, w, n, run⟩ := exec_frmShare_next h hm hep hnext
      exact ⟨_, run, rfl, rfl⟩
    · obtain ⟨e, w, n, run⟩ := exec_frmShare_other h hm hep hnext
      exact ⟨_, run, rfl, rfl⟩
  case ack =>
    intro h hm hr hep hwave
    obtain ⟨e, w, n, run⟩ := exec_frmShareAck h hm hr hep
    obtain ⟨hfirst, hlast, hmore⟩ := waveDrop_waves (s := s.relinked e w n) hwave
    exact ⟨_, run, hfirst, hlast, hmore, by simp [State.eq_of_pages, State.relinked, State.withLinks]⟩
  case demand =>
    intro h hm
    obtain ⟨e, w, n, run⟩ := exec_frmDemand h hm
    exact ⟨_, run, rfl, rfl⟩
  case cap =>
    intro h hm
    obtain ⟨e, w, n, run⟩ := exec_frmCap h hm
    obtain ⟨hhost, hrack⟩ := subFell_caps ((s.relinked e w n).capSet (mSrc m) (mf m 64 32) (mf m 32 32)) (mSrc m)
    rw [memberOf_capSet _ hsrc] at hhost hrack
    refine ⟨_, run, hhost, hrack, fun hr => ?_, ?_⟩
    · obtain ⟨hadm, hfrm⟩ := subFell_member (s := (s.relinked e w n).capSet (mSrc m) (mf m 64 32) (mf m 32 32)) hr
      exact ⟨hadm, (congrArg Frm.BUDGET hfrm).trans rfl⟩
    · simp [State.eq_of_pages, State.capSet, State.relinked, State.withLinks]
  case ask =>
    intro h hm
    refine ⟨fun hnone => ?_, fun hsome => ?_⟩
    · obtain ⟨e, w, n, run⟩ := exec_frmAsk_declined h hm hnone
      exact ⟨_, run, rfl, rfl⟩
    · obtain ⟨e, w, n, run⟩ := exec_frmAsk_lent h hm hsome
      exact ⟨_, run, rfl, rfl⟩
  case loan =>
    intro h hm
    refine ⟨fun hzero => ?_, fun hsome hep hdrain hnew => ?_, fun hsome hnot => ?_⟩
    · obtain ⟨e, w, n, run⟩ := exec_frmLoan_none h hm hzero
      exact ⟨_, run, rfl, rfl⟩
    · obtain ⟨e, w, n, run⟩ := exec_frmLoan_taken h hm hsome ⟨hep, hdrain, hnew⟩
      exact ⟨_, run, rfl, borrowed_pseqRx s hsrc (mf m 80 8) (mf m 48 32), rfl⟩
    · have hdisc : ¬ loanCounts s m := by
        rintro ⟨hep, hdrain, hnew⟩
        rcases hnot with hother | hopen | hseen
        · exact hother hep
        · simp [hdrain] at hopen
        · exact hnew hseen
      obtain ⟨e, w, n, run⟩ := exec_frmLoan_discarded h hm hsome hdisc
      exact ⟨_, run, by simp [State.relinked, State.withLinks], by simp [State.relinked, State.withLinks],
        by simp [State.eq_of_pages, State.relinked, State.withLinks]⟩
  case send =>
    intro hst hnew hdue
    cases hr : isReckoner s with
    | true =>
      refine ⟨_, exec_demandSend_reckoner hst hnew hdue hr, rfl, fun _ hpos => ?_, nofun, rfl⟩
      exact congrArg FrmMember.demand (vAt_vMod_same s.frm.member (myPos s) _ {} hpos)
    | false =>
      obtain ⟨e, w, run⟩ := exec_demandSend_member hst hnew hdue hr
      exact ⟨_, run, rfl, nofun, fun _ => rfl, rfl⟩
  case isolation =>
    intro a hiso hcut hdue
    exact ⟨_, exec_isolationCut hiso hcut hdue, by simp, by simp, fault_bit .., by simp [State.eq_of_pages]⟩
  case held =>
    intro m hheld hcut hdue
    obtain ⟨v, run⟩ := exec_heldShareFree hheld hcut hdue
    exact ⟨_, run, by simp [heldFreed], by simp [State.eq_of_pages]⟩
  case wave =>
    intro hv2 hdue
    obtain ⟨-, hwave2, hv2'⟩ := secondWave_waves s
    refine ⟨_, exec_secondWave hv2 hdue, hv2', hwave2, fun w hone hpos => ?_, fun p w hone hne hp => ?_, ?_⟩
    · rw [secondWave_own hone]
      exact ⟨rfl, memberOf_shareSet s.waveStart hpos w⟩
    · obtain ⟨e, l, hw⟩ := secondWave_other hone hne
      rw [hw]
      exact ⟨rfl, memberOf_shareSet s.waveStart hp w⟩
    · simp [State.eq_of_pages]

/-- Member 0 of a formed frame of two, its reckoner, in a live instance: its east link is up, its first wave waits for member 1, and
member 1's raised share waits for that. -/
def ringState : State :=
  { liveReset with
    frm := { liveReset.frm with
      FORM_STATE := 2, FORM_FMAJ := 3, ROLE_RECKONER := 0, ROSTER := 3, size := 2, wave := [1], wave2 := [(1, 700)],
      east := { up := true } } }

/-- A message of member 1 for member 0, the first on its link. -/
def ringMsg (typ pay : Nat) : BitVec 128 := frmSeal (frmMsg typ 1 0 pay) 0 0

/-- SHARE of epoch 0: 5 mW, FLOOR 3 W. -/
def shareMsg : BitVec 128 := ringMsg 0x09 (5 * 2 ^ 54 + 3 * 2 ^ 38)

/-- `sharesRun` applies: the SHARE comes into force. -/
theorem ringState_share : ∃ t, exec (.frmShare .east shareMsg) ringState = .next t ∧ t.adm.SHARE = 5 ∧ t.frm.floorRx = 3 := by
  obtain ⟨frames, -⟩ := sharesRun
  obtain ⟨share, -⟩ := frames ringState .east shareMsg (by decide +kernel)
  obtain ⟨current, -⟩ := share (by decide +kernel) (by decide +kernel)
  obtain ⟨t, run, hshare, hfloor, -⟩ := current (by decide +kernel)
  exact ⟨t, run, hshare.trans (by decide +kernel), hfloor.trans (by decide +kernel)⟩

/-- SHARE_ACK of epoch 0, for a share of 5 mW. -/
def shareAckMsg : BitVec 128 := ringMsg 0x0A (5 * 2 ^ 54)

/-- `sharesRun` applies: the last answer lets the second wave go. -/
theorem ringState_shareAck :
    ∃ t, exec (.frmShareAck .east shareAckMsg) ringState = .next t ∧ t.frm.wave = [] ∧ t.frm.wave2 = [] := by
  obtain ⟨frames, -⟩ := sharesRun
  obtain ⟨-, ack, -⟩ := frames ringState .east shareAckMsg (by decide +kernel)
  obtain ⟨t, run, hwave, hdone, -⟩ := ack (by decide +kernel) (by decide +kernel) (by decide) (by decide +kernel) (by decide +kernel)
  have hnil : t.frm.wave = [] := hwave.trans (by decide +kernel)
  exact ⟨t, run, hnil, hdone hnil rfl⟩

/-- LOAN of 9 mW in epoch 0, the first from member 1. -/
def loanMsg : BitVec 128 := ringMsg 0x11 (1 * 2 ^ 80 + 9 * 2 ^ 48)

/-- `sharesRun` applies: the loan counts. -/
theorem ringState_loan : ∃ t, exec (.frmLoan .east loanMsg) ringState = .next t ∧ t.adm.LOAN_IN = 9 := by
  obtain ⟨frames, -⟩ := sharesRun
  obtain ⟨-, -, -, -, -, loan, -⟩ := frames ringState .east loanMsg (by decide +kernel)
  obtain ⟨-, counts, -⟩ := loan (by decide +kernel) (by decide +kernel)
  obtain ⟨t, run, hadm, -⟩ := counts (by decide +kernel) (by decide +kernel) rfl (by decide +kernel)
  exact ⟨t, run, by rw [hadm]; decide +kernel⟩

/-- Member 0 isolated at tick 0 with a share of 5 mW above its FLOOR, HOLD at 0. -/
def isolatedState : State :=
  { liveReset with adm := { liveReset.adm with SHARE := 5 }, frm := { liveReset.frm with CFG := 0, isoAt := some 0 } }

/-- `sharesRun` applies: the isolated member is cut to its FLOOR. -/
theorem isolatedState_cut : ∃ t, exec .isolationCut isolatedState = .next t ∧ t.adm.SHARE = 0 := by
  obtain ⟨-, timers⟩ := sharesRun
  obtain ⟨isolation, -⟩ := timers isolatedState
  obtain ⟨t, run, hadm, -⟩ := isolation 0 rfl rfl (by decide)
  exact ⟨t, run, by rw [hadm]; rfl⟩

end Sys2Proof.Proofs
end

section

/-! PROOFS. The boundary instant and the end of the drain window (R168, R173, R174, R179 to R184, R388, R389). -/

namespace Sys2Proof.Machine

open Sys2Proof

/-! ### The rows of the tally (R161 to R164) -/

/-- STATE of a stored row after it is set (R163). -/
theorem rowSt_mkRow (xfer : Bool) (st beads rail owner origin epoch row : Nat) :
    rowSt (mkRow xfer st beads rail owner origin epoch row) = st % 8 := by
  unfold rowSt bitsOf mkRow b2n
  rw [Nat.shiftRight_eq_div_pow]
  split <;> omega

/-- STATE of a stored row put in another state (R163). -/
theorem rowSt_rowToSt (w st : Nat) : rowSt (rowToSt w st) = st % 8 := rowSt_mkRow ..

/-- A place that reads other than an unlisted one is listed. -/
theorem mem_of_memRead_ne {α : Type} {d : α} {m : List (Nat × α)} {a : Nat} (h : memRead d m a ≠ d) : (a, memRead d m a) ∈ m := by
  induction m with
  | nil => exact absurd rfl h
  | cons x m ih =>
    obtain ⟨k, v⟩ := x
    unfold memRead at h ⊢
    split at h
    next hk =>
      subst hk
      rw [if_pos rfl]
      exact List.mem_cons_self
    next hk =>
      split at h
      · exact absurd rfl h
      next hlt =>
        rw [if_neg hk, if_neg hlt]
        exact List.mem_cons_of_mem _ (ih h)

/-- A step on row `i` writes that row alone, keeps the row memory canonical, and leaves no word there that `p` holds of. -/
def clearsRow (p : Nat → Bool) (f : State → Nat → State) : Prop :=
  ∀ s i, memWf 0 s.tly.rows = true → memWf 0 (f s i).tly.rows = true ∧ ∀ j, p (rowW (f s i) j) = true → j ≠ i ∧ p (rowW s j) = true

/-- A row written to a word that `p` does not hold of is cleared of it. -/
theorem clearsRow_of_rows {p : Nat → Bool} {f : State → Nat → State} {g : Nat → Nat}
    (hf : ∀ s i, (f s i).tly.rows = (s.setRow i (g (rowW s i))).tly.rows)
    (hp : ∀ w, p (g w) = false) : clearsRow p f := by
  intro s i hwf
  refine ⟨by rw [hf]; exact memWf_memWrite _ _ _ _ hwf, fun j hj => ?_⟩
  rw [rowW_congr (hf s i)] at hj
  by_cases hji : j = i
  · subst hji
    rw [rowW_setRow_same _ _ hwf, hp] at hj
    exact absurd hj (by decide)
  · rw [rowW_setRow_other _ _ hwf hji] at hj
    exact ⟨hji, hj⟩

/-- Steps that each clear a row of `p` clear every row of a list. -/
theorem foldl_clearsRow {p : Nat → Bool} {f : State → Nat → State} (hf : clearsRow p f) (l : List Nat) {s : State}
    (hwf : memWf 0 s.tly.rows = true) :
    memWf 0 (l.foldl f s).tly.rows = true ∧ ∀ j, p (rowW (l.foldl f s) j) = true → j ∉ l ∧ p (rowW s j) = true := by
  induction l generalizing s with
  | nil => exact ⟨hwf, fun j hj => ⟨List.not_mem_nil, hj⟩⟩
  | cons i l ih =>
    obtain ⟨hwf', hclear⟩ := hf s i hwf
    obtain ⟨hend, hrest⟩ := ih hwf'
    refine ⟨hend, fun j hj => ?_⟩
    obtain ⟨hl, hp⟩ := hrest j hj
    obtain ⟨hne, hp'⟩ := hclear j hp
    exact ⟨by simp [hne, hl], hp'⟩

/-- The rows whose stored words `p` holds of. -/
def rowsWith (s : State) (p : Nat → Bool) : List Nat := (s.tly.rows.filter fun x => p x.2).map (·.1)

/-- Every row whose stored word `p` holds of is among them, where it does not hold of 0. -/
theorem mem_rowsWith {s : State} {p : Nat → Bool} (h0 : p 0 = false) {j : Nat} (hj : p (rowW s j) = true) : j ∈ rowsWith s p := by
  have hne : rowW s j ≠ 0 := fun h => by rw [h, h0] at hj; exact absurd hj (by decide)
  exact List.mem_map.mpr ⟨_, List.mem_filter.mpr ⟨mem_of_memRead_ne hne, hj⟩, rfl⟩

/-- Clearing every row that `p` holds of leaves none that it holds of. -/
theorem foldl_rowsWith {p : Nat → Bool} {f : State → Nat → State} (hf : clearsRow p f) (h0 : p 0 = false) {s : State}
    (hwf : memWf 0 s.tly.rows = true) :
    memWf 0 ((rowsWith s p).foldl f s).tly.rows = true ∧ ∀ j, p (rowW ((rowsWith s p).foldl f s) j) = false := by
  obtain ⟨hwf', hclear⟩ := foldl_clearsRow hf (rowsWith s p) hwf
  refine ⟨hwf', fun j => Bool.eq_false_iff.mpr fun hj => ?_⟩
  obtain ⟨hnot, hp⟩ := hclear j hj
  exact hnot (mem_rowsWith h0 hp)

/-! ### The rows close at a boundary (R180, R181) -/

/-- A live row after the boundary has closed it. -/
def State.closed (s : State) (i : Nat) : State := (s.closeRow i).2

/-- A row closes into QUAR (R180). -/
theorem closed_rows (s : State) (i : Nat) : (s.closed i).tly.rows = (s.setRow i (rowToSt (rowW s i) 3)).tly.rows := by
  unfold State.closed State.closeRow
  dsimp only
  split
  · split
    all_goals exact retire_rows (s.dropWords i true) i
  · exact retire_rows s i

/-- The tally but for its rows, what is kept with each of them, and the lists of rows. -/
def Tly.sansRows (t : Tly) : Tly :=
  { t with rows := [], ROW_STAT_STALE := false, timer := [], seqNo := [], armedQ := [], armQ := [], freed := [], maps := [], spNext := 0,
           ROWCAP_SPARE_FREE := 0, ROWCAP_USABLE := 0, FAULT_CNT_SPARED := 0, lost := [] }

/-- In the drain window a row that retires leaves the books as they are (R164). -/
theorem retire_sansRows {s : State} (hdrain : s.tly.EPOCH_DRAIN = true) (i : Nat) : (s.retire i).tly.sansRows = s.tly.sansRows := by
  unfold State.retire
  dsimp only
  rw [if_pos (by exact hdrain)]
  rfl

/-- In the drain window a row that closes leaves the books as they are (R164, R180). -/
theorem closed_sansRows {s : State} (hdrain : s.tly.EPOCH_DRAIN = true) (i : Nat) : (s.closed i).tly.sansRows = s.tly.sansRows := by
  unfold State.closed State.closeRow
  dsimp only
  split
  · split
    all_goals exact retire_sansRows (s := s.dropWords i true) hdrain i
  · exact retire_sansRows hdrain i

/-- The fold over the live rows carries the withdrawals along, and closes each row. -/
theorem closeRow_foldl_snd (l : List Nat) (q : List OutWord) (s : State) :
    (l.foldl (fun (a : List OutWord × State) i => let y := a.2.closeRow i; (a.1 ++ y.1, y.2)) (q, s)).2 = l.foldl State.closed s := by
  induction l generalizing q s with
  | nil => rfl
  | cons i l ih => exact ih _ _

/-- The live rows, closed one after the other (R180). -/
def State.allClosed (s : State) : State := (liveList s).foldl State.closed s

/-- Once every live row has closed, the withdrawals join the queue, and its head rises (R180, R181). -/
theorem closeRows_eq (s : State) : ∃ q, s.closeRows = ({ s.allClosed with adm.outQ := q } : State).outRise := by
  have hsnd := closeRow_foldl_snd (liveList s) [] s
  unfold State.closeRows
  generalize (liveList s).foldl _ (([] : List OutWord), s) = x at hsnd ⊢
  obtain ⟨q, u⟩ := x
  subst hsnd
  exact ⟨_, rfl⟩

/-- A word that rises changes no more than a row's timer (R137). -/
theorem outRise_sansRows (s : State) : s.outRise.tly.sansRows = s.tly.sansRows := by
  unfold State.outRise
  split
  · rfl
  split
  · split <;> rfl
  · rfl

/-- After the rows have closed no row is live (R180). -/
theorem closeRows_liveW {s : State} (hwf : memWf 0 s.tly.rows = true) (j : Nat) : liveW (rowW s.closeRows j) = false := by
  have hclear : clearsRow liveW State.closed :=
    clearsRow_of_rows (g := fun w => rowToSt w 3) closed_rows fun w => by simp [liveW, rowSt_rowToSt]
  obtain ⟨-, hnone⟩ := foldl_rowsWith hclear (by decide) hwf
  obtain ⟨q, hs⟩ := closeRows_eq s
  rw [hs, rowW_congr (State.outRise_rows _)]
  exact hnone j

/-- In the drain window the rows close and leave the books as they are (R164, R180). -/
theorem closeRows_sansRows {s : State} (hdrain : s.tly.EPOCH_DRAIN = true) : s.closeRows.tly.sansRows = s.tly.sansRows := by
  have hfold (l : List Nat) : ∀ u : State, u.tly.EPOCH_DRAIN = true → (l.foldl State.closed u).tly.sansRows = u.tly.sansRows := by
    induction l with
    | nil => exact fun _ _ => rfl
    | cons i l ih =>
      intro u hu
      have hone := closed_sansRows hu i
      exact (ih (u.closed i) ((congrArg Tly.EPOCH_DRAIN hone).trans hu)).trans hone
  obtain ⟨q, hs⟩ := closeRows_eq s
  rw [hs, outRise_sansRows]
  exact hfold (liveList s) s hdrain

/-! ### The loans, and the frame sequence number -/

/-- The loans of the epoch and FSEQ: what a boundary clears, and what the reckoner counts (R176, R180, R388). -/
def State.loansSeq (s : State) : Nat × Nat × Nat := (s.adm.LOAN_IN, s.adm.LOAN_OUT, s.frm.FSEQ)

/-- A row that retires leaves the loans and FSEQ as they are. -/
theorem retire_loansSeq (s : State) (i : Nat) : (s.retire i).loansSeq = s.loansSeq := by
  unfold State.retire State.book State.dropWords
  dsimp only
  repeat' split
  all_goals simp [State.loansSeq]

/-- A row that closes leaves the loans and FSEQ as they are. -/
theorem closed_loansSeq (s : State) (i : Nat) : (s.closed i).loansSeq = s.loansSeq := by
  unfold State.closed State.closeRow
  dsimp only
  split
  · split
    all_goals exact retire_loansSeq (s.dropWords i true) i
  · exact retire_loansSeq s i

/-- The rows that close leave the loans and FSEQ as they are. -/
theorem closeRows_loansSeq (s : State) : s.closeRows.loansSeq = s.loansSeq := by
  obtain ⟨q, hs⟩ := closeRows_eq s
  have hrise (u : State) : u.outRise.loansSeq = u.loansSeq := by simp [State.loansSeq]
  rw [hs, hrise]
  exact foldl_proj State.loansSeq State.closed closed_loansSeq (liveList s) s

/-- A share given leaves the loans and FSEQ as they are. -/
theorem shareSend_loansSeq (s : State) (kind m share : Nat) : (s.shareSend kind m share).loansSeq = s.loansSeq := by
  obtain hs | ⟨e, w, hs⟩ := shareSend_cases s kind m share <;> rw [hs] <;> rfl

/-- The second wave leaves the loans and FSEQ as they are. -/
theorem waveStep_loansSeq (s : State) : s.waveStep.loansSeq = s.loansSeq := by
  unfold State.waveStep
  split
  · rw [secondWave_eq]
    exact foldl_proj State.loansSeq State.waveShare (fun u x => shareSend_loansSeq u 1 x.1 x.2) s.frm.wave2 s.waveStart
  · rfl

/-- A budget that is set leaves the loans and FSEQ as they are. -/
theorem setBudget_loansSeq (s : State) (b : Nat) : (s.setBudget b).loansSeq = s.loansSeq := by
  simp [State.loansSeq, setBudget_frm]

/-- A member's CAP changes the links alone, and the reckoner sends none (R391). -/
theorem memberOpen_links (s : State) : ∃ e w, s.memberOpen = s.withLinks e w := by
  by_cases hr : isReckoner s = true
  · exact ⟨s.frm.east, s.frm.west, if_pos hr⟩
  · rw [State.memberOpen, if_neg hr]
    unfold State.sendCap
    split
    · exact ⟨s.frm.east, s.frm.west, rfl⟩
    · exact frmSend_links ..

/-- A shown state that changes leaves the loans and FSEQ as they are. -/
theorem settle_loansSeq (s : State) (c : Nat) : (s.settle c).loansSeq = s.loansSeq := by
  simp [State.loansSeq]

/-- A message relayed leaves the loans and FSEQ as they are. -/
theorem relay_loansSeq (s : State) (d : Dir) (m : BitVec 128) : (s.relay d m).loansSeq = s.loansSeq := by
  obtain ⟨e, w, hs⟩ := relay_links s d m
  rw [hs]
  rfl

/-- The split of a boundary leaves the loans and FSEQ as they are (R392). -/
theorem splitShares_loansSeq (s : State) : s.splitShares.loansSeq = s.loansSeq := by
  unfold State.splitShares
  rw [waveStep_loansSeq, foldl_proj State.loansSeq (fun (u : State) (x : Nat × Nat) => u.shareSend 0 x.1 x.2)
    (fun u x => shareSend_loansSeq u 0 x.1 x.2)]
  simp [State.loansSeq, setBudget_frm]

/-- The reckoner counts FSEQ once at a boundary, and leaves the loans as they are (R388). -/
theorem reckon_loansSeq (s : State) :
    s.reckon.loansSeq = (s.adm.LOAN_IN, s.adm.LOAN_OUT, (s.frm.FSEQ + 1) % 2 ^ 24) := by
  let counted : State := { s with frm.FSEQ := (s.frm.FSEQ + 1) % 2 ^ 24 }
  have hsplit : counted.treSplit.loansSeq = counted.loansSeq := by simp [State.loansSeq]
  unfold State.reckon
  rw [splitShares_loansSeq]
  obtain ⟨e, w, hsend⟩ := frmSend_links counted.treSplit 0 0x08 31
    (boundaryPay counted.treSplit s.tly.lenInForce (if counted.treSplit.frm.succ then counted.treSplit.frm.lastBudget else pkgBudget counted.treSplit))
  exact (congrArg State.loansSeq hsend).trans hsplit

/-- A SHARE that waited leaves the loans and FSEQ as they are (R176). -/
theorem shareOpen_loansSeq (s : State) (next : Bool) : (s.shareOpen next).loansSeq = s.loansSeq := by
  unfold State.shareOpen
  split
  next share floor _ =>
    dsimp only
    split
    · obtain ⟨e, w, hack⟩ := shareAck_links ({ s with frm.shareNext := none }.applyShare share floor) share
      rw [hack]
      rfl
    · rfl
  · rfl

/-- The image fields of a page leave alone what no record of it sets. -/
theorem imgPage_proj {α β : Type} (p : α → β) (im : Image) (page : Nat) {set : Nat → Nat → α → α}
    (h : ∀ off w x, p (set off w x) = p x)
    (cold : α) : p (imgPage im page set cold) = p cold :=
  foldl_proj p (fun (x : α) (e : Nat × Nat × Nat) => set e.2.1 e.2.2 x) (fun x e => h e.2.1 e.2.2 x) _ cold

/-- No image record sets a loan (R465). -/
theorem imgSetAdm_loans (off w : Nat) (p : Adm) : ((imgSetAdm off w p).LOAN_IN, (imgSetAdm off w p).LOAN_OUT) = (p.LOAN_IN, p.LOAN_OUT) := by
  unfold imgSetAdm
  repeat' split
  all_goals rfl

/-- No image record sets FSEQ (R465). -/
theorem imgSetFrm_fseq (off w : Nat) (p : Frm) : (imgSetFrm off w p).FSEQ = p.FSEQ := by
  unfold imgSetFrm
  repeat' split
  all_goals rfl

/-- An image leaves the loans and FSEQ as they are (R465). -/
theorem imgApply_loansSeq (s : State) (im : Image) : (s.imgApply im).loansSeq = s.loansSeq := by
  have hloans : ((im.adm s.adm).LOAN_IN, (im.adm s.adm).LOAN_OUT) = (s.adm.LOAN_IN, s.adm.LOAN_OUT) :=
    imgPage_proj (fun p : Adm => (p.LOAN_IN, p.LOAN_OUT)) im 3 imgSetAdm_loans _
  have hseq : (imgPage im 13 imgSetFrm (imgColdFrmPage s.frm)).FSEQ = s.frm.FSEQ := imgPage_proj Frm.FSEQ im 13 imgSetFrm_fseq _
  obtain ⟨hin, hout⟩ := Prod.mk.inj hloans
  exact Prod.ext hin (Prod.ext hout hseq)

/-- A pending activation, or what becomes of it, leaves the loans and FSEQ as they are (R469, R470). -/
theorem activationStep_loansSeq (s : State) : s.activationStep.loansSeq = s.loansSeq := by
  unfold State.activationStep
  split
  · rfl
  split
  · simp [State.loansSeq]
  split
  next im _ =>
    have happly := imgApply_loansSeq { s with stg.act := some im, stg.holds := true, seq.imgOn := true } im
    simpa [State.loansSeq, State.switchIn] using happly
  next =>
    split
    · simp [State.loansSeq]
    · simp [State.loansSeq]

/-! ### The tally at a boundary (R180) -/

/-- A change of one element that a map over all of them forgets leaves the mapped register as it is. -/
theorem map_vMod {α β : Type} {n : Nat} (v : Vector α n) (i : Nat) {f : α → α} {g : α → β} (h : ∀ x, g (f x) = g x) :
    (vMod v i f).map g = v.map g := by
  unfold vMod
  split
  · ext j hj
    by_cases hij : i = j <;> simp [hij, h]
  · rfl

/-- A rail's record but for its policing (R157). -/
def TlyRail.sansPol (e : TlyRail) : TlyRail := { e with pol := 15, polLow := 15, isUn := false, polOver := 0, polUnder := 0 }

/-- The tally but for the policing of its rails (R157). -/
def Tly.sansPol (t : Tly) : Tly := { t with rail := t.rail.map TlyRail.sansPol }

/-- Tallies that differ in the policing of their rails alone agree in the rest. -/
theorem eq_of_sansPol {t u : Tly} (h : t.sansPol = u.sansPol) :
    t.EPOCH_NUM = u.EPOCH_NUM ∧ t.grants = u.grants ∧ t.peak = u.peak ∧ t.rows = u.rows ∧
      ∀ r : Fin 16, t.rail[r].BOOK_BOOKED = u.rail[r].BOOK_BOOKED := by
  refine ⟨(congrArg Tly.EPOCH_NUM h :), (congrArg Tly.grants h :), (congrArg Tly.peak h :), (congrArg Tly.rows h :), fun r => ?_⟩
  have hrail : t.rail.map TlyRail.sansPol = u.rail.map TlyRail.sansPol := congrArg Tly.rail h
  have hone : t.rail[r].sansPol = u.rail[r].sansPol := by simpa using congrArg (fun v : Vector TlyRail 16 => v[r]) hrail
  exact (congrArg TlyRail.BOOK_BOOKED hone :)

/-- A rail that is unannounced no longer changes in its policing alone (R158). -/
theorem unannEnd_sansPol (s : State) (r : Nat) : (s.unannEnd r).tly.sansPol = s.tly.sansPol := by
  have hrail := map_vMod s.tly.rail r (g := TlyRail.sansPol)
    (f := fun e => { e with pol := 15, polLow := 15, isUn := false, polOver := 0, polUnder := 0 }) fun _ => rfl
  unfold State.unannEnd
  simp [Tly.sansPol, hrail]

/-- One rail's policing ends at a boundary (R158, R180). -/
def State.polEnd (s : State) (r : Nat) : State := if (vAt s.tly.rail r {}).isUn then s.unannEnd r else s

/-- The state whose rails are unannounced no longer (R158, R180). -/
def State.polDone (s : State) : State := (List.range 16).foldl State.polEnd s

/-- The end of the policing changes nothing else in the tally (R158). -/
theorem polDone_sansPol (s : State) : s.polDone.tly.sansPol = s.tly.sansPol := by
  refine foldl_proj (fun u : State => u.tly.sansPol) State.polEnd (fun u r => ?_) (List.range 16) s
  unfold State.polEnd
  split
  · exact unannEnd_sansPol u r
  · rfl

/-- A rail's record as the epoch opens: its books frozen beside the beads of its live rows, its policing at rest (R164, R180, R185). -/
def railOpened (s : State) (r : Fin 16) : TlyRail :=
  { s.tly.rail[r] with
    sumBnd := liveBeads s r, HARV_PREV_UNANN := s.tly.rail[r].HARV_UNANN, HARV_UNANN := false, HARV_STRETCHES := 0, countHit := false,
    pol := 15, polLow := 15, polOver := 0, polUnder := 0, base1 := none, base2 := none }

/-- The tally as the epoch `num` opens, with every row still as it was (R180). -/
def tlyOpened (s : State) (num : Nat) : Tly :=
  { s.tly with
    LAST_PEAK := s.tly.peak, LAST_GRANTS := s.tly.grants, peak := 0, grants := 0, AUDIT_EPOCH := s.tly.EPOCH_NUM,
    EPOCH_NUM := num % 256, EPOCH_DRAIN := true, bndAt := s.now, rail := Vector.ofFn (railOpened s) }

/-- The state as the epoch `num` opens: no loan, no ask, and the tally opened (R176, R180). -/
def State.epochOpening (s : State) (num : Nat) : State :=
  { s with tly := tlyOpened s num, adm.LOAN_IN := 0, adm.LOAN_OUT := 0, adm.askAt := none, trc.drained := true }

/-- The epoch opens without a loan, and with FSEQ as it was (R176, R180). -/
theorem epochOpening_loansSeq (s : State) (num : Nat) : (s.epochOpening num).loansSeq = (0, 0, s.frm.FSEQ) := rfl

/-- A boundary in the tally ends the policing, opens the epoch, and closes the rows (R180). -/
theorem tlyBoundary_eq (s : State) (num : Nat) : s.tlyBoundary num = (s.polDone.epochOpening num).closeRows := by
  have hpol : (List.range 16).foldl (fun s r => if (vAt s.tly.rail r {}).isUn then s.unannEnd r else s) s = s.polDone := rfl
  unfold State.tlyBoundary
  rw [hpol]
  rfl

/-- What a boundary makes of the figures of the tally, from those of `t` at the tick `now` (R180). -/
def tlyTurned (t : Tly) (now num : Nat) (u : Tly) : Prop :=
  u.EPOCH_NUM = num % 256 ∧ u.EPOCH_DRAIN = true ∧ u.bndAt = now ∧ u.AUDIT_EPOCH = t.EPOCH_NUM ∧ u.LAST_GRANTS = t.grants ∧
    u.LAST_PEAK = t.peak ∧ u.grants = 0 ∧ (∀ i, liveW (memRead 0 u.rows i) = false) ∧
    ∀ r : Fin 16, u.rail[r].pol = 15 ∧ u.rail[r].HARV_STRETCHES = 0 ∧ u.rail[r].BOOK_BOOKED = t.rail[r].BOOK_BOOKED

/-- The opened tally stands as the boundary leaves it, but for its rows (R180). -/
theorem tlyTurned_of_sansRows {s t : State} {u : Tly} {num : Nat} (hpol : s.tly.sansPol = t.tly.sansPol) (hnow : s.now = t.now)
    (hu : u.sansRows = (tlyOpened s num).sansRows) (hlive : ∀ i, liveW (memRead 0 u.rows i) = false) :
    tlyTurned t.tly t.now num u := by
  obtain ⟨hnum, hgrants, hpeak, -, hbook⟩ := eq_of_sansPol hpol
  refine ⟨congrArg Tly.EPOCH_NUM hu, congrArg Tly.EPOCH_DRAIN hu, (congrArg Tly.bndAt hu).trans hnow,
    (congrArg Tly.AUDIT_EPOCH hu).trans hnum, (congrArg Tly.LAST_GRANTS hu).trans hgrants, (congrArg Tly.LAST_PEAK hu).trans hpeak,
    congrArg Tly.grants hu, hlive, fun r => ?_⟩
  have hrail : u.rail[r] = railOpened s r := by
    have hall : u.rail = Vector.ofFn (railOpened s) := congrArg Tly.rail hu
    simp [hall]
  rw [hrail]
  exact ⟨rfl, rfl, hbook r⟩

/-- The rows close on an opened tally, which is turned then (R180). -/
theorem closeRows_turned {s t : State} (hpol : s.tly.sansPol = t.tly.sansPol) (hnow : s.now = t.now) (hwf : memWf 0 s.tly.rows = true)
    (num : Nat) : tlyTurned t.tly t.now num (s.epochOpening num).closeRows.tly :=
  tlyTurned_of_sansRows hpol hnow (closeRows_sansRows (s := s.epochOpening num) rfl) (closeRows_liveW (s := s.epochOpening num) hwf)

/-- The boundary turns the tally (R180). -/
theorem tlyBoundary_turned {s : State} (hwf : memWf 0 s.tly.rows = true) (num : Nat) :
    tlyTurned s.tly s.now num (s.tlyBoundary num).tly := by
  have hpol := polDone_sansPol s
  have hnow : s.polDone.now = s.now := foldl_now State.polEnd (fun u r => by unfold State.polEnd; split <;> simp) _ s
  obtain ⟨-, -, -, hrows, -⟩ := eq_of_sansPol hpol
  rw [tlyBoundary_eq]
  rw [← hrows] at hwf
  exact closeRows_turned hpol hnow hwf num

/-- A boundary in the tally ends every loan, and leaves FSEQ as it is (R176, R180). -/
theorem tlyBoundary_loansSeq (s : State) (num : Nat) : (s.tlyBoundary num).loansSeq = (0, 0, s.frm.FSEQ) := by
  have hfrm : s.polDone.frm = s.frm := foldl_frm State.polEnd (fun u r => by unfold State.polEnd; split <;> simp) _ s
  rw [tlyBoundary_eq, closeRows_loansSeq, epochOpening_loansSeq, hfrm]

/-! ### The boundary instant (R179, R180) -/

/-- A pending activation marks the tally's policing and takes the image's epoch length, and changes nothing else there (R159, R469). -/
theorem activationStep_tly (s : State) : ∃ pol len, s.activationStep.tly = { s.tly with actPol := pol, lenInForce := len } := by
  unfold State.activationStep
  split
  · exact ⟨s.tly.actPol, s.tly.lenInForce, rfl⟩
  split
  · exact ⟨s.tly.actPol, s.tly.lenInForce, by simp⟩
  split
  · exact ⟨true, s.tly.EPOCH_LEN, by simp [State.switchIn]⟩
  · split
    all_goals exact ⟨s.tly.actPol, s.tly.lenInForce, by simp⟩

/-- The tally turned, with who announced its epoch (R179). -/
def State.turned (s : State) (num : Nat) (gov : Bool) : State :=
  { s.trcBoundary.fcsBoundary.tlyBoundary num with tly.EPOCH_GOV := gov }

/-- The parts of a boundary that open with the tally: the control law, the frame, the link, a SHARE that waited, the orphan's cap. -/
def State.opened (s : State) (next : Bool) : State := ((s.ctlEpoch.frmOpen.treOpen).shareOpen next).orphanStep

/-- Those parts leave the tally as it is. -/
theorem opened_tly (s : State) (next : Bool) : (s.opened next).tly = s.tly := by simp [State.opened]

/-- Those parts leave the loans and FSEQ as they are. -/
theorem opened_loansSeq (s : State) (next : Bool) : (s.opened next).loansSeq = s.loansSeq := by
  have horphan (u : State) : u.orphanStep.loansSeq = u.loansSeq := by simp [State.loansSeq]
  rw [State.opened, horphan, shareOpen_loansSeq]
  rfl

/-- A boundary instant turns the tally, opens the other parts, and switches what waits for it (R180). -/
theorem boundary_eq (s : State) (num : Nat) (gov : Bool) :
    s.boundary num gov =
      ((((s.turned num gov).opened (decide (num % 256 = (s.tly.EPOCH_NUM + 1) % 256))).activationStep.raiseLimits).fRaise).beamSettle := by
  unfold State.boundary State.turned State.opened
  generalize s.trcBoundary.fcsBoundary.tlyBoundary num = u
  rfl

/-- The tally of an epoch announced is the tally turned. -/
theorem turned_tly (s : State) (num : Nat) (gov : Bool) :
    (s.turned num gov).tly = { (s.trcBoundary.fcsBoundary.tlyBoundary num).tly with EPOCH_GOV := gov } := by
  unfold State.turned
  generalize s.trcBoundary.fcsBoundary.tlyBoundary num = u
  rfl

/-- Beyond what a boundary turns, the tally keeps who announced the epoch, its length, and the marks of an activation. -/
theorem tlyTurned.announced {t u : Tly} {now num : Nat} (h : tlyTurned t now num u) (gov pol own : Bool) (len : Nat) :
    tlyTurned t now num { u with EPOCH_GOV := gov, actPol := pol, lenInForce := len, ownCount := own } := h

/-- A boundary instant turns the tally, and marks who announced the epoch (R179, R180). -/
theorem boundary_tly {s : State} (hwf : memWf 0 s.tly.rows = true) (num : Nat) (gov : Bool) :
    tlyTurned s.tly s.now num (s.boundary num gov).tly ∧ (s.boundary num gov).tly.EPOCH_GOV = gov := by
  have htly : s.trcBoundary.fcsBoundary.tly = s.tly := by simp
  have hnow : s.trcBoundary.fcsBoundary.now = s.now := by simp
  have hturned := tlyBoundary_turned (s := s.trcBoundary.fcsBoundary) (by rw [htly]; exact hwf) num
  obtain ⟨pol, len, h⟩ := activationStep_tly ((s.turned num gov).opened (decide (num % 256 = (s.tly.EPOCH_NUM + 1) % 256)))
  have hend (u : State) : u.raiseLimits.fRaise.beamSettle.tly = u.tly := by simp
  rw [boundary_eq, hend, h, opened_tly, turned_tly]
  rw [htly, hnow] at hturned
  generalize (s.trcBoundary.fcsBoundary.tlyBoundary num).tly = u at hturned ⊢
  exact ⟨hturned.announced gov pol u.ownCount len, rfl⟩

/-- Who announced an epoch leaves the loans and FSEQ as they are. -/
theorem turned_loansSeq (s : State) (num : Nat) (gov : Bool) :
    (s.turned num gov).loansSeq = (s.trcBoundary.fcsBoundary.tlyBoundary num).loansSeq := by
  unfold State.turned
  generalize s.trcBoundary.fcsBoundary.tlyBoundary num = u
  rfl

/-- A boundary instant ends every loan, and leaves FSEQ as it is (R176, R180). -/
theorem boundary_loansSeq (s : State) (num : Nat) (gov : Bool) : (s.boundary num gov).loansSeq = (0, 0, s.frm.FSEQ) := by
  have hend (u : State) : u.raiseLimits.fRaise.beamSettle.loansSeq = u.loansSeq := by simp [State.loansSeq]
  have hfrm : s.trcBoundary.fcsBoundary.frm = s.frm := by simp
  rw [boundary_eq, hend, activationStep_loansSeq, opened_loansSeq, turned_loansSeq, tlyBoundary_loansSeq, hfrm]

/-- The pages that a boundary does not reach. -/
def State.aside (s : State) : Cmn × Sns × Aut × Rst × HostRsp × Option (Nat × Nat) × Nat × Nat × List Instr :=
  (s.cmn, s.sns, s.aut, s.rst, s.hst, s.pairLo, s.now, s.free, s.pending)

/-- A boundary instant leaves the pages beside it as they are. -/
theorem boundary_aside (s : State) (num : Nat) (gov : Bool) : (s.boundary num gov).aside = s.aside := by simp [State.aside]

/-- The state `t` has taken the boundary that opens epoch `num` on `s`, and its FSEQ is `seq`: the tally turned, no loan, and the pages
beside the boundary as they were. -/
def boundaryTaken (s : State) (num seq : Nat) (t : State) : Prop :=
  tlyTurned s.tly s.now num t.tly ∧ t.loansSeq = (0, 0, seq) ∧ t.aside = s.aside

/-- A boundary instant takes the boundary, and leaves FSEQ as it is (R180). -/
theorem boundary_taken {s : State} (hwf : memWf 0 s.tly.rows = true) (num : Nat) (gov : Bool) :
    boundaryTaken s num s.frm.FSEQ (s.boundary num gov) :=
  ⟨(boundary_tly hwf num gov).1, boundary_loansSeq .., boundary_aside ..⟩

section
variable {s t : State} {num seq : Nat} (h : boundaryTaken s num seq t)
include h

/-- The reckoner's own count ends with its boundary (R179). -/
theorem boundaryTaken.reckoning : boundaryTaken s num seq { t with tly.ownCount := false } := h

/-- What a member takes over from the announcement (R388). -/
theorem boundaryTaken.announced (len fseq budget : Nat) :
    boundaryTaken s num fseq
      { t with tly.ownCount := false, tly.lenInForce := len, frm.FSEQ := fseq, frm.lastBudget := budget } := by
  obtain ⟨htly, hloans, haside⟩ := h
  obtain ⟨hin, hrest⟩ := Prod.mk.inj hloans
  obtain ⟨hout, -⟩ := Prod.mk.inj hrest
  exact ⟨htly, Prod.ext hin (Prod.ext hout rfl), haside⟩

/-- A state whose tally, loans and pages aside are the same has taken the boundary too. -/
theorem boundaryTaken.of_eq {u : State} (htly : u.tly = t.tly) (hloans : u.loansSeq = t.loansSeq) (haside : u.aside = t.aside) :
    boundaryTaken s num seq u := by
  obtain ⟨ht, hl, ha⟩ := h
  exact ⟨htly ▸ ht, hloans.trans hl, haside.trans ha⟩

/-- The reckoner counts FSEQ, and leaves what the boundary has done (R388). -/
theorem boundaryTaken.reckon : boundaryTaken s num ((seq + 1) % 2 ^ 24) t.reckon := by
  obtain ⟨htly, hloans, haside⟩ := h
  have hpages : t.reckon.tly = t.tly := by simp
  have hbeside : t.reckon.aside = t.aside := by simp [State.aside]
  obtain ⟨hin, hrest⟩ := Prod.mk.inj hloans
  obtain ⟨hout, hseq⟩ := Prod.mk.inj hrest
  exact ⟨hpages ▸ htly, by rw [reckon_loansSeq, hin, hout, hseq], hbeside.trans haside⟩

/-- A member's CAP leaves what the boundary has done. -/
theorem boundaryTaken.memberOpen : boundaryTaken s num seq t.memberOpen := by
  obtain ⟨e, w, hs⟩ := memberOpen_links t
  rw [hs]
  exact h

/-- A message relayed leaves what the boundary has done. -/
theorem boundaryTaken.relay (d : Dir) (m : BitVec 128) : boundaryTaken s num seq (t.relay d m) := by
  obtain ⟨e, w, hs⟩ := relay_links t d m
  rw [hs]
  exact h

/-- A budget that is set leaves what the boundary has done. -/
theorem boundaryTaken.setBudget (b : Nat) : boundaryTaken s num seq (t.setBudget b) :=
  h.of_eq (by simp) (setBudget_loansSeq t b) (by simp [State.aside])

/-- A shown state that changes leaves what the boundary has done. -/
theorem boundaryTaken.settle (c : Nat) : boundaryTaken s num seq (t.settle c) :=
  h.of_eq (by simp) (settle_loansSeq t c) (by simp [State.aside])

end

/-- The reckoner, or a member without an announcement since the reset, takes a boundary when its epoch has run (R179). -/
theorem exec_epochBoundary {s : State} (hlive : s.rst.live = true) (hown : isReckoner s = true ∨ s.tly.ownCount = true)
    (hdue : s.tly.bndAt + s.tly.lenInForce * 4 ≤ s.now) :
    exec .epochBoundary s = .next
      ((if isReckoner s then ({ s.boundary (s.tly.EPOCH_NUM + 1) (isReckoner s) with tly.ownCount := false } : State).reckon
        else (s.boundary (s.tly.EPOCH_NUM + 1) (isReckoner s)).memberOpen).settle 0x0114) := by
  refine congrArg Host.Outcome.next (if_pos ?_)
  rw [Bool.and_eq_true, Bool.and_eq_true, Bool.or_eq_true]
  exact ⟨⟨hlive, hown⟩, after_of_le hdue⟩

/-- A member takes a boundary on its own 64 µs after it was due (R389). -/
theorem exec_boundaryTimeout {s : State} (hlive : s.rst.live = true) (hr : isReckoner s = false) (hown : s.tly.ownCount = false)
    (hdue : s.tly.bndAt + (s.tly.lenInForce + 64) * 4 ≤ s.now) :
    exec .boundaryTimeout s = .next (((s.boundary (s.tly.EPOCH_NUM + 1) false).memberOpen).settle 0x0114) := by
  refine congrArg Host.Outcome.next (if_pos ?_)
  rw [hlive, hr, hown]
  exact after_of_le (s := s) hdue

/-- What a member makes of an announcement (R388): the boundary, what the message carries, the budget, and its CAP. -/
def State.announced (s : State) (m : BitVec 128) : State :=
  ((({ s.boundary (mf m 88 8) true with
        tly.ownCount := false, tly.lenInForce := mf m 74 14, frm.FSEQ := mf m 18 24, frm.lastBudget := mf m 42 32 } : State).setBudget
    (mf m 42 32)).memberOpen).settle 0x0114

/-- A later epoch that the reckoner announces is taken, and the message relayed where it names others too (R388). -/
theorem exec_frmBoundary {s : State} {d : Dir} {m : BitVec 128} (h : frmAccepts s d m 0x08 = true) (hdst : mDst m = 31)
    (hst : s.frm.FORM_STATE = 2) (hsrc : mSrc m = s.frm.ROLE_RECKONER) (hlater : boundaryLater s (mf m 88 8) = true) :
    ∃ e w n, exec (.frmBoundary d m) s = .next ((s.relinked e w n).announced m) ∨
      exec (.frmBoundary d m) s = .next (((s.relinked e w n).announced m).relay d m) := by
  obtain ⟨e, w, n, ht⟩ := taken_links s d m
  have heeded : (if s.frm.FORM_STATE = 2 ∧ mSrc m = s.frm.ROLE_RECKONER ∧ boundaryLater s (mf m 88 8) = true
      then (s.relinked e w n).announced m else s.relinked e w n) = (s.relinked e w n).announced m := if_pos ⟨hst, hsrc, hlater⟩
  have run : exec (.frmBoundary d m) s = .next (s.received d m 0x08 _) := rfl
  rw [received_accepted _ h (by decide), ht] at run
  refine ⟨e, w, n, ?_⟩
  by_cases hme : dstPos s (mDst m) = myPos s
  · rw [if_pos hme] at run
    exact .inl (run.trans (congrArg Host.Outcome.next heeded))
  · rw [if_neg hme, if_pos hdst] at run
    exact .inr (run.trans (congrArg (fun u : State => Host.Outcome.next (u.relay d m)) heeded))

/-- An announcement is taken as a boundary, with its number, its length and its FSEQ (R388). -/
theorem announced_taken {s : State} (hwf : memWf 0 s.tly.rows = true) (m : BitVec 128) :
    boundaryTaken s (mf m 88 8) (mf m 18 24) (s.announced m) ∧ (s.announced m).tly.EPOCH_GOV = true ∧
      (s.announced m).tly.ownCount = false ∧ (s.announced m).tly.lenInForce = mf m 74 14 := by
  have hb := boundary_taken hwf (mf m 88 8) true
  have hgov := (boundary_tly hwf (mf m 88 8) true).2
  unfold State.announced
  generalize s.boundary (mf m 88 8) true = u at hb hgov ⊢
  refine ⟨(((hb.announced _ _ _).setBudget _).memberOpen).settle _, ?_⟩
  simp [hgov]

/-! ### The baselines (R173, R174) -/

/-- The baseline of a rail, and whether it is a fault's: none of an absent rail; the limit where a present one has no valid sample; else
the larger of its samples (R173, R174). -/
def baseOf (s : State) (r : Nat) (e : TlyRail) : Nat × Bool :=
  if railAbsent s r then (0, false)
  else if e.base1 = none ∧ e.base2 = none then (iLim s r, true)
  else (max (e.base1.getD 0) (e.base2.getD 0), false)

section
variable {s : State} {r : Nat} {e : TlyRail}

/-- An absent rail has no baseline (R173). -/
theorem baseOf_absent (habs : railAbsent s r = true) : baseOf s r e = (0, false) := if_pos habs

/-- A present rail without a valid sample has its limit for a baseline, and the fault (R174). -/
theorem baseOf_unsampled (hpres : railAbsent s r = false) (h1 : e.base1 = none) (h2 : e.base2 = none) : baseOf s r e = (iLim s r, true) := by
  simp [baseOf, hpres, h1, h2]

/-- A present rail's baseline is the larger of its two samples (R173). -/
theorem baseOf_sampled {a b : Nat} (hpres : railAbsent s r = false) (h1 : e.base1 = some a) (h2 : e.base2 = some b) :
    baseOf s r e = (max a b, false) := by
  simp [baseOf, hpres, h1, h2]

end

/-- A rail's record with its baseline taken. -/
def railBased (s : State) (r : Nat) (e : TlyRail) : TlyRail := { e with BASE_BASE := (baseOf s r e).1, BASE_BFAULT := (baseOf s r e).2 }

/-- A baseline taken changes its rail's record alone in the tally (R173). -/
theorem takeBase_tly (s : State) {r : Nat} (hr : r < 16) : (s.takeBase r).tly = { s.tly with rail := vMod s.tly.rail r (railBased s r) } := by
  have he : vAt s.tly.rail r {} = s.tly.rail[r] := dif_pos hr
  unfold State.takeBase
  rw [he]
  dsimp only
  split
  next habs => simp [vMod, hr, railBased, baseOf, habs]
  next hpres =>
    split
    next h1 h2 => simp [vMod, hr, railBased, baseOf, hpres, h1, h2]
    next a b hnot =>
      have hsome : ¬(s.tly.rail[r].base1 = none ∧ s.tly.rail[r].base2 = none) := fun h => hnot h.1 h.2
      simp [vMod, hr, railBased, baseOf, hpres, hsome]

/-- The baselines of the rails below `k` are taken, the others as they were. -/
def railsBased (s : State) (k : Nat) : Vector TlyRail 16 :=
  Vector.ofFn fun r : Fin 16 => if r.val < k then railBased s r.val s.tly.rail[r] else s.tly.rail[r]

/-- A baseline depends on the fuses and on the limits alone. -/
theorem railBased_congr {s u : State} (hcmn : u.cmn = s.cmn) (hbeam : u.beam = s.beam) (r : Nat) : railBased u r = railBased s r := by
  have hfuse : fuseRail u r = fuseRail s r := by simp only [fuseRail, hcmn]
  have habsent : railAbsent u r = railAbsent s r := by
    unfold railAbsent
    rw [hfuse]
  have hlim : iLim u r = iLim s r := by simp only [iLim, hbeam]
  funext e
  simp only [railBased, baseOf, habsent, hlim]

/-- The baselines below `k + 1` are those below `k`, and the one of rail `k`. -/
theorem railsBased_succ (s : State) {k : Nat} (hk : k < 16) : vMod (railsBased s k) k (railBased s k) = railsBased s (k + 1) := by
  unfold vMod
  rw [dif_pos hk]
  ext i hi
  by_cases hki : k = i
  · subst hki
    simp [railsBased]
  · have hlt : i < k ↔ i < k + 1 := by omega
    simp [railsBased, hki, hlt]

/-- Taking the baselines of the rails below `k` changes the records of those rails alone in the tally. -/
theorem takeBase_range (s : State) (k : Nat) (hk : k ≤ 16) :
    ((List.range k).foldl State.takeBase s).tly = { s.tly with rail := railsBased s k } := by
  induction k with
  | zero =>
    have h0 : railsBased s 0 = s.tly.rail := by
      ext r hr
      simp [railsBased]
    simp [h0]
  | succ k ih =>
    have hbased : railBased ((List.range k).foldl State.takeBase s) k = railBased s k :=
      railBased_congr (foldl_cmn _ (by simp) _ s) (foldl_beam _ (by simp) _ s) k
    rw [List.range_succ, List.foldl_append, List.foldl_cons, List.foldl_nil, takeBase_tly _ (by omega), hbased, ih (by omega),
      railsBased_succ s (by omega)]

/-! ### The audit (R184) -/

/-- The audit writes its result, and nothing else in the tally (R184). -/
theorem audit_tly (s : State) :
    s.audit.tly = { s.tly with AUDIT_MISMATCH := s.audit.tly.AUDIT_MISMATCH, AUDIT_UNK := s.audit.tly.AUDIT_UNK } := by
  unfold State.audit
  dsimp only
  split <;> simp

/-- Books that hold less than the live rows held at the boundary are a mismatch, and flagged (R184). -/
theorem audit_mismatch {s : State} {r : Fin 16} (h : s.tly.rail[r].BOOK_BOOKED < s.tly.rail[r].sumBnd) :
    s.audit.tly.AUDIT_MISMATCH = true ∧ s.audit.hasErr pgTly 19 := by
  have hr : vAt s.tly.rail r.val {} = s.tly.rail[r] := dif_pos r.isLt
  have hbad : ((List.range 16).any fun r => decide (((vAt s.tly.rail r {}).BOOK_BOOKED : Int) - ((vAt s.tly.rail r {}).sumBnd : Int) < 0) ||
      (decide (((vAt s.tly.rail r {}).BOOK_BOOKED : Int) - ((vAt s.tly.rail r {}).sumBnd : Int) ≠ 0) && s.tly.faulted.isEmpty)) = true := by
    refine List.any_eq_true.mpr ⟨r.val, List.mem_range.mpr r.isLt, ?_⟩
    rw [Bool.or_eq_true, decide_eq_true_eq, hr]
    left
    omega
  unfold State.audit
  dsimp only
  rw [hbad, if_pos rfl]
  exact ⟨by simp, hasErr_fault ..⟩

/-! ### The rows at the end of the drain window (R168) -/

/-- A stored word of a row in QUAR (R163). -/
def quarW (w : Nat) : Bool := decide (rowSt w = 3)

/-- A row that becomes FREE is in QUAR no longer (R165). -/
theorem freeRow_clears : clearsRow quarW State.freeRow :=
  clearsRow_of_rows (g := fun w => rowToSt w 0) freeRow_rows fun w => by simp [quarW, rowSt_rowToSt]

/-- A tested row keeps its word, or takes one of FREE or LOST (R168). -/
theorem testRow_rows (s : State) (bad : List Nat) (i : Nat) :
    (s.testRow bad i).tly.rows = s.tly.rows ∨
      ∃ w, quarW w = false ∧ (s.testRow bad i).tly.rows = (s.setRow i w).tly.rows := by
  have hfree : quarW (rowToSt (rowW s i) 0) = false := by simp [quarW, rowSt_rowToSt]
  have hlost : quarW (mkRow false 5 0 0 0 0 0 i) = false := by simp [quarW, rowSt_mkRow]
  unfold State.testRow
  dsimp only
  split
  · split
    · exact .inl rfl
    · exact .inr ⟨_, hfree, rfl⟩
  split
  · split
    · exact .inl (by simp)
    · refine .inr ⟨_, hfree, ?_⟩
      simp [State.freeRow, State.setRow, rowW]
  · refine .inr ⟨_, hlost, ?_⟩
    simp [State.setRow]

/-- A tested row does not enter QUAR, and no other row changes (R168). -/
theorem testRow_quar (bad : List Nat) {s : State} (i : Nat) (hwf : memWf 0 s.tly.rows = true) (hnone : ∀ j, quarW (rowW s j) = false) :
    memWf 0 (s.testRow bad i).tly.rows = true ∧ ∀ j, quarW (rowW (s.testRow bad i) j) = false := by
  obtain hsame | ⟨w, hw, hset⟩ := testRow_rows s bad i
  · exact ⟨hsame ▸ hwf, fun j => (congrArg quarW (rowW_congr hsame j)).trans (hnone j)⟩
  · refine ⟨by rw [hset]; exact memWf_memWrite _ _ _ _ hwf, fun j => ?_⟩
    rw [rowW_congr hset j]
    by_cases hji : j = i
    · subst hji
      rw [rowW_setRow_same _ _ hwf]
      exact hw
    · rw [rowW_setRow_other _ _ hwf hji]
      exact hnone j

/-- The rows in QUAR become FREE one after the other (R168). -/
def State.quarFreed (s : State) : State := (rowsWith s quarW).foldl State.freeRow s

/-- The end of the drain window frees the rows in QUAR, and tests the faulted ones (R168). -/
theorem drainRows_eq (s : State) (bad : List Nat) :
    s.drainRows bad = (s.quarFreed.tly.faulted ++ s.quarFreed.tly.badFree).foldl (fun u i => u.testRow bad i) s.quarFreed := rfl

/-- After the drain window no row is in QUAR (R168). -/
theorem drainRows_quar (s : State) (bad : List Nat) (hwf : memWf 0 s.tly.rows = true) (j : Nat) :
    quarW (rowW (s.drainRows bad) j) = false := by
  obtain ⟨hwf', hnone⟩ := foldl_rowsWith freeRow_clears (by decide) hwf
  have htest (l : List Nat) : ∀ u : State, memWf 0 u.tly.rows = true → (∀ j, quarW (rowW u j) = false) →
      ∀ j, quarW (rowW (l.foldl (fun u i => u.testRow bad i) u) j) = false := by
    induction l with
    | nil => exact fun _ _ h => h
    | cons i l ih =>
      intro u hu hq
      obtain ⟨hu', hq'⟩ := testRow_quar bad i hu hq
      exact ih _ hu' hq'
  rw [drainRows_eq]
  exact htest _ _ hwf' hnone j

/-- A tested row changes no more than the rows, what is kept with them, and the lists of rows (R168). -/
theorem testRow_sansRows (s : State) (bad : List Nat) (i : Nat) : (s.testRow bad i).tly.sansRows = s.tly.sansRows := by
  unfold State.testRow
  dsimp only
  repeat' split
  all_goals simp [Tly.sansRows, State.freeRow, State.setRow]

/-- The rows resolved at the end of the drain window leave the books as they are (R168). -/
theorem drainRows_sansRows (s : State) (bad : List Nat) : (s.drainRows bad).tly.sansRows = s.tly.sansRows := by
  rw [drainRows_eq]
  exact (foldl_proj (fun u : State => u.tly.sansRows) (fun u i => u.testRow bad i) (fun u i => testRow_sansRows u bad i) _ _).trans
    (foldl_proj (fun u : State => u.tly.sansRows) State.freeRow (fun u i => rfl) _ s)

/-! ### The end of the drain window (R180, steps 5 to 7) -/

/-- The baselines taken, and the books audited (R173, R184). -/
def State.audited (s : State) : State := ((List.range 16).foldl State.takeBase s).audit

/-- A rail's record with its books cleared (R180). -/
def TlyRail.cleared (e : TlyRail) : TlyRail := { e with BOOK_BOOKED := 0, cntStuck := false, sumBnd := 0 }

/-- The books of every rail cleared (R180). -/
def State.cleared (s : State) : State := { s with tly.rail := s.tly.rail.map TlyRail.cleared }

/-- The drain window closed: no row waits for a test, and policing has its baseline (R159, R168). -/
def State.reopened (s : State) : State :=
  { s with tly.faulted := [], tly.badFree := [], tly.EPOCH_DRAIN := false, tly.polOn := s.tly.polOn || s.tly.actPol, tly.actPol := false,
           frm.peak := 0 }

/-- Each rail's rod as the books now give it (R171). -/
def State.rodsTaken (s : State) : State :=
  { s with tly.rail := Vector.ofFn fun r : Fin 16 => { s.tly.rail[r] with ROD := iRod s r } }

/-- The rails whose books held beads as they were cleared. -/
def movedRail (s : State) (r : Nat) : Bool := decide ((vAt s.tly.rail r {}).BOOK_BOOKED ≠ 0)

/-- The rails once the drain window has closed: lower targets go out, and harvesting is decided (R187, R235). -/
def State.railsDrained (s : State) (moved : Nat → Bool) : State := (List.range 16).foldl (State.drainRail moved) s

/-- The end of the drain window, step by step (R180). -/
theorem drainEnd_eq (s : State) (bad : List Nat) :
    s.drainEnd bad =
      ((((s.audited.cleared.drainRows bad).reopened.railsDrained (movedRail s.audited)).rodsTaken).demandNote 0).settle 0x0211 := by
  have haud : ((List.range 16).foldl State.takeBase s).audit = s.audited := rfl
  unfold State.drainEnd
  rw [haud]
  generalize s.audited = u
  rfl

/-- A rail's record but for its harvesting and its rod. -/
def TlyRail.sansHarv (e : TlyRail) : TlyRail := { e with HARV_HARV := false, ROD := 0 }

/-- The tally but for the harvesting and the rods of its rails. -/
def Tly.sansHarv (t : Tly) : Tly := { t with rail := t.rail.map TlyRail.sansHarv }

/-- Tallies that differ in the harvesting and the rods of their rails alone agree in the rest. -/
theorem eq_of_sansHarv {t u : Tly} (h : t.sansHarv = u.sansHarv) :
    t.EPOCH_DRAIN = u.EPOCH_DRAIN ∧ t.faulted = u.faulted ∧ t.badFree = u.badFree ∧ t.polOn = u.polOn ∧
      t.AUDIT_MISMATCH = u.AUDIT_MISMATCH ∧ t.rows = u.rows ∧
      ∀ r : Fin 16, t.rail[r].BOOK_BOOKED = u.rail[r].BOOK_BOOKED ∧ t.rail[r].cntStuck = u.rail[r].cntStuck ∧
        t.rail[r].BASE_BASE = u.rail[r].BASE_BASE ∧ t.rail[r].BASE_BFAULT = u.rail[r].BASE_BFAULT := by
  refine ⟨(congrArg Tly.EPOCH_DRAIN h :), (congrArg Tly.faulted h :), (congrArg Tly.badFree h :), (congrArg Tly.polOn h :),
    (congrArg Tly.AUDIT_MISMATCH h :), (congrArg Tly.rows h :), fun r => ?_⟩
  have hrail : t.rail.map TlyRail.sansHarv = u.rail.map TlyRail.sansHarv := congrArg Tly.rail h
  have hone : t.rail[r].sansHarv = u.rail[r].sansHarv := by simpa using congrArg (fun v : Vector TlyRail 16 => v[r]) hrail
  exact ⟨(congrArg TlyRail.BOOK_BOOKED hone :), (congrArg TlyRail.cntStuck hone :), (congrArg TlyRail.BASE_BASE hone :),
    (congrArg TlyRail.BASE_BFAULT hone :)⟩

/-- A rail drained changes in its harvesting alone (R187). -/
theorem drainRail_sansHarv (moved : Nat → Bool) (s : State) (r : Nat) : (s.drainRail moved r).tly.sansHarv = s.tly.sansHarv := by
  have hrail (u : State) : (u.harvestBegin r).tly.sansHarv = u.tly.sansHarv := by
    have hone := map_vMod u.tly.rail r (g := TlyRail.sansHarv) (f := fun e => { e with HARV_HARV := harvestOk u r }) fun _ => rfl
    simp [Tly.sansHarv, hone]
  unfold State.drainRail
  rw [hrail]
  split
  · simp
  · rfl

/-- The rods taken change nothing else in the tally. -/
theorem rodsTaken_sansHarv (s : State) : s.rodsTaken.tly.sansHarv = s.tly.sansHarv := by
  have hrail : (Vector.ofFn fun r : Fin 16 => { s.tly.rail[r] with ROD := iRod s r }).map TlyRail.sansHarv =
      s.tly.rail.map TlyRail.sansHarv := by
    ext i hi
    all_goals simp [TlyRail.sansHarv]
  exact congrArg (fun v => { s.tly with rail := v }) hrail

/-- The end of the drain window leaves the tally as it was when the window closed, but for harvesting and rods (R180). -/
theorem drainEnd_sansHarv (s : State) (bad : List Nat) :
    (s.drainEnd bad).tly.sansHarv = (s.audited.cleared.drainRows bad).reopened.tly.sansHarv := by
  have hend (u : State) : ((u.demandNote 0).settle 0x0211).tly = u.tly := by simp
  rw [drainEnd_eq, hend, rodsTaken_sansHarv]
  exact foldl_proj (fun u : State => u.tly.sansHarv) (State.drainRail (movedRail s.audited))
    (drainRail_sansHarv (movedRail s.audited)) _ _

/-- The audited tally: the baselines taken, and the audit's result (R173, R184). -/
theorem audited_tly (s : State) :
    ∃ mis unk, s.audited.tly = { s.tly with rail := railsBased s 16, AUDIT_MISMATCH := mis, AUDIT_UNK := unk } := by
  unfold State.audited
  have htly := takeBase_range s 16 le_rfl
  generalize (List.range 16).foldl State.takeBase s = u at htly ⊢
  rw [audit_tly, htly]
  exact ⟨_, _, rfl⟩

/-- Tallies that differ in their rows alone agree in the books. -/
theorem eq_of_sansRows {t u : Tly} (h : t.sansRows = u.sansRows) :
    t.polOn = u.polOn ∧ t.actPol = u.actPol ∧ t.AUDIT_MISMATCH = u.AUDIT_MISMATCH ∧ t.rail = u.rail :=
  ⟨(congrArg Tly.polOn h :), (congrArg Tly.actPol h :), (congrArg Tly.AUDIT_MISMATCH h :), (congrArg Tly.rail h :)⟩

/-- The tally with its books cleared. -/
theorem cleared_tly (s : State) : s.cleared.tly = { s.tly with rail := s.tly.rail.map TlyRail.cleared } := rfl

/-- A rail's record once its baseline is taken and its books are cleared. -/
theorem cleared_railsBased (s : State) (r : Fin 16) :
    ((railsBased s 16).map TlyRail.cleared)[r] = (railBased s r s.tly.rail[r]).cleared := by
  simp [railsBased]

/-- The window closed on a state `w` whose books are the audited and cleared ones of `u`. -/
theorem reopened_books {s u w : State}
    (haud : ∃ mis unk, u.tly = { s.tly with rail := railsBased s 16, AUDIT_MISMATCH := mis, AUDIT_UNK := unk })
    (hbooks : w.tly.sansRows = u.cleared.tly.sansRows) :
    w.reopened.tly.polOn = (s.tly.polOn || s.tly.actPol) ∧ w.reopened.tly.AUDIT_MISMATCH = u.tly.AUDIT_MISMATCH ∧
      ∀ r : Fin 16, w.reopened.tly.rail[r] = (railBased s r s.tly.rail[r]).cleared := by
  obtain ⟨mis, unk, haud⟩ := haud
  obtain ⟨hpol, hact, haudit, hrail⟩ := eq_of_sansRows hbooks
  rw [cleared_tly] at hpol hact haudit hrail
  refine ⟨?_, haudit, fun r => ?_⟩
  · change (w.tly.polOn || w.tly.actPol) = _
    rw [hpol, hact, haud]
  · change w.tly.rail[r] = _
    rw [hrail, haud]
    exact cleared_railsBased s r

/-- The end of the drain window in the tally (R168, R173, R180): the window closed, no row to test, the audit's result kept, no row in QUAR,
the books empty, and each rail's baseline taken. -/
theorem drainEnd_tly {s : State} (bad : List Nat) (hwf : memWf 0 s.tly.rows = true) :
    (s.drainEnd bad).tly.EPOCH_DRAIN = false ∧ (s.drainEnd bad).tly.faulted = [] ∧ (s.drainEnd bad).tly.badFree = [] ∧
      (s.drainEnd bad).tly.polOn = (s.tly.polOn || s.tly.actPol) ∧
      (s.drainEnd bad).tly.AUDIT_MISMATCH = s.audited.tly.AUDIT_MISMATCH ∧ (∀ j, quarW (rowW (s.drainEnd bad) j) = false) ∧
      ∀ r : Fin 16, (s.drainEnd bad).tly.rail[r].BOOK_BOOKED = 0 ∧ (s.drainEnd bad).tly.rail[r].cntStuck = false ∧
        (s.drainEnd bad).tly.rail[r].BASE_BASE = (baseOf s r s.tly.rail[r]).1 ∧
        (s.drainEnd bad).tly.rail[r].BASE_BFAULT = (baseOf s r s.tly.rail[r]).2 := by
  obtain ⟨hdrain, hfaulted, hbad, hpol, haudit, hrows, hrail⟩ := eq_of_sansHarv (drainEnd_sansHarv s bad)
  obtain ⟨hpolOn, hmis, hrecord⟩ := reopened_books (audited_tly s) (drainRows_sansRows s.audited.cleared bad)
  have hwf' : memWf 0 s.audited.cleared.tly.rows = true := by
    obtain ⟨mis, unk, haud⟩ := audited_tly s
    rw [cleared_tly, haud]
    exact hwf
  have hquar := drainRows_quar s.audited.cleared bad hwf'
  generalize s.audited.cleared.drainRows bad = w at hdrain hfaulted hbad hpol haudit hrows hrail hpolOn hmis hrecord hquar
  refine ⟨hdrain, hfaulted, hbad, hpol.trans hpolOn, haudit.trans hmis, fun j => (congrArg quarW (rowW_congr hrows j)).trans (hquar j),
    fun r => ?_⟩
  obtain ⟨hbook, hstuck, hbase, hfault⟩ := hrail r
  rw [hbook, hstuck, hbase, hfault, hrecord]
  exact ⟨rfl, rfl, rfl, rfl⟩

/-- Books that hold less than the live rows held at the boundary are a mismatch at the end of the drain window, and flagged (R184). -/
theorem audited_mismatch {s : State} {r : Fin 16} (h : s.tly.rail[r].BOOK_BOOKED < s.tly.rail[r].sumBnd) :
    s.audited.tly.AUDIT_MISMATCH = true ∧ s.audited.hasErr pgTly 19 := by
  unfold State.audited
  have htly := takeBase_range s 16 le_rfl
  generalize (List.range 16).foldl State.takeBase s = u at htly ⊢
  refine audit_mismatch (r := r) ?_
  rw [htly]
  simpa [railsBased, railBased] using h

section
variable {s : State} {q : Fin 23} {k : Nat} (h : s.hasErr q k)
include h

/-- Clearing the books touches no error. -/
theorem hasErr_cleared : s.cleared.hasErr q k := h

/-- Closing the drain window touches no error. -/
theorem hasErr_reopened : s.reopened.hasErr q k := h

/-- Taking the rods touches no error. -/
theorem hasErr_rodsTaken : s.rodsTaken.hasErr q k := h

/-- A tested row clears no error (R168). -/
theorem hasErr_testRow (bad : List Nat) (i : Nat) : (s.testRow bad i).hasErr q k := by
  have hfree (u : State) (hu : u.hasErr q k) : (if u.tly.fresh ≤ i then u else u.freeRow i).hasErr q k :=
    hasErr_ite hu (hasErr_of_hdr hu (by simp))
  unfold State.testRow
  refine hasErr_ite (hfree s h) (hasErr_ite (hfree _ (hasErr_event _ _ ?_)) (hasErr_fault_keeps _ _ _ _ ?_))
  · exact hasErr_of_hdr h rfl
  · exact hasErr_of_hdr h rfl

/-- The rows resolved at the end of the drain window clear no error (R168). -/
theorem hasErr_drainRows (bad : List Nat) : (s.drainRows bad).hasErr q k := by
  have hfreed : s.quarFreed.hasErr q k := hasErr_of_hdr h (foldl_hdr State.freeRow (by simp) _ s)
  rw [drainRows_eq]
  exact List.foldlRecOn (motive := fun u : State => u.hasErr q k) _ _ hfreed fun u hu i _ => hasErr_testRow hu bad i

/-- The rails that leave neutral mode clear no error (R248). -/
theorem hasErr_neutralDrain : s.neutralDrain.hasErr q k := by
  refine List.foldlRecOn (motive := fun u : State => u.hasErr q k) _ _ h fun u hu r _ => ?_
  dsimp only
  split
  · split
    · exact hasErr_event _ _ (hasErr_of_hdr hu rfl)
    · exact hasErr_of_hdr hu rfl
  · exact hu

end

/-- What the audit has flagged stays flagged to the end of the drain window. -/
theorem hasErr_drainEnd {s : State} {q : Fin 23} {k : Nat} (bad : List Nat) (h : s.audited.hasErr q k) : (s.drainEnd bad).hasErr q k := by
  rw [drainEnd_eq]
  generalize s.audited = u at h ⊢
  have hclosed := hasErr_reopened (hasErr_drainRows (hasErr_cleared h) bad)
  generalize (u.cleared.drainRows bad).reopened = w at hclosed ⊢
  have hrails : (w.railsDrained (movedRail u)).hasErr q k :=
    hasErr_of_hdr hclosed (foldl_hdr (State.drainRail (movedRail u)) (by simp) _ w)
  generalize w.railsDrained (movedRail u) = v at hrails ⊢
  exact hasErr_settle _ (hasErr_of_hdr (hasErr_rodsTaken hrails) (by simp))

/-- The state once the drain window has ended, with what the control law and the forecaster make of its end (R168, R248, R275). -/
def State.drained (s : State) (bad : List Nat) : State := ((((s.drainEnd bad).neutralDrain).fcsDrain).fcsSettle).settle 0x0211

/-- The drain window ends 1.75 µs after the boundary instant (R173). -/
theorem exec_baselineSample {s : State} (bad : List (Fin 8192)) (hdrain : s.tly.EPOCH_DRAIN = true) (hdue : s.tly.bndAt + 7 ≤ s.now) :
    exec (.baselineSample bad) s = .next (s.drained (bad.map (·.val))) := by
  refine congrArg Host.Outcome.next (if_pos ?_)
  rw [drainDue, hdrain, after_of_le hdue]
  rfl

/-- What follows the end of the drain window leaves the tally as it is. -/
theorem drained_tly (s : State) (bad : List Nat) : (s.drained bad).tly = (s.drainEnd bad).tly := by simp [State.drained]

/-- The tally once the drain window has ended is the one that its end leaves. -/
theorem drained_books {s : State} (bad : List Nat) (hwf : memWf 0 s.tly.rows = true) :
    (s.drained bad).tly.EPOCH_DRAIN = false ∧ (s.drained bad).tly.faulted = [] ∧ (s.drained bad).tly.badFree = [] ∧
      (s.drained bad).tly.polOn = (s.tly.polOn || s.tly.actPol) ∧
      (s.drained bad).tly.AUDIT_MISMATCH = s.audited.tly.AUDIT_MISMATCH ∧ (∀ j, quarW (rowW (s.drained bad) j) = false) ∧
      ∀ r : Fin 16, (s.drained bad).tly.rail[r].BOOK_BOOKED = 0 ∧ (s.drained bad).tly.rail[r].cntStuck = false ∧
        (s.drained bad).tly.rail[r].BASE_BASE = (baseOf s r s.tly.rail[r]).1 ∧
        (s.drained bad).tly.rail[r].BASE_BFAULT = (baseOf s r s.tly.rail[r]).2 := by
  have hrow (j : Nat) : rowW (s.drained bad) j = rowW (s.drainEnd bad) j := rowW_congr (congrArg Tly.rows (drained_tly s bad)) j
  simp only [hrow, drained_tly]
  exact drainEnd_tly bad hwf

/-- An error flagged at the end of the drain window stays flagged. -/
theorem hasErr_drained {s : State} {q : Fin 23} {k : Nat} (bad : List Nat) (h : s.audited.hasErr q k) : (s.drained bad).hasErr q k := by
  have hend := hasErr_neutralDrain (hasErr_drainEnd bad h)
  unfold State.drained
  generalize (s.drainEnd bad).neutralDrain = u at hend ⊢
  exact hasErr_settle _ (hasErr_fcsSettle (hasErr_of_hdr hend (by simp)))

/-- What the end of the drain window may touch. -/
theorem drained_frame (s : State) (bad : List Nat) :
    s.drained bad =
      { s with
        seq := (s.drained bad).seq, tly := (s.drained bad).tly, ctl := (s.drained bad).ctl, fcs := (s.drained bad).fcs,
        vrg := (s.drained bad).vrg, frm := (s.drained bad).frm, mbs := (s.drained bad).mbs, mbn := (s.drained bad).mbn,
        rck := (s.drained bad).rck, evt := (s.drained bad).evt, hdr := (s.drained bad).hdr } := by
  simp [State.eq_of_pages, State.drained]

end Sys2Proof.Machine
end

section
namespace Sys2Proof.Proofs

open Sys2Proof Sys2Proof.Machine

/-- Settles O43: a boundary taken leaves the tally turned and no loan, whoever takes it, and what follows the boundary keeps that; the end of
the drain window is taken step by step, and each step is shown to leave what the one before it has settled. -/
theorem epochsTurn : Obligations.EpochsTurn := by
  unfold Obligations.EpochsTurn
  refine ⟨fun s hwf => ?turns, fun s bad hdrain hdue hwf => ?drains⟩
  case turns =>
    intro opened
    have hopened {t : State} {num seq : Nat} (h : boundaryTaken s num seq t) : opened t num := by
      obtain ⟨⟨hnum, hdrain, hbnd, hepoch, hgrants, hpeak, hzero, hlive, hrail⟩, hloans, haside⟩ := h
      obtain ⟨hin, hrest⟩ := Prod.mk.inj hloans
      obtain ⟨hout, -⟩ := Prod.mk.inj hrest
      refine ⟨hnum, hdrain, hbnd, hepoch, hgrants, hpeak, hzero, hlive, hrail, hin, hout, ?_⟩
      simp only [State.aside, Prod.mk.injEq] at haside
      simp [State.eq_of_pages, haside]
    refine ⟨fun hlive hown hdue => ?own, fun hlive hr hown hdue => ?late, fun d m h hdst hst hsrc hlater => ?announced⟩
    case own =>
      refine ⟨_, exec_epochBoundary hlive hown hdue, ?_⟩
      have hb := boundary_taken hwf (s.tly.EPOCH_NUM + 1) (isReckoner s)
      have hgov := (boundary_tly hwf (s.tly.EPOCH_NUM + 1) (isReckoner s)).2
      generalize s.boundary (s.tly.EPOCH_NUM + 1) (isReckoner s) = u at hb hgov ⊢
      split
      next hr =>
        have ht := hb.reckoning.reckon.settle 0x0114
        refine ⟨hopened ht, by simpa using hgov, fun _ => ?_⟩
        obtain ⟨-, hloans, -⟩ := ht
        exact congrArg (fun x : Nat × Nat × Nat => x.2.2) hloans
      next hr => exact ⟨hopened (hb.memberOpen.settle 0x0114), by simpa using hgov, fun h => absurd h hr⟩
    case late =>
      have hb := boundary_taken hwf (s.tly.EPOCH_NUM + 1) false
      have hgov := (boundary_tly hwf (s.tly.EPOCH_NUM + 1) false).2
      exact ⟨_, exec_boundaryTimeout hlive hr hown hdue, hopened (hb.memberOpen.settle 0x0114), by simpa using hgov⟩
    case announced =>
      obtain ⟨e, w, n, run⟩ := exec_frmBoundary h hdst hst hsrc hlater
      obtain ⟨ht, hgov, hown, hlen⟩ := announced_taken (s := s.relinked e w n) hwf m
      generalize (s.relinked e w n).announced m = u at run ht hgov hown hlen
      have ht : boundaryTaken s (mf m 88 8) (mf m 18 24) u := ht
      have hseq {t : State} (h : boundaryTaken s (mf m 88 8) (mf m 18 24) t) : t.frm.FSEQ = mf m 18 24 := by
        obtain ⟨-, hloans, -⟩ := h
        exact congrArg (fun x : Nat × Nat × Nat => x.2.2) hloans
      obtain run | run := run
      · exact ⟨_, run, hopened ht, hgov, hown, hlen, hseq ht⟩
      · have hr := ht.relay d m
        have htly : (u.relay d m).tly = u.tly := by simp
        exact ⟨_, run, hopened hr, by rw [htly]; exact hgov, by rw [htly]; exact hown, by rw [htly]; exact hlen, hseq hr⟩
  case drains =>
    have hmis {r : Fin 16} (h : s.tly.rail[r].BOOK_BOOKED < s.tly.rail[r].sumBnd) := audited_mismatch h
    have herr := hasErr_drained (s := s) (q := pgTly) (k := 19) (bad.map (·.val))
    have hframe := drained_frame s (bad.map (·.val))
    obtain ⟨hclosed, hfaulted, hbad, hpol, haudit, hquar, hrail⟩ := drained_books (bad.map (·.val)) hwf
    refine ⟨_, exec_baselineSample bad hdrain hdue, ?_⟩
    generalize s.drained (bad.map (·.val)) = t at herr hframe hclosed hfaulted hbad hpol haudit hquar hrail ⊢
    refine ⟨hclosed, hfaulted, hbad, fun r => ?_, fun ⟨r, hless⟩ => ?_, fun i hst => ?_, fun hact => ?_, hframe⟩
    · obtain ⟨hbook, hstuck, hbase, hfault⟩ := hrail r
      rw [hbook, hstuck, hbase, hfault]
      refine ⟨rfl, rfl, fun habs => ?_, fun hpres h1 h2 => ?_, fun a b hpres h1 h2 => ?_⟩
      · rw [baseOf_absent habs]
        exact ⟨rfl, rfl⟩
      · rw [baseOf_unsampled hpres h1 h2]
        exact ⟨rfl, rfl⟩
      · rw [baseOf_sampled hpres h1 h2]
        exact ⟨rfl, rfl⟩
    · obtain ⟨haud, hflag⟩ := hmis hless
      exact ⟨haudit.trans haud, herr hflag⟩
    · simpa [quarW, hst] using hquar i
    · rw [hpol, hact, Bool.or_true]

/-- A member in a live instance that counts its own epochs, at the tick where epoch 0 has run, with seven grants in it. -/
def turningState : State :=
  { liveReset with
    tly := { liveReset.tly with ownCount := true, grants := 7 }, now := liveReset.tly.bndAt + liveReset.tly.lenInForce * 4 }

/-- `epochsTurn` applies: epoch 1 opens, with its drain window and the grants of epoch 0. -/
theorem turningState_turns :
    ∃ t, exec .epochBoundary turningState = .next t ∧ t.tly.EPOCH_NUM = 1 ∧ t.tly.EPOCH_DRAIN = true ∧ t.tly.LAST_GRANTS = 7 := by
  obtain ⟨turns, -⟩ := epochsTurn
  obtain ⟨own, -⟩ := turns turningState (by decide +kernel)
  obtain ⟨t, run, ⟨hnum, hopen, -, -, hgrants, -⟩, -⟩ := own rfl (.inr rfl) le_rfl
  exact ⟨t, run, hnum, hopen, hgrants⟩

/-- Member 0 of a formed frame of two whose reckoner is member 1, where the announcement is 64 µs late. -/
def lateState : State :=
  { liveReset with
    tly := { liveReset.tly with ownCount := false }, now := liveReset.tly.bndAt + (liveReset.tly.lenInForce + 64) * 4,
    frm := { liveReset.frm with FORM_STATE := 2, ROLE_RECKONER := 1, ROSTER := 3, size := 2, east := { up := true } } }

/-- `epochsTurn` applies: the member takes the boundary on its own, without GOV. -/
theorem lateState_turns :
    ∃ t, exec .boundaryTimeout lateState = .next t ∧ t.tly.EPOCH_NUM = 1 ∧ t.tly.EPOCH_GOV = false := by
  obtain ⟨turns, -⟩ := epochsTurn
  obtain ⟨-, late, -⟩ := turns lateState (by decide +kernel)
  obtain ⟨t, run, ⟨hnum, -⟩, hgov⟩ := late rfl (by decide +kernel) rfl le_rfl
  exact ⟨t, run, hnum, hgov⟩

/-- BOUNDARY of epoch 5 from member 1, for all: 1000 µs long, FSEQ 9. -/
def boundaryMsg : BitVec 128 := frmSeal (frmMsg 0x08 1 31 (5 * 2 ^ 88 + 1000 * 2 ^ 74 + 9 * 2 ^ 18)) 0 0

/-- `epochsTurn` applies: the announced epoch opens, with GOV, its length and its FSEQ. -/
theorem lateState_boundary :
    ∃ t, exec (.frmBoundary .east boundaryMsg) lateState = .next t ∧ t.tly.EPOCH_NUM = 5 ∧ t.tly.EPOCH_GOV = true ∧
      t.tly.lenInForce = 1000 ∧ t.frm.FSEQ = 9 := by
  obtain ⟨turns, -⟩ := epochsTurn
  obtain ⟨-, -, announced⟩ := turns lateState (by decide +kernel)
  obtain ⟨t, run, ⟨hnum, -⟩, hgov, -, hlen, hseq⟩ :=
    announced .east boundaryMsg (by decide +kernel) (by decide +kernel) rfl (by decide +kernel) (by decide +kernel)
  exact ⟨t, run, hnum.trans (by decide +kernel), hgov, hlen.trans (by decide +kernel), hseq.trans (by decide +kernel)⟩

/-- A drain window at its end: rail 0 sampled at 300 and at 400, and a bead short in its book. -/
def drainingState : State :=
  { liveReset with
    cmn.fuses.rail := Vector.replicate 16 ⟨8, 0, 0, 0, 0⟩
    tly := { liveReset.tly with
      EPOCH_DRAIN := true, rail := liveReset.tly.rail.set 0 { base1 := some 300, base2 := some 400, BOOK_BOOKED := 1, sumBnd := 2 } },
    now := liveReset.tly.bndAt + 7 }

/-- `epochsTurn` applies: rail 0's baseline is the larger sample, and the audit finds the bead. -/
theorem drainingState_ends :
    ∃ t, exec (.baselineSample []) drainingState = .next t ∧ t.tly.EPOCH_DRAIN = false ∧ t.tly.rail[0].BASE_BASE = 400 ∧
      t.tly.AUDIT_MISMATCH = true := by
  obtain ⟨-, drains⟩ := epochsTurn
  obtain ⟨t, run, hclosed, -, -, hrail, haudit, -⟩ := drains drainingState [] rfl le_rfl (by decide +kernel)
  obtain ⟨-, -, -, -, hsampled⟩ := hrail 0
  obtain ⟨hbase, -⟩ := hsampled 300 400 (by decide +kernel) rfl rfl
  obtain ⟨hmis, -⟩ := haudit ⟨0, by decide +kernel⟩
  exact ⟨t, run, hclosed, hbase, hmis⟩

end Sys2Proof.Proofs
end

section
/-! PROOFS. What the beam's events have in common: the errors that arrive on the page headers (R107), the responses of a rail (R207 to
R211), and what follows a change of them (R213, R223). -/

namespace Sys2Proof.Machine

open Sys2Proof

/-! ### The responses of a rail -/

/-- What two repeated registers agree on at each index, they agree on at each element read. -/
theorem vAt_congr_proj {α β : Type} {n : Nat} {v w : Vector α n} (p : α → β) (h : ∀ i : Fin n, p v[i] = p w[i]) (i : Nat)
    (d : α) : p (vAt v i d) = p (vAt w i d) := by
  unfold vAt
  split
  next hi => exact h ⟨i, hi⟩
  next => rfl

/-- A response after it is changed. -/
theorem respOf_respMod (s : State) {r k : Nat} (f : Resp → Resp) (hr : r < 16) (hk : k < 8) :
    respOf (s.respMod r k f) r k = f (respOf s r k) := by
  simp [respOf, vAt_vMod_same, hr, hk]

/-- The responses are read from the rails of the BEAM page alone. -/
theorem respOf_congr {s t : State} (h : ∀ r : Fin 16, t.beam.rail[r].resp = s.beam.rail[r].resp) (r k : Nat) :
    respOf t r k = respOf s r k := by
  unfold respOf
  rw [vAt_congr_proj BeamRail.resp h]

/-- A fold of minima lies below where it began and below each of the values it takes in. -/
theorem foldl_min_le (on : Nat → Bool) (v : Nat → Nat) (l : List Nat) (m : Nat) :
    l.foldl (fun m k => if on k then min m (v k) else m) m ≤ m ∧
      ∀ k ∈ l, on k = true → l.foldl (fun m k => if on k then min m (v k) else m) m ≤ v k := by
  induction l generalizing m with
  | nil => simp
  | cons a l ih =>
    simp only [List.foldl_cons, List.mem_cons, forall_eq_or_imp]
    obtain ⟨hm, hl⟩ := ih (if on a then min m (v a) else m)
    refine ⟨hm.trans ?_, fun ha => ?_, hl⟩
    · split <;> omega
    · rw [if_pos ha] at hm ⊢
      omega

/-- RC[r] lies at or below the ceiling of each response in force (R207). -/
theorem railRc_le {s : State} {r k : Nat} (hk : k < 8) (hon : respOn s r k = true) : railRc s r ≤ (respOf s r k).rc :=
  (foldl_min_le (respOn s r) (fun k => (respOf s r k).rc) (List.range 8) 15).2 k (List.mem_range.mpr hk) hon

/-- A rail with a response in force is held (R132). -/
theorem railHeld_of_resp {s : State} {r k : Nat} (hk : k < 8) (hon : respOn s r k = true) : railHeld s r = true := by
  have : (List.range 8).any (respOn s r) = true := List.any_eq_true.mpr ⟨k, List.mem_range.mpr hk, hon⟩
  simp [railHeld, this]

/-- A response at 0 holds its rail at the beam floor (R207). -/
theorem railFloor_of_resp {s : State} {r k : Nat} (hk : k < 8) (hon : respOn s r k = true) (h0 : (respOf s r k).rc = 0) :
    railRc s r = 0 ∧ railFloor s r = true := by
  have hrc : railRc s r = 0 := by have := railRc_le hk hon; omega
  exact ⟨hrc, by simp [railFloor, hrc, railHeld_of_resp hk hon]⟩

/-- The state with other rails on the BEAM page. -/
def State.withRails (s : State) (rl : Vector BeamRail 16) : State := { s with beam.rail := rl }

@[simp] theorem State.withRails_rail (s : State) (rl : Vector BeamRail 16) : (s.withRails rl).beam.rail = rl := rfl

/-- `t` is `s` but for the rails of the BEAM page, which keep droop persistence as it was. -/
structure RailsOnly (s t : State) : Prop where
  eq : t = s.withRails t.beam.rail
  persist : ∀ q, (vAt t.beam.rail q {}).persist = (vAt s.beam.rail q {}).persist

/-- One change of the rails after another. -/
theorem RailsOnly.trans {s t u : State} (h : RailsOnly s t) (h' : RailsOnly t u) : RailsOnly s u where
  eq := by rw [h'.eq, h.eq]; rfl
  persist q := (h'.persist q).trans (h.persist q)

/-- A change of one rail that leaves its persistence alone. -/
theorem RailsOnly.of_vMod (s : State) (r : Nat) (f : BeamRail → BeamRail) (hf : ∀ e, (f e).persist = e.persist) :
    RailsOnly s (s.withRails (vMod s.beam.rail r f)) where
  eq := rfl
  persist _ := vAt_vMod_proj BeamRail.persist _ _ _ _ _ hf

/-- The rail's lowest ceiling is marked afresh where no response is in force yet (R223). -/
def State.episodeOpen (s : State) (r : Nat) : State :=
  if (List.range 8).any (respOn s r) then s else s.withRails (vMod s.beam.rail r fun e => { e with rcLow := 15 })

/-- The rail's lowest ceiling takes in the present one (R223). -/
def State.lowMarked (s : State) (r : Nat) : State :=
  s.withRails (vMod s.beam.rail r fun e => { e with rcLow := min e.rcLow (railRc s r) })

/-- The rails after a response that was not in force has begun (R211). -/
def State.respOpened (s : State) (r k rc : Nat) : State :=
  ((s.episodeOpen r).respMod r k fun x => { x with on := true, rc := rc, rel := 0 }).lowMarked r

/-- A response that is not in force begins: it is recorded, but for droop persistence (R211, R223). -/
theorem respBegin_off {s : State} {r k : Nat} (rc : Nat) (h : ¬ respOn s r k = true) :
    s.respBegin r k rc = if k = 0 then s.respOpened r k rc else (s.respOpened r k rc).event 0x0411 [r, k] := if_neg h

/-- A changed response lies on its rail. -/
theorem respMod_railsOnly (s : State) (r k : Nat) (f : Resp → Resp) : RailsOnly s (s.respMod r k f) := .of_vMod s r _ fun _ => rfl

/-- A response that begins changes the rails alone. -/
theorem respOpened_railsOnly (s : State) (r k rc : Nat) : RailsOnly s (s.respOpened r k rc) := by
  have hopen : RailsOnly s (s.episodeOpen r) := by
    unfold State.episodeOpen
    split
    · exact ⟨rfl, fun _ => rfl⟩
    · exact .of_vMod s r _ fun _ => rfl
  exact (hopen.trans (respMod_railsOnly ..)).trans (.of_vMod _ r _ fun _ => rfl)

/-- A response that begins is in force, at its ceiling (R211). -/
theorem respOf_respOpened (s : State) {r k : Nat} (rc : Nat) (hr : r < 16) (hk : k < 8) :
    respOf (s.respOpened r k rc) r k = { respOf (s.episodeOpen r) r k with on := true, rc := rc, rel := 0 } := by
  have hmark (u : State) : respOf (u.lowMarked r) r k = respOf u r k := by
    unfold respOf
    rw [State.lowMarked, State.withRails_rail, vAt_vMod_proj BeamRail.resp]
    exact fun _ => rfl
  rw [State.respOpened, hmark, respOf_respMod _ _ hr hk]

/-- All that the beginning of a response does: the rails change, and it is recorded or not; the response is then in force, at its
ceiling or below (R211). -/
theorem respBegin_cases (s : State) (r k rc : Nat) : ∃ u, RailsOnly s u ∧
    (s.respBegin r k rc = u ∨ s.respBegin r k rc = u.event 0x0411 [r, k]) ∧
      (r < 16 → k < 8 → respOn u r k = true ∧ (respOf u r k).rc ≤ rc) := by
  unfold respOn
  by_cases hon : respOn s r k = true
  · refine ⟨_, respMod_railsOnly s r k fun x => { x with rc := min x.rc rc, rel := 0 }, .inl (if_pos hon), fun hr hk => ?_⟩
    rw [respOf_respMod _ _ hr hk]
    exact ⟨hon, Nat.min_le_right ..⟩
  · refine ⟨_, respOpened_railsOnly s r k rc, ?_, fun hr hk => ?_⟩
    · rw [respBegin_off rc hon]
      split
      · exact .inl rfl
      · exact .inr rfl
    · rw [respOf_respOpened s rc hr hk]
      exact ⟨rfl, le_rfl⟩

/-- A response that begins changes the rails alone on the BEAM page. -/
theorem respBegin_beam (s : State) (r k rc : Nat) :
    (s.respBegin r k rc).beam = { s.beam with rail := (s.respBegin r k rc).beam.rail } := by
  obtain ⟨u, hu, heq, -⟩ := respBegin_cases s r k rc
  have hbeam : (s.respBegin r k rc).beam = u.beam := by obtain heq | heq := heq <;> simp [heq]
  rw [hbeam, hu.eq]
  rfl

/-- A response that has begun is in force, at its ceiling or below, and droop persistence is as it was (R211). -/
theorem respBegin_rail (s : State) {r k : Nat} (rc : Nat) (hr : r < 16) (hk : k < 8) :
    respOn (s.respBegin r k rc) r k = true ∧ (respOf (s.respBegin r k rc) r k).rc ≤ rc ∧
      ∀ q, (vAt (s.respBegin r k rc).beam.rail q {}).persist = (vAt s.beam.rail q {}).persist := by
  obtain ⟨u, hu, heq, hresp⟩ := respBegin_cases s r k rc
  have hbeam : (s.respBegin r k rc).beam = u.beam := by obtain heq | heq := heq <;> simp [heq]
  obtain ⟨hon, hrc⟩ := hresp hr hk
  unfold respOn respOf at *
  rw [hbeam]
  exact ⟨hon, hrc, hu.persist⟩

/-! ### Failed detectors -/

/-- A detector marked failed, with its error and event (R205). -/
def State.detFailed (s : State) (d reason : Nat) : State :=
  (s.detMod d fun e => { e with DD_FAILED := true, stuck := 0 }).fault pgBeam 19 0x041D [d, reason]

/-- A spare that serves no tap any longer, and waits to serve none (R491). -/
def State.spareReleased (s : State) (d : Nat) : State := s.detMod d fun e => { e with DD_SUBST := false, DD_SERVES := 127, want := 127 }

/-- The tap that a spare serves, or waits to serve; 64 or more where there is none (R491). -/
def spareTap (e : BeamDet) : Nat := if e.DD_SERVES < 64 then e.DD_SERVES else e.want

/-- A response that begins touches the rails, the recorder and its header, and nothing else. -/
theorem respBegin_frame (s : State) (r k rc : Nat) :
    s.respBegin r k rc =
      { s with beam := (s.respBegin r k rc).beam, evt := (s.respBegin r k rc).evt, hdr := (s.respBegin r k rc).hdr } := by
  obtain ⟨u, hu, heq | heq, -⟩ := respBegin_cases s r k rc <;> rw [heq, hu.eq] <;> simp [State.withRails, State.eq_of_pages]

section
variable {s : State} {d : Nat} {reason : Nat}

/-- A detector fails once (R205). -/
theorem failDet_failed (h : (detOf s d).DD_FAILED = true) : s.failDet d reason = s := if_pos h

/-- A primary that fails puts its rail at the floor, where the rail is present, and asks for its spare (R205, R491). -/
theorem failDet_primary (h : ¬ (detOf s d).DD_FAILED = true) (hd : d < 64) :
    s.failDet d reason =
      (if railAbsent (s.detFailed d reason) (detRail d) then s.detFailed d reason
       else (s.detFailed d reason).respBegin (detRail d) 6 0).wantSpare d :=
  (if_neg h).trans (if_pos hd)

/-- A spare that fails serves no tap, and the rail of the tap it served or was to serve goes to its floor (R205, R491). -/
theorem failDet_spare (h : ¬ (detOf s d).DD_FAILED = true) (hd : ¬ d < 64) :
    s.failDet d reason =
      if spareTap (detOf s d) < 64 then
        (((s.detFailed d reason).spareReleased d).detMod (spareTap (detOf s d)) fun e => { e with DD_SUBST := false }).respBegin
          (detRail (spareTap (detOf s d))) 6 0
      else (s.detFailed d reason).spareReleased d :=
  (if_neg h).trans (if_neg hd)

/-- A detector after it is changed. -/
theorem detOf_detMod (f : BeamDet → BeamDet) (hd : d < 72) : detOf (s.detMod d f) d = f (detOf s d) := by
  simp [detOf, vAt_vMod_same, hd]

/-- Another detector keeps its registers. -/
theorem detOf_detMod_other {d' : Nat} (f : BeamDet → BeamDet) (h : d' ≠ d) : detOf (s.detMod d' f) d = detOf s d :=
  vAt_vMod_other _ _ _ _ _ h

/-- The mark of a failed detector stands with the rest of it. -/
theorem detOf_detFailed (hd : d < 72) : detOf (s.detFailed d reason) d = { detOf s d with DD_FAILED := true, stuck := 0 } := by
  rw [← detOf_detMod (fun e => { e with DD_FAILED := true, stuck := 0 }) hd]
  simp [State.detFailed, detOf]

/-- A response that begins leaves the detectors as they are. -/
theorem detOf_respBegin (r k rc : Nat) : detOf (s.respBegin r k rc) d = detOf s d := by
  unfold detOf
  rw [respBegin_beam]

/-- A spare that is asked to join keeps every detector's failure mark (R491). -/
theorem wantSpare_failed (d' : Nat) : (detOf (s.wantSpare d') d).DD_FAILED = (detOf s d).DD_FAILED := by
  unfold State.wantSpare
  dsimp only
  split
  · exact vAt_vMod_proj BeamDet.DD_FAILED _ _ _ _ _ fun _ => rfl
  · rfl

/-- A spare that fails shows it, and serves no tap (R205, R491). -/
theorem detOf_failDet_spare (h : ¬ (detOf s d).DD_FAILED = true) (hd : ¬ d < 64) (hd' : d < 72) :
    detOf (s.failDet d reason) d =
      { detOf s d with DD_FAILED := true, stuck := 0, DD_SUBST := false, DD_SERVES := 127, want := 127 } := by
  have hreleased : detOf ((s.detFailed d reason).spareReleased d) d =
      { detOf s d with DD_FAILED := true, stuck := 0, DD_SUBST := false, DD_SERVES := 127, want := 127 } := by
    rw [State.spareReleased, detOf_detMod _ hd', detOf_detFailed hd']
  rw [failDet_spare h hd]
  split
  next htap => rw [detOf_respBegin, detOf_detMod_other _ (by omega), hreleased]
  next => exact hreleased

/-- A detector that is told to have failed shows it (R205). -/
theorem failDet_shows (hd : d < 72) : (detOf (s.failDet d reason) d).DD_FAILED = true := by
  by_cases hfailed : (detOf s d).DD_FAILED = true
  · rwa [failDet_failed hfailed]
  · by_cases h64 : d < 64
    · rw [failDet_primary hfailed h64, wantSpare_failed]
      split
      · rw [detOf_detFailed hd]
      · rw [detOf_respBegin, detOf_detFailed hd]
    · rw [detOf_failDet_spare hfailed h64 hd]

/-- A detector that fails changes the rails and the detectors alone on the BEAM page. -/
theorem failDet_beam (s : State) (d reason : Nat) :
    (s.failDet d reason).beam =
      { s.beam with rail := (s.failDet d reason).beam.rail, det := (s.failDet d reason).beam.det } := by
  have hspare (u : State) : (u.wantSpare d).beam = { u.beam with det := (u.wantSpare d).beam.det } := by
    unfold State.wantSpare
    dsimp only
    split <;> rfl
  have hmarked : (s.detFailed d reason).beam = { s.beam with det := (s.detFailed d reason).beam.det } := by simp [State.detFailed]
  by_cases hfailed : (detOf s d).DD_FAILED = true
  · rw [failDet_failed hfailed]
  · by_cases hd : d < 64
    · rw [failDet_primary hfailed hd, hspare]
      split
      · rw [hmarked]
      · rw [respBegin_beam, hmarked]
    · rw [failDet_spare hfailed hd]
      split
      · rw [respBegin_beam, State.detMod_beam, State.spareReleased, State.detMod_beam, hmarked]
      · rw [State.spareReleased, State.detMod_beam, hmarked]

/-- What a failed detector may touch. -/
theorem failDet_frame (s : State) (d reason : Nat) :
    s.failDet d reason =
      { s with beam := (s.failDet d reason).beam, rel := (s.failDet d reason).rel, evt := (s.failDet d reason).evt,
               hdr := (s.failDet d reason).hdr } := by
  simp [State.eq_of_pages]

/-- A detector that fails leaves the spares' page as it is. -/
theorem failDet_rel (s : State) (d reason : Nat) : (s.failDet d reason).rel = s.rel := by
  by_cases hfailed : (detOf s d).DD_FAILED = true
  · rw [failDet_failed hfailed]
  · have hbegin (u : State) (r k rc : Nat) : (u.respBegin r k rc).rel = u.rel := by rw [respBegin_frame]
    by_cases hd : d < 64
    · rw [failDet_primary hfailed hd]
      split <;> simp [hbegin, State.detFailed]
    · rw [failDet_spare hfailed hd]
      split <;> simp [hbegin, State.detFailed, State.spareReleased]

end

/-! ### Errors that arrive -/

/-- `t` has the page headers of `s`, but for errors that have arrived (R107). -/
structure ErrorsArrive (s t : State) : Prop where
  sansErr : ∀ q : Fin 23, t.hdr[q].sansErr = s.hdr[q].sansErr
  keeps : ∀ (q : Fin 23) (i : Nat), s.hasErr q i → t.hasErr q i

section
variable {s t : State}

/-- Equal headers. -/
theorem ErrorsArrive.of_hdr (h : t.hdr = s.hdr) : ErrorsArrive s t :=
  ⟨fun _ => by rw [h], fun _ _ hi => hasErr_of_hdr hi h⟩

/-- One arrival after another. -/
theorem ErrorsArrive.trans {u : State} (h : ErrorsArrive s t) (h' : ErrorsArrive t u) : ErrorsArrive s u :=
  ⟨fun q => (h'.sansErr q).trans (h.sansErr q), fun q i hi => h'.keeps q i (h.keeps q i hi)⟩

/-- An event (R506). -/
theorem ErrorsArrive.event (c : Nat) (d : List Nat) (h : ErrorsArrive s t) : ErrorsArrive s (t.event c d) :=
  h.trans ⟨event_sansErr _ _ _, fun _ _ => hasErr_event c d⟩

/-- An error with its event (R107). -/
theorem ErrorsArrive.fault (p : Fin 23) (b c : Nat) (d : List Nat) (h : ErrorsArrive s t) : ErrorsArrive s (t.fault p b c d) :=
  h.trans ⟨fault_sansErr _ _ _ _ _, fun _ _ => hasErr_fault_keeps p b c d⟩

/-- A shown state that changes (R477). -/
theorem ErrorsArrive.settle (c : Nat) (h : ErrorsArrive s t) : ErrorsArrive s (t.settle c) :=
  h.trans ⟨settle_sansErr _ _, fun _ _ => hasErr_settle c⟩

/-- A domain's interruption that begins or ends may flag that it was long (R500). -/
theorem ErrorsArrive.intrStep (c : Nat) (h : ErrorsArrive s t) : ErrorsArrive s (t.intrStep c) := by
  have same {u : State} (hu : u.hdr = t.hdr) : ErrorsArrive s u := h.trans (.of_hdr hu)
  unfold State.intrStep
  dsimp only
  split
  · split
    · exact same rfl
    · exact h
  · split
    · exact h
    · split
      · exact .fault _ _ _ _ (same rfl)
      · exact same rfl

/-- A response that begins is recorded, and flags nothing of its own (R211). -/
theorem ErrorsArrive.respBegin (r k rc : Nat) (h : ErrorsArrive s t) : ErrorsArrive s (t.respBegin r k rc) := by
  obtain ⟨u, hu, heq, -⟩ := respBegin_cases t r k rc
  have hrails : ErrorsArrive s u := h.trans (.of_hdr (by rw [hu.eq]; rfl))
  obtain heq | heq := heq <;> rw [heq]
  · exact hrails
  · exact hrails.event ..

/-- All that the failure of a detector brings after its error and event: those errors stay, and the rest of the headers too (R205). -/
theorem failDet_marked {d reason : Nat} (h : ¬ (detOf t d).DD_FAILED = true) :
    ErrorsArrive (t.detFailed d reason) (t.failDet d reason) := by
  have same : ErrorsArrive (t.detFailed d reason) (t.detFailed d reason) := .of_hdr rfl
  by_cases hd : d < 64
  · have hspare {u : State} (hu : ErrorsArrive (t.detFailed d reason) u) : ErrorsArrive (t.detFailed d reason) (u.wantSpare d) :=
      hu.trans (.of_hdr (by simp))
    rw [failDet_primary h hd]
    apply hspare
    split
    · exact same
    · exact same.respBegin ..
  · rw [failDet_spare h hd]
    split
    · exact .respBegin _ _ _ (.of_hdr rfl)
    · exact .of_hdr rfl

/-- A detector that fails is an error of the BEAM page (R205). -/
theorem failDet_hasErr {d reason : Nat} (h : ¬ (detOf t d).DD_FAILED = true) : (t.failDet d reason).hasErr pgBeam 19 :=
  (failDet_marked h).keeps _ _ (hasErr_fault ..)

/-- A detector that fails clears no error (R205). -/
theorem ErrorsArrive.failDet (d reason : Nat) (h : ErrorsArrive s t) : ErrorsArrive s (t.failDet d reason) := by
  by_cases hfailed : (detOf t d).DD_FAILED = true
  · rw [failDet_failed hfailed]
    exact h
  · have hmarked : ErrorsArrive s (t.detFailed d reason) := .fault _ _ _ _ (h.trans (.of_hdr rfl))
    exact hmarked.trans (failDet_marked hfailed)

end

/-! ### What follows a change of the responses -/

/-- The causes of EMERGENCY are found in the responses, the rails' domain sets and the active lanes (R213). -/
theorem emgCausePresent_congr {s t : State} (hcmn : t.cmn = s.cmn) (hbuiltin : t.beam.STATE_BUILTIN = s.beam.STATE_BUILTIN)
    (hdie : t.beam.die = s.beam.die) (hact : t.ctl.MU_ACTIVE = s.ctl.MU_ACTIVE)
    (hresp : ∀ r : Fin 16, t.beam.rail[r].resp = s.beam.rail[r].resp)
    (hdset : ∀ r : Fin 16, t.beam.rail[r].imgDset = s.beam.rail[r].imgDset) : emgCausePresent t = emgCausePresent s := by
  have hset : dset t = dset s := by
    funext r
    rw [dset, hbuiltin, fuseRail, hcmn, vAt_congr_proj BeamRail.imgDset hdset, dset, fuseRail]
  have hof : respOf t = respOf s := funext₂ (respOf_congr hresp)
  have hrc : railRc t = railRc s := by
    funext r
    rw [railRc, hof, railRc]
  have habsent : railAbsent t = railAbsent s := by
    funext r
    rw [railAbsent, fuseRail, hcmn, railAbsent, fuseRail]
  have hfloor : floorCause t = floorCause s := by
    funext c
    rw [floorCause, railTerm, dieTerm, hset, hrc, habsent, hbuiltin, hdie, floorCause, railTerm, dieTerm]
  rw [emgCausePresent, hfloor, hact, emgCausePresent]

/-- How long each domain has been held at 0, and the lowest ceilings reached, are marked (R213, R223). -/
def State.ceilingsMarked (s : State) : State :=
  { s with
    beam.floorAt := Vector.ofFn fun c : Fin 25 =>
      if floorCause s c then (match s.beam.floorAt[c] with | some t => some t | none => some s.now) else none,
    beam.rail := Vector.ofFn fun r : Fin 16 => { s.beam.rail[r] with rcLow := min s.beam.rail[r].rcLow (railRc s r) },
    beam.dcLow := min s.beam.dcLow (dieTerm s) }

/-- How long every EMERGENCY cause has been absent, and the rails held, are marked (R213). -/
def State.causesMarked (s : State) : State :=
  { s with
    beam.emgGone := if emgCausePresent s then none else (match s.beam.emgGone with | some t => some t | none => some s.now),
    ctl.heldSeen := s.ctl.heldSeen ||| maskOf 16 (railHeld s) }

/-- A cause that is present holds the EMERGENCY term at 0 while it rises (R213). -/
def State.termHeld (s : State) : State :=
  if !s.beam.inEmg && emgCausePresent s && s.beam.emgTerm < 15 then { s with beam.emgTerm := 0 } else s

/-- What follows a change of the responses: marks, the EMERGENCY term, and the interruptions of the domains (R213, R223, R500). -/
theorem beamSettle_eq (s : State) : s.beamSettle = (List.range 25).foldl State.intrStep s.ceilingsMarked.causesMarked.termHeld := rfl

/-- The marks leave the causes of EMERGENCY as they are. -/
theorem marked_cause (s : State) : emgCausePresent s.ceilingsMarked.causesMarked = emgCausePresent s :=
  emgCausePresent_congr rfl rfl rfl rfl (fun r => by simp [State.causesMarked, State.ceilingsMarked])
    (fun r => by simp [State.causesMarked, State.ceilingsMarked])

/-- Holding the EMERGENCY term changes no page but the beam's. -/
theorem termHeld_frame (s : State) : s.termHeld = { s with beam := s.termHeld.beam } := by
  unfold State.termHeld
  split <;> rfl

/-- What follows a change of the responses leaves the EMERGENCY term as it is, or puts it at 0 for a cause that is present (R213). -/
theorem beamSettle_emgTerm (s : State) :
    s.beamSettle.beam.emgTerm = s.beam.emgTerm ∨ s.beamSettle.beam.emgTerm = 0 ∧ emgCausePresent s = true := by
  rw [beamSettle_eq, foldl_beam _ (by simp), State.termHeld, marked_cause]
  split
  next h =>
    simp only [Bool.and_eq_true] at h
    obtain ⟨⟨-, hpresent⟩, -⟩ := h
    exact .inr ⟨rfl, hpresent⟩
  next => exact .inl rfl

/-- What follows a change of the responses leaves the count of free spare detectors as it is. -/
theorem beamSettle_ddFree (s : State) : s.beamSettle.rel.SPARE_USE_DD_FREE = s.rel.SPARE_USE_DD_FREE := by
  have hstep (u : State) (c : Nat) : (u.intrStep c).rel.SPARE_USE_DD_FREE = u.rel.SPARE_USE_DD_FREE := by
    unfold State.intrStep
    dsimp only
    (repeat' split) <;> simp
  rw [beamSettle_eq, foldl_proj (fun u : State => u.rel.SPARE_USE_DD_FREE) _ hstep, termHeld_frame]
  rfl

/-- What follows a change of the responses marks a rail's lowest ceiling, and leaves the rest of the rail as it is (R223). -/
theorem beamSettle_rail (s : State) (r : Fin 16) : ∃ lo, s.beamSettle.beam.rail[r] = { s.beam.rail[r] with rcLow := lo } := by
  obtain ⟨fl, rl, dl, eg, et, hbeam, hrail⟩ := beamSettle_beam s
  rw [hbeam]
  exact hrail r

/-- What follows a change of the responses leaves the detectors as they are. -/
theorem beamSettle_det (s : State) : s.beamSettle.beam.det = s.beam.det := by
  obtain ⟨fl, rl, dl, eg, et, hbeam, -⟩ := beamSettle_beam s
  rw [hbeam]

/-- What follows a change of the responses may touch the beam, and what counts and records it (R213, R500). -/
theorem beamSettle_frame (s : State) :
    s.beamSettle =
      { s with beam := s.beamSettle.beam, ctl := s.beamSettle.ctl, rel := s.beamSettle.rel, evt := s.beamSettle.evt,
               hdr := s.beamSettle.hdr } := by
  simp [State.eq_of_pages]

/-- What a change of the responses and of the shown state may touch (R213, R477). -/
theorem beamSettle_settle_frame (s : State) (c : Nat) :
    s.beamSettle.settle c =
      { s with
        seq := (s.beamSettle.settle c).seq, beam := (s.beamSettle.settle c).beam, ctl := (s.beamSettle.settle c).ctl,
        mbs := (s.beamSettle.settle c).mbs, mbn := (s.beamSettle.settle c).mbn, rck := (s.beamSettle.settle c).rck,
        rel := (s.beamSettle.settle c).rel, evt := (s.beamSettle.settle c).evt, hdr := (s.beamSettle.settle c).hdr } := by
  simp [State.eq_of_pages]

/-- What a change of the beam, with the responses and the shown state that follow it, may touch (R213, R477). -/
theorem beamSettle_settle_of {s v : State} (c : Nat) (h : v = { s with beam := v.beam, rel := v.rel, evt := v.evt, hdr := v.hdr }) :
    v.beamSettle.settle c =
      { s with
        seq := (v.beamSettle.settle c).seq, beam := (v.beamSettle.settle c).beam, ctl := (v.beamSettle.settle c).ctl,
        mbs := (v.beamSettle.settle c).mbs, mbn := (v.beamSettle.settle c).mbn, rck := (v.beamSettle.settle c).rck,
        rel := (v.beamSettle.settle c).rel, evt := (v.beamSettle.settle c).evt, hdr := (v.beamSettle.settle c).hdr } := by
  conv_lhs => rw [beamSettle_settle_frame]
  generalize v.beamSettle.settle c = t
  rw [h]

/-- The shown state that follows a change of the responses leaves the BEAM page and the spares' page as they are. -/
theorem beamSettle_settle_pages (s : State) (c : Nat) :
    (s.beamSettle.settle c).beam = s.beamSettle.beam ∧ (s.beamSettle.settle c).rel = s.beamSettle.rel := by
  simp

/-- What follows a change of the responses leaves each response, and droop persistence, as they are. -/
theorem beamSettle_settle_resp (s : State) (c r k : Nat) : respOf (s.beamSettle.settle c) r k = respOf s r k := by
  refine respOf_congr (fun q => ?_) r k
  obtain ⟨lo, hrail⟩ := beamSettle_rail s q
  rw [(beamSettle_settle_pages s c).1, hrail]

/-- What follows a change of the responses leaves the detectors as they are. -/
theorem beamSettle_settle_det (s : State) (c : Nat) : (s.beamSettle.settle c).beam.det = s.beam.det := by
  rw [(beamSettle_settle_pages s c).1, beamSettle_det]

/-- What follows a change of the responses leaves the count of free spare detectors as it is. -/
theorem beamSettle_settle_ddFree (s : State) (c : Nat) :
    (s.beamSettle.settle c).rel.SPARE_USE_DD_FREE = s.rel.SPARE_USE_DD_FREE := by
  rw [(beamSettle_settle_pages s c).2, beamSettle_ddFree]

/-- What follows a change of the responses may flag long interruptions (R213, R500). -/
theorem ErrorsArrive.beamSettle {s t : State} (h : ErrorsArrive s t) : ErrorsArrive s t.beamSettle := by
  rw [beamSettle_eq, termHeld_frame]
  exact List.foldlRecOn (motive := ErrorsArrive s) _ _ (h.trans (.of_hdr rfl)) fun _ hv c _ => hv.intrStep c

end Sys2Proof.Machine
end

section
/-! PROOFS. Droop detectors, stretches and detector spares (R185, R202 to R205, R491). -/

namespace Sys2Proof.Machine

open Sys2Proof

/-- Another element of a repeated register keeps its value, by the elements' own indices. -/
theorem getElem_set_other {α : Type} {n : Nat} (v : Vector α n) {i j : Fin n} (x : α) (h : j ≠ i) : (v.set i x)[j] = v[j] :=
  Vector.getElem_set_ne i.isLt j.isLt fun e => h (Fin.ext e.symm)

/-! ### Comparators -/

/-- A comparator has tripped: it is counted, and the stretches it causes are seen (R202, R203). -/
def State.detTripped (s : State) (d : Nat) : State :=
  let u := s.detMod d fun e => { e with out := true, DDCNT := satAdd 32 e.DDCNT 1 }
  { u with ctl.strSeen := u.ctl.strSeen ||| stretchNow u }

/-- A comparator has released (R202). -/
def State.detReleased (s : State) (d : Nat) : State := s.detMod d fun e => { e with out := false, stuck := 0 }

/-- The OR of a rail's detectors falls (R202, R204). -/
def State.stretchEnd (s : State) (r : Nat) : State := s.brMod r fun e => { e with orAt := none, lastHigh := some s.now }

section
variable {s : State} {d : Fin 72} {r : Fin 16}

/-- DROOP_DETECT on a detector that serves a rail begins a stretch where the OR of the rail's detectors rises with it (R203). -/
theorem exec_droopDetect (hr : (detPrimary s d.val).map detRail = some r.val) (hout : (detOf s d.val).out = false) :
    exec (.droopDetect d) s =
      .next (if !railOr s r.val && railOr (s.detTripped d.val) r.val then (s.detTripped d.val).stretchBegin r.val
        else s.detTripped d.val) := by
  show execDroopDetect d s = _
  simp only [execDroopDetect, hout, hr, Bool.false_eq_true, if_false]
  rfl

/-- DROOP_RELEASE on a detector that serves a rail ends the stretch where the OR of the rail's detectors falls with it (R202). -/
theorem exec_droopRelease (hr : (detPrimary s d.val).map detRail = some r.val) (hout : (detOf s d.val).out = true) :
    exec (.droopRelease d) s =
      .next (if railOr s r.val && !railOr (s.detReleased d.val) r.val then (s.detReleased d.val).stretchEnd r.val
        else s.detReleased d.val) := by
  show execDroopRelease d s = _
  simp only [execDroopRelease, hout, hr, if_true]
  rfl

/-- The OR of a rail's detectors is read from the detectors and the fuses (R196, R203). -/
theorem railOr_congr {s t : State} (hdet : t.beam.det = s.beam.det) (hcmn : t.cmn = s.cmn) (r : Nat) : railOr t r = railOr s r := by
  have habsent : railAbsent t = railAbsent s := by
    funext r
    rw [railAbsent, fuseRail, hcmn, railAbsent, fuseRail]
  have hprimary : detPrimary t = detPrimary s := by
    funext d
    rw [detPrimary, hdet, detPrimary]
  have hcounts : detCounts t = detCounts s := by
    funext d
    rw [detCounts, hdet, hprimary, habsent, detCounts]
  rw [railOr, hdet, hcounts, hprimary, railOr]

/-- A stretch that begins is one stretch more in the last 16 µs (R204). -/
theorem stretchBegin_stretches16 (s : State) (r : Fin 16) : stretches16 (s.stretchBegin r.val) r.val = stretches16 s r.val + 1 := by
  simp [stretches16, State.stretchBegin, vAt_vMod_same, List.filter_filter]

/-- A stretch that begins is counted in the rail's epoch, and holds its harvesting (R185, R203). -/
theorem stretchBegin_tly (s : State) (r : Fin 16) :
    (s.stretchBegin r.val).tly.rail =
      s.tly.rail.set r { s.tly.rail[r] with HARV_STRETCHES := satAdd 8 s.tly.rail[r].HARV_STRETCHES 1, holdOn := true } := by
  simp only [State.stretchBegin, vMod_fin]
  rfl

/-- A stretch that begins marks when the rail's OR rose, on that rail alone (R204). -/
theorem stretchBegin_beam (s : State) (r : Fin 16) :
    (s.stretchBegin r.val).beam.rail[r].orAt = some s.now ∧
      ∀ q : Fin 16, q ≠ r → (s.stretchBegin r.val).beam.rail[q] = s.beam.rail[q] := by
  simp only [State.stretchBegin, State.brMod_beam, vMod_fin]
  exact ⟨by simp, fun q hq => getElem_set_other _ _ hq⟩

/-- A stretch that ends marks when the rail's OR fell, on that rail alone (R204). -/
theorem stretchEnd_beam (s : State) (r : Fin 16) :
    (s.stretchEnd r.val).beam.rail[r].lastHigh = some s.now ∧ (s.stretchEnd r.val).beam.rail[r].orAt = none ∧
      ∀ q : Fin 16, q ≠ r → (s.stretchEnd r.val).beam.rail[q] = s.beam.rail[q] := by
  simp only [State.stretchEnd, State.brMod_beam, vMod_fin]
  exact ⟨by simp, by simp, fun q hq => getElem_set_other _ _ hq⟩

/-- The detectors once one has tripped (R202). -/
theorem detTripped_det (s : State) (d : Fin 72) :
    (s.detTripped d.val).beam.det = s.beam.det.set d { s.beam.det[d] with out := true, DDCNT := satAdd 32 s.beam.det[d].DDCNT 1 } :=
  vMod_fin s.beam.det d fun e => { e with out := true, DDCNT := satAdd 32 e.DDCNT 1 }

/-- The detectors once one has released (R202). -/
theorem detReleased_det (s : State) (d : Fin 72) :
    (s.detReleased d.val).beam.det = s.beam.det.set d { s.beam.det[d] with out := false, stuck := 0 } :=
  vMod_fin s.beam.det d fun e => { e with out := false, stuck := 0 }

end

/-! ### Droop persistence and the stretch hold -/

/-- A rail in droop persistence is put at its floor (R204, R207). -/
def State.persisted (s : State) (r : Nat) : State := (s.brMod r fun e => { e with persist := true }).respBegin r 0 0

section
variable {s : State} {r : Fin 16}

/-- DROOP_PERSISTENCE on a present rail whose OR has been high for 1 µs, or that has stretched 32 times within 16 µs (R204). -/
theorem exec_droopPersistence (hout : s.beam.rail[r].persist = false) (hpresent : railAbsent s r.val = false)
    (hdue : (∃ t0, s.beam.rail[r].orAt = some t0 ∧ railOr s r.val = true ∧ t0 + 4 ≤ s.now) ∨ 32 ≤ stretches16 s r.val) :
    exec (.droopPersistence r) s =
      .next (((s.persisted r.val).event 0x0410 [r.val, stretches16 s r.val]).beamSettle.settle 0x0410) := by
  refine congrArg Host.Outcome.next (if_pos ?_)
  simp only [vAt_page, hout, hpresent, Bool.not_false, Bool.true_and, Bool.or_eq_true, decide_eq_true_eq]
  obtain ⟨t0, hat, hor, hlong⟩ | hmany := hdue
  · refine .inl ?_
    rw [hat, hor]
    exact after_of_le hlong
  · exact .inr hmany

/-- A rail in droop persistence is marked, and its response is in force at 0 (R204). -/
theorem persisted_rail (s : State) (r : Fin 16) :
    (s.persisted r.val).beam.rail[r].persist = true ∧ respOn (s.persisted r.val) r.val 0 = true ∧
      (respOf (s.persisted r.val) r.val 0).rc = 0 := by
  obtain ⟨hon, hrc, hkeep⟩ := respBegin_rail (s.brMod r.val fun e => { e with persist := true }) 0 r.isLt (by decide : 0 < 8)
  refine ⟨?_, hon, Nat.le_zero.mp hrc⟩
  have hmark := hkeep r.val
  rw [vAt_page, State.brMod_beam, vAt_vMod_same _ _ _ _ r.isLt] at hmark
  exact hmark

/-- Droop persistence leaves the detectors as they are. -/
theorem persisted_det (s : State) (r : Nat) : (s.persisted r).beam.det = s.beam.det := by
  rw [State.persisted, respBegin_beam]
  rfl

/-- What droop persistence touches before what follows a change of the responses. -/
theorem persisted_frame (s : State) (r : Nat) :
    s.persisted r = { s with beam := (s.persisted r).beam, evt := (s.persisted r).evt, hdr := (s.persisted r).hdr } := by
  conv_lhs => rw [State.persisted, respBegin_frame]
  rfl

/-- Droop persistence leaves its rail marked and at its floor, whatever follows (R204, R207). -/
theorem persisted_settles (s : State) (r : Fin 16) (c d : Nat) (l : List Nat) :
    (((s.persisted r.val).event d l).beamSettle.settle c).beam.rail[r].persist = true ∧
      respOn (((s.persisted r.val).event d l).beamSettle.settle c) r.val 0 = true ∧
      railRc (((s.persisted r.val).event d l).beamSettle.settle c) r.val = 0 ∧
      railFloor (((s.persisted r.val).event d l).beamSettle.settle c) r.val = true := by
  obtain ⟨hpersist, hon, hrc⟩ := persisted_rail s r
  generalize s.persisted r.val = u at *
  have hbeam : (u.event d l).beam = u.beam := by simp
  have hresp : respOf ((u.event d l).beamSettle.settle c) r.val 0 = respOf u r.val 0 := by
    rw [beamSettle_settle_resp, respOf, hbeam, respOf]
  obtain ⟨lo, hrail⟩ := beamSettle_rail (u.event d l) r
  have hon' : respOn ((u.event d l).beamSettle.settle c) r.val 0 = true := by
    rw [respOn, hresp]
    exact hon
  refine ⟨?_, hon', railFloor_of_resp (by decide : 0 < 8) hon' ((congrArg Resp.rc hresp).trans hrc)⟩
  rw [(beamSettle_settle_pages _ c).1, hrail, hbeam]
  exact hpersist

/-- A rail has been without a stretch for 64 µs (R204). -/
theorem stretchFree_of_low (hor : railOr s r.val = false) (hlow : ∀ t0, s.beam.rail[r].lastHigh = some t0 → t0 + 256 ≤ s.now) :
    stretchFree s r.val = true := by
  unfold stretchFree
  rw [hor, vAt_page]
  split
  next t0 hat => exact after_of_le (hlow t0 hat)
  next => rfl

/-- DROOP_PERSISTENCE_END on a rail without a stretch for 64 µs (R204). -/
theorem exec_droopPersistenceEnd (hfree : stretchFree s r.val = true) (hon : s.beam.rail[r].persist = true) :
    exec (.droopPersistenceEnd r) s =
      .next { s with beam := { s.beam with rail := s.beam.rail.set r { s.beam.rail[r] with persist := false } } } := by
  show execDroopPersistenceEnd r s = _
  simp only [execDroopPersistenceEnd, vAt_page, hon, hfree, Bool.and_self, if_true, State.brMod, vMod_fin]

/-- The stretch hold of a rail is over (R185). -/
def State.holdEnded (s : State) (r : Fin 16) : State :=
  { s with tly := { s.tly with rail := s.tly.rail.set r { s.tly.rail[r] with holdOn := false } } }

/-- STRETCH_HOLD_END on a rail without a stretch for 64 µs: outside the drain window harvesting is judged again (R185, R187). -/
theorem exec_stretchHoldEnd (hfree : stretchFree s r.val = true) (hon : s.tly.rail[r].holdOn = true) :
    exec (.stretchHoldEnd r) s =
      .next (if s.tly.EPOCH_DRAIN then s.holdEnded r else (s.holdEnded r).harvestBegin r.val) := by
  show execStretchHoldEnd r s = _
  simp only [execStretchHoldEnd, stretchHold, vAt_page, hon, hfree, Bool.and_self, if_true, vMod_fin]
  rfl

/-- Harvesting that is judged again on a rail whose hold is over changes that rail alone (R187). -/
theorem holdEnded_harvestBegin (s : State) (r : Fin 16) :
    (s.holdEnded r).harvestBegin r.val =
      { s with
        tly := { s.tly with
          rail := s.tly.rail.set r { s.tly.rail[r] with holdOn := false, HARV_HARV := harvestOk (s.holdEnded r) r.val } } } := by
  simp [State.eq_of_pages, State.holdEnded, vMod_fin]

end

/-! ### Detector spares -/

/-- One free spare detector fewer (R491). -/
def State.ddTaken (s : State) : State := { s with rel.SPARE_USE_DD_FREE := s.rel.SPARE_USE_DD_FREE - 1 }

/-- Spare `d` serves primary `p` (R491). -/
def State.spareServes (s : State) (d p : Nat) : State :=
  (s.detMod d fun e => { e with DD_SERVES := p, DD_SUBST := true, want := 127 }).detMod p fun e => { e with DD_SUBST := true }

section
variable {s : State} {j : Fin 8} {p : Fin 64}

/-- DETECTOR_SPARE_JOIN of a spare whose read-back passes (R491). -/
theorem exec_detectorSpareJoin_passed (h : (detOf s (64 + j.val)).want = p.val) :
    exec (.detectorSpareJoin j true) s = .next ((s.spareServes (64 + j.val) p.val).ddTaken.beamSettle.settle 0x041D) := by
  show execDetectorSpareJoin j true s = _
  simp only [execDetectorSpareJoin, h, if_neg (Nat.not_le.mpr p.isLt), if_true]
  rfl

/-- DETECTOR_SPARE_JOIN of a spare whose read-back fails (R205, R491). -/
theorem exec_detectorSpareJoin_failed (h : (detOf s (64 + j.val)).want = p.val) :
    exec (.detectorSpareJoin j false) s = .next ((s.ddTaken.failDet (64 + j.val) 4).beamSettle.settle 0x041D) := by
  show execDetectorSpareJoin j false s = _
  simp only [execDetectorSpareJoin, h, if_neg (Nat.not_le.mpr p.isLt), Bool.false_eq_true, if_false]
  rfl

/-- The detectors once a spare serves its primary (R491). -/
theorem spareServes_det (s : State) (j : Fin 8) (p : Fin 64) :
    detOf (s.spareServes (64 + j.val) p.val) (64 + j.val) =
        { detOf s (64 + j.val) with DD_SERVES := p.val, DD_SUBST := true, want := 127 } ∧
      detOf (s.spareServes (64 + j.val) p.val) p.val = { detOf s p.val with DD_SUBST := true } ∧
      ∀ d, d ≠ p.val → d ≠ 64 + j.val → detOf (s.spareServes (64 + j.val) p.val) d = detOf s d := by
  have hne : p.val ≠ 64 + j.val := by omega
  unfold State.spareServes
  refine ⟨?_, ?_, fun d hp hj => ?_⟩
  · rw [detOf_detMod_other _ hne, detOf_detMod _ (by omega)]
  · rw [detOf_detMod _ (by omega), detOf_detMod_other _ hne.symm]
  · rw [detOf_detMod_other _ hp.symm, detOf_detMod_other _ hj.symm]

/-- A spare whose read-back fails is marked failed and serves none, an error of the BEAM page says so, and one free spare fewer is left
(R205, R491). -/
theorem spareFails (hok : (detOf s (64 + j.val)).DD_FAILED = false) :
    detOf (s.ddTaken.failDet (64 + j.val) 4) (64 + j.val) =
        { detOf s (64 + j.val) with DD_FAILED := true, stuck := 0, DD_SUBST := false, DD_SERVES := 127, want := 127 } ∧
      (s.ddTaken.failDet (64 + j.val) 4).hasErr pgBeam 19 ∧
      (s.ddTaken.failDet (64 + j.val) 4).rel.SPARE_USE_DD_FREE = s.rel.SPARE_USE_DD_FREE - 1 := by
  have hok' : ¬ (detOf s.ddTaken (64 + j.val)).DD_FAILED = true := by
    show ¬ (detOf s (64 + j.val)).DD_FAILED = true
    simp [hok]
  exact ⟨detOf_failDet_spare hok' (by omega) (by omega), failDet_hasErr hok', by rw [failDet_rel]; rfl⟩

end

end Sys2Proof.Machine
end

section
namespace Sys2Proof.Proofs

open Sys2Proof Sys2Proof.Machine

/-- Settles O35: a comparator's command is split on whether the OR of its rail changes with it; droop persistence leaves its response in
force at 0, which no later part of the command raises; a spare's command is its detectors' equations, which the settling after it keeps. -/
theorem detectorsRun : Obligations.DetectorsRun := by
  unfold Obligations.DetectorsRun
  refine ⟨fun s => ⟨fun d r hr hout => ?detect, fun d r hr hout => ?release, fun r hout hpresent hdue => ?persistence,
    fun r hor hlow => ⟨fun hon => ?persistenceEnd, fun hon => ?holdEnd⟩⟩, fun s j p hwant => ⟨?joins, fun hok => ?fails⟩⟩
  case detect =>
    have run := exec_droopDetect hr hout
    split at run
    next hrise =>
      have hor : railOr ((s.detTripped d.val).stretchBegin r.val) r.val = railOr (s.detTripped d.val) r.val := railOr_congr rfl rfl _
      obtain ⟨hat, hothers⟩ := stretchBegin_beam (s.detTripped d.val) r
      have htly := stretchBegin_tly (s.detTripped d.val) r
      refine ⟨_, run, detTripped_det s d, fun _ _ => ⟨?_, hat, stretchBegin_stretches16 _ r⟩, fun heq => ?_,
        fun q hq => ⟨?_, hothers q hq⟩, rfl⟩
      · rw [htly]
        simp [State.detTripped]
      · simp [heq, hor] at hrise
      · rw [htly]
        exact getElem_set_other _ _ hq
    next hrise =>
      refine ⟨_, run, detTripped_det s d, fun hlow hhigh => ?_, fun _ => ⟨rfl, rfl⟩, fun _ _ => ⟨rfl, rfl⟩, rfl⟩
      simp [hlow, hhigh] at hrise
  case release =>
    have run := exec_droopRelease hr hout
    split at run
    next hfall =>
      obtain ⟨hlast, hat, hothers⟩ := stretchEnd_beam (s.detReleased d.val) r
      exact ⟨_, run, detReleased_det s d, fun _ _ => ⟨hlast, hat⟩, hothers, rfl⟩
    next hfall =>
      refine ⟨_, run, detReleased_det s d, fun hhigh hlow => ?_, fun _ _ => rfl, rfl⟩
      simp [hhigh, hlow] at hfall
  case persistence =>
    obtain ⟨hpersist, hon, hrc, hfloor⟩ := persisted_settles s r 0x0410 0x0410 [r.val, stretches16 s r.val]
    refine ⟨_, exec_droopPersistence hout hpresent hdue, hpersist, hon, hrc, hfloor, ?_, ?_⟩
    · rw [beamSettle_settle_det]
      simp [persisted_det]
    · refine beamSettle_settle_of _ ?_
      rw [persisted_frame]
      simp [State.eq_of_pages]
  case persistenceEnd => exact exec_droopPersistenceEnd (stretchFree_of_low hor hlow) hon
  case holdEnd =>
    have run := exec_stretchHoldEnd (stretchFree_of_low hor hlow) hon
    split at run
    next hdrain =>
      refine ⟨_, run, ?_, fun _ => ?_, fun h => ?_, fun q hq => getElem_set_other _ _ hq, rfl⟩
      · simp [State.holdEnded]
      · simp [State.holdEnded]
      · simp [hdrain] at h
    next hdrain =>
      rw [holdEnded_harvestBegin] at run
      refine ⟨_, run, ?_, fun h => absurd h hdrain, fun _ => ?_, fun q hq => getElem_set_other _ _ hq, rfl⟩
      · simp
      · exact Vector.getElem_set_self _ ▸ rfl
  case joins =>
    obtain ⟨hspare, hprimary, hothers⟩ := spareServes_det s j p
    have hdet (d : Nat) : detOf ((s.spareServes (64 + j.val) p.val).ddTaken.beamSettle.settle 0x041D) d =
        detOf (s.spareServes (64 + j.val) p.val) d := by
      unfold detOf
      rw [beamSettle_settle_det]
      rfl
    refine ⟨_, exec_detectorSpareJoin_passed hwant, (hdet _).trans hspare, (hdet _).trans hprimary,
      beamSettle_settle_ddFree _ _, fun d hp hj => ?_, ?_⟩
    · rw [← vAt_page _ d {}, ← vAt_page s.beam.det d {}]
      exact (hdet d.val).trans (hothers d.val hp hj)
    · exact beamSettle_settle_of _ rfl
  case fails =>
    obtain ⟨hspare, herr, hfree⟩ := spareFails hok
    have hdet : detOf ((s.ddTaken.failDet (64 + j.val) 4).beamSettle.settle 0x041D) (64 + j.val) =
        detOf (s.ddTaken.failDet (64 + j.val) 4) (64 + j.val) := by
      unfold detOf
      rw [beamSettle_settle_det]
    have hshown : ErrorsArrive _ ((s.ddTaken.failDet (64 + j.val) 4).beamSettle.settle 0x041D) :=
      (ErrorsArrive.of_hdr rfl).beamSettle.settle 0x041D
    refine ⟨_, exec_detectorSpareJoin_failed hwant, ?_, ?_, ?_, hshown.keeps _ _ herr, (beamSettle_settle_ddFree _ _).trans hfree, ?_⟩
    · rw [hdet, hspare]
    · rw [hdet, hspare]
    · rw [hdet, hspare]
    · exact beamSettle_settle_of _ (failDet_frame ..)

/-- Rail 0 present, its detector 0 asserted for 1 µs, and the spare of its pair waiting to serve detector 0. -/
def stretchedRail : State :=
  { liveReset with
    cmn.fuses.rail := Vector.replicate 16 ⟨8, 0, 0, 0, 0⟩
    beam := { liveReset.beam with
      rail := liveReset.beam.rail.set 0 { orAt := some 0 }, det := (liveReset.beam.det.set 0 { out := true }).set 64 { want := 0 } },
    now := 4 }

/-- `detectorsRun` applies: detector 1 of the same rail trips, and is counted. -/
theorem stretchedRail_detects : ∃ t, exec (.droopDetect 1) stretchedRail = .next t ∧ t.beam.det[1].DDCNT = 1 := by
  obtain ⟨rails, -⟩ := detectorsRun
  obtain ⟨detect, -⟩ := rails stretchedRail
  obtain ⟨t, run, hdet, -⟩ := detect 1 0 (by decide) (by decide)
  exact ⟨t, run, by rw [hdet]; decide⟩

/-- `detectorsRun` applies: the rail goes to its beam floor. -/
theorem stretchedRail_persists : ∃ t, exec (.droopPersistence 0) stretchedRail = .next t ∧ railFloor t 0 = true := by
  obtain ⟨rails, -⟩ := detectorsRun
  obtain ⟨-, -, persistence, -⟩ := rails stretchedRail
  obtain ⟨t, run, -, -, -, hfloor, -⟩ := persistence 0 rfl (by decide) (.inl ⟨0, rfl, by decide, le_rfl⟩)
  exact ⟨t, run, hfloor⟩

/-- `detectorsRun` applies: the spare serves detector 0. -/
theorem stretchedRail_spareJoins :
    ∃ t, exec (.detectorSpareJoin 0 true) stretchedRail = .next t ∧ (detOf t 64).DD_SERVES = 0 ∧ (detOf t 0).DD_SUBST = true := by
  obtain ⟨-, spares⟩ := detectorsRun
  obtain ⟨⟨t, run, hspare, hprimary, -⟩, -⟩ := spares stretchedRail 0 0 (by decide)
  exact ⟨t, run, congrArg BeamDet.DD_SERVES hspare, congrArg BeamDet.DD_SUBST hprimary⟩

end Sys2Proof.Proofs
end

section
/-! PROOFS. EMERGENCY: the entry, the exit, the ramp of its term and the persistent overload (R45, R213 to R215). -/

namespace Sys2Proof.Machine

open Sys2Proof

/-- The beam holds every ceiling at 0 in EMERGENCY and TRIPPED (R207). -/
theorem bc_of_emergency {s : State} (h : s.beam.inEmg = true ∨ s.seq.tripped = true) (c : Nat) : bc s c = 0 := by
  have hterm : emgTermNow s = 0 := by obtain h | h := h <;> simp [emgTermNow, h]
  simp [bc, hterm]

/-! ### The entry -/

/-- The beam once it holds the die (R213 step 2). -/
def State.emgBegun (s : State) (k src : Nat) : State :=
  { s with beam.inEmg := true, beam.emgAt := s.now, beam.emgGone := none, beam.emgTerm := 0, beam.CAUSE_EMG_CAUSE := k,
           beam.CAUSE_EMG_SRC := src, beam.EMG_CNT_EMERGENCIES := satAdd 16 s.beam.EMG_CNT_EMERGENCIES 1 }

/-- The entry recorded, and the state shown (R213 step 3). -/
def State.emgShown (s : State) (k src : Nat) : State := ((s.emgBegun k src).event 0x0415 [k, src]).settle 0x0415

section
variable {s : State} {k src : Nat}

/-- EMERGENCY_ENTRY where a cause is due (R213). -/
theorem exec_emergencyEntry (hin : s.beam.inEmg = false) (htrip : s.seq.tripped = false) (hdue : emgDue s = some (k, src)) :
    exec .emergencyEntry s = .next (s.emgShown k src).beamSettle := by
  show execEmergencyEntry s = _
  simp only [execEmergencyEntry, hin, htrip, hdue, Bool.or_self, Bool.false_eq_true, if_false]
  rfl

/-- The entry leaves the BEAM page as the beam's hold does. -/
theorem emgShown_beam (s : State) (k src : Nat) : (s.emgShown k src).beam = (s.emgBegun k src).beam := by simp [State.emgShown]

/-- The entry shows EMERGENCY, and changes nothing else on the SEQ page (R45, R213). -/
theorem emgShown_seq (htrip : s.seq.tripped = false) : (s.emgShown k src).seq = { s.seq with shown := stEmergency } := by
  simp [State.emgShown, State.emgBegun, shownState, htrip]

/-- What the entry may touch (R213). -/
theorem emgShown_beamSettle_frame (s : State) (k src : Nat) :
    (s.emgShown k src).beamSettle =
      { s with
        seq := (s.emgShown k src).beamSettle.seq, beam := (s.emgShown k src).beamSettle.beam,
        ctl := (s.emgShown k src).beamSettle.ctl, mbs := (s.emgShown k src).beamSettle.mbs,
        mbn := (s.emgShown k src).beamSettle.mbn, rck := (s.emgShown k src).beamSettle.rck,
        rel := (s.emgShown k src).beamSettle.rel, evt := (s.emgShown k src).beamSettle.evt,
        hdr := (s.emgShown k src).beamSettle.hdr } := by
  simp [State.eq_of_pages, State.emgShown, State.emgBegun]

end

/-! ### The exit, and the ramp of the term -/

/-- The beam no longer holds the die: recorded, and the state shown (R213 step 6). -/
def State.emgEnded (s : State) : State :=
  ({ s with beam.inEmg := false, beam.emgTerm := 0, beam.emgStep := s.now }.event 0x0416 [sat 16 (s.usSince s.beam.emgAt)]).settle 0x0416

/-- A load that waited for the end of EMERGENCY to be abandoned ends in SAFE (R46). -/
def State.loadDropped (s : State) : State :=
  if s.seq.abandon then ({ s with seq.abandon := false }.enterSafe).settle 0x0116 else s

section
variable {s : State}

/-- EMERGENCY_EXIT 100 µs after the last cause (R213). -/
theorem exec_emergencyExit {g : Nat} (hin : s.beam.inEmg = true) (hgone : s.beam.emgGone = some g) (hdue : g + 400 ≤ s.now) :
    exec .emergencyExit s = .next s.emgEnded.loadDropped.beamSettle := by
  have hcond : (s.beam.inEmg && s.after g 400) = true := by rw [hin, after_of_le hdue]; rfl
  show execEmergencyExit s = _
  unfold execEmergencyExit
  rw [hgone]
  exact congrArg Host.Outcome.next (if_pos hcond)

/-- An end of EMERGENCY changes the SEQ page in the shown state alone (R477). -/
theorem emgEnded_seq (s : State) : s.emgEnded.seq = { s.seq with shown := s.emgEnded.seq.shown } := by simp [State.emgEnded]

/-- The end of EMERGENCY on the BEAM page: the term begins at 0 (R213 step 7). -/
theorem emgEnded_beam (s : State) : s.emgEnded.beam = { s.beam with inEmg := false, emgTerm := 0, emgStep := s.now } := by
  simp [State.emgEnded]

/-- A load that is dropped leaves the BEAM page as it is. -/
theorem loadDropped_beam (s : State) : s.loadDropped.beam = s.beam := by
  unfold State.loadDropped
  split <;> simp

/-- A load that waits to be abandoned ends in SAFE, and waits no longer (R46). -/
theorem loadDropped_seq (h : s.seq.abandon = true) : s.loadDropped.seq.base = .safe ∧ s.loadDropped.seq.abandon = false := by
  rw [State.loadDropped, if_pos h]
  simp [State.enterSafe, State.unlockPages]

/-- What the exit may touch (R213). -/
theorem emgEnded_frame (s : State) :
    s.emgEnded.loadDropped.beamSettle =
      { s with
        seq := s.emgEnded.loadDropped.beamSettle.seq, beam := s.emgEnded.loadDropped.beamSettle.beam,
        ctl := s.emgEnded.loadDropped.beamSettle.ctl, mbs := s.emgEnded.loadDropped.beamSettle.mbs,
        mbn := s.emgEnded.loadDropped.beamSettle.mbn, rck := s.emgEnded.loadDropped.beamSettle.rck,
        rel := s.emgEnded.loadDropped.beamSettle.rel, evt := s.emgEnded.loadDropped.beamSettle.evt,
        hdr := s.emgEnded.loadDropped.beamSettle.hdr } := by
  rw [State.eq_of_pages]
  unfold State.loadDropped
  split <;> simp [State.emgEnded]

/-- The EMERGENCY term one level higher (R213 step 7). -/
def State.emgRaised (s : State) : State := { s with beam.emgTerm := s.beam.emgTerm + 1, beam.emgStep := s.now }

/-- EMERGENCY_RAMP_STEP with no cause present, 4 µs after the last step (R213). -/
theorem exec_emergencyRampStep (hin : s.beam.inEmg = false) (hterm : s.beam.emgTerm < 15) (hcause : emgCausePresent s = false)
    (hdue : s.beam.emgStep + 16 ≤ s.now) : exec .emergencyRampStep s = .next s.emgRaised.beamSettle := by
  refine congrArg Host.Outcome.next (if_pos ?_)
  simp [hin, hterm, hcause, after_of_le hdue]

/-- A raised term leaves the causes of EMERGENCY as they are. -/
theorem emgRaised_cause (s : State) : emgCausePresent s.emgRaised = emgCausePresent s :=
  emgCausePresent_congr rfl rfl rfl rfl (fun _ => rfl) fun _ => rfl

/-! ### The persistent overload -/

/-- PERSISTENT_OVERLOAD 1 ms after the entry: the die trips with cause 5 (R213, R214). -/
theorem exec_persistentOverload (hin : s.beam.inEmg = true) (hdue : s.beam.emgAt + 4000 ≤ s.now) (hover : overloadPresent s = true) :
    ∃ src value, exec .persistentOverload s = .next (s.trip 5 src value).beamSettle := by
  have hafter : s.after s.beam.emgAt ticksPerMs = true := after_of_le hdue
  have hcond : (s.beam.inEmg && s.after s.beam.emgAt ticksPerMs && overloadPresent s) = true := by rw [hin, hover, hafter]; rfl
  have hrun : exec .persistentOverload s = _ := congrArg Host.Outcome.next (if_pos hcond)
  rw [hrun]
  split
  · exact ⟨_, _, rfl⟩
  · exact ⟨_, _, rfl⟩

/-- The entry to TRIPPED closes an open live load (R472). -/
theorem tripEntry_seq (htrip : s.seq.tripped = false) : s.tripEntry.seq.tripped = true ∧ s.tripEntry.seq.STATE_LIVE_LOAD = false := by
  simp only [State.tripEntry, htrip, Bool.false_eq_true, if_false]
  split <;> exact ⟨rfl, rfl⟩

/-- What the trip of a die that has not tripped leaves: TRIPPED shown and no live load on the SEQ page, the latch, the cause and the
count on the BEAM page, and the shut-down phase of the thermal layer (R45, R215, R223, R472). -/
theorem trip_effect (htrip : s.seq.tripped = false) (cause src value : Nat) :
    ((s.trip cause src value).seq.tripped = true ∧ (s.trip cause src value).seq.shown = stTripped ∧
      (s.trip cause src value).seq.STATE_LIVE_LOAD = false) ∧
    (s.trip cause src value).beam =
      { s.beam with STATE_TRIP_LATCH := true, CAUSE_TRIP_CAUSE := cause, CAUSE_TRIP_SRC := src,
                    EMG_CNT_TRIPS := satAdd 16 s.beam.EMG_CNT_TRIPS 1 } ∧
    (s.trip cause src value).thm.STATE_PHASE = 2 := by
  obtain ⟨hentry, hlive⟩ := tripEntry_seq htrip
  simp [State.trip, shownState, htrip, hentry, hlive]

/-- What a trip, with the responses that follow it, may touch (R215). -/
theorem trip_beamSettle_frame (s : State) (cause src value : Nat) :
    (s.trip cause src value).beamSettle =
      { s with
        seq := (s.trip cause src value).beamSettle.seq, tly := (s.trip cause src value).beamSettle.tly,
        adm := (s.trip cause src value).beamSettle.adm, beam := (s.trip cause src value).beamSettle.beam,
        ctl := (s.trip cause src value).beamSettle.ctl, fcs := (s.trip cause src value).beamSettle.fcs,
        thm := (s.trip cause src value).beamSettle.thm, dom := (s.trip cause src value).beamSettle.dom,
        vrg := (s.trip cause src value).beamSettle.vrg, frm := (s.trip cause src value).beamSettle.frm,
        mbs := (s.trip cause src value).beamSettle.mbs, mbn := (s.trip cause src value).beamSettle.mbn,
        rck := (s.trip cause src value).beamSettle.rck, rel := (s.trip cause src value).beamSettle.rel,
        evt := (s.trip cause src value).beamSettle.evt, hdr := (s.trip cause src value).beamSettle.hdr,
        stg := (s.trip cause src value).beamSettle.stg } := by
  simp [State.eq_of_pages]

end

end Sys2Proof.Machine
end

section
namespace Sys2Proof.Proofs

open Sys2Proof Sys2Proof.Machine

/-- Settles O36: each command leaves the BEAM page as the beam's own step does, which what follows a change of the responses keeps but
for its marks (`beamSettle_beam`, `beamSettle_emgTerm`); the shown state and the trip have their own equations. -/
theorem emergencyRuns : Obligations.EmergencyRuns := by
  unfold Obligations.EmergencyRuns
  refine fun s => ⟨fun k src hin htrip hdue => ?entry, fun g hin hgone hdue => ?exit, fun hin hterm15 hcause hdue => ?ramp,
    fun hin hdue hover htrip => ?overload⟩
  case entry =>
    obtain ⟨fl, rl, dl, eg, et, hbeam, -⟩ := beamSettle_beam (s.emgShown k src)
    rw [emgShown_beam] at hbeam
    have hsame : (s.emgShown k src).beamSettle.seq = (s.emgShown k src).seq := by simp
    have hseq := hsame.trans (emgShown_seq htrip)
    have hframe := emgShown_beamSettle_frame s k src
    refine ⟨_, exec_emergencyEntry hin htrip hdue, ?_⟩
    generalize (s.emgShown k src).beamSettle = t at *
    have hin' : t.beam.inEmg = true := by rw [hbeam]; rfl
    refine ⟨hin', ?_, by rw [hseq], fun c => bc_of_emergency (.inl hin') _, ?_, ?_, ?_, by rw [hseq], hframe⟩ <;>
    · rw [hbeam]
      rfl
  case exit =>
    obtain ⟨fl, rl, dl, eg, et, hbeam, -⟩ := beamSettle_beam s.emgEnded.loadDropped
    have hterm := beamSettle_emgTerm s.emgEnded.loadDropped
    rw [loadDropped_beam, emgEnded_beam] at hbeam hterm
    have hseq : s.emgEnded.loadDropped.beamSettle.seq = s.emgEnded.loadDropped.seq := by simp
    have habandon : s.emgEnded.seq.abandon = s.seq.abandon := by rw [emgEnded_seq]
    refine ⟨_, exec_emergencyExit hin hgone hdue, ?_, ?_, fun hkept => ?_, fun hdrop => ?_, emgEnded_frame s⟩
    · rw [hbeam]
    · obtain h | ⟨h, -⟩ := hterm <;> exact h
    · rw [hseq, State.loadDropped, if_neg (by simp [habandon, hkept])]
      exact emgEnded_seq s
    · rw [hseq]
      exact loadDropped_seq (habandon.trans hdrop)
  case ramp =>
    obtain ⟨fl, rl, dl, eg, et, hbeam, -⟩ := beamSettle_beam s.emgRaised
    have hterm : s.emgRaised.beamSettle.beam.emgTerm = s.beam.emgTerm + 1 := by
      obtain h | ⟨-, h⟩ := beamSettle_emgTerm s.emgRaised
      · exact h
      · rw [emgRaised_cause, hcause] at h
        exact absurd h (by decide)
    refine ⟨_, exec_emergencyRampStep hin hterm15 hcause hdue, hterm, ?_, ?_, ?_⟩
    · rw [hbeam]
      rfl
    · rw [hbeam]
      exact hin
    · conv_lhs => rw [beamSettle_frame]
      generalize s.emgRaised.beamSettle = t
      rfl
  case overload =>
    obtain ⟨src, value, run⟩ := exec_persistentOverload hin hdue hover
    obtain ⟨⟨htripped, hshown, hlive⟩, htrip', hphase⟩ := trip_effect htrip 5 src value
    obtain ⟨fl, rl, dl, eg, et, hbeam, -⟩ := beamSettle_beam (s.trip 5 src value)
    have hseq : (s.trip 5 src value).beamSettle.seq = (s.trip 5 src value).seq := by simp
    have hthm : (s.trip 5 src value).beamSettle.thm = (s.trip 5 src value).thm := by simp
    have hframe := trip_beamSettle_frame s 5 src value
    rw [htrip'] at hbeam
    rw [← hseq] at htripped hshown hlive
    rw [← hthm] at hphase
    generalize (s.trip 5 src value).beamSettle = t at *
    exact ⟨t, run, htripped, by rw [hbeam], hshown, fun c => bc_of_emergency (.inr htripped) _, by rw [hbeam], by rw [hbeam], hlive,
      hphase, hframe⟩

/-- A die with ten active lanes left. -/
def lanesLost : State := { liveReset with ctl := { liveReset.ctl with MU_ACTIVE := 10 } }

/-- `emergencyRuns` applies: the lost lanes are a cause of EMERGENCY, which is counted. -/
theorem lanesLost_enters :
    ∃ t, exec .emergencyEntry lanesLost = .next t ∧ t.beam.CAUSE_EMG_CAUSE = 8 ∧ t.beam.EMG_CNT_EMERGENCIES = 1 := by
  obtain ⟨entry, -⟩ := emergencyRuns lanesLost
  obtain ⟨t, run, -, -, -, -, hcause, -, hcount, -⟩ := entry 8 0xFF rfl rfl (by decide +kernel)
  exact ⟨t, run, hcause, hcount⟩

/-- A die in EMERGENCY for 1 ms, where rail 0, whose domain set holds domain 0, has its current response at 0. -/
def overloadedDie : State :=
  { liveReset with
    cmn.fuses.rail := Vector.replicate 16 ⟨8, 0, 0, 0, 1⟩
    beam := { liveReset.beam with
      inEmg := true, rail := liveReset.beam.rail.set 0 { resp := (Vector.replicate 8 {}).set 1 { on := true, rc := 0 } } },
    now := 4000 }

/-- `emergencyRuns` applies: the overload trips the die. -/
theorem overloadedDie_trips : ∃ t, exec .persistentOverload overloadedDie = .next t ∧ t.seq.shown = stTripped ∧ bc t 0 = 0 := by
  obtain ⟨-, -, -, overload⟩ := emergencyRuns overloadedDie
  obtain ⟨t, run, -, -, hshown, hceiling, -⟩ := overload rfl le_rfl (by decide +kernel) rfl
  exact ⟨t, run, hshown, hceiling 0⟩

/-- A die in EMERGENCY whose last cause went 100 µs ago, with a load that waits to be abandoned. -/
def causesGone : State :=
  { liveReset with
    seq := { liveReset.seq with base := .loading, abandon := true }, beam := { liveReset.beam with inEmg := true, emgGone := some 0 },
    now := 400 }

/-- `emergencyRuns` applies: EMERGENCY ends with its term at 0, and the load ends in SAFE. -/
theorem causesGone_exits : ∃ t, exec .emergencyExit causesGone = .next t ∧ t.beam.emgTerm = 0 ∧ t.seq.base = .safe := by
  obtain ⟨-, exit, -⟩ := emergencyRuns causesGone
  obtain ⟨t, run, -, hterm, -, hload, -⟩ := exit 0 rfl rfl le_rfl
  obtain ⟨hbase, -⟩ := hload rfl
  exact ⟨t, run, hterm, hbase⟩

/-- A die out of EMERGENCY whose term stands at 3, with 18 active lanes, 4 µs after the last step. -/
def risingTerm : State :=
  { liveReset with
    ctl := { liveReset.ctl with MU_ACTIVE := 18 }, beam := { liveReset.beam with emgTerm := 3 }, now := 16 }

/-- `emergencyRuns` applies: the term rises by one level. -/
theorem risingTerm_rises : ∃ t, exec .emergencyRampStep risingTerm = .next t ∧ t.beam.emgTerm = 4 := by
  obtain ⟨-, -, ramp, -⟩ := emergencyRuns risingTerm
  obtain ⟨t, run, hterm, -⟩ := ramp rfl (by decide) (by decide +kernel) le_rfl
  exact ⟨t, run, hterm⟩

end Sys2Proof.Proofs
end

section
/-! PROOFS. Brown-out, and the end of a beam self-test (R205, R217 to R220, R222). -/

namespace Sys2Proof.Machine

open Sys2Proof

/-! ### The brown-out's figures -/

/-- The scale of the brown-out is read from its step and the fuses (R195, R218). -/
theorem boScale_congr {s t : State} (hcmn : t.cmn = s.cmn) (hbuiltin : t.beam.STATE_BUILTIN = s.beam.STATE_BUILTIN)
    (hbo : t.beam.STATE_BO = s.beam.STATE_BO) (hramp : t.beam.STATE_BO_RAMP = s.beam.STATE_BO_RAMP)
    (hstep : t.beam.STATE_BO_STEP = s.beam.STATE_BO_STEP) (v : Nat) : boScale t v = boScale s v := by
  rw [boScale, hcmn, hbuiltin, hbo, hramp, hstep, boScale]

/-- From the warning to the first step of the ramp the term is BO_THR, and a ceiling BO_FRAC sixteenths of itself (R218). -/
theorem brownOut_figures {s : State} (hbuiltin : s.beam.STATE_BUILTIN = false) (hbo : s.beam.STATE_BO = true)
    (hstep : s.beam.STATE_BO_STEP = 0) :
    boTerm s = min 15 s.cmn.fuses.boThr.toNat ∧ ∀ v, boScale s v = v * (16 * s.cmn.fuses.boFrac.toNat) / 256 := by
  simp [boTerm, boScale, hbuiltin, hbo, hstep]

/-- Out of the brown-out its term is 15, and every ceiling whole (R218). -/
theorem brownOut_over {s : State} (hbo : s.beam.STATE_BO = false) (hramp : s.beam.STATE_BO_RAMP = false) :
    boTerm s = 15 ∧ ∀ v, boScale s v = v := by
  simp [boTerm, boScale, hbo, hramp]

/-- Lowered limits change the rails and the die's power alone on the BEAM page (R198). -/
theorem lowerLimits_beam (s : State) :
    s.lowerLimits.beam = { s.beam with pPre := s.lowerLimits.beam.pPre, rail := s.lowerLimits.beam.rail } := rfl

/-- What admission is presented lies at or below the ceiling in force, once limits have been lowered (R198, R219). -/
theorem lowerLimits_admits (s : State) (r : Fin 16) : s.lowerLimits.beam.rail[r].iAdm ≤ boScale s s.lowerLimits.beam.rail[r].iPre := by
  simp only [State.lowerLimits, iEff, vAt_page, Fin.getElem_fin, Vector.getElem_ofFn]
  exact Nat.min_le_right ..

/-! ### The warning, the recovery, and the ramp -/

/-- A brown-out recognised, counted and recorded: the sequence begins again (R217, R218). -/
def State.boWarned (s : State) : State :=
  { s with beam.STATE_BO := true, beam.STATE_BO_RAMP := false, beam.STATE_BO_STEP := 0, beam.boHold := false,
           beam.BO_BO_CNT := satAdd 16 s.beam.BO_BO_CNT 1 }.event 0x0417

section
variable {s : State}

/-- BROWN_OUT_WARNING of a block that runs, outside a brown-out (R217). -/
theorem exec_brownOutWarning (hstart : s.rst.started = true) (hbo : s.beam.STATE_BO = false) :
    exec .brownOutWarning s = .next s.boWarned.lowerLimits.beamSettle := by
  refine congrArg Host.Outcome.next (if_neg ?_)
  simp [hstart, hbo]

/-- What a warning leaves on the BEAM page (R217, R218, R219). -/
theorem boWarned_settles (s : State) : ∃ (fl : Vector (Option Nat) 25) (rl : Vector BeamRail 16) (dl : Nat) (eg : Option Nat)
    (et pp : Nat), s.boWarned.lowerLimits.beamSettle.beam =
      { s.beam with
        STATE_BO := true, STATE_BO_RAMP := false, STATE_BO_STEP := 0, boHold := false, BO_BO_CNT := satAdd 16 s.beam.BO_BO_CNT 1,
        pPre := pp, floorAt := fl, rail := rl, dcLow := dl, emgGone := eg, emgTerm := et } ∧
    ∀ r : Fin 16, rl[r].iAdm ≤ boScale s.boWarned rl[r].iPre := by
  obtain ⟨fl, rl, dl, eg, et, hbeam, hrail⟩ := beamSettle_beam s.boWarned.lowerLimits
  refine ⟨fl, rl, dl, eg, et, s.boWarned.lowerLimits.beam.pPre, ?_, fun r => ?_⟩
  · rw [hbeam, lowerLimits_beam]
    simp [State.boWarned]
  · obtain ⟨lo, h⟩ := hrail r
    rw [h]
    exact lowerLimits_admits s.boWarned r

/-- What a warning may touch (R217). -/
theorem boWarned_frame (s : State) :
    s.boWarned.lowerLimits.beamSettle =
      { s with
        beam := s.boWarned.lowerLimits.beamSettle.beam, ctl := s.boWarned.lowerLimits.beamSettle.ctl,
        rel := s.boWarned.lowerLimits.beamSettle.rel, evt := s.boWarned.lowerLimits.beamSettle.evt,
        hdr := s.boWarned.lowerLimits.beamSettle.hdr } := by
  simp [State.eq_of_pages, State.boWarned]

/-- BROWN_OUT_RECOVERY in a brown-out (R217, R218). -/
theorem exec_brownOutRecovery (dip : Nat) (hbo : s.beam.STATE_BO = true) :
    exec (.brownOutRecovery dip) s =
      .next ({ s with beam.STATE_BO := false, beam.STATE_BO_RAMP := true, beam.STATE_BO_STEP := 0, beam.boHold := true,
                      beam.boAt := s.now, beam.BO_LAST_US := min dip 65535 }.event 0x0418 [min dip 65535]) :=
  congrArg Host.Outcome.next (if_pos hbo)

/-- BROWN_OUT_HOLD_END 100 µs after the recovery (R218). -/
theorem exec_brownOutHoldEnd (hramp : s.beam.STATE_BO_RAMP = true) (hhold : s.beam.boHold = true) (hdue : s.beam.boAt + 400 ≤ s.now) :
    exec .brownOutHoldEnd s = .next { s with beam := { s.beam with boHold := false, boAt := s.now } } := by
  refine congrArg Host.Outcome.next (if_pos ?_)
  rw [hramp, hhold, after_of_le hdue]
  rfl

/-- One step of the brown-out's ramp; the sixteenth completes it (R218). -/
def State.boStepped (s : State) : State :=
  if 15 ≤ s.beam.STATE_BO_STEP then { s with beam.STATE_BO_RAMP := false, beam.STATE_BO_STEP := 0 }.event 0x0419
  else { s with beam.STATE_BO_STEP := s.beam.STATE_BO_STEP + 1 }

/-- BROWN_OUT_RAMP_STEP 62.5 µs after the step before it (R218). -/
theorem exec_brownOutRampStep (hramp : s.beam.STATE_BO_RAMP = true) (hhold : s.beam.boHold = false)
    (hdue : s.beam.boAt + 250 * (s.beam.STATE_BO_STEP + 1) ≤ s.now) : exec .brownOutRampStep s = .next s.boStepped.beamSettle := by
  have hcond : (s.beam.STATE_BO_RAMP && !s.beam.boHold && s.after s.beam.boAt (250 * (s.beam.STATE_BO_STEP + 1))) = true := by
    rw [hramp, hhold, after_of_le hdue]
    rfl
  have hrun : exec .brownOutRampStep s = _ := congrArg Host.Outcome.next (if_pos hcond)
  rw [hrun, State.boStepped]
  split <;> rfl

/-- The BEAM page after a step of the ramp (R218). -/
theorem boStepped_beam (s : State) :
    s.boStepped.beam =
      { s.beam with STATE_BO_RAMP := s.beam.STATE_BO_RAMP && decide (s.beam.STATE_BO_STEP < 15),
                    STATE_BO_STEP := if 15 ≤ s.beam.STATE_BO_STEP then 0 else s.beam.STATE_BO_STEP + 1 } := by
  unfold State.boStepped
  split
  next h => simp [h]
  next h => simp [Nat.lt_of_not_le h]

/-- What a step of the ramp may touch (R218). -/
theorem boStepped_frame (s : State) :
    s.boStepped.beamSettle =
      { s with
        beam := s.boStepped.beamSettle.beam, ctl := s.boStepped.beamSettle.ctl, rel := s.boStepped.beamSettle.rel,
        evt := s.boStepped.beamSettle.evt, hdr := s.boStepped.beamSettle.hdr } := by
  rw [State.eq_of_pages]
  unfold State.boStepped
  split <;> simp

/-! ### The end of a self-test -/

/-- The self-test is over, and the page shows how it went (R220). -/
def State.testEnded (s : State) (pass : Bool) (idx : Nat) : State :=
  { s with beam.test := none, beam.TEST_CTRL_START := false, beam.TEST_STAT_DONE := true, beam.TEST_STAT_PASS := pass,
           beam.TEST_STAT_FAIL_IDX := idx }.setBusy pgBeam false

/-- A failed self-test is an error of the BEAM page (R220, R222). -/
def State.testFailed (s : State) (kind idx : Nat) : State := (s.testEnded false idx).fault pgBeam 21 0x041E [kind, 0, idx]

variable {k target : Nat}

/-- BEAM_TEST_COMPLETE of a test that passed (R220). -/
theorem exec_beamTestComplete_passed (h : s.beam.test = some (k, target)) :
    exec (.beamTestComplete none) s = .next ((s.testEnded true 0).event 0x041E [k, 1, 0]) := by
  show execBeamTestComplete none s = _
  simp only [execBeamTestComplete, h]
  rfl

/-- BEAM_TEST_COMPLETE of a test that failed; a failure of kind 1 is its detector's (R205, R220). -/
theorem exec_beamTestComplete_failed (h : s.beam.test = some (k, target)) (fk : BitVec 4) (i : BitVec 8) :
    exec (.beamTestComplete (some (fk, i))) s =
      .next (if fk = 1 then ((s.testFailed k i.toNat).failDet i.toNat 3).beamSettle.settle 0x041D else s.testFailed k i.toNat) := by
  show execBeamTestComplete (some (fk, i)) s = _
  simp only [execBeamTestComplete, h]
  rfl

/-- The page of a test that is over shows nothing busy (R220). -/
theorem testEnded_busy (s : State) (pass : Bool) (idx : Nat) : (s.testEnded pass idx).hdr[pgBeam].busy = false := by
  simp [State.testEnded, State.setBusy]

/-- Errors that arrive leave a page's busy mark as it is (R107). -/
theorem ErrorsArrive.busy {s t : State} (h : ErrorsArrive s t) (q : Fin 23) : t.hdr[q].busy = s.hdr[q].busy :=
  (congrArg PageHdr.busy (h.sansErr q) :)

/-- What a failed test shows on its page, whatever errors arrive after it (R220, R222). -/
theorem testFailed_hdr {s t : State} {kind idx : Nat} (h : ErrorsArrive (s.testFailed kind idx) t) :
    t.hdr[pgBeam].busy = false ∧ t.hdr[pgBeam].err.testBit 21 = true := by
  have hended : ErrorsArrive (s.testEnded false idx) (s.testFailed kind idx) := .fault _ _ _ _ (.of_hdr rfl)
  exact ⟨((hended.trans h).busy _).trans (testEnded_busy ..), h.keeps _ _ (hasErr_fault ..)⟩

/-- A failed test on the BEAM page (R220, R222). -/
theorem testFailed_beam (s : State) (kind idx : Nat) :
    (s.testFailed kind idx).beam =
      { s.beam with test := none, TEST_CTRL_START := false, TEST_STAT_DONE := true, TEST_STAT_PASS := false,
                    TEST_STAT_FAIL_IDX := idx } := by
  simp [State.testFailed, State.testEnded]

/-- A failed test touches the beam, its header and what records it. -/
theorem testFailed_frame (s : State) (kind idx : Nat) :
    s.testFailed kind idx =
      { s with beam := (s.testFailed kind idx).beam, evt := (s.testFailed kind idx).evt, hdr := (s.testFailed kind idx).hdr } := by
  simp [State.eq_of_pages, State.testFailed, State.testEnded]

/-- A failed test whose detector fails touches the beam, the spares, the header and what records it. -/
theorem testFailed_failDet_frame (s : State) (kind idx d reason : Nat) :
    (s.testFailed kind idx).failDet d reason =
      { s with beam := ((s.testFailed kind idx).failDet d reason).beam, rel := ((s.testFailed kind idx).failDet d reason).rel,
               evt := ((s.testFailed kind idx).failDet d reason).evt, hdr := ((s.testFailed kind idx).failDet d reason).hdr } := by
  simp [State.eq_of_pages, State.testFailed, State.testEnded]

/-- The detector of a failed test, with the responses and the shown state that follow it: the rails, the detectors and the marks change on
the BEAM page, and the detector shows its failure (R205). -/
theorem failDet_settles (s : State) (d reason c : Nat) :
    (∃ fl rl dl eg et dt, ((s.failDet d reason).beamSettle.settle c).beam =
      { s.beam with floorAt := fl, rail := rl, dcLow := dl, emgGone := eg, emgTerm := et, det := dt }) ∧
    (d < 72 → (detOf ((s.failDet d reason).beamSettle.settle c) d).DD_FAILED = true) := by
  obtain ⟨hpage, -⟩ := beamSettle_settle_pages (s.failDet d reason) c
  obtain ⟨fl, rl, dl, eg, et, hbeam, -⟩ := beamSettle_beam (s.failDet d reason)
  refine ⟨⟨fl, rl, dl, eg, et, (s.failDet d reason).beam.det, ?_⟩, fun hd => ?_⟩
  · rw [hpage, hbeam, failDet_beam]
  · rw [detOf, beamSettle_settle_det]
    exact failDet_shows hd

end

end Sys2Proof.Machine
end

section
namespace Sys2Proof.Proofs

open Sys2Proof Sys2Proof.Machine

/-- Settles O37: each command of the brown-out leaves the BEAM page as the brown-out's own step does, but for the marks of
`beamSettle_beam`, so that its figures are those of the step; a failed self-test's error and header stay through the failure of its
detector (`ErrorsArrive`). -/
theorem beamEventsRun : Obligations.BeamEventsRun := by
  unfold Obligations.BeamEventsRun
  refine ⟨fun s => ⟨fun hstart hbo => ?warning, fun dip hbo => ?recovery, fun hramp hhold hdue => exec_brownOutHoldEnd hramp hhold hdue,
    fun hramp hhold hdue => ?step⟩, fun s k target htest => ⟨?passed, fun fk i => ?failed⟩⟩
  case warning =>
    obtain ⟨fl, rl, dl, eg, et, pp, hbeam, hadm⟩ := boWarned_settles s
    have hframe := boWarned_frame s
    have hcmn : s.boWarned.lowerLimits.beamSettle.cmn = s.cmn := by simp [State.boWarned]
    refine ⟨_, exec_brownOutWarning hstart hbo, ?_⟩
    generalize s.boWarned.lowerLimits.beamSettle = t at *
    refine ⟨by rw [hbeam], by rw [hbeam], by rw [hbeam], by rw [hbeam], fun hbuiltin => ?_, fun r => ?_, by rw [hbeam], hframe⟩
    · rw [← hcmn]
      exact brownOut_figures (by rw [hbeam]; exact hbuiltin) (by rw [hbeam]) (by rw [hbeam])
    · have hscale (v : Nat) : boScale t v = boScale s.boWarned v := by
        apply boScale_congr <;> simp [hbeam, hcmn, State.boWarned]
      rw [iEff, hscale, vAt_page, hbeam]
      exact hadm r
  case recovery =>
    refine ⟨_, exec_brownOutRecovery dip hbo, by simp, ?_⟩
    simp [State.eq_of_pages]
  case step =>
    obtain ⟨fl, rl, dl, eg, et, hbeam, -⟩ := beamSettle_beam s.boStepped
    have hframe := boStepped_frame s
    rw [boStepped_beam] at hbeam
    refine ⟨_, exec_brownOutRampStep hramp hhold hdue, ?_⟩
    generalize s.boStepped.beamSettle = t at *
    refine ⟨fun hlow => ?_, fun hlast => ?_, hframe⟩
    · rw [hbeam]
      simp [hlow, hramp, Nat.not_le.mpr hlow]
    · have hover : t.beam.STATE_BO_RAMP = false := by simp [hbeam, Nat.not_lt.mpr hlast]
      exact ⟨hover, fun hbo => brownOut_over (by rw [hbeam]; exact hbo) hover⟩
  case passed =>
    refine ⟨_, exec_beamTestComplete_passed htest, ?_, ?_, ?_⟩
    · simp [State.testEnded]
    · have harrive : ErrorsArrive (s.testEnded true 0) ((s.testEnded true 0).event 0x041E [k, 1, 0]) := .event _ _ (.of_hdr rfl)
      exact (harrive.busy _).trans (testEnded_busy ..)
    · simp [State.eq_of_pages, State.testEnded]
  case failed =>
    have run := exec_beamTestComplete_failed htest fk i
    have hframe := testFailed_frame s k i.toNat
    have hfailed := testFailed_beam s k i.toNat
    split at run
    next hkind =>
      obtain ⟨⟨fl, rl, dl, eg, et, dt, hbeam⟩, hdet⟩ := failDet_settles (s.testFailed k i.toNat) i.toNat 3 0x041D
      have harrive : ErrorsArrive (s.testFailed k i.toNat) (((s.testFailed k i.toNat).failDet i.toNat 3).beamSettle.settle 0x041D) :=
        ((ErrorsArrive.of_hdr rfl).failDet i.toNat 3).beamSettle.settle 0x041D
      obtain ⟨hbusy, herr⟩ := testFailed_hdr harrive
      rw [hfailed] at hbeam
      refine ⟨_, run, by rw [hbeam], by rw [hbeam], by rw [hbeam], by rw [hbeam], by rw [hbeam], hbusy, herr, fun _ d hd => ?_,
        fun h => absurd hkind h, beamSettle_settle_of _ (testFailed_failDet_frame ..)⟩
      rw [← vAt_page _ d {}, hd]
      exact hdet (by omega)
    next hkind =>
      obtain ⟨hbusy, herr⟩ := testFailed_hdr (s := s) (kind := k) (idx := i.toNat) (.of_hdr rfl)
      refine ⟨_, run, by rw [hfailed], by rw [hfailed], by rw [hfailed], by rw [hfailed], by rw [hfailed], hbusy, herr,
        fun h => absurd h hkind, fun _ => ⟨by rw [hfailed], hframe⟩, ?_⟩
      rw [hframe]

/-- A block that runs, with BO_THR 7, and a self-test of detector 5 in progress. -/
def testedBlock : State :=
  { liveReset with
    cmn.fuses.boThr := 7, rst := { liveReset.rst with started := true }, beam := { liveReset.beam with test := some (1, 5) } }

/-- `beamEventsRun` applies: the warning puts the brown-out term at BO_THR, and is counted. -/
theorem testedBlock_warned :
    ∃ t, exec .brownOutWarning testedBlock = .next t ∧ t.beam.STATE_BO = true ∧ t.beam.BO_BO_CNT = 1 ∧ boTerm t = 7 := by
  obtain ⟨brownOut, -⟩ := beamEventsRun
  obtain ⟨warning, -⟩ := brownOut testedBlock
  obtain ⟨t, run, hbo, -, -, hcount, hfigures, -⟩ := warning rfl rfl
  obtain ⟨hterm, -⟩ := hfigures rfl
  exact ⟨t, run, hbo, hcount, hterm⟩

/-- `beamEventsRun` applies: detector 5 fails its self-test. -/
theorem testedBlock_fails :
    ∃ t, exec (.beamTestComplete (some (1, 5))) testedBlock = .next t ∧ t.beam.det[5].DD_FAILED = true ∧
      t.hdr[pgBeam].err.testBit 21 = true := by
  obtain ⟨-, tests⟩ := beamEventsRun
  obtain ⟨-, failed⟩ := tests testedBlock 1 5 rfl
  obtain ⟨t, run, -, -, -, -, -, -, herr, hdet, -⟩ := failed 1 5
  exact ⟨t, run, hdet rfl 5 rfl, herr⟩

/-- A block in a brown-out since tick 0. -/
def browningBlock : State := { liveReset with beam := { liveReset.beam with STATE_BO := true } }

/-- `beamEventsRun` applies: the recovery after a dip of 70000 µs begins the hold, the dip's duration saturated. -/
theorem browningBlock_recovers :
    ∃ t, exec (.brownOutRecovery 70000) browningBlock = .next t ∧ t.beam.boHold = true ∧ t.beam.BO_LAST_US = 65535 := by
  obtain ⟨brownOut, -⟩ := beamEventsRun
  obtain ⟨-, recovery, -⟩ := brownOut browningBlock
  obtain ⟨t, run, hbeam, -⟩ := recovery 70000 rfl
  exact ⟨t, run, by rw [hbeam], by rw [hbeam]; rfl⟩

/-- A block at the last step of the brown-out's ramp, which is due. -/
def rampingBlock : State :=
  { liveReset with beam := { liveReset.beam with STATE_BO_RAMP := true, STATE_BO_STEP := 15 }, now := 4000 }

/-- `beamEventsRun` applies: the sixteenth step completes the ramp. -/
theorem rampingBlock_completes :
    ∃ t, exec .brownOutRampStep rampingBlock = .next t ∧ t.beam.STATE_BO_RAMP = false ∧ boTerm t = 15 := by
  obtain ⟨brownOut, -⟩ := beamEventsRun
  obtain ⟨-, -, -, ramp⟩ := brownOut rampingBlock
  obtain ⟨t, run, -, hlast, -⟩ := ramp rfl rfl le_rfl
  obtain ⟨hramp, hover⟩ := hlast le_rfl
  exact ⟨t, run, hramp, (hover rfl).1⟩

end Sys2Proof.Proofs
end

section
/-! PROOFS. The count of timekeeper ticks (R38, R242): CONTROL_SAMPLE adds one, a cold reset begins it again at 0, and nothing else
moves it. -/

namespace Sys2Proof.Machine

open Sys2Proof

/-! ### CONTROL_SAMPLE -/

/-- A tick of a block that has started counts one; the work of the sub-blocks on it leaves the count (R38, R242). -/
theorem controlSample_started_now {s : State} (o : SampleObs) (h : s.rst.started = true) :
    ∃ t, exec (.controlSample o) s = .next t ∧ t.now = s.now + 1 := by
  refine ⟨_, rfl, ?_⟩
  rw [if_pos h]
  simp

/-- Before step 2 of the cold exit there is no tick (R457). -/
theorem exec_controlSample_unstarted {s : State} (o : SampleObs) (h : s.rst.started = false) :
    exec (.controlSample o) s = .next s := by
  show Host.Outcome.next _ = _
  rw [h]
  rfl

/-! ### The reset pins -/

/-- A warm reset leaves the count (R453). -/
theorem warmReset_now (s : State) : s.warmReset.now = s.now := by
  calc s.warmReset.now = s.warmPages.now := by simp [State.warmReset]
    _ = s.now := rfl

/-- The power-on reset begins the count again, unless it stands already (R453, R455). -/
theorem porAssert_now {s t : State} (h : exec .porAssert s = .next t) : t.now = s.now ∨ t.now = 0 := by
  cases h
  dsimp only
  split
  · exact .inl rfl
  · exact .inr rfl

/-- The release of por_n begins the count again where it begins the cold exit, and leaves it otherwise (R457). -/
theorem porRelease_now {x : Straps} {f : Fuses} {s t : State} (h : exec (.porRelease x f) s = .next t) :
    t.now = s.now ∨ t.now = 0 := by
  cases h
  split
  · dsimp only
    split
    · exact .inl rfl
    · right; simp
  · exact .inl rfl

/-- The fall of rst_n begins the count again where it joins a cold episode; a warm episode leaves it (R453, R455). -/
theorem rstNAssert_now {s t : State} (h : exec .rstNAssert s = .next t) : t.now = s.now ∨ t.now = 0 := by
  cases h
  dsimp only
  split
  · exact .inl rfl
  split
  · split
    · exact .inr rfl
    · exact .inl rfl
  · left
    calc _ = s.warmLoad.warmReset.now := by simp
      _ = s.warmLoad.now := warmReset_now _
      _ = s.now := by simp

/-- The rise of rst_n begins the count again where it begins the cold exit; a warm exit leaves it (R457, R458). -/
theorem rstNRelease_now {s t : State} (h : exec .rstNRelease s = .next t) : t.now = s.now ∨ t.now = 0 := by
  cases h
  split
  · dsimp only
    split
    · exact .inl rfl
    split
    · right; simp
    · left; simp
  · exact .inl rfl

/-! ### Every other command -/

/-- The commands that may change the count: the tick, and the reset pins. -/
def movesTime : Instr → Bool
  | .controlSample _ | .porAssert | .porRelease .. | .rstNAssert | .rstNRelease => true
  | _ => false

/-- Every other command leaves the count: an access of the host is `hostWrite_pages` or `hostRead_pages`, and the rest are made of
operations that each leave it. -/
theorem exec_now {c : Instr} {s t : State} (hc : movesTime c = false) (h : exec c s = .next t) : t.now = s.now := by
  cases c
  case controlSample | porAssert | porRelease | rstNAssert | rstNRelease => contradiction
  case registerWrite | pageLockWrite | tlyRowSelWrite | fcsWaddrWrite | fcsWdataWrite | autWchkMac3Write | seqHostCapWrite |
      beamHlimWrite | beamTestDetector | beamTestCurrent | beamTestVoltage | beamTestDiePower | beamTestTemperature |
      beamTestBrownOut | beamTestAll | domForceOn | domForceOff | clkForceSrcWrite | spareSubstDetector | spareRestoreDetector |
      spareSubstSensor | spareRestoreSensor | spareSubstLane | spareRestoreLane | spareSubstPhase | spareRestorePhase |
      spareRestoreAgeing | evtErase | pmbHostSendByte | pmbHostWriteByte | pmbHostWriteWord | pmbHostReadWord | lrstReq |
      seqLoad | seqCommit | seqActivate | seqAbort | mailboxInWrite | outPop | blockWrite | blockRead | blkAddrWrite | heartbeat
      | evtRdSelWrite | evtFreeze | evtUnfreeze | trcPop =>
    cases h
    exact (hostWrite_pages _ _ _ _).1
  case registerRead =>
    cases h
    simp only [hostRead_pages]
  all_goals
    cases h
    dsimp -failIfUnchanged only
    (repeat' split) <;> simp

end Sys2Proof.Machine

namespace Sys2Proof.Proofs

open Sys2Proof Sys2Proof.Machine

/-- Settles O25: the tick by its two cases, each reset pin by its own lemma, and every other command by `exec_now`. -/
theorem timeMovesByTicks : Obligations.TimeMovesByTicks := by
  unfold Obligations.TimeMovesByTicks
  refine fun s => ⟨controlSample_started_now, exec_controlSample_unstarted, fun c t hc h => ?_⟩
  cases c
  case controlSample o => exact absurd rfl (hc o)
  case porAssert => exact (porAssert_now h).imp_right fun h0 => ⟨h0, by simp⟩
  case porRelease => exact (porRelease_now h).imp_right fun h0 => ⟨h0, by simp⟩
  case rstNAssert => exact (rstNAssert_now h).imp_right fun h0 => ⟨h0, by simp⟩
  case rstNRelease => exact (rstNRelease_now h).imp_right fun h0 => ⟨h0, by simp⟩
  all_goals exact .inl (exec_now rfl h)

/-- What the control sample observes on a quiet tick: no output late, no coefficient faulty. -/
def quietTick : SampleObs := { late := [], commitNs := 0, coefBad := [] }

/-- `timeMovesByTicks` applies: the first tick of a block that has started, and none before it has. -/
theorem testedBlock_ticks :
    (∃ t, exec (.controlSample quietTick) testedBlock = .next t ∧ t.now = 1) ∧
      exec (.controlSample quietTick) liveReset = .next liveReset := by
  obtain ⟨started, -⟩ := timeMovesByTicks testedBlock
  obtain ⟨-, unstarted, -⟩ := timeMovesByTicks liveReset
  exact ⟨started quietTick rfl, unstarted quietTick rfl⟩

/-- `timeMovesByTicks` applies: the ramp's last step (`rampingBlock_completes`) takes no time. -/
theorem rampingBlock_keeps_time : ∃ t, exec .brownOutRampStep rampingBlock = .next t ∧ t.now = 4000 := by
  obtain ⟨t, run, -⟩ := everyCommandCompletes .brownOutRampStep rampingBlock
  obtain ⟨-, -, others⟩ := timeMovesByTicks rampingBlock
  obtain hkeep | ⟨-, hpin⟩ := others .brownOutRampStep t (by simp) run
  · exact ⟨t, run, hkeep⟩
  · simp at hpin

/-- A block out of its power-on reset for 4000 ticks. -/
def poweredBlock : State := { bootedAt7 with now := 4000 }

/-- The exception is needed: POR_ASSERT begins the count again (R453). -/
theorem poweredBlock_porAssert_restarts_time : ∃ t, exec .porAssert poweredBlock = .next t ∧ t.now = 0 ∧ t.now ≠ poweredBlock.now :=
  ⟨_, rfl, rfl, by decide⟩

end Sys2Proof.Proofs
end

section
/-! PROOFS. The forecaster's shared operations: forced zero, the trace window, and an evaluation abandoned, missed or faulty (R268,
R270, R273, R277). -/

namespace Sys2Proof.Machine

open Sys2Proof

/-! ### Masks -/

/-- The bits of a mask are what it was made from. -/
theorem testBit_maskOf (n : Nat) (f : Nat → Bool) (k : Nat) : (maskOf n f).testBit k = (decide (k < n) && f k) := by
  induction n with
  | zero => simp [maskOf]
  | succ n ih =>
    have hstep : (maskOf (n + 1) f).testBit k = ((maskOf n f).testBit k || (f n && decide (n = k))) := by
      simp only [maskOf, List.range_succ, List.foldl_append, List.foldl_cons, List.foldl_nil]
      split <;> simp_all [Nat.one_shiftLeft, Nat.testBit_two_pow]
    rw [hstep, ih]
    by_cases hk : n = k
    · subst hk
      simp
    · have hlt : k < n + 1 ↔ k < n := by omega
      simp [hk, hlt]

/-- A mask with a bit set is not 0. -/
theorem maskOf_ne_zero {n k : Nat} {f : Nat → Bool} (hk : k < n) (hf : f k = true) : maskOf n f ≠ 0 := by
  intro h0
  have hbit := testBit_maskOf n f k
  simp [h0, hk, hf] at hbit

/-! ### Forced zero (R270) -/

/-- Cause WEIGHT forces zero: a copy or a restore runs, or the weights are held back (R270, R272, R273). -/
theorem fzCauses_weight {s : State} (h : (s.fcs.WLOAD_COPY || s.fcs.WLOAD_RESTORE || s.fcs.wStuck) = true) : fzCauses s ≠ 0 :=
  maskOf_ne_zero (k := 3) (by decide) h

/-- Cause MISS forces zero: evaluations on time are still to come after a miss (R268, R270). -/
theorem fzCauses_miss {s : State} (h : s.fcs.missLeft ≠ 0) : fzCauses s ≠ 0 :=
  maskOf_ne_zero (k := 4) (by decide) (by simp [h])

/-- The causes as they stand show in FCS_STAT; the tick of a beginning is kept, and the rest of the page stays (R270). -/
@[simp] theorem fcsSettle_fcs (s : State) :
    s.fcsSettle.fcs =
      { s.fcs with
        STAT_FZ_CAUSE := fzCauses s, STAT_FZ := decide (fzCauses s ≠ 0), STAT_RUNNING := fcsRuns s,
        fzAt := if fzCauses s ≠ 0 && !s.fcs.STAT_FZ then s.now else s.fcs.fzAt } := by
  unfold State.fcsSettle
  dsimp only
  by_cases hbegin : (decide (fzCauses s ≠ 0) && !s.fcs.STAT_FZ) = true
  · simp only [hbegin, if_true, Pages.event]
  · simp only [hbegin]
    split <;> simp

/-! ### The trace window (R277) -/

/-- The page `p` with the trace window of `w`. -/
def Fcs.withWindow (p w : Fcs) : Fcs :=
  { p with
    winDue := w.winDue, gapAt := w.gapAt, winLeft := w.winLeft, winSeq := w.winSeq, winDrops := w.winDrops,
    winDropped := w.winDropped, TRC_STAT_WINDOWS := w.TRC_STAT_WINDOWS, TRC_STAT_DROP := w.TRC_STAT_DROP }

/-- A window that begins changes nothing else on the page. -/
theorem winBegin_fcs (s : State) : ∃ w, s.winBegin.fcs = s.fcs.withWindow w := by
  refine ⟨s.winBegin.fcs, ?_⟩
  unfold State.winBegin
  extract_lets gap
  split <;> rfl

/-- A window that ends changes nothing else on the page. -/
theorem winEnd_fcs (s : State) :
    s.winEnd.fcs = { s.fcs with winLeft := 0, winDrops := 0, winDropped := false, gapAt := some s.now } := by
  unfold State.winEnd
  dsimp only
  split <;> simp

/-- A record of the window changes nothing else on the page. -/
theorem frameTrace_fcs (s : State) (f : FcsFrame) (abandoned : Bool) : ∃ w, (s.frameTrace f abandoned).fcs = s.fcs.withWindow w := by
  refine ⟨(s.frameTrace f abandoned).fcs, ?_⟩
  unfold State.frameTrace
  split
  · rfl
  · dsimp only
    (repeat' split) <;> simp [Fcs.withWindow, winEnd_fcs]

/-- A record sent while no window is open changes nothing (R277). -/
theorem frameTrace_closed {s : State} (f : FcsFrame) (abandoned : Bool) (h : s.fcs.winLeft = 0) : s.frameTrace f abandoned = s :=
  if_pos h

section
variable {s : State} {q : Fin 23} {i : Nat} (h : s.hasErr q i)
include h

/-! ### Evaluations clear no error -/

/-- A change of a rail clears no error. -/
theorem hasErr_fcsMod (r : Nat) (f : FcsRail → FcsRail) : (s.fcsMod r f).hasErr q i := h

/-- An event that may be masked clears no error (R107). -/
theorem hasErr_eventUnless (p : Fin 23) (b c : Nat) (d : List Nat) : (s.eventUnless p b c d).hasErr q i :=
  hasErr_ite h (hasErr_event _ _ h)

/-- Scoring a rail clears no error: a drift that begins is flagged, a lock is an event (R275). -/
theorem hasErr_scoreRail (ev : FcsEval) (l1 l4 : FcsLabel) (r : Nat) : (s.scoreRail ev l1 l4 r).hasErr q i := by
  unfold State.scoreRail
  dsimp only
  refine hasErr_ite h (hasErr_ite (hasErr_ite ?drift (hasErr_fcsMod h _ _)) (hasErr_fcsMod h _ _))
  have hflag (f g : FcsRail → FcsRail) (d : List Nat) : (((s.fcsMod r f).fcsMod r g).fault pgFcs 20 0x0615 d).hasErr q i :=
    hasErr_fault_keeps _ _ _ _ (hasErr_fcsMod (hasErr_fcsMod h r f) r g)
  exact hasErr_ite (hasErr_eventUnless (hasErr_fcsMod (hflag _ _ _) _ _) _ _ _ _) (hflag _ _ _)

/-- Scoring clears no error (R275). -/
theorem hasErr_scoreNow : s.scoreNow.hasErr q i := by
  unfold State.scoreNow
  split
  · exact List.foldlRecOn (motive := fun u : State => u.hasErr q i) _ _ h fun _ hu r _ => hasErr_scoreRail hu _ _ _ r
  · exact h

/-- Frame accumulations that start afresh clear no error (R261). -/
theorem hasErr_frameClear : s.frameClear.hasErr q i := h

/-- A window that begins clears no error (R277). -/
theorem hasErr_winBegin : s.winBegin.hasErr q i := hasErr_of_hdr h (by simp)

end

/-! ### An evaluation abandoned, missed or faulty -/

/-- An evaluation that is abandoned leaves no frame, and the warm-up starts afresh (R270). -/
theorem evalAbandon_fcs {s : State} {f : FcsFrame} (hf : s.fcs.frame = some f) :
    ∃ w, s.evalAbandon.fcs = { s.fcs.withWindow w with frame := none, STAT_WARM_LEFT := s.fcs.MODEL_RF } := by
  obtain ⟨w, hw⟩ := frameTrace_fcs { s with fcs.frame := none } f true
  refine ⟨w, ?_⟩
  simp only [State.evalAbandon, hf, State.warmup_fcs, hw]
  rfl

/-- A deadline miss abandons the evaluation, is counted, and forces zero until 16 evaluations have been on time (R268). -/
theorem evalMiss_fcs {s : State} {f : FcsFrame} (hf : s.fcs.frame = some f) :
    s.evalMiss.fcs.frame = none ∧ s.evalMiss.fcs.MISS_CNT_MISS = satAdd 16 s.fcs.MISS_CNT_MISS 1 ∧ s.evalMiss.fcs.missLeft = 16 ∧
      s.evalMiss.fcs.STAT_FZ = true := by
  obtain ⟨w, hw⟩ := evalAbandon_fcs hf
  refine ⟨by simp [State.evalMiss, hw], by simp [State.evalMiss, hw, Fcs.withWindow], by simp [State.evalMiss], ?_⟩
  simp only [State.evalMiss, fcsSettle_fcs]
  exact decide_eq_true (fzCauses_miss (by simp))

/-- A deadline miss is flagged on the FCS page (R268). -/
theorem evalMiss_err (s : State) : s.evalMiss.hasErr pgFcs 19 := hasErr_fcsSettle (hasErr_fault _ _ _ _ _)

/-- A faulty weight word noted: the evaluation is abandoned, and the word awaits its restore, or is held back where staging no longer
holds the image (R273, R478). -/
def State.weightNoted (s : State) (off : Nat) : State :=
  let u := { s with
    fcs.MISS_CNT_WFAULT := satAdd 16 s.fcs.MISS_CNT_WFAULT 1, fcs.badAt := some (off / 4 * 4), fcs.restoredAt := none }.evalAbandon
  { u with fcs.WLOAD_RESTORE := u.stg.holds, fcs.wStuck := u.fcs.wStuck || !u.stg.holds }.wordRetired 2 (sat 16 (off / 4 * 4 / 4))

/-- A weight word that fails its second read is noted, and moves its row where it failed on its first use (R273, R482). -/
theorem weightFault_eq (s : State) (off : Nat) (again : Bool) :
    s.weightFault off again =
      (if again || decide (s.fcs.restoredAt = some (off / 4 * 4)) then (s.weightNoted off).spareRow 1 (off / 4 * 4 / 64)
        else s.weightNoted off).fcsSettle := rfl

/-- The page once a faulty weight word is noted. -/
theorem weightNoted_fcs {s : State} {f : FcsFrame} (hf : s.fcs.frame = some f) (off : Nat) :
    ∃ w, (s.weightNoted off).fcs =
      { s.fcs.withWindow w with
        MISS_CNT_WFAULT := satAdd 16 s.fcs.MISS_CNT_WFAULT 1, badAt := some (off / 4 * 4), restoredAt := none, frame := none,
        STAT_WARM_LEFT := s.fcs.MODEL_RF, WLOAD_RESTORE := s.stg.holds, wStuck := s.fcs.wStuck || !s.stg.holds } := by
  unfold State.weightNoted
  generalize hu : ({ s with fcs.MISS_CNT_WFAULT := _, fcs.badAt := _, fcs.restoredAt := _ } : State) = u
  have hfu : u.fcs.frame = some f := by rw [← hu]; exact hf
  obtain ⟨w, hw⟩ := evalAbandon_fcs hfu
  refine ⟨w, ?_⟩
  simp only [Pages.wordRetired, Pages.evalAbandon, hw]
  subst hu
  rfl

/-- A weight word that fails its second read abandons the evaluation, awaits its restore or is held back, and forces zero
(R270, R273). -/
theorem weightFault_fcs {s : State} {f : FcsFrame} (hf : s.fcs.frame = some f) (off : Nat) (again : Bool) :
    (s.weightFault off again).fcs.frame = none ∧ (s.weightFault off again).fcs.badAt = some (off / 4 * 4) ∧
      (s.weightFault off again).fcs.MISS_CNT_WFAULT = satAdd 16 s.fcs.MISS_CNT_WFAULT 1 ∧
      ((s.weightFault off again).fcs.WLOAD_RESTORE = true ∨ (s.weightFault off again).fcs.wStuck = true) ∧
      (s.weightFault off again).fcs.STAT_FZ = true ∧ (s.weightFault off again).fcs.STAT_WARM_LEFT = s.fcs.MODEL_RF ∧
      (s.weightFault off again).fcs.wmem = s.fcs.wmem := by
  obtain ⟨w, hw⟩ := weightNoted_fcs hf off
  obtain ⟨u, hu, hrow⟩ : ∃ u : State, s.weightFault off again = u.fcsSettle ∧ u.fcs = (s.weightNoted off).fcs :=
    ⟨_, weightFault_eq s off again, by split <;> simp⟩
  rw [hw] at hrow
  have hcause : u.fcs.WLOAD_RESTORE = true ∨ u.fcs.wStuck = true := by
    rw [hrow]
    cases s.stg.holds <;> simp
  have hfz : fzCauses u ≠ 0 := fzCauses_weight (by simp [or_assoc, hcause])
  rw [hu, fcsSettle_fcs]
  exact ⟨by rw [hrow], by rw [hrow], by rw [hrow], hcause, decide_eq_true hfz, by rw [hrow], by rw [hrow]; rfl⟩

end Sys2Proof.Machine
end

section
/-! PROOFS. An evaluation of the forecaster: the closed frame, and the layers that run on it (R261 to R265, R273). -/

namespace Sys2Proof.Machine

open Sys2Proof

/-! ### The closed frame -/

/-- The frame that closes on an evaluation tick, its outputs still to come (R261, R276). -/
def evalFrame (s : State) : FcsFrame :=
  let n := s.now - s.fcs.lastAt
  let x := (List.range 16).map fun r => railFeatures s r n
  { at_ := s.now, q := x.flatMap fun l => l.zipIdx.map fun p => quantise p.1 (featShift s p.2), x0 := x.map fun l => l.headD 0,
    out := [], flags := 2 * b2n (decide (n < 4)) + 4 * b2n s.fcs.drainF + 8 * b2n (decide (s.now = s.tly.bndAt)),
    held := s.fcs.heldF, str := s.fcs.strF, epoch := s.tly.EPOCH_NUM, age := sat 16 (s.usSince s.tly.bndAt) }

/-- The frame labelled, scored and cleared, and the trace window begun where it is due (R261, R275, R277). -/
def State.framed (s : State) : State :=
  ({ s with
      fcs.labels :=
        { at_ := s.now, x0 := (evalFrame s).x0, skip := labelSkip s } :: s.fcs.labels.filter fun (l : FcsLabel) =>
          decide (s.now ≤ l.at_ + 20) }.scoreNow.frameClear).winBegin

/-- The state in which the layers have run on the frame. -/
def State.layersRun (s : State) : State :=
  let y := s.framed.runLayers (evalFrame s).q
  { y.2 with fcs.frame := some { evalFrame s with out := y.1 }, fcs.restoredAt := none }

/-- An evaluation tick on sound weights: the layers run on the closed frame (R264). -/
theorem evalStart_none (s : State) : s.evalStart none = s.layersRun.fcsSettle := rfl

/-- An evaluation tick on a weight word that fails twice (R273). -/
theorem evalStart_some (s : State) (off : Nat) :
    s.evalStart (some off) = { s.framed with fcs.frame := some (evalFrame s) }.weightFault off false := rfl

/-- The features of a frame, quantised rail by rail (R261). -/
theorem evalFrame_q (s : State) :
    (evalFrame s).q = (List.range 16).flatMap fun r =>
      (railFeatures s r (s.now - s.fcs.lastAt)).zipIdx.map fun p => quantise p.1 (featShift s p.2) := by
  simp only [evalFrame, List.flatMap_map]

/-- Scoring changes nothing on the page but the rails' drift (R275). -/
theorem scoreNow_fcs (s : State) : ∃ v, s.scoreNow.fcs = { s.fcs with rail := v } := by
  have hrail (u : State) (ev : FcsEval) (l1 l4 : FcsLabel) (r : Nat) :
      { (u.scoreRail ev l1 l4 r).fcs with rail := s.fcs.rail } = { u.fcs with rail := s.fcs.rail } := by
    unfold State.scoreRail
    dsimp only
    (repeat' split) <;> simp
  have hall : { s.scoreNow.fcs with rail := s.fcs.rail } = { s.fcs with rail := s.fcs.rail } := by
    unfold State.scoreNow
    split
    · exact foldl_proj (fun u : State => { u.fcs with rail := s.fcs.rail }) _ (fun u r => hrail u _ _ _ r) _ _
    · rfl
  refine ⟨s.scoreNow.fcs.rail, ?_⟩
  calc s.scoreNow.fcs = { ({ s.scoreNow.fcs with rail := s.fcs.rail } : Fcs) with rail := s.scoreNow.fcs.rail } := rfl
    _ = { s.fcs with rail := s.scoreNow.fcs.rail } := by rw [hall]

/-- A rail with its frame accumulations at 0 (R261). -/
def FcsRail.cleared (e : FcsRail) : FcsRail := { e with accI := 0, accZ := 0, accT := 0, nShort := 0, nLong := 0, nGone := 0 }

/-- The frame accumulations start afresh (R261). -/
@[simp] theorem frameClear_fcs (s : State) :
    s.frameClear.fcs = { s.fcs with lastAt := s.now, heldF := 0, strF := 0, drainF := false, rail := s.fcs.rail.map FcsRail.cleared } := rfl

/-- The page once the frame is closed: labels, cleared rails and the trace window have changed. -/
theorem framed_fcs (s : State) : ∃ (ls : List FcsLabel) (v : Vector FcsRail 16) (w : Fcs),
    s.framed.fcs =
      { s.fcs.withWindow w with
        labels := ls, lastAt := s.now, heldF := 0, strF := 0, drainF := false, rail := v.map FcsRail.cleared } := by
  unfold State.framed
  generalize hu : ({ s with fcs.labels := _ :: _ } : State) = u
  obtain ⟨v, hv⟩ := scoreNow_fcs u
  obtain ⟨w, hw⟩ := winBegin_fcs u.scoreNow.frameClear
  refine ⟨u.fcs.labels, v, w, ?_⟩
  rw [hw, frameClear_fcs, hv]
  simp only [Pages.scoreNow]
  subst hu
  rfl

/-! ### The layers (R263 to R265) -/

/-- What the layers compute from: descriptors, weights, biases and histories. -/
def netOf (s : State) : Vector FcsLayer 6 × List (Nat × Nat) × List (Nat × Nat) × Vector (List (List Int)) 6 :=
  (s.fcs.layer, s.fcs.wmem, s.fcs.bias, s.fcs.hist)

/-- A layer of equal nets gives equal outputs, and leaves the nets equal (R264). -/
theorem layerStep_congr {s t : State} (h : netOf s = netOf t) (l : Nat) (x : List Int) :
    (s.layerStep l x).1 = (t.layerStep l x).1 ∧ netOf (s.layerStep l x).2 = netOf (t.layerStep l x).2 := by
  simp only [netOf, Prod.mk.injEq] at h
  obtain ⟨hlayer, hwmem, hbias, hhist⟩ := h
  simp [State.layerStep, netOf, channelOut, layerOf, tapWeights, hlayer, hwmem, hbias, hhist]

/-- As many layers of equal nets give equal outputs (R264). -/
theorem runLayers_congr {s t : State} (h : netOf s = netOf t) (hn : s.fcs.MODEL_LAYERS = t.fcs.MODEL_LAYERS) (q : List Int) :
    (s.runLayers q).1 = (t.runLayers q).1 := by
  have hrel : (s.runLayers q).1 = (t.runLayers q).1 ∧ netOf (s.runLayers q).2 = netOf (t.runLayers q).2 := by
    unfold State.runLayers
    rw [hn]
    refine List.foldl_rel (r := fun a b : List Int × State => a.1 = b.1 ∧ netOf a.2 = netOf b.2) ⟨rfl, h⟩ ?_
    rintro l - ⟨x, u⟩ ⟨_, v⟩ ⟨rfl, huv⟩
    exact layerStep_congr huv l x
  exact hrel.1

/-- A layer changes nothing on the page but its history (R263). -/
theorem layerStep_fcs (s : State) (l : Nat) (x : List Int) : ∃ hs, (s.layerStep l x).2.fcs = { s.fcs with hist := hs } := ⟨_, rfl⟩

/-- The layers change nothing on the page but their histories (R263). -/
theorem runLayers_fcs (s : State) (q : List Int) : ∃ hs, (s.runLayers q).2.fcs = { s.fcs with hist := hs } := by
  refine List.foldlRecOn (motive := fun x : List Int × State => ∃ hs, x.2.fcs = { s.fcs with hist := hs }) _ _ ⟨_, rfl⟩ ?_
  rintro ⟨x, u⟩ ⟨hs, hu⟩ l -
  obtain ⟨hs', hstep⟩ := layerStep_fcs u l x
  exact ⟨hs', hstep.trans (congrArg (fun p : Fcs => { p with hist := hs' }) hu)⟩

/-- An evaluation on sound weights holds its frame with the outputs of the layers on it (R261, R264). -/
theorem layersRun_fcs (s : State) : ∃ (ls : List FcsLabel) (v : Vector FcsRail 16) (w : Fcs) (hs : Vector (List (List Int)) 6),
    s.layersRun.fcs =
      { s.fcs.withWindow w with
        labels := ls, lastAt := s.now, heldF := 0, strF := 0, drainF := false, rail := v.map FcsRail.cleared, hist := hs,
        frame := some { evalFrame s with out := (s.runLayers (evalFrame s).q).1 }, restoredAt := none } := by
  obtain ⟨ls, v, w, hframed⟩ := framed_fcs s
  obtain ⟨hs, hrun⟩ := runLayers_fcs s.framed (evalFrame s).q
  have hout : (s.framed.runLayers (evalFrame s).q).1 = (s.runLayers (evalFrame s).q).1 :=
    runLayers_congr (by simp [netOf, hframed, Fcs.withWindow]) (by simp [hframed, Fcs.withWindow]) _
  refine ⟨ls, v, w, hs, ?_⟩
  simp only [State.layersRun, hrun, hframed, hout]

/-- What an evaluation on sound weights leaves on the page: the closed frame with the outputs of the layers, the accumulations afresh,
and the misses as they were (R261, R264). -/
theorem evalStart_none_fcs (s : State) :
    (s.evalStart none).fcs.frame = some { evalFrame s with out := (s.runLayers (evalFrame s).q).1 } ∧
      (s.evalStart none).fcs.lastAt = s.now ∧ (s.evalStart none).fcs.heldF = 0 ∧ (s.evalStart none).fcs.strF = 0 ∧
      (s.evalStart none).fcs.drainF = false ∧ (∀ r : Fin 16, ∃ e : FcsRail, (s.evalStart none).fcs.rail[r] = e.cleared) ∧
      (s.evalStart none).fcs.MISS_CNT_MISS = s.fcs.MISS_CNT_MISS ∧ (s.evalStart none).fcs.missLeft = s.fcs.missLeft := by
  obtain ⟨ls, v, w, hs, hrun⟩ := layersRun_fcs s
  rw [evalStart_none, fcsSettle_fcs, hrun]
  exact ⟨rfl, rfl, rfl, rfl, rfl, fun r => ⟨v[r], by simp⟩, rfl, rfl⟩

/-- What an evaluation on sound weights may touch. -/
theorem evalStart_none_frame (s : State) :
    s.evalStart none = { s with fcs := (s.evalStart none).fcs, evt := (s.evalStart none).evt, hdr := (s.evalStart none).hdr } := by
  rw [evalStart_none]
  simp [State.eq_of_pages, State.layersRun, State.framed]

/-- What an evaluation on a weight word that fails twice leaves on the page (R270, R273). -/
theorem evalStart_some_fcs (s : State) (off : Nat) :
    (s.evalStart (some off)).fcs.frame = none ∧ (s.evalStart (some off)).fcs.badAt = some (off / 4 * 4) ∧
      (s.evalStart (some off)).fcs.MISS_CNT_WFAULT = satAdd 16 s.fcs.MISS_CNT_WFAULT 1 ∧
      ((s.evalStart (some off)).fcs.WLOAD_RESTORE = true ∨ (s.evalStart (some off)).fcs.wStuck = true) ∧
      (s.evalStart (some off)).fcs.STAT_FZ = true ∧ (s.evalStart (some off)).fcs.STAT_WARM_LEFT = s.fcs.MODEL_RF ∧
      (s.evalStart (some off)).fcs.wmem = s.fcs.wmem := by
  obtain ⟨ls, v, w, hframed⟩ := framed_fcs s
  obtain ⟨hnone, hbad, hcount, hcause, hfz, hwarm, hwmem⟩ :=
    weightFault_fcs (s := { s.framed with fcs.frame := some (evalFrame s) }) rfl off false
  rw [← evalStart_some] at hnone hbad hcount hcause hfz hwarm hwmem
  obtain ⟨hcount', hwarm', hwmem'⟩ : s.framed.fcs.MISS_CNT_WFAULT = s.fcs.MISS_CNT_WFAULT ∧ s.framed.fcs.MODEL_RF = s.fcs.MODEL_RF ∧
      s.framed.fcs.wmem = s.fcs.wmem := by
    rw [hframed]
    exact ⟨rfl, rfl, rfl⟩
  exact ⟨hnone, hbad, hcount.trans (congrArg (satAdd 16 · 1) hcount'), hcause, hfz, hwarm.trans hwarm', hwmem.trans hwmem'⟩

/-- What an evaluation on a faulty weight word may touch. -/
theorem evalStart_some_frame (s : State) (off : Nat) :
    s.evalStart (some off) =
      { s with
        seq := (s.evalStart (some off)).seq, fcs := (s.evalStart (some off)).fcs, thm := (s.evalStart (some off)).thm,
        mbs := (s.evalStart (some off)).mbs, mbn := (s.evalStart (some off)).mbn, rck := (s.evalStart (some off)).rck,
        rel := (s.evalStart (some off)).rel, evt := (s.evalStart (some off)).evt, trc := (s.evalStart (some off)).trc,
        hdr := (s.evalStart (some off)).hdr } := by
  simp [State.eq_of_pages]

/-- An evaluation on sound weights clears no error. -/
theorem hasErr_evalStart_none {s : State} {q : Fin 23} {i : Nat} (h : s.hasErr q i) : (s.evalStart none).hasErr q i := by
  have hframed : s.framed.hasErr q i := hasErr_winBegin (hasErr_frameClear (hasErr_scoreNow (s := { s with fcs.labels := _ }) h))
  rw [evalStart_none]
  exact hasErr_fcsSettle (hasErr_of_hdr hframed (by simp [State.layersRun]))

end Sys2Proof.Machine
end

section
/-! PROOFS. The forecaster's commands: what each leaves (R249, R261 to R273). -/

namespace Sys2Proof.Machine

open Sys2Proof

section
variable {s : State}

/-! ### FORECASTER_EVALUATION and DEADLINE_MISS -/

section
variable (hruns : fcsRuns s = true) (hgrid : (s.now - s.tly.bndAt) % 4 = 0) (hlate : s.fcs.lastAt < s.now)
include hruns hgrid hlate

/-- An evaluation while none is in progress (R262). -/
theorem exec_evaluation_idle (hf : s.fcs.frame = none) (bad : Option Nat) :
    exec (.forecasterEvaluation { weightBad := bad }) s = .next (s.evalStart bad) := by
  refine congrArg Host.Outcome.next (Eq.trans (if_pos ?_) ?_)
  · simp [hruns, hgrid, hlate]
  · simp [hf]

/-- An evaluation while one is still in progress: that one is a miss (R262, R268). -/
theorem exec_evaluation_busy (hf : s.fcs.frame ≠ none) (bad : Option Nat) :
    exec (.forecasterEvaluation { weightBad := bad }) s = .next (s.evalMiss.evalStart bad) := by
  have hsome : s.fcs.frame.isSome = true := Option.isSome_iff_ne_none.mpr hf
  refine congrArg Host.Outcome.next (Eq.trans (if_pos ?_) ?_)
  · simp [hruns, hgrid, hlate]
  · rw [if_pos hsome]

end

/-- An evaluation that has not reached its latch at the deadline is a miss (R268). -/
theorem exec_deadlineMiss {f : FcsFrame} (hf : s.fcs.frame = some f) (hdue : f.at_ + 3 ≤ s.now) :
    exec .deadlineMiss s = .next s.evalMiss := by
  show Host.Outcome.next _ = _
  rw [hf]
  exact congrArg Host.Outcome.next (if_pos (after_of_le hdue))

/-! ### FORECASTER_OUTPUT_LATCH -/

/-- The outputs of a rail as a latch decodes them: the guard-band raise is in no case below 0 (R266). -/
def FcsRail.latched (e : FcsRail) (f : FcsFrame) (r : Nat) : FcsRail :=
  { e with
    OUT_Y1 := f.out.getD (4 * r) 0 * 2 ^ e.RAIL_OSH, HZ_Y4 := f.out.getD (4 * r + 1) 0 * 2 ^ e.RAIL_OSH,
    HZ_Y16 := f.out.getD (4 * r + 2) 0 * 2 ^ e.RAIL_OSH, OUT_G := (f.out.getD (4 * r + 3) 0).toNat }

/-- Output `j` of every rail, in beads (R266). -/
def railOuts (s : State) (f : FcsFrame) (j : Nat) : List Int :=
  (List.range 16).map fun r => f.out.getD (4 * r + j) 0 * 2 ^ (fcsOf s r).RAIL_OSH

/-- The guard-band raise of every rail (R266). -/
def railRaises (f : FcsFrame) : List Nat := (List.range 16).map fun r => (f.out.getD (4 * r + 3) 0).toNat

/-- The state once the outputs of an evaluation are latched: the evaluation is over and counted (R266 to R268). -/
def State.outputsLatched (s : State) (f : FcsFrame) (ns : Nat) : State :=
  { s with
    fcs.frame := none, fcs.EVAL_CNT := satAdd 32 s.fcs.EVAL_CNT 1, fcs.TIME_LAST := sat 10 ns,
    fcs.TIME_MAX := max s.fcs.TIME_MAX (sat 10 ns), fcs.STAT_WARM_LEFT := s.fcs.STAT_WARM_LEFT - 1,
    fcs.missLeft := s.fcs.missLeft - 1, fcs.next := some (f.at_, railOuts s f 0, railRaises f),
    fcs.evals :=
      { at_ := f.at_, y1 := railOuts s f 0, y4 := railOuts s f 1 } :: s.fcs.evals.filter fun e => decide (s.now ≤ e.at_ + 20),
    fcs.rail := Vector.ofFn fun r : Fin 16 =>
      { s.fcs.rail[r] with
        OUT_G := (railRaises f).getD r.val 0, OUT_Y1 := (railOuts s f 0).getD r.val 0, HZ_Y4 := (railOuts s f 1).getD r.val 0,
        HZ_Y16 := (railOuts s f 2).getD r.val 0 } }

/-- The outputs of each rail once latched (R266). -/
theorem outputsLatched_rail (s : State) (f : FcsFrame) (ns : Nat) (r : Fin 16) :
    (s.outputsLatched f ns).fcs.rail[r] = s.fcs.rail[r].latched f r.val := by
  have hosh : fcsOf s r.val = s.fcs.rail[r] := vAt_page _ r _
  simp only [Fin.getElem_fin] at hosh
  simp [State.outputsLatched, railOuts, railRaises, FcsRail.latched, hosh]

/-- What a latch leaves on the page, its record sent: the counts of the evaluation and the outputs of each rail (R266, R268, R276). -/
theorem outputsLatched_fcs (s : State) (f : FcsFrame) {ns : Nat} (hns : ns ≤ 950) :
    let t := ((s.outputsLatched f ns).frameTrace f false).fcsSettle
    t.fcs.frame = none ∧ t.fcs.EVAL_CNT = satAdd 32 s.fcs.EVAL_CNT 1 ∧ t.fcs.TIME_LAST = ns ∧
      t.fcs.TIME_MAX = max s.fcs.TIME_MAX ns ∧ t.fcs.STAT_WARM_LEFT = s.fcs.STAT_WARM_LEFT - 1 ∧
      t.fcs.missLeft = s.fcs.missLeft - 1 ∧ ∀ r : Fin 16, t.fcs.rail[r] = s.fcs.rail[r].latched f r.val := by
  have hsat : sat 10 ns = ns := by simp only [sat]; omega
  obtain ⟨w, hw⟩ := frameTrace_fcs (s.outputsLatched f ns) f false
  dsimp only
  rw [fcsSettle_fcs, hw]
  exact ⟨rfl, rfl, hsat, congrArg (max s.fcs.TIME_MAX) hsat, rfl, rfl, outputsLatched_rail s f ns⟩

/-- A latch within 950 ns ends the evaluation (R266, R268). -/
theorem exec_outputLatch_onTime {f : FcsFrame} {ns : Nat} (hf : s.fcs.frame = some f) (hns : ns ≤ 950) :
    exec (.forecasterOutputLatch ns) s = .next ((s.outputsLatched f ns).frameTrace f false).fcsSettle := by
  show Host.Outcome.next _ = _
  simp only [hf, if_neg (Nat.not_lt.mpr hns)]
  rfl

/-- A latch after 950 ns is none (R268). -/
theorem exec_outputLatch_late {ns : Nat} (hns : 950 < ns) : exec (.forecasterOutputLatch ns) s = .next s := by
  show Host.Outcome.next _ = _
  split
  · rfl
  · rw [if_pos hns]

/-! ### WEIGHT_COPY_COMPLETE -/

/-- The page once the weight copy is done, its CRC matched or not (R272). -/
def weightsCopied (s : State) (ok : Bool) : Fcs :=
  { s.fcs with
    WLOAD_COPY := false, lrstCopy := false, WLOAD_CRC_FAIL := !ok, wStuck := !ok || weightRowLost s, wmem := weightImage s,
    bias := (s.stg.act.getD {}).bias }

/-- The state after a copy whose CRC matches: the histories are cleared and the warm-up starts (R272). -/
def State.copyMatched (s : State) : State :=
  (({ s with fcs := weightsCopied s true }.histClear.warmup).event 0x0614 [1]).frameClear.fcsSettle

/-- The state after a copy whose CRC does not match (R272). -/
def State.copyMismatched (s : State) : State :=
  ({ s with fcs := weightsCopied s false }.fault pgFcs 18 0x0614 [0]).frameClear.fcsSettle

section
variable (hc : s.fcs.WLOAD_COPY = true)
include hc

/-- A weight copy whose CRC matches (R272). -/
theorem exec_weightCopy_match (hok : crc32 (stgBytes s.stg.mem weightBase s.fcs.MACS) = s.fcs.IMG_CRC) :
    exec .weightCopyComplete s = .next s.copyMatched := by
  refine congrArg Host.Outcome.next ((if_pos hc).trans ?_)
  simp only [decide_eq_true hok, if_true]
  rfl

/-- A weight copy whose CRC does not match (R272). -/
theorem exec_weightCopy_mismatch (hok : ¬ crc32 (stgBytes s.stg.mem weightBase s.fcs.MACS) = s.fcs.IMG_CRC) :
    exec .weightCopyComplete s = .next s.copyMismatched := by
  refine congrArg Host.Outcome.next ((if_pos hc).trans ?_)
  simp only [decide_eq_false hok, Bool.false_eq_true, if_false]
  rfl

end

/-- What a copy whose CRC matches leaves on the page; a lost row still holds the weights back (R272, R483). -/
theorem copyMatched_fcs (s : State) :
    s.copyMatched.fcs.WLOAD_COPY = false ∧ s.copyMatched.fcs.wmem = weightImage s ∧ s.copyMatched.fcs.WLOAD_CRC_FAIL = false ∧
      s.copyMatched.fcs.hist = Vector.replicate 6 [] ∧ s.copyMatched.fcs.STAT_WARM_LEFT = s.fcs.MODEL_RF ∧
      s.copyMatched.fcs.wStuck = weightRowLost s := by
  simp only [State.copyMatched, fcsSettle_fcs, frameClear_fcs, Pages.event]
  exact ⟨rfl, rfl, rfl, rfl, rfl, rfl⟩

/-- What a copy whose CRC does not match leaves on the page: the weights are held back, which forces zero (R270, R272). -/
theorem copyMismatched_fcs (s : State) :
    s.copyMismatched.fcs.WLOAD_COPY = false ∧ s.copyMismatched.fcs.wmem = weightImage s ∧
      s.copyMismatched.fcs.WLOAD_CRC_FAIL = true ∧ s.copyMismatched.fcs.wStuck = true ∧ s.copyMismatched.fcs.STAT_FZ = true := by
  simp only [State.copyMismatched, fcsSettle_fcs, frameClear_fcs, Pages.fault]
  exact ⟨rfl, rfl, rfl, rfl, decide_eq_true (fzCauses_weight (by simp [weightsCopied]))⟩

/-- A copy whose CRC does not match sets LOAD_CRC (R272). -/
theorem copyMismatched_err (s : State) : s.copyMismatched.hasErr pgFcs 18 :=
  hasErr_fcsSettle (hasErr_frameClear (hasErr_fault _ _ _ _ _))

/-! ### WEIGHT_RESTORE_COMPLETE -/

/-- The state once the four bytes of the weight word at `off` are back from staging (R273). -/
def State.wordRestored (s : State) (off : Nat) : State :=
  ({ s with
    fcs.WLOAD_RESTORE := false, fcs.badAt := none, fcs.restoredAt := some off,
    fcs.wmem := memWriteRun 0 s.fcs.wmem off (stgBytes s.stg.mem (weightBase + off) 4) }.fault
      pgFcs 17 0x0613 (dat2 off)).warmup.frameClear.fcsSettle

/-- The state once a weight word turns out not to come back (R273, R483). -/
def State.wordHeldBack (s : State) : State := { s with fcs.WLOAD_RESTORE := false, fcs.wStuck := true }.fcsSettle

section
variable {off : Nat} (hbad : s.fcs.badAt = some off) (hr : s.fcs.WLOAD_RESTORE = true)
include hbad hr

/-- A weight word comes back while staging holds the image and its row is not lost (R273, R483). -/
theorem exec_weightRestore_held (hh : s.stg.holds = true) (hl : rowLost s 1 (off / 64) = false) :
    exec .weightRestoreComplete s = .next (s.wordRestored off) := by
  show Host.Outcome.next _ = _
  rw [hbad]
  exact congrArg Host.Outcome.next (if_pos (by simp [hr, hh, hl]))

/-- A weight word that cannot come back (R273, R483). -/
theorem exec_weightRestore_stuck (hh : s.stg.holds = false ∨ rowLost s 1 (off / 64) = true) :
    exec .weightRestoreComplete s = .next s.wordHeldBack := by
  show Host.Outcome.next _ = _
  rw [hbad]
  refine congrArg Host.Outcome.next ((if_neg ?_).trans (if_pos hr))
  rcases hh with hh | hh <;> simp [hh]

end

/-- What a restored weight word leaves on the page (R273). -/
theorem wordRestored_fcs (s : State) (off : Nat) :
    (s.wordRestored off).fcs.WLOAD_RESTORE = false ∧ (s.wordRestored off).fcs.badAt = none ∧
      (s.wordRestored off).fcs.restoredAt = some off ∧ (s.wordRestored off).fcs.STAT_WARM_LEFT = s.fcs.MODEL_RF ∧
      (s.wordRestored off).fcs.wmem = memWriteRun 0 s.fcs.wmem off (stgBytes s.stg.mem (weightBase + off) 4) := by
  simp [State.wordRestored]

/-- A restored weight word is flagged (R273). -/
theorem wordRestored_err (s : State) (off : Nat) : (s.wordRestored off).hasErr pgFcs 17 :=
  hasErr_fcsSettle (hasErr_frameClear (hasErr_of_hdr (hasErr_fault _ _ _ _ _) rfl))

/-- What a weight word that cannot come back leaves on the page: the weights are held back, which forces zero (R270, R273). -/
theorem wordHeldBack_fcs (s : State) :
    s.wordHeldBack.fcs.WLOAD_RESTORE = false ∧ s.wordHeldBack.fcs.wStuck = true ∧ s.wordHeldBack.fcs.wmem = s.fcs.wmem ∧
      s.wordHeldBack.fcs.STAT_FZ = true := by
  rw [State.wordHeldBack, fcsSettle_fcs]
  exact ⟨rfl, rfl, rfl, decide_eq_true (fzCauses_weight (by simp))⟩

/-! ### COEF_RESTORE_COMPLETE -/

/-- The control law's page once one coefficient of the active bank is back (R249). -/
def coefRestored (s : State) (r i : Nat) : Ctl :=
  let v := memRead 0 (s.stg.act.getD {}).coef (144 * r + i)
  { s.ctl with
    coefBad := s.ctl.coefBad.filter (· ≠ (r, i)), restored := s.ctl.restored ++ [(r, i)],
    bank1 := if s.ctl.BANK_ACTIVE then memWrite 0 s.ctl.bank1 (144 * r + i) v else s.ctl.bank1,
    bank0 := if s.ctl.BANK_ACTIVE then s.ctl.bank0 else memWrite 0 s.ctl.bank0 (144 * r + i) v }

/-- The state once the coefficient is back, with its event (R249). -/
def State.coefBack (s : State) (r i : Nat) : State :=
  { s with ctl := coefRestored s r i }.event 0x0512 [r, b2n s.ctl.BANK_ACTIVE, i]

/-- A coefficient comes back while staging holds the image and its row is not lost (R249, R483). -/
theorem exec_coefRestore (r : Fin 16) (i : BitVec 8) (hbad : s.ctl.coefBad.contains (r.val, i.toNat) = true)
    (hh : s.stg.holds = true) (hl : rowLost s 2 (coefRow s.ctl.BANK_ACTIVE r.val i.toNat) = false) :
    exec (.coefRestoreComplete r i) s = .next (s.coefBack r.val i.toNat) := by
  refine congrArg Host.Outcome.next ((if_pos (by rw [hbad, hh, hl]; rfl)).trans ?_)
  cases hb : s.ctl.BANK_ACTIVE <;> simp only [State.coefBack, coefRestored, hb, Bool.false_eq_true, if_true, if_false]

/-- The coefficient's event leaves the control law's page. -/
theorem coefBack_ctl (s : State) (r i : Nat) : (s.coefBack r i).ctl = coefRestored s r i := by simp [State.coefBack]

end

end Sys2Proof.Machine
end

section
namespace Sys2Proof.Proofs

open Sys2Proof Sys2Proof.Machine

/-- Settles O38: each clause by the command's own equation, the page that it leaves, and the flag that its fault sets. -/
theorem forecasterRuns : Obligations.ForecasterRuns := by
  unfold Obligations.ForecasterRuns
  refine ⟨fun s => ⟨fun hruns hgrid hlate => ⟨fun hf => ⟨?evaluated, fun off => ?faulty⟩, fun hf => ?overrun⟩,
      fun f hf hdue => ?missed⟩,
    fun s f ns hf => ⟨fun hns => ?latched, exec_outputLatch_late⟩,
    fun s => ⟨fun hc => ?copied, fun off hbad hr => ⟨fun hh hl => ?restored, fun hh => ?stuck⟩, fun r i hbad hh hl => ?coef⟩⟩
  case evaluated =>
    obtain ⟨hframe, hlast, hheld, hstr, hdrain, hrail, -⟩ := evalStart_none_fcs s
    rw [← evalFrame_q]
    refine ⟨_, exec_evaluation_idle hruns hgrid hlate hf none, ⟨_, hframe, rfl, rfl, rfl, rfl⟩, hlast, hheld, hstr, hdrain,
      fun r => ?_, evalStart_none_frame s⟩
    obtain ⟨e, he⟩ := hrail r
    rw [he]
    exact ⟨rfl, rfl, rfl, rfl, rfl, rfl⟩
  case faulty =>
    obtain ⟨hnone, hbad, hcount, hcause, hfz, hwarm, hwmem⟩ := evalStart_some_fcs s off
    exact ⟨_, exec_evaluation_idle hruns hgrid hlate hf (some off), hnone, hbad, hcount, hcause, hfz, hwarm, hwmem,
      evalStart_some_frame s off⟩
  case overrun =>
    obtain ⟨f, hsome⟩ := Option.ne_none_iff_exists'.mp hf
    obtain ⟨-, hcount, hleft, -⟩ := evalMiss_fcs hsome
    obtain ⟨hframe, -, -, -, -, -, hcount', hleft'⟩ := evalStart_none_fcs s.evalMiss
    refine ⟨_, exec_evaluation_busy hruns hgrid hlate hf none, hcount'.trans hcount, hleft'.trans hleft, ⟨_, hframe, ?_⟩,
      hasErr_evalStart_none (evalMiss_err s), ?_⟩
    · simp [evalFrame]
    · rw [evalStart_none_frame]
      simp
  case missed =>
    obtain ⟨hnone, hcount, hleft, hfz⟩ := evalMiss_fcs hf
    exact ⟨_, exec_deadlineMiss hf hdue, hnone, hcount, hleft, hfz, evalMiss_err s, by simp [State.eq_of_pages]⟩
  case latched =>
    obtain ⟨hnone, hcount, hlast, hmax, hwarm, hleft, hrail⟩ := outputsLatched_fcs s f hns
    refine ⟨_, exec_outputLatch_onTime hf hns, hnone, hcount, hlast, hmax, hwarm, hleft, fun r => ?_, fun hwin => ?_, ?_⟩
    · rw [hrail r]
      exact ⟨rfl, rfl, rfl, Int.ofNat_toNat _, rfl⟩
    · rw [frameTrace_closed f false (by exact hwin)]
      simp [State.outputsLatched]
    · simp [State.eq_of_pages, State.outputsLatched]
  case copied =>
    by_cases hok : crc32 (stgBytes s.stg.mem weightBase s.fcs.MACS) = s.fcs.IMG_CRC
    · obtain ⟨hdone, himage, hcrc, hhist, hwarm, hstuck⟩ := copyMatched_fcs s
      exact ⟨_, exec_weightCopy_match hc hok, hdone, himage, fun _ => ⟨hcrc, hhist, hwarm, hstuck.trans⟩, fun h => absurd hok h,
        by simp [State.eq_of_pages, State.copyMatched]⟩
    · obtain ⟨hdone, himage, hcrc, hstuck, hfz⟩ := copyMismatched_fcs s
      exact ⟨_, exec_weightCopy_mismatch hc hok, hdone, himage, fun h => absurd h hok,
        fun _ => ⟨hcrc, hstuck, hfz, copyMismatched_err s⟩, by simp [State.eq_of_pages, State.copyMismatched]⟩
  case restored =>
    obtain ⟨hdone, hbad', hat, hwarm, hwmem⟩ := wordRestored_fcs s off
    exact ⟨_, exec_weightRestore_held hbad hr hh hl, hdone, hbad', hat, hwarm, hwmem, wordRestored_err s off,
      by simp [State.eq_of_pages, State.wordRestored]⟩
  case stuck =>
    obtain ⟨hdone, hstuck, hwmem, hfz⟩ := wordHeldBack_fcs s
    exact ⟨_, exec_weightRestore_stuck hbad hr hh, hdone, hstuck, hwmem, hfz, by simp [State.eq_of_pages, State.wordHeldBack]⟩
  case coef =>
    refine ⟨_, exec_coefRestore r i hbad hh hl, ?gone, fun hb => ?bank1, fun hb => ?bank0,
      by simp [State.eq_of_pages, State.coefBack, coefRestored]⟩
    all_goals rw [coefBack_ctl]
    case gone => simp [coefRestored]
    case bank1 => simp [coefRestored, hb]
    case bank0 => simp [coefRestored, hb]

/-- A block in RUN whose forecaster has a model of one layer, on an evaluation tick. -/
def forecastingBlock : State :=
  { liveReset with
    seq.base := .running, fcs.on := true, fcs.MODEL_LAYERS := 1, fcs.MODEL_RF := 9, now := 4 }

/-- `forecasterRuns` applies: the evaluation on sound weights is in progress, one on a faulty word waits with cause WEIGHT. -/
theorem forecastingBlock_evaluates :
    (∃ t f, exec (.forecasterEvaluation { weightBad := none }) forecastingBlock = .next t ∧ t.fcs.frame = some f ∧ f.at_ = 4) ∧
      ∃ t, exec (.forecasterEvaluation { weightBad := some 7 }) forecastingBlock = .next t ∧ t.fcs.badAt = some 4 ∧
        t.fcs.STAT_WARM_LEFT = 9 := by
  obtain ⟨commands, -⟩ := forecasterRuns
  obtain ⟨evaluation, -⟩ := commands forecastingBlock
  obtain ⟨idle, -⟩ := evaluation (by decide) rfl (by decide)
  obtain ⟨⟨t, run, ⟨f, hf, hat, -⟩, -⟩, faulty⟩ := idle rfl
  obtain ⟨t', run', -, hbad, -, -, -, hwarm, -⟩ := faulty 7
  exact ⟨⟨t, f, run, hf, hat⟩, t', run', hbad, hwarm⟩

/-- The frame of an evaluation on tick 1: 5 beads expected on rail 0, and a raise below 0. -/
def begunFrame : FcsFrame :=
  { at_ := 1, q := [], x0 := [], out := [5, 0, 0, -3], flags := 0, held := 0, str := 0, epoch := 0, age := 0 }

/-- The block with that evaluation still in progress. -/
def evaluatingBlock : State := { forecastingBlock with fcs := { forecastingBlock.fcs with frame := some begunFrame } }

/-- `forecasterRuns` applies: at the deadline, and on the next evaluation tick, the evaluation in progress is a miss. -/
theorem evaluatingBlock_misses :
    (∃ t, exec .deadlineMiss evaluatingBlock = .next t ∧ t.fcs.MISS_CNT_MISS = 1 ∧ t.fcs.missLeft = 16) ∧
      ∃ t, exec (.forecasterEvaluation { weightBad := none }) evaluatingBlock = .next t ∧ t.fcs.MISS_CNT_MISS = 1 ∧
        t.fcs.missLeft = 16 := by
  obtain ⟨commands, -⟩ := forecasterRuns
  obtain ⟨evaluation, deadline⟩ := commands evaluatingBlock
  obtain ⟨t, run, -, hcount, hleft, -⟩ := deadline begunFrame rfl (by decide)
  obtain ⟨-, busy⟩ := evaluation (by decide) rfl (by decide)
  obtain ⟨t', run', hcount', hleft', -⟩ := busy nofun
  exact ⟨⟨t, run, hcount, hleft⟩, t', run', hcount', hleft'⟩

/-- `forecasterRuns` applies: the last latch on time, with a raise held at 0, and the first that is none. -/
theorem evaluatingBlock_latches :
    (∃ t, exec (.forecasterOutputLatch 950) evaluatingBlock = .next t ∧ t.fcs.EVAL_CNT = 1 ∧ t.fcs.rail[0].OUT_Y1 = 5 ∧
        t.fcs.rail[0].OUT_G = 0) ∧
      exec (.forecasterOutputLatch 951) evaluatingBlock = .next evaluatingBlock := by
  obtain ⟨-, latch, -⟩ := forecasterRuns
  obtain ⟨onTime, -⟩ := latch evaluatingBlock begunFrame 950 rfl
  obtain ⟨-, late⟩ := latch evaluatingBlock begunFrame 951 rfl
  obtain ⟨t, run, -, hcount, -, -, -, -, hrail, -⟩ := onTime le_rfl
  obtain ⟨hy1, -, -, hg, -⟩ := hrail 0
  exact ⟨⟨t, run, hcount, hy1, Int.ofNat_inj.mp hg⟩, late (by decide)⟩

/-- A block whose weight copy of no bytes ends, against the CRC `crc`. -/
def copyingBlock (crc : Nat) : State := { liveReset with fcs := { liveReset.fcs with WLOAD_COPY := true, IMG_CRC := crc } }

/-- `forecasterRuns` applies: the CRC of no bytes is 0, and no other. -/
theorem copyingBlock_checked :
    (∃ t, exec .weightCopyComplete (copyingBlock 0) = .next t ∧ t.fcs.WLOAD_CRC_FAIL = false) ∧
      ∃ t, exec .weightCopyComplete (copyingBlock 1) = .next t ∧ t.fcs.WLOAD_CRC_FAIL = true ∧ t.fcs.STAT_FZ = true := by
  obtain ⟨-, -, copies⟩ := forecasterRuns
  obtain ⟨sound, -⟩ := copies (copyingBlock 0)
  obtain ⟨faulty, -⟩ := copies (copyingBlock 1)
  obtain ⟨t, run, -, -, hok, -⟩ := sound rfl
  obtain ⟨t', run', -, -, -, hbad, -⟩ := faulty rfl
  obtain ⟨hcrc, -⟩ := hok (by decide)
  obtain ⟨hcrc', -, hfz, -⟩ := hbad (by decide)
  exact ⟨⟨t, run, hcrc⟩, t', run', hcrc', hfz⟩

/-- A block that restores the weight word at offset 4, and lacks coefficient 3 of rail 2; `held` says whether staging holds the image. -/
def restoringBlock (held : Bool) : State :=
  { liveReset with
    fcs := { liveReset.fcs with badAt := some 4, WLOAD_RESTORE := true }, ctl := { liveReset.ctl with coefBad := [(2, 3)] },
    stg := { mem := [(weightBase + 5, 9)], act := some { coef := [(291, 7)] }, holds := held } }

/-- `forecasterRuns` applies: the weight word comes back from staging, and cannot where staging no longer holds the image. -/
theorem restoringBlock_weight :
    (∃ t, exec .weightRestoreComplete (restoringBlock true) = .next t ∧ t.fcs.wmem = [(5, 9)]) ∧
      ∃ t, exec .weightRestoreComplete (restoringBlock false) = .next t ∧ t.fcs.wStuck = true := by
  obtain ⟨-, -, restores⟩ := forecasterRuns
  obtain ⟨-, sound, -⟩ := restores (restoringBlock true)
  obtain ⟨-, lost, -⟩ := restores (restoringBlock false)
  obtain ⟨back, -⟩ := sound 4 rfl rfl
  obtain ⟨-, stuck⟩ := lost 4 rfl rfl
  obtain ⟨t, run, -, -, -, -, hwmem, -⟩ := back rfl (by decide)
  obtain ⟨t', run', -, hstuck, -⟩ := stuck (.inl rfl)
  exact ⟨⟨t, run, hwmem.trans (by decide)⟩, t', run', hstuck⟩

/-- `forecasterRuns` applies: the coefficient comes back into the active bank. -/
theorem restoringBlock_coefficient :
    ∃ t, exec (.coefRestoreComplete 2 3#8) (restoringBlock true) = .next t ∧ (2, 3) ∉ t.ctl.coefBad ∧ t.ctl.bank0 = [(291, 7)] := by
  obtain ⟨-, -, restores⟩ := forecasterRuns
  obtain ⟨-, -, coefficient⟩ := restores (restoringBlock true)
  obtain ⟨t, run, hgone, -, hbank0, -⟩ := coefficient 2 3#8 (by decide) rfl (by decide)
  obtain ⟨-, hbank0⟩ := hbank0 rfl
  exact ⟨t, run, hgone, hbank0.trans (by decide)⟩

end Sys2Proof.Proofs
end

section
/-! PROOFS. Temperatures, input figures and counters on the frame (R289, R363, R368, R369): what a message for every member is applied
to, and each message's effect. -/

namespace Sys2Proof.Machine

open Sys2Proof

/-! ### A message for every member -/

/-- A command that is a frame message for every member is its effect on the state that has taken the message, and may send it on along the
links (R376, R382). -/
theorem exec_everyone {c : Instr} {s : State} {d : Dir} {m : BitVec 128} {typ : Nat} {f : State → State}
    (hc : exec c s = .next (s.received d m typ f)) (h : frmAccepts s d m typ = true) (hall : mDst m = 31) (htyp : 2 < typ) :
    ∃ e w n e' w', exec c s = .next ((f (s.relinked e w n)).withLinks e' w') := by
  obtain ⟨e, w, n, ht⟩ := taken_links s d m
  rw [received_accepted f h htyp, if_pos hall, ht] at hc
  by_cases hme : dstPos s (mDst m) = myPos s
  · exact ⟨e, w, n, (f (s.relinked e w n)).frm.east, (f (s.relinked e w n)).frm.west, hc.trans (congrArg _ (if_pos hme))⟩
  · obtain ⟨e', w', hrelay⟩ := relay_links (f (s.relinked e w n)) d m
    exact ⟨e, w, n, e', w', hc.trans (congrArg _ ((if_neg hme).trans hrelay))⟩

section
variable {s : State} {d : Dir} {m : BitVec 128}

/-! ### THERMAL (R289) -/

/-- The thermal page once the die maximum of the base die beneath has come (R289). -/
def belowHeard (s : State) (m : BitVec 128) : Thm :=
  { s.thm with BELOW_T_BELOW := sextOf (mf m 80 16) 16, BELOW_AGE := 0, belowN := 0, STATE_BELOW_LOST := false }

section
variable (h : frmAccepts s d m 0x14 = true) (hall : mDst m = 31)
include h hall

/-- A stacked die takes the valid maximum of the die beneath it (R289). -/
theorem exec_frmThermal_below (hst : stacked s = true) (hsrc : mSrc m = s.cmn.straps.below.toNat) (hvalid : mf m 79 1 = 1) :
    ∃ e w n, exec (.frmThermal d m) s = .next { s.relinked e w n with thm := belowHeard s m } := by
  obtain ⟨e, w, n, e', w', run⟩ := exec_everyone (c := .frmThermal d m) rfl h hall (by decide)
  refine ⟨e', w', n, run.trans ?_⟩
  have hst' : stacked (s.relinked e w n) = true := hst
  have hsrc' : mSrc m = (s.relinked e w n).cmn.straps.below.toNat := hsrc
  rw [if_pos (by simp [hst', ← hsrc', hvalid])]
  rfl

/-- A figure of another die, or one that is not valid, changes nothing (R289). -/
theorem exec_frmThermal_other (hmaj : s.frm.FORM_FMAJ ≠ 2)
    (hnot : stacked s = false ∨ mSrc m ≠ s.cmn.straps.below.toNat ∨ mf m 79 1 ≠ 1) :
    ∃ e w n, exec (.frmThermal d m) s = .next (s.relinked e w n) := by
  obtain ⟨e, w, n, e', w', run⟩ := exec_everyone (c := .frmThermal d m) rfl h hall (by decide)
  refine ⟨e', w', n, run.trans ?_⟩
  have hno : ¬ (stacked (s.relinked e w n) && decide (mSrc m = (s.relinked e w n).cmn.straps.below.toNat) &&
      (decide (mf m 79 1 = 1) || decide ((s.relinked e w n).frm.FORM_FMAJ = 2))) = true := by
    change ¬ (stacked s && decide (mSrc m = s.cmn.straps.below.toNat) &&
      (decide (mf m 79 1 = 1) || decide (s.frm.FORM_FMAJ = 2))) = true
    rcases hnot with hno | hno | hno <;> simp [hno, hmaj]
  rw [if_neg hno]
  rfl

end

/-! ### INPUT (R363) -/

/-- The PMB page once the input figures have come (R363). -/
def inputHeard (s : State) (m : BitVec 128) : Pmb :=
  { s.pmb with VIN_VIN := mf m 80 16, vinAt := agedTick s (mf m 64 16), IIN := mf m 48 16, iinAt := agedTick s (mf m 32 16) }

section
variable (h : frmAccepts s d m 0x15 = true) (hall : mDst m = 31)
include h hall

/-- The figures of the PMB_EN member are taken (R363). -/
theorem exec_frmInput_master (hsrc : mSrc m = s.frm.ROLE_PMB) :
    ∃ e w n, exec (.frmInput d m) s = .next { s.relinked e w n with pmb := inputHeard s m } := by
  obtain ⟨e, w, n, e', w', run⟩ := exec_everyone (c := .frmInput d m) rfl h hall (by decide)
  have hsrc' : mSrc m = (s.relinked e w n).frm.ROLE_PMB := hsrc
  rw [if_pos hsrc'] at run
  exact ⟨e', w', n, run⟩

/-- The figures of any other member change nothing (R363). -/
theorem exec_frmInput_other (hsrc : mSrc m ≠ s.frm.ROLE_PMB) : ∃ e w n, exec (.frmInput d m) s = .next (s.relinked e w n) := by
  obtain ⟨e, w, n, e', w', run⟩ := exec_everyone (c := .frmInput d m) rfl h hall (by decide)
  have hsrc' : mSrc m ≠ (s.relinked e w n).frm.ROLE_PMB := hsrc
  rw [if_neg hsrc'] at run
  exact ⟨e', w', n, run⟩

end

/-! ### CTR_ID and CTR_DATA (R369) -/

/-- A master with a transaction in hand takes up no other (R366). -/
theorem pmbNext_busy (h : s.pmb.task ≠ .none) : s.pmbNext = s := if_pos h

/-- The request that a CTR_ID makes (R369). -/
def ctrReq (m : BitVec 128) : CtrReq :=
  { pos := mSrc m, id := mf m 31 64, write := decide (mf m 95 1 = 1), ready := !decide (mf m 95 1 = 1) }

/-- A busy master queues the request (R369). -/
theorem exec_frmCtrId (h : frmAccepts s d m 0x16 = true) (hm : frmMine s m = true) (hmaster : pmbMaster s = true)
    (hbusy : s.pmb.task ≠ .none) :
    ∃ e w n, exec (.frmCtrId d m) s = .next { s.relinked e w n with pmb.reqs := s.pmb.reqs ++ [ctrReq m] } := by
  obtain ⟨e, w, n, run⟩ := exec_mine (c := .frmCtrId d m) rfl h hm (by decide)
  have hmaster' : pmbMaster (s.relinked e w n) = true := hmaster
  refine ⟨e, w, n, run.trans (congrArg _ ((if_pos hmaster').trans (pmbNext_busy ?_)))⟩
  exact hbusy

/-- A request once the data of a CTR_DATA have come, where it waits for them (R369). -/
def CtrReq.filled (q : CtrReq) (m : BitVec 128) : CtrReq :=
  if q.pos = mSrc m ∧ q.write = true ∧ q.ready = false then { q with ready := true, optime := mf m 48 48, pcycle := mf m 16 32 } else q

section
variable (h : frmAccepts s d m 0x17 = true) (hm : frmMine s m = true)
include h hm

/-- A busy master completes the write that waits for its data (R369). -/
theorem exec_frmCtrData_master (hmaster : pmbMaster s = true) (hbusy : s.pmb.task ≠ .none) :
    ∃ e w n, exec (.frmCtrData d m) s = .next { s.relinked e w n with pmb.reqs := s.pmb.reqs.map (CtrReq.filled · m) } := by
  obtain ⟨e, w, n, run⟩ := exec_mine (c := .frmCtrData d m) rfl h hm (by decide)
  have hmaster' : pmbMaster (s.relinked e w n) = true := hmaster
  refine ⟨e, w, n, run.trans (congrArg _ ((if_pos hmaster').trans (pmbNext_busy ?_)))⟩
  exact hbusy

/-- A member keeps what the master has stored for it (R369). -/
theorem exec_frmCtrData_member (hmember : pmbMaster s = false) (hsrc : mSrc m = s.frm.ROLE_PMB) :
    ∃ e w n, exec (.frmCtrData d m) s = .next { s.relinked e w n with pmb.answer := some (mf m 48 48, mf m 16 32) } := by
  obtain ⟨e, w, n, run⟩ := exec_mine (c := .frmCtrData d m) rfl h hm (by decide)
  have hno : ¬ pmbMaster (s.relinked e w n) = true := by
    change ¬ pmbMaster s = true
    simp [hmember]
  have hsrc' : mSrc m = (s.relinked e w n).frm.ROLE_PMB := hsrc
  exact ⟨e, w, n, run.trans (congrArg _ ((if_neg hno).trans (if_pos hsrc')))⟩

end

/-! ### CTR_STAT (R369, R510) -/

/-- The counters of a die: whether they still await their restoration, OPTIME's base and PCYCLE (R510). -/
def Evt.counters (e : Evt) : Bool × Nat × Nat := (e.norest, e.optBase, e.PCYCLE)

/-- An event leaves the counters as they are. -/
@[simp] theorem event_counters (s : State) (c : Nat) (l : List Nat) : (s.event c l).evt.counters = s.evt.counters := by
  have hqueue (u : State) (supp : Bool) : (u.enqueue c supp l).evt.counters = u.evt.counters := by
    unfold State.enqueue
    dsimp only
    (repeat' split) <;> rfl
  unfold State.event
  dsimp only
  split
  · rfl
  split
  · exact hqueue ..
  split
  · exact hqueue ..
  · rfl

/-- An error with its event leaves the counters as they are. -/
@[simp] theorem fault_counters (s : State) (p : Fin 23) (b c : Nat) (l : List Nat) :
    (s.fault p b c l).evt.counters = s.evt.counters := by
  unfold State.fault
  dsimp only
  split
  · rfl
  · exact event_counters ..

/-- The secure channels' anchor leaves the counters as they are (R434). -/
@[simp] theorem anchor_counters (s : State) (restored : Bool) : (s.anchor restored).evt.counters = s.evt.counters := by
  unfold State.anchor
  dsimp only
  split
  · rfl
  split
  · exact event_counters ..
  · exact fault_counters ..

/-- The figures that an answer sets, before what it records (R369, R510). -/
def State.countersSet (s : State) (ok : Bool) (opt pc : Nat) : State :=
  { s with evt.optBase := if ok then opt else 0, evt.PCYCLE := if ok then (pc + 1) % 2 ^ 32 else 1, pmb.PERS_RESTORED := ok }

/-- The millisecond of OPTIME that an answer leaves behind ends, and the hour of the last write is that of OPTIME (R369, R515). -/
def State.optimeMoved (s : State) (old : Nat) : State :=
  let u := if optime s = old then s else s.suppMsEnd
  { u with pmb.persHr := optime u / 3600000 }

/-- A moved OPTIME leaves the counters as they are. -/
@[simp] theorem optimeMoved_counters (s : State) (old : Nat) : (s.optimeMoved old).evt.counters = s.evt.counters := by
  unfold State.optimeMoved
  split <;> rfl

/-- The answer's events and the anchor that follows them: the counters are no longer awaited (R369, R434, R510). -/
def State.counterRecorded (s : State) (ok : Bool) (old sq : Nat) : State :=
  let u := s.event 0x1514 (dat2 old ++ dat2 s.evt.PCYCLE)
  let v : State := { u with evt.norest := false }
  (if ok then v.event 0x0C15 (myPos v :: dat2 (sq + 1)) else v).anchor ok

/-- Recording an answer ends the wait for it, and leaves the counters. -/
theorem counterRecorded_counters (s : State) (ok : Bool) (old sq : Nat) :
    (s.counterRecorded ok old sq).evt.counters = (false, s.evt.optBase, s.evt.PCYCLE) := by
  have hevent := event_counters s 0x1514 (dat2 old ++ dat2 s.evt.PCYCLE)
  simp only [Evt.counters, Prod.mk.injEq] at hevent
  obtain ⟨-, hopt, hpc⟩ := hevent
  unfold State.counterRecorded
  rw [anchor_counters]
  split
  · rw [event_counters]
    exact congrArg (Prod.mk false) (Prod.ext hopt hpc)
  · exact congrArg (Prod.mk false) (Prod.ext hopt hpc)

/-- An answer that was awaited sets the figures, moves OPTIME and is recorded (R369, R510). -/
theorem countersAnswer_awaited (hnew : s.evt.norest = true) (st opt pc sq : Nat) :
    s.countersAnswer st opt pc sq =
      ((s.countersSet (decide (st = 0)) opt pc).optimeMoved (optime s)).counterRecorded (decide (st = 0)) (optime s) sq := by
  unfold State.countersAnswer
  rw [if_neg (by simp [hnew])]
  rfl

/-- What an awaited answer leaves of the counters: restored where it says so, started afresh otherwise (R369, R510). -/
theorem countersAnswer_counters (hnew : s.evt.norest = true) (st opt pc sq : Nat) :
    (s.countersAnswer st opt pc sq).evt.counters =
        (false, if st = 0 then opt else 0, if st = 0 then (pc + 1) % 2 ^ 32 else 1) ∧
      (s.countersAnswer st opt pc sq).pmb.PERS_RESTORED = decide (st = 0) := by
  have hmoved := optimeMoved_counters (s.countersSet (decide (st = 0)) opt pc) (optime s)
  simp only [Evt.counters, Prod.mk.injEq] at hmoved
  obtain ⟨-, hopt, hpc⟩ := hmoved
  rw [countersAnswer_awaited hnew, counterRecorded_counters, hopt, hpc]
  simp [State.counterRecorded, State.optimeMoved, State.countersSet]

/-- A member that is not the master asks over the links (R369). -/
theorem counterAsk_member (hother : s.frm.ROLE_PMB ≠ myPos s) (write : Bool) : ∃ e w, s.counterAsk write = s.withLinks e w := by
  by_cases hv2 : s.frm.FORM_FMAJ = 2
  · exact ⟨s.frm.east, s.frm.west, if_pos hv2⟩
  · obtain ⟨e, w, hid⟩ := frmSend_links s 2 0x16 30 (b2n write * 2 ^ 95 + s.cmn.fuses.dieId.toNat * 2 ^ 31)
    simp only [State.counterAsk, hv2, hother, if_false, hid]
    split
    · exact frmSend_links ..
    · exact ⟨e, w, rfl⟩

/-- The state to which an answer of CTR_STAT is applied, once what the master sent is used up (R369). -/
def State.statAnswered (s : State) (st opt pc sq : Nat) : State := ({ s with pmb.answer := none } : State).countersAnswer st opt pc sq

/-- What an awaited answer of CTR_STAT leaves (R369, R510). -/
theorem statAnswered_counters (hnew : s.evt.norest = true) (st opt pc sq : Nat) :
    (s.statAnswered st opt pc sq).evt.norest = false ∧ (s.statAnswered st opt pc sq).evt.optBase = (if st = 0 then opt else 0) ∧
      (s.statAnswered st opt pc sq).evt.PCYCLE = (if st = 0 then (pc + 1) % 2 ^ 32 else 1) ∧
      (s.statAnswered st opt pc sq).pmb.PERS_RESTORED = decide (st = 0) := by
  simpa [Evt.counters, State.statAnswered, and_assoc] using
    countersAnswer_counters (s := { s with pmb.answer := none }) hnew st opt pc sq

/-- What an answer may touch (R369, R434, R510). -/
theorem statAnswered_frame (e w : FrmLinkState) (n st opt pc sq : Nat) :
    (s.relinked e w n).statAnswered st opt pc sq =
      { s with
        pmb := ((s.relinked e w n).statAnswered st opt pc sq).pmb, frm := ((s.relinked e w n).statAnswered st opt pc sq).frm,
        aut := ((s.relinked e w n).statAnswered st opt pc sq).aut, rel := ((s.relinked e w n).statAnswered st opt pc sq).rel,
        evt := ((s.relinked e w n).statAnswered st opt pc sq).evt, hdr := ((s.relinked e w n).statAnswered st opt pc sq).hdr } := by
  simp [State.eq_of_pages, State.statAnswered, State.relinked, State.withLinks]

section
variable (h : frmAccepts s d m 0x18 = true) (hm : frmMine s m = true) (hsrc : mSrc m = s.frm.ROLE_PMB)
include h hm hsrc

/-- Restored counters are applied, and are asked to be written back (R369). -/
theorem exec_frmCtrStat_restored {o c : Nat} (hst : mf m 94 2 = 0) (hans : s.pmb.answer = some (o, c)) :
    ∃ e w n e' w', exec (.frmCtrStat d m) s =
      .next (((s.relinked e w n).statAnswered 0 o c (mf m 62 32)).withLinks e' w') := by
  obtain ⟨e, w, n, run⟩ := exec_mine (c := .frmCtrStat d m) rfl h hm (by decide)
  have hsrc' : mSrc m = (s.relinked e w n).frm.ROLE_PMB := hsrc
  have hans' : (s.relinked e w n).pmb.answer = some (o, c) := hans
  have hother : mSrc m ≠ myPos s := by
    simp only [frmAccepts, Bool.and_eq_true, decide_eq_true_eq] at h
    exact h.2
  obtain ⟨e', w', hask⟩ := counterAsk_member (s := (s.relinked e w n).statAnswered 0 o c (mf m 62 32))
    (by simpa [State.statAnswered, State.relinked, State.withLinks, myPos, ← hsrc] using hother) true
  refine ⟨e, w, n, e', w', run.trans (congrArg _ ?_)⟩
  rw [hst, hans', ← hsrc', if_neg (by simp)]
  exact hask

/-- Without a valid copy the counters start afresh (R369). -/
theorem exec_frmCtrStat_fresh (hst : mf m 94 2 ≠ 0) (hst' : mf m 94 2 ≠ 3) :
    ∃ e w n o c, exec (.frmCtrStat d m) s = .next ((s.relinked e w n).statAnswered (mf m 94 2) o c (mf m 62 32)) := by
  obtain ⟨e, w, n, run⟩ := exec_mine (c := .frmCtrStat d m) rfl h hm (by decide)
  have hsrc' : mSrc m = (s.relinked e w n).frm.ROLE_PMB := hsrc
  have happlies : ¬ (mSrc m ≠ (s.relinked e w n).frm.ROLE_PMB ∨ mf m 94 2 = 3 ∨
      mf m 94 2 = 0 ∧ (s.relinked e w n).pmb.answer = none) := by
    simp [hst, hst', ← hsrc']
  exact ⟨e, w, n, (s.pmb.answer.getD (0, 0)).1, (s.pmb.answer.getD (0, 0)).2,
    run.trans (congrArg _ ((if_neg happlies).trans (if_neg hst)))⟩

end

end

end Sys2Proof.Machine
end

section
namespace Sys2Proof.Proofs

open Sys2Proof Sys2Proof.Machine

/-- Settles O54: each message's effect on the state that has taken it, whose links and count of replayed words alone are new. -/
theorem figuresAreExchanged : Obligations.FiguresAreExchanged := by
  unfold Obligations.FiguresAreExchanged
  refine fun s d m => ⟨fun h hall hmaj => ⟨fun hst hsrc hvalid => ?below, fun hnot => ?notBelow⟩,
    fun h hall => ⟨fun hsrc => ?input, fun hsrc => ?notInput⟩, fun h hm hmaster hbusy => ?request,
    fun h hm => ⟨fun hmaster hbusy q hreqs hpos hwrite hwaits => ?data, fun hmember hsrc => ?stored⟩,
    fun h hm hsrc hnew => ⟨fun o c hst hans => ?restored, fun hst hst' => ?fresh⟩⟩
  case below =>
    obtain ⟨e, w, n, run⟩ := exec_frmThermal_below h hall hst hsrc hvalid
    exact ⟨_, run, rfl, rfl⟩
  case notBelow =>
    obtain ⟨e, w, n, run⟩ := exec_frmThermal_other h hall hmaj hnot
    exact ⟨_, run, rfl⟩
  case input =>
    obtain ⟨e, w, n, run⟩ := exec_frmInput_master h hall hsrc
    exact ⟨_, run, rfl, rfl⟩
  case notInput =>
    obtain ⟨e, w, n, run⟩ := exec_frmInput_other h hall hsrc
    exact ⟨_, run, rfl⟩
  case request =>
    obtain ⟨e, w, n, run⟩ := exec_frmCtrId h hm hmaster hbusy
    exact ⟨_, run, rfl, rfl⟩
  case data =>
    obtain ⟨e, w, n, run⟩ := exec_frmCtrData_master h hm hmaster hbusy
    have hfilled : q.filled m = { q with ready := true, optime := mf m 48 48, pcycle := mf m 16 32 } := if_pos ⟨hpos, hwrite, hwaits⟩
    refine ⟨_, run, ?_, rfl⟩
    rw [hreqs, List.map_singleton, hfilled]
    rfl
  case stored =>
    obtain ⟨e, w, n, run⟩ := exec_frmCtrData_member h hm hmember hsrc
    exact ⟨_, run, rfl, rfl⟩
  case restored =>
    obtain ⟨e, w, n, e', w', run⟩ := exec_frmCtrStat_restored h hm hsrc hst hans
    obtain ⟨hdone, hopt, hpc, hrest⟩ := statAnswered_counters (s := s.relinked e w n) hnew 0 o c (mf m 62 32)
    refine ⟨_, run, hdone, hopt, hpc, hrest, ?_⟩
    rw [statAnswered_frame]
    rfl
  case fresh =>
    obtain ⟨e, w, n, o, c, run⟩ := exec_frmCtrStat_fresh h hm hsrc hst hst'
    obtain ⟨hdone, hopt, hpc, hrest⟩ := statAnswered_counters (s := s.relinked e w n) hnew (mf m 94 2) o c (mf m 62 32)
    exact ⟨_, run, hdone, hopt.trans (if_neg hst), hpc.trans (if_neg hst), hrest.trans (decide_eq_false hst), statAnswered_frame ..⟩

/-- A message of member 1 for every member, the first on its link. -/
def ringMsgAll (typ pay : Nat) : BitVec 128 := frmSeal (frmMsg typ 1 31 pay) 0 0

/-- Member 0 as a die stacked on member 1, which it has lost, and which is the frame's PMB_EN member. -/
def stackedState : State :=
  { ringState with
    cmn := { ringState.cmn with straps := { ringState.cmn.straps with below := 1 } }
    frm := { ringState.frm with ROLE_PMB := 1 }
    thm := { ringState.thm with STATE_BELOW_LOST := true } }

/-- THERMAL: a valid die maximum of 85 °C. -/
def thermalMsg : BitVec 128 := ringMsgAll 0x14 (5440 * 2 ^ 80 + 2 ^ 79)

/-- `figuresAreExchanged` applies: the die beneath is heard again. -/
theorem stackedState_thermal :
    ∃ t, exec (.frmThermal .east thermalMsg) stackedState = .next t ∧ t.thm.BELOW_T_BELOW = 5440 ∧ t.thm.STATE_BELOW_LOST = false := by
  obtain ⟨thermal, -⟩ := figuresAreExchanged stackedState .east thermalMsg
  obtain ⟨below, -⟩ := thermal (by decide +kernel) (by decide +kernel) (by decide)
  obtain ⟨t, run, hthm, -⟩ := below (by decide) (by decide +kernel) (by decide +kernel)
  exact ⟨t, run, by rw [hthm]; decide +kernel, by rw [hthm]⟩

/-- INPUT: 48.00 V formed now, and an input current never formed. -/
def inputMsg : BitVec 128 := ringMsgAll 0x15 (4800 * 2 ^ 80 + 0xFFFF * 2 ^ 32)

/-- `figuresAreExchanged` applies: the figures of the PMB_EN member are taken. -/
theorem stackedState_input :
    ∃ t, exec (.frmInput .east inputMsg) stackedState = .next t ∧ t.pmb.VIN_VIN = 4800 ∧ t.pmb.vinAt = some 0 ∧ t.pmb.iinAt = none := by
  obtain ⟨-, input, -⟩ := figuresAreExchanged stackedState .east inputMsg
  obtain ⟨master, -⟩ := input (by decide +kernel) (by decide +kernel)
  obtain ⟨t, run, hpmb, -⟩ := master (by decide +kernel)
  exact ⟨t, run, by rw [hpmb]; decide +kernel, by rw [hpmb]; decide +kernel, by rw [hpmb]; decide +kernel⟩

/-- Member 0 as the master, whose EEPROM read is in hand, with the counter requests `reqs`. -/
def masterState (reqs : List CtrReq) : State :=
  { ringState with
    cmn := { ringState.cmn with straps := { ringState.cmn.straps with pmbEn := true } }
    rst := { ringState.rst with started := true }
    pmb := { ringState.pmb with task := .eeRead, reqs := reqs } }

/-- CTR_ID of member 1, die identity 7, for a write. -/
def ctrIdMsg : BitVec 128 := ringMsg 0x16 (2 ^ 95 + 7 * 2 ^ 31)

/-- The write that member 1 asks for with it. -/
def writeAsked : CtrReq := { pos := 1, id := 7, write := true, ready := false }

/-- CTR_DATA of member 1: OPTIME 300, PCYCLE 4. -/
def ctrDataMsg : BitVec 128 := ringMsg 0x17 (300 * 2 ^ 48 + 4 * 2 ^ 16)

/-- `figuresAreExchanged` applies: the master queues the write, and its data complete it. -/
theorem masterState_counters :
    (∃ t, exec (.frmCtrId .east ctrIdMsg) (masterState []) = .next t ∧ t.pmb.reqs = [writeAsked]) ∧
      ∃ t, exec (.frmCtrData .east ctrDataMsg) (masterState [writeAsked]) = .next t ∧
        t.pmb.reqs = [{ writeAsked with ready := true, optime := 300, pcycle := 4 }] := by
  obtain ⟨-, -, request, -⟩ := figuresAreExchanged (masterState []) .east ctrIdMsg
  obtain ⟨-, -, -, data, -⟩ := figuresAreExchanged (masterState [writeAsked]) .east ctrDataMsg
  obtain ⟨t, run, hpmb, -⟩ := request (by decide +kernel) (by decide +kernel) (by decide) nofun
  obtain ⟨master, -⟩ := data (by decide +kernel) (by decide +kernel)
  obtain ⟨t', run', hpmb', -⟩ := master (by decide) nofun writeAsked rfl (by decide +kernel) rfl rfl
  exact ⟨⟨t, run, by rw [hpmb]; decide +kernel⟩, t', run', by rw [hpmb']; decide +kernel⟩

/-- Member 0, which awaits its counters from member 1, with the data `answer` that have come. -/
def awaitingState (answer : Option (Nat × Nat)) : State :=
  { stackedState with
    evt := { stackedState.evt with norest := true }
    pmb := { stackedState.pmb with answer := answer } }

/-- CTR_STAT of member 1 with the status `st`. -/
def ctrStatMsg (st : Nat) : BitVec 128 := ringMsg 0x18 (st * 2 ^ 94)

/-- `figuresAreExchanged` applies: the data are kept, then restore the counters; without a valid copy they start afresh. -/
theorem awaitingState_counters :
    (∃ t, exec (.frmCtrData .east ctrDataMsg) (awaitingState none) = .next t ∧ t.pmb.answer = some (300, 4)) ∧
      (∃ t, exec (.frmCtrStat .east (ctrStatMsg 0)) (awaitingState (some (300, 4))) = .next t ∧ t.evt.optBase = 300 ∧
        t.evt.PCYCLE = 5) ∧
      ∃ t, exec (.frmCtrStat .east (ctrStatMsg 1)) (awaitingState none) = .next t ∧ t.evt.optBase = 0 ∧ t.evt.PCYCLE = 1 := by
  obtain ⟨-, -, -, data, -⟩ := figuresAreExchanged (awaitingState none) .east ctrDataMsg
  obtain ⟨-, -, -, -, answer⟩ := figuresAreExchanged (awaitingState (some (300, 4))) .east (ctrStatMsg 0)
  obtain ⟨-, -, -, -, answer'⟩ := figuresAreExchanged (awaitingState none) .east (ctrStatMsg 1)
  obtain ⟨-, member⟩ := data (by decide +kernel) (by decide +kernel)
  obtain ⟨restored, -⟩ := answer (by decide +kernel) (by decide +kernel) (by decide +kernel) rfl
  obtain ⟨-, fresh⟩ := answer' (by decide +kernel) (by decide +kernel) (by decide +kernel) rfl
  obtain ⟨t, run, hpmb, -⟩ := member (by decide) (by decide +kernel)
  obtain ⟨t', run', -, hopt, hpc, -⟩ := restored 300 4 (by decide +kernel) rfl
  obtain ⟨t'', run'', -, hopt', hpc', -⟩ := fresh (by decide +kernel) (by decide +kernel)
  exact ⟨⟨t, run, by rw [hpmb]; decide +kernel⟩, ⟨t', run', hopt, hpc⟩, t'', run'', hopt', hpc'⟩

end Sys2Proof.Proofs
end

section
/-! PROOFS. What stands once the groups of a sweep are formed: their figures, and the errors that have arrived (R107, R283), through the
trips, the bands, the ladder and an orderly shutdown. -/

namespace Sys2Proof.Machine

open Sys2Proof

/-- The figures that a sweep gives a group: its live members, its marks, its maximum, and the difference since the sweep before (R283,
R285). -/
def ThmGrp.reading (e : ThmGrp) : Nat × Bool × Bool × Int × Option Int := (e.GRP_LIVE, e.GRP_LOST, e.GRP_SHORT, e.GRP_MAX, e.diff)

/-- `t` has the groups' figures of `s`, and every error of `s`. -/
structure SweepStands (s t : State) : Prop where
  groups : ∀ g, (grpOf t g).reading = (grpOf s g).reading
  errors : ∀ (q : Fin 23) (i : Nat), s.hasErr q i → t.hasErr q i

namespace SweepStands

section
variable {s t u : State}

/-! ### The rules -/

theorem refl (s : State) : SweepStands s s := ⟨fun _ => rfl, fun _ _ => id⟩

/-- The same groups, and no error cleared. -/
theorem grown (h : SweepStands s t) (hgrp : u.thm.grp = t.thm.grp) (herr : ∀ (q : Fin 23) (i : Nat), t.hasErr q i → u.hasErr q i) :
    SweepStands s u :=
  ⟨fun g => by rw [grpOf, hgrp]; exact h.groups g, fun q i hi => herr q i (h.errors q i hi)⟩

/-- The same groups and headers. -/
theorem same (h : SweepStands s t) (hgrp : u.thm.grp = t.thm.grp) (hhdr : u.hdr = t.hdr) : SweepStands s u :=
  h.grown hgrp fun _ _ hi => hasErr_of_hdr hi hhdr

/-- The same thermal page, and headers on which errors have arrived. -/
theorem arrive (h : SweepStands s t) (hthm : u.thm = t.thm) (herr : ErrorsArrive t u) : SweepStands s u :=
  h.grown (congrArg Thm.grp hthm) herr.keeps

theorem event (c : Nat) (d : List Nat) (h : SweepStands s t) : SweepStands s (t.event c d) :=
  h.grown (by simp) fun _ _ => hasErr_event c d

theorem fault (p : Fin 23) (b c : Nat) (d : List Nat) (h : SweepStands s t) : SweepStands s (t.fault p b c d) :=
  h.grown (by simp) fun _ _ => hasErr_fault_keeps p b c d

theorem settle (c : Nat) (h : SweepStands s t) : SweepStands s (t.settle c) := h.grown (by simp) fun _ _ => hasErr_settle c

theorem beamSettle (h : SweepStands s t) : SweepStands s t.beamSettle := h.arrive (by simp) (.beamSettle (.of_hdr rfl))

/-- A change of a group's other figures. -/
theorem grpMod (g : Nat) {f : ThmGrp → ThmGrp} (hf : ∀ e, (f e).reading = e.reading) (h : SweepStands s t) : SweepStands s (t.grpMod g f) :=
  ⟨fun j => (vAt_vMod_proj ThmGrp.reading _ _ _ _ _ hf).trans (h.groups j), h.errors⟩

/-- A change of a stack. -/
theorem stkMod (k : Nat) (f : ThmStk → ThmStk) (h : SweepStands s t) : SweepStands s (t.stkMod k f) := h.same rfl rfl

/-- A change of the thermal page but for its groups. -/
theorem onThm {f : Thm → Thm} (hf : (f t.thm).grp = t.thm.grp) (h : SweepStands s t) : SweepStands s (t.onThm f) := h.same hf rfl

/-- Lowered limits (R198). -/
theorem lowerLimits (h : SweepStands s t) : SweepStands s t.lowerLimits := h.same (by simp) (by simp)

/-- A choice. -/
theorem ite {c : Prop} [Decidable c] (ht : SweepStands s t) (hu : SweepStands s u) : SweepStands s (if c then t else u) := by
  split <;> assumption

/-- A fold whose steps each let the figures stand. -/
theorem foldl {α : Type} {f : State → α → State} (hf : ∀ u a, SweepStands s u → SweepStands s (f u a)) (l : List α)
    (h : SweepStands s t) : SweepStands s (l.foldl f t) :=
  List.foldlRecOn (motive := SweepStands s) l f h fun u hu a _ => hf u a hu

/-! ### Trips (R214, R215) -/

/-- A flush may freeze the recorder (R514, R517). -/
theorem flush (h : SweepStands s t) : SweepStands s t.flush := by
  unfold State.flush State.flushEnd State.freeze
  dsimp only
  refine ite (ite (ite (h.same rfl rfl) ?_) (h.same rfl rfl)) (h.same rfl rfl)
  exact fault _ _ _ _ (h.same rfl rfl)

/-- A receiver's domain that goes off clears its outbound queues (R426). -/
theorem rxOff (d : Nat) (h : SweepStands s t) : SweepStands s (t.rxOff d) := by
  have lost (u : State) (c : Chan) (hu : SweepStands s u) : SweepStands s (u.rxDomLost c d) := by
    unfold State.rxDomLost
    refine ite (fault _ _ _ _ (hu.same ?_ ?_)) hu <;> cases c <;> rfl
  exact lost _ .mbn (lost _ .mbs h)

/-- A domain switched off by force (R330). -/
theorem forceOff (d : Nat) (h : SweepStands s t) : SweepStands s (t.forceOff d) := by
  unfold State.forceOff
  exact ite h (ite (h.same (by simp) (by simp)) (rxOff _ (h.same (by simp) (by simp))))

/-- The entry to TRIPPED (R305, R472). -/
theorem tripEntry (h : SweepStands s t) : SweepStands s t.tripEntry := by
  unfold State.tripEntry
  exact ite h (ite (h.same rfl rfl) (h.same rfl rfl))

/-- The rows of a trip (R155, R215). -/
theorem tripRows (h : SweepStands s t) : SweepStands s t.tripRows := h.same (by simp) (by simp)

/-- The beam's trip (R215). -/
theorem trip (cause src value : Nat) (h : SweepStands s t) : SweepStands s (t.trip cause src value) := by
  have hoff : SweepStands s t.tripEntry.tripRows.forceOffAll :=
    foldl (fun _ d hu => hu.forceOff d) _ h.tripEntry.tripRows
  unfold State.trip
  refine ite h (flush (settle _ (event _ _ (hoff.same ?_ ?_)))) <;> simp

/-- The beam's comparisons with the groups and the stacks (R214). -/
theorem thermalTrips (prev : List Nat) (at_ : Nat) (h : SweepStands s t) : SweepStands s (t.thermalTrips prev at_) := by
  refine foldl (fun u k hu => ?stack) _ (foldl (fun u g hu => ?rate) _ (foldl (fun u g hu => ?group) _ h))
  case group => exact ite (hu.trip ..) hu
  case rate =>
    unfold State.tripRate
    dsimp only
    split
    · exact ite (hu.trip ..) hu
    · exact hu
  case stack => exact ite (hu.trip ..) hu

/-! ### The stacks (R306 to R308) -/

/-- A stack's temperature (R306). -/
theorem stackTemp (k : Nat) (h : SweepStands s t) : SweepStands s (t.stackTemp k) := by
  unfold State.stackTemp
  split
  · exact h
  · split
    · exact h.stkMod ..
    · exact ite h (fault _ _ _ _ (h.stkMod ..))

/-- mc_rfb moves up (R308). -/
theorem rfbUp (k want n : Nat) (h : SweepStands s t) : SweepStands s (t.rfbUp k want n) := by
  induction n generalizing t with
  | zero => exact h
  | succ n ih => exact ite h (ih (event _ _ (h.stkMod ..)))

/-- mc_tgb moves up (R308). -/
theorem tgbUp (k want n : Nat) (h : SweepStands s t) : SweepStands s (t.tgbUp k want n) := by
  induction n generalizing t with
  | zero => exact h
  | succ n ih => exact ite h (ih (event _ _ (h.stkMod ..)))

/-- A stack's bands after a sweep (R307, R308). -/
theorem stackBands (k : Nat) (h : SweepStands s t) : SweepStands s (t.stackBands k) :=
  ite h (ite ((h.rfbUp ..).tgbUp ..) (((h.rfbUp ..).tgbUp ..).stkMod ..))

/-! ### The ladder and the hot band (R297 to R300) -/

/-- The ladder's decision for a domain (R297). -/
theorem ladderDom (sweep : Bool) (c : Nat) (h : SweepStands s t) : SweepStands s (t.ladderDom sweep c) := by
  refine h.grown ?_ fun _ _ => hasErr_ladderDom sweep c
  unfold State.ladderDom
  dsimp only
  (repeat' split) <;> simp

/-- The ladder (R297). -/
theorem ladder (sweep : Bool) (h : SweepStands s t) : SweepStands s (t.ladder sweep) := foldl (fun _ c hu => hu.ladderDom sweep c) _ h

/-- The hot band (R300). -/
theorem hotCheck (h : SweepStands s t) : SweepStands s t.hotCheck := by
  have begun : SweepStands s ({ t with thm.STATE_HOT := true, thm.hotAt := t.now, thm.hotGone := none } : State) := h.same rfl rfl
  unfold State.hotCheck
  dsimp only
  split
  · exact ite (h.same rfl rfl) h
  · split
    · exact ite (h.same rfl rfl) (begun.event ..).lowerLimits
    · exact ite (h.same rfl rfl) h

/-! ### An orderly shutdown (R301, R302) -/

/-- The orderly switch-off of a domain (R329). -/
theorem orderlyOne (d : Nat) (h : SweepStands s t) : SweepStands s (t.orderlyOne d) := by
  have forced : SweepStands s (t.forceOff d).forcedOne := (h.forceOff d).same rfl rfl
  unfold State.orderlyOne
  split
  · exact h.same rfl rfl
  · exact forced
  · exact forced
  · exact forced
  · exact h

/-- The orderly switch-off goes on (R329). -/
theorem orderlyGo (n : Nat) (h : SweepStands s t) : SweepStands s (State.orderlyGo n t) := by
  induction n generalizing t with
  | zero => exact h
  | succ n ih =>
    unfold State.orderlyGo
    split
    · exact h
    · exact ite h (ite (h.same rfl rfl) (ih (foldl (fun _ d hu => hu.orderlyOne d) _ (h.same rfl rfl))))

/-- The orderly switch-off begins (R302, R329). -/
theorem orderlyStart (h : SweepStands s t) : SweepStands s t.orderlyStart := by
  have left : SweepStands s ({ t.queueLeave with dom.orderly := some 7 } : State) := h.same (by simp) (by simp)
  exact orderlyGo _ (foldl (fun _ d hu => hu.orderlyOne d) _ left)

/-- Every supervised stack's bands go to 0b11 (R302). -/
theorem safeBands (h : SweepStands s t) : SweepStands s t.safeBands :=
  foldl (fun _ _ hu => ite ((hu.rfbUp ..).tgbUp ..) hu) _ h

/-- The rails of the orderly window (R302). -/
theorem shutRails (h : SweepStands s t) : SweepStands s t.shutRails := by
  refine ite (foldl (fun u r hu => ?_) _ h) h
  unfold State.shutRail
  exact ite hu (hu.same (by simp) (by simp))

/-- The orderly shutdown (R302). -/
theorem shutdown (cause src : Nat) (value : Int) (h : SweepStands s t) : SweepStands s (t.shutdown cause src value) := by
  unfold State.shutdown
  exact ite (h.same rfl rfl) (beamSettle (shutRails (orderlyStart (safeBands (tripRows (settle _ (event _ _ (h.tripEntry.onThm rfl))))))))

/-- The causes of R301 found on a sweep. -/
theorem sweepCauses (h : SweepStands s t) : SweepStands s t.sweepCauses := by
  refine foldl (fun u k hu => ?stack) _ (foldl (fun u g hu => ?group) _ h)
  case group =>
    have counted (n : Nat) : SweepStands s (u.grpMod g fun e => { e with shutRun := n }) := hu.grpMod g fun _ => rfl
    dsimp only
    split
    · exact ite (ite ((counted _).shutdown ..) (counted _)) (counted 0)
    · exact counted 0
  case stack => exact ite (ite ((hu.stkMod ..).shutdown ..) (hu.stkMod ..)) (hu.stkMod ..)

/-- The dwell cause of R301. -/
theorem dwellCause (h : SweepStands s t) : SweepStands s t.dwellCause := by
  refine foldl (fun u g hu => ?_) _ h
  have marked (x : Option Nat) : SweepStands s (u.grpMod g fun e => { e with dwellAt := x }) := hu.grpMod g fun _ => rfl
  dsimp only
  split
  · exact ite (ite ((marked none).shutdown ..) (marked _)) (marked none)
  · exact marked none

/-! ### The end of the sweep (R304, R524) -/

/-- COOLING and HOLD (R304, R305). -/
theorem phaseCheck (h : SweepStands s t) : SweepStands s t.phaseCheck := by
  have hold (u : State) (hu : SweepStands s u) : SweepStands s u.holdBegin := by
    unfold State.holdBegin
    exact ite (fault _ _ _ _ (hu.onThm rfl)) (hu.onThm rfl)
  have cooling (x : Option Nat) : SweepStands s ({ t with thm.coolAt := x } : State) := h.same rfl rfl
  unfold State.phaseCheck
  exact ite (ite (hold _ (cooling _)) (cooling _)) (ite (ite (cooling _) ((cooling _).onThm rfl)) (cooling _))

/-- The thermal summary of the trace (R524, R525). -/
theorem trcThermal (h : SweepStands s t) : SweepStands s t.trcThermal := by
  have dropped (u : State) (hu : SweepStands s u) : SweepStands s (u.trcDropped 1 0xE2) := by
    unfold State.trcDropped
    dsimp only
    exact ite (hu.grown rfl fun _ _ hi => hasErr_setErr _ _ hi) (fault _ _ _ _ (hu.same rfl rfl))
  unfold State.trcThermal State.trcPush
  dsimp only
  refine ite ?_ h
  split
  · exact h.same rfl rfl
  · exact dropped _ h

end

end SweepStands

end Sys2Proof.Machine
end

section
/-! PROOFS. The sensors of a sweep, and the groups that they form (R282 to R285). -/

namespace Sys2Proof.Machine

open Sys2Proof

/-! ### Folds over numbered elements -/

/-- The numbers below `n` are those before one of them, itself, and others. -/
theorem range_split {n i : Nat} (hi : i < n) : ∃ l, List.range n = List.range i ++ i :: l ∧ i ∉ l := by
  obtain ⟨k, rfl⟩ := Nat.exists_eq_add_of_lt hi
  refine ⟨(List.range k).map (i + 1 + ·), ?_, ?_⟩
  · rw [Nat.add_right_comm, List.range_add, List.range_succ]
    simp
  · simp only [List.mem_map, List.mem_range, not_exists, not_and]
    omega

/-- What each step leaves alone of the elements but its own, a fold leaves alone of an element that no step is of. -/
theorem foldl_read {β : Type} {step : State → Nat → State} (read : State → Nat → β)
    (hother : ∀ u i j, j ≠ i → read (step u i) j = read u j) {i : Nat} {l : List Nat} (hi : i ∉ l) (s : State) :
    read (l.foldl step s) i = read s i :=
  List.foldlRecOn (motive := fun u => read u i = read s i) l step rfl fun u hu j hj =>
    (hother u j i fun e => hi (e ▸ hj)).trans hu

/-! ### The sensors (R282, R284) -/

/-- What a sensor shows of its samples: the temperature, its failure and the reason. -/
def SnsTs.sample (e : SnsTs) : Int × Bool × Nat := (e.TS_TEMP, e.TS_FAILED, e.TS_REASON)

/-- A sensor but for its LIVE mark. -/
def SnsTs.unmarked (e : SnsTs) : SnsTs := { e with TS_LIVE := false }

/-- The LIVE mark is none of what a sensor shows of its samples. -/
@[simp] theorem SnsTs.unmarked_sample (e : SnsTs) : e.unmarked.sample = e.sample := rfl

/-- A sensor after it is changed. -/
theorem tsOf_tsMod_same (s : State) {i : Nat} (hi : i < 30) (f : SnsTs → SnsTs) : tsOf (s.tsMod i f) i = f (tsOf s i) :=
  vAt_vMod_same _ _ _ _ hi

/-- Another sensor keeps its value. -/
theorem tsOf_tsMod_other (s : State) {i j : Nat} (h : j ≠ i) (f : SnsTs → SnsTs) : tsOf (s.tsMod i f) j = tsOf s j :=
  vAt_vMod_other _ _ _ _ _ h.symm

/-- What a change of a sensor leaves alone of every sensor. -/
theorem tsOf_tsMod_proj {β : Type} (p : SnsTs → β) (s : State) (i j : Nat) {f : SnsTs → SnsTs} (h : ∀ e, p (f e) = p e) :
    p (tsOf (s.tsMod i f) j) = p (tsOf s j) :=
  vAt_vMod_proj p _ _ _ _ _ h

/-- The sensors are those of the SNS page. -/
theorem tsOf_congr {s t : State} (h : t.sns = s.sns) (i : Nat) : tsOf t i = tsOf s i := by
  rw [tsOf, h]
  rfl

/-- A sensor as it fails (R284). -/
def SnsTs.gone (e : SnsTs) (reason : Nat) : SnsTs :=
  { e with TS_FAILED := true, TS_REASON := reason, TS_LIVE := false, TS_SERVES := 255, rangeBad := 0 }

/-- A sensor that fails is marked, with its error and event (R284). -/
theorem sensorFail_live {s : State} {i : Nat} (h : (tsOf s i).TS_FAILED = false) (reason : Nat) :
    s.sensorFail i reason = ((s.tsMod i (SnsTs.gone · reason)).fault pgSns 16 0x0810 [i, reason]).tsCount :=
  if_neg (by simp [h])

/-- A sensor that fails leaves the others as they are (R284). -/
theorem sensorFail_other (s : State) {i j : Nat} (h : j ≠ i) (reason : Nat) : tsOf (s.sensorFail i reason) j = tsOf s j := by
  unfold State.sensorFail
  dsimp only
  split
  · rfl
  · rw [tsOf_congr (s := s.tsMod i (SnsTs.gone · reason)) (by simp [SnsTs.gone]), tsOf_tsMod_other s h]

/-- A sensor that fails clears no error (R284). -/
theorem hasErr_sensorFail {s : State} {q : Fin 23} {k : Nat} (i reason : Nat) (h : s.hasErr q k) : (s.sensorFail i reason).hasErr q k := by
  cases hf : (tsOf s i).TS_FAILED with
  | true =>
    rw [show s.sensorFail i reason = s from if_pos hf]
    exact h
  | false =>
    rw [sensorFail_live hf]
    exact hasErr_of_hdr (hasErr_fault_keeps (s := s.tsMod i (SnsTs.gone · reason)) pgSns 16 0x0810 [i, reason] h) rfl

/-- An answer within the range is the sensor's temperature (R282, R284). -/
theorem sensorSample_ok {s : State} {i : Nat} (hi : i < 30) (h : (tsOf s i).TS_FAILED = false) {x : Int} (hlo : -2560 ≤ x)
    (hhi : x ≤ 9600) : tsOf (s.sensorSample i (.ok x)) i = { tsOf s i with TS_TEMP := x, rangeBad := 0 } := by
  have hx : max (-32768) (min 32767 x) = x := by omega
  unfold State.sensorSample
  rw [if_neg (by simp [h])]
  dsimp only
  rw [if_neg (by omega), tsOf_tsMod_same _ hi, tsOf_tsMod_same _ hi, hx]

/-- An answer that fails parity is a failed sensor (R284). -/
theorem sensorSample_parity {s : State} {i : Nat} (hi : i < 30) (h : (tsOf s i).TS_FAILED = false) :
    tsOf (s.sensorSample i .parity) i = (tsOf s i).gone 1 ∧ (s.sensorSample i .parity).hasErr pgSns 16 := by
  have hfail : s.sensorSample i .parity = s.sensorFail i 1 := if_neg (by simp [h])
  rw [hfail, sensorFail_live h]
  refine ⟨?_, hasErr_of_hdr (hasErr_fault _ _ _ _ _) rfl⟩
  rw [tsOf_congr (s := s.tsMod i (SnsTs.gone · 1)) (by simp), tsOf_tsMod_same s hi]

/-- A sensor's answer leaves the other sensors as they are (R284). -/
theorem sensorSample_other (s : State) {i j : Nat} (h : j ≠ i) (x : TempSample) : tsOf (s.sensorSample i x) j = tsOf s j := by
  unfold State.sensorSample
  dsimp only
  (repeat' split) <;> simp only [sensorFail_other _ h, tsOf_tsMod_other _ h]

/-- A sensor's answer clears no error (R284). -/
theorem hasErr_sensorSample {s : State} {q : Fin 23} {k : Nat} (i : Nat) (x : TempSample) (h : s.hasErr q k) :
    (s.sensorSample i x).hasErr q k := by
  unfold State.sensorSample
  refine hasErr_ite h ?_
  split
  · exact hasErr_sensorFail _ _ h
  · exact hasErr_sensorFail _ _ h
  · refine hasErr_ite (hasErr_ite ?_ (hasErr_sensorFail _ _ ?_)) ?_ <;> exact h

/-- The answer of sensor `i` in a sweep. -/
def State.answerTaken (samples : Vector TempSample 30) (s : State) (i : Nat) : State := s.sensorSample i (vAt samples i .parity)

/-- Every sensor's answer (R282). -/
def State.sensorsSampled (s : State) (samples : Vector TempSample 30) : State :=
  (List.range 30).foldl (State.answerTaken samples) s

/-- A sensor answers once: before its answer it is as it was, and after it no error is cleared. -/
theorem sensorsSampled_once (s : State) (samples : Vector TempSample 30) (i : Fin 30) :
    ∃ u : State, tsOf u i.val = tsOf s i.val ∧ tsOf (s.sensorsSampled samples) i.val = tsOf (u.sensorSample i.val samples[i]) i.val ∧
      ∀ q k, (u.sensorSample i.val samples[i]).hasErr q k → (s.sensorsSampled samples).hasErr q k := by
  have hother (u : State) (j k : Nat) (h : k ≠ j) : tsOf (u.answerTaken samples j) k = tsOf u k := sensorSample_other u h _
  obtain ⟨l, hrange, hl⟩ := range_split i.isLt
  have hanswer (u : State) : u.answerTaken samples i.val = u.sensorSample i.val samples[i] := by rw [State.answerTaken, vAt_page]
  refine ⟨(List.range i.val).foldl (State.answerTaken samples) s, foldl_read tsOf hother (by simp) s, ?_, fun q k herr => ?_⟩
  · rw [State.sensorsSampled, hrange, List.foldl_append, List.foldl_cons, foldl_read tsOf hother hl, hanswer]
  · rw [State.sensorsSampled, hrange, List.foldl_append, List.foldl_cons, hanswer]
    exact List.foldlRecOn (motive := fun u : State => u.hasErr q k) l _ herr fun u hu j _ => hasErr_sensorSample j _ hu

/-- A live sensor that answers within the range holds its answer (R282, R284). -/
theorem sensorsSampled_ok {s : State} {samples : Vector TempSample 30} {i : Fin 30} {x : Int} (hx : samples[i] = .ok x)
    (h : s.sns.ts[i].TS_FAILED = false) (hlo : -2560 ≤ x) (hhi : x ≤ 9600) :
    tsOf (s.sensorsSampled samples) i.val = { s.sns.ts[i] with TS_TEMP := x, rangeBad := 0 } := by
  have hts : tsOf s i.val = s.sns.ts[i] := vAt_page ..
  obtain ⟨u, hu, hend, -⟩ := sensorsSampled_once s samples i
  rw [hend, hx, sensorSample_ok i.isLt (by rw [hu, hts, h]) hlo hhi, hu, hts]

/-- A live sensor that fails parity is failed, and flagged (R284). -/
theorem sensorsSampled_parity {s : State} {samples : Vector TempSample 30} {i : Fin 30} (hx : samples[i] = .parity)
    (h : s.sns.ts[i].TS_FAILED = false) :
    tsOf (s.sensorsSampled samples) i.val = s.sns.ts[i].gone 1 ∧ (s.sensorsSampled samples).hasErr pgSns 16 := by
  have hts : tsOf s i.val = s.sns.ts[i] := vAt_page ..
  obtain ⟨u, hu, hend, herr⟩ := sensorsSampled_once s samples i
  rw [hx] at hend herr
  obtain ⟨hgone, hflag⟩ := sensorSample_parity i.isLt (s := u) (by rw [hu, hts, h])
  exact ⟨by rw [hend, hgone, hu, hts], herr _ _ hflag⟩

/-! ### Spares (R284) -/

/-- A spare that comes to serve changes no sample (R284). -/
theorem sensorSubst_sample (s : State) (g i : Nat) : (tsOf (s.sensorSubst g) i).sample = (tsOf s i).sample := by
  unfold State.sensorSubst
  dsimp only
  split
  · rfl
  · split
    next k _ =>
      rw [tsOf_congr (s := s.tsMod (24 + g) fun e => { e with TS_SERVES := 4 * g + k }) (by simp)]
      exact tsOf_tsMod_proj SnsTs.sample s _ _ fun _ => rfl
    · rfl

/-- A spare that comes to serve clears no error (R284). -/
theorem hasErr_sensorSubst {s : State} {q : Fin 23} {k : Nat} (g : Nat) (h : s.hasErr q k) : (s.sensorSubst g).hasErr q k := by
  unfold State.sensorSubst
  refine hasErr_ite h ?_
  split
  · exact hasErr_settle _ (hasErr_event _ _ (hasErr_of_hdr h (by simp)))
  · exact h

/-- Where no primary of its group has failed, a spare comes to serve none (R284). -/
theorem sensorSubst_idle {s : State} {g : Nat} (h : ∀ i, i < 4 → (tsOf s (4 * g + i)).TS_FAILED = false) : s.sensorSubst g = s := by
  have hnone : (List.range 4).find? (fun i => (tsOf s (4 * g + i)).TS_FAILED) = none := by
    simpa [List.find?_eq_none] using h
  unfold State.sensorSubst
  dsimp only
  rw [hnone]
  split <;> rfl

/-- Each group's spare comes to serve where it is needed (R284). -/
def State.sensorsServed (s : State) : State := (List.range 6).foldl State.sensorSubst s

/-- The substitutions change no sample (R284). -/
theorem sensorsServed_sample (s : State) (i : Nat) : (tsOf s.sensorsServed i).sample = (tsOf s i).sample :=
  foldl_proj (fun u : State => (tsOf u i).sample) _ (fun u g => sensorSubst_sample u g i) _ s

/-- The substitutions clear no error (R284). -/
theorem hasErr_sensorsServed {s : State} {q : Fin 23} {k : Nat} (h : s.hasErr q k) : s.sensorsServed.hasErr q k :=
  List.foldlRecOn (motive := fun u : State => u.hasErr q k) _ _ h fun _ hu g _ => hasErr_sensorSubst g hu

/-- Where no primary has failed, no spare comes to serve (R284). -/
theorem sensorsServed_idle {s : State} (h : ∀ i, i < 24 → (tsOf s i).TS_FAILED = false) : s.sensorsServed = s :=
  List.foldlRecOn (motive := fun u => u = s) _ _ rfl fun u hu g hg => by
    subst hu
    exact sensorSubst_idle fun i hi => h _ (by have := List.mem_range.mp hg; omega)

/-! ### Groups (R283, R285) -/

/-- The LIVE marks of a group's sensors (R283). -/
def State.liveMarked (s : State) (g m : Nat) : State :=
  (List.range 5).foldl (fun s i => s.tsMod (memberSensor g i) fun x => { x with TS_LIVE := m.testBit i }) s

/-- The LIVE marks change the sensors in them alone. -/
theorem liveMarked_unmarked (s : State) (g m i : Nat) : (tsOf (s.liveMarked g m) i).unmarked = (tsOf s i).unmarked := by
  have step (u : State) (j : Nat) :
      (tsOf (u.tsMod (memberSensor g j) fun x => { x with TS_LIVE := m.testBit j }) i).unmarked = (tsOf u i).unmarked :=
    tsOf_tsMod_proj SnsTs.unmarked u _ i fun _ => rfl
  unfold State.liveMarked
  exact foldl_proj (fun u : State => (tsOf u i).unmarked) _ step _ s

/-- The LIVE marks change the sensors alone. -/
theorem liveMarked_frame (s : State) (g m : Nat) : s.liveMarked g m = { s with sns.ts := (s.liveMarked g m).sns.ts } :=
  List.foldlRecOn (motive := fun u : State => u = { s with sns.ts := u.sns.ts }) _ _ rfl fun u hu i _ => by
    rw [hu]
    rfl

/-- A group's sweep: its figures, its LIVE marks, and the event of a lost group (R283, R285). -/
theorem groupSweep_cases (s : State) (t g : Nat) :
    ∃ (f : ThmGrp → ThmGrp) (d : List Nat), let u := (s.grpMod g f).liveMarked g (liveMembers s g)
      (s.groupSweep t g = u.fault pgSns 17 0x0812 d ∨ s.groupSweep t g = u) := by
  unfold State.groupSweep
  dsimp only
  split
  · exact ⟨_, _, .inl rfl⟩
  · exact ⟨_, [], .inr rfl⟩

/-- A group's sweep changes the sensors in their LIVE marks alone. -/
theorem groupSweep_unmarked (s : State) (t g i : Nat) : (tsOf (s.groupSweep t g) i).unmarked = (tsOf s i).unmarked := by
  obtain ⟨f, d, h | h⟩ := groupSweep_cases s t g
  · rw [h, tsOf_congr (s := (s.grpMod g f).liveMarked g (liveMembers s g)) (by simp), liveMarked_unmarked]
    rfl
  · rw [h, liveMarked_unmarked]
    rfl

/-- A group's sweep changes the sensor hub in its sensors alone. -/
theorem groupSweep_hub (s : State) (t g : Nat) : (s.groupSweep t g).sns.hub = s.sns.hub := by
  obtain ⟨f, d, h | h⟩ := groupSweep_cases s t g <;> rw [h, liveMarked_frame] <;> simp [Sns.hub]

/-- A group's sweep clears no error. -/
theorem hasErr_groupSweep {s : State} {q : Fin 23} {k : Nat} (t g : Nat) (h : s.hasErr q k) : (s.groupSweep t g).hasErr q k := by
  obtain ⟨f, d, heq | heq⟩ := groupSweep_cases s t g <;> rw [heq, liveMarked_frame]
  · exact hasErr_fault_keeps _ _ _ _ h
  · exact h

/-- A group's sweep leaves the other groups as they are. -/
theorem groupSweep_other (s : State) (t : Nat) {g j : Nat} (hj : j ≠ g) : grpOf (s.groupSweep t g) j = grpOf s j := by
  have hmod (f : ThmGrp → ThmGrp) : vAt (vMod s.thm.grp g f) j {} = grpOf s j := vAt_vMod_other _ _ _ _ _ hj.symm
  obtain ⟨f, d, h | h⟩ := groupSweep_cases s t g <;> rw [h, liveMarked_frame, grpOf]
  · simpa using hmod f
  · exact hmod f

/-- A whole group: its four primaries are in order, and its spare serves none. -/
structure GroupWhole (s : State) (g : Nat) : Prop where
  primaries : ∀ i, i < 4 → (tsOf s (4 * g + i)).TS_FAILED = false
  spare : (tsOf s (24 + g)).TS_SERVES = 255

/-- The largest of the samples of a group's four primaries (R283). -/
def groupTop (s : State) (g : Nat) : Int :=
  max (max (max (tsOf s (4 * g)).TS_TEMP (tsOf s (4 * g + 1)).TS_TEMP) (tsOf s (4 * g + 2)).TS_TEMP) (tsOf s (4 * g + 3)).TS_TEMP

/-- No primary's sample is above the largest. -/
theorem le_groupTop (s : State) (g : Nat) {i : Nat} (hi : i < 4) : (tsOf s (4 * g + i)).TS_TEMP ≤ groupTop s g := by
  unfold groupTop
  interval_cases i <;> simp

/-- The largest is a primary's sample. -/
theorem groupTop_attained (s : State) (g : Nat) : ∃ i, i < 4 ∧ (tsOf s (4 * g + i)).TS_TEMP = groupTop s g := by
  unfold groupTop
  rcases max_choice (max (max (tsOf s (4 * g)).TS_TEMP (tsOf s (4 * g + 1)).TS_TEMP) (tsOf s (4 * g + 2)).TS_TEMP)
    (tsOf s (4 * g + 3)).TS_TEMP with h3 | h3 <;> rw [h3]
  · rcases max_choice (max (tsOf s (4 * g)).TS_TEMP (tsOf s (4 * g + 1)).TS_TEMP) (tsOf s (4 * g + 2)).TS_TEMP with h2 | h2 <;> rw [h2]
    · rcases max_choice (tsOf s (4 * g)).TS_TEMP (tsOf s (4 * g + 1)).TS_TEMP with h1 | h1 <;> rw [h1]
      · exact ⟨0, by decide, rfl⟩
      · exact ⟨1, by decide, rfl⟩
    · exact ⟨2, by decide, rfl⟩
  · exact ⟨3, by decide, rfl⟩

/-- The figures of a whole group after a sweep (R283). -/
def wholeReading (s : State) (g : Nat) : Nat × Bool × Bool × Int × Option Int :=
  (4, false, false, groupTop s g,
    if (grpOf s g).valid && decide ((grpOf s g).members = 15) then some (groupTop s g - (grpOf s g).GRP_MAX) else none)

/-- The live members of a whole group are its primaries (R283). -/
theorem GroupWhole.liveMembers {s : State} {g : Nat} (h : GroupWhole s g) : liveMembers s g = 15 := by
  have h0 := h.primaries 0 (by decide)
  have h1 := h.primaries 1 (by decide)
  have h2 := h.primaries 2 (by decide)
  have h3 := h.primaries 3 (by decide)
  simp only [Nat.add_zero] at h0
  simp [Machine.liveMembers, maskOf, List.range_succ, h0, h1, h2, h3, h.spare]

/-- A sweep of a whole group (R283). -/
theorem GroupWhole.groupSweep {s : State} {g : Nat} (h : GroupWhole s g) (hg : g < 6) (t : Nat) :
    (grpOf (s.groupSweep t g) g).reading = wholeReading s g := by
  have hserved : ((List.range 4).all fun i => !(tsOf s (4 * g + i)).TS_FAILED || spareServes s g (4 * g + i)) = true := by
    simpa using fun i hi => Or.inl (h.primaries i hi)
  have hpop : popcount 5 15 = 4 := by decide
  unfold State.groupSweep
  simp only [h.liveMembers, hserved, hpop]
  rw [if_neg (by simp)]
  rw [grpOf, foldl_thm]
  · exact congrArg ThmGrp.reading (vAt_vMod_same s.thm.grp g _ {} hg)
  · exact fun _ _ => rfl

/-- What a sweep of other groups leaves of a whole group. -/
theorem GroupWhole.congr {s u : State} {g : Nat} (h : GroupWhole s g) (hts : ∀ i, (tsOf u i).unmarked = (tsOf s i).unmarked)
    (hgrp : grpOf u g = grpOf s g) : GroupWhole u g ∧ wholeReading u g = wholeReading s g := by
  have htemp (i : Nat) : (tsOf u i).TS_TEMP = (tsOf s i).TS_TEMP := (congrArg SnsTs.TS_TEMP (hts i) :)
  refine ⟨⟨fun i hi => ?_, ?_⟩, ?_⟩
  · exact (congrArg SnsTs.TS_FAILED (hts _) :).trans (h.primaries i hi)
  · exact (congrArg SnsTs.TS_SERVES (hts _) :).trans h.spare
  · simp only [wholeReading, groupTop, htemp, hgrp]

/-- Every group's sweep (R283). -/
def State.groupsSwept (s : State) (t : Nat) : State := (List.range 6).foldl (fun s g => s.groupSweep t g) s

/-- The groups' sweeps change the sensors in their LIVE marks alone. -/
theorem groupsSwept_unmarked (s : State) (t i : Nat) : (tsOf (s.groupsSwept t) i).unmarked = (tsOf s i).unmarked :=
  foldl_proj (fun u : State => (tsOf u i).unmarked) _ (fun u g => groupSweep_unmarked u t g i) _ s

/-- The groups' sweeps clear no error. -/
theorem hasErr_groupsSwept {s : State} {q : Fin 23} {k : Nat} (t : Nat) (h : s.hasErr q k) : (s.groupsSwept t).hasErr q k :=
  List.foldlRecOn (motive := fun u : State => u.hasErr q k) _ _ h fun _ hu g _ => hasErr_groupSweep t g hu

/-- The sweep of a whole group, among those of the others (R283). -/
theorem GroupWhole.groupsSwept {s : State} {g : Nat} (h : GroupWhole s g) (hg : g < 6) (t : Nat) :
    (grpOf (s.groupsSwept t) g).reading = wholeReading s g := by
  have hother (u : State) (j k : Nat) (hk : k ≠ j) : grpOf (u.groupSweep t j) k = grpOf u k := groupSweep_other u t hk
  obtain ⟨l, hrange, hl⟩ := range_split hg
  rw [State.groupsSwept, hrange, List.foldl_append, List.foldl_cons, foldl_read grpOf hother hl]
  obtain ⟨hwhole, hreading⟩ := h.congr (u := (List.range g).foldl (fun s g => s.groupSweep t g) s)
    (fun i => foldl_proj (fun u : State => (tsOf u i).unmarked) _ (fun u j => groupSweep_unmarked u t j i) _ s)
    (foldl_read grpOf hother (by simp) s)
  rw [hwhole.groupSweep hg, hreading]

end Sys2Proof.Machine
end

section
/-! PROOFS. The thermal sweep's commands (R282 to R285). -/

namespace Sys2Proof.Machine

open Sys2Proof

/-! ### THERMAL_SWEEP -/

/-- The sweep latches on its tick, once (R282). -/
theorem exec_thermalSweep {s : State} (hstart : s.rst.started = true) (hdue : s.now % 1000 = 0) (hnew : s.sns.lastSweep ≠ some s.now) :
    exec .thermalSweep s = .next { s with sns := { s.sns with sweepAt := some s.now, lastSweep := some s.now } } :=
  congrArg Host.Outcome.next (if_pos (by simp [hstart, hdue, hnew]))

/-! ### SWEEP_CALIBRATION_DONE -/

/-- The sensors and groups of a sweep that latched at tick `t` (R282 to R285). -/
def State.sweepFormed (s : State) (samples : Vector TempSample 30) (t : Nat) : State :=
  (s.sensorsSampled samples).sensorsServed.groupsSwept t

/-- What the groups' figures lead to: the stacks, the trips, the bands, the ladder and the causes of an orderly shutdown (R214, R297 to
R308). -/
def State.sweepActs (s : State) (prev : List Nat) (t : Nat) : State :=
  (((List.range 12).foldl State.stackBands (((List.range 12).foldl State.stackTemp s).thermalTrips prev t)).ladder
    true).hotCheck.sweepCauses.dwellCause

/-- The end of a sweep: its count and duration, its trace, COOLING and HOLD, and what follows a change of the responses (R282, R304,
R524). -/
def State.sweepEnded (s : State) (dur : Nat) : State :=
  ((s.onSns fun n => { n with sweepAt := none, SWEEP_SWEEPS := satAdd 16 n.SWEEP_SWEEPS 1, SWEEP_DUR := sat 16 dur }).trcThermal.onThm
    fun h => { h with newSweep := true }).phaseCheck.beamSettle.settle 0x0810

/-- A sweep that latched ends as its sensors, its groups, and what they lead to (R282). -/
theorem exec_sweepCalibrationDone {s : State} {t : Nat} (h : s.sns.sweepAt = some t) (samples : Vector TempSample 30) (dur : Nat) :
    ∃ prev, exec (.sweepCalibrationDone samples dur) s =
      .next (((s.sweepFormed samples t).sweepActs prev t).sweepEnded dur) := by
  refine ⟨(List.range 6).map fun g => (grpOf s g).sweepAt, ?_⟩
  change Host.Outcome.next _ = _
  rw [h]
  rfl

/-- What a sweep leads to lets the groups' figures and the errors stand. -/
theorem SweepStands.sweepActs (s : State) (prev : List Nat) (t : Nat) : SweepStands s (s.sweepActs prev t) :=
  have temps : SweepStands s ((List.range 12).foldl State.stackTemp s) := .foldl (fun _ k hu => hu.stackTemp k) _ (.refl s)
  have bands : SweepStands s ((List.range 12).foldl State.stackBands (((List.range 12).foldl State.stackTemp s).thermalTrips prev t)) :=
    .foldl (fun _ k hu => hu.stackBands k) _ (temps.thermalTrips prev t)
  (bands.ladder true).hotCheck.sweepCauses.dwellCause

/-- The end of a sweep lets the groups' figures and the errors stand. -/
theorem SweepStands.sweepEnded {s t : State} (h : SweepStands s t) (dur : Nat) : SweepStands s (t.sweepEnded dur) :=
  have traced := SweepStands.trcThermal (h.same (u := t.onSns fun n =>
    { n with sweepAt := none, SWEEP_SWEEPS := satAdd 16 n.SWEEP_SWEEPS 1, SWEEP_DUR := sat 16 dur }) rfl rfl)
  .settle _ (.beamSettle (.phaseCheck (traced.same rfl rfl)))

/-- What a sweep leads to leaves the sensor hub as it is, and its end counts it (R282). -/
theorem sweepEnded_sns (s : State) (prev : List Nat) (t dur : Nat) :
    ((s.sweepActs prev t).sweepEnded dur).sns =
      { s.sns with sweepAt := none, SWEEP_SWEEPS := satAdd 16 s.sns.SWEEP_SWEEPS 1, SWEEP_DUR := sat 16 dur } := by
  simp [State.sweepActs, State.sweepEnded]

/-- Pages that agree but for the sensors agree in the count of sweeps. -/
theorem Sns.hub_sweeps {m n : Sns} (h : m.hub = n.hub) : m.SWEEP_SWEEPS = n.SWEEP_SWEEPS := (congrArg Sns.SWEEP_SWEEPS h :)

/-- The sensors and groups of a sweep change the sensor hub in its sensors alone. -/
theorem sweepFormed_hub (s : State) (samples : Vector TempSample 30) (t : Nat) : (s.sweepFormed samples t).sns.hub = s.sns.hub := by
  have hub (f : State → Nat → State) (hf : ∀ u i, (f u i).sns.hub = u.sns.hub) (l : List Nat) (u : State) :
      (l.foldl f u).sns.hub = u.sns.hub := foldl_proj (fun u : State => u.sns.hub) f hf l u
  exact (hub _ (fun u g => groupSweep_hub u t g) _ _).trans ((hub _ sensorSubst_hub _ _).trans
    (hub _ (fun u i => sensorSample_hub u i _) _ _))

/-- The groups' sweeps and the substitutions change no sample. -/
theorem sweepFormed_sample (s : State) (samples : Vector TempSample 30) (t i : Nat) :
    (tsOf (s.sweepFormed samples t) i).sample = (tsOf (s.sensorsSampled samples) i).sample := by
  rw [State.sweepFormed, ← SnsTs.unmarked_sample, groupsSwept_unmarked, SnsTs.unmarked_sample, sensorsServed_sample]

/-- What a sweep leaves of a sensor's sample at its end (R282, R284). -/
theorem sweepEnded_sample (s : State) (samples : Vector TempSample 30) (prev : List Nat) (t dur : Nat) (i : Fin 30) :
    (((s.sweepFormed samples t).sweepActs prev t).sweepEnded dur).sns.ts[i].sample = (tsOf (s.sensorsSampled samples) i.val).sample := by
  rw [sweepEnded_sns, ← sweepFormed_sample s samples t i.val, tsOf, vAt_page]

/-- An error of the samples stands at the end of the sweep. -/
theorem hasErr_sweepEnded {s : State} {samples : Vector TempSample 30} {q : Fin 23} {k : Nat} (prev : List Nat) (t dur : Nat)
    (h : (s.sensorsSampled samples).hasErr q k) : (((s.sweepFormed samples t).sweepActs prev t).sweepEnded dur).hasErr q k :=
  ((SweepStands.sweepActs _ prev t).sweepEnded dur).errors q k (hasErr_groupsSwept t (hasErr_sensorsServed h))

/-- Every sensor is in order and answers within the range, and no spare serves. -/
structure SweepSound (s : State) (samples : Vector TempSample 30) : Prop where
  answers : ∀ i : Fin 30, s.sns.ts[i].TS_FAILED = false ∧ ∃ x, samples[i] = .ok x ∧ -2560 ≤ x ∧ x ≤ 9600
  spares : ∀ i : Fin 30, 24 ≤ i.val → s.sns.ts[i].TS_SERVES = 255

section
variable {s : State} {samples : Vector TempSample 30} (h : SweepSound s samples)
include h

/-- Each sensor of a sound sweep holds its answer. -/
theorem SweepSound.sampled (i : Fin 30) :
    ∃ x, samples[i] = .ok x ∧ tsOf (s.sensorsSampled samples) i.val = { s.sns.ts[i] with TS_TEMP := x, rangeBad := 0 } := by
  obtain ⟨hlive, x, hx, hlo, hhi⟩ := h.answers i
  exact ⟨x, hx, sensorsSampled_ok hx hlive hlo hhi⟩

/-- No sensor of a sound sweep has failed. -/
theorem SweepSound.live {i : Nat} (hi : i < 30) : (tsOf (s.sensorsSampled samples) i).TS_FAILED = false := by
  obtain ⟨x, -, hts⟩ := h.sampled ⟨i, hi⟩
  rw [hts]
  exact (h.answers ⟨i, hi⟩).1

/-- Each group of a sound sweep is whole. -/
theorem SweepSound.whole {g : Nat} (hg : g < 6) : GroupWhole (s.sensorsSampled samples) g := by
  refine ⟨fun i hi => h.live (by omega), ?_⟩
  obtain ⟨x, -, hts⟩ := h.sampled ⟨24 + g, by omega⟩
  rw [hts]
  exact h.spares ⟨24 + g, by omega⟩ (Nat.le_add_right 24 g)

/-- The figures of a group at the end of a sound sweep (R283). -/
theorem SweepSound.reading (prev : List Nat) (t dur : Nat) (g : Fin 6) :
    (((s.sweepFormed samples t).sweepActs prev t).sweepEnded dur).thm.grp[g].reading = wholeReading (s.sensorsSampled samples) g.val := by
  have hserved : (s.sensorsSampled samples).sensorsServed = s.sensorsSampled samples :=
    sensorsServed_idle fun i hi => h.live (Nat.lt_trans hi (by decide))
  have hstands := ((SweepStands.sweepActs (s.sweepFormed samples t) prev t).sweepEnded dur).groups g.val
  rw [← vAt_page _ g {}]
  refine hstands.trans ?_
  rw [State.sweepFormed, hserved, (h.whole g.isLt).groupsSwept g.isLt]

/-- An answer of a group's primary is a sample of the group. -/
theorem SweepSound.temp {i : Fin 30} {g : Nat} {x : Int} (hg : i.val / 4 = g) (hx : samples[i] = .ok x) :
    (tsOf (s.sensorsSampled samples) (4 * g + i.val % 4)).TS_TEMP = x := by
  obtain ⟨y, hy, hts⟩ := h.sampled i
  have hxy : y = x := by simpa [hx, eq_comm] using hy
  have hi : 4 * g + i.val % 4 = i.val := by omega
  rw [hi, hts, hxy]

/-- No answer of a group's primaries is above the group's largest sample (R283). -/
theorem SweepSound.le_top {i : Fin 30} {g : Nat} {x : Int} (hg : i.val / 4 = g) (hx : samples[i] = .ok x) :
    x ≤ groupTop (s.sensorsSampled samples) g := by
  rw [← h.temp hg hx]
  exact le_groupTop _ g (Nat.mod_lt _ (by decide))

/-- A group's largest sample is the answer of one of its primaries (R283). -/
theorem SweepSound.top_answered {g : Nat} (hg : g < 6) :
    ∃ i : Fin 30, i.val < 24 ∧ i.val / 4 = g ∧ samples[i] = .ok (groupTop (s.sensorsSampled samples) g) := by
  obtain ⟨k, hk, htop⟩ := groupTop_attained (s.sensorsSampled samples) g
  obtain ⟨x, hx, hts⟩ := h.sampled ⟨4 * g + k, by omega⟩
  refine ⟨⟨4 * g + k, by omega⟩, by dsimp only; omega, by dsimp only; omega, ?_⟩
  rw [hx, ← htop, hts]

end

/-- Sampling the sensors leaves the groups as they are. -/
theorem sensorsSampled_grp (s : State) (samples : Vector TempSample 30) (g : Fin 6) :
    grpOf (s.sensorsSampled samples) g.val = s.thm.grp[g] := by
  have hthm : (s.sensorsSampled samples).thm = s.thm := by simp [State.sensorsSampled, State.answerTaken]
  rw [grpOf, hthm, vAt_page]

end Sys2Proof.Machine
end

section
namespace Sys2Proof.Proofs

open Sys2Proof Sys2Proof.Machine

/-- Settles O47: the sensors take their answers one by one, a group whose sensors are in order takes its primaries' largest, and all that
the sweep leads to lets both stand (`SweepStands`). -/
theorem sweepsRun : Obligations.SweepsRun := by
  unfold Obligations.SweepsRun
  refine fun s => ⟨exec_thermalSweep, fun samples dur at_ hat => ?_⟩
  obtain ⟨prev, run⟩ := exec_sweepCalibrationDone hat samples dur
  have hsample (i : Fin 30) := sweepEnded_sample s samples prev at_ dur i
  have hsweeps : (s.sweepFormed samples at_).sns.SWEEP_SWEEPS = s.sns.SWEEP_SWEEPS :=
    Sns.hub_sweeps (sweepFormed_hub s samples at_)
  refine ⟨_, run, ?none, ?count, ?dur, fun i x hx hlive hlo hhi => ?answered, fun i hx hlive => ?parity,
    fun hall hspares g => ?group, ?frame⟩
  case none => rw [sweepEnded_sns]
  case count => rw [sweepEnded_sns, hsweeps]
  case dur => rw [sweepEnded_sns]
  case answered =>
    have hts := hsample i
    rw [sensorsSampled_ok hx hlive hlo hhi] at hts
    simp only [SnsTs.sample, Prod.mk.injEq] at hts
    exact ⟨hts.1, hts.2.1.trans hlive⟩
  case parity =>
    obtain ⟨hgone, hflag⟩ := sensorsSampled_parity hx hlive
    have hts := hsample i
    rw [hgone] at hts
    simp only [SnsTs.sample, SnsTs.gone, Prod.mk.injEq] at hts
    exact ⟨hts.2.1, hts.2.2, hasErr_sweepEnded prev at_ dur hflag⟩
  case group =>
    have sound : SweepSound s samples := ⟨hall, hspares⟩
    have hreading := sound.reading prev at_ dur g
    simp only [ThmGrp.reading, wholeReading, sensorsSampled_grp, Prod.mk.injEq] at hreading
    obtain ⟨hlive, hlost, hshort, hmax, hdiff⟩ := hreading
    rw [hmax, hdiff]
    refine ⟨hlive, hlost, hshort, fun i x _ hi hx => sound.le_top hi hx, sound.top_answered g.isLt, fun hvalid hmem => ?_, fun hmem => ?_⟩
    · exact if_pos (by rw [hvalid, hmem]; rfl)
    · exact if_neg (by rw [decide_eq_false hmem, Bool.and_false]; exact Bool.false_ne_true)
  case frame => simp [State.eq_of_pages, State.sweepFormed, State.sensorsSampled, State.answerTaken, State.sensorsServed,
      State.groupsSwept, State.sweepActs, State.sweepEnded]

/-- A block on tick 1000 whose last sweep found 20 °C in every group, all its sensors in order; `latched` is the sweep in progress. -/
def sweepingBlock (latched : Option Nat) : State :=
  { liveReset with
    rst := { liveReset.rst with started := true }
    now := 1000
    sns := { liveReset.sns with sweepAt := latched }
    thm := { liveReset.thm with grp := Vector.replicate 6 { GRP_MAX := 1280, valid := true, members := 15 } } }

/-- `sweepsRun` applies: the sweep latches on its tick. -/
theorem sweepingBlock_latches : ∃ t, exec .thermalSweep (sweepingBlock none) = .next t ∧ t.sns.sweepAt = some 1000 := by
  obtain ⟨latch, -⟩ := sweepsRun (sweepingBlock none)
  exact ⟨_, latch rfl rfl nofun, rfl⟩

/-- `sweepsRun` applies: 25 °C from every sensor is each group's maximum, 5 °C above that of the sweep before. -/
theorem sweepingBlock_warms :
    ∃ t, exec (.sweepCalibrationDone (Vector.replicate 30 (.ok 1600)) 12) (sweepingBlock (some 1000)) = .next t ∧
      t.thm.grp[0].GRP_MAX = 1600 ∧ t.thm.grp[0].diff = some 320 := by
  obtain ⟨-, done⟩ := sweepsRun (sweepingBlock (some 1000))
  obtain ⟨t, run, -, -, -, -, -, groups, -⟩ := done (Vector.replicate 30 (.ok 1600)) 12 1000 rfl
  have live (i : Fin 30) : (sweepingBlock (some 1000)).sns.ts[i].TS_FAILED = false := by revert i; decide
  have spares (i : Fin 30) : 24 ≤ i.val → (sweepingBlock (some 1000)).sns.ts[i].TS_SERVES = 255 := by revert i; decide
  obtain ⟨-, -, -, -, ⟨i, -, -, hmax⟩, hdiff, -⟩ := groups (fun i => ⟨live i, 1600, by simp, by decide, by decide⟩) spares 0
  have hmax' : t.thm.grp[0].GRP_MAX = 1600 := by simpa [eq_comm] using hmax
  have hdiff' : t.thm.grp[0].diff = some (t.thm.grp[0].GRP_MAX - 1280) := hdiff (by decide) (by decide)
  exact ⟨t, run, hmax', by rw [hdiff', hmax']; rfl⟩

/-- `sweepsRun` applies: the sensor that fails parity is failed, and flagged. -/
theorem sweepingBlock_fails :
    ∃ t, exec (.sweepCalibrationDone ((Vector.replicate 30 (.ok 1600)).set 5 .parity) 12) (sweepingBlock (some 1000)) = .next t ∧
      t.sns.ts[5].TS_FAILED = true ∧ t.sns.ts[5].TS_REASON = 1 ∧ t.hdr[pgSns].err.testBit 16 = true := by
  obtain ⟨-, done⟩ := sweepsRun (sweepingBlock (some 1000))
  obtain ⟨t, run, -, -, -, -, parity, -⟩ := done ((Vector.replicate 30 (.ok 1600)).set 5 .parity) 12 1000 rfl
  exact ⟨t, run, parity 5 (by decide) (by decide)⟩

end Sys2Proof.Proofs
end

section
/-! PROOFS. Clock codes and the timekeeper's source (R337, R340, R341): the code moves in their order, one equation for each, and what a
switch of the source leaves. -/

namespace Sys2Proof.Machine

open Sys2Proof

/-! ### Clock codes -/

/-- A throttle change, with its time and its count (R337). -/
def ClkDom.throttled (e : ClkDom) (v now : Nat) : ClkDom :=
  { e with ST_THR := v, thrAt := now, MOVES_THR_MOVES := satAdd 16 e.MOVES_THR_MOVES 1 }

/-- A step change, with its time and its count (R337). -/
def ClkDom.stepped (e : ClkDom) (v now : Nat) : ClkDom :=
  { e with ST_FSTEP := v, fAt := now, MOVES_F_MOVES := satAdd 16 e.MOVES_F_MOVES 1 }

/-- The registers of one clock domain replaced. -/
def State.clkSet (s : State) (c : Fin 25) (e : ClkDom) : State := { s with clk := { s.clk with dom := s.clk.dom.set c e } }

/-- A change of a clock domain's registers, by the domain's own index. -/
theorem clkMod_fin (s : State) (c : Fin 25) (f : ClkDom → ClkDom) : s.clkMod c.val f = s.clkSet c (f s.clk.dom[c]) := by
  rw [State.clkMod, vMod_fin, State.clkSet]

/-- CLOCK_CODE_CHANGE makes the first move of R337 that is due, on its domain alone. -/
theorem exec_clockCodeChange (s : State) (c : Fin 25) :
    exec (.clockCodeChange c) s = .next (
      let e := s.clk.dom[c]
      if e.ST_LOST then s
      else if tTarget s c.val < e.ST_THR then s.clkSet c (e.throttled (e.ST_THR - 1) s.now)
      else if e.ST_F_TGT < e.ST_FSTEP ∧ s.after e.fAt e.CFG_FGAP = true then s.clkSet c (e.stepped (e.ST_FSTEP - 1) s.now)
      else if e.ST_SSC ≠ sscWant s c.val then s.clkSet c { e with ST_SSC := sscWant s c.val }
      else if e.ST_THR < tTarget s c.val ∧ s.after e.thrAt e.CFG_UP_GAP = true then s.clkSet c (e.throttled (e.ST_THR + 1) s.now)
      else if e.ST_FSTEP < e.ST_F_TGT ∧ s.after e.fAt e.CFG_FGAP = true ∧ (!s.beam.inEmg) = true then
        s.clkSet c (e.stepped (e.ST_FSTEP + 1) s.now)
      else s) := by
  show Host.Outcome.next (s.codeMove c.val) = _
  simp only [State.codeMove, clkOf, vAt_page, clkMod_fin]
  rfl

section
variable {s : State} {c : Fin 25}

/-- A lowered throttle goes before every other move (R337). -/
theorem exec_clockCodeChange_throttleDown (hlost : s.clk.dom[c].ST_LOST = false) (hthr : tTarget s c.val < s.clk.dom[c].ST_THR) :
    exec (.clockCodeChange c) s = .next (s.clkSet c (s.clk.dom[c].throttled (s.clk.dom[c].ST_THR - 1) s.now)) := by
  rw [exec_clockCodeChange]
  simp only [hlost, Bool.false_eq_true, if_false, if_pos hthr]

/-- A lowered step goes once no throttle is to be lowered, after its gap (R337). -/
theorem exec_clockCodeChange_stepDown (hlost : s.clk.dom[c].ST_LOST = false) (hthr : s.clk.dom[c].ST_THR ≤ tTarget s c.val)
    (hstep : s.clk.dom[c].ST_F_TGT < s.clk.dom[c].ST_FSTEP) (hgap : s.after s.clk.dom[c].fAt s.clk.dom[c].CFG_FGAP = true) :
    exec (.clockCodeChange c) s = .next (s.clkSet c (s.clk.dom[c].stepped (s.clk.dom[c].ST_FSTEP - 1) s.now)) := by
  rw [exec_clockCodeChange]
  simp only [hlost, Bool.false_eq_true, if_false, if_neg (Nat.not_lt.mpr hthr), if_pos (And.intro hstep hgap)]

/-- With no code to lower and the spread as wanted, the raises are next, the throttle's before the step's (R337). -/
theorem exec_clockCodeChange_raise (hlost : s.clk.dom[c].ST_LOST = false) (hthr : s.clk.dom[c].ST_THR ≤ tTarget s c.val)
    (hstep : s.clk.dom[c].ST_FSTEP ≤ s.clk.dom[c].ST_F_TGT) (hssc : s.clk.dom[c].ST_SSC = sscWant s c.val) :
    exec (.clockCodeChange c) s = .next (
      let e := s.clk.dom[c]
      if e.ST_THR < tTarget s c.val ∧ s.after e.thrAt e.CFG_UP_GAP = true then s.clkSet c (e.throttled (e.ST_THR + 1) s.now)
      else if e.ST_FSTEP < e.ST_F_TGT ∧ s.after e.fAt e.CFG_FGAP = true ∧ (!s.beam.inEmg) = true then
        s.clkSet c (e.stepped (e.ST_FSTEP + 1) s.now)
      else s) := by
  rw [exec_clockCodeChange]
  simp only [hlost, Bool.false_eq_true, if_false, if_neg (Nat.not_lt.mpr hthr), Nat.not_lt.mpr hstep, false_and, hssc, ne_eq,
    not_true_eq_false]

/-- A step is raised once the throttle stands where it is wanted, after its gap, and not in EMERGENCY (R337). -/
theorem exec_clockCodeChange_stepUp (hlost : s.clk.dom[c].ST_LOST = false) (hthr : s.clk.dom[c].ST_THR = tTarget s c.val)
    (hstep : s.clk.dom[c].ST_FSTEP < s.clk.dom[c].ST_F_TGT) (hssc : s.clk.dom[c].ST_SSC = sscWant s c.val)
    (hgap : s.after s.clk.dom[c].fAt s.clk.dom[c].CFG_FGAP = true) :
    exec (.clockCodeChange c) s =
      .next (if s.beam.inEmg then s else s.clkSet c (s.clk.dom[c].stepped (s.clk.dom[c].ST_FSTEP + 1) s.now)) := by
  rw [exec_clockCodeChange_raise hlost hthr.le hstep.le hssc]
  simp only [hthr, Nat.lt_irrefl, false_and, if_false, hstep, hgap, true_and]
  cases s.beam.inEmg <;> rfl

end

/-! ### The timekeeper's source -/

/-- Without a crystal's amplitude the oscillator is selected (R340). -/
theorem srcWanted_noAmp {s : State} (h : s.clk.TK_AMP_OK = false) : srcWanted s = false := by
  unfold srcWanted
  split <;> simp [h]

/-- A switch of the source on the CLK page (R340, R341). -/
theorem srcApply_clk_switch {s : State} {x : Bool} (hx : srcWanted s = x) (hne : x ≠ s.clk.TK_SRC) :
    s.srcApply.clk =
      { s.clk with TK_SRC := x, TK_GLITCH := false, TK_XTAL_SEEN := s.clk.TK_XTAL_SEEN || x,
                   TK_CNT_SWITCHES := satAdd 16 s.clk.TK_CNT_SWITCHES 1 } := by
  subst hx
  unfold State.srcApply
  rw [if_neg hne]
  simp

/-- A switch of the source clears no error. -/
theorem hasErr_srcApply {s : State} {q : Fin 23} {i : Nat} (h : s.hasErr q i) : s.srcApply.hasErr q i := by
  unfold State.srcApply
  exact hasErr_ite h (hasErr_settle _ (hasErr_event _ _ h))

/-- The crystal's amplitude has collapsed (R340). -/
def State.ampLost (s : State) : State := { s with clk := { s.clk with TK_AMP_OK := false, ampAt := s.now } }

/-- The crystal is lost while it is the source: counted, with its error (R340). -/
def State.xtalLost (s : State) : State :=
  { s.ampLost with clk.TK_CNT_XTAL_LOSS := satAdd 16 s.clk.TK_CNT_XTAL_LOSS 1 }.fault pgClk 18 0x0A14

/-- XTAL_AMP_LOSS (R340). -/
theorem exec_xtalAmpLoss (s : State) :
    exec .xtalAmpLoss s = .next (if s.clk.TK_SRC then s.xtalLost.srcApply else s.ampLost) := rfl

/-- The CLK page of a crystal that is lost while it is the source (R340). -/
theorem xtalLost_clk (s : State) :
    s.xtalLost.clk =
      { s.clk with TK_AMP_OK := false, ampAt := s.now, TK_CNT_XTAL_LOSS := satAdd 16 s.clk.TK_CNT_XTAL_LOSS 1 } := by
  simp [State.xtalLost, State.ampLost]

/-- The timekeeper leaves a crystal that is lost (R340, R341). -/
theorem xtalLost_srcApply_clk {s : State} (h : s.clk.TK_SRC = true) :
    s.xtalLost.srcApply.clk =
      { s.clk with TK_AMP_OK := false, ampAt := s.now, TK_CNT_XTAL_LOSS := satAdd 16 s.clk.TK_CNT_XTAL_LOSS 1, TK_SRC := false,
                   TK_GLITCH := false, TK_CNT_SWITCHES := satAdd 16 s.clk.TK_CNT_SWITCHES 1 } := by
  have hwanted : srcWanted s.xtalLost = false := srcWanted_noAmp (by rw [xtalLost_clk])
  have hne : false ≠ s.xtalLost.clk.TK_SRC := by simp [xtalLost_clk, h]
  rw [srcApply_clk_switch hwanted hne, xtalLost_clk]
  simp

/-- XTAL_SELECT once the amplitude has held for 2 ms (R340). -/
theorem exec_xtalSelect_due {s : State} (h : s.after s.clk.ampAt (2 * ticksPerMs) = true) :
    exec .xtalSelect s = .next { s with clk.TK_AMP_OK := true }.srcApply := congrArg Host.Outcome.next (if_pos h)

/-- A crystal with amplitude that nothing forces away is selected (R340). -/
theorem srcWanted_xtal {s : State} (hamp : s.clk.TK_AMP_OK = true) (hcfg : s.clk.TK_CFG = true) (hforce : s.clk.FORCE_SRC = 0) :
    srcWanted s = true := by
  simp [srcWanted, hforce, hcfg, hamp]

/-- SOURCE_SELECTION_FORCED after 64 handshake events (R341). -/
theorem exec_sourceSelectionForced_due (s : State) {events : Nat} (h : 64 ≤ events) :
    exec (.sourceSelectionForced events) s =
      .next ({ s with clk := { s.clk with TK_GLITCH := true, TK_HANGS := satAdd 8 s.clk.TK_HANGS 1 } }.fault pgClk 17 0x0A13
        [b2n (!s.clk.TK_SRC), events]) :=
  congrArg Host.Outcome.next (if_pos h)

end Sys2Proof.Machine
end

section
namespace Sys2Proof.Proofs

open Sys2Proof Sys2Proof.Machine

/-- Settles O49: the moves of a domain's codes are the branches of R337's order; a switch of the source is the CLK page's equation, and
clears no error raised before it. -/
theorem clockCodesAndSource : Obligations.ClockCodesAndSource := by
  unfold Obligations.ClockCodesAndSource
  intro s moved
  refine ⟨fun c hlost => ⟨?throttleDown, ?stepDown, ?throttleUp, ?stepUp⟩, fun c hlost => ?lost, fun hsrc => ?idle, fun hsrc => ?loss,
    fun hamp hcfg hforce => ?select, fun events h64 => ?forced⟩
  case throttleDown =>
    rintro e rfl hthr
    exact exec_clockCodeChange_throttleDown hlost hthr
  case stepDown =>
    rintro e rfl hthr hstep hgap
    exact exec_clockCodeChange_stepDown hlost hthr hstep hgap
  case throttleUp =>
    rintro e rfl hthr hstep hssc hgap
    rw [exec_clockCodeChange_raise hlost hthr.le hstep hssc]
    exact congrArg Host.Outcome.next (if_pos ⟨hthr, hgap⟩)
  case stepUp =>
    rintro e rfl hthr hstep hssc hgap
    have run := exec_clockCodeChange_stepUp hlost hthr hstep hssc hgap
    exact ⟨fun hemg => run.trans (congrArg Host.Outcome.next (if_neg (by simp [hemg]))),
      fun hemg => run.trans (congrArg Host.Outcome.next (if_pos hemg))⟩
  case lost =>
    rw [exec_clockCodeChange]
    exact congrArg Host.Outcome.next (if_pos hlost)
  case idle =>
    rw [exec_xtalAmpLoss, hsrc]
    rfl
  case loss =>
    refine ⟨_, (exec_xtalAmpLoss s).trans (congrArg Host.Outcome.next (if_pos hsrc)), xtalLost_srcApply_clk hsrc,
      hasErr_srcApply (hasErr_fault ..), ?_⟩
    simp [State.eq_of_pages, State.xtalLost, State.ampLost]
  case select =>
    have hwanted : srcWanted { s with clk.TK_AMP_OK := true } = true := srcWanted_xtal rfl hcfg hforce
    refine ⟨_, exec_xtalSelect_due hamp, ?_, (srcApply_src _).trans hwanted, fun hsrc => ?_, ?_⟩
    · rw [srcApply_clk]
    · rw [srcApply_clk_switch hwanted (by simp [hsrc])]
      simp
    · simp [State.eq_of_pages]
  case forced =>
    refine ⟨_, exec_sourceSelectionForced_due s h64, by simp, hasErr_fault .., ?_⟩
    simp [State.eq_of_pages]

/-- A block at 2 ms whose crystal is the source and has had its amplitude since tick 0, with domain 3 throttled to 5 and domain 4
clock-lost. -/
def clockedBlock : State :=
  { liveReset with
    now := 8000
    clk := { liveReset.clk with
      TK_SRC := true, TK_AMP_OK := true, dom := (liveReset.clk.dom.set 3 { ST_THR := 5 }).set 4 { ST_LOST := true, ST_THR := 5 } } }

/-- `clockCodesAndSource` applies: domain 3's throttle comes down by one, and domain 4's stays. -/
theorem clockedBlock_throttles :
    (∃ t, exec (.clockCodeChange 3) clockedBlock = .next t ∧ t.clk.dom[3].ST_THR = 4) ∧
      exec (.clockCodeChange 4) clockedBlock = .next clockedBlock := by
  obtain ⟨codes, lost, -⟩ := clockCodesAndSource clockedBlock
  obtain ⟨down, -⟩ := codes 3 rfl
  exact ⟨⟨_, down _ rfl (by decide), rfl⟩, lost 4 rfl⟩

/-- `clockCodesAndSource` applies: the crystal is lost, and then selected again once it has had its amplitude for 2 ms. -/
theorem clockedBlock_switches :
    (∃ t, exec .xtalAmpLoss clockedBlock = .next t ∧ t.clk.TK_SRC = false ∧ t.clk.TK_CNT_XTAL_LOSS = 1) ∧
      ∃ t, exec .xtalSelect { clockedBlock with clk.TK_SRC := false } = .next t ∧ t.clk.TK_SRC = true ∧ t.clk.TK_CNT_SWITCHES = 1 := by
  obtain ⟨-, -, -, loss, -⟩ := clockCodesAndSource clockedBlock
  obtain ⟨-, -, -, -, select, -⟩ := clockCodesAndSource { clockedBlock with clk.TK_SRC := false }
  obtain ⟨t, run, hclk, -⟩ := loss rfl
  obtain ⟨u, run', -, hsrc, hcount, -⟩ := select (by decide) rfl rfl
  exact ⟨⟨t, run, by rw [hclk], by rw [hclk]; rfl⟩, u, run', hsrc, (hcount rfl).2⟩

/-- `clockCodesAndSource` applies: the selection forced through after 64 events is marked and counted. -/
theorem clockedBlock_forced : ∃ t, exec (.sourceSelectionForced 64) clockedBlock = .next t ∧ t.clk.TK_GLITCH = true ∧ t.clk.TK_HANGS = 1 := by
  obtain ⟨-, -, -, -, -, forced⟩ := clockCodesAndSource clockedBlock
  obtain ⟨t, run, hclk, -⟩ := forced 64 le_rfl
  exact ⟨t, run, by rw [hclk], by rw [hclk]; rfl⟩

end Sys2Proof.Proofs
end

section
/-! PROOFS. What the shared parts of the power-domain sequencer do to the DOM page (R318, R321 to R323, R325, R328): one equation for each. -/

namespace Sys2Proof.Machine

open Sys2Proof

/-! ### One domain's registers -/

/-- A power domain's registers, by the domain's own index. -/
theorem domOf_fin (s : State) (d : Fin 50) : domOf s d.val = s.dom.dom[d] := vAt_page ..

/-- The registers of one power domain replaced. -/
def State.domSet (s : State) (d : Fin 50) (e : DomDom) : State := { s with dom := { s.dom with dom := s.dom.dom.set d e } }

/-- A change of a power domain's registers, by the domain's own index. -/
theorem domMod_fin (s : State) (d : Fin 50) (f : DomDom → DomDom) : s.domMod d.val f = s.domSet d (f s.dom.dom[d]) := by
  rw [State.domMod, vMod_fin, State.domSet]

/-- A domain that holds no credits has none to return. -/
theorem DomDom.uncredited {e : DomDom} (h : e.cred = false) : { e with cred := false } = e := by
  cases e
  cases h
  rfl

/-! ### The wake queue and its credits -/

/-- A round with an unstarted entry goes on (R322). -/
theorem roundEnd_open {s : State} (h : s.dom.queue ≠ []) : s.roundEnd = s := by
  unfold State.roundEnd
  simp [h]

/-- A round whose last entry has started gives way to the entries that wait (R322). -/
theorem roundEnd_over {s : State} (hq : s.dom.queue = []) (hs : s.dom.started ≠ []) :
    s.roundEnd =
      { s with dom := { s.dom with
          queue := s.dom.nextQ, nextQ := [], started := [], QUEUE_ROUND := satAdd 15 s.dom.QUEUE_ROUND 1 } } := by
  unfold State.roundEnd
  simp [hq, hs]

/-- The end of a round changes the queue and its count alone (R322). -/
theorem roundEnd_dom (s : State) : ∃ q n st r,
    s.roundEnd.dom = { s.dom with queue := q, nextQ := n, started := st, QUEUE_ROUND := r } := by
  unfold State.roundEnd
  split <;> exact ⟨_, _, _, _, rfl⟩

/-- A domain that leaves the queue keeps its wake input (R322). -/
theorem leaveQueue_wake (s : State) (d : Nat) : (s.leaveQueue d).dom.WAKE = s.dom.WAKE := by
  unfold State.leaveQueue
  obtain ⟨q, n, st, r, hdom⟩ := roundEnd_dom _
  rw [hdom]
  rfl

/-- The credits of a wake go back to the die's pool, and are held no more (R321, R323). -/
theorem creditsBack_dom (s : State) (d : Fin 50) : ∃ rl,
    (s.creditsBack d.val).dom =
      { s.dom with
        INR_DIE_FREE := s.dom.INR_DIE_FREE + (if s.dom.dom[d].cred then s.dom.dom[d].CFG_COST else 0), rail := rl,
        dom := s.dom.dom.set d { s.dom.dom[d] with cred := false } } := by
  unfold State.creditsBack
  simp only [domOf_fin, domMod_fin]
  cases h : s.dom.dom[d].cred with
  | true => exact ⟨_, rfl⟩
  | false => exact ⟨s.dom.rail, by rw [DomDom.uncredited h]; simp⟩

/-- An entry joins the round in progress, or the next one where an entry of its domain has started (R322). -/
theorem joinQueue_dom (s : State) (d : Fin 50) :
    let w : WakeEnt := { dom := d.val, prio := 1 + s.dom.dom[d].CFG_PRIO, at_ := s.now }
    (s.joinQueue d.val).dom =
      { s.dom with
        dom := s.dom.dom.set d { s.dom.dom[d] with ST_ST := 1, stepAt := s.now },
        queue := if d.val ∈ s.dom.started then s.dom.queue else wakeInsert w s.dom.queue,
        nextQ := if d.val ∈ s.dom.started then wakeInsert w s.dom.nextQ else s.dom.nextQ } := by
  unfold State.joinQueue
  simp only [domOf_fin, domMod_fin, List.contains_iff_mem]
  by_cases h : d.val ∈ s.dom.started <;> simp [h, State.domSet]

/-! ### Demand -/

/-- The first thing an evaluation of demand does: when the domain became wanted or unwanted is marked, and a new demand on a FAILED
domain is counted (R318, R323). -/
def State.demandMarked (s : State) (d : Nat) : State :=
  let e := domOf s d
  let w := domWanted s d
  if w && !e.was then
    let s := s.domMod d fun x => { x with was := true, wantAt := s.now, unwantAt := none }
    if e.ST_ST = 8 then { s with dom.ABORT_CNT_FAILED_DEM := satAdd 16 s.dom.ABORT_CNT_FAILED_DEM 1 } else s
  else if !w && e.was then s.domMod d fun x => { x with was := false, unwantAt := some s.now }
  else s

/-- A domain's registers with other marks of its demand. -/
def DomDom.marked (e : DomDom) (was : Bool) (want : Nat) (unwant : Option Nat) : DomDom :=
  { e with was := was, wantAt := want, unwantAt := unwant }

/-- The marks of a domain's demand, and the count of demands on FAILED domains, as other values. -/
def State.withMarks (s : State) (d : Fin 50) (was : Bool) (want : Nat) (unwant : Option Nat) (n : Nat) : State :=
  { s with dom := { s.dom with ABORT_CNT_FAILED_DEM := n, dom := s.dom.dom.set d (s.dom.dom[d].marked was want unwant) } }

/-- Marking a domain's demand changes nothing else. -/
theorem demandMarked_marks (s : State) (d : Fin 50) : ∃ was want unwant n, s.demandMarked d.val = s.withMarks d was want unwant n := by
  unfold State.demandMarked
  simp only [domOf_fin, domMod_fin]
  split
  · split <;> exact ⟨_, _, _, _, rfl⟩
  · split
    · exact ⟨_, _, _, _, rfl⟩
    · refine ⟨s.dom.dom[d].was, s.dom.dom[d].wantAt, s.dom.dom[d].unwantAt, s.dom.ABORT_CNT_FAILED_DEM, ?_⟩
      show s = { s with dom := { s.dom with dom := s.dom.dom.set d s.dom.dom[d] } }
      simp

/-- An evaluation of demand marks it and then acts on it (R318, R322, R327). -/
theorem demandOf_eq (s : State) (d : Fin 50) : ∃ was want unwant n,
    s.demandOf d.val =
      let e := s.dom.dom[d]
      let u := s.withMarks d was want unwant n
      if domWanted s d.val then
        if !s.seq.tripped && (decide (e.ST_ST = 6) || (decide (e.ST_ST = 7) && !e.isoUp)) then
          u.domMod d.val fun x => { x with ST_ST := 5, stepAt := s.now, ST_RET_HELD := false }
        else if demandActs s && decide (e.ST_ST = 0) then u.joinQueue d.val
        else u
      else if decide (e.ST_ST = 1) && !e.forced then u.leaveQueue d.val
      else u := by
  obtain ⟨was, want, unwant, n, hmarks⟩ := demandMarked_marks s d
  refine ⟨was, want, unwant, n, ?_⟩
  rw [← domOf_fin, ← hmarks]
  have hseq : (s.demandMarked d.val).seq = s.seq := by rw [hmarks]; rfl
  have hnow : (s.demandMarked d.val).now = s.now := by rw [hmarks]; rfl
  have hacts : demandActs (s.demandMarked d.val) = demandActs s := by rw [hmarks]; rfl
  rw [← hseq, ← hnow, ← hacts]
  rfl

section
variable {s : State} {d : Fin 50}

/-- A domain that becomes wanted while it is off joins the queue (R319, R322). -/
theorem demandOf_joins (hwanted : domWanted s d.val = true) (hoff : s.dom.dom[d].ST_ST = 0) (hacts : demandActs s = true) :
    ∃ was want unwant n, s.demandOf d.val = (s.withMarks d was want unwant n).joinQueue d.val := by
  obtain ⟨was, want, unwant, n, heq⟩ := demandOf_eq s d
  refine ⟨was, want, unwant, n, heq.trans ?_⟩
  simp [-Fin.getElem_fin, hwanted, hoff, hacts]

/-- A domain that becomes wanted before step 6 of its sleep is ON again, but in TRIPPED (R319, R327). -/
theorem demandOf_turnsBack (hwanted : domWanted s d.val = true) (htrip : s.seq.tripped = false)
    (hsleep : s.dom.dom[d].ST_ST = 6 ∨ (s.dom.dom[d].ST_ST = 7 ∧ s.dom.dom[d].isoUp = false)) :
    ∃ was want unwant n, s.demandOf d.val =
      (s.withMarks d was want unwant n).domMod d.val fun x => { x with ST_ST := 5, stepAt := s.now, ST_RET_HELD := false } := by
  obtain ⟨was, want, unwant, n, heq⟩ := demandOf_eq s d
  refine ⟨was, want, unwant, n, heq.trans ?_⟩
  obtain h6 | ⟨h7, hiso⟩ := hsleep
  · simp [-Fin.getElem_fin, hwanted, htrip, h6]
  · simp [-Fin.getElem_fin, hwanted, htrip, h7, hiso]

/-- A domain that is not wanted any more leaves the queue (R322). -/
theorem demandOf_leaves (hunwanted : domWanted s d.val = false) (hqueued : s.dom.dom[d].ST_ST = 1)
    (hforced : s.dom.dom[d].forced = false) :
    ∃ was want unwant n, s.demandOf d.val = (s.withMarks d was want unwant n).leaveQueue d.val := by
  obtain ⟨was, want, unwant, n, heq⟩ := demandOf_eq s d
  refine ⟨was, want, unwant, n, heq.trans ?_⟩
  simp [-Fin.getElem_fin, hunwanted, hqueued, hforced]

/-- A domain that is neither wanted nor queued is marked, and no more (R318). -/
theorem demandOf_quiet (hunwanted : domWanted s d.val = false) (hqueued : s.dom.dom[d].ST_ST ≠ 1) :
    ∃ was want unwant n, s.demandOf d.val = s.withMarks d was want unwant n := by
  obtain ⟨was, want, unwant, n, heq⟩ := demandOf_eq s d
  refine ⟨was, want, unwant, n, heq.trans ?_⟩
  simp [-Fin.getElem_fin, hunwanted, hqueued]

end

/-- A domain's wake input stands at a level (R318). -/
def State.wakeSet (s : State) (d : Nat) (level : Bool) : State := { s with dom := { s.dom with WAKE := putBit s.dom.WAKE d level } }

/-- A bit that is put reads back. -/
theorem testBit_putBit (m i : Nat) (b : Bool) : (putBit m i b).testBit i = b := by
  unfold putBit
  cases b with
  | true => simp
  | false =>
    simp only [Bool.false_eq_true, if_false]
    split
    next h => simp [Nat.testBit_xor, h]
    next h => simpa using h

/-- A wake input that is high makes its domain wanted (R318). -/
theorem domWanted_wakeSet_high (s : State) (d : Nat) : domWanted (s.wakeSet d true) d = true := by
  simp [domWanted, State.wakeSet, testBit_putBit]

/-- A domain whose wake input is low is not wanted where no other source asks for it (R318). -/
theorem domWanted_wakeSet_low {s : State} {d : Nat} (hboot : isBoot s d = false) (hreq : s.dom.REQ.testBit d = false)
    (hbell : doorbellWake s d = false) : domWanted (s.wakeSet d false) d = false := by
  have hboot' : isBoot (s.wakeSet d false) d = false := hboot
  have hbell' : doorbellWake (s.wakeSet d false) d = false := hbell
  have hreq' : (s.wakeSet d false).dom.REQ.testBit d = false := hreq
  have hwake : (s.wakeSet d false).dom.WAKE.testBit d = false := testBit_putBit s.dom.WAKE d false
  simp only [domWanted, hwake, hreq', hbell', hboot', Bool.or_false]

/-! ### Failed wakes, lost power and sleep -/

/-- A wake that fails on the DOM page: its credits are returned, and the domain is FAILED (R323). -/
theorem wakeFailed_dom (s : State) (d : Fin 50) (step : Nat) : ∃ rl,
    (s.wakeFailed d.val step).dom =
      { s.dom with
        INR_DIE_FREE := s.dom.INR_DIE_FREE + (if s.dom.dom[d].cred then s.dom.dom[d].CFG_COST else 0), rail := rl,
        dom := s.dom.dom.set d
          { s.dom.dom[d] with ST_ST := 8, stepAt := s.now, ST_RET_HELD := false, isoUp := false, cred := false } } := by
  obtain ⟨rl, hcredits⟩ := creditsBack_dom s d
  refine ⟨rl, ?_⟩
  simp [State.wakeFailed, domMod_fin, State.domSet, hcredits]

/-- Power that is settled: the credits are returned and the restore begins (R321). -/
def State.powerSettled (s : State) (d : Nat) : State :=
  (s.creditsBack d).domMod d fun x => { x with ST_ST := 4, stepAt := s.now, ST_RET_HELD := false }

/-- Settled power on the DOM page (R321). -/
theorem powerSettled_dom (s : State) (d : Fin 50) : ∃ rl,
    (s.powerSettled d.val).dom =
      { s.dom with
        INR_DIE_FREE := s.dom.INR_DIE_FREE + (if s.dom.dom[d].cred then s.dom.dom[d].CFG_COST else 0), rail := rl,
        dom := s.dom.dom.set d { s.dom.dom[d] with ST_ST := 4, stepAt := s.now, ST_RET_HELD := false, cred := false } } := by
  obtain ⟨rl, hcredits⟩ := creditsBack_dom s d
  refine ⟨rl, ?_⟩
  simp [State.powerSettled, domMod_fin, State.domSet, hcredits]

/-- A domain that loses power on the DOM page: it is FAILED (R328). -/
theorem pgLost_dom (s : State) (d : Fin 50) :
    (s.pgLost d.val).dom = (s.domSet d { s.dom.dom[d] with ST_ST := 8, stepAt := s.now, ST_RET_HELD := false }).dom := by
  simp [State.pgLost, domMod_fin, State.domSet]

/-- A mailbox whose receiving domain is off clears no error (R426). -/
theorem hasErr_rxOff {s : State} {q : Fin 23} {i : Nat} (d : Nat) (h : s.hasErr q i) : (s.rxOff d).hasErr q i := by
  have lost (u : State) (c : Chan) (hu : u.hasErr q i) : (u.rxDomLost c d).hasErr q i := by
    unfold State.rxDomLost
    exact hasErr_ite (hasErr_fault_keeps _ _ _ _ (hasErr_of_hdr hu (by cases c <;> rfl))) hu
  exact lost _ .mbn (lost _ .mbs h)

/-- A domain that loses power is flagged (R328). -/
theorem hasErr_pgLost (s : State) (d : Nat) : (s.pgLost d).hasErr pgDom 18 := hasErr_rxOff d (hasErr_fault ..)

/-- A domain that closes for its sleep on the DOM page: the save begins (R325). -/
theorem sleepClose_dom (s : State) (d : Fin 50) :
    (s.sleepClose d.val).dom = (s.domSet d { s.dom.dom[d] with ST_ST := 7, stepAt := s.now, isoUp := false }).dom := by
  simp [State.sleepClose, domMod_fin, State.domSet]

end Sys2Proof.Machine
end

section
/-! PROOFS. The commands of the power-domain sequencer where they act (R318 to R329, R477): each as one operation on the state. -/

namespace Sys2Proof.Machine

open Sys2Proof

/-! ### Waking -/

/-- The wake of an entry begins: its cost leaves both pools, and the pre-charge switch closes (R321, R322). -/
def State.wakeBegun (s : State) (e : WakeEnt) (q : List WakeEnt) : State :=
  let x := domOf s e.dom
  { s with dom := { s.dom with
      queue := q, started := s.dom.started ++ [e.dom], startAt := some s.now, INR_DIE_FREE := s.dom.INR_DIE_FREE - x.CFG_COST,
      rail := vMod s.dom.rail x.CFG_RAIL fun y => { y with INR_RAIL_FREE := y.INR_RAIL_FREE - x.CFG_COST } } }.domMod e.dom
    fun y => { y with ST_ST := 2, stepAt := s.now, cred := true, forced := false, starting := false }

/-- WAKE_START takes the first entry of a round that is not paused, where its cost fits both free pools (R322). -/
theorem exec_wakeStart {s : State} {e : WakeEnt} {q : List WakeEnt} (hq : s.dom.queue = e :: q) (hpause : wakePaused s = false)
    (hgo : domGo s = true) (htick : s.dom.startAt ≠ some s.now)
    (hrail : (domOf s e.dom).CFG_COST ≤ (vAt s.dom.rail (domOf s e.dom).CFG_RAIL {}).INR_RAIL_FREE)
    (hdie : (domOf s e.dom).CFG_COST ≤ s.dom.INR_DIE_FREE) : exec .wakeStart s = .next (s.wakeBegun e q).roundEnd := by
  show execWakeStart s = _
  unfold execWakeStart
  rw [hq]
  refine congrArg Host.Outcome.next (if_neg ?_)
  simp [hpause, hgo, htick, Nat.not_lt.mpr hrail, Nat.not_lt.mpr hdie]

section
variable {s : State} {d : Fin 50}

/-- WAKE_FAIL on a wake whose power good is late (R323). -/
theorem exec_wakeFail (hgo : domGo s = true) (hst : s.dom.dom[d].ST_ST = 2) (hpg : s.dom.dom[d].pg = false)
    (hdue : s.dom.dom[d].stepAt + s.dom.dom[d].TIM_PRE_TO ≤ s.now) : exec (.wakeFail d) s = .next (s.wakeFailed d.val 3) := by
  refine congrArg Host.Outcome.next (if_pos ?_)
  simp only [domOf_fin, hgo, hst, hpg, after_of_le hdue]
  rfl

/-- WAKE_MAIN_SWITCH once power good has been high for PRE_HOLD (R321). -/
theorem exec_wakeMainSwitch (hgo : domGo s = true) (hst : s.dom.dom[d].ST_ST = 2) (hpg : s.dom.dom[d].pg = true)
    (hdue : s.dom.dom[d].pgAt + s.dom.dom[d].TIM_PRE_HOLD ≤ s.now) :
    exec (.wakeMainSwitch d) s = .next (s.domSet d { s.dom.dom[d] with ST_ST := 3, stepAt := s.now }) := by
  rw [← domMod_fin s d fun x => { x with ST_ST := 3, stepAt := s.now }]
  refine congrArg Host.Outcome.next (if_pos ?_)
  simp only [domOf_fin, hgo, hst, hpg, after_of_le hdue]
  rfl

/-- WAKE_POWER_SETTLED once power good has stayed high for 1 µs after the main switch (R321). -/
theorem exec_wakePowerSettled (hgo : domGo s = true) (hst : s.dom.dom[d].ST_ST = 3) (hpg : s.dom.dom[d].pg = true)
    (hdue : max s.dom.dom[d].stepAt s.dom.dom[d].pgAt + 4 ≤ s.now) :
    exec (.wakePowerSettled d) s = .next (s.powerSettled d.val) := by
  refine congrArg Host.Outcome.next (if_pos ?_)
  simp only [domOf_fin, hgo, hst, hpg, after_of_le hdue]
  rfl

/-- A wake that is complete reports its latency and is counted, but for the cold start of a boot domain (R68, R324). -/
def State.wakeCounted (s : State) (e : DomDom) : State :=
  if e.starting then s
  else
    { s with dom := { s.dom with
        LAT_LAST := sat 16 (s.now - e.wantAt), LAT_MAX := max s.dom.LAT_MAX (sat 16 (s.now - e.wantAt)),
        CNT_WAKES := satAdd 16 s.dom.CNT_WAKES 1 } }

/-- WAKE_COMPLETE once the restore has had its time: the domain is ON (R321, R324). -/
theorem exec_wakeComplete (hgo : domGo s = true) (hst : s.dom.dom[d].ST_ST = 4)
    (hdue : s.dom.dom[d].stepAt + s.dom.dom[d].TIM_RESTORE ≤ s.now) : ∃ unwant,
    exec (.wakeComplete d) s = .next ((s.wakeCounted s.dom.dom[d]).domSet d
      { s.dom.dom[d] with ST_ST := 5, stepAt := s.now, isoUp := false, starting := false, unwantAt := unwant }) := by
  refine ⟨if domWanted s d.val then none else some s.now, ?_⟩
  show execWakeComplete d s = _
  simp only [execWakeComplete, domOf_fin, domMod_fin, hgo, hst, after_of_le hdue, decide_true, Bool.and_self, if_true,
    State.wakeCounted]
  cases s.dom.dom[d].starting <;> rfl

end

/-! ### Demand and power good -/

/-- DOM_WAKE_INPUT sets the domain's wake input and evaluates its demand (R318). -/
theorem exec_domWakeInput (s : State) (d : Fin 50) (level : Bool) :
    exec (.domWakeInput d level) s = .next ((s.wakeSet d.val level).demandOf d.val) := rfl

/-- Power good of a domain at a level, with the time of its rise (R321). -/
def State.pgSet (s : State) (d : Fin 50) (level : Bool) : State :=
  s.domSet d { s.dom.dom[d] with pg := level, pgAt := if level && !s.dom.dom[d].pg then s.now else s.dom.dom[d].pgAt }

/-- What a fall of power good does in each state of a domain: a wake fails at the step it stands before, a domain that is ON or waits for
its idle acknowledge is isolated (R323, R328). -/
def State.pgFallen (s : State) (d st : Nat) : State :=
  match st with
  | 2 => s.wakeFailed d 4
  | 3 => s.wakeFailed d 5
  | 4 => s.wakeFailed d 6
  | 5 => s.pgLost d
  | 6 => s.pgLost d
  | _ => s

/-- DOM_PG_CHANGE: power good takes its level, and then acts by the state the domain was in (R321, R323, R328). -/
theorem exec_domPgChange (s : State) (d : Fin 50) (level : Bool) :
    exec (.domPgChange d level) s = .next (
      let e := s.dom.dom[d]
      let u := s.pgSet d level
      if !domGo s && decide (2 ≤ e.ST_ST ∧ e.ST_ST ≤ 4) then u
      else if level then
        if decide (e.ST_ST = 2) && !e.pg && decide (e.stepAt + e.TIM_PRE_TO < s.now) then u.wakeFailed d.val 3 else u
      else if !e.pg then u
      else u.pgFallen d.val e.ST_ST) := by
  show execDomPgChange d level s = _
  simp only [execDomPgChange, domOf_fin, domMod_fin]
  rfl

section
variable {s : State} {d : Fin 50}

/-- Power good that rises in time is taken (R321). -/
theorem exec_domPgChange_rises
    (hlate : ¬ (domGo s = true ∧ s.dom.dom[d].ST_ST = 2 ∧ s.dom.dom[d].pg = false ∧ s.dom.dom[d].stepAt + s.dom.dom[d].TIM_PRE_TO < s.now)) :
    exec (.domPgChange d true) s = .next (s.pgSet d true) := by
  rw [exec_domPgChange]
  refine congrArg Host.Outcome.next ?_
  by_cases hheld : (!domGo s && decide (2 ≤ s.dom.dom[d].ST_ST ∧ s.dom.dom[d].ST_ST ≤ 4)) = true
  · exact if_pos hheld
  · refine ((if_neg hheld).trans (if_pos rfl)).trans (if_neg fun hfail => ?_)
    simp only [Bool.and_eq_true, Bool.not_eq_true', decide_eq_true_eq] at hfail
    obtain ⟨⟨hst, hpg⟩, hover⟩ := hfail
    have hgo : domGo s = true := by simpa [-Fin.getElem_fin, hst] using hheld
    exact hlate ⟨hgo, hst, hpg, hover⟩

/-- Power good that falls in a wake fails it at the next step (R323). -/
theorem exec_domPgChange_failsWake (hgo : domGo s = true) (hpg : s.dom.dom[d].pg = true)
    (hst : s.dom.dom[d].ST_ST = 2 ∨ s.dom.dom[d].ST_ST = 3 ∨ s.dom.dom[d].ST_ST = 4) : ∃ step,
    exec (.domPgChange d false) s = .next ((s.pgSet d false).wakeFailed d.val step) := by
  rw [exec_domPgChange]
  simp only [hgo, hpg, Bool.not_true, Bool.false_and, Bool.false_eq_true, if_false]
  obtain hst | hst | hst := hst <;> rw [hst] <;> exact ⟨_, rfl⟩

/-- Power good that falls isolates a domain that is ON, or that waits for its idle acknowledge (R328). -/
theorem exec_domPgChange_isolates (hpg : s.dom.dom[d].pg = true) (hst : s.dom.dom[d].ST_ST = 5 ∨ s.dom.dom[d].ST_ST = 6) :
    exec (.domPgChange d false) s = .next ((s.pgSet d false).pgLost d.val) := by
  rw [exec_domPgChange]
  obtain hst | hst := hst <;> simp [-Fin.getElem_fin, hpg, hst, State.pgFallen]

/-- A boot domain whose power good is late is FAILED, and flagged on both pages (R477). -/
def State.bootFailed (s : State) (d : Nat) : State := (s.wakeFailed d 3).fault pgRst 20 0x1316 [d]

/-- BOOT_DOMAIN_PG_TIMEOUT on a boot domain without power good 1 ms after the cold exit (R477). -/
theorem exec_bootDomainPgTimeout (hboot : isBoot s d.val = true) (hstart : s.rst.started = true) (hst : s.dom.dom[d].ST_ST = 3)
    (hpg : s.dom.dom[d].pg = false) (hdue : s.rst.exitAt + 4000 ≤ s.now) :
    exec (.bootDomainPgTimeout d) s = .next (s.bootFailed d.val) := by
  have hafter : s.after s.rst.exitAt ticksPerMs = true := after_of_le hdue
  refine congrArg Host.Outcome.next (if_pos ?_)
  simp only [domOf_fin, hboot, hstart, hst, hpg, hafter]
  rfl

/-! ### Sleeping -/

/-- SLEEP_START on a domain that may sleep and has gone unwanted for its delay (R325). -/
theorem exec_sleepStart (hgo : domGo s = true) (hst : s.dom.dom[d].ST_ST = 5) (hsleep : s.dom.dom[d].CFG_SLEEP = true)
    (hboot : isBoot s d.val = false) (hunwanted : domWanted s d.val = false) (hacts : demandActs s = true) {a : Nat}
    (hat : s.dom.dom[d].unwantAt = some a) (hdue : a + s.dom.dom[d].OFFD * 4 ≤ s.now) :
    exec (.sleepStart d) s = .next (s.domSet d { s.dom.dom[d] with ST_ST := 6, stepAt := s.now }) := by
  have hafter : s.after a (s.dom.dom[d].OFFD * ticksPerUs) = true := after_of_le hdue
  rw [← domMod_fin s d fun x => { x with ST_ST := 6, stepAt := s.now }]
  refine congrArg Host.Outcome.next (if_pos ?_)
  simp only [domOf_fin, hgo, hst, hsleep, hboot, hunwanted, hat, hafter, hacts]
  rfl

/-- IDLE_ACK while the domain's idle request is high closes it (R325). -/
theorem exec_idleAck (hst : s.dom.dom[d].ST_ST = 6) : exec (.idleAck d) s = .next (s.sleepClose d.val) :=
  congrArg Host.Outcome.next (if_pos (by rw [domOf_fin, hst]))

/-- A sleep without its acknowledge is abandoned, and counted (R326). -/
def State.sleepAbandoned (s : State) (d : Fin 50) : State :=
  ({ s with dom := { s.dom with
      ABORT_CNT_TIMEOUTS := satAdd 16 s.dom.ABORT_CNT_TIMEOUTS 1,
      dom := s.dom.dom.set d
        { s.dom.dom[d] with ST_ST := 5, stepAt := s.now, unwantAt := if domWanted s d.val then none else some s.now } } }).fault
    pgDom 17 0x0911 [d.val]

/-- IDLE_TO on a domain without its acknowledge: the sleep is abandoned, or in an orderly switch-off closed all the same (R326, R329). -/
theorem exec_idleTo (hst : s.dom.dom[d].ST_ST = 6) (hdue : s.dom.dom[d].stepAt + s.dom.dom[d].CFG_IDLE_TO * 4 ≤ s.now) :
    exec (.idleTo d) s = .next (if s.dom.orderly.isSome then (s.sleepClose d.val).forcedOne else s.sleepAbandoned d) := by
  have hafter : s.after s.dom.dom[d].stepAt (s.dom.dom[d].CFG_IDLE_TO * ticksPerUs) = true := after_of_le hdue
  show execIdleTo d s = _
  simp only [execIdleTo, domOf_fin, domMod_fin, hst, hafter, decide_true, Bool.and_self, if_true]
  rfl

/-- SAVE_COMPLETE once the retention save has had its time: the isolation rises (R325). -/
theorem exec_saveComplete (hgo : domGo s = true) (hst : s.dom.dom[d].ST_ST = 7) (hiso : s.dom.dom[d].isoUp = false)
    (hdue : s.dom.dom[d].stepAt + (if s.dom.dom[d].CFG_RET then s.dom.dom[d].TIM_SAVE else 0) ≤ s.now) :
    exec (.saveComplete d) s = .next (s.domSet d { s.dom.dom[d] with isoUp := true, stepAt := s.now }) := by
  rw [← domMod_fin s d fun x => { x with isoUp := true, stepAt := s.now }]
  refine congrArg Host.Outcome.next (if_pos ?_)
  simp only [domOf_fin, hgo, hst, hiso, after_of_le hdue]
  rfl

/-- A domain that is asleep: both switches are off, and it is counted (R325). -/
def State.sleepDone (s : State) (d : Fin 50) : State :=
  { s with dom := { s.dom with
      CNT_SLEEPS := satAdd 16 s.dom.CNT_SLEEPS 1,
      dom := s.dom.dom.set d
        { s.dom.dom[d] with ST_ST := 0, stepAt := s.now, ST_RET_HELD := s.dom.dom[d].CFG_RET, isoUp := false } } }

/-- SLEEP_SWITCH_OFF a tick after the isolation, outside an orderly switch-off (R325). -/
theorem exec_sleepSwitchOff (hgo : domGo s = true) (hst : s.dom.dom[d].ST_ST = 7) (hiso : s.dom.dom[d].isoUp = true)
    (hdue : s.dom.dom[d].stepAt + 1 ≤ s.now) (horderly : s.dom.orderly = none) :
    exec (.sleepSwitchOff d) s = .next ((s.sleepDone d).demandOf d.val) := by
  show execSleepSwitchOff d s = _
  simp only [execSleepSwitchOff, domOf_fin, domMod_fin, hgo, hst, hiso, after_of_le hdue, decide_true, Bool.and_self, if_true]
  refine congrArg (fun u : State => Host.Outcome.next (u.demandOf d.val)) (if_neg ?_)
  simp [State.domSet, horderly]

end

end Sys2Proof.Machine
end

section
namespace Sys2Proof.Proofs

open Sys2Proof Sys2Proof.Machine

/-- Settles O40: each command is its operation on the state where it acts, and what it leaves of the DOM page is that operation's
equation. -/
theorem domainsRun : Obligations.DomainsRun := by
  unfold Obligations.DomainsRun
  refine ⟨fun s => ⟨fun e q hq hd hpause hgo htick hrail hcost hdie => ?wakeStart,
      fun d hgo => ⟨fun hst hpg hdue => ?wakeFail, exec_wakeMainSwitch hgo, fun hst hpg hdue => ?powerSettled,
        fun hst hdue => ?wakeComplete⟩⟩,
    fun s d => ⟨fun hboot hreq hbell => ⟨fun hst hacts => ?joins, fun htrip hst => ?turnsBack, fun hst hforced => ?leaves⟩,
      fun hlate => ?pgRises, fun hgo hpg hst => ?pgFailsWake, fun hpg hst => ?pgIsolates,
      fun hboot hstart hst hpg hdue => ?bootFails⟩,
    fun s d => ⟨fun hgo hst hsleep hboot hunwanted hacts hat => ?sleepStart,
      fun hst => ⟨?idleAck, fun hdue => ⟨fun horderly => ?idleAbandoned, fun horderly => ?idleForced⟩⟩,
      exec_saveComplete, fun hgo hst hiso hdue horderly hunwanted => ?switchOff⟩⟩
  case wakeStart =>
    obtain ⟨q', n, st, r, hdom⟩ := roundEnd_dom (s.wakeBegun e q)
    have hstarted : (s.wakeBegun e q).dom.started ≠ [] := by simp [State.wakeBegun]
    refine ⟨_, exec_wakeStart hq hpause hgo htick hcost hdie, ?_, ?_, ?_, fun hmore => ?_, fun hlast => ?_, fun d hne => ?_, ?_⟩
    · rw [domOf, hdom]
      exact vAt_vMod_same _ _ _ _ hd
    · rw [hdom]
      rfl
    · rw [hdom]
      exact congrArg DomRail.INR_RAIL_FREE (vAt_vMod_same _ _ _ _ hrail)
    · rw [roundEnd_open hmore]
      exact ⟨rfl, rfl⟩
    · rw [roundEnd_over hlast hstarted]
      exact ⟨rfl, rfl, rfl⟩
    · rw [hdom, ← vAt_page _ d {}, ← vAt_page _ d {}]
      exact vAt_vMod_other _ _ _ _ _ hne.symm
    · simp [State.eq_of_pages, State.wakeBegun]
  case wakeFail =>
    obtain ⟨rl, hdom⟩ := wakeFailed_dom s d 3
    refine ⟨_, exec_wakeFail hgo hst hpg hdue, by simp [hdom], by simp [hdom], by simp [hdom], fun hcred => ?_, hasErr_fault .., ?_⟩
    · rw [hdom, if_pos hcred]
    · simp [State.eq_of_pages]
  case powerSettled =>
    obtain ⟨rl, hdom⟩ := powerSettled_dom s d
    refine ⟨_, exec_wakePowerSettled hgo hst hpg hdue, ?_, ?_, fun j hj => ?_, ?_⟩
    · simp [hdom]
    · rw [hdom]
    · rw [hdom]
      exact getElem_set_other _ _ hj
    · simp [State.eq_of_pages, State.powerSettled]
  case wakeComplete =>
    obtain ⟨unwant, run⟩ := exec_wakeComplete hgo hst hdue
    refine ⟨_, run, by simp [State.domSet], by simp [State.domSet], by simp [State.domSet], fun hstarting => ?_, fun hstarting => ?_,
      fun j hj => ?_, ?_⟩
    · rw [State.wakeCounted, if_neg (by rw [hstarting]; exact Bool.false_ne_true)]
      exact ⟨rfl, rfl, rfl⟩
    · rw [State.wakeCounted, if_pos hstarting]
      exact ⟨rfl, rfl, rfl⟩
    · refine (getElem_set_other _ _ hj).trans ?_
      unfold State.wakeCounted
      split <;> rfl
    · unfold State.wakeCounted
      split <;> rfl
  case joins =>
    obtain ⟨was, want, unwant, n, heq⟩ := demandOf_joins (s := s.wakeSet d.val true) (domWanted_wakeSet_high s d.val) hst hacts
    have hdom := joinQueue_dom ((s.wakeSet d.val true).withMarks d was want unwant n) d
    rw [exec_domWakeInput, heq]
    refine ⟨_, rfl, ?_, ?_, ⟨{ dom := d.val, prio := 1 + s.dom.dom[d].CFG_PRIO, at_ := s.now }, rfl, rfl, rfl,
      fun hnew => ?_, fun hagain => ?_⟩, fun j hj => ?_, ?_⟩
    · rw [hdom]
      rfl
    · simp [hdom]
    · rw [hdom]
      simp [State.withMarks, State.wakeSet, hnew, DomDom.marked]
    · rw [hdom]
      simp [State.withMarks, State.wakeSet, hagain, DomDom.marked]
    · rw [hdom]
      exact (getElem_set_other _ _ hj).trans (getElem_set_other _ _ hj)
    · simp [State.eq_of_pages, State.withMarks, State.wakeSet]
  case turnsBack =>
    obtain ⟨was, want, unwant, n, heq⟩ := demandOf_turnsBack (s := s.wakeSet d.val true) (domWanted_wakeSet_high s d.val) htrip hst
    rw [exec_domWakeInput, heq, domMod_fin]
    refine ⟨_, rfl, ?_, ?_, rfl, rfl⟩ <;> simp [State.domSet]
  case leaves =>
    obtain ⟨was, want, unwant, n, heq⟩ :=
      demandOf_leaves (s := s.wakeSet d.val false) (domWanted_wakeSet_low hboot hreq hbell) hst hforced
    rw [exec_domWakeInput, heq]
    refine ⟨_, rfl, ?_, ?_, ?_⟩
    · rw [leaveQueue_wake]
      rfl
    · rw [← domOf_fin]
      exact leaveQueue_off _ _ d.isLt
    · simp [State.eq_of_pages, State.withMarks, State.wakeSet]
  case pgRises =>
    rw [exec_domPgChange_rises hlate, State.pgSet]
    cases s.dom.dom[d].pg <;> rfl
  case pgFailsWake =>
    obtain ⟨step, run⟩ := exec_domPgChange_failsWake hgo hpg hst
    obtain ⟨rl, hdom⟩ := wakeFailed_dom (s.pgSet d false) d step
    refine ⟨_, run, ?_, by simp [hdom], by simp [hdom], by simp [hdom], hasErr_fault .., ?_⟩
    · rw [hdom]
      simp [State.pgSet, State.domSet]
    · simp [State.eq_of_pages, State.pgSet, State.domSet]
  case pgIsolates =>
    have hdom := pgLost_dom (s.pgSet d false) d
    refine ⟨_, exec_domPgChange_isolates hpg hst, ?_, by simp [hdom, State.domSet], by simp [hdom, State.domSet], hasErr_pgLost .., ?_⟩
    · rw [hdom]
      simp [State.pgSet, State.domSet]
    · simp [State.eq_of_pages, State.pgSet, State.domSet]
  case bootFails =>
    obtain ⟨rl, hdom⟩ := wakeFailed_dom s d 3
    refine ⟨_, exec_bootDomainPgTimeout hboot hstart hst hpg hdue, ?_, hasErr_fault_keeps _ _ _ _ (hasErr_fault ..), hasErr_fault .., ?_⟩
    · simp [State.bootFailed, hdom]
    · simp [State.eq_of_pages, State.bootFailed]
  case sleepStart =>
    obtain ⟨a, hat, hdue⟩ := hat
    exact exec_sleepStart hgo hst hsleep hboot hunwanted hacts hat hdue
  case idleAck =>
    have hdom := sleepClose_dom s d
    refine ⟨_, exec_idleAck hst, ?_, ?_, ?_, ?_, ?_⟩ <;> simp [State.eq_of_pages, hdom, State.domSet]
  case idleAbandoned =>
    have run := exec_idleTo hst hdue
    rw [horderly] at run
    refine ⟨_, run, ?_, ?_, hasErr_fault .., ?_, ?_, ?_⟩ <;> simp [State.sleepAbandoned, State.eq_of_pages]
  case idleForced =>
    have hdom := sleepClose_dom s d
    have run := exec_idleTo hst hdue
    rw [Option.isSome_iff_ne_none.mpr horderly] at run
    refine ⟨_, run, ?_, ?_, ?_⟩ <;> simp [State.eq_of_pages, hdom, State.domSet]
  case switchOff =>
    obtain ⟨was, want, unwant, n, heq⟩ := demandOf_quiet (s := s.sleepDone d) (d := d) hunwanted (by simp [State.sleepDone])
    have run := exec_sleepSwitchOff hgo hst hiso hdue horderly
    rw [heq] at run
    have hother (j : Fin 50) (hj : j ≠ d) : ((s.sleepDone d).withMarks d was want unwant n).dom.dom[j] = s.dom.dom[j] :=
      (getElem_set_other _ _ hj).trans (getElem_set_other _ _ hj)
    refine ⟨_, run, ?_, ?_, ?_, rfl, hother, rfl⟩ <;> simp [State.withMarks, State.sleepDone, DomDom.marked]

/-- A block with its rails, in RUN at 2 ms, whose power domains stand at every step that its commands act on: 0 is a boot domain that waits for
power good, 3 the first of the round, 4 ON and long unwanted, 5 asked for idle, 6 off, 7 a wake without power good, 8 one whose main
switch is on, and 9 isolated for its sleep. -/
def domainsBlock : State :=
  { liveReset with
    now := 8000
    cmn.straps.bootDom := 1, cmn.fuses.rail := Vector.replicate 16 ⟨8, 0, 0, 0, 0⟩
    seq.base := .running
    rst := { liveReset.rst with por := false, started := true }
    dom := { liveReset.dom with
      acting := true, queue := [⟨3, 1, 0⟩], INR_DIE_FREE := 9, rail := Vector.replicate 16 { INR_RAIL_FREE := 7 }
      dom := Vector.ofFn fun d : Fin 50 =>
        if d = 0 then { ST_ST := 3 }
        else if d = 3 then { ST_ST := 1, CFG_COST := 5 }
        else if d = 4 then { ST_ST := 5, pg := true, CFG_SLEEP := true, unwantAt := some 0 }
        else if d = 5 then { ST_ST := 6, pg := true }
        else if d = 7 then { ST_ST := 2, cred := true, CFG_COST := 2 }
        else if d = 8 then { ST_ST := 3, pg := true, cred := true, CFG_COST := 1 }
        else if d = 9 then { ST_ST := 7, isoUp := true, CFG_RET := true }
        else {} } }

/-- `domainsRun` applies: domain 3's wake starts, and its cost leaves the die's pool. -/
theorem domainsBlock_starts :
    ∃ t, exec .wakeStart domainsBlock = .next t ∧ (domOf t 3).ST_ST = 2 ∧ t.dom.INR_DIE_FREE = 4 := by
  obtain ⟨wakes, -⟩ := domainsRun
  obtain ⟨start, -⟩ := wakes domainsBlock
  obtain ⟨t, run, hdom, hdie, -⟩ := start ⟨3, 1, 0⟩ [] rfl (by decide) (by decide) rfl (by decide) (by decide) (by decide) (by decide)
  exact ⟨t, run, by rw [hdom], hdie⟩

/-- `domainsRun` applies: domain 7's wake fails, and domain 8's power is settled, each returning its credits. -/
theorem domainsBlock_wakes :
    (∃ t, exec (.wakeFail 7) domainsBlock = .next t ∧ t.dom.dom[7].ST_ST = 8 ∧ t.dom.INR_DIE_FREE = 11) ∧
      ∃ t, exec (.wakePowerSettled 8) domainsBlock = .next t ∧ t.dom.dom[8].ST_ST = 4 ∧ t.dom.INR_DIE_FREE = 10 := by
  obtain ⟨wakes, -⟩ := domainsRun
  obtain ⟨-, steps⟩ := wakes domainsBlock
  obtain ⟨fail, -⟩ := steps 7 rfl
  obtain ⟨-, -, settled, -⟩ := steps 8 rfl
  obtain ⟨t, run, hst, -, -, hdie, -⟩ := fail rfl rfl (by decide)
  obtain ⟨u, run', hdom, hdie', -⟩ := settled rfl rfl (by decide)
  exact ⟨⟨t, run, hst, hdie rfl⟩, u, run', congrArg DomDom.ST_ST hdom, hdie'⟩

/-- `domainsRun` applies: domain 6's wake input queues it behind domain 3, which joined before it. -/
theorem domainsBlock_queues :
    ∃ t, exec (.domWakeInput 6 true) domainsBlock = .next t ∧ t.dom.dom[6].ST_ST = 1 ∧ t.dom.queue = [⟨3, 1, 0⟩, ⟨6, 1, 8000⟩] := by
  obtain ⟨-, demand, -⟩ := domainsRun
  obtain ⟨inputs, -⟩ := demand domainsBlock 6
  obtain ⟨joins, -⟩ := inputs (by decide) (by decide) (by decide)
  obtain ⟨t, run, -, hst, ⟨⟨d, p, a⟩, rfl, rfl, rfl, hqueue, -⟩, -⟩ := joins rfl rfl
  obtain ⟨hqueue, -⟩ := hqueue (by decide)
  exact ⟨t, run, hst, hqueue⟩

/-- `domainsRun` applies: domain 4 is isolated when its power good falls, and the boot domain fails its start. -/
theorem domainsBlock_losesPower :
    (∃ t, exec (.domPgChange 4 false) domainsBlock = .next t ∧ t.dom.dom[4].ST_ST = 8 ∧ t.hdr[pgDom].err.testBit 18 = true) ∧
      ∃ t, exec (.bootDomainPgTimeout 0) domainsBlock = .next t ∧ t.dom.dom[0].ST_ST = 8 ∧ t.hdr[pgRst].err.testBit 20 = true := by
  obtain ⟨-, demand, -⟩ := domainsRun
  obtain ⟨-, -, -, isolates, -⟩ := demand domainsBlock 4
  obtain ⟨-, -, -, -, boot⟩ := demand domainsBlock 0
  obtain ⟨t, run, -, hst, -, herr, -⟩ := isolates rfl (.inl rfl)
  obtain ⟨u, run', hst', -, herr', -⟩ := boot (by decide) rfl rfl rfl (by decide)
  exact ⟨⟨t, run, hst, herr⟩, u, run', hst', herr'⟩

/-- `domainsRun` applies: domain 4 asks for idle, domain 5's sleep is abandoned without its acknowledge, and domain 9 is asleep with its
state retained. -/
theorem domainsBlock_sleeps :
    (∃ t, exec (.sleepStart 4) domainsBlock = .next t ∧ t.dom.dom[4].ST_ST = 6) ∧
      (∃ t, exec (.idleTo 5) domainsBlock = .next t ∧ t.dom.dom[5].ST_ST = 5 ∧ t.dom.ABORT_CNT_TIMEOUTS = 1) ∧
      ∃ t, exec (.sleepSwitchOff 9) domainsBlock = .next t ∧ t.dom.dom[9].ST_ST = 0 ∧ t.dom.dom[9].ST_RET_HELD = true := by
  obtain ⟨-, -, sleeps⟩ := domainsRun
  obtain ⟨start, -⟩ := sleeps domainsBlock 4
  obtain ⟨-, idle, -⟩ := sleeps domainsBlock 5
  obtain ⟨-, -, -, switchOff⟩ := sleeps domainsBlock 9
  obtain ⟨-, timeout⟩ := idle rfl
  obtain ⟨abandoned, -⟩ := timeout (by decide)
  obtain ⟨t, run, hst, -, -, hcount, -⟩ := abandoned rfl
  obtain ⟨u, run', hst', hret, -⟩ := switchOff rfl rfl rfl (by decide) rfl (by decide)
  exact ⟨⟨_, start rfl rfl rfl (by decide) (by decide) rfl ⟨0, rfl, by decide⟩, by simp⟩, ⟨t, run, hst, hcount⟩, u, run', hst', hret⟩

end Sys2Proof.Proofs
end

section
/-! PROOFS. The outbound queues of the mailboxes (R423): no operation of the model, and so no command, makes one longer than eight
words. -/

namespace Sys2Proof.Machine

open Sys2Proof

/-! ### What keeps the queues within eight words -/

/-- What is done to a state leaves each outbound queue within eight words where it was (R423). -/
abbrev KeepsFit (s t : State) : Prop :=
  (s.mbs.outQ.length ≤ 8 → t.mbs.outQ.length ≤ 8) ∧ (s.mbn.outQ.length ≤ 8 → t.mbn.outQ.length ≤ 8)

/-- One after the other. -/
theorem KeepsFit.trans {s t u : State} (h : KeepsFit s t) (h' : KeepsFit t u) : KeepsFit s u := ⟨h'.1 ∘ h.1, h'.2 ∘ h.2⟩

/-- What leaves both boxes alone. -/
theorem KeepsFit.of_boxes {s t : State} (h : t.mbs = s.mbs) (h' : t.mbn = s.mbn) : KeepsFit s t :=
  ⟨fun hs => h ▸ hs, fun hs => h' ▸ hs⟩

@[simp] theorem outQ_ite_le {c : Prop} [Decidable c] {a b : Mbx} (ha : a.outQ.length ≤ 8) (hb : b.outQ.length ≤ 8) :
    (if c then a else b).outQ.length ≤ 8 := by
  split <;> assumption

@[simp] theorem foldl_fit {α : Type} (f : State → α → State) (hf : ∀ s a, KeepsFit s (f s a)) (l : List α) (s : State) :
    KeepsFit s (l.foldl f s) := by
  induction l generalizing s with
  | nil => exact ⟨id, id⟩
  | cons a l ih => exact ⟨(ih _).1 ∘ (hf s a).1, (ih _).2 ∘ (hf s a).2⟩

/-- A change of one box. -/
@[simp] theorem mbxMod_fit (s : State) (c : Chan) (f : Mbx → Mbx) (hf : ∀ m, m.outQ.length ≤ 8 → (f m).outQ.length ≤ 8) :
    KeepsFit s (s.mbxMod c f) := by
  cases c
  · exact ⟨hf _, id⟩
  · exact ⟨id, hf _⟩

/-- A word for the outbound queue is appended only where fewer than eight wait (R423). -/
@[simp] theorem sendOut_fit (s : State) (c : Chan) (kind sub data : Nat) : KeepsFit s (s.sendOut c kind sub data) := by
  unfold KeepsFit State.sendOut State.mbx State.mbxMod
  cases c <;> dsimp only <;> (repeat' split) <;> simp <;> omega

@[simp] theorem notice_fit (s : State) (kind sub data : Nat) : KeepsFit s (s.notice kind sub data) := by
  unfold KeepsFit State.notice
  dsimp only
  (repeat' split) <;> simp +contextual

@[simp] theorem rackIbi_fit (s : State) (v : Nat) : KeepsFit s (s.rackIbi v) := by
  unfold KeepsFit State.rackIbi
  simp +contextual

@[simp] theorem settle_fit (s : State) (c : Nat) : KeepsFit s (s.settle c) := by
  unfold KeepsFit State.settle
  dsimp only
  (repeat' split) <;> simp +contextual

/-! ### Every operation keeps them so -/

@[simp] theorem boxFill_fit (s : State) (c : Chan) (k w : Nat) : KeepsFit s (State.boxFill s c k w) := by
  unfold State.boxFill
  simp +contextual [KeepsFit]

@[simp] theorem boxRefuse_fit (s : State) (c : Chan) : KeepsFit s (State.boxRefuse s c) := by
  unfold State.boxRefuse
  simp +contextual [KeepsFit]

@[simp] theorem boxTake_fit (s : State) (c : Chan) (k : Nat) : KeepsFit s (State.boxTake s c k) := by
  unfold State.boxTake
  simp +contextual [KeepsFit]

@[simp] theorem outPop_fit (s : State) (c : Chan) : KeepsFit s (State.outPop s c) := by
  exact mbxMod_fit _ _ _ fun m h => by simp; omega

@[simp] theorem rxDomLost_fit (s : State) (c : Chan) (d : Nat) : KeepsFit s (State.rxDomLost s c d) := by
  unfold State.rxDomLost
  dsimp -failIfUnchanged only
  (repeat' split) <;> simp +contextual [KeepsFit]

@[simp] theorem rxOff_fit (s : State) (d : Nat) : KeepsFit s (State.rxOff s d) := by
  unfold State.rxOff
  simp +contextual [KeepsFit]

@[simp] theorem mbxLocalReset_fit (s : State) (c : Chan) : KeepsFit s (State.mbxLocalReset s c) := by
  unfold State.mbxLocalReset
  dsimp -failIfUnchanged only
  (repeat' split) <;> simp +contextual [KeepsFit]

@[simp] theorem blkStart_fit (s : State) (c : Chan) (op : Nat) : KeepsFit s (State.blkStart s c op) := by
  unfold State.blkStart
  simp +contextual [KeepsFit]

@[simp] theorem blkEnd_fit (s : State) (c : Chan) (err : Nat) : KeepsFit s (State.blkEnd s c err) := by
  unfold State.blkEnd
  dsimp -failIfUnchanged only
  (repeat' split) <;> simp +contextual [KeepsFit]

@[simp] theorem enterOrphan_fit (s : State) (cause : Nat) : KeepsFit s (State.enterOrphan s cause) := by
  unfold State.enterOrphan
  dsimp -failIfUnchanged only
  simp +contextual [KeepsFit]

@[simp] theorem heartbeatLost_fit (s : State) (cause : Nat) : KeepsFit s (State.heartbeatLost s cause) := by
  unfold State.heartbeatLost
  dsimp -failIfUnchanged only
  (repeat' split) <;> simp +contextual [KeepsFit]

@[simp] theorem leaveOrphan_fit (s : State) : KeepsFit s (State.leaveOrphan s) := by
  unfold State.leaveOrphan
  dsimp -failIfUnchanged only
  (repeat' split) <;> simp +contextual [KeepsFit]

@[simp] theorem beat_fit (s : State) (b : Nat) : KeepsFit s (State.beat s b) := by
  unfold State.beat
  dsimp -failIfUnchanged only
  (repeat' split) <;> simp +contextual [KeepsFit]

@[simp] theorem orphanStep_fit (s : State) : KeepsFit s (State.orphanStep s) := by
  unfold State.orphanStep
  dsimp -failIfUnchanged only
  (repeat' split) <;> simp +contextual [KeepsFit]

@[simp] theorem drainEnd_fit (s : State) (bad : List Nat) : KeepsFit s (State.drainEnd s bad) := by
  unfold State.drainEnd
  dsimp -failIfUnchanged only
  simp +contextual [KeepsFit]

@[simp] theorem pgLost_fit (s : State) (d : Nat) : KeepsFit s (State.pgLost s d) := by
  unfold State.pgLost
  dsimp -failIfUnchanged only
  simp +contextual [KeepsFit]

@[simp] theorem forceOff_fit (s : State) (d : Nat) : KeepsFit s (State.forceOff s d) := by
  unfold State.forceOff
  dsimp -failIfUnchanged only
  (repeat' split) <;> simp +contextual [KeepsFit]

@[simp] theorem forceOffAll_fit (s : State) : KeepsFit s (State.forceOffAll s) := by
  exact foldl_fit _ forceOff_fit _ _

@[simp] theorem orderlyOne_fit (s : State) (d : Nat) : KeepsFit s (State.orderlyOne s d) := by
  unfold State.orderlyOne
  (repeat' split) <;> simp +contextual [KeepsFit]

@[simp] theorem orderlyGo_fit (f : Nat) (s : State) : KeepsFit s (State.orderlyGo f s) := by
  induction f generalizing s with
  | zero => exact ⟨id, id⟩
  | succ f ih =>
    unfold State.orderlyGo
    split
    · exact ⟨id, id⟩
    · (repeat' split)
      · exact ⟨id, id⟩
      · exact ⟨id, id⟩
      · exact (foldl_fit _ orderlyOne_fit _ { s with dom.orderly := some _ }).trans (ih _)

@[simp] theorem orderlyStart_fit (s : State) : KeepsFit s (State.orderlyStart s) := by
  have hqueue : KeepsFit s { s.queueLeave with dom.orderly := some 7 } := .of_boxes (by simp) (by simp)
  have hfirst (u : State) (l : List Nat) : KeepsFit u (l.foldl State.orderlyOne u) := foldl_fit State.orderlyOne orderlyOne_fit l u
  unfold State.orderlyStart
  exact (hqueue.trans (hfirst _ _)).trans (orderlyGo_fit 8 _)

@[simp] theorem domForceOff_fit (s : State) (d : Nat) : KeepsFit s (State.domForceOff s d) := by
  unfold State.domForceOff
  dsimp -failIfUnchanged only
  (repeat' split) <;> simp +contextual [KeepsFit]

@[simp] theorem srcApply_fit (s : State) : KeepsFit s (State.srcApply s) := by
  unfold State.srcApply
  dsimp -failIfUnchanged only
  (repeat' split) <;> simp +contextual [KeepsFit]

@[simp] theorem forceSrc_fit (s : State) (sel : Nat) : KeepsFit s (State.forceSrc s sel) := by
  unfold State.forceSrc
  dsimp -failIfUnchanged only
  simp +contextual [KeepsFit]

@[simp] theorem trip_fit (s : State) (cause src value : Nat) : KeepsFit s (State.trip s cause src value) := by
  unfold State.trip
  dsimp -failIfUnchanged only
  (repeat' split) <;> simp +contextual [KeepsFit]

@[simp] theorem ovTrip_fit (s : State) (r vUv : Nat) : KeepsFit s (State.ovTrip s r vUv) := by
  unfold State.ovTrip
  dsimp -failIfUnchanged only
  (repeat' split) <;> simp +contextual [KeepsFit]

@[simp] theorem railSample_fit (s : State) (r : Nat) : KeepsFit s (State.railSample s r) := by
  unfold State.railSample
  dsimp -failIfUnchanged only
  (repeat' split) <;> simp +contextual [KeepsFit]

@[simp] theorem phaseShown_fit (s : State) (r : Nat) : KeepsFit s (State.phaseShown s r) := by
  unfold State.phaseShown
  (repeat' split) <;> simp +contextual [KeepsFit]

@[simp] theorem phaseFault_fit (s : State) (r p : Nat) : KeepsFit s (State.phaseFault s r p) := by
  unfold State.phaseFault
  dsimp -failIfUnchanged only
  simp +contextual [KeepsFit]

@[simp] theorem statusWord_fit (s : State) (r health : Nat) : KeepsFit s (State.statusWord s r health) := by
  refine foldl_fit _ (fun s p => ?_) _ _
  split <;> simp +contextual [KeepsFit]

@[simp] theorem goodWord_fit (s : State) (r d : Nat) : KeepsFit s (State.goodWord s r d) := by
  unfold State.goodWord
  dsimp -failIfUnchanged only
  (repeat' split) <;> simp +contextual [KeepsFit]

@[simp] theorem badWord_fit (s : State) (r : Nat) : KeepsFit s (State.badWord s r) := by
  unfold State.badWord
  dsimp -failIfUnchanged only
  (repeat' split) <;> simp +contextual [KeepsFit]

@[simp] theorem spareRow_fit (s : State) (k row : Nat) : KeepsFit s (State.spareRow s k row) := by
  unfold State.spareRow
  dsimp -failIfUnchanged only
  (repeat' split) <;> simp +contextual [KeepsFit]

@[simp] theorem stagingDamage_fit (s : State) (row : Nat) : KeepsFit s (State.stagingDamage s row) := by
  unfold State.stagingDamage
  dsimp -failIfUnchanged only
  (repeat' split) <;> simp +contextual [KeepsFit]

@[simp] theorem coefFault_fit (s : State) (r i : Nat) : KeepsFit s (State.coefFault s r i) := by
  unfold State.coefFault
  dsimp -failIfUnchanged only
  (repeat' split) <;> simp +contextual [KeepsFit]

@[simp] theorem lawFinish_fit (s : State) (sats : List Bool) (obs : SampleObs) : KeepsFit s (State.lawFinish s sats obs) := by
  have hfault := foldl_fit (fun (s : State) (c : Fin 16 × BitVec 8) => s.coefFault c.1.val c.2.toNat)
    (fun _ _ => coefFault_fit ..) obs.coefBad s
  exact hfault.trans (.of_boxes (by simp [State.lawFinish]) (by simp [State.lawFinish]))

@[simp] theorem lawTick_fit (s : State) (obs : SampleObs) : KeepsFit s (State.lawTick s obs) := by
  unfold State.lawTick
  dsimp -failIfUnchanged only
  (repeat' split) <;> simp +contextual [KeepsFit]

@[simp] theorem lanesChanged_fit (s : State) (cause : Nat) : KeepsFit s (State.lanesChanged s cause) := by
  unfold State.lanesChanged
  dsimp -failIfUnchanged only
  (repeat' split) <;> simp +contextual [KeepsFit]

@[simp] theorem retireLane_fit (s : State) (p : Nat) : KeepsFit s (State.retireLane s p) := by
  unfold State.retireLane
  dsimp -failIfUnchanged only
  (repeat' split) <;> simp +contextual [KeepsFit]

@[simp] theorem weightFault_fit (s : State) (off : Nat) (again : Bool) : KeepsFit s (State.weightFault s off again) := by
  unfold State.weightFault
  dsimp -failIfUnchanged only
  (repeat' split) <;> simp +contextual [KeepsFit]

@[simp] theorem evalStart_fit (s : State) (bad : Option Nat) : KeepsFit s (State.evalStart s bad) := by
  unfold State.evalStart
  dsimp -failIfUnchanged only
  (repeat' split) <;> simp +contextual [KeepsFit]

@[simp] theorem retireDueLanes_fit (s : State) : KeepsFit s (State.retireDueLanes s) := by
  have hall := foldl_fit _ retireLane_fit s.ctl.retireDue { s with ctl.retireDue := [] }
  unfold State.retireDueLanes
  dsimp only
  split
  · exact ⟨id, id⟩
  · exact hall.trans (.of_boxes (by simp) (by simp))

@[simp] theorem shutdown_fit (s : State) (cause src : Nat) (value : Int) : KeepsFit s (State.shutdown s cause src value) := by
  unfold State.shutdown
  dsimp -failIfUnchanged only
  (repeat' split) <;> simp +contextual [KeepsFit]

@[simp] theorem sweepCauses_fit (s : State) : KeepsFit s (State.sweepCauses s) := by
  unfold State.sweepCauses
  refine (foldl_fit _ (fun s g => ?_) _ _).trans (foldl_fit _ (fun s k => ?_) _ _)
  all_goals
    dsimp only
    (repeat' split) <;> simp +contextual [KeepsFit]

@[simp] theorem dwellCause_fit (s : State) : KeepsFit s (State.dwellCause s) := by
  unfold State.dwellCause
  refine foldl_fit _ (fun s g => ?_) _ _
  dsimp only
  (repeat' split) <;> simp +contextual [KeepsFit]

@[simp] theorem obsCoefFault_fit (s : State) (i : Nat) : KeepsFit s (State.obsCoefFault s i) := by
  unfold State.obsCoefFault
  dsimp -failIfUnchanged only
  (repeat' split) <;> simp +contextual [KeepsFit]

@[simp] theorem stepCauses_fit (s : State) : KeepsFit s (State.stepCauses s) := by
  unfold State.stepCauses
  refine foldl_fit _ (fun s v => ?_) _ _
  dsimp only
  (repeat' split) <;> simp +contextual [KeepsFit]

@[simp] theorem sensorSubst_fit (s : State) (g : Nat) : KeepsFit s (State.sensorSubst s g) := by
  unfold State.sensorSubst
  dsimp -failIfUnchanged only
  (repeat' split) <;> simp +contextual [KeepsFit]

@[simp] theorem tripGroup_fit (s : State) (g : Nat) : KeepsFit s (State.tripGroup s g) := by
  unfold State.tripGroup
  dsimp -failIfUnchanged only
  (repeat' split) <;> simp +contextual [KeepsFit]

@[simp] theorem tripRate_fit (prev : List Nat) (t : Nat) (s : State) (g : Nat) : KeepsFit s (State.tripRate prev t s g) := by
  unfold State.tripRate
  dsimp -failIfUnchanged only
  (repeat' split) <;> simp +contextual [KeepsFit]

@[simp] theorem tripStack_fit (s : State) (k : Nat) : KeepsFit s (State.tripStack s k) := by
  unfold State.tripStack
  dsimp -failIfUnchanged only
  (repeat' split) <;> simp +contextual [KeepsFit]

@[simp] theorem thermalTrips_fit (s : State) (prev : List Nat) (t : Nat) : KeepsFit s (State.thermalTrips s prev t) := by
  have hgroups : KeepsFit s ((List.range 6).foldl State.tripGroup s) := foldl_fit _ tripGroup_fit _ _
  have hrates (u : State) : KeepsFit u ((List.range 6).foldl (State.tripRate prev t) u) := foldl_fit _ (tripRate_fit prev t) _ _
  have hstacks (u : State) : KeepsFit u ((List.range 12).foldl State.tripStack u) := foldl_fit _ tripStack_fit _ _
  unfold State.thermalTrips
  exact .trans hgroups (.trans (hrates _) (hstacks _))

@[simp] theorem macroFail_fit (s : State) (i pos : Nat) : KeepsFit s (State.macroFail s i pos) := by
  unfold State.macroFail
  dsimp -failIfUnchanged only
  (repeat' split) <;> simp +contextual [KeepsFit]

@[simp] theorem ringBreak_fit (s : State) (i pos : Nat) : KeepsFit s (State.ringBreak s i pos) := by
  unfold State.ringBreak
  dsimp -failIfUnchanged only
  (repeat' split) <;> simp +contextual [KeepsFit]

@[simp] theorem rangeBegin_fit (s : State) : KeepsFit s (State.rangeBegin s) := by
  unfold State.rangeBegin
  dsimp -failIfUnchanged only
  (repeat' split) <;> simp +contextual [KeepsFit]

@[simp] theorem referenceCheck_fit (s : State) (r ref : Nat) : KeepsFit s (State.referenceCheck s r ref) := by
  unfold State.referenceCheck
  dsimp -failIfUnchanged only
  (repeat' split) <;> simp +contextual [KeepsFit]

@[simp] theorem slotValue_fit (s : State) (k : Nat) (v : Int) : KeepsFit s (State.slotValue s k v) := by
  unfold State.slotValue
  dsimp -failIfUnchanged only
  (repeat' split) <;> simp +contextual [KeepsFit]

@[simp] theorem slotFailed_fit (s : State) (k : Nat) : KeepsFit s (State.slotFailed s k) := by
  unfold State.slotFailed
  dsimp -failIfUnchanged only
  (repeat' split) <;> simp +contextual [KeepsFit]

@[simp] theorem setBudget_fit (s : State) (b : Nat) : KeepsFit s (State.setBudget s b) := by
  unfold State.setBudget
  dsimp -failIfUnchanged only
  (repeat' split) <;> simp +contextual [KeepsFit]

@[simp] theorem splitShares_fit (s : State) : KeepsFit s (State.splitShares s) := by
  unfold State.splitShares
  dsimp -failIfUnchanged only
  simp +contextual [KeepsFit]

@[simp] theorem budgetFell_fit (s : State) : KeepsFit s (State.budgetFell s) := by
  unfold State.budgetFell
  dsimp -failIfUnchanged only
  (repeat' split) <;> simp +contextual [KeepsFit]

@[simp] theorem subFell_fit (s : State) : KeepsFit s (State.subFell s) := by
  unfold State.subFell
  dsimp -failIfUnchanged only
  (repeat' split) <;> simp +contextual [KeepsFit]

@[simp] theorem sendCap_fit (s : State) : KeepsFit s (State.sendCap s) := by
  unfold State.sendCap
  (repeat' split) <;> simp +contextual [KeepsFit]

@[simp] theorem elect_fit (s : State) : KeepsFit s (State.elect s) := by
  unfold State.elect
  dsimp -failIfUnchanged only
  (repeat' split) <;> simp +contextual [KeepsFit]

@[simp] theorem topology_fit (s : State) : KeepsFit s (State.topology s) := by
  unfold State.topology
  dsimp -failIfUnchanged only
  (repeat' split) <;> simp +contextual [KeepsFit]

@[simp] theorem linkUp_fit (s : State) (d : Dir) : KeepsFit s (State.linkUp s d) := by
  unfold State.linkUp
  dsimp -failIfUnchanged only
  (repeat' split) <;> simp +contextual [KeepsFit]

@[simp] theorem linkDown_fit (s : State) (d : Dir) : KeepsFit s (State.linkDown s d) := by
  unfold State.linkDown
  dsimp -failIfUnchanged only
  (repeat' split) <;> simp +contextual [KeepsFit]

@[simp] theorem laneVerdict_fit (s : State) (d : Dir) : KeepsFit s (State.laneVerdict s d) := by
  unfold State.laneVerdict
  dsimp -failIfUnchanged only
  (repeat' split) <;> simp +contextual [KeepsFit]

@[simp] theorem laneMsg_fit (s : State) (d : Dir) (m : BitVec 128) : KeepsFit s (State.laneMsg s d m) := by
  unfold State.laneMsg
  dsimp -failIfUnchanged only
  (repeat' split) <;> simp +contextual [KeepsFit]

@[simp] theorem formed_fit (s : State) (mask fmaj fmin attempt reck : Nat) :
    KeepsFit s (State.formed s mask fmaj fmin attempt reck) := by
  unfold State.formed
  dsimp -failIfUnchanged only
  simp +contextual [KeepsFit]

@[simp] theorem join_fit (s : State) (p : Nat) : KeepsFit s (State.join s p) := by
  unfold State.join
  dsimp -failIfUnchanged only
  (repeat' split) <;> simp +contextual [KeepsFit]

@[simp] theorem helloFormed_fit (s : State) (p : Nat) : KeepsFit s (State.helloFormed s p) := by
  unfold State.helloFormed
  dsimp -failIfUnchanged only
  (repeat' split) <;> simp +contextual [KeepsFit]

@[simp] theorem helloMsg_fit (s : State) (d : Dir) (m : BitVec 128) : KeepsFit s (State.helloMsg s d m) := by
  unfold State.helloMsg
  dsimp -failIfUnchanged only
  (repeat' split) <;> simp +contextual [KeepsFit]

@[simp] theorem clockLost_fit (s : State) (c : Nat) : KeepsFit s (State.clockLost s c) := by
  have hlinks (u : State) : KeepsFit u ((u.linkDown .east).linkDown .west) := (linkDown_fit ..).trans (linkDown_fit ..)
  unfold State.clockLost
  split
  · exact ⟨id, id⟩
  · dsimp only
    split
    · split
      · exact (KeepsFit.trans (.of_boxes (by simp) (by simp)) (heartbeatLost_fit _ 2)).trans (hlinks _)
      · exact .trans (.of_boxes (by simp) (by simp)) (heartbeatLost_fit _ 2)
    · split
      · exact .trans (.of_boxes (by simp) (by simp)) (hlinks _)
      · exact .of_boxes (by simp) (by simp)

@[simp] theorem loseParent_fit (s : State) (cause : Nat) : KeepsFit s (State.loseParent s cause) := by
  unfold State.loseParent
  (repeat' split) <;> simp +contextual [KeepsFit]

@[simp] theorem badCheck_fit (s : State) (sender : Nat) : KeepsFit s (State.badCheck s sender) := by
  unfold State.badCheck
  dsimp -failIfUnchanged only
  (repeat' split) <;> simp +contextual [KeepsFit]

@[simp] theorem takeBudget_fit (s : State) (w : Nat) : KeepsFit s (State.takeBudget s w) := by
  unfold State.takeBudget
  dsimp -failIfUnchanged only
  (repeat' split) <;> simp +contextual [KeepsFit]

@[simp] theorem takeCut_fit (s : State) (ratio q : Nat) : KeepsFit s (State.takeCut s ratio q) := by
  unfold State.takeCut
  dsimp -failIfUnchanged only
  (repeat' split) <;> simp +contextual [KeepsFit]

/-- A frame of the parent keeps the queues so where its effect does (R404, R409). -/
theorem parentTake_fit (s : State) (f : KFrame) (act : State → State) (h : ∀ u, KeepsFit u (act u)) :
    KeepsFit s (s.parentTake f act).2 := by
  unfold State.parentTake
  dsimp only
  split
  · exact ⟨id, id⟩
  · split
    · exact ((KeepsFit.of_boxes rfl rfl : KeepsFit s (s.onTre fun t =>
        { t with ctrUp := (parentCheck s f []).1, badRun := 0, rxAt := some s.now, lost := false }))).trans (h _)
    · exact badCheck_fit s 16

@[simp] theorem parentFrame_fit (s : State) (f : KFrame) : KeepsFit s (State.parentFrame s f).2 := by
  have hbudget (u : State) (w : Nat) : KeepsFit u (u.takeBudget w) := takeBudget_fit u w
  have hmissed (u : State) (w : Nat) : KeepsFit u (if 2 ≤ w % 256 then u.loseParent 1 else u) := by
    split
    · exact loseParent_fit u 1
    · exact ⟨id, id⟩
  unfold State.parentFrame
  dsimp only
  split
  case h_4 =>
    (repeat' split)
    · exact ⟨id, id⟩
    · exact parentTake_fit _ _ _ fun _ => ⟨id, id⟩
    · exact ⟨id, id⟩
    · exact .of_boxes rfl rfl
  case h_5 => exact parentTake_fit _ _ _ fun u => hmissed u _
  case h_6 => exact parentTake_fit _ _ _ fun u => hbudget u _
  case h_7 =>
    split
    · exact ⟨id, id⟩
    · exact parentTake_fit _ _ _ fun u => takeCut_fit u _ _
  all_goals (repeat' split) <;> simp +contextual [KeepsFit]

@[simp] theorem portFrame_fit (s : State) (p : Nat) (f : KFrame) : KeepsFit s (State.portFrame s p f) := by
  unfold State.portFrame
  dsimp -failIfUnchanged only
  (repeat' split) <;> simp +contextual [KeepsFit]

@[simp] theorem kReceived_fit (s : State) (bus : TreBus) (f : KFrame) (typ : Nat) : KeepsFit s (State.kReceived s bus f typ) := by
  unfold State.kReceived
  dsimp -failIfUnchanged only
  (repeat' split) <;> simp +contextual [KeepsFit]

@[simp] theorem setRackCap_fit (s : State) (v : Nat) : KeepsFit s (State.setRackCap s v) := by
  unfold State.setRackCap
  dsimp -failIfUnchanged only
  (repeat' split) <;> simp +contextual [KeepsFit]

@[simp] theorem clearRackCap_fit (s : State) : KeepsFit s (State.clearRackCap s) := by
  unfold State.clearRackCap
  simp +contextual [KeepsFit]

@[simp] theorem rackPerform_fit (s : State) (bs : List Nat) : KeepsFit s (State.rackPerform s bs) := by
  unfold State.rackPerform
  dsimp -failIfUnchanged only
  (repeat' split) <;> simp +contextual [KeepsFit]

@[simp] theorem rackRequest_fit (s : State) (bs : List Nat) : KeepsFit s (State.rackRequest s bs) := by
  unfold State.rackRequest
  dsimp -failIfUnchanged only
  (repeat' split) <;> simp +contextual [KeepsFit]

theorem State.fcsSettle_boxes (s : State) : s.fcsSettle.mbs = s.mbs ∧ s.fcsSettle.mbn = s.mbn := by simp

@[simp] theorem scrubBad_fit (s : State) (k a w : Nat) (again : Bool) : KeepsFit s (State.scrubBad s k a w again) := by
  have hspare (u : State) (n r : Nat) : KeepsFit u (if again then u.spareRow n r else u) := by
    split
    · exact spareRow_fit _ _ _
    · exact ⟨id, id⟩
  unfold State.scrubBad
  split
  · split
    · exact .of_boxes (by simp) (by simp)
    · exact ⟨id, id⟩
  · split
    · exact ⟨id, id⟩
    next r _ =>
      split
      · exact .trans (.of_boxes (by simp) (by simp)) (stagingDamage_fit _ _)
      · exact .trans (.of_boxes (by simp) (by simp)) (weightFault_fit _ _ _)
      · dsimp only
        by_cases hbank : decide (2304 ≤ 16 * r + w) = s.ctl.BANK_ACTIVE
        · rw [if_pos hbank]
          refine .trans (.of_boxes ?_ ?_) (coefFault_fit _ _ _) <;> split <;> rfl
        · rw [if_neg hbank]
          split
          · exact .trans (.of_boxes (by rfl) (by rfl)) (spareRow_fit _ _ _)
          · exact .of_boxes rfl rfl
      · dsimp only
        refine .trans (.of_boxes ?_ ?_) (obsCoefFault_fit _ _) <;> split <;> rfl
      · refine .trans (.trans (.of_boxes ?_ ?_) (hspare _ 4 _)) (.of_boxes (State.fcsSettle_boxes _).1 (State.fcsSettle_boxes _).2)
        all_goals split <;> simp
      · exact .trans (.of_boxes (by simp) (by simp)) (spareRow_fit _ _ _)

@[simp] theorem relSubst_fit (s : State) (kind i : Nat) : KeepsFit s (State.relSubst s kind i) := by
  unfold State.relSubst
  dsimp -failIfUnchanged only
  (repeat' split) <;> simp +contextual [KeepsFit]

@[simp] theorem relRestore_fit (s : State) (kind i : Nat) : KeepsFit s (State.relRestore s kind i) := by
  unfold State.relRestore
  dsimp -failIfUnchanged only
  (repeat' split) <;> simp +contextual [KeepsFit]

@[simp] theorem loadCmd_fit (s : State) : KeepsFit s (State.loadCmd s) := by
  unfold State.loadCmd
  dsimp -failIfUnchanged only
  (repeat' split) <;> simp +contextual [KeepsFit]

@[simp] theorem commitFailed_fit (s : State) (st : Nat) : KeepsFit s (State.commitFailed s st) := by
  unfold State.commitFailed
  dsimp -failIfUnchanged only
  (repeat' split) <;> simp +contextual [KeepsFit]

@[simp] theorem abortCmd_fit (s : State) : KeepsFit s (State.abortCmd s) := by
  unfold State.abortCmd
  (repeat' split) <;> simp +contextual [KeepsFit]

@[simp] theorem actNotice_fit (s : State) (st : Nat) : KeepsFit s (State.actNotice s st) := by
  unfold State.actNotice
  dsimp -failIfUnchanged only
  simp +contextual [KeepsFit]

@[simp] theorem activationRefused_fit (s : State) (st : Nat) : KeepsFit s (State.activationRefused s st) := by
  unfold State.activationRefused
  dsimp -failIfUnchanged only
  (repeat' split) <;> simp +contextual [KeepsFit]

theorem imgSetMbx_outQ (off w : Nat) (p : Mbx) : (imgSetMbx off w p).outQ = p.outQ := by
  unfold imgSetMbx
  split <;> rfl

@[simp] theorem imgApply_fit (s : State) (im : Image) : KeepsFit s (State.imgApply s im) := by
  have hout : (s.imgApply im).mbs.outQ = s.mbs.outQ := imgPage_proj Mbx.outQ im 15 imgSetMbx_outQ _
  exact ⟨fun h => hout ▸ h, id⟩

@[simp] theorem switchIn_fit (s : State) (im : Image) : KeepsFit s (State.switchIn s im) := by
  refine KeepsFit.trans (t := { s with stg.act := some im, stg.holds := true, seq.imgOn := true }.imgApply im) ?_ ?_
  · exact imgApply_fit { s with stg.act := some im, stg.holds := true, seq.imgOn := true } im
  · unfold State.switchIn
    simp +contextual [KeepsFit]

@[simp] theorem deferActivation_fit (s : State) : KeepsFit s (State.deferActivation s) := by
  unfold State.deferActivation
  dsimp -failIfUnchanged only
  (repeat' split) <;> simp +contextual [KeepsFit]

@[simp] theorem activationStep_fit (s : State) : KeepsFit s (State.activationStep s) := by
  unfold State.activationStep
  dsimp -failIfUnchanged only
  (repeat' split) <;> simp +contextual [KeepsFit]

@[simp] theorem sampleRail_fit (s : State) (r : Nat) : KeepsFit s (State.sampleRail s r) := by
  unfold State.sampleRail
  dsimp -failIfUnchanged only
  (repeat' split) <;> simp +contextual [KeepsFit]

@[simp] theorem tickLaw_fit (s : State) (obs : SampleObs) : KeepsFit s (State.tickLaw s obs) := by
  unfold State.tickLaw
  dsimp -failIfUnchanged only
  (repeat' split) <;> simp +contextual [KeepsFit]

@[simp] theorem tickEnd_fit (s : State) : KeepsFit s (State.tickEnd s) := by
  unfold State.tickEnd
  dsimp -failIfUnchanged only
  (repeat' split) <;> simp +contextual [KeepsFit]

@[simp] theorem boundary_fit (s : State) (num : Nat) (gov : Bool) : KeepsFit s (State.boundary s num gov) := by
  unfold State.boundary
  dsimp -failIfUnchanged only
  simp +contextual [KeepsFit]

@[simp] theorem reckon_fit (s : State) : KeepsFit s (State.reckon s) := by
  unfold State.reckon
  dsimp -failIfUnchanged only
  (repeat' split) <;> simp +contextual [KeepsFit]

@[simp] theorem memberOpen_fit (s : State) : KeepsFit s (State.memberOpen s) := by
  unfold State.memberOpen
  (repeat' split) <;> simp +contextual [KeepsFit]

@[simp] theorem warmPages_fit (s : State) : KeepsFit s (State.warmPages s) := by
  exact ⟨fun _ => Nat.zero_le 8, fun _ => Nat.zero_le 8⟩

@[simp] theorem warmReset_fit (s : State) : KeepsFit s (State.warmReset s) := by
  unfold State.warmReset
  dsimp -failIfUnchanged only
  simp +contextual [KeepsFit]

@[simp] theorem warmExit_fit (s : State) : KeepsFit s (State.warmExit s) := by
  unfold State.warmExit
  dsimp -failIfUnchanged only
  simp +contextual [KeepsFit]

@[simp] theorem lrstMbx_fit (s : State) (c : Chan) : KeepsFit s (State.lrstMbx s c) := by
  exact (mbxLocalReset_fit s c).trans (mbxMod_fit _ _ _ fun _ _ => Nat.zero_le 8)

@[simp] theorem lrstReach_fit (s : State) (p : Nat) : KeepsFit s (State.lrstReach s p) := by
  unfold State.lrstReach
  dsimp -failIfUnchanged only
  (repeat' split) <;> simp +contextual [KeepsFit]

/-- A keyed write keeps the queues so where its effect does (R119). -/
theorem keyedWrite_fit (s : State) (p : Fin 23) (off data : Nat) (refused : State → Bool) (act : State → State)
    (h : ∀ u, KeepsFit u (act u)) : KeepsFit s (s.keyedWrite p off data refused act).1 := by
  have hkey : KeepsFit s (s.keyedCheck p (4096 * p.val + off) data).2 := .of_boxes (by simp) (by simp)
  unfold State.keyedWrite
  dsimp only
  (repeat' split)
  · exact hkey
  · exact hkey
  · exact hkey.trans (h _)

@[simp] theorem writeSeq_fit (s : State) (off data : Nat) : KeepsFit s (writeSeq s off data).1 := by
  have hcap (u : State) : KeepsFit u (hostCapSet data u) := by
    unfold hostCapSet
    exact .trans (.of_boxes (by simp) (by simp)) (sendCap_fit _)
  unfold writeSeq
  split
  case h_4 => exact keyedWrite_fit _ _ _ _ _ _ hcap
  all_goals (repeat' split) <;> simp +contextual [KeepsFit]

/-- What a write of DOM_FORCE does once its key is taken (R331). -/
def domForceSet (data : Nat) (s : State) : State :=
  let d := bitsOf data 0 6
  let on := bitAt data 8
  let s : State := { s with dom.FORCE_ON := on, dom.FORCE_DOM := d }
  if bitAt data 31 then (if on then s.domForceOn d else s.domForceOff d) else s

@[simp] theorem writeDom_fit (s : State) (off data : Nat) : KeepsFit s (writeDom s off data).1 := by
  have hforce (u : State) : KeepsFit u (domForceSet data u) := by
    unfold domForceSet
    dsimp only
    split
    · split
      · exact .of_boxes (by simp) (by simp)
      · exact .trans (.of_boxes (t := { u with dom.FORCE_ON := bitAt data 8, dom.FORCE_DOM := bitsOf data 0 6 }) rfl rfl)
          (domForceOff_fit _ _)
    · exact .of_boxes rfl rfl
  unfold writeDom
  split
  case h_3 => exact keyedWrite_fit _ _ _ _ _ _ hforce
  all_goals (repeat' split) <;> simp +contextual [KeepsFit]

@[simp] theorem writeClk_fit (s : State) (off data : Nat) : KeepsFit s (writeClk s off data).1 := by
  unfold writeClk
  split
  · exact keyedWrite_fit _ _ _ _ _ _ fun u => forceSrc_fit u _
  · split <;> simp +contextual [KeepsFit]

@[simp] theorem blkCtrl_fit (s : State) (c : Chan) (data : Nat) : KeepsFit s (State.blkCtrl s c data).1 := by
  unfold State.blkCtrl
  dsimp -failIfUnchanged only
  (repeat' split) <;> simp +contextual [KeepsFit]

@[simp] theorem writeMbx_fit (s : State) (c : Chan) (off data : Nat) : KeepsFit s (writeMbx s c off data).1 := by
  unfold writeMbx
  (repeat' split) <;> simp +contextual [KeepsFit]

@[simp] theorem writeReg_fit (s : State) (p : Fin 23) (off data : Nat) : KeepsFit s (writeReg s p off data).1 := by
  unfold writeReg
  (repeat' split) <;> simp +contextual [KeepsFit]

@[simp] theorem driverCold_fit (s : State) (p : Fin 23) (off : Nat) : KeepsFit s (State.driverCold s p off) := by
  unfold State.driverCold
  dsimp -failIfUnchanged only
  (repeat' split) <;> simp +contextual [KeepsFit]

@[simp] theorem regAgain_fit (s : State) (p : Fin 23) (addr : Nat) : KeepsFit s (State.regAgain s p addr) := by
  unfold State.regAgain
  dsimp -failIfUnchanged only
  (repeat' split) <;> simp +contextual [KeepsFit]

/-! ### Every command keeps them so -/

/-- A write on the host port keeps the queues within eight words (R97 to R105). -/
theorem hostWrite_fit (s : State) (addr data : Nat) (acc : HostAcc) : KeepsFit s (hostWrite s addr data acc) := by
  unfold hostWrite
  dsimp only
  (repeat' split) <;> simp +contextual [KeepsFit]

/-- A frame message keeps the queues within eight words where its effect does: the links hold none of them (R376 to R382). -/
theorem received_fit {s : State} {f : State → State} (d : Dir) (m : BitVec 128) (typ : Nat) (hf : ∀ u, KeepsFit u (f u)) :
    KeepsFit s (s.received d m typ f) := by
  refine received_keeps (P := fun t => KeepsFit s t) d m typ ?_ ?_ ?_ ?_ (fun u hu => hu.trans (hf u)) ⟨id, id⟩
  all_goals simp +contextual [KeepsFit]

/-- The end of a block transfer: the row moves, and then the transfer ends (R427). -/
theorem execBlockTransferDone_fit {c : Chan} {parBad : Bool} {s t : State} (h : execBlockTransferDone c parBad s = .next t) :
    KeepsFit s t := by
  have hblk (f : Mbx → Mbx) (hf : ∀ m, (f m).outQ = m.outQ) (u : State) (e : Nat) (hu : KeepsFit s u) :
      KeepsFit s ((u.mbxMod c f).blkEnd c e) :=
    (hu.trans (mbxMod_fit _ _ _ fun m hm => (hf m).symm ▸ hm)).trans (blkEnd_fit _ _ _)
  cases h
  dsimp only
  split
  · exact ⟨id, id⟩
  split
  · exact blkEnd_fit _ _ _
  split
  · refine hblk _ ?_ _ _ (.of_boxes (by simp) (by simp))
    exact fun _ => rfl
  split
  all_goals
    refine hblk _ ?_ _ _ ⟨id, id⟩
    exact fun _ => rfl

/-- A boundary at a member that has had no announcement (R389). -/
theorem execBoundaryTimeout_fit {s t : State} (h : execBoundaryTimeout s = .next t) : KeepsFit s t := by
  cases h
  split
  · exact (boundary_fit _ _ _).trans ((memberOpen_fit _).trans (settle_fit _ _))
  · exact ⟨id, id⟩

/-- This member's own boundary: the reckoner's work, or a member's (R179). -/
theorem execEpochBoundary_fit {s t : State} (h : execEpochBoundary s = .next t) : KeepsFit s t := by
  have hreckon (u : State) : KeepsFit u { u with tly.ownCount := false }.reckon := reckon_fit { u with tly.ownCount := false }
  cases h
  dsimp only
  split
  · refine .trans ?_ (settle_fit _ _)
    split
    · exact (boundary_fit _ _ _).trans (hreckon _)
    · exact (boundary_fit _ _ _).trans (memberOpen_fit _)
  · exact ⟨id, id⟩

/-- The reckoner's announcement of a boundary (R388). -/
theorem execFrmBoundary_fit {d : Dir} {m : BitVec 128} {s t : State} (h : execFrmBoundary d m s = .next t) : KeepsFit s t := by
  cases h
  refine received_fit _ _ _ fun u => ?_
  split
  · dsimp only
    have htaken (v : State) (len fseq : Nat) : KeepsFit v
        ({ v with tly.ownCount := false, tly.lenInForce := len, frm.FSEQ := fseq, frm.lastBudget := mf m 42 32 }.setBudget (mf m 42 32)) :=
      setBudget_fit { v with tly.ownCount := false, tly.lenInForce := len, frm.FSEQ := fseq, frm.lastBudget := mf m 42 32 } _
    exact (((boundary_fit u _ _).trans (htaken _ _ _)).trans (memberOpen_fit _)).trans (settle_fit _ _)
  · exact ⟨id, id⟩

/-- A tick of the timekeeper: its rails, its law and its end (R242). -/
theorem execControlSample_fit {obs : SampleObs} {s t : State} (h : execControlSample obs s = .next t) : KeepsFit s t := by
  have hperiod (u : State) : KeepsFit u u.periodEnd := .of_boxes (by simp) (by simp)
  have hbase (u : State) : KeepsFit u u.baseSamples := .of_boxes (by simp) (by simp)
  cases h
  split
  · have hretire : KeepsFit s { s with now := s.now + 1 }.retireDueLanes := retireDueLanes_fit { s with now := s.now + 1 }
    have hrails := hretire.trans (foldl_fit State.sampleRail sampleRail_fit (List.range 16) _)
    dsimp only
    exact (((hrails.trans (hbase _)).trans (tickLaw_fit _ obs)).trans (hperiod _)).trans (tickEnd_fit _)
  · exact ⟨id, id⟩

/-- The end of the start-up self-test: what it found, and the close of the episode (R457, R459). -/
theorem execStartupSelftestComplete_fit {o : SelfTestObs} {s t : State} (h : execStartupSelftestComplete o s = .next t) :
    KeepsFit s t := by
  have hrows (l : List Nat) (u : State) : KeepsFit u (l.foldl State.startRowLost u) :=
    foldl_fit _ (fun _ _ => .of_boxes (by simp) (by simp)) _ _
  have hdets (l : List Nat) (u : State) : KeepsFit u (l.foldl (fun u d => u.failDet d 3) u) :=
    foldl_fit _ (fun _ _ => .of_boxes (by simp) (by simp)) _ _
  have hsens (l : List Nat) (u : State) : KeepsFit u (l.foldl (fun u i => u.sensorFail i 4) u) :=
    foldl_fit _ (fun _ _ => .of_boxes (by simp) (by simp)) _ _
  have hbeyond (l : List Nat) (u : State) : KeepsFit u (l.foldl (fun u k => u.fault pgRst 18 0x1315 [k]) u) :=
    foldl_fit _ (fun _ _ => .of_boxes (by simp) (by simp)) _ _
  have hshown (u : State) (o : SelfTestObs) : KeepsFit u
      { u with rst.SELFTEST_DONE := true, rst.SELFTEST_ROWS := sat 8 o.rows, rst.SELFTEST_LANES := o.lanesBad.length,
               rst.SELFTEST_MACROS := o.detsBad.length + o.sensorsBad.length, rst.SELFTEST_FAIL := !o.beyond.isEmpty } := ⟨id, id⟩
  have hclose (u : State) : KeepsFit u (u.closeEpisode 2) := .of_boxes (by simp) (by simp)
  have hbeam (u : State) : KeepsFit u u.beamSettle := .of_boxes (by simp) (by simp)
  have hbound (u : State) : KeepsFit u u.fcsBound := .of_boxes (by simp) (by simp)
  cases h
  split
  · have hlanes := (hrows (o.rowsLost.map fun i => i.toNat) s).trans
      ((foldl_fit State.retireLane retireLane_fit (o.lanesBad.map fun i => i.val) _).trans (hbound _))
    have hsensors := ((hlanes.trans (hdets (o.detsBad.map fun i => i.val) _)).trans (hsens (o.sensorsBad.map fun i => i.val) _)).trans
      (hbeam _)
    have hsubst := hsensors.trans (foldl_fit State.sensorSubst sensorSubst_fit (List.range 6) _)
    exact (hsubst.trans (hshown _ o)).trans ((hbeyond o.beyond _).trans (hclose _))
  · exact ⟨id, id⟩

/-- A sweep's temperatures and what they lead to (R282). -/
theorem execSweepCalibrationDone_fit {samples : Vector TempSample 30} {dur : Nat} {s t : State}
    (h : execSweepCalibrationDone samples dur s = .next t) : KeepsFit s t := by
  have hbands (u : State) : KeepsFit u ((List.range 12).foldl State.stackBands u) :=
    foldl_fit _ (fun _ _ => .of_boxes (by simp) (by simp)) _ _
  have hsamples (u : State) : KeepsFit u
      ((List.range 30).foldl (fun u i => u.sensorSample i (vAt samples i TempSample.parity)) u) :=
    foldl_fit _ (fun _ _ => .of_boxes (by simp) (by simp)) _ _
  have hsweep (u : State) (n : Nat) : KeepsFit u ((List.range 6).foldl (fun u g => u.groupSweep n g) u) :=
    foldl_fit _ (fun _ _ => .of_boxes (by simp) (by simp)) _ _
  have hstacks (u : State) : KeepsFit u ((List.range 12).foldl State.stackTemp u) :=
    foldl_fit _ (fun _ _ => .of_boxes (by simp) (by simp)) _ _
  have hladder (u : State) : KeepsFit u ((u.ladder true).hotCheck) := .of_boxes (by simp) (by simp)
  have hclose (u : State) (n : Nat) : KeepsFit u
      ((u.onSns fun n' => { n' with sweepAt := none, SWEEP_SWEEPS := satAdd 16 n'.SWEEP_SWEEPS 1, SWEEP_DUR := n }).trcThermal.onThm
        fun h => { h with newSweep := true }).phaseCheck.beamSettle := .of_boxes (by simp) (by simp)
  cases h
  split
  · exact ⟨id, id⟩
  next at' _ =>
    have hgroups := ((hsamples s).trans (foldl_fit State.sensorSubst sensorSubst_fit (List.range 6) _)).trans
      ((hsweep _ at').trans (hstacks _))
    have htrips := ((hgroups.trans (thermalTrips_fit _ ((List.range 6).map fun g => (grpOf s g).sweepAt) at')).trans (hbands _)).trans
      (hladder _)
    have hdwell := (htrips.trans (sweepCauses_fit _)).trans (dwellCause_fit _)
    dsimp only
    exact (hdwell.trans (hclose _ (sat 16 dur))).trans (settle_fit _ 0x0810)

/-- A cold reset empties the queues (R453). -/
theorem coldState_fit (s u : State) (r : Rst) : KeepsFit s (coldState u r) := ⟨fun _ => Nat.zero_le 8, fun _ => Nat.zero_le 8⟩

/-- The exit of a cold reset leaves the queues empty but for what its faults send (R457). -/
theorem coldExit_fit (s u : State) : KeepsFit s u.coldExit := by
  have hboot (v : State) : KeepsFit v v.bootOutputs.raiseLimits.setTripFigures := .of_boxes (by simp) (by simp)
  have hend (v : State) (hv : v.mbs.outQ = [] ∧ v.mbn.outQ = []) : KeepsFit s (v.bootOutputs.raiseLimits.setTripFigures.settle 0) := by
    have hv' : KeepsFit s v := by simp [KeepsFit, hv]
    exact (hv'.trans (hboot v)).trans (settle_fit _ 0)
  unfold State.coldExit
  apply hend
  split <;> simp [coldState, State.reset]

/-- The commands of the regulators, the converters, the frame, the tree and the rack port. -/
def ofPorts : Instr → Bool
  | .vrgTransactionStart | .vrgAck .. | .vrgAckTimeout | .vrgRdy .. | .telemetryWord .. | .blindModeEntry .. |
  .blindModeEnd .. | .pollRound | .pmbusTransactionDone .. | .smbusTimeout | .pmbAlert .. | .alertMuteEnd | .counterPersist |
  .frmIdle .. | .frmLane .. | .frmHello .. | .frmFormed .. | .frmLink .. | .frmShare .. | .frmShareAck .. | .frmDemand .. |
  .frmCap .. | .frmAsk .. | .frmLoan .. | .frmThermal .. | .frmInput .. | .frmCtrId .. | .frmCtrData .. | .frmCtrStat .. |
  .frmRetryTimeout .. | .linkSilence .. | .helloBroadcast | .formationDecide | .demandSend | .loanAskTimeout |
  .heldShareFree .. | .isolationCut | .treSync .. | .treSyncAck .. | .treHello .. | .treIdent .. | .trePoll .. | .treDemand ..
  | .treBudget .. | .treCut .. | .treePollSend | .treeNoReply .. | .parentLost | .portHoldExpiry .. | .treMuteEnd .. |
  .treLinkFailed | .rackHello .. | .capSet .. | .capClear .. | .rackStatus .. | .rackEvents .. | .rackBadReq .. | .rackMuteEnd
  | .rackReplyReady | .rackReplyRead | .entdaa .. | .setdasa .. | .rstdaa | .enec .. | .disec .. | .setmwl .. | .setmrl .. |
  .getmwl | .getmrl | .getpid | .getbcr | .getdcr | .getstatus | .otherCcc .. | .anchorTimeout | .trainingWord .. |
  .frmCrcErr .. | .treCrcErr .. => true
  | _ => false

/-- A command of the ports keeps the queues within eight words: a frame message whose effect branches is `received_fit`, and the rest
are made of operations that each do. -/
theorem exec_ofPorts_fit {c : Instr} {s t : State} (hc : ofPorts c = true) (h : exec c s = .next t) : KeepsFit s t := by
  cases c
  case frmLane | frmHello | frmFormed | frmLink | frmCap | frmLoan | frmCtrId | frmCtrData | frmCtrStat =>
    cases h
    apply received_fit
    intro u
    dsimp -failIfUnchanged only
    (repeat' split) <;> simp +contextual [KeepsFit]
  case vrgTransactionStart | vrgAck | vrgAckTimeout | vrgRdy | telemetryWord | blindModeEntry | blindModeEnd | pollRound |
      pmbusTransactionDone | smbusTimeout | pmbAlert | alertMuteEnd | counterPersist | frmIdle | frmShare | frmShareAck |
      frmDemand | frmAsk | frmThermal | frmInput | frmRetryTimeout | linkSilence | helloBroadcast | formationDecide |
      demandSend | loanAskTimeout | heldShareFree | isolationCut | treSync | treSyncAck | treHello | treIdent | trePoll |
      treDemand | treBudget | treCut | treePollSend | treeNoReply | parentLost | portHoldExpiry | treMuteEnd | treLinkFailed
      | rackHello | capSet | capClear | rackStatus | rackEvents | rackBadReq | rackMuteEnd | rackReplyReady | rackReplyRead
      | entdaa | setdasa | rstdaa | enec | disec | setmwl | setmrl | getmwl | getmrl | getpid | getbcr | getdcr | getstatus
      | otherCcc | anchorTimeout | trainingWord | frmCrcErr | treCrcErr =>
    cases h
    dsimp -failIfUnchanged only
    (repeat' split) <;> simp +contextual [KeepsFit]
  all_goals contradiction

/-- Every command keeps the outbound queues within eight words (R423): a host write is `hostWrite_fit`, a command of the ports
`exec_ofPorts_fit`, and the rest are made of operations that each do. -/
theorem exec_fit {c : Instr} {s t : State} (h : exec c s = .next t) : KeepsFit s t := by
  cases c
  case registerWrite | pageLockWrite | tlyRowSelWrite | fcsWaddrWrite | fcsWdataWrite | autWchkMac3Write | seqHostCapWrite |
      beamHlimWrite | beamTestDetector | beamTestCurrent | beamTestVoltage | beamTestDiePower | beamTestTemperature |
      beamTestBrownOut | beamTestAll | domForceOn | domForceOff | clkForceSrcWrite | spareSubstDetector |
      spareRestoreDetector | spareSubstSensor | spareRestoreSensor | spareSubstLane | spareRestoreLane | spareSubstPhase |
      spareRestorePhase | spareRestoreAgeing | evtErase | pmbHostSendByte | pmbHostWriteByte | pmbHostWriteWord |
      pmbHostReadWord | lrstReq | seqLoad | seqCommit | seqActivate | seqAbort | mailboxInWrite | outPop | blockWrite |
      blockRead | blkAddrWrite | heartbeat | evtRdSelWrite | evtFreeze | evtUnfreeze | trcPop =>
    cases h
    exact hostWrite_fit _ _ _ _
  case vrgTransactionStart | vrgAck | vrgAckTimeout | vrgRdy | telemetryWord | blindModeEntry | blindModeEnd | pollRound |
      pmbusTransactionDone | smbusTimeout | pmbAlert | alertMuteEnd | counterPersist | frmIdle | frmLane | frmHello |
      frmFormed | frmLink | frmShare | frmShareAck | frmDemand | frmCap | frmAsk | frmLoan | frmThermal | frmInput |
      frmCtrId | frmCtrData | frmCtrStat | frmRetryTimeout | linkSilence | helloBroadcast | formationDecide | demandSend |
      loanAskTimeout | heldShareFree | isolationCut | treSync | treSyncAck | treHello | treIdent | trePoll | treDemand |
      treBudget | treCut | treePollSend | treeNoReply | parentLost | portHoldExpiry | treMuteEnd | treLinkFailed | rackHello
      | capSet | capClear | rackStatus | rackEvents | rackBadReq | rackMuteEnd | rackReplyReady | rackReplyRead | entdaa |
      setdasa | rstdaa | enec | disec | setmwl | setmrl | getmwl | getmrl | getpid | getbcr | getdcr | getstatus | otherCcc
      | anchorTimeout | trainingWord | frmCrcErr | treCrcErr =>
    exact exec_ofPorts_fit rfl h
  case blockTransferDone => exact execBlockTransferDone_fit h
  case boundaryTimeout => exact execBoundaryTimeout_fit h
  case epochBoundary => exact execEpochBoundary_fit h
  case frmBoundary => exact execFrmBoundary_fit h
  case controlSample => exact execControlSample_fit h
  case startupSelftestComplete => exact execStartupSelftestComplete_fit h
  case sweepCalibrationDone => exact execSweepCalibrationDone_fit h
  case porAssert =>
    cases h
    dsimp only
    split
    · exact ⟨id, id⟩
    · exact coldState_fit _ _ _
  case porRelease =>
    cases h
    dsimp only
    (repeat' split)
    · exact ⟨id, id⟩
    · exact coldExit_fit _ _
    · exact ⟨id, id⟩
  case rstNAssert =>
    have hload : KeepsFit s s.warmLoad := .of_boxes (by simp) (by simp)
    have hpin (u : State) : KeepsFit u ({ u with rst.pin := true }.settle 0) := settle_fit { u with rst.pin := true } 0
    cases h
    dsimp only
    split
    · exact ⟨id, id⟩
    split
    · split
      · exact ⟨fun _ => Nat.zero_le 8, fun _ => Nat.zero_le 8⟩
      · exact ⟨id, id⟩
    · exact (hload.trans (warmReset_fit _)).trans (hpin _)
  case rstNRelease =>
    have hwarm (u : State) (hu : KeepsFit s u) : KeepsFit s u.warmExit := hu.trans (warmExit_fit u)
    cases h
    dsimp only
    (repeat' split)
    · exact ⟨id, id⟩
    · exact coldExit_fit _ _
    · apply hwarm
      exact ⟨id, id⟩
    · exact ⟨id, id⟩
  all_goals
    cases h
    dsimp -failIfUnchanged only
    (repeat' split) <;> simp +contextual [KeepsFit]

end Sys2Proof.Machine
end

section
namespace Sys2Proof.Proofs

open Sys2Proof Sys2Proof.Machine

/-- Settles O30: a step runs the front command on the state that holds the rest of the queue, whose boxes are the same; `exec_fit` is for
that command. -/
theorem outboundQueueBounded : Obligations.OutboundQueueBounded := by
  unfold Obligations.OutboundQueueBounded
  intro s t hs h
  unfold step at h
  split at h
  case h_1 =>
    cases h
    exact hs
  case h_2 c q _ =>
    obtain ⟨hmbs, hmbn⟩ := exec_fit (s := { s with pending := q }) h
    exact ⟨hmbs hs.1, hmbn hs.2⟩

/-- The reset state with a PING in the first word of the box, eight replies in the outbound queue, and PING waiting. -/
def fullQueuePinged : State :=
  { liveReset with mbs.outQ := List.replicate 8 0, mbs.order := [0], mbs.inb := liveReset.mbs.inb.set 0 { IN := 0x01070005 }, pending := [.ping .mbs] }

/-- `outboundQueueBounded` applies: with a full queue, the answer to a PING goes elsewhere. -/
theorem fullQueuePinged_bounded : ∃ t, step fullQueuePinged = .next t ∧ t.mbs.outQ.length ≤ 8 := by
  obtain ⟨t, run, -⟩ := everyCommandCompletes (.ping .mbs) { fullQueuePinged with pending := [] }
  exact ⟨t, run, (outboundQueueBounded fullQueuePinged t ⟨by decide, by decide⟩ run).1⟩

end Sys2Proof.Proofs
end

section
/-! PROOFS. The queue of commands, and the memories at reset (R453). -/

namespace Sys2Proof.Proofs

open Sys2Proof Sys2Proof.Machine

/-- Settles O1: the two cases in which a step looks at the queue. -/
theorem stepTakesFront : Obligations.StepTakesFront := by
  unfold Obligations.StepTakesFront
  constructor
  · intro s c q
    rfl
  · intro s h
    simp [step, h]

/-- `stepTakesFront` applies: a PING and a QUERY wait, and the step runs the PING with the QUERY waiting; with none it idles. -/
theorem step_takes_ping :
    step { liveReset with pending := [.ping .mbs, .query .mbn] } = exec (.ping .mbs) { liveReset with pending := [.query .mbn] } ∧
      step liveReset = .next liveReset :=
  ⟨stepTakesFront.1 { liveReset with pending := [] } (.ping .mbs) [.query .mbn], stepTakesFront.2 liveReset rfl⟩

/-- Settles O22: the four sparse memories list nothing at reset, and the queue is empty. -/
theorem resetMemoriesWf : Obligations.ResetMemoriesWf := by
  unfold Obligations.ResetMemoriesWf
  exact ⟨rfl, rfl⟩

end Sys2Proof.Proofs
end

section
/-! PROOFS. The mailboxes and the heartbeat (R420 to R430): the words that Lytrum takes and answers, and the host's writes to the pages
of the boxes. -/

namespace Sys2Proof.Machine

open Sys2Proof

/-! ### The words that Lytrum takes -/

/-- The word of the box written first, with the box (R420). -/
theorem boxHead_of_order {s : State} {c : Chan} {k : Nat} {ks : List Nat} (h : (s.mbx c).order = k :: ks) :
    boxHead s c = some (k, (vAt (s.mbx c).inb k {}).IN) := by
  simp [boxHead, h]

/-- A reply sent, and its box free again: with room in the outbound queue, the reply joins it (R420, R421, R423). -/
theorem sendOut_boxTake {s : State} {c : Chan} {k : Nat} {ks : List Nat} (h : (s.mbx c).order = k :: ks)
    (hroom : (s.mbx c).outQ.length < 8) (kind sub data : Nat) :
    (s.sendOut c kind sub data).boxTake c k = s.mbxMod c fun m => { m with
      order := ks, IN_STAT_FULL := putBit m.IN_STAT_FULL k false,
      outQ := m.outQ ++ [kind % 256 * 2 ^ 24 + sub % 256 * 2 ^ 16 + data % 65536] } := by
  cases c <;> simp_all [State.sendOut, State.boxTake, State.mbxMod, State.mbx]

/-! ### The host's writes to the pages of the boxes -/

/-- A write that the port takes has the effect that its register gives it, and is answered with the register's status (R97, R105). -/
theorem hostWrite_of_writeReg {s t : State} {p : Fin 23} {off data st : Nat} {acc : HostAcc} (h : off < 4096) (h4 : off % 4 = 0)
    (ha : hostAccepts s (regAddr p.val off) data acc = true)
    (hw : writeReg { s with pairLo := (s.dropPair (regAddr p.val off)).pairLo } p off data = (t, st)) :
    hostWrite s (regAddr p.val off) data acc = { t with hst := answer st } := by
  rw [hostWrite_at s p off data acc h h4 ha, dropPair_eq, hw]
  exact respond_eq t st

/-- A write to a mailbox page beyond its header has the effect that the box gives it (R420 to R428). -/
theorem hostWrite_chanPage {s t : State} {c : Chan} {off data st : Nat} {acc : HostAcc} (hlo : 0x28 ≤ off) (hhi : off < 4096)
    (h4 : off % 4 = 0) (ha : hostAccepts s (regAddr (chanPage c).val off) data acc = true)
    (hw : writeMbx { s with pairLo := (s.dropPair (regAddr (chanPage c).val off)).pairLo } c off data = (t, st)) :
    hostWrite s (regAddr (chanPage c).val off) data acc = { t with hst := answer st } := by
  refine hostWrite_of_writeReg hhi h4 ha ?_
  unfold writeReg
  rw [if_neg (by omega)]
  cases c <;> exact hw

/-- A write of an inbound box: the box is filled, or the word refused (R420). -/
theorem hostWrite_inBox {s : State} {c : Chan} (k : Fin 8) {data : Nat} {acc : HostAcc}
    (ha : hostAccepts s (regAddr (chanPage c).val (0x40 + 4 * k.val)) data acc = true) :
    hostWrite s (regAddr (chanPage c).val (0x40 + 4 * k.val)) data acc =
      let u := { s with pairLo := (s.dropPair (regAddr (chanPage c).val (0x40 + 4 * k.val))).pairLo }
      if (s.mbx c).IN_STAT_FULL.testBit k.val then { u.boxRefuse c with hst := answer 2 } else { u.boxFill c k data with hst := answer 0 } := by
  have hw (u : State) : writeMbx u c (0x40 + 4 * k.val) data =
      if (u.mbx c).IN_STAT_FULL.testBit k.val then (u.boxRefuse c, 2) else (u.boxFill c k.val data, 0) := by
    fin_cases k <;> rfl
  dsimp only
  split
  case isTrue h => exact hostWrite_chanPage (by omega) (by omega) (by omega) ha ((hw _).trans (if_pos (by cases c <;> exact h)))
  case isFalse h => exact hostWrite_chanPage (by omega) (by omega) (by omega) ha ((hw _).trans (if_neg (by cases c <;> exact h)))

/-- A write of MBS_HB is a heartbeat (R428). -/
theorem writeMbx_beat (s : State) (data : Nat) : writeMbx s .mbs 0xE0 data = (s.beat (data % 65536), 0) := by
  simp [writeMbx, bitsOf_eq_div_mod]

/-- The lowest bit of a word (R17). -/
theorem bitAt_zero (w : Nat) : bitAt w 0 = decide (w % 2 = 1) := by
  simp [bitAt]

/-- A heartbeat out of order changes nothing but its count, one in order restarts the timer (R428). -/
theorem beat_of_ne {s : State} {b : Nat} (h : b ≠ (s.mbs.HB_STAT_LAST + 1) % 65536) :
    s.beat b = { s with mbs.HB_CNT_BAD := satAdd 16 s.mbs.HB_CNT_BAD 1 } := by
  rw [State.beat, if_neg h]

/-- A heartbeat in order is the last, the timer restarts, and ORPHAN ends (R428, R430). -/
theorem beat_of_next {s : State} {b : Nat} (h : b = (s.mbs.HB_STAT_LAST + 1) % 65536) :
    s.beat b = { s with mbs.HB_STAT_LAST := b, mbs.beatAt := some s.now, mbs.timerAt := s.now, mbs.lossTaken := false }.leaveOrphan := by
  rw [State.beat, if_pos h]

/-- Outside ORPHAN that is all (R428). -/
theorem beat_of_next_of_not {s : State} {b : Nat} (h : b = (s.mbs.HB_STAT_LAST + 1) % 65536) (hno : s.seq.STATE_C_ORPHAN = false) :
    s.beat b = { s with mbs.HB_STAT_LAST := b, mbs.beatAt := some s.now, mbs.timerAt := s.now, mbs.lossTaken := false } := by
  simp [beat_of_next h, State.leaveOrphan, hno]

/-- ORPHAN ends: its mark, and the cap withdrawn but kept until the next boundary; the rest is its record and the state shown (R430). -/
theorem leaveOrphan_of_orphan {s : State} (h : s.seq.STATE_C_ORPHAN = true) :
    let t := s.leaveOrphan
    t.seq = { s.seq with STATE_C_ORPHAN := false, shown := t.seq.shown } ∧
      t.mbs.quiet = { s.mbs with orphCapNow := 0, orphKeep := s.mbs.orphCapNow }.quiet ∧ t.mbn.quiet = s.mbn.quiet ∧
      t = { s with seq := t.seq, mbs := t.mbs, mbn := t.mbn, rck := t.rck, evt := t.evt, hdr := t.hdr } := by
  have hq (u : State) (n : Nat) : (u.settle n).mbs.quiet = u.mbs.quiet ∧ (u.settle n).mbn.quiet = u.mbn.quiet :=
    ⟨settle_quiet u .mbs n, settle_quiet u .mbn n⟩
  simp [State.leaveOrphan, h, hq, State.eq_of_pages]

end Sys2Proof.Machine
end

section
namespace Sys2Proof.Proofs

open Sys2Proof Sys2Proof.Machine

/-- Settles O19: the box that `boxHead` gives is answered, and `sendOut_boxTake` says what the answer leaves. -/
theorem mailboxReplies : Obligations.MailboxReplies := by
  unfold Obligations.MailboxReplies
  intro s c k ks horder hroom
  have hhead := boxHead_of_order horder
  have hreply := sendOut_boxTake horder hroom
  have hop (w : Nat) : w >>> 24 = w / 2 ^ 24 := Nat.shiftRight_eq_div_pow w 24
  refine ⟨fun h1 => ?_, fun h2 => ⟨fun v hv => ?_, fun hv => ?_⟩, fun h1 h2 => ?_⟩
  · simp only [exec, execPing, hhead, hop, h1, if_true, hreply, bitsOf_eq_div_mod]
    simp
  · simp only [exec, execQuery, hhead, hop, h2, if_true, bitsOf_eq_div_mod]
    simp [hv, hreply]
  · simp only [exec, execQuery, hhead, hop, h2, if_true, bitsOf_eq_div_mod]
    simp [hv, hreply]
  · simp only [exec, execMailboxBadOp, hhead, hop, h1, h2, or_self, if_false, hreply, bitsOf_eq_div_mod]
    simp

/-- Settles O8: each write is the effect that its page gives the register, and a heartbeat in ORPHAN is `leaveOrphan_of_orphan`. -/
theorem mailboxesAndHeartbeat : Obligations.MailboxesAndHeartbeat := by
  unfold Obligations.MailboxesAndHeartbeat
  refine ⟨fun s c k data acc ha => ⟨fun hfree => ?_, fun hfull => ?_⟩, fun s c data acc => ⟨fun ha => ?_, fun ha => ?_⟩,
    fun s data acc ha => ⟨fun hbad => ?_, fun hnext hno => ?_, fun hnext horph => ?_⟩⟩
  · have hw := hostWrite_inBox k ha
    rw [if_neg (by simp [hfree])] at hw
    refine ⟨_, congrArg Host.Outcome.next hw, rfl, ?_, ?_⟩ <;>
      cases c <;> simp [State.boxFill, State.mbxMod, State.mbx, vMod_fin, putBit, Nat.shiftLeft_eq]
  · have hw := hostWrite_inBox k ha
    rw [if_pos hfull] at hw
    refine (congrArg Host.Outcome.next hw).trans ?_
    cases c <;> rfl
  · have hw := hostWrite_chanPage (by omega) (by omega) (by omega) ha rfl
    refine (congrArg Host.Outcome.next hw).trans ?_
    obtain hpop | hpop := Nat.mod_two_eq_zero_or_one data.toNat <;>
      cases c <;> simp [bitAt_zero, hpop, State.outPop, State.mbxMod]
  · have hw := hostWrite_chanPage (by omega) (by omega) (by omega) ha rfl
    refine (congrArg Host.Outcome.next hw).trans ?_
    cases c <;> simp [State.mbxMod, bitsOf_eq_div_mod]
  · have hw := hostWrite_chanPage (c := .mbs) (by omega) (by omega) (by omega) ha
      ((writeMbx_beat _ _).trans (congrArg (·, 0) (beat_of_ne hbad)))
    exact congrArg Host.Outcome.next hw
  · have hw := hostWrite_chanPage (c := .mbs) (by omega) (by omega) (by omega) ha
      ((writeMbx_beat _ _).trans (congrArg (·, 0) (beat_of_next_of_not hnext hno)))
    exact congrArg Host.Outcome.next hw
  · have hw := hostWrite_chanPage (c := .mbs) (by omega) (by omega) (by omega) ha
      ((writeMbx_beat _ _).trans (congrArg (·, 0) (beat_of_next hnext)))
    refine ⟨_, congrArg Host.Outcome.next hw, ?_⟩
    obtain ⟨hseq, hmbs, hmbn, hrest⟩ := leaveOrphan_of_orphan (s := { s with
      pairLo := (s.dropPair (regAddr 15 0xE0)).pairLo, mbs.HB_STAT_LAST := data.toNat % 65536, mbs.beatAt := some s.now,
      mbs.timerAt := s.now, mbs.lossTaken := false }) horph
    exact ⟨hseq, hmbs, hmbn, congrArg (fun u : State => { u with hst := answer 0 }) hrest⟩

/-- The reset state with a live port, box 2 of the secure mailbox holding a PING with TAG 7 and ARG 5, and one reply waiting. -/
def pinged : State :=
  { liveReset with mbs.order := [2], mbs.IN_STAT_FULL := 4, mbs.outQ := [1], mbs.inb := liveReset.mbs.inb.set 2 { IN := 0x01070005 } }

/-- `mailboxReplies` applies: the PING is answered with PONG, its TAG and its ARG. -/
theorem pinged_replies : ∃ t, exec (.ping .mbs) pinged = .next t ∧ t.mbs.outQ = [1, 0x01070005] ∧ t.mbs.IN_STAT_FULL = 0 := by
  have hword : (vAt (pinged.mbx .mbs).inb 2 {}).IN = 0x01070005 := by simp [pinged, State.mbx, vAt]
  obtain ⟨hpong, -, -⟩ := mailboxReplies pinged .mbs 2 [] rfl (by decide)
  rw [hword] at hpong
  exact ⟨_, hpong (by decide), rfl, rfl⟩

/-- A secure write of `w` to the register at `off` of page 15, both parity bits right (R98). -/
def mbsAcc (off w : Nat) : HostAcc := { sec := true, apar := addrPar (regAddr 15 off) true true, wpar := evenPar 32 w }

/-- `mailboxesAndHeartbeat` applies: a word to the empty box 0 is held, and to the full box 2 refused; a pop takes the reply that waits;
beat 1 is the first, and beat 3 is out of order. -/
theorem pinged_writes :
    (∃ t, exec (.mailboxInWrite .mbs 0 9#32 (mbsAcc 0x40 9)) pinged = .next t ∧ t.mbs.order = [2, 0]) ∧
    (∃ t, exec (.mailboxInWrite .mbs 2 9#32 (mbsAcc 0x48 9)) pinged = .next t ∧ t.hst = answer 2) ∧
    (∃ t, exec (.outPop .mbs 1#32 (mbsAcc 0x68 1)) pinged = .next t ∧ t.mbs.outQ = []) ∧
    (∃ t, exec (.heartbeat 1#32 (mbsAcc 0xE0 1)) pinged = .next t ∧ t.mbs.HB_STAT_LAST = 1) ∧
    (∃ t, exec (.heartbeat 3#32 (mbsAcc 0xE0 3)) pinged = .next t ∧ t.mbs.HB_CNT_BAD = 1) := by
  obtain ⟨boxes, pops, beats⟩ := mailboxesAndHeartbeat
  obtain ⟨t, run, -, hbox, -⟩ := (boxes pinged .mbs 0 9#32 (mbsAcc 0x40 9) (by decide)).1 (by decide)
  refine ⟨⟨t, run, congrArg Mbx.order hbox⟩, ⟨_, (boxes pinged .mbs 2 9#32 (mbsAcc 0x48 9) (by decide)).2 (by decide), rfl⟩,
    ⟨_, (pops pinged .mbs 1#32 (mbsAcc 0x68 1)).1 (by decide), rfl⟩, ⟨_, (beats pinged 1#32 (mbsAcc 0xE0 1) (by decide)).2.1 (by decide) rfl, rfl⟩,
    ⟨_, (beats pinged 3#32 (mbsAcc 0xE0 3) (by decide)).1 (by decide), rfl⟩⟩

end Sys2Proof.Proofs
end

section
/-! PROOFS. The common command codes of the rack port (R437). -/

namespace Sys2Proof.Machine

open Sys2Proof

/-- A live port answers (R437). -/
theorem rckAnswer_of_up {s : State} (h : rckUp s = true) (bs : List Nat) :
    s.rckAnswer bs = { s with rck := { s.rck with acked := true, bus := bs } } := by
  rw [State.rckAnswer, if_pos h]
  rfl

/-- An address taken is on the rack page and in its event (R437). -/
theorem setDa_frame (s : State) (a : Nat) :
    (s.setDa a).rck = { s.rck with ADDR_DA_VALID := true, ADDR_DA := a } ∧
      s.setDa a = { s with rck := (s.setDa a).rck, evt := (s.setDa a).evt, hdr := (s.setDa a).hdr } := by
  simp [State.setDa, State.onRck, State.eq_of_pages]

/-- A direct code is one whose top bit is set (R437). -/
theorem testBit_seven (code : Byte) : code.toNat.testBit 7 = decide (128 ≤ code.toNat) := by
  rw [BitVec.testBit_toNat]
  exact BitVec.msb_eq_decide code

end Sys2Proof.Machine
end

section
namespace Sys2Proof.Proofs

open Sys2Proof Sys2Proof.Machine

/-- Settles O60: what the live port answers is `rckAnswer_of_up`, an address it takes `setDa_frame`. -/
theorem rackCodesAreAnswered : Obligations.RackCodesAreAnswered := by
  unfold Obligations.RackCodesAreAnswered
  intro s hup
  have hans := rckAnswer_of_up hup
  refine ⟨fun addr hfree => ?_, fun saddr addr hfree hmine => ?_, ?_, fun ev => ?_, fun ev => ?_, fun len => ⟨?_, ?_⟩, ?_, ?_, ?_, ?_, ?_,
    fun hunread => ?_, fun hreply hibi => ?_, fun code hdirect => ?_, fun code hcast => ?_⟩
  · obtain ⟨hrck, hrest⟩ := setDa_frame (s.rckAnswer (pidBytes s ++ [0x06, 0x00])) addr.toNat
    rw [hans] at hrck hrest
    exact ⟨_, by simp only [exec, execEntdaa, hup, hfree, Bool.not_false, Bool.and_self, if_true, hans], hrck, hrest⟩
  · obtain ⟨hrck, hrest⟩ := setDa_frame (s.rckAnswer []) addr.toNat
    rw [hans] at hrck hrest
    exact ⟨_, by simp only [exec, execSetdasa, hup, hfree, hmine, decide_true, Bool.not_false, Bool.and_self, if_true, hans], hrck, hrest⟩
  · simp [exec, execRstdaa, hup, hans, State.onRck]
  · simp only [exec, execEnec, hup, if_true, hans, State.onRck, BitVec.testBit_toNat]
  · simp only [exec, execDisec, hup, if_true, hans, State.onRck, BitVec.testBit_toNat]
  case refine_6 | refine_7 | refine_8 | refine_9 | refine_10 | refine_11 | refine_12 => exact congrArg Host.Outcome.next (hans _)
  · have hnotice : (s.rck.STAT_REPLY || !s.rck.ibi.isEmpty) = true := by simpa using hunread
    simp [exec, execGetstatus, hup, hans, State.onRck, hnotice, b2n]
  · simp [exec, execGetstatus, hup, hans, State.onRck, hreply, hibi, b2n]
  · simp [exec, execOtherCcc, hup, State.onRck, testBit_seven, hdirect]
  · simp [exec, execOtherCcc, testBit_seven, hcast]

/-- The reset state with the rack port strapped in and its supply live. -/
def rackLive : State := { liveReset with cmn.straps.rckEn := true }

/-- `rackCodesAreAnswered` applies: ENTDAA gives the port its address 9, and GETSTATUS answers that nothing is unread. -/
theorem rackLive_answers :
    (∃ t, exec (.entdaa 9) rackLive = .next t ∧ t.rck.ADDR_DA = 9) ∧ ∃ t, exec .getstatus rackLive = .next t ∧ t.rck.bus = [0, 0] := by
  obtain ⟨hent, -, -, -, -, -, -, -, -, -, -, -, hstatus, -⟩ := rackCodesAreAnswered rackLive rfl
  obtain ⟨t, run, hrck, -⟩ := hent 9 rfl
  exact ⟨⟨t, run, congrArg Rck.ADDR_DA hrck⟩, _, hstatus rfl rfl, rfl⟩

end Sys2Proof.Proofs
end

section
/-! PROOFS. Rack requests and their replies (R438 to R442). -/

namespace Sys2Proof.Machine

open Sys2Proof

/-! ### A cap sent to the reckoner (R391, R394) -/

/-- A budget that falls reaches the rack page by the port's interrupt alone (R438). -/
theorem setBudget_rck (s : State) (b : Nat) : (s.setBudget b).rck = { s.rck with ibi := (s.setBudget b).rck.ibi } := by
  unfold State.setBudget State.rackIbi
  dsimp only
  (repeat' split) <;> simp

/-- So does the work of the reckoner for a budget that falls. -/
theorem budgetFell_rck (s : State) : s.budgetFell.rck = { s.rck with ibi := s.budgetFell.rck.ibi } := by
  have hbud := setBudget_rck s (pkgBudget s)
  unfold State.budgetFell
  dsimp only
  split
  · simpa using hbud
  · rfl

/-- So does a cap that is sent. -/
theorem sendCap_rck (s : State) : s.sendCap.rck = { s.rck with ibi := s.sendCap.rck.ibi } := by
  unfold State.sendCap
  split
  · rfl
  split
  · obtain ⟨u, hu, hrest⟩ := subFell_eq s
    rw [hu]
    have hb := budgetFell_rck u
    rwa [show u.rck = s.rck by rw [hrest]] at hb
  · simp

/-- A cap that is sent clears no error bit. -/
theorem hasErr_setBudget {s : State} {q : Fin 23} {i : Nat} (b : Nat) (h : s.hasErr q i) : (s.setBudget b).hasErr q i := by
  unfold State.setBudget
  dsimp only
  split
  · exact h
  · exact hasErr_ite (hasErr_rackIbi _ (hasErr_notice _ _ _ h)) (hasErr_notice _ _ _ h)

theorem hasErr_budgetFell {s : State} {q : Fin 23} {i : Nat} (h : s.hasErr q i) : s.budgetFell.hasErr q i := by
  have hb : (s.setBudget (pkgBudget s)).hasErr q i := hasErr_setBudget _ h
  unfold State.budgetFell
  dsimp only
  split
  · exact hasErr_of_hdr hb (by simp)
  · exact h

theorem hasErr_sendCap {s : State} {q : Fin 23} {i : Nat} (h : s.hasErr q i) : s.sendCap.hasErr q i := by
  unfold State.sendCap
  split
  · exact h
  split
  · obtain ⟨u, hu, hrest⟩ := subFell_eq s
    rw [hu]
    exact hasErr_budgetFell (hasErr_of_hdr h (by rw [hrest]))
  · exact hasErr_of_hdr h (by simp)

/-! ### Replies (R438) -/

/-- `n` bytes of a value. -/
@[simp] theorem length_bytesLE (n v : Nat) : (bytesLE n v).length = n := by
  induction n generalizing v with
  | zero => rfl
  | succ n ih => simp [bytesLE, ih]

/-- Every payload of a reply is eight bytes. -/
theorem length_helloReply (s : State) (arg : Nat) : (helloReply s arg).length = 8 := by
  unfold helloReply
  split <;> simp [dieIdBytes]

theorem length_statusReply (s : State) : (statusReply s).length = 8 := by simp [statusReply]

theorem length_eventsReply (s : State) : (eventsReply s).length = 8 := by simp [eventsReply]

theorem length_capReply (s : State) : (capReply s).length = 8 := by simp [capReply]

/-- A reply is on the rack page, and takes the next reply counter. -/
theorem rackReply_frame (s : State) (bs : List Nat) (st : Nat) (pay : List Nat) :
    s.rackReply bs st pay = { s with
      aut := { s.aut with RK_OUT := (s.aut.RK_OUT + 1) % 2 ^ 64 }
      rck := { s.rck with reply := (s.rackReply bs st pay).rck.reply, replyDue := true, STAT_REPLY := false, STAT_LAST_ST := st,
                          STAT_LAST_TYPE := bs.getD 0 0,
                          CNT_REJECTED := if st = 0 then s.rck.CNT_REJECTED else satAdd 16 s.rck.CNT_REJECTED 1 } } := rfl

/-- The first twenty bytes of a reply: its header, its payload and its counter. -/
theorem rackReply_head (s : State) (bs : List Nat) (st : Nat) {pay : List Nat} (hpay : pay.length = 8) :
    (s.rackReply bs st pay).rck.reply.take 20 =
      [(bs.getD 0 0 + 0x80) % 256, bs.getD 1 0, st, 3] ++ pay ++ bytesLE 8 ((s.aut.RK_OUT + 1) % 2 ^ 64) := by
  unfold State.rackReply State.onRck
  dsimp only
  rw [List.append_assoc _ _ (bytesLE 2 _), List.take_append_of_le_length (by simp [hpay])]
  rw [List.take_of_length_le (by simp [hpay])]

/-! ### The checks of a request (R440, R441) -/

/-- A request that passes the checks of frame, mute, fields and rate is of the type that its first byte names. -/
theorem rackPasses_typ {s : State} {b : List Nat} {typ : Nat} (h : rackPasses s b typ = true) : b.getD 0 0 = typ := by
  simp only [rackPasses, Bool.and_eq_true, decide_eq_true_eq] at h
  exact h.1.2

/-- HELLO is performed after those. -/
theorem rackRequest_hello {s : State} {b : List Nat} (h : rackPasses s b 1 = true) : s.rackRequest b = s.rackPerform b := by
  simp only [rackPasses, Bool.and_eq_true, Bool.not_eq_true', decide_eq_true_eq] at h
  obtain ⟨⟨⟨⟨⟨⟨hup, hlen⟩, hcrc⟩, hmute⟩, hfields⟩, htyp⟩, hrate⟩ := h
  simp only [State.rackRequest, hup, hlen, hcrc, hmute, hfields, htyp, hrate]
  simp

/-- Every other request is performed after its MAC and its counter too, and its counter is the last accepted (R438). -/
theorem rackRequest_signed {s : State} {b : List Nat} {typ : Nat} (ht : typ ≠ 1) (h : rackSigned s b typ = true) :
    s.rackRequest b = { s with aut.RK_LAST := rackCtr b }.rackPerform b := by
  simp only [rackSigned, rackPasses, Bool.and_eq_true, Bool.not_eq_true', decide_eq_true_eq] at h
  obtain ⟨⟨⟨⟨⟨⟨⟨⟨⟨hup, hlen⟩, hcrc⟩, hmute⟩, hfields⟩, htyp⟩, hrate⟩, hanch⟩, hmac⟩, hctr⟩ := h
  have hnew : ¬ ofBytesLE ((b.drop 12).take 8) ≤ s.aut.RK_LAST := Nat.not_le.mpr hctr
  simp only [State.rackRequest, hup, hlen, hcrc, hmute, hfields, htyp, hrate, ht, hanch, hmac, hnew, rackCtr]
  simp

theorem rackSigned_typ {s : State} {b : List Nat} {typ : Nat} (h : rackSigned s b typ = true) : b.getD 0 0 = typ := by
  simp only [rackSigned, Bool.and_eq_true] at h
  exact rackPasses_typ h.1.1.1

/-- A request performed at `s` and counted, its reply not yet made. -/
def State.rackDone (s : State) (f : Rck → Rck) : State :=
  (s.onRck fun r => { r with CNT_PERFORMED := satAdd 16 r.CNT_PERFORMED 1 }).onRck f

/-- HELLO is answered with what its selector asks for (R439). -/
theorem rackPerform_hello {s : State} {b : List Nat} (h : b.getD 0 0 = 1) :
    s.rackPerform b = (s.rackDone fun r => { r with helloAt := within s (10 * ticksPerMs) r.helloAt ++ [s.now] }).rackReply b 0
      (helloReply s (b.getD 2 0)) := by
  unfold State.rackPerform
  dsimp only
  rw [h]
  rfl

/-- STATUS and EVENTS are answered with what stands (R439). -/
theorem rackPerform_status {s : State} {b : List Nat} (h : b.getD 0 0 = 4) :
    s.rackPerform b = (s.rackDone fun r => { r with statAt := lastSecond s r.statAt ++ [s.now] }).rackReply b 0 (statusReply s) := by
  unfold State.rackPerform
  dsimp only
  rw [h]
  rfl

theorem rackPerform_events {s : State} {b : List Nat} (h : b.getD 0 0 = 5) :
    s.rackPerform b = (s.rackDone fun r => { r with statAt := lastSecond s r.statAt ++ [s.now] }).rackReply b 0 (eventsReply s) := by
  unfold State.rackPerform
  dsimp only
  rw [h]
  rfl

/-- CAP_SET and CAP_CLEAR are answered with the cap and the budget that they leave (R439, R442). -/
theorem rackPerform_capSet {s : State} {b : List Nat} (h : b.getD 0 0 = 2) :
    s.rackPerform b =
      let u := (s.rackDone fun r => { r with capAt := lastSecond s r.capAt ++ [s.now] }).setRackCap (ofBytesLE ((b.drop 4).take 4))
      u.rackReply b 0 (capReply u) := by
  unfold State.rackPerform
  dsimp only
  rw [h]
  rfl

theorem rackPerform_capClear {s : State} {b : List Nat} (h : b.getD 0 0 = 3) :
    s.rackPerform b =
      let u := (s.rackDone fun r => { r with capAt := lastSecond s r.capAt ++ [s.now] }).clearRackCap
      u.rackReply b 0 (capReply u) := by
  unfold State.rackPerform
  dsimp only
  rw [h]
  rfl

/-- The reply of type `typ` to the request `b`, performed at `s`, is prepared at `t` with its payload (R438). -/
def RackReplied (s t : State) (b : List Nat) (typ : Nat) (pay : List Nat) : Prop :=
  t.rck.replyDue = true ∧ t.rck.STAT_REPLY = false ∧ t.rck.STAT_LAST_ST = 0 ∧ t.rck.STAT_LAST_TYPE = typ ∧
    t.rck.CNT_PERFORMED = satAdd 16 s.rck.CNT_PERFORMED 1 ∧ t.rck.CNT_REJECTED = s.rck.CNT_REJECTED ∧
    t.aut.RK_OUT = (s.aut.RK_OUT + 1) % 2 ^ 64 ∧
    t.rck.reply.take 20 = [typ + 0x80, b.getD 1 0, 0, 3] ++ pay ++ bytesLE 8 ((s.aut.RK_OUT + 1) % 2 ^ 64)

/-- The reply made after a request is performed and counted. -/
theorem rackReply_performed {s u : State} {b : List Nat} {typ : Nat} (htyp : b.getD 0 0 = typ) (hle : typ ≤ 5) {pay : List Nat}
    (hpay : pay.length = 8) (hperf : u.rck.CNT_PERFORMED = satAdd 16 s.rck.CNT_PERFORMED 1) (hrej : u.rck.CNT_REJECTED = s.rck.CNT_REJECTED)
    (hout : u.aut.RK_OUT = s.aut.RK_OUT) : RackReplied s (u.rackReply b 0 pay) b typ pay := by
  refine ⟨rfl, rfl, rfl, htyp, hperf, hrej, congrArg (fun n => (n + 1) % 2 ^ 64) hout, ?_⟩
  rw [rackReply_head _ _ _ hpay, htyp, hout, Nat.mod_eq_of_lt (by omega)]

/-- A reply changes two pages more. -/
theorem rackReply_keeps {s u : State} {bs : List Nat} {st : Nat} {pay : List Nat} {a : Aut}
    (h : u = { s with adm := u.adm, frm := u.frm, tre := u.tre, mbs := u.mbs, mbn := u.mbn, rck := u.rck, aut := a, evt := u.evt, hdr := u.hdr }) :
    let t := u.rackReply bs st pay
    t = { s with adm := t.adm, frm := t.frm, tre := t.tre, mbs := t.mbs, mbn := t.mbn, rck := t.rck, aut := t.aut, evt := t.evt,
                 hdr := t.hdr } :=
  congrArg (fun v : State => { v with rck := (u.rackReply bs st pay).rck, aut := (u.rackReply bs st pay).aut }) h

/-- A cap that is accepted: at no more than the lowest P_PKG, and said so where it was beyond (R33, R442). -/
theorem setRackCap_effect (s : State) (v : Nat) :
    let t := s.setRackCap v
    t.rck = { s.rck with CAP := min v (lowestPkg s), ibi := t.rck.ibi } ∧
      (lowestPkg s < v → t.hdr[pgRck].err.testBit 20 = true) ∧
      t = { s with adm := t.adm, frm := t.frm, tre := t.tre, mbs := t.mbs, mbn := t.mbn, rck := t.rck, evt := t.evt, hdr := t.hdr } := by
  refine ⟨?_, fun h => ?_, ?_⟩
  · unfold State.setRackCap
    dsimp only
    rw [sendCap_rck]
    split <;> simp [State.onRck]
  · unfold State.setRackCap
    dsimp only
    rw [if_pos h]
    exact hasErr_sendCap (hasErr_event _ _ (hasErr_of_hdr (hasErr_fault s pgRck 20 0x1117 (dat2 v)) rfl))
  · unfold State.setRackCap
    dsimp only
    split <;> simp [State.eq_of_pages, State.onRck]

/-- A cap that is cleared (R442). -/
theorem clearRackCap_effect (s : State) :
    let t := s.clearRackCap
    t.rck = { s.rck with CAP := 0, ibi := t.rck.ibi } ∧
      t = { s with adm := t.adm, frm := t.frm, tre := t.tre, mbs := t.mbs, mbn := t.mbn, rck := t.rck, evt := t.evt, hdr := t.hdr } := by
  constructor
  · unfold State.clearRackCap
    dsimp only
    rw [sendCap_rck]
    simp [State.onRck]
  · simp [State.clearRackCap, State.eq_of_pages, State.onRck]

/-- CAP_SET is answered with the cap accepted and the budget that follows. -/
theorem setRackCap_replied {s v : State} {b : List Nat} (htyp : b.getD 0 0 = 2)
    (hperf : v.rck.CNT_PERFORMED = satAdd 16 s.rck.CNT_PERFORMED 1) (hrej : v.rck.CNT_REJECTED = s.rck.CNT_REJECTED)
    (hout : v.aut.RK_OUT = s.aut.RK_OUT) (hlow : lowestPkg v = lowestPkg s) (hv : v = { s with rck := v.rck, aut := v.aut }) (x : Nat) :
    let u := v.setRackCap x
    let t := u.rackReply b 0 (capReply u)
    RackReplied s t b 2 (bytesLE 4 t.rck.CAP ++ bytesLE 4 (sat 32 (t.frm.BUDGET / 1000))) ∧ t.aut.RK_LAST = v.aut.RK_LAST ∧
      t.rck.CAP = min x (lowestPkg s) ∧ (lowestPkg s < x → t.hdr[pgRck].err.testBit 20 = true) ∧
      t = { s with adm := t.adm, frm := t.frm, tre := t.tre, mbs := t.mbs, mbn := t.mbn, rck := t.rck, aut := t.aut, evt := t.evt,
                   hdr := t.hdr } := by
  obtain ⟨hrck, herr, hrest⟩ := setRackCap_effect v x
  rw [hlow] at hrck herr
  refine ⟨rackReply_performed htyp (by omega) (length_capReply _) ((congrArg Rck.CNT_PERFORMED hrck).trans hperf)
    ((congrArg Rck.CNT_REJECTED hrck).trans hrej) ((congrArg (·.aut.RK_OUT) hrest).trans hout), congrArg (·.aut.RK_LAST) hrest,
    congrArg Rck.CAP hrck, herr, rackReply_keeps (a := v.aut) (hrest.trans ?_)⟩
  exact congrArg (fun w : State => { w with
    adm := (v.setRackCap x).adm, frm := (v.setRackCap x).frm, tre := (v.setRackCap x).tre, mbs := (v.setRackCap x).mbs,
    mbn := (v.setRackCap x).mbn, rck := (v.setRackCap x).rck, evt := (v.setRackCap x).evt, hdr := (v.setRackCap x).hdr }) hv

/-- CAP_CLEAR is answered with no cap and the budget that follows. -/
theorem clearRackCap_replied {s v : State} {b : List Nat} (htyp : b.getD 0 0 = 3)
    (hperf : v.rck.CNT_PERFORMED = satAdd 16 s.rck.CNT_PERFORMED 1) (hrej : v.rck.CNT_REJECTED = s.rck.CNT_REJECTED)
    (hout : v.aut.RK_OUT = s.aut.RK_OUT) (hv : v = { s with rck := v.rck, aut := v.aut }) :
    let u := v.clearRackCap
    let t := u.rackReply b 0 (capReply u)
    RackReplied s t b 3 (bytesLE 4 0 ++ bytesLE 4 (sat 32 (t.frm.BUDGET / 1000))) ∧ t.aut.RK_LAST = v.aut.RK_LAST ∧
      t.rck.CAP = 0 ∧
      t = { s with adm := t.adm, frm := t.frm, tre := t.tre, mbs := t.mbs, mbn := t.mbn, rck := t.rck, aut := t.aut, evt := t.evt,
                   hdr := t.hdr } := by
  obtain ⟨hrck, hrest⟩ := clearRackCap_effect v
  have hcap : v.clearRackCap.rck.CAP = 0 := congrArg Rck.CAP hrck
  have hpay : capReply v.clearRackCap = bytesLE 4 0 ++ bytesLE 4 (sat 32 (v.clearRackCap.frm.BUDGET / 1000)) :=
    congrArg (bytesLE 4 · ++ _) hcap
  refine ⟨(congrArg (RackReplied s _ b 3) hpay).mp (rackReply_performed htyp (by omega) (length_capReply v.clearRackCap)
    ((congrArg Rck.CNT_PERFORMED hrck).trans hperf) ((congrArg Rck.CNT_REJECTED hrck).trans hrej)
    ((congrArg (·.aut.RK_OUT) hrest).trans hout)), congrArg (·.aut.RK_LAST) hrest, hcap, rackReply_keeps (a := v.aut) (hrest.trans ?_)⟩
  exact congrArg (fun w : State => { w with
    adm := v.clearRackCap.adm, frm := v.clearRackCap.frm, tre := v.clearRackCap.tre, mbs := v.clearRackCap.mbs,
    mbn := v.clearRackCap.mbn, rck := v.clearRackCap.rck, evt := v.clearRackCap.evt, hdr := v.clearRackCap.hdr }) hv

/-! ### What is refused (R440, R441) -/

/-- What the port refuses changes no more than the rack page, the counters of the secure channels, and the record. -/
def RackRefused (s u : State) : Prop :=
  u.rck.CNT_REJECTED = s.rck.CNT_REJECTED ∧ u.rck.CNT_PERFORMED = s.rck.CNT_PERFORMED ∧ u.rck.CAP = s.rck.CAP ∧
    u.aut.RK_LAST = s.aut.RK_LAST ∧ u = { s with rck := u.rck, aut := u.aut, evt := u.evt, hdr := u.hdr }

theorem RackRefused.refl (s : State) : RackRefused s s := ⟨rfl, rfl, rfl, rfl, rfl⟩

/-- The reply that says so. -/
theorem RackRefused.reply {s u : State} (h : RackRefused s u) (b : List Nat) {st : Nat} (hst : st ≠ 0) (pay : List Nat) :
    let t := u.rackReply b st pay
    t.rck.STAT_LAST_ST = st ∧ t.rck.replyDue = true ∧ t.rck.CNT_REJECTED = satAdd 16 s.rck.CNT_REJECTED 1 ∧
      t.rck.CNT_PERFORMED = s.rck.CNT_PERFORMED ∧ t.rck.CAP = s.rck.CAP ∧ t.aut.RK_LAST = s.aut.RK_LAST ∧
      t = { s with rck := t.rck, aut := t.aut, evt := t.evt, hdr := t.hdr } := by
  obtain ⟨hrej, hperf, hcap, hlast, hrest⟩ := h
  refine ⟨rfl, rfl, ?_, hperf, hcap, hlast, ?_⟩
  · rw [rackReply_frame, ← hrej]
    exact if_neg hst
  · exact congrArg (fun v : State => { v with rck := (u.rackReply b st pay).rck, aut := (u.rackReply b st pay).aut }) hrest

/-- It may count on the rack page, -/
theorem RackRefused.onRck {s u : State} (h : RackRefused s u) (f : Rck → Rck)
    (hf : ∀ r, (f r).CNT_REJECTED = r.CNT_REJECTED ∧ (f r).CNT_PERFORMED = r.CNT_PERFORMED ∧ (f r).CAP = r.CAP) :
    RackRefused s (u.onRck f) := by
  obtain ⟨hrej, hperf, hcap, hlast, hrest⟩ := h
  obtain ⟨hrej', hperf', hcap'⟩ := hf u.rck
  exact ⟨hrej'.trans hrej, hperf'.trans hperf, hcap'.trans hcap, hlast, congrArg (fun v : State => { v with rck := f u.rck }) hrest⟩

/-- record an error, -/
theorem RackRefused.fault {s u : State} (h : RackRefused s u) (b c : Nat) (d : List Nat) : RackRefused s (u.fault pgRck b c d) := by
  obtain ⟨hrej, hperf, hcap, hlast, hrest⟩ := h
  refine ⟨by simpa using hrej, by simpa using hperf, by simpa using hcap, by simpa using hlast, ?_⟩
  rw [fault_frame]
  exact congrArg (fun v : State => { v with evt := (u.fault pgRck b c d).evt, hdr := (u.fault pgRck b c d).hdr }) hrest

/-- or set its bit alone. -/
theorem RackRefused.setErr {s u : State} (h : RackRefused s u) (b : Nat) : RackRefused s (u.setErr pgRck b) := by
  obtain ⟨hrej, hperf, hcap, hlast, hrest⟩ := h
  exact ⟨hrej, hperf, hcap, hlast, congrArg (fun v : State => { v with hdr := (u.setErr pgRck b).hdr }) hrest⟩

/-- The bit that is set. -/
theorem hasErr_setErr_self (s : State) (p : Fin 23) (b : Nat) : (s.setErr p b).hasErr p b := by
  simp [State.hasErr, State.setErr, PageHdr.withErr_bit]

/-- A request beyond its rate: counted, and its bit set. -/
theorem rackRate_refused (s : State) (typ : Nat) : RackRefused s (s.rackRate typ) ∧
    (s.rackRate typ).rck.CNT2_RATE = satAdd 16 s.rck.CNT2_RATE 1 ∧ (s.rackRate typ).hasErr pgRck 19 := by
  have hcount := (RackRefused.refl s).onRck (fun r => { r with CNT2_RATE := satAdd 16 r.CNT2_RATE 1, rateN := r.rateN + 1 })
    fun _ => ⟨rfl, rfl, rfl⟩
  have hsplit : ∃ due : Bool, s.rackRate typ =
      let u := s.onRck fun r => { r with CNT2_RATE := satAdd 16 r.CNT2_RATE 1, rateN := r.rateN + 1 }
      if due then (u.onRck fun r => { r with rateAt := some u.now, rateN := 0 }).fault pgRck 19 0x1115 [typ, sat 16 u.rck.rateN]
      else u.setErr pgRck 19 := ⟨_, rfl⟩
  obtain ⟨due, hdue⟩ := hsplit
  rw [hdue]
  dsimp only
  split
  · refine ⟨RackRefused.fault (RackRefused.onRck hcount _ ?_) _ _ _, ?_, hasErr_fault _ _ _ _ _⟩
    · exact fun _ => ⟨rfl, rfl, rfl⟩
    · simp [State.onRck]
  · exact ⟨hcount.setErr _, rfl, hasErr_setErr_self _ _ _⟩

/-- A bad check as it is counted, before it may mute the port (R440). -/
def State.rackCounted (s : State) (st : Nat) : State :=
  let l := lastSecond s s.rck.badAt ++ [s.now]
  let s := { s with aut.FAIL_CNT_RK := satAdd 16 s.aut.FAIL_CNT_RK 1 }.onRck fun r => { r with CNT3_BAD := satAdd 16 r.CNT3_BAD 1, badAt := l }
  if l.length ≤ 4 then s.fault pgRck 17 0x1112 [st] else s.setErr pgRck 17

theorem rackCounted_refused (s : State) (st : Nat) : RackRefused s (s.rackCounted st) ∧
    (s.rackCounted st).aut.FAIL_CNT_RK = satAdd 16 s.aut.FAIL_CNT_RK 1 ∧
    (s.rackCounted st).rck.CNT3_BAD = satAdd 16 s.rck.CNT3_BAD 1 ∧ (s.rackCounted st).rck.CNT3_MUTES = s.rck.CNT3_MUTES ∧
    (s.rackCounted st).now = s.now ∧ (s.rackCounted st).hasErr pgRck 17 := by
  have hcount (l : List Nat) := RackRefused.onRck (u := { s with aut.FAIL_CNT_RK := satAdd 16 s.aut.FAIL_CNT_RK 1 }) ⟨rfl, rfl, rfl, rfl, rfl⟩
    (fun r => { r with CNT3_BAD := satAdd 16 r.CNT3_BAD 1, badAt := l }) fun _ => ⟨rfl, rfl, rfl⟩
  unfold State.rackCounted
  dsimp only
  split
  · refine ⟨(hcount _).fault _ _ _, ?_, ?_, ?_, ?_, hasErr_fault _ _ _ _ _⟩ <;> simp [State.onRck]
  · exact ⟨(hcount _).setErr _, rfl, rfl, rfl, rfl, hasErr_setErr_self _ _ _⟩

/-- A bad check: counted, and the sixteenth of a second mutes the port. -/
theorem rackBad_refused (s : State) (st : Nat) : RackRefused s (s.rackBad st) ∧
    (s.rackBad st).aut.FAIL_CNT_RK = satAdd 16 s.aut.FAIL_CNT_RK 1 ∧ (s.rackBad st).rck.CNT3_BAD = satAdd 16 s.rck.CNT3_BAD 1 ∧
    (s.rackBad st).hasErr pgRck 17 ∧
    (15 ≤ (lastSecond s s.rck.badAt).length → (s.rackBad st).rck.STAT_MUTED = true ∧ (s.rackBad st).rck.muteAt = s.now ∧
      (s.rackBad st).rck.CNT3_MUTES = satAdd 16 s.rck.CNT3_MUTES 1) := by
  obtain ⟨href, hfail, hbad, hmutes, hnow, herr⟩ := rackCounted_refused s st
  have hsplit : s.rackBad st =
      if 16 ≤ (lastSecond s s.rck.badAt ++ [s.now]).length then
        ((s.rackCounted st).onRck fun r => { r with STAT_MUTED := true, muteAt := (s.rackCounted st).now, badAt := [],
                                                    CNT3_MUTES := satAdd 16 r.CNT3_MUTES 1 }).fault pgRck 18
          0x1113 [(lastSecond s s.rck.badAt ++ [s.now]).length]
      else s.rackCounted st := rfl
  rw [hsplit]
  split
  · refine ⟨RackRefused.fault (RackRefused.onRck href _ ?_) _ _ _, ?_, ?_, hasErr_fault_keeps _ _ _ _ herr, fun _ => ?_⟩
    · exact fun _ => ⟨rfl, rfl, rfl⟩
    · simpa [State.onRck] using hfail
    · simpa [State.onRck] using hbad
    · simp [State.onRck, hnow, hmutes]
  next hfew =>
    refine ⟨href, hfail, hbad, herr, fun h => absurd ?_ hfew⟩
    rw [List.length_append, List.length_singleton]
    omega

/-- A reply that is ready can be read, and an interrupt says so (R438). -/
theorem rackReplyReady_effect (s : State) :
    let t := (s.onRck fun r => { r with replyDue := false, STAT_REPLY := true }).rackIbi 0x01
    t.rck.replyDue = false ∧ t.rck.STAT_REPLY = true ∧ t.rck.reply = s.rck.reply ∧ t = { s with rck := t.rck } := by
  dsimp only
  unfold State.rackIbi
  split <;> exact ⟨rfl, rfl, rfl, rfl⟩

section

variable {s : State} {b : List Nat} (hup : rckUp s = true)
include hup

/-- A write that is no frame. -/
theorem rackRequest_unframed (h : ¬(b.length = 38 ∧ crc16 (b.take 36) = ofBytesLE (b.drop 36))) :
    s.rackRequest b =
      ((s.onRck fun r => { r with CNT2_FRAME := satAdd 16 r.CNT2_FRAME 1 }).setErr pgRck 16).rackReply b 1 noPay := by
  have hbad : b.length ≠ 38 ∨ crc16 (b.take 36) ≠ ofBytesLE (b.drop 36) := not_and_or.mp h
  simp only [State.rackRequest, hup, hbad]
  simp

variable (hframed : b.length = 38 ∧ crc16 (b.take 36) = ofBytesLE (b.drop 36))
include hframed

/-- A muted port takes nothing. -/
theorem rackRequest_muted (hmute : s.rck.STAT_MUTED = true) : s.rackRequest b = s := by
  simp [State.rackRequest, hup, hframed, hmute]

variable (hmute : s.rck.STAT_MUTED = false)
include hmute

theorem rackRequest_badFields (h : rackFields b = false) : s.rackRequest b = s.rackReply b 5 noPay := by
  simp [State.rackRequest, hup, hframed, hmute, h]

variable (hfields : rackFields b = true)
include hfields

theorem rackRequest_beyondRate (h : rackRateOk s (b.getD 0 0) = false) :
    s.rackRequest b = (s.rackRate (b.getD 0 0)).rackReply b 4 noPay := by
  unfold State.rackRequest
  simp only [hup, hframed, hmute, hfields, h]
  simp

variable (hrate : rackRateOk s (b.getD 0 0) = true) (htyp : b.getD 0 0 ≠ 1)
include hrate htyp

theorem rackRequest_unanchored (h : s.aut.STAT_ANCHORED = false) : s.rackRequest b = s.rackReply b 6 noPay := by
  unfold State.rackRequest
  simp only [hup, hframed, hmute, hfields, hrate, htyp, h]
  simp

variable (hanch : s.aut.STAT_ANCHORED = true)
include hanch

theorem rackRequest_badMac (h : rackMacOk s b = false) : s.rackRequest b = (s.rackBad 2).rackReply b 2 noPay := by
  unfold State.rackRequest
  simp only [hup, hframed, hmute, hfields, hrate, htyp, hanch, h]
  simp

theorem rackRequest_oldCounter (hmac : rackMacOk s b = true) (h : rackCtr b ≤ s.aut.RK_LAST) :
    s.rackRequest b = (s.rackBad 3).rackReply b 3 noPay := by
  have hold : ofBytesLE ((b.drop 12).take 8) ≤ s.aut.RK_LAST := h
  unfold State.rackRequest
  simp only [hup, hframed, hmute, hfields, hrate, htyp, hanch, hmac, hold]
  simp

end

end Sys2Proof.Machine
end

section
namespace Sys2Proof.Proofs

open Sys2Proof Sys2Proof.Machine

/-- Settles O59: a request performed is `rackReply_performed` after its cap, and one refused `RackRefused.reply`, check by check. -/
theorem rackRequestsRun : Obligations.RackRequestsRun := by
  unfold Obligations.RackRequestsRun
  constructor
  · intro s bs b ctr8 hb hctr
    subst hb hctr
    refine ⟨fun h => ?_, fun h => ?_, fun h => ?_, fun h => ?_, fun h => ?_⟩
    · have htyp := rackPasses_typ h
      exact ⟨_, congrArg Host.Outcome.next ((rackRequest_hello h).trans (rackPerform_hello htyp)),
        rackReply_performed htyp (by omega) (length_helloReply _ _) rfl rfl rfl, rfl, rfl, rfl⟩
    · have htyp := rackSigned_typ h
      refine ⟨_, congrArg Host.Outcome.next ((rackRequest_signed (by omega) h).trans (rackPerform_capSet htyp)),
        setRackCap_replied (s := s) htyp ?_ ?_ ?_ ?_ ?_ _⟩ <;> rfl
    · have htyp := rackSigned_typ h
      refine ⟨_, congrArg Host.Outcome.next ((rackRequest_signed (by omega) h).trans (rackPerform_capClear htyp)),
        clearRackCap_replied (s := s) htyp ?_ ?_ ?_ ?_⟩ <;> rfl
    · have htyp := rackSigned_typ h
      exact ⟨_, congrArg Host.Outcome.next ((rackRequest_signed (by omega) h).trans (rackPerform_status htyp)),
        rackReply_performed htyp (by omega) (length_statusReply _) rfl rfl rfl, rfl, rfl, rfl⟩
    · have htyp := rackSigned_typ h
      exact ⟨_, congrArg Host.Outcome.next ((rackRequest_signed (by omega) h).trans (rackPerform_events htyp)),
        rackReply_performed htyp (by omega) (length_eventsReply _) rfl rfl rfl, rfl, rfl, rfl⟩
  · intro s bs b hb hup
    subst hb
    refine ⟨fun hbad => ?_, fun hframed hmute => ?_, fun hframed hmute => ⟨fun hfields => ?_, fun hfields hrate => ?_,
      fun hfields hrate htyp => ⟨fun hanch => ?_, fun st hanch hwhy => ?_⟩⟩, fun hmute hpast => ?_, fun hdue => ?_, fun hreply hmute => ?_,
      fun hnone => ?_⟩
    · have hcount := RackRefused.setErr (RackRefused.onRck (RackRefused.refl s)
        (fun r => { r with CNT2_FRAME := satAdd 16 r.CNT2_FRAME 1 }) fun _ => ⟨rfl, rfl, rfl⟩) 16
      exact ⟨_, congrArg Host.Outcome.next (rackRequest_unframed hup hbad), hcount.reply _ (by omega) _, rfl,
        hasErr_setErr_self (s.onRck fun r => { r with CNT2_FRAME := satAdd 16 r.CNT2_FRAME 1 }) pgRck 16⟩
    · exact congrArg Host.Outcome.next (rackRequest_muted hup hframed hmute)
    · exact ⟨_, congrArg Host.Outcome.next (rackRequest_badFields hup hframed hmute hfields),
        (RackRefused.refl s).reply _ (by omega) _⟩
    · obtain ⟨href, hcount, herr⟩ := rackRate_refused s ((bs.map fun x => x.toNat).getD 0 0)
      exact ⟨_, congrArg Host.Outcome.next (rackRequest_beyondRate hup hframed hmute hfields hrate), href.reply _ (by omega) _, hcount, herr⟩
    · exact ⟨_, congrArg Host.Outcome.next (rackRequest_unanchored hup hframed hmute hfields hrate htyp hanch),
        (RackRefused.refl s).reply _ (by omega) _⟩
    · obtain ⟨href, hfail, hbad, herr, hfull⟩ := rackBad_refused s st
      have hst : st ≠ 0 := by omega
      have hrun : s.rackRequest (bs.map fun x => x.toNat) = (s.rackBad st).rackReply (bs.map fun x => x.toNat) st noPay := by
        obtain ⟨hmac, rfl⟩ | ⟨hmac, hold, rfl⟩ := hwhy
        · exact rackRequest_badMac hup hframed hmute hfields hrate htyp hanch hmac
        · exact rackRequest_oldCounter hup hframed hmute hfields hrate htyp hanch hmac hold
      exact ⟨_, congrArg Host.Outcome.next hrun, href.reply _ hst _, hfail, hbad, herr, hfull⟩
    · refine ⟨_, congrArg Host.Outcome.next (if_pos (by rw [hmute, hpast]; rfl)), ?_, ?_⟩
      · simp [State.onRck]
      · simp [State.onRck, State.eq_of_pages]
    · refine ⟨_, congrArg Host.Outcome.next (if_pos (by rw [hup, hdue]; rfl)), ?_⟩
      exact rackReplyReady_effect s
    · have hread : (s.rck.STAT_REPLY && !s.rck.STAT_MUTED) = true := by simp [hreply, hmute]
      simp [exec, execRackReplyRead, hup, hread, State.onRck]
    · have hread : (s.rck.STAT_REPLY && !s.rck.STAT_MUTED) = false := by
        rcases hnone with h | h <;> simp [h]
      simp [exec, execRackReplyRead, hup, hread, State.onRck]

/-- The bytes of a HELLO that asks for the last counter accepted, with TAG 9, without its check (R438, R439). -/
def helloHead : List Nat := [1, 9, 1, 3] ++ List.replicate 32 0

/-- The frame of that HELLO. -/
def helloFrame : Vector Byte 38 := Vector.ofFn fun i => BitVec.ofNat 8 ((helloHead ++ bytesLE 2 (crc16 helloHead)).getD i.val 0)

/-- `rackRequestsRun` applies: the HELLO is performed and counted, and a write of no bytes is no frame. -/
theorem rackLive_requests :
    (∃ t, exec (.rackHello helloFrame) rackLive = .next t ∧ t.rck.replyDue = true ∧ t.rck.CNT_PERFORMED = 1) ∧
      ∃ t, exec (.rackBadReq []) rackLive = .next t ∧ t.rck.STAT_LAST_ST = 1 ∧ t.rck.CNT2_FRAME = 1 := by
  obtain ⟨performed, refused⟩ := rackRequestsRun
  have hpasses : rackPasses rackLive (rackBytes helloFrame) 1 = true := by decide +kernel
  obtain ⟨hhello, -⟩ := performed rackLive helloFrame _ _ rfl rfl
  obtain ⟨t, run, ⟨hdue, -, -, -, hcount, -⟩, -⟩ := hhello hpasses
  obtain ⟨hunframed, -⟩ := refused rackLive [] _ rfl rfl
  obtain ⟨u, run', ⟨hst, -⟩, hframe, -⟩ := hunframed (by simp)
  exact ⟨⟨t, run, hdue, hcount⟩, u, run', hst, hframe⟩

end Sys2Proof.Proofs
end

section
/-! PROOFS. Policy: load, commit, activation and abort, and how they end (R462, R467 to R472). -/

namespace Sys2Proof.Machine

open Sys2Proof

/-! ### The header bits that a load changes -/

theorem ErrorsArrive.lock {s t : State} (h : ErrorsArrive s t) (p : Fin 23) :
    t.hdr[p].lock = s.hdr[p].lock ∧ t.hdr[p].lockSrc = s.hdr[p].lockSrc :=
  ⟨(congrArg PageHdr.lock (h.sansErr p) :), (congrArg PageHdr.lockSrc (h.sansErr p) :)⟩

/-- An event leaves the locks alone (R506). -/
theorem event_lock (s : State) (c : Nat) (d : List Nat) (p : Fin 23) :
    (s.event c d).hdr[p].lock = s.hdr[p].lock ∧ (s.event c d).hdr[p].lockSrc = s.hdr[p].lockSrc :=
  ((ErrorsArrive.of_hdr rfl).event c d).lock p

theorem ErrorsArrive.refl (s : State) : ErrorsArrive s s := .of_hdr rfl

/-- An ACT notice (R422). -/
theorem ErrorsArrive.notice {s t : State} (k sb v : Nat) (h : ErrorsArrive s t) : ErrorsArrive s (t.notice k sb v) :=
  h.trans ⟨notice_sansErr _ _ _ _, fun _ _ => hasErr_notice k sb v⟩

/-- The page locks cleared, and nothing else (R116). -/
theorem unlockPages_lock (s : State) (p : Fin 23) : s.unlockPages.hdr[p].lock = false ∧ s.unlockPages.hdr[p].lockSrc = false := by
  simp [State.unlockPages]

theorem unlockPages_busy (s : State) (p : Fin 23) : s.unlockPages.hdr[p].busy = s.hdr[p].busy := by
  simp [State.unlockPages]

/-- A state shown after a load ends changes what it shows, and its notices (R422, R477). -/
theorem settle_load_frame {s u : State}
    (h : u = { s with seq := u.seq, mbs := u.mbs, mbn := u.mbn, rck := u.rck, evt := u.evt, hdr := u.hdr, stg := u.stg }) (n : Nat) :
    let t := u.settle n
    t = { s with seq := t.seq, mbs := t.mbs, mbn := t.mbn, rck := t.rck, evt := t.evt, hdr := t.hdr, stg := t.stg } := by
  have hstg : (u.settle n).stg = u.stg := by simp
  dsimp only
  rw [hstg]
  exact (settle_frame u n).trans (congrArg (fun w : State =>
    { w with seq := (u.settle n).seq, mbs := (u.settle n).mbs, mbn := (u.settle n).mbn, rck := (u.settle n).rck,
             evt := (u.settle n).evt, hdr := (u.settle n).hdr }) h)

/-! ### A write of SEQ_CMD (R463) -/

/-- What a write of SEQ_CMD does: the operation that it names, on the state without the lower word that it discards. -/
theorem hostWrite_seqCmd {s t : State} {op : Nat} {acc : HostAcc} (ha : hostAccepts s (regAddr 1 0x48) op acc = true)
    (h : writeSeq { s with pairLo := (s.dropPair (regAddr 1 0x48)).pairLo } 0x48 op = (t, 0)) :
    hostWrite s (regAddr 1 0x48) op acc = { t with hst := answer 0 } :=
  hostWrite_of_writeReg (p := pgSeq) (off := 0x48) (by decide) (by decide) ha h

/-- An operation that does not read the discarded word does the same without it. -/
theorem exec_seqCmd {s t : State} {op : Nat} {acc : HostAcc} {c : Instr} (f : State → State)
    (hc : exec c s = .next (hostWrite s (regAddr 1 0x48) op acc)) (ha : hostAccepts s (regAddr 1 0x48) op acc = true)
    (hop : ∀ u, writeSeq u 0x48 op = (f u, 0)) (hf : f { s with pairLo := (s.dropPair (regAddr 1 0x48)).pairLo } = t) :
    exec c s = .next { t with hst := answer 0 } := by
  rw [hc, hostWrite_seqCmd ha ((hop _).trans (congrArg (·, 0) hf))]

/-! ### Load (R462, R472) -/

/-- A LOAD whose checks fail reports the first of them, and is counted. -/
theorem loadCmd_refused {s : State} {st : Nat} (h : loadRefusal s = some st) :
    let t := s.loadCmd
    t.seq = { s.seq with CMD_ST_OP := 1, CMD_ST_ST := st, CNT_REFUSED := satAdd 16 s.seq.CNT_REFUSED 1 } ∧ t.hasErr pgSeq 17 ∧
      t = { s with seq := t.seq, evt := t.evt, hdr := t.hdr } := by
  unfold State.loadCmd
  rw [h]
  refine ⟨?_, hasErr_fault _ _ _ _ _, ?_⟩
  · dsimp only
    split <;> simp [State.cmdSt, State.seqRefused]
  · dsimp only
    split <;> simp [State.cmdSt, State.seqRefused, State.eq_of_pages]

/-- The checks that a LOAD asks for where a load may open. -/
theorem loadRefusal_none {s : State} (h : shownState s = stSafe ∨ (2 ≤ shownState s ∧ shownState s ≤ 4)) (hlive : s.seq.STATE_LIVE_LOAD = false)
    (hcheck : loadCheck s = none) : loadRefusal s = none := by
  rw [loadRefusal, if_pos ⟨h, hlive⟩, hcheck]

/-- SAFE is shown outside TRIPPED and EMERGENCY alone (R45). -/
theorem not_tripped_of_safe {s : State} (h : shownState s = stSafe) : s.seq.tripped = false ∧ s.beam.inEmg = false := by
  unfold shownState at h
  split at h
  · contradiction
  split at h
  · contradiction
  next htrip hemg => exact ⟨Bool.not_eq_true _ ▸ htrip, Bool.not_eq_true _ ▸ hemg⟩

/-- From SAFE the block enters LOADING. -/
theorem loadCmd_safe {s : State} (hbase : s.seq.base = .safe) (hshown : shownState s = stSafe) (h : loadRefusal s = none) :
    let t := s.loadCmd
    t.seq = { s.seq with CMD_ST_OP := 1, CMD_ST_ST := 0, base := .loading, shown := stLoading } ∧
      t.mbs.quiet = s.mbs.quiet ∧ t.mbn.quiet = s.mbn.quiet ∧
      t = { s with seq := t.seq, mbs := t.mbs, mbn := t.mbn, rck := t.rck, evt := t.evt, hdr := t.hdr } := by
  have hq (u : State) (n : Nat) : (u.settle n).mbs.quiet = u.mbs.quiet ∧ (u.settle n).mbn.quiet = u.mbn.quiet :=
    ⟨settle_quiet u .mbs n, settle_quiet u .mbn n⟩
  have htrip := not_tripped_of_safe hshown
  have hload : s.loadCmd = { (s.cmdSt 1 0).event 0x0111 with seq.base := .loading }.settle 0 := by
    unfold State.loadCmd
    rw [h]
    exact if_pos (by simpa [State.cmdSt] using hbase)
  rw [hload]
  refine ⟨?_, ?_, ?_, ?_⟩
  · simp [State.cmdSt, shownState, htrip]
  · rw [(hq _ _).1]
    simp [State.cmdSt]
  · rw [(hq _ _).2]
    simp [State.cmdSt]
  · simp [State.cmdSt, State.eq_of_pages]

/-- From RUN, DEGRADED or ORPHAN it opens a live load, and the page locks clear. -/
theorem loadCmd_live {s : State} (hbase : s.seq.base = .running) (h : loadRefusal s = none) :
    let t := s.loadCmd
    t.seq = { s.seq with CMD_ST_OP := 1, CMD_ST_ST := 0, STATE_LIVE_LOAD := true } ∧
      (∀ p : Fin 23, t.hdr[p].lock = false ∧ t.hdr[p].lockSrc = false) ∧ t = { s with seq := t.seq, evt := t.evt, hdr := t.hdr } := by
  have hload : s.loadCmd = { (s.cmdSt 1 0).event 0x0111 with seq.STATE_LIVE_LOAD := true }.unlockPages := by
    unfold State.loadCmd
    rw [h]
    exact if_neg (by simp [State.cmdSt, hbase])
  rw [hload]
  refine ⟨?_, unlockPages_lock _, ?_⟩
  · simp [State.cmdSt]
  · simp [State.cmdSt, State.eq_of_pages]

/-! ### Commit, activation and abort (R467 to R471) -/

/-- A commit starts while a load is open and none runs. -/
theorem commitCmd_starts {s : State} (hopen : loadOpen s = true) (hidle : s.hdr[pgSeq].busy = false) :
    s.commitCmd = { s with seq := { s.seq with CMD_ST_OP := 2, CMD_ST_ST := 0x01 },
                           hdr := s.hdr.set pgSeq { s.hdr[pgSeq] with busy := true } } := by
  rw [State.commitCmd, if_pos (by rw [hopen, hidle]; rfl)]
  rfl

theorem commitCmd_refused {s : State} (h : loadOpen s = false ∨ s.hdr[pgSeq].busy = true) :
    s.commitCmd = { s with seq := { s.seq with CMD_ST_OP := 2, CMD_ST_ST := 0x16, CNT_REFUSED := satAdd 16 s.seq.CNT_REFUSED 1 } } := by
  rw [State.commitCmd, if_neg (by rcases h with h | h <;> rw [h] <;> simp)]
  rfl

/-- An activation pends on a committed image, from this instant on. -/
theorem activateCmd_pends {s : State} (hopen : loadOpen s = true) (hcom : s.seq.STATE_COMMITTED = true)
    (hidle : s.hdr[pgSeq].busy = false) (hnone : s.seq.STATE_ACT_PEND = false) :
    s.activateCmd = { s with seq := { s.seq with CMD_ST_OP := 3, CMD_ST_ST := 0x01, STATE_ACT_PEND := true, actAt := s.now,
                                                 deferred := false } } := by
  rw [State.activateCmd, if_pos (by rw [hopen, hcom, hidle]; rfl), if_neg (by simp [hnone])]
  rfl

theorem activateCmd_refused {s : State} (h : loadOpen s = false ∨ s.seq.STATE_COMMITTED = false ∨ s.hdr[pgSeq].busy = true) :
    s.activateCmd = { s with seq := { s.seq with CMD_ST_OP := 3, CMD_ST_ST := 0x16, CNT_REFUSED := satAdd 16 s.seq.CNT_REFUSED 1 } } := by
  rw [State.activateCmd, if_neg (by rcases h with h | h | h <;> rw [h] <;> simp)]
  rfl

/-- A load that is abandoned: nothing pends, no image is committed, and LOADING goes back to SAFE (R46, R471). -/
theorem abandonLoad_effect (s : State) (st : Nat) :
    let t := s.abandonLoad st
    t.seq = { s.seq with CMD_ST_ST := st, STATE_ACT_PEND := false, STATE_COMMITTED := false, deferred := false,
                         base := if s.seq.base = .loading then .safe else s.seq.base,
                         STATE_LIVE_LOAD := if s.seq.base = .loading then s.seq.STATE_LIVE_LOAD else false } ∧
      t.stg = { s.stg with img := none } ∧ t.hdr[pgSeq].busy = false ∧ (s.seq.base = .loading → ∀ p : Fin 23, t.hdr[p].lock = false) ∧
      t = { s with seq := t.seq, evt := t.evt, hdr := t.hdr, stg := t.stg } := by
  have hbusy (u : State) : ((u.setBusy pgSeq false).event 0x0112 [st]).hdr[pgSeq].busy = false :=
    (((ErrorsArrive.refl (u.setBusy pgSeq false)).event 0x0112 [st]).busy pgSeq).trans (by simp [State.setBusy, State.hdrMod])
  unfold State.abandonLoad
  dsimp only
  split
  next hload =>
    have hbase : s.seq.base = .loading := by simpa using hload
    refine ⟨?_, ?_, (unlockPages_busy _ _).trans (hbusy _), fun _ p => (unlockPages_lock _ p).1, ?_⟩
    · simp [State.enterSafe, hbase]
    · simp [State.enterSafe]
    · simp [State.enterSafe, State.eq_of_pages]
  next hload =>
    have hbase : s.seq.base ≠ .loading := by simpa using hload
    refine ⟨?_, ?_, hbusy _, fun h => absurd h hbase, ?_⟩
    · simp [hbase]
    · simp
    · simp

/-- ABORT abandons the load that is open, and the state shown follows. -/
theorem abortCmd_effect {s : State} (hopen : loadOpen s = true) :
    let t := s.abortCmd
    t.seq = { s.seq with CMD_ST_OP := 4, CMD_ST_ST := 0x51, STATE_ACT_PEND := false, STATE_COMMITTED := false, deferred := false,
                         base := if s.seq.base = .loading then .safe else s.seq.base,
                         STATE_LIVE_LOAD := if s.seq.base = .loading then s.seq.STATE_LIVE_LOAD else false,
                         shown := t.seq.shown } ∧
      t.stg = { s.stg with img := none } ∧ t.hdr[pgSeq].busy = false ∧ (s.seq.base = .loading → ∀ p : Fin 23, t.hdr[p].lock = false) ∧
      t.mbs.quiet = s.mbs.quiet ∧ t.mbn.quiet = s.mbn.quiet ∧
      t = { s with seq := t.seq, mbs := t.mbs, mbn := t.mbn, rck := t.rck, evt := t.evt, hdr := t.hdr, stg := t.stg } := by
  have hcmd : s.abortCmd = ((s.cmdSt 4 0x51).abandonLoad 0x51).settle 0 := if_pos hopen
  obtain ⟨hseq, hstg, hbusy, hlock, hrest⟩ := abandonLoad_effect (s.cmdSt 4 0x51) 0x51
  rw [hcmd]
  generalize (s.cmdSt 4 0x51).abandonLoad 0x51 = u at *
  have harrive := (ErrorsArrive.refl u).settle 0
  have hboxes : u.mbs = s.mbs ∧ u.mbn = s.mbn := by
    rw [hrest]
    exact ⟨rfl, rfl⟩
  have hrck : u.rck = s.rck := by
    rw [hrest]
    rfl
  refine ⟨?_, by simpa using hstg, (harrive.busy pgSeq).trans hbusy, fun hload p => (harrive.lock p).1.trans (hlock hload p), ?_, ?_, ?_⟩
  · rw [settle_seq, hseq]
    rfl
  · exact (settle_quiet u .mbs 0).trans (congrArg Mbx.quiet hboxes.1)
  · exact (settle_quiet u .mbn 0).trans (congrArg Mbx.quiet hboxes.2)
  · exact settle_load_frame (hrest.trans (by simp [State.cmdSt, hboxes, hrck])) 0

/-- Without one it reports 0x16. -/
theorem abortCmd_of_closed {s : State} (hclosed : loadOpen s = false) :
    s.abortCmd = { s with seq := { s.seq with CMD_ST_OP := 4, CMD_ST_ST := 0x16 } } := by
  rw [State.abortCmd, if_neg (by simp [hclosed])]
  rfl

/-! ### The end of a commit (R467, R468) -/

/-- A commit that fails: its code, nothing committed, and the load at an end. -/
theorem commitFailed_effect (s : State) (st : Nat) :
    let t := s.commitFailed st
    t.seq = { s.seq with CMD_ST_OP := 2, CMD_ST_ST := st, CNT_REFUSED := satAdd 16 s.seq.CNT_REFUSED 1, STATE_COMMITTED := false,
                         STATE_ACT_PEND := false, base := if s.seq.base = .loading then .safe else s.seq.base,
                         STATE_LIVE_LOAD := if s.seq.base = .loading then s.seq.STATE_LIVE_LOAD else false, shown := t.seq.shown } ∧
      t.stg = { s.stg with img := none } ∧
      t = { s with seq := t.seq, mbs := t.mbs, mbn := t.mbn, rck := t.rck, evt := t.evt, hdr := t.hdr, stg := t.stg } := by
  unfold State.commitFailed
  dsimp only
  split
  next hload =>
    have hbase : s.seq.base = .loading := by simpa [State.cmdSt, State.seqRefused] using hload
    refine ⟨?_, ?_, ?_⟩
    · simp [State.enterSafe, State.cmdSt, State.seqRefused, hbase]
    · simp [State.enterSafe, State.cmdSt, State.seqRefused]
    · simp [State.enterSafe, State.cmdSt, State.seqRefused, State.eq_of_pages]
  next hload =>
    have hbase : s.seq.base ≠ .loading := by simpa [State.cmdSt, State.seqRefused] using hload
    refine ⟨?_, ?_, ?_⟩
    · simp [State.cmdSt, State.seqRefused, hbase]
    · simp [State.cmdSt, State.seqRefused]
    · simp [State.cmdSt, State.seqRefused]

/-- A commit that succeeds: the image committed, the shadow bank taken, and every page locked (R116, R251, R467). -/
theorem commitDone_effect (s : State) :
    let t := s.commitDone
    t.seq.CMD_ST_OP = 2 ∧ t.seq.CMD_ST_ST = 0 ∧ t.seq.STATE_COMMITTED = true ∧ t.seq.base = s.seq.base ∧ t.ctl.BANK_PENDING = true ∧
      (∀ p : Fin 23, t.hdr[p].lock = true ∧ t.hdr[p].lockSrc = true) ∧ t.stg.img.isSome = true ∧ t.stg.mem = s.stg.mem ∧
      t = { s with seq := t.seq, ctl := t.ctl, evt := t.evt, hdr := t.hdr, stg := t.stg } := by
  have hshadow (u : State) (im : Image) : (u.loadShadow im).ctl.BANK_PENDING = true := by
    unfold State.loadShadow
    split <;> rfl
  unfold State.commitDone
  dsimp only
  refine ⟨?_, ?_, ?_, ?_, ?_, fun p => ?_, ?_, ?_, ?_⟩
  · simp [State.cmdSt]
  · simp [State.cmdSt]
  · simp [State.cmdSt]
  · simp [State.cmdSt]
  · simp [State.cmdSt, hshadow]
  · obtain ⟨hlock, hsrc⟩ := event_lock _ 0x0113 _ p
    exact ⟨hlock.trans (by simp [State.cmdSt, State.lockPages]), hsrc.trans (by simp [State.cmdSt, State.lockPages])⟩
  · simp [State.cmdSt]
  · simp [State.cmdSt]
  · simp [State.cmdSt, State.eq_of_pages]

/-- An activation that is refused: nothing pends, nothing is committed, and the load is abandoned as the state allows (R470, R486). -/
theorem activationRefused_effect (s : State) (st : Nat) :
    let t := s.activationRefused st
    t.seq.STATE_ACT_PEND = false ∧ t.seq.STATE_COMMITTED = false ∧ t.seq.ACT_ST_ST = st ∧
      t.seq.CNT_REFUSED = satAdd 16 s.seq.CNT_REFUSED 1 ∧ t.stg = { s.stg with img := none } ∧
      (s.seq.base ≠ .loading → t.seq.base = s.seq.base ∧ t.seq.STATE_LIVE_LOAD = false) ∧
      (s.seq.base = .loading → s.seq.tripped = false → s.beam.inEmg = false → t.seq.base = .safe) ∧
      (s.seq.base = .loading → s.seq.tripped = false → s.beam.inEmg = true → t.seq.base = .loading ∧ t.seq.abandon = true) ∧
      t = { s with seq := t.seq, mbs := t.mbs, mbn := t.mbn, rck := t.rck, evt := t.evt, hdr := t.hdr, stg := t.stg } := by
  unfold State.activationRefused
  dsimp only
  split
  next hload =>
    have hbase : s.seq.base = .loading := by simpa [State.seqRefused, State.actNotice] using hload
    split
    next htrip =>
      have htrip' : s.seq.tripped = true := by simpa [State.seqRefused, State.actNotice] using htrip
      simp [State.seqRefused, State.actNotice, State.eq_of_pages, hbase, htrip']
    split
    next _ hemg =>
      have hemg' : s.beam.inEmg = true := by simpa [State.seqRefused, State.actNotice] using hemg
      simp [State.seqRefused, State.actNotice, hbase, hemg']
    next _ hemg =>
      have hemg' : s.beam.inEmg = false := by simpa [State.seqRefused, State.actNotice] using hemg
      simp [State.seqRefused, State.actNotice, State.enterSafe, State.eq_of_pages, hbase, hemg']
  next hload =>
    have hbase : s.seq.base ≠ .loading := by simpa [State.seqRefused, State.actNotice] using hload
    simp [State.seqRefused, State.actNotice, hbase]

end Sys2Proof.Machine
end

section
namespace Sys2Proof.Proofs

open Sys2Proof Sys2Proof.Machine

/-- Settles O14: a LOAD that is refused is `loadCmd_refused`, and one that opens `loadCmd_safe` or `loadCmd_live`. -/
theorem loadOpens : Obligations.LoadOpens := by
  unfold Obligations.LoadOpens
  intro s acc ha
  have hexec {t : State} := exec_seqCmd (s := s) (t := t) (c := .seqLoad acc) State.loadCmd rfl ha fun _ => rfl
  refine ⟨fun hbase hshown hlive hcheck => ?_, fun hbase hlo hhi hlive hcheck => ?_, fun st hst => ?_⟩
  · obtain ⟨hseq, hmbs, hmbn, hrest⟩ := loadCmd_safe (s := { s with pairLo := (s.dropPair (regAddr 1 0x48)).pairLo }) hbase hshown
      (loadRefusal_none (.inl hshown) hlive hcheck)
    exact ⟨_, hexec rfl, hseq, hmbs, hmbn, congrArg (fun u : State => { u with hst := answer 0 }) hrest⟩
  · obtain ⟨hseq, hlock, hrest⟩ := loadCmd_live (s := { s with pairLo := (s.dropPair (regAddr 1 0x48)).pairLo }) hbase
      (loadRefusal_none (.inr ⟨hlo, hhi⟩) hlive hcheck)
    exact ⟨_, hexec rfl, hseq, hlock, congrArg (fun u : State => { u with hst := answer 0 }) hrest⟩
  · obtain ⟨hseq, herr, hrest⟩ := loadCmd_refused (s := { s with pairLo := (s.dropPair (regAddr 1 0x48)).pairLo }) hst
    exact ⟨_, hexec rfl, hseq, herr, congrArg (fun u : State => { u with hst := answer 0 }) hrest⟩

/-- Settles O15: COMMIT and ACTIVATE start or are refused, and ABORT is `abandonLoad_effect`. -/
theorem commitActivateAbort : Obligations.CommitActivateAbort := by
  unfold Obligations.CommitActivateAbort
  intro s acc
  refine ⟨fun ha => ?_, fun ha => ?_, fun ha => ?_⟩
  · have hexec {t : State} := exec_seqCmd (s := s) (t := t) (c := .seqCommit acc) State.commitCmd rfl ha fun _ => rfl
    exact ⟨fun hopen hidle => hexec (commitCmd_starts hopen hidle), fun h => hexec (commitCmd_refused h)⟩
  · have hexec {t : State} := exec_seqCmd (s := s) (t := t) (c := .seqActivate acc) State.activateCmd rfl ha fun _ => rfl
    exact ⟨fun hopen hcom hidle hnone => hexec (activateCmd_pends hopen hcom hidle hnone), fun h => hexec (activateCmd_refused h)⟩
  · have hexec {t : State} := exec_seqCmd (s := s) (t := t) (c := .seqAbort acc) State.abortCmd rfl ha fun _ => rfl
    refine ⟨fun hopen => ?_, fun hclosed => ?_⟩
    · obtain ⟨hseq, hstg, hbusy, hlock, hmbs, hmbn, hrest⟩ :=
        abortCmd_effect (s := { s with pairLo := (s.dropPair (regAddr 1 0x48)).pairLo }) hopen
      exact ⟨_, hexec rfl, hseq, hstg, hbusy, hlock, hmbs, hmbn, congrArg (fun u : State => { u with hst := answer 0 }) hrest⟩
    · exact hexec (abortCmd_of_closed hclosed)

/-- Settles O34: a commit that ends is `commitFailed_effect` or `commitDone_effect`, and an activation that pends too long
`activationRefused_effect`. -/
theorem commitsAndActivationsEnd : Obligations.CommitsAndActivationsEnd := by
  unfold Obligations.CommitsAndActivationsEnd
  constructor
  · intro s us hbusy hopen u
    have hexec {t : State} (h : (match commitCheck u with | some st => u.commitFailed st | none => u.commitDone) = t) :
        exec (.commitEnd us) s = .next t := by
      subst h
      exact congrArg Host.Outcome.next (if_pos (by rw [hbusy, hopen]; rfl))
    refine ⟨fun st hst => ?_, fun hnone => ?_⟩
    · obtain ⟨hseq, hstg, hrest⟩ := commitFailed_effect u st
      refine ⟨_, hexec (by rw [hst]), congrArg Seq.CMD_ST_OP hseq, congrArg Seq.CMD_ST_ST hseq, congrArg Seq.STATE_COMMITTED hseq,
        congrArg Seq.STATE_ACT_PEND hseq, congrArg Seq.COMMIT_T hseq, congrArg Seq.CNT_REFUSED hseq, fun hload => ?_, fun hload => ⟨?_, ?_⟩,
        hstg, hrest⟩
      · exact (congrArg Seq.base hseq).trans (if_pos hload)
      · exact (congrArg Seq.base hseq).trans (if_neg hload)
      · exact (congrArg Seq.STATE_LIVE_LOAD hseq).trans (if_neg hload)
    · obtain ⟨hop, hst, hcom, hbase, hbank, hlock, himg, hmem, hrest⟩ := commitDone_effect u
      exact ⟨_, hexec (by rw [hnone]), hop, hst, hcom, hbase, hbank, hlock, himg, hmem, hrest⟩
  · intro s hpend hpast
    have hdue : (s.seq.STATE_ACT_PEND && s.after s.seq.actAt (s.seq.ACT_TIMEOUT * ticksPerMs)) = true := by
      rw [hpend]
      exact after_of_le hpast
    exact ⟨_, congrArg Host.Outcome.next (if_pos hdue), activationRefused_effect s 0x41⟩

/-- The reset state with a live port, its self-test done, its frame formed and a driver of version 3: the checks of a load are met. -/
def loadable : State :=
  { liveReset with rst.SELFTEST_DONE := true, frm.FORM_STATE := 2, seq.DRV_VER := 3, beam.STATE_BUILTIN := false }

/-- A write of an operation to SEQ_CMD, both parity bits right (R98). -/
def seqCmdAcc (op : Nat) : HostAcc := { sec := true, apar := addrPar (regAddr 1 0x48) true true, wpar := evenPar 32 op }

/-- `loadOpens` applies: a driver without its version is refused with 0x10. -/
theorem reset_refuses_load : ∃ t, exec (.seqLoad (seqCmdAcc 1)) liveReset = .next t ∧ t.seq.CMD_ST_ST = 0x10 := by
  obtain ⟨-, -, refused⟩ := loadOpens liveReset (seqCmdAcc 1) (by decide)
  obtain ⟨t, run, hseq, -⟩ := refused 0x10 (by decide)
  exact ⟨t, run, congrArg Seq.CMD_ST_ST hseq⟩

/-- The reset state in LOADING, with an image committed. -/
def loadingState : State := { liveReset with seq.base := .loading, seq.STATE_COMMITTED := true }

/-- `commitActivateAbort` applies: in LOADING a commit starts, an activation of the committed image pends, and an abort goes back to
SAFE. -/
theorem loadingState_commands :
    (∃ t, exec (.seqCommit (seqCmdAcc 2)) loadingState = .next t ∧ t.seq.CMD_ST_ST = 0x01) ∧
    (∃ t, exec (.seqActivate (seqCmdAcc 3)) loadingState = .next t ∧ t.seq.STATE_ACT_PEND = true) ∧
    ∃ t, exec (.seqAbort (seqCmdAcc 4)) loadingState = .next t ∧ t.seq.base = .safe := by
  obtain ⟨commit, activate, abort⟩ := commitActivateAbort loadingState (seqCmdAcc 2)
  obtain ⟨-, activate, -⟩ := commitActivateAbort loadingState (seqCmdAcc 3)
  obtain ⟨-, -, abort⟩ := commitActivateAbort loadingState (seqCmdAcc 4)
  obtain ⟨t, run, hseq, -⟩ := (abort (by decide)).1 rfl
  exact ⟨⟨_, (commit (by decide)).1 rfl rfl, rfl⟩, ⟨_, (activate (by decide)).1 rfl rfl rfl rfl, rfl⟩, t, run,
    congrArg Seq.base hseq⟩

/-- `commitsAndActivationsEnd` applies: a commit of an empty staging fails, and an activation asked for at tick 0 with no time left is
refused. -/
theorem commit_of_nothing_fails :
    (∃ st t, exec (.commitEnd 5) { loadingState with hdr := loadingState.hdr.set pgSeq { busy := true } } = .next t ∧
      t.seq.CMD_ST_ST = st ∧ t.seq.base = .safe) ∧
    ∃ t, exec .activationTimeout { loadingState with seq.STATE_ACT_PEND := true, seq.ACT_TIMEOUT := 0 } = .next t ∧
      t.seq.ACT_ST_ST = 0x41 := by
  obtain ⟨commits, activations⟩ := commitsAndActivationsEnd
  obtain ⟨failed, -⟩ := commits { loadingState with hdr := loadingState.hdr.set pgSeq { busy := true } } 5 (by simp) rfl
  obtain ⟨t, run, -, hst, -, -, -, -, hbase, -⟩ := failed 0x20 (by decide)
  obtain ⟨u, run', -, -, hact, -⟩ := activations { loadingState with seq.STATE_ACT_PEND := true, seq.ACT_TIMEOUT := 0 } rfl (by decide)
  exact ⟨⟨0x20, t, run, hst, hbase rfl⟩, u, run', hact⟩

end Sys2Proof.Proofs
end

section
/-! PROOFS. The recorder and the telemetry stream (R506 to R525): what an event leaves alone, the slots, the window, freezing, the erase,
and the records of the stream. -/

namespace Sys2Proof.Machine

open Sys2Proof

/-! ### What an event leaves alone (R506 to R516) -/

/-- The EVT page without the input queue, its drops and the counts of a millisecond: what an event leaves alone. -/
def Evt.still (e : Evt) : Evt :=
  { e with queue := [], supp := [], DROP_ALW := 0, DROP_ORD := 0, dropOrd := 0, dropAlw := 0, lastAlw := 0, alwCnt := 0 }

@[simp] theorem enqueue_still (s : State) (c : Nat) (suppr : Bool) (d : List Nat) : (s.enqueue c suppr d).evt.still = s.evt.still := by
  unfold State.enqueue
  dsimp only
  (repeat' split) <;> rfl

@[simp] theorem event_still (s : State) (c : Nat) (d : List Nat) : (s.event c d).evt.still = s.evt.still := by
  unfold State.event
  dsimp only
  split
  · rfl
  split
  · exact enqueue_still ..
  split
  · exact enqueue_still ..
  · rfl

@[simp] theorem fault_still (s : State) (p : Fin 23) (b c : Nat) (d : List Nat) : (s.fault p b c d).evt.still = s.evt.still := by
  unfold State.fault
  dsimp only
  split
  · rfl
  · exact event_still ..

/-! ### The slots (R506, R512, R514) -/

/-- The usable slots follow from the rows that are out of use alone (R512). -/
theorem usableFrom_congr {s t : State} (h : t.evt.outRows = s.evt.outRows) (n k : Nat) : usableFrom t n k = usableFrom s n k := by
  induction n generalizing k with
  | zero => rfl
  | succ n ih =>
    have hout : slotOut t (k % 4096) = slotOut s (k % 4096) := by simp [slotOut, h]
    simp only [usableFrom, hout, ih]

theorem nextSlot_congr {s t : State} (h : t.evt.outRows = s.evt.outRows) (k : Nat) : nextSlot t k = nextSlot s k := by
  rw [nextSlot, nextSlot, usableFrom_congr h, h]

theorem resSlot_congr {s t : State} (h : t.evt.outRows = s.evt.outRows) (j k : Nat) : resSlot t j k = resSlot s j k := by
  induction j generalizing k with
  | zero => simp only [resSlot, usableFrom_congr h, h]
  | succ j ih => simp only [resSlot, usableFrom_congr h, nextSlot_congr h, ih, h]

/-! ### Freezing (R514) -/

/-- A recorder that is frozen stays as it is. -/
theorem freeze_of_frozen {s : State} (h : s.evt.STAT_FROZEN = true) (cause : Nat) : s.freeze cause = s := if_pos h

/-- A recorder that freezes holds its cause and the slot that the next write would have taken. -/
theorem freeze_effect {s : State} (h : s.evt.STAT_FROZEN = false) (cause : Nat) :
    (s.freeze cause).evt.still = { s.evt.still with
      STAT_FROZEN := true, FRZ_CAUSE := cause, CAP_RES_NEXT := 0, lastRes := none,
      FRZ_FRZ_SLOT := usableFrom s (2 * s.evt.outRows.length) s.evt.STAT_WR } ∧
    (s.freeze cause).hasErr pgEvt 18 := by
  rw [State.freeze, if_neg (by simp [h])]
  exact ⟨fault_still .., hasErr_fault ..⟩

/-- A freeze is on the EVT page and in its header. -/
theorem freeze_frame (s : State) (cause : Nat) : s.freeze cause = { s with evt := (s.freeze cause).evt, hdr := (s.freeze cause).hdr } := by
  unfold State.freeze
  split
  · rfl
  · simp [State.eq_of_pages]

/-- The window copies the slot that is asked for (R520). -/
theorem copySlot_effect (s : State) (k : Nat) :
    ∃ bad, (bad = true ↔ memRead 0 s.evt.slots k >>> 248 = 0xA5 ∧
        crc8 (bytesLE 30 (memRead 0 s.evt.slots k)) ≠ bitsOf (memRead 0 s.evt.slots k) 240 8) ∧
      (∀ j : Fin 8, (s.copySlot k).evt.rd[j].RD_D = bitsOf (memRead 0 s.evt.slots k) (32 * j.val) 32) ∧
      (s.copySlot k).evt = { s.evt with
        RD_SEL := k, rdSlot := some k, rd := (s.copySlot k).evt.rd, RD_STAT_STALE := false, RD_STAT_CHK_BAD := bad,
        RD_STAT_CHK_CNT := if bad then satAdd 16 s.evt.RD_STAT_CHK_CNT 1 else s.evt.RD_STAT_CHK_CNT } ∧
      s.copySlot k = { s with evt := (s.copySlot k).evt } := by
  refine ⟨_, ?_, fun j => ?_, rfl, rfl⟩
  · rw [Bool.and_eq_true, decide_eq_true_eq, decide_eq_true_eq]
  · simp [State.copySlot]

/-! ### Writes of the EVT page (R514, R520, R528) -/

theorem writeEvt_rdSel (s : State) (data : Nat) : writeReg s pgEvt 0x60 data = (s.copySlot (data % 4096), 0) := by
  simp [writeReg, writeEvt, bitsOf_eq_div_mod]

theorem writeEvt_cfg (s : State) (data : Nat) : writeReg s pgEvt 0x40 data = (s.writeEvtCfg data, 0) := rfl

/-- The fields of EVT_CFG as written, before they act. -/
def State.evtCfg (s : State) (w : Nat) : State :=
  { s with evt.CFG_MODE := bitAt w 0, evt.CFG_TRIP_FREEZE := bitAt w 1, evt.CFG_FREEZE := bitAt w 2, evt.CFG_SUPP_LIM := bitsOf w 8 8 }

theorem writeEvtCfg_freeze (s : State) {w : Nat} (h : w.testBit 2 = true) : s.writeEvtCfg w = (s.evtCfg w).freeze 3 := if_pos h

theorem writeEvtCfg_unfreeze (s : State) {w : Nat} (h0 : w.testBit 0 = false) (h2 : w.testBit 2 = false) :
    s.writeEvtCfg w = (s.evtCfg w).unfreeze := by
  have hf : bitAt w 2 = false := h2
  have hm : bitAt w 0 = false := h0
  simp [State.writeEvtCfg, State.evtCfg, hf, hm]

/-- The recorder resumes at the slot after the last reserve slot written (R514). -/
theorem unfreeze_effect (s : State) :
    s.unfreeze.evt.STAT_FROZEN = false ∧ s.unfreeze.evt.slots = s.evt.slots ∧
      (s.evt.STAT_FROZEN = true → (∀ k, s.evt.lastRes = some k → s.unfreeze.evt.STAT_WR = nextSlot s k) ∧
        (s.evt.lastRes = none → s.unfreeze.evt.STAT_WR = s.evt.FRZ_FRZ_SLOT)) ∧
      (s.evt.STAT_FROZEN = false → s.unfreeze.evt.STAT_WR = s.evt.STAT_WR) ∧ s.unfreeze = { s with evt := s.unfreeze.evt } := by
  unfold State.unfreeze
  split
  next h =>
    refine ⟨rfl, rfl, fun _ => ⟨fun k hk => ?_, fun hk => ?_⟩, fun h' => absurd (h.symm.trans h') (by decide), rfl⟩
    · simp [hk]
    · simp [hk]
  next h => exact ⟨by simpa using h, rfl, fun h' => absurd h' h, fun _ => rfl, rfl⟩

/-- EVT_CFG written with FREEZE at 1 (R514). -/
theorem evtCfg_freeze_effect (s : State) (w : Nat) :
    let t := (s.evtCfg w).freeze 3
    t.evt.STAT_FROZEN = true ∧ t.evt.slots = s.evt.slots ∧
      (s.evt.STAT_FROZEN = false → t.evt.FRZ_CAUSE = 3 ∧ t.hdr[pgEvt].err.testBit 18 = true ∧
        t.evt.FRZ_FRZ_SLOT = usableFrom s (2 * s.evt.outRows.length) s.evt.STAT_WR) ∧
      (s.evt.STAT_FROZEN = true → t.evt.FRZ_CAUSE = s.evt.FRZ_CAUSE ∧ t.evt.FRZ_FRZ_SLOT = s.evt.FRZ_FRZ_SLOT ∧ t.hdr = s.hdr) ∧
      t = { s with evt := t.evt, hdr := t.hdr } := by
  have hframe : (s.evtCfg w).freeze 3 = { s with evt := ((s.evtCfg w).freeze 3).evt, hdr := ((s.evtCfg w).freeze 3).hdr } :=
    freeze_frame _ _
  cases hfrozen : s.evt.STAT_FROZEN with
  | true =>
    have hsame := freeze_of_frozen (s := s.evtCfg w) hfrozen 3
    refine ⟨?_, ?_, fun h => absurd h (by decide), fun _ => ?_, hframe⟩
    · rw [hsame]
      exact hfrozen
    · rw [hsame]
      rfl
    · rw [hsame]
      exact ⟨rfl, rfl, rfl⟩
  | false =>
    obtain ⟨hstill, herr⟩ := freeze_effect (s := s.evtCfg w) hfrozen 3
    refine ⟨(congrArg Evt.STAT_FROZEN hstill :), (congrArg Evt.slots hstill :), fun _ => ⟨(congrArg Evt.FRZ_CAUSE hstill :), herr, ?_⟩,
      fun h => absurd h (by decide), hframe⟩
    exact (congrArg Evt.FRZ_FRZ_SLOT hstill :).trans (usableFrom_congr (t := s.evtCfg w) (s := s) rfl _ _)

/-! ### The telemetry stream (R523 to R525) -/

/-- A pop takes the head chunk where there is one (R525). -/
theorem writeTrc_none (s : State) {data : Nat} (h : data % 2 = 0 ∨ s.trc.recs = []) : writeReg s pgTrc 0x48 data = (s, 0) := by
  have hpop : s.trc.recs = [] → s.trcPop = s := fun hnil => by simp [State.trcPop, hnil]
  have hw : writeReg s pgTrc 0x48 data = (if bitAt data 0 then s.trcPop else s, 0) := rfl
  rw [hw, bitAt_zero]
  rcases h with h | h
  · simp [h]
  · simp [hpop h]

theorem writeTrc_pop (s : State) {data : Nat} (h : data % 2 = 1) : writeReg s pgTrc 0x48 data = (s.trcPop, 0) := by
  have hw : writeReg s pgTrc 0x48 data = (if bitAt data 0 then s.trcPop else s, 0) := rfl
  rw [hw, bitAt_zero, h]
  rfl

theorem trcPop_head {s : State} {r : TrcRec} {rs : List TrcRec} (h : s.trc.recs = r :: rs) (hpar : r.par = false) :
    s.trcPop = { s with trc := { s.trc with recs := if r.chunks.length ≤ 1 then rs
                                                    else { r with chunks := r.chunks.drop 1, first := false } :: rs } } := by
  unfold State.trcPop
  rw [h]
  dsimp only
  rw [if_neg (by simp [hpar])]
  split <;> rfl

/-- Where the head failed parity, its whole record goes (R525). -/
theorem trcPop_parity {s : State} {r : TrcRec} {rs : List TrcRec} (h : s.trc.recs = r :: rs) (hpar : r.par = true) :
    s.trcPop = { s with trc.recs := rs, trc.DROP1_PAR := satAdd 16 s.trc.DROP1_PAR 1 }.fault pgTrc 17 0x1611
      [sat 16 (s.trc.DROP1_PAR + 1)] := by
  unfold State.trcPop
  rw [h]
  exact if_pos hpar

/-! ### What is written (R506 to R517) -/

/-- The slots, WR, NUM and EVT_COUNT: what writing a record moves. -/
def Evt.tape (e : Evt) : List (Nat × Nat) × Nat × Nat × Nat := (e.slots, e.STAT_WR, e.num, e.COUNT)

/-- Whether the recorder is frozen, and the next place of its reserve ring (R514). -/
def Evt.reserve (e : Evt) : Bool × Nat := (e.STAT_FROZEN, e.CAP_RES_NEXT)

theorem tape_of_still {e e' : Evt} (h : e'.still = e.still) : e'.tape = e.tape := (congrArg Evt.tape h :)

theorem reserve_of_still {e e' : Evt} (h : e'.still = e.still) : e'.reserve = e.reserve := (congrArg Evt.reserve h :)

theorem freeze_tape (s : State) (cause : Nat) : (s.freeze cause).evt.tape = s.evt.tape := by
  cases h : s.evt.STAT_FROZEN with
  | true => rw [freeze_of_frozen h]
  | false => exact (congrArg Evt.tape (freeze_effect h cause).1 :)

theorem freeze_reserve {s : State} (h : s.evt.STAT_FROZEN = true) (cause : Nat) : (s.freeze cause).evt.reserve = s.evt.reserve := by
  rw [freeze_of_frozen h]

theorem flushEnd_tape (s : State) : s.flushEnd.evt.tape = s.evt.tape := by
  unfold State.flushEnd
  dsimp only
  split
  · exact freeze_tape _ 2
  · rfl

/-- The end of a flush leaves a frozen recorder's ring alone. -/
theorem flushEnd_reserve {s : State} (h : s.evt.STAT_FROZEN = true) : s.flushEnd.evt.reserve = s.evt.reserve := by
  unfold State.flushEnd
  dsimp only
  split
  · exact freeze_reserve (s := { s with evt.STAT_FLUSH_ACT := false, evt.STAT_FLUSHED := true }) h 2
  · rfl

theorem freezeIfFull_tape (s : State) : s.freezeIfFull.evt.tape = s.evt.tape := by
  unfold State.freezeIfFull
  split
  · exact freeze_tape _ 1
  · rfl

theorem overflowRecord_still (s : State) :
    s.overflowRecord.evt.tape = s.evt.tape ∧ s.overflowRecord.evt.reserve = s.evt.reserve := by
  unfold State.overflowRecord
  split
  · exact ⟨rfl, rfl⟩
  · exact ⟨tape_of_still (event_still ..), reserve_of_still (event_still ..)⟩

/-- A record dropped from the stream is counted there, and said so (R525). -/
theorem trcDropped_still (s : State) (k typ : Nat) : (s.trcDropped k typ).evt.still = s.evt.still := by
  unfold State.trcDropped
  dsimp only
  (repeat' split) <;> simp

theorem trcEvent_still (s : State) (w : Nat) : (s.trcEvent w).evt.still = s.evt.still := by
  unfold State.trcEvent State.trcPush
  dsimp only
  (repeat' split) <;> simp [trcDropped_still]

/-- What follows the write of a record: an overflow's own record, and the end of a flush. -/
def State.recordEnd (s : State) : State :=
  let s := s.overflowRecord
  if s.evt.STAT_FLUSH_ACT && s.evt.queue.isEmpty then s.flushEnd else s

theorem recordEnd_tape (s : State) : s.recordEnd.evt.tape = s.evt.tape := by
  unfold State.recordEnd
  dsimp only
  split
  · rw [flushEnd_tape, (overflowRecord_still s).1]
  · exact (overflowRecord_still s).1

theorem recordEnd_reserve {s : State} (h : s.evt.STAT_FROZEN = true) : s.recordEnd.evt.reserve = s.evt.reserve := by
  have hover := (overflowRecord_still s).2
  unfold State.recordEnd
  dsimp only
  split
  · rw [flushEnd_reserve ((congrArg Prod.fst hover).trans h), hover]
  · exact hover

/-- It is on the EVT page and in its header. -/
theorem recordEnd_frame {s u : State} (h : u = { s with evt := u.evt, trc := u.trc, hdr := u.hdr }) :
    u.recordEnd = { s with evt := u.recordEnd.evt, trc := u.recordEnd.trc, hdr := u.recordEnd.hdr } := by
  have hframe : u.recordEnd = { u with evt := u.recordEnd.evt, hdr := u.recordEnd.hdr } := by
    unfold State.recordEnd
    dsimp only
    split <;> simp [State.eq_of_pages]
  have htrc : u.recordEnd.trc = u.trc := by
    rw [hframe]
  rw [htrc]
  exact hframe.trans (congrArg (fun v : State => { v with evt := u.recordEnd.evt, hdr := u.recordEnd.hdr }) h)

/-- The state whose oldest event has left the input queue (R509). -/
def State.dequeued (s : State) (q : List EvtEntry) : State := { s with evt.queue := q }

theorem usableFrom_dequeued (s : State) (q : List EvtEntry) (n k : Nat) : usableFrom (s.dequeued q) n k = usableFrom s n k :=
  usableFrom_congr (s := s) (t := s.dequeued q) rfl n k

theorem nextSlot_dequeued (s : State) (q : List EvtEntry) (k : Nat) : nextSlot (s.dequeued q) k = nextSlot s k :=
  nextSlot_congr (s := s) (t := s.dequeued q) rfl k

theorem resSlot_dequeued (s : State) (q : List EvtEntry) (j k : Nat) : resSlot (s.dequeued q) j k = resSlot s j k :=
  resSlot_congr (s := s) (t := s.dequeued q) rfl j k

/-- EVENT_RECORD_WRITE writes the oldest event of the queue (R509). -/
theorem exec_eventRecordWrite {s : State} {e : EvtEntry} {q : List EvtEntry} (hq : s.evt.queue = e :: q) (hno : s.evt.STAT_ERASING = false) :
    exec .eventRecordWrite s = .next ((s.dequeued q).writeRecord e).recordEnd := by
  simp only [exec, execEventRecordWrite, hq]
  exact congrArg Host.Outcome.next (if_neg (by simp [hno]))

/-- A record in its slot: its word, the counts, and a copy for the stream (R506, R521, R524). -/
theorem recordDone_effect (s : State) (e : EvtEntry) (k : Nat) :
    (s.recordDone e k).evt.tape =
        (memWrite 0 s.evt.slots k (recordWord e.body s.evt.num), s.evt.STAT_WR, (s.evt.num + 1) % 65536, satAdd 32 s.evt.COUNT 1) ∧
      (s.recordDone e k).evt.reserve = s.evt.reserve ∧ (s.recordDone e k).evt.outRows = s.evt.outRows ∧
      s.recordDone e k = { s with evt := (s.recordDone e k).evt, trc := (s.recordDone e k).trc, hdr := (s.recordDone e k).hdr } := by
  refine ⟨tape_of_still (trcEvent_still _ _), ?_, (congrArg Evt.outRows (trcEvent_still _ _) :), ?_⟩
  · unfold State.recordDone
    dsimp only
    rw [reserve_of_still (trcEvent_still _ _)]
    rfl
  · simp [State.recordDone, State.putSlot, State.eq_of_pages]

/-! ### The slot that a write takes, and the others -/

theorem slots_written {s t : State} {k w wr n c : Nat} (hwf : memWf 0 s.evt.slots = true)
    (h : t.evt.tape = (memWrite 0 s.evt.slots k w, wr, n, c)) :
    memRead 0 t.evt.slots k = w ∧ (∀ j, j ≠ k → memRead 0 t.evt.slots j = memRead 0 s.evt.slots j) ∧ t.evt.STAT_WR = wr ∧ t.evt.num = n ∧
      t.evt.COUNT = c := by
  obtain ⟨hslots, hwr, hnum, hcount⟩ : t.evt.slots = memWrite 0 s.evt.slots k w ∧ t.evt.STAT_WR = wr ∧ t.evt.num = n ∧ t.evt.COUNT = c :=
    ⟨congrArg (·.1) h, congrArg (·.2.1) h, congrArg (·.2.2.1) h, congrArg (·.2.2.2) h⟩
  rw [hslots]
  exact ⟨memRead_memWrite_same 0 _ _ _ none hwf, fun j hj => memRead_memWrite_other 0 _ _ _ _ none hwf hj, hwr, hnum, hcount⟩

/-- The next place of the reserve ring is taken (R514). -/
def State.reserveTaken (s : State) : State :=
  { s with evt.CAP_RES_NEXT := (s.evt.CAP_RES_NEXT + 1) % 64,
           evt.lastRes := some (resSlot s s.evt.CAP_RES_NEXT s.evt.FRZ_FRZ_SLOT) }

/-- The three ways of a record (R508, R512, R514): running, into the reserve ring, or nowhere. -/
theorem writeRecord_running {s : State} (h : s.evt.STAT_FROZEN = false) (e : EvtEntry) :
    let k := usableFrom s (2 * s.evt.outRows.length) s.evt.STAT_WR
    (s.writeRecord e).evt.tape =
        (memWrite 0 s.evt.slots k (recordWord e.body s.evt.num), nextSlot s k, (s.evt.num + 1) % 65536, satAdd 32 s.evt.COUNT 1) ∧
      s.writeRecord e = { s with evt := (s.writeRecord e).evt, trc := (s.writeRecord e).trc, hdr := (s.writeRecord e).hdr } := by
  dsimp only
  constructor
  · obtain ⟨htape, -, hrows, -⟩ := recordDone_effect s e (usableFrom s (2 * s.evt.outRows.length) s.evt.STAT_WR)
    rw [State.writeRecord, if_neg (by simp [h])]
    refine (freezeIfFull_tape _).trans ?_
    rw [← nextSlot_congr hrows]
    exact congrArg (fun x : List (Nat × Nat) × Nat × Nat × Nat => (x.1, nextSlot (s.recordDone e _) _, x.2.2)) htape
  · simp [State.writeRecord, h, State.eq_of_pages]

theorem writeRecord_reserve {s : State} (h : s.evt.STAT_FROZEN = true) {e : EvtEntry} (halw : e.alw = true) :
    let k := resSlot s s.evt.CAP_RES_NEXT s.evt.FRZ_FRZ_SLOT
    (s.writeRecord e).evt.tape =
        (memWrite 0 s.evt.slots k (recordWord e.body s.evt.num), s.evt.STAT_WR, (s.evt.num + 1) % 65536, satAdd 32 s.evt.COUNT 1) ∧
      (s.writeRecord e).evt.reserve = (true, (s.evt.CAP_RES_NEXT + 1) % 64) ∧
      s.writeRecord e = { s with evt := (s.writeRecord e).evt, trc := (s.writeRecord e).trc, hdr := (s.writeRecord e).hdr } := by
  have hrun : s.writeRecord e = s.reserveTaken.recordDone e (resSlot s s.evt.CAP_RES_NEXT s.evt.FRZ_FRZ_SLOT) := by
    rw [State.writeRecord, if_pos h, if_pos halw]
    rfl
  obtain ⟨htape, hres, -, hframe⟩ := recordDone_effect s.reserveTaken e (resSlot s s.evt.CAP_RES_NEXT s.evt.FRZ_FRZ_SLOT)
  dsimp only
  rw [hrun]
  exact ⟨htape, hres.trans (congrArg (·, _) h), hframe⟩

theorem writeRecord_nowhere {s : State} (h : s.evt.STAT_FROZEN = true) {e : EvtEntry} (hord : e.alw = false) :
    s.writeRecord e = { s with evt.DROP_ORD := satAdd 16 s.evt.DROP_ORD 1 } := by
  rw [State.writeRecord, if_pos h, if_neg (by simp [hord])]

/-! ### The suppressions of a millisecond, and the end of an erase (R515, R518) -/

/-- A queue takes an event at its place (R509). -/
theorem length_evtInsert (e : EvtEntry) (l : List EvtEntry) : (evtInsert e l).length = l.length + 1 := by
  induction l with
  | nil => rfl
  | cons x l ih =>
    unfold evtInsert
    split
    · rfl
    · simp [ih]

/-- A summary joins the queue where fewer than 24 wait (R515, R516). -/
theorem summary_queue {s : State} (h : s.evt.queue.length < 24) (ck : Nat × Nat) :
    (s.summary ck).evt.queue.length = s.evt.queue.length + 1 := by
  have hord : evtAlways 0x1511 = false := by decide
  simp [State.summary, State.enqueue, hord, h, length_evtInsert]

theorem summaries_queue {s : State} (l : List (Nat × Nat)) (h : s.evt.queue.length + l.length ≤ 24) :
    (l.foldl State.summary s).evt.queue.length = s.evt.queue.length + l.length := by
  induction l generalizing s with
  | nil => rfl
  | cons ck l ih =>
    rw [List.length_cons] at h ⊢
    have hone := summary_queue (s := s) (by omega) ck
    rw [List.foldl_cons, ih (by omega), hone]
    omega

theorem summary_still (s : State) (ck : Nat × Nat) : (s.summary ck).evt.still = s.evt.still := enqueue_still ..

theorem summaries_still (s : State) (l : List (Nat × Nat)) : (l.foldl State.summary s).evt.still = s.evt.still := by
  induction l generalizing s with
  | nil => rfl
  | cons ck l ih => rw [List.foldl_cons, ih, summary_still]

theorem suppressionSummary_effect (s : State) :
    ∃ t, exec .suppressionSummary s = .next t ∧ t.evt.suppDone = [] ∧
      t.evt.SUPP = satAdd 32 s.evt.SUPP (((s.evt.suppDone.drop 8).map (·.2)).foldl (· + ·) 0) ∧ t.evt.slots = s.evt.slots ∧
      (s.evt.suppDone.length + s.evt.queue.length ≤ 24 →
        t.evt.queue.length = s.evt.queue.length + min 8 s.evt.suppDone.length) ∧
      t = { s with evt := t.evt, hdr := t.hdr } := by
  refine ⟨_, rfl, (congrArg Evt.suppDone (summaries_still _ _) :), (congrArg Evt.SUPP (summaries_still _ _) :),
    (congrArg Evt.slots (summaries_still _ _) :), fun hroom => ?_, ?_⟩
  · rw [summaries_queue _ (by simp only [List.length_take]; omega), List.length_take]
  · simp [State.eq_of_pages]

theorem clearMarks_lt (l : List (Nat × Nat)) : ∀ c ∈ clearMarks l, c.2 < 2 ^ 248 := by
  induction l with
  | nil => simp [clearMarks]
  | cons x l ih =>
    unfold clearMarks
    split
    · exact ih
    · simp only [List.mem_cons, forall_eq_or_imp]
      exact ⟨Nat.mod_lt _ (by decide), ih⟩

/-- The recorder as an erase leaves it, before the event that says so (R518). -/
def State.erased (s : State) : State :=
  { s with evt.slots := clearMarks s.evt.slots, evt.STAT_WR := usableFrom s (2 * s.evt.outRows.length) 0, evt.num := 0, evt.COUNT := 0,
           evt.SUPP := 0, evt.supp := [], evt.suppDone := [], evt.STAT_FROZEN := false, evt.lastRes := none,
           evt.fill := 0, evt.STAT_ERASING := false, evt.queue := [],
           evt.RD_STAT_STALE := s.evt.RD_STAT_STALE || s.evt.rdSlot.isSome }

theorem eraseComplete_effect {s : State} (h : s.evt.STAT_ERASING = true) :
    ∃ t, exec .eraseComplete s = .next t ∧ t.evt.STAT_ERASING = false ∧ t.hdr[pgEvt].busy = false ∧ t.evt.STAT_FROZEN = false ∧
      t.evt.COUNT = 0 ∧ t.evt.SUPP = 0 ∧ t.evt.num = 0 ∧ t.evt.slots = clearMarks s.evt.slots ∧
      (∀ c ∈ t.evt.slots, c.2 < 2 ^ 248) ∧ t = { s with evt := t.evt, hdr := t.hdr } := by
  have hstill := event_still (s.erased.setBusy pgEvt false) 0x1513 [sat 16 (markedSlots s)]
  have hslots := congrArg Evt.slots hstill
  refine ⟨_, congrArg Host.Outcome.next (if_pos h), (congrArg Evt.STAT_ERASING hstill :), ?_, (congrArg Evt.STAT_FROZEN hstill :),
    (congrArg Evt.COUNT hstill :), (congrArg Evt.SUPP hstill :), (congrArg Evt.num hstill :), hslots, ?_, ?_⟩
  · refine ((ErrorsArrive.event 0x1513 [sat 16 (markedSlots s)] (.refl (s.erased.setBusy pgEvt false))).busy pgEvt).trans ?_
    simp [State.setBusy]
  · intro c hc
    exact clearMarks_lt _ c (hslots ▸ hc)
  · simp

/-! ### Rail summaries (R523 to R525) -/

theorem length_chunksOf (n : Nat) (bs : List Nat) : (chunksOf n bs).length = n := by
  induction n generalizing bs with
  | zero => rfl
  | succ n ih => simp [chunksOf, ih]

/-- A record with a header and a body that leave room for its CRC has its size (R524). -/
theorem length_trcRecord {size : Nat} {hd body : List Nat} (h : hd.length + body.length + 4 ≤ size) :
    (trcRecord size hd body).length = size := by
  simp only [trcRecord, List.length_append, List.length_replicate, length_bytesLE]
  omega

/-- The record that a rail summary is (R524). -/
def railRecord (s : State) : List Nat :=
  trcRecord 160 (trcHeader s 0xE1 s.trc.seqE1 s.trc.lostE1 (s.trc.drained || s.tly.EPOCH_DRAIN))
    ((List.range 16).flatMap fun r =>
      railBody (vAt s.trc.sums r {}) (guardBand s r) (railRc s r) (railHeld s r) (vAt s.tly.rail r {}).HARV_HARV
        (vAt s.tly.rail r {}).HARV_UNANN (vAt s.ctl.rail r {}).OUT_NEUTRAL (vAt s.tly.rail r {}).BOOK_BOOKED)

theorem length_railRecord (s : State) : (railRecord s).length = 160 :=
  length_trcRecord (by simp [trcHeader, railBody])

/-- The new period of the rail summaries. -/
def State.railPeriod (s : State) : State :=
  { s with trc.railAt := s.now, trc.drained := false, trc.sums := Vector.replicate 16 {} }

theorem trcRails_room {s : State} (h : trcChunks s + 5 ≤ 1024) :
    s.trcRails = ({ s with
      trc.recs := s.trc.recs ++ [{ typ := 0xE1, chunks := chunksOf 5 (railRecord s) }], trc.PEAK := max s.trc.PEAK (trcChunks s + 5),
      trc.seqE1 := (s.trc.seqE1 + 1) % 65536, trc.lostE1 := false } : State).railPeriod := by
  have hpush : s.trcPush 0xE1 (railRecord s) = (true, { s with
      trc.recs := s.trc.recs ++ [{ typ := 0xE1, chunks := chunksOf 5 (railRecord s) }],
      trc.PEAK := max s.trc.PEAK (trcChunks s + 5) }) := by
    simp [State.trcPush, length_railRecord, h]
  have hrun : s.trcRails = State.railPeriod (if (s.trcPush 0xE1 (railRecord s)).1 then
      { (s.trcPush 0xE1 (railRecord s)).2 with trc.seqE1 := (s.trc.seqE1 + 1) % 65536, trc.lostE1 := false }
      else (s.trcPush 0xE1 (railRecord s)).2.trcDropped 0 0xE1) := rfl
  rw [hrun, hpush]
  rfl

theorem trcRails_full {s : State} (h : 1024 < trcChunks s + 5) : s.trcRails = (s.trcDropped 0 0xE1).railPeriod := by
  have hpush : s.trcPush 0xE1 (railRecord s) = (false, s) := by
    simp [State.trcPush, length_railRecord]
    omega
  have hrun : s.trcRails = State.railPeriod (if (s.trcPush 0xE1 (railRecord s)).1 then
      { (s.trcPush 0xE1 (railRecord s)).2 with trc.seqE1 := (s.trc.seqE1 + 1) % 65536, trc.lostE1 := false }
      else (s.trcPush 0xE1 (railRecord s)).2.trcDropped 0 0xE1) := rfl
  rw [hrun, hpush]
  rfl

/-- The stream that has no room for a rail summary (R525). -/
def State.railLost (s : State) : State :=
  { s with trc.DROP0_E1 := satAdd 16 s.trc.DROP0_E1 1, trc.lostE1 := true }

/-- A rail summary that is dropped is counted and flagged (R525). -/
theorem trcDropped_railSummary (s : State) :
    (s.trcDropped 0 0xE1).trc.recs = s.trc.recs ∧ (s.trcDropped 0 0xE1).trc.DROP0_E1 = satAdd 16 s.trc.DROP0_E1 1 ∧
      (s.trcDropped 0 0xE1).hasErr pgTrc 16 := by
  have hflag (u : State) : (u.setErr pgTrc 16).trc = u.trc := by simp
  have hfault (u : State) (d : List Nat) : (u.fault pgTrc 16 0x1610 d).trc = u.trc := by simp
  by_cases hms : vAt s.railLost.trc.dropMs 0 none = some (optime s.railLost)
  · have hrun : s.trcDropped 0 0xE1 =
        ({ s.railLost with trc.dropN := vMod s.trc.dropN 0 fun _ => vAt s.trc.dropN 0 0 + 1 } : State).setErr pgTrc 16 := if_pos hms
    rw [hrun]
    exact ⟨(congrArg Trc.recs (hflag _) :), (congrArg Trc.DROP0_E1 (hflag _) :), hasErr_setErr_self ..⟩
  · have hrun : s.trcDropped 0 0xE1 =
        ({ s.railLost with trc.dropN := vMod s.trc.dropN 0 fun _ => 0,
                           trc.dropMs := vMod s.trc.dropMs 0 fun _ => some (optime s) } : State).fault pgTrc 16 0x1610
          [0xE1, sat 16 (vAt s.trc.dropN 0 0 + 1)] := if_neg hms
    rw [hrun]
    exact ⟨(congrArg Trc.recs (hfault _ _) :), (congrArg Trc.DROP0_E1 (hfault _ _) :), hasErr_fault ..⟩

/-- A rail summary that is due begins a new period, whether it enters the stream or not (R523). -/
theorem trcRails_period (s : State) : s.trcRails.trc.railAt = s.now ∧ s.trcRails.trc.sums = Vector.replicate 16 {} := by
  rcases Nat.lt_or_ge 1024 (trcChunks s + 5) with hfull | hroom
  · rw [trcRails_full hfull]
    exact ⟨by simp [State.railPeriod], rfl⟩
  · rw [trcRails_room hroom]
    exact ⟨rfl, rfl⟩

theorem trcRails_frame (s : State) :
    s.trcRails = { s with evt := s.trcRails.evt, trc := s.trcRails.trc, hdr := s.trcRails.hdr } := by
  simp [State.eq_of_pages]

theorem exec_railSummary {s : State} (hen : s.trc.CFG_RAIL_EN = true) (hdue : s.trc.railAt + max 16 s.trc.CFG_RAIL_PER * 4 ≤ s.now) :
    exec .railSummary s = .next s.trcRails :=
  congrArg Host.Outcome.next (if_pos (by rw [hen, Bool.true_and]; exact after_of_le hdue))

end Sys2Proof.Machine
end

section
namespace Sys2Proof.Proofs

open Sys2Proof Sys2Proof.Machine

/-- Settles O17: a frozen recorder keeps its cause and slot because `freeze` answers it unchanged; the rest is each write's own effect. -/
theorem recorderWindowFreezePop : Obligations.RecorderWindowFreezePop := by
  unfold Obligations.RecorderWindowFreezePop
  intro s data acc
  refine ⟨fun ha => ?_, fun ha => ?_, fun ha => ?_, fun ha => ⟨fun h => ?_, fun r rs hpop hrecs hpar => ?_, fun r rs hpop hrecs hpar => ?_⟩⟩
  · have hw := hostWrite_of_writeReg (p := pgEvt) (off := 0x60) (by decide) (by decide) ha (writeEvt_rdSel _ _)
    obtain ⟨bad, hbad, hrd, hevt, -⟩ := copySlot_effect { s with pairLo := (s.dropPair (regAddr 21 0x60)).pairLo } (data.toNat % 4096)
    exact ⟨_, bad, congrArg Host.Outcome.next hw, hbad, hrd, hevt, rfl⟩
  · have hw := hostWrite_of_writeReg (p := pgEvt) (off := 0x40) (by decide) (by decide) ha
      ((writeEvt_cfg _ _).trans (congrArg (·, 0) (writeEvtCfg_freeze _ (by rw [Nat.testBit_or, show Nat.testBit 4 2 = true by decide, Bool.or_true]))))
    refine ⟨_, congrArg Host.Outcome.next hw, ?_⟩
    obtain ⟨hfrozen, hslots, hfirst, hagain, hrest⟩ := evtCfg_freeze_effect { s with pairLo := (s.dropPair (regAddr 21 0x40)).pairLo }
      (data.toNat ||| 4)
    refine ⟨hfrozen, hslots, fun h => ?_, hagain, congrArg (fun u : State => { u with hst := answer 0 }) hrest⟩
    obtain ⟨hcause, herr, hslot⟩ := hfirst h
    refine ⟨hcause, herr, hslot.trans ?_⟩
    apply usableFrom_congr
    rfl
  · have hw := hostWrite_of_writeReg (p := pgEvt) (off := 0x40) (by decide) (by decide) ha
      ((writeEvt_cfg _ _).trans (congrArg (·, 0) (writeEvtCfg_unfreeze _
        (by rw [Nat.testBit_and, show Nat.testBit 0xFFFFFFFA 0 = false by decide, Bool.and_false])
        (by rw [Nat.testBit_and, show Nat.testBit 0xFFFFFFFA 2 = false by decide, Bool.and_false]))))
    refine ⟨_, congrArg Host.Outcome.next hw, ?_⟩
    obtain ⟨hfrozen, hslots, hres, hwr, hrest⟩ := unfreeze_effect
      ({ s with pairLo := (s.dropPair (regAddr 21 0x40)).pairLo }.evtCfg (data.toNat &&& 0xFFFFFFFA))
    refine ⟨hfrozen, hslots, fun h => ⟨fun k hk => ((hres h).1 k hk).trans ?_, (hres h).2⟩, hwr,
      congrArg (fun u : State => { u with hst := answer 0 }) hrest⟩
    apply nextSlot_congr
    rfl
  · have hw := hostWrite_of_writeReg (p := pgTrc) (off := 0x48) (by decide) (by decide) ha (writeTrc_none _ h)
    exact congrArg Host.Outcome.next hw
  · have hw := hostWrite_of_writeReg (p := pgTrc) (off := 0x48) (by decide) (by decide) ha
      ((writeTrc_pop _ hpop).trans (congrArg (·, 0) (trcPop_head hrecs hpar)))
    exact congrArg Host.Outcome.next hw
  · have hw := hostWrite_of_writeReg (p := pgTrc) (off := 0x48) (by decide) (by decide) ha
      ((writeTrc_pop _ hpop).trans (congrArg (·, 0) (trcPop_parity hrecs hpar)))
    refine ⟨_, congrArg Host.Outcome.next hw, hasErr_fault _ _ _ _ _, ?_⟩
    exact congrArg (fun u : State => { u with hst := answer 0 }) (fault_frame _ pgTrc 17 0x1611 _)

/-- The parity of a secure write to a register of the recorder's page (R98). -/
def evtAcc (off data : Nat) : HostAcc := { sec := true, apar := addrPar (regAddr 21 off) true true, wpar := evenPar 32 data }

/-- `recorderWindowFreezePop` applies: FREEZE freezes a running recorder with cause 3, and the window takes slot 7. -/
theorem reset_freezes_and_looks :
    (∃ t, exec (.evtFreeze 4 (evtAcc 0x40 4)) liveReset = .next t ∧ t.evt.FRZ_CAUSE = 3) ∧
      ∃ t, exec (.evtRdSelWrite 7 (evtAcc 0x60 7)) liveReset = .next t ∧ t.evt.rdSlot = some 7 := by
  obtain ⟨-, freeze, -⟩ := recorderWindowFreezePop liveReset 4 (evtAcc 0x40 4)
  obtain ⟨window, -⟩ := recorderWindowFreezePop liveReset 7 (evtAcc 0x60 7)
  obtain ⟨t, frozen, -, -, first, -⟩ := freeze (by decide)
  obtain ⟨u, bad, copied, -, -, hevt, -⟩ := window (by decide)
  exact ⟨⟨t, frozen, (first rfl).1⟩, u, copied, congrArg Evt.rdSlot hevt⟩

end Sys2Proof.Proofs
end

section
namespace Sys2Proof.Proofs

open Sys2Proof Sys2Proof.Machine

/-- Settles O32: a record is its slot, WR and the counts (`Evt.tape`), which what follows the write leaves alone; summaries and erases
change no other part of the recorder, and a rail summary is five chunks that enter whole or not at all. -/
theorem recorderAndStreamRun : Obligations.RecorderAndStreamRun := by
  unfold Obligations.RecorderAndStreamRun
  refine ⟨fun s e q hq hno hwf => ⟨fun hrun => ?_, fun hfrozen halw => ?_, fun hfrozen hord => ?_⟩, fun s => ⟨?_, fun herase => ?_⟩,
    fun s hen hdue => ?_⟩
  · obtain ⟨htape, hframe⟩ := writeRecord_running (s := s.dequeued q) hrun e
    rw [nextSlot_dequeued, usableFrom_dequeued] at htape
    obtain ⟨hword, hothers, hwr, hnum, hcount⟩ := slots_written (s := s) hwf ((recordEnd_tape _).trans htape)
    exact ⟨_, exec_eventRecordWrite hq hno, hword, hothers, hwr, hnum, hcount, recordEnd_frame (s := s) hframe⟩
  · obtain ⟨htape, hres, hframe⟩ := writeRecord_reserve (s := s.dequeued q) hfrozen halw
    rw [resSlot_dequeued] at htape
    obtain ⟨hword, hothers, hwr, -, -⟩ := slots_written (s := s) hwf ((recordEnd_tape _).trans htape)
    have hfrozen' : ((s.dequeued q).writeRecord e).evt.STAT_FROZEN = true := congrArg Prod.fst hres
    have hres' := (recordEnd_reserve hfrozen').trans hres
    exact ⟨_, exec_eventRecordWrite hq hno, hword, hothers, hwr, congrArg Prod.snd hres', recordEnd_frame (s := s) hframe⟩
  · have hrec := writeRecord_nowhere (s := s.dequeued q) hfrozen hord
    have htape := (recordEnd_tape _).trans (congrArg (·.evt.tape) hrec)
    refine ⟨_, exec_eventRecordWrite hq hno, congrArg (·.1) htape, congrArg (·.2.2.1) htape, congrArg (·.2.2.2) htape,
      recordEnd_frame (s := s) ?_⟩
    rw [hrec]
    rfl
  · exact suppressionSummary_effect s
  · exact eraseComplete_effect herase
  · refine ⟨_, exec_railSummary hen hdue, (trcRails_period s).1, (trcRails_period s).2, fun hroom => ?_, fun hfull => ?_, trcRails_frame s⟩
    · rw [trcRails_room hroom]
      exact ⟨⟨_, rfl, length_chunksOf _ _, rfl⟩, rfl, rfl⟩
    · rw [trcRails_full hfull]
      exact trcDropped_railSummary s

/-- `recorderAndStreamRun` applies: with the recorder running, an event of the queue lands in slot 0; with rail summaries on, one
is due at 1 ms and enters the empty stream. -/
theorem reset_records_and_summarises (e : EvtEntry) :
    (∃ t, exec .eventRecordWrite { liveReset with evt.queue := [e] } = .next t ∧ memRead 0 t.evt.slots 0 = recordWord e.body 0) ∧
      ∃ t, exec .railSummary { liveReset with trc.CFG_RAIL_EN := true, now := 4000 } = .next t ∧ t.trc.seqE1 = 1 := by
  obtain ⟨records, -, summaries⟩ := recorderAndStreamRun
  obtain ⟨running, -⟩ := records { liveReset with evt.queue := [e] } e [] rfl rfl rfl
  obtain ⟨t, written, hword, -⟩ := running rfl
  obtain ⟨u, due, -, -, room, -⟩ := summaries { liveReset with trc.CFG_RAIL_EN := true, now := 4000 } rfl (by decide)
  exact ⟨⟨t, written, hword⟩, u, due, (room (by decide)).2.1⟩

end Sys2Proof.Proofs
end

section
/-! PROOFS. Repairs (R246, R478 to R494): the scrubber, retired lanes, self-test tiles and spare commands. -/

namespace Sys2Proof.Machine

open Sys2Proof

/-! ### Lanes (R246, R492) -/

/-- A lane is due to retire at the next tick, unless it has retired or is due already. -/
theorem exec_laneRetire (s : State) (lane : Fin 18) :
    exec (.laneRetire lane) s = .next (if s.ctl.MU_LANES.testBit lane.val || s.ctl.retireDue.contains lane.val then s
      else { s with ctl := { s.ctl with retireDue := s.ctl.retireDue ++ [lane.val] } }) := rfl

theorem exec_arraySelfTestTile (s : State) (lane : Fin 18) :
    exec (.arraySelfTestTile lane false) s =
      .next (if !s.rst.started || s.ctl.MU_LANES.testBit lane.val || s.ctl.retireDue.contains lane.val then s
        else { s with ctl := { s.ctl with retireDue := s.ctl.retireDue ++ [lane.val] } }) := rfl

/-! ### Spare commands (R493, R494) -/

/-- The ST of a spare command that ends now (R493). -/
def spareOutcome (s : State) (c : RelCmd) (pass : Bool) : Nat :=
  if !c.fits then 3
  else if !relFits s c.kind c.op c.index then 2
  else if c.op = 1 then (if relSpareFree s c.kind c.index then 0 else 1)
  else if pass || decide (5 ≤ c.kind) then 0 else 2

/-- The item of a spare command, as its end leaves it (R493). -/
def State.spareTaken (s : State) (c : RelCmd) (st : Nat) : State :=
  if st ≠ 0 then s else if c.op = 1 then s.relSubst c.kind c.index else s.relRestore c.kind c.index

/-- A spare command answered with ST `st`. -/
def State.spareAnswered (s : State) (c : RelCmd) (st : Nat) : State :=
  { s with rel.cmd := none, rel.SPARE_CMD_GO := false, rel.SPARE_STAT_DONE := true, rel.SPARE_STAT_ST := st,
           rel.SPARE_STAT_KIND := c.kind, rel.SPARE_STAT_INDEX := c.index }.event 0x1419 [c.kind, c.index, st]

theorem exec_spareCmdComplete {s : State} {c : RelCmd} (h : s.rel.cmd = some c) (pass : Bool) :
    exec (.spareCmdComplete pass) s = .next ((s.spareTaken c (spareOutcome s c pass)).spareAnswered c (spareOutcome s c pass)) := by
  simp only [exec, execSpareCmdComplete, h]
  rfl

theorem spareAnswered_rel (s : State) (c : RelCmd) (st : Nat) :
    (s.spareAnswered c st).rel = { s.rel with cmd := none, SPARE_CMD_GO := false, SPARE_STAT_DONE := true, SPARE_STAT_ST := st,
                                              SPARE_STAT_KIND := c.kind, SPARE_STAT_INDEX := c.index } := by
  simp [State.spareAnswered]

theorem spareTaken_frame (s : State) (c : RelCmd) (st : Nat) :
    let t := (s.spareTaken c st).spareAnswered c st
    t = { s with seq := t.seq, beam := t.beam, ctl := t.ctl, fcs := t.fcs, thm := t.thm, sns := t.sns, vrg := t.vrg, mbs := t.mbs,
                 mbn := t.mbn, rck := t.rck, rel := t.rel, evt := t.evt, hdr := t.hdr } := by
  unfold State.spareTaken
  dsimp only
  (repeat' split) <;> simp [State.spareAnswered, State.eq_of_pages]

theorem spareRefused_frame {s : State} {c : RelCmd} {st : Nat} (h : st ≠ 0) :
    let t := (s.spareTaken c st).spareAnswered c st
    t = { s with rel := t.rel, evt := t.evt, hdr := t.hdr } := by
  rw [State.spareTaken, if_pos h]
  simp [State.spareAnswered, State.eq_of_pages]

/-! ### The scrubber (R484) -/

/-- The pass moves on by one row; the last row ends it (R484). -/
def State.scrubOn (s : State) : State :=
  if s.rel.scrubAt + 1 < scrubLen then { s with rel.scrubAt := s.rel.scrubAt + 1 }
  else { s with rel.scrubAt := 0, rel.scrubT := s.now + 1, rel.SCRUB_PASSES := satAdd 16 s.rel.SCRUB_PASSES 1,
                rel.SCRUB_LAST := sat 16 ((s.now + 1 - s.rel.scrubT) / 40) }

/-- A read of the scrubber that is due. -/
def State.scrubTook (s : State) : ScrubObs → State
  | .clean => s.scrubOn
  | .replayed => s.scrubOn.wordReplayed
  | .bad w again => s.scrubOn.scrubBad (scrubPlace 6 0 s.rel.scrubAt).1 (scrubPlace 6 0 s.rel.scrubAt).2 w.toNat again

theorem exec_scrubRead {s : State} (hstarted : s.rst.started = true) (hdue : s.rel.scrubT + s.rel.scrubAt ≤ s.now) (obs : ScrubObs) :
    exec (.scrubRead obs) s = .next (s.scrubTook obs) := by
  have hnot : (!s.rst.started || decide (s.now < s.rel.scrubT + s.rel.scrubAt)) = false := by
    simp [hstarted, Nat.not_lt.mpr hdue]
  refine (congrArg Host.Outcome.next (if_neg (by rw [hnot]; exact Bool.false_ne_true))).trans ?_
  cases obs <;> rfl

/-- The words the scrubber has found bad (R484). -/
def State.found (s : State) (restored : Bool) : State :=
  { s with rel.SCRUB_CNT_FOUND := satAdd 16 s.rel.SCRUB_CNT_FOUND 1,
           rel.SCRUB_CNT_RESTORED := if restored then satAdd 16 s.rel.SCRUB_CNT_RESTORED 1 else s.rel.SCRUB_CNT_RESTORED }

@[simp] theorem wordRetired_found (s : State) (path index : Nat) :
    (s.wordRetired path index).rel.SCRUB_CNT_FOUND = s.rel.SCRUB_CNT_FOUND := by
  simp [State.wordRetired]

@[simp] theorem spareRow_found (s : State) (k row : Nat) : (s.spareRow k row).rel.SCRUB_CNT_FOUND = s.rel.SCRUB_CNT_FOUND := by
  unfold State.spareRow
  dsimp only
  (repeat' split) <;> simp

@[simp] theorem stagingDamage_found (s : State) (row : Nat) : (s.stagingDamage row).rel.SCRUB_CNT_FOUND = s.rel.SCRUB_CNT_FOUND := by
  simp [State.stagingDamage]

@[simp] theorem weightFault_found (s : State) (off : Nat) (again : Bool) :
    (s.weightFault off again).rel.SCRUB_CNT_FOUND = s.rel.SCRUB_CNT_FOUND := by
  unfold State.weightFault
  dsimp only
  split <;> simp

@[simp] theorem coefFault_found (s : State) (r i : Nat) : (s.coefFault r i).rel.SCRUB_CNT_FOUND = s.rel.SCRUB_CNT_FOUND := by
  unfold State.coefFault
  dsimp only
  (repeat' split) <;> simp

@[simp] theorem obsCoefFault_found (s : State) (i : Nat) : (s.obsCoefFault i).rel.SCRUB_CNT_FOUND = s.rel.SCRUB_CNT_FOUND := by
  unfold State.obsCoefFault
  dsimp only
  split <;> simp

/-- A bad word of a memory row that serves a row is counted as found, and moves no tally (R484). -/
theorem scrubBad_found {s : State} {k a : Nat} (hk : k < 6) (hrow : rowServed s k a ≠ none) (w : Nat) (again : Bool) :
    (s.scrubBad k a w again).rel.SCRUB_CNT_FOUND = satAdd 16 s.rel.SCRUB_CNT_FOUND 1 ∧ (s.scrubBad k a w again).tly = s.tly := by
  obtain ⟨r, hr⟩ := Option.ne_none_iff_exists'.mp hrow
  unfold State.scrubBad
  rw [if_neg (by omega), hr]
  dsimp only
  constructor <;> (repeat' split) <;> simp [State.onThm, apply_ite State.rel, apply_ite State.tly]

end Sys2Proof.Machine
end

section
namespace Sys2Proof.Proofs

open Sys2Proof Sys2Proof.Machine

/-- Settles O33: a read of the scrubber is `scrubOn` and what its observation does; a spare command ends with `spareOutcome`, and
touches its item only where that is 0. -/
theorem repairsRun : Obligations.RepairsRun := by
  unfold Obligations.RepairsRun
  refine ⟨fun s hstarted hdue => ⟨fun hmid => ⟨?_, ?_⟩, fun hlast => ?_, fun w again hk hrow => ?_⟩,
    fun s lane => ⟨rfl, fun hstarted hlane hdue => ?_, fun h => ?_⟩, fun s c pass hcmd => ?_, fun s lane => ⟨fun hlane hdue => ?_, fun h => ?_⟩⟩
  · rw [exec_scrubRead hstarted hdue, State.scrubTook, State.scrubOn, if_pos hmid]
  · rw [exec_scrubRead hstarted hdue, State.scrubTook, State.scrubOn, if_pos hmid]
    rfl
  · rw [exec_scrubRead hstarted hdue, State.scrubTook, State.scrubOn, if_neg (by omega)]
  · have hkept : s.scrubOn = { s with rel := s.scrubOn.rel } ∧ s.scrubOn.rel.SCRUB_CNT_FOUND = s.rel.SCRUB_CNT_FOUND ∧
        s.scrubOn.rel.mem = s.rel.mem := by
      unfold State.scrubOn
      split <;> exact ⟨rfl, rfl, rfl⟩
    obtain ⟨hpages, hcount, hmem⟩ := hkept
    have hserved : rowServed s.scrubOn (scrubPlace 6 0 s.rel.scrubAt).1 (scrubPlace 6 0 s.rel.scrubAt).2 ≠ none := by
      unfold rowServed at hrow ⊢
      rwa [hmem]
    obtain ⟨hfound, htly⟩ := scrubBad_found hk hserved w.toNat again
    refine ⟨_, exec_scrubRead hstarted hdue _, hfound.trans (congrArg (satAdd 16 · 1) hcount), htly.trans (congrArg State.tly hpages :), ?_⟩
    rw [State.scrubTook, hpages]
    simp
  · rw [exec_arraySelfTestTile, hstarted, hlane, hdue]
    rfl
  · rw [exec_arraySelfTestTile]
    refine congrArg Host.Outcome.next (if_pos ?_)
    obtain h | h | h := h <;> rw [h] <;> simp
  · have hrel := spareAnswered_rel (s.spareTaken c (spareOutcome s c pass)) c (spareOutcome s c pass)
    have hst : ((s.spareTaken c (spareOutcome s c pass)).spareAnswered c (spareOutcome s c pass)).rel.SPARE_STAT_ST =
        spareOutcome s c pass := by rw [hrel]
    refine ⟨_, exec_spareCmdComplete hcmd pass, by rw [hrel], by rw [hrel], by rw [hrel], by rw [hrel], by rw [hrel], ?_⟩
    rw [hst]
    refine ⟨?_, ?_, ?_, ?_, ?_, ?_, spareRefused_frame, spareTaken_frame s c _⟩
    · intro hfits
      simp [spareOutcome, hfits]
    · intro hfits hnow
      simp [spareOutcome, hfits, hnow]
    · intro hfits hnow hop hfree
      rw [hop] at hnow
      simp [spareOutcome, hfits, hnow, hop, hfree]
    · intro hfits hnow hop hfree
      rw [hop] at hnow
      simp [spareOutcome, hfits, hnow, hop, hfree]
    · intro hfits hnow hop hkind hfail
      simp [spareOutcome, hfits, hnow, hop, hfail, Nat.not_le.mpr hkind]
    · intro hfits hnow hop hpass
      have hgood : (pass || decide (5 ≤ c.kind)) = true := by simpa using hpass
      simp [spareOutcome, hfits, hnow, hop, hgood]
  · rw [exec_laneRetire, hlane]
    simp [hdue]
  · rw [exec_laneRetire]
    refine congrArg Host.Outcome.next (if_pos ?_)
    obtain h | h := h <;> simp [h]

/-- `repairsRun` applies: the first read of the scrubber moves on, a tile that fails retires its lane once, and a spare command that
does not apply ends with ST 3. -/
theorem reset_repairs :
    (∃ t, exec (.scrubRead .clean) { liveReset with rst.started := true } = .next t ∧ t.rel.scrubAt = 1) ∧
    (∃ t, exec (.arraySelfTestTile 4 false) { liveReset with rst.started := true } = .next t ∧ t.ctl.retireDue = [4]) ∧
    (∃ t, exec (.laneRetire 4) liveReset = .next t ∧ t.ctl.retireDue = [4]) ∧
    ∀ c : RelCmd, c.fits = false →
      ∃ t, exec (.spareCmdComplete true) { liveReset with rel.cmd := some c } = .next t ∧ t.rel.SPARE_STAT_ST = 3 := by
  obtain ⟨scrub, tiles, spares, lanes⟩ := repairsRun
  obtain ⟨mid, -⟩ := scrub { liveReset with rst.started := true } rfl (by decide)
  obtain ⟨clean, -⟩ := mid (by decide)
  obtain ⟨-, fails, -⟩ := tiles { liveReset with rst.started := true } 4
  obtain ⟨retires, -⟩ := lanes liveReset 4
  refine ⟨⟨_, clean, rfl⟩, ⟨_, fails rfl (by decide) (by decide), rfl⟩, ⟨_, retires (by decide) (by decide), rfl⟩, fun c hfits => ?_⟩
  obtain ⟨t, run, -, -, -, -, -, hst, -⟩ := spares { liveReset with rel.cmd := some c } c true rfl
  exact ⟨t, run, hst hfits⟩

end Sys2Proof.Proofs
end

section
/-! PROOFS. Blind mode (R487 to R489). -/

namespace Sys2Proof.Machine

open Sys2Proof

/-- A change of one response leaves the others of its rail as they are. -/
theorem respOf_respMod_other (s : State) {r k k' : Nat} (f : Resp → Resp) (h : k' ≠ k) : respOf (s.respMod r k f) r k' = respOf s r k' := by
  unfold respOf
  by_cases hr : r < 16
  · rw [State.respMod_beam, vAt_vMod_same _ _ _ _ hr]
    exact vAt_vMod_other _ _ _ _ _ h.symm
  · simp [vAt, hr]

/-- What REL shows of blind mode (R487). -/
def Rel.blindness (e : Rel) : Nat × Nat × Vector RelWear 16 := (e.BLIND_TG, e.BLIND_BUS, e.wear)

theorem blindness_parts {e e' : Rel} (h : e'.blindness = e.blindness) :
    e'.BLIND_TG = e.BLIND_TG ∧ e'.BLIND_BUS = e.BLIND_BUS ∧ e'.wear = e.wear :=
  ⟨congrArg (·.1) h, congrArg (·.2.1) h, congrArg (·.2.2) h⟩

/-- What follows a change of the responses leaves blind mode as it is. -/
theorem beamSettle_blindness (s : State) : s.beamSettle.rel.blindness = s.rel.blindness := by
  have hstep (u : State) (c : Nat) : (u.intrStep c).rel.blindness = u.rel.blindness := by
    unfold State.intrStep Rel.blindness
    dsimp only
    (repeat' split) <;> simp
  rw [beamSettle_eq, foldl_proj (fun u : State => u.rel.blindness) _ hstep, termHeld_frame]
  rfl

theorem beamSettle_settle_blindness (s : State) (c : Nat) : (s.beamSettle.settle c).rel.blindness = s.rel.blindness := by
  rw [(beamSettle_settle_pages s c).2, beamSettle_blindness]

/-- The response that stands for a lost path holds RC at LEVEL (R488). -/
theorem respOf_blindHold (s : State) {r k : Nat} (hr : r < 16) (hk : k < 8) :
    respOn (s.blindHold r k) r k = true ∧ (respOf (s.blindHold r k) r k).rc = blindLevel s := by
  have hon := (respBegin_rail s (blindLevel s) hr hk).1
  unfold respOn State.blindHold at *
  rw [respOf_respMod _ _ hr hk]
  exact ⟨hon, rfl⟩

theorem blindHold_frame (s : State) (r k : Nat) :
    s.blindHold r k = { s with beam := (s.blindHold r k).beam, evt := (s.blindHold r k).evt, hdr := (s.blindHold r k).hdr } := by
  have h := respBegin_frame s r k (blindLevel s)
  exact congrArg (fun u : State => u.respMod r k fun x => { x with rc := blindLevel s, rel := 0 }) h

/-! ### Entry (R487) -/

/-- The rail's blind time starts where it was not blind. -/
def State.blindTimed (s : State) (r : Nat) : State :=
  s.wearMod r fun e => { e with blindAt := if railBlind s r then e.blindAt else s.now }

/-- Marked blind for lost telemetry. -/
def State.tgMarked (s : State) (r : Nat) : State :=
  let u := s.blindTimed r
  { u with rel.BLIND_TG := putBit u.rel.BLIND_TG r true }.wearMod r fun e => { e with okRun := 0 }

/-- A rail whose telemetry is lost has none of the responses that come of it. -/
def State.telemetryRespsOff (s : State) (r : Nat) : State := [1, 2, 3].foldl (fun s k => s.respMod r k fun _ => {}) s

/-- Blind for lost telemetry: marked, with the rail's own responses gone. -/
def State.blindTg (s : State) (r : Nat) : State := ((s.tgMarked r).blindHold r 5).telemetryRespsOff r

/-- Marked blind for an unresponsive regulator. -/
def State.busMarked (s : State) (r : Nat) : State :=
  { s.blindTimed r with rel.BLIND_BUS := putBit (s.blindTimed r).rel.BLIND_BUS r true }

/-- Blind for an unresponsive regulator. -/
def State.blindBus (s : State) (r : Nat) : State := (s.busMarked r).blindHold r 7

/-- What follows the mark: its event, and the settling. -/
def State.blindSaid (s : State) (r cause : Nat) : State := (s.fault pgRel 20 0x1414 [r, cause]).beamSettle.settle 0x1414

theorem exec_blindModeEntry_tg {s : State} {r : Fin 16} {a : Nat} (hat : s.rel.wear[r].tgAt = some a) (hdue : a + 800 ≤ s.now)
    (hoff : s.rel.BLIND_TG.testBit r.val = false) : exec (.blindModeEntry r) s = .next ((s.blindTg r.val).blindSaid r.val 1) := by
  have hat' : (vAt s.rel.wear r.val {}).tgAt = some a := by simpa [vAt] using hat
  refine congrArg Host.Outcome.next (if_pos ?_)
  simp [hat', hoff, after_of_le hdue]

theorem exec_blindModeEntry_bus {s : State} {r : Fin 16} {a : Nat} (hat : s.rel.wear[r].busAt = some a) (hdue : a + 800 ≤ s.now)
    (hoff : s.rel.BLIND_BUS.testBit r.val = false) (htg : s.rel.wear[r].tgAt = none) :
    exec (.blindModeEntry r) s = .next ((s.blindBus r.val).blindSaid r.val 2) := by
  have hat' : (vAt s.rel.wear r.val {}).busAt = some a := by simpa [vAt] using hat
  have htg' : (vAt s.rel.wear r.val {}).tgAt = none := by simpa [vAt] using htg
  refine congrArg Host.Outcome.next ((if_neg ?_).trans (if_pos ?_))
  · simp [htg']
  · simp [hat', hoff, after_of_le hdue]

/-- After the mark the responses and blind mode stay as they are, and ERR.BLIND is set. -/
theorem blindSaid_effect (s : State) (r cause : Nat) :
    (∀ q k, respOf (s.blindSaid r cause) q k = respOf s q k) ∧ (s.blindSaid r cause).rel.blindness = s.rel.blindness ∧
      (s.blindSaid r cause).hasErr pgRel 20 := by
  refine ⟨fun q k => ?_, ?_, ?_⟩
  · rw [State.blindSaid, beamSettle_settle_resp, fault_frame]
    rfl
  · rw [State.blindSaid, beamSettle_settle_blindness, fault_frame]
  · exact ((ErrorsArrive.refl _).beamSettle.settle _).keeps _ _ (hasErr_fault ..)

theorem blindSaid_frame {s u : State} (h : u = { s with beam := u.beam, rel := u.rel, evt := u.evt, hdr := u.hdr }) (r cause : Nat) :
    let t := u.blindSaid r cause
    t = { s with seq := t.seq, beam := t.beam, ctl := t.ctl, mbs := t.mbs, mbn := t.mbn, rck := t.rck, rel := t.rel, evt := t.evt,
                 hdr := t.hdr } := by
  refine beamSettle_settle_of _ ?_
  rw [fault_frame]
  exact congrArg (fun v : State =>
    { v with evt := (u.fault pgRel 20 0x1414 [r, cause]).evt, hdr := (u.fault pgRel 20 0x1414 [r, cause]).hdr }) h

theorem respOf_telemetryRespsOff (s : State) {r : Nat} (hr : r < 16) :
    respOf (s.telemetryRespsOff r) r 5 = respOf s r 5 ∧ respOf (s.telemetryRespsOff r) r 1 = {} := by
  have hrun : s.telemetryRespsOff r = ((s.respMod r 1 fun _ => {}).respMod r 2 fun _ => {}).respMod r 3 fun _ => {} := rfl
  rw [hrun]
  constructor
  · rw [respOf_respMod_other _ _ (by decide), respOf_respMod_other _ _ (by decide), respOf_respMod_other _ _ (by decide)]
  · rw [respOf_respMod_other _ _ (by decide), respOf_respMod_other _ _ (by decide), respOf_respMod _ _ hr (by decide)]

theorem telemetryRespsOff_beam (s : State) (r : Nat) : ∃ b, s.telemetryRespsOff r = { s with beam := b } := ⟨_, rfl⟩

theorem blindTg_frame (s : State) (r : Nat) :
    s.blindTg r = { s.tgMarked r with beam := (s.blindTg r).beam, evt := (s.blindTg r).evt, hdr := (s.blindTg r).hdr } := by
  obtain ⟨b, hoff⟩ := telemetryRespsOff_beam ((s.tgMarked r).blindHold r 5) r
  rw [State.blindTg, hoff, blindHold_frame]

theorem tgMarked_rel (s : State) (r : Nat) :
    s.tgMarked r = { s with rel := (s.tgMarked r).rel } ∧ (s.tgMarked r).rel.BLIND_TG = putBit s.rel.BLIND_TG r true := ⟨rfl, rfl⟩

theorem tgMarked_effect (s : State) (r : Fin 16) :
    (s.tgMarked r.val).rel.BLIND_TG.testBit r.val = true ∧ (s.tgMarked r.val).rel.wear[r].okRun = 0 :=
  ⟨by rw [(tgMarked_rel s r.val).2, testBit_putBit], by simp [State.tgMarked, State.blindTimed, State.wearMod, vMod_fin]⟩

theorem blindTg_effect (s : State) (r : Fin 16) :
    (s.blindTg r.val).rel.BLIND_TG.testBit r.val = true ∧ (s.blindTg r.val).rel.wear[r].okRun = 0 ∧
      respOn (s.blindTg r.val) r.val 5 = true ∧ (respOf (s.blindTg r.val) r.val 5).rc = blindLevel s ∧
      respOn (s.blindTg r.val) r.val 1 = false ∧
      s.blindTg r.val = { s with beam := (s.blindTg r.val).beam, rel := (s.blindTg r.val).rel, evt := (s.blindTg r.val).evt,
                                 hdr := (s.blindTg r.val).hdr } := by
  obtain ⟨hmark, hrun⟩ := tgMarked_effect s r
  obtain ⟨hheld, hrest⟩ := respOf_telemetryRespsOff ((s.tgMarked r.val).blindHold r.val 5) r.isLt
  obtain ⟨hon, hlevel⟩ := respOf_blindHold (s.tgMarked r.val) r.isLt (k := 5) (by decide)
  have hrel : (s.blindTg r.val).rel = (s.tgMarked r.val).rel := by rw [blindTg_frame]
  rw [hrel]
  refine ⟨hmark, hrun, (congrArg Resp.on hheld).trans hon, (congrArg Resp.rc hheld).trans hlevel, congrArg Resp.on hrest, ?_⟩
  exact blindTg_frame s r.val

theorem busMarked_rel (s : State) (r : Nat) :
    s.busMarked r = { s with rel := (s.busMarked r).rel } ∧ (s.busMarked r).rel.BLIND_BUS = putBit s.rel.BLIND_BUS r true := ⟨rfl, rfl⟩

theorem blindBus_effect (s : State) (r : Fin 16) :
    (s.blindBus r.val).rel.BLIND_BUS.testBit r.val = true ∧ respOn (s.blindBus r.val) r.val 7 = true ∧
      (respOf (s.blindBus r.val) r.val 7).rc = blindLevel s ∧
      s.blindBus r.val = { s with beam := (s.blindBus r.val).beam, rel := (s.blindBus r.val).rel, evt := (s.blindBus r.val).evt,
                                  hdr := (s.blindBus r.val).hdr } := by
  have hframe : s.blindBus r.val = { s.busMarked r.val with
      beam := (s.blindBus r.val).beam, evt := (s.blindBus r.val).evt, hdr := (s.blindBus r.val).hdr } := blindHold_frame _ r.val 7
  obtain ⟨hon, hlevel⟩ := respOf_blindHold (s.busMarked r.val) r.isLt (k := 7) (by decide)
  have hrel : (s.blindBus r.val).rel = (s.busMarked r.val).rel := by rw [hframe]
  rw [hrel]
  exact ⟨by rw [(busMarked_rel s r.val).2, testBit_putBit], hon, hlevel, hframe⟩

/-! ### End (R489) -/

/-- A rail with a cause of blind mode ended: lost telemetry, or an unresponsive regulator. -/
def State.blindEnded (s : State) (r : Nat) (tg bus : Bool) : State :=
  let s := { s with rel.BLIND_TG := if tg then putBit s.rel.BLIND_TG r false else s.rel.BLIND_TG,
                    rel.BLIND_BUS := if bus then putBit s.rel.BLIND_BUS r false else s.rel.BLIND_BUS }
  if tg then s.wearMod r fun e => { e with tgAt := none, okRun := 0 } else s

/-- The last cause gone is said, and settled. -/
def State.sighted (s : State) (r blindAt : Nat) : State :=
  if railBlind s r then s else (s.event 0x1415 (r :: [sat 16 (s.usSince blindAt)])).beamSettle.settle 0x1415

theorem exec_blindModeEnd {s : State} {r : Fin 16} {tg bus : Bool}
    (htg : (s.rel.BLIND_TG.testBit r.val && decide (4096 ≤ (vAt s.rel.wear r.val {}).okRun)) = tg)
    (hbus : (s.rel.BLIND_BUS.testBit r.val && !unresp s r.val) = bus) (hone : (tg || bus) = true) :
    exec (.blindModeEnd r) s = .next ((s.blindEnded r.val tg bus).sighted r.val (vAt s.rel.wear r.val {}).blindAt) := by
  subst htg hbus
  exact congrArg Host.Outcome.next (if_pos hone)

theorem blindEnded_frame (s : State) (r : Nat) (tg bus : Bool) :
    s.blindEnded r tg bus = { s with rel := (s.blindEnded r tg bus).rel } := by
  unfold State.blindEnded
  cases tg <;> rfl

theorem blindEnded_tg (s : State) (r : Fin 16) (bus : Bool) :
    (s.blindEnded r.val true bus).rel.BLIND_TG.testBit r.val = false ∧ (s.blindEnded r.val true bus).rel.wear[r].tgAt = none ∧
      (s.blindEnded r.val true bus).rel.BLIND_BUS.testBit r.val = if bus then false else s.rel.BLIND_BUS.testBit r.val := by
  refine ⟨(testBit_putBit s.rel.BLIND_TG r.val false :), ?_, ?_⟩
  · simp [State.blindEnded, State.wearMod, vMod_fin]
  · cases bus
    · rfl
    · exact (testBit_putBit s.rel.BLIND_BUS r.val false :)

theorem blindEnded_bus (s : State) (r : Nat) :
    s.blindEnded r false true = { s with rel.BLIND_BUS := putBit s.rel.BLIND_BUS r false } := rfl

theorem sighted_blindness (s : State) (r a : Nat) : (s.sighted r a).rel.blindness = s.rel.blindness := by
  unfold State.sighted
  split
  · rfl
  · rw [beamSettle_settle_blindness]
    simp

theorem sighted_frame (s : State) (rl : Rel) (r a : Nat) :
    let t := ({ s with rel := rl } : State).sighted r a
    t = { s with seq := t.seq, beam := t.beam, ctl := t.ctl, mbs := t.mbs, mbn := t.mbn, rck := t.rck, rel := t.rel, evt := t.evt,
                 hdr := t.hdr } := by
  dsimp only
  unfold State.sighted
  split
  · rfl
  · refine beamSettle_settle_of _ ?_
    simp [State.eq_of_pages]

end Sys2Proof.Machine
end

section
namespace Sys2Proof.Proofs

open Sys2Proof Sys2Proof.Machine

/-- Settles O46: the mark puts the rail's response at LEVEL, and what follows it (`blindSaid`, `sighted`) leaves the responses and blind
mode as they are. -/
theorem blindModeRuns : Obligations.BlindModeRuns := by
  unfold Obligations.BlindModeRuns
  intro s r
  refine ⟨fun a hat hdue hoff => ?_, fun a hat hdue hoff htg => ?_, fun htg hrun => ?_, fun hbus hresp htg => ?_⟩
  · obtain ⟨hmark, hok, hon, hlevel, hrest, hframe⟩ := blindTg_effect s r
    obtain ⟨hresp, hblind, herr⟩ := blindSaid_effect (s.blindTg r.val) r.val 1
    obtain ⟨htg, -, hwear⟩ := blindness_parts hblind
    have hmark' := (congrArg (·.testBit r.val) htg).trans hmark
    refine ⟨_, exec_blindModeEntry_tg hat hdue hoff, hmark', ?_, ?_, (congrArg Resp.on (hresp _ _)).trans hon,
      (congrArg Resp.rc (hresp _ _)).trans hlevel, (congrArg Resp.on (hresp _ _)).trans hrest, herr, blindSaid_frame hframe _ _⟩
    · rw [railBlind, hmark', Bool.true_or]
    · rw [hwear]
      exact hok
  · obtain ⟨hmark, hon, hlevel, hframe⟩ := blindBus_effect s r
    obtain ⟨hresp, hblind, herr⟩ := blindSaid_effect (s.blindBus r.val) r.val 2
    obtain ⟨-, hbus, -⟩ := blindness_parts hblind
    exact ⟨_, exec_blindModeEntry_bus hat hdue hoff htg, (congrArg (·.testBit r.val) hbus).trans hmark, (congrArg Resp.on (hresp _ _)).trans hon,
      (congrArg Resp.rc (hresp _ _)).trans hlevel, herr, blindSaid_frame hframe _ _⟩
  · have htg' : (s.rel.BLIND_TG.testBit r.val && decide (4096 ≤ (vAt s.rel.wear r.val {}).okRun)) = true := by
      have hlong : 4096 ≤ (vAt s.rel.wear r.val {}).okRun := by
        rw [vAt, dif_pos r.isLt]
        exact hrun
      simp [htg, hlong]
    obtain ⟨hoff, hat, hbus⟩ := blindEnded_tg s r (s.rel.BLIND_BUS.testBit r.val && !unresp s r.val)
    obtain ⟨htg'', hbus', hwear⟩ := blindness_parts (sighted_blindness (s.blindEnded r.val true
      (s.rel.BLIND_BUS.testBit r.val && !unresp s r.val)) r.val (vAt s.rel.wear r.val {}).blindAt)
    refine ⟨_, exec_blindModeEnd htg' rfl rfl, ?_, ?_, fun hnobus => ?_, ?_⟩
    · rw [htg'', hoff]
    · rw [hwear, hat]
    · rw [railBlind, htg'', hbus', hoff, hbus, hnobus]
      rfl
    · rw [blindEnded_frame]
      exact sighted_frame s _ r.val _
  · have hbus' : (s.rel.BLIND_BUS.testBit r.val && !unresp s r.val) = true := by simp [hbus, hresp]
    have hnotg : (s.rel.BLIND_TG.testBit r.val && decide (4096 ≤ (vAt s.rel.wear r.val {}).okRun)) = false := by rw [htg, Bool.false_and]
    obtain ⟨htg'', hbus'', hwear⟩ := blindness_parts (sighted_blindness (s.blindEnded r.val false true) r.val
      (vAt s.rel.wear r.val {}).blindAt)
    refine ⟨_, exec_blindModeEnd hnotg hbus' rfl, ?_, ?_, ?_⟩
    · rw [railBlind, htg'', hbus'', blindEnded_bus, testBit_putBit, htg]
      rfl
    · rw [hwear, blindEnded_bus]
    · rw [blindEnded_frame]
      exact sighted_frame s _ r.val _

/-- Rail 0 of the reset state, whose telemetry was lost at tick 0. -/
def unseenState : State := liveReset.wearMod 0 fun e => { e with tgAt := some 0 }

/-- `blindModeRuns` applies: 200 µs later the rail is blind, and a rail that is blind sees again after 4096 delivered samples. -/
theorem unseenState_goes_blind :
    (∃ t, exec (.blindModeEntry 0) { unseenState with now := 800 } = .next t ∧ railBlind t 0 = true) ∧
      ∃ t, exec (.blindModeEnd 0) ({ liveReset with rel.BLIND_TG := 1 }.wearMod 0 fun e => { e with okRun := 4096 }) = .next t ∧
        railBlind t 0 = false := by
  obtain ⟨entry, -⟩ := blindModeRuns { unseenState with now := 800 } 0
  obtain ⟨-, -, ending, -⟩ := blindModeRuns ({ liveReset with rel.BLIND_TG := 1 }.wearMod 0 fun e => { e with okRun := 4096 }) 0
  obtain ⟨t, run, -, hblind, -⟩ := entry 0 (by decide) (by decide) (by decide)
  obtain ⟨u, run', -, -, hseen, -⟩ := ending (by decide) (by decide)
  exact ⟨⟨t, run, hblind⟩, u, run', hseen (by decide)⟩

end Sys2Proof.Proofs
end

section
/-! PROOFS. The setpoint bus (R348 to R355): what starts, what an acknowledge and a timeout leave. -/

namespace Sys2Proof.Machine

open Sys2Proof

/-! ### Starts (R348, R351) -/

/-- A transaction enters the free bus. -/
def State.busTakes (s : State) (x : VrgXact) : State := { s with vrg.cur := some x, vrg.curAt := s.now }

/-- The PREPOS of a rail, at the booked current of the moment (R348). -/
def preposOf (s : State) (r : Nat) : VrgXact :=
  { rail := r, op := 2, d := sat 16 ((bookedCurrent s r + 24) / 25), cover := (vAt s.tly.rail r {}).bookSeq }

/-- What a free bus does, by the queues that wait (R351). -/
theorem exec_vrgTransactionStart {s : State} (hfree : s.vrg.cur = none) (hopen : busOpen s = true) :
    (∀ r q, s.vrg.ppQ = r :: q → (s.vrg.ppRun < 16 ∨ s.vrg.trimQ = []) →
      exec .vrgTransactionStart s = .next { s.busTakes (preposOf s r) with vrg.ppQ := q, vrg.ppRun := s.vrg.ppRun + 1 }) ∧
    (∀ x q, s.vrg.trimQ = x :: q → ((s.vrg.ppQ = [] ∧ s.vrg.resendQ = []) ∨ (s.vrg.ppQ ≠ [] ∧ 16 ≤ s.vrg.ppRun)) →
      exec .vrgTransactionStart s = .next { s.busTakes x with vrg.trimQ := q, vrg.ppRun := 0 }) ∧
    ∀ r q, s.vrg.resendQ = r :: q → s.vrg.ppQ = [] →
      exec .vrgTransactionStart s = .next
        { s.busTakes { rail := r, op := 6, d := 0 } with vrg.resendQ := q, vrg.ppRun := 0 } := by
  have hgo : ¬ (s.vrg.cur.isSome || !busOpen s) = true := by simp [hfree, hopen]
  refine ⟨fun r q hpp htrim => ?_, fun x q htrim hturn => ?_, fun r q hresend hpp => ?_⟩
  · refine congrArg Host.Outcome.next ((if_neg hgo).trans ?_)
    cases h : s.vrg.trimQ with
    | nil => simp only [hpp]; rfl
    | cons x t' =>
      have hrun : ¬ 16 ≤ s.vrg.ppRun := by
        rcases htrim with h' | h'
        · omega
        · simp [h] at h'
      simp only [hpp, if_neg hrun]
      rfl
  · refine congrArg Host.Outcome.next ((if_neg hgo).trans ?_)
    rcases hturn with ⟨hpp, hresend⟩ | ⟨hpp, hrun⟩
    · simp [State.busTakes, hpp, hresend, htrim]
    · obtain ⟨r, t, hcons⟩ := List.exists_cons_of_ne_nil hpp
      simp [State.busTakes, hcons, htrim, hrun]
  · refine congrArg Host.Outcome.next ((if_neg hgo).trans ?_)
    cases h : s.vrg.trimQ <;> simp [State.busTakes, hpp, hresend]

/-! ### Acknowledges (R350) -/

theorem vrgOf_vrgMod (s : State) {r : Nat} (f : VrgRail → VrgRail) (hr : r < 16) : vrgOf (s.vrgMod r f) r = f (vrgOf s r) :=
  vAt_vMod_same _ _ _ _ hr

/-- A word decided for a unit leaves the rails of the tally as they are. -/
theorem sendWord_rail (s : State) (w : Nat) (row : Option Nat) : (s.sendWord w row).tly.rail = s.tly.rail := by
  unfold State.sendWord State.outRise
  dsimp only
  (repeat' split) <;> rfl

/-- Words sent to arm rows leave the rails of the tally as they are. -/
theorem armRail_rail (s : State) (r : Nat) : (s.armRail r).tly.rail = s.tly.rail := by
  unfold State.armRail
  split
  · rfl
  · refine foldl_proj (fun u : State => u.tly.rail) _ (fun u i => ?_) _ s
    dsimp only
    split
    · exact sendWord_rail _ _ _
    · rfl

/-- The regulator has taken the operand of an acknowledged transaction. -/
theorem xactAcked_setv (s : State) {x : VrgXact} (hop : x.op = 1) (ns : Nat) :
    s.xactAcked x ns = s.vrgMod x.rail fun e => { e with SET := x.d, setAck := true } := by
  simp [State.xactAcked, hop]

theorem xactAcked_phases (s : State) {x : VrgXact} (hop : x.op = 4) (ns : Nat) :
    s.xactAcked x ns = s.vrgMod x.rail fun e => { e with PHST_ACTIVE := x.d, mapAck := true } := by
  simp [State.xactAcked, hop]

/-- A PREPOS acknowledged: counted, timed, and covering the bookings it was made for (R350). -/
def State.preposTaken (s : State) (x : VrgXact) (ns : Nat) : State :=
  { s with vrg.PP_CNT := satAdd 32 s.vrg.PP_CNT 1, vrg.PP_TIME_LAST := sat 16 ns, vrg.PP_TIME_MAX := max s.vrg.PP_TIME_MAX (sat 16 ns),
           tly.rail := vMod s.tly.rail x.rail fun e => { e with ackSeq := x.cover } }

theorem xactAcked_prepos (s : State) {x : VrgXact} (hop : x.op = 2) (ns : Nat) :
    s.xactAcked x ns = ((s.preposTaken x ns).vrgMod x.rail fun e => { e with PP_I_PP := x.d }).armRail x.rail := by
  simp [State.xactAcked, hop, State.preposTaken]

theorem xactAcked_prepos_effect (s : State) {x : VrgXact} (hop : x.op = 2) (hr : x.rail < 16) (ns : Nat) :
    let t := s.xactAcked x ns
    t.vrg.cur = s.vrg.cur ∧ (vrgOf t x.rail).PP_I_PP = x.d ∧ (vAt t.tly.rail x.rail {}).ackSeq = x.cover ∧
      t.vrg.PP_CNT = satAdd 32 s.vrg.PP_CNT 1 ∧ t.vrg.PP_TIME_LAST = sat 16 ns ∧ t.tly.rows = s.tly.rows ∧
      t = { s with tly := t.tly, adm := t.adm, vrg := t.vrg } := by
  dsimp only
  rw [xactAcked_prepos _ hop]
  have hvrg : (((s.preposTaken x ns).vrgMod x.rail fun e => { e with PP_I_PP := x.d }).armRail x.rail).vrg =
      ((s.preposTaken x ns).vrgMod x.rail fun e => { e with PP_I_PP := x.d }).vrg := by simp
  refine ⟨(congrArg Vrg.cur hvrg :), ?_, ?_, (congrArg Vrg.PP_CNT hvrg :), (congrArg Vrg.PP_TIME_LAST hvrg :), State.armRail_rows _ _, ?_⟩
  · rw [vrgOf, hvrg]
    exact congrArg VrgRail.PP_I_PP (vrgOf_vrgMod _ _ hr)
  · rw [armRail_rail]
    exact congrArg TlyRail.ackSeq (vAt_vMod_same s.tly.rail _ _ _ hr)
  · simp [State.preposTaken, State.vrgMod, State.eq_of_pages]

/-- The bus freed by an acknowledge; a later attempt's word was replayed (R478). -/
def State.busFreed (s : State) (x : VrgXact) : State := (if 1 < x.tries then s.wordReplayed else s).vrgTaken

theorem exec_vrgAck {s : State} {x : VrgXact} (h : s.vrg.cur = some x) (ns : Nat) :
    exec (.vrgAck ns) s = .next ((s.busFreed x).xactAcked x ns) := by
  simp only [exec, execVrgAck, h]
  rfl

theorem busFreed_effect (s : State) (x : VrgXact) :
    ∃ rl, s.busFreed x = { s with vrg := { s.vrg with cur := none }, rel := rl } := by
  unfold State.busFreed
  split <;> exact ⟨_, rfl⟩

/-! ### Timeouts (R354) -/

/-- A timeout is counted. -/
def State.busTimedOut (s : State) : State := { s with vrg.BUS_CNT_TIMEOUTS := satAdd 16 s.vrg.BUS_CNT_TIMEOUTS 1 }

/-- The third attempt has failed: the regulator is unresponsive. -/
def State.busGivesUp (s : State) (x : VrgXact) : State :=
  ((s.busTimedOut.vrgTaken.wordRetired 7 x.rail).unrespMark x.rail x.op).beamSettle.settle 0x0B10

theorem exec_vrgAckTimeout {s : State} {x : VrgXact} (h : s.vrg.cur = some x) (hdue : s.vrg.curAt + 4 ≤ s.now) (hmore : x.single = false) :
    exec .vrgAckTimeout s = .next (if x.tries < 3 then
        { s.busTimedOut with vrg.cur := some { x with tries := x.tries + 1 }, vrg.curAt := s.now }
      else s.busGivesUp x) := by
  simp only [exec, execVrgAckTimeout, h]
  refine congrArg Host.Outcome.next ((if_pos (after_of_le hdue)).trans (if_neg ?_))
  rw [hmore]
  exact Bool.false_ne_true

/-- A regulator marked unresponsive, before its event and its response (R354). -/
def State.unrespNoted (s : State) (r : Nat) : State :=
  ({ s with vrg.BUS_UNRESP := putBit s.vrg.BUS_UNRESP r true, vrg.ppQ := s.vrg.ppQ.filter (· ≠ r),
            vrg.trimQ := s.vrg.trimQ.filter (·.rail ≠ r), vrg.resendQ := s.vrg.resendQ.filter (· ≠ r) }.vrgMod r
      fun e => { e with okRounds := 0, setAck := false, mapAck := false }).wearMod r fun e => { e with busAt := some s.now }

theorem unrespMark_eq (s : State) (r op : Nat) :
    s.unrespMark r op = ((s.unrespNoted r).fault pgVrg 17 0x0B10 [r, op]).respBegin r 7 0 := rfl

theorem unrespNoted_vrg (s : State) (r : Nat) :
    (s.unrespNoted r).vrg.BUS_UNRESP.testBit r = true ∧ (s.unrespNoted r).vrg.cur = s.vrg.cur ∧
      (s.unrespNoted r).vrg.BUS_CNT_TIMEOUTS = s.vrg.BUS_CNT_TIMEOUTS ∧ r ∉ (s.unrespNoted r).vrg.ppQ ∧
      (∀ y ∈ (s.unrespNoted r).vrg.trimQ, y.rail ≠ r) ∧
      s.unrespNoted r = { s with vrg := (s.unrespNoted r).vrg, rel := (s.unrespNoted r).rel } := by
  have hpp : (s.unrespNoted r).vrg.ppQ = s.vrg.ppQ.filter (· ≠ r) := rfl
  have htrim : (s.unrespNoted r).vrg.trimQ = s.vrg.trimQ.filter (·.rail ≠ r) := rfl
  have hmark : (s.unrespNoted r).vrg.BUS_UNRESP = putBit s.vrg.BUS_UNRESP r true := rfl
  refine ⟨by rw [hmark, testBit_putBit], rfl, rfl, ?_, ?_, rfl⟩
  · simp [hpp]
  · rw [htrim]
    simp

theorem respBegin_vrg (s : State) (r k rc : Nat) : (s.respBegin r k rc).vrg = s.vrg := by simp

theorem unrespMark_effect (s : State) {r : Nat} (op : Nat) (hr : r < 16) :
    (s.unrespMark r op).vrg = (s.unrespNoted r).vrg ∧ (s.unrespMark r op).hasErr pgVrg 17 ∧
      respOn (s.unrespMark r op) r 7 = true ∧ (respOf (s.unrespMark r op) r 7).rc = 0 ∧
      s.unrespMark r op = { s with beam := (s.unrespMark r op).beam, vrg := (s.unrespMark r op).vrg, rel := (s.unrespMark r op).rel,
                                   evt := (s.unrespMark r op).evt, hdr := (s.unrespMark r op).hdr } := by
  rw [unrespMark_eq]
  obtain ⟨hon, hrc, -⟩ := respBegin_rail ((s.unrespNoted r).fault pgVrg 17 0x0B10 [r, op]) 0 hr (k := 7) (by decide)
  refine ⟨by simp, ((ErrorsArrive.refl _).respBegin r 7 0).keeps _ _ (hasErr_fault ..), hon, Nat.le_zero.mp hrc, ?_⟩
  have hnoted : (s.unrespNoted r) = { s with vrg := (s.unrespNoted r).vrg, rel := (s.unrespNoted r).rel } := rfl
  rw [hnoted]
  simp [State.eq_of_pages]

theorem busGivesUp_effect (s : State) {x : VrgXact} (hr : x.rail < 16) :
    (s.busGivesUp x).vrg = (s.busTimedOut.vrgTaken.unrespNoted x.rail).vrg ∧ (s.busGivesUp x).hasErr pgVrg 17 ∧
      railRc (s.busGivesUp x) x.rail = 0 ∧
      s.busGivesUp x = { s with seq := (s.busGivesUp x).seq, beam := (s.busGivesUp x).beam, ctl := (s.busGivesUp x).ctl,
                                vrg := (s.busGivesUp x).vrg, mbs := (s.busGivesUp x).mbs, mbn := (s.busGivesUp x).mbn,
                                rck := (s.busGivesUp x).rck, rel := (s.busGivesUp x).rel, evt := (s.busGivesUp x).evt,
                                hdr := (s.busGivesUp x).hdr } := by
  have hvrg : (s.busTimedOut.vrgTaken.wordRetired 7 x.rail).vrg = s.busTimedOut.vrgTaken.vrg := by simp
  obtain ⟨hmark, herr, hon, hrc, hframe⟩ := unrespMark_effect (s.busTimedOut.vrgTaken.wordRetired 7 x.rail) x.op hr
  have hpages : s.busTimedOut.vrgTaken.wordRetired 7 x.rail = { s with
      vrg := s.busTimedOut.vrgTaken.vrg, rel := (s.busTimedOut.vrgTaken.wordRetired 7 x.rail).rel,
      evt := (s.busTimedOut.vrgTaken.wordRetired 7 x.rail).evt, hdr := (s.busTimedOut.vrgTaken.wordRetired 7 x.rail).hdr } := by
    simp [State.busTimedOut, State.vrgTaken, State.eq_of_pages]
  refine ⟨?_, ((ErrorsArrive.refl _).beamSettle.settle _).keeps _ _ herr, ?_, ?_⟩
  · have hsettled (u : State) : (u.beamSettle.settle 0x0B10).vrg = u.vrg := by simp
    rw [State.busGivesUp, hsettled, hmark, State.unrespNoted, State.unrespNoted, hpages]
    rfl
  · refine (railFloor_of_resp (k := 7) (by decide) ?_ ?_).1
    · exact (congrArg Resp.on (beamSettle_settle_resp _ _ _ _)).trans hon
    · exact (congrArg Resp.rc (beamSettle_settle_resp _ _ _ _)).trans hrc
  · rw [State.busGivesUp, beamSettle_settle_frame, hframe, hpages]

end Sys2Proof.Machine
end

section
namespace Sys2Proof.Proofs

open Sys2Proof Sys2Proof.Machine

/-- Settles O44: the start follows the three queues; an acknowledge frees the bus and changes its regulator alone; the third timeout
marks the regulator and begins the rail's response at 0. -/
theorem setpointBusRuns : Obligations.SetpointBusRuns := by
  unfold Obligations.SetpointBusRuns
  intro s
  refine ⟨exec_vrgTransactionStart, fun x ns hcur hr => ⟨fun hop => ?_, fun hop => ?_, fun hop => ?_⟩, fun x hcur hmore hdue =>
    ⟨fun htries => ?_, fun htries hr => ?_⟩⟩
  · obtain ⟨rl, hfreed⟩ := busFreed_effect s x
    refine ⟨_, exec_vrgAck hcur ns, ?_⟩
    rw [xactAcked_setv _ hop, hfreed]
    exact ⟨rfl, congrArg VrgRail.SET (vrgOf_vrgMod _ _ hr), rfl⟩
  · obtain ⟨rl, hfreed⟩ := busFreed_effect s x
    refine ⟨_, exec_vrgAck hcur ns, ?_⟩
    rw [hfreed]
    obtain ⟨hfree, htaken, hcover, hcount, hlast, hrows, hframe⟩ :=
      xactAcked_prepos_effect { s with vrg := { s.vrg with cur := none }, rel := rl } hop hr ns
    refine ⟨hfree, htaken, hcover, hcount, hlast, hrows, hframe.trans ?_⟩
    rw [hframe]
  · obtain ⟨rl, hfreed⟩ := busFreed_effect s x
    refine ⟨_, exec_vrgAck hcur ns, ?_⟩
    rw [xactAcked_phases _ hop, hfreed]
    exact ⟨rfl, congrArg VrgRail.PHST_ACTIVE (vrgOf_vrgMod _ _ hr), rfl⟩
  · rw [exec_vrgAckTimeout hcur hdue hmore, if_pos htries]
    rfl
  · obtain ⟨hvrg, herr, hrc, hframe⟩ := busGivesUp_effect s hr
    obtain ⟨hmark, hfree, hcount, hpp, htrim, -⟩ := unrespNoted_vrg s.busTimedOut.vrgTaken x.rail
    have hrun := (exec_vrgAckTimeout hcur hdue hmore).trans (congrArg Host.Outcome.next (if_neg (Nat.not_lt.mpr htries)))
    refine ⟨_, hrun, ?_⟩
    rw [hvrg]
    exact ⟨hfree, hmark, hcount, hpp, htrim, herr, hrc, hvrg ▸ hframe⟩

/-- The reset state past step 2 of the cold exit, with a PREPOS of rail 3 waiting. -/
def preposState : State := { liveReset with rst.started := true, rst.por := false, rst.pin := false, vrg.ppQ := [3] }

/-- A transaction of rail 3 whose third attempt is on the bus since tick 0. -/
def lastTry : VrgXact := { rail := 3, op := 1, d := 5, tries := 3 }

/-- `setpointBusRuns` applies: the PREPOS starts, the third attempt's acknowledge sets the regulator, and 1 µs without it takes the rail
to its floor. -/
theorem preposState_runs :
    (∃ t x, exec .vrgTransactionStart preposState = .next t ∧ t.vrg.cur = some x ∧ x.rail = 3 ∧ x.op = 2) ∧
    (∃ t, exec (.vrgAck 100) { preposState with vrg.cur := some lastTry } = .next t ∧ (vrgOf t 3).SET = 5) ∧
    ∃ t, exec .vrgAckTimeout { preposState with vrg.cur := some lastTry, now := 4 } = .next t ∧ railRc t 3 = 0 := by
  obtain ⟨start, -⟩ := setpointBusRuns preposState
  obtain ⟨-, acks, -⟩ := setpointBusRuns { preposState with vrg.cur := some lastTry }
  obtain ⟨-, -, timeouts⟩ := setpointBusRuns { preposState with vrg.cur := some lastTry, now := 4 }
  obtain ⟨prepos, -⟩ := start rfl (by decide)
  obtain ⟨setv, -⟩ := acks lastTry 100 rfl (by decide)
  obtain ⟨t, acked, -, hset, -⟩ := setv rfl
  obtain ⟨-, third⟩ := timeouts lastTry rfl rfl (by decide)
  obtain ⟨u, timedOut, -, -, -, -, -, -, hrc, -⟩ := third (by decide) (by decide)
  exact ⟨⟨_, _, prepos 3 [] rfl (.inl (by decide)), rfl, rfl, rfl⟩, ⟨t, acked, hset⟩, u, timedOut, hrc⟩

end Sys2Proof.Proofs
end

section
/-! PROOFS. The PMBus master (R362 to R369): polling, host transactions, alerts and counter persistence. -/

namespace Sys2Proof.Machine

open Sys2Proof

/-! ### What the next transaction and a round's end leave alone -/

/-- The count of transactions not acknowledged, and the hour last kept. -/
def Pmb.tally (e : Pmb) : Nat × Nat := (e.ERR_CNT_NACK, e.persHr)

/-- How many rounds in a row were outside the limits (R364). -/
def State.inputJudged (s : State) : State :=
  let v := s.pmb.VIN_VIN
  let bad := s.pmb.vinAt.isSome && (decide (v < s.pmb.VIN_LIM_VIN_LO) || decide (s.pmb.VIN_LIM_VIN_HI < v))
  let hi := s.pmb.iinAt.isSome && decide (s.pmb.IIN_LIM < s.pmb.IIN)
  { s with pmb.vinBad := if bad then s.pmb.vinBad + 1 else 0, pmb.iinBad := if hi then s.pmb.iinBad + 1 else 0 }

/-- The input voltage outside its limits for two rounds (R364). -/
def State.vinLimit (s : State) : State := if s.pmb.vinBad = 2 then s.fault pgPmb 20 0x0C13 [s.pmb.VIN_VIN] else s

/-- The input current outside its limit for two rounds (R364). -/
def State.iinLimit (s : State) : State := if s.pmb.iinBad = 2 then s.fault pgPmb 21 0x0C14 [s.pmb.IIN] else s

theorem inputLimits_eq (s : State) : s.inputLimits = s.inputJudged.vinLimit.iinLimit := rfl

/-- Later errors arrive, and `Pmb.tally` stays: what polling and the link may do besides their own. -/
structure PmbRunsOn (s t : State) : Prop where
  tally : t.pmb.tally = s.pmb.tally
  errors : ErrorsArrive s t

section
variable {s t : State}

theorem PmbRunsOn.of_eq (hpmb : t.pmb.tally = s.pmb.tally) (hhdr : t.hdr = s.hdr) : PmbRunsOn s t := ⟨hpmb, .of_hdr hhdr⟩

theorem PmbRunsOn.trans {u : State} (h : PmbRunsOn s t) (h' : PmbRunsOn t u) : PmbRunsOn s u :=
  ⟨h'.tally.trans h.tally, h.errors.trans h'.errors⟩

theorem PmbRunsOn.ite {c : Prop} [Decidable c] {u v : State} (hu : PmbRunsOn s u) (hv : PmbRunsOn s v) :
    PmbRunsOn s (if c then u else v) := by
  split
  · exact hu
  · exact hv

theorem PmbRunsOn.event (c : Nat) (d : List Nat) (h : PmbRunsOn s t) : PmbRunsOn s (t.event c d) :=
  ⟨(congrArg Pmb.tally (by simp)).trans h.tally, h.errors.event c d⟩

theorem PmbRunsOn.fault (p : Fin 23) (b c : Nat) (d : List Nat) (h : PmbRunsOn s t) : PmbRunsOn s (t.fault p b c d) :=
  ⟨(congrArg Pmb.tally (by simp)).trans h.tally, h.errors.fault p b c d⟩

theorem PmbRunsOn.frmSend (cls typ dst pay : Nat) (h : PmbRunsOn s t) : PmbRunsOn s (t.frmSend cls typ dst pay) := by
  obtain ⟨e, w, hlinks⟩ := frmSend_links t cls typ dst pay
  rw [hlinks]
  exact h.trans (.of_eq rfl rfl)

/-- One converter at the end of a round (R362). -/
theorem PmbRunsOn.convRound (i : Nat) (h : PmbRunsOn s t) : PmbRunsOn s (t.convRound i) := by
  have hround (f : PmbConv → PmbConv) : PmbRunsOn s (t.convMod i f) := h.trans (.of_eq rfl rfl)
  unfold State.convRound
  exact .ite h (.ite (.event _ _ (hround _)) (hround _))

theorem PmbRunsOn.formInput (h : PmbRunsOn s t) : PmbRunsOn s t.formInput := by
  refine h.trans ?_
  unfold State.formInput
  dsimp only
  (repeat' split) <;> exact .of_eq rfl rfl

theorem PmbRunsOn.inputLimits (h : PmbRunsOn s t) : PmbRunsOn s t.inputLimits := by
  rw [inputLimits_eq]
  have hjudged : PmbRunsOn s t.inputJudged := by
    obtain ⟨v, i, hrounds⟩ : ∃ v i, t.inputJudged = { t with pmb.vinBad := v, pmb.iinBad := i } := ⟨_, _, rfl⟩
    rw [hrounds]
    exact h.trans (.of_eq rfl rfl)
  have hvin : PmbRunsOn s t.inputJudged.vinLimit := by
    unfold State.vinLimit
    exact .ite (hjudged.fault _ _ _ _) hjudged
  unfold State.iinLimit
  exact .ite (hvin.fault _ _ _ _) hvin

/-- The end of a round (R362 to R364). -/
theorem PmbRunsOn.pollEnd (h : PmbRunsOn s t) : PmbRunsOn s t.pollEnd := by
  have hrounds : PmbRunsOn s ((List.range 8).foldl State.convRound t) :=
    List.foldlRecOn (motive := PmbRunsOn s) _ _ h fun _ hu i _ => hu.convRound i
  have hended (u : State) (hu : PmbRunsOn s u) (r d : Nat) :
      PmbRunsOn s { u with pmb.inRound := false, pmb.ROUND_ROUNDS := r, pmb.ROUND_DUR := d } := hu.trans (.of_eq rfl rfl)
  unfold State.pollEnd State.publishInput
  exact .frmSend _ _ _ _ (.inputLimits (.formInput (hended _ hrounds _ _)))

/-- What the master takes up next (R366, R369). -/
theorem PmbRunsOn.pmbNext (h : PmbRunsOn s t) : PmbRunsOn s t.pmbNext := by
  unfold State.pmbNext
  dsimp only
  (repeat' split)
  case _ => exact h
  case _ => exact h.trans (.of_eq rfl rfl)
  case _ => exact h.trans (.of_eq rfl rfl)
  case _ => exact h.trans (.of_eq rfl rfl)
  case _ => exact h.pollEnd
  case _ => exact h

/-- A member's message for the master (R369). -/
theorem PmbRunsOn.counterAsk (write : Bool) (h : PmbRunsOn s t) : PmbRunsOn s (t.counterAsk write) := by
  unfold State.counterAsk
  dsimp only
  (repeat' split)
  case _ => exact h
  case _ => exact .pmbNext (h.trans (.of_eq rfl rfl))
  case _ => exact .frmSend _ _ _ _ (.frmSend _ _ _ _ h)
  case _ => exact .frmSend _ _ _ _ h

end

/-! ### Failures -/

/-- A transaction has not been acknowledged: `n` such in all, and ERR.NACK. -/
structure NackStands (n : Nat) (t : State) : Prop where
  count : t.pmb.ERR_CNT_NACK = n
  flag : t.hasErr pgPmb 17

section
variable {n : Nat} {t : State}

theorem NackStands.on {u : State} (h : NackStands n t) (h' : PmbRunsOn t u) : NackStands n u :=
  ⟨(congrArg Prod.fst h'.tally).trans h.count, h'.errors.keeps _ _ h.flag⟩

theorem NackStands.keeps {u : State} (h : NackStands n t) (hpmb : u.pmb.ERR_CNT_NACK = t.pmb.ERR_CNT_NACK) (hhdr : u.hdr = t.hdr) :
    NackStands n u := ⟨hpmb.trans h.count, hasErr_of_hdr h.flag hhdr⟩

theorem NackStands.ite {c : Prop} [Decidable c] {u v : State} (hu : NackStands n u) (hv : NackStands n v) :
    NackStands n (if c then u else v) := by
  split
  · exact hu
  · exact hv

theorem NackStands.next (h : NackStands n t) : NackStands n t.pmbNext := h.on (.pmbNext (.of_eq rfl rfl))

theorem NackStands.event (c : Nat) (d : List Nat) (h : NackStands n t) : NackStands n (t.event c d) := h.on (.event c d (.of_eq rfl rfl))

theorem NackStands.fault (p : Fin 23) (b c : Nat) (d : List Nat) (h : NackStands n t) : NackStands n (t.fault p b c d) :=
  h.on (.fault p b c d (.of_eq rfl rfl))

theorem NackStands.anchor (restored : Bool) (h : NackStands n t) : NackStands n (t.anchor restored) := by
  unfold State.anchor
  dsimp only
  (repeat' split)
  case _ => exact h
  case _ => exact .event _ _ (h.keeps rfl rfl)
  case _ => exact .fault _ _ _ _ (h.keeps rfl rfl)

/-- The answer to a request of this member's own (R369). -/
theorem NackStands.countersAnswer (st opt pc sq : Nat) (h : NackStands n t) : NackStands n (t.countersAnswer st opt pc sq) := by
  cases hawaited : t.evt.norest with
  | false => rwa [State.countersAnswer, if_pos (by simp [hawaited])]
  | true =>
    rw [countersAnswer_awaited hawaited]
    have hset (ok : Bool) : NackStands n (t.countersSet ok opt pc) := h.keeps rfl rfl
    have hmoved (ok : Bool) (old : Nat) : NackStands n ((t.countersSet ok opt pc).optimeMoved old) := by
      unfold State.optimeMoved
      split <;> exact (hset ok).keeps rfl rfl
    have hsaid (ok : Bool) (old : Nat) (d : List Nat) :
        NackStands n { ((t.countersSet ok opt pc).optimeMoved old).event 0x1514 d with evt.norest := false } :=
      .keeps (.event _ _ (hmoved ok old)) rfl rfl
    exact .anchor _ (.ite (.event _ _ (hsaid _ _ _)) (hsaid _ _ _))

theorem NackStands.counterReply (q : CtrReq) (st opt pc sq : Nat) (h : NackStands n t) : NackStands n (t.counterReply q st opt pc sq) := by
  have hask (u : State) (hu : NackStands n u) (w : Bool) : NackStands n (u.counterAsk w) := hu.on (.counterAsk w (.of_eq rfl rfl))
  have hsend (u : State) (hu : NackStands n u) (a b c d : Nat) : NackStands n (u.frmSend a b c d) := hu.on (.frmSend a b c d (.of_eq rfl rfl))
  have hused : NackStands n { t with pmb.reqs := t.pmb.reqs.drop 1 } := h.keeps rfl rfl
  unfold State.counterReply
  dsimp only
  (repeat' split)
  case _ => exact hused
  case _ => exact hask _ (hused.countersAnswer ..) _
  case _ => exact hused.countersAnswer ..
  case _ => exact hsend _ (hsend _ hused _ _ _ _) _ _ _ _
  case _ => exact hsend _ hused _ _ _ _

theorem NackStands.eeFail (q : CtrReq) (cause : Nat) (h : NackStands n t) : NackStands n (t.eeFail q cause) :=
  (h.fault ..).counterReply ..

end

/-- A transaction without an acknowledge is counted and flagged before anything else (R362). -/
def State.nacked (s : State) : State := { s with pmb.ERR_CNT_NACK := satAdd 16 s.pmb.ERR_CNT_NACK 1 }.setErr pgPmb 17

theorem nacked_stands (s : State) : NackStands (satAdd 16 s.pmb.ERR_CNT_NACK 1) s.nacked :=
  ⟨rfl, hasErr_setErr_self ..⟩

/-- The outcome of a transaction is counted: 2 a PEC mismatch, 1 no acknowledge (R362). -/
def State.pmbCounted (s : State) (st : Nat) : State :=
  if st = 2 then { s with pmb.ERR_CNT_PEC := satAdd 16 s.pmb.ERR_CNT_PEC 1 } else if st = 1 then s.nacked else s

/-- What a counted outcome does, by the task (R362, R366, R369). -/
def State.pmbEnds (s : State) (st w : Nat) (slot : Option (List Nat)) : PmbTask → State
  | .none => s
  | .poll k t =>
    if st = 0 then (s.pollData k w).pmbNext
    else if st = 2 ∧ t < 3 then { s with pmb.task := .poll k (t + 1) }
    else ((if st = 2 then s.setErr pgPmb 16 else s).convFail (k / 2)).pmbNext
  | .host kind i c d t =>
    if st = 2 ∧ t < 3 then { s with pmb.task := .host kind i c d (t + 1) }
    else ((if st = 2 then s.setErr pgPmb 16 else s).hostXactEnd i st (if st = 0 ∧ kind = 3 then w else 0)).pmbNext
  | .eeRead =>
    let s := { s with pmb.task := .none }
    match s.pmb.reqs with
    | [] => s.pmbNext
    | q :: _ =>
      match st, slot with
      | 0, some bs => (s.eeSlot q bs).pmbNext
      | _, _ => (s.eeFail q 2).pmbNext
  | .eeWrite copy sq =>
    let s := { s with pmb.task := .none }
    match s.pmb.reqs with
    | [] => s.pmbNext
    | q :: _ =>
      if st = 0 then ({ s with pmb.PERS_SEQ := sat 16 sq, pmb.PERS_COPY := decide (copy = 1) }.counterReply q 3 0 0 sq).pmbNext
      else (s.eeFail q 2).pmbNext

theorem pmbCounted_task (s : State) (st : Nat) : (s.pmbCounted st).pmb.task = s.pmb.task := by
  unfold State.pmbCounted
  (repeat' split) <;> rfl

theorem pmbOutcome_eq (s : State) (st w : Nat) (slot : Option (List Nat)) :
    s.pmbOutcome st w slot = (s.pmbCounted st).pmbEnds st w slot s.pmb.task :=
  (rfl : _ = (s.pmbCounted st).pmbEnds st w slot (s.pmbCounted st).pmb.task).trans (by rw [pmbCounted_task])

/-- What the end without an acknowledge does, by the task (R362, R366, R369). -/
def State.nackEnds (s : State) : PmbTask → State
  | .none => s
  | .poll k _ => (s.convFail (k / 2)).pmbNext
  | .host _ i _ _ _ => (s.hostXactEnd i 1 0).pmbNext
  | .eeRead | .eeWrite _ _ =>
    match s.pmb.reqs with
    | [] => { s with pmb.task := .none }.pmbNext
    | q :: _ => ({ s with pmb.task := .none }.eeFail q 2).pmbNext

theorem pmbOutcome_nack (s : State) : s.pmbOutcome 1 0 none = s.nacked.nackEnds s.pmb.task := by
  have hcounted : s.pmbCounted 1 = s.nacked := rfl
  rw [pmbOutcome_eq, hcounted]
  cases s.pmb.task <;> rfl

section
variable {n : Nat} {t : State}

theorem NackStands.nackEnds (k : PmbTask) (h : NackStands n t) : NackStands n (t.nackEnds k) := by
  cases k with
  | none => exact h
  | poll k tr => exact .next (h.keeps rfl rfl)
  | host kind i c d tr => exact .next (.event _ _ (h.keeps rfl rfl))
  | eeRead =>
    unfold State.nackEnds
    dsimp only
    split
    · exact .next (h.keeps rfl rfl)
    · exact .next (.eeFail _ _ (h.keeps rfl rfl))
  | eeWrite copy sq =>
    unfold State.nackEnds
    dsimp only
    split
    · exact .next (h.keeps rfl rfl)
    · exact .next (.eeFail _ _ (h.keeps rfl rfl))

end

/-- An outcome is of the transaction in hand, and needs one. -/
theorem exec_pmbusTransactionDone {s : State} (h : s.pmb.task ≠ .none) :
    (∀ w : BitVec 16, exec (.pmbusTransactionDone (.data w)) s = .next (s.pmbOutcome 0 w.toNat none)) ∧
      exec (.pmbusTransactionDone .pecBad) s = .next (s.pmbOutcome 2 0 none) ∧
      exec (.pmbusTransactionDone .nack) s = .next (s.pmbOutcome 1 0 none) ∧
      exec .smbusTimeout s = .next (s.pmbOutcome 3 0 none) :=
  ⟨fun _ => congrArg Host.Outcome.next (if_neg h), congrArg Host.Outcome.next (if_neg h), congrArg Host.Outcome.next (if_neg h),
    congrArg Host.Outcome.next (if_neg h)⟩

/-! ### Polling (R362) -/

/-- The next read of a round is the first that is due, at `k` where its converter is valid and has not failed. -/
theorem pollFrom_self {s : State} {k : Nat} (hk : k < 16) (hvalid : (convOf s (k / 2)).CONV_VALID = true)
    (hgood : s.pmb.failed.testBit (k / 2) = false) : pollFrom s k = k := by
  have hfirst : firstBelow 16 (fun j => decide (k ≤ j) && (convOf s (j / 2)).CONV_VALID && !s.pmb.failed.testBit (j / 2)) = some k := by
    refine List.find?_range_eq_some.mpr ⟨by simp [hvalid, hgood], List.mem_range.mpr hk, fun j hj => ?_⟩
    simp [Nat.not_le.mpr hj]
  rw [pollFrom, hfirst, Option.getD_some]

/-- With nothing else to do, the round goes on. -/
theorem pmbNext_poll {s : State} (htask : s.pmb.task = .none) (hhost : s.pmb.host = none) (hreqs : s.pmb.reqs = [])
    (hround : s.pmb.inRound = true) {k : Nat} (hnext : s.pmb.next = k) (hk : k < 16) (hvalid : (convOf s (k / 2)).CONV_VALID = true)
    (hgood : s.pmb.failed.testBit (k / 2) = false) :
    s.pmbNext = { s with pmb.task := .poll k 1, pmb.next := k + 1 } := by
  have hfrom : pollFrom s s.pmb.next = k := by rw [hnext, pollFrom_self hk hvalid hgood]
  simp [State.pmbNext, htask, hhost, hreqs, hround, hfrom, hk]

/-- A round of polls begins (R362). -/
def State.roundBegun (s : State) : State := { s with pmb.inRound := true, pmb.roundAt := s.now, pmb.failed := 0, pmb.next := 0 }

/-- A good read of converter `i` is kept (R362). -/
def State.readKept (s : State) (i : Nat) (f : PmbConv → PmbConv) : State := ({ s with pmb.task := .none } : State).convMod i f

theorem convOf_readKept (s : State) {i : Nat} (hi : i < 8) (f : PmbConv → PmbConv) : convOf (s.readKept i f) i = f (convOf s i) :=
  vAt_vMod_same _ _ _ _ hi

/-- With nothing to do, the master rests. -/
theorem pmbNext_idle {s : State} (hhost : s.pmb.host = none) (hreqs : s.pmb.reqs = []) (hround : s.pmb.inRound = false) :
    s.pmbNext = s := by
  simp [State.pmbNext, hhost, hreqs, hround]

/-- A good read of a converter's input voltage (R362). -/
theorem pollData_even (s : State) {k : Nat} (h : k % 2 = 0) (w : Nat) :
    s.pollData k w = s.readKept (k / 2) fun e =>
      { e with READ_VIN := sat 16 (toHundredths (lin16 (linear11 w)) 1).toNat, vinAt := some s.now, vinX := linear11 w } := by
  exact if_pos h

/-- A host transaction ends with its status (R366). -/
theorem hostXactEnd_effect (s : State) (slot st rdata : Nat) :
    (s.hostXactEnd slot st rdata).pmb =
        { s.pmb with task := .none, HOST_RES_DONE := true, HOST_RES_ST := st, HOST_RES_RDATA := rdata } ∧
      s.hostXactEnd slot st rdata = { s with pmb := (s.hostXactEnd slot st rdata).pmb, evt := (s.hostXactEnd slot st rdata).evt,
                                             hdr := (s.hostXactEnd slot st rdata).hdr } :=
  ⟨by simp [State.hostXactEnd], by simp [State.eq_of_pages]⟩

theorem hostXactEnd_next {s : State} (hhost : s.pmb.host = none) (hreqs : s.pmb.reqs = []) (hround : s.pmb.inRound = false)
    (slot st rdata : Nat) : (s.hostXactEnd slot st rdata).pmbNext = s.hostXactEnd slot st rdata := by
  have hpmb := (hostXactEnd_effect s slot st rdata).1
  exact pmbNext_idle ((congrArg Pmb.host hpmb).trans hhost) ((congrArg Pmb.reqs hpmb).trans hreqs)
    ((congrArg Pmb.inRound hpmb).trans hround)

/-! ### Alerts (R365) -/

/-- A converter slot whose device has alerted. -/
def PmbConv.alerted (e : PmbConv) (addr status : Nat) : PmbConv :=
  if e.CONV_VALID && decide (e.CONV_ADDR = addr) then { e with CST_STATUS := status } else e

/-- An alert is counted and kept with its device. -/
def State.alertKept (s : State) (addr status : Nat) : State :=
  { s with pmb.ALERT_ALERTS := satAdd 16 s.pmb.ALERT_ALERTS 1, pmb.ALERT_ADDR := addr, pmb.ALERT_ST := status,
           pmb.alertAt := s.now :: lastSecond s s.pmb.alertAt, pmb.conv := s.pmb.conv.map (·.alerted addr status) }

/-- The eighth alert of a second mutes alerts. -/
def State.alertMuted (s : State) : State := { s with pmb.muteAt := some s.now }.fault pgPmb 18 0x0C11 [8]

/-- What an alert leaves: kept, recorded, and muted where it is the eighth of a second. -/
def State.alertedAs (s : State) (addr status : Nat) : State :=
  let u := (s.alertKept addr status).event 0x0C10 [addr, status]
  if (lastSecond s s.pmb.alertAt).length = 7 then u.alertMuted else u

theorem exec_pmbAlert {s : State} (hmaster : pmbMaster s = true) (hmute : s.pmb.muteAt = none) (addr : BitVec 7) (status : BitVec 16) :
    exec (.pmbAlert addr status) s = .next (s.alertedAs addr.toNat status.toNat) := by
  refine congrArg Host.Outcome.next ((if_neg (by simp [hmaster, hmute])).trans ?_)
  by_cases h : (lastSecond s s.pmb.alertAt).length = 7
  · exact (if_pos (by simp [h])).trans (if_pos h).symm
  · exact (if_neg (by simp [h])).trans (if_neg h).symm

theorem pmbAlert_effect (s : State) (addr status : Nat) :
    ((lastSecond s s.pmb.alertAt).length = 7 →
      (s.alertedAs addr status).pmb.muteAt = some s.now ∧ (s.alertedAs addr status).hasErr pgPmb 18) ∧
    (s.alertedAs addr status).pmb = { (s.alertKept addr status).pmb with muteAt := (s.alertedAs addr status).pmb.muteAt } ∧
    s.alertedAs addr status = { s with pmb := (s.alertedAs addr status).pmb, evt := (s.alertedAs addr status).evt,
                                       hdr := (s.alertedAs addr status).hdr } := by
  have hmuted (u : State) : u.alertMuted.pmb = { u.pmb with muteAt := some u.now } := by simp [State.alertMuted]
  have hevent (u : State) (d : List Nat) : (u.event 0x0C10 d).pmb = u.pmb := by simp
  unfold State.alertedAs
  dsimp only
  by_cases h : (lastSecond s s.pmb.alertAt).length = 7
  · rw [if_pos h]
    refine ⟨fun _ => ⟨?_, hasErr_fault ..⟩, ?_, ?_⟩
    · rw [hmuted]
      simp [State.alertKept]
    · rw [hmuted, hevent]
    · simp [State.alertMuted, State.alertKept, State.eq_of_pages]
  · rw [if_neg h]
    refine ⟨fun h' => absurd h' h, ?_, ?_⟩
    · rw [hevent]
    · simp [State.alertKept, State.eq_of_pages]

/-! ### Counters kept (R369) -/

/-- The hour in which the counters are asked to be kept (R369). -/
def State.hourKept (s : State) : State := { s with pmb.persHr := optime s / 3600000 }

/-- A request that joins the master's queue. -/
def State.asking (s : State) (q : CtrReq) : State := { s with pmb.reqs := s.pmb.reqs ++ [q] }

/-- The master itself queues its request (R369). -/
theorem counterAsk_master {s : State} (hv : s.frm.FORM_FMAJ ≠ 2) (hmaster : s.frm.ROLE_PMB = myPos s) (write : Bool) :
    s.counterAsk write =
      (s.asking (CtrReq.mk (myPos s) s.cmn.fuses.dieId.toNat write (optime s % 2 ^ 48) s.evt.PCYCLE true)).pmbNext :=
  (if_neg hv).trans (if_pos hmaster)

end Sys2Proof.Machine
end

section
namespace Sys2Proof.Proofs

open Sys2Proof Sys2Proof.Machine

/-- Settles O50: each outcome is counted and then does what its task says (`pmbOutcome_eq`); the count and the flag of a transaction not
acknowledged stand through what follows (`NackStands`). -/
theorem pmbusRuns : Obligations.PmbusRuns := by
  unfold Obligations.PmbusRuns
  intro s
  refine ⟨fun hmaster hidle hdue htask hhost hreqs hvalid => ?_, fun k tr htask hhost hreqs hround hk =>
    ⟨fun w heven hnext hvalid hgood => ?_, fun htries => ?_⟩, fun htask => ?_, fun kind i c d tr htask hhost hreqs hround =>
    ⟨fun w => ?_, ?_⟩, fun addr status hmaster hmute => ?_, fun a hmute hdue => ?_, fun hrest hhour => ?_⟩
  · refine congrArg Host.Outcome.next ((if_pos (by simp [hmaster, hidle, hdue])).trans ?_)
    exact pmbNext_poll (s := s.roundBegun) (k := 0) htask hhost hreqs rfl rfl (by decide) hvalid
      (Nat.zero_testBit 0)
  · have hbusy : s.pmb.task ≠ .none := by simp [htask]
    refine ⟨_, (exec_pmbusTransactionDone hbusy).1 w, ?_⟩
    have hdone : s.pmbOutcome 0 w.toNat none = (s.pollData k w.toNat).pmbNext := by
      rw [pmbOutcome_eq, htask]
      rfl
    rw [hdone, pollData_even _ heven]
    have hhalf : (k + 1) / 2 = k / 2 := by omega
    have hconv (f : PmbConv → PmbConv) : convOf (s.readKept (k / 2) f) (k / 2) = f (convOf s (k / 2)) := convOf_readKept s (by omega) f
    have hpoll (f : PmbConv → PmbConv) (hf : ∀ e, (f e).CONV_VALID = e.CONV_VALID) :
        (s.readKept (k / 2) f).pmbNext = { s.readKept (k / 2) f with pmb.task := .poll (k + 1) 1, pmb.next := k + 1 + 1 } := by
      refine pmbNext_poll (s := s.readKept (k / 2) f) rfl hhost hreqs hround hnext (by omega) ?_ ?_
      · rw [hhalf, hconv, hf]
        exact hvalid
      · rw [hhalf]
        exact hgood
    rw [hpoll _ (by intro e; rfl)]
    exact ⟨rfl, (congrArg PmbConv.READ_VIN (hconv _) :), (congrArg PmbConv.READ_IIN (hconv _) :), rfl⟩
  · have hbusy : s.pmb.task ≠ .none := by simp [htask]
    rw [(exec_pmbusTransactionDone hbusy).2.1, pmbOutcome_eq, htask]
    simp [State.pmbEnds, State.pmbCounted, htries]
  · obtain ⟨hcount, herr⟩ := (nacked_stands s).nackEnds s.pmb.task
    rw [← pmbOutcome_nack] at hcount herr
    refine ⟨_, (exec_pmbusTransactionDone htask).2.2.1, hcount, herr, ?_⟩
    simp [State.eq_of_pages]
  · have hbusy : s.pmb.task ≠ .none := by simp [htask]
    have hdone : s.pmbOutcome 0 w.toNat none = (s.hostXactEnd i 0 (if kind = 3 then w.toNat else 0)).pmbNext := by
      rw [pmbOutcome_eq, htask]
      simp [State.pmbEnds, State.pmbCounted]
    obtain ⟨hpmb, hframe⟩ := hostXactEnd_effect s i 0 (if kind = 3 then w.toNat else 0)
    rw [(exec_pmbusTransactionDone hbusy).1 w, hdone, hostXactEnd_next hhost hreqs hround]
    exact ⟨_, rfl, hpmb, hframe⟩
  · have hbusy : s.pmb.task ≠ .none := by simp [htask]
    have hdone : s.pmbOutcome 3 0 none = (s.hostXactEnd i 3 0).pmbNext := by
      rw [pmbOutcome_eq, htask]
      simp [State.pmbEnds, State.pmbCounted]
    obtain ⟨hpmb, hframe⟩ := hostXactEnd_effect s i 3 0
    rw [(exec_pmbusTransactionDone hbusy).2.2.2, hdone, hostXactEnd_next hhost hreqs hround]
    exact ⟨_, rfl, hpmb, hframe⟩
  · obtain ⟨hmuted, hkept, hframe⟩ := pmbAlert_effect s addr.toNat status.toNat
    have hconv (i : Fin 8) : (s.alertedAs addr.toNat status.toNat).pmb.conv[i] = s.pmb.conv[i].alerted addr.toNat status.toNat := by
      rw [hkept]
      simp [State.alertKept]
    refine ⟨_, exec_pmbAlert hmaster hmute addr status, (congrArg Pmb.ALERT_ALERTS hkept :), (congrArg Pmb.ALERT_ADDR hkept :),
      (congrArg Pmb.ALERT_ST hkept :), fun i hvalid haddr => ?_, fun i haddr => ?_, hmuted, hframe⟩
    · rw [hconv, PmbConv.alerted, if_pos (by simp only [hvalid, haddr, decide_true, Bool.and_self])]
    · rw [hconv, PmbConv.alerted, if_neg (by simp only [haddr, decide_false, Bool.and_false, Bool.false_eq_true, not_false_eq_true])]
  · simp only [exec, execAlertMuteEnd, hmute]
    exact congrArg Host.Outcome.next (if_pos hdue)
  · have hgo : (!s.evt.norest && decide (s.pmb.persHr < optime s / 3600000)) = true := by simp [hrest, hhour]
    obtain ⟨htally, -⟩ := PmbRunsOn.counterAsk true (.of_eq rfl rfl : PmbRunsOn s.hourKept s.hourKept)
    refine ⟨_, congrArg Host.Outcome.next (if_pos hgo), congrArg Prod.snd htally, fun hv hmaster htask => ?_, fun hv hother => ?_, ?_⟩
    · exact congrArg (·.pmb.reqs) ((counterAsk_master (s := s.hourKept) hv hmaster true).trans (pmbNext_busy (s := s.hourKept.asking _) htask))
    · obtain ⟨e, w, hlinks⟩ := counterAsk_member (s := s.hourKept) hother true
      exact (congrArg State.pmb hlinks :)
    · simp [State.eq_of_pages]

/-- A master in the reset state, its first converter valid, with a host transaction on the segment. -/
def hostedState : State :=
  { liveReset with cmn.straps := { liveReset.cmn.straps with pmbEn := true }, rst.started := true, rst.vioLow := false,
                   pmb.task := .host 3 2 0x88 0 1, pmb.muteAt := none }

/-- `pmbusRuns` applies: a word that is read ends the host transaction with status 0, one not acknowledged is counted, an alert is
recorded with its status. -/
theorem hostedState_runs :
    (∃ t, exec (.pmbusTransactionDone (.data 0x1234)) hostedState = .next t ∧ t.pmb.HOST_RES_RDATA = 0x1234) ∧
    (∃ t, exec (.pmbusTransactionDone .nack) hostedState = .next t ∧ t.pmb.ERR_CNT_NACK = 1) ∧
    ∃ t, exec (.pmbAlert 0x21 0x40) hostedState = .next t ∧ t.pmb.ALERT_ST = 0x40 := by
  obtain ⟨-, -, nack, host, alert, -⟩ := pmbusRuns hostedState
  obtain ⟨t, refused, hcount, -⟩ := nack (by decide)
  obtain ⟨read, -⟩ := host 3 2 0x88 0 1 rfl rfl rfl rfl
  obtain ⟨u, done, hpmb, -⟩ := read 0x1234
  obtain ⟨v, told, -, -, hst, -⟩ := alert 0x21 0x40 rfl rfl
  exact ⟨⟨u, done, congrArg Pmb.HOST_RES_RDATA hpmb⟩, ⟨t, refused, hcount⟩, v, told, hst⟩

end Sys2Proof.Proofs
end

section
/-! PROOFS. Resets (R451 to R458): the cold and the warm reset, their exits, and what closes an episode. -/

namespace Sys2Proof.Machine

open Sys2Proof

/-! ### The cold exit (R457) -/

/-- Steps 1 and 2 of the cold exit: everything cold, the straps and fuses as sampled, the ports live, the strap checks made (R457). -/
def State.coldOn (s : State) : State :=
  let r := s.rst
  let e := strapErr s.cmn.straps
  let u := coldState s { r with exiting := true, exitAt := 0, live := true, started := true, STRAP_ERR := e, CAUSE_CAUSE := 2,
                                CAUSE_OVERLAP := r.epPor && r.epPin, CAUSE_PIN_LAST := r.pinLast, CAUSE_RESTARTED := r.restarted }
  let u := { u with cmn := s.cmn }.fuseFaults
  if e = 0 then u else u.fault pgRst 16 0x1311 [e]

theorem coldExit_eq (s : State) : s.coldExit = ((s.coldOn.bootOutputs.raiseLimits).setTripFigures).settle 0 := rfl

/-- What steps 1 and 2 leave at its Cold value, and what they set. -/
theorem coldOn_pages (s : State) :
    s.coldOn.cmn = s.cmn ∧ s.coldOn.dom = State.reset.dom ∧ s.coldOn.clk = State.reset.clk ∧ s.coldOn.vrg = State.reset.vrg ∧
      s.coldOn.stg = State.reset.stg ∧ s.coldOn.seq = State.reset.seq ∧ s.coldOn.now = 0 ∧ s.coldOn.free = s.free ∧
      s.coldOn.pending = s.pending ∧
      s.coldOn.rst = { s.rst with exiting := true, exitAt := 0, live := true, started := true, STRAP_ERR := strapErr s.cmn.straps,
                                  CAUSE_CAUSE := 2, CAUSE_OVERLAP := s.rst.epPor && s.rst.epPin, CAUSE_PIN_LAST := s.rst.pinLast,
                                  CAUSE_RESTARTED := s.rst.restarted } := by
  have hreset : (coldState s s.rst).dom = State.reset.dom ∧ (coldState s s.rst).clk = State.reset.clk := ⟨rfl, rfl⟩
  unfold State.coldOn
  dsimp only
  split <;> refine ⟨?_, ?_, ?_, ?_, ?_, ?_, ?_, ?_, ?_, ?_⟩ <;> simp [coldState, State.reset]

/-- A field that a change of one element keeps, stands at every element. -/
theorem getElem_vMod_proj {α β : Type} {n : Nat} (p : α → β) (v : Vector α n) (i : Nat) {f : α → α} (h : ∀ x, p (f x) = p x) (q : Fin n) :
    p (vMod v i f)[q] = p v[q] := by
  have hread (w : Vector α n) : p w[q] = p (vAt w q.val v[q]) := by simp [vAt]
  rw [hread, hread v, vAt_vMod_proj p v i q.val f _ h]

theorem vrgMod_SET (s : State) (r : Nat) (f : VrgRail → VrgRail) (h : ∀ e, (f e).SET = e.SET) (q : Fin 16) :
    (s.vrgMod r f).vrg.rail[q].SET = s.vrg.rail[q].SET := getElem_vMod_proj VrgRail.SET _ _ h q

/-- A trim that waits changes what was issued to its regulator, and no code it shows (R351). -/
theorem trim_SET (s : State) (r op d : Nat) (single : Bool) (q : Fin 16) :
    (s.trim r op d single).vrg.rail[q].SET = s.vrg.rail[q].SET := by
  unfold State.trim
  dsimp only
  split
  · rfl
  split
  · refine vrgMod_SET _ _ _ ?_ q
    exact fun _ => rfl
  split
  · refine vrgMod_SET _ _ _ ?_ q
    exact fun _ => rfl
  · rfl

theorem coldCodes_SET (s : State) (q : Fin 16) : s.coldCodes.vrg.rail[q].SET = s.vrg.rail[q].SET :=
  foldl_proj (fun u : State => u.vrg.rail[q].SET) _ (fun u r => trim_SET u r 1 (vbootOf u r) false q) _ s

/-- The boot domains, clocks and codes of a cold exit (R68, R73, R456). -/
theorem bootOutputs_effect (s : State) :
    (∀ d : Fin 50, s.bootOutputs.dom.dom[d] = if isBoot s d.val then { s.dom.dom[d] with ST_ST := 3, starting := true } else s.dom.dom[d]) ∧
      (∀ c : Fin 25, s.bootOutputs.clk.dom[c].ST_FSTEP = s.cmn.straps.fboot.toNat) ∧
      ∀ r : Fin 16, s.bootOutputs.vrg.rail[r].SET = vbootOf s r.val := by
  refine ⟨fun d => ?_, fun c => ?_, fun r => ?_⟩
  · simp [State.bootOutputs]
  · simp [State.bootOutputs]
  · rw [State.bootOutputs, coldCodes_SET]
    simp

/-- The cold exit (R457): what it has set when the ports are live. -/
theorem coldExit_effect (s : State) :
    s.coldExit.cmn = s.cmn ∧ s.coldExit.rst = s.coldOn.rst ∧ s.coldExit.seq.base = .safe ∧ s.coldExit.now = 0 ∧
      (∀ d : Fin 50, s.cmn.straps.bootDom.toNat.testBit d.val = true → s.coldExit.dom.dom[d].ST_ST = 3) ∧
      (∀ d : Fin 50, s.cmn.straps.bootDom.toNat.testBit d.val = false → s.coldExit.dom.dom[d] = State.reset.dom.dom[d]) ∧
      (∀ c : Fin 25, s.coldExit.clk.dom[c].ST_FSTEP = s.cmn.straps.fboot.toNat) ∧
      (∀ r : Fin 16, s.coldExit.vrg.rail[r].SET = (vAt s.cmn.straps.vboot r.val 0).toNat) ∧
      s.coldExit.stg = State.reset.stg ∧ s.coldExit.free = s.free ∧ s.coldExit.pending = s.pending := by
  obtain ⟨hcmn, hdom, hclk, hvrg, hstg, hseq, hnow, hfree, hpend, -⟩ := coldOn_pages s
  obtain ⟨hboot, hstep, hset⟩ := bootOutputs_effect s.coldOn
  have hpages : s.coldExit.cmn = s.coldOn.cmn ∧ s.coldExit.rst = s.coldOn.rst ∧ s.coldExit.now = s.coldOn.now ∧
      s.coldExit.dom = s.coldOn.bootOutputs.dom ∧ s.coldExit.clk = s.coldOn.bootOutputs.clk ∧
      s.coldExit.vrg = s.coldOn.bootOutputs.vrg ∧ s.coldExit.stg = s.coldOn.stg ∧ s.coldExit.free = s.coldOn.free ∧
      s.coldExit.pending = s.coldOn.pending ∧ s.coldExit.seq.base = s.coldOn.seq.base := by
    rw [coldExit_eq]
    simp
  obtain ⟨ecmn, erst, enow, edom, eclk, evrg, estg, efree, epend, eseq⟩ := hpages
  have hisBoot (d : Nat) : isBoot s.coldOn d = s.cmn.straps.bootDom.toNat.testBit d := by rw [isBoot, hcmn]
  refine ⟨ecmn.trans hcmn, erst, eseq.trans (congrArg Seq.base hseq), enow.trans hnow, fun d hd => ?_, fun d hd => ?_, fun c => ?_, fun r => ?_,
    estg.trans hstg, efree.trans hfree, epend.trans hpend⟩
  · rw [edom, hboot, hisBoot, hd]
    rfl
  · rw [edom, hboot, hisBoot, hd, hdom]
    rfl
  · rw [eclk, hstep, hcmn]
  · rw [evrg, hset, vbootOf, hcmn]

end Sys2Proof.Machine
end

section
namespace Sys2Proof.Proofs

open Sys2Proof Sys2Proof.Machine

/-- Settles O27: power-on reset is `coldState` with the episode's fields; its release with rst_n high is `coldExit`. -/
theorem coldResetRuns : Obligations.ColdResetRuns := by
  unfold Obligations.ColdResetRuns
  refine ⟨fun s => ⟨fun hpor => congrArg Host.Outcome.next (if_pos hpor), fun hpor => congrArg Host.Outcome.next (if_neg (by simp [hpor]))⟩,
    fun s x f hpor => ⟨fun hpin => congrArg Host.Outcome.next ((if_pos hpor).trans (if_pos hpin)), fun hpin => ?_⟩⟩
  have hrun : exec (.porRelease x f) s =
      .next ({ s with rst.por := false, rst.pinLast := false, cmn.straps := x, cmn.fuses := f } : State).coldExit :=
    congrArg Host.Outcome.next ((if_pos hpor).trans (if_neg (by simp [hpin])))
  obtain ⟨hcmn, hrst, hbase, hnow, hboot, hcold, hstep, hset, hstg, hfree, hpend⟩ :=
    coldExit_effect { s with rst.por := false, rst.pinLast := false, cmn.straps := x, cmn.fuses := f }
  obtain ⟨-, -, -, -, -, -, -, -, -, hon⟩ :=
    coldOn_pages { s with rst.por := false, rst.pinLast := false, cmn.straps := x, cmn.fuses := f }
  have hrst' := hrst.trans hon
  refine ⟨_, hrun, hcmn, ?_, ?_, ?_, ?_, ?_, hbase, hnow, hboot, hcold, hstep, hset, hstg, hfree, hpend⟩
  · exact (congrArg Rst.por hrst' :)
  · exact (congrArg Rst.live hrst' :)
  · exact (congrArg Rst.started hrst' :)
  · exact (congrArg Rst.STRAP_ERR hrst' :)
  · exact (congrArg Rst.CAUSE_CAUSE hrst' :)

/-- `coldResetRuns` applies: power-on reset, and its release with rst_n high, from the live reset state. -/
theorem reset_cold (x : Straps) (f : Fuses) :
    (∃ t, exec .porAssert { liveReset with rst.por := false } = .next t ∧ t.rst.epCold = true) ∧
      ∃ t, exec (.porRelease x f) { liveReset with rst.por := true, rst.pin := false } = .next t ∧ t.rst.CAUSE_CAUSE = 2 := by
  obtain ⟨asserts, releases⟩ := coldResetRuns
  obtain ⟨-, live⟩ := releases { liveReset with rst.por := true, rst.pin := false } x f rfl
  obtain ⟨t, run, -, -, -, -, -, hcause, -⟩ := live rfl
  exact ⟨⟨_, (asserts { liveReset with rst.por := false }).2 rfl, rfl⟩, t, run, hcause⟩

end Sys2Proof.Proofs
end

section
/-! PROOFS. The warm reset (R453, R454) and the release of rst_n (R455, R457, R458). -/

namespace Sys2Proof.Machine

open Sys2Proof

/-! ### The assertion of rst_n -/

/-- A warm episode that opens: the load ended, the reach of R453 at its Warm values, and the pin low. -/
def State.warmOpened (s : State) : State := ({ s.warmLoad.warmReset with rst.pin := true } : State).settle 0

theorem exec_rstNAssert_warm {s : State} (hpin : s.rst.pin = false) (hep : s.rst.epOpen = false) :
    exec .rstNAssert s = .next s.warmOpened :=
  congrArg Host.Outcome.next ((if_neg (by simp [hpin])).trans (if_neg (by simp [hep])))

/-- The headers of a warm reset, with the fields of the episode (R107, R453). -/
def State.warmHeaders (s : State) : State :=
  { s.warmPages with
    hdr := Vector.ofFn fun p : Fin 23 => warmHdr p.val s.hdr[p], hst := {}, pairLo := none,
    rel.wear := Vector.ofFn fun r : Fin 16 => { s.warmPages.rel.wear[r] with busAt := if unresp s.warmPages r.val then some s.now else none } }

theorem warmReset_eq (s : State) :
    s.warmReset = { s.warmHeaders.warmPhase.fLower with
      rst.live := false, rst.epOpen := true, rst.epCold := false, rst.epPor := false, rst.epPin := true, rst.restarted := false,
      rst.exiting := false, rst.pinLast := false } := rfl

theorem warmReset_pages (s : State) :
    s.warmReset.seq = warmSeqPage s.seq ∧ s.warmReset.tly.EPOCH_NUM = 0 ∧ s.warmReset.adm = warmAdmPage s.adm ∧
      s.warmReset.frm = warmFrmPage s.frm ∧ s.warmReset.hst = {} ∧ s.warmReset.cmn = warmCmnPage s.cmn ∧
      s.warmReset.rst.epOpen = true ∧ s.warmReset.rst.epCold = false ∧ s.warmReset.rst.live = false ∧
      hdrCore s.warmReset.hdr = hdrCore s.warmHeaders.hdr := by
  have hseq : s.warmReset.seq = s.warmHeaders.seq := by rw [warmReset_eq]; simp
  have htly : s.warmReset.tly = s.warmHeaders.tly := by rw [warmReset_eq]; simp
  have hadm : s.warmReset.adm = s.warmHeaders.adm := by rw [warmReset_eq]; simp
  have hfrm : s.warmReset.frm = s.warmHeaders.frm := by rw [warmReset_eq]; simp
  have hhst : s.warmReset.hst = s.warmHeaders.hst := by rw [warmReset_eq]; simp
  have hcmn : s.warmReset.cmn = s.warmHeaders.cmn := by rw [warmReset_eq]; simp
  exact ⟨hseq, congrArg Tly.EPOCH_NUM htly, hadm, hfrm, hhst, hcmn, rfl, rfl, rfl, by rw [warmReset_eq]; simp⟩

/-- The masks of every page are 0 after a warm reset (R107). -/
theorem warmHeaders_masks (s : State) (p : Fin 23) : s.warmHeaders.hdr[p].errMask = 0 ∧ s.warmHeaders.hdr[p].evtEn = 0 := by
  simp [State.warmHeaders, warmHdr]

theorem warmOpened_effect (s : State) :
    s.warmOpened.rst.pin = true ∧ s.warmOpened.rst.epOpen = true ∧ s.warmOpened.rst.epCold = false ∧ s.warmOpened.rst.live = false ∧
      s.warmOpened.seq.base = .safe ∧ s.warmOpened.seq.ACT_TIMEOUT = 1000 ∧ s.warmOpened.seq.HOST_CAP = 0 ∧
      s.warmOpened.seq.STATE_ACT_PEND = false ∧ s.warmOpened.tly.EPOCH_NUM = 0 ∧ s.warmOpened.adm.inQ = [] ∧
      s.warmOpened.adm.outQ = [] ∧ s.warmOpened.adm.SHARE = 0 ∧ s.warmOpened.frm.FORM_STATE = 0 ∧ s.warmOpened.hst = {} ∧
      (∀ p : Fin 23, s.warmOpened.hdr[p].errMask = 0 ∧ s.warmOpened.hdr[p].evtEn = 0) ∧
      s.warmOpened.cmn.straps = s.cmn.straps ∧ s.warmOpened.cmn.fuses = s.cmn.fuses ∧ s.warmOpened.stg.mem = s.stg.mem ∧
      s.warmOpened.now = s.now ∧ s.warmOpened.free = s.free := by
  obtain ⟨hseq, htly, hadm, hfrm, hhst, hcmn, hopen, hcold, hlive, hhdr⟩ := warmReset_pages s.warmLoad
  have hpages : s.warmOpened.rst = { s.warmLoad.warmReset.rst with pin := true } ∧ s.warmOpened.tly = s.warmLoad.warmReset.tly ∧
      s.warmOpened.adm = s.warmLoad.warmReset.adm ∧ s.warmOpened.frm = s.warmLoad.warmReset.frm ∧
      s.warmOpened.hst = s.warmLoad.warmReset.hst ∧ s.warmOpened.cmn = s.warmLoad.warmReset.cmn ∧
      s.warmOpened.stg.mem = s.stg.mem ∧ s.warmOpened.now = s.now ∧ s.warmOpened.free = s.free ∧
      hdrCore s.warmOpened.hdr = hdrCore s.warmLoad.warmReset.hdr := by
    simp [State.warmOpened]
  obtain ⟨erst, etly, eadm, efrm, ehst, ecmn, estg, enow, efree, ehdr⟩ := hpages
  have eseq : s.warmOpened.seq = { warmSeqPage s.warmLoad.seq with shown := s.warmOpened.seq.shown } := by
    rw [State.warmOpened, settle_seq]
    exact congrArg (fun q : Seq => { q with shown := shownState ({ s.warmLoad.warmReset with rst.pin := true } : State) }) hseq
  have hsafe : s.warmLoad.seq.base = .safe := by simp [State.warmLoad, State.enterSafe]
  have hstraps : s.warmLoad.cmn = s.cmn := by simp
  refine ⟨congrArg Rst.pin erst, (congrArg Rst.epOpen erst).trans hopen, (congrArg Rst.epCold erst).trans hcold,
    (congrArg Rst.live erst).trans hlive, (congrArg Seq.base eseq).trans hsafe, congrArg Seq.ACT_TIMEOUT eseq, congrArg Seq.HOST_CAP eseq,
    congrArg Seq.STATE_ACT_PEND eseq, (congrArg Tly.EPOCH_NUM etly).trans htly, congrArg Adm.inQ (eadm.trans hadm),
    congrArg Adm.outQ (eadm.trans hadm), congrArg Adm.SHARE (eadm.trans hadm), congrArg Frm.FORM_STATE (efrm.trans hfrm), ehst.trans hhst,
    fun p => ?_, ?_, ?_, estg, enow, efree⟩
  · obtain ⟨-, -, hmask, hevt, -⟩ := core_at (ehdr.trans hhdr) p
    obtain ⟨hmask', hevt'⟩ := warmHeaders_masks s.warmLoad p
    exact ⟨hmask.trans hmask', hevt.trans hevt'⟩
  · exact (congrArg Cmn.straps (ecmn.trans hcmn)).trans (congrArg Cmn.straps hstraps :)
  · exact (congrArg Cmn.fuses (ecmn.trans hcmn)).trans (congrArg Cmn.fuses hstraps :)

/-! ### The release of rst_n -/

/-- The pin has been released. -/
def State.pinReleased (s : State) : State := { s with rst := { s.rst with pin := false, pinLast := !s.rst.por } }

theorem exec_rstNRelease {s : State} (hpin : s.rst.pin = true) :
    exec .rstNRelease s = .next (if s.rst.por then s.pinReleased else if s.rst.epCold then s.pinReleased.coldExit
      else s.pinReleased.warmExit) :=
  congrArg Host.Outcome.next (if_pos hpin)

/-- The ports are live again at the start of the warm exit (R458). -/
def State.warmLive (s : State) : State :=
  { s with rst.live := true, rst.exiting := true, rst.exitAt := s.now, tly.bndAt := s.now }

/-- An episode that closes as a warm one: its record in RST (R455). -/
theorem closeEpisode_warm (s : State) :
    (s.closeEpisode 1).rst.epOpen = false ∧ (s.closeEpisode 1).rst.CAUSE_CAUSE = 1 ∧
      (s.closeEpisode 1).rst.CNT_WARM = satAdd 16 s.rst.CNT_WARM 1 ∧ (s.closeEpisode 1).rst.CAUSE_PIN_LAST = s.rst.pinLast ∧
      (s.closeEpisode 1).rst.pin = s.rst.pin ∧ (s.closeEpisode 1).rst.live = s.rst.live := by
  simp [State.closeEpisode]

theorem warmExit_effect (s : State) :
    s.warmExit.rst.pin = s.rst.pin ∧ s.warmExit.rst.live = true ∧ s.warmExit.rst.epOpen = false ∧ s.warmExit.rst.CAUSE_CAUSE = 1 ∧
      s.warmExit.rst.CNT_WARM = satAdd 16 s.rst.CNT_WARM 1 ∧ s.warmExit.rst.CAUSE_PIN_LAST = s.rst.pinLast ∧
      s.warmExit = { s with seq := s.warmExit.seq, dom := s.warmExit.dom, tly := { s.tly with bndAt := s.now }, mbs := s.warmExit.mbs,
                            mbn := s.warmExit.mbn, rck := s.warmExit.rck, rst := s.warmExit.rst, evt := s.warmExit.evt,
                            hdr := s.warmExit.hdr } := by
  obtain ⟨hopen, hcause, hcnt, hlast, hpin, hlive⟩ := closeEpisode_warm s.warmLive.domsAtWarmExit
  have hdoms : s.warmLive.domsAtWarmExit.rst = s.warmLive.rst ∧ s.warmExit.tly = s.warmLive.tly := by
    simp [State.warmExit, State.warmLive]
  have hclosed : s.warmExit.rst = (s.warmLive.domsAtWarmExit.closeEpisode 1).rst := by simp [State.warmExit, State.warmLive]
  obtain ⟨hrst, htly⟩ := hdoms
  rw [hrst] at hcnt hlast hpin hlive
  rw [hclosed]
  refine ⟨hpin, hlive, hopen, hcause, hcnt, hlast, ?_⟩
  rw [← hclosed]
  have htly' : s.warmExit.tly = { s.tly with bndAt := s.now } := htly
  simp [State.eq_of_pages, htly']

end Sys2Proof.Machine
end

section
namespace Sys2Proof.Proofs

open Sys2Proof Sys2Proof.Machine

/-- Settles O28: the assertion of rst_n outside an episode is the load's end and the Warm column of every page; its release is the exit
of the episode that is open. -/
theorem warmResetRuns : Obligations.WarmResetRuns := by
  unfold Obligations.WarmResetRuns
  refine ⟨fun s hpin hep => ⟨_, exec_rstNAssert_warm hpin hep, warmOpened_effect s⟩, fun s hpin => ⟨fun hpor => ?_, fun hpor hcold => ?_,
    fun hpor hcold => ?_⟩⟩
  · rw [exec_rstNRelease hpin, if_pos hpor, State.pinReleased, hpor]
    rfl
  · obtain ⟨hcmn, hrst, hbase, -⟩ := coldExit_effect s.pinReleased
    obtain ⟨-, -, -, -, -, -, -, -, -, hon⟩ := coldOn_pages s.pinReleased
    have hrst' := hrst.trans hon
    rw [exec_rstNRelease hpin, if_neg (by rw [hpor]; exact Bool.false_ne_true), if_pos hcold]
    exact ⟨_, rfl, (congrArg Rst.pin hrst' :), (congrArg Rst.live hrst' :), (congrArg Rst.started hrst' :), (congrArg Rst.CAUSE_CAUSE hrst' :),
      (congrArg Rst.STRAP_ERR hrst' :), hcmn, hbase⟩
  · obtain ⟨hpin', hlive, hopen, hcause, hcnt, hlast, hframe⟩ := warmExit_effect s.pinReleased
    rw [exec_rstNRelease hpin, if_neg (by rw [hpor]; exact Bool.false_ne_true), if_neg (by rw [hcold]; exact Bool.false_ne_true)]
    exact ⟨_, rfl, hpin', hlive, hopen, hcause, hcnt, hlast.trans (congrArg Bool.not hpor), hframe⟩

/-- `warmResetRuns` applies: the live reset state opens a warm episode, and a warm episode ends when the pin is released. -/
theorem reset_warm :
    (∃ t, exec .rstNAssert { liveReset with rst.pin := false, rst.epOpen := false } = .next t ∧ t.rst.live = false) ∧
      ∃ t, exec .rstNRelease { liveReset with rst.pin := true, rst.por := false, rst.epCold := false } = .next t ∧
        t.rst.CAUSE_CAUSE = 1 := by
  obtain ⟨asserts, releases⟩ := warmResetRuns
  obtain ⟨t, run, -, -, -, hlive, -⟩ := asserts { liveReset with rst.pin := false, rst.epOpen := false } rfl rfl
  obtain ⟨-, -, warm⟩ := releases { liveReset with rst.pin := true, rst.por := false, rst.epCold := false } rfl
  obtain ⟨u, run', -, -, -, hcause, -⟩ := warm rfl rfl
  exact ⟨⟨t, run, hlive⟩, u, run', hcause⟩

end Sys2Proof.Proofs
end

section
/-! PROOFS. The start-up self-test, block-local resets and the aon_vio condition (R89, R457 to R461). -/

namespace Sys2Proof.Machine

open Sys2Proof

/-! ### The start-up self-test (R457 step 6, R459) -/

/-- What a self-test found is repaired, spared or marked. -/
def State.testMended (s : State) (o : SelfTestObs) : State :=
  let s := (o.rowsLost.map fun (i : BitVec 13) => i.toNat).foldl State.startRowLost s
  let s := ((o.lanesBad.map fun (i : Fin 18) => i.val).foldl State.retireLane s).fcsBound
  let s := (o.detsBad.map fun (i : Fin 72) => i.val).foldl (fun (s : State) d => s.failDet d 3) s
  let s := (o.sensorsBad.map fun (i : Fin 30) => i.val).foldl (fun (s : State) i => s.sensorFail i 4) s
  (List.range 6).foldl State.sensorSubst s.beamSettle

/-- The test's figures in RST_SELFTEST, and its findings beyond repair (R459). -/
def State.testCounted (s : State) (o : SelfTestObs) : State :=
  o.beyond.foldl (fun (s : State) k => s.fault pgRst 18 0x1315 [k])
    { s with rst.SELFTEST_DONE := true, rst.SELFTEST_ROWS := sat 8 o.rows, rst.SELFTEST_LANES := o.lanesBad.length,
             rst.SELFTEST_MACROS := o.detsBad.length + o.sensorsBad.length, rst.SELFTEST_FAIL := !o.beyond.isEmpty }

theorem exec_startupSelftestComplete {s : State} (hexit : s.rst.exiting = true) (hcold : s.rst.epCold = true) (o : SelfTestObs) :
    exec (.startupSelftestComplete o) s = .next (((s.testMended o).testCounted o).closeEpisode 2) := by
  have hgo : (s.rst.exiting && s.rst.epCold) = true := by rw [hexit, hcold]; rfl
  unfold State.testCounted State.testMended
  simp only [exec, execStartupSelftestComplete, hgo, if_true]

theorem startRowLost_lost (s : State) (i j : Nat) : (s.startRowLost i).tly.lost.contains j = (s.tly.lost.contains j || decide (j = i)) := by
  unfold State.startRowLost
  split
  next h => by_cases hj : j = i <;> simp_all
  next h => simp [State.setRow, eq_comm]

theorem startRowsLost_lost (l : List Nat) (s : State) (j : Nat) :
    (l.foldl State.startRowLost s).tly.lost.contains j = (s.tly.lost.contains j || decide (j ∈ l)) := by
  induction l generalizing s with
  | nil => simp
  | cons i l ih => rw [List.foldl_cons, ih, startRowLost_lost, Bool.or_assoc]; simp

theorem testMended_tly (s : State) (o : SelfTestObs) :
    (s.testMended o).tly = ((o.rowsLost.map fun (i : BitVec 13) => i.toNat).foldl State.startRowLost s).tly ∧ (s.testMended o).rst = s.rst := by
  unfold State.testMended
  simp

theorem testCounted_rst (s : State) (o : SelfTestObs) :
    (s.testCounted o).rst = { s.rst with SELFTEST_DONE := true, SELFTEST_ROWS := sat 8 o.rows, SELFTEST_LANES := o.lanesBad.length,
                                         SELFTEST_MACROS := o.detsBad.length + o.sensorsBad.length, SELFTEST_FAIL := !o.beyond.isEmpty } ∧
      (s.testCounted o).tly = s.tly := by
  unfold State.testCounted
  simp

theorem closeEpisode_cold (s : State) :
    (s.closeEpisode 2).rst.SELFTEST_DONE = s.rst.SELFTEST_DONE ∧ (s.closeEpisode 2).rst.SELFTEST_ROWS = s.rst.SELFTEST_ROWS ∧
      (s.closeEpisode 2).rst.SELFTEST_LANES = s.rst.SELFTEST_LANES ∧ (s.closeEpisode 2).rst.SELFTEST_MACROS = s.rst.SELFTEST_MACROS ∧
      (s.closeEpisode 2).rst.SELFTEST_FAIL = s.rst.SELFTEST_FAIL ∧ (s.closeEpisode 2).rst.exiting = false ∧
      (s.closeEpisode 2).rst.epOpen = false ∧ (s.closeEpisode 2).rst.CAUSE_CAUSE = 2 := by
  simp [State.closeEpisode]

theorem selftest_frame (s : State) (o : SelfTestObs) :
    let t := ((s.testMended o).testCounted o).closeEpisode 2
    t = { s with seq := t.seq, tly := t.tly, beam := t.beam, ctl := t.ctl, fcs := t.fcs, sns := t.sns, mbs := t.mbs, mbn := t.mbn,
                 rck := t.rck, rst := t.rst, rel := t.rel, evt := t.evt, hdr := t.hdr } := by
  simp [State.testMended, State.testCounted, State.eq_of_pages]

/-! ### Block-local resets (R460, R461) -/

/-- The page's header and registers at their Warm values (R460 step 3). -/
def State.lrstReached (s : State) (p : Nat) : State :=
  (s.hdrMod (lrstPage p) fun h => warmHdr (lrstPage p).val h).lrstReach p

/-- A reset forced by its timeout is counted and flagged (R460). -/
def State.lrstForced (s : State) (p : Nat) : State :=
  { s with rst.page := vMod s.rst.page p fun x => { x with LRST_TO_FORCED := satAdd 16 x.LRST_TO_FORCED 1 } }.setErr pgRst 19

/-- A block-local reset that ends (R460 step 4). -/
def State.lrstEnded (s : State) (p : Nat) (idle : Bool) : State :=
  let s := { s with rst.CNT_LOCAL := satAdd 16 s.rst.CNT_LOCAL 1 }.event 0x1314 [(lrstPage p).val, b2n (!idle)]
  if p = 0 then s.fcsSettle else s

theorem exec_lrstComplete {s : State} {p : Fin 8} {idle : Bool} (hact : s.hdr[lrstPage p.val].lrstAct = true)
    (hdone : idle = true ∨ s.hdr[lrstPage p.val].lrstAt + s.rst.page[p].LRST_TO_TIMEOUT * 4 ≤ s.now) :
    exec (.lrstComplete p idle) s = .next ((if idle then s.lrstReached p.val
      else (s.lrstReached p.val).lrstForced p.val).lrstEnded p.val idle) := by
  refine congrArg Host.Outcome.next (if_pos ?_)
  have hpage : vAt s.rst.page p.val {} = s.rst.page[p] := by simp [vAt]
  rw [hact, hpage, Bool.true_and, Bool.or_eq_true]
  exact hdone.imp_right after_of_le

/-- What the Warm column and R461 leave: the masks 0 and the reset's bits clear on the page, every other page but the sub-block's own as it was. -/
theorem lrstReached_hdr (s : State) (p : Nat) :
    (s.lrstReached p).hdr[lrstPage p].lrstAct = false ∧ (s.lrstReached p).hdr[lrstPage p].lrstReq = false ∧
      (s.lrstReached p).hdr[lrstPage p].errMask = 0 := by
  have hcore : hdrCore (s.lrstReached p).hdr = hdrCore (s.hdrMod (lrstPage p) fun h => warmHdr (lrstPage p).val h).hdr := by
    simp [State.lrstReached]
  obtain ⟨hact, hreq, hmask, -⟩ := core_at hcore (lrstPage p)
  rw [hact, hreq, hmask]
  simp [State.hdrMod, warmHdr]

/-- A block-local reset of one mailbox leaves the other (R461). -/
theorem lrstMbx_other (s : State) : (s.lrstMbx .mbs).mbn = s.mbn ∧ (s.lrstMbx .mbn).mbs = s.mbs := by
  have hreset : (s.mbxLocalReset .mbs).mbn = s.mbn ∧ (s.mbxLocalReset .mbn).mbs = s.mbs := by
    unfold State.mbxLocalReset
    dsimp only
    constructor <;> split <;> simp [State.mbxMod]
  exact hreset

/-- The end of a block-local reset touches the pages of its sub-block, RST and the recorder (R461). -/
theorem lrst_frame (s : State) (p : Fin 8) (idle : Bool) :
    let t := (if idle then s.lrstReached p.val else (s.lrstReached p.val).lrstForced p.val).lrstEnded p.val idle
    t = { s with fcs := if p = 0 then t.fcs else s.fcs, pmb := if p = 1 then t.pmb else s.pmb, frm := if p = 2 then t.frm else s.frm,
                 tre := if p = 3 then t.tre else s.tre, mbs := if p = 4 then t.mbs else s.mbs, mbn := if p = 5 then t.mbn else s.mbn,
                 rck := if p = 6 then t.rck else s.rck, trc := if p = 0 ∨ p = 7 then t.trc else s.trc, rst := t.rst, evt := t.evt,
                 hdr := t.hdr } := by
  cases idle <;> fin_cases p <;>
    simp [State.lrstReached, State.lrstReach, State.lrstForced, State.lrstEnded, lrstMbx_other, State.eq_of_pages]

theorem lrstReached_rst (s : State) (p : Nat) : (s.lrstReached p).rst = s.rst := by
  simp [State.lrstReached]

theorem lrstForced_effect (s : State) (p : Nat) :
    (s.lrstForced p).hasErr pgRst 19 ∧ hdrCore (s.lrstForced p).hdr = hdrCore s.hdr ∧
      (s.lrstForced p).rst = { s.rst with
        page := vMod s.rst.page p fun x => { x with LRST_TO_FORCED := satAdd 16 x.LRST_TO_FORCED 1 } } :=
  ⟨hasErr_setErr_self .., by simp [State.lrstForced], by simp [State.lrstForced]⟩

theorem lrstEnded_effect (s : State) (p : Nat) (idle : Bool) :
    (∀ q i, s.hasErr q i → (s.lrstEnded p idle).hasErr q i) ∧ hdrCore (s.lrstEnded p idle).hdr = hdrCore s.hdr ∧
      (s.lrstEnded p idle).rst = { s.rst with CNT_LOCAL := satAdd 16 s.rst.CNT_LOCAL 1 } := by
  unfold State.lrstEnded
  dsimp only
  split
  · exact ⟨fun q i hi => hasErr_fcsSettle (hasErr_event _ _ (hasErr_of_hdr hi rfl)), by simp, by simp⟩
  · exact ⟨fun q i hi => hasErr_event _ _ (hasErr_of_hdr hi rfl), by simp, by simp⟩

end Sys2Proof.Machine
end

section
namespace Sys2Proof.Proofs

open Sys2Proof Sys2Proof.Machine

/-- Settles O29: what follows the self-test's mending leaves the lost rows and RST's figures; a block-local reset ends with its page's
header at Warm (`hdrCore` keeps it) and touches its own sub-block's page. -/
theorem episodesClose : Obligations.EpisodesClose := by
  unfold Obligations.EpisodesClose
  refine ⟨fun s o hexit hcold => ?_, fun s p idle hact hdone => ?_, fun s => ⟨fun hlow hstarted => ?_, fun hlow hdue => ?_⟩⟩
  · obtain ⟨htly, hrst⟩ := testMended_tly s o
    obtain ⟨hcounted, htly'⟩ := testCounted_rst (s.testMended o) o
    obtain ⟨hdone, hrows, hlanes, hmacros, hfail, hexit', hopen, hcause⟩ := closeEpisode_cold ((s.testMended o).testCounted o)
    have hclosed : (((s.testMended o).testCounted o).closeEpisode 2).tly = ((s.testMended o).testCounted o).tly := by simp
    refine ⟨_, exec_startupSelftestComplete hexit hcold o, hdone.trans (congrArg Rst.SELFTEST_DONE hcounted),
      hrows.trans (congrArg Rst.SELFTEST_ROWS hcounted), hlanes.trans (congrArg Rst.SELFTEST_LANES hcounted),
      hmacros.trans (congrArg Rst.SELFTEST_MACROS hcounted), hfail.trans (congrArg Rst.SELFTEST_FAIL hcounted), hexit', hopen, hcause,
      fun i hi => ?_, selftest_frame s o⟩
    rw [hclosed, htly', htly, startRowsLost_lost]
    simp only [Bool.or_eq_true, decide_eq_true_eq]
    exact .inr (List.mem_map_of_mem hi)
  · obtain ⟨hact', hreq, hmask⟩ := lrstReached_hdr s p.val
    have hrst := lrstReached_rst s p.val
    have hrun := exec_lrstComplete hact hdone
    have hframe := lrst_frame s p idle
    cases idle with
    | true =>
      obtain ⟨-, hcore, hended⟩ := lrstEnded_effect (s.lrstReached p.val) p.val true
      obtain ⟨eact, ereq, emask, -⟩ := core_at hcore (lrstPage p.val)
      rw [hrst] at hended
      exact ⟨_, hrun, eact.trans hact', ereq.trans hreq, emask.trans hmask, (congrArg Rst.CNT_LOCAL hended :),
        fun _ => (congrArg Rst.page hended :), fun h => absurd h (by decide), hframe⟩
    | false =>
      obtain ⟨herr, hcore', hforced⟩ := lrstForced_effect (s.lrstReached p.val) p.val
      obtain ⟨hkeeps, hcore, hended⟩ := lrstEnded_effect ((s.lrstReached p.val).lrstForced p.val) p.val false
      obtain ⟨eact, ereq, emask, -⟩ := core_at (hcore.trans hcore') (lrstPage p.val)
      rw [hforced, hrst] at hended
      refine ⟨_, hrun, eact.trans hact', ereq.trans hreq, emask.trans hmask, (congrArg Rst.CNT_LOCAL hended :), fun h => absurd h (by decide),
        fun _ => ⟨hkeeps _ _ herr, ?_⟩, hframe⟩
      refine (congrArg (fun r : Rst => r.page[p].LRST_TO_FORCED) hended).trans ?_
      simp [vMod_fin]
  · have hrun : exec .vioLow s = .next (({ s with rst.vioLow := true, rst.vioAt := s.now } : State).fault pgRst 17 0x1312) :=
      congrArg Host.Outcome.next (if_neg (by simp [hlow, hstarted]))
    exact ⟨_, hrun, by simp, hasErr_fault .., by simp [State.eq_of_pages]⟩
  · have hrun : exec .vioRestore s =
        .next (({ s with rst.vioLow := false } : State).event 0x1313 [sat 16 (s.msSince s.rst.vioAt)]) :=
      congrArg Host.Outcome.next (if_pos (by rw [hlow, Bool.true_and]; exact after_of_le hdue))
    exact ⟨_, hrun, by simp, by simp [State.eq_of_pages]⟩

/-- A cold episode whose self-test has not ended, with a mailbox page in a block-local reset. -/
def testingState : State :=
  { liveReset with rst.exiting := true, rst.epCold := true,
                   hdr := liveReset.hdr.set pgMbs { lrstAct := true, lrstReq := true } }

/-- `episodesClose` applies: a self-test that found nothing closes the episode, the mailbox page's reset ends when it is idle, and aon_vio
falls and returns. -/
theorem testingState_ends :
    (∃ t, exec (.startupSelftestComplete { rows := 0, rowsLost := [], lanesBad := [], detsBad := [], sensorsBad := [], beyond := [] })
      testingState = .next t ∧ t.rst.CAUSE_CAUSE = 2) ∧
    (∃ t, exec (.lrstComplete 4 true) testingState = .next t ∧ t.hdr[pgMbs].lrstAct = false) ∧
    ∃ t, exec .vioLow { testingState with rst.vioLow := false, rst.started := true } = .next t ∧ t.rst.vioLow = true := by
  obtain ⟨selftest, resets, vio⟩ := episodesClose
  obtain ⟨t, closed, -, -, -, -, -, -, -, hcause, -⟩ := selftest testingState
    { rows := 0, rowsLost := [], lanesBad := [], detsBad := [], sensorsBad := [], beyond := [] } rfl rfl
  obtain ⟨u, ended, hact, -⟩ := resets testingState 4 true (by simp [testingState, lrstPage]) (.inl rfl)
  obtain ⟨v, lost, hrst, -⟩ := (vio { testingState with rst.vioLow := false, rst.started := true }).1 rfl rfl
  exact ⟨⟨t, closed, hcause⟩, ⟨u, ended, hact⟩, v, lost, congrArg Rst.vioLow hrst⟩

end Sys2Proof.Proofs
end

section
/-! PROOFS. What sending on the frame and the roster's bookkeeping keep (R380, R382, R395 to R399). -/

namespace Sys2Proof.Machine

open Sys2Proof

/-! ### One link -/

/-- A link but for the messages on their way: what sending on it leaves alone. -/
def FrmLinkState.stance (l : FrmLinkState) : FrmLinkState := { l with unack := [], txSeq := 0, last := 0, retryAt := 0, wait := [] }

theorem FrmLinkState.push_stance (l : FrmLinkState) (now c : Nat) (m : BitVec 128) : (l.push now c m).stance = l.stance := by
  unfold FrmLinkState.push
  split <;> rfl

theorem link_linkMod (s : State) (d : Dir) (f : FrmLinkState → FrmLinkState) : (s.linkMod d f).link d = f (s.link d) := by
  cases d <;> rfl

theorem link_linkMod_other (s : State) {d d' : Dir} (f : FrmLinkState → FrmLinkState) (h : d' ≠ d) : (s.linkMod d f).link d' = s.link d' := by
  match d, d', h with
  | .east, .east, h | .west, .west, h => exact absurd rfl h
  | .east, .west, _ | .west, .east, _ => rfl

theorem Dir.other_ne (d : Dir) : Dir.other d ≠ d := by cases d <;> exact Dir.noConfusion

/-- The FRM page but for its links, its members and what the roster and the budget say of them. -/
def Frm.record (f : Frm) : Frm :=
  { f with east := {}, west := {}, ROSTER := 0, ROLE_RECKONER := 0, ROLE_HOPS := 0, BUDGET := 0, bCur := 0, wave := [], wave2 := [],
           v2 := false, floorRx := 0, firstShare := false, isoAt := none, isoCut := false, heldBudget := none, succ := false,
           member := Vector.replicate 24 {} }

/-- What a HELLO and the LINK messages have said of a member (R381). -/
def FrmMember.told (e : FrmMember) : FrmMember :=
  { e with SHARE := 0, PEER_UNREACH := false, PEER_ABSENT := false, heldMw := 0, heldAt := 0, heldCut := false, joining := false,
           left := false }

/-- This member is the reckoner, and is not marked absent (R387, R396). -/
def State.seated (s : State) : Prop := s.frm.ROLE_RECKONER = myPos s ∧ (memberOf s (myPos s)).PEER_ABSENT = false

/-- From `s` to `t` messages left and the roster was kept, and nothing more: a silent link and the record stand, a
present reckoner stays, no error clears. -/
structure RingKept (s t : State) : Prop where
  stance : ∀ d, (t.link d).stance = (s.link d).stance
  silent : ∀ d, (s.link d).up = false → (s.link d).train = 0 → t.link d = s.link d
  record : t.frm.record = s.frm.record
  told : ∀ p, (memberOf t p).told = (memberOf s p).told
  place : t.cmn = s.cmn
  seat : s.seated → t.seated
  errors : ∀ q i, s.hasErr q i → t.hasErr q i

section
variable {s t : State}

/-- Equal FRM pages. -/
theorem RingKept.of_frm (hfrm : t.frm = s.frm) (hcmn : t.cmn = s.cmn) (herr : ∀ q i, s.hasErr q i → t.hasErr q i) : RingKept s t := by
  have hlink (d : Dir) : t.link d = s.link d := by cases d <;> simp [State.link, hfrm]
  have hseat : t.seated = s.seated := by rw [State.seated, State.seated, memberOf, memberOf, myPos, myPos, hfrm, hcmn]
  exact ⟨fun d => by rw [hlink], fun d _ _ => hlink d, by rw [hfrm], fun p => by rw [memberOf, memberOf, hfrm], hcmn, hseat.mpr, herr⟩

theorem RingKept.refl (s : State) : RingKept s s := .of_frm rfl rfl fun _ _ h => h

theorem RingKept.trans {u : State} (h : RingKept s t) (h' : RingKept t u) : RingKept s u where
  stance d := (h'.stance d).trans (h.stance d)
  silent d hup htrain := by
    have hsame := h.silent d hup htrain
    exact (h'.silent d (by rw [hsame, hup]) (by rw [hsame, htrain])).trans hsame
  record := h'.record.trans h.record
  told p := (h'.told p).trans (h.told p)
  place := h'.place.trans h.place
  seat hs := h'.seat (h.seat hs)
  errors q i hi := h'.errors q i (h.errors q i hi)

/-- A change of the FRM page's bookkeeping that leaves the links. -/
theorem RingKept.of_links (he : t.frm.east = s.frm.east) (hw : t.frm.west = s.frm.west) (hrec : t.frm.record = s.frm.record)
    (hmem : ∀ p, (memberOf t p).told = (memberOf s p).told) (hcmn : t.cmn = s.cmn) (hseat : s.seated → t.seated) (hhdr : t.hdr = s.hdr) :
    RingKept s t := by
  have hlink (d : Dir) : t.link d = s.link d := by cases d <;> assumption
  exact ⟨fun d => by rw [hlink], fun d _ _ => hlink d, hrec, hmem, hcmn, hseat, fun _ _ h => hasErr_of_hdr h hhdr⟩

theorem RingKept.event (c : Nat) (d : List Nat) (h : RingKept s t) : RingKept s (t.event c d) :=
  h.trans (.of_frm (by simp) (by simp) fun _ _ => hasErr_event c d)

theorem RingKept.fault (p : Fin 23) (b c : Nat) (d : List Nat) (h : RingKept s t) : RingKept s (t.fault p b c d) :=
  h.trans (.of_frm (by simp) (by simp) fun _ _ => hasErr_fault_keeps p b c d)

/-- A message queued on a link (R380, R382). -/
theorem RingKept.linkSend (d : Dir) (c : Nat) (m : BitVec 128) (h : RingKept s t) : RingKept s (t.linkSend d c m) := by
  refine h.trans ?_
  unfold State.linkSend
  split
  next hsend =>
    have herr : ∀ q i, t.hasErr q i → (t.linkMod d fun l => l.push t.now c m).hasErr q i :=
      fun _ _ h => hasErr_of_hdr h (by simp)
    have hlink : ∀ d', (t.linkMod d fun l => l.push t.now c m).link d' = if d' = d then (t.link d).push t.now c m else t.link d' := by
      intro d'
      by_cases hd : d' = d
      · rw [hd, link_linkMod, if_pos rfl]
      · rw [link_linkMod_other _ _ hd, if_neg hd]
    refine ⟨fun d' => ?_, fun d' hup htrain => ?_, ?_, fun p => ?_, ?_, ?_, herr⟩
    · rw [hlink]
      split
      next hd => rw [hd, FrmLinkState.push_stance]
      · rfl
    · rw [hlink, if_neg]
      rintro rfl
      simp [hup, htrain] at hsend
    · cases d <;> rfl
    · cases d <;> rfl
    · cases d <;> rfl
    · cases d <;> exact id
  · exact .refl t

/-- A message of the member's own (R382). -/
theorem RingKept.frmSend (cls typ dst pay : Nat) (h : RingKept s t) : RingKept s (t.frmSend cls typ dst pay) := by
  unfold State.frmSend
  dsimp only
  split
  · exact .linkSend _ _ _ (.linkSend _ _ _ h)
  split
  · exact .linkSend _ _ _ h
  · exact h

/-- A message relayed (R382). -/
theorem RingKept.relay (d : Dir) (m : BitVec 128) (h : RingKept s t) : RingKept s (t.relay d m) := by
  unfold State.relay
  dsimp only
  split
  · split
    · exact h.linkSend ..
    · exact h
  split
  · exact h.linkSend ..
  · exact h.linkSend ..

theorem RingKept.ite {c : Prop} [Decidable c] {u v : State} (hu : RingKept s u) (hv : RingKept s v) : RingKept s (if c then u else v) := by
  split
  · exact hu
  · exact hv

theorem RingKept.foldl {α : Type} {f : State → α → State} (hf : ∀ u a, RingKept s u → RingKept s (f u a)) (l : List α) (h : RingKept s t) :
    RingKept s (l.foldl f t) :=
  List.foldlRecOn (motive := RingKept s) l f h fun u hu a _ => hf u a hu

theorem RingKept.memberMod (m : Nat) {f : FrmMember → FrmMember} (hf : ∀ e, (f e).told = e.told)
    (habsent : ∀ e, (f e).PEER_ABSENT = e.PEER_ABSENT) (h : RingKept s t) : RingKept s (t.memberMod m f) := by
  have hseat : (memberOf (t.memberMod m f) (myPos t)).PEER_ABSENT = (memberOf t (myPos t)).PEER_ABSENT :=
    vAt_vMod_proj FrmMember.PEER_ABSENT _ _ _ _ _ habsent
  exact h.trans (.of_links rfl rfl rfl (fun _ => vAt_vMod_proj FrmMember.told _ _ _ _ _ hf) rfl (fun ⟨hreck, ha⟩ => ⟨hreck, hseat.trans ha⟩) rfl)

/-! ### Shares and budgets (R391 to R394) -/

theorem RingKept.setBudget (b : Nat) (h : RingKept s t) : RingKept s (t.setBudget b) := by
  refine h.trans ?_
  have hfrm := setBudget_frm t b
  refine ⟨fun d => ?_, fun d _ _ => ?_, ?_, fun p => ?_, by simp, fun hs => ?_, fun _ _ => hasErr_setBudget b⟩
  · cases d <;> simp [State.link, hfrm]
  · cases d <;> simp [State.link, hfrm]
  · rw [hfrm]
    rfl
  · simp [memberOf, hfrm]
  · have hplace : myPos (t.setBudget b) = myPos t := by simp [myPos]
    rw [State.seated, hplace, memberOf, hfrm]
    exact hs

theorem RingKept.shareSend (kind m share : Nat) (h : RingKept s t) : RingKept s (t.shareSend kind m share) := by
  have hmember : RingKept s (t.memberMod m fun e => { e with SHARE := share }) :=
    h.memberMod m (fun _ => rfl) fun _ => rfl
  unfold State.shareSend
  exact .ite (hmember.trans (.of_links rfl rfl rfl (fun _ => rfl) rfl id rfl)) (hmember.frmSend ..)

theorem RingKept.secondWave (h : RingKept s t) : RingKept s t.secondWave :=
  .foldl (fun _ x hu => hu.shareSend 1 x.1 x.2) _ (h.trans (.of_links rfl rfl rfl (fun _ => rfl) rfl id rfl))

theorem RingKept.waveStep (h : RingKept s t) : RingKept s t.waveStep := by
  unfold State.waveStep
  exact .ite h.secondWave h

theorem RingKept.waveDrop (m : Nat) (h : RingKept s t) : RingKept s (t.waveDrop m) := by
  unfold State.waveDrop
  exact .ite (.waveStep (h.trans (.of_links rfl rfl rfl (fun _ => rfl) rfl id rfl))) h

/-- A share held for a member that is gone (R397). -/
theorem RingKept.holdShare (m : Nat) (h : RingKept s t) : RingKept s (t.holdShare m) := by
  have hleft : RingKept s (t.memberMod m fun e => { e with left := true, joining := false }) :=
    h.memberMod m (fun _ => rfl) fun _ => rfl
  unfold State.holdShare
  exact .ite (.waveDrop _ (hleft.memberMod m (fun _ => rfl) fun _ => rfl)) hleft

/-! ### The roster (R396, R398, R399) -/

theorem RingKept.treTakeOver (h : RingKept s t) : RingKept s t.treTakeOver := by
  unfold State.treTakeOver
  exact .ite h (.event _ _ (h.trans (.of_links rfl rfl rfl (fun _ => rfl) rfl id rfl)))

/-- The successor starts with no wave, and holds what the members that are gone may still use (R399). -/
def State.succeeds (s : State) : State :=
  s.onFrm fun f =>
    { f with
      succ := true, wave := [], wave2 := [], v2 := false, bCur := f.lastBudget
      member := f.member.map fun (e : FrmMember) =>
        if e.left then { e with heldMw := max e.heldMw (1000 * memberMax s e), heldAt := s.now, heldCut := false } else e }

theorem RingKept.succeeds (h : RingKept s t) : RingKept s t.succeeds := by
  have htold (p : Nat) : (memberOf t.succeeds p).told = (memberOf t p).told := by
    refine vAt_map_proj FrmMember.told _ _ _ _ fun e => ?_
    split <;> rfl
  have hseat : (memberOf t.succeeds (myPos t)).PEER_ABSENT = (memberOf t (myPos t)).PEER_ABSENT := by
    refine vAt_map_proj FrmMember.PEER_ABSENT _ _ _ _ fun e => ?_
    split <;> rfl
  exact h.trans (.of_links rfl rfl rfl htold rfl (fun ⟨hreck, ha⟩ => ⟨hreck, hseat.trans ha⟩) rfl)

/-- The successor of an absent reckoner; a reckoner that is present stays. -/
theorem RingKept.elect (h : RingKept s t) : RingKept s t.elect := by
  unfold State.elect
  dsimp only
  split
  · exact h
  next hgone =>
    have habsent : t.seated → False := fun ⟨hreck, hpresent⟩ => hgone (.inr (.inr (by rw [hreck, hpresent]; rfl)))
    have helected (new : Nat) (d : List Nat) : RingKept s (({ t with frm.ROLE_RECKONER := new } : State).event 0x0D18 d) :=
      .event _ _ (h.trans (.of_links rfl rfl rfl (fun _ => rfl) rfl (fun hs => (habsent hs).elim) rfl))
    exact .ite (.treTakeOver (.setBudget _ (helected _ _).succeeds)) (helected _ _)

/-- A member marked as absent or unreachable, this one not as absent (R396). -/
theorem RingKept.mark (p : Nat) {a : Bool} (b : Bool) (ha : p = myPos t → a = false) (h : RingKept s t) :
    RingKept s (t.memberMod p fun e => { e with PEER_ABSENT := a, PEER_UNREACH := b }) := by
  refine h.trans (.of_links rfl rfl rfl (fun q => vAt_vMod_proj FrmMember.told t.frm.member p q
    (fun e => { e with PEER_ABSENT := a, PEER_UNREACH := b }) {} fun _ => rfl) rfl (fun ⟨hreck, hpresent⟩ => ⟨hreck, ?_⟩) rfl)
  change (vAt (vMod t.frm.member p fun e => { e with PEER_ABSENT := a, PEER_UNREACH := b }) (myPos t) {}).PEER_ABSENT = false
  by_cases hp : p = myPos t
  · rw [ha hp]
    by_cases hlt : p < 24
    · rw [← hp, vAt_vMod_same _ _ _ _ hlt]
    · rw [← hp] at hpresent ⊢
      rw [vMod, dif_neg hlt]
      exact hpresent
  · rw [vAt_vMod_other _ _ _ _ _ hp]
    exact hpresent

/-- Whether the LINK messages make a member absent, and else unreachable (R396). -/
def absence (s : State) (p : Nat) : Bool × Bool :=
  let a := absentNow s p && decide (p ≠ myPos s)
  (a, !a && !reaches s s.frm.ROLE_RECKONER p)

/-- The members `l` marked as the LINK messages say (R396). -/
def State.marked (s u : State) (l : List Nat) : State :=
  l.foldl (fun (u : State) p => u.memberMod p fun e => { e with PEER_ABSENT := (absence s p).1, PEER_UNREACH := (absence s p).2 }) u

theorem marked_kept {u : State} (l : List Nat) (h : myPos u = myPos s) : RingKept u (s.marked u l) := by
  refine .foldl (fun v p hv => hv.mark p _ fun hp => ?_) l (.refl u)
  rw [hp, show myPos v = myPos s by rw [← h, myPos, myPos, hv.place]]
  simp [absence]

/-- Isolation as the links now say (R398). -/
theorem RingKept.isolated (a : Option Nat) (h : RingKept s t) :
    RingKept s { t with frm.isoAt := a } ∧ RingKept s { t with frm.isoAt := none, frm.isoCut := false } :=
  ⟨h.trans (.of_links rfl rfl rfl (fun _ => rfl) rfl id rfl), h.trans (.of_links rfl rfl rfl (fun _ => rfl) rfl id rfl)⟩

/-- The roster shown, and the hops to the reckoner. -/
theorem RingKept.shown (n : Nat) (h : RingKept s t) : RingKept s { t with frm.ROSTER := n } ∧ RingKept s { t with frm.ROLE_HOPS := n } :=
  ⟨h.trans (.of_links rfl rfl rfl (fun _ => rfl) rfl id rfl), h.trans (.of_links rfl rfl rfl (fun _ => rfl) rfl id rfl)⟩

/-- The members marked, and the roster shown (R396). -/
def State.roll (s : State) (live : Nat) : State := { s.marked s (List.range s.frm.size) with frm.ROSTER := live }

/-- What follows from the members' marks: the roster shown, held shares, a successor, isolation (R396 to R399). -/
theorem topology_kept (hformed : s.frm.FORM_STATE = 2) :
    ∃ live, RingKept (s.roll live) s.topology := by
  unfold State.topology
  rw [if_neg (by simp [hformed])]
  extract_lets now ps goneNew absNew live marked _ roster absent held iso _ before elected iso' _ after _
  refine ⟨live, ?_⟩
  have hroster : RingKept (s.roll live) roster := .refl _
  have habsent : RingKept _ absent := .foldl (fun _ _ hv => hv.fault _ _ _ _) _ hroster
  have hheld : RingKept _ held := .foldl (fun _ m hv => hv.holdShare m) _ habsent
  have hbefore : RingKept _ before := .ite (hheld.isolated none).2 (.ite (hheld.isolated _).1 hheld)
  have hafter : RingKept _ after := .ite (hbefore.elect.isolated none).2 (hbefore.elect.isolated _).1
  exact (hafter.shown _).2

/-- What the LINK messages say of the members, and what follows from it (R396 to R399). -/
theorem RingKept.topology (h : RingKept s t) : RingKept s t.topology := by
  by_cases hformed : t.frm.FORM_STATE = 2
  · obtain ⟨live, hrest⟩ := topology_kept hformed
    exact h.trans (((marked_kept (List.range t.frm.size) rfl).shown live).1.trans hrest)
  · rwa [State.topology, if_pos (by simpa using hformed)]

/-- LINK with UP for a link of this member (R395). -/
theorem RingKept.linkReport (d : Dir) (up : Bool) (h : RingKept s t) : RingKept s (t.linkReport d up) := by
  unfold State.linkReport
  exact .ite (h.frmSend ..) h

/-- The end of a round, and what the master takes up next, publish the input figures (R363). -/
theorem RingKept.pollEnd (h : RingKept s t) : RingKept s t.pollEnd := by
  have hended (u : State) (r n : Nat) (hu : PmbRunsOn t u) (hfrm : u.frm = t.frm) (hcmn : u.cmn = t.cmn) :
      RingKept s ({ u with pmb.inRound := false, pmb.ROUND_ROUNDS := r, pmb.ROUND_DUR := n } : State).formInput.inputLimits := by
    have hlimits : PmbRunsOn t ({ u with pmb.inRound := false, pmb.ROUND_ROUNDS := r, pmb.ROUND_DUR := n } : State).formInput.inputLimits :=
      .inputLimits (.formInput (hu.trans (.of_eq rfl rfl)))
    exact h.trans (.of_frm (by simp [hfrm]) (by simp [hcmn]) hlimits.errors.keeps)
  have hrounds : PmbRunsOn t ((List.range 8).foldl State.convRound t) :=
    List.foldlRecOn (motive := PmbRunsOn t) _ _ (.of_eq rfl rfl) fun _ hu i _ => hu.convRound i
  unfold State.pollEnd State.publishInput
  exact .frmSend _ _ _ _ (hended _ _ _ hrounds (by simp) (by simp))

theorem RingKept.pmbNext (h : RingKept s t) : RingKept s t.pmbNext := by
  unfold State.pmbNext
  dsimp only
  (repeat' split)
  case _ => exact h
  case _ => exact h.trans (.of_frm rfl rfl fun _ _ => id)
  case _ => exact h.trans (.of_frm rfl rfl fun _ _ => id)
  case _ => exact h.trans (.of_frm rfl rfl fun _ _ => id)
  case _ => exact h.pollEnd
  case _ => exact h

theorem RingKept.counterAsk (write : Bool) (h : RingKept s t) : RingKept s (t.counterAsk write) := by
  unfold State.counterAsk
  dsimp only
  (repeat' split)
  case _ => exact h
  case _ => exact .pmbNext (h.trans (.of_frm rfl rfl fun _ _ => id))
  case _ => exact .frmSend _ _ _ _ (.frmSend _ _ _ _ h)
  case _ => exact .frmSend _ _ _ _ h

end

/-! ### A link that goes down (R380) -/

/-- A link of which nothing is known but its lanes, its errors and the last word sent. -/
def FrmLinkState.fallen (l : FrmLinkState) : FrmLinkState := { ({} : FrmLinkState) with tx := l.tx, crcAt := l.crcAt, last := l.last }

theorem linkDown_of_down {s : State} {d : Dir} (h : (s.link d).up = false) : s.linkDown d = s.linkMod d FrmLinkState.fallen := by
  unfold State.linkDown
  dsimp only
  rw [h]
  cases d <;> rfl

/-- The fall of a link is counted and flagged (R380). -/
def State.fellCounted (s : State) (d : Dir) : State :=
  ({ s.linkMod d FrmLinkState.fallen with frm.CNT2_DOWNS := satAdd 16 s.frm.CNT2_DOWNS 1 } : State).fault pgFrm 17 0x0D12 [Dir.code d]

/-- What waits on a link that falls and may leave by the other (R395). -/
def State.heldOn (s : State) (d : Dir) : List (BitVec 128) :=
  ((s.link d).unack ++ (s.link d).wait.map fun (x : Nat × BitVec 128) => x.2).filter fun m => decide (dstPos s (mDst m) ≠ (s.link d).partner)

theorem dstPos_fellCounted (s : State) (d : Dir) (n : Nat) : dstPos (s.linkMod d FrmLinkState.fallen) n = dstPos s n := by
  cases d <;> rfl

theorem linkDown_of_up_eq {s : State} {d : Dir} (h : (s.link d).up = true) :
    s.linkDown d =
      (((s.heldOn d).foldl (fun (u : State) m => u.linkSend (Dir.other d) (msgClass (mType m)) m) (s.fellCounted d)).linkReport d false).topology := by
  unfold State.heldOn
  simp only [← dstPos_fellCounted s d]
  cases d <;> exact if_neg (by rw [h]; decide)

/-- A link that was up: its fall is counted and flagged, what waited goes by the other link, and the roster follows. -/
theorem linkDown_of_up {s : State} {d : Dir} (h : (s.link d).up = true) :
    ∃ u, RingKept u (s.linkDown d) ∧ u.hasErr pgFrm 17 ∧ u.link d = (s.link d).fallen ∧ u.link (Dir.other d) = s.link (Dir.other d) ∧
      u.frm.CNT2_DOWNS = satAdd 16 s.frm.CNT2_DOWNS 1 ∧ (∀ q i, s.hasErr q i → u.hasErr q i) := by
  have hother := link_linkMod_other s FrmLinkState.fallen (Dir.other_ne d)
  have hlink (x : Dir) : (s.fellCounted d).link x = (s.linkMod d FrmLinkState.fallen).link x := by
    unfold State.fellCounted
    cases d <;> cases x <;> simp [State.link, State.linkMod]
  refine ⟨s.fellCounted d, ?_, hasErr_fault .., (hlink d).trans (link_linkMod ..), (hlink _).trans hother, by cases d <;> simp [State.fellCounted, State.linkMod],
    fun q i hi => hasErr_fault_keeps _ _ _ _ (hasErr_of_hdr hi (by cases d <;> rfl))⟩
  rw [linkDown_of_up_eq h]
  exact .topology (.linkReport _ _ (.foldl (fun _ _ hu => hu.linkSend ..) _ (.refl _)))

/-! ### The words that leave (R376, R377) -/

theorem crcStepMsb_lt (c : Nat) : crcStepMsb 16 0x1021 c < 2 ^ 16 := by
  have hmod : (c <<< 1) % 2 ^ 16 < 2 ^ 16 := Nat.mod_lt _ (by decide)
  unfold crcStepMsb
  split
  · exact Nat.xor_lt_two_pow hmod (by decide)
  · exact hmod

theorem crcByteMsb_lt (c b : Nat) : crcByteMsb 16 0x1021 c b < 2 ^ 16 := by
  simp only [crcByteMsb, List.range_succ, List.foldl_append, List.foldl_cons, List.foldl_nil]
  exact crcStepMsb_lt _

theorem crc16_lt (bs : List Nat) : crc16 bs < 2 ^ 16 := by
  unfold crc16
  exact List.foldlRecOn (motive := fun c => c < 2 ^ 16) bs _ (by decide) fun c _ b _ => crcByteMsb_lt c b

/-- A sealed message is its fields above 16 bits of CRC. -/
theorem frmSeal_toNat (m : BitVec 128) (lseq lack : Nat) : ∃ c < 2 ^ 16,
    (frmSeal m lseq lack).toNat =
      m.toNat / 2 ^ 112 * 2 ^ 112 + lseq % 256 * 2 ^ 104 + lack % 256 * 2 ^ 96 + m.toNat / 2 ^ 16 % 2 ^ 80 * 2 ^ 16 + c := by
  refine ⟨frmCrc (m.toNat / 2 ^ 112 * 2 ^ 112 + lseq % 256 * 2 ^ 104 + lack % 256 * 2 ^ 96 + m.toNat / 2 ^ 16 % 2 ^ 80 * 2 ^ 16), ?_, ?_⟩
  · exact crc16_lt _
  have hcrc : frmCrc (m.toNat / 2 ^ 112 * 2 ^ 112 + lseq % 256 * 2 ^ 104 + lack % 256 * 2 ^ 96 + m.toNat / 2 ^ 16 % 2 ^ 80 * 2 ^ 16) < 2 ^ 16 :=
    crc16_lt _
  have hm : m.toNat < 2 ^ 128 := m.isLt
  simp only [frmSeal, BitVec.toNat_ofNat, bitsOf_eq_div_mod, Nat.shiftRight_eq_div_pow]
  generalize frmCrc _ = c at *
  exact Nat.mod_eq_of_lt (by omega)

theorem bitsOf_of_payload {x y : Nat} (h : x / 2 ^ 16 % 2 ^ 80 = y / 2 ^ 16 % 2 ^ 80) {lo len : Nat} (hlo : 16 ≤ lo) (hhi : lo + len ≤ 96) :
    bitsOf x lo len = bitsOf y lo len := by
  rw [bitsOf_eq_div_mod, bitsOf_eq_div_mod]
  refine Nat.eq_of_testBit_eq fun i => ?_
  have hbit := congrArg (fun n : Nat => n.testBit (lo - 16 + i)) h
  simp only [Nat.testBit_mod_two_pow, Nat.testBit_div_two_pow] at hbit ⊢
  rw [show lo - 16 + i + 16 = i + lo by omega] at hbit
  by_cases hi : i < len
  · simpa [hi, show lo - 16 + i < 80 by omega] using hbit
  · simp [hi]

/-- Sealing keeps the payload of a message. -/
theorem mf_frmSeal (m : BitVec 128) (lseq lack : Nat) {lo len : Nat} (hlo : 16 ≤ lo) (hhi : lo + len ≤ 96) :
    mf (frmSeal m lseq lack) lo len = mf m lo len := by
  obtain ⟨c, hc, hseal⟩ := frmSeal_toNat m lseq lack
  exact bitsOf_of_payload (by rw [hseal]; omega) hlo hhi

/-- Sealing keeps the type of a message. -/
theorem mType_frmSeal (m : BitVec 128) (lseq lack : Nat) : mType (frmSeal m lseq lack) = mType m := by
  obtain ⟨c, hc, hseal⟩ := frmSeal_toNat m lseq lack
  simp only [mType, mf, bitsOf_eq_div_mod, hseal]
  omega

theorem frmMsg_toNat (typ src dst pay : Nat) :
    (frmMsg typ src dst pay).toNat = typ % 64 * 2 ^ 122 + src % 32 * 2 ^ 117 + dst % 32 * 2 ^ 112 + pay / 2 ^ 16 % 2 ^ 80 * 2 ^ 16 := by
  simp only [frmMsg, BitVec.toNat_ofNat, Nat.shiftRight_eq_div_pow]
  exact Nat.mod_eq_of_lt (by omega)

theorem mType_frmMsg (typ src dst pay : Nat) : mType (frmMsg typ src dst pay) = typ % 64 := by
  simp only [mType, mf, bitsOf_eq_div_mod, frmMsg_toNat]
  omega

/-- The payload of a message stands in it where it was put. -/
theorem mf_frmMsg (typ src dst pay : Nat) {lo len : Nat} (hlo : 16 ≤ lo) (hhi : lo + len ≤ 96) :
    mf (frmMsg typ src dst pay) lo len = bitsOf pay lo len :=
  bitsOf_of_payload (by rw [frmMsg_toNat]; omega) hlo hhi

/-- LANE as it leaves: its type, REQ, and the lanes that failed (R379). -/
theorem laneMsg_sealed (src pay lack : Nat) :
    mType (frmSeal (frmMsg 0x01 src 31 pay) 0 lack) = 0x01 ∧ mf (frmSeal (frmMsg 0x01 src 31 pay) 0 lack) 90 1 = bitsOf pay 90 1 ∧
      mf (frmSeal (frmMsg 0x01 src 31 pay) 0 lack) 91 5 = bitsOf pay 91 5 := by
  rw [mType_frmSeal, mType_frmMsg, mf_frmSeal _ _ _ (by decide) (by decide), mf_frmSeal _ _ _ (by decide) (by decide),
    mf_frmMsg _ _ _ _ (by decide) (by decide), mf_frmMsg _ _ _ _ (by decide) (by decide)]
  exact ⟨rfl, rfl, rfl⟩

end Sys2Proof.Machine
end

section
/-! PROOFS. The hops of the frame: acknowledgements, retries, lane checks and crossings (R59, R334, R377 to R380). -/

namespace Sys2Proof.Machine

open Sys2Proof

/-! ### A message heard (R378) -/

theorem FrmLinkState.drain_of_wait_nil (n now : Nat) {l : FrmLinkState} (h : l.wait = []) : l.drain n now = l := by
  cases n with
  | zero => rfl
  | succ n => rw [FrmLinkState.drain, h]

/-- Messages that leave do not tell when the link last heard one. -/
theorem FrmLinkState.drain_rxAt (n now : Nat) (l : FrmLinkState) : (l.drain n now).rxAt = l.rxAt := by
  induction n generalizing l with
  | zero => rfl
  | succ n ih =>
    unfold FrmLinkState.drain
    split
    · rfl
    split
    · rw [ih, FrmLinkState.push]
      split <;> rfl
    · rfl

theorem heard_other (s : State) (d : Dir) (m : BitVec 128) : (s.heard d m).link (Dir.other d) = s.link (Dir.other d) := by
  unfold State.heard State.lack
  dsimp only
  split
  · split <;> cases d <;> rfl
  · cases d <;> rfl

/-- LACK that names no message on its way leaves them all. -/
theorem heard_unacked {s : State} {d : Dir} {m : BitVec 128}
    (h : (s.link d).unack.findIdx? (fun x => decide (mLseq x = mLack m)) = none) :
    s.heard d m = s.linkMod d fun l => { l with rxAt := s.now } := by
  unfold State.heard State.lack
  dsimp only
  rw [link_linkMod, h]

/-- LACK takes the messages up to the one that it names. -/
theorem heard_acked {s : State} {d : Dir} {m : BitVec 128} {i : Nat}
    (h : (s.link d).unack.findIdx? (fun x => decide (mLseq x = mLack m)) = some i) (hwait : (s.link d).wait = []) :
    (s.heard d m).link d = { s.link d with unack := (s.link d).unack.drop (i + 1), tries := 0, checked := false, checking := false,
                                            retryAt := s.now, rxAt := s.now } := by
  unfold State.heard State.lack
  dsimp only
  rw [link_linkMod, h]
  dsimp only
  rw [link_linkMod, FrmLinkState.drain_of_wait_nil]
  · split <;> cases d <;> rfl
  · split <;> cases d <;> exact hwait

theorem heard_rxAt (s : State) (d : Dir) (m : BitVec 128) : ((s.heard d m).link d).rxAt = s.now := by
  unfold State.heard State.lack
  dsimp only
  split
  · rw [link_linkMod, FrmLinkState.drain_rxAt]
    split <;> cases d <;> rfl
  · cases d <;> rfl

theorem received_hop {s : State} {d : Dir} {m : BitVec 128} {typ : Nat} (f : State → State) (h : frmIntact s m typ = true) (htyp : typ < 2) :
    s.received d m typ f = f (s.heard d m) := by
  simp only [frmIntact, Bool.and_eq_true, decide_eq_true_eq] at h
  obtain ⟨⟨halive, hmtyp⟩, hcrc⟩ := h
  unfold State.received
  rw [if_neg (by simp [halive, hmtyp]), if_neg (by simp [hcrc])]
  exact if_pos htyp

/-- IDLE gives its acknowledgement (R375, R378). -/
theorem idle_hears {s : State} (d : Dir) {m : BitVec 128} (h : frmIntact s m 0x00 = true) :
    ∃ t, exec (.frmIdle d m) s = .next t ∧ (t.link d).rxAt = s.now ∧ (t.link d).rxNext = (s.link d).rxNext ∧
      (∀ i, (s.link d).unack.findIdx? (fun x => decide (mLseq x = mLack m)) = some i → (s.link d).wait = [] →
        (t.link d).unack = (s.link d).unack.drop (i + 1) ∧ (t.link d).tries = 0) ∧
      ((s.link d).unack.findIdx? (fun x => decide (mLseq x = mLack m)) = none → (t.link d).unack = (s.link d).unack) ∧
      t.link (Dir.other d) = s.link (Dir.other d) ∧ t = { s with frm := t.frm, rel := t.rel } := by
  refine ⟨s.heard d m, congrArg Host.Outcome.next (received_hop id h (by decide)), heard_rxAt .., (heard_up_rxNext ..).2, fun i hi hwait => ?_,
    fun hnone => ?_, heard_other .., ?_⟩
  · rw [heard_acked hi hwait]
    exact ⟨rfl, rfl⟩
  · rw [heard_unacked hnone, link_linkMod]
  · obtain ⟨e, w, n, ht⟩ := heard_links s d m
    rw [ht]
    rfl

/-! ### CRC failures (R377) -/

/-- The CRC failures of a link within 1 ms. -/
def crcRecent (s : State) (d : Dir) : List Nat := (s.link d).crcAt.filter (fun a => decide (s.now < a + ticksPerMs)) ++ [s.now]

/-- The count of CRC failures. -/
def State.crcCounted (s : State) : State := { s with frm.CNT_CRC_ERR := satAdd 16 s.frm.CNT_CRC_ERR 1 }

theorem link_crcCounted (s : State) (d : Dir) : s.crcCounted.link d = s.link d := by cases d <;> rfl

theorem crcErr_few {s : State} {d : Dir} (h : (crcRecent s d).length < 16) :
    s.crcErr d = s.crcCounted.linkMod d fun l => { l with crcAt := crcRecent s d } := by
  have hrecent : crcRecent s.crcCounted d = crcRecent s d := by unfold crcRecent; rw [link_crcCounted]; rfl
  rw [← hrecent] at h ⊢
  cases d <;> exact if_neg (Nat.not_le.mpr h)

theorem crcErr_many {s : State} {d : Dir} (h : 16 ≤ (crcRecent s d).length) :
    s.crcErr d = (s.crcCounted.linkMod d fun l => { l with crcAt := [] }).linkSendRaw d (frmMsg 0x01 (myPos s) 31 (2 ^ 90)) := by
  have hrecent : crcRecent s.crcCounted d = crcRecent s d := by unfold crcRecent; rw [link_crcCounted]; rfl
  rw [← hrecent] at h
  cases d <;> exact if_pos h

/-- A CRC failure is counted, and the sixteenth within 1 ms asks for a lane check (R377, R379). -/
theorem crcErr_counts {s : State} (d : Dir) (h : frmAlive s = true) : ∃ l, l = crcRecent s d ∧
    ∃ t, exec (.frmCrcErr d) s = .next t ∧ t.frm.CNT_CRC_ERR = satAdd 16 s.frm.CNT_CRC_ERR 1 ∧
      (l.length < 16 → t.link d = { s.link d with crcAt := l }) ∧
      (16 ≤ l.length → (t.link d).crcAt = [] ∧ mType (t.link d).last = 0x01 ∧ mf (t.link d).last 90 1 = 1) ∧ t = { s with frm := t.frm } := by
  refine ⟨_, rfl, s.crcErr d, congrArg Host.Outcome.next (if_pos h), ?_⟩
  by_cases hmany : 16 ≤ (crcRecent s d).length
  · rw [crcErr_many hmany, State.linkSendRaw]
    obtain ⟨htype, hreq, -⟩ := laneMsg_sealed (myPos s) (2 ^ 90) ((s.link d).rxNext + 255)
    refine ⟨by cases d <;> rfl, fun hfew => absurd hmany (by omega), fun _ => ?_, by cases d <;> rfl⟩
    rw [link_linkMod, link_linkMod, link_crcCounted]
    exact ⟨rfl, htype, hreq⟩
  · rw [crcErr_few (by omega)]
    refine ⟨by cases d <;> rfl, fun _ => ?_, fun h16 => absurd h16 hmany, by cases d <;> rfl⟩
    rw [link_linkMod, link_crcCounted]

/-! ### Retries and silence (R378, R380) -/

/-- A link that has fallen (R380). -/
theorem linkDown_falls {s : State} {d : Dir} (h : (s.link d).up = true) :
    (s.linkDown d).link d = (s.link d).fallen ∧ (s.linkDown d).frm.CNT2_DOWNS = satAdd 16 s.frm.CNT2_DOWNS 1 ∧
      (s.linkDown d).hasErr pgFrm 17 ∧ ∀ q i, s.hasErr q i → (s.linkDown d).hasErr q i := by
  obtain ⟨u, hring, hdown, hlink, -, hcount, herr⟩ := linkDown_of_up h
  refine ⟨(hring.silent d (by rw [hlink]; rfl) (by rw [hlink]; rfl)).trans hlink, ?_, hring.errors _ _ hdown,
    fun q i hi => hring.errors q i (herr q i hi)⟩
  exact (congrArg Frm.CNT2_DOWNS hring.record :).trans hcount

/-- What the fall of a link leaves. -/
theorem linkDown_frame (s : State) (d : Dir) :
    s.linkDown d = { s with adm := (s.linkDown d).adm, frm := (s.linkDown d).frm, tre := (s.linkDown d).tre, mbs := (s.linkDown d).mbs,
                            mbn := (s.linkDown d).mbn, rck := (s.linkDown d).rck, aut := (s.linkDown d).aut, evt := (s.linkDown d).evt,
                            hdr := (s.linkDown d).hdr } := by
  simp [State.eq_of_pages]

/-- A silent link goes down (R380). -/
theorem silence_fells {s : State} {d : Dir} (hlive : s.rst.live = true) (h : (s.link d).up = true) :
    ∃ t, exec (.linkSilence d) s = .next t ∧ (t.link d).up = false ∧ (t.link d).unack = [] ∧ (t.link d).train = 0 ∧
      t.frm.CNT2_DOWNS = satAdd 16 s.frm.CNT2_DOWNS 1 ∧ t.hdr[pgFrm].err.testBit 17 = true ∧
      t = { s with adm := t.adm, frm := t.frm, tre := t.tre, mbs := t.mbs, mbn := t.mbn, rck := t.rck, aut := t.aut, evt := t.evt,
                   hdr := t.hdr } := by
  obtain ⟨hlink, hcount, herr, -⟩ := linkDown_falls h
  exact ⟨s.linkDown d, congrArg Host.Outcome.next (if_pos hlive), by rw [hlink]; rfl, by rw [hlink]; rfl, by rw [hlink]; rfl, hcount, herr,
    linkDown_frame ..⟩

/-- A message times out while the link may still deliver it. -/
theorem exec_frmRetryTimeout {s : State} {d : Dir} (halive : frmAlive s = true) (hup : (s.link d).up = true) (hun : (s.link d).unack ≠ [])
    (hchk : (s.link d).checking = false) :
    exec (.frmRetryTimeout d) s = .next (
      if (s.link d).tries + 1 < 3 then (s.linkMod d fun l => { l with tries := l.tries + 1 }).resend d
      else if (s.link d).checked then s.linkDown d
      else (s.wordRetired 8 (Dir.code d)).laneCheck d) :=
  congrArg Host.Outcome.next (if_neg (by simp [halive, hup, hun, hchk]))

section
variable {s : State} {d : Dir} (halive : frmAlive s = true) (hup : (s.link d).up = true) (hun : (s.link d).unack ≠ [])
  (hchk : (s.link d).checking = false)
include halive hup hun hchk

/-- An unacknowledged message leaves again (R378). -/
theorem retry_resends (htries : (s.link d).tries < 2) :
    ∃ t, exec (.frmRetryTimeout d) s = .next t ∧ (t.link d).tries = (s.link d).tries + 1 ∧ (t.link d).retryAt = s.now ∧
      (t.link d).unack.length = (s.link d).unack.length ∧
      t.frm.CNT_RETRIES = satAdd 16 s.frm.CNT_RETRIES (s.link d).unack.length ∧ t = { s with frm := t.frm } := by
  refine ⟨_, (exec_frmRetryTimeout halive hup hun hchk).trans (congrArg Host.Outcome.next (if_pos (by omega))), ?_⟩
  cases d
  · exact ⟨rfl, rfl, List.length_map _, by simp [State.resend, State.link, State.linkMod], rfl⟩
  · exact ⟨rfl, rfl, List.length_map _, by simp [State.resend, State.link, State.linkMod], rfl⟩

/-- After three attempts the message's word is retired, and a lane check begins (R378, R379, R478). -/
theorem retry_checks (htries : 2 ≤ (s.link d).tries) (hchecked : (s.link d).checked = false) :
    ∃ t, exec (.frmRetryTimeout d) s = .next t ∧ (t.link d).checking = true ∧ (t.link d).tries = 0 ∧
      t.rel.REPLAY_RETIRED = satAdd 16 s.rel.REPLAY_RETIRED 1 ∧ t = { s with frm := t.frm, rel := t.rel, evt := t.evt, hdr := t.hdr } := by
  refine ⟨(s.wordRetired 8 (Dir.code d)).laneCheck d, (exec_frmRetryTimeout halive hup hun hchk).trans (congrArg Host.Outcome.next
    ((if_neg (by omega)).trans (if_neg (by simp [hchecked])))), ?_⟩
  unfold State.laneCheck
  rw [link_linkMod]
  refine ⟨rfl, rfl, ?_, by simp [State.eq_of_pages]⟩
  cases d <;> simp [State.linkMod, State.wordRetired]

/-- After a lane check the link falls (R378, R380). -/
theorem retry_fells (htries : 2 ≤ (s.link d).tries) (hchecked : (s.link d).checked = true) :
    ∃ t, exec (.frmRetryTimeout d) s = .next t ∧ (t.link d).up = false ∧ t.frm.CNT2_DOWNS = satAdd 16 s.frm.CNT2_DOWNS 1 ∧
      t = { s with adm := t.adm, frm := t.frm, tre := t.tre, mbs := t.mbs, mbn := t.mbn, rck := t.rck, aut := t.aut, evt := t.evt,
                   hdr := t.hdr } := by
  obtain ⟨hlink, hcount, -⟩ := linkDown_falls hup
  exact ⟨s.linkDown d, (exec_frmRetryTimeout halive hup hun hchk).trans (congrArg Host.Outcome.next
    ((if_neg (by omega)).trans (if_pos hchecked))), by rw [hlink]; rfl, hcount, linkDown_frame ..⟩

end

/-! ### Training words and lane checks (R379, R380) -/

/-- The pass of a link's active lanes is counted (R380). -/
def State.trained (s : State) (d : Dir) : State := s.linkMod d fun l => { l with train := min 2 (l.train + 1) }

/-- A training word at a link that is down. -/
theorem exec_trainingWord_down {s : State} {d : Dir} (good : BitVec 5) (halive : frmAlive s = true) (hup : (s.link d).up = false) :
    exec (.trainingWord d good) s = .next (
      if rxLanes s d &&& (31 ^^^ good.toNat) = 0 then if (s.link d).train = 1 then ((s.trained d).helloOn d).linkUp d else s.trained d
      else s.linkMod d fun l => { l with train := 0 }) :=
  congrArg Host.Outcome.next ((if_neg (by simp [halive])).trans (if_neg (by simp [hup])))

/-- A training word of a lane check is compared (R379). -/
def State.compared (s : State) (d : Dir) (good : BitVec 5) : State :=
  s.linkMod d fun l => { l with chkN := l.chkN + 1, chkBad := l.chkBad ||| (31 ^^^ good.toNat) }

/-- A training word at a link that is up. -/
theorem exec_trainingWord_up {s : State} {d : Dir} (good : BitVec 5) (halive : frmAlive s = true) (hup : (s.link d).up = true) :
    exec (.trainingWord d good) s = .next (
      if 2 ≤ (s.link d).chkN + 1 then (s.compared d good).laneVerdict d else s.compared d good) :=
  congrArg Host.Outcome.next ((if_neg (by simp [halive])).trans (if_pos hup))

/-- A link comes up once its lanes have passed twice and a HELLO has come over it (R380). -/
theorem linkUp_link {s : State} {d : Dir} (htrain : 2 ≤ (s.link d).train) :
    ((s.linkUp d).link d).train = (s.link d).train ∧ ((s.link d).hello = true → ((s.linkUp d).link d).up = true) := by
  unfold State.linkUp
  dsimp only
  split
  next hno =>
    refine ⟨rfl, fun hhello => ?_⟩
    simpa [hhello, Nat.not_lt.mpr htrain] using hno
  · have hring : RingKept (s.linkMod d fun l => { l with up := true, rxAt := s.now }) _ :=
      .topology (.linkReport d true (.event 0x0D13 [Dir.code d] (.refl _)))
    have hstance := hring.stance d
    rw [link_linkMod] at hstance
    exact ⟨(congrArg FrmLinkState.train hstance :), fun _ => (congrArg FrmLinkState.up hstance :)⟩

theorem linkUp_of_untrained {s : State} {d : Dir} (h : (s.link d).train < 2) : s.linkUp d = s := if_pos (by simp [h])

section
variable {s : State} {d : Dir} (halive : frmAlive s = true) {good : BitVec 5} {bad : Nat} (hbad : bad = 31 ^^^ good.toNat)
include halive hbad

/-- A lane that fails at the start of a link begins its training again (R380). -/
theorem training_restarts (hup : (s.link d).up = false) (hlanes : rxLanes s d &&& bad ≠ 0) :
    ∃ t, exec (.trainingWord d good) s = .next t ∧ t.link d = { s.link d with train := 0 } ∧ t = { s with frm := t.frm } := by
  subst hbad
  exact ⟨_, (exec_trainingWord_down good halive hup).trans (congrArg Host.Outcome.next (if_neg hlanes)), link_linkMod .., by cases d <;> rfl⟩

/-- The active lanes pass at the start of a link; twice in a row, with a HELLO, it comes up (R380). -/
theorem training_passes (hup : (s.link d).up = false) (hlanes : rxLanes s d &&& bad = 0) :
    ∃ t, exec (.trainingWord d good) s = .next t ∧ (t.link d).train = min 2 ((s.link d).train + 1) ∧
      ((s.link d).train = 1 → (s.link d).hello = true → (t.link d).up = true) ∧
      t = { s with adm := t.adm, frm := t.frm, tre := t.tre, mbs := t.mbs, mbn := t.mbn, rck := t.rck, aut := t.aut, evt := t.evt,
                   hdr := t.hdr } := by
  subst hbad
  have run := (exec_trainingWord_down good halive hup).trans (congrArg Host.Outcome.next (if_pos hlanes))
  by_cases htrain : (s.link d).train = 1
  · have hstance : (((s.trained d).helloOn d).link d).stance = ((s.trained d).link d).stance :=
      (RingKept.linkSend d 1 _ (.refl (s.trained d))).stance d
    rw [State.trained, link_linkMod, htrain] at hstance
    have htwo : (((s.trained d).helloOn d).link d).train = 2 := (congrArg FrmLinkState.train hstance :)
    have hhello : (((s.trained d).helloOn d).link d).hello = (s.link d).hello := (congrArg FrmLinkState.hello hstance :)
    obtain ⟨hkept, hcomes⟩ := linkUp_link (Nat.le_of_eq htwo.symm)
    exact ⟨_, run.trans (congrArg Host.Outcome.next (if_pos htrain)), by rw [hkept, htwo, htrain]; rfl, fun _ h => hcomes (hhello.trans h),
      by simp [State.eq_of_pages, State.trained]⟩
  · refine ⟨_, run.trans (congrArg Host.Outcome.next (if_neg htrain)), ?_, fun h => absurd h htrain, ?_⟩
    · rw [State.trained, link_linkMod]
    · cases d <;> rfl

/-- The first word of a lane check is compared (R379). -/
theorem check_begins (hup : (s.link d).up = true) (hfirst : (s.link d).chkN = 0) :
    ∃ t, exec (.trainingWord d good) s = .next t ∧ t.link d = { s.link d with chkN := 1, chkBad := (s.link d).chkBad ||| bad } ∧
      t = { s with frm := t.frm } := by
  subst hbad
  refine ⟨_, (exec_trainingWord_up good halive hup).trans (congrArg Host.Outcome.next (if_neg (by omega))), ?_, by cases d <;> rfl⟩
  rw [State.compared, link_linkMod, hfirst]

end

/-! ### The verdict of a lane check (R379) -/

/-- A lane check answered by LANE with the payload `pay`. -/
def State.laneAnswered (s : State) (d : Dir) (pay : Nat) : State :=
  (s.linkMod d fun l => { l with chkN := 0, chkBad := 0 }).linkSendRaw d (frmMsg 0x01 (myPos s) 31 pay)

theorem bitsOf_mul_two_pow (n k len : Nat) : bitsOf (n * 2 ^ k) k len = n % 2 ^ len := by
  rw [bitsOf_eq_div_mod, Nat.mul_div_cancel n (Nat.two_pow_pos k)]

theorem link_laneAnswered (s : State) (d : Dir) (pay : Nat) :
    (s.laneAnswered d pay).link d =
      { s.link d with chkN := 0, chkBad := 0, last := frmSeal (frmMsg 0x01 (myPos s) 31 pay) 0 ((s.link d).rxNext + 255) } := by
  rw [State.laneAnswered, State.linkSendRaw, link_linkMod, link_linkMod]

theorem rxLanes_linkMod (s : State) (d d' : Dir) (f : FrmLinkState → FrmLinkState) : rxLanes (s.linkMod d f) d' = rxLanes s d' := by
  cases d <;> cases d' <;> rfl

theorem laneAnswered_says (s : State) (d : Dir) (pay : Nat) :
    rxLanes (s.laneAnswered d pay) d = rxLanes s d ∧ mType ((s.laneAnswered d pay).link d).last = 0x01 ∧
      mf ((s.laneAnswered d pay).link d).last 91 5 = bitsOf pay 91 5 ∧ s.laneAnswered d pay = { s with frm := (s.laneAnswered d pay).frm } := by
  obtain ⟨htype, -, hsent⟩ := laneMsg_sealed (myPos s) pay ((s.link d).rxNext + 255)
  have hlast : ((s.laneAnswered d pay).link d).last = frmSeal (frmMsg 0x01 (myPos s) 31 pay) 0 ((s.link d).rxNext + 255) := by
    rw [link_laneAnswered]
  rw [hlast]
  exact ⟨by rw [State.laneAnswered, State.linkSendRaw, rxLanes_linkMod, rxLanes_linkMod], htype, hsent, by cases d <;> rfl⟩

theorem laneVerdict_eq (s : State) (d : Dir) :
    s.laneVerdict d =
      match lanesAfter (rxLanes s d) (s.link d).chkBad with
      | some m =>
        if m = rxLanes s d then s.laneAnswered d ((s.link d).chkBad * 2 ^ 91)
        else ((((s.laneAnswered d ((s.link d).chkBad * 2 ^ 91)).setRxLanes d m).fault pgFrm 18 0x0D14
          [Dir.code d, (firstBelow 5 fun k => (rxLanes s d &&& (s.link d).chkBad).testBit k).getD 0])).settle 0x0D14
      | none => ((s.laneAnswered d ((s.link d).chkBad * 2 ^ 91)).fault pgFrm 19 0x0D15 [Dir.code d, rxLanes s d &&& (s.link d).chkBad]).linkDown d := by
  unfold State.laneVerdict State.laneAnswered
  cases d <;> rfl

/-- No active lane failed: the lanes stay. -/
theorem laneVerdict_same {s : State} {d : Dir} (h : rxLanes s d &&& (s.link d).chkBad = 0) : s.laneVerdict d = s.laneAnswered d ((s.link d).chkBad * 2 ^ 91) := by
  rw [laneVerdict_eq, lanesAfter, if_pos h]
  exact if_pos rfl

theorem rxLanes_setRxLanes (s : State) (d : Dir) (m : Nat) : rxLanes (s.setRxLanes d m) d = m := by cases d <;> rfl

theorem link_setRxLanes (s : State) (d : Dir) (m : Nat) : (s.setRxLanes d m).link d = s.link d := by cases d <;> rfl

section
variable {s t : State} (h : t.frm = s.frm) (d : Dir)
include h

theorem link_of_frm : t.link d = s.link d := by cases d <;> simp [State.link, h]

theorem rxLanes_of_frm : rxLanes t d = rxLanes s d := by cases d <;> simp [rxLanes, h]

end

/-- The state with the spare lane in the place of the one that failed. -/
def State.spareIn (s : State) (d : Dir) (bad : Nat) : State := (s.laneAnswered d (bad * 2 ^ 91)).setRxLanes d ((rxLanes s d &&& (31 ^^^ bad)) ||| 16)

/-- One of the four active lanes failed, and the spare did not: it takes its place. -/
theorem laneVerdict_spare {s : State} {d : Dir} (hact : rxLanes s d = 15) (hone : popcount 4 (rxLanes s d &&& (s.link d).chkBad) = 1)
    (hspare : (s.link d).chkBad.testBit 4 = false) :
    ∃ x, s.laneVerdict d = ((s.spareIn d (s.link d).chkBad).fault pgFrm 18 0x0D14 [Dir.code d, x]).settle 0x0D14 := by
  have hbad : rxLanes s d &&& (s.link d).chkBad ≠ 0 := fun h => by rw [h] at hone; exact absurd hone (by decide)
  have hnew : (rxLanes s d &&& (31 ^^^ (s.link d).chkBad)) ||| 16 ≠ rxLanes s d := by
    rw [hact]
    exact fun h => absurd (congrArg (Nat.testBit · 4) h) (by simp [Nat.testBit_or, show Nat.testBit 15 4 = false from rfl, show Nat.testBit 16 4 = true from rfl])
  rw [laneVerdict_eq, lanesAfter, if_neg hbad, if_pos ⟨hact, hone, by simp [hspare]⟩]
  exact ⟨_, if_neg hnew⟩

/-- Two of the four active lanes failed: the link falls. -/
theorem laneVerdict_fall {s : State} {d : Dir} (hmany : 2 ≤ popcount 4 (rxLanes s d &&& (s.link d).chkBad)) :
    ∃ x, s.laneVerdict d = ((s.laneAnswered d ((s.link d).chkBad * 2 ^ 91)).fault pgFrm 19 0x0D15 x).linkDown d := by
  have hbad : rxLanes s d &&& (s.link d).chkBad ≠ 0 := fun h => by rw [h] at hmany; exact absurd hmany (by decide)
  rw [laneVerdict_eq, lanesAfter, if_neg hbad, if_neg (fun h => by omega)]
  exact ⟨_, rfl⟩

section
variable {s : State} {d : Dir} (halive : frmAlive s = true) {good : BitVec 5} {act failed : Nat} (hup : (s.link d).up = true)
  (hsecond : (s.link d).chkN = 1) (hact : act = rxLanes s d) (hfailed : failed = (s.link d).chkBad ||| (31 ^^^ good.toNat))
include halive hup hsecond hact hfailed

/-- The second word of a check gives its verdict. -/
theorem exec_trainingWord_verdict :
    ∃ u, u = s.compared d good ∧ exec (.trainingWord d good) s = .next (u.laneVerdict d) ∧ rxLanes u d = act ∧ (u.link d).chkBad = failed ∧
      (u.link d).up = true ∧ u.hdr = s.hdr := by
  refine ⟨_, rfl, (exec_trainingWord_up good halive hup).trans (congrArg Host.Outcome.next (if_pos (by omega))), ?_, ?_, ?_, ?_⟩
  · rw [hact]
    cases d <;> rfl
  · rw [hfailed, State.compared, link_linkMod]
  · rw [State.compared, link_linkMod, hup]
  · cases d <;> rfl

/-- No active lane failed: the verdict changes nothing. -/
theorem check_passes (hlanes : act &&& failed = 0) :
    ∃ t, exec (.trainingWord d good) s = .next t ∧ rxLanes t d = act ∧ (t.link d).chkN = 0 ∧ (t.link d).up = true ∧
      mType (t.link d).last = 0x01 ∧ mf (t.link d).last 91 5 = failed % 32 ∧ t = { s with frm := t.frm } := by
  obtain ⟨u, hu, run, hrx, hbad, hlink, -⟩ := exec_trainingWord_verdict halive hup hsecond hact hfailed
  rw [laneVerdict_same (by rw [hrx, hbad, hlanes]), hbad] at run
  obtain ⟨hsame, htype, hsent, hframe⟩ := laneAnswered_says u d (failed * 2 ^ 91)
  refine ⟨_, run, hsame.trans hrx, by rw [link_laneAnswered], by rw [link_laneAnswered]; exact hlink, htype,
    hsent.trans (bitsOf_mul_two_pow failed 91 5), hframe.trans ?_⟩
  rw [hu]
  cases d <;> rfl

/-- One active lane failed: the spare takes its place. -/
theorem check_spares (hfour : act = 15) (hone : popcount 4 (act &&& failed) = 1) (hspare : failed.testBit 4 = false) :
    ∃ t, exec (.trainingWord d good) s = .next t ∧ rxLanes t d = ((act &&& (31 ^^^ failed)) ||| 16) ∧ (t.link d).up = true ∧
      t.hdr[pgFrm].err.testBit 18 = true ∧
      t = { s with seq := t.seq, frm := t.frm, mbs := t.mbs, mbn := t.mbn, rck := t.rck, evt := t.evt, hdr := t.hdr } := by
  obtain ⟨u, hu, run, hrx, hbad, hlink, -⟩ := exec_trainingWord_verdict halive hup hsecond hact hfailed
  obtain ⟨x, hverdict⟩ := laneVerdict_spare (hrx.trans hfour) (by rw [hrx, hbad]; exact hone) (by rw [hbad]; exact hspare)
  rw [hverdict, hbad] at run
  generalize hw : ((u.spareIn d failed).fault pgFrm 18 0x0D14 [Dir.code d, x]).settle 0x0D14 = w at run
  have hfrm : w.frm = (u.spareIn d failed).frm := by simp [← hw]
  refine ⟨w, run, ?_, ?_, ?_, ?_⟩
  · rw [rxLanes_of_frm hfrm d, State.spareIn, rxLanes_setRxLanes, hrx]
  · rw [link_of_frm hfrm d, State.spareIn, link_setRxLanes, link_laneAnswered]
    exact hlink
  · rw [← hw]
    exact hasErr_settle _ (hasErr_fault ..)
  · rw [← hw]
    simp [State.eq_of_pages, hu, State.spareIn, State.laneAnswered, State.compared]

/-- Two active lanes failed: the link falls. -/
theorem check_fells (hmany : 2 ≤ popcount 4 (act &&& failed)) :
    ∃ t, exec (.trainingWord d good) s = .next t ∧ (t.link d).up = false ∧ t.hdr[pgFrm].err.testBit 19 = true ∧
      t = { s with adm := t.adm, frm := t.frm, tre := t.tre, mbs := t.mbs, mbn := t.mbn, rck := t.rck, aut := t.aut, evt := t.evt,
                   hdr := t.hdr } := by
  obtain ⟨u, hu, run, hrx, hbad, hlink, -⟩ := exec_trainingWord_verdict halive hup hsecond hact hfailed
  obtain ⟨x, hverdict⟩ := laneVerdict_fall (s := u) (d := d) (by rw [hrx, hbad]; exact hmany)
  rw [hverdict, hbad] at run
  generalize failed * 2 ^ 91 = pay at run
  have hfrm : ((u.laneAnswered d pay).fault pgFrm 19 0x0D15 x).frm = (u.laneAnswered d pay).frm := by simp
  have hup' : (((u.laneAnswered d pay).fault pgFrm 19 0x0D15 x).link d).up = true := by
    rw [link_of_frm hfrm d, link_laneAnswered]
    exact hlink
  obtain ⟨hfallen, -, -, herr⟩ := linkDown_falls hup'
  exact ⟨_, run, by rw [hfallen]; rfl, herr _ _ (hasErr_fault ..), by simp [State.eq_of_pages, hu, State.laneAnswered, State.compared]⟩

end

/-! ### LANE (R379) -/

/-- Messages that leave again change what is on its way and when (R378). -/
theorem link_resend (s : State) (d : Dir) :
    (s.resend d).link d =
      { s.link d with unack := (s.link d).unack.map fun m => frmSeal m (mLseq m) ((s.link d).rxNext + 255)
                      last := ((s.link d).unack.map fun m => frmSeal m (mLseq m) ((s.link d).rxNext + 255)).getLastD (s.link d).last
                      retryAt := s.now } := by
  cases d <;> rfl

/-- A link that falls, whether it was up or not. -/
theorem linkDown_link (s : State) (d : Dir) : (s.linkDown d).link d = (s.link d).fallen := by
  cases hup : (s.link d).up
  · rw [linkDown_of_down hup, link_linkMod]
  · exact (linkDown_falls hup).1

/-- The fall of a link leaves a silent link on the other side alone. -/
theorem linkDown_other {s : State} (d : Dir) (hup : (s.link (Dir.other d)).up = false) (htrain : (s.link (Dir.other d)).train = 0) :
    (s.linkDown d).link (Dir.other d) = s.link (Dir.other d) := by
  cases h : (s.link d).up
  · rw [linkDown_of_down h, link_linkMod_other _ _ (Dir.other_ne d)]
  · obtain ⟨u, hring, -, -, hother, -⟩ := linkDown_of_up h
    rw [hring.silent _ (by rw [hother, hup]) (by rw [hother, htrain]), hother]

section
variable {s : State} {d : Dir} {m : BitVec 128} (h : frmIntact s m 0x01 = true) (hun : (s.link d).unack = [])
include h hun

/-- LANE at a link with no message on its way. -/
theorem exec_frmLane : exec (.frmLane d m) s = .next ((s.linkMod d fun l => { l with rxAt := s.now }).laneMsg d m) :=
  congrArg Host.Outcome.next ((received_hop (fun s => s.laneMsg d m) h (by decide)).trans
    (congrArg (State.laneMsg · d m) (heard_unacked (by rw [hun]; rfl))))

/-- A request starts a lane check at the sender. -/
theorem laneRequest_checks (hreq : mf m 90 1 = 1) :
    ∃ t, exec (.frmLane d m) s = .next t ∧ t.link d = { s.link d with rxAt := s.now, checking := true, tries := 0 } ∧
      t = { s with frm := t.frm } := by
  refine ⟨_, (exec_frmLane h hun).trans (congrArg Host.Outcome.next (if_pos hreq)), ?_, by cases d <;> rfl⟩
  rw [State.laneCheck, link_linkMod, link_linkMod]

/-- The answer names the lanes that are left: they carry the link. -/
theorem laneAnswer_ends {l : Nat} (hreq : mf m 90 1 = 0) (hchk : (s.link d).checking = true)
    (hlanes : lanesAfter (s.link d).tx (mf m 91 5) = some l) :
    ∃ t, exec (.frmLane d m) s = .next t ∧ (t.link d).tx = l ∧ (t.link d).checking = false ∧ (t.link d).checked = true ∧
      (t.link d).tries = 0 ∧ (t.link d).up = (s.link d).up ∧ t = { s with frm := t.frm } := by
  have hheard := link_linkMod s d fun l => { l with rxAt := s.now }
  have run : exec (.frmLane d m) s = .next (((s.linkMod d fun l => { l with rxAt := s.now }).linkMod d fun e =>
      { e with tx := l, checking := false, checked := true, tries := 0 }).resend d) := by
    rw [exec_frmLane h hun, State.laneMsg, if_neg (by omega), hheard, if_pos hchk]
    dsimp only
    rw [hlanes]
  have hresent := link_resend ((s.linkMod d fun l => { l with rxAt := s.now }).linkMod d fun e =>
    { e with tx := l, checking := false, checked := true, tries := 0 }) d
  rw [link_linkMod, hheard] at hresent
  refine ⟨_, run, ?_, ?_, ?_, ?_, ?_, by simp [State.eq_of_pages]⟩ <;> rw [hresent]

/-- Too few lanes are left: the link falls. -/
theorem laneAnswer_fells (hreq : mf m 90 1 = 0) (hchk : (s.link d).checking = true) (hlanes : lanesAfter (s.link d).tx (mf m 91 5) = none) :
    ∃ t, exec (.frmLane d m) s = .next t ∧ (t.link d).up = false ∧
      t = { s with adm := t.adm, frm := t.frm, tre := t.tre, mbs := t.mbs, mbn := t.mbn, rck := t.rck, aut := t.aut, evt := t.evt,
                   hdr := t.hdr } := by
  have hheard := link_linkMod s d fun l => { l with rxAt := s.now }
  have run : exec (.frmLane d m) s = .next ((s.linkMod d fun l => { l with rxAt := s.now }).linkDown d) := by
    rw [exec_frmLane h hun, State.laneMsg, if_neg (by omega), hheard, if_pos hchk]
    dsimp only
    rw [hlanes]
  exact ⟨_, run, by rw [linkDown_link]; rfl, by simp [State.eq_of_pages]⟩

end

/-- The fall of a link clears no error. -/
theorem hasErr_linkDown {s : State} {q : Fin 23} {i : Nat} (d : Dir) (hi : s.hasErr q i) : (s.linkDown d).hasErr q i := by
  cases h : (s.link d).up
  · rw [linkDown_of_down h]
    exact hasErr_of_hdr hi (by cases d <;> rfl)
  · exact (linkDown_falls h).2.2.2 q i hi

/-! ### Crossings (R59, R334) -/

/-- A domain marked clock-lost. -/
def State.lostAt (s : State) (c : Fin 25) : State :=
  { s with clk.dom := s.clk.dom.set c { s.clk.dom[c] with ST_LOST := true, lostAt := s.now, lowAt := s.now } }

/-- What the loss of a domain's clock does (R59). -/
theorem clockLost_eq {s : State} {c : Fin 25} (h : s.clk.dom[c].ST_LOST = false) :
    ∃ u v, u = (s.lostAt c).fault pgClk 16 0x0A10 [c.val] ∧ (v = if c.val = s.cmn.straps.netCd.toNat then u.heartbeatLost 2 else u) ∧
      s.clockLost c.val = if c.val = s.cmn.straps.d2dCd.toNat then (v.linkDown .east).linkDown .west else v := by
  have hclk : clkOf s c.val = s.clk.dom[c] := dif_pos c.isLt
  have hdom : (s.clkMod c.val fun e => { e with ST_LOST := true, lostAt := s.now, lowAt := s.now }) = s.lostAt c := by
    unfold State.clkMod State.lostAt
    rw [vMod_fin]
  refine ⟨_, _, rfl, rfl, ?_⟩
  unfold State.clockLost
  rw [hclk, h, if_neg (by decide), hdom]
  simp [State.lostAt]

section
variable {s : State} {q : Fin 23} {i : Nat}

theorem hasErr_setBusy (p : Fin 23) (b : Bool) (h : s.hasErr q i) : (s.setBusy p b).hasErr q i := by
  unfold State.hasErr State.setBusy State.hdrMod
  by_cases hq : q = p
  · subst hq
    simpa [State.hasErr] using h
  · simpa [State.hasErr, Fin.val_ne_of_ne (Ne.symm hq)] using h

theorem hasErr_unlockPages (h : s.hasErr q i) : s.unlockPages.hasErr q i := by
  simpa [State.hasErr, State.unlockPages] using h

theorem hasErr_abandonLoad (st : Nat) (h : s.hasErr q i) : (s.abandonLoad st).hasErr q i := by
  have hclosed : ({ s with seq.STATE_ACT_PEND := false, seq.STATE_COMMITTED := false, seq.CMD_ST_ST := st, seq.deferred := false,
                           stg.img := none } : State).hasErr q i := h
  have hsaid := hasErr_event 0x0112 [st] (hasErr_setBusy pgSeq false hclosed)
  unfold State.abandonLoad
  exact hasErr_ite (hasErr_unlockPages hsaid) hsaid

/-- The loss of the heartbeat clears no error (R429). -/
theorem hasErr_heartbeatLost (cause : Nat) (h : s.hasErr q i) : (s.heartbeatLost cause).hasErr q i := by
  have hcounted : ({ s with mbs.HB_CNT_LOSSES := satAdd 16 s.mbs.HB_CNT_LOSSES 1, mbs.lossTaken := true } : State).hasErr q i := h
  have habandoned := hasErr_ite (c := loadOpen { s with mbs.HB_CNT_LOSSES := satAdd 16 s.mbs.HB_CNT_LOSSES 1, mbs.lossTaken := true })
    (hasErr_abandonLoad 0x50 hcounted) hcounted
  unfold State.heartbeatLost
  exact hasErr_ite (hasErr_settle _ (hasErr_ite (hasErr_event _ _ habandoned) habandoned)) h

end

/-- The loss of a domain's clock: its registers, its error, and the links of the frame where the domain is theirs (R59). -/
theorem clockLost_effect {s : State} {c : Fin 25} (h : s.clk.dom[c].ST_LOST = false) :
    (s.clockLost c.val).clk = (s.lostAt c).clk ∧ (s.clockLost c.val).hasErr pgClk 16 ∧
      (c.val = s.cmn.straps.d2dCd.toNat → (s.clockLost c.val).frm.east.up = false ∧ (s.clockLost c.val).frm.west.up = false) ∧
      (c.val ≠ s.cmn.straps.d2dCd.toNat → (s.clockLost c.val).frm = s.frm) ∧
      (c.val ≠ s.cmn.straps.d2dCd.toNat → c.val ≠ s.cmn.straps.netCd.toNat →
        s.clockLost c.val = { s with clk := (s.clockLost c.val).clk, evt := (s.clockLost c.val).evt, hdr := (s.clockLost c.val).hdr }) := by
  obtain ⟨u, v, hu, hv, hlost⟩ := clockLost_eq h
  have herrU : u.hasErr pgClk 16 := by rw [hu]; exact hasErr_fault ..
  have herrV : v.hasErr pgClk 16 := by rw [hv]; exact hasErr_ite (hasErr_heartbeatLost 2 herrU) herrU
  have hclkV : v.clk = (s.lostAt c).clk ∧ v.frm = s.frm := by
    rw [hv, hu]
    split <;> simp [State.lostAt]
  obtain ⟨hclk, hfrm⟩ := hclkV
  rw [hlost]
  split
  next hd2d =>
    have heast := linkDown_link v .east
    refine ⟨by simp [hclk], hasErr_linkDown _ (hasErr_linkDown _ herrV), fun _ => ⟨?_, ?_⟩, fun hne => absurd hd2d hne,
      fun hne => absurd hd2d hne⟩
    · exact (congrArg FrmLinkState.up (linkDown_other (s := v.linkDown .east) .west (congrArg FrmLinkState.up heast :)
        (congrArg FrmLinkState.train heast :)) :).trans (congrArg FrmLinkState.up heast :)
    · exact (congrArg FrmLinkState.up (linkDown_link (v.linkDown .east) .west) :)
  next hd2d =>
    refine ⟨hclk, herrV, fun heq => absurd heq hd2d, fun _ => hfrm, fun _ hnet => ?_⟩
    rw [hv, if_neg hnet, hu]
    simp [State.eq_of_pages, State.lostAt]

/-- A domain whose generator lowers clk_gen_ok (R334). -/
def State.genLow (s : State) (c : Fin 25) : State :=
  { s with clk.dom := s.clk.dom.set c { s.clk.dom[c] with genLow := true, lowAt := s.now } }

theorem exec_clkGenOkLow {s : State} {c : Fin 25} (hlive : s.rst.live = true) :
    exec (.clkGenOkLow c) s = .next ((s.genLow c).clockLost c.val) := by
  have hmod : (s.clkMod c.val fun e => { e with genLow := true, lowAt := s.now }) = s.genLow c := by
    unfold State.clkMod State.genLow
    rw [vMod_fin]
  exact congrArg Host.Outcome.next ((if_pos hlive).trans (by rw [hmod]))

theorem clockLost_again {s : State} {c : Fin 25} (h : s.clk.dom[c].ST_LOST = true) : s.clockLost c.val = s := by
  have hclk : clkOf s c.val = s.clk.dom[c] := dif_pos c.isLt
  exact if_pos (by rw [hclk, h])

/-- The clock page of a domain that is lost because its generator lowers clk_gen_ok. -/
theorem genLow_lostAt_clk (s : State) (c : Fin 25) :
    ((s.genLow c).lostAt c).clk =
      { s.clk with dom := s.clk.dom.set c { s.clk.dom[c] with genLow := true, ST_LOST := true, lostAt := s.now, lowAt := s.now } } := by
  simp [State.lostAt, State.genLow]

section
variable {s : State} {c : Fin 25} (hlive : s.rst.live = true)
include hlive

/-- A crossing without progress makes its domain clock-lost (R59). -/
theorem crossing_times_out (h : s.clk.dom[c].ST_LOST = false) :
    ∃ t, exec (.crossingTimeout c) s = .next t ∧
      t.clk = { s.clk with dom := s.clk.dom.set c { s.clk.dom[c] with ST_LOST := true, lostAt := s.now, lowAt := s.now } } ∧
      t.hdr[pgClk].err.testBit 16 = true ∧ (c.val = s.cmn.straps.d2dCd.toNat → t.frm.east.up = false ∧ t.frm.west.up = false) ∧
      (c.val ≠ s.cmn.straps.d2dCd.toNat → t.frm = s.frm) ∧
      (c.val ≠ s.cmn.straps.d2dCd.toNat → c.val ≠ s.cmn.straps.netCd.toNat → t = { s with clk := t.clk, evt := t.evt, hdr := t.hdr }) :=
  ⟨s.clockLost c.val, congrArg Host.Outcome.next (if_pos hlive), clockLost_effect h⟩

/-- A generator that lowers clk_gen_ok makes its domain clock-lost (R334). -/
theorem generator_stops (h : s.clk.dom[c].ST_LOST = false) :
    ∃ t, exec (.clkGenOkLow c) s = .next t ∧
      t.clk = { s.clk with dom := s.clk.dom.set c { s.clk.dom[c] with genLow := true, ST_LOST := true, lostAt := s.now, lowAt := s.now } } ∧
      t.hdr[pgClk].err.testBit 16 = true ∧ (c.val = s.cmn.straps.d2dCd.toNat → t.frm.east.up = false ∧ t.frm.west.up = false) ∧
      (c.val ≠ s.cmn.straps.d2dCd.toNat → c.val ≠ s.cmn.straps.netCd.toNat → t = { s with clk := t.clk, evt := t.evt, hdr := t.hdr }) := by
  obtain ⟨hclk, herr, hlinks, -, hframe⟩ := clockLost_effect (s := s.genLow c) (c := c) (by simpa [State.genLow] using h)
  exact ⟨_, exec_clkGenOkLow hlive, hclk.trans (genLow_lostAt_clk s c), herr, hlinks, fun hd hn => hframe hd hn⟩

/-- A crossing resumes 16 ticks after the loss, or after clk_gen_ok was last lowered (R59, log entry 68). -/
theorem crossing_resumes (h : s.clk.dom[c].ST_LOST = true) (hdue : s.after s.clk.dom[c].lowAt 16 = true) :
    ∃ t, exec (.crossingResume c) s = .next t ∧
      t.clk = { s.clk with dom := s.clk.dom.set c { s.clk.dom[c] with ST_LOST := false, genLow := false } } ∧
      t = { s with clk := t.clk, evt := t.evt, hdr := t.hdr } := by
  have hclk : clkOf s c.val = s.clk.dom[c] := dif_pos c.isLt
  refine ⟨_, congrArg Host.Outcome.next (if_pos (by rw [hclk, h, hlive, hdue]; rfl)), ?_, by simp [State.eq_of_pages, State.clkMod]⟩
  simp [State.clkMod, vMod_fin]

/-- A domain that is clock-lost already. -/
theorem lost_already (h : s.clk.dom[c].ST_LOST = true) :
    exec (.crossingTimeout c) s = .next s ∧
      exec (.clkGenOkLow c) s = .next { s with clk := { s.clk with dom := s.clk.dom.set c { s.clk.dom[c] with genLow := true, lowAt := s.now } } } :=
  ⟨congrArg Host.Outcome.next ((if_pos hlive).trans (clockLost_again h)),
    (exec_clkGenOkLow hlive).trans (congrArg Host.Outcome.next (clockLost_again (s := s.genLow c) (by simpa [State.genLow] using h)))⟩

end

end Sys2Proof.Machine
end

section
namespace Sys2Proof.Proofs

open Sys2Proof Sys2Proof.Machine

/-- Settles O51: each hop command by the branch that its link takes; a link's fall keeps a silent link and the frame's record
(`RingKept`), and a resume is judged from the loss or the last low of clk_gen_ok (log entry 68). -/
theorem frameHopsRun : Obligations.FrameHopsRun := by
  unfold Obligations.FrameHopsRun
  refine ⟨fun s d => ⟨fun m h => idle_hears d h, fun halive => crcErr_counts d halive, fun halive hup hun hchk =>
    ⟨fun htries => retry_resends halive hup hun hchk htries, fun htries hno => retry_checks halive hup hun hchk htries hno,
      fun htries hyes => retry_fells halive hup hun hchk htries hyes⟩, fun hlive hup => silence_fells hlive hup⟩, fun s d halive =>
    ⟨fun good bad hbad => ⟨fun hup hlanes => training_restarts halive hbad hup hlanes, fun hup hlanes => training_passes halive hbad hup hlanes,
      fun hup hfirst => check_begins halive hbad hup hfirst, fun act failed hup hsecond hact hfailed => ?_⟩, fun m h hun => ?_⟩,
    fun s c hlive => ⟨fun h => ⟨crossing_times_out hlive h, generator_stops hlive h⟩, fun h => ?_⟩⟩
  · rw [hbad] at hfailed
    exact ⟨fun hnone => check_passes halive hup hsecond hact hfailed hnone,
      fun hfour hone hspare => check_spares halive hup hsecond hact hfailed hfour hone hspare,
      fun _ hmany => check_fells halive hup hsecond hact hfailed hmany⟩
  · exact ⟨fun hreq => laneRequest_checks h hun hreq, fun l hreq hchk hlanes => laneAnswer_ends h hun hreq hchk hlanes,
      fun hreq hchk hlanes => laneAnswer_fells h hun hreq hchk hlanes⟩
  · exact ⟨(lost_already hlive h).1, (lost_already hlive h).2, fun hdue => crossing_resumes hlive h hdue⟩

/-- The reset state with live ports and its east link up. -/
def eastLinkUp : State := { liveReset with frm.east.up := true }

/-- `frameHopsRun` applies: a silence of the east link takes it down and flags its fall. -/
theorem eastLink_falls : ∃ t, exec (.linkSilence .east) eastLinkUp = .next t ∧ t.frm.east.up = false ∧ t.hdr[pgFrm].err.testBit 17 = true := by
  obtain ⟨-, -, -, hsilence⟩ := frameHopsRun.1 eastLinkUp .east
  obtain ⟨t, run, hup, -, -, -, herr, -⟩ := hsilence rfl rfl
  exact ⟨t, run, hup, herr⟩

end Sys2Proof.Proofs
end

section
/-! PROOFS. The frame forms (R381, R383 to R387, R396, R400). -/

namespace Sys2Proof.Machine

open Sys2Proof

/-! ### HELLO leaves (R383) -/

theorem helloAll_facts (s : State) :
    s.helloAll.frm.FORM_STATE = s.frm.FORM_STATE ∧ s.helloAll.frm.pos = s.frm.pos ∧ s.helloAll.frm.rosterAt = s.frm.rosterAt ∧
      s.helloAll.frm.helloAt = s.now ∧ s.helloAll.frm.member = s.frm.member ∧ s.helloAll = { s with frm := s.helloAll.frm } := by
  obtain ⟨e, w, hsend⟩ := frmSend_links s 1 0x02 31 (helloPay s)
  rw [State.helloAll, hsend]
  exact ⟨rfl, rfl, rfl, rfl, rfl, rfl⟩

/-- A member whose formation has begun: it knows itself. -/
def State.formationBegun (s : State) : State :=
  { s.memberMod (myPos s) fun e => e.hello (frmMsg 0x02 (myPos s) 31 (helloPay s)) with
    frm.FORM_STATE := 1, frm.pos := [myPos s], frm.rosterAt := s.now }

/-- The first HELLO of a member, which begins its formation. -/
theorem helloBroadcast_begins {s : State} (halive : frmAlive s = true) (hstate : s.frm.FORM_STATE = 0) :
    ∃ t, exec .helloBroadcast s = .next t ∧ t.frm.FORM_STATE = 1 ∧ t.frm.pos = [myPos s] ∧ t.frm.rosterAt = s.now ∧
      t.frm.helloAt = s.now ∧ t = { s with frm := t.frm } := by
  have run : exec .helloBroadcast s = .next s.formationBegun.helloAll :=
    congrArg Host.Outcome.next ((if_neg (by simp [halive, hstate])).trans (if_pos hstate))
  obtain ⟨hform, hpos, hroster, hhello, -, hframe⟩ := helloAll_facts s.formationBegun
  refine ⟨_, run, hform, hpos, hroster.trans ?_, hhello.trans ?_, hframe.trans ?_⟩ <;> simp [State.formationBegun]

/-- HELLO leaves again every 20 µs. -/
theorem helloBroadcast_again {s : State} (halive : frmAlive s = true) (hstate : s.frm.FORM_STATE = 1) (hdue : s.after s.frm.helloAt 80 = true) :
    ∃ t, exec .helloBroadcast s = .next t ∧ t.frm.helloAt = s.now ∧ t.frm.pos = s.frm.pos ∧ t.frm.member = s.frm.member ∧
      t = { s with frm := t.frm } := by
  have run : exec .helloBroadcast s = .next s.helloAll :=
    congrArg Host.Outcome.next ((if_neg (by simp [halive, hstate])).trans ((if_neg (by omega)).trans (if_pos hdue)))
  obtain ⟨-, hpos, -, hhello, hmember, hframe⟩ := helloAll_facts s
  exact ⟨_, run, hhello, hpos, hmember, hframe⟩

/-! ### HELLO arrives (R381, R383) -/

theorem FrmLinkState.drain_stance (n now : Nat) (l : FrmLinkState) : (l.drain n now).stance = l.stance := by
  induction n generalizing l with
  | zero => rfl
  | succ n ih =>
    unfold FrmLinkState.drain
    split
    · rfl
    split
    · rw [ih, FrmLinkState.push_stance]
      rfl
    · rfl

/-- What a link knows of its neighbour. -/
def FrmLinkState.known (l : FrmLinkState) : Bool × Bool × Nat × Nat := (l.up, l.hello, l.partner, l.train)

theorem FrmLinkState.drain_known (n now : Nat) (l : FrmLinkState) : (l.drain n now).known = l.known :=
  (congrArg FrmLinkState.known (l.drain_stance n now) :)

theorem heard_known (s : State) (d : Dir) (m : BitVec 128) : ((s.heard d m).link d).known = (s.link d).known := by
  unfold State.heard State.lack
  dsimp only
  split
  · rw [link_linkMod, FrmLinkState.drain_known]
    split <;> cases d <;> rfl
  · rw [link_linkMod]
    rfl

theorem taken_known (s : State) (d : Dir) (m : BitVec 128) : ((s.taken d m).link d).known = (s.link d).known := by
  rw [State.taken, State.linkSendRaw, link_linkMod, link_linkMod]
  exact heard_known s d m

/-- A HELLO is in sequence or not at all, on a link that is up or not (R380). -/
theorem received_hello {s : State} {d : Dir} {m : BitVec 128} (f : State → State) (h : frmIntact s m 0x02 = true)
    (hseq : mLseq m = (s.link d).rxNext) (hsrc : mSrc m ≠ myPos s) (hall : mDst m = 31) :
    ∃ e w, s.received d m 0x02 f = (f (s.taken d m)).withLinks e w ∧ RingKept (f (s.taken d m)) (s.received d m 0x02 f) := by
  simp only [frmIntact, Bool.and_eq_true, decide_eq_true_eq] at h
  obtain ⟨⟨halive, hmtyp⟩, hcrc⟩ := h
  obtain ⟨-, hrx⟩ := heard_up_rxNext s d m
  obtain ⟨e, w, n, ht⟩ := taken_links s d m
  have hpos : myPos (s.taken d m) = myPos s := by rw [ht]; rfl
  have hdst : dstPos (s.taken d m) (mDst m) = dstPos s (mDst m) := by rw [ht]; rfl
  have hreceived : s.received d m 0x02 f = if dstPos (s.taken d m) (mDst m) = myPos (s.taken d m) then f (s.taken d m)
      else (f (s.taken d m)).relay d m := by
    unfold State.received
    rw [if_neg (by simp [halive, hmtyp]), if_neg (by simp [hcrc])]
    change (if 2 < 2 then f (s.heard d m)
      else if !((s.heard d m).link d).up && decide (2 ≠ 2) then s.heard d m
      else if mLseq m ≠ ((s.heard d m).link d).rxNext then (s.heard d m).linkSendRaw d (frmMsg 0 (myPos (s.heard d m)) 31 0)
      else if !typeDefined (s.taken d m) 2 then s.taken d m
      else if mSrc m = myPos (s.taken d m) then (if 2 = 2 then f (s.taken d m) else s.taken d m)
      else if dstPos (s.taken d m) (mDst m) = myPos (s.taken d m) then f (s.taken d m)
      else if mDst m = 31 then (f (s.taken d m)).relay d m
      else (s.taken d m).relay d m) = _
    rw [if_neg (by omega), if_neg (by simp), if_neg (by simp [hrx, hseq]), if_neg (by simp [typeDefined]), if_neg (by rw [hpos]; exact hsrc),
      if_pos hall]
  rw [hreceived]
  split
  · exact ⟨_, _, rfl, .refl _⟩
  · obtain ⟨e', w', hrelay⟩ := relay_links (f (s.taken d m)) d m
    exact ⟨e', w', hrelay, .relay d m (.refl _)⟩

/-- A link that comes up before the frame has formed. -/
theorem linkUp_unformed {s : State} (d : Dir) (h : s.frm.FORM_STATE ≠ 2) :
    s.linkUp d = if (s.link d).up || !(s.link d).hello || decide ((s.link d).train < 2) then s
      else (s.linkMod d fun l => { l with up := true, rxAt := s.now }).event 0x0D13 [Dir.code d] := by
  have hstate : ((s.linkMod d fun l => { l with up := true, rxAt := s.now }).event 0x0D13 [Dir.code d]).frm.FORM_STATE ≠ 2 := by
    cases d <;> simpa [State.linkMod] using h
  unfold State.linkUp
  dsimp only
  rw [State.linkReport, if_neg hstate, State.topology, if_pos hstate]

/-- A member made known by its HELLO, on its link where it is the first. -/
def State.greeted (s : State) (d : Dir) (m : BitVec 128) : State :=
  if ((s.memberMod (mSrc m) fun e => e.hello m).link d).hello then s.memberMod (mSrc m) fun e => e.hello m
  else (s.memberMod (mSrc m) fun e => e.hello m).linkMod d fun l => { l with hello := true, partner := mSrc m }

theorem greeted_facts (s : State) (d : Dir) (m : BitVec 128) :
    (s.greeted d m).frm.member = vMod s.frm.member (mSrc m) (·.hello m) ∧ (s.greeted d m).frm.pos = s.frm.pos ∧
      (s.greeted d m).frm.FORM_STATE = s.frm.FORM_STATE ∧ ((s.greeted d m).link d).hello = true ∧
      ((s.link d).hello = false → ((s.greeted d m).link d).partner = mSrc m) ∧ ((s.greeted d m).link d).train = (s.link d).train ∧
      s.greeted d m = { s with frm := (s.greeted d m).frm } := by
  have hsame : (s.memberMod (mSrc m) fun e => e.hello m).link d = s.link d := by cases d <;> rfl
  unfold State.greeted
  split
  next hknown =>
    rw [hsame] at hknown ⊢
    exact ⟨rfl, rfl, rfl, hknown, fun hno => by simp [hknown] at hno, rfl, rfl⟩
  · rw [link_linkMod, hsame]
    refine ⟨?_, ?_, ?_, rfl, fun _ => rfl, rfl, ?_⟩ <;> cases d <;> rfl

/-- The link comes up, or stays; before the frame has formed nothing else comes of it. -/
theorem linkUp_unformed_facts {s : State} (d : Dir) (h : s.frm.FORM_STATE ≠ 2) :
    (s.linkUp d).frm.member = s.frm.member ∧ (s.linkUp d).frm.pos = s.frm.pos ∧ (s.linkUp d).frm.FORM_STATE = s.frm.FORM_STATE ∧
      ((s.linkUp d).link d).hello = (s.link d).hello ∧ ((s.linkUp d).link d).partner = (s.link d).partner ∧
      s.linkUp d = { s with frm := (s.linkUp d).frm, evt := (s.linkUp d).evt, hdr := (s.linkUp d).hdr } := by
  rw [linkUp_unformed d h]
  split
  · exact ⟨rfl, rfl, rfl, rfl, rfl, rfl⟩
  · cases d <;> simp [State.linkMod, State.link, State.eq_of_pages]

/-- A member of the roster to be formed (R383). -/
def State.listed (s : State) (p : Nat) : State := { s with frm.pos := p :: s.frm.pos, frm.rosterAt := s.now }

theorem link_listed (s : State) (p : Nat) (d : Dir) : (s.listed p).link d = s.link d := by cases d <;> rfl

/-- A HELLO of a member that was not known yet (R381, R383). -/
theorem helloMsg_joins {s : State} {d : Dir} {m : BitVec 128} (hsrc : mSrc m < 24) (hother : mSrc m ≠ myPos s) (hstate : s.frm.FORM_STATE = 1)
    (hnew : s.frm.pos.contains (mSrc m) = false) :
    ∃ t, s.helloMsg d m = t ∧ t.frm.pos = mSrc m :: s.frm.pos ∧ t.frm.rosterAt = s.now ∧
      t.frm.member = vMod s.frm.member (mSrc m) (·.hello m) ∧ (t.link d).hello = true ∧
      ((s.link d).hello = false → (t.link d).partner = mSrc m) ∧ (2 ≤ (s.link d).train → (t.link d).up = true) ∧
      t = { s with frm := t.frm, evt := t.evt, hdr := t.hdr } := by
  obtain ⟨hmember, hpos, hform, hhello, hpartner, htrain, hframe⟩ := greeted_facts s d m
  obtain ⟨hmember', hpos', hform', hhello', hpartner', hframe'⟩ := linkUp_unformed_facts (s := s.greeted d m) d (by rw [hform, hstate]; decide)
  have hmsg : s.helloMsg d m = ((s.greeted d m).linkUp d).listed (mSrc m) := by
    unfold State.helloMsg
    dsimp only
    rw [if_neg (by omega), if_neg hother, hnew]
    simp only [Bool.false_and, Bool.false_eq_true, if_false]
    exact if_neg (show ((s.greeted d m).linkUp d).frm.FORM_STATE ≠ 2 by rw [hform', hform, hstate]; decide)
  refine ⟨_, hmsg, ?_, ?_, ?_, ?_, ?_, ?_, ?_⟩
  · rw [State.listed, hpos', hpos]
  · unfold State.listed State.greeted
    split <;> simp
  · exact hmember'.trans hmember
  · rw [link_listed, hhello', hhello]
  · rw [link_listed, hpartner']
    exact hpartner
  · intro htwo
    rw [link_listed]
    exact (linkUp_link (by rw [htrain]; exact htwo)).2 hhello
  · have hrest : (s.greeted d m).linkUp d =
        { s with frm := ((s.greeted d m).linkUp d).frm, evt := ((s.greeted d m).linkUp d).evt, hdr := ((s.greeted d m).linkUp d).hdr } :=
      hframe'.trans (by rw [hframe])
    rw [State.listed, hrest]

/-- HELLO of a member not known yet, as it arrives. -/
theorem frmHello_joins {s : State} {d : Dir} {m : BitVec 128} (h : frmIntact s m 0x02 = true) (hseq : mLseq m = (s.link d).rxNext)
    (hother : mSrc m ≠ myPos s) (hsrc : mSrc m < 24) (hall : mDst m = 31) (hstate : s.frm.FORM_STATE = 1)
    (hnew : s.frm.pos.contains (mSrc m) = false) :
    ∃ t, exec (.frmHello d m) s = .next t ∧ t.frm.pos = mSrc m :: s.frm.pos ∧ t.frm.rosterAt = s.now ∧
      memberOf t (mSrc m) = (memberOf s (mSrc m)).hello m ∧ (∀ p, p ≠ mSrc m → memberOf t p = memberOf s p) ∧
      (t.link d).hello = true ∧ ((s.link d).hello = false → (t.link d).partner = mSrc m) ∧ (2 ≤ (s.link d).train → (t.link d).up = true) ∧
      t = { s with frm := t.frm, rel := t.rel, evt := t.evt, hdr := t.hdr } := by
  obtain ⟨e, w, hreceived, hring⟩ := received_hello (fun u => u.helloMsg d m) h hseq hother hall
  obtain ⟨e', w', n, ht⟩ := taken_links s d m
  have htaken : (s.taken d m).frm.FORM_STATE = s.frm.FORM_STATE ∧ (s.taken d m).frm.pos = s.frm.pos ∧ myPos (s.taken d m) = myPos s := by
    rw [ht]
    exact ⟨rfl, rfl, rfl⟩
  obtain ⟨hform, hpos, hme⟩ := htaken
  obtain ⟨t, hmsg, hpos', hroster, hmember, hhello, hpartner, hup, hframe⟩ := helloMsg_joins (s := s.taken d m) (d := d) (m := m) hsrc
    (by rw [hme]; exact hother) (hform.trans hstate) (by rw [hpos]; exact hnew)
  have hknown := taken_known s d m
  rw [hmsg] at hreceived hring
  have hstance := hring.stance d
  have hlink : ((s.received d m 0x02 fun u => u.helloMsg d m).link d).known = (t.link d).known := (congrArg FrmLinkState.known hstance :)
  simp only [FrmLinkState.known, Prod.mk.injEq] at hknown hlink
  obtain ⟨-, hhelloT, -, htrainT⟩ := hknown
  obtain ⟨hupR, hhelloR, hpartnerR, -⟩ := hlink
  have hmem (p : Nat) : memberOf (s.received d m 0x02 fun u => u.helloMsg d m) p = vAt (vMod s.frm.member (mSrc m) (·.hello m)) p {} := by
    rw [hreceived, memberOf, show (t.withLinks e w).frm.member = t.frm.member from rfl, hmember, ht]
    rfl
  refine ⟨_, rfl, ?_, ?_, ?_, ?_, hhelloR.trans hhello, fun hno => hpartnerR.trans (hpartner (hhelloT.trans hno)),
    fun htwo => hupR.trans (hup (by rw [htrainT]; exact htwo)), ?_⟩
  · rw [hreceived, show (t.withLinks e w).frm.pos = t.frm.pos from rfl, hpos', hpos]
  · rw [hreceived, show (t.withLinks e w).frm.rosterAt = t.frm.rosterAt from rfl, hroster, ht]
    rfl
  · rw [hmem, vAt_vMod_same _ _ _ _ hsrc]
    rfl
  · intro p hp
    rw [hmem, vAt_vMod_other _ _ _ _ _ (Ne.symm hp)]
    rfl
  · rw [hreceived, hframe, ht]
    rfl

/-! ### Formation is decided (R383 to R387) -/

/-- The member that R387 names decides the formation. -/
theorem exec_formationDecide {s : State} (halive : frmAlive s = true) (hstate : s.frm.FORM_STATE = 1)
    (hdue : s.after s.frm.rosterAt 800 = true) (hreck : reckonerOf s s.frm.pos = myPos s) :
    ∃ pay, exec .formationDecide s = .next (
      if rosterErr s s.frm.pos = 0 then
        (s.frmSend 1 0x03 31 pay).formed (posMask s.frm.pos) (frameVer s s.frm.pos).1 (frameVer s s.frm.pos).2 (s.frm.attempt + 1)
          (myPos (s.frmSend 1 0x03 31 pay))
      else (s.frmSend 1 0x03 31 pay).formFail (rosterErr s s.frm.pos) (frameVer s s.frm.pos).1 (frameVer s s.frm.pos).2 s.frm.pos.length) :=
  ⟨_, congrArg Host.Outcome.next (if_pos (by
    rw [show 200 * ticksPerUs = 800 from rfl, halive, hstate, hdue, hreck]
    simp))⟩

/-- A roster that fails its checks (R384). -/
theorem formationDecide_fails {s : State} (halive : frmAlive s = true) (hstate : s.frm.FORM_STATE = 1)
    (hdue : s.after s.frm.rosterAt 800 = true) (hreck : reckonerOf s s.frm.pos = myPos s) (herr : rosterErr s s.frm.pos ≠ 0) :
    ∃ t, exec .formationDecide s = .next t ∧ t.frm.FORM_STATE = 3 ∧ t.frm.FORM_ERR = rosterErr s s.frm.pos ∧
      t.hdr[pgFrm].err.testBit 16 = true ∧ t = { s with frm := t.frm, evt := t.evt, hdr := t.hdr } := by
  obtain ⟨pay, run⟩ := exec_formationDecide halive hstate hdue hreck
  rw [if_neg herr] at run
  exact ⟨_, run, by simp [State.formFail], by simp [State.formFail], hasErr_fault .., by simp [State.formFail, State.eq_of_pages]⟩

/-- The page of a frame that has formed, before its links are judged (R385, R387). -/
def State.formedAs (s : State) (mask fmaj fmin attempt reck pmb rck : Nat) : State :=
  (s.onFrm fun f =>
    { f with
      FORM_STATE := 2, FORM_ERR := 0, FORM_FMAJ := fmaj, FORM_FMIN := fmin, ROSTER := mask, size := ((List.range 24).filter mask.testBit).length
      formedAt := s.now, attempt := attempt, ROLE_RECKONER := reck, ROLE_PMB := pmb, ROLE_RCK := rck, FSEQ := 0 }).event 0x0D10
    [((List.range 24).filter mask.testBit).length, fmaj, fmin]

/-- The page shows the hops to the reckoner. -/
def State.hopsShown (s : State) : State := { s with frm.ROLE_HOPS := hopsNow s }

theorem formed_eq (s : State) (mask fmaj fmin attempt reck : Nat) : ∃ pmb rck,
    s.formed mask fmaj fmin attempt reck = (s.formedAs mask fmaj fmin attempt reck pmb rck).hopsShown.topology.countersAtFormation := ⟨_, _, rfl⟩

theorem RingKept.countersAtFormation {s t : State} (h : RingKept s t) : RingKept s t.countersAtFormation := by
  have hread : RingKept s t.counterRead := by
    unfold State.counterRead
    exact .ite (.counterAsk false (h.trans (.of_frm rfl rfl fun _ _ => id))) h
  have hrest (u : State) : RingKept u { u with evt.norest := false } := .of_frm rfl rfl fun _ _ h => hasErr_of_hdr h rfl
  have hstart (u : State) : RingKept u { u with evt.optBase := 0, evt.PCYCLE := 1, pmb.asked := true } :=
    .of_frm rfl rfl fun _ _ h => hasErr_of_hdr h rfl
  have hms : RingKept s (if t.evt.optBase = 0 then t else t.suppMsEnd) := .ite h (h.trans (.of_frm rfl rfl fun _ _ => id))
  unfold State.countersAtFormation
  exact .ite hread (.ite (.trans (.event _ _ (hms.trans (hstart _))) (hrest _)) h)

/-- What the formation's own record says stays as the links are judged. -/
theorem formed_facts (s : State) (mask fmaj fmin attempt reck : Nat) :
    let t := s.formed mask fmaj fmin attempt reck
    t.frm.FORM_STATE = 2 ∧ t.frm.FORM_ERR = 0 ∧ t.frm.FORM_FMAJ = fmaj ∧ t.frm.FORM_FMIN = fmin ∧ t.frm.attempt = attempt ∧
      t.frm.FSEQ = 0 ∧ t.frm.formedAt = s.now := by
  obtain ⟨pmb, rck, hformed⟩ := formed_eq s mask fmaj fmin attempt reck
  have hring : RingKept (s.formedAs mask fmaj fmin attempt reck pmb rck).hopsShown (s.formed mask fmaj fmin attempt reck) := by
    rw [hformed]
    exact (RingKept.refl _).topology.countersAtFormation
  have hrecord := hring.record
  refine ⟨(congrArg Frm.FORM_STATE hrecord :).trans ?_, (congrArg Frm.FORM_ERR hrecord :).trans ?_, (congrArg Frm.FORM_FMAJ hrecord :).trans ?_,
    (congrArg Frm.FORM_FMIN hrecord :).trans ?_, (congrArg Frm.attempt hrecord :).trans ?_, (congrArg Frm.FSEQ hrecord :).trans ?_,
    (congrArg Frm.formedAt hrecord :).trans ?_⟩ <;> simp [Frm.record, State.hopsShown, State.formedAs, State.onFrm]

/-- This member, the reckoner of a formed frame, is not absent once the links are judged (R387, R396). -/
theorem topology_seats {s : State} (hformed : s.frm.FORM_STATE = 2) (hreck : s.frm.ROLE_RECKONER = myPos s) (hsize : myPos s < s.frm.size)
    (h24 : myPos s < 24) : s.topology.seated := by
  obtain ⟨live, hrest⟩ := topology_kept hformed
  refine hrest.seat ?_
  obtain ⟨l₁, l₂, hl⟩ := List.append_of_mem (List.mem_range.mpr hsize)
  have hreck₁ : (s.marked s l₁).frm.ROLE_RECKONER = myPos s :=
    List.foldlRecOn (motive := fun u : State => u.frm.ROLE_RECKONER = myPos s) l₁ _ hreck fun _ hu _ _ => hu
  have hpos₁ : myPos (s.marked s l₁) = myPos s := congrArg (fun c : Cmn => c.straps.framePos.toNat) (marked_kept l₁ rfl).place
  have hreached : (s.marked s (List.range s.frm.size)).seated := by
    rw [State.marked, hl, List.foldl_append, List.foldl_cons]
    refine RingKept.seat (marked_kept l₂ hpos₁) ⟨hreck₁.trans hpos₁.symm, ?_⟩
    change (memberOf _ (myPos (s.marked s l₁))).PEER_ABSENT = false
    rw [hpos₁]
    exact (congrArg FrmMember.PEER_ABSENT (vAt_vMod_same _ _ _ _ h24)).trans (by simp [absence])
  exact hreached

/-- A member of the roster that forms the frame as its own reckoner stays its reckoner (R387). -/
theorem formed_seats {s : State} (mask fmaj fmin attempt : Nat) {reck : Nat} (hreck : reck = myPos s)
    (hsize : myPos s < ((List.range 24).filter mask.testBit).length) (h24 : myPos s < 24) :
    (s.formed mask fmaj fmin attempt reck).frm.ROLE_RECKONER = reck := by
  obtain ⟨pmb, rck, hformed⟩ := formed_eq s mask fmaj fmin attempt reck
  have hplace : myPos (s.formedAs mask fmaj fmin attempt reck pmb rck).hopsShown = myPos s := by
    simp [myPos, State.hopsShown, State.formedAs, State.onFrm]
  have hseated : (s.formedAs mask fmaj fmin attempt reck pmb rck).hopsShown.topology.seated :=
    topology_seats (by simp [State.hopsShown, State.formedAs, State.onFrm])
      (by rw [hplace, ← hreck]; simp [State.hopsShown, State.formedAs, State.onFrm])
      (by rw [hplace]; simpa [State.hopsShown, State.formedAs, State.onFrm] using hsize) (by rw [hplace]; exact h24)
  have hkept := (RingKept.refl (s.formedAs mask fmaj fmin attempt reck pmb rck).hopsShown.topology).countersAtFormation
  have hend : myPos (s.formed mask fmaj fmin attempt reck) = myPos s := by simp [myPos]
  have hstays := (hkept.seat hseated).1
  rw [← hformed, hend] at hstays
  exact hstays.trans hreck.symm

/-- A roster in order has every position below the count of its members (R384). -/
theorem rosterErr_range {s : State} {l : List Nat} (h : rosterErr s l = 0) : ∃ n, (List.range 31).filter l.contains = List.range n := by
  unfold rosterErr at h
  dsimp only at h
  split at h
  · exact absurd h (by decide)
  next hrange =>
    simp only [Bool.or_eq_true, not_or, decide_eq_true_eq, not_not] at hrange
    exact ⟨_, hrange.1.1⟩

/-- R387 names a member of the roster. -/
theorem reckonerOf_mem {s : State} {l : List Nat} (h : reckonerOf s l < 31) : reckonerOf s l ∈ (List.range 31).filter l.contains := by
  unfold reckonerOf at h ⊢
  dsimp only at h ⊢
  split
  next p hp => exact List.mem_of_find?_eq_some hp
  next hnone =>
    rw [hnone] at h
    cases hl : (List.range 31).filter l.contains with
    | nil => simp [hl] at h
    | cons p ps => simp

/-- The reckoner's position is below the size of the frame that it forms. -/
theorem size_of_roster {s : State} {l : List Nat} (herr : rosterErr s l = 0) (hreck : reckonerOf s l = myPos s) (h24 : myPos s < 24) :
    myPos s < ((List.range 24).filter (posMask l).testBit).length := by
  obtain ⟨n, hn⟩ := rosterErr_range herr
  have hmem := reckonerOf_mem (s := s) (l := l) (by omega)
  rw [hreck, hn, List.mem_range] at hmem
  have hsub : List.range (myPos s + 1) ⊆ (List.range 24).filter (posMask l).testBit := by
    intro p hp
    rw [List.mem_range] at hp
    have hlisted : p ∈ (List.range 31).filter l.contains := by rw [hn, List.mem_range]; omega
    rw [List.mem_filter, List.mem_range, posMask, testBit_maskOf]
    exact ⟨by omega, by rw [(List.mem_filter.mp hlisted).2, decide_eq_true (show p < 24 by omega)]; rfl⟩
  have hlen := (List.nodup_range.subperm hsub).length_le
  rwa [List.length_range] at hlen

/-- A roster that passes its checks forms the frame, and this member is its reckoner (R383, R387). -/
theorem formationDecide_forms {s : State} (halive : frmAlive s = true) (hstate : s.frm.FORM_STATE = 1)
    (hdue : s.after s.frm.rosterAt 800 = true) (hreck : reckonerOf s s.frm.pos = myPos s) (h24 : myPos s < 24)
    (herr : rosterErr s s.frm.pos = 0) :
    ∃ t, exec .formationDecide s = .next t ∧ t.frm.FORM_STATE = 2 ∧ t.frm.FORM_ERR = 0 ∧ t.frm.FSEQ = 0 ∧ t.frm.formedAt = s.now ∧
      t.frm.ROLE_RECKONER = myPos s ∧ t.frm.FORM_FMAJ = (frameVer s s.frm.pos).1 ∧ t.frm.FORM_FMIN = (frameVer s s.frm.pos).2 ∧
      t.frm.attempt = s.frm.attempt + 1 ∧
      t = { s with adm := t.adm, pmb := t.pmb, frm := t.frm, tre := t.tre, mbs := t.mbs, mbn := t.mbn, rck := t.rck, aut := t.aut,
                   evt := t.evt, hdr := t.hdr } := by
  obtain ⟨pay, run⟩ := exec_formationDecide halive hstate hdue hreck
  rw [if_pos herr] at run
  obtain ⟨e, w, hsent⟩ := frmSend_links s 1 0x03 31 pay
  have hplace : myPos (s.frmSend 1 0x03 31 pay) = myPos s := by rw [hsent]; rfl
  have hnow : (s.frmSend 1 0x03 31 pay).now = s.now := by rw [hsent]; rfl
  rw [hplace] at run
  obtain ⟨hform, hcode, hmaj, hmin, hattempt, hfseq, hformedAt⟩ := formed_facts (s.frmSend 1 0x03 31 pay) (posMask s.frm.pos)
    (frameVer s s.frm.pos).1 (frameVer s s.frm.pos).2 (s.frm.attempt + 1) (myPos s)
  refine ⟨_, run, hform, hcode, hfseq, hformedAt.trans hnow, ?_, hmaj, hmin, hattempt, by simp [State.eq_of_pages]⟩
  exact formed_seats _ _ _ _ hplace.symm (by rw [hplace]; exact size_of_roster herr hreck h24) (by rw [hplace]; exact h24)

/-! ### FORMED (R383, R384, R400) -/

/-- What FORMED does to the member that it reaches. -/
def State.formedMsg (s : State) (m : BitVec 128) : State :=
  if mDst m ≠ 31 then
    (if mf m 52 4 ≠ 0 then s.formFail (mf m 52 4) (mf m 64 8) (mf m 56 8) (mf m 47 5)
     else { s.formed (mf m 72 24) (mf m 64 8) (mf m 56 8) (mf m 45 2) (mSrc m) with
            frm.joined := true, frm.firstShare := false, adm.SHARE := 0 })
  else if s.frm.FORM_STATE = 2 ∧ mf m 45 2 ≤ s.frm.attempt ∧ mf m 52 4 = 0 then s
  else if s.frm.FORM_STATE = 3 then s
  else if mf m 52 4 ≠ 0 then s.formFail (mf m 52 4) (mf m 64 8) (mf m 56 8) (mf m 47 5)
  else if mf m 72 24 = posMask s.frm.pos then
    s.formed (mf m 72 24) (mf m 64 8) (mf m 56 8) (mf m 45 2) (reckonerOf s s.frm.pos)
  else { s with frm.FORM_STATE := 1 }.helloAll

/-- What formation records stands beside the links. -/
theorem withLinks_formation (s : State) (e w : FrmLinkState) :
    (s.withLinks e w).frm.FORM_STATE = s.frm.FORM_STATE ∧ (s.withLinks e w).frm.FORM_ERR = s.frm.FORM_ERR ∧
      (s.withLinks e w).frm.FORM_FMAJ = s.frm.FORM_FMAJ ∧ (s.withLinks e w).frm.FORM_FMIN = s.frm.FORM_FMIN ∧
      (s.withLinks e w).frm.attempt = s.frm.attempt ∧ (s.withLinks e w).frm.FSEQ = s.frm.FSEQ ∧
      (s.withLinks e w).frm.formedAt = s.frm.formedAt := ⟨rfl, rfl, rfl, rfl, rfl, rfl, rfl⟩

theorem exec_frmFormed (s : State) (d : Dir) (m : BitVec 128) : exec (.frmFormed d m) s = .next (s.received d m 0x03 (State.formedMsg · m)) := rfl

theorem formedMsg_waiting {s : State} {m : BitVec 128} (hall : mDst m = 31) (hstate : s.frm.FORM_STATE = 1) :
    s.formedMsg m =
      if mf m 52 4 ≠ 0 then s.formFail (mf m 52 4) (mf m 64 8) (mf m 56 8) (mf m 47 5)
      else if mf m 72 24 = posMask s.frm.pos then
        s.formed (mf m 72 24) (mf m 64 8) (mf m 56 8) (mf m 45 2) (reckonerOf s s.frm.pos)
      else { s with frm.FORM_STATE := 1 }.helloAll := by
  rw [State.formedMsg, if_neg (by simp [hall]), if_neg (by simp [hstate]), if_neg (by simp [hstate])]

section
variable {s : State} {d : Dir} {m : BitVec 128} (h : frmAccepts s d m 0x03 = true)
include h

/-- FORMED to every member with an error: the formation fails. -/
theorem frmFormed_fails (hall : mDst m = 31) (hstate : s.frm.FORM_STATE = 1) (herr : mf m 52 4 ≠ 0) :
    ∃ t, exec (.frmFormed d m) s = .next t ∧ t.frm.FORM_STATE = 3 ∧ t.frm.FORM_ERR = mf m 52 4 ∧ t.hdr[pgFrm].err.testBit 16 = true ∧
      t = { s with frm := t.frm, rel := t.rel, evt := t.evt, hdr := t.hdr } := by
  obtain ⟨e, w, n, e', w', run⟩ := exec_everyone (exec_frmFormed s d m) h hall (by decide)
  rw [formedMsg_waiting (s := s.relinked e w n) hall hstate, if_pos herr] at run
  exact ⟨_, run, by simp [State.withLinks, State.formFail], by simp [State.withLinks, State.formFail], hasErr_fault ..,
    by simp [State.withLinks, State.formFail, State.relinked]⟩

/-- FORMED to every member with this member's roster: the frame forms. -/
theorem frmFormed_forms (hall : mDst m = 31) (hstate : s.frm.FORM_STATE = 1) (herr : mf m 52 4 = 0) (hmask : mf m 72 24 = posMask s.frm.pos) :
    ∃ t, exec (.frmFormed d m) s = .next t ∧ t.frm.FORM_STATE = 2 ∧ t.frm.FORM_ERR = 0 ∧ t.frm.FORM_FMAJ = mf m 64 8 ∧
      t.frm.FORM_FMIN = mf m 56 8 ∧ t.frm.attempt = mf m 45 2 ∧ t.frm.FSEQ = 0 ∧ t.frm.formedAt = s.now ∧
      t = { s with adm := t.adm, pmb := t.pmb, frm := t.frm, tre := t.tre, mbs := t.mbs, mbn := t.mbn, rck := t.rck, aut := t.aut,
                   rel := t.rel, evt := t.evt, hdr := t.hdr } := by
  obtain ⟨e, w, n, e', w', run⟩ := exec_everyone (exec_frmFormed s d m) h hall (by decide)
  rw [formedMsg_waiting (s := s.relinked e w n) hall hstate, if_neg (by simp [herr]), if_pos (show _ = posMask (s.relinked e w n).frm.pos from hmask)] at run
  obtain ⟨hform, hcode, hmaj, hmin, hattempt, hfseq, hformedAt⟩ := formed_facts (s.relinked e w n) (mf m 72 24) (mf m 64 8) (mf m 56 8)
    (mf m 45 2) (reckonerOf (s.relinked e w n) (s.relinked e w n).frm.pos)
  obtain ⟨hform', hcode', hmaj', hmin', hattempt', hfseq', hformedAt'⟩ := withLinks_formation ((s.relinked e w n).formed (mf m 72 24) (mf m 64 8)
    (mf m 56 8) (mf m 45 2) (reckonerOf (s.relinked e w n) (s.relinked e w n).frm.pos)) e' w'
  exact ⟨_, run, hform'.trans hform, hcode'.trans hcode, hmaj'.trans hmaj, hmin'.trans hmin, hattempt'.trans hattempt, hfseq'.trans hfseq,
    hformedAt'.trans hformedAt, by simp [State.withLinks, State.relinked]⟩

/-- FORMED to every member with another roster: formation goes on, with HELLO at once. -/
theorem frmFormed_restarts (hall : mDst m = 31) (hstate : s.frm.FORM_STATE = 1) (herr : mf m 52 4 = 0) (hmask : mf m 72 24 ≠ posMask s.frm.pos) :
    ∃ t, exec (.frmFormed d m) s = .next t ∧ t.frm.FORM_STATE = 1 ∧ t.frm.helloAt = s.now ∧ t = { s with frm := t.frm, rel := t.rel } := by
  obtain ⟨e, w, n, e', w', run⟩ := exec_everyone (exec_frmFormed s d m) h hall (by decide)
  rw [formedMsg_waiting (s := s.relinked e w n) hall hstate, if_neg (by simp [herr]), if_neg (show _ ≠ posMask (s.relinked e w n).frm.pos from hmask)] at run
  obtain ⟨hform, -, -, hhello, -, hframe⟩ := helloAll_facts { s.relinked e w n with frm.FORM_STATE := 1 }
  generalize State.helloAll { s.relinked e w n with frm.FORM_STATE := 1 } = u at run hform hhello hframe
  exact ⟨_, run, hform, hhello, by rw [hframe]; rfl⟩

/-- FORMED to this member alone: it joins the frame with no share. -/
theorem frmFormed_joins (hone : mDst m ≠ 31) (hmine : frmMine s m = true) (herr : mf m 52 4 = 0) :
    ∃ t, exec (.frmFormed d m) s = .next t ∧ t.frm.FORM_STATE = 2 ∧ t.frm.joined = true ∧ t.frm.firstShare = false ∧ t.adm.SHARE = 0 ∧
      t = { s with adm := t.adm, pmb := t.pmb, frm := t.frm, tre := t.tre, mbs := t.mbs, mbn := t.mbn, rck := t.rck, aut := t.aut,
                   rel := t.rel, evt := t.evt, hdr := t.hdr } := by
  obtain ⟨e, w, n, run⟩ := exec_mine (exec_frmFormed s d m) h hmine (by decide)
  rw [State.formedMsg, if_pos hone, if_neg (by simp [herr])] at run
  obtain ⟨hform, -⟩ := formed_facts (s.relinked e w n) (mf m 72 24) (mf m 64 8) (mf m 56 8) (mf m 45 2) (mSrc m)
  exact ⟨_, run, hform, rfl, rfl, rfl, by simp [State.withLinks, State.relinked]⟩

end

/-! ### LINK (R396) -/

/-- What LINK says of a member. -/
def FrmMember.linkSaid (m : BitVec 128) (e : FrmMember) : FrmMember :=
  if mf m 90 1 = 0 then { e with eDown := decide (mf m 89 1 = 0) } else { e with wDown := decide (mf m 89 1 = 0) }

/-- A LINK message is kept with its member, and the roster follows. -/
theorem frmLink_kept {s : State} {d : Dir} {m : BitVec 128} (h : frmAccepts s d m 0x04 = true) (hall : mDst m = 31)
    (hother : mf m 91 5 ≠ myPos s) (hsrc : mf m 91 5 < 24) :
    ∃ t, exec (.frmLink d m) s = .next t ∧
      (mf m 90 1 = 0 → (memberOf t (mf m 91 5)).eDown = decide (mf m 89 1 = 0) ∧
        (memberOf t (mf m 91 5)).wDown = (memberOf s (mf m 91 5)).wDown) ∧
      (mf m 90 1 = 1 → (memberOf t (mf m 91 5)).wDown = decide (mf m 89 1 = 0) ∧
        (memberOf t (mf m 91 5)).eDown = (memberOf s (mf m 91 5)).eDown) ∧
      t = { s with adm := t.adm, frm := t.frm, tre := t.tre, mbs := t.mbs, mbn := t.mbn, rck := t.rck, aut := t.aut, rel := t.rel,
                   evt := t.evt, hdr := t.hdr } := by
  obtain ⟨e, w, n, e', w', run⟩ := exec_everyone (c := .frmLink d m) rfl h hall (by decide)
  have hnot : mf m 91 5 ≠ myPos (s.relinked e w n) := hother
  have hsaid : exec (.frmLink d m) s = .next ((((s.relinked e w n).memberMod (mf m 91 5) (FrmMember.linkSaid m)).topology).withLinks e' w') :=
    run.trans (congrArg (fun u : State => Host.Outcome.next (u.withLinks e' w')) (if_neg hnot))
  have htold := (RingKept.refl ((s.relinked e w n).memberMod (mf m 91 5) (FrmMember.linkSaid m))).topology.told (mf m 91 5)
  have hmember : memberOf ((s.relinked e w n).memberMod (mf m 91 5) (FrmMember.linkSaid m)) (mf m 91 5) =
      (memberOf s (mf m 91 5)).linkSaid m := vAt_vMod_same _ _ _ _ hsrc
  rw [hmember] at htold
  refine ⟨_, hsaid, fun heast => ?_, fun hwest => ?_, by simp [State.withLinks, State.relinked]⟩
  · rw [FrmMember.linkSaid, if_pos heast] at htold
    exact ⟨(congrArg FrmMember.eDown htold :), (congrArg FrmMember.wDown htold :)⟩
  · rw [FrmMember.linkSaid, if_neg (by omega)] at htold
    exact ⟨(congrArg FrmMember.wDown htold :), (congrArg FrmMember.eDown htold :)⟩

end Sys2Proof.Machine
end

section
namespace Sys2Proof.Proofs

open Sys2Proof Sys2Proof.Machine

/-- Settles O52: formation message by message; the reckoner that forms the frame is in its own roster, so the links that are judged then
leave it in its place (`RingKept.seat`). -/
theorem framesForm : Obligations.FramesForm := by
  unfold Obligations.FramesForm
  intro s
  refine ⟨helloBroadcast_begins, helloBroadcast_again, fun d m h hseq hother hsrc hall hstate hnew =>
    frmHello_joins h hseq hother hsrc hall hstate hnew, fun halive hstate hdue hreck h24 => ⟨fun herr => ?_, fun herr => ?_⟩,
    fun d m h => ⟨fun hall hstate herr => frmFormed_fails h hall hstate herr, fun hall hstate herr hmask => frmFormed_forms h hall hstate herr hmask,
      fun hall hstate herr hmask => frmFormed_restarts h hall hstate herr hmask, fun hone hmine herr => frmFormed_joins h hone hmine herr⟩,
    fun d m h hall hother hsrc => frmLink_kept h hall hother hsrc⟩
  · exact formationDecide_fails halive hstate hdue hreck herr
  · exact formationDecide_forms halive hstate hdue hreck h24 herr

/-- `framesForm` applies: the reset state with live ports begins its formation with its first HELLO. -/
theorem liveReset_hellos : ∃ t, exec .helloBroadcast liveReset = .next t ∧ t.frm.FORM_STATE = 1 ∧ t.frm.pos = [0] := by
  obtain ⟨hfirst, -⟩ := framesForm liveReset
  obtain ⟨t, run, hstate, hpos, -⟩ := hfirst rfl rfl
  exact ⟨t, run, hstate, hpos⟩

end Sys2Proof.Proofs
end

section
/-! PROOFS. The Kazsin link of a child: frames sent, frames of the parent, and its reply slot (R402 to R411). -/

namespace Sys2Proof.Machine

open Sys2Proof

/-! ### Frames sent and taken (R404) -/

/-- Only the key of the link enters a MAC. -/
theorem kMac_of_key {s t : State} (h : t.cmn = s.cmn) : kMac t = kMac s := by
  unfold kMac State.key
  rw [h]

/-- A frame has left for the parent (R402, R404). -/
def State.upSent (s : State) (bytes : List Nat) : State := { s with tre.txUp := s.tre.txUp + 1, tre.lastUp := bytes }

theorem kMac_upSent (s : State) (bytes : List Nat) : kMac (s.upSent bytes) = kMac s := kMac_of_key rfl

/-- An authenticated frame toward the parent: its bytes carry the MAC under the key that this block keeps. -/
theorem sendUp_sent (s : State) {typ : Nat} (pay : Nat) (chal : List Nat) (h : typ ≠ 1) : ∃ bytes,
    bytes = kBytes (kHdr typ 1 s.tre.CFG_MYPORT) pay ((s.tre.txUp + 1) % 65536)
      (kMac s (linkIdUp s) (kHdr typ 1 s.tre.CFG_MYPORT) pay (s.tre.txUp + 1) chal) ∧ s.sendUp typ pay chal = s.upSent bytes :=
  ⟨_, rfl, if_neg h⟩

section
variable {s : State} {f : KFrame} {typ : Nat} (h : fromParent s f typ = true)
include h

/-- What `fromParent` says. -/
theorem fromParent_iff :
    treActive s = true ∧ trePins s = true ∧ kType f = typ ∧ kUp f = false ∧ (kPort f = s.tre.CFG_MYPORT ∨ kPort f = 31) ∧ s.tre.muteAt = none := by
  simp only [fromParent, Bool.and_eq_true, Bool.or_eq_true, decide_eq_true_eq, Bool.not_eq_true', Option.isNone_iff_eq_none] at h
  obtain ⟨⟨⟨⟨⟨hact, hpins⟩, htyp⟩, hup⟩, hport⟩, hmute⟩ := h
  exact ⟨hact, hpins, htyp, hup, hport, hmute⟩

/-- A frame of the parent takes effect, and opens this child's reply slot where it is for this port (R406). -/
theorem kReceived_fromParent :
    s.kReceived .up f typ =
      if kPort f = s.tre.CFG_MYPORT ∧ opensSlot typ = true then (s.parentFrame f).2.reply (s.parentFrame f).1 else (s.parentFrame f).2 := by
  obtain ⟨hact, hpins, htyp, hup, hport, hmute⟩ := fromParent_iff h
  have hlive : treLive s = true := by
    unfold treActive at hact
    exact (Bool.and_eq_true _ _ ▸ hact).1
  unfold State.kReceived
  dsimp only
  rw [if_neg (by simp [hlive, hpins, htyp]), if_neg (by simp [hact]), hup]
  exact if_neg (by rw [hmute]; rcases hport with h | h <;> simp [h])

end

/-! ### What each frame of the parent is taken for (R404 to R411) -/

section
variable {s : State} {f : KFrame}

theorem parentFrame_sync (h : kType f = 1) :
    s.parentFrame f = (false, if syncOpen s s.tre.ackAt then s.onTre fun t => { t with ackDue := some f.payload.toNat, ackAt := some s.now } else s) := by
  unfold State.parentFrame
  rw [h]
  rfl

theorem parentFrame_syncAck {x : Nat} (h : kType f = 2) (hchal : s.tre.chal = some x) :
    s.parentFrame f =
      if (parentCheck s f (bytesLE 4 x)).2 then
        (true, (s.onTre fun t =>
          { t with
            chal := none, synced := true, idSure := true, ctrUp := (parentCheck s f (bytesLE 4 x)).1, badRun := 0, rxAt := some s.now
            lost := false, syncDue := false }).event 0x0E10 [16])
      else (false, s.badCheck 16) := by
  unfold State.parentFrame
  rw [h]
  simp only [hchal]

theorem parentFrame_hello (h : kType f = 3) :
    s.parentFrame f = (false, s.onTre fun t => { t with ver := some (lowerVer f), helloDue := true }) := by
  unfold State.parentFrame
  rw [h]
  rfl

theorem parentFrame_ident (h : kType f = 4) :
    s.parentFrame f =
      if verOld s.tre.ver then (false, s)
      else if f.payload.toNat = s.tre.linkId ∧ s.tre.idSure = true then s.parentTake f id
      else if f.payload.toNat = s.tre.linkId then (false, s)
      else (false, s.onTre fun t => { t with linkId := f.payload.toNat, idSure := false, synced := false, syncDue := true }) := by
  unfold State.parentFrame
  rw [h]
  rfl

theorem parentFrame_poll (h : kType f = 5) :
    s.parentFrame f = s.parentTake f fun s => if 2 ≤ f.payload.toNat % 256 then s.loseParent 1 else s := by
  unfold State.parentFrame
  rw [h]
  rfl

theorem parentFrame_budget (h : kType f = 7) : s.parentFrame f = s.parentTake f fun s => s.takeBudget f.payload.toNat := by
  unfold State.parentFrame
  rw [h]
  rfl

theorem parentFrame_cut (h : kType f = 8) (hver : verOld s.tre.ver = false) (hport : kPort f = 31) :
    s.parentFrame f = s.parentTake f fun s => s.takeCut (f.payload.toNat % 65536) (bitsOf f.payload.toNat 16 8) := by
  unfold State.parentFrame
  rw [h]
  exact if_neg (by simp [hver, hport])

end

/-! ### Link start (R405) -/

/-- HELLO of the parent is answered with HELLO. -/
theorem hello_answered {s : State} {f : KFrame} (h : fromParent s f 3 = true) (hport : kPort f = s.tre.CFG_MYPORT) :
    exec (.treHello .up f) s = .next (State.sendUp (s.onTre fun t => { t with ver := some (lowerVer f), helloDue := false }) 3 kHelloPay []) := by
  obtain ⟨-, -, htyp, -⟩ := fromParent_iff h
  have hframe := parentFrame_hello (s := s) htyp
  have hrun : exec (.treHello .up f) s = .next (s.kReceived .up f 3) := rfl
  rw [hrun, kReceived_fromParent h, if_pos ⟨hport, rfl⟩, hframe]
  exact congrArg Host.Outcome.next (if_pos rfl)

theorem childHello {s : State} {f : KFrame} (h : fromParent s f 3 = true) (hport : kPort f = s.tre.CFG_MYPORT) :
    ∃ t, exec (.treHello .up f) s = .next t ∧ t.tre.ver = some (lowerVer f) ∧ t.tre.helloDue = false ∧ t.tre.txUp = s.tre.txUp + 1 ∧
      t.tre.lastUp = kBytes (kHdr 3 1 s.tre.CFG_MYPORT) kHelloPay ((s.tre.txUp + 1) % 65536)
        (kMac t (linkIdUp t) (kHdr 3 1 s.tre.CFG_MYPORT) kHelloPay (s.tre.txUp + 1) []) ∧
      t.tre.synced = s.tre.synced ∧ t = { s with tre := t.tre } := by
  obtain ⟨bytes, hbytes, hsent⟩ := sendUp_sent (s.onTre fun t => { t with ver := some (lowerVer f), helloDue := false }) kHelloPay [] (typ := 3)
    (by decide)
  refine ⟨_, (hello_answered h hport).trans (congrArg Host.Outcome.next hsent), rfl, rfl, rfl, ?_, rfl, rfl⟩
  rw [kMac_upSent]
  exact hbytes

/-- SYNC of the parent is answered with SYNC_ACK over its challenge. -/
theorem childSync {s : State} {f : KFrame} (hport : kPort f = s.tre.CFG_MYPORT) (h : fromParent s f 1 = true)
    (hopen : syncOpen s s.tre.ackAt = true) (hhello : s.tre.helloDue = false) (hver : s.tre.ver.isSome = true) :
    ∃ t, exec (.treSync .up f) s = .next t ∧ t.tre.ackAt = some s.now ∧ t.tre.ackDue = none ∧ t.tre.txUp = s.tre.txUp + 1 ∧
      t.tre.lastUp = kBytes (kHdr 2 1 s.tre.CFG_MYPORT) (kAckPay s.tre.txUp) ((s.tre.txUp + 1) % 65536)
        (kMac s (linkIdUp s) (kHdr 2 1 s.tre.CFG_MYPORT) (kAckPay s.tre.txUp) (s.tre.txUp + 1) (bytesLE 4 f.payload.toNat)) ∧
      t = { s with tre := t.tre } := by
  obtain ⟨-, -, htyp, -⟩ := fromParent_iff h
  obtain ⟨v, hv⟩ := Option.isSome_iff_exists.mp hver
  have hframe := (parentFrame_sync (s := s) htyp).trans (congrArg (Prod.mk false) (if_pos hopen))
  have hreply : (s.onTre fun t => { t with ackDue := some f.payload.toNat, ackAt := some s.now }).reply false =
      State.sendUp (s.onTre fun t => { t with ackDue := none, ackAt := some s.now }) 2 (kAckPay s.tre.txUp) (bytesLE 4 f.payload.toNat) :=
    if_neg (by simp [State.onTre, hhello, hv])
  have hrun : exec (.treSync .up f) s = .next (s.kReceived .up f 1) := rfl
  rw [kReceived_fromParent h, if_pos ⟨hport, rfl⟩, hframe, hreply] at hrun
  obtain ⟨bytes, hbytes, hsent⟩ := sendUp_sent (s.onTre fun t => { t with ackDue := none, ackAt := some s.now }) (kAckPay s.tre.txUp)
    (bytesLE 4 f.payload.toNat) (typ := 2) (by decide)
  rw [hsent] at hrun
  exact ⟨_, hrun, rfl, rfl, rfl, hbytes, rfl⟩

/-- SYNC_ACK that the check confirms synchronises the parent. -/
theorem childSynced {s : State} {f : KFrame} {x : Nat} (h : fromParent s f 2 = true) (hchal : s.tre.chal = some x)
    (hok : (parentCheck s f (bytesLE 4 x)).2 = true) :
    ∃ t, exec (.treSyncAck .up f) s = .next t ∧ t.tre.synced = true ∧ t.tre.idSure = true ∧ t.tre.chal = none ∧
      t.tre.ctrUp = f.payload.toNat * 65536 + f.ctrLo.toNat ∧ t.tre.badRun = 0 ∧ t.tre.rxAt = some s.now ∧ t.tre.lost = false ∧
      t = { s with tre := t.tre, evt := t.evt, hdr := t.hdr } := by
  obtain ⟨-, -, htyp, -⟩ := fromParent_iff h
  have hctr : (parentCheck s f (bytesLE 4 x)).1 = f.payload.toNat * 65536 + f.ctrLo.toNat := if_pos htyp
  have hframe : (s.parentFrame f).2 = (s.onTre fun t =>
      { t with chal := none, synced := true, idSure := true, ctrUp := f.payload.toNat * 65536 + f.ctrLo.toNat, badRun := 0, rxAt := some s.now,
               lost := false, syncDue := false }).event 0x0E10 [16] := by
    rw [parentFrame_syncAck htyp hchal, if_pos hok, hctr]
  have hrun : exec (.treSyncAck .up f) s = .next (s.kReceived .up f 2) := rfl
  rw [kReceived_fromParent h, if_neg (by simp [opensSlot]), hframe] at hrun
  exact ⟨_, hrun, by simp [State.onTre, State.eq_of_pages]⟩

/-- A frame toward the parent changes the count of frames and the bytes last sent alone. -/
theorem sendUp_frame (s : State) (typ pay : Nat) (chal : List Nat) :
    ∃ n bytes, s.sendUp typ pay chal = { s with tre.txUp := n, tre.lastUp := bytes } := by
  unfold State.sendUp
  split
  · exact ⟨s.tre.txUp, _, rfl⟩
  · exact ⟨_, _, rfl⟩

/-- The reply slot leaves what the link start has settled (R405, R406). -/
theorem reply_keeps (s : State) (ok : Bool) :
    (s.reply ok).tre.linkId = s.tre.linkId ∧ (s.reply ok).tre.idSure = s.tre.idSure ∧ (s.reply ok).tre.synced = s.tre.synced ∧
      (s.reply ok).tre.ctrUp = s.tre.ctrUp ∧ s.reply ok = { s with tre := (s.reply ok).tre, free := (s.reply ok).free } := by
  have hsent (u : State) (typ pay : Nat) (chal : List Nat) (hu : u.tre.linkId = s.tre.linkId ∧ u.tre.idSure = s.tre.idSure ∧
      u.tre.synced = s.tre.synced ∧ u.tre.ctrUp = s.tre.ctrUp ∧ u = { s with tre := u.tre, free := u.free }) :
      (u.sendUp typ pay chal).tre.linkId = s.tre.linkId ∧ (u.sendUp typ pay chal).tre.idSure = s.tre.idSure ∧
        (u.sendUp typ pay chal).tre.synced = s.tre.synced ∧ (u.sendUp typ pay chal).tre.ctrUp = s.tre.ctrUp ∧
        u.sendUp typ pay chal = { s with tre := (u.sendUp typ pay chal).tre, free := (u.sendUp typ pay chal).free } := by
    obtain ⟨n, bytes, hsend⟩ := sendUp_frame u typ pay chal
    obtain ⟨hid, hsure, hsync, hctr, hframe⟩ := hu
    rw [hsend]
    exact ⟨hid, hsure, hsync, hctr, by rw [hframe]⟩
  unfold State.reply
  split
  · exact hsent _ _ _ _ ⟨rfl, rfl, rfl, rfl, rfl⟩
  split
  · exact hsent _ _ _ _ ⟨rfl, rfl, rfl, rfl, rfl⟩
  split
  · exact hsent _ _ _ _ ⟨rfl, rfl, rfl, rfl, rfl⟩
  split
  · exact hsent _ _ _ _ ⟨rfl, rfl, rfl, rfl, rfl⟩
  · exact ⟨rfl, rfl, rfl, rfl, rfl⟩

/-- Another LINK_ID in IDENT undoes the LINK_ID and the synchronisation. -/
theorem childIdent {s : State} {f : KFrame} (h : fromParent s f 4 = true) (hver : verOld s.tre.ver = false) (hid : f.payload.toNat ≠ s.tre.linkId) :
    ∃ t, exec (.treIdent .up f) s = .next t ∧ t.tre.linkId = f.payload.toNat ∧ t.tre.idSure = false ∧ t.tre.synced = false ∧
      t.tre.ctrUp = s.tre.ctrUp ∧ t = { s with tre := t.tre, free := t.free } := by
  obtain ⟨-, -, htyp, -⟩ := fromParent_iff h
  have hframe : s.parentFrame f = (false, s.onTre fun t => { t with linkId := f.payload.toNat, idSure := false, synced := false, syncDue := true }) := by
    rw [parentFrame_ident htyp, if_neg (by simp [hver]), if_neg (fun hsame => hid hsame.1), if_neg hid]
  have hrun : exec (.treIdent .up f) s = .next (s.kReceived .up f 4) := rfl
  rw [kReceived_fromParent h, hframe] at hrun
  split at hrun
  · obtain ⟨hlink, hsure, hsync, hctr, hrest⟩ :=
      reply_keeps (s.onTre fun t => { t with linkId := f.payload.toNat, idSure := false, synced := false, syncDue := true }) false
    exact ⟨_, hrun, hlink, hsure, hsync, hctr, hrest⟩
  · exact ⟨_, hrun, rfl, rfl, rfl, rfl, rfl⟩

/-! ### Bad checks of the parent, and its loss (R405, R409, R411) -/

/-- The tree page but for what a subtree budget that falls changes (R407). -/
def Tre.stem (t : Tre) : Tre :=
  { t with cseqTx := 0, cutQ := [], subWas := 0, PKG := 0, lowQ := [], highQ := [], port := Vector.replicate 16 {} }

theorem onTre_stem (s : State) {g : Tre → Tre} (hg : ∀ t, (g t).stem = t.stem) : (s.onTre g).tre.stem = s.tre.stem := hg s.tre

/-- A subtree budget that falls changes what waits for the children alone. -/
theorem subFell_stem (s : State) : s.subFell.tre.stem = s.tre.stem := by
  unfold State.subFell
  dsimp only
  split
  · simp
  split
  · simp only [Pages.budgetFell]
    refine (onTre_stem _ ?_).trans ?_
    · exact fun _ => rfl
    · refine foldl_proj (fun u : State => u.tre.stem) _ ?_ _ s
      exact fun _ _ => rfl
  · simp [Tre.stem]

theorem hasErr_subFell {s : State} {q : Fin 23} {i : Nat} (h : s.hasErr q i) : s.subFell.hasErr q i := by
  obtain ⟨u, hu, hrest⟩ := subFell_eq s
  rw [hu]
  exact hasErr_budgetFell (hasErr_of_hdr h (by rw [hrest]))

/-- The parent is lost (R409). -/
theorem loseParent_loses {s : State} (cause : Nat) (h : s.tre.lost = false) :
    (s.loseParent cause).tre.stem = { s.tre.stem with lost := true, PARENT_BUD := s.tre.ISO, pend := none } ∧ (s.loseParent cause).hasErr pgTre 16 := by
  have hlose : s.loseParent cause =
      ((s.onTre fun t => { t with lost := true, PARENT_BUD := t.ISO, pend := none }).fault pgTre 16 0x0E11 [cause]).subFell :=
    if_neg (by simp [h])
  rw [hlose, subFell_stem]
  exact ⟨by simp [State.onTre, Tre.stem], hasErr_subFell (hasErr_fault ..)⟩

/-- A loss of the parent keeps the counts, the synchronisation and the mute, and clears no error. -/
theorem loseParent_keeps (s : State) (cause : Nat) :
    (s.loseParent cause).tre.CNT_BAD = s.tre.CNT_BAD ∧ (s.loseParent cause).tre.synced = s.tre.synced ∧
      (s.loseParent cause).tre.ctrUp = s.tre.ctrUp ∧ (s.loseParent cause).tre.muteAt = s.tre.muteAt ∧
      ∀ q i, s.hasErr q i → (s.loseParent cause).hasErr q i := by
  have herr (q : Fin 23) (i : Nat) (hi : s.hasErr q i) : (s.loseParent cause).hasErr q i := by
    unfold State.loseParent
    exact hasErr_ite hi (hasErr_subFell (hasErr_fault_keeps _ _ _ _ hi))
  cases h : s.tre.lost
  · obtain ⟨hstem, -⟩ := loseParent_loses cause h
    exact ⟨(congrArg Tre.CNT_BAD hstem :), (congrArg Tre.synced hstem :), (congrArg Tre.ctrUp hstem :), (congrArg Tre.muteAt hstem :), herr⟩
  · have hsame : s.loseParent cause = s := if_pos h
    rw [hsame]
    exact ⟨rfl, rfl, rfl, rfl, fun _ _ hi => hi⟩

/-- A bad check of the parent as it is counted (R405, R411). -/
def State.parentBad (s : State) : State :=
  s.onTre fun t =>
    { t with
      CNT_BAD := satAdd 16 t.CNT_BAD 1, badAt := badList s t.badAt, badRun := (t.badRun + 1) % 4
      syncDue := t.syncDue || decide (t.badRun + 1 = 4)
      muteAt := if decide (16 ≤ (badList s t.badAt).length) then some s.now else t.muteAt }

/-- A bad check as it is flagged: with a record for the first four of a second. -/
def State.badFlagged (s : State) (few : Prop) [Decidable few] (sender : Nat) : State :=
  if few then s.fault pgTre 18 0x0E13 [sender] else s.setErr pgTre 18

theorem badCheck_parent (s : State) :
    s.badCheck 16 =
      if decide (16 ≤ (badList s s.tre.badAt).length) then
        ((s.parentBad.badFlagged ((badList s s.tre.badAt).length ≤ 4) 16).fault pgTre 19 0x0E14 [16]).loseParent 3
      else s.parentBad.badFlagged ((badList s s.tre.badAt).length ≤ 4) 16 := by
  unfold State.badCheck
  rfl

/-- A frame of the parent that fails its check is counted and flagged; the sixteenth of a second mutes the parent. -/
theorem badCheck_parent_counts (s : State) :
    (s.badCheck 16).tre.CNT_BAD = satAdd 16 s.tre.CNT_BAD 1 ∧ (s.badCheck 16).tre.synced = s.tre.synced ∧
      (s.badCheck 16).tre.ctrUp = s.tre.ctrUp ∧ (s.badCheck 16).hasErr pgTre 18 ∧
      (15 ≤ (lastSecond s s.tre.badAt).length → (s.badCheck 16).tre.muteAt = some s.now ∧ (s.badCheck 16).hasErr pgTre 19) := by
  have hflag (few : Prop) [Decidable few] : (s.parentBad.badFlagged few 16).hasErr pgTre 18 := hasErr_ite (hasErr_fault ..) (hasErr_setErr_self ..)
  have htre (few : Prop) [Decidable few] : (s.parentBad.badFlagged few 16).tre = s.parentBad.tre := by
    unfold State.badFlagged
    split <;> simp
  have hlen : (badList s s.tre.badAt).length = (lastSecond s s.tre.badAt).length + 1 := by simp [badList]
  rw [badCheck_parent]
  by_cases hmany : 16 ≤ (badList s s.tre.badAt).length
  · rw [if_pos (by simpa using hmany)]
    generalize hu : (s.parentBad.badFlagged ((badList s s.tre.badAt).length ≤ 4) 16).fault pgTre 19 0x0E14 [16] = u
    have hutre : u.tre = s.parentBad.tre := by rw [← hu]; simp [htre]
    obtain ⟨hbad, hsync, hctr, hmute, herr⟩ := loseParent_keeps u 3
    rw [hbad, hsync, hctr, hmute, hutre]
    refine ⟨rfl, rfl, rfl, herr _ _ (by rw [← hu]; exact hasErr_fault_keeps _ _ _ _ (hflag _)), fun _ => ⟨?_, herr _ _ (by rw [← hu]; exact hasErr_fault ..)⟩⟩
    exact if_pos (by simpa using hmany)
  · rw [if_neg (by simpa using hmany), htre]
    exact ⟨rfl, rfl, rfl, hflag _, fun h => absurd hmany (by omega)⟩

/-- SYNC_ACK that the check does not confirm. -/
theorem childSync_refused {s : State} {f : KFrame} {x : Nat} (h : fromParent s f 2 = true) (hchal : s.tre.chal = some x)
    (hbad : (parentCheck s f (bytesLE 4 x)).2 = false) :
    ∃ t, exec (.treSyncAck .up f) s = .next t ∧ t.tre.CNT_BAD = satAdd 16 s.tre.CNT_BAD 1 ∧ t.tre.synced = s.tre.synced ∧
      t.tre.ctrUp = s.tre.ctrUp ∧ t.hdr[pgTre].err.testBit 18 = true ∧
      (15 ≤ (lastSecond s s.tre.badAt).length → t.tre.muteAt = some s.now ∧ t.hdr[pgTre].err.testBit 19 = true) ∧
      t = { s with adm := t.adm, frm := t.frm, tre := t.tre, mbs := t.mbs, mbn := t.mbn, rck := t.rck, evt := t.evt, hdr := t.hdr } := by
  obtain ⟨-, -, htyp, -⟩ := fromParent_iff h
  have hframe : (s.parentFrame f).2 = s.badCheck 16 := by
    rw [parentFrame_syncAck htyp hchal, if_neg (by simp [hbad])]
  have hrun : exec (.treSyncAck .up f) s = .next (s.kReceived .up f 2) := rfl
  rw [kReceived_fromParent h, if_neg (by simp [opensSlot]), hframe] at hrun
  obtain ⟨hcount, hsync, hctr, herr, hmute⟩ := badCheck_parent_counts s
  exact ⟨_, hrun, hcount, hsync, hctr, herr, hmute, by simp [State.eq_of_pages]⟩

/-! ### The standby (R412) -/

/-- The standby follows what it hears. -/
theorem standby_follows {s : State} {f : KFrame} (bus : TreBus) (hlive : treLive s = true) (hpins : trePins s = true)
    (hstandby : treActive s = false) (htyp : kType f = 5) : exec (.trePoll bus f) s = .next (s.follow bus f) :=
  congrArg Host.Outcome.next ((if_neg (by simp [hlive, hpins, htyp])).trans (if_pos (by simp [hstandby])))

end Sys2Proof.Machine
end

section
namespace Sys2Proof.Proofs

open Sys2Proof Sys2Proof.Machine

/-- Settles O55: each link-start frame by what it is taken for (`parentFrame_…`) and what leaves in the reply slot (`sendUp_sent`). -/
theorem childStartsItsLink : Obligations.ChildStartsItsLink := by
  unfold Obligations.ChildStartsItsLink
  intro s f hport
  exact ⟨fun h => childHello h hport, fun h hopen hhello hver => childSync hport h hopen hhello hver,
    fun x h hchal => ⟨fun hok => childSynced h hchal hok, fun hbad => childSync_refused h hchal hbad⟩,
    fun h hver hid => childIdent h hver hid, fun bus hlive hpins hstandby htyp => standby_follows bus hlive hpins hstandby htyp⟩

/-- The reset state with live ports, as the reckoner of a formed frame whose Kazsin link is live. -/
def childReady : State :=
  { liveReset with
    cmn.straps.treEn := true, rst.started := true, clk.TK_SRC := true, frm.FORM_STATE := 2, frm.ROLE_RECKONER := 0 }

/-- HELLO of the parent at port 0. -/
def parentHello : KFrame := { hdr := 0x3000, payload := 0, ctrLo := 0, mac := 0 }

/-- `childStartsItsLink` applies: HELLO of the parent is answered at once. -/
theorem childReady_answers_hello :
    ∃ t, exec (.treHello .up parentHello) childReady = .next t ∧ t.tre.helloDue = false ∧ t.tre.txUp = 1 := by
  obtain ⟨hhello, -⟩ := childStartsItsLink childReady parentHello rfl
  obtain ⟨t, run, -, hdue, hsent, -⟩ := hhello rfl
  exact ⟨t, run, hdue, hsent⟩

end Sys2Proof.Proofs
end

section
/-! PROOFS. A synchronised child: POLL, BUDGET and CUT of the parent (R406 to R411). -/

namespace Sys2Proof.Machine

open Sys2Proof

/-! ### A frame that the check confirms (R404, R409) -/

/-- The parent has been heard with counter `c`. -/
def State.parentHeard (s : State) (c : Nat) : State := s.onTre fun t => { t with ctrUp := c, badRun := 0, rxAt := some s.now, lost := false }

theorem childIdle_iff (s : State) :
    childIdle s = true ↔ s.tre.helloDue = false ∧ s.tre.ver.isSome = true ∧ s.tre.ackDue = none ∧ s.tre.syncDue = false ∧ s.tre.synced = true := by
  simp [childIdle, and_assoc]

theorem parentTake_confirmed {s : State} {f : KFrame} {c : Nat} (act : State → State) (h : parentCheck s f [] = (c, true))
    (hidle : childIdle s = true) : s.parentTake f act = (true, act (s.parentHeard c)) := by
  obtain ⟨-, -, -, -, hsync⟩ := (childIdle_iff s).mp hidle
  unfold State.parentTake
  dsimp only
  rw [if_neg (by simp [hsync]), h]
  exact if_pos rfl

/-- What waits for the reply slot, and the synchronisation, decide whether the link start is done. -/
theorem childIdle_of_stem {s t : State} {u : Tre} (hstem : t.tre.stem = u) (h : u.helloDue = s.tre.helloDue ∧ u.ver = s.tre.ver ∧
    u.ackDue = s.tre.ackDue ∧ u.syncDue = s.tre.syncDue ∧ u.synced = s.tre.synced) : childIdle t = childIdle s := by
  obtain ⟨hhello, hver, hack, hdue, hsync⟩ := h
  unfold childIdle
  rw [show t.tre.helloDue = s.tre.helloDue from (congrArg Tre.helloDue hstem :).trans hhello,
    show t.tre.ver = s.tre.ver from (congrArg Tre.ver hstem :).trans hver, show t.tre.ackDue = s.tre.ackDue from (congrArg Tre.ackDue hstem :).trans hack,
    show t.tre.syncDue = s.tre.syncDue from (congrArg Tre.syncDue hstem :).trans hdue,
    show t.tre.synced = s.tre.synced from (congrArg Tre.synced hstem :).trans hsync]

theorem bSub_parentHeard (s : State) (c : Nat) : bSub (s.parentHeard c) = bSub s := rfl

theorem treDemandUp_parentHeard (s : State) (c : Nat) : treDemandUp (s.parentHeard c) = treDemandUp s := rfl

/-! ### The reply slot (R406) -/

/-- The tree page but for what the reply slot changes. -/
def Tre.unsent (t : Tre) : Tre := { t with DEMAND := 0, txUp := 0, lastUp := [] }

/-- DEMAND leaves where nothing of the link start waits. -/
theorem reply_demand {s : State} (h : childIdle s = true) :
    s.reply true = (s.onTre fun t => { t with DEMAND := treDemandUp s }).sendUp 6 (treDemandUp s) [] := by
  obtain ⟨hhello, hver, hack, hsyncDue, hsync⟩ := (childIdle_iff s).mp h
  obtain ⟨v, hv⟩ := Option.isSome_iff_exists.mp hver
  unfold State.reply
  rw [if_neg (by simp [hhello, hv]), hack]
  exact (if_neg (by simp [hsyncDue, hsync])).trans (if_pos rfl)

/-- What a frame did stands, whether a reply leaves or not. -/
theorem reply_unsent {s : State} (p : Prop) [Decidable p] (h : childIdle s = true) :
    ∃ t, (if p then s.reply true else s) = t ∧ t.tre.unsent = s.tre.unsent ∧ t = { s with tre := t.tre } := by
  refine ⟨_, rfl, ?_⟩
  split
  · rw [reply_demand h]
    obtain ⟨n, bytes, hsent⟩ := sendUp_frame (s.onTre fun t => { t with DEMAND := treDemandUp s }) 6 (treDemandUp s) []
    rw [hsent]
    exact ⟨rfl, rfl⟩
  · exact ⟨rfl, rfl⟩

section
variable {s : State} {f : KFrame} {c : Nat} (hcheck : parentCheck s f [] = (c, true)) (hidle : childIdle s = true)
include hcheck hidle

/-- A confirmed frame of the parent takes effect, and its reply slot opens (R406). -/
theorem kReceived_taken {typ : Nat} {act : State → State} (h : fromParent s f typ = true) (hframe : s.parentFrame f = s.parentTake f act) :
    s.kReceived .up f typ =
      if kPort f = s.tre.CFG_MYPORT ∧ opensSlot typ = true then (act (s.parentHeard c)).reply true else act (s.parentHeard c) := by
  rw [kReceived_fromParent h, hframe, parentTake_confirmed act hcheck hidle]

/-! ### POLL (R406, R409) -/

/-- A POLL with fewer than two frames missed is answered with DEMAND. -/
theorem poll_answered (h : fromParent s f 5 = true) (hport : kPort f = s.tre.CFG_MYPORT) (hmissed : f.payload.toNat % 256 < 2) :
    ∃ t, exec (.trePoll .up f) s = .next t ∧ t.tre.ctrUp = c ∧ t.tre.badRun = 0 ∧ t.tre.rxAt = some s.now ∧ t.tre.lost = false ∧
      t.tre.DEMAND = treDemandUp s ∧ t.tre.txUp = s.tre.txUp + 1 ∧
      t.tre.lastUp = kBytes (kHdr 6 1 s.tre.CFG_MYPORT) (treDemandUp s) ((s.tre.txUp + 1) % 65536)
        (kMac s (linkIdUp s) (kHdr 6 1 s.tre.CFG_MYPORT) (treDemandUp s) (s.tre.txUp + 1) []) ∧
      t = { s with tre := t.tre } := by
  obtain ⟨-, -, htyp, -⟩ := fromParent_iff h
  have hrun : exec (.trePoll .up f) s = .next (s.kReceived .up f 5) := rfl
  have hheard : childIdle (s.parentHeard c) = true := hidle
  rw [kReceived_taken hcheck hidle h (parentFrame_poll htyp), if_pos ⟨hport, rfl⟩, if_neg (by omega), reply_demand hheard,
    treDemandUp_parentHeard] at hrun
  obtain ⟨bytes, hbytes, hsent⟩ := sendUp_sent ((s.parentHeard c).onTre fun t => { t with DEMAND := treDemandUp s }) (treDemandUp s) [] (typ := 6)
    (by decide)
  rw [hsent] at hrun
  exact ⟨_, hrun, rfl, rfl, rfl, rfl, rfl, rfl, hbytes, rfl⟩

/-- MISSED from 2 up: the parent is lost. -/
theorem poll_loses (h : fromParent s f 5 = true) (hmissed : 2 ≤ f.payload.toNat % 256) :
    ∃ t, exec (.trePoll .up f) s = .next t ∧ t.tre.lost = true ∧ t.tre.PARENT_BUD = s.tre.ISO ∧ t.tre.pend = none ∧
      t.hdr[pgTre].err.testBit 16 = true ∧
      t = { s with adm := t.adm, frm := t.frm, tre := t.tre, mbs := t.mbs, mbn := t.mbn, rck := t.rck, evt := t.evt, hdr := t.hdr } := by
  obtain ⟨-, -, htyp, -⟩ := fromParent_iff h
  have hrun : exec (.trePoll .up f) s = .next (s.kReceived .up f 5) := rfl
  obtain ⟨hstem, herr⟩ := loseParent_loses (s := s.parentHeard c) 1 rfl
  have hsame : childIdle ((s.parentHeard c).loseParent 1) = true := (childIdle_of_stem hstem ⟨rfl, rfl, rfl, rfl, rfl⟩).trans hidle
  obtain ⟨t, hreply, hunsent, hrest⟩ := reply_unsent (kPort f = s.tre.CFG_MYPORT ∧ opensSlot 5 = true) hsame
  rw [kReceived_taken hcheck hidle h (parentFrame_poll htyp), if_pos hmissed, hreply] at hrun
  refine ⟨t, hrun, (congrArg Tre.lost hunsent :).trans (congrArg Tre.lost hstem :), (congrArg Tre.PARENT_BUD hunsent :).trans
    (congrArg Tre.PARENT_BUD hstem :), (congrArg Tre.pend hunsent :).trans (congrArg Tre.pend hstem :), ?_, ?_⟩
  · rw [hrest]
    exact herr
  · rw [hrest]
    simp [State.parentHeard, State.onTre]

/-! ### BUDGET (R408, R411) -/

/-- A BUDGET as it is counted, with what it makes of the parent's value. -/
def State.budgeted (s : State) (c bud : Nat) (pend : Option Nat) : State :=
  (s.parentHeard c).onTre fun t => { t with budN := t.budN + 1, PARENT_BUD := bud, pend := pend }

/-- A lower BUDGET applies at once. -/
theorem budget_lowers (h : fromParent s f 7 = true) (hfew : s.tre.budN < 4) (hlow : f.payload.toNat < bSub s) :
    ∃ t, exec (.treBudget .up f) s = .next t ∧ t.tre.PARENT_BUD = f.payload.toNat ∧ t.tre.pend = none ∧ t.tre.budN = s.tre.budN + 1 ∧
      t.tre.ctrUp = c ∧
      t = { s with adm := t.adm, frm := t.frm, tre := t.tre, mbs := t.mbs, mbn := t.mbn, rck := t.rck, evt := t.evt, hdr := t.hdr } := by
  obtain ⟨-, -, htyp, -⟩ := fromParent_iff h
  have hrun : exec (.treBudget .up f) s = .next (s.kReceived .up f 7) := rfl
  have htake : (s.parentHeard c).takeBudget f.payload.toNat = (s.budgeted c f.payload.toNat none).subFell :=
    (if_neg (by simp only [State.parentHeard, State.onTre]; omega)).trans (if_pos hlow)
  have hstem := subFell_stem (s.budgeted c f.payload.toNat none)
  have hsame : childIdle (s.budgeted c f.payload.toNat none).subFell = true := (childIdle_of_stem hstem ⟨rfl, rfl, rfl, rfl, rfl⟩).trans hidle
  obtain ⟨t, hreply, hunsent, hrest⟩ := reply_unsent (kPort f = s.tre.CFG_MYPORT ∧ opensSlot 7 = true) hsame
  rw [kReceived_taken hcheck hidle h (parentFrame_budget htyp), htake, hreply] at hrun
  refine ⟨t, hrun, (congrArg Tre.PARENT_BUD hunsent :).trans (congrArg Tre.PARENT_BUD hstem :), (congrArg Tre.pend hunsent :).trans
    (congrArg Tre.pend hstem :), (congrArg Tre.budN hunsent :).trans (congrArg Tre.budN hstem :), (congrArg Tre.ctrUp hunsent :).trans
    (congrArg Tre.ctrUp hstem :), ?_⟩
  rw [hrest]
  simp [State.budgeted, State.parentHeard, State.onTre]

/-- A higher BUDGET waits for the boundary. -/
theorem budget_waits (h : fromParent s f 7 = true) (hfew : s.tre.budN < 4) (hhigh : bSub s ≤ f.payload.toNat) :
    ∃ t, exec (.treBudget .up f) s = .next t ∧ t.tre.PARENT_BUD = s.tre.PARENT_BUD ∧ t.tre.pend = some f.payload.toNat ∧
      t.tre.budN = s.tre.budN + 1 ∧ t = { s with tre := t.tre } := by
  obtain ⟨-, -, htyp, -⟩ := fromParent_iff h
  have hrun : exec (.treBudget .up f) s = .next (s.kReceived .up f 7) := rfl
  have htake : (s.parentHeard c).takeBudget f.payload.toNat = s.budgeted c s.tre.PARENT_BUD (some f.payload.toNat) :=
    (if_neg (by simp only [State.parentHeard, State.onTre]; omega)).trans (if_neg (Nat.not_lt.mpr hhigh))
  have hsame : childIdle (s.budgeted c s.tre.PARENT_BUD (some f.payload.toNat)) = true := hidle
  obtain ⟨t, hreply, hunsent, hrest⟩ := reply_unsent (kPort f = s.tre.CFG_MYPORT ∧ opensSlot 7 = true) hsame
  rw [kReceived_taken hcheck hidle h (parentFrame_budget htyp), htake, hreply] at hrun
  exact ⟨t, hrun, (congrArg Tre.PARENT_BUD hunsent :), (congrArg Tre.pend hunsent :), (congrArg Tre.budN hunsent :), hrest.trans rfl⟩

/-- The fifth BUDGET of an epoch is ignored. -/
theorem budget_ignored (h : fromParent s f 7 = true) (hmany : 4 ≤ s.tre.budN) :
    ∃ t, exec (.treBudget .up f) s = .next t ∧ t.tre.PARENT_BUD = s.tre.PARENT_BUD ∧ t.tre.pend = s.tre.pend ∧
      t.tre.CNT2_IGNORED = satAdd 16 s.tre.CNT2_IGNORED 1 ∧ t.hdr[pgTre].err.testBit 20 = true ∧
      t = { s with tre := t.tre, evt := t.evt, hdr := t.hdr } := by
  obtain ⟨-, -, htyp, -⟩ := fromParent_iff h
  have hrun : exec (.treBudget .up f) s = .next (s.kReceived .up f 7) := rfl
  have htake : (s.parentHeard c).takeBudget f.payload.toNat = (s.parentHeard c).rateIgnored 7 := if_pos hmany
  have htre : ((s.parentHeard c).rateIgnored 7).tre = { (s.parentHeard c).tre with CNT2_IGNORED := satAdd 16 s.tre.CNT2_IGNORED 1 } := by
    simp [State.rateIgnored, State.onTre, State.parentHeard]
  have hsame : childIdle ((s.parentHeard c).rateIgnored 7) = true := by
    unfold childIdle
    rw [htre]
    exact hidle
  obtain ⟨t, hreply, hunsent, hrest⟩ := reply_unsent (kPort f = s.tre.CFG_MYPORT ∧ opensSlot 7 = true) hsame
  rw [kReceived_taken hcheck hidle h (parentFrame_budget htyp), htake, hreply] at hrun
  rw [htre] at hunsent
  refine ⟨t, hrun, (congrArg Tre.PARENT_BUD hunsent :), (congrArg Tre.pend hunsent :), (congrArg Tre.CNT2_IGNORED hunsent :), ?_, ?_⟩
  · rw [hrest]
    exact hasErr_fault ..
  · rw [hrest]
    simp [State.rateIgnored, State.parentHeard, State.onTre]

/-! ### CUT (R406, R407, R411) -/

/-- A CUT as it is counted, at the times `l`. -/
def State.cutTaken (s : State) (c : Nat) (l : List Nat) (w : Nat) : State :=
  (s.parentHeard c).onTre fun t =>
    { t with
      cutAt := l, cseqRx := some (bitsOf w 16 8), CNT2_CUTS := satAdd 16 t.CNT2_CUTS 1
      PARENT_BUD := bSub s * (w % 65536) / 65536, pend := t.pend.map fun v => v * (w % 65536) / 65536 }

section
variable (h : fromParent s f 8 = true) (hport : kPort f = 31) (hver : verOld s.tre.ver = false)
  (hfew : (s.tre.cutAt.filter (fun a => decide (s.now < a + ticksPerMs))).length < 16)
include h hport hver hfew

/-- A CUT within the rate limit is timed, and applies where its CSEQ is another than the last. -/
theorem exec_treCut : ∃ l, exec (.treCut .up f) s = .next (
    if s.tre.cseqRx = some (bitsOf f.payload.toNat 16 8) then (s.parentHeard c).onTre fun t => { t with cutAt := l }
    else ((s.cutTaken c l f.payload.toNat).event 0x0E16 [f.payload.toNat % 65536, bitsOf f.payload.toNat 16 8]).subFell) := by
  obtain ⟨-, -, htyp, -⟩ := fromParent_iff h
  have hrun : exec (.treCut .up f) s = .next (s.kReceived .up f 8) := rfl
  rw [kReceived_taken hcheck hidle h (parentFrame_cut htyp hver hport), if_neg (by simp [opensSlot])] at hrun
  exact ⟨_, hrun.trans (congrArg Host.Outcome.next (if_neg (Nat.not_le.mpr hfew)))⟩

/-- A CUT of a new CSEQ scales the parent's value, and a raise that waits (log entry 48). -/
theorem cut_applies (hnew : s.tre.cseqRx ≠ some (bitsOf f.payload.toNat 16 8)) :
    ∃ t, exec (.treCut .up f) s = .next t ∧ t.tre.PARENT_BUD = bSub s * (f.payload.toNat % 65536) / 65536 ∧
      t.tre.cseqRx = some (bitsOf f.payload.toNat 16 8) ∧ t.tre.CNT2_CUTS = satAdd 16 s.tre.CNT2_CUTS 1 ∧
      t.tre.pend = s.tre.pend.map (fun w => w * (f.payload.toNat % 65536) / 65536) ∧
      t = { s with adm := t.adm, frm := t.frm, tre := t.tre, mbs := t.mbs, mbn := t.mbn, rck := t.rck, evt := t.evt, hdr := t.hdr } := by
  obtain ⟨l, hrun⟩ := exec_treCut hcheck hidle h hport hver hfew
  rw [if_neg hnew] at hrun
  have hstem : _ = (s.cutTaken c l f.payload.toNat).tre.stem :=
    (subFell_stem ((s.cutTaken c l f.payload.toNat).event 0x0E16 [f.payload.toNat % 65536, bitsOf f.payload.toNat 16 8])).trans (by simp)
  exact ⟨_, hrun, (congrArg Tre.PARENT_BUD hstem :), (congrArg Tre.cseqRx hstem :), (congrArg Tre.CNT2_CUTS hstem :), (congrArg Tre.pend hstem :),
    by simp [State.eq_of_pages, State.cutTaken, State.parentHeard, State.onTre]⟩

/-- A CUT repeated changes nothing but the parent's counter. -/
theorem cut_repeated (hsame : s.tre.cseqRx = some (bitsOf f.payload.toNat 16 8)) :
    ∃ t, exec (.treCut .up f) s = .next t ∧ t.tre.PARENT_BUD = s.tre.PARENT_BUD ∧ t.tre.CNT2_CUTS = s.tre.CNT2_CUTS ∧ t.tre.ctrUp = c ∧
      t = { s with tre := t.tre } := by
  obtain ⟨l, hrun⟩ := exec_treCut hcheck hidle h hport hver hfew
  rw [if_pos hsame] at hrun
  exact ⟨_, hrun, rfl, rfl, rfl, rfl⟩

end

end

/-! ### A frame that the check confirms -/

theorem ofBytesLE_lt (l : List Nat) : ofBytesLE l < 256 ^ l.length := by
  induction l with
  | nil => exact Nat.one_pos
  | cons b l ih =>
    rw [ofBytesLE, List.length_cons, Nat.pow_succ]
    omega

/-- A MAC fits its field (R404). -/
theorem kMac_lt (s : State) (linkId hdr pay ctr : Nat) (chal : List Nat) : kMac s linkId hdr pay ctr chal < 2 ^ 128 := by
  unfold kMac hmac128
  refine Nat.lt_of_lt_of_le (ofBytesLE_lt _) (Nat.le_trans (Nat.pow_le_pow_right (by decide) (List.length_take_le 16 _)) ?_)
  decide

/-- A frame with the MAC of its own counter is confirmed (R404). -/
theorem parentCheck_of_mac {s : State} {f : KFrame} {c : Nat} (htyp : kType f ≠ 2) (hctr : kCounter s.tre.ctrUp f.ctrLo.toNat = c)
    (hmac : f.mac = BitVec.ofNat 128 (kMac s (linkIdUp s) f.hdr.toNat f.payload.toNat c [])) : parentCheck s f [] = (c, true) := by
  unfold parentCheck
  dsimp only
  rw [if_neg htyp, hctr, hmac, BitVec.toNat_ofNat, Nat.mod_eq_of_lt (kMac_lt ..), decide_eq_true rfl]

end Sys2Proof.Machine
end

section
namespace Sys2Proof.Proofs

open Sys2Proof Sys2Proof.Machine

/-- Settles O56: a confirmed frame acts on the state that has heard the parent (`kReceived_taken`); what waits for the reply slot leaves its
effect (`reply_unsent`). That a CUT also scales a raise that waits is log entry 48. -/
theorem childObeysItsParent : Obligations.ChildObeysItsParent := by
  unfold Obligations.ChildObeysItsParent
  intro s f c hcheck hidle
  exact ⟨fun h hport hmissed => poll_answered hcheck hidle h hport hmissed, fun h hmissed => poll_loses hcheck hidle h hmissed,
    fun h => ⟨fun hfew hlow => budget_lowers hcheck hidle h hfew hlow, fun hfew hhigh => budget_waits hcheck hidle h hfew hhigh,
      fun hmany => budget_ignored hcheck hidle h hmany⟩,
    fun h hport hver hfew => ⟨fun hnew => cut_applies hcheck hidle h hport hver hfew hnew,
      fun hsame => cut_repeated hcheck hidle h hport hver hfew hsame⟩⟩

/-- The child whose link start is done. -/
def childInSync : State := { childReady with tre.helloDue := false, tre.ver := some 0x34, tre.synced := true }

/-- The parent's first POLL at port 0. -/
def firstPoll : KFrame :=
  { hdr := 0x5000#16, payload := 0#32, ctrLo := 1#16
    mac := BitVec.ofNat 128 (kMac childInSync (linkIdUp childInSync) (0x5000#16).toNat (0#32).toNat 1 []) }

/-- `childObeysItsParent` applies: the first POLL is answered with DEMAND. -/
theorem childInSync_answers_poll :
    ∃ t, exec (.trePoll .up firstPoll) childInSync = .next t ∧ t.tre.ctrUp = 1 ∧ t.tre.txUp = 1 := by
  obtain ⟨hpoll, -⟩ := childObeysItsParent childInSync firstPoll 1 (parentCheck_of_mac (by decide) rfl rfl) rfl
  obtain ⟨t, run, hctr, -, -, -, -, hsent, -⟩ := hpoll rfl rfl (by decide)
  exact ⟨t, run, hctr, hsent⟩

end Sys2Proof.Proofs
end

section
/-! PROOFS. The frames of a child port (R404 to R411). -/

namespace Sys2Proof.Machine

open Sys2Proof

/-! ### One port -/

theorem portOf_portMod {s : State} {p : Nat} (f : TrePort → TrePort) (hp : p < 16) : portOf (s.portMod p f) p = f (portOf s p) :=
  vAt_vMod_same _ _ _ _ hp

theorem portOf_portMod_other (s : State) {p q : Nat} (f : TrePort → TrePort) (hq : q ≠ p) : portOf (s.portMod p f) q = portOf s q :=
  vAt_vMod_other _ _ _ _ _ (Ne.symm hq)

theorem portOf_onTre (s : State) {g : Tre → Tre} (hg : ∀ t, (g t).port = t.port) (p : Nat) : portOf (s.onTre g) p = portOf s p :=
  congrArg (fun v => vAt v p ({} : TrePort)) (hg s.tre)

theorem portOf_of_tre {s t : State} (h : t.tre = s.tre) (p : Nat) : portOf t p = portOf s p := by rw [portOf, portOf, h]

section
variable {s : State} {f : KFrame} {typ : Nat} (h : fromPort s f typ = true)
include h

/-- What `fromPort` says. -/
theorem fromPort_iff :
    treActive s = true ∧ trePins s = true ∧ kType f = typ ∧ kUp f = true ∧ kPort f < 16 ∧ (portOf s (kPort f)).muteAt = none := by
  simp only [fromPort, Bool.and_eq_true, decide_eq_true_eq, Option.isNone_iff_eq_none] at h
  obtain ⟨⟨⟨⟨⟨hact, hpins⟩, htyp⟩, hup⟩, hport⟩, hmute⟩ := h
  exact ⟨hact, hpins, htyp, hup, hport, hmute⟩

/-- A frame of a port takes effect. -/
theorem kReceived_fromPort : s.kReceived .dn f typ = s.portFrame (kPort f) f := by
  obtain ⟨hact, hpins, htyp, hup, hport, hmute⟩ := fromPort_iff h
  have hlive : treLive s = true := by
    unfold treActive at hact
    exact (Bool.and_eq_true _ _ ▸ hact).1
  unfold State.kReceived
  dsimp only
  rw [if_neg (by simp [hlive, hpins, htyp]), if_neg (by simp [hact]), hup]
  exact if_neg (by rw [hmute]; simp [hport])

end

/-- The reply slot closes where it was this port's (R406). -/
def State.slotClosed (s : State) (p : Nat) : State := if s.tre.slot = some p then s.onTre fun t => { t with slot := none } else s

theorem slotClosed_facts (s : State) (p : Nat) :
    (s.slotClosed p).tre = { s.tre with slot := (s.slotClosed p).tre.slot } ∧ s.slotClosed p = { s with tre := (s.slotClosed p).tre } := by
  unfold State.slotClosed
  split <;> exact ⟨rfl, rfl⟩

theorem portOf_slotClosed (s : State) (p q : Nat) : portOf (s.slotClosed p) q = portOf s q := by
  unfold State.slotClosed
  split <;> rfl

/-! ### What each frame of a port is taken for -/

section
variable {s : State} {f : KFrame} (p : Nat)

theorem portFrame_sync (h : kType f = 1) :
    s.portFrame p f =
      if syncOpen (s.slotClosed p) (portOf s p).ackAt then
        (s.slotClosed p).portMod p fun e =>
          { e with ackFor := some f.payload.toNat, ackAt := some (s.slotClosed p).now
                   frames := if e.frames.contains 2 then e.frames else 2 :: e.frames }
      else s.slotClosed p := by
  unfold State.portFrame
  rw [h]
  rfl

theorem portFrame_syncAck {x : Nat} (h : kType f = 2) (hchal : (portOf s p).chal = some x) :
    s.portFrame p f =
      if (portCheck (s.slotClosed p) p f (bytesLE 4 x)).2 then
        (((s.slotClosed p).portMod p fun e =>
          { e with chal := none, synced := true, ctr := (portCheck (s.slotClosed p) p f (bytesLE 4 x)).1 }).answered p).event 0x0E10 [p]
      else (s.slotClosed p).badCheck p := by
  unfold State.portFrame
  rw [h]
  simp only [hchal]
  rfl

theorem portFrame_hello (h : kType f = 3) :
    s.portFrame p f = (s.slotClosed p).portMod p fun e =>
      { e with ver := some (lowerVer f), frames := if lowerVer f / 16 < 3 then [3, 1] else [3, 4, 1] } := by
  unfold State.portFrame
  rw [h]
  rfl

theorem portFrame_demand (h : kType f = 6) (hsync : (portOf s p).synced = true) :
    s.portFrame p f =
      if (portCheck (s.slotClosed p) p f []).2 then
        ((s.slotClosed p).portMod p fun e => { e with ctr := (portCheck (s.slotClosed p) p f []).1, PORT_DEM := f.payload.toNat }).answered p
      else (s.slotClosed p).badCheck p := by
  unfold State.portFrame
  rw [h]
  exact if_neg (by simp [hsync])

end

/-- The check of a frame of a port does not read the reply slot. -/
theorem portCheck_slotClosed (s : State) (p : Nat) (f : KFrame) (chal : List Nat) : portCheck (s.slotClosed p) p f chal = portCheck s p f chal := by
  unfold State.slotClosed
  split <;> rfl

/-- A port changed in its reply slot, and no other. -/
theorem portMod_slotClosed (s : State) {p : Nat} (g : TrePort → TrePort) (hp : p < 16) :
    portOf ((s.slotClosed p).portMod p g) p = g (portOf s p) ∧ (∀ q, q ≠ p → portOf ((s.slotClosed p).portMod p g) q = portOf s q) ∧
      (s.slotClosed p).portMod p g = { s with tre := ((s.slotClosed p).portMod p g).tre } := by
  refine ⟨by rw [portOf_portMod g hp, portOf_slotClosed], fun q hq => by rw [portOf_portMod_other _ g hq, portOf_slotClosed], ?_⟩
  unfold State.slotClosed
  split <;> rfl

/-- A port as it has answered (R406, R409). -/
def TrePort.answered (e : TrePort) : TrePort :=
  { e with
    PORT_ST_MISSED := 0, PORT_ST_PRESENT := e.synced, PORT_ST_ABSENT := e.PORT_ST_ABSENT && !e.synced, tries := 0, badRun := 0
    heldW := if e.synced then 0 else e.heldW }

/-- A port has answered: its slot closes, and the other ports stand. -/
theorem answered_facts (s : State) {p : Nat} (hp : p < 16) :
    portOf (s.answered p) p = (portOf s p).answered ∧ (∀ q, q ≠ p → portOf (s.answered p) q = portOf s q) ∧ (s.answered p).tre.slot = none ∧
      s.answered p = { s with tre := (s.answered p).tre } := by
  have hport (q : Nat) : portOf (s.answered p) q = portOf (s.portMod p TrePort.answered) q := rfl
  exact ⟨(hport p).trans (portOf_portMod _ hp), fun q hq => (hport q).trans (portOf_portMod_other _ _ hq), rfl, rfl⟩

section
variable {s : State} {f : KFrame}

/-- HELLO of a port. -/
theorem portHello (h : fromPort s f 3 = true) :
    ∃ t, exec (.treHello .dn f) s = .next t ∧
      portOf t (kPort f) =
        { portOf s (kPort f) with ver := some (lowerVer f), frames := if lowerVer f / 16 < 3 then [3, 1] else [3, 4, 1] } ∧
      (∀ q, q ≠ kPort f → portOf t q = portOf s q) ∧ t = { s with tre := t.tre } := by
  obtain ⟨-, -, htyp, -, hp, -⟩ := fromPort_iff h
  have hrun : exec (.treHello .dn f) s = .next (s.kReceived .dn f 3) := rfl
  rw [kReceived_fromPort h, portFrame_hello _ htyp] at hrun
  exact ⟨_, hrun, portMod_slotClosed s _ hp⟩

/-- SYNC of a port waits for its SYNC_ACK. -/
theorem portSync (h : fromPort s f 1 = true) (hopen : syncOpen s (portOf s (kPort f)).ackAt = true) (hnone : (portOf s (kPort f)).frames = []) :
    ∃ t, exec (.treSync .dn f) s = .next t ∧
      portOf t (kPort f) = { portOf s (kPort f) with ackFor := some f.payload.toNat, ackAt := some s.now, frames := [2] } ∧
      (∀ q, q ≠ kPort f → portOf t q = portOf s q) ∧ t = { s with tre := t.tre } := by
  obtain ⟨-, -, htyp, -, hp, -⟩ := fromPort_iff h
  have hrun : exec (.treSync .dn f) s = .next (s.kReceived .dn f 1) := rfl
  have hnow : (s.slotClosed (kPort f)).now = s.now := by rw [(slotClosed_facts s (kPort f)).2]
  have hopen' : syncOpen (s.slotClosed (kPort f)) (portOf s (kPort f)).ackAt = true := by
    rw [← hopen]
    unfold syncOpen State.after
    rw [hnow]
  rw [kReceived_fromPort h, portFrame_sync _ htyp, if_pos hopen', hnow] at hrun
  obtain ⟨hport, hothers, hframe⟩ := portMod_slotClosed s (fun e =>
    { e with ackFor := some f.payload.toNat, ackAt := some s.now, frames := if e.frames.contains 2 then e.frames else 2 :: e.frames }) hp
  exact ⟨_, hrun, by rw [hport, hnone]; rfl, hothers, hframe⟩

/-- SYNC_ACK of a port that the check confirms. -/
theorem portSynced {x : Nat} (h : fromPort s f 2 = true) (hchal : (portOf s (kPort f)).chal = some x)
    (hok : (portCheck s (kPort f) f (bytesLE 4 x)).2 = true) :
    ∃ t, exec (.treSyncAck .dn f) s = .next t ∧ (portOf t (kPort f)).synced = true ∧ (portOf t (kPort f)).chal = none ∧
      (portOf t (kPort f)).ctr = f.payload.toNat * 65536 + f.ctrLo.toNat ∧ (portOf t (kPort f)).PORT_ST_PRESENT = true ∧
      (portOf t (kPort f)).PORT_ST_MISSED = 0 ∧ t = { s with tre := t.tre, evt := t.evt, hdr := t.hdr } := by
  obtain ⟨-, -, htyp, -, hp, -⟩ := fromPort_iff h
  have hctr : (portCheck s (kPort f) f (bytesLE 4 x)).1 = f.payload.toNat * 65536 + f.ctrLo.toNat := if_pos htyp
  have hrun : exec (.treSyncAck .dn f) s = .next (s.kReceived .dn f 2) := rfl
  rw [kReceived_fromPort h, portFrame_syncAck _ htyp hchal, portCheck_slotClosed, if_pos hok, hctr] at hrun
  obtain ⟨hport, -, hframe⟩ := portMod_slotClosed s (fun e =>
    { e with chal := none, synced := true, ctr := f.payload.toNat * 65536 + f.ctrLo.toNat }) hp
  generalize (s.slotClosed (kPort f)).portMod (kPort f) (fun e =>
    { e with chal := none, synced := true, ctr := f.payload.toNat * 65536 + f.ctrLo.toNat }) = u at hrun hport hframe
  obtain ⟨hanswered, -, -, hrest⟩ := answered_facts u hp
  have hall : portOf ((u.answered (kPort f)).event 0x0E10 [kPort f]) (kPort f) =
      TrePort.answered { portOf s (kPort f) with chal := none, synced := true, ctr := f.payload.toNat * 65536 + f.ctrLo.toNat } := by
    rw [portOf_of_tre (s := u.answered (kPort f)) (by simp), hanswered, hport]
  refine ⟨_, hrun, by rw [hall]; rfl, by rw [hall]; rfl, by rw [hall]; rfl, by rw [hall]; rfl, by rw [hall]; rfl, ?_⟩
  have hall' : u.answered (kPort f) = { s with tre := (u.answered (kPort f)).tre } := by rw [hrest, hframe]
  rw [hall']
  simp [State.eq_of_pages]

/-- DEMAND of a port that the check confirms: the port is present. -/
theorem portDemand (h : fromPort s f 6 = true) (hsync : (portOf s (kPort f)).synced = true) (hok : (portCheck s (kPort f) f []).2 = true) :
    ∃ t, exec (.treDemand .dn f) s = .next t ∧ (portOf t (kPort f)).PORT_DEM = f.payload.toNat ∧
      (portOf t (kPort f)).ctr = (portCheck s (kPort f) f []).1 ∧ (portOf t (kPort f)).PORT_ST_PRESENT = true ∧
      (portOf t (kPort f)).PORT_ST_ABSENT = false ∧ (portOf t (kPort f)).PORT_ST_MISSED = 0 ∧ (portOf t (kPort f)).heldW = 0 ∧
      (∀ q, q ≠ kPort f → portOf t q = portOf s q) ∧ t.tre.slot = none ∧ t = { s with tre := t.tre } := by
  obtain ⟨-, -, htyp, -, hp, -⟩ := fromPort_iff h
  have hrun : exec (.treDemand .dn f) s = .next (s.kReceived .dn f 6) := rfl
  rw [kReceived_fromPort h, portFrame_demand _ htyp hsync, portCheck_slotClosed, if_pos hok] at hrun
  obtain ⟨hport, hothers, hframe⟩ := portMod_slotClosed s (fun e => { e with ctr := (portCheck s (kPort f) f []).1, PORT_DEM := f.payload.toNat }) hp
  generalize (s.slotClosed (kPort f)).portMod (kPort f) (fun e =>
    { e with ctr := (portCheck s (kPort f) f []).1, PORT_DEM := f.payload.toNat }) = u at hrun hport hothers hframe
  obtain ⟨hanswered, hothers', hslot, hrest⟩ := answered_facts u hp
  rw [hport] at hanswered
  refine ⟨_, hrun, by rw [hanswered]; rfl, by rw [hanswered]; rfl, by rw [hanswered]; exact hsync, ?_, by rw [hanswered]; rfl, ?_,
    fun q hq => (hothers' q hq).trans (hothers q hq), hslot, by rw [hrest, hframe]⟩
  · rw [hanswered]
    simp [TrePort.answered, hsync]
  · rw [hanswered]
    exact if_pos hsync

end

/-! ### Bad checks of a port (R405, R409, R411) -/

/-- A bad check of a port, the `run`th in a row and the last of `l` within a second. -/
def TrePort.bad (now run : Nat) (l : List Nat) (e : TrePort) : TrePort :=
  { e with
    badAt := l, badRun := run % 4
    frames := if run = 4 ∧ !e.frames.contains 1 then e.frames ++ [1] else e.frames
    muteAt := if decide (16 ≤ l.length) then some now else e.muteAt }

/-- A bad check of a port, counted. -/
def State.portBad (s : State) (p : Nat) : State :=
  (s.onTre fun t => { t with CNT_BAD := satAdd 16 t.CNT_BAD 1 }).portMod p
    (TrePort.bad s.now ((portOf s p).badRun + 1) (badList s (portOf s p).badAt))

theorem badCheck_port {s : State} {p : Nat} (hp : p < 16) :
    s.badCheck p =
      if decide (16 ≤ (badList s (portOf s p).badAt).length) then
        (((s.portBad p).badFlagged ((badList s (portOf s p).badAt).length ≤ 4) p).fault pgTre 19 0x0E14 [p]).portAbsent p
      else (s.portBad p).badFlagged ((badList s (portOf s p).badAt).length ≤ 4) p := by
  have hup : decide (p = 16) = false := decide_eq_false (by omega)
  unfold State.badCheck
  dsimp only
  rw [hup]
  rfl

/-- A port as it becomes absent: its budget is held (R409). -/
def TrePort.gone (now : Nat) (e : TrePort) : TrePort :=
  { e with PORT_ST_PRESENT := false, PORT_ST_ABSENT := true, heldW := e.PORT_BUD, heldAt := now, heldCut := false }

/-- What waits to leave, without a port. -/
def State.unqueued (s : State) (p : Nat) : State :=
  s.onTre fun t => { t with lowQ := t.lowQ.filter fun q => decide (q ≠ p), highQ := t.highQ.filter fun q => decide (q ≠ p) }

theorem portAbsent_eq {s : State} {p : Nat} (h : (portOf s p).PORT_ST_ABSENT = false) :
    s.portAbsent p = ((s.portMod p (TrePort.gone s.now)).unqueued p).fault pgTre 17 0x0E12 [p] := if_neg (by simp [h])

/-- A port that was not absent before. -/
theorem portAbsent_new {s : State} {p : Nat} (hp : p < 16) (h : (portOf s p).PORT_ST_ABSENT = false) :
    portOf (s.portAbsent p) p = (portOf s p).gone s.now ∧ (p ∉ (s.portAbsent p).tre.lowQ ∧ p ∉ (s.portAbsent p).tre.highQ) ∧
      ((s.portAbsent p).hasErr pgTre 17 ∧ ∀ q i, s.hasErr q i → (s.portAbsent p).hasErr q i) ∧
      s.portAbsent p = { s with tre := (s.portAbsent p).tre, evt := (s.portAbsent p).evt, hdr := (s.portAbsent p).hdr } := by
  rw [portAbsent_eq h]
  refine ⟨?_, ?_, ⟨hasErr_fault .., fun q i hi => hasErr_fault_keeps _ _ _ _ (hasErr_of_hdr hi rfl)⟩, ?_⟩
  · rw [portOf_of_tre (s := (s.portMod p (TrePort.gone s.now)).unqueued p) (by simp)]
    exact portOf_portMod _ hp
  · simp [State.unqueued, State.onTre]
  · simp [State.eq_of_pages, State.unqueued, State.onTre]

/-- A port becomes absent: its record but for what the absence writes stands. -/
theorem portAbsent_facts (s : State) {p : Nat} (hp : p < 16) :
    (portOf (s.portAbsent p) p).PORT_ST_ABSENT = true ∧ (portOf (s.portAbsent p) p).muteAt = (portOf s p).muteAt ∧
      (portOf (s.portAbsent p) p).PORT_DEM = (portOf s p).PORT_DEM ∧ (portOf (s.portAbsent p) p).ctr = (portOf s p).ctr ∧
      (s.portAbsent p).tre.CNT_BAD = s.tre.CNT_BAD ∧ ∀ q i, s.hasErr q i → (s.portAbsent p).hasErr q i := by
  cases habsent : (portOf s p).PORT_ST_ABSENT
  · obtain ⟨hport, -, herr, -⟩ := portAbsent_new hp habsent
    have hcount : (s.portAbsent p).tre.CNT_BAD = s.tre.CNT_BAD := by
      rw [portAbsent_eq habsent]
      simp [State.unqueued, State.onTre, State.portMod]
    rw [hport]
    exact ⟨rfl, rfl, rfl, rfl, hcount, herr.2⟩
  · have hsame : s.portAbsent p = s := if_pos habsent
    rw [hsame]
    exact ⟨habsent, rfl, rfl, rfl, rfl, fun _ _ hi => hi⟩

/-- A frame of a port that fails its check is counted and flagged; the sixteenth of a second mutes the port and makes it absent. -/
theorem badCheck_port_counts (s : State) {p : Nat} (hp : p < 16) :
    (s.badCheck p).tre.CNT_BAD = satAdd 16 s.tre.CNT_BAD 1 ∧ (portOf (s.badCheck p) p).PORT_DEM = (portOf s p).PORT_DEM ∧
      (portOf (s.badCheck p) p).ctr = (portOf s p).ctr ∧ (s.badCheck p).hasErr pgTre 18 ∧
      (15 ≤ (lastSecond s (portOf s p).badAt).length → (portOf (s.badCheck p) p).muteAt = some s.now ∧
        (portOf (s.badCheck p) p).PORT_ST_ABSENT = true ∧ (s.badCheck p).hasErr pgTre 19) := by
  have hflag (few : Prop) [Decidable few] : ((s.portBad p).badFlagged few p).hasErr pgTre 18 := hasErr_ite (hasErr_fault ..) (hasErr_setErr_self ..)
  have htre (few : Prop) [Decidable few] : ((s.portBad p).badFlagged few p).tre = (s.portBad p).tre := by
    unfold State.badFlagged
    split <;> simp
  have hport : portOf (s.portBad p) p = TrePort.bad s.now ((portOf s p).badRun + 1) (badList s (portOf s p).badAt) (portOf s p) :=
    portOf_portMod _ hp
  have hlen : (badList s (portOf s p).badAt).length = (lastSecond s (portOf s p).badAt).length + 1 := by simp [badList]
  rw [badCheck_port hp]
  by_cases hmany : 16 ≤ (badList s (portOf s p).badAt).length
  · rw [if_pos (by simpa using hmany)]
    generalize hu : ((s.portBad p).badFlagged ((badList s (portOf s p).badAt).length ≤ 4) p).fault pgTre 19 0x0E14 [p] = u
    have hutre : u.tre = (s.portBad p).tre := by rw [← hu]; simp [htre]
    obtain ⟨habsent, hmute, hdem, hctr, hbad, herr⟩ := portAbsent_facts u hp
    rw [portOf_of_tre hutre, hport] at hmute hdem hctr
    rw [hbad, hutre, hdem, hctr, hmute]
    refine ⟨rfl, rfl, rfl, herr _ _ (by rw [← hu]; exact hasErr_fault_keeps _ _ _ _ (hflag _)), fun _ => ⟨?_, habsent,
      herr _ _ (by rw [← hu]; exact hasErr_fault ..)⟩⟩
    exact if_pos (by simpa using hmany)
  · rw [if_neg (by simpa using hmany), portOf_of_tre (htre _), htre, hport]
    exact ⟨rfl, rfl, rfl, hflag _, fun h => absurd hmany (by omega)⟩

theorem badCheck_port_frame (s : State) {p : Nat} (hp : p < 16) :
    s.badCheck p = { s with tre := (s.badCheck p).tre, evt := (s.badCheck p).evt, hdr := (s.badCheck p).hdr } := by
  rw [badCheck_port hp]
  unfold State.badFlagged
  (repeat' split) <;> simp [State.eq_of_pages, State.portBad, State.onTre]

/-- DEMAND of a port that the check does not confirm. -/
theorem portDemand_refused {s : State} {f : KFrame} (h : fromPort s f 6 = true) (hsync : (portOf s (kPort f)).synced = true)
    (hbad : (portCheck s (kPort f) f []).2 = false) :
    ∃ t, exec (.treDemand .dn f) s = .next t ∧ t.tre.CNT_BAD = satAdd 16 s.tre.CNT_BAD 1 ∧
      (portOf t (kPort f)).PORT_DEM = (portOf s (kPort f)).PORT_DEM ∧ (portOf t (kPort f)).ctr = (portOf s (kPort f)).ctr ∧
      t.hdr[pgTre].err.testBit 18 = true ∧
      (15 ≤ (lastSecond s (portOf s (kPort f)).badAt).length → (portOf t (kPort f)).muteAt = some s.now ∧
        (portOf t (kPort f)).PORT_ST_ABSENT = true ∧ t.hdr[pgTre].err.testBit 19 = true) ∧
      t = { s with tre := t.tre, evt := t.evt, hdr := t.hdr } := by
  obtain ⟨-, -, htyp, -, hp, -⟩ := fromPort_iff h
  have hrun : exec (.treDemand .dn f) s = .next (s.kReceived .dn f 6) := rfl
  rw [kReceived_fromPort h, portFrame_demand _ htyp hsync, portCheck_slotClosed, if_neg (by simp [hbad])] at hrun
  obtain ⟨htre, hrest⟩ := slotClosed_facts s (kPort f)
  have hsame : portOf (s.slotClosed (kPort f)) (kPort f) = portOf s (kPort f) := portOf_slotClosed ..
  have hnow : (s.slotClosed (kPort f)).now = s.now := by rw [hrest]
  have hcount : (s.slotClosed (kPort f)).tre.CNT_BAD = s.tre.CNT_BAD := by rw [htre]
  have hlast : lastSecond (s.slotClosed (kPort f)) (portOf s (kPort f)).badAt = lastSecond s (portOf s (kPort f)).badAt := by
    unfold lastSecond
    rw [hnow]
  obtain ⟨hbadN, hdem, hctr, herr, hmute⟩ := badCheck_port_counts (s.slotClosed (kPort f)) hp
  rw [hsame] at hdem hctr hmute
  rw [hlast, hnow] at hmute
  rw [hcount] at hbadN
  refine ⟨_, hrun, hbadN, hdem, hctr, herr, hmute, (badCheck_port_frame _ hp).trans ?_⟩
  rw [hrest]

/-- A frame with the MAC of its own counter is confirmed (R404). -/
theorem portCheck_of_mac {s : State} {f : KFrame} {p c : Nat} (htyp : kType f ≠ 2) (hctr : kCounter (portOf s p).ctr f.ctrLo.toNat = c)
    (hmac : f.mac = BitVec.ofNat 128 (kMac s (linkIdDn s p) f.hdr.toNat f.payload.toNat c [])) : portCheck s p f [] = (c, true) := by
  unfold portCheck
  dsimp only
  rw [if_neg htyp, hctr, hmac, BitVec.toNat_ofNat, Nat.mod_eq_of_lt (kMac_lt ..), decide_eq_true rfl]

end Sys2Proof.Machine
end

section
namespace Sys2Proof.Proofs

open Sys2Proof Sys2Proof.Machine

/-- Settles O57: each frame of a port by what it is taken for (`portFrame_…`), and a bad check by its count and its mute. -/
theorem portsAreHeard : Obligations.PortsAreHeard := by
  unfold Obligations.PortsAreHeard
  intro s f p hp
  subst hp
  exact ⟨fun h => portHello h, fun h hopen hnone => portSync h hopen hnone, fun x h hchal hok => portSynced h hchal hok,
    fun h hsync => ⟨fun hok => portDemand h hsync hok, fun hbad => portDemand_refused h hsync hbad⟩⟩

/-- The reckoner with port 0 synchronised. -/
def portInSync : State := childReady.portMod 0 fun e => { e with ver := some 0x34, synced := true }

/-- DEMAND of port 0, of 90 W. -/
def firstDemand : KFrame :=
  { hdr := 0x6800#16, payload := 90#32, ctrLo := 1#16
    mac := BitVec.ofNat 128 (kMac portInSync (linkIdDn portInSync 0) (0x6800#16).toNat (90#32).toNat 1 []) }

/-- `portsAreHeard` applies: the DEMAND is kept, and the port is present. -/
theorem portInSync_demands :
    ∃ t, exec (.treDemand .dn firstDemand) portInSync = .next t ∧ (portOf t 0).PORT_DEM = 90 ∧ (portOf t 0).PORT_ST_PRESENT = true := by
  have hcheck : portCheck portInSync 0 firstDemand [] = (1, true) := portCheck_of_mac (by decide) rfl rfl
  obtain ⟨-, -, -, hdemand⟩ := portsAreHeard portInSync firstDemand 0 rfl
  obtain ⟨t, run, hdem, -, hpresent, -⟩ := (hdemand rfl rfl).1 (by rw [hcheck])
  exact ⟨t, run, hdem, hpresent⟩

end Sys2Proof.Proofs
end

section
/-! PROOFS. The parent's side of the Kazsin bus: its order of frames, slots, losses and mutes (R403 to R412). -/

namespace Sys2Proof.Machine

open Sys2Proof

/-! ### Frames that leave for a port (R404, R406) -/

/-- A frame has left on tre_dn (R402, R404). -/
def State.dnSent (s : State) (bytes : List Nat) : State := { s with aut.TR_TX := s.aut.TR_TX + 1, tre.lastDn := bytes }

/-- An authenticated frame for a port: its bytes carry the MAC under the key that this block keeps. -/
theorem sendDn_sent (s : State) (port : Nat) {typ : Nat} (pay : Nat) (chal : List Nat) (h : typ ≠ 1) : ∃ bytes,
    bytes = kBytes (kHdr typ 0 port) pay ((s.aut.TR_TX + 1) % 65536) (kMac s (linkIdDn s port) (kHdr typ 0 port) pay (s.aut.TR_TX + 1) chal) ∧
      s.sendDn port typ pay chal = s.dnSent bytes := by
  refine ⟨_, rfl, (if_neg h).trans ?_⟩
  rw [kMac_of_key (s := s) rfl]
  rfl

section
variable {s : State} (hact : treActive s = true) (hpins : trePins s = true) (hslot : s.tre.slot = none)
include hact hpins hslot

/-- The bus is this reckoner's, and no reply slot is open. -/
theorem exec_treePollSend :
    exec .treePollSend s = .next (
      match s.tre.cutQ, s.tre.lowQ, s.tre.highQ with
      | (ratio, q) :: l, _, _ => (s.onTre fun t => { t with cutQ := l }).sendDn 31 8 (ratio % 65536 + q % 256 * 65536) []
      | [], p :: _, _ => s.sendBudget p
      | [], [], p :: _ => s.sendBudget p
      | [], [], [] =>
        match firstBelow 16 fun p => !(portOf s p).frames.isEmpty with
        | some p => s.sendStart p ((portOf s p).frames.headD 1)
        | none =>
          match firstBelow 16 (pollDue s) with
          | some p => (s.sendDn p 5 ((portOf s p).PORT_ST_MISSED % 256) []).slotOpened p
          | none => s) := by
  exact congrArg Host.Outcome.next (if_neg (by simp [hact, hpins, hslot]))

/-- A CUT leaves before all else. -/
theorem pollSend_cut {ratio q : Nat} {l : List (Nat × Nat)} (hcut : s.tre.cutQ = (ratio, q) :: l) :
    ∃ t pay, exec .treePollSend s = .next t ∧ pay = ratio % 65536 + q % 256 * 65536 ∧ t.tre.cutQ = l ∧ t.aut.TR_TX = s.aut.TR_TX + 1 ∧
      t.tre.slot = none ∧
      t.tre.lastDn = kBytes (kHdr 8 0 31) pay ((s.aut.TR_TX + 1) % 65536) (kMac s (linkIdDn s 31) (kHdr 8 0 31) pay (s.aut.TR_TX + 1) []) ∧
      t = { s with tre := t.tre, aut := t.aut } := by
  obtain ⟨bytes, hbytes, hsent⟩ := sendDn_sent (s.onTre fun t => { t with cutQ := l }) 31 (ratio % 65536 + q % 256 * 65536) [] (typ := 8) (by decide)
  have hrun := exec_treePollSend hact hpins hslot
  rw [hcut] at hrun
  exact ⟨_, _, hrun.trans (congrArg Host.Outcome.next hsent), rfl, rfl, rfl, hslot, hbytes, rfl⟩

/-- A BUDGET leaves next, from the ports whose budget fell, then from those whose budget rose. -/
theorem exec_treePollSend_budget {p : Nat} {l : List Nat} (hcut : s.tre.cutQ = []) (hq : s.tre.lowQ = p :: l ∨ s.tre.lowQ = [] ∧ s.tre.highQ = p :: l) :
    exec .treePollSend s = .next (s.sendBudget p) := by
  have hrun := exec_treePollSend hact hpins hslot
  obtain hlow | ⟨hlow, hhigh⟩ := hq
  · rwa [hcut, hlow] at hrun
  · rwa [hcut, hlow, hhigh] at hrun

end

theorem portOf_slotOpened (s : State) {p : Nat} (hp : p < 16) : portOf (s.slotOpened p) p = { portOf s p with polledAt := some s.now } :=
  portOf_portMod (s := s) (fun e => { e with polledAt := some s.now }) hp

theorem portOf_slotOpened_other (s : State) {p q : Nat} (hq : q ≠ p) : portOf (s.slotOpened p) q = portOf s q :=
  portOf_portMod_other s (fun e => { e with polledAt := some s.now }) hq

/-- A frame that opens a reply slot leaves what waits. -/
theorem dnSent_slotOpened (s : State) (bytes : List Nat) (p : Nat) :
    ((s.dnSent bytes).slotOpened p).tre.slot = some p ∧ ((s.dnSent bytes).slotOpened p).aut.TR_TX = s.aut.TR_TX + 1 ∧
      ((s.dnSent bytes).slotOpened p).tre.lowQ = s.tre.lowQ ∧ ((s.dnSent bytes).slotOpened p).tre.highQ = s.tre.highQ ∧
      (s.dnSent bytes).slotOpened p =
        { s with tre := ((s.dnSent bytes).slotOpened p).tre, aut := ((s.dnSent bytes).slotOpened p).aut } := by
  simp [State.slotOpened, State.portMod, State.onTre, State.dnSent]

/-- A port whose BUDGET is on its way (R408). -/
def TrePort.told (w : Nat) (e : TrePort) : TrePort := { e with PORT_BUD := w, tries := e.tries + 1 }

/-- A BUDGET leaves for a port, and opens its reply slot (R408). -/
theorem sendBudget_eq (s : State) (p : Nat) :
    ∃ bytes, s.sendBudget p = ((s.portMod p (TrePort.told (portOf s p).want)).dnSent bytes).slotOpened p := by
  obtain ⟨bytes, -, hsent⟩ := sendDn_sent (s.portMod p (TrePort.told (portOf s p).want)) p (portOf s p).want [] (typ := 7) (by decide)
  exact ⟨bytes, congrArg (State.slotOpened · p) hsent⟩

/-- A BUDGET leaves: its port is told, and waited for. -/
theorem pollSend_budget {s : State} (hact : treActive s = true) (hpins : trePins s = true) (hslot : s.tre.slot = none) {p : Nat} {l : List Nat}
    (hcut : s.tre.cutQ = []) (hq : s.tre.lowQ = p :: l ∨ s.tre.lowQ = [] ∧ s.tre.highQ = p :: l) (hp : p < 16) :
    ∃ t, exec .treePollSend s = .next t ∧ (portOf t p).PORT_BUD = (portOf s p).want ∧ (portOf t p).tries = (portOf s p).tries + 1 ∧
      (portOf t p).polledAt = some s.now ∧ t.tre.slot = some p ∧ t.aut.TR_TX = s.aut.TR_TX + 1 ∧
      (∀ q, q ≠ p → portOf t q = portOf s q) ∧ t.tre.lowQ = s.tre.lowQ ∧ t.tre.highQ = s.tre.highQ ∧
      t = { s with tre := t.tre, aut := t.aut } := by
  obtain ⟨bytes, hbudget⟩ := sendBudget_eq s p
  have hrun := exec_treePollSend_budget hact hpins hslot hcut hq
  rw [hbudget] at hrun
  have hport : portOf ((s.portMod p (TrePort.told (portOf s p).want)).dnSent bytes) p = (portOf s p).told (portOf s p).want :=
    portOf_portMod _ hp
  obtain ⟨hslot', haut, hlow, hhigh, hframe⟩ := dnSent_slotOpened (s.portMod p (TrePort.told (portOf s p).want)) bytes p
  refine ⟨_, hrun, ?_, ?_, ?_, hslot', haut, fun q hq => ?_, hlow, hhigh, hframe⟩
  · rw [portOf_slotOpened _ hp, hport]
    rfl
  · rw [portOf_slotOpened _ hp, hport]
    rfl
  · rw [portOf_slotOpened _ hp]
    rfl
  · rw [portOf_slotOpened_other _ hq]
    exact portOf_portMod_other _ _ hq

theorem firstBelow_none {n : Nat} {f : Nat → Bool} (h : ∀ q, q < n → f q = false) : firstBelow n f = none :=
  List.find?_eq_none.mpr fun q hq => by simp [h q (List.mem_range.mp hq)]

theorem firstBelow_some {n p : Nat} {f : Nat → Bool} (hp : p < n) (hf : f p = true) (hleast : ∀ q, q < p → f q = false) : firstBelow n f = some p :=
  List.find?_range_eq_some.mpr ⟨hf, List.mem_range.mpr hp, fun q hq => by simp [hleast q hq]⟩

/-- A POLL leaves for the first port that is due. -/
theorem pollSend_poll {s : State} (hact : treActive s = true) (hpins : trePins s = true) (hslot : s.tre.slot = none) (p : Fin 16)
    (hcut : s.tre.cutQ = []) (hlow : s.tre.lowQ = []) (hhigh : s.tre.highQ = []) (hstart : ∀ q, q < 16 → (portOf s q).frames = [])
    (hdue : pollDue s p.val = true) (hleast : ∀ q, q < p.val → pollDue s q = false) :
    ∃ t, exec .treePollSend s = .next t ∧ (portOf t p.val).polledAt = some s.now ∧ t.tre.slot = some p.val ∧
      t.aut.TR_TX = s.aut.TR_TX + 1 ∧ (∀ q, q ≠ p.val → portOf t q = portOf s q) ∧ t = { s with tre := t.tre, aut := t.aut } := by
  have hrun := exec_treePollSend hact hpins hslot
  have hnone : firstBelow 16 (fun p => !(portOf s p).frames.isEmpty) = none := firstBelow_none fun q hq => by simp [hstart q hq]
  obtain ⟨bytes, -, hsent⟩ := sendDn_sent s p.val ((portOf s p.val).PORT_ST_MISSED % 256) [] (typ := 5) (by decide)
  rw [hcut, hlow, hhigh] at hrun
  dsimp only at hrun
  rw [hnone, firstBelow_some p.isLt hdue hleast] at hrun
  dsimp only at hrun
  rw [hsent] at hrun
  obtain ⟨hslot', haut, -, -, hframe⟩ := dnSent_slotOpened s bytes p.val
  refine ⟨_, hrun, ?_, hslot', haut, fun q hq => portOf_slotOpened_other (s.dnSent bytes) hq, hframe⟩
  rw [portOf_slotOpened _ p.isLt]
  rfl

/-! ### A slot that passes (R406, R409) -/

/-- A port that has not answered once more, and the slot that it let pass (R406). -/
def State.slotPassed (s : State) (p : Nat) : State :=
  (s.portMod p fun e => { e with PORT_ST_MISSED := satAdd 8 e.PORT_ST_MISSED 1 }).onTre fun t => { t with slot := none }

/-- Its BUDGET is not sent again after three attempts. -/
def State.triesEnded (s : State) (p : Nat) : State :=
  if 3 ≤ (portOf s p).tries then (s.portMod p fun e => { e with tries := 0 }).unqueued p else s

theorem portOf_triesEnded (s : State) {p : Nat} (hp : p < 16) : ∃ n, portOf (s.triesEnded p) p = { portOf s p with tries := n } := by
  unfold State.triesEnded
  split
  · exact ⟨0, portOf_portMod (s := s) (fun e => { e with tries := 0 }) hp⟩
  · exact ⟨(portOf s p).tries, rfl⟩

theorem triesEnded_rest (s : State) (p : Nat) :
    (s.triesEnded p).tre.slot = s.tre.slot ∧ s.triesEnded p = { s with tre := (s.triesEnded p).tre } := by
  unfold State.triesEnded
  split <;> exact ⟨rfl, rfl⟩

section
variable {s : State} (p : Fin 16) (hact : treActive s = true) (hslot : s.tre.slot = some p.val)
include hact hslot

/-- A slot passes without a reply. -/
theorem exec_treeNoReply : ∃ u, exec (.treeNoReply p) s =
      .next (if 3 ≤ satAdd 8 s.tre.port[p].PORT_ST_MISSED 1 then u.portAbsent p.val else u) ∧
    (∃ n, portOf u p.val = { s.tre.port[p] with PORT_ST_MISSED := satAdd 8 s.tre.port[p].PORT_ST_MISSED 1, tries := n }) ∧
    u.tre.slot = none ∧ u.now = s.now ∧ u = { s with tre := u.tre } := by
  have hport : portOf (s.slotPassed p.val) p.val = { s.tre.port[p] with PORT_ST_MISSED := satAdd 8 s.tre.port[p].PORT_ST_MISSED 1 } :=
    (portOf_portMod (s := s) (fun e => { e with PORT_ST_MISSED := satAdd 8 e.PORT_ST_MISSED 1 }) p.isLt).trans
      (congrArg (fun e : TrePort => { e with PORT_ST_MISSED := satAdd 8 e.PORT_ST_MISSED 1 }) (dif_pos p.isLt))
  have hrun : exec (.treeNoReply p) s = .next (
      if 3 ≤ (portOf (s.slotPassed p.val) p.val).PORT_ST_MISSED then ((s.slotPassed p.val).triesEnded p.val).portAbsent p.val
      else (s.slotPassed p.val).triesEnded p.val) :=
    congrArg Host.Outcome.next (if_pos (by simp [hact, hslot]))
  obtain ⟨n, hended⟩ := portOf_triesEnded (s.slotPassed p.val) p.isLt
  obtain ⟨hslot', hrest⟩ := triesEnded_rest (s.slotPassed p.val) p.val
  rw [hport] at hrun hended
  exact ⟨_, hrun, ⟨n, hended⟩, hslot', by rw [hrest]; rfl, by rw [hrest]; rfl⟩

/-- Fewer than three slots in a row have passed. -/
theorem noReply_counts (hfew : s.tre.port[p].PORT_ST_MISSED < 2) :
    ∃ t, exec (.treeNoReply p) s = .next t ∧ t.tre.slot = none ∧ t.tre.port[p].PORT_ST_MISSED = s.tre.port[p].PORT_ST_MISSED + 1 ∧
      t.tre.port[p].PORT_ST_ABSENT = s.tre.port[p].PORT_ST_ABSENT ∧ t = { s with tre := t.tre } := by
  obtain ⟨u, hrun, ⟨n, hport⟩, hslot', -, hrest⟩ := exec_treeNoReply p hact hslot
  have hcount : satAdd 8 s.tre.port[p].PORT_ST_MISSED 1 = s.tre.port[p].PORT_ST_MISSED + 1 := by
    unfold satAdd
    omega
  rw [hcount] at hrun hport
  rw [if_neg (by omega)] at hrun
  have hu : u.tre.port[p] = _ := (dif_pos p.isLt).symm.trans hport
  exact ⟨u, hrun, hslot', by rw [hu], by rw [hu], hrest⟩

/-- The third slot in a row makes the port absent, and its budget is held. -/
theorem noReply_absent (hmany : 2 ≤ s.tre.port[p].PORT_ST_MISSED) (hpresent : s.tre.port[p].PORT_ST_ABSENT = false) :
    ∃ t, exec (.treeNoReply p) s = .next t ∧ t.tre.slot = none ∧ t.tre.port[p].PORT_ST_ABSENT = true ∧
      t.tre.port[p].PORT_ST_PRESENT = false ∧ t.tre.port[p].heldW = s.tre.port[p].PORT_BUD ∧ t.tre.port[p].heldAt = s.now ∧
      p.val ∉ t.tre.lowQ ∧ p.val ∉ t.tre.highQ ∧ t.hdr[pgTre].err.testBit 17 = true ∧
      t = { s with tre := t.tre, evt := t.evt, hdr := t.hdr } := by
  obtain ⟨u, hrun, ⟨n, hport⟩, hslot', hnow, hrest⟩ := exec_treeNoReply p hact hslot
  have hcount : 3 ≤ satAdd 8 s.tre.port[p].PORT_ST_MISSED 1 := by
    unfold satAdd
    omega
  rw [if_pos hcount] at hrun
  have hnew : (portOf u p.val).PORT_ST_ABSENT = false := by rw [hport]; exact hpresent
  obtain ⟨hgone, ⟨hlow, hhigh⟩, ⟨herr, -⟩, hframe⟩ := portAbsent_new p.isLt hnew
  have hslotT : (u.portAbsent p.val).tre.slot = none := by
    rw [portAbsent_eq hnew]
    simpa [State.unqueued, State.onTre, State.portMod] using hslot'
  have ht : (u.portAbsent p.val).tre.port[p] = _ := (dif_pos p.isLt).symm.trans (hgone.trans (by rw [hport, hnow]))
  refine ⟨_, hrun, hslotT, by rw [ht]; rfl, by rw [ht]; rfl, by rw [ht]; rfl, by rw [ht]; rfl, hlow, hhigh, herr, ?_⟩
  generalize u.portAbsent p.val = t at hframe ⊢
  exact hframe.trans (by rw [hrest])

end

/-! ### Losses, mutes and failures (R403, R409, R411, R412) -/

section
variable {s : State}

/-- A parent that is silent for 8 × POLL is lost. -/
theorem parent_falls_silent {a : Nat} (hrx : s.tre.rxAt = some a) (hstrap : s.cmn.straps.treEn = true)
    (hdue : s.after a (320 * s.tre.CFG_POLL) = true) (hlost : s.tre.lost = false) :
    ∃ t, exec .parentLost s = .next t ∧ t.tre.lost = true ∧ t.tre.PARENT_BUD = s.tre.ISO ∧ t.tre.pend = none ∧
      t.hdr[pgTre].err.testBit 16 = true ∧
      t = { s with adm := t.adm, frm := t.frm, tre := t.tre, mbs := t.mbs, mbn := t.mbn, rck := t.rck, evt := t.evt, hdr := t.hdr } := by
  have hrun : exec .parentLost s = .next (s.loseParent 2) := by
    change execParentLost s = _
    rw [execParentLost, hrx]
    exact congrArg Host.Outcome.next (if_pos (by rw [hstrap, hdue]; rfl))
  obtain ⟨hstem, herr⟩ := loseParent_loses 2 hlost
  exact ⟨_, hrun, (congrArg Tre.lost hstem :), (congrArg Tre.PARENT_BUD hstem :), (congrArg Tre.pend hstem :), herr, by simp [State.eq_of_pages]⟩

/-- After HOLD only FLOOR stays held for an absent port. -/
theorem hold_expires (p : Fin 16) (habsent : s.tre.port[p].PORT_ST_ABSENT = true) (hcut : s.tre.port[p].heldCut = false)
    (hdue : s.after s.tre.port[p].heldAt (s.tre.CFG_HOLD * ticksPerMs) = true) :
    exec (.portHoldExpiry p) s = .next (s.portMod p.val fun e => { e with heldW := min e.heldW (10 * e.PORT_FLOOR), heldCut := true }) := by
  have hport : portOf s p.val = s.tre.port[p] := dif_pos p.isLt
  exact congrArg Host.Outcome.next (if_pos (by rw [hport, habsent, hcut, hdue]; rfl))

/-- The mute of the parent ends. -/
theorem parent_unmuted {a : Nat} (hmute : s.tre.muteAt = some a) (hdue : s.after a (10 * ticksPerS) = true) :
    ∃ t, exec (.treMuteEnd 16) s = .next t ∧ t.tre = { s.tre with muteAt := none, badAt := [], badRun := 0 } ∧
      t = { s with tre := t.tre, evt := t.evt, hdr := t.hdr } := by
  have hrun : exec (.treMuteEnd 16) s = .next ((s.onTre fun t => { t with muteAt := none, badAt := [], badRun := 0 }).event 0x0E15 [16]) := by
    change execTreMuteEnd 16 s = _
    rw [execTreMuteEnd, if_pos (show (16 : Fin 17).val = 16 from rfl), hmute]
    exact congrArg Host.Outcome.next (if_pos hdue)
  exact ⟨_, hrun, by simp [State.onTre], by simp [State.eq_of_pages, State.onTre]⟩

/-- The mute of a port ends. -/
theorem port_unmuted (p : Fin 16) {a : Nat} (hmute : s.tre.port[p].muteAt = some a) (hdue : s.after a (10 * ticksPerS) = true) :
    ∃ t, exec (.treMuteEnd ⟨p.val, by omega⟩) s = .next t ∧
      t.tre = { s.tre with port := s.tre.port.set p { s.tre.port[p] with muteAt := none, badAt := [], badRun := 0 } } ∧
      t = { s with tre := t.tre, evt := t.evt, hdr := t.hdr } := by
  have hrun : exec (.treMuteEnd ⟨p.val, by omega⟩) s =
      .next ((s.portMod p.val fun e => { e with muteAt := none, badAt := [], badRun := 0 }).event 0x0E15 [p.val]) := by
    have hport : (portOf s p.val).muteAt = some a := (congrArg TrePort.muteAt (dif_pos p.isLt)).trans hmute
    change execTreMuteEnd ⟨p.val, by omega⟩ s = _
    rw [execTreMuteEnd, if_neg (by simp only; omega)]
    dsimp only
    rw [hport]
    exact congrArg Host.Outcome.next (if_pos hdue)
  refine ⟨_, hrun, ?_, by simp [State.eq_of_pages]⟩
  simp [State.portMod, vMod_fin]

/-- A link that has failed is no longer live. -/
theorem link_fails (hlive : treLive s = true) :
    ∃ t, exec .treLinkFailed s = .next t ∧ t.tre = { s.tre with failed := true } ∧ t.hdr[pgTre].err.testBit 21 = true ∧
      treLive t = false ∧ t = { s with tre := t.tre, hdr := t.hdr } := by
  refine ⟨_, congrArg Host.Outcome.next (if_pos hlive), by simp [State.onTre], hasErr_setErr_self .., ?_, by simp [State.eq_of_pages, State.onTre]⟩
  simp [treLive, State.onTre]

/-- A frame that fails its CRC is counted. -/
theorem crc_counted (bus : TreBus) (hlive : treLive s = true) (hpins : trePins s = true) :
    exec (.treCrcErr bus) s = .next { s with tre := { s.tre with CNT_CRC_ERR := satAdd 16 s.tre.CNT_CRC_ERR 1 } } :=
  congrArg Host.Outcome.next (if_pos (by rw [hlive, hpins]; rfl))

end

end Sys2Proof.Machine
end

section
namespace Sys2Proof.Proofs

open Sys2Proof Sys2Proof.Machine

/-- Settles O58: the bus takes what waits in its order, lowest port first, and each timer by its effect (log entry 50). -/
theorem treeBusRuns : Obligations.TreeBusRuns := by
  unfold Obligations.TreeBusRuns
  intro s
  refine ⟨fun hact hpins hslot => ⟨fun ratio q l hcut => pollSend_cut hact hpins hslot hcut,
      fun p l hcut hq hp => pollSend_budget hact hpins hslot hcut hq hp,
      fun p hcut hlow hhigh hstart hdue hleast => pollSend_poll hact hpins hslot p hcut hlow hhigh hstart hdue hleast⟩,
    fun p hact hslot => ⟨fun hfew => noReply_counts p hact hslot hfew, fun hmany hpresent => noReply_absent p hact hslot hmany hpresent⟩,
    fun a hrx hstrap hdue hlost => parent_falls_silent hrx hstrap hdue hlost, fun p habsent hcut hdue => hold_expires p habsent hcut hdue,
    fun a hmute hdue => parent_unmuted hmute hdue, fun p a hmute hdue => port_unmuted p hmute hdue, link_fails,
    fun bus hlive hpins => crc_counted bus hlive hpins⟩

/-- `treeBusRuns` applies: the reckoner's first frame is the POLL of port 0. -/
theorem childReady_polls : ∃ t, exec .treePollSend childReady = .next t ∧ t.tre.slot = some 0 := by
  obtain ⟨hbus, -⟩ := treeBusRuns childReady
  obtain ⟨-, -, hpoll⟩ := hbus rfl rfl rfl
  obtain ⟨t, run, -, hslot, -⟩ := hpoll 0 rfl rfl rfl (by decide) rfl (by decide)
  exact ⟨t, run, hslot⟩

end Sys2Proof.Proofs
end
